-- ==== Sys2Proof/Word.lean ====
section
/-! DEFINITION. The word types of the ETS-2048 and their plainest arithmetic. -/

namespace Sys2Proof

/-- One byte of a frame, a record or a memory. -/
abbrev Byte := BitVec 8

/-- One 32-bit register word (R381). -/
abbrev Word := BitVec 32

/-- Nanoseconds in one second (R8). -/
abbrev nsPerSec : Nat := 1000000000

end Sys2Proof
end

