-- ==== Sys2Proof/Syntax.lean ====
section
/-! DEFINITION. The commands of the block: one constructor of `Instr` for each row of spec/opcode_table.json.
The table gives the rows no fields, so the operands are the model's: the part a command concerns (slice, port, logical port,
register page ...) and what the outside world decides (bytes received, results of checks the hardware's surroundings settle). -/

namespace Sys2Proof

abbrev Slice := Fin 8
abbrev Port := Fin 256
/-- A logical port: physical port × 4 + sub-port (R3). -/
abbrev LPort := Fin 1024
abbrev Engine := Fin 32
/-- An engine lane (R26). -/
abbrev Lane := Fin 32
abbrev Stack := Fin 8
abbrev Cls := Fin 8
abbrev Plane := Fin 4
abbrev Cluster := Fin 2
abbrev Pair := Fin 4
abbrev TB := Fin 4
abbrev Island := Fin 54
abbrev Ring := Fin 37
abbrev Group := Fin 32

/-- Who makes a register access (R364, R406): the host over PCIe, a core pair of a cluster's firmware, or the debug probe. -/
inductive Who where
  | host
  | fw (cluster : Cluster) (pair : Pair)
  | debug
  deriving DecidableEq, Repr

/-- How a frame's reception ended (R68): the marks the PCS, the FEC and the 802.3br receiver set while it arrived. The FCS and the
size are the frame's own. -/
structure RxEnd where
  /-- an uncorrectable codeword fell inside the frame -/
  fec : Bool
  /-- an error control character, or the ingress sub-port left UP -/
  code : Bool
  /-- an 802.3br reassembly failed -/
  reasm : Bool
  /-- a start delimiter, the frame's own (R63) or one of 802.3br, was unknown or out of place -/
  smd : Bool
  /-- fragments the frame arrived in (1 for an unfragmented frame) -/
  fragments : Nat
  deriving DecidableEq, Repr

/-- Where a frame comes in on a logical port: its MAC, its express MAC while a preemptable frame is in fragments (R73), or a FlexE client
(R241). -/
inductive RxSrc where
  | mac
  | express
  | client (n : Fin 4096)
  deriving DecidableEq, Repr

/-- Number of a source of frames. -/
def RxSrc.code : RxSrc → Nat
  | .mac => 0
  | .express => 1
  | .client n => n.val + 2

/-- One sample of a lane's source by engine microcode (R45, R57). -/
structure LaserSample where
  /-- bias current in 0.05 mA -/
  bias : BitVec 12
  /-- beginning-of-life bias of the source at the present temperature, same unit -/
  bol : BitVec 12
  /-- the source comes within 1 dB of its target power at maximum bias -/
  reaches : Bool
  txPwr : BitVec 12
  rxPwr : BitVec 12
  deriving DecidableEq, Repr

/-- A FlexE overhead frame on one member, received or sent (R233, R236, R243, R246). `crcGood` stands for its CRC-16. -/
structure OhFrame where
  crcGood : Bool
  rpf : Bool
  cr : Bool
  ca : Bool
  /-- calendar in use: false A, true B -/
  calInUse : Bool
  groupNum : BitVec 20
  phyNum : BitVec 8
  /-- the PHY map: the set of PHY numbers of the sending group -/
  phyMap : List Nat
  /-- slots of calendars A and B carried by this frame: (calendar, entry, wire ID of the client, or the code of an unused slot, 0, or of an
  unavailable one, 0xFFFF) -/
  entries : List (Bool × Fin 640 × BitVec 16)
  /-- last overhead frame of a multiframe that announced the calendar not in use whole -/
  lastOfMultiframe : Bool
  /-- what the section management channel carries: none is idle (R233) -/
  smc : Option (BitVec 64)
  deriving DecidableEq, Repr

/-- How a pack-mode unit or train ended on receive (R250, R259). -/
inductive UnitErr where
  | none
  /-- none, and the train ends after the unit (R248) -/
  | last
  /-- an uncorrectable codeword inside the body -/
  | bodyFec
  /-- an error control character inside the body -/
  | bodyCode
  /-- either of them inside the pack header -/
  | header
  /-- the train ended inside the unit -/
  | trainEnd
  /-- the peer removed the client mid-unit (R246) -/
  | cut
  deriving DecidableEq, Repr

/-- What the scrubber finds when it reads an entry (R139, R140). -/
inductive ScrubFind where
  | clean
  | corrected
  /-- uncorrectable; bit s: copy s is bad too -/
  | uncorrectable (bad : BitVec 8)
  /-- the parity of the entry's hit bit is bad -/
  | parity
  deriving DecidableEq, Repr

/-- The tables the scrubber walks (R109, R139): the TABLE codes of R142 and the tables of chapter 04. `group` is the member map of a
group in one slice, `mask` its replicated slice mask. -/
inductive ScrubTable where
  | lport | vxlt | bd | mac | group | mask | member | route | mirror
  | rule | template | selector | defAct | meter
  deriving DecidableEq, Repr

/-- The boundary-scan instructions of R409. -/
inductive TapInstr where
  | bypass | sample | preload | extest | idcode | clamp | highz
  deriving DecidableEq, Repr

/-- What resets the PCI Express core (R383). -/
inductive PcieResetKind where
  | perstN | hotReset | linkDown
  deriving DecidableEq, Repr

/-- Which supply or pin raises POWER_FAIL (R467). -/
inductive PowerFailCause where
  | pin | vin12 | vsb33
  deriving DecidableEq, Repr

/-- What an access to a register page asks for. -/
inductive Access where
  | read
  | write (v : Word)
  deriving DecidableEq, Repr

/-- A command of the block: one constructor per row of spec/opcode_table.json, in the table's order. An operand with a default names the
plain case when it is left out: the logical port's own MAC, no correction reported, a prefix in step, a copy that verified. -/
inductive Instr where
  -- frames and MAC
  | frameReceiveStart (lp : LPort) (bytes : List Byte) (src : RxSrc := .mac)
  | ruleLookup (lp : LPort) (src : RxSrc := .mac)
  | frameReceiveEnd (lp : LPort) (e : RxEnd) (src : RxSrc := .mac)
  | macControlReceive (lp : LPort) (bytes : List Byte)
  | pauseExpire (lp : LPort) (c : Cls)
  | pfcRefresh (lp : LPort) (c : Cls)
  | pauseWatchdogExpire (lp : LPort) (c : Cls)
  | pauseRecoveryEnd (lp : LPort) (c : Cls)
  | verifyTimer (lp : LPort)
  | verifyRespondReceive (lp : LPort)
  | verifyReceive (lp : LPort)
  | parkedFrameReceive (lp : LPort) (bytes : List Byte)
  | lightAppear (lp : LPort)
  -- crossbar
  | cellIdleClose (s : Slice) (q : Fin 2112)
  | matchingRound
  | cellArrival (d : Slice) (crcGood : Bool)
  | reseqTimeout (d : Slice) (src : Slice) (dest : Fin 264) (c : Cls)
  | voqStall (s : Slice) (q : Fin 2112)
  | planeTrainingLoss (p : Plane)
  | planeRemove (p : Plane)
  | planeReturn (p : Plane)
  | planeReturnDone (p : Plane) (ok : Bool)
  -- scheduling and transmission
  | portTreeDecision (p : Port)
  | transmitSelect (lp : LPort)
  | transmitEnd (lp : LPort)
  | ctUnderrun (lp : LPort)
  | bobbinIdleWrite (s : Slice) (q : Fin 16384)
  | bobbinReadback (s : Slice) (q : Fin 16384)
  -- optics
  | uncorrectableCodeword (lp : LPort)
  | serWindowRestart (lp : LPort) (codewords symbols : Nat := 0)
  | pitchBiasDone (lp : LPort)
  | pitchBiasTimeout (lp : LPort)
  | pitchEqualiseDone (lp : LPort)
  | pitchEqualiseTimeout (lp : LPort)
  | lossOfLight (lp : LPort)
  | pitchFecLockDone (lp : LPort)
  | pitchFecLockTimeout (lp : LPort)
  | pitchAmLockDone (lp : LPort)
  | pitchAmLockTimeout (lp : LPort)
  | alignmentLockLoss (lp : LPort)
  | backoffEnd (lp : LPort)
  | holdTimerExpire (lp : LPort)
  | parkApply (p : Port)
  | laserSample (e : Engine) (l : Lane) (x : LaserSample)
  | sparePowerReady (e : Engine) (l : Lane)
  | spareSwitchComplete (e : Engine) (l : Lane)
  | wearRecordWrite (e : Engine)
  | eyeLimitTrip (e : Engine) (l : Lane)
  | laneClearTrip (e : Engine) (l : Lane)
  | laneApproveSwitch (e : Engine) (l : Lane)
  | laneSwitchNow (e : Engine) (l : Lane)
  | calInterpolate (e : Engine) (temp : BitVec 8)
  -- counters
  | counterHarvest (p : Port)
  | counterLowRead (page : Fin 16384) (off : Fin 4096)
  -- rules, templates, meters
  | ruleWrite (s : Slice) (w : Who) (idx : Fin 16384) (ver : Fin 4)
  | ruleRead (s : Slice) (w : Who) (idx : Fin 16384)
  | ruleInvalidate (s : Slice) (w : Who) (idx : Fin 16384)
  | templateWrite (s : Slice) (idx : Fin 64)
  | templateRead (s : Slice) (idx : Fin 64)
  | meterWrite (s : Slice) (idx : Fin 32768)
  | meterRead (s : Slice) (idx : Fin 32768)
  | meterRefill (s : Slice) (idx : Fin 32768)
  | scrubStep (s : Slice) (t : ScrubTable) (idx : Fin 1048576) (f : ScrubFind)
  -- tables
  | learnRequestArrive (s : Slice)
  | sequencerAccept
  | copyApply (s : Slice)
  | pendingFilterExpire (s : Slice)
  | ageSweepSlot
  | memberAgeSweep (s : Slice)
  | tableEntryWrite (w : Who) (table : Fin 16) (idx : Fin 1048576)
  | tableEntryRead (w : Who) (table : Fin 16) (idx : Fin 1048576)
  | tableEntryDelete (w : Who) (table : Fin 16) (idx : Fin 1048576)
  | macInsert (w : Who)
  | macDelete (w : Who)
  | macFlush (w : Who)
  | macFlushDone
  | readBySlot (w : Who) (table : Fin 16) (idx : Fin 1048576)
  | memberJoin (w : Who)
  | memberLeave (w : Who)
  | routeInsert (w : Who)
  | routeDelete (w : Who)
  | routeLongestMatch (w : Who)
  | hashSeedWrite (n : Fin 2) (v : Word)
  -- queues, stacks, audit
  | queueConfigWrite (s : Slice) (idx : Fin 32768)
  | queueConfigRead (s : Slice) (idx : Fin 32768)
  | stackRefreshDouble (d : Stack)
  | stackRefreshNormal (d : Stack)
  | derateRecompute
  | stackFault (d : Stack)
  | stackRemove (d : Stack)
  | stackReturn (d : Stack)
  | stackSelftestDone (d : Stack) (ok : Bool)
  | auditLatch
  | auditCheck
  -- scheduler tables and gates
  | schedEntryWrite (s : Slice) (table : Fin 16) (idx : Fin 32768)
  | schedEntryRead (s : Slice) (table : Fin 16) (idx : Fin 32768)
  | gateCommit (s : Slice) (k : Fin 32)
  | gateCommitCopyDone (s : Slice) (k : Fin 32)
  | gateListChange (p : Port)
  | gateEntryAdvance (p : Port)
  | sampleReadClear (s : Slice) (idx : Fin 32768)
  | queueSample (s : Slice) (idx : Fin 17408)
  -- FlexE
  | flexeOhFrameReceive (g : Group) (i : Fin 8) (oh : OhFrame)
  | flexeOhFrameSend (g : Group)
  | flexeOhLockDone (g : Group)
  | flexeOhLockTimeout (g : Group)
  | flexeMapCheckDone (g : Group)
  | flexeMapCheckTimeout (g : Group)
  | flexeDeskewDone (g : Group) (skewNs : BitVec 14)
  | flexeDeskewTimeout (g : Group)
  | calSwitchRequest (g : Group) (w : Who)
  | calSwitchAbandon (g : Group) (w : Who)
  | calSwitchTimeout (g : Group)
  | clientWrite (w : Who) (n : Fin 4096)
  | clientRead (w : Who) (n : Fin 4096)
  -- pack mode and folding
  | packUnitReceive (lp : LPort) (first : Bool) (unit : List Byte) (e : UnitErr) (src : RxSrc := .mac)
  | foldCommit (w : Who) (s : Slice) (t : Fin 4)
  | foldCommitApply (s : Slice) (t : Fin 4)
  | foldCleaningDone (s : Slice) (t : Fin 4)
  | foldDiscardPending (w : Who) (s : Slice) (t : Fin 4)
  | foldArm (w : Who) (s : Slice) (t : Fin 4)
  | foldDisarm (w : Who) (s : Slice) (t : Fin 4)
  | foldPromotionDone (s : Slice) (t : Fin 4)
  | foldResume (w : Who) (s : Slice) (t : Fin 4)
  | foldRestart (w : Who) (s : Slice) (t : Fin 4) (gen : Byte)
  | foldRestartDone (s : Slice) (t : Fin 4)
  | foldEntryWrite (w : Who) (s : Slice) (t : Fin 4) (tx : Bool) (tag : BitVec 16)
  | foldEntryRead (w : Who) (s : Slice) (t : Fin 4) (tx : Bool) (tag : BitVec 16)
  | foldEntryRemove (w : Who) (s : Slice) (t : Fin 4) (tx : Bool) (tag : BitVec 16)
  | packCntSel (s : Slice) (q : Fin 128)
  -- fabric
  -- `first`: the prefix is in the first data block after an alignment-marker group (R270)
  | linkPrefixReceive (p : Port) (pfx : List Byte) (first : Bool := false)
  | linkCellReceive (p : Port) (lseq : BitVec 12) (cell : List Byte) (fecBad : Bool)
  | helloReceive (p : Port) (bytes : List Byte)
  | latchPrefixReceive (p : Port) (pfx : List Byte) (first : Bool := false)
  | linkUnitSlot (p : Port)
  | helloSend (p : Port)
  | helloDeadInterval (p : Port)
  | retryTimerExpire (p : Port)
  | holddownExpire (p : Port)
  | fabricCellDeliver (s : Slice)
  | fabReseqTimeout (s : Slice) (srcDev : BitVec 12) (srcSlice : Slice) (port : BitVec 8) (c : Cls)
  | gapNoticeReceive (s : Slice)
  | lostItemExpire (s : Slice)
  | streamEntryIdle (s : Slice) (srcDev : BitVec 12) (srcSlice : Slice) (port : BitVec 8) (c : Cls)
  | linkCntSel (s : Slice) (k : Fin 32)
  | linkGroupWrite (w : Who) (idx : Fin 4096)
  | linkGroupRead (w : Who) (idx : Fin 4096)
  | neighborRead (p : Port)
  | pathMaxReset
  -- time
  | dtTrim (i : Island) (skew : BitVec 8) (freq : BitVec 24)
  | clkUnlock (i : Island)
  | dtSourceLost
  | dtSourceReturn
  | dtSet
  | dtLatchRead
  | tbLatchRead (n : TB)
  | tbOffsetWrite (w : Who) (n : TB) (ch : Fin 2) (o : Word)
  | tbStep (w : Who) (n : TB)
  | tbSwitchChannel (w : Who) (n : TB)
  | tbHoldover (w : Who) (n : TB)
  | tbResetServo (w : Who) (n : TB)
  | tbChannelTimeout (n : TB) (ch : Fin 2)
  | ppsOutEdge
  | ppsOutPulseEnd
  | ppsInEdge
  | ppsInTimeout
  | frefAbsent
  | frefPresent
  | todTxWrite (w : Who) (b : Byte)
  | todTxSend
  | todRxByte (b : Byte)
  | todRxRead (w : Who)
  | arrSel (p : Port)
  | arrivalWakeWindowClose (p : Port)
  -- loom
  | loomPeriodStart (i : Fin 19)
  | loomSlotAward (i : Fin 19) (requests : BitVec 8)
  | emergencyTake (i : Fin 19)
  -- clusters
  | lockstepMismatch (c : Cluster) (pair : Pair)
  | sramEccError (c : Cluster) (uncorrectable : Bool)
  | clusterSelftestDone (c : Cluster) (ok : Bool)
  | clusterLoadDone (c : Cluster) (ok : Bool)
  | leaseRenew (c : Cluster) (epoch : BitVec 16)
  | leaseClaim (c : Cluster)
  | leaseRelease (c : Cluster) (epoch : BitVec 16)
  | leaseReady (c : Cluster) (epoch : BitVec 16)
  | leaseExpire
  | leaseGuardEnd
  | leaseRevoke
  | leaseSetNext (next : Fin 4)
  | ckptCmd (c : Cluster)
  | ckptMark (c : Cluster) (page : BitVec 18) (set : Bool)
  | ckptCommit
  | ckptStale
  | checkpointRestoreDone
  | swapDue
  | swapWindowExpire
  -- twin mode
  | twinFrameReceive (bytes : List Byte)
  | twinStatusSend
  | twinRenewSend
  | twinExpiry
  | twinStandbyTakeover
  | twinLinkLost
  | twinListenEnd
  | twinHandOver
  | twinReleaseGuardEnd
  | twinHoldInChange (level : Bool)
  | twinHoldSample
  | twinHoldRelease
  -- injection, pool, mailboxes
  | injectPost (c : Cluster) (pair : Pair) (w3 : Word)
  | injectSend (pair : Pair)
  | laserReq (c : Cluster) (e : Engine) (l : Lane) (ceil : BitVec 12) (all : Bool)
  | pmAllocate (w : Who) (req : Fin 16) (size : BitVec 14)
  | pmFree (w : Who) (req : Fin 16) (handle : Word)
  | puntToCluster (s : Slice)
  | mbToFwPost (handle : Word)
  | mbToFwRead (c : Cluster) (pair : Pair)
  | mbToHostPost (c : Cluster) (handle : Word)
  | mbToHostRead
  -- host interface
  | busErrorAccess (page : Fin 16384) (off : Fin 4096) (bar2 : Bool) (badSize : Bool) (a : Access)
  | darkPageAccess (page : Fin 16384) (off : Fin 4096) (a : Access)
  | bar2Write (addr : Fin 67108864) (bytes : List Byte)
  | pcieReset (k : PcieResetKind)
  | pcieLinkUp (width : Fin 16) (speed : Fin 8)
  | busMasterEnable
  | msixVectorUnmask (v : Fin 256)
  | registerWrite (w : Who) (page : Fin 16384) (off : Fin 4096) (v : Word)
  | pageApply (page : Fin 16384)
  | pageHoldSet (page : Fin 16384)
  | pageHoldRelease (page : Fin 16384)
  | pageHoldDiscard (page : Fin 16384)
  | guardValueWrite (w : Who) (page : Fin 16384) (off : Fin 4096) (v : Word)
  | guardComplementWrite (w : Who) (page : Fin 16384) (off : Fin 4096) (v : Word)
  | guardLapse (page : Fin 16384)
  -- `cell` and `frame`: for a buffer error of an SLCE page, the cell and the number of the frame that holds it (R435)
  | eventAssert (page : Fin 16384) (src : Fin 32) (cell : Fin 262144 := 0) (frame : Nat := 0)
  | evtClear (w : Who) (page : Fin 16384) (src : Fin 32) (seq : Byte)
  -- rings and FIFOs
  | ringEnable (r : Ring)
  | ringDisable (r : Ring)
  | hostIdxWrite (r : Ring) (v : Word)
  | injectRingFetch (r : Fin 16) (desc : List Byte) (frame : List Byte)
  | puntRingDeliver (r : Fin 16) (desc : List Byte)
  | dmaReadError (r : Ring)
  | ringRecordWrite (r : Ring)
  | ringCoalTimer (r : Ring)
  | notifyFifoEnqueue (f : Fin 5) (item : List Byte)
  | evtWinRead
  | evtWinReadReturn
  -- performance counters
  | perfFreeze (i : Island)
  | perfRelease (i : Island)
  | perfZero (i : Island)
  | perfDump (i : Island)
  -- debug
  | dbgChallenge
  | dbgResponse (rights : BitVec 3) (key sig : List Byte)
  | dbgAccess (page : Fin 16384) (off : Fin 4096) (a : Access)
  | dbgClose
  | debugIdleTimeout
  | debugLockoutEnd
  | debugAllowWrite (v : Word)
  | tapReset
  -- rails, temperatures, resets
  | railBreak (page : Fin 16384) (src : Fin 32)
  | railRestore
  | thermThresholdCross (i : Island) (temp : BitVec 8)
  | coldResetCmd (w : Who)
  | warmResetCmd (w : Who)
  | blockResetCmd (w : Who) (target : Fin 64)
  | clusterResetCmd (w : Who) (target : Fin 64)
  | releaseIsolated (w : Who) (target : Fin 64)
  | blockResetReady (i : Island)
  | sliceReloadDone (s : Slice)
  | guyWindowEnd (i : Island)
  | recordClrFatal
  | recordClrLast
  | slowCopyRefresh
  -- boot and power
  | standbyPowerUp
  | nvMountDone (lost : List (BitVec 32))
  | mainPowerUp
  | railsInRegulation
  | islandsClocked
  | bootVerifyDone
  | microcodeLoaded
  | islandsSelftestDone
  | maelwickLoaded
  | trialTimeout
  -- update window, objects, diagnostics, journal
  | updateBegin (slot : Fin 2)
  | updateWrite (slot : Fin 2) (idx : BitVec 16)
  | updateFinish (slot : Fin 2)
  | updateAbandon (slot : Fin 2)
  | updateConfirm
  | updateSelect (slot : Fin 2)
  | objectWrite
  | objectRead
  | objectDelete
  | diagRun (i : Fin 64)
  | diagDone (ok : Bool)
  | svnRaise (floor : BitVec 16)
  | nvCkptCopyDone
  | journalPageProgram
  | nvRefreshScan (page : BitVec 20) (corrected : Nat) (old retired : Bool)
  -- pins and board management
  | resetNAssert (lowNs : Nat)
  | resetNRelease
  | powerFailInput (c : PowerFailCause)
  | vin12Low
  | vin12Off
  | vin12Return
  | bmcReadIdentity
  | bmcReadDevInfo
  | bmcReadStatus
  | bmcReadTemp
  | bmcReadVin12
  | bmcReadVin12Current
  | bmcReadVsb33
  | bmcReadPower
  | bmcReadFatal
  | bmcReadLastReset
  | bmcReadAlertStatus
  | bmcClearAlertStatus (v : Byte) (pecGood : Bool)
  | bmcColdReset (v : Byte) (pecGood : Bool)
  | smbAlertResponse
  -- `temp`: the reading of the sensor of `island`
  | bmcReadingRefresh (temp : Byte) (island : Island) (vin12mV vin12dA vsb33mV powerW : BitVec 16)
  -- late rows
  | clusterWindowAccess (c : Cluster) (addr : BitVec 36) (st : Option Byte)
  | firmwareHostPageRead (c : Cluster) (page : Fin 16384) (off : Fin 4096)
  | peakFieldRead (page : Fin 16384) (off : Fin 4096)
  | perstNRelease
  | msixEnableSet
  | boundaryScanInstruction (i : TapInstr) (cells : List Bool)
  -- `verified`: the new copy reads back right (R451 step 4)
  | nvCommandDone (verified : Bool := true)
  | bobbinWriteDone (s : Slice) (q : Fin 16384)
  deriving DecidableEq, Repr

end Sys2Proof
end

