-- ==== Sys2Proof/Decode.lean ====
section
/-! DEFINITION. The decoder of the opcode table's words. -/

namespace Sys2Proof

/-- The command that a word of the table spells. No row of spec/opcode_table.json carries bits or fields, so no word spells a
command. -/
def decodeTableWord (_nbits _w : Nat) : Option Instr := none

end Sys2Proof
end

