-- ==== Sys2Proof/Config.lean ====
section
/-! DEFINITION. What the spec leaves to an implementation: free values and the checks whose algorithm stands outside the spec.
Every constant here is opaque, so no proof can know its value. -/

namespace Sys2Proof.Config

/-- DESIGN CHOICE, safe (log 3): the n-th free value. A value the spec leaves open (a nonce of R410, a pulse of R471, a result it
does not state) is this function applied to a counter of the state that moves at every use. -/
opaque freeValue : Nat → BitVec 64

/-- DESIGN CHOICE, safe (log 14): whether an ECDSA P-384 signature over SHA-384 of a message verifies against a key (R410, R443, R444).
The algorithms stand outside the spec. Arguments: key, message, signature. -/
opaque ecdsaVerify : List Byte → List Byte → List Byte → Bool

/-- DESIGN CHOICE, safe (log 14): the SHA-384 digest of a byte string (R410, R442, R444). -/
opaque sha384 : List Byte → List Byte

/-- DESIGN CHOICE, safe (log 30): the value an engine interpolates between its three calibration points (R53), from the
temperature and the three values. The spec names no interpolation law. -/
opaque calInterpolate : Nat → Nat → Nat → Nat → Nat

end Sys2Proof.Config
end

