-- ==== Sys2Proof/Machine/State.lean ====
section
/-! DEFINITION. The state of the block, as plain data, and its value after reset. Every register of every page lives in `State.regs`
under its BAR0 address; everything else the spec gives the machine has a field of its own. INVENTORY.md lists each with its rule. -/

namespace Sys2Proof.Machine

/-- Reasons a step stops with a fault. No command of the table ends so (NOTES.md, Stops). -/
inductive Fault where
  /-- raised by nothing: the spec names no event that stops the block without an effect it describes; safe -/
  | none
  deriving DecidableEq, Repr

/-- Reasons a step is refused. -/
inductive Refusal where
  /-- raised by an arm of `exec` that has no meaning yet; safe: nothing is claimed of the command -/
  | notModelled (mnemonic : String)
  deriving DecidableEq, Repr

/-- A sparse map from numbers, in one canonical form: keys strictly rising, no entry equal to the map's default. -/
abbrev Map (α : Type) := List (Nat × α)

/-- A byte memory in canonical form (R346, R380): addresses strictly rising, no entry equal to what an unlisted address reads as. -/
abbrev Mem := List Host.Cell

/-- A full time value (R8) counted in units of 2^-16 ns. -/
abbrev Time := Nat

/-! ### Frames and cells -/

/-- What an inject descriptor asks for beyond the frame's class and port (R365, R397). -/
structure InjMeta where
  tsReq : Bool
  oneStep : Bool
  packBypass : Bool
  /-- MODE 0: straight to an egress queue -/
  egress : Bool
  cookie : Nat
  /-- 40-bit stamp of the frame, by which its egress slice finds this request -/
  stamp : Nat
  /-- requester and handle to free once the frame is sent or discarded (FREE_AFTER) -/
  free : Option (Nat × Nat)
  deriving DecidableEq, Repr

/-- A frame in the device: its bytes from destination address to FCS and the metadata of R9 and R208. -/
structure Frame where
  bytes : List Byte
  /-- 40-bit stamp (R17) -/
  stamp : Nat
  inLport : Nat
  cls : Nat
  colour : Nat
  sid : Nat
  vid : Nat
  tags : Nat
  mcast : Bool
  group : Nat
  mirrorCopy : Bool
  /-- the mirror session of a copy that this device made (R138): the model's own, no tag carries it -/
  session : Option Nat
  injected : Bool
  uncal : Bool
  /-- the stamp was taken by an island without DT_LOCK (R16) -/
  unlocked : Bool
  deriving DecidableEq, Repr

/-- A share of the VOQ region and of a flow-control account, given back when the frame's last cell launches (R78, R158). -/
structure Charge where
  lport : Nat
  cls : Nat
  cells : Nat
  headroom : Bool
  deriving DecidableEq, Repr

/-- A 288-byte cell (R209, R273). The model's own: `releases`, the charges that end when the cell launches, `mirrors`, the sessions of the
mirror copies whose tags begin in it (R138), and `input`, the link whose input buffer holds it, with that link's session (R284). -/
structure Cell where
  fabric : Bool
  cls : Nat
  srcSlice : Nat
  dest : Nat
  seq : Nat
  stamp : Nat
  grantWait : Nat
  validLen : Nat
  firstTag : Nat
  endOff : Nat
  endStatus : Nat
  fdest : Nat
  fseq : Nat
  srcDev : Nat
  fSrcSlice : Nat
  first : Bool
  payload : List Byte
  releases : List Charge
  mirrors : List Nat
  input : Option (Nat × Nat)
  deriving DecidableEq, Repr

/-- A cell closed into a queue or held elsewhere, with the instant the model's clock showed. -/
structure TimedCell where
  cell : Cell
  atNs : Nat
  plane : Nat
  deriving DecidableEq, Repr

/-- A frame that waits behind the arriving one at the tail of a virtual output queue (R207): its egress sub-port, the reception it still
comes from, whether it goes cut-through, and its charge. -/
structure VoqWait where
  f : Frame
  sub : Nat
  arr : Option Nat
  ct : Bool
  charge : Charge
  deriving DecidableEq, Repr

/-- A packer of cells: a virtual output queue (R206, R207) or the fabric packer of a stream (R279). -/
structure Packer where
  /-- payload of the open cell -/
  buf : List Byte
  firstTag : Nat
  endOff : Nat
  endStatus : Nat
  releases : List Charge
  mirrors : List Nat
  /-- the reception whose frame is still arriving at the tail (R207) -/
  arriving : Option Nat
  /-- instant at which the last byte entered (R23) -/
  lastAt : Nat
  /-- where the arriving frame's tag lies in the open cell, while it does (R208 SIZE_KNOWN) -/
  tagAt : Option Nat
  /-- a frame entered before the open cell began and has not ended -/
  spans : Bool
  closed : List Cell
  /-- since when the head cell has been requested (R228) -/
  reqSince : Option Nat
  /-- frames that wait behind the arriving one (R207) -/
  waiting : List VoqWait
  /-- next 24-bit sequence number of the stream (R214) -/
  nextSeq : Nat
  deriving DecidableEq, Repr

/-- Where a copy of an arriving frame waits to go once the frame has ended without error (R220, R279, R103). -/
inductive PendTo where
  /-- a virtual output queue, for egress logical port `lp` (none in a replication queue), with its charge -/
  | voq (q : Nat) (lp : Nat) (charge : Charge)
  /-- the fabric packer of link group `group`, for fabric address `addr` -/
  | fabric (group addr : Nat) (charge : Charge)
  /-- punt ring `ring`, with reason and rule (R398) -/
  | punt (ring reason rule : Nat)
  deriving DecidableEq, Repr

/-- A copy of an arriving frame held apart (R220). -/
structure Pend where
  dest : PendTo
  f : Frame
  /-- mirror session, and the length it truncates to -/
  mirror : Option Nat
  trunc : Option Nat
  deriving DecidableEq, Repr

/-- An arriving frame's place in a virtual output queue when it goes cut-through (R220): queue, bytes entered so far, charge. -/
structure CtRx where
  q : Nat
  entered : Nat
  charge : Charge
  f : Frame
  deriving DecidableEq, Repr

/-- The frame a logical port receives (R17, R68, R97). -/
structure RxFrame where
  bytes : List Byte
  stamp : Nat
  /-- instant of its first byte -/
  since : Nat
  uncal : Bool
  /-- the stamp was taken by an island without DT_LOCK (R16) -/
  unlocked : Bool
  /-- a frame that firmware injects into the pipeline (R365) -/
  injected : Bool
  /-- the lookup has been made -/
  looked : Bool
  ct : Option CtRx
  /-- before the lookup: the frame may learn (R365 NO_LEARN); after it: a good frame sends a learn or move request (R127), in `domain` -/
  wantsLearn : Bool
  /-- that request is a move request -/
  moves : Bool
  domain : Nat
  cls : Nat
  /-- registers of CLSF that have changed since the frame began, with the values it is parsed under (R100, R110, R488) -/
  clsf : Map Word
  /-- it passed classification, so the arrival check sees it (R319) -/
  passed : Bool
  pending : List Pend
  deriving DecidableEq, Repr

/-- Where an egress frame is (R149, R151, R153). -/
inductive Place where
  | list | chain | deep | staged | sending
  deriving DecidableEq, Repr

/-- A frame the egress slice holds (R146 to R157). -/
structure EFrame where
  f : Frame
  lport : Nat
  /-- queue window index (R175) -/
  q : Nat
  place : Place
  /-- all bytes have arrived -/
  complete : Bool
  /-- ended by its ingress with an error, or cut by a gap: to be stomped when sent (R69, R222) -/
  bad : Bool
  ct : Bool
  /-- the length in use until the frame has ended: its size where that is known, else MAX_FRAME of the ingress sub-port (R147, R183) -/
  maxLen : Nat
  /-- its size was known at admission, and ADMIT_BYTES has counted it -/
  sized : Bool
  /-- cells released to it so far (R221) -/
  cellsSeen : Nat
  charge : Nat
  /-- the part charged to a pool (R161), and that pool -/
  poolPart : Nat
  pool : Nat
  /-- the set of cells it shares with other copies (R146) -/
  cellSet : Nat
  /-- byte range in the queue's deep part (R151) -/
  deepLo : Nat
  deepHi : Nat
  lost : Bool
  inj : Option InjMeta
  /-- virtual time of admission, for the head-of-queue delay (R200) -/
  admitted : Nat
  deriving DecidableEq, Repr

/-- A bobbin of a queue's deep part (R151). -/
structure Bobbin where
  stack : Nat
  lo : Nat
  hi : Nat
  /-- 0 open, 1 being written, 2 stored, 3 being read -/
  phase : Nat
  deriving DecidableEq, Repr

/-- An egress queue: configuration, contents and counters (R154 to R162, R176). -/
structure Queue where
  minCells : Nat
  pool : Nat
  profile : Nat
  lossless : Bool
  spillEn : Bool
  maxCells : Nat
  spillTh : Nat
  minBobbins : Nat
  maxBobbins : Nat
  guarRate : Nat
  occ : Nat
  spilling : Bool
  /-- average occupancy in 1/65,536 cell (R160) -/
  avg : Nat
  /-- frames on-die or in read staging, in order -/
  frames : List Nat
  /-- frames admitted deep that have not landed, in order (DEEP_FRAMES) -/
  deep : List Nat
  bobbins : List Bobbin
  /-- bytes ever packed into the deep part -/
  deepEnd : Nat
  /-- last deep admission, for the idle write of R151 -/
  deepAt : Nat
  /-- next stack of the rotation and the skip mark of doubled stacks (R151) -/
  rotor : Nat
  /-- guarantee scale of the logical port in 1/65,536 (R171) -/
  scale : Nat
  admitFrames : Nat
  admitBytes : Nat
  spilled : Nat
  dropWred : Nat
  dropSpace : Nat
  dropDesc : Nat
  ageDiscard : Nat
  deepLost : Nat
  deriving DecidableEq, Repr

/-- A stack of the deep tier as it is (R167, R169); its STACK_STATE register is a slow-domain copy (R177). -/
structure StackSt where
  out : Bool
  doubled : Bool
  fault : Bool
  deriving DecidableEq, Repr

/-- The audit's account of a token bucket since the last audit instant (R172), in the bucket's own unit: tokens at its start, credited,
spent, lost at the cap; `skip` while a configuration change lies within the interval. -/
structure TokAcct where
  start : Int
  credited : Nat
  spent : Nat
  lost : Nat
  skip : Bool
  deriving DecidableEq, Repr

/-! ### Resequencers -/

/-- A frame being put together from cells (R225): tag and bytes so far, the egress frames it feeds. -/
structure Reasm where
  /-- bytes of the open tag and frame -/
  buf : List Byte
  /-- the open frame's admitted copies -/
  fids : List Nat
  /-- admission has been decided for the open frame -/
  decided : Bool
  /-- bytes up to the next tag are discarded -/
  skipping : Bool
  open_ : Bool
  deriving DecidableEq, Repr

/-- A crossbar stream of an egress slice (R223). -/
structure Stream where
  e : Nat
  held : List TimedCell
  lastStamp : Option Nat
  /-- sessions of the mirror copies whose tags have been released but not yet offered (R138) -/
  mirrors : List Nat
  asm : Reasm
  deriving DecidableEq, Repr

/-- A fabric stream of a destination slice (R290). -/
structure FabStream where
  e : Option Nat
  /-- fabric address of the cell released last -/
  fdest : Nat
  held : List TimedCell
  lastArrival : Nat
  asm : Reasm
  deriving DecidableEq, Repr

/-! ### MAC -/

/-- The frame in transmission on a logical port (R37, R69, R73). -/
structure Tx where
  fid : Nat
  /-- instant at which the fragment under way started, and the bytes that went in the fragments before it -/
  start : Nat
  sent : Nat
  bytes : List Byte
  preemptable : Bool
  fragments : Nat
  /-- not whole when its transmission started: its egress mirror copy is taken at its end -/
  late : Bool
  deriving DecidableEq, Repr

/-- MAC state of a logical port (R63 to R85). -/
structure Mac where
  /-- frames in reception by source (`RxSrc.code`): the MAC, the express MAC, FlexE clients (R73, R241) -/
  rx : Map (Option RxFrame)
  tx : Option Tx
  /-- a preempted frame waiting to resume (R73) -/
  preempted : Option Tx
  verifyLeft : Nat
  verifyNext : Option Nat
  /-- received pause per class: the instant it ends or ended (R81); PAUSED_RX shows whether it holds -/
  pauseEnd : List (Option Nat)
  /-- per class: number of the last µs step of DT before a pause that is unbroken since (R84), what the measurement had reached while
  PFC_RX_EN is clear, and the step of entry to recovery -/
  pausedSince : List (Option Nat)
  wdKept : List Nat
  stormSince : List (Option Nat)
  /-- per class: last pause sent while pausing the peer (R80) -/
  pauseSent : List (Option Nat)
  /-- pause frames due, by class: the time they carry (R79, R80); and a link-wide PAUSE due -/
  pfcDue : List (Option Nat)
  linkDue : Option Nat
  /-- deficit idle count, and the gap before the next frame (R63) -/
  dic : Nat
  gap : Nat
  /-- the preempted frame in transmission has moved GATE_LATE (R196) -/
  gateLate : Bool
  deriving DecidableEq, Repr

/-! ### Optics -/

/-- The pitching state machine of a sub-port (R32 to R36). `state` is the code of R32. -/
structure Pitch where
  state : Nat
  lit : Bool
  fails : Nat
  backoffEnd : Nat
  entered : Nat
  /-- coefficients of an earlier lock are kept: the next equaliser start is warm -/
  warm : Bool
  /-- light reaches the receiver -/
  light : Bool
  /-- the receiver kept its lock while parked (R40) -/
  rxLocked : Bool
  fromParked : Bool
  fromBias : Bool
  holdStart : Option Nat
  holdExpired : Bool
  /-- uncorrectable codewords of the window `serWin`, a number of whole milliseconds of DT (R56) -/
  serCount : Nat
  serWin : Nat
  deriving DecidableEq, Repr

/-- A lane's source and limiter (R45 to R53). -/
structure LaneSt where
  lstate : Nat
  src : Nat
  pending : Bool
  bias : Nat
  txPwr : Nat
  rxPwr : Nat
  /-- spare lit for a switch under way, and whether it holds target power (R48) -/
  switching : Option Nat
  switchReady : Bool
  /-- a switch waits for the next entry to BIAS (R47) -/
  deferred : Bool
  /-- the source has become failed (R45) -/
  failed : Bool
  /-- instant at which the switch under way started (R47) -/
  switchAt : Nat
  trips : List Nat
  /-- the limiter is latched (R51) -/
  latched : Bool
  fwCeil : Option Nat
  txDelay : Nat
  rxDelay : Nat
  asym : Nat
  deriving DecidableEq, Repr

/-- A source's wear record (R50). -/
structure Wear where
  /-- beginning-of-life bias at the three reference temperatures -/
  bol : List Nat
  hours : Nat
  bias : Nat
  switches : Nat
  failures : Nat
  trips : Nat
  deriving DecidableEq, Repr

/-! ### Classification and tables -/

structure RuleEntry where
  value : BitVec 512
  mask : BitVec 512
  action : BitVec 128
  ver : Nat
  valid : Bool
  hits : Nat
  deriving DecidableEq, Repr

/-- A parse template (R94): BASE and the 16 unit words of R111. -/
structure Template where
  base : Bool
  units : List Word
  deriving DecidableEq, Repr

/-- A meter (R105, R106). Buckets count 1/4,096 byte; residues count 1/125,000 of that. -/
structure Meter where
  cir : Nat
  cbs : Nat
  eir : Nat
  ebs : Nat
  mode : Word
  tc : Nat
  te : Nat
  resC : Nat
  resE : Nat
  last : Nat
  frames : List Nat
  bytes : List Nat
  acctC : TokAcct
  acctE : TokAcct
  deriving DecidableEq, Repr

/-- A MAC table entry (R124, R126, R143). -/
structure MacEntry where
  addr : BitVec 48
  bd : Nat
  dest : Nat
  destType : Nat
  static : Bool
  stale : Bool
  deriving DecidableEq, Repr

/-- A route (R136, R137). -/
structure RouteEntry where
  prefix_ : Nat
  len : Nat
  nextType : Nat
  next : Nat
  deriving DecidableEq, Repr

/-- One copy of the replicated tables (R124, R128, R300). Entries of LPORT, VXLT, BD, MIRROR and link groups are their data words. -/
structure TblCopy where
  lport : Map (List Word)
  vxlt : Map (List Word)
  bd : Map (List Word)
  mac : Map (Option MacEntry)
  route : Map (Option RouteEntry)
  gmask : Map Nat
  mirror : Map (List Word)
  linkGroup : Map (List Word)
  /-- bit k: a route of length k exists (R137) -/
  lenFilter : Nat
  /-- hit bits of this copy by slot (R126) -/
  hit : Map Bool
  deriving DecidableEq, Repr

/-- One change of a replicated table, as every copy applies it (R128). -/
inductive TblWrite where
  | lport (i : Nat) (ws : List Word)
  | vxlt (i : Nat) (ws : List Word)
  | bd (i : Nat) (ws : List Word)
  | mac (slot : Nat) (e : Option MacEntry) (setHit : Bool)
  | route (slot : Nat) (e : Option RouteEntry)
  | gmask (g : Nat) (m : Nat)
  | mirror (i : Nat) (ws : List Word)
  | linkGroup (i : Nat) (ws : List Word)
  | lenFilter (m : Nat)
  deriving DecidableEq, Repr

/-- What moves when the last copy has applied an update: MAC_MOVE (R126), AGED_OUT (R133), REPAIRED (R140) with the table code, slot and
slice in error; `flushed` marks a removal of a flush (R134). -/
inductive UpdEnd where
  | none
  | moved (bd : Nat)
  | aged
  | flushed (fw : Bool)
  | repaired (code slot sl : Nat)
  deriving DecidableEq, Repr

/-- An accepted update on its way to the copies (R128, R129): its writes and what follows when the last copy has applied it. -/
structure Update where
  writes : List TblWrite
  /-- notification record to send when the last copy has applied it (R135) -/
  note : Option (List Byte)
  /-- window to complete: 0 host table, 1 firmware table, 2 link group -/
  window : Option Nat
  /-- slice and key whose pending-filter entry leaves (R127) -/
  filter : Option (Nat × Nat)
  fin : UpdEnd := .none
  deriving DecidableEq, Repr

/-- What waits for the sequencer (R128). -/
inductive SeqReq where
  | repair (slice : Nat) (table : ScrubTable) (idx : Nat) (bad : Nat)
  /-- a learn request, or a move request (R126) -/
  | learn (slice : Nat) (bd : Nat) (addr : BitVec 48) (lport : Nat) (move : Bool)
  | age (slot : Nat) (e : MacEntry) (delete : Bool) (stale : Bool)
  | flushDelete (fw : Bool) (slot : Nat) (e : MacEntry)
  /-- a slice's members of a group have changed: its slice mask follows (R122, R123, R140), with a notification -/
  | mask (g : Nat) (slice : Nat) (note : Option (List Byte))
  | window (fw : Bool) (op : Nat) (table : Nat) (idx : Nat) (data : List Word)
  | seed (n : Nat) (v : Word)
  | linkGroup (idx : Nat) (data : List Word)
  deriving DecidableEq, Repr

/-- A flush under way (R134). -/
structure Flush where
  fw : Bool
  oneBd : Bool
  bd : Nat
  oneDest : Bool
  dest : Nat
  destType : Nat
  removed : Nat
  deriving DecidableEq, Repr

/-! ### Scheduling -/

/-- Dynamic state of a node of the deep hierarchy (R185 to R189). -/
structure Node where
  minTok : Int
  maxTok : Int
  minRes : Nat
  maxRes : Nat
  last : Nat
  s : Nat
  f : Nat
  v : Nat
  rr : Nat
  active : Bool
  selectable : Bool
  fresh : Bool
  acctMin : TokAcct
  acctMax : TokAcct
  deriving DecidableEq, Repr

/-- A gate control list (R192, R193, R197). -/
structure GateList where
  baseSec : Nat
  baseNs : Nat
  cycle : Nat
  ext : Nat
  len : Nat
  tb : Nat
  en : Bool
  breachAction : Bool
  selvedge : Nat
  fallback : Nat
  /-- (GATES, OP, INTERVAL) -/
  entries : List (Nat × Nat × Nat)
  deriving DecidableEq, Repr

/-- The gates of a physical port (R193 to R199). -/
structure Gate where
  oper : GateList
  /-- start of the operative list's cycles, ns of its time reference -/
  operBase : Nat
  copying : Option (GateList × Nat)
  pending : Option (GateList × Nat)
  /-- when the pending list became pending, ns of the operative list's reference (R197) -/
  pendAt : Nat
  /-- the list before the operative one and the start of its cycles: a window may have begun under it (R194) -/
  prev : Option (GateList × Nat)
  /-- frames failed within the last second (R320) and the wake window -/
  fails : List Nat
  wakeUntil : Option (Nat × Nat)
  deriving DecidableEq, Repr

/-- The scheduler of a logical port (R182, R183). -/
structure PortSched where
  deficit : List Nat
  pointer : Nat
  /-- the frame the deep hierarchy nominated, with its queue and the levels whose pass was the excess pass (bit 0 sub-channel, bit 1
  service group, bit 2 queue) -/
  nominated : Option (Nat × Nat × Nat)
  deriving DecidableEq, Repr

/-- Samples of a queue (R200). -/
structure Sample where
  lastDepth : Nat
  maxDepth : Nat
  lastDelay : Nat
  maxDelay : Nat
  watch : Bool
  /-- instant of the last sample -/
  takenAt : Option Nat
  deriving DecidableEq, Repr

/-! ### FlexE, pack mode, folding -/

/-- What a FlexE group holds beyond its registers (R236, R242 to R246). -/
structure Flexe where
  entered : Nat
  bad : List Nat
  groupNums : List Nat
  phyNums : List Nat
  phyMaps : List (List Nat)
  switchDeadline : Option Nat
  caSeen : Bool
  /-- the peer asks for a switch -/
  peerCr : Bool
  /-- per member: the peer's calendar not in use came over one whole multiframe; good frames so far of the multiframe being received, none
  until one begins; instant of the last frame, good or not -/
  announced : List Bool
  mf : List (Option Nat)
  lastOh : List Nat
  /-- codes of the peer's calendars, A at 0, B at 640 -/
  rxCal : Map (BitVec 16)
  /-- number in its multiframe of the next frame to send, and the codes of the calendar not in use that the multiframe announces -/
  frame : Nat
  shown : Map (BitVec 16)
  /-- what the section management channel brought last (R233) -/
  smc : Option (BitVec 64)
  deriving DecidableEq, Repr

/-- A FlexE client (R238, R239, R245). -/
structure Client where
  group : Nat
  lport : Nat
  valid : Bool
  wireId : Nat
  fifo : List Byte
  drained : Nat
  fifoDiscard : Nat
  rxCut : Nat
  deriving DecidableEq, Repr

/-- Pack-mode state of a logical port (R248, R250, R267). -/
structure Pack where
  /-- bytes of the open train sent, by client: 0 on a plain Ethernet logical port, else client + 1 -/
  trainBytes : Map Nat
  /-- the received train by source (`RxSrc.code`): 0 none, 1 open, 2 its rest is discarded -/
  rxTrain : Map Nat
  counters : List Nat
  deriving DecidableEq, Repr

/-- A transmit entry of a fold table (R253). -/
structure FoldTx where
  key : List Byte
  tag : Nat
  state : Nat
  gen : Nat
  deriving DecidableEq, Repr

/-- A receive template version (R254). -/
structure FoldRx where
  bytes : List Byte
  valid : Bool
  gen : Nat
  deriving DecidableEq, Repr

/-- A fold table (R251 to R256). -/
structure Fold where
  tx : List FoldTx
  cur : Map (Option FoldRx)
  next : Map (Option FoldRx)
  /-- a commit waits for the next unit boundary -/
  commitDue : Bool
  cleaning : Option Nat
  promoting : Option Nat
  restarting : Bool
  deriving DecidableEq, Repr

/-! ### Fabric -/

/-- A cell in a link's retry buffer (R286). -/
structure Retry where
  lseq : Nat
  cell : Cell
  attempts : Nat
  sentAt : Nat
  deriving DecidableEq, Repr

/-- What a hello carries that the receiver keeps (R275, R278). -/
structure Neighbor where
  id : Nat
  addr : Nat
  num : Nat
  retryUs : Nat
  pathMax : Nat
  rtt : Nat
  linkEn : Bool
  peerSeen : Bool
  reject : Nat
  grants : List Nat
  txStamp : Nat
  deriving DecidableEq, Repr

/-- A fabric link (R269 to R289, R297). State and REJECT stand in its LINK_STATE register. -/
structure Link where
  nextLseq : Nat
  expect : Nat
  retry : List Retry
  /-- cells that wait for the link, oldest first (R285) -/
  txq : List Cell
  /-- resends due, oldest first -/
  resend : List Nat
  lastNak : Option Nat
  nakPending : Bool
  nakSent : Bool
  credits : List Nat
  /-- the peer's grants at entry to ACTIVE (R297) -/
  granted : List Nat
  /-- credits waiting to return, by class -/
  returns : List Nat
  classTurn : Nat
  creditTurn : Nat
  helloAt : Nat
  helloDue : Bool
  lastHello : Option Nat
  echo : Nat
  echoAt : Nat
  holddownEnd : Nat
  /-- audit prefixes to send: class, B, R (R297) -/
  latchDue : List (Nat × Nat × Nat)
  /-- credit accounts evaluated since the boundary: class, left side minus right side -/
  audited : List (Nat × Int)
  nbr : Option Neighbor
  /-- a valid hello has come since the link last entered HELLO (PEER_SEEN) -/
  seen : Bool
  /-- cells of each class in the input buffer (R284) -/
  inBuf : List Nat
  /-- counts the entries to ACTIVE and the exits from it: a cell of an earlier session returns no credit (R284) -/
  session : Nat
  /-- LSEQ of the KIND 1 prefix taken last, while its cell has not come (R272) -/
  due : Option Nat
  /-- search for the next prefix (R272): 0 in step, 1 and 2 at the two possible positions, 3 up to the next alignment-marker group -/
  hunt : Nat
  /-- grants in force since entry to ACTIVE (R284) -/
  grantsInForce : List Nat
  counters : List Nat
  deriving DecidableEq, Repr

/-- What a slice publishes of one of its links every cell time (R281): it is ACTIVE, its load level, and the classes without credit. -/
structure LinkLoad where
  active : Bool
  level : Nat
  dry : List Nat
  deriving DecidableEq, Repr

/-- A source stream entry (R279, R280). -/
structure SrcStream where
  fseq : Nat
  lastClose : Option Nat
  packer : Packer
  group : Nat
  deriving DecidableEq, Repr

/-! ### Time -/

/-- A time base and its servo (R306 to R310). `t` counts 2^-16 ns of time, `i` and `r` 2^-28 ppb, offsets 1/16 ns, instants 2^-16 ns
of DT. -/
structure TimeBase where
  t : Int
  res : Int
  i : Int
  r : List Int
  /-- the previous offset of each channel and its instant -/
  prevOfs : List (Option (Int × Nat))
  /-- the last write of each channel, by which it is OK (R309) -/
  lastAt : List (Option Nat)
  lastStep : Option Nat
  /-- consecutive active-channel offsets of 100 ns or less -/
  good : Nat
  deriving DecidableEq, Repr

/-! ### Loom -/

/-- A budgeted resource instance (R325 to R333). -/
structure Loom where
  pos : Nat
  used : List Nat
  /-- cycles each raised request has waited -/
  waits : List (Option Nat)
  lfsr : Nat
  emergUsed : Nat
  /-- warp counts in force; entry 8 the thermal rest slots of the doubled layout (R333) -/
  layout : List Nat
  deriving DecidableEq, Repr

/-! ### Clusters, lease, checkpoints, twin -/

/-- A service cluster (R342 to R347). ROLE, CAUSE, PAIR and SRAM_CORR stand in its CLUSTER_STATE register. -/
structure ClusterSt where
  blocked : Bool
  clockGated : Bool
  marks : List Nat
  sram : Mem
  window : Mem
  /-- pages stored to since the checkpoint under way began (R353) -/
  touched : List Nat
  desc : Map Word
  deriving DecidableEq, Repr

/-- The lease arbiter (R348 to R352, R356). -/
structure Lease where
  holder : Option Nat
  epoch : Nat
  expiry : Nat
  lastEnd : Option Nat
  lastHolder : Option Nat
  next : Nat
  since : Nat
  /-- instant the takeover interval runs from (R356) -/
  takeoverFrom : Nat
  /-- the last accepted renewal or claim -/
  renewed : Nat
  /-- the guard after the last lease has ended (R349) -/
  guardOpen : Bool
  deriving DecidableEq, Repr

/-- A deep checkpoint slot or a copy of one (R354, R455). -/
structure Ckpt where
  committed : Bool
  seq : Nat
  epoch : Nat
  pages : List Nat
  sram : Mem
  window : Mem
  mwVersion : Nat
  deriving DecidableEq, Repr

/-- Twin mode (R358 to R362). -/
structure Twin where
  role : Nat
  linkUp : Bool
  peerRole : Nat
  peerId : Nat
  expiry : Nat
  record : Nat
  renewSentAt : Nat
  /-- instants of the last status frame and of the last renew (R359) -/
  statusAt : Option Nat
  renewAt : Option Nat
  listenEnd : Nat
  listens : Nat
  renewSeen : Bool
  lastFrame : Nat
  releaseEnd : Option Nat
  epoch : Nat
  holdIn : Bool
  holdOut : Bool
  holdLowSince : Option Nat
  holdSampleAt : Option Nat
  holdReleaseAt : Option Nat
  deriving DecidableEq, Repr

/-- An inject descriptor queued by a core pair (R365). -/
structure InjDesc where
  handle : Nat
  size : Nat
  mode : Nat
  lport : Nat
  cls : Nat
  colour : Nat
  noLearn : Bool
  inj : InjMeta
  throttled : Bool
  deriving DecidableEq, Repr

/-- A token bucket in 1/4,096 byte with its last credit (R365). -/
structure Bucket where
  tok : Int
  res : Nat
  last : Nat
  deriving DecidableEq, Repr

/-- A pool buffer (R367, R368). -/
structure Buf where
  holder : Option Nat
  gen : Nat
  transit : Bool
  deriving DecidableEq, Repr

/-! ### Host interface -/

/-- A register write held or shadowed (R387, R388). -/
structure RegWrite where
  addr : Nat
  v : Word
  deriving DecidableEq, Repr

/-- A window command that waits for the earlier writes of its page, or for the page's boundary (R99, R164, R203): the command word that
was written to page and offset. BUSY reads 1 meanwhile. -/
structure WinWait where
  who : Who
  page : Nat
  off : Nat
  v : Word
  deriving DecidableEq, Repr

/-- A guarded value waiting for its complement (R389). -/
structure Guard where
  off : Nat
  v : Word
  deadline : Nat
  deriving DecidableEq, Repr

/-- A DMA ring beyond its registers (R396 to R402). -/
structure RingSt where
  seq : Nat
  unsignalled : Nat
  firstAt : Option Nat
  /-- drops waiting to become a gap entry: count and stamp of the first -/
  gap : Option (Nat × Time)
  deriving DecidableEq, Repr

/-- A notification FIFO (R404). -/
structure Fifo where
  items : List (Bool × List Byte)
  drops : Nat
  firstDrop : Time
  deriving DecidableEq, Repr

/-- A punted frame waiting for a descriptor (R398): descriptor bytes 10 to 31 and the frame. -/
structure Punt where
  ring : Nat
  f : Frame
  reason : Nat
  rule : Nat
  deriving DecidableEq, Repr

/-- An MSI-X table entry (R394). -/
structure Msix where
  addr : Nat
  data : Word
  masked : Bool
  deriving DecidableEq, Repr

/-! ### Faults, reset, boot, power -/

/-- An island as its own signals show it (R14, R15, R382). -/
structure IslandSt where
  power : Nat
  rst : Nat
  clkLock : Bool
  dtLock : Bool
  skew : Nat
  temp : Nat
  /-- while the island's time counter is unlocked: its value and the instant it had it (R16) -/
  free : Option (Time × Nat)
  deriving DecidableEq, Repr

/-- The reset state of a block (R421, R428, R429, R431). -/
structure Block where
  /-- contain resets within the span -/
  contains : List Nat
  resetting : Bool
  isolated : Bool
  guy : Bool
  guyEnd : Option Nat
  /-- the reset answers a host command on the stack or block, not a contain action (R432) -/
  byHost : Bool
  /-- source of the contain action, never masked by its own guy lines -/
  cause : Option (Nat × Nat)
  reload : Option Nat
  deriving DecidableEq, Repr

/-- An image slot of NV (R443, R446). -/
structure NvSlot where
  state : Nat
  svn : Nat
  mw : Nat
  uc : Nat
  length : Nat
  pages : Map (List Byte)
  deriving DecidableEq, Repr

/-- A configuration object (R451, R459). -/
structure Obj where
  seq : Nat
  body : List Byte
  deleted : Bool
  deriving DecidableEq, Repr

/-- An NVST window command under way (R458, R459). -/
structure NvCmd where
  obj : Bool
  op : Nat
  slot : Nat
  idx : Nat
  id : Nat
  data : List Byte
  deriving DecidableEq, Repr

/-- The non-volatile store (R440 to R459). -/
structure Nv where
  slots : List NvSlot
  objs : Map (Option Obj)
  ckpt : List Ckpt
  ckptCopy : Option (Nat × Ckpt)
  lastCkptCopy : Nat
  journal : List (List (List Byte))
  openPage : List (List Byte)
  openAt : Nat
  journalSeq : Nat
  powerFail : Bool
  mounted : Bool
  /-- window commands under way, at most one of each window, oldest first (R458, R459) -/
  cmds : List NvCmd
  spare : Nat
  maxErase : Nat
  moduleId : Nat
  baseMac : Nat
  calGood : Bool
  engineCalGood : List Bool
  calPoints : Map Nat
  /-- wear objects by engine: sequence number and the 36 source records (R50, R451) -/
  wear : Map (Option (Nat × List Wear))
  /-- security-version floor in the fuses (R442) -/
  svnFloor : Nat
  debugKeyDigest : List Byte
  rootKeyDigest : List Byte
  deriving DecidableEq, Repr

/-- Boot (R447 to R449, R454). -/
structure Boot where
  phase : Nat
  slot : Nat
  cause : Nat
  bivouac : Bool
  trialEnd : Option Nat
  ucVersion : Nat
  mwVersion : Nat
  diag : Option Nat
  /-- a warm reset runs steps 6 and 9 only -/
  warm : Bool
  /-- BIVOUAC_NEXT as it stood when the reset began (R449) -/
  bivNext : Bool
  deriving DecidableEq, Repr

/-- Supplies and pins (R466 to R477). -/
structure Power where
  vsb : Bool
  vin : Bool
  rails : Bool
  below6 : Bool
  resetNLow : Bool
  /-- VIN12 returned without falling below 6 V: only a cold reset ends the fatal state (R467) -/
  vinReturned : Bool
  thermTripLow : Bool
  alert : Nat
  /-- instant of the last refresh of the readings (R476) -/
  readAt : Option Nat
  temp : Nat
  tempIsland : Nat
  vin12mV : Nat
  vin12dA : Nat
  vsb33mV : Nat
  powerW : Nat
  deriving DecidableEq, Repr

/-- What leaves the module. `State.out` keeps them newest first (DESIGN CHOICE, log 4). -/
inductive Out where
  /-- before a frame of a plain Ethernet logical port: the gap kept after the frame before it, then 7 bytes of preamble and the start
  delimiter (R63) -/
  | lead (lport : Nat) (gap : Nat) (bytes : List Byte)
  /-- a frame leaves a logical port: bytes and whether it was stomped -/
  | frame (lport : Nat) (bytes : List Byte) (stomped : Bool)
  | fragment (lport : Nat) (len : Nat) (last : Bool)
  | control (lport : Nat) (bytes : List Byte)
  /-- a pack-mode train of a plain Ethernet logical port begins (start block) or ends (terminate block and idle block) (R248) -/
  | train (lport : Nat) (start : Bool)
  /-- a verify or respond mPacket and its source address (R75, R90) -/
  | verify (lport : Nat) (addr : Nat) (respond : Bool)
  | unit (port : Nat) (pfx : List Byte) (body : List Byte)
  | flexeOh (group member : Nat) (oh : OhFrame)
  | clientBytes (client : Nat) (bytes : List Byte)
  | gapNotice (slice : Nat)
  | msix (vec : Nat)
  | completion (data : Word)
  | abort
  | coreFault (cluster : Nat) (code : Nat)
  | coreRead (cluster : Nat) (data : Nat)
  | stall (cluster : Nat) (ns : Nat)
  | twin (bytes : List Byte)
  | tap (data : List Byte)
  | bmc (data : List Byte)
  | nack
  | smbAlert (addr : Nat)
  | uart (b : Byte)
  | pin (name : String) (level : Bool)
  deriving DecidableEq, Repr

/-! ### Groups of state -/

/-- HI island and event collector (chapter 14). -/
structure HostSt where
  held : Map (List RegWrite)
  /-- window commands that wait, oldest first -/
  waits : List WinWait
  guards : Map (Option Guard)
  linkUp : Bool
  busMaster : Bool
  msixEnable : Bool
  perstLow : Bool
  msix : Map Msix
  pba : List Nat
  rings : Map RingSt
  fifos : Map Fifo
  punts : Map (List Punt)
  pairTurn : Map Bool
  winWait : Option Nat
  mem : Mem
  nonce : Option (List Byte)
  rights : Nat
  debugOpen : Bool
  debugLast : Nat
  lockout : Option Nat
  tap : TapInstr
  cells : List Bool
  frozen : Map Bool
  perfBase : Map Nat
  /-- sources whose rail pair is broken, and the levels that those of them with a level have taken since (R416) -/
  broken : List (Nat × Nat)
  brokenLevel : List (Nat × Nat × Bool)
  /-- instant of a physical port's last counter harvest (R89) -/
  harvestAt : Map (Option Nat)
  /-- DT second and index of its PERIOD at an island's last dump (R408) -/
  dumpAt : Map (Option (Nat × Nat))
  /-- ring pair that holds the turn of the deficit round robin, and the bytes left of its quantum (R399) -/
  drrPair : Nat
  drrLeft : Nat
  /-- weft slots won for each ring pair (R399) -/
  pairSlots : Map Nat
  deriving DecidableEq, Repr

/-- MAC, optics and ports (chapters 02, 03). -/
structure Ports where
  mac : Map Mac
  pitch : Map Pitch
  lanes : Map LaneSt
  wear : Map Wear
  /-- instant of the last whole powered hour credited to an engine's wear records (R50) -/
  wearHour : Map Nat
  spareNoted : Map Bool
  /-- spares in use or spent of an engine, as a set of bits; OE_STATUS shows it (R57, R60) -/
  spareUsed : Map Nat
  ucState : Map Nat
  deriving DecidableEq, Repr

/-- Classification and tables (chapters 04, 05). -/
structure Tables where
  rules : Map RuleEntry
  templates : Map Template
  meters : Map Meter
  master : TblCopy
  copies : List TblCopy
  copyQueue : List (List Update)
  /-- how many copies have still to apply each accepted update, oldest first -/
  waiting : List (Nat × Nat × SeqReq)
  requests : List (List SeqReq)
  filter : List (List (Nat × Option Nat))
  groupStatic : Map Nat
  groupSnoop : Map Nat
  members : Map (Option Nat)
  mirrorCount : Map Nat
  sweep : Nat
  /-- instant of the sweeper's last visit (R132), DT second of a slice's last member sweep (R123), and the instant at which the scrubber
  last read an entry, by slice, table and index (R139) -/
  sweptAt : Option Nat
  memberSec : Map (Option Nat)
  scrubbed : Map (Option Nat)
  /-- flushes under way, one for each window at most -/
  flushes : List Flush
  bdCount : Map (List Nat)
  dyn : Map Nat
  deriving DecidableEq, Repr

/-- Buffers, crossbar, scheduling (chapters 06 to 08). -/
structure Switch where
  voqs : Map Packer
  gptr7 : List Nat
  gptr : List Nat
  aptr7 : List Nat
  aptr : List Nat
  turn : Map Nat
  spray : Nat
  flight : List TimedCell
  withheld : Map Bool
  streams : Map Stream
  planeFails : List Nat
  planeWindow : Nat
  returning : List Bool
  efs : Map (Option EFrame)
  nextFid : Nat
  cellSets : Map (Nat × Nat)
  queues : Map Queue
  chains : Map (List Nat)
  injSide : Map (List InjMeta)
  voqUsed : Map Nat
  headroomUsed : Map Nat
  wstage : Map Nat
  rstage : Map Nat
  lfsr : Map Nat
  /-- the controller's present reset and test are of a stack that was out of service before (R347, R428) -/
  stackTest : List Bool
  derateDue : Bool
  stackSts : Map StackSt
  /-- pools that are full, key slice × 4 + pool (R161) -/
  poolFull : Map Bool
  /-- DT second at whose boundary the islands last latched their accounts (R173) -/
  auditSec : Option Nat
  audit : Option (List (Nat × Nat × Int))
  /-- islands fenced or in reset at the last audit boundary (R173) -/
  auditDark : List Nat
  schd : Map (List Word)
  nodes : Map Node
  scheds : Map PortSched
  gates : Map Gate
  samples : Map Sample
  deriving DecidableEq, Repr

/-- FlexE, pack mode and folding (chapter 09) and the fabric (chapter 10). -/
structure Trunk where
  flexe : Map Flexe
  clients : Map Client
  packs : Map Pack
  folds : Map Fold
  missCount : Map Nat
  links : Map Link
  srcStreams : Map (Option SrcStream)
  dstStreams : Map (Option FabStream)
  lost : Map (List (Nat × Nat × Nat))
  deliver : Map (List Cell)
  groupTurn : Map Nat
  /-- load levels and states of the links as published in the last cell time (R281) -/
  loads : Map LinkLoad
  /-- member words in force until the next cell time, of groups whose copy has changed (R281, R300) -/
  grpOld : Map (Option (List Word))
  deriving DecidableEq, Repr

/-- Device time and time bases (chapter 11). -/
structure TimeSt where
  dt : Time
  dtRes : Int
  tbs : Map TimeBase
  ppsLevel : Bool
  ppsEnd : Nat
  ppsLast : Option Int
  ppsInAt : Option Nat
  todTx : List Byte
  todDue : Option Nat
  todRx : List Byte
  todLost : Bool
  arrivals : Map (Nat × Nat)
  /-- DT is continued by the standby counter of the groundsheet island (R302, R428) -/
  standby : Bool
  /-- offset of the neighbour's DT as measured last, in 1/256 ns (R304) -/
  nbrOfs : Option Int
  deriving DecidableEq, Repr

/-- Clusters, lease, checkpoints, twin, pool, mailboxes (chapter 13). -/
structure Service where
  clusters : List ClusterSt
  lease : Lease
  slots : List Ckpt
  ckptBusy : Option (Nat × Ckpt)
  lastCommit : Nat
  restore : Option Nat
  swapFrom : Option Nat
  swapDueAt : Option Nat
  twin : Twin
  injQ : Map (List InjDesc)
  /-- a post that a full queue stalls, by 4 × cluster + pair (R365) -/
  injStalled : Map (Option InjDesc)
  /-- core pairs (cluster, pair) stalled on a read of an empty MB_TO_FW, oldest first (R405) -/
  fwReaders : List (Nat × Nat)
  portBucket : Map Bucket
  devBucket : Bucket
  bufs : Map Buf
  poolMem : Mem
  puntQ : List Nat
  toFw : List Nat
  toHost : List Nat
  toHostGap : Bool
  deriving DecidableEq, Repr

/-- Faults, resets, storage, power (chapters 15 to 17). -/
structure System where
  islands : Map IslandSt
  blocks : Map Block
  planeGuy : List (Option Nat)
  /-- severity actions due: page, source, severity; taken before the command ends (R418) -/
  due : List (Nat × Nat × Nat)
  tripPersist : Bool
  /-- the last edge of the slow clock at which the slow-domain copies were taken (R393) -/
  slowAt : Nat
  nv : Nv
  boot : Boot
  power : Power
  deriving DecidableEq, Repr

/-- The state of the block. -/
structure State where
  /-- elapsed nanoseconds since standby power: the model's clock -/
  now : Nat
  /-- free values read so far (model's own) -/
  free : Nat
  pending : List Instr
  out : List Out
  /-- applied value of every register, by BAR0 address -/
  regs : Map Word
  /-- writes in the shadow, by BAR0 address (R387) -/
  shadow : Map Word
  /-- latched high words and latched values, by BAR0 address (R87, R110) -/
  latch : Map Word
  /-- counters, by the BAR0 address of their low word (R86, R110) -/
  ctrs : Map Nat
  host : HostSt
  ports : Ports
  tables : Tables
  sw : Switch
  trunk : Trunk
  time : TimeSt
  loom : Map Loom
  svc : Service
  sys : System
  deriving DecidableEq, Repr

/-! ### Reset

The state when standby power has just risen (R454 step 1 follows). Maps hold nothing: a key that is not listed has the value its
default names (Machine/Ops.lean and Machine/RegMap.lean). DESIGN CHOICE values are named in the assumption log. -/

def TblCopy.empty : TblCopy :=
  { lport := [], vxlt := [], bd := [], mac := [], route := [], gmask := [], mirror := [], linkGroup := [], lenFilter := 0, hit := [] }

def ClusterSt.reset : ClusterSt :=
  { blocked := false, clockGated := false, marks := [], sram := [], window := [], touched := [], desc := [] }

def Ckpt.empty : Ckpt :=
  { committed := false, seq := 0, epoch := 0, pages := [], sram := [], window := [], mwVersion := 0 }

def NvSlot.empty : NvSlot := { state := 0, svn := 0, mw := 0, uc := 0, length := 0, pages := [] }

def HostSt.reset : HostSt :=
  { held := [], waits := [], guards := [], linkUp := false, busMaster := false, msixEnable := false, perstLow := true, msix := []
    pba := [], rings := [], fifos := [], punts := [], pairTurn := [], winWait := none, mem := [], nonce := none
    rights := 0, debugOpen := false, debugLast := 0, lockout := none, tap := .idcode, cells := [], frozen := [], perfBase := []
    broken := [], brokenLevel := [], harvestAt := [], dumpAt := [], drrPair := 0, drrLeft := 0, pairSlots := [] }

def Ports.reset : Ports := { mac := [], pitch := [], lanes := [], wear := [], wearHour := [], spareNoted := [], spareUsed := [], ucState := [] }

def Tables.reset : Tables :=
  { rules := [], templates := [], meters := [], master := TblCopy.empty, copies := List.replicate 8 TblCopy.empty
    copyQueue := List.replicate 8 [], waiting := [], requests := List.replicate 8 [], filter := List.replicate 8 []
    groupStatic := [], groupSnoop := [], members := [], mirrorCount := [], sweep := 0, sweptAt := none
    memberSec := [], scrubbed := [], flushes := [], bdCount := [], dyn := [] }

def Switch.reset : Switch :=
  { voqs := [], gptr7 := List.replicate 8 0, gptr := List.replicate 8 0, aptr7 := List.replicate 8 0, aptr := List.replicate 8 0
    turn := [], spray := 0, flight := [], withheld := [], streams := [], planeFails := List.replicate 4 0
    planeWindow := 0, returning := List.replicate 4 false, efs := [], nextFid := 1, cellSets := [], queues := [], chains := []
    injSide := [], voqUsed := [], headroomUsed := [], wstage := [], rstage := [], lfsr := []
    stackTest := List.replicate 8 false, derateDue := false, stackSts := [], poolFull := [], auditSec := none, audit := none, auditDark := [], schd := [], nodes := [], scheds := [], gates := []
    samples := [] }

def Trunk.reset : Trunk :=
  { flexe := [], clients := [], packs := [], folds := [], missCount := [], links := [], srcStreams := [], dstStreams := []
    lost := [], deliver := [], groupTurn := [], loads := [], grpOld := [] }

def TimeSt.reset : TimeSt :=
  { dt := 0, dtRes := 0, tbs := [], ppsLevel := false, ppsEnd := 0, ppsLast := none, ppsInAt := none, todTx := []
    todDue := none, todRx := [], todLost := false, arrivals := [], standby := true, nbrOfs := none }

def Service.reset : Service :=
  { clusters := [ClusterSt.reset, ClusterSt.reset]
    lease := { holder := none, epoch := 0, expiry := 0, lastEnd := none, lastHolder := none, next := 0, since := 0
               takeoverFrom := 0, renewed := 0, guardOpen := true }
    slots := [Ckpt.empty, Ckpt.empty], ckptBusy := none, lastCommit := 0, restore := none, swapFrom := none, swapDueAt := none
    twin := { role := 0, linkUp := false, peerRole := 0, peerId := 0, expiry := 0, record := 0, renewSentAt := 0, statusAt := none, renewAt := none, listenEnd := 0
              listens := 0, renewSeen := false, lastFrame := 0, releaseEnd := none, epoch := 0, holdIn := false
              holdOut := false, holdLowSince := none, holdSampleAt := none, holdReleaseAt := none }
    injQ := [], injStalled := [], fwReaders := [], portBucket := [], devBucket := { tok := 262144 * 4096, res := 0, last := 0 }, bufs := [], poolMem := []
    puntQ := [], toFw := [], toHost := [], toHostGap := false }

def Nv.reset : Nv :=
  { slots := [NvSlot.empty, NvSlot.empty], objs := [], ckpt := [Ckpt.empty, Ckpt.empty], ckptCopy := none, lastCkptCopy := 0
    journal := [], openPage := [], openAt := 0, journalSeq := 0, powerFail := false, mounted := false, cmds := [], spare := 10240
    maxErase := 0, moduleId := 0, baseMac := 0, calGood := true, engineCalGood := List.replicate 32 true, calPoints := [], wear := []
    svnFloor := 0, debugKeyDigest := [], rootKeyDigest := [] }

def System.reset : System :=
  { islands := [], blocks := [], planeGuy := List.replicate 4 none, due := [], tripPersist := false, slowAt := 0, nv := Nv.reset
    boot := { phase := 0, slot := 0, cause := 0, bivouac := false, trialEnd := none, ucVersion := 0, mwVersion := 0, diag := none
              warm := false, bivNext := false }
    power := { vsb := false, vin := false, rails := false, below6 := true, resetNLow := false, vinReturned := false
               thermTripLow := false, alert := 0, readAt := none, temp := 0, tempIsland := 53, vin12mV := 0, vin12dA := 0, vsb33mV := 0
               powerW := 0 } }

/-- The machine right after reset (R386, R427, and each chapter's reset columns). -/
def State.reset : State :=
  { now := 0, free := 0, pending := [], out := [], regs := [], shadow := [], latch := [], ctrs := [], host := HostSt.reset
    ports := Ports.reset, tables := Tables.reset, sw := Switch.reset, trunk := Trunk.reset, time := TimeSt.reset, loom := []
    svc := Service.reset, sys := System.reset }

end Sys2Proof.Machine
end

