-- ==== Sys2Proof/Machine/RegMap.lean ====
section
/-! DEFINITION. The register map (R384 to R387 and the page layouts of every chapter): the pages of BAR0, each page's registers with
their writable bits, implemented bits and reset values, and a named field for every field of the spec's register tables.
Counters (64-bit, or 48-bit in PORT and OENG) take two words; they live in `State.ctrs`. -/

namespace Sys2Proof.Machine

/-- The page layouts. XBAR, DEEP, FABR and FLXE pages have one layout for slices (or groups) and one for their last instance. -/
inductive PageTy where
  | devc | host | fltc | nvst | time | tbls | svcc | twin | pool | msixTable | msixPba | slce | clsf | metr | schd | pack
  | xbarS | xbarM | deepS | deepT | fabrS | fabrM | loom | oeng | flxeG | flxeC | perf | port
  deriving DecidableEq, Repr

/-- How a register takes a write: `cfg` through the shadow (R387), `now` at once (window registers and those a chapter names),
`ro` not at all, `wg` under the guard (R389), `ctr` and `ctrHi` the words of a counter. -/
inductive RegKind where
  | cfg | now | ro | wg | ctr | ctrHi
  deriving DecidableEq, Repr

/-- A register, or an array of registers: offset, (stride, count) of each dimension, kind, writable bits, implemented bits, reset. -/
structure RegRow where
  off : Nat
  dims : List (Nat × Nat)
  kind : RegKind
  wm : Nat
  im : Nat
  rst : Nat
  deriving DecidableEq, Repr

/-- A field: offset of its register in the page, lowest bit, width. -/
structure Fld where
  off : Nat
  lo : Nat
  w : Nat
  deriving DecidableEq, Repr

/-- The field in the register `d` bytes further on. -/
def Fld.sh (f : Fld) (d : Nat) : Fld := { f with off := f.off + d }

/-! ### Page numbers (R384) -/

def devcPage : Nat := 0x000
def hostPage : Nat := 0x001
def fltcPage : Nat := 0x002
def nvstPage : Nat := 0x003
def timePage : Nat := 0x004
def tblsPage : Nat := 0x005
def svccPage : Nat := 0x006
def twinPage : Nat := 0x007
def poolPage : Nat := 0x008
def slcePage (i : Nat) : Nat := 0x010 + i
def clsfPage (i : Nat) : Nat := 0x018 + i
def metrPage (i : Nat) : Nat := 0x020 + i
def schdPage (i : Nat) : Nat := 0x028 + i
def packPage (i : Nat) : Nat := 0x030 + i
def xbarPage (i : Nat) : Nat := 0x038 + i
def deepPage (i : Nat) : Nat := 0x048 + i
def fabrPage (i : Nat) : Nat := 0x058 + i
def loomPage (i : Nat) : Nat := 0x068 + i
def oengPage (i : Nat) : Nat := 0x080 + i
def flxePage (i : Nat) : Nat := 0x0A0 + i
def perfPage (i : Nat) : Nat := 0x100 + i
def portPage (i : Nat) : Nat := 0x200 + i

/-- What page number `n` is: its layout and instance; none for a reserved page (R384). -/
def pageOf (n : Nat) : Option (PageTy × Nat) :=
  if n = 0 then some (.devc, 0) else if n = 1 then some (.host, 0) else if n = 2 then some (.fltc, 0)
  else if n = 3 then some (.nvst, 0) else if n = 4 then some (.time, 0) else if n = 5 then some (.tbls, 0)
  else if n = 6 then some (.svcc, 0) else if n = 7 then some (.twin, 0) else if n = 8 then some (.pool, 0)
  else if n = 9 then some (.msixTable, 0) else if n = 10 then some (.msixPba, 0)
  else if n < 0x10 then none
  else if n < 0x18 then some (.slce, n - 0x10) else if n < 0x20 then some (.clsf, n - 0x18)
  else if n < 0x28 then some (.metr, n - 0x20) else if n < 0x30 then some (.schd, n - 0x28)
  else if n < 0x38 then some (.pack, n - 0x30) else if n < 0x40 then some (.xbarS, n - 0x38)
  else if n = 0x40 then some (.xbarM, 8) else if n < 0x48 then none
  else if n < 0x50 then some (.deepS, n - 0x48) else if n = 0x50 then some (.deepT, 8) else if n < 0x58 then none
  else if n < 0x60 then some (.fabrS, n - 0x58) else if n = 0x60 then some (.fabrM, 8) else if n < 0x68 then none
  else if n < 0x7B then some (.loom, n - 0x68) else if n < 0x80 then none
  else if n < 0xA0 then some (.oeng, n - 0x80) else if n < 0xC0 then some (.flxeG, n - 0xA0)
  else if n = 0xC0 then some (.flxeC, 32) else if n < 0x100 then none
  else if n < 0x136 then some (.perf, n - 0x100) else if n < 0x200 then none
  else if n < 0x300 then some (.port, n - 0x200) else none

/-- TYPE of PAGE_ID (R384). -/
def PageTy.code : PageTy → Nat
  | .devc => 1 | .slce => 2 | .port => 3 | .oeng => 4 | .xbarS => 5 | .xbarM => 5 | .deepS => 6 | .deepT => 6 | .tbls => 7
  | .clsf => 8 | .metr => 9 | .schd => 10 | .flxeG => 11 | .flxeC => 11 | .pack => 12 | .fabrS => 13 | .fabrM => 13 | .time => 14
  | .loom => 15 | .svcc => 16 | .twin => 17 | .pool => 18 | .host => 19 | .fltc => 20 | .nvst => 21 | .perf => 22
  | .msixTable => 0 | .msixPba => 0

/-- Boundary kind of a page (R387). -/
def PageTy.kind : PageTy → Nat
  | .port => 0 | .clsf => 0
  | .slce => 1 | .schd => 1 | .pack => 1 | .loom => 1 | .xbarS => 1 | .deepS => 1 | .fabrS => 1
  | .flxeG => 2
  | .time => 3
  | .devc => 4 | .host => 4 | .fltc => 4 | .nvst => 4 | .metr => 4 | .tbls => 4 | .xbarM => 4 | .deepT => 4 | .flxeC => 4
  | .fabrM => 4 | .twin => 4 | .pool => 4 | .perf => 4 | .msixTable => 4 | .msixPba => 4
  | .oeng => 5
  | .svcc => 6

/-- Bits of the implemented event sources of a page (the event tables of R62 to R461). -/
def PageTy.sources : PageTy → Nat
  | .oeng => 0x1FFFFFF | .port => 0x1FFF | .clsf => 0x7 | .metr => 0x3 | .tbls => 0x3F | .deepS => 0x1F | .deepT => 0x1FFF
  | .schd => 0x7F | .xbarS => 0x3F | .xbarM => 0x1F | .flxeG => 0xFF | .flxeC => 0 | .pack => 0x3F | .fabrS => 0x7F
  | .fabrM => 0x7 | .time => 0xFFFF | .loom => 0x7 | .svcc => 0xFFFF | .twin => 0xF | .pool => 0 | .host => 0x1F
  | .perf => 0 | .devc => 0x3 | .slce => 0x1F | .fltc => 0x3F | .nvst => 0xFF | .msixTable => 0 | .msixPba => 0

/-- Default severity of a source (the event tables and R434). -/
def PageTy.sev (t : PageTy) (n : Nat) : Nat :=
  let notify (m : Nat) : Nat := if m.testBit n then 1 else 0
  match t with
  | .oeng => if n = 22 then 2 else notify 0x1BDFFFF
  | .port => notify 0x1FFF
  | .clsf => notify 0x4
  | .metr => notify 0x2
  | .tbls => notify 0xA
  | .deepS => notify 0x14
  | .deepT => notify 0xBFF
  | .schd => notify 0x2A
  | .xbarS => notify 0x32
  | .xbarM => notify 0xF
  | .flxeG => notify 0xF5
  | .pack => notify 0x36
  | .fabrS => notify 0x6D
  | .fabrM => notify 0x6
  | .time => notify 0x70FF
  | .loom => notify 0x2
  | .svcc => if 2 ≤ n ∧ n ≤ 5 then 2 else notify 0x8B82
  | .twin => notify 0xF
  | .host => notify 0x17
  | .devc => if n = 1 then 2 else notify 0x1
  | .slce => if n = 2 ∨ n = 3 then 2 else notify 0x2
  | .fltc => if n = 4 ∨ n = 5 then 3 else notify 0xD
  | .nvst => notify 0x3E
  | _ => 0

/-- The island a page belongs to (R384); none where it depends on the state (FLXE 0 to 31). -/
def pageIsland (t : PageTy) (i : Nat) : Option Nat :=
  match t with
  | .devc | .host | .fltc | .svcc | .pool | .msixTable | .msixPba | .deepT | .flxeC => some 52
  | .nvst | .twin => some 53
  | .time => some 51
  | .tbls | .xbarM | .fabrM => some 8
  | .slce | .clsf | .metr | .schd | .pack | .xbarS | .deepS | .fabrS => some i
  | .loom => some (if i < 8 then i else if i < 16 then i + 1 else 52)
  | .oeng => some (17 + i)
  | .flxeG => none
  | .perf => some i
  | .port => some (i / 32)

/-! ### Register rows (R59, R90, R110, R113, R141, R174, R177, R202, R229, R231, R261, R263, R265, R298, R300, R322, R339, R373,
R375, R376, R385, R411, R414, R436, R438, R439, R460) -/

def devcRows : List RegRow :=
  [ ⟨0x80, [], .ro, 0x0, 0x1FFFF, 0xC0⟩,
    ⟨0x84, [], .ro, 0x0, 0x8000007F, 0x0⟩,
    ⟨0x100, [(0x4, 54)], .ro, 0x0, 0xF000FF3F, 0x5⟩ ]

def hostRows : List RegRow :=
  [ ⟨0x80, [], .cfg, 0xFFFF, 0x8000FFFF, 0x2520⟩,
    ⟨0x84, [], .ro, 0x0, 0x1FF, 0x0⟩,
    ⟨0x88, [], .ro, 0x0, 0xBFFFFFFF, 0x0⟩,
    ⟨0x8C, [], .ro, 0x0, 0x9FFFFFFF, 0x0⟩,
    ⟨0x90, [], .cfg, 0x7FF, 0x7FF, 0x464⟩,
    ⟨0xA0, [(0x8, 8)], .ctr, 0x0, 0xFFFFFFFF, 0x0⟩,
    ⟨0xA4, [(0x8, 8)], .ctrHi, 0x0, 0xFFFFFFFF, 0x0⟩,
    ⟨0x100, [], .ro, 0x0, 0x7, 0x4⟩,
    ⟨0x104, [(0x4, 8)], .ro, 0x0, 0xFFFFFFFF, 0x0⟩,
    ⟨0x200, [(0x40, 37)], .cfg, 0xFFFFFFFF, 0xFFFFFFFF, 0x0⟩,
    ⟨0x204, [(0x40, 37)], .cfg, 0xFFFFFFFF, 0xFFFFFFFF, 0x0⟩,
    ⟨0x208, [(0x40, 37)], .cfg, 0x1FFFF, 0x7FFFF, 0x200C⟩,
    ⟨0x20C, [(0x40, 37)], .cfg, 0xFFFFFFFF, 0xFFFFFFFF, 0x0⟩,
    ⟨0x210, [(0x40, 37)], .ro, 0x0, 0xFFFFFFFF, 0x0⟩,
    ⟨0x214, [(0x40, 37)], .cfg, 0xFFFFFFFF, 0xFFFFFFFF, 0x0⟩,
    ⟨0x218, [(0x40, 37)], .cfg, 0xFFFFFFFF, 0xFFFFFFFF, 0x0⟩,
    ⟨0x21C, [(0x40, 37)], .cfg, 0xFFFFFFFF, 0xFFFFFFFF, 0xA0001⟩,
    ⟨0x228, [(0x40, 37)], .ctr, 0x0, 0xFFFFFFFF, 0x0⟩,
    ⟨0x22C, [(0x40, 37)], .ctrHi, 0x0, 0xFFFFFFFF, 0x0⟩,
    ⟨0xC00, [(0x4, 5)], .cfg, 0xFFFF, 0xFFFFFFFF, 0x0⟩,
    ⟨0xC20, [], .ro, 0x0, 0x7FFF, 0x4000⟩,
    ⟨0xE00, [], .wg, 0x1, 0x1, 0x0⟩ ]

def fltcRows : List RegRow :=
  [ ⟨0x80, [], .cfg, 0xFFFF, 0xC000FFFF, 0x3C3⟩,
    ⟨0x84, [], .cfg, 0x7FFF, 0x7FFF, 0x4064⟩,
    ⟨0x88, [], .ro, 0x0, 0x800FFFFF, 0x0⟩,
    ⟨0x8C, [], .ro, 0x0, 0xFFFFFFFF, 0x0⟩,
    ⟨0x90, [], .ro, 0x0, 0x3FFFFFFF, 0x0⟩,
    ⟨0x94, [], .ro, 0x0, 0x7F, 0x9⟩,
    ⟨0x98, [], .ro, 0x0, 0x800FFFFF, 0x0⟩,
    ⟨0x9C, [], .ro, 0x0, 0xF0003FFF, 0x0⟩,
    ⟨0xA0, [(0x8, 5)], .ctr, 0x0, 0xFFFFFFFF, 0x0⟩,
    ⟨0xA4, [(0x8, 5)], .ctrHi, 0x0, 0xFFFFFFFF, 0x0⟩,
    ⟨0x100, [(0x4, 54)], .ro, 0x0, 0x7F, 0x0⟩,
    ⟨0xE00, [], .wg, 0x1FF, 0x1FF, 0x0⟩,
    ⟨0xE04, [], .wg, 0x3, 0x3, 0x0⟩ ]

def nvstRows : List RegRow :=
  [ ⟨0x80, [], .cfg, 0x1FFFFFF, 0x81FFFFFF, 0xB4169⟩,
    ⟨0x84, [], .cfg, 0xFFFF80, 0xF0FFFFFF, 0x25800⟩,
    ⟨0x90, [(0x10, 2)], .ro, 0x0, 0x7FFFF, 0x0⟩,
    ⟨0x94, [(0x10, 2)], .ro, 0x0, 0xFFFFFFFF, 0x0⟩,
    ⟨0x98, [(0x10, 2)], .ro, 0x0, 0xFFFFFFFF, 0x0⟩,
    ⟨0xB0, [], .ro, 0x0, 0xFFFF, 0x0⟩,
    ⟨0xB4, [], .ro, 0x0, 0xFFFFFFFF, 0x0⟩,
    ⟨0xC0, [(0x8, 4)], .ctr, 0x0, 0xFFFFFFFF, 0x0⟩,
    ⟨0xC4, [(0x8, 4)], .ctrHi, 0x0, 0xFFFFFFFF, 0x0⟩,
    ⟨0x100, [], .now, 0xFFFFF, 0x407FFFFF, 0x0⟩,
    ⟨0x104, [], .cfg, 0xFFFFFFFF, 0xFFFFFFFF, 0x0⟩,
    ⟨0x110, [], .now, 0x3, 0x4000001F, 0x0⟩,
    ⟨0x114, [], .cfg, 0xFFFFFFFF, 0xFFFFFFFF, 0x0⟩,
    ⟨0x118, [], .cfg, 0x3FFF, 0x3FFF, 0x0⟩,
    ⟨0x11C, [], .cfg, 0xFFFFFFFF, 0xFFFFFFFF, 0x0⟩,
    ⟨0x120, [], .cfg, 0xFFFF, 0xFFFF, 0x0⟩,
    ⟨0x130, [], .now, 0x7F, 0x7F, 0x0⟩,
    ⟨0x134, [], .ro, 0x0, 0xFF, 0x0⟩,
    ⟨0xE00, [], .wg, 0xFFFF, 0xFFFF, 0x0⟩ ]

def timeRows : List RegRow :=
  [ ⟨0x80, [], .cfg, 0x0, 0x80000000, 0x0⟩,
    ⟨0x84, [], .cfg, 0xFFF, 0xFFF, 0x0⟩,
    ⟨0x88, [], .ro, 0x0, 0x1FFFFFF, 0x1000000⟩,
    ⟨0x90, [], .ro, 0x0, 0xFFFFFFFF, 0x0⟩,
    ⟨0x94, [], .ro, 0x0, 0xFFFFFFFF, 0x0⟩,
    ⟨0x98, [], .ro, 0x0, 0x3FFFFFFF, 0x0⟩,
    ⟨0x9C, [], .ro, 0x0, 0xFFFF, 0x0⟩,
    ⟨0xA0, [], .now, 0xFFFFFFFF, 0xFFFFFFFF, 0x0⟩,
    ⟨0xA4, [], .now, 0xFFFFFFFF, 0xFFFFFFFF, 0x0⟩,
    ⟨0xA8, [], .now, 0x3FFFFFFF, 0x3FFFFFFF, 0x0⟩,
    ⟨0x100, [], .cfg, 0xFFFFFF, 0xFFFFFF, 0xC98⟩,
    ⟨0x104, [], .cfg, 0xFFFFFFFF, 0xFFFFFFFF, 0x0⟩,
    ⟨0x108, [], .cfg, 0x3F, 0x3F, 0x0⟩,
    ⟨0x10C, [], .cfg, 0xFFFFFFFF, 0xFFFFFFFF, 0x0⟩,
    ⟨0x110, [], .cfg, 0x1FFFFFF, 0x1FFFFFF, 0x18⟩,
    ⟨0x114, [], .now, 0xFF, 0xFF, 0x0⟩,
    ⟨0x118, [], .ro, 0x0, 0x3FF, 0x100⟩,
    ⟨0x11C, [], .cfg, 0x7FF, 0x7FF, 0x0⟩,
    ⟨0x120, [], .ro, 0x0, 0x7, 0x0⟩,
    ⟨0x200, [(0x80, 4)], .cfg, 0x1FFF, 0x1FFF, 0x19C6⟩,
    ⟨0x204, [(0x80, 4)], .cfg, 0xFFFFFFFF, 0xFFFFFFFF, 0x2710⟩,
    ⟨0x208, [(0x80, 4)], .cfg, 0xFFFFFFFF, 0xFFFFFFFF, 0x3E80BB8⟩,
    ⟨0x20C, [(0x80, 4)], .ro, 0x0, 0xFFF7F, 0x0⟩,
    ⟨0x210, [(0x80, 4)], .ro, 0x0, 0xFFFFFFFF, 0x0⟩,
    ⟨0x214, [(0x80, 4)], .ro, 0x0, 0xFFFFFFFF, 0x0⟩,
    ⟨0x218, [(0x80, 4)], .ro, 0x0, 0xFFFFFFFF, 0x0⟩,
    ⟨0x21C, [(0x80, 4)], .ro, 0x0, 0x3FFFFFFF, 0x0⟩,
    ⟨0x220, [(0x80, 4)], .ro, 0x0, 0xFFFF, 0x0⟩,
    ⟨0x224, [(0x80, 4)], .ro, 0x0, 0xFFFFFFFF, 0x0⟩,
    ⟨0x228, [(0x80, 4)], .ro, 0x0, 0x3FFFFFFF, 0x0⟩,
    ⟨0x230, [(0x80, 4), (0x4, 2)], .now, 0xFFFFFFFF, 0xFFFFFFFF, 0x0⟩,
    ⟨0x238, [(0x80, 4)], .now, 0xFFFFFFFF, 0xFFFFFFFF, 0x0⟩,
    ⟨0x23C, [(0x80, 4)], .now, 0xFFFFFFFF, 0xFFFFFFFF, 0x0⟩,
    ⟨0x240, [(0x80, 4)], .now, 0x7, 0x7, 0x0⟩,
    ⟨0x400, [(0x4, 256)], .cfg, 0xFFFFFF, 0xFFFFFF, 0x4⟩,
    ⟨0x800, [(0x4, 256)], .cfg, 0x1FFFFFF, 0x1FFFFFF, 0x1000000⟩,
    ⟨0xC00, [], .cfg, 0xFF, 0xFF, 0x0⟩,
    ⟨0xC08, [(0x8, 2)], .ctr, 0x0, 0xFFFFFFFF, 0x0⟩,
    ⟨0xC0C, [(0x8, 2)], .ctrHi, 0x0, 0xFFFFFFFF, 0x0⟩,
    ⟨0xE00, [], .wg, 0x1, 0x1, 0x0⟩ ] ++
  [ ⟨0xE04, [], .wg, 0x3F, 0x3F, 0x0⟩ ]

def tblsRows : List RegRow :=
  [ ⟨0x80, [], .cfg, 0x0, 0x80000000, 0x0⟩,
    ⟨0x84, [], .cfg, 0xFFFF, 0xFFFF, 0x64⟩,
    ⟨0x88, [], .cfg, 0x7FFF, 0x7FFF, 0x104⟩,
    ⟨0x8C, [], .cfg, 0xFFFF, 0xFFFF, 0x3E8⟩,
    ⟨0x90, [(0x4, 2)], .cfg, 0x1FFFF, 0x1FFFF, 0x0⟩,
    ⟨0x98, [], .ro, 0x0, 0x3FFFFFF, 0x0⟩,
    ⟨0x9C, [], .ro, 0x0, 0xFFFFFFFF, 0x0⟩,
    ⟨0xA0, [], .ro, 0x0, 0x1, 0x0⟩,
    ⟨0xA4, [], .ro, 0x0, 0x8FFFFFFF, 0x0⟩,
    ⟨0xA8, [], .ro, 0x0, 0xFFFFF, 0x0⟩,
    ⟨0x100, [(0x8, 14)], .ctr, 0x0, 0xFFFFFFFF, 0x0⟩,
    ⟨0x104, [(0x8, 14)], .ctrHi, 0x0, 0xFFFFFFFF, 0x0⟩,
    ⟨0x200, [(0x10, 16), (0x8, 2)], .ctr, 0x0, 0xFFFFFFFF, 0x0⟩,
    ⟨0x204, [(0x10, 16), (0x8, 2)], .ctrHi, 0x0, 0xFFFFFFFF, 0x0⟩,
    ⟨0x400, [(0x80, 2)], .now, 0x7FFFFFF, 0x5FFFFFFF, 0x0⟩,
    ⟨0x404, [(0x80, 2), (0x4, 16)], .cfg, 0xFFFFFFFF, 0xFFFFFFFF, 0x0⟩,
    ⟨0xE00, [], .wg, 0xFF, 0xFF, 0x0⟩ ]

def svccRows : List RegRow :=
  [ ⟨0x80, [], .cfg, 0x0, 0x80000000, 0x0⟩,
    ⟨0x84, [], .cfg, 0x1FFFFFF, 0x1FFFFFF, 0x51432⟩,
    ⟨0x88, [], .ro, 0x0, 0xFFFFFFFF, 0x0⟩,
    ⟨0x8C, [(0x4, 2)], .ro, 0x0, 0x1FFFFFF, 0x0⟩,
    ⟨0x94, [], .cfg, 0x3FFF, 0x3FFF, 0x64⟩,
    ⟨0x98, [], .ro, 0x0, 0x1FFFFFFF, 0x0⟩,
    ⟨0x9C, [], .cfg, 0xFFFFF, 0xFFFFF, 0xF018⟩,
    ⟨0xA0, [], .cfg, 0xFFFF, 0xFFFF, 0x0⟩,
    ⟨0xA4, [], .ro, 0x0, 0xFFFF, 0x0⟩,
    ⟨0xA8, [], .ro, 0x0, 0xBFFFFFFF, 0x0⟩,
    ⟨0xB0, [(0x8, 7)], .ctr, 0x0, 0xFFFFFFFF, 0x0⟩,
    ⟨0xB4, [(0x8, 7)], .ctrHi, 0x0, 0xFFFFFFFF, 0x0⟩,
    ⟨0x100, [], .now, 0x7FFFF, 0xFFFFF, 0x0⟩,
    ⟨0x104, [], .now, 0x1, 0x1, 0x0⟩,
    ⟨0x108, [], .now, 0x7FFFF, 0x7FFFF, 0x0⟩,
    ⟨0x10C, [], .now, 0x7FFFFF, 0x7FFFFF, 0x0⟩,
    ⟨0x110, [], .now, 0xFFFFFFFF, 0xFFFFFFFF, 0x0⟩,
    ⟨0x114, [], .now, 0xFFFFFFFF, 0xFFFFFFFF, 0x0⟩,
    ⟨0x120, [(0x4, 4)], .now, 0xFFFFFFFF, 0xFFFFFFFF, 0x0⟩,
    ⟨0x130, [], .ro, 0x0, 0x7F, 0x0⟩,
    ⟨0xE00, [], .wg, 0xF, 0xF, 0x0⟩,
    ⟨0xE04, [], .wg, 0xFFFFFF, 0xFFFFFF, 0x9C43E8⟩,
    ⟨0xE08, [], .wg, 0xFFF, 0xFFF, 0x1F4⟩ ]

def twinRows : List RegRow :=
  [ ⟨0x80, [], .cfg, 0x7, 0x80000007, 0x0⟩,
    ⟨0x84, [], .cfg, 0x7FFFFF, 0x7FFFFF, 0x14C814⟩,
    ⟨0x88, [], .ro, 0x0, 0xF001FFFF, 0x0⟩,
    ⟨0x8C, [], .ro, 0x0, 0xFFFFFFFF, 0x0⟩,
    ⟨0x90, [], .ro, 0x0, 0xFFFFFFFF, 0x0⟩,
    ⟨0xA0, [(0x8, 4)], .ctr, 0x0, 0xFFFFFFFF, 0x0⟩,
    ⟨0xA4, [(0x8, 4)], .ctrHi, 0x0, 0xFFFFFFFF, 0x0⟩,
    ⟨0x100, [(0x4, 8)], .cfg, 0xFFFFFFFF, 0xFFFFFFFF, 0x0⟩,
    ⟨0xE00, [], .wg, 0x3, 0x3, 0x0⟩ ]

def poolRows : List RegRow :=
  [ ⟨0x80, [], .cfg, 0x0, 0x80000000, 0x0⟩,
    ⟨0x84, [(0x4, 4)], .ro, 0x0, 0xFFFFFF, 0x0⟩,
    ⟨0xA0, [(0x8, 4)], .ctr, 0x0, 0xFFFFFFFF, 0x0⟩,
    ⟨0xA4, [(0x8, 4)], .ctrHi, 0x0, 0xFFFFFFFF, 0x0⟩,
    ⟨0x100, [(0x80, 2)], .now, 0xFFFFF, 0x403FFFFF, 0x14⟩,
    ⟨0x104, [], .cfg, 0xFFFFFFFF, 0xFFFFFFFF, 0x0⟩,
    ⟨0x184, [], .now, 0xFFFFFFFF, 0xFFFFFFFF, 0x0⟩,
    ⟨0x200, [(0x10, 16), (0x4, 4)], .cfg, 0xFFFF, 0xFFFFFFFF, 0x0⟩ ]

def slceRows : List RegRow :=
  [ ⟨0x80, [], .cfg, 0x3FFF, 0x80003FFF, 0x64⟩,
    ⟨0x84, [], .ro, 0x0, 0x7FFFFF, 0x0⟩,
    ⟨0x88, [], .ro, 0x0, 0x8003FFFF, 0x0⟩,
    ⟨0x90, [(0x8, 2)], .ctr, 0x0, 0xFFFFFFFF, 0x0⟩,
    ⟨0x94, [(0x8, 2)], .ctrHi, 0x0, 0xFFFFFFFF, 0x0⟩ ]

def clsfRows : List RegRow :=
  [ ⟨0x80, [], .cfg, 0x1, 0x80000001, 0x0⟩,
    ⟨0x84, [], .ro, 0x0, 0xFFFF, 0x0⟩,
    ⟨0x88, [], .ro, 0x0, 0x80003FFF, 0x0⟩,
    ⟨0x90, [(0x8, 6)], .ctr, 0x0, 0xFFFFFFFF, 0x0⟩,
    ⟨0x94, [(0x8, 6)], .ctrHi, 0x0, 0xFFFFFFFF, 0x0⟩,
    ⟨0x100, [], .now, 0xFF, 0x400000FF, 0x0⟩,
    ⟨0x104, [], .cfg, 0x1, 0x1, 0x0⟩,
    ⟨0x108, [(0x4, 16)], .cfg, 0x3FFFF, 0x3FFFF, 0x0⟩,
    ⟨0x180, [(0x100, 2)], .now, 0x3FFFF, 0xC007FFFF, 0x0⟩,
    ⟨0x184, [(0x100, 2), (0x4, 16)], .cfg, 0xFFFFFFFF, 0xFFFFFFFF, 0x0⟩,
    ⟨0x1C4, [(0x100, 2), (0x4, 16)], .cfg, 0xFFFFFFFF, 0xFFFFFFFF, 0x0⟩,
    ⟨0x204, [(0x100, 2)], .cfg, 0xFFFFFFFF, 0xFFFFFFFF, 0x0⟩,
    ⟨0x208, [(0x100, 2)], .cfg, 0xFFFFFFFF, 0xFFFFFFFF, 0x0⟩,
    ⟨0x20C, [(0x100, 2)], .cfg, 0xF, 0xF, 0x0⟩,
    ⟨0x210, [(0x100, 2)], .cfg, 0x0, 0x0, 0x0⟩,
    ⟨0x214, [(0x100, 2), (0x4, 2)], .ro, 0x0, 0xFFFFFFFF, 0x0⟩,
    ⟨0x400, [(0x40, 16), (0x4, 8)], .cfg, 0x7FFFFF, 0x7FFFFF, 0x0⟩,
    ⟨0x420, [(0x40, 16)], .cfg, 0x7F, 0x7F, 0x40⟩,
    ⟨0x800, [(0x10, 32)], .cfg, 0xFFFFFFFF, 0xFFFFFFFF, 0x0⟩,
    ⟨0x804, [(0x10, 32)], .cfg, 0xFFFFFFFF, 0xFFFFFFFF, 0x0⟩,
    ⟨0x808, [(0x10, 32)], .cfg, 0xF, 0xF, 0x0⟩,
    ⟨0x80C, [(0x10, 32)], .cfg, 0x0, 0x0, 0x0⟩,
    ⟨0xA00, [(0x8, 128)], .cfg, 0x3FFF, 0x3FFF, 0x0⟩,
    ⟨0xA04, [(0x8, 128)], .cfg, 0xFFFFFF, 0xFFFFFF, 0xFAC688⟩,
    ⟨0xE00, [], .wg, 0x1FFFFFFF, 0x1FFFFFFF, 0x0⟩ ]

def metrRows : List RegRow :=
  [ ⟨0x80, [], .cfg, 0x0, 0x80000000, 0x0⟩,
    ⟨0x90, [(0x8, 2)], .ctr, 0x0, 0xFFFFFFFF, 0x0⟩,
    ⟨0x94, [(0x8, 2)], .ctrHi, 0x0, 0xFFFFFFFF, 0x0⟩,
    ⟨0xA0, [], .ro, 0x0, 0x80007FFF, 0x0⟩,
    ⟨0x100, [], .now, 0x1FFFF, 0x4001FFFF, 0x0⟩,
    ⟨0x104, [], .cfg, 0xFFFFFF, 0xFFFFFF, 0x0⟩,
    ⟨0x108, [], .cfg, 0xFFFFFF, 0xFFFFFF, 0x0⟩,
    ⟨0x10C, [], .cfg, 0xFFFFFF, 0xFFFFFF, 0x0⟩,
    ⟨0x110, [], .cfg, 0xFFFFFF, 0xFFFFFF, 0x0⟩,
    ⟨0x114, [], .cfg, 0x3FF, 0x3FF, 0x0⟩,
    ⟨0x120, [(0x10, 3), (0x8, 2)], .ctr, 0x0, 0xFFFFFFFF, 0x0⟩,
    ⟨0x124, [(0x10, 3), (0x8, 2)], .ctrHi, 0x0, 0xFFFFFFFF, 0x0⟩,
    ⟨0x150, [], .ro, 0x0, 0xFFFFFF, 0x0⟩,
    ⟨0x154, [], .ro, 0x0, 0xFFFFFF, 0x0⟩ ]

def schdRows : List RegRow :=
  [ ⟨0x80, [], .cfg, 0x0, 0x80000000, 0x0⟩,
    ⟨0x84, [], .cfg, 0x1FFFFF, 0x1FFFFF, 0x3E8⟩,
    ⟨0x90, [(0x8, 3)], .ctr, 0x0, 0xFFFFFFFF, 0x0⟩,
    ⟨0x94, [(0x8, 3)], .ctrHi, 0x0, 0xFFFFFFFF, 0x0⟩,
    ⟨0x100, [], .now, 0x1FFFFF, 0x407FFFFF, 0x0⟩,
    ⟨0x104, [(0x4, 8)], .cfg, 0xFFFFFFFF, 0xFFFFFFFF, 0x0⟩,
    ⟨0x200, [(0x10, 32)], .ro, 0x0, 0x1FFFFF, 0xFF⟩,
    ⟨0x204, [(0x10, 32)], .ro, 0x0, 0xFFFFFFFF, 0x0⟩,
    ⟨0x208, [(0x10, 32)], .ro, 0x0, 0x3FFFFFFF, 0x0⟩ ]

def packRows : List RegRow :=
  [ ⟨0x80, [], .cfg, 0x0, 0x80000000, 0x0⟩,
    ⟨0x84, [], .cfg, 0x1FFFFF, 0x1FFFFF, 0x400⟩,
    ⟨0x100, [(0x4, 128)], .cfg, 0x1FF, 0x1FF, 0xE0⟩,
    ⟨0x300, [(0x10, 4)], .ro, 0x0, 0xFFFFFFF, 0x2000000⟩,
    ⟨0x304, [(0x10, 4)], .now, 0xFF07, 0xFF07, 0x0⟩,
    ⟨0x400, [(0x80, 2)], .now, 0x1FFFFF, 0x407FFFFF, 0x0⟩,
    ⟨0x404, [(0x80, 2), (0x4, 6)], .cfg, 0xFFFFFFFF, 0xFFFFFFFF, 0x0⟩,
    ⟨0x41C, [(0x80, 2)], .cfg, 0x3FFF, 0x1FFFF, 0x0⟩,
    ⟨0x500, [], .cfg, 0x7F, 0x7F, 0x0⟩,
    ⟨0x508, [(0x8, 14)], .ctr, 0x0, 0xFFFFFFFF, 0x0⟩,
    ⟨0x50C, [(0x8, 14)], .ctrHi, 0x0, 0xFFFFFFFF, 0x0⟩,
    ⟨0xE00, [], .wg, 0xF, 0xF, 0x0⟩ ]

def xbarSRows : List RegRow :=
  [ ⟨0x80, [], .cfg, 0xF, 0x8000000F, 0x1⟩,
    ⟨0x84, [], .cfg, 0x3FFF, 0x3FFF, 0x64⟩,
    ⟨0x88, [], .ro, 0x0, 0xFFFFFFFF, 0x0⟩,
    ⟨0x8C, [], .ro, 0x0, 0x8000FFFF, 0x0⟩,
    ⟨0x90, [], .cfg, 0xFFF, 0xFFF, 0x0⟩,
    ⟨0x94, [], .ro, 0x0, 0x3FFFF, 0x0⟩,
    ⟨0x98, [], .ro, 0x0, 0x80000FFF, 0x0⟩,
    ⟨0xA0, [(0x8, 10)], .ctr, 0x0, 0xFFFFFFFF, 0x0⟩,
    ⟨0xA4, [(0x8, 10)], .ctrHi, 0x0, 0xFFFFFFFF, 0x0⟩,
    ⟨0x100, [(0x4, 32)], .cfg, 0x3FFFD, 0x3FFFD, 0x1⟩ ]

def xbarMRows : List RegRow :=
  [ ⟨0x80, [], .cfg, 0x0, 0x80000000, 0x0⟩,
    ⟨0x84, [], .ro, 0x0, 0x7FF, 0x60F⟩,
    ⟨0x90, [(0x8, 3)], .ctr, 0x0, 0xFFFFFFFF, 0x0⟩,
    ⟨0x94, [(0x8, 3)], .ctrHi, 0x0, 0xFFFFFFFF, 0x0⟩,
    ⟨0xB0, [(0x8, 4)], .ctr, 0x0, 0xFFFFFFFF, 0x0⟩,
    ⟨0xB4, [(0x8, 4)], .ctrHi, 0x0, 0xFFFFFFFF, 0x0⟩,
    ⟨0xE00, [], .wg, 0xF, 0xF, 0x0⟩ ]

def deepSRows : List RegRow :=
  [ ⟨0x80, [], .cfg, 0x0, 0x80000000, 0x0⟩,
    ⟨0x84, [], .cfg, 0x7FFFF, 0x7FFFF, 0x8000⟩,
    ⟨0x88, [], .cfg, 0xFFFFFFFF, 0xFFFFFFFF, 0x20002000⟩,
    ⟨0x8C, [], .cfg, 0x7FFFF, 0x7FFFF, 0x4000⟩,
    ⟨0x90, [(0x4, 4)], .cfg, 0x7FFFF, 0x7FFFF, 0x0⟩,
    ⟨0xA0, [(0x4, 4)], .ro, 0x0, 0x7FFFF, 0x0⟩,
    ⟨0xB0, [], .ro, 0x0, 0x7FFFF, 0x40000⟩,
    ⟨0xB4, [], .ro, 0x0, 0x7FFFF, 0x0⟩,
    ⟨0xB8, [], .ro, 0x0, 0x7FFFF, 0x0⟩,
    ⟨0xBC, [], .ro, 0x0, 0x7FFFF, 0x40000⟩,
    ⟨0xC0, [], .ro, 0x0, 0x7FFFF, 0x0⟩,
    ⟨0xC4, [], .ro, 0x0, 0x7FFFF, 0x0⟩,
    ⟨0xC8, [], .ro, 0x0, 0x8003FFFF, 0x0⟩,
    ⟨0xCC, [], .ro, 0x0, 0xFFFFFFFF, 0x0⟩,
    ⟨0xD0, [(0x8, 3)], .ctr, 0x0, 0xFFFFFFFF, 0x0⟩,
    ⟨0xD4, [(0x8, 3)], .ctrHi, 0x0, 0xFFFFFFFF, 0x0⟩,
    ⟨0x100, [], .now, 0x1FFFF, 0x4007FFFF, 0x0⟩,
    ⟨0x104, [], .cfg, 0xFFFFFFF, 0xFFFFFFF, 0x8000000⟩,
    ⟨0x108, [], .cfg, 0x7FFFF, 0x7FFFF, 0x4000⟩,
    ⟨0x10C, [], .cfg, 0x7FFFF, 0x7FFFF, 0x2000⟩,
    ⟨0x110, [], .cfg, 0x3FFFFFF, 0x3FFFFFF, 0x0⟩,
    ⟨0x114, [], .cfg, 0x3FFFFFF, 0x3FFFFFF, 0x20000⟩,
    ⟨0x118, [], .cfg, 0xFFFFF, 0xFFFFF, 0x0⟩,
    ⟨0x11C, [], .ro, 0x0, 0xFFFFF, 0x0⟩,
    ⟨0x120, [], .ro, 0x0, 0x3FFFFFF, 0x0⟩,
    ⟨0x124, [], .ro, 0x0, 0x3FFFFFF, 0x0⟩,
    ⟨0x128, [], .ro, 0x0, 0xFFFFFFF, 0x0⟩,
    ⟨0x12C, [], .ro, 0x0, 0xFFFFF, 0x0⟩,
    ⟨0x130, [(0x4, 5)], .ro, 0x0, 0x0, 0x0⟩,
    ⟨0x144, [(0x4, 16)], .ro, 0x0, 0xFFFFFFFF, 0x0⟩,
    ⟨0x400, [(0x20, 32), (0x8, 3)], .cfg, 0xFFFFFFFF, 0xFFFFFFFF, 0x0⟩,
    ⟨0x404, [(0x20, 32), (0x8, 3)], .cfg, 0x1FFF, 0x1FFF, 0x0⟩ ]

def deepTRows : List RegRow :=
  [ ⟨0x80, [], .cfg, 0x0, 0x80000000, 0x0⟩,
    ⟨0x84, [], .cfg, 0x7FFFFFF, 0x7FFFFFF, 0x100000⟩,
    ⟨0x88, [], .ro, 0x0, 0x1FFFF, 0x10000⟩,
    ⟨0x8C, [], .ro, 0x0, 0x1FFFF, 0x10000⟩,
    ⟨0x90, [], .ro, 0x0, 0xFFFFFFFF, 0x9C409C40⟩,
    ⟨0x94, [], .ro, 0x0, 0x3FFFFFF, 0x3F00000⟩,
    ⟨0x98, [], .ro, 0x0, 0x3FFFFFF, 0x0⟩,
    ⟨0x9C, [], .ro, 0x0, 0x3FFFFFF, 0x0⟩,
    ⟨0xA0, [], .ro, 0x0, 0x3FFFFFF, 0x3F00000⟩,
    ⟨0xA4, [], .ro, 0x0, 0x7FFFFFF, 0x4000000⟩,
    ⟨0xA8, [], .ro, 0x0, 0x7FFFFFF, 0x0⟩,
    ⟨0xAC, [], .ro, 0x0, 0x7FFFFFF, 0x0⟩,
    ⟨0xB0, [], .cfg, 0x1, 0x1, 0x1⟩,
    ⟨0xB4, [], .ro, 0x0, 0x8FFFFFFF, 0x0⟩,
    ⟨0xB8, [], .ro, 0x0, 0xFFFFFFFF, 0x0⟩,
    ⟨0xBC, [], .ro, 0x0, 0xFFFFFFFF, 0x0⟩,
    ⟨0x100, [(0x4, 8)], .ro, 0x0, 0xF00007FF, 0x1⟩,
    ⟨0xE00, [], .wg, 0x1F, 0x1F, 0x0⟩ ]

def fabrSRows : List RegRow :=
  [ ⟨0x80, [], .cfg, 0x0, 0x80000000, 0x0⟩,
    ⟨0x84, [], .cfg, 0x1F, 0x1F, 0x0⟩,
    ⟨0x88, [], .ro, 0x0, 0xFFFFFFFF, 0x0⟩,
    ⟨0x8C, [], .ro, 0x0, 0x7FFF, 0x0⟩,
    ⟨0x90, [], .ro, 0x0, 0x83FFFFFF, 0x0⟩,
    ⟨0xA0, [(0x8, 8)], .ctr, 0x0, 0xFFFFFFFF, 0x0⟩,
    ⟨0xA4, [(0x8, 8)], .ctrHi, 0x0, 0xFFFFFFFF, 0x0⟩,
    ⟨0x100, [(0x20, 32)], .cfg, 0x3, 0x3, 0x2⟩,
    ⟨0x104, [(0x20, 32)], .cfg, 0x3FFFF, 0x3FFFF, 0x1388⟩,
    ⟨0x108, [(0x20, 32)], .ro, 0x0, 0x7FFFF, 0x0⟩,
    ⟨0x10C, [(0x20, 32), (0x4, 4)], .cfg, 0xFFF0FFF, 0xFFF0FFF, 0x1000100⟩,
    ⟨0x11C, [(0x20, 32)], .ro, 0x0, 0xFFFFF, 0x0⟩,
    ⟨0x600, [(0x8, 12)], .ctr, 0x0, 0xFFFFFFFF, 0x0⟩,
    ⟨0x604, [(0x8, 12)], .ctrHi, 0x0, 0xFFFFFFFF, 0x0⟩ ]

def fabrMRows : List RegRow :=
  [ ⟨0x80, [], .cfg, 0x0, 0x80000000, 0x0⟩,
    ⟨0x84, [], .cfg, 0xFFFFFF, 0xFFFFFF, 0x0⟩,
    ⟨0x88, [], .cfg, 0xFFF, 0xFFF, 0x0⟩,
    ⟨0x8C, [], .cfg, 0x1FFFFF, 0x1FFFFF, 0x60064⟩,
    ⟨0x90, [], .cfg, 0xFFFF, 0xFFFF, 0x64⟩,
    ⟨0x94, [], .ro, 0x0, 0x1FFFF, 0x64⟩,
    ⟨0x98, [], .ro, 0x0, 0xFFF0FFF, 0x140014⟩,
    ⟨0x9C, [], .cfg, 0x3FFFFFF, 0x3FFFFFF, 0xA03E8⟩,
    ⟨0xA0, [], .ro, 0x0, 0xFFFFFFFF, 0x0⟩,
    ⟨0xA4, [], .ro, 0x0, 0xFFFFFFFF, 0x0⟩,
    ⟨0xB0, [(0x8, 5)], .ctr, 0x0, 0xFFFFFFFF, 0x0⟩,
    ⟨0xB4, [(0x8, 5)], .ctrHi, 0x0, 0xFFFFFFFF, 0x0⟩,
    ⟨0x100, [], .now, 0x3FFF, 0x4000FFFF, 0x0⟩,
    ⟨0x104, [(0x4, 8)], .cfg, 0xFFFFFFFF, 0xFFFFFFFF, 0x0⟩,
    ⟨0x140, [], .now, 0x3FF, 0x400003FF, 0x0⟩,
    ⟨0x144, [], .ro, 0x0, 0xFFFFFFFF, 0x0⟩,
    ⟨0x148, [], .ro, 0x0, 0xFFFFFFFF, 0x0⟩,
    ⟨0x14C, [], .ro, 0x0, 0xFFFFFFFF, 0x0⟩,
    ⟨0x150, [], .ro, 0x0, 0xFFF0FFF, 0x0⟩,
    ⟨0x154, [], .ro, 0x0, 0xFFF, 0x0⟩,
    ⟨0x158, [], .ro, 0x0, 0xFFFFF, 0x0⟩,
    ⟨0xE00, [], .wg, 0x3, 0x3, 0x0⟩,
    ⟨0xE04, [], .wg, 0x1, 0x1, 0x0⟩ ]

def loomRows : List RegRow :=
  [ ⟨0x80, [], .cfg, 0x0, 0x80000000, 0x0⟩,
    ⟨0x84, [], .ro, 0x0, 0x3FFF, 0x0⟩,
    ⟨0x88, [], .cfg, 0xFFFFFFFF, 0xFFFFFFFF, 0x1D0C0000⟩,
    ⟨0x8C, [], .ro, 0x0, 0xFFFFFFFF, 0x0⟩,
    ⟨0x100, [(0x10, 8)], .cfg, 0x7FFF, 0x1FFFF, 0x0⟩,
    ⟨0x104, [(0x10, 8)], .ro, 0x0, 0x7FFFFFF, 0x0⟩,
    ⟨0x108, [(0x10, 8)], .ro, 0x0, 0xFFFFFFFF, 0x0⟩ ]

def oengRows : List RegRow :=
  [ ⟨0x80, [], .ro, 0x0, 0xF001FFFF, 0x1100⟩,
    ⟨0x84, [], .cfg, 0x1, 0x1, 0x0⟩,
    ⟨0x88, [], .ro, 0x0, 0x1, 0x0⟩,
    ⟨0xA0, [], .ro, 0x0, 0xFFFFFFFF, 0x0⟩,
    ⟨0xA4, [], .ro, 0x0, 0xFFFF, 0x0⟩,
    ⟨0x100, [(0x20, 8)], .cfg, 0xFF7, 0x80000FF7, 0x200⟩,
    ⟨0x104, [(0x20, 8)], .cfg, 0xFFFFF, 0xFFFFF, 0x7D0⟩,
    ⟨0x108, [(0x20, 8)], .cfg, 0x1F, 0x1F, 0x8⟩,
    ⟨0x10C, [(0x20, 8)], .ro, 0x0, 0xF0007777, 0x0⟩,
    ⟨0x110, [(0x20, 8)], .cfg, 0xFFFF, 0xFFFF, 0x0⟩,
    ⟨0x200, [(0x40, 8), (0x8, 6)], .ctr, 0x0, 0xFFFFFFFF, 0x0⟩,
    ⟨0x204, [(0x40, 8), (0x8, 6)], .ctrHi, 0x0, 0xFFFFFFFF, 0x0⟩,
    ⟨0x400, [(0x100, 8), (0x20, 8), (0x4, 4)], .cfg, 0xFFFFFFFF, 0xFFFFFFFF, 0x0⟩,
    ⟨0x410, [(0x100, 8), (0x20, 8)], .cfg, 0x1FFFF, 0x1FFFF, 0x0⟩,
    ⟨0xC00, [(0x10, 32)], .ro, 0x0, 0xF0FFFFFF, 0x0⟩,
    ⟨0xC04, [(0x10, 32)], .ro, 0x0, 0xF007FFFF, 0x0⟩,
    ⟨0xC08, [(0x10, 32)], .ro, 0x0, 0xFFFFFFFF, 0x0⟩,
    ⟨0xC0C, [(0x10, 32)], .ro, 0x0, 0xF000FFFF, 0x0⟩,
    ⟨0xE00, [], .wg, 0xFF, 0xFF, 0x0⟩ ]

def flxeGRows : List RegRow :=
  [ ⟨0x80, [], .cfg, 0xFFFFFF, 0x80FFFFFF, 0xC⟩,
    ⟨0x84, [], .ro, 0x0, 0x3FFFFF, 0x0⟩,
    ⟨0x88, [], .now, 0x3, 0x3, 0x0⟩,
    ⟨0x8C, [], .cfg, 0x3FF, 0x3FF, 0x64⟩,
    ⟨0x90, [], .ro, 0x0, 0x3FFF, 0x0⟩,
    ⟨0xA0, [(0x4, 8)], .cfg, 0x7FFFFFFF, 0x7FFFFFFF, 0x400⟩,
    ⟨0xC0, [], .cfg, 0x7FF, 0x7FF, 0x0⟩,
    ⟨0xC4, [], .ro, 0x0, 0xFFFF, 0x0⟩,
    ⟨0xD0, [(0x8, 3)], .ctr, 0x0, 0xFFFFFFFF, 0x0⟩,
    ⟨0xD4, [(0x8, 3)], .ctrHi, 0x0, 0xFFFFFFFF, 0x0⟩,
    ⟨0x400, [(0x4, 320)], .cfg, 0x3FFF3FFF, 0x3FFF3FFF, 0x0⟩,
    ⟨0x900, [(0x4, 320)], .cfg, 0x3FFF3FFF, 0x3FFF3FFF, 0x0⟩ ]

def flxeCRows : List RegRow :=
  [ ⟨0x80, [], .cfg, 0x0, 0x80000000, 0x0⟩,
    ⟨0x100, [], .now, 0x3FFF, 0x4000FFFF, 0x0⟩,
    ⟨0x104, [], .cfg, 0xFFFFFFFF, 0xFFFFFFFF, 0x10000⟩,
    ⟨0x108, [], .ro, 0x0, 0xFFFFF, 0x0⟩,
    ⟨0x10C, [], .ro, 0x0, 0x7FFF, 0x0⟩,
    ⟨0x114, [(0x4, 4)], .ro, 0x0, 0xFFFFFFFF, 0x0⟩,
    ⟨0xE00, [], .wg, 0xFFFFFFFF, 0xFFFFFFFF, 0x0⟩ ]

def perfRows : List RegRow :=
  [ ⟨0x80, [], .cfg, 0x1FFFFF, 0x801FFFFF, 0x186A0⟩,
    ⟨0x84, [], .now, 0x3, 0x3, 0x0⟩,
    ⟨0x88, [], .ro, 0x0, 0x1, 0x0⟩,
    ⟨0x90, [], .ctr, 0x0, 0xFFFFFFFF, 0x0⟩,
    ⟨0x94, [], .ctrHi, 0x0, 0xFFFFFFFF, 0x0⟩,
    ⟨0x100, [(0x20, 8)], .cfg, 0xFF, 0xFF, 0x0⟩,
    ⟨0x104, [(0x20, 8)], .cfg, 0xFFFF, 0xFFFF, 0x7F87⟩,
    ⟨0x108, [(0x20, 8)], .cfg, 0xFFFFFF, 0xFFFFFF, 0x0⟩,
    ⟨0x10C, [(0x20, 8)], .cfg, 0xFFFFFF, 0xFFFFFF, 0xFFFFFF⟩,
    ⟨0x110, [(0x20, 8)], .ctr, 0x0, 0xFFFFFFFF, 0x0⟩,
    ⟨0x114, [(0x20, 8)], .ctrHi, 0x0, 0xFFFFFFFF, 0x0⟩ ]

def portRows : List RegRow :=
  [ ⟨0x80, [(0x40, 4)], .cfg, 0xFFFFF, 0x800FFFFF, 0x23000⟩,
    ⟨0x84, [(0x40, 4)], .cfg, 0xFFFF, 0xFFFF, 0x0⟩,
    ⟨0x88, [(0x40, 4)], .cfg, 0xFFFFFFFF, 0xFFFFFFFF, 0x7FFFFFFF⟩,
    ⟨0x8C, [(0x40, 4)], .cfg, 0x1FFFFFFF, 0x1FFFFFFF, 0x10190064⟩,
    ⟨0x90, [(0x40, 4)], .ro, 0x0, 0xFFFFFFF, 0x5⟩,
    ⟨0x94, [(0x40, 4)], .cfg, 0x3FF, 0x3FF, 0x18A⟩,
    ⟨0x98, [(0x40, 4)], .cfg, 0xFFFFFFFF, 0xFFFFFFFF, 0x0⟩,
    ⟨0x9C, [(0x40, 4)], .cfg, 0xFFFF, 0xFFFF, 0x0⟩,
    ⟨0x180, [(0x10, 4), (0x4, 3)], .ro, 0x0, 0xFFFFFFFF, 0x0⟩,
    ⟨0x200, [(0x280, 4), (0x8, 80)], .ctr, 0x0, 0xFFFFFFFF, 0x0⟩,
    ⟨0x204, [(0x280, 4), (0x8, 80)], .ctrHi, 0x0, 0xFFFFFFFF, 0x0⟩,
    ⟨0xC00, [(0x40, 4), (0x8, 8)], .cfg, 0x3FFFF, 0x3FFFF, 0x4000⟩,
    ⟨0xC04, [(0x40, 4), (0x8, 8)], .cfg, 0x3FFFF, 0x3FFFF, 0x3000⟩,
    ⟨0xD00, [(0x20, 4), (0x4, 8)], .cfg, 0xFFFF, 0xFFFF, 0x2000⟩,
    ⟨0xD80, [(0x20, 4), (0x4, 8)], .ro, 0x0, 0x3FFFF, 0x0⟩ ]

def PageTy.rows : PageTy → List RegRow
  | .devc => devcRows
  | .host => hostRows
  | .fltc => fltcRows
  | .nvst => nvstRows
  | .time => timeRows
  | .tbls => tblsRows
  | .svcc => svccRows
  | .twin => twinRows
  | .pool => poolRows
  | .slce => slceRows
  | .clsf => clsfRows
  | .metr => metrRows
  | .schd => schdRows
  | .pack => packRows
  | .xbarS => xbarSRows
  | .xbarM => xbarMRows
  | .deepS => deepSRows
  | .deepT => deepTRows
  | .fabrS => fabrSRows
  | .fabrM => fabrMRows
  | .loom => loomRows
  | .oeng => oengRows
  | .flxeG => flxeGRows
  | .flxeC => flxeCRows
  | .perf => perfRows
  | .port => portRows
  | .msixTable => []
  | .msixPba => []

/-- Whether `d` bytes past the base of an array fall on one of its registers. -/
def dimsHit : List (Nat × Nat) → Nat → Bool
  | [], d => d == 0
  | (st, n) :: rest, d => d / st < n && dimsHit rest (d % st)

def RegRow.hit (r : RegRow) (off : Nat) : Bool := r.off ≤ off && dimsHit r.dims (off - r.off)

/-- Whether a row may hold an offset below the array's end; arrays of R59 and R90 interleave, so each dimension is tried. -/
def findRow (t : PageTy) (off : Nat) : Option RegRow := t.rows.find? (·.hit off)

/-- The common header (R386) of every page but the MSI-X pages: writable and implemented bits of a header register. -/
def hdrRow (t : PageTy) (off : Nat) : Option RegRow :=
  let s := t.sources
  let two (lo : Nat) : Nat :=
    (List.range 16).foldl (fun a b => if s.testBit (lo + b) then a + 3 * 4 ^ b else a) 0
  let sev (lo : Nat) : Nat := (List.range 16).foldl (fun a b => a + t.sev (lo + b) * 4 ^ b) 0
  let seqBits (w : Nat) : Nat := (List.range 4).foldl (fun a b => if s.testBit (4 * w + b) then a + 0xFF * 256 ^ b else a) 0
  if off = 0x0 then some ⟨off, [], .ro, 0, 0x1FFF, 0⟩
  else if off = 0x4 then some ⟨off, [], .ro, 0, 0xFF, 1⟩
  else if off = 0x8 then some ⟨off, [], .now, 0x801, 0xFFF, 0⟩
  else if off = 0xC then some ⟨off, [], .ro, 0, 0x8007FFFF, t.kind * 65536⟩
  else if off = 0x10 then some ⟨off, [], .ro, 0, s, 0⟩
  else if off = 0x14 then some ⟨off, [], .ro, 0, s, 0⟩
  else if 0x20 ≤ off ∧ off < 0x40 ∧ off % 4 = 0 then some ⟨off, [], .ro, 0, seqBits ((off - 0x20) / 4), 0⟩
  else if off = 0x40 then some ⟨off, [], .now, 0xFF1F, 0x8000FF1F, 0⟩
  else if off = 0x44 then some ⟨off, [], .now, s, s, s⟩
  else if off = 0x48 then some ⟨off, [], .now, two 0, two 0, sev 0⟩
  else if off = 0x4C then some ⟨off, [], .now, two 16, two 16, sev 16⟩
  else none

/-- The row of an offset of a page: header, register, or the complement of a guarded register (R389). -/
def rowOf (t : PageTy) (off : Nat) : Option RegRow :=
  if t = .msixTable ∨ t = .msixPba then none
  else if off < 0x80 then hdrRow t off
  else if 0xF00 ≤ off then
    match findRow t (off - 0x100) with
    | some r => if r.kind = .wg then some { r with off := r.off + 0x100 } else none
    | none => none
  else findRow t off

/-! ### Reset values that depend on the instance or the place in an array -/

/-- Default slots and tickets and the KIND code of activity `a` of a LOOM instance (R326; KIND codes of R340). -/
def loomAct (i a : Nat) : Nat × Nat × Nat :=
  if i < 8 then
    match a with
    | 0 => (832, 0, 0) | 1 => (64, 8, 1) | 2 => (32, 2, 1) | 3 => (32, 4, 1) | 4 => (16, 1, 1) | 5 => (16, 1, 1)
    | 6 => (32, 4, 1) | _ => (16, 0, 2)
  else if i < 16 then
    match a with
    | 0 => (400, 0, 0) | 1 => (400, 0, 0) | 2 => (96, 0, 0) | 3 => (64, 0, 0) | 4 => (32, 4, 1) | 5 => (16, 2, 1)
    | 6 => (8, 2, 1) | _ => (8, 1, 1)
  else if i < 18 then
    match a with
    | 0 => (256, 0, 0) | 1 => (128, 4, 1) | 2 => (128, 4, 1) | 3 => (128, 4, 1) | 4 => (128, 4, 1) | 5 => (192, 2, 1)
    | 6 => (64, 4, 1) | _ => (0, 0, 3)
  else
    match a with
    | 0 => (64, 0, 0) | 1 => (576, 8, 1) | 2 => (128, 2, 1) | 3 => (128, 4, 1) | 4 => (64, 6, 1) | 5 => (64, 1, 1)
    | _ => (0, 0, 3)

/-- Loom period in ns (R325). -/
def loomPeriod (i : Nat) : Nat := if i < 8 then 640 else if i < 16 then 1024 else if i < 18 then 512 else 1024

/-- Resource kind code of LOOM_INFO (R340): 0 slice tables, 1 stack controller, 2 injection bus, 3 DMA engine. -/
def loomKind (i : Nat) : Nat := if i < 8 then 0 else if i < 16 then 1 else if i < 18 then 2 else 3

/-- Buffers of a pool (R367). -/
def poolCount (p : Nat) : Nat := match p with | 0 => 32768 | 1 => 16384 | 2 => 4096 | _ => 1024

/-- Quota of requester r in pool p at cold reset (R377). -/
def poolQuota (r p : Nat) : Nat := if r < 4 then poolCount p / 8 else if r < 6 then poolCount p / 4 else 0

/-- Default QUOTA of a notification FIFO (R404). -/
def fifoQuota (f : Nat) : Nat := match f with | 0 => 4096 | 1 => 8192 | 2 => 2048 | _ => 1024

/-- Reset value of the word at an offset of a page, where it has a register (R386 and the chapters' reset columns; DESIGN CHOICE
values of factory fields: log 5). -/
def resetWord (t : PageTy) (i off : Nat) : Nat :=
  match rowOf t off with
  | none => 0
  | some r =>
    if r.kind = .wg ∧ 0xF00 ≤ off then 0xFFFFFFFF - r.rst
    else if off = 0x0 then i + t.code * 256
    else
      match t with
      | .devc => if off = 0x80 then 0xC0 + 3 * 256 + 65536 else if off = 0x100 + 4 * 53 then 2 else r.rst
      | .oeng => if off = 0x88 then 1 else r.rst
      | .port => if 0x98 ≤ off ∧ off < 0x180 ∧ (off - 0x98) % 0x40 = 0 then i * 4 + (off - 0x98) / 0x40 else r.rst
      | .deepS => if off = 0x90 then 0x34000 else r.rst
      | .pool =>
        if 0x84 ≤ off ∧ off < 0x94 then poolCount ((off - 0x84) / 4)
        else if 0x200 ≤ off ∧ off < 0x300 then poolQuota ((off - 0x200) / 16) ((off - 0x200) % 16 / 4) else r.rst
      | .host =>
        if 0x200 ≤ off ∧ off < 0xB40 ∧ (off - 0x200) % 0x40 = 8 then
          let n := (off - 0x200) / 0x40
          (if n < 32 then 6 * 2 else 0) + n * 32 + 1 * 8192
        else if 0xC00 ≤ off ∧ off < 0xC14 then fifoQuota ((off - 0xC00) / 4) else r.rst
      | .loom =>
        if off = 0x84 then loomKind i + loomPeriod i * 4
        else if off = 0x88 then 0x1D0C0000 + i
        else if 0x100 ≤ off ∧ off % 16 = 0 then
          let (sl, tk, kd) := loomAct i ((off - 0x100) / 16)
          sl + tk * 2048 + kd * 32768
        else r.rst
      | _ => r.rst

/-- Reset value of the word at a BAR0 address. -/
def resetAt (a : Nat) : Word :=
  match pageOf (a / 4096) with
  | none => 0
  | some (t, i) => BitVec.ofNat 32 (resetWord t i (a % 4096))

/-! ### Named fields: page layout, register and field as the spec's tables name them -/

def HDR_HOLD : Fld := ⟨0x008, 0, 1⟩
def HDR_HELD : Fld := ⟨0x008, 1, 9⟩
def HDR_OVERFLOW : Fld := ⟨0x008, 10, 1⟩
def HDR_COUNT : Fld := ⟨0x00C, 0, 16⟩
def HDR_PENDING : Fld := ⟨0x00C, 31, 1⟩
def HDR_LAST_OK : Fld := ⟨0x040, 31, 1⟩
def DEVC_DEV_INFO_STEPPING : Fld := ⟨0x80, 0, 8⟩
def DEVC_DEV_INFO_MODULE_REV : Fld := ⟨0x80, 8, 8⟩
def DEVC_DEV_INFO_VARIANT : Fld := ⟨0x80, 16, 1⟩
def DEVC_ISLAND_CAPTURE_ISLAND : Fld := ⟨0x84, 0, 6⟩
def DEVC_ISLAND_CAPTURE_CAUSE : Fld := ⟨0x84, 6, 1⟩
def DEVC_ISLAND_CAPTURE_VALID : Fld := ⟨0x84, 31, 1⟩
def DEVC_ISLAND_STATE_POWER : Fld := ⟨0x100, 0, 2⟩
def DEVC_ISLAND_STATE_RST : Fld := ⟨0x100, 2, 2⟩
def DEVC_ISLAND_STATE_CLK_LOCK : Fld := ⟨0x100, 4, 1⟩
def DEVC_ISLAND_STATE_DT_LOCK : Fld := ⟨0x100, 5, 1⟩
def DEVC_ISLAND_STATE_SKEW : Fld := ⟨0x100, 8, 8⟩
def DEVC_ISLAND_STATE_AGE : Fld := ⟨0x100, 28, 4⟩
def HOST_HOST_CFG_EVT_VEC : Fld := ⟨0x80, 0, 8⟩
def HOST_HOST_CFG_FAULT_VEC : Fld := ⟨0x80, 8, 8⟩
def HOST_HOST_CFG_REFUSED : Fld := ⟨0x80, 31, 1⟩
def HOST_HOST_STATUS_WIDTH : Fld := ⟨0x84, 0, 4⟩
def HOST_HOST_STATUS_SPEED : Fld := ⟨0x84, 4, 3⟩
def HOST_HOST_STATUS_BUS_MASTER : Fld := ⟨0x84, 7, 1⟩
def HOST_HOST_STATUS_DEBUG_OPEN : Fld := ⟨0x84, 8, 1⟩
def HOST_BUS_ERR_CAPTURE_PAGE : Fld := ⟨0x88, 0, 14⟩
def HOST_BUS_ERR_CAPTURE_OFFSET : Fld := ⟨0x88, 14, 12⟩
def HOST_BUS_ERR_CAPTURE_WRITE : Fld := ⟨0x88, 26, 1⟩
def HOST_BUS_ERR_CAPTURE_CAUSE : Fld := ⟨0x88, 27, 3⟩
def HOST_BUS_ERR_CAPTURE_VALID : Fld := ⟨0x88, 31, 1⟩
def HOST_GUARD_CAPTURE_PAGE : Fld := ⟨0x8C, 0, 14⟩
def HOST_GUARD_CAPTURE_OFFSET : Fld := ⟨0x8C, 14, 12⟩
def HOST_GUARD_CAPTURE_CAUSE : Fld := ⟨0x8C, 26, 3⟩
def HOST_GUARD_CAPTURE_VALID : Fld := ⟨0x8C, 31, 1⟩
def HOST_HARVEST_CFG_PERIOD : Fld := ⟨0x90, 0, 10⟩
def HOST_HARVEST_CFG_EN : Fld := ⟨0x90, 10, 1⟩
def HOST_EVT_WIN_STATUS_STATUS : Fld := ⟨0x100, 0, 3⟩
def HOST_EVT_WIN_DATA : Fld := ⟨0x104, 0, 32⟩
def HOST_RING_BASE_LO_BASE : Fld := ⟨0x200, 0, 32⟩
def HOST_RING_BASE_HI_BASE : Fld := ⟨0x204, 0, 32⟩
def HOST_RING_CFG_EN : Fld := ⟨0x208, 0, 1⟩
def HOST_RING_CFG_LOG2 : Fld := ⟨0x208, 1, 4⟩
def HOST_RING_CFG_VECTOR : Fld := ⟨0x208, 5, 8⟩
def HOST_RING_CFG_WEIGHT : Fld := ⟨0x208, 13, 4⟩
def HOST_RING_CFG_RUNNING : Fld := ⟨0x208, 17, 1⟩
def HOST_RING_CFG_DMA_ERR : Fld := ⟨0x208, 18, 1⟩
def HOST_HOST_IDX_INDEX : Fld := ⟨0x20C, 0, 32⟩
def HOST_DEV_IDX_INDEX : Fld := ⟨0x210, 0, 32⟩
def HOST_WB_LO_ADDR : Fld := ⟨0x214, 0, 32⟩
def HOST_WB_HI_ADDR : Fld := ⟨0x218, 0, 32⟩
def HOST_COAL_COUNT : Fld := ⟨0x21C, 0, 16⟩
def HOST_COAL_TIME : Fld := ⟨0x21C, 16, 16⟩
def HOST_FIFO_CFG_QUOTA : Fld := ⟨0xC00, 0, 16⟩
def HOST_FIFO_CFG_DEPTH : Fld := ⟨0xC00, 16, 16⟩
def HOST_FIFO_POOL_FREE : Fld := ⟨0xC20, 0, 15⟩
def HOST_DEBUG_CTL_DEBUG_ALLOW : Fld := ⟨0xE00, 0, 1⟩
def FLTC_FLTC_CFG_CONTAIN_LIMIT : Fld := ⟨0x80, 0, 4⟩
def FLTC_FLTC_CFG_CONTAIN_SPAN : Fld := ⟨0x80, 4, 12⟩
def FLTC_FLTC_CFG_SEV_REFUSED : Fld := ⟨0x80, 30, 1⟩
def FLTC_FLTC_CFG_REFUSED : Fld := ⟨0x80, 31, 1⟩
def FLTC_GUY_CFG_SETTLE_MS : Fld := ⟨0x84, 0, 14⟩
def FLTC_GUY_CFG_GUY_EN : Fld := ⟨0x84, 14, 1⟩
def FLTC_FATAL_STATE_FATAL : Fld := ⟨0x88, 0, 1⟩
def FLTC_FATAL_STATE_PAGE : Fld := ⟨0x88, 1, 14⟩
def FLTC_FATAL_STATE_SOURCE : Fld := ⟨0x88, 15, 5⟩
def FLTC_FATAL_STATE_VALID : Fld := ⟨0x88, 31, 1⟩
def FLTC_FATAL_SEC_SEC : Fld := ⟨0x8C, 0, 32⟩
def FLTC_FATAL_NS_NS : Fld := ⟨0x90, 0, 30⟩
def FLTC_LAST_RESET_SCOPE : Fld := ⟨0x94, 0, 3⟩
def FLTC_LAST_RESET_CAUSE : Fld := ⟨0x94, 3, 3⟩
def FLTC_LAST_RESET_AFTER_FATAL : Fld := ⟨0x94, 6, 1⟩
def FLTC_RAIL_CAPTURE_PAGE : Fld := ⟨0x98, 0, 14⟩
def FLTC_RAIL_CAPTURE_SOURCE : Fld := ⟨0x98, 14, 5⟩
def FLTC_RAIL_CAPTURE_BROKEN : Fld := ⟨0x98, 19, 1⟩
def FLTC_RAIL_CAPTURE_VALID : Fld := ⟨0x98, 31, 1⟩
def FLTC_TEMP_MAX_TEMP : Fld := ⟨0x9C, 0, 8⟩
def FLTC_TEMP_MAX_ISLAND : Fld := ⟨0x9C, 8, 6⟩
def FLTC_TEMP_MAX_AGE : Fld := ⟨0x9C, 28, 4⟩
def FLTC_BLOCK_STATE_STATE : Fld := ⟨0x100, 0, 2⟩
def FLTC_BLOCK_STATE_GUY : Fld := ⟨0x100, 2, 1⟩
def FLTC_BLOCK_STATE_CONTAINS : Fld := ⟨0x100, 3, 4⟩
def FLTC_RESET_CTL_SCOPE : Fld := ⟨0xE00, 0, 3⟩
def FLTC_RESET_CTL_TARGET : Fld := ⟨0xE00, 3, 6⟩
def FLTC_RECORD_CLR_FATAL_REC : Fld := ⟨0xE04, 0, 1⟩
def FLTC_RECORD_CLR_LAST : Fld := ⟨0xE04, 1, 1⟩
def NVST_NV_CFG_JOURNAL_SEV : Fld := ⟨0x80, 0, 2⟩
def NVST_NV_CFG_REFRESH_DAYS : Fld := ⟨0x80, 2, 9⟩
def NVST_NV_CFG_NV_CKPT_MIN : Fld := ⟨0x80, 11, 14⟩
def NVST_NV_CFG_REFUSED : Fld := ⟨0x80, 31, 1⟩
def NVST_BOOT_STATUS_PHASE : Fld := ⟨0x84, 0, 3⟩
def NVST_BOOT_STATUS_SLOT : Fld := ⟨0x84, 3, 1⟩
def NVST_BOOT_STATUS_CAUSE : Fld := ⟨0x84, 4, 3⟩
def NVST_BOOT_STATUS_BIVOUAC_NEXT : Fld := ⟨0x84, 7, 1⟩
def NVST_BOOT_STATUS_TRIAL_S : Fld := ⟨0x84, 8, 16⟩
def NVST_BOOT_STATUS_AGE : Fld := ⟨0x84, 28, 4⟩
def NVST_SLOT_STATUS_STATE : Fld := ⟨0x90, 0, 3⟩
def NVST_SLOT_STATUS_SVN : Fld := ⟨0x90, 3, 16⟩
def NVST_SLOT_MW_VER_VERSION : Fld := ⟨0x94, 0, 32⟩
def NVST_SLOT_UC_VER_VERSION : Fld := ⟨0x98, 0, 32⟩
def NVST_SVN_STATUS_SVN_FLOOR : Fld := ⟨0xB0, 0, 16⟩
def NVST_NV_HEALTH_SPARE_BLOCKS : Fld := ⟨0xB4, 0, 14⟩
def NVST_NV_HEALTH_MAX_ERASE : Fld := ⟨0xB4, 14, 14⟩
def NVST_NV_HEALTH_AGE : Fld := ⟨0xB4, 28, 4⟩
def NVST_UPD_CMD_OP : Fld := ⟨0x100, 0, 3⟩
def NVST_UPD_CMD_SLOT : Fld := ⟨0x100, 3, 1⟩
def NVST_UPD_CMD_INDEX : Fld := ⟨0x100, 4, 16⟩
def NVST_UPD_CMD_RESULT : Fld := ⟨0x100, 20, 3⟩
def NVST_UPD_CMD_BUSY : Fld := ⟨0x100, 30, 1⟩
def NVST_UPD_HANDLE_HANDLE : Fld := ⟨0x104, 0, 32⟩
def NVST_OBJ_CMD_OP : Fld := ⟨0x110, 0, 2⟩
def NVST_OBJ_CMD_RESULT : Fld := ⟨0x110, 2, 3⟩
def NVST_OBJ_CMD_BUSY : Fld := ⟨0x110, 30, 1⟩
def NVST_OBJ_ID_ID : Fld := ⟨0x114, 0, 32⟩
def NVST_OBJ_LEN_LENGTH : Fld := ⟨0x118, 0, 14⟩
def NVST_OBJ_HANDLE_HANDLE : Fld := ⟨0x11C, 0, 32⟩
def NVST_OBJ_INDEX_INDEX : Fld := ⟨0x120, 0, 16⟩
def NVST_DIAG_CMD_ISLAND : Fld := ⟨0x130, 0, 6⟩
def NVST_DIAG_CMD_GO : Fld := ⟨0x130, 6, 1⟩
def NVST_DIAG_STATUS_RESULT : Fld := ⟨0x134, 0, 2⟩
def NVST_DIAG_STATUS_ISLAND : Fld := ⟨0x134, 2, 6⟩
def NVST_SVN_RAISE_FLOOR : Fld := ⟨0xE00, 0, 16⟩
def TIME_TIME_CFG_REFUSED : Fld := ⟨0x80, 31, 1⟩
def TIME_DT_CFG_SRC : Fld := ⟨0x84, 0, 2⟩
def TIME_DT_CFG_TB_SEL : Fld := ⟨0x84, 2, 2⟩
def TIME_DT_CFG_LINK : Fld := ⟨0x84, 4, 8⟩
def TIME_DT_STATUS_FREQ : Fld := ⟨0x88, 0, 24⟩
def TIME_DT_STATUS_SRC_OK : Fld := ⟨0x88, 24, 1⟩
def TIME_DT_SEC_LO_SEC : Fld := ⟨0x90, 0, 32⟩
def TIME_DT_SEC_HI_SEC : Fld := ⟨0x94, 0, 32⟩
def TIME_DT_NS_NS : Fld := ⟨0x98, 0, 30⟩
def TIME_DT_FRAC_FRAC : Fld := ⟨0x9C, 0, 16⟩
def TIME_DT_SET_SEC_LO_SEC : Fld := ⟨0xA0, 0, 32⟩
def TIME_DT_SET_SEC_HI_SEC : Fld := ⟨0xA4, 0, 32⟩
def TIME_DT_SET_NS_NS : Fld := ⟨0xA8, 0, 30⟩
def TIME_PPS_OUT_CFG_EN : Fld := ⟨0x100, 0, 1⟩
def TIME_PPS_OUT_CFG_SRC : Fld := ⟨0x100, 1, 3⟩
def TIME_PPS_OUT_CFG_SQUELCH : Fld := ⟨0x100, 4, 1⟩
def TIME_PPS_OUT_CFG_WIDTH : Fld := ⟨0x100, 5, 19⟩
def TIME_PPS_OUT_ADJ_ADJ : Fld := ⟨0x104, 0, 32⟩
def TIME_PPS_IN_CFG_EN : Fld := ⟨0x108, 0, 1⟩
def TIME_PPS_IN_CFG_IN_TB : Fld := ⟨0x108, 1, 2⟩
def TIME_PPS_IN_CFG_FEED_EN : Fld := ⟨0x108, 3, 1⟩
def TIME_PPS_IN_CFG_CH : Fld := ⟨0x108, 4, 1⟩
def TIME_PPS_IN_CFG_EDGE : Fld := ⟨0x108, 5, 1⟩
def TIME_PPS_IN_ADJ_ADJ : Fld := ⟨0x10C, 0, 32⟩
def TIME_TOD_CFG_EN : Fld := ⟨0x110, 0, 1⟩
def TIME_TOD_CFG_BAUD : Fld := ⟨0x110, 1, 3⟩
def TIME_TOD_CFG_TX_SYNC : Fld := ⟨0x110, 4, 1⟩
def TIME_TOD_CFG_TX_DELAY : Fld := ⟨0x110, 5, 20⟩
def TIME_TOD_TX_DATA : Fld := ⟨0x114, 0, 8⟩
def TIME_TOD_RX_DATA : Fld := ⟨0x118, 0, 8⟩
def TIME_TOD_RX_EMPTY : Fld := ⟨0x118, 8, 1⟩
def TIME_TOD_RX_GAP : Fld := ⟨0x118, 9, 1⟩
def TIME_FREF_CFG_IN_FREQ : Fld := ⟨0x11C, 0, 1⟩
def TIME_FREF_CFG_OUT_SRC : Fld := ⟨0x11C, 1, 2⟩
def TIME_FREF_CFG_RCLK_PORT : Fld := ⟨0x11C, 3, 8⟩
def TIME_FREF_STATUS_IN_PRESENT : Fld := ⟨0x120, 0, 1⟩
def TIME_FREF_STATUS_IN_LOCKED : Fld := ⟨0x120, 1, 1⟩
def TIME_FREF_STATUS_RCLK_OK : Fld := ⟨0x120, 2, 1⟩
def TIME_TB_CFG_EN : Fld := ⟨0x200, 0, 1⟩
def TIME_TB_CFG_KP : Fld := ⟨0x200, 1, 5⟩
def TIME_TB_CFG_KI : Fld := ⟨0x200, 6, 5⟩
def TIME_TB_CFG_AUTO_SW : Fld := ⟨0x200, 11, 1⟩
def TIME_TB_CFG_STEP_EN : Fld := ⟨0x200, 12, 1⟩
def TIME_TB_STEP_TH_STEP_TH : Fld := ⟨0x204, 0, 32⟩
def TIME_TB_TIMEOUT_OFS_TIMEOUT : Fld := ⟨0x208, 0, 16⟩
def TIME_TB_TIMEOUT_SW_SLEW : Fld := ⟨0x208, 16, 16⟩
def TIME_TB_STATUS_STATE : Fld := ⟨0x20C, 0, 3⟩
def TIME_TB_STATUS_ACTIVE_CH : Fld := ⟨0x20C, 3, 1⟩
def TIME_TB_STATUS_CH0_OK : Fld := ⟨0x20C, 4, 1⟩
def TIME_TB_STATUS_CH1_OK : Fld := ⟨0x20C, 5, 1⟩
def TIME_TB_STATUS_SWITCHING : Fld := ⟨0x20C, 6, 1⟩
def TIME_TB_STATUS_DISCARDED : Fld := ⟨0x20C, 8, 8⟩
def TIME_TB_STATUS_STEP_CNT : Fld := ⟨0x20C, 16, 4⟩
def TIME_TB_FREQ_F : Fld := ⟨0x210, 0, 32⟩
def TIME_TB_SEC_LO_SEC : Fld := ⟨0x214, 0, 32⟩
def TIME_TB_SEC_HI_SEC : Fld := ⟨0x218, 0, 32⟩
def TIME_TB_NS_NS : Fld := ⟨0x21C, 0, 30⟩
def TIME_TB_FRAC_FRAC : Fld := ⟨0x220, 0, 16⟩
def TIME_TB_SNAP_DT_SEC_SEC : Fld := ⟨0x224, 0, 32⟩
def TIME_TB_SNAP_DT_NS_NS : Fld := ⟨0x228, 0, 30⟩
def TIME_TB_OFS_OFFSET : Fld := ⟨0x230, 0, 32⟩
def TIME_TB_STEP_LO_STEP : Fld := ⟨0x238, 0, 32⟩
def TIME_TB_STEP_HI_STEP : Fld := ⟨0x23C, 0, 32⟩
def TIME_TB_CMD_CMD : Fld := ⟨0x240, 0, 3⟩
def TIME_TS_CFG_TS_TB : Fld := ⟨0x400, 0, 3⟩
def TIME_TS_CFG_TC_EN : Fld := ⟨0x400, 3, 1⟩
def TIME_TS_CFG_USER_ASYM : Fld := ⟨0x400, 4, 20⟩
def TIME_ARR_CFG_LINK_DELAY : Fld := ⟨0x800, 0, 20⟩
def TIME_ARR_CFG_ARR_EN : Fld := ⟨0x800, 20, 1⟩
def TIME_ARR_CFG_BREACH_LIMIT : Fld := ⟨0x800, 21, 4⟩
def TIME_ARR_SEL_PORT : Fld := ⟨0xC00, 0, 8⟩
def TIME_DT_SET_CTL_GO : Fld := ⟨0xE00, 0, 1⟩
def TIME_FW_TIME_EN_TB_WR : Fld := ⟨0xE04, 0, 4⟩
def TIME_FW_TIME_EN_TOD_WR : Fld := ⟨0xE04, 4, 1⟩
def TIME_FW_TIME_EN_TS_WR : Fld := ⟨0xE04, 5, 1⟩
def TBLS_TBLS_CFG_REFUSED : Fld := ⟨0x80, 31, 1⟩
def TBLS_AGE_CFG_AGE_PERIOD : Fld := ⟨0x84, 0, 16⟩
def TBLS_MEMBER_CFG_MEMBER_TIMEOUT : Fld := ⟨0x88, 0, 15⟩
def TBLS_SCRUB_CFG_SCRUB_PERIOD : Fld := ⟨0x8C, 0, 16⟩
def TBLS_HASH_SEED_SEED : Fld := ⟨0x90, 0, 17⟩
def TBLS_SEQ_STATUS_DEPTH : Fld := ⟨0x98, 0, 13⟩
def TBLS_SEQ_STATUS_PEAK : Fld := ⟨0x98, 13, 13⟩
def TBLS_LEN_FILTER_LO_LENS : Fld := ⟨0x9C, 0, 32⟩
def TBLS_LEN_FILTER_HI_LEN32 : Fld := ⟨0xA0, 0, 1⟩
def TBLS_ECC_CAPTURE_SLOT : Fld := ⟨0xA4, 0, 20⟩
def TBLS_ECC_CAPTURE_TABLE : Fld := ⟨0xA4, 20, 4⟩
def TBLS_ECC_CAPTURE_SLICE : Fld := ⟨0xA4, 24, 3⟩
def TBLS_ECC_CAPTURE_REPAIRED : Fld := ⟨0xA4, 27, 1⟩
def TBLS_ECC_CAPTURE_VALID : Fld := ⟨0xA4, 31, 1⟩
def TBLS_MAC_COUNT_ENTRIES : Fld := ⟨0xA8, 0, 20⟩
def TBLS_TBL_CMD_INDEX : Fld := ⟨0x400, 0, 20⟩
def TBLS_TBL_CMD_TABLE : Fld := ⟨0x400, 20, 4⟩
def TBLS_TBL_CMD_OP : Fld := ⟨0x400, 24, 3⟩
def TBLS_TBL_CMD_RESULT : Fld := ⟨0x400, 27, 2⟩
def TBLS_TBL_CMD_BUSY : Fld := ⟨0x400, 30, 1⟩
def TBLS_TBL_DATA_DATA : Fld := ⟨0x404, 0, 32⟩
def TBLS_FW_TABLE_EN_WRITE_EN : Fld := ⟨0xE00, 0, 8⟩
def SVCC_SVCC_CFG_REFUSED : Fld := ⟨0x80, 31, 1⟩
def SVCC_LEASE_CFG_LEASE_MS : Fld := ⟨0x84, 0, 10⟩
def SVCC_LEASE_CFG_GUARD_MS : Fld := ⟨0x84, 10, 5⟩
def SVCC_LEASE_CFG_RENEW_MS : Fld := ⟨0x84, 15, 10⟩
def SVCC_LEASE_STATUS_HOLDER : Fld := ⟨0x88, 0, 2⟩
def SVCC_LEASE_STATUS_EPOCH : Fld := ⟨0x88, 2, 16⟩
def SVCC_LEASE_STATUS_REMAIN_MS : Fld := ⟨0x88, 18, 10⟩
def SVCC_LEASE_STATUS_AGE : Fld := ⟨0x88, 28, 4⟩
def SVCC_CLUSTER_STATE_ROLE : Fld := ⟨0x8C, 0, 3⟩
def SVCC_CLUSTER_STATE_CAUSE : Fld := ⟨0x8C, 3, 4⟩
def SVCC_CLUSTER_STATE_PAIR : Fld := ⟨0x8C, 7, 2⟩
def SVCC_CLUSTER_STATE_SRAM_CORR : Fld := ⟨0x8C, 9, 16⟩
def SVCC_CKPT_CFG_PERIOD_MS : Fld := ⟨0x94, 0, 14⟩
def SVCC_CKPT_STATUS_SEQ : Fld := ⟨0x98, 0, 24⟩
def SVCC_CKPT_STATUS_SLOT : Fld := ⟨0x98, 24, 1⟩
def SVCC_CKPT_STATUS_VALID : Fld := ⟨0x98, 25, 1⟩
def SVCC_CKPT_STATUS_BUSY : Fld := ⟨0x98, 26, 1⟩
def SVCC_CKPT_STATUS_SLOT_LOST : Fld := ⟨0x98, 27, 2⟩
def SVCC_SWAP_CFG_PERIOD_H : Fld := ⟨0x9C, 0, 10⟩
def SVCC_SWAP_CFG_WINDOW_MIN : Fld := ⟨0x9C, 10, 10⟩
def SVCC_PUNT_ROUTE_TO_CLUSTER : Fld := ⟨0xA0, 0, 16⟩
def SVCC_TAKEOVER_MS_MS : Fld := ⟨0xA4, 0, 16⟩
def SVCC_DENY_CAPTURE_PAGE : Fld := ⟨0xA8, 0, 14⟩
def SVCC_DENY_CAPTURE_OFFSET : Fld := ⟨0xA8, 14, 12⟩
def SVCC_DENY_CAPTURE_CAUSE : Fld := ⟨0xA8, 26, 4⟩
def SVCC_DENY_CAPTURE_VALID : Fld := ⟨0xA8, 31, 1⟩
def SVCC_LEASE_OP_OP : Fld := ⟨0x100, 0, 3⟩
def SVCC_LEASE_OP_EPOCH : Fld := ⟨0x100, 3, 16⟩
def SVCC_LEASE_OP_RESULT : Fld := ⟨0x100, 19, 1⟩
def SVCC_CKPT_CMD_CMD : Fld := ⟨0x104, 0, 1⟩
def SVCC_CKPT_MARK_PAGE : Fld := ⟨0x108, 0, 18⟩
def SVCC_CKPT_MARK_SET : Fld := ⟨0x108, 18, 1⟩
def SVCC_LASER_REQ_ENGINE : Fld := ⟨0x10C, 0, 5⟩
def SVCC_LASER_REQ_LANE : Fld := ⟨0x10C, 5, 5⟩
def SVCC_LASER_REQ_CEIL : Fld := ⟨0x10C, 10, 12⟩
def SVCC_LASER_REQ_ALL : Fld := ⟨0x10C, 22, 1⟩
def SVCC_MB_TO_FW_HANDLE : Fld := ⟨0x110, 0, 32⟩
def SVCC_MB_TO_HOST_HANDLE : Fld := ⟨0x114, 0, 32⟩
def SVCC_INJ_DESC_DESC : Fld := ⟨0x120, 0, 32⟩
def SVCC_INJ_STATUS_DEPTH : Fld := ⟨0x130, 0, 7⟩
def SVCC_LEASE_CTL_CMD : Fld := ⟨0xE00, 0, 2⟩
def SVCC_LEASE_CTL_NEXT : Fld := ⟨0xE00, 2, 2⟩
def SVCC_INJ_LIMIT_PORT_RATE : Fld := ⟨0xE04, 0, 10⟩
def SVCC_INJ_LIMIT_DEV_RATE : Fld := ⟨0xE04, 10, 14⟩
def SVCC_LASER_CEIL_CEIL : Fld := ⟨0xE08, 0, 12⟩
def TWIN_TWIN_CFG_MODE : Fld := ⟨0x80, 0, 2⟩
def TWIN_TWIN_CFG_PRIO : Fld := ⟨0x80, 2, 1⟩
def TWIN_TWIN_CFG_REFUSED : Fld := ⟨0x80, 31, 1⟩
def TWIN_TWIN_TIMING_RENEW_MS : Fld := ⟨0x84, 0, 8⟩
def TWIN_TWIN_TIMING_LEASE_MS : Fld := ⟨0x84, 8, 10⟩
def TWIN_TWIN_TIMING_GUARD_MS : Fld := ⟨0x84, 18, 5⟩
def TWIN_TWIN_STATUS_ROLE : Fld := ⟨0x88, 0, 2⟩
def TWIN_TWIN_STATUS_LINK_UP : Fld := ⟨0x88, 2, 1⟩
def TWIN_TWIN_STATUS_PEER_ROLE : Fld := ⟨0x88, 3, 2⟩
def TWIN_TWIN_STATUS_HOLD_IN : Fld := ⟨0x88, 5, 1⟩
def TWIN_TWIN_STATUS_HOLD_OUT : Fld := ⟨0x88, 6, 1⟩
def TWIN_TWIN_STATUS_REMAIN_MS : Fld := ⟨0x88, 7, 10⟩
def TWIN_TWIN_STATUS_AGE : Fld := ⟨0x88, 28, 4⟩
def TWIN_PEER_ID_LO_ID : Fld := ⟨0x8C, 0, 32⟩
def TWIN_PEER_ID_HI_ID : Fld := ⟨0x90, 0, 32⟩
def TWIN_SHARED_MAP_SHARED : Fld := ⟨0x100, 0, 32⟩
def TWIN_TWIN_CTL_CMD : Fld := ⟨0xE00, 0, 2⟩
def POOL_POOL_CFG_REFUSED : Fld := ⟨0x80, 31, 1⟩
def POOL_POOL_STATE_FREE : Fld := ⟨0x84, 0, 16⟩
def POOL_POOL_STATE_TRANSIT : Fld := ⟨0x84, 16, 8⟩
def POOL_PM_CMD_OP : Fld := ⟨0x100, 0, 2⟩
def POOL_PM_CMD_REQ : Fld := ⟨0x100, 2, 4⟩
def POOL_PM_CMD_SIZE : Fld := ⟨0x100, 6, 14⟩
def POOL_PM_CMD_RESULT : Fld := ⟨0x100, 20, 2⟩
def POOL_PM_CMD_BUSY : Fld := ⟨0x100, 30, 1⟩
def POOL_PM_HANDLE_HANDLE : Fld := ⟨0x104, 0, 32⟩
def POOL_QUOTA_QUOTA : Fld := ⟨0x200, 0, 16⟩
def POOL_QUOTA_HELD : Fld := ⟨0x200, 16, 16⟩
def SLCE_SLCE_CFG_HANG_US : Fld := ⟨0x80, 0, 14⟩
def SLCE_SLCE_CFG_REFUSED : Fld := ⟨0x80, 31, 1⟩
def SLCE_SLCE_STATUS_READY : Fld := ⟨0x84, 0, 1⟩
def SLCE_SLCE_STATUS_RELOADING : Fld := ⟨0x84, 1, 1⟩
def SLCE_SLCE_STATUS_RELOAD_LEFT : Fld := ⟨0x84, 2, 21⟩
def SLCE_BUF_CAPTURE_CELL : Fld := ⟨0x88, 0, 18⟩
def SLCE_BUF_CAPTURE_VALID : Fld := ⟨0x88, 31, 1⟩
def CLSF_CLSF_CFG_RULE_VERSION : Fld := ⟨0x80, 0, 1⟩
def CLSF_CLSF_CFG_REFUSED : Fld := ⟨0x80, 31, 1⟩
def CLSF_PARSE_CAPTURE_LPORT : Fld := ⟨0x84, 0, 7⟩
def CLSF_PARSE_CAPTURE_TEMPLATE : Fld := ⟨0x84, 7, 6⟩
def CLSF_PARSE_CAPTURE_REASON : Fld := ⟨0x84, 13, 2⟩
def CLSF_PARSE_CAPTURE_VALID : Fld := ⟨0x84, 15, 1⟩
def CLSF_ECC_CAPTURE_INDEX : Fld := ⟨0x88, 0, 14⟩
def CLSF_ECC_CAPTURE_VALID : Fld := ⟨0x88, 31, 1⟩
def CLSF_TMPL_CMD_INDEX : Fld := ⟨0x100, 0, 6⟩
def CLSF_TMPL_CMD_OP : Fld := ⟨0x100, 6, 2⟩
def CLSF_TMPL_CMD_BUSY : Fld := ⟨0x100, 30, 1⟩
def CLSF_TMPL_CFG_BASE : Fld := ⟨0x104, 0, 1⟩
def CLSF_TMPL_UNIT_OFF : Fld := ⟨0x108, 0, 7⟩
def CLSF_TMPL_UNIT_LEN : Fld := ⟨0x108, 7, 4⟩
def CLSF_TMPL_UNIT_KPOS : Fld := ⟨0x108, 11, 6⟩
def CLSF_TMPL_UNIT_EN : Fld := ⟨0x108, 17, 1⟩
def CLSF_RULE_CMD_INDEX : Fld := ⟨0x180, 0, 14⟩
def CLSF_RULE_CMD_OP : Fld := ⟨0x180, 14, 2⟩
def CLSF_RULE_CMD_VER : Fld := ⟨0x180, 16, 2⟩
def CLSF_RULE_CMD_VALID : Fld := ⟨0x180, 18, 1⟩
def CLSF_RULE_CMD_BUSY : Fld := ⟨0x180, 30, 1⟩
def CLSF_RULE_CMD_REFUSED : Fld := ⟨0x180, 31, 1⟩
def CLSF_RULE_KEY_KEY : Fld := ⟨0x184, 0, 32⟩
def CLSF_RULE_MASK_MASK : Fld := ⟨0x1C4, 0, 32⟩
def CLSF_RULE_ACT0_FWD : Fld := ⟨0x204, 0, 3⟩
def CLSF_RULE_ACT0_SET_CLASS_EN : Fld := ⟨0x204, 3, 1⟩
def CLSF_RULE_ACT0_CLASS : Fld := ⟨0x204, 4, 3⟩
def CLSF_RULE_ACT0_SET_COLOUR_EN : Fld := ⟨0x204, 7, 1⟩
def CLSF_RULE_ACT0_COLOUR : Fld := ⟨0x204, 8, 2⟩
def CLSF_RULE_ACT0_METER_EN : Fld := ⟨0x204, 10, 1⟩
def CLSF_RULE_ACT0_METER : Fld := ⟨0x204, 11, 15⟩
def CLSF_RULE_ACT0_NO_LEARN : Fld := ⟨0x204, 26, 1⟩
def CLSF_RULE_ACT0_MIRROR_EN : Fld := ⟨0x204, 27, 1⟩
def CLSF_RULE_ACT0_MIRROR : Fld := ⟨0x204, 28, 4⟩
def CLSF_RULE_ACT1_TARGET : Fld := ⟨0x208, 0, 32⟩
def CLSF_RULE_ACT2_RING : Fld := ⟨0x20C, 0, 4⟩
def CLSF_RULE_HITS_HITS : Fld := ⟨0x214, 0, 32⟩
def CLSF_SEL_ETYPE : Fld := ⟨0x400, 0, 16⟩
def CLSF_SEL_TEMPLATE : Fld := ⟨0x400, 16, 6⟩
def CLSF_SEL_EN : Fld := ⟨0x400, 22, 1⟩
def CLSF_SEL_DEFAULT_TEMPLATE : Fld := ⟨0x420, 0, 6⟩
def CLSF_SEL_DEFAULT_NONE : Fld := ⟨0x420, 6, 1⟩
def CLSF_DEF_ACT0_FWD : Fld := ⟨0x800, 0, 3⟩
def CLSF_DEF_ACT0_SET_CLASS_EN : Fld := ⟨0x800, 3, 1⟩
def CLSF_DEF_ACT0_CLASS : Fld := ⟨0x800, 4, 3⟩
def CLSF_DEF_ACT0_SET_COLOUR_EN : Fld := ⟨0x800, 7, 1⟩
def CLSF_DEF_ACT0_COLOUR : Fld := ⟨0x800, 8, 2⟩
def CLSF_DEF_ACT0_METER_EN : Fld := ⟨0x800, 10, 1⟩
def CLSF_DEF_ACT0_METER : Fld := ⟨0x800, 11, 15⟩
def CLSF_DEF_ACT0_NO_LEARN : Fld := ⟨0x800, 26, 1⟩
def CLSF_DEF_ACT0_MIRROR_EN : Fld := ⟨0x800, 27, 1⟩
def CLSF_DEF_ACT0_MIRROR : Fld := ⟨0x800, 28, 4⟩
def CLSF_DEF_ACT1_TARGET : Fld := ⟨0x804, 0, 32⟩
def CLSF_DEF_ACT2_RING : Fld := ⟨0x808, 0, 4⟩
def CLSF_LPORT_CFG_PROFILE : Fld := ⟨0xA00, 0, 4⟩
def CLSF_LPORT_CFG_DEF_CLASS : Fld := ⟨0xA00, 4, 3⟩
def CLSF_LPORT_CFG_TRUST_PCP : Fld := ⟨0xA00, 7, 1⟩
def CLSF_LPORT_CFG_DEI_YELLOW : Fld := ⟨0xA00, 8, 1⟩
def CLSF_LPORT_CFG_DEF_ACT : Fld := ⟨0xA00, 9, 5⟩
def CLSF_LPORT_PCP_PCP_MAP : Fld := ⟨0xA04, 0, 24⟩
def CLSF_FW_RULE_RANGE_FW_BASE : Fld := ⟨0xE00, 0, 14⟩
def CLSF_FW_RULE_RANGE_FW_COUNT : Fld := ⟨0xE00, 14, 15⟩
def METR_METR_CFG_REFUSED : Fld := ⟨0x80, 31, 1⟩
def METR_ECC_CAPTURE_INDEX : Fld := ⟨0xA0, 0, 15⟩
def METR_ECC_CAPTURE_VALID : Fld := ⟨0xA0, 31, 1⟩
def METR_MTR_CMD_INDEX : Fld := ⟨0x100, 0, 15⟩
def METR_MTR_CMD_OP : Fld := ⟨0x100, 15, 2⟩
def METR_MTR_CMD_BUSY : Fld := ⟨0x100, 30, 1⟩
def METR_MTR_CIR_RATE : Fld := ⟨0x104, 0, 24⟩
def METR_MTR_CBS_BURST : Fld := ⟨0x108, 0, 24⟩
def METR_MTR_EIR_RATE : Fld := ⟨0x10C, 0, 24⟩
def METR_MTR_EBS_BURST : Fld := ⟨0x110, 0, 24⟩
def METR_MTR_MODE_COLOR_AWARE : Fld := ⟨0x114, 0, 1⟩
def METR_MTR_MODE_CF : Fld := ⟨0x114, 1, 1⟩
def METR_MTR_MODE_DROP_RED : Fld := ⟨0x114, 2, 1⟩
def METR_MTR_MODE_LEN_ADJ : Fld := ⟨0x114, 3, 6⟩
def METR_MTR_MODE_EN : Fld := ⟨0x114, 9, 1⟩
def METR_MTR_TC_TOKENS : Fld := ⟨0x150, 0, 24⟩
def METR_MTR_TE_TOKENS : Fld := ⟨0x154, 0, 24⟩
def SCHD_SCHD_CFG_REFUSED : Fld := ⟨0x80, 31, 1⟩
def SCHD_SAMPLE_CFG_PERIOD : Fld := ⟨0x84, 0, 20⟩
def SCHD_SAMPLE_CFG_WATCH_EN : Fld := ⟨0x84, 20, 1⟩
def SCHD_SCH_CMD_INDEX : Fld := ⟨0x100, 0, 15⟩
def SCHD_SCH_CMD_TABLE : Fld := ⟨0x100, 15, 4⟩
def SCHD_SCH_CMD_OP : Fld := ⟨0x100, 19, 2⟩
def SCHD_SCH_CMD_RESULT : Fld := ⟨0x100, 21, 2⟩
def SCHD_SCH_CMD_BUSY : Fld := ⟨0x100, 30, 1⟩
def SCHD_SCH_DATA_DATA : Fld := ⟨0x104, 0, 32⟩
def SCHD_GATE_STATUS_OPER_GATES : Fld := ⟨0x200, 0, 8⟩
def SCHD_GATE_STATUS_ENTRY : Fld := ⟨0x200, 8, 8⟩
def SCHD_GATE_STATUS_PENDING : Fld := ⟨0x200, 16, 1⟩
def SCHD_GATE_STATUS_GATING : Fld := ⟨0x200, 17, 1⟩
def SCHD_GATE_STATUS_BREACH : Fld := ⟨0x200, 18, 2⟩
def SCHD_GATE_STATUS_HOLD : Fld := ⟨0x200, 20, 1⟩
def SCHD_GATE_CHANGE_SEC_SEC : Fld := ⟨0x204, 0, 32⟩
def SCHD_GATE_CHANGE_NS_NS : Fld := ⟨0x208, 0, 30⟩
def PACK_PACK_CFG_REFUSED : Fld := ⟨0x80, 31, 1⟩
def PACK_SAMPLE_CFG_MISS_SAMPLE_N : Fld := ⟨0x84, 0, 16⟩
def PACK_SAMPLE_CFG_MISS_SAMPLE_EN : Fld := ⟨0x84, 16, 1⟩
def PACK_SAMPLE_CFG_MISS_RING : Fld := ⟨0x84, 17, 4⟩
def PACK_LPORT_PACK_PACK_EN : Fld := ⟨0x100, 0, 1⟩
def PACK_LPORT_PACK_FOLD_EN : Fld := ⟨0x100, 1, 1⟩
def PACK_LPORT_PACK_FOLD_TABLE : Fld := ⟨0x100, 2, 2⟩
def PACK_LPORT_PACK_FOLD_ETYPE : Fld := ⟨0x100, 4, 1⟩
def PACK_LPORT_PACK_TRAIN_KB : Fld := ⟨0x100, 5, 4⟩
def PACK_FOLD_STATE_TX_ACTIVE : Fld := ⟨0x300, 0, 8⟩
def PACK_FOLD_STATE_RX_ACTIVE : Fld := ⟨0x300, 8, 8⟩
def PACK_FOLD_STATE_RX_ARMED : Fld := ⟨0x300, 16, 8⟩
def PACK_FOLD_STATE_ARMED : Fld := ⟨0x300, 24, 1⟩
def PACK_FOLD_STATE_SUSPEND : Fld := ⟨0x300, 25, 1⟩
def PACK_FOLD_STATE_CLEANING : Fld := ⟨0x300, 26, 1⟩
def PACK_FOLD_STATE_PROMOTING : Fld := ⟨0x300, 27, 1⟩
def PACK_FOLD_CTL_CMD : Fld := ⟨0x304, 0, 3⟩
def PACK_FOLD_CTL_GEN : Fld := ⟨0x304, 8, 8⟩
def PACK_FOLD_CMD_INDEX : Fld := ⟨0x400, 0, 16⟩
def PACK_FOLD_CMD_TABLE : Fld := ⟨0x400, 16, 2⟩
def PACK_FOLD_CMD_DIR : Fld := ⟨0x400, 18, 1⟩
def PACK_FOLD_CMD_OP : Fld := ⟨0x400, 19, 2⟩
def PACK_FOLD_CMD_RESULT : Fld := ⟨0x400, 21, 2⟩
def PACK_FOLD_CMD_BUSY : Fld := ⟨0x400, 30, 1⟩
def PACK_FOLD_DATA_BYTES : Fld := ⟨0x404, 0, 32⟩
def PACK_FOLD_DATA6_LEN : Fld := ⟨0x41C, 0, 5⟩
def PACK_FOLD_DATA6_GEN : Fld := ⟨0x41C, 5, 8⟩
def PACK_FOLD_DATA6_VALID : Fld := ⟨0x41C, 13, 1⟩
def PACK_FOLD_DATA6_STATE : Fld := ⟨0x41C, 14, 2⟩
def PACK_FOLD_DATA6_NEXT_PRESENT : Fld := ⟨0x41C, 16, 1⟩
def PACK_CNT_SEL_LPORT : Fld := ⟨0x500, 0, 7⟩
def PACK_FW_FOLD_EN_WRITE_EN : Fld := ⟨0xE00, 0, 4⟩
def XBAR_XS_CFG_CT_START : Fld := ⟨0x80, 0, 4⟩
def XBAR_XS_CFG_REFUSED : Fld := ⟨0x80, 31, 1⟩
def XBAR_RESEQ_CFG_TIMEOUT : Fld := ⟨0x84, 0, 14⟩
def XBAR_RESEQ_STATUS_HELD : Fld := ⟨0x88, 0, 16⟩
def XBAR_RESEQ_STATUS_PEAK : Fld := ⟨0x88, 16, 16⟩
def XBAR_LATE_CAPTURE_SRC_SLICE : Fld := ⟨0x8C, 0, 3⟩
def XBAR_LATE_CAPTURE_DEST : Fld := ⟨0x8C, 3, 9⟩
def XBAR_LATE_CAPTURE_CLASS : Fld := ⟨0x8C, 12, 3⟩
def XBAR_LATE_CAPTURE_ORDER : Fld := ⟨0x8C, 15, 1⟩
def XBAR_LATE_CAPTURE_VALID : Fld := ⟨0x8C, 31, 1⟩
def XBAR_VOQ_SEL_INDEX : Fld := ⟨0x90, 0, 12⟩
def XBAR_VOQ_OCC_CELLS : Fld := ⟨0x94, 0, 18⟩
def XBAR_STALL_CAPTURE_INDEX : Fld := ⟨0x98, 0, 12⟩
def XBAR_STALL_CAPTURE_VALID : Fld := ⟨0x98, 31, 1⟩
def XBAR_FWD_MODE_PORT_CT : Fld := ⟨0x100, 0, 1⟩
def XBAR_FWD_MODE_CLASS_OVR : Fld := ⟨0x100, 2, 16⟩
def XBARM_XM_CFG_REFUSED : Fld := ⟨0x80, 31, 1⟩
def XBARM_XM_STATUS_PLANE_UP : Fld := ⟨0x84, 0, 4⟩
def XBARM_XM_STATUS_CAPACITY : Fld := ⟨0x84, 4, 7⟩
def XBARM_PLANE_CTL_PLANE : Fld := ⟨0xE00, 0, 2⟩
def XBARM_PLANE_CTL_ACTION : Fld := ⟨0xE00, 2, 2⟩
def DEEP_ADM_CFG_REFUSED : Fld := ⟨0x80, 31, 1⟩
def DEEP_VOQ_CELLS_CELLS : Fld := ⟨0x84, 0, 19⟩
def DEEP_STAGE_WSTAGE : Fld := ⟨0x88, 0, 16⟩
def DEEP_STAGE_RSTAGE : Fld := ⟨0x88, 16, 16⟩
def DEEP_DESC_FLOOR_FLOOR : Fld := ⟨0x8C, 0, 19⟩
def DEEP_POOL_SIZE_SIZE : Fld := ⟨0x90, 0, 19⟩
def DEEP_POOL_OCC_OCC : Fld := ⟨0xA0, 0, 19⟩
def DEEP_CELL_FREE_COUNT : Fld := ⟨0xB0, 0, 19⟩
def DEEP_CELL_USED_COUNT : Fld := ⟨0xB4, 0, 19⟩
def DEEP_CELL_TRANSIT_COUNT : Fld := ⟨0xB8, 0, 19⟩
def DEEP_DESC_FREE_COUNT : Fld := ⟨0xBC, 0, 19⟩
def DEEP_DESC_USED_COUNT : Fld := ⟨0xC0, 0, 19⟩
def DEEP_DESC_TRANSIT_COUNT : Fld := ⟨0xC4, 0, 19⟩
def DEEP_GUAR_CAPTURE_REASON : Fld := ⟨0xC8, 0, 3⟩
def DEEP_GUAR_CAPTURE_INDEX : Fld := ⟨0xC8, 3, 15⟩
def DEEP_GUAR_CAPTURE_VALID : Fld := ⟨0xC8, 31, 1⟩
def DEEP_GUAR_EXCESS_EXCESS : Fld := ⟨0xCC, 0, 32⟩
def DEEP_Q_CMD_INDEX : Fld := ⟨0x100, 0, 15⟩
def DEEP_Q_CMD_OP : Fld := ⟨0x100, 15, 2⟩
def DEEP_Q_CMD_RESULT : Fld := ⟨0x100, 17, 2⟩
def DEEP_Q_CMD_BUSY : Fld := ⟨0x100, 30, 1⟩
def DEEP_Q_DATA0_MIN_CELLS : Fld := ⟨0x104, 0, 19⟩
def DEEP_Q_DATA0_POOL : Fld := ⟨0x104, 19, 2⟩
def DEEP_Q_DATA0_PROFILE : Fld := ⟨0x104, 21, 5⟩
def DEEP_Q_DATA0_LOSSLESS : Fld := ⟨0x104, 26, 1⟩
def DEEP_Q_DATA0_SPILL_EN : Fld := ⟨0x104, 27, 1⟩
def DEEP_Q_DATA1_MAX_CELLS : Fld := ⟨0x108, 0, 19⟩
def DEEP_Q_DATA2_SPILL_TH : Fld := ⟨0x10C, 0, 19⟩
def DEEP_Q_DATA3_MIN_BOBBINS : Fld := ⟨0x110, 0, 26⟩
def DEEP_Q_DATA4_MAX_BOBBINS : Fld := ⟨0x114, 0, 26⟩
def DEEP_Q_DATA5_GUAR_RATE : Fld := ⟨0x118, 0, 20⟩
def DEEP_Q_DATA6_OCC_CELLS : Fld := ⟨0x11C, 0, 19⟩
def DEEP_Q_DATA6_STATE : Fld := ⟨0x11C, 19, 1⟩
def DEEP_Q_DATA7_DEEP_BOBBINS : Fld := ⟨0x120, 0, 26⟩
def DEEP_Q_DATA8_DEEP_FRAMES : Fld := ⟨0x124, 0, 26⟩
def DEEP_Q_DATA9_AVG : Fld := ⟨0x128, 0, 28⟩
def DEEP_Q_DATA10_EFF_RATE : Fld := ⟨0x12C, 0, 20⟩
def DEEP_Q_CNT_COUNT : Fld := ⟨0x144, 0, 32⟩
def DEEP_WRED_TH_MIN_TH : Fld := ⟨0x400, 0, 16⟩
def DEEP_WRED_TH_MAX_TH : Fld := ⟨0x400, 16, 16⟩
def DEEP_WRED_P_MAX_P : Fld := ⟨0x404, 0, 8⟩
def DEEP_WRED_P_EN : Fld := ⟨0x404, 8, 1⟩
def DEEP_WRED_P_W : Fld := ⟨0x404, 9, 4⟩
def DEEPT_TIER_CFG_REFUSED : Fld := ⟨0x80, 31, 1⟩
def DEEPT_DDESC_FLOOR_FLOOR : Fld := ⟨0x84, 0, 27⟩
def DEEPT_RATE_FACTOR_FACTOR : Fld := ⟨0x88, 0, 17⟩
def DEEPT_SPACE_FACTOR_FACTOR : Fld := ⟨0x8C, 0, 17⟩
def DEEPT_DEEP_RATE_WRITE_GBPS : Fld := ⟨0x90, 0, 16⟩
def DEEPT_DEEP_RATE_READ_GBPS : Fld := ⟨0x90, 16, 16⟩
def DEEPT_BOB_FREE_COUNT : Fld := ⟨0x94, 0, 26⟩
def DEEPT_BOB_USED_COUNT : Fld := ⟨0x98, 0, 26⟩
def DEEPT_BOB_TRANSIT_COUNT : Fld := ⟨0x9C, 0, 26⟩
def DEEPT_BOB_TOTAL_COUNT : Fld := ⟨0xA0, 0, 26⟩
def DEEPT_DDESC_FREE_COUNT : Fld := ⟨0xA4, 0, 27⟩
def DEEPT_DDESC_USED_COUNT : Fld := ⟨0xA8, 0, 27⟩
def DEEPT_DDESC_TRANSIT_COUNT : Fld := ⟨0xAC, 0, 27⟩
def DEEPT_AUDIT_CFG_AUDIT_EN : Fld := ⟨0xB0, 0, 1⟩
def DEEPT_AUDIT_CAPTURE_ACCOUNT : Fld := ⟨0xB4, 0, 4⟩
def DEEPT_AUDIT_CAPTURE_INSTANCE : Fld := ⟨0xB4, 4, 24⟩
def DEEPT_AUDIT_CAPTURE_VALID : Fld := ⟨0xB4, 31, 1⟩
def DEEPT_AUDIT_DIFF_DIFF : Fld := ⟨0xB8, 0, 32⟩
def DEEPT_AUDIT_COUNT_COUNT : Fld := ⟨0xBC, 0, 32⟩
def DEEPT_STACK_STATE_IN_SERVICE : Fld := ⟨0x100, 0, 1⟩
def DEEPT_STACK_STATE_REFRESH_2X : Fld := ⟨0x100, 1, 1⟩
def DEEPT_STACK_STATE_FAULT : Fld := ⟨0x100, 2, 1⟩
def DEEPT_STACK_STATE_TEMP : Fld := ⟨0x100, 3, 8⟩
def DEEPT_STACK_STATE_AGE : Fld := ⟨0x100, 28, 4⟩
def DEEPT_STACK_CTL_STACK : Fld := ⟨0xE00, 0, 3⟩
def DEEPT_STACK_CTL_ACTION : Fld := ⟨0xE00, 3, 2⟩
def FABR_FS_CFG_REFUSED : Fld := ⟨0x80, 31, 1⟩
def FABR_CNT_SEL_LINK : Fld := ⟨0x84, 0, 5⟩
def FABR_RESEQ_STATUS_HELD : Fld := ⟨0x88, 0, 16⟩
def FABR_RESEQ_STATUS_PEAK : Fld := ⟨0x88, 16, 16⟩
def FABR_STREAM_STATUS_ENTRIES : Fld := ⟨0x8C, 0, 15⟩
def FABR_LATE_CAPTURE_SRC_DEV : Fld := ⟨0x90, 0, 12⟩
def FABR_LATE_CAPTURE_SRC_SLICE : Fld := ⟨0x90, 12, 3⟩
def FABR_LATE_CAPTURE_PORT : Fld := ⟨0x90, 15, 8⟩
def FABR_LATE_CAPTURE_CLASS : Fld := ⟨0x90, 23, 3⟩
def FABR_LATE_CAPTURE_VALID : Fld := ⟨0x90, 31, 1⟩
def FABR_LINK_CFG_CELL_EN : Fld := ⟨0x100, 0, 1⟩
def FABR_LINK_CFG_LINK_EN : Fld := ⟨0x100, 1, 1⟩
def FABR_LINK_RETRY_RETRY_TIMER : Fld := ⟨0x104, 0, 18⟩
def FABR_LINK_STATE_STATE : Fld := ⟨0x108, 0, 3⟩
def FABR_LINK_STATE_REJECT : Fld := ⟨0x108, 3, 4⟩
def FABR_LINK_STATE_RETRY_FILL : Fld := ⟨0x108, 7, 12⟩
def FABR_LINK_CREDIT_GRANT_LO : Fld := ⟨0x10C, 0, 12⟩
def FABR_LINK_CREDIT_GRANT_HI : Fld := ⟨0x10C, 16, 12⟩
def FABR_LINK_RTT_RTT : Fld := ⟨0x11C, 0, 20⟩
def FABRM_FD_CFG_REFUSED : Fld := ⟨0x80, 31, 1⟩
def FABRM_DEV_ADDR_ADDR : Fld := ⟨0x84, 0, 24⟩
def FABRM_DEV_NUM_NUM : Fld := ⟨0x88, 0, 12⟩
def FABRM_HELLO_CFG_INTERVAL : Fld := ⟨0x8C, 0, 17⟩
def FABRM_HELLO_CFG_DEAD_MULT : Fld := ⟨0x8C, 17, 4⟩
def FABRM_RESEQ_CFG_TIMEOUT : Fld := ⟨0x90, 0, 16⟩
def FABRM_RESEQ_EFF_EFF_TIMEOUT : Fld := ⟨0x94, 0, 17⟩
def FABRM_PATH_RETRY_LOCAL_MAX : Fld := ⟨0x98, 0, 12⟩
def FABRM_PATH_RETRY_PATH_MAX : Fld := ⟨0x98, 16, 12⟩
def FABRM_STREAM_CFG_STREAM_IDLE : Fld := ⟨0x9C, 0, 16⟩
def FABRM_STREAM_CFG_HOLDDOWN : Fld := ⟨0x9C, 16, 10⟩
def FABRM_MODULE_ID_LO_ID : Fld := ⟨0xA0, 0, 32⟩
def FABRM_MODULE_ID_HI_ID : Fld := ⟨0xA4, 0, 32⟩
def FABRM_GRP_CMD_INDEX : Fld := ⟨0x100, 0, 12⟩
def FABRM_GRP_CMD_OP : Fld := ⟨0x100, 12, 2⟩
def FABRM_GRP_CMD_RESULT : Fld := ⟨0x100, 14, 2⟩
def FABRM_GRP_CMD_BUSY : Fld := ⟨0x100, 30, 1⟩
def FABRM_GRP_DATA_MEMBERS : Fld := ⟨0x104, 0, 32⟩
def FABRM_NBR_CMD_INDEX : Fld := ⟨0x140, 0, 8⟩
def FABRM_NBR_CMD_OP : Fld := ⟨0x140, 8, 2⟩
def FABRM_NBR_CMD_BUSY : Fld := ⟨0x140, 30, 1⟩
def FABRM_NBR_DATA0_PEER_ID : Fld := ⟨0x144, 0, 32⟩
def FABRM_NBR_DATA1_PEER_ID : Fld := ⟨0x148, 0, 32⟩
def FABRM_NBR_DATA2_PEER_ADDR : Fld := ⟨0x14C, 0, 32⟩
def FABRM_NBR_DATA3_PEER_NUM : Fld := ⟨0x150, 0, 12⟩
def FABRM_NBR_DATA3_PEER_RETRY : Fld := ⟨0x150, 16, 12⟩
def FABRM_NBR_DATA4_PEER_PATH_MAX : Fld := ⟨0x154, 0, 12⟩
def FABRM_NBR_DATA5_RTT : Fld := ⟨0x158, 0, 20⟩
def FABRM_FW_FAB_EN_GROUP_WR : Fld := ⟨0xE00, 0, 1⟩
def FABRM_FW_FAB_EN_LINK_WR : Fld := ⟨0xE00, 1, 1⟩
def FABRM_PATH_CTL_RESET : Fld := ⟨0xE04, 0, 1⟩
def LOOM_LOOM_CFG_REFUSED : Fld := ⟨0x80, 31, 1⟩
def LOOM_LOOM_INFO_KIND : Fld := ⟨0x84, 0, 2⟩
def LOOM_LOOM_INFO_PERIOD_NS : Fld := ⟨0x84, 2, 11⟩
def LOOM_LOOM_INFO_DOUBLED : Fld := ⟨0x84, 13, 1⟩
def LOOM_LFSR_SEED_SEED : Fld := ⟨0x88, 0, 32⟩
def LOOM_EMERG_CNT_COUNT : Fld := ⟨0x8C, 0, 32⟩
def LOOM_ACT_CFG_SLOTS : Fld := ⟨0x100, 0, 11⟩
def LOOM_ACT_CFG_TICKETS : Fld := ⟨0x100, 11, 4⟩
def LOOM_ACT_CFG_KIND : Fld := ⟨0x100, 15, 2⟩
def LOOM_ACT_STAT_USED : Fld := ⟨0x104, 0, 11⟩
def LOOM_ACT_STAT_PEAK_WAIT : Fld := ⟨0x104, 11, 16⟩
def LOOM_EXHAUSTED_COUNT : Fld := ⟨0x108, 0, 32⟩
def OENG_OE_STATUS_TEMP : Fld := ⟨0x80, 0, 8⟩
def OENG_OE_STATUS_UC_STATE : Fld := ⟨0x80, 8, 2⟩
def OENG_OE_STATUS_SPARES_FREE : Fld := ⟨0x80, 10, 3⟩
def OENG_OE_STATUS_SPARE_USED : Fld := ⟨0x80, 13, 4⟩
def OENG_OE_STATUS_AGE : Fld := ⟨0x80, 28, 4⟩
def OENG_OE_CFG_SPARE_POLICY : Fld := ⟨0x84, 0, 1⟩
def OENG_OE_INFO_VARIANT : Fld := ⟨0x88, 0, 1⟩
def OENG_HALF_MAP0_HALF : Fld := ⟨0xA0, 0, 32⟩
def OENG_HALF_MAP1_HALF : Fld := ⟨0xA4, 0, 16⟩
def OENG_PORT_MODE_MODE : Fld := ⟨0x100, 0, 3⟩
def OENG_PORT_MODE_SUB_EN : Fld := ⟨0x100, 4, 4⟩
def OENG_PORT_MODE_PARK : Fld := ⟨0x100, 8, 1⟩
def OENG_PORT_MODE_WAKE_ACTION : Fld := ⟨0x100, 9, 1⟩
def OENG_PORT_MODE_AUTO_WAKE_EGRESS : Fld := ⟨0x100, 10, 1⟩
def OENG_PORT_MODE_WAKE_ON_LIGHT : Fld := ⟨0x100, 11, 1⟩
def OENG_PORT_MODE_REFUSED : Fld := ⟨0x100, 31, 1⟩
def OENG_PORT_HOLD_HOLD_TIMEOUT : Fld := ⟨0x104, 0, 20⟩
def OENG_PORT_PITCH_RETRY_LIMIT : Fld := ⟨0x108, 0, 4⟩
def OENG_PORT_PITCH_EQ_COLD : Fld := ⟨0x108, 4, 1⟩
def OENG_PITCH_STATE_SUB0 : Fld := ⟨0x10C, 0, 3⟩
def OENG_PITCH_STATE_SUB1 : Fld := ⟨0x10C, 4, 3⟩
def OENG_PITCH_STATE_SUB2 : Fld := ⟨0x10C, 8, 3⟩
def OENG_PITCH_STATE_SUB3 : Fld := ⟨0x10C, 12, 3⟩
def OENG_PITCH_STATE_AGE : Fld := ⟨0x10C, 28, 4⟩
def OENG_PORT_SER_SER_STRIKE : Fld := ⟨0x110, 0, 16⟩
def OENG_WAKE_MASK_MASK : Fld := ⟨0x400, 0, 32⟩
def OENG_WAKE_CHECK_CHECK : Fld := ⟨0x410, 0, 16⟩
def OENG_WAKE_CHECK_EN : Fld := ⟨0x410, 16, 1⟩
def OENG_LANE_OPT_TX_PWR : Fld := ⟨0xC00, 0, 12⟩
def OENG_LANE_OPT_RX_PWR : Fld := ⟨0xC00, 12, 12⟩
def OENG_LANE_OPT_AGE : Fld := ⟨0xC00, 28, 4⟩
def OENG_LANE_LASER_BIAS : Fld := ⟨0xC04, 0, 12⟩
def OENG_LANE_LASER_SRC : Fld := ⟨0xC04, 12, 3⟩
def OENG_LANE_LASER_LSTATE : Fld := ⟨0xC04, 15, 3⟩
def OENG_LANE_LASER_PENDING : Fld := ⟨0xC04, 18, 1⟩
def OENG_LANE_LASER_AGE : Fld := ⟨0xC04, 28, 4⟩
def OENG_LANE_CAL_DELAY_TX_DELAY : Fld := ⟨0xC08, 0, 14⟩
def OENG_LANE_CAL_DELAY_RX_DELAY : Fld := ⟨0xC08, 14, 14⟩
def OENG_LANE_CAL_DELAY_AGE : Fld := ⟨0xC08, 28, 4⟩
def OENG_LANE_CAL_ASYM_ASYM : Fld := ⟨0xC0C, 0, 16⟩
def OENG_LANE_CAL_ASYM_AGE : Fld := ⟨0xC0C, 28, 4⟩
def OENG_LANE_ACTION_LANE : Fld := ⟨0xE00, 0, 5⟩
def OENG_LANE_ACTION_ACTION : Fld := ⟨0xE00, 5, 3⟩
def FLXE_GRP_CFG_EN : Fld := ⟨0x80, 0, 1⟩
def FLXE_GRP_CFG_PHY_TYPE : Fld := ⟨0x80, 1, 2⟩
def FLXE_GRP_CFG_GROUP_NUM : Fld := ⟨0x80, 3, 20⟩
def FLXE_GRP_CFG_SMC_EN : Fld := ⟨0x80, 23, 1⟩
def FLXE_GRP_CFG_REFUSED : Fld := ⟨0x80, 31, 1⟩
def FLXE_GRP_STATUS_STATE : Fld := ⟨0x84, 0, 3⟩
def FLXE_GRP_STATUS_CAL_TX : Fld := ⟨0x84, 3, 1⟩
def FLXE_GRP_STATUS_CAL_RX : Fld := ⟨0x84, 4, 1⟩
def FLXE_GRP_STATUS_SWITCH_PEND : Fld := ⟨0x84, 5, 1⟩
def FLXE_GRP_STATUS_PHY_DOWN : Fld := ⟨0x84, 6, 8⟩
def FLXE_GRP_STATUS_RPF_MAP : Fld := ⟨0x84, 14, 8⟩
def FLXE_CAL_CTL_CMD : Fld := ⟨0x88, 0, 2⟩
def FLXE_CA_TIMEOUT_TIMEOUT : Fld := ⟨0x8C, 0, 10⟩
def FLXE_SKEW_SKEW_NS : Fld := ⟨0x90, 0, 14⟩
def FLXE_MEMBER_PORT : Fld := ⟨0xA0, 0, 8⟩
def FLXE_MEMBER_PHY : Fld := ⟨0xA0, 8, 2⟩
def FLXE_MEMBER_PHY_NUM : Fld := ⟨0xA0, 10, 8⟩
def FLXE_MEMBER_EN : Fld := ⟨0xA0, 18, 1⟩
def FLXE_MEMBER_DEF_CLIENT : Fld := ⟨0xA0, 19, 12⟩
def FLXE_RX_CAL_IDX_INDEX : Fld := ⟨0xC0, 0, 10⟩
def FLXE_RX_CAL_IDX_CAL : Fld := ⟨0xC0, 10, 1⟩
def FLXE_RX_CAL_DATA_ENTRY : Fld := ⟨0xC4, 0, 16⟩
def FLXE_TX_CAL_A_CLIENT0 : Fld := ⟨0x400, 0, 12⟩
def FLXE_TX_CAL_A_KIND0 : Fld := ⟨0x400, 12, 2⟩
def FLXE_TX_CAL_A_CLIENT1 : Fld := ⟨0x400, 16, 12⟩
def FLXE_TX_CAL_A_KIND1 : Fld := ⟨0x400, 28, 2⟩
def FLXE_TX_CAL_B_CLIENT0 : Fld := ⟨0x900, 0, 12⟩
def FLXE_TX_CAL_B_KIND0 : Fld := ⟨0x900, 12, 2⟩
def FLXE_TX_CAL_B_CLIENT1 : Fld := ⟨0x900, 16, 12⟩
def FLXE_TX_CAL_B_KIND1 : Fld := ⟨0x900, 28, 2⟩
def FLXEC_CL_CFG_REFUSED : Fld := ⟨0x80, 31, 1⟩
def FLXEC_CL_CMD_INDEX : Fld := ⟨0x100, 0, 12⟩
def FLXEC_CL_CMD_OP : Fld := ⟨0x100, 12, 2⟩
def FLXEC_CL_CMD_RESULT : Fld := ⟨0x100, 14, 2⟩
def FLXEC_CL_CMD_BUSY : Fld := ⟨0x100, 30, 1⟩
def FLXEC_CL_DATA0_GROUP : Fld := ⟨0x104, 0, 5⟩
def FLXEC_CL_DATA0_LPORT : Fld := ⟨0x104, 5, 10⟩
def FLXEC_CL_DATA0_VALID : Fld := ⟨0x104, 15, 1⟩
def FLXEC_CL_DATA0_WIRE_ID : Fld := ⟨0x104, 16, 16⟩
def FLXEC_CL_DATA1_TX_SLOTS : Fld := ⟨0x108, 0, 10⟩
def FLXEC_CL_DATA1_RX_SLOTS : Fld := ⟨0x108, 10, 10⟩
def FLXEC_CL_DATA2_FIFO_BYTES : Fld := ⟨0x10C, 0, 15⟩
def FLXEC_CL_CNT_COUNT : Fld := ⟨0x114, 0, 32⟩
def FLXEC_FW_GROUP_EN_WRITE_EN : Fld := ⟨0xE00, 0, 32⟩
def PERF_PERF_CFG_PERIOD : Fld := ⟨0x80, 0, 20⟩
def PERF_PERF_CFG_DUMP_EN : Fld := ⟨0x80, 20, 1⟩
def PERF_PERF_CFG_REFUSED : Fld := ⟨0x80, 31, 1⟩
def PERF_PERF_CTL_CMD : Fld := ⟨0x84, 0, 2⟩
def PERF_PERF_STATUS_FROZEN : Fld := ⟨0x88, 0, 1⟩
def PERF_EVSEL_EVENT : Fld := ⟨0x100, 0, 8⟩
def PERF_FILTER_PRIV : Fld := ⟨0x104, 0, 3⟩
def PERF_FILTER_MASTER : Fld := ⟨0x104, 3, 4⟩
def PERF_FILTER_CLASS : Fld := ⟨0x104, 7, 8⟩
def PERF_FILTER_RANGE_EN : Fld := ⟨0x104, 15, 1⟩
def PERF_RANGE_BASE_PAGE : Fld := ⟨0x108, 0, 24⟩
def PERF_RANGE_LIMIT_PAGE : Fld := ⟨0x10C, 0, 24⟩
def PORT_MAC_CFG_MAX_FRAME : Fld := ⟨0x80, 0, 14⟩
def PORT_MAC_CFG_PAUSE_MODE : Fld := ⟨0x80, 14, 2⟩
def PORT_MAC_CFG_PREEMPT_EN : Fld := ⟨0x80, 16, 1⟩
def PORT_MAC_CFG_VERIFY_EN : Fld := ⟨0x80, 17, 1⟩
def PORT_MAC_CFG_ADD_FRAG : Fld := ⟨0x80, 18, 2⟩
def PORT_MAC_CFG_REFUSED : Fld := ⟨0x80, 31, 1⟩
def PORT_PFC_CFG_PFC_TX_EN : Fld := ⟨0x84, 0, 8⟩
def PORT_PFC_CFG_PFC_RX_EN : Fld := ⟨0x84, 8, 8⟩
def PORT_PAUSE_TIME_QUANTA : Fld := ⟨0x88, 0, 16⟩
def PORT_PAUSE_TIME_REFRESH : Fld := ⟨0x88, 16, 16⟩
def PORT_PAUSE_WD_WD_TIME : Fld := ⟨0x8C, 0, 14⟩
def PORT_PAUSE_WD_RECOVERY : Fld := ⟨0x8C, 14, 14⟩
def PORT_PAUSE_WD_WD_EN : Fld := ⟨0x8C, 28, 1⟩
def PORT_MM_STATUS_VERIFY_STATUS : Fld := ⟨0x90, 0, 3⟩
def PORT_MM_STATUS_PREEMPT_ACTIVE : Fld := ⟨0x90, 3, 1⟩
def PORT_MM_STATUS_PAUSED_RX : Fld := ⟨0x90, 4, 8⟩
def PORT_MM_STATUS_PAUSING_TX : Fld := ⟨0x90, 12, 8⟩
def PORT_MM_STATUS_STORM : Fld := ⟨0x90, 20, 8⟩
def PORT_VERIFY_CFG_VERIFY_TIME : Fld := ⟨0x94, 0, 7⟩
def PORT_VERIFY_CFG_VERIFY_LIMIT : Fld := ⟨0x94, 7, 3⟩
def PORT_SRC_ADDR_LO_ADDR_LO : Fld := ⟨0x98, 0, 32⟩
def PORT_SRC_ADDR_HI_ADDR_HI : Fld := ⟨0x9C, 0, 16⟩
def PORT_HALF_MAP_HALF : Fld := ⟨0x180, 0, 32⟩
def PORT_PFC_XOFF_HIGH_XOFF_HIGH : Fld := ⟨0xC00, 0, 18⟩
def PORT_PFC_XOFF_LOW_XOFF_LOW : Fld := ⟨0xC04, 0, 18⟩
def PORT_PFC_HEADROOM_HEADROOM : Fld := ⟨0xD00, 0, 16⟩
def PORT_PFC_OCC_OCC : Fld := ⟨0xD80, 0, 18⟩

end Sys2Proof.Machine
end

