-- ==== Sys2Proof/Machine/Ops.lean ====
section
/-! DEFINITION. The named operations over the state: maps and byte memories in canonical form, registers and their fields, counters,
device time, what leaves the module, and free values. -/

namespace Sys2Proof.Machine

/-- The outcome of every command: a next state (NOTES.md, Stops: none). -/
abbrev Res := Host.Outcome State Fault Refusal

/-! ### Maps -/

/-- Value at key `k`; `d` where the map lists none. -/
def mget {α : Type} (d : α) : Map α → Nat → α
  | [], _ => d
  | (i, v) :: r, k => if i = k then v else mget d r k

/-- The map without key `k`. -/
def merase {α : Type} : Map α → Nat → Map α
  | [], _ => []
  | (i, v) :: r, k => if i = k then merase r k else (i, v) :: merase r k

/-- Put an entry at its place by key. -/
def mins {α : Type} (k : Nat) (v : α) : Map α → Map α
  | [] => [(k, v)]
  | (i, w) :: r => if k < i then (k, v) :: (i, w) :: r else (i, w) :: mins k v r

/-- Set key `k` to `v`; a value equal to the default is not listed. -/
def mset {α : Type} [DecidableEq α] (d : α) (m : Map α) (k : Nat) (v : α) : Map α :=
  if v = d then merase m k else mins k v (merase m k)

/-- Change every value of a map. -/
def mmap {α : Type} [DecidableEq α] (d : α) (f : Nat → α → α) (m : Map α) : Map α :=
  (m.map fun e => (e.1, f e.1 e.2)).filter fun e => decide (e.2 ≠ d)

/-- Keys strictly rising. -/
def mrising {α : Type} : Map α → Bool
  | [] => true
  | [_] => true
  | (i, _) :: (j, w) :: r => i < j && mrising ((j, w) :: r)

/-- The canonical form: keys strictly rising and no entry at the default. -/
def mwf {α : Type} [DecidableEq α] (d : α) (m : Map α) : Bool := mrising m && m.all fun e => decide (e.2 ≠ d)

/-- Every value listed, in key order. -/
def mvals {α : Type} (m : Map α) : List α := m.map (·.2)

/-! ### Byte memories (host memory, pool buffers, cluster SRAM and windows). An unlisted byte reads 0 (log 9, log 12). -/

def Mem.get (m : Mem) (a : Nat) : Byte := mget (α := Byte) 0 m a
def Mem.set (m : Mem) (a : Nat) (b : Byte) : Mem := mset (α := Byte) 0 m a b
/-- The canonical form of a byte memory. -/
def Mem.wf (m : Mem) : Bool := mwf (α := Byte) 0 m
def Mem.read (m : Mem) (a : Nat) : Nat → List Byte
  | 0 => []
  | n + 1 => m.get a :: Mem.read m (a + 1) n
def Mem.write (m : Mem) (a : Nat) : List Byte → Mem
  | [] => m
  | b :: r => Mem.write (m.set a b) (a + 1) r

/-! ### Free values, output -/

/-- The next free value, and the state whose counter has moved past it (log 3). -/
def State.fresh (s : State) : BitVec 64 × State := (Config.freeValue s.free, { s with free := s.free + 1 })

/-- `n` free bytes. -/
def State.freshBytes (s : State) : Nat → List Byte × State
  | 0 => ([], s)
  | n + 1 =>
    let (v, s) := s.fresh
    let (r, s) := s.freshBytes n
    (v.setWidth 8 :: r, s)

/-- Something leaves the module (log 4). -/
def State.emit (s : State) (o : Out) : State := { s with out := o :: s.out }

/-! ### Registers -/

/-- BAR0 address of an offset of a page. -/
def regA (pg off : Nat) : Nat := pg * 4096 + off

/-- Applied value of the register at a BAR0 address. -/
def State.rd (s : State) (a : Nat) : Word := mget (resetAt a) s.regs a
def State.wr (s : State) (a : Nat) (v : Word) : State := { s with regs := mset (resetAt a) s.regs a v }

/-- The `w` bits of a word from bit `lo`. -/
def getBits (x : Word) (lo w : Nat) : Nat := x.toNat / 2 ^ lo % 2 ^ w

/-- The word with its `w` bits from bit `lo` replaced. -/
def putBits (x : Word) (lo w v : Nat) : Word :=
  BitVec.ofNat 32 (x.toNat % 2 ^ lo + v % 2 ^ w * 2 ^ lo + x.toNat / 2 ^ (lo + w) * 2 ^ (lo + w))

/-- A field of page `pg`, as applied. -/
def State.fld (s : State) (pg : Nat) (f : Fld) : Nat := getBits (s.rd (regA pg f.off)) f.lo f.w
def State.setFld (s : State) (pg : Nat) (f : Fld) (v : Nat) : State :=
  s.wr (regA pg f.off) (putBits (s.rd (regA pg f.off)) f.lo f.w v)
def State.flag (s : State) (pg : Nat) (f : Fld) : Bool := s.fld pg f == 1
def State.setFlag (s : State) (pg : Nat) (f : Fld) (b : Bool) : State := s.setFld pg f (if b then 1 else 0)

/-- What the host last wrote: the shadow where it holds a write, else the applied value (R388). -/
def State.rdShadow (s : State) (a : Nat) : Word :=
  match s.shadow.find? (·.1 == a) with
  | some e => e.2
  | none => s.rd a

/-- A shadowed field (R388). -/
def State.sfld (s : State) (pg : Nat) (f : Fld) : Nat := getBits (s.rdShadow (regA pg f.off)) f.lo f.w

/-! ### Writes that wait (R387, R388) -/

/-- Writable bits of the register at a BAR0 address. -/
def wmOf (a : Nat) : Nat :=
  match pageOf (a / 4096) with
  | some (t, _) => match rowOf t (a % 4096) with | some r => r.wm | none => 0
  | none => 0

/-- What a write leaves in a register: its writable bits change, the others stay. -/
def mergeWord (wm : Nat) (old v : Word) : Word := (old &&& ~~~ BitVec.ofNat 32 wm) ||| (v &&& BitVec.ofNat 32 wm)

/-- Apply a write of the register at a BAR0 address. -/
def State.merge (s : State) (a : Nat) (v : Word) : State := s.wr a (mergeWord (wmOf a) (s.rd a) v)

/-- The state as its registers were written: every shadow, then every held write in its order, in place (R388). -/
def State.asWritten (s : State) : State :=
  let s := s.shadow.foldl (fun (s : State) (e : Nat × Word) => s.merge e.1 e.2) s
  (s.host.held.flatMap fun (e : Nat × List RegWrite) => e.2).foldl (fun (s : State) (e : RegWrite) => s.merge e.addr e.v) s

/-! ### Counters -/

/-- Value of the counter whose low word is at offset `off` of page `pg`. -/
def State.ctr (s : State) (pg off : Nat) : Nat := mget 0 s.ctrs (regA pg off)
def State.setCtr (s : State) (pg off n : Nat) : State := { s with ctrs := mset 0 s.ctrs (regA pg off) n }
/-- Add to a 64-bit counter, which wraps (R110). -/
def State.count (s : State) (pg off : Nat) (n : Nat := 1) : State := s.setCtr pg off ((s.ctr pg off + n) % 2 ^ 64)

/-! ### Device time (R8, R303) -/

/-- Whole nanoseconds of DT. -/
def State.dtNs (s : State) : Nat := s.time.dt / 65536
def State.dtSec (s : State) : Nat := s.dtNs / nsPerSec % 2 ^ 64
def State.dtSub (s : State) : Nat := s.dtNs % nsPerSec
/-- A 40-bit stamp (R9, R17): the low 40 bits of DT in ns. -/
def State.stamp (s : State) : Nat := s.dtNs % 2 ^ 40

/-- An edge of the 1 MHz slow clock: the whole microseconds of the model's clock (the spec does not give its phase; DESIGN CHOICE, log
104). -/
def State.slowEdge (s : State) : Bool := s.now % 1000 == 0

/-- A process that runs once in each period of `p` ns may run at `now`, when it ran at `last` before. Periods are counted from the start of
the model's clock, and the instant within a period is the command's (R89, R139, R173, R200; DESIGN CHOICE, log 111). -/
def onceIn (p : Nat) (last : Option Nat) (now : Nat) : Bool := match last with | some t => t / p < now / p | none => true

/-- Difference of two 40-bit stamps, modulo 2^40 (R19). -/
def stampAge (now stamp : Nat) : Nat := (now + 2 ^ 40 - stamp % 2 ^ 40) % 2 ^ 40

/-! ### Groups of the state -/

def State.onHost (s : State) (f : HostSt → HostSt) : State := { s with host := f s.host }
def State.onPorts (s : State) (f : Ports → Ports) : State := { s with ports := f s.ports }
def State.onTables (s : State) (f : Tables → Tables) : State := { s with tables := f s.tables }
def State.onSw (s : State) (f : Switch → Switch) : State := { s with sw := f s.sw }
def State.onTrunk (s : State) (f : Trunk → Trunk) : State := { s with trunk := f s.trunk }
def State.onTime (s : State) (f : TimeSt → TimeSt) : State := { s with time := f s.time }
def State.onSvc (s : State) (f : Service → Service) : State := { s with svc := f s.svc }
def State.onSys (s : State) (f : System → System) : State := { s with sys := f s.sys }
def State.onNv (s : State) (f : Nv → Nv) : State := s.onSys fun y => { y with nv := f y.nv }
def State.onBoot (s : State) (f : Boot → Boot) : State := s.onSys fun y => { y with boot := f y.boot }
def State.onPower (s : State) (f : Power → Power) : State := s.onSys fun y => { y with power := f y.power }
def State.onLease (s : State) (f : Lease → Lease) : State := s.onSvc fun y => { y with lease := f y.lease }
def State.onTwin (s : State) (f : Twin → Twin) : State := s.onSvc fun y => { y with twin := f y.twin }

/-- Apply `f` for each of a list of numbers in turn. -/
def State.each (s : State) (l : List Nat) (f : State → Nat → State) : State := l.foldl f s

end Sys2Proof.Machine
end

