-- ==== Sys2Proof/Machine/Access.lean ====
section
/-! DEFINITION. The parts of the state by number: for each, its value where nothing is listed (its reset value), how it is read and
how it is set. -/

namespace Sys2Proof.Machine

/-- A virtual output queue or packer with nothing in it (R206). -/
def dfltPacker : Packer :=
  { buf := [], firstTag := 511, endOff := 511, endStatus := 0, releases := [], mirrors := [], arriving := none, lastAt := 0, tagAt := none, spans := false
    closed := [], reqSince := none, waiting := [], nextSeq := 0 }
def dfltMac : Mac :=
  { rx := [], tx := none, preempted := none, verifyLeft := 0, verifyNext := none, pauseEnd := List.replicate 8 none
    pausedSince := List.replicate 8 none, wdKept := List.replicate 8 0, stormSince := List.replicate 8 none, pauseSent := List.replicate 8 none
    pfcDue := List.replicate 8 none, linkDue := none, dic := 0, gap := 12, gateLate := false }
/-- A sub-port after reset: STRUCK, dark (R32). -/
def dfltPitch : Pitch :=
  { state := 0, lit := false, fails := 0, backoffEnd := 0, entered := 0, warm := false, light := false, rxLocked := false
    fromParked := false, fromBias := false, holdStart := none, holdExpired := false, serCount := 0
    serWin := 0 }
def dfltLane : LaneSt :=
  { lstate := 0, src := 0, pending := false, bias := 0, txPwr := 0, rxPwr := 0, switching := none, switchReady := false
    deferred := false, failed := false, switchAt := 0, trips := [], latched := false, fwCeil := none, txDelay := 0, rxDelay := 0, asym := 0 }
def dfltWear : Wear := { bol := [0, 0, 0], hours := 0, bias := 0, switches := 0, failures := 0, trips := 0 }
def dfltRule : RuleEntry := { value := 0, mask := 0, action := 0, ver := 0, valid := false, hits := 0 }
def dfltTemplate : Template := { base := false, units := List.replicate 16 0 }
def dfltAcct : TokAcct := { start := 0, credited := 0, spent := 0, lost := 0, skip := false }
def dfltStack : StackSt := { out := false, doubled := false, fault := false }
def dfltMeter : Meter :=
  { cir := 0, cbs := 0, eir := 0, ebs := 0, mode := 0, tc := 0, te := 0, resC := 0, resE := 0, last := 0
    frames := [0, 0, 0], bytes := [0, 0, 0], acctC := dfltAcct, acctE := dfltAcct }
/-- Table entries at cold reset (R143). -/
def dfltTblLport : List Word := [0x01400100, 0]
def dfltTblVxlt : List Word := [0]
def dfltTblBd : List Word := [0x8E, 0, 0]
def dfltTblMirror : List Word := [0x80, 0, 1]
def dfltTblLink : List Word := List.replicate 8 0
def dfltStream : Stream :=
  { e := 0, held := [], lastStamp := none, mirrors := [], asm := { buf := [], fids := [], decided := false, skipping := false, open_ := false } }
def dfltFabStream : FabStream :=
  { e := none, fdest := 0, held := [], lastArrival := 0, asm := { buf := [], fids := [], decided := false, skipping := false, open_ := false } }
/-- A queue at cold reset (R176): window index `i` of its slice; 0 to 1,023 on-die class queues, the rest deep queues. -/
def dfltQueue (i : Nat) : Queue :=
  { minCells := 0, pool := 0, profile := 0, lossless := false, spillEn := 1024 ≤ i, maxCells := 0x4000, spillTh := 0x2000
    minBobbins := 0, maxBobbins := 0x20000, guarRate := 0, occ := 0, spilling := false, avg := 0, frames := [], deep := []
    bobbins := [], deepEnd := 0, deepAt := 0, rotor := 0, scale := 65536, admitFrames := 0, admitBytes := 0, spilled := 0
    dropWred := 0, dropSpace := 0, dropDesc := 0, ageDiscard := 0, deepLost := 0 }
/-- A scheduler table entry at cold reset (R204). -/
def dfltSchd (table : Nat) : List Word :=
  match table with
  | 0 => [0x01010101, 0x01010101, 0x14, 0, 0, 0, 0, 0]
  | 2 => [0, 0x4000, 0, 0x4000, 0, 0, 0, 0]
  | 3 => [0x80, 0, 0x4000, 0, 0x4000, 0, 0, 0]
  | 4 => [0x200, 0, 0x4000, 0, 0x4000, 0, 0, 0]
  | 5 => [0x800, 0, 0x4000, 0, 0x4000, 0, 0, 0]
  | 6 => [0, 0, 0, 0xF4240, 0, 0x801, 0, 0]
  | 7 => [0xFF, 0xF4240, 0, 0, 0, 0, 0, 0]
  | _ => [0, 0, 0, 0, 0, 0, 0, 0]
def dfltNode : Node :=
  { minTok := 0, maxTok := 0, minRes := 0, maxRes := 0, last := 0, s := 0, f := 0, v := 0, rr := 0, active := false
    selectable := false, fresh := false, acctMin := dfltAcct, acctMax := dfltAcct }
def dfltGateList : GateList :=
  { baseSec := 0, baseNs := 0, cycle := 0xF4240, ext := 0, len := 1, tb := 4, en := false, breachAction := false, selvedge := 0
    fallback := 0, entries := [(0xFF, 0, 0xF4240)] }
def dfltGate : Gate :=
  { oper := dfltGateList, operBase := 0, copying := none, pending := none, pendAt := 0, prev := none, fails := [], wakeUntil := none }
def dfltPortSched : PortSched := { deficit := List.replicate 8 0, pointer := 0, nominated := none }
def dfltSample : Sample := { lastDepth := 0, maxDepth := 0, lastDelay := 0, maxDelay := 0, watch := false, takenAt := none }
def dfltFlexe : Flexe :=
  { entered := 0, bad := List.replicate 8 0, groupNums := List.replicate 8 0, phyNums := List.replicate 8 0
    phyMaps := List.replicate 8 [], switchDeadline := none, caSeen := false, peerCr := false, announced := List.replicate 8 false
    mf := List.replicate 8 none, lastOh := List.replicate 8 0, rxCal := [], frame := 0, shown := [], smc := none }
def dfltClient : Client :=
  { group := 0, lport := 0, valid := false, wireId := 1, fifo := [], drained := 0, fifoDiscard := 0, rxCut := 0 }
def dfltPack : Pack :=
  { trainBytes := [], rxTrain := [], counters := List.replicate 14 0 }
def dfltFold : Fold :=
  { tx := [], cur := [], next := [], commitDue := false, cleaning := none, promoting := none, restarting := false }
def dfltLink : Link :=
  { nextLseq := 0, expect := 0, retry := [], txq := [], resend := [], lastNak := none, nakPending := false, nakSent := false
    credits := List.replicate 8 0, granted := List.replicate 8 0, returns := List.replicate 8 0, classTurn := 0, creditTurn := 0
    helloAt := 0, helloDue := false, lastHello := none, echo := 0, echoAt := 0, holddownEnd := 0, latchDue := [], audited := []
    nbr := none, seen := false, inBuf := List.replicate 8 0, session := 0, due := none, hunt := 0, grantsInForce := List.replicate 8 0, counters := List.replicate 12 0 }
def dfltTimeBase : TimeBase :=
  { t := 0, res := 0, i := 0, r := [0, 0], prevOfs := [none, none], lastAt := [none, none], lastStep := none, good := 0 }
/-- A budgeted resource at reset: no slot used, the LFSR at its seed (R330). -/
def dfltLoom (i : Nat) : Loom :=
  { pos := 0, used := List.replicate 8 0, waits := List.replicate 8 none
    lfsr := 0x1D0C0000 + i, emergUsed := 0, layout := (List.range 8).map fun a =>
      let (sl, _, k) := loomAct i a
      if k = 0 then sl else 0 }
def dfltMsix : Msix := { addr := 0, data := 0, masked := true }
def dfltRing : RingSt := { seq := 0, unsignalled := 0, firstAt := none, gap := none }
def dfltFifo : Fifo := { items := [], drops := 0, firstDrop := 0 }
def dfltBucket : Bucket := { tok := 65536 * 4096, res := 0, last := 0 }
def dfltBuf : Buf := { holder := none, gen := 0, transit := false }
/-- An island while only standby power is present (R15). -/
def dfltIsland (i : Nat) : IslandSt :=
  { power := if i = 53 then 2 else 1, rst := if i = 53 then 0 else 1, clkLock := false, dtLock := false, skew := 0, temp := 0
    free := none }
def dfltBlock : Block :=
  { contains := [], resetting := false, isolated := false, guy := false, guyEnd := none, byHost := false, cause := none
    reload := none }

/-- Writes held for page `k` (R388) -/
def State.held (s : State) (k : Nat) : List RegWrite := mget [] s.host.held k
def State.setHeld (s : State) (k : Nat) (v : List RegWrite) : State :=
  { s with host := { s.host with held := mset [] s.host.held k v } }
/-- Guarded value pending at page `k` (R389) -/
def State.guardOf (s : State) (k : Nat) : Option Guard := mget none s.host.guards k
def State.setGuard (s : State) (k : Nat) (v : Option Guard) : State :=
  { s with host := { s.host with guards := mset none s.host.guards k v } }
/-- MSI-X table entry `k` (R394) -/
def State.msixE (s : State) (k : Nat) : Msix := mget dfltMsix s.host.msix k
def State.setMsixE (s : State) (k : Nat) (v : Msix) : State :=
  { s with host := { s.host with msix := mset dfltMsix s.host.msix k v } }
/-- Ring `k` (R395) -/
def State.ring (s : State) (k : Nat) : RingSt := mget dfltRing s.host.rings k
def State.setRing (s : State) (k : Nat) (v : RingSt) : State :=
  { s with host := { s.host with rings := mset dfltRing s.host.rings k v } }
/-- Notification FIFO `k` (R404) -/
def State.fifo (s : State) (k : Nat) : Fifo := mget dfltFifo s.host.fifos k
def State.setFifo (s : State) (k : Nat) (v : Fifo) : State :=
  { s with host := { s.host with fifos := mset dfltFifo s.host.fifos k v } }
/-- Punted frames waiting: key slice × 16 + ring (R398) -/
def State.punts (s : State) (k : Nat) : List Punt := mget [] s.host.punts k
def State.setPunts (s : State) (k : Nat) (v : List Punt) : State :=
  { s with host := { s.host with punts := mset [] s.host.punts k v } }
/-- The inject ring of pair `k` has the turn (R399) -/
def State.pairTurn (s : State) (k : Nat) : Bool := mget false s.host.pairTurn k
def State.setPairTurn (s : State) (k : Nat) (v : Bool) : State :=
  { s with host := { s.host with pairTurn := mset false s.host.pairTurn k v } }
/-- Performance counters of island `k` frozen (R406) -/
def State.frozen (s : State) (k : Nat) : Bool := mget false s.host.frozen k
def State.setFrozen (s : State) (k : Nat) (v : Bool) : State :=
  { s with host := { s.host with frozen := mset false s.host.frozen k v } }
/-- MAC of logical port `k` -/
def State.mac (s : State) (k : Nat) : Mac := mget dfltMac s.ports.mac k
def State.setMac (s : State) (k : Nat) (v : Mac) : State :=
  { s with ports := { s.ports with mac := mset dfltMac s.ports.mac k v } }
/-- Pitching machine of logical port `k` -/
def State.pitch (s : State) (k : Nat) : Pitch := mget dfltPitch s.ports.pitch k
def State.setPitch (s : State) (k : Nat) (v : Pitch) : State :=
  { s with ports := { s.ports with pitch := mset dfltPitch s.ports.pitch k v } }
/-- Lane: key engine × 32 + lane -/
def State.lane (s : State) (k : Nat) : LaneSt := mget dfltLane s.ports.lanes k
def State.setLane (s : State) (k : Nat) (v : LaneSt) : State :=
  { s with ports := { s.ports with lanes := mset dfltLane s.ports.lanes k v } }
/-- Wear record: key engine × 64 + source -/
def State.wear (s : State) (k : Nat) : Wear := mget dfltWear s.ports.wear k
def State.setWear (s : State) (k : Nat) (v : Wear) : State :=
  { s with ports := { s.ports with wear := mset dfltWear s.ports.wear k v } }
/-- Instant of the last powered hour credited to engine `k` (R50) -/
def State.wearHour (s : State) (k : Nat) : Nat := mget 0 s.ports.wearHour k
def State.setWearHour (s : State) (k : Nat) (v : Nat) : State :=
  { s with ports := { s.ports with wearHour := mset 0 s.ports.wearHour k v } }
/-- SPARES_EXHAUSTED was raised: key engine × 4 + wavelength (R49) -/
def State.spareNoted (s : State) (k : Nat) : Bool := mget false s.ports.spareNoted k
def State.setSpareNoted (s : State) (k : Nat) (v : Bool) : State :=
  { s with ports := { s.ports with spareNoted := mset false s.ports.spareNoted k v } }
/-- Spares of engine `k` in use or spent (R60) -/
def State.spareUsed (s : State) (k : Nat) : Nat := mget 0 s.ports.spareUsed k
def State.setSpareUsed (s : State) (k : Nat) (v : Nat) : State :=
  { s with ports := { s.ports with spareUsed := mset 0 s.ports.spareUsed k v } }
/-- Microcode state of engine `k` (R60) -/
def State.ucState (s : State) (k : Nat) : Nat := mget 1 s.ports.ucState k
def State.setUcState (s : State) (k : Nat) (v : Nat) : State :=
  { s with ports := { s.ports with ucState := mset 1 s.ports.ucState k v } }
/-- Rule: key slice × 16,384 + entry -/
def State.rule (s : State) (k : Nat) : RuleEntry := mget dfltRule s.tables.rules k
def State.setRule (s : State) (k : Nat) (v : RuleEntry) : State :=
  { s with tables := { s.tables with rules := mset dfltRule s.tables.rules k v } }
/-- Template: key slice × 64 + number -/
def State.template (s : State) (k : Nat) : Template := mget dfltTemplate s.tables.templates k
def State.setTemplate (s : State) (k : Nat) (v : Template) : State :=
  { s with tables := { s.tables with templates := mset dfltTemplate s.tables.templates k v } }
/-- Meter: key slice × 32,768 + number -/
def State.meter (s : State) (k : Nat) : Meter := mget dfltMeter s.tables.meters k
def State.setMeter (s : State) (k : Nat) (v : Meter) : State :=
  { s with tables := { s.tables with meters := mset dfltMeter s.tables.meters k v } }
/-- Static members: key group × 8 + slice -/
def State.grpStatic (s : State) (k : Nat) : Nat := mget 0 s.tables.groupStatic k
def State.setGrpStatic (s : State) (k : Nat) (v : Nat) : State :=
  { s with tables := { s.tables with groupStatic := mset 0 s.tables.groupStatic k v } }
/-- Snooped members: key group × 8 + slice -/
def State.grpSnoop (s : State) (k : Nat) : Nat := mget 0 s.tables.groupSnoop k
def State.setGrpSnoop (s : State) (k : Nat) (v : Nat) : State :=
  { s with tables := { s.tables with groupSnoop := mset 0 s.tables.groupSnoop k v } }
/-- Membership stamp: key (slice × 65,536 + group) × 128 + local logical port -/
def State.member (s : State) (k : Nat) : Option Nat := mget none s.tables.members k
def State.setMember (s : State) (k : Nat) (v : Option Nat) : State :=
  { s with tables := { s.tables with members := mset none s.tables.members k v } }
/-- Candidates of a mirror session: key slice × 16 + session -/
def State.mirCount (s : State) (k : Nat) : Nat := mget 0 s.tables.mirrorCount k
def State.setMirCount (s : State) (k : Nat) (v : Nat) : State :=
  { s with tables := { s.tables with mirrorCount := mset 0 s.tables.mirrorCount k v } }
/-- The five counters of bridge domain `k` -/
def State.bdCnt (s : State) (k : Nat) : List Nat := mget [0, 0, 0, 0, 0] s.tables.bdCount k
def State.setBdCnt (s : State) (k : Nat) (v : List Nat) : State :=
  { s with tables := { s.tables with bdCount := mset [0, 0, 0, 0, 0] s.tables.bdCount k v } }
/-- DYN_COUNT of bridge domain `k` -/
def State.dynCount (s : State) (k : Nat) : Nat := mget 0 s.tables.dyn k
def State.setDynCount (s : State) (k : Nat) (v : Nat) : State :=
  { s with tables := { s.tables with dyn := mset 0 s.tables.dyn k v } }
/-- Virtual output queue: key slice × 2,112 + queue (R206) -/
def State.voq (s : State) (k : Nat) : Packer := mget dfltPacker s.sw.voqs k
def State.setVoq (s : State) (k : Nat) (v : Packer) : State :=
  { s with sw := { s.sw with voqs := mset dfltPacker s.sw.voqs k v } }
/-- Turn pointer: key (slice × 8 + destination) × 8 + class (R214) -/
def State.turn (s : State) (k : Nat) : Nat := mget 0 s.sw.turn k
def State.setTurn (s : State) (k : Nat) (v : Nat) : State :=
  { s with sw := { s.sw with turn := mset 0 s.sw.turn k v } }
/-- Withheld destination: key (slice × 264 + destination) × 8 + class (R211) -/
def State.withheld (s : State) (k : Nat) : Bool := mget false s.sw.withheld k
def State.setWithheld (s : State) (k : Nat) (v : Bool) : State :=
  { s with sw := { s.sw with withheld := mset false s.sw.withheld k v } }
/-- Resequencer stream: key ((slice × 8 + source) × 264 + destination) × 8 + class -/
def State.stream (s : State) (k : Nat) : Stream := mget dfltStream s.sw.streams k
def State.setStream (s : State) (k : Nat) (v : Stream) : State :=
  { s with sw := { s.sw with streams := mset dfltStream s.sw.streams k v } }
/-- Egress frame by id -/
def State.ef (s : State) (k : Nat) : Option EFrame := mget none s.sw.efs k
def State.setEf (s : State) (k : Nat) (v : Option EFrame) : State :=
  { s with sw := { s.sw with efs := mset none s.sw.efs k v } }
/-- Cells of a set and the copies that hold it (R146) -/
def State.cellSet (s : State) (k : Nat) : Nat × Nat := mget (0, 0) s.sw.cellSets k
def State.setCellSet (s : State) (k : Nat) (v : Nat × Nat) : State :=
  { s with sw := { s.sw with cellSets := mset (0, 0) s.sw.cellSets k v } }
/-- Egress queue: key slice × 17,408 + window index (R175) -/
def State.queue (s : State) (k : Nat) : Queue := mget (dfltQueue (k % 17408)) s.sw.queues k
def State.setQueue (s : State) (k : Nat) (v : Queue) : State :=
  { s with sw := { s.sw with queues := mset (dfltQueue (k % 17408)) s.sw.queues k v } }
/-- Express chain of physical port `k` (R149) -/
def State.chain (s : State) (k : Nat) : List Nat := mget [] s.sw.chains k
def State.setChain (s : State) (k : Nat) (v : List Nat) : State :=
  { s with sw := { s.sw with chains := mset [] s.sw.chains k v } }
/-- Requests of injected frames: key logical port × 8 + class -/
def State.injSide (s : State) (k : Nat) : List InjMeta := mget [] s.sw.injSide k
def State.setInjSide (s : State) (k : Nat) (v : List InjMeta) : State :=
  { s with sw := { s.sw with injSide := mset [] s.sw.injSide k v } }
/-- Cells of the VOQ region of slice `k` in use -/
def State.voqUsed (s : State) (k : Nat) : Nat := mget 0 s.sw.voqUsed k
def State.setVoqUsed (s : State) (k : Nat) (v : Nat) : State :=
  { s with sw := { s.sw with voqUsed := mset 0 s.sw.voqUsed k v } }
/-- Headroom cells: key logical port × 8 + class (R78) -/
def State.headroomUsed (s : State) (k : Nat) : Nat := mget 0 s.sw.headroomUsed k
def State.setHeadroomUsed (s : State) (k : Nat) (v : Nat) : State :=
  { s with sw := { s.sw with headroomUsed := mset 0 s.sw.headroomUsed k v } }
/-- Write staging cells of slice `k` -/
def State.wstage (s : State) (k : Nat) : Nat := mget 0 s.sw.wstage k
def State.setWstage (s : State) (k : Nat) (v : Nat) : State :=
  { s with sw := { s.sw with wstage := mset 0 s.sw.wstage k v } }
/-- Read staging cells of slice `k` -/
def State.rstage (s : State) (k : Nat) : Nat := mget 0 s.sw.rstage k
def State.setRstage (s : State) (k : Nat) (v : Nat) : State :=
  { s with sw := { s.sw with rstage := mset 0 s.sw.rstage k v } }
/-- Stack `k` of the deep tier as it is (R167, R169) -/
def State.stackSt (s : State) (k : Nat) : StackSt := mget dfltStack s.sw.stackSts k
def State.setStackSt (s : State) (k : Nat) (v : StackSt) : State :=
  { s with sw := { s.sw with stackSts := mset dfltStack s.sw.stackSts k v } }
/-- Pool full, key slice × 4 + pool (R161) -/
def State.poolFull (s : State) (k : Nat) : Bool := mget false s.sw.poolFull k
def State.setPoolFull (s : State) (k : Nat) (v : Bool) : State :=
  { s with sw := { s.sw with poolFull := mset false s.sw.poolFull k v } }
/-- Slice cycle at which the early-discard LFSR of slice `k` was loaded with 0xACE1 XOR `k` (R160) -/
def State.lfsr (s : State) (k : Nat) : Nat := mget 0 s.sw.lfsr k
def State.setLfsr (s : State) (k : Nat) (v : Nat) : State :=
  { s with sw := { s.sw with lfsr := mset 0 s.sw.lfsr k v } }
/-- Scheduler entry: key (slice × 16 + table) × 32,768 + index -/
def State.schd (s : State) (k : Nat) : List Word := mget (dfltSchd (k / 32768 % 16)) s.sw.schd k
def State.setSchd (s : State) (k : Nat) (v : List Word) : State :=
  { s with sw := { s.sw with schd := mset (dfltSchd (k / 32768 % 16)) s.sw.schd k v } }
/-- Node: key (slice × 16 + table) × 32,768 + index -/
def State.node (s : State) (k : Nat) : Node := mget dfltNode s.sw.nodes k
def State.setNode (s : State) (k : Nat) (v : Node) : State :=
  { s with sw := { s.sw with nodes := mset dfltNode s.sw.nodes k v } }
/-- Scheduler of logical port `k` -/
def State.psched (s : State) (k : Nat) : PortSched := mget dfltPortSched s.sw.scheds k
def State.setPsched (s : State) (k : Nat) (v : PortSched) : State :=
  { s with sw := { s.sw with scheds := mset dfltPortSched s.sw.scheds k v } }
/-- Gates of physical port `k` -/
def State.gate (s : State) (k : Nat) : Gate := mget dfltGate s.sw.gates k
def State.setGate (s : State) (k : Nat) (v : Gate) : State :=
  { s with sw := { s.sw with gates := mset dfltGate s.sw.gates k v } }
/-- Samples: key slice × 17,408 + window index -/
def State.sample (s : State) (k : Nat) : Sample := mget dfltSample s.sw.samples k
def State.setSample (s : State) (k : Nat) (v : Sample) : State :=
  { s with sw := { s.sw with samples := mset dfltSample s.sw.samples k v } }
/-- FlexE group `k` -/
def State.flexe (s : State) (k : Nat) : Flexe := mget dfltFlexe s.trunk.flexe k
def State.setFlexe (s : State) (k : Nat) (v : Flexe) : State :=
  { s with trunk := { s.trunk with flexe := mset dfltFlexe s.trunk.flexe k v } }
/-- FlexE client `k` -/
def State.client (s : State) (k : Nat) : Client := mget dfltClient s.trunk.clients k
def State.setClient (s : State) (k : Nat) (v : Client) : State :=
  { s with trunk := { s.trunk with clients := mset dfltClient s.trunk.clients k v } }
/-- A frame in reception on a logical port, by source (`RxSrc.code`). -/
def State.rxOf (s : State) (lp k : Nat) : Option RxFrame := mget none (s.mac lp).rx k
def State.setRx (s : State) (lp k : Nat) (r : Option RxFrame) : State :=
  let m := s.mac lp
  s.setMac lp { m with rx := mset none m.rx k r }
/-- Pack-mode state of logical port `k` -/
def State.pack (s : State) (k : Nat) : Pack := mget dfltPack s.trunk.packs k
def State.setPack (s : State) (k : Nat) (v : Pack) : State :=
  { s with trunk := { s.trunk with packs := mset dfltPack s.trunk.packs k v } }
/-- Fold table: key slice × 4 + table -/
def State.fold (s : State) (k : Nat) : Fold := mget dfltFold s.trunk.folds k
def State.setFold (s : State) (k : Nat) (v : Fold) : State :=
  { s with trunk := { s.trunk with folds := mset dfltFold s.trunk.folds k v } }
/-- Fold misses seen by slice `k` (R257) -/
def State.missCount (s : State) (k : Nat) : Nat := mget 0 s.trunk.missCount k
def State.setMissCount (s : State) (k : Nat) (v : Nat) : State :=
  { s with trunk := { s.trunk with missCount := mset 0 s.trunk.missCount k v } }
/-- Fabric link of physical port `k` -/
def State.link (s : State) (k : Nat) : Link := mget dfltLink s.trunk.links k
def State.setLink (s : State) (k : Nat) (v : Link) : State :=
  { s with trunk := { s.trunk with links := mset dfltLink s.trunk.links k v } }
/-- Source stream by key -/
def State.srcStream (s : State) (k : Nat) : Option SrcStream := mget none s.trunk.srcStreams k
def State.setSrcStream (s : State) (k : Nat) (v : Option SrcStream) : State :=
  { s with trunk := { s.trunk with srcStreams := mset none s.trunk.srcStreams k v } }
/-- Destination stream by key -/
def State.dstStream (s : State) (k : Nat) : Option FabStream := mget none s.trunk.dstStreams k
def State.setDstStream (s : State) (k : Nat) (v : Option FabStream) : State :=
  { s with trunk := { s.trunk with dstStreams := mset none s.trunk.dstStreams k v } }
/-- Lost cells noted at slice `k`: stream, sequence, expiry (R291) -/
def State.lostItems (s : State) (k : Nat) : List (Nat × Nat × Nat) := mget [] s.trunk.lost k
def State.setLostItems (s : State) (k : Nat) (v : List (Nat × Nat × Nat)) : State :=
  { s with trunk := { s.trunk with lost := mset [] s.trunk.lost k v } }
/-- Fabric cells for slice `k` as destination -/
def State.deliver (s : State) (k : Nat) : List Cell := mget [] s.trunk.deliver k
def State.setDeliver (s : State) (k : Nat) (v : List Cell) : State :=
  { s with trunk := { s.trunk with deliver := mset [] s.trunk.deliver k v } }
/-- Turn of link group: key slice × 4,096 + group -/
def State.groupTurn (s : State) (k : Nat) : Nat := mget 0 s.trunk.groupTurn k
def State.setGroupTurn (s : State) (k : Nat) (v : Nat) : State :=
  { s with trunk := { s.trunk with groupTurn := mset 0 s.trunk.groupTurn k v } }
def dfltLinkLoad : LinkLoad := { active := false, level := 0, dry := [] }
def State.load (s : State) (p : Nat) : LinkLoad := mget dfltLinkLoad s.trunk.loads p
def State.grpOld (s : State) (k : Nat) : Option (List Word) := mget none s.trunk.grpOld k
/-- Time base `k` -/
def State.tb (s : State) (k : Nat) : TimeBase := mget dfltTimeBase s.time.tbs k
def State.setTb (s : State) (k : Nat) (v : TimeBase) : State :=
  { s with time := { s.time with tbs := mset dfltTimeBase s.time.tbs k v } }
/-- ARR_CHECKED and ARR_BREACH of physical port `k` -/
def State.arrival (s : State) (k : Nat) : Nat × Nat := mget (0, 0) s.time.arrivals k
def State.setArrival (s : State) (k : Nat) (v : Nat × Nat) : State :=
  { s with time := { s.time with arrivals := mset (0, 0) s.time.arrivals k v } }
/-- Inject queue: key cluster × 4 + pair -/
def State.injQ (s : State) (k : Nat) : List InjDesc := mget [] s.svc.injQ k
def State.setInjQ (s : State) (k : Nat) (v : List InjDesc) : State :=
  { s with svc := { s.svc with injQ := mset [] s.svc.injQ k v } }
/-- Inject bucket of physical port `k` (R365) -/
def State.portBucket (s : State) (k : Nat) : Bucket := mget dfltBucket s.svc.portBucket k
def State.setPortBucket (s : State) (k : Nat) (v : Bucket) : State :=
  { s with svc := { s.svc with portBucket := mset dfltBucket s.svc.portBucket k v } }
/-- Pool buffer: key pool × 32,768 + index -/
def State.buf (s : State) (k : Nat) : Buf := mget dfltBuf s.svc.bufs k
def State.setBuf (s : State) (k : Nat) (v : Buf) : State :=
  { s with svc := { s.svc with bufs := mset dfltBuf s.svc.bufs k v } }
/-- Island `k` -/
def State.island (s : State) (k : Nat) : IslandSt := mget (dfltIsland k) s.sys.islands k
def State.setIsland (s : State) (k : Nat) (v : IslandSt) : State :=
  { s with sys := { s.sys with islands := mset (dfltIsland k) s.sys.islands k v } }
/-- The time counter of island `k`: DT, or the free-running counter while it is unlocked (R16). The spec bounds a locked counter to 0.5 ns
of DT; the model's stands exactly at DT (DESIGN CHOICE, log 102). -/
def State.islTime (s : State) (k : Nat) : Time :=
  match (s.island k).free with
  | some (t, n) => t + (s.now - n) * 65536
  | none => s.time.dt
/-- A 40-bit stamp by the counter of island `k` (R9, R17). -/
def State.islStamp (s : State) (k : Nat) : Nat := s.islTime k / 65536 % 2 ^ 40
/-- Reset state of island `k` -/
def State.block (s : State) (k : Nat) : Block := mget dfltBlock s.sys.blocks k
def State.setBlock (s : State) (k : Nat) (v : Block) : State :=
  { s with sys := { s.sys with blocks := mset dfltBlock s.sys.blocks k v } }
/-- Budgeted resource `k` (R325) -/
def State.loomOf (s : State) (k : Nat) : Loom := mget (dfltLoom k) s.loom k
def State.setLoom (s : State) (k : Nat) (v : Loom) : State := { s with loom := mset (dfltLoom k) s.loom k v }

end Sys2Proof.Machine
end

