-- ==== Sys2Proof/Machine/Operands.lean ====
section
/-! DEFINITION. The operand forms: bytes and their order, the cyclic redundancy checks, frames, tags and addresses, cells, and the
layouts of the records the device writes. -/

namespace Sys2Proof.Machine

/-! ### Bytes -/

/-- `n` bytes of a number, least significant first. -/
def leBytes : Nat → Nat → List Byte
  | 0, _ => []
  | n + 1, v => BitVec.ofNat 8 v :: leBytes n (v / 256)

/-- The number of a byte list, least significant first. -/
def leNat : List Byte → Nat
  | [] => 0
  | b :: r => b.toNat + 256 * leNat r

/-- The number of a byte list, most significant first, as frames carry their fields. -/
def beNat (l : List Byte) : Nat := l.foldl (fun a b => a * 256 + b.toNat) 0

/-- `n` bytes of a number, most significant first. -/
def beBytes (n v : Nat) : List Byte := (leBytes n v).reverse

/-- `n` bytes from offset `i`. -/
def slice (l : List Byte) (i n : Nat) : List Byte := (l.drop i).take n
def byteAt (l : List Byte) (i : Nat) : Nat := (l.getD i 0).toNat
def leAt (l : List Byte) (i n : Nat) : Nat := leNat (slice l i n)
def beAt (l : List Byte) (i n : Nat) : Nat := beNat (slice l i n)

/-- Replace the bytes from offset `i` by `v`. -/
def patch (l : List Byte) (i : Nat) (v : List Byte) : List Byte := l.take i ++ v ++ l.drop (i + v.length)
def zeros (n : Nat) : List Byte := List.replicate n 0

/-- Bits [hi:lo] of a number. -/
def bitsOf (v lo w : Nat) : Nat := v / 2 ^ lo % 2 ^ w

/-- Two's complement reading of a `w`-bit number. -/
def signed (w v : Nat) : Int := if v % 2 ^ w < 2 ^ (w - 1) then (v % 2 ^ w : Nat) else ((v % 2 ^ w : Nat) : Int) - (2 ^ w : Nat)
/-- `w`-bit two's complement of an integer. -/
def unsigned (w : Nat) (v : Int) : Nat := (v % (2 ^ w : Nat)).toNat

/-- Ceiling of a quotient. -/
def ceilDiv (a b : Nat) : Nat := (a + b - 1) / b
/-- Two's complement saturation to the range of a signed 8-bit unit of SKEW (R15). -/
def sat (lo hi x : Int) : Int := if x < lo then lo else if hi < x then hi else x

/-! ### Cyclic redundancy checks -/

/-- One bit of a reflected 32-bit CRC. -/
def crcBitR (poly c : Word) : Word := if c.getLsbD 0 then (c >>> 1) ^^^ poly else c >>> 1
def crcByteR (poly c : Word) (b : Byte) : Word :=
  let c := c ^^^ b.setWidth 32
  let f := crcBitR poly
  f (f (f (f (f (f (f (f c)))))))
def crcR (poly : Word) (l : List Byte) : Word := ~~~ (l.foldl (crcByteR poly) 0xFFFFFFFF)
/-- CRC-32 of IEEE Std 802.3: the FCS (R64) and H1 (R124). -/
def crc32 (l : List Byte) : Word := crcR 0xEDB88320 l
/-- CRC-32C of RFC 3720 (R124, R209, R442). -/
def crc32c (l : List Byte) : Word := crcR 0x82F63B78 l
def crcBit16 (c : BitVec 16) : BitVec 16 := if c.getLsbD 15 then (c <<< 1) ^^^ 0x1021 else c <<< 1
def crcByte16 (c : BitVec 16) (b : Byte) : BitVec 16 :=
  let c := c ^^^ (b.setWidth 16 <<< 8)
  let f := crcBit16
  f (f (f (f (f (f (f (f c)))))))
/-- CRC-16/CCITT: polynomial 0x1021, initial value 0xFFFF, no reflection (R41). -/
def crc16 (l : List Byte) : BitVec 16 := l.foldl crcByte16 0xFFFF
def crcBit8 (c : Byte) : Byte := if c.getLsbD 7 then (c <<< 1) ^^^ 0x07 else c <<< 1
/-- CRC-8: polynomial 0x07, initial value 0 (R249, R272). -/
def crc8 (l : List Byte) : Byte :=
  l.foldl (fun c b => let f := crcBit8; f (f (f (f (f (f (f (f (c ^^^ b))))))))) 0

/-! ### Frames (R7, R64) -/

/-- FCS bytes of a frame body, as they stand on the wire. -/
def fcsOf (body : List Byte) : List Byte := leBytes 4 (crc32 body).toNat
/-- The frame's bytes without the FCS. -/
def bodyOf (bytes : List Byte) : List Byte := bytes.take (bytes.length - 4)
def fcsGood (bytes : List Byte) : Bool := bytes.drop (bytes.length - 4) == fcsOf (bodyOf bytes)
/-- The FCS is the bitwise inverse of the correct one (R68 row 9). -/
def fcsInverse (bytes : List Byte) : Bool :=
  bytes.drop (bytes.length - 4) == (fcsOf (bodyOf bytes)).map (~~~ ·)
/-- A body with its FCS. -/
def withFcs (body : List Byte) : List Byte := body ++ fcsOf body
/-- Padded with zero bytes to 60 bytes (R64, R69). -/
def padTo60 (body : List Byte) : List Byte := body ++ zeros (60 - body.length)
/-- Sent with a correct FCS, padded (R64). -/
def finishFrame (body : List Byte) : List Byte := withFcs (padTo60 body)
/-- Ended as R69 states: padded, with the bitwise inverse of the FCS over the bytes sent. -/
def stompFrame (body : List Byte) : List Byte := padTo60 body ++ (fcsOf (padTo60 body)).map (~~~ ·)

def daOf (bytes : List Byte) : Nat := beAt bytes 0 6
def saOf (bytes : List Byte) : Nat := beAt bytes 6 6
/-- Group bit of a MAC address: bit 0 of its first byte. -/
def isGroup (addr : Nat) : Bool := addr / 2 ^ 40 % 2 == 1
def broadcastAddr : Nat := 2 ^ 48 - 1
/-- TPIDs of a tag (R86, R116). -/
def isTpid (x : Nat) : Bool := x == 0x8100 || x == 0x88A8
def etypeAt (bytes : List Byte) (i : Nat) : Nat := beAt bytes i 2
/-- Number of VLAN tags at the front of a frame, at most two. -/
def tagCount (bytes : List Byte) : Nat :=
  if isTpid (etypeAt bytes 12) then (if isTpid (etypeAt bytes 16) then 2 else 1) else 0

/-- Size bucket of R86, for sizes of 64 to 12,288. -/
def sizeBucket (n : Nat) : Option Nat :=
  if n < 64 then none else if n = 64 then some 0 else if n < 128 then some 1 else if n < 256 then some 2
  else if n < 512 then some 3 else if n < 1024 then some 4 else if n < 1519 then some 5 else if n < 2048 then some 6
  else if n < 4096 then some 7 else if n < 9217 then some 8 else if n < 12289 then some 9 else none

/-! ### Ports (R3) -/

def physOf (lp : Nat) : Nat := lp / 4
def subOf (lp : Nat) : Nat := lp % 4
def sliceOf (lp : Nat) : Nat := lp / 128
def engineOf (lp : Nat) : Nat := lp / 32
/-- Local port of an engine. -/
def localOf (lp : Nat) : Nat := lp / 4 % 8
/-- Local logical port of a slice. -/
def qOf (lp : Nat) : Nat := lp % 128

/-! ### Times -/

/-- Seconds, nanoseconds and fraction of a full time value, 14 bytes (R403). -/
def timeBytes (t : Time) : List Byte :=
  leBytes 8 (t / 65536 / nsPerSec) ++ leBytes 4 (t / 65536 % nsPerSec) ++ leBytes 2 (t % 65536)

/-! ### Records -/

/-- An event record (R403). -/
def eventRecord (t : Time) (page src seq sev : Nat) (live unlocked : Bool) (island : Nat) : List Byte :=
  timeBytes t ++ leBytes 2 page ++ leBytes 1 src ++ leBytes 1 seq ++
    leBytes 1 (sev + (if live then 4 else 0) + (if unlocked then 8 else 0)) ++ leBytes 1 island ++ zeros 12

/-- Body of a gap entry (R400). -/
def gapBody (t : Time) (n : Nat) : List Byte :=
  leBytes 8 (t / 65536 / nsPerSec) ++ leBytes 4 (t / 65536 % nsPerSec) ++ leBytes 4 (if n < 2 ^ 32 then n else 2 ^ 32 - 1)

/-- A ring entry: header and padded body (R400). -/
def ringEntry (typ seq : Nat) (body : List Byte) : List Byte :=
  leBytes 2 body.length ++ leBytes 1 typ ++ zeros 1 ++ leBytes 4 seq ++ body ++ zeros ((8 - body.length % 8) % 8)

end Sys2Proof.Machine
end

