-- ==== Sys2Proof/Machine/Flags.lean ====
section
/-! DEFINITION. Flags and what moves them: counters with the half-range rule, interrupts, notification FIFOs, and the event
registers of every page (R88, R390 to R394, R404, R415 to R419). -/

namespace Sys2Proof.Machine

/-! ### Interrupts (R394) -/

/-- Insert into a rising list of numbers. -/
def insNat (n : Nat) : List Nat → List Nat
  | [] => [n]
  | m :: r => if n < m then n :: m :: r else if n = m then m :: r else m :: insNat n r

/-- A message can leave: link trained, bus master and MSI-X enabled. -/
def State.msixOpen (s : State) : Bool := s.host.linkUp && s.host.busMaster && s.host.msixEnable

/-- Signal an MSI-X vector: sent, or pending in the PBA (R394). -/
def State.signal (s : State) (v : Nat) : State :=
  if s.msixOpen && !(s.msixE v).masked then s.emit (.msix v)
  else s.onHost fun h => { h with pba := insNat v h.pba }

/-- Send every pending message whose vector is unmasked (R394). -/
def State.flushPba (s : State) : State :=
  if s.msixOpen then
    s.host.pba.foldl (fun s v =>
      if (s.msixE v).masked then s
      else (s.onHost fun h => { h with pba := h.pba.erase v }).emit (.msix v)) s
  else s

/-! ### Notification FIFOs (R404) -/

/-- Items held, markers apart. -/
def Fifo.held (f : Fifo) : Nat := (f.items.filter fun i => !i.1).length
def State.fifoTotal (s : State) : Nat := (List.range 5).foldl (fun n f => n + (s.fifo f).held) 0

/-- FIFO_CFG.DEPTH and FIFO_POOL follow the items held. -/
def State.syncFifo (s : State) (f : Nat) : State :=
  (s.setFld hostPage (HOST_FIFO_CFG_DEPTH.sh (4 * f)) (s.fifo f).held).setFld hostPage HOST_FIFO_POOL_FREE
    (16384 - s.fifoTotal)

/-- An item reaches a FIFO: kept, behind a gap marker when items were dropped before, or dropped (R404). The Bool tells a first
drop, which raises FIFO_GAP. -/
def State.fifoPut (s : State) (f : Nat) (item : List Byte) : State × Bool :=
  let q := s.fifo f
  if s.fld hostPage (HOST_FIFO_CFG_QUOTA.sh (4 * f)) ≤ q.held || 16384 ≤ s.fifoTotal then
    (s.setFifo f { q with drops := q.drops + 1, firstDrop := if q.drops = 0 then s.time.dt else q.firstDrop }, q.drops == 0)
  else
    let gap := if q.drops = 0 then [] else [(true, gapBody q.firstDrop q.drops)]
    ((s.setFifo f { items := q.items ++ gap ++ [(false, item)], drops := 0, firstDrop := 0 }).syncFifo f, false)

/-! ### Event registers (R386, R390) -/

def evtLiveA (pg : Nat) : Nat := regA pg 0x10
def evtStickyA (pg : Nat) : Nat := regA pg 0x14
def State.evtBit (s : State) (a n : Nat) : Bool := (s.rd a).getLsbD n
def State.setEvtBit (s : State) (a n : Nat) (b : Bool) : State := s.wr a (putBits (s.rd a) n 1 (if b then 1 else 0))
def State.live (s : State) (pg src : Nat) : Bool := s.evtBit (evtLiveA pg) src
def State.sticky (s : State) (pg src : Nat) : Bool := s.evtBit (evtStickyA pg) src
/-- EVT_SEQ of a source: byte src mod 4 of word src / 4. -/
def State.evtSeq (s : State) (pg src : Nat) : Nat := getBits (s.rd (regA pg (0x20 + src / 4 * 4))) (src % 4 * 8) 8
def State.bumpSeq (s : State) (pg src : Nat) : State :=
  let a := regA pg (0x20 + src / 4 * 4)
  s.wr a (putBits (s.rd a) (src % 4 * 8) 8 (s.evtSeq pg src + 1))
def State.evtEnabled (s : State) (pg src : Nat) : Bool := s.evtBit (regA pg 0x44) src
/-- Severity of a source (R392, R418). -/
def State.evtSev (s : State) (pg src : Nat) : Nat := getBits (s.rd (regA pg (0x48 + src / 16 * 4))) (src % 16 * 2) 2

/-! ### Pages and islands -/

/-- The slice that a FlexE group's enabled members lie in (R235, R384). -/
def State.groupSlice (s : State) (g : Nat) : Option Nat :=
  ((List.range 8).find? fun i => s.flag (flxePage g) (FLXE_MEMBER_EN.sh (4 * i))).map fun i =>
    s.fld (flxePage g) (FLXE_MEMBER_PORT.sh (4 * i)) / 32

/-- The island a page belongs to (R384). -/
def State.islandOf (s : State) (pg : Nat) : Nat :=
  match pageOf pg with
  | none => 52
  | some (t, i) =>
    match pageIsland t i with
    | some n => n
    | none => (s.groupSlice i).getD 52

/-- A page answers dark: its island is not on, is held in reset or is fenced (R382). -/
def State.islandDark (s : State) (i : Nat) : Bool :=
  i != 53 && ((s.island i).power != 2 || (s.island i).rst == 1 || (s.island i).rst == 3)
/-- The island runs: on (a parked engine's low power included) and out of reset. -/
def State.islandRuns (s : State) (i : Nat) : Bool := 2 ≤ (s.island i).power && (s.island i).rst == 0

/-- The fatal state holds (R424, R425). -/
def State.fatal (s : State) : Bool := s.flag fltcPage FLTC_FATAL_STATE_FATAL

/-! ### Guy lines (R431, R432) -/

/-- The guy lines of target island `t` mask source `src` of page `pg`; `k` is the local port a link event concerns, plus 1. -/
def State.guyLine (s : State) (t : Nat) (byHost : Bool) (pg src k : Nat) : Bool :=
  match pageOf pg with
  | none => false
  | some (ty, i) =>
    if t < 8 then
      match ty with
      | .xbarS => i != t && (src == 5 || src == 0 || src == 2)
      | .xbarM => src == 4
      | .oeng => i / 4 == t && src < 8
      | .flxeG => s.groupSlice i == some t && (src == 0 || src == 7 || src == 6)
      | .fabrS => if i == t then src == 0 || src == 2 else src == 4
      | .tbls => src == 1
      | _ => false
    else if t = 8 then
      match ty with
      | .xbarS => src == 0 || src == 1 || src == 2 || src == 5
      | .fabrS => src == 4
      | _ => false
    else if t < 17 then
      match ty with
      | .deepS => src == 3 || src == 2
      | .deepT => byHost && src == t - 8
      | .svcc => src == 15
      | _ => false
    else if t < 49 then
      let e := t - 17
      match ty with
      | .flxeG =>
        ((List.range 8).any fun j => s.flag (flxePage i) (FLXE_MEMBER_EN.sh (4 * j)) &&
          s.fld (flxePage i) (FLXE_MEMBER_PORT.sh (4 * j)) / 8 == e) && (src == 0 || src == 7 || src == 6 || src == 4)
      | .fabrS => i == e / 4 && (src == 0 || src == 2) && k != 0 && (k - 1) / 8 == e % 4
      | .xbarS => i == e / 4 && src == 3
      | _ => false
    else if t = 51 then
      match ty with
      | .devc => src == 0
      | .time => src == 12 || src == 13 || src == 14
      | _ => false
    else
      match ty with
      | .svcc => src == 9 || src == 14
      | _ => false

/-- Guy lines of a removed plane (R432). -/
def planeLine (pg src : Nat) : Bool :=
  match pageOf pg with
  | some (.xbarS, _) => src == 2 || src == 0
  | some (.xbarM, _) => src == 4
  | _ => false

/-- A source is masked by the guy lines in force. -/
def State.guyMasked (s : State) (pg src k : Nat) : Bool :=
  s.flag fltcPage FLTC_GUY_CFG_GUY_EN &&
    ((s.sys.blocks.any fun e => e.2.guy && decide (e.2.cause ≠ some (pg, src)) && s.guyLine e.1 e.2.byHost pg src k)
      || (s.sys.planeGuy.any fun o => match o with | some t => s.now < t && planeLine pg src | none => false))

/-- The target's own sources are held while it resets or is isolated (R429, R421). -/
def State.srcHeld (s : State) (pg : Nat) : Bool :=
  let b := s.block (s.islandOf pg)
  b.resetting || b.isolated

/-! ### Assertions -/

/-- A record reaches the persistent journal's open page (R456). -/
def State.journal (s : State) (r : List Byte) : State :=
  s.onNv fun n => if n.powerFail then n else { n with openPage := n.openPage ++ [r] }

/-- A record of the groundsheet island's own for the journal: a reset, a boot choice, a lease change, a slot change or a loss. The
spec gives it the layout of R403; page NVST and source 31 mark it (DESIGN CHOICE, log 50). -/
def State.journalNote (s : State) (code : Nat) : State :=
  s.journal (eventRecord s.time.dt nvstPage 31 code 0 false true 53)

/-- One assertion, without the notification of a FIFO's first drop (R390 to R392, R417). Severity actions are noted in `due`. The
record names the island of the source's page: that of DEVC is 52, also where DT_UNLOCK or CLK_UNLOCK concern another island, which
ISLAND_CAPTURE names (R12 leaves open which of the two; DESIGN CHOICE, log 102). -/
def State.assert1 (s : State) (pg src : Nat) : State × Bool :=
  let k := src / 32
  let src := src % 32
  let sev := s.evtSev pg src
  if s.srcHeld pg || s.host.broken.contains (pg, src) then (s, false)
  else
    let s := s.bumpSeq pg src
    if s.guyMasked pg src k then (s.count fltcPage 0xB8, false)
    else
      let first := !s.sticky pg src
      let isl := s.islandOf pg
      let (s, gap) :=
        if first then
          let s := s.setEvtBit (evtStickyA pg) src true
          if s.evtEnabled pg src then
            let r := eventRecord (s.islTime isl) pg src (s.evtSeq pg src) sev (s.live pg src) (!(s.island isl).dtLock) isl
            let s := if s.fld nvstPage NVST_NV_CFG_JOURNAL_SEV ≤ sev then s.journal r else s
            let (s, gap) := s.fifoPut 0 r
            let s := if 1 ≤ sev then s.signal (s.fld hostPage HOST_HOST_CFG_EVT_VEC) else s
            let s := if 2 ≤ sev then s.signal (s.fld hostPage HOST_HOST_CFG_FAULT_VEC) else s
            (s, gap)
          else (s, false)
        else (s, false)
      if 2 ≤ sev then (s.onSys fun y => { y with due := y.due ++ [(pg, src, sev)] }, gap)
      else (s, gap)

/-- A source without a level asserts (R390). Sources above 31 carry a local port: source + 32 × (k + 1). -/
def State.raise (s : State) (pg src : Nat) : State :=
  let (s, gap) := s.assert1 pg src
  if gap then (s.assert1 hostPage 3).1 else s

/-- The level of a source whose pair is broken: the FC does not see it (R416). -/
def State.noteLevel (s : State) (pg src : Nat) (b : Bool) : State :=
  s.onHost fun h => { h with brokenLevel := (h.brokenLevel.filter fun e => decide ((e.1, e.2.1) ≠ (pg, src))) ++ [(pg, src, b)] }

/-- A source's live state rises (R390). -/
def State.raiseLive (s : State) (pg src : Nat) : State :=
  if s.host.broken.contains (pg, src) then s.noteLevel pg src true
  else if s.live pg src then s else (s.setEvtBit (evtLiveA pg) src true).raise pg src

/-- A source's live state falls. -/
def State.lower (s : State) (pg src : Nat) : State :=
  if s.host.broken.contains (pg, src) then s.noteLevel pg src false else s.setEvtBit (evtLiveA pg) src false

/-- An item reaches a FIFO, and FIFO_GAP follows a first drop (R404). -/
def State.fifoPush (s : State) (f : Nat) (item : List Byte) : State :=
  let (s, gap) := s.fifoPut f item
  if gap then s.raise hostPage 3 else s

/-! ### Counters under the half-range rule (R86 to R88, R61) -/

/-- Add to counter `i` of a logical port's sub-port in PORT. -/
def State.portCtr (s : State) (lp i : Nat) (n : Nat := 1) : State :=
  if n = 0 then s
  else
    let pg := portPage (physOf lp)
    let off := 0x200 + 0x280 * subOf lp + 8 * i
    let v := s.ctr pg off
    let v' := (v + n) % 2 ^ 48
    let s := s.setCtr pg off v'
    if v / 2 ^ 47 = v' / 2 ^ 47 then s
    else (s.setEvtBit (regA pg (0x180 + 0x10 * subOf lp + i / 32 * 4)) (i % 32) true).raise pg 8

/-- Add to counter `n` of R61 of physical port `p`: 0 HOLD_DISCARD, 1 DARK_DISCARD, 2 LINK_ABORT, 3 WAKE_MATCH, 4 PITCH_ATTEMPT,
5 PITCH_FAILS. -/
def State.engCtr (s : State) (p n : Nat) (c : Nat := 1) : State :=
  if c = 0 then s
  else
    let pg := oengPage (p / 8)
    let k := p % 8
    let off := 0x200 + 0x40 * k + 8 * n
    let v := s.ctr pg off
    let v' := (v + c) % 2 ^ 48
    let s := s.setCtr pg off v'
    if v / 2 ^ 47 = v' / 2 ^ 47 then s
    else (s.setEvtBit (regA pg (0xA0 + (6 * k + n) / 32 * 4)) ((6 * k + n) % 32) true).raise pg 24

/-! ### Performance counters (R406, R407) -/

def perfF (k : Nat) (f : Fld) : Fld := f.sh (0x20 * k)

/-- Counter `k` of island `isl` counts an occurrence of event `ev`. The four last arguments are what the filters look at: the bit of
PRIV, the master, the class and the 4 KB page; `none` where the filter does not apply to the event. -/
def State.perfPass (s : State) (isl k ev : Nat) (priv master cls page : Option Nat) : Bool :=
  let pg := perfPage isl
  let on := fun (o : Option Nat) (f : Nat → Bool) => match o with | some x => f x | none => true
  s.fld pg (perfF k PERF_EVSEL_EVENT) == ev &&
    on priv (fun b => (s.fld pg (perfF k PERF_FILTER_PRIV)).testBit b) &&
    on master (fun m => s.fld pg (perfF k PERF_FILTER_MASTER) == 0 || s.fld pg (perfF k PERF_FILTER_MASTER) == m) &&
    on cls (fun c => (s.fld pg (perfF k PERF_FILTER_CLASS)).testBit c) &&
    on page (fun a => !s.flag pg (perfF k PERF_FILTER_RANGE_EN) ||
      (s.fld pg (perfF k PERF_RANGE_BASE_PAGE) ≤ a && a ≤ s.fld pg (perfF k PERF_RANGE_LIMIT_PAGE)))

/-- An event of R407 occurs `n` times in island `isl`. -/
def State.perfHit (s : State) (isl ev n : Nat) (priv master cls page : Option Nat) : State :=
  if s.frozen isl then s
  else s.each (List.range 8) fun s k =>
    if s.perfPass isl k ev priv master cls page then s.count (perfPage isl) (0x110 + 0x20 * k) n else s

end Sys2Proof.Machine
end

