-- ==== Sys2Proof/Machine/Port.lean ====
section
/-! DEFINITION. Facts of a port that every chapter uses: modes and rates (R3, R5, R27), FlexE membership (R235, R237), UP and dark
(R32, R38), hold timers (R35, R36), entries to the pitching states (R32, R34, R44), and the flow-control accounts (R77 to R83). -/

namespace Sys2Proof.Machine

/-! ### Fields moved by counts -/

def State.incFld (s : State) (pg : Nat) (f : Fld) (n : Nat) : State := s.setFld pg f (s.fld pg f + n)
def State.decFld (s : State) (pg : Nat) (f : Fld) (n : Nat) : State := s.setFld pg f (s.fld pg f - n)
/-- Bit `n` of a field. -/
def State.bitOf (s : State) (pg : Nat) (f : Fld) (n : Nat) : Bool := (s.fld pg f).testBit n
def State.setBitOf (s : State) (pg : Nat) (f : Fld) (n : Nat) (b : Bool) : State :=
  s.setFld pg { f with lo := f.lo + n, w := 1 } (if b then 1 else 0)
/-- A counter of an instance whose raise follows (an event and its count). -/
def State.countRaise (s : State) (pg off src : Nat) : State := (s.count pg off).raise pg src

/-! ### Modes and rates -/

/-- MODE of the physical port (R27), as applied. -/
def State.modeOf (s : State) (p : Nat) : Nat := s.fld (oengPage (p / 8)) (OENG_PORT_MODE_MODE.sh (0x20 * (p % 8)))
/-- Sub-ports a port mode uses. -/
def subCount (mode : Nat) : Nat :=
  match mode with | 1 => 1 | 2 => 2 | 3 => 4 | 4 => 1 | 5 => 4 | _ => 0
/-- Rate of a sub-port in Mbit/s by mode. -/
def modeRate (mode : Nat) : Nat :=
  match mode with | 1 => 800000 | 2 => 400000 | 3 => 200000 | 4 => 400000 | 5 => 100000 | _ => 0
def State.portFld (s : State) (p : Nat) (f : Fld) : Nat := s.fld (oengPage (p / 8)) (f.sh (0x20 * (p % 8)))
def State.setPortFld (s : State) (p : Nat) (f : Fld) (v : Nat) : State := s.setFld (oengPage (p / 8)) (f.sh (0x20 * (p % 8))) v
/-- The current port mode uses the logical port's sub-port (R5). -/
def State.inUse (s : State) (lp : Nat) : Bool := subOf lp < subCount (s.modeOf (physOf lp))
def State.subEn (s : State) (lp : Nat) : Bool := (s.portFld (physOf lp) OENG_PORT_MODE_SUB_EN).testBit (subOf lp)
/-- Logical ports of a physical port that its mode uses. -/
def State.lportsOf (s : State) (p : Nat) : List Nat := (List.range (subCount (s.modeOf p))).map fun m => 4 * p + m

/-! ### FlexE membership -/

/-- Groups with EN = 1. -/
def State.groupsOn (s : State) : List Nat := (List.range 32).filter fun g => s.flag (flxePage g) FLXE_GRP_CFG_EN
/-- Enabled members of a group. -/
def State.membersOn (s : State) (g : Nat) : List Nat :=
  (List.range 8).filter fun i => s.flag (flxePage g) (FLXE_MEMBER_EN.sh (4 * i))
def State.memberPort (s : State) (g i : Nat) : Nat := s.fld (flxePage g) (FLXE_MEMBER_PORT.sh (4 * i))
def State.memberPhy (s : State) (g i : Nat) : Nat := s.fld (flxePage g) (FLXE_MEMBER_PHY.sh (4 * i))
/-- Enabled groups that a physical port belongs to. -/
def State.groupsOf (s : State) (p : Nat) : List Nat :=
  s.groupsOn.filter fun g => (s.membersOn g).any fun i => s.memberPort g i == p
def State.groupUp (s : State) (g : Nat) : Bool := s.fld (flxePage g) FLXE_GRP_STATUS_STATE == 5

/-- Calendar slots of a member by PHY type (R235): 20, 40 or 80. -/
def State.memberSlots (s : State) (g : Nat) : Nat :=
  match s.fld (flxePage g) FLXE_GRP_CFG_PHY_TYPE with | 0 => 20 | 1 => 40 | _ => 80

/-- Entry `e` of a transmit calendar: (CLIENT, KIND). `b` selects calendar B. -/
def State.calEntry (s : State) (g : Nat) (b : Bool) (e : Nat) : Nat × Nat :=
  let w := 4 * (e / 2)
  let pg := flxePage g
  match b, e % 2 with
  | false, 0 => (s.fld pg (FLXE_TX_CAL_A_CLIENT0.sh w), s.fld pg (FLXE_TX_CAL_A_KIND0.sh w))
  | false, _ => (s.fld pg (FLXE_TX_CAL_A_CLIENT1.sh w), s.fld pg (FLXE_TX_CAL_A_KIND1.sh w))
  | true, 0 => (s.fld pg (FLXE_TX_CAL_B_CLIENT0.sh w), s.fld pg (FLXE_TX_CAL_B_KIND0.sh w))
  | true, _ => (s.fld pg (FLXE_TX_CAL_B_CLIENT1.sh w), s.fld pg (FLXE_TX_CAL_B_KIND1.sh w))

/-- Transmit slots of client `n` in the calendar in use of its group (R235, R242). -/
def State.clientSlots (s : State) (n : Nat) : Nat :=
  let g := (s.client n).group
  let b := s.flag (flxePage g) FLXE_GRP_STATUS_CAL_TX
  ((s.membersOn g).flatMap fun i => (List.range (s.memberSlots g)).filter fun e => s.calEntry g b (80 * i + e) == (n, 1)).length

/-- Valid clients that name a logical port. -/
def State.clientsOn (s : State) (lp : Nat) : List Nat :=
  (s.trunk.clients.filter fun c => c.2.valid && c.2.lport == lp).map (·.1)

/-- Rate of a logical port in Mbit/s: its mode's, or its clients' nominal rate on a member of an enabled group (R191, R234). -/
def State.rateOf (s : State) (lp : Nat) : Nat :=
  if (s.groupsOf (physOf lp)).isEmpty then (if s.inUse lp then modeRate (s.modeOf (physOf lp)) else 0)
  else (s.clientsOn lp).foldl (fun n c => n + 5000 * s.clientSlots c) 0

/-- Wire time of `n` bytes in ns, rounded up (R194). -/
def wireNs (rate n : Nat) : Nat := if rate = 0 then 0 else ceilDiv (n * 8000) rate

/-! ### UP, dark, hold -/

/-- The logical port is UP for every chapter's rules (R32, R237). -/
def State.isUp (s : State) (lp : Nat) : Bool :=
  s.inUse lp && (s.pitch lp).state == 5 && (s.groupsOf (physOf lp)).all s.groupUp

/-- A shared port while the twin role is not active: parked, whatever PARK reads (R358). -/
def State.sharedOff (s : State) (p : Nat) : Bool :=
  s.bitOf twinPage (TWIN_SHARED_MAP_SHARED.sh (4 * (p / 32))) (p % 32) && s.svc.twin.role != 1
/-- The port is to be parked: by PARK or by twin mode. -/
def State.parkWanted (s : State) (p : Nat) : Bool := s.portFld p OENG_PORT_MODE_PARK == 1 || s.sharedOff p

/-- The logical port is dark (R38, R5, R358). SUB_EN = 0 keeps it dark in every state: R38 names SUB_EN = 0 only for STRUCK and leaves
open a PARKED sub-port with SUB_EN = 0 and AUTO_WAKE_EGRESS = 1, which no unpark would ever bring up (DESIGN CHOICE, log 105). -/
def State.isDark (s : State) (lp : Nat) : Bool :=
  !s.inUse lp || s.sharedOff (physOf lp) || !s.subEn lp ||
    ((s.pitch lp).state == 6 && s.portFld (physOf lp) OENG_PORT_MODE_AUTO_WAKE_EGRESS == 0)

/-- The hold timer ran out and the logical port has not reached UP since (R35). -/
def State.holdExpired (s : State) (lp : Nat) : Bool := (s.pitch lp).holdExpired && !s.isUp lp

/-- The logical port carries pack mode or cell mode; else Ethernet framing (R72, R220). -/
def State.packOn (s : State) (lp : Nat) : Bool :=
  s.flag (packPage (sliceOf lp)) (PACK_LPORT_PACK_PACK_EN.sh (4 * qOf lp))
def State.cellOn (s : State) (p : Nat) : Bool :=
  s.flag (fabrPage (p / 32)) (FABR_LINK_CFG_CELL_EN.sh (0x20 * (p % 32)))

/-- Start the hold timer, unless it runs (R35). -/
def State.startHold (s : State) (lp : Nat) : State :=
  let t := s.pitch lp
  if t.holdStart.isSome || t.holdExpired then s else s.setPitch lp { t with holdStart := some s.now }

/-- Engine lane that carries a logical port's first lane (R26, R29, R53). -/
def State.laneOf (s : State) (lp : Nat) : Nat := 4 * localOf lp + 4 / subCount (s.modeOf (physOf lp)) * subOf lp
/-- Engine lanes of a logical port. -/
def State.lanesOf (s : State) (lp : Nat) : List Nat :=
  (List.range (4 / subCount (s.modeOf (physOf lp)))).map fun i => s.laneOf lp + i
/-- The logical port that uses lane `l` of engine `e`, in the port's present mode. -/
def State.lportOfLane (s : State) (e l : Nat) : Option Nat := (s.lportsOf (8 * e + l / 4)).find? fun lp => (s.lanesOf lp).contains l

/-! ### Spares (R46 to R49) -/

def laneKey (e l : Nat) : Nat := e * 32 + l
def State.onLane (s : State) (e l : Nat) (f : LaneSt → LaneSt) : State := s.setLane (laneKey e l) (f (s.lane (laneKey e l)))
/-- Spares that may serve a lane: the spare of its wavelength on ETS-2048-FR-C, any on ETS-2048-DR-C (R47). -/
def State.sparesFor (s : State) (e l : Nat) : List Nat := if s.flag (oengPage e) OENG_OE_INFO_VARIANT then List.range 4 else [l % 4]
def State.spareFree (s : State) (e sp : Nat) : Bool := !(s.spareUsed e).testBit sp
/-- A spare is taken, or given back. -/
def State.takeSpare (s : State) (e sp : Nat) : State := if s.spareFree e sp then s.setSpareUsed e (s.spareUsed e + 2 ^ sp) else s
def State.giveSpare (s : State) (e sp : Nat) : State := if s.spareFree e sp then s else s.setSpareUsed e (s.spareUsed e - 2 ^ sp)
/-- The spare the engine chooses: the lowest-numbered free one (R47). -/
def State.chooseSpare (s : State) (e l : Nat) : Option Nat := (s.sparesFor e l).find? (s.spareFree e)

/-- SPARES_EXHAUSTED, once, when a lane's last usable spare is taken or found unavailable (R49, log 31). -/
def State.noteSpares (s : State) (e l : Nat) : State :=
  let k := e * 4 + (if s.flag (oengPage e) OENG_OE_INFO_VARIANT then 0 else l % 4)
  if (s.chooseSpare e l).isNone && !s.spareNoted k then (s.setSpareNoted k true).raise (oengPage e) 18 else s

/-- The transmitter of a lane is dark because its port is STRUCK or PARKED (R47). -/
def State.laneAsleep (s : State) (e l : Nat) : Bool :=
  match s.lportOfLane e l with
  | none => true
  | some lp => (s.pitch lp).state == 0 || (s.pitch lp).state == 6

/-- A spare switch starts: the chosen spare is lit (R48 step 1), or the switch waits for the next entry to BIAS (R47). The Bool tells
that a spare was found. -/
def State.startSwitch (s : State) (e l : Nat) : State × Bool :=
  match s.chooseSpare e l with
  | none => (s.noteSpares e l, false)
  | some sp =>
    if s.laneAsleep e l then (s.onLane e l fun x => { x with deferred := true, pending := false }, true)
    else
      let s := s.onLane e l fun x =>
        { x with switching := some sp, switchReady := false, lstate := 6, pending := false, deferred := false, switchAt := s.now }
      ((s.takeSpare e sp).noteSpares e l, true)

/-- No spare serves a lane: a failed source goes dark with LANE_FAIL, a degraded one stays in use (R49). -/
def State.noSpare (s : State) (e l : Nat) : State :=
  if (s.lane (laneKey e l)).failed then
    (s.onLane e l fun x => { x with lstate := 3, pending := false, deferred := false }).raise (oengPage e) 19
  else s.onLane e l fun x => { x with lstate := if x.lstate = 6 then 2 else x.lstate, deferred := false }

/-- A switch that waited for the entry to BIAS: its spare may be gone by now (R47, R49). -/
def State.deferredSwitch (s : State) (e l : Nat) : State :=
  let (s, ok) := s.startSwitch e l
  if ok then s else s.noSpare e l

/-! ### Entering a pitching state -/

/-- A sub-port enters state `st` of R32. PITCH_ATTEMPT counts entries to BIAS, and to EQUALISE other than from BIAS (R34). -/
def State.enterPitch (s : State) (lp st : Nat) : State :=
  let t := s.pitch lp
  let s := s.setPitch lp { t with
    state := st, entered := s.now
    lit := if st = 0 || st = 6 || st = 1 then false else t.lit
    fromBias := st == 2 && t.state == 1
    fromParked := if st = 1 then t.state == 6 else if st = 2 || st = 3 || st = 4 then t.fromParked else false }
  let s := if st = 1 || (st = 2 && t.state != 1) then s.engCtr (physOf lp) 4 else s
  if st = 1 then
    s.each ((s.lanesOf lp).filter fun l => (s.lane (laneKey (engineOf lp) l)).deferred) fun s l => s.deferredSwitch (engineOf lp) l
  else s

/-- The shadow holds a write of PARK = 1 that the microcode's poll has still to apply (R31, R44). -/
def State.parkWaits (s : State) (p : Nat) : Bool :=
  let f := OENG_PORT_MODE_PARK.sh (0x20 * (p % 8))
  s.shadow.any (fun e => e.1 == regA (oengPage (p / 8)) f.off) && s.sfld (oengPage (p / 8)) f == 1

/-- Unpark a physical port, unless twin mode keeps it parked (R358) or a host write of PARK = 1 of the same poll interval follows (R44):
PARK falls, its sub-ports in PARKED enter BIAS and their hold timers start (R35, R42, R44). A sub-port whose SUB_EN is 0 goes to
STRUCK. -/
def State.unpark (s : State) (p : Nat) : State :=
  if s.sharedOff p || s.parkWaits p then s
  else
  let s := s.setPortFld p OENG_PORT_MODE_PARK 0
  s.each (s.lportsOf p) fun s lp =>
    if (s.pitch lp).state = 6 then
      if s.subEn lp then (s.enterPitch lp 1).startHold lp else s.enterPitch lp 0
    else s

/-! ### Flow control (R77 to R83) -/

def State.pg (_ : State) (lp : Nat) : Nat := portPage (physOf lp)
/-- A field of the configuration block of a logical port's sub-port in PORT. -/
def State.macFld (s : State) (lp : Nat) (f : Fld) : Nat := s.fld (portPage (physOf lp)) (f.sh (0x40 * subOf lp))
def State.setMacFld (s : State) (lp : Nat) (f : Fld) (v : Nat) : State :=
  s.setFld (portPage (physOf lp)) (f.sh (0x40 * subOf lp)) v
def State.maxFrame (s : State) (lp : Nat) : Nat := s.macFld lp PORT_MAC_CFG_MAX_FRAME
def State.pauseMode (s : State) (lp : Nat) : Nat := s.macFld lp PORT_MAC_CFG_PAUSE_MODE
def State.pfcTxEn (s : State) (lp c : Nat) : Bool := (s.macFld lp PORT_PFC_CFG_PFC_TX_EN).testBit c
def State.pfcRxEn (s : State) (lp c : Nat) : Bool := (s.macFld lp PORT_PFC_CFG_PFC_RX_EN).testBit c
/-- A flow-control account (R78). -/
def State.pfcOcc (s : State) (lp c : Nat) : Nat :=
  s.fld (portPage (physOf lp)) (PORT_PFC_OCC_OCC.sh (0x20 * subOf lp + 4 * c))
def State.setPfcOcc (s : State) (lp c v : Nat) : State :=
  s.setFld (portPage (physOf lp)) (PORT_PFC_OCC_OCC.sh (0x20 * subOf lp + 4 * c)) v
def State.xoffHigh (s : State) (lp c : Nat) : Nat :=
  s.fld (portPage (physOf lp)) (PORT_PFC_XOFF_HIGH_XOFF_HIGH.sh (0x40 * subOf lp + 8 * c))
def State.xoffLow (s : State) (lp c : Nat) : Nat :=
  s.fld (portPage (physOf lp)) (PORT_PFC_XOFF_LOW_XOFF_LOW.sh (0x40 * subOf lp + 8 * c))
def State.headroomOf (s : State) (lp c : Nat) : Nat :=
  s.fld (portPage (physOf lp)) (PORT_PFC_HEADROOM_HEADROOM.sh (0x20 * subOf lp + 4 * c))
/-- Sum of the eight accounts of a logical port (R77). -/
def State.pfcSum (s : State) (lp : Nat) : Nat := (List.range 8).foldl (fun n c => n + s.pfcOcc lp c) 0
def State.srcAddr (s : State) (lp : Nat) : Nat :=
  s.macFld lp PORT_SRC_ADDR_LO_ADDR_LO + 2 ^ 32 * s.macFld lp PORT_SRC_ADDR_HI_ADDR_HI

/-- Transmit counters of a frame that ended with a correct FCS (R86). -/
def State.txCount (s : State) (lp : Nat) (bytes : List Byte) : State :=
  let s := (s.portCtr lp 40 bytes.length).portCtr lp 41
  let s := if daOf bytes = broadcastAddr then s.portCtr lp 44 else if isGroup (daOf bytes) then s.portCtr lp 43 else s.portCtr lp 42
  let s := if isTpid (etypeAt bytes 12) then s.portCtr lp 45 else s
  match sizeBucket bytes.length with
  | some b => s.portCtr lp (55 + b)
  | none => s

/-! ### The gap (R63) -/

/-- The next gap and deficit idle count after a frame of `n` bytes: the gap is shortened or lengthened so that the next start falls on an
8-byte block, and the deficit stays at 7 or below, as the IEEE 802.3 PCS keeps an average of 12 (PRESUMED, log 108). -/
def gapAfter (dic n : Nat) : Nat × Nat :=
  let r := (8 + n + 12) % 8
  if r = 0 then (12, dic)
  else if dic + r ≤ 7 then (12 - r, dic + r)
  else (12 + (8 - r), dic - (8 - r))
/-- Preamble and start delimiter. -/
def preamble : List Byte := List.replicate 7 0x55 ++ [0xD5]
/-- A frame of `n` bytes has been sent: the gap after it. -/
def State.keepGap (s : State) (lp n : Nat) : State :=
  let m := s.mac lp
  let g := gapAfter m.dic n
  s.setMac lp { m with gap := g.1, dic := g.2 }

/-! ### Pauses to send -/

/-- Schedule a pause of `quanta` for class `c` under the mode in force (R79, R80): link PAUSE carries no class. -/
def State.sendPause (s : State) (lp c quanta : Nat) : State :=
  if !s.isUp lp then s
  else
    let m := s.mac lp
    match s.pauseMode lp with
    | 1 => s.setMac lp { m with pfcDue := m.pfcDue.set c (some quanta) }
    | 2 => s.setMac lp { m with linkDue := some quanta }
    | _ => s

/-- A pause frame is due. -/
def State.pauseDue (s : State) (lp : Nat) : Bool := (s.mac lp).linkDue.isSome || (s.mac lp).pfcDue.any (·.isSome)

/-- Classes that a pause under the mode in force covers. -/
def State.pauseClasses (s : State) (lp c : Nat) : List Nat := if s.pauseMode lp = 2 then List.range 8 else [c]

/-- Whether the device pauses class `c` of the peer. -/
def State.pausing (s : State) (lp c : Nat) : Bool := (s.macFld lp PORT_MM_STATUS_PAUSING_TX).testBit c

def State.setPausing (s : State) (lp c : Nat) (b : Bool) : State :=
  s.each (s.pauseClasses lp c) fun s k =>
    s.setMacFld lp { PORT_MM_STATUS_PAUSING_TX with lo := PORT_MM_STATUS_PAUSING_TX.lo + k, w := 1 } (if b then 1 else 0)

/-- The account that the thresholds of class `c` meet, and the class whose thresholds they are (R77). -/
def State.pfcMeasure (s : State) (lp c : Nat) : Nat × Nat :=
  if s.pauseMode lp = 2 then (s.pfcSum lp, 0) else (s.pfcOcc lp c, c)

/-- XOFF: the account has reached XOFF_HIGH and its class is not yet paused (R79). -/
def State.pfcCheckHigh (s : State) (lp c : Nat) : State :=
  let (n, k) := s.pfcMeasure lp c
  let on := (s.pauseMode lp == 1 && s.pfcTxEn lp c) || s.pauseMode lp == 2
  if on && s.xoffHigh lp k ≤ n && !s.pausing lp k && s.isUp lp then
    (s.sendPause lp k (s.macFld lp PORT_PAUSE_TIME_QUANTA)).setPausing lp k true
  else s

/-- XON: a paused account has fallen to XOFF_LOW (R80, R83). -/
def State.pfcCheckLow (s : State) (lp c : Nat) : State :=
  let (n, k) := s.pfcMeasure lp c
  if s.pausing lp k && n ≤ s.xoffLow lp k then (s.sendPause lp k 0).setPausing lp k false else s

/-- Cells join an account (R78, R79). -/
def State.pfcAdd (s : State) (lp c n : Nat) : State := (s.setPfcOcc lp c (s.pfcOcc lp c + n)).pfcCheckHigh lp c
/-- Cells leave an account (R78, R80). -/
def State.pfcSub (s : State) (lp c n : Nat) : State := (s.setPfcOcc lp c (s.pfcOcc lp c - n)).pfcCheckLow lp c

/-- Classes whose accounts stand above XOFF_HIGH already pause the peer once the sub-port is UP (R79). -/
def State.pfcCheckAll (s : State) (lp : Nat) : State := s.each (List.range 8) fun s c => s.pfcCheckHigh lp c

/-- Every received and sent pause state of a sub-port clears when it leaves UP, pauses due included (R81). -/
def State.clearPause (s : State) (lp : Nat) : State :=
  let s := (s.setMacFld lp PORT_MM_STATUS_PAUSED_RX 0).setMacFld lp PORT_MM_STATUS_PAUSING_TX 0
  let m := s.mac lp
  s.setMac lp { m with
    pauseEnd := List.replicate 8 none, pausedSince := List.replicate 8 none, pauseSent := List.replicate 8 none
    pfcDue := List.replicate 8 none, linkDue := none }

/-- Class `c` is paused by the peer (R81). -/
def State.pausedRx (s : State) (lp c : Nat) : Bool := (s.macFld lp PORT_MM_STATUS_PAUSED_RX).testBit c

end Sys2Proof.Machine
end

