-- ==== Sys2Proof/Machine/Buffer.lean ====
section
/-! DEFINITION. Buffers and admission (chapter 06): cell and descriptor accounts, virtual output queue charges, the queue a frame
enters, early discard, on-die and deep admission, the deep part of a queue, and the discard and release of egress frames. -/

namespace Sys2Proof.Machine

/-! ### Pool-manager buffers (R368): the release a frame's end may ask for -/

def bufKey (pool idx : Nat) : Nat := pool * 32768 + idx
def hPool (h : Nat) : Nat := h % 4
def hIdx (h : Nat) : Nat := h / 4 % 32768
def hGen (h : Nat) : Nat := h / 2 ^ 24 % 256
def quotaF (r p : Nat) : Nat := 0x10 * r + 4 * p

/-- Give a buffer back to its pool's bitmap: FREE rises and the holder's HELD falls. -/
def State.bufRelease (s : State) (pool idx : Nat) : State :=
  let b := s.buf (bufKey pool idx)
  match b.holder with
  | none => s
  | some r =>
    let s := s.setBuf (bufKey pool idx) { b with holder := none, transit := false }
    (s.incFld poolPage (POOL_POOL_STATE_FREE.sh (4 * pool)) 1).decFld poolPage (POOL_QUOTA_HELD.sh (quotaF r pool)) 1

/-- A free by requester `req` (R368): refused when the generation differs or the requester does not hold the buffer. -/
def State.bufFree (s : State) (req h : Nat) : State × Bool :=
  let b := s.buf (bufKey (hPool h) (hIdx h))
  if b.holder = some req && b.gen = hGen h && h / 2 ^ 17 % 128 = 0 then (s.bufRelease (hPool h) (hIdx h), true)
  else (s.count poolPage 0xB0, false)

/-- FREE_AFTER of an injected frame that was sent or discarded (R365). -/
def State.injDone (s : State) (i : Option InjMeta) : State :=
  match i with
  | some m => match m.free with
    | some (r, h) => (s.bufFree r h).1
    | none => s
  | none => s

/-! ### On-die cells and descriptors (R146, R148, R172) -/

/-- Cells a frame of `n` bytes takes. -/
def cellsOf (n : Nat) : Nat := ceilDiv n 256

def State.takeCells (s : State) (sl n : Nat) : State :=
  (s.decFld (deepPage sl) DEEP_CELL_FREE_COUNT n).incFld (deepPage sl) DEEP_CELL_USED_COUNT n
def State.giveCells (s : State) (sl n : Nat) : State :=
  (s.incFld (deepPage sl) DEEP_CELL_FREE_COUNT n).decFld (deepPage sl) DEEP_CELL_USED_COUNT n
def State.descFree (s : State) (sl : Nat) : Nat := s.fld (deepPage sl) DEEP_DESC_FREE_COUNT
/-- Take a descriptor; DESC_LOW fires when the free count falls to the floor (R148). -/
def State.takeDesc (s : State) (sl : Nat) : State :=
  let n := s.descFree sl
  let s := (s.decFld (deepPage sl) DEEP_DESC_FREE_COUNT 1).incFld (deepPage sl) DEEP_DESC_USED_COUNT 1
  if n = s.fld (deepPage sl) DEEP_DESC_FLOOR_FLOOR + 1 then s.raise (deepPage sl) 2 else s
def State.giveDesc (s : State) (sl : Nat) : State :=
  (s.incFld (deepPage sl) DEEP_DESC_FREE_COUNT 1).decFld (deepPage sl) DEEP_DESC_USED_COUNT 1

/-! ### Virtual output queue charges (R158) -/

/-- Admit `n` cells of a frame to slice `sl`'s virtual output queues: from the VOQ region, else from the headroom of its account once
that exceeds XOFF_HIGH; else the frame is discarded (R158, R82). The account grows by the cells (R78). `acct` is none for a frame with
no ingress logical port. -/
def State.voqAdmit (s : State) (sl : Nat) (acct : Option Nat) (c n : Nat) : State × Option Charge :=
  let lp := acct.getD 0
  let past := acct.isSome && s.pfcTxEn lp c && s.xoffHigh lp c < s.pfcOcc lp c
  let room := s.voqUsed sl + n ≤ s.fld (deepPage sl) DEEP_VOQ_CELLS_CELLS
  let head := past && s.headroomUsed (8 * lp + c) + n ≤ s.headroomOf lp c
  if (room || head) && 0 < s.descFree sl then
    let s := (s.takeCells sl n).takeDesc sl
    let s := if room then s.setVoqUsed sl (s.voqUsed sl + n) else s.setHeadroomUsed (8 * lp + c) (s.headroomUsed (8 * lp + c) + n)
    let s := if acct.isSome then s.pfcAdd lp c n else s
    (s, some { lport := acct.getD 1024, cls := c, cells := n, headroom := !room })
  else
    let s := s.countRaise (deepPage sl) 0xD0 0
    let s := if past then (s.portCtr lp 39).raise (portPage (physOf lp)) (9 + subOf lp) else s
    (s, none)

/-- Give `n` cells of a charge back (R147). -/
def State.voqShrink (s : State) (sl : Nat) (ch : Charge) (n : Nat) : State × Charge :=
  let n := min n ch.cells
  let s := s.giveCells sl n
  let k := 8 * ch.lport + ch.cls
  let s := if ch.headroom then s.setHeadroomUsed k (s.headroomUsed k - n) else s.setVoqUsed sl (s.voqUsed sl - n)
  let s := if ch.lport < 1024 then s.pfcSub ch.lport ch.cls n else s
  (s, { ch with cells := ch.cells - n })

/-- End a charge: the frame has left the virtual output queue or was discarded there. -/
def State.voqRelease (s : State) (sl : Nat) (ch : Charge) : State := ((s.voqShrink sl ch ch.cells).1).giveDesc sl

/-! ### The queue of a frame (R179, R180, R184) -/

def schdKey (sl t i : Nat) : Nat := (sl * 16 + t) * 32768 + i
/-- Data word `w` of an entry of a scheduler table, as applied. -/
def State.schdW (s : State) (sl t i w : Nat) : Word := (s.schd (schdKey sl t i)).getD w 0
def State.schdF (s : State) (sl t i w lo n : Nat) : Nat := getBits (s.schdW sl t i w) lo n

def queueKey (sl idx : Nat) : Nat := sl * 17408 + idx

/-- Key of a frame for the queue map (R179). A frame that came over the fabric has 2,048 plus its IN_LPORT, a port of its source module
(R274). -/
def qmapKey (f : Frame) (k : Nat) : Nat :=
  if k = 0 then f.sid else if k = 1 then f.vid
  else if f.inLport < 1024 then f.inLport else if 2048 ≤ f.inLport then f.inLport - 2048 else 0

/-- Queue window index that egress logical port `lp` and the frame select (R179). -/
def State.queueFor (s : State) (lp : Nat) (f : Frame) : Nat :=
  let sl := sliceOf lp
  let i := 8 * qOf lp + f.cls
  if s.schdF sl 1 i 0 0 1 = 1 then
    1024 + s.schdF sl 1 i 0 1 14 + qmapKey f (s.schdF sl 1 i 0 19 2) % 2 ^ s.schdF sl 1 i 0 15 4
  else i

/-- Logical port a deep queue's path ends at: none where a node on it is not valid (R180, R184). -/
def State.deepPath (s : State) (sl i : Nat) : Option Nat :=
  if s.schdF sl 5 i 0 31 1 = 0 then none
  else
    let g := s.schdF sl 5 i 0 0 11
    if s.schdF sl 4 g 0 31 1 = 0 then none
    else
      let c := s.schdF sl 4 g 0 0 9
      if s.schdF sl 3 c 0 31 1 = 0 then none
      else some (128 * sl + 4 * s.schdF sl 3 c 0 0 5 + s.schdF sl 3 c 0 5 2)

/-! ### Early discard (R160) -/

/-- One step of the 16-bit LFSR of R160. -/
def lfsr16 (x : BitVec 16) : BitVec 16 :=
  (x <<< 1) ||| (if (x.getLsbD 15 ^^ x.getLsbD 13 ^^ x.getLsbD 12 ^^ x.getLsbD 10) then 1 else 0)
def lfsrSteps : Nat → BitVec 16 → BitVec 16
  | 0, x => x
  | n + 1, x => lfsrSteps n (lfsr16 x)
/-- Slice cycles of 1.6 GHz that the model's clock has counted. -/
def State.sliceCycle (s : State) : Nat := s.now * 8 / 5
/-- rand16 of a slice at this instant. -/
def State.rand16 (s : State) (sl : Nat) : Nat :=
  (lfsrSteps ((s.sliceCycle - s.lfsr sl) % 65535) (BitVec.ofNat 16 (0xACE1 ^^^ sl))).toNat

/-- Occupancy of a queue in cells, 8 for each bobbin of its deep part. -/
def Queue.occAll (q : Queue) : Nat := q.occ + 8 * q.bobbins.length

/-- Early discard of a frame of colour `k` (R160): the queue's new average, and whether the frame is discarded. -/
def State.wred (s : State) (sl : Nat) (q : Queue) (k : Nat) : Nat × Bool :=
  let pg := deepPage sl
  let o := 0x20 * q.profile
  let w := s.fld pg (DEEP_WRED_P_W.sh o)
  let avg := ((q.avg : Int) + ((q.occAll * 65536 : Nat) - (q.avg : Int)) / (2 ^ w : Nat)).toNat
  let k := min k 2
  if !s.flag pg (DEEP_WRED_P_EN.sh (o + 8 * k)) then (avg, false)
  else
    let lo := s.fld pg (DEEP_WRED_TH_MIN_TH.sh (o + 8 * k)) * 256 * 65536
    let hi := s.fld pg (DEEP_WRED_TH_MAX_TH.sh (o + 8 * k)) * 256 * 65536
    if avg < lo then (avg, false)
    else if hi ≤ avg then (avg, true)
    else (avg, s.rand16 sl * (hi - lo) < s.fld pg (DEEP_WRED_P_MAX_P.sh (o + 8 * k)) * (avg - lo) * 256)

/-! ### Space (R161, R162) -/

/-- Cells of `n` above a queue's guarantee. -/
def Queue.above (q : Queue) (n : Nat) : Nat := min n (q.occ + n - q.minCells)

def State.poolRoom (s : State) (sl p n : Nat) : Bool :=
  s.fld (deepPage sl) (DEEP_POOL_OCC_OCC.sh (4 * p)) + n ≤ s.fld (deepPage sl) (DEEP_POOL_SIZE_SIZE.sh (4 * p))

/-- Frame of `n` cells fits on-die (R161). -/
def State.fitsOnDie (s : State) (sl : Nat) (q : Queue) (n : Nat) : Bool :=
  q.occ + n ≤ q.minCells || (q.occ + n ≤ q.maxCells && s.poolRoom sl q.pool (q.above n))

/-- A frame of `n` cells asks its queue's pool for room: the pool is full while the frame's part would exceed it, and POOL_FULL fires
when it becomes full (R161). -/
def State.notePool (s : State) (sl : Nat) (q : Queue) (n : Nat) : State :=
  if q.occ + n ≤ q.minCells || q.maxCells < q.occ + n then s
  else
    let k := 4 * sl + q.pool
    if s.poolRoom sl q.pool (q.above n) then s.setPoolFull k false
    else if s.poolFull k then s
    else (s.setPoolFull k true).raise (deepPage sl) 1

/-- Effective space guarantee of a deep queue (R168), with the scale of its logical port (R171). -/
def State.effBobbins (s : State) (q : Queue) : Nat :=
  q.minBobbins * s.fld (deepPage 8) DEEPT_SPACE_FACTOR_FACTOR / 65536 * q.scale / 65536
/-- Bytes the open bobbin still takes. -/
def Queue.openRoom (q : Queue) : Nat :=
  match q.bobbins.getLast? with
  | some b => if b.phase = 0 then 2048 - (b.hi - b.lo) else 0
  | none => 0
/-- Bytes admitted deep that wait to be packed. -/
def State.unpacked (s : State) (q : Queue) : Nat :=
  q.deep.foldl (fun n i => match s.ef i with
    | some e => if e.deepHi = 0 then n + (if e.complete then e.f.bytes.length else e.maxLen) else n
    | none => n) 0
/-- Bobbins a queue's deep part takes with `n` more bytes. -/
def State.bobbinsWith (s : State) (q : Queue) (n : Nat) : Nat := q.bobbins.length + ceilDiv (s.unpacked q + n - q.openRoom) 2048

/-- Every deep queue held in the state, and the bobbins of all beyond their effective guarantees; the rest stand at their default. -/
def State.sharedUsed (s : State) : Nat :=
  s.sw.queues.foldl (fun n e => n + (e.2.bobbins.length - s.effBobbins e.2)) 0
def State.sharedSize (s : State) : Nat :=
  s.fld (deepPage 8) DEEPT_BOB_TOTAL_COUNT - s.sw.queues.foldl (fun n e => n + s.effBobbins e.2) 0

/-- What keeps a frame out of the deep tier (R162), in the order descriptor, quota, shared space, staging. -/
structure DeepFit where
  desc : Bool
  quota : Bool
  shared : Bool
  stage : Bool
  deriving DecidableEq, Repr

/-- A frame in staging holds an on-die descriptor too (R148): it needs one free (DEDUCED, log 119). -/
def State.deepFit (s : State) (sl : Nat) (q : Queue) (bytes : Nat) : DeepFit :=
  let b := s.bobbinsWith q bytes
  let free := s.fld (deepPage 8) DEEPT_DDESC_FREE_COUNT
  let eff := s.effBobbins q
  { desc := 0 < s.descFree sl && (if b ≤ eff then 0 < free else s.fld (deepPage 8) DEEPT_DDESC_FLOOR_FLOOR < free)
    quota := b ≤ q.maxBobbins
    shared := b ≤ eff || s.sharedUsed - (q.bobbins.length - eff) + (b - eff) ≤ s.sharedSize
    stage := s.wstage sl + cellsOf bytes ≤ s.fld (deepPage sl) DEEP_STAGE_WSTAGE }

/-! ### The deep part of a queue (R151 to R153, R169) -/

def State.stackIn (s : State) (d : Nat) : Bool := !(s.stackSt d).out
def State.stackDouble (s : State) (d : Nat) : Bool := (s.stackSt d).doubled

/-- Bobbins of one stack's frame area (R150). -/
def stackBobbins : Nat := 8257536
/-- Bobbins that queues hold on stack `d`. -/
def State.stackUsed (s : State) (d : Nat) : Nat :=
  s.sw.queues.foldl (fun n e => n + (e.2.bobbins.filter fun b => b.stack == d).length) 0

/-- Next stack of a rotation `r` (turn × 8 + stack, two turns): a stack out of service or without a free bobbin (R150) is passed over, and
one with doubled refresh on every second turn (R151). -/
def State.nextStack (s : State) : Nat → Nat → Nat × Nat
  | 0, r => (r % 8, r)
  | n + 1, r =>
    if s.stackIn (r % 8) && s.stackUsed (r % 8) < stackBobbins && !(s.stackDouble (r % 8) && r / 8 % 2 == 1) then (r % 8, (r + 1) % 16) else s.nextStack n ((r + 1) % 16)

def State.bobFld (s : State) (f : Fld) (n : Int) : State :=
  s.setFld (deepPage 8) f ((s.fld (deepPage 8) f : Int) + n).toNat

/-- Add `n` bytes to a queue's deep part: fill the open bobbin, and draw new ones. A full bobbin starts its write. -/
def State.packBytes (s : State) (k : Nat) : Nat → Nat → State
  | 0, _ => s
  | fuel + 1, n =>
    if n = 0 then s
    else
      let q := s.queue k
      let room := q.openRoom
      if room = 0 then
        let (d, r) := s.nextStack 16 q.rotor
        let s := s.setQueue k { q with bobbins := q.bobbins ++ [{ stack := d, lo := q.deepEnd, hi := q.deepEnd, phase := 0 }], rotor := r }
        ((s.bobFld DEEPT_BOB_FREE_COUNT (-1)).bobFld DEEPT_BOB_USED_COUNT 1).packBytes k fuel n
      else
        let m := min n room
        let full := m = room
        let q := { q with
          deepEnd := q.deepEnd + m
          bobbins := q.bobbins.dropLast ++ (match q.bobbins.getLast? with
            | some b => [{ b with hi := b.hi + m, phase := if full then 1 else 0 }]
            | none => []) }
        let s := s.setQueue k q
        let s := if full then (s.bobFld DEEPT_BOB_USED_COUNT (-1)).bobFld DEEPT_BOB_TRANSIT_COUNT 1 else s
        s.packBytes k fuel (n - m)

/-- Pack the complete frames of a queue's deep part in admission order (R151); a frame that has not ended stops the packing. -/
def State.packDeep (s : State) (k : Nat) : List Nat → State
  | [] => s
  | i :: r =>
    match s.ef i with
    | none => s.packDeep k r
    | some e =>
      if e.deepHi ≠ 0 then s.packDeep k r
      else if !e.complete then s
      else
        let lo := (s.queue k).deepEnd
        let n := e.f.bytes.length
        let s := s.packBytes k (n + 8) n
        (s.setEf i (some { e with deepLo := lo, deepHi := lo + n })).packDeep k r

/-- Two byte ranges meet. -/
def meets (lo hi lo' hi' : Nat) : Bool := lo < hi' && lo' < hi

/-- Packed byte ranges of the frames a queue holds deep. -/
def State.deepRanges (s : State) (q : Queue) : List (Nat × Nat) :=
  q.deep.filterMap fun i => (s.ef i).bind fun e => if e.deepHi = 0 then none else some (e.deepLo, e.deepHi)

/-- Free the bobbins in which no byte of a held frame remains; a bobbin in transit stays until its write or read is done (R152). -/
def State.purge (s : State) (k : Nat) : State :=
  let q := s.queue k
  let rs := s.deepRanges q
  let keep := q.bobbins.filter fun b => b.phase == 1 || b.phase == 3 || rs.any fun r => meets b.lo b.hi r.1 r.2
  let n := q.bobbins.length - keep.length
  ((s.setQueue k { q with bobbins := keep }).bobFld DEEPT_BOB_USED_COUNT (-n)).bobFld DEEPT_BOB_FREE_COUNT n

/-! ### Egress frames -/

/-- DROPS of mirror sessions: copies of theirs are discarded (R5, R138). -/
def State.mirrorDrops (s : State) (l : List Nat) : State := s.each l fun s n => s.count tblsPage (0x208 + 0x10 * n)

/-- Account of R78 a frame belongs to: none for a frame without an ingress logical port. -/
def Frame.acct (f : Frame) : Option Nat := if f.inLport < 1024 && !f.injected then some f.inLport else none

/-- The copies of a frame share one set of cells (R146): join it, or make it. -/
def State.setJoin (s : State) (sl set n : Nat) (f : Frame) : State :=
  let (c, k) := s.cellSet set
  if k = 0 then
    let s := (s.setCellSet set (n, 1)).takeCells sl n
    match f.acct with | some lp => s.pfcAdd lp f.cls n | none => s
  else s.setCellSet set (c, k + 1)
/-- Leave a set: its cells are freed when the last copy leaves. -/
def State.setLeave (s : State) (sl set : Nat) (f : Frame) : State :=
  let (c, k) := s.cellSet set
  if k ≤ 1 then
    let s := (s.setCellSet set (0, 0)).giveCells sl c
    match f.acct with | some lp => s.pfcSub lp f.cls c | none => s
  else s.setCellSet set (c, k - 1)
/-- A set shrinks to `n` cells when its frame ends (R147). -/
def State.setShrink (s : State) (sl set n : Nat) (f : Frame) : State :=
  let (c, k) := s.cellSet set
  if k = 0 || c ≤ n then s
  else
    let s := (s.setCellSet set (n, k)).giveCells sl (c - n)
    match f.acct with | some lp => s.pfcSub lp f.cls (c - n) | none => s

/-- A frame held deep leaves write staging: its cells, its share of the region and its on-die descriptor (R145, R146, R148). -/
def State.unstage (s : State) (sl : Nat) (e : EFrame) : State :=
  if e.charge = 0 then s else ((s.setWstage sl (s.wstage sl - e.charge)).setLeave sl e.cellSet e.f).giveDesc sl

/-- Release what a frame held deep holds: its deep descriptor and what it has in write staging (R152). -/
def State.dropDeep (s : State) (sl : Nat) (e : EFrame) : State :=
  ((s.bobFld DEEPT_DDESC_USED_COUNT (-1)).bobFld DEEPT_DDESC_FREE_COUNT 1).unstage sl e

/-- Remove a frame from its queue and release all it holds; FREE_AFTER follows. -/
def State.dropFrame (s : State) (i : Nat) : State :=
  match s.ef i with
  | none => s
  | some e =>
    let sl := sliceOf e.lport
    let k := queueKey sl e.q
    let q := s.queue k
    let s := s.setEf i none
    let p := physOf e.lport
    let s := s.setChain p ((s.chain p).filter (· != i))
    -- a frame that is being sent keeps the accounts it had (a staged one has left the deep part)
    let s := match (if e.place = .sending && e.deepHi ≠ 0 then .staged else e.place : Place) with
      | .deep =>
        let r := q.deep.filter (· != i)
        ((s.setQueue k { q with deep := r, spilling := q.spilling && !r.isEmpty }).dropDeep sl e).purge k
      | .staged =>
        let s := s.setQueue k { q with frames := q.frames.filter (· != i) }
        ((s.setRstage sl (s.rstage sl - e.charge)).setLeave sl e.cellSet e.f).giveDesc sl
      | _ =>
        let s := s.setQueue k { q with frames := q.frames.filter (· != i), occ := q.occ - e.charge }
        let s := s.decFld (deepPage sl) (DEEP_POOL_OCC_OCC.sh (4 * e.pool)) e.poolPart
        (s.setLeave sl e.cellSet e.f).giveDesc sl
    s.injDone e.inj

/-- Discard a frame the egress slice holds; a mirror copy counts in its session's DROPS (R138). -/
def State.discardFrame (s : State) (i : Nat) : State :=
  (s.mirrorDrops (((s.ef i).bind fun e => e.f.session).toList)).dropFrame i

/-- Land the frames at the front of a queue's deep part whose bytes have all been read back; discard lost ones once they head the
queue (R153, R156, R169). A frame in read staging holds an on-die descriptor (R148). -/
def State.landDeep (s : State) (k : Nat) : Nat → State
  | 0 => s
  | fuel + 1 =>
    let q := s.queue k
    match q.deep with
    | [] => s
    | i :: r =>
      match s.ef i with
      | none => (s.setQueue k { q with deep := r }).landDeep k fuel
      | some e =>
        let sl := sliceOf e.lport
        if e.lost then
          if q.frames.isEmpty then
            let s := s.setQueue k { q with deepLost := q.deepLost + 1 }
            (s.discardFrame i).landDeep k fuel
          else s
        else if e.deepHi = 0 || s.descFree sl = 0 || (q.bobbins.any fun b => meets b.lo b.hi e.deepLo e.deepHi) then s
        else
          let n := cellsOf e.f.bytes.length
          let s := (s.bobFld DEEPT_DDESC_USED_COUNT (-1)).bobFld DEEPT_DDESC_FREE_COUNT 1
          let s := s.setQueue k { q with deep := r, frames := q.frames ++ [i], spilling := q.spilling && !r.isEmpty }
          let s := ((s.setRstage sl (s.rstage sl + n)).setJoin sl e.cellSet n e.f).takeDesc sl
          (s.setEf i (some { e with place := .staged, charge := n, poolPart := 0 })).landDeep k fuel

/-- Fuel enough for a queue's deep part. -/
def State.landAll (s : State) (k : Nat) : State := s.landDeep k ((s.queue k).deep.length + 2)

/-! ### Admission (R147, R155 to R163) -/

/-- What admission did with a frame. -/
inductive Admit where
  | admitted (fid : Nat)
  | dropped
  /-- no room in a LOSSLESS queue: its grants are withheld (R163) -/
  | wait
  deriving DecidableEq, Repr

/-- A frame on its way to egress logical port `lp`: the frame (what has arrived of it), its length where known, whether it goes
cut-through, the ingress MAX_FRAME and what was injected with it. -/
structure Offer where
  f : Frame
  lp : Nat
  len : Option Nat
  ct : Bool
  maxLen : Nat
  inj : Option InjMeta
  /-- set of cells shared with the other copies of a multicast frame -/
  set : Option Nat
  deriving DecidableEq, Repr

/-- Length that charges a frame: its own, or the ingress MAX_FRAME (R147). -/
def Offer.chargeLen (o : Offer) : Nat := o.len.getD o.maxLen

def State.newFrame (s : State) (o : Offer) (q : Nat) (place : Place) (charge part pool set : Nat) : State :=
  let i := s.sw.nextFid
  (s.onSw fun w => { w with nextFid := i + 1 }).setEf i (some
    { f := o.f, lport := o.lp, q := q, place := place, complete := o.len = some o.f.bytes.length, bad := false, ct := o.ct
      maxLen := o.chargeLen, sized := o.len.isSome, cellsSeen := 0, charge := charge, poolPart := part, pool := pool, cellSet := set, deepLo := 0, deepHi := 0, lost := false
      inj := o.inj, admitted := s.now })

/-- Room of a logical port's express chain: 16 entries shared equally among the sub-ports in use (R149). -/
def State.chainRoom (s : State) (lp : Nat) : Bool :=
  let n := subCount (s.modeOf (physOf lp))
  let mine := (s.chain (physOf lp)).filter fun i => match s.ef i with | some e => e.lport == lp | none => false
  n != 0 && mine.length < 16 / n

/-- Admit on-die (R161), into the express chain where R149 says so. -/
def State.admitOnDie (s : State) (o : Offer) (qi : Nat) : State × Admit :=
  let sl := sliceOf o.lp
  let k := queueKey sl qi
  let q := s.queue k
  let n := cellsOf o.chargeLen
  let i := s.sw.nextFid
  let part := if q.occ + n ≤ q.minCells then 0 else q.above n
  let express := o.f.cls == 7 && qi < 1024
  let chained := express && s.chainRoom o.lp && q.frames.isEmpty
  let set := o.set.getD i
  let s := s.newFrame o qi (if chained then .chain else .list) n part q.pool set
  let s := (s.setJoin sl set n o.f).takeDesc sl
  let s := s.incFld (deepPage sl) (DEEP_POOL_OCC_OCC.sh (4 * q.pool)) part
  let s := s.setQueue k { q with
    occ := q.occ + n, frames := if chained then q.frames else q.frames ++ [i]
    admitFrames := q.admitFrames + 1, admitBytes := q.admitBytes + o.len.getD 0 }
  let s := if chained then s.setChain (physOf o.lp) (s.chain (physOf o.lp) ++ [i])
    else if express then s.count (deepPage sl) 0xE0 else s
  (s, .admitted i)

/-- Admit deep (R151, R155, R162): the frame lies in write staging, in the cells it shares with its other copies (R146). It is never sent
cut-through (R157). -/
def State.admitDeep (s : State) (o : Offer) (qi : Nat) : State × Admit :=
  let sl := sliceOf o.lp
  let k := queueKey sl qi
  let q := s.queue k
  let n := cellsOf o.chargeLen
  let i := s.sw.nextFid
  let ddfree := s.fld (deepPage 8) DEEPT_DDESC_FREE_COUNT
  let set := o.set.getD i
  let s := s.newFrame { o with ct := false } qi .deep n 0 0 set
  let s := (s.bobFld DEEPT_DDESC_FREE_COUNT (-1)).bobFld DEEPT_DDESC_USED_COUNT 1
  let s := if ddfree = s.fld (deepPage 8) DEEPT_DDESC_FLOOR_FLOOR + 1 then s.raise (deepPage 8) 11 else s
  let s := ((s.setWstage sl (s.wstage sl + n)).setJoin sl set n o.f).takeDesc sl
  let s := s.setQueue k { q with
    deep := q.deep ++ [i], deepAt := s.now, spilled := q.spilled + 1
    admitFrames := q.admitFrames + 1, admitBytes := q.admitBytes + o.len.getD 0 }
  (s.packDeep k (s.queue k).deep, .admitted i)

/-- Withhold, or release, the grants of an egress physical port and class (R163). -/
def State.withhold (s : State) (lp c : Nat) (b : Bool) : State := s.setWithheld ((sliceOf lp * 264 + physOf lp) * 8 + c) b

/-- An admission attempt moves the queue's average (R160), and asks its pool for room unless the frame is to be admitted deep anyway
(R155, R161). -/
def State.attempt (s : State) (o : Offer) : State :=
  let sl := sliceOf o.lp
  let qi := s.queueFor o.lp o.f
  let k := queueKey sl qi
  let q := s.queue k
  let n := cellsOf o.chargeLen
  let (avg, early) := s.wred sl q o.f.colour
  let s := s.setQueue k { q with avg := avg }
  if (early && !q.lossless) || q.spilling || (1024 ≤ qi && q.spillEn && q.spillTh < q.occ + n) then s else s.notePool sl q n

/-- The egress slice decides a frame (R159, R5, R35, R38, R44, R155, R180). A frame that must wait changes nothing but what its attempt
does (R163). -/
def State.admission (s : State) (o : Offer) : State × Admit :=
  let sl := sliceOf o.lp
  let qi := s.queueFor o.lp o.f
  let k := queueKey sl qi
  let gone := fun (s : State) =>
    ((s.mirrorDrops o.f.session.toList).injDone o.inj, Admit.dropped)
  if 1024 ≤ qi && s.deepPath sl (qi - 1024) != some o.lp then
    gone (s.countRaise (schdPage sl) 0x90 0)
  else if s.isDark o.lp then
    gone (s.engCtr (physOf o.lp) 1)
  else if s.holdExpired o.lp then gone (s.engCtr (physOf o.lp) 0)
  else
    let early := (s.wred sl (s.queue k) o.f.colour).2
    let s := s.attempt o
    let q := s.queue k
    if early && !q.lossless then gone (s.setQueue k { q with dropWred := q.dropWred + 1 })
    else
      let n := cellsOf o.chargeLen
      let fits := s.fitsOnDie sl q n
      let spill := q.spilling || (1024 ≤ qi && q.spillEn && (q.spillTh < q.occ + n || !fits))
      let waits := (s.withhold o.lp o.f.cls true, Admit.wait)
      let refuse := fun (s : State) (desc : Bool) =>
        let q := s.queue k
        gone (s.setQueue k (if desc then { q with dropDesc := q.dropDesc + 1 } else { q with dropSpace := q.dropSpace + 1 }))
      let wake := fun (r : State × Admit) =>
        let p := physOf o.lp
        if (r.1.pitch o.lp).state = 6 && r.1.portFld p OENG_PORT_MODE_AUTO_WAKE_EGRESS = 1 then (r.1.unpark p, r.2) else r
      if spill then
        let d := s.deepFit sl q o.chargeLen
        let s := if q.lossless && !(d.desc && d.quota && d.shared && d.stage) then s else s.setQueue k { q with spilling := true }
        if d.desc && d.quota && d.shared && d.stage then wake (s.admitDeep o qi)
        else if q.lossless then waits
        else if !d.desc then refuse s true
        else
          let s := if d.quota && d.shared then (s.count (deepPage sl) 0xD8).raise (deepPage sl) 3 else s
          refuse (if d.quota && d.stage then s.raise (deepPage 8) 10 else s) false
      else
        let guar := q.occ + n ≤ q.minCells
        if !(if guar then 0 < s.descFree sl else s.fld (deepPage sl) DEEP_DESC_FLOOR_FLOOR < s.descFree sl) then refuse s true
        else if fits then wake (s.admitOnDie o qi)
        else if q.lossless then waits
        else refuse s false

/-- A frame ends at egress: its excess charge returns to queue, pool and set (R147), and its deep part is packed. -/
def State.frameEnds (s : State) (i : Nat) (bytes : List Byte) : State :=
  match s.ef i with
  | none => s
  | some e =>
    let sl := sliceOf e.lport
    let k := queueKey sl e.q
    let n := min e.charge (cellsOf bytes.length)
    let q := s.queue k
    let extra := e.charge - n
    let part := min e.poolPart extra
    let s := s.setEf i (some { e with f := { e.f with bytes := bytes }, complete := true, charge := n, poolPart := e.poolPart - part })
    let s := if e.sized then s else s.setQueue k { q with admitBytes := q.admitBytes + bytes.length }
    if e.place = .deep then
      let s := (s.setWstage sl (s.wstage sl - extra)).setShrink sl e.cellSet n e.f
      s.packDeep k (s.queue k).deep
    else
      let q := s.queue k
      let s := s.setQueue k { q with occ := q.occ - extra }
      let s := s.decFld (deepPage sl) (DEEP_POOL_OCC_OCC.sh (4 * e.pool)) part
      s.setShrink sl e.cellSet n e.f

/-- Discard every frame queued for a logical port, in every part, each counted in counter `n` of R61 (R35, R38, R152). A frame in
transmission is not queued. -/
def State.discardQueued (s : State) (lp n : Nat) : State :=
  let ids := s.sw.efs.filterMap fun x => x.2.bind fun e => if e.lport = lp && e.place ≠ .sending then some x.1 else none
  let s := s.engCtr (physOf lp) n ids.length
  let ks := ids.filterMap fun i => (s.ef i).map fun e => queueKey (sliceOf lp) e.q
  let s := s.each ids fun s i => s.discardFrame i
  s.each ks fun s k => s.landAll k

/-! ### The guarantee check (R165) -/

def sumOver (l : List Nat) (f : Nat → Nat) : Nat := l.foldl (fun n a => n + f a) 0
/-- Queues of a slice that the state lists; the others stand at their reset configuration, with no guarantee. -/
def State.queuesOf (s : State) (sl : Nat) : List (Nat × Queue) :=
  s.sw.queues.filterMap fun e => if e.1 / 17408 = sl then some (e.1 % 17408, e.2) else none

/-- PFC headroom of a slice: its sub-ports' classes with PFC_TX_EN set (R145). -/
def State.headroomSum (s : State) (sl : Nat) : Nat :=
  sumOver (List.range 128) fun q => sumOver (List.range 8) fun c =>
    if s.pfcTxEn (128 * sl + q) c then s.headroomOf (128 * sl + q) c else 0

/-- Regions of the on-die tier of a slice in cells (R145). -/
def State.regionSum (s : State) (sl : Nat) : Nat :=
  let pg := deepPage sl
  s.fld pg DEEP_VOQ_CELLS_CELLS + s.headroomSum sl + s.fld pg DEEP_STAGE_WSTAGE + s.fld pg DEEP_STAGE_RSTAGE +
    (s.queuesOf sl).foldl (fun n e => n + e.2.minCells) 0 + sumOver (List.range 4) fun p => s.fld pg (DEEP_POOL_SIZE_SIZE.sh (4 * p))

def State.bobbinSum (s : State) : Nat := s.sw.queues.foldl (fun n e => n + e.2.minBobbins) 0
def State.guarSlice (s : State) (sl : Nat) : Nat := (s.queuesOf sl).foldl (fun n e => n + e.2.guarRate) 0
def State.guarAll (s : State) : Nat := s.sw.queues.foldl (fun n e => n + e.2.guarRate) 0

/-- Logical port a queue of a slice drains to: that of its class queue, or the end of its deep path. -/
def State.queueLport (s : State) (sl i : Nat) : Option Nat := if i < 1024 then some (128 * sl + i / 8) else s.deepPath sl (i - 1024)
/-- Deep queues of a logical port that the state lists. -/
def State.deepQueuesOf (s : State) (lp : Nat) : List (Nat × Queue) :=
  (s.queuesOf (sliceOf lp)).filter fun e => 1024 ≤ e.1 && s.queueLport (sliceOf lp) e.1 == some lp
def State.guarPort (s : State) (lp : Nat) : Nat := (s.deepQueuesOf lp).foldl (fun n e => n + e.2.guarRate) 0

/-- One row of R165: reason, sum before, sum after, limit. -/
abbrev GuarRow := Nat × Nat × Nat × Nat

/-- Reason 5 for logical ports `lps`: the limit is the port's rate as it is at present. -/
def guarPorts (s s' : State) (lps : List Nat) : List GuarRow := lps.map fun lp => (5, s.guarPort lp, s'.guarPort lp, s.rateOf lp)

/-- The rows of R165 that a change from `s` to `s'`, both as written, concerns in slice `sl`. -/
def guarRows (s s' : State) (sl : Nat) : List GuarRow :=
  [(1, s.regionSum sl, s'.regionSum sl, 262144), (2, s.bobbinSum, s'.bobbinSum, 66060288), (3, s.guarSlice sl, s'.guarSlice sl, 10000000),
   (4, s.guarAll, s'.guarAll, 40000000)]

/-- The first row whose sum the change moves beyond its limit, with the excess. -/
def guarFail (rows : List GuarRow) : Option (Nat × Nat) :=
  (rows.find? fun r => r.2.1 ≠ r.2.2.1 && r.2.2.2 < r.2.2.1).map fun r => (r.1, r.2.2.1 - r.2.2.2)

/-- GUAR_CAPTURE and GUAR_EXCESS of a slice (R166). A reason 6 has no sum and leaves GUAR_EXCESS as it is (DESIGN CHOICE, log 41). -/
def State.guarCapture (s : State) (sl reason idx : Nat) (excess : Option Nat) : State :=
  let pg := deepPage sl
  let s := ((s.setFld pg DEEP_GUAR_CAPTURE_REASON reason).setFld pg DEEP_GUAR_CAPTURE_INDEX idx).setFld pg DEEP_GUAR_CAPTURE_VALID 1
  match excess with
  | some n => s.setFld pg DEEP_GUAR_EXCESS_EXCESS n
  | none => s

end Sys2Proof.Machine
end

