-- ==== Sys2Proof/Machine/TableLookup.lean ====
section
/-! DEFINITION. Lookups in a slice's copy of the replicated tables (chapter 05): entries by index, the two-bucket hash tables, longest
match, groups and their members, and the egress edits of a frame. -/

namespace Sys2Proof.Machine

def State.copyOf (s : State) (sl : Nat) : TblCopy := s.tables.copies.getD sl TblCopy.empty
def State.setCopy (s : State) (sl : Nat) (c : TblCopy) : State := s.onTables fun t => { t with copies := t.copies.set sl c }

/-! ### Entries by index (R143) -/

def TblCopy.lportW (c : TblCopy) (lp : Nat) : List Word := mget dfltTblLport c.lport lp
def TblCopy.vxltW (c : TblCopy) (i : Nat) : List Word := mget dfltTblVxlt c.vxlt i
def TblCopy.bdW (c : TblCopy) (i : Nat) : List Word := mget dfltTblBd c.bd i
def TblCopy.mirrorW (c : TblCopy) (i : Nat) : List Word := mget dfltTblMirror c.mirror i
def TblCopy.linkW (c : TblCopy) (i : Nat) : List Word := mget dfltTblLink c.linkGroup i
/-- Bits of word `w` of an entry. -/
def entF (ws : List Word) (w lo n : Nat) : Nat := getBits (ws.getD w 0) lo n
def TblCopy.lportF (c : TblCopy) (lp w lo n : Nat) : Nat := entF (c.lportW lp) w lo n
def TblCopy.bdF (c : TblCopy) (bd w lo n : Nat) : Nat := entF (c.bdW bd) w lo n
def TblCopy.gmaskOf (c : TblCopy) (g : Nat) : Nat := mget 0 c.gmask g
def TblCopy.macAt (c : TblCopy) (slot : Nat) : Option MacEntry := mget none c.mac slot
def TblCopy.routeAt (c : TblCopy) (slot : Nat) : Option RouteEntry := mget none c.route slot

/-! ### The MAC table (R124, R125) -/

/-- The two candidate buckets of a key under the hash seeds. -/
def State.macBuckets (s : State) (bd : Nat) (addr : BitVec 48) : Nat × Nat :=
  let k := beBytes 2 bd ++ beBytes 6 addr.toNat
  ((crc32c k).toNat % 2 ^ 17 ^^^ s.fld tblsPage TBLS_HASH_SEED_SEED, (crc32 k).toNat % 2 ^ 17 ^^^ s.fld tblsPage (TBLS_HASH_SEED_SEED.sh 4))
def bucketSlots (b : Nat) : List Nat := [4 * b, 4 * b + 1, 4 * b + 2, 4 * b + 3]
/-- The slot that holds a key. -/
def State.macFind (s : State) (c : TblCopy) (bd : Nat) (addr : BitVec 48) : Option (Nat × MacEntry) :=
  let (h0, h1) := s.macBuckets bd addr
  (bucketSlots h0 ++ bucketSlots h1).findSome? fun i =>
    match c.macAt i with
    | some e => if e.addr = addr && e.bd = bd then some (i, e) else none
    | none => none
/-- Where a new key goes: the bucket with more free ways, H0 on a tie, its lowest free way; none when both are full (R125). -/
def placeIn {α : Type} (at_ : Nat → Option α) (h0 h1 : Nat) : Option Nat :=
  let f0 := (bucketSlots h0).filter fun i => (at_ i).isNone
  let f1 := (bucketSlots h1).filter fun i => (at_ i).isNone
  if f0.length < f1.length then f1.head? else f0.head?

/-! ### The fabric routing table (R136, R137) -/

/-- A prefix with the bits below its length 0. -/
def prefixOf (addr len : Nat) : Nat := addr / 2 ^ (32 - len) * 2 ^ (32 - len)
def State.routeBuckets (s : State) (len prefix_ : Nat) : Nat × Nat :=
  let k := beBytes 1 len ++ beBytes 4 prefix_
  ((crc32c k).toNat % 2 ^ 14 ^^^ s.fld tblsPage TBLS_HASH_SEED_SEED % 2 ^ 14,
   (crc32 k).toNat % 2 ^ 14 ^^^ s.fld tblsPage (TBLS_HASH_SEED_SEED.sh 4) % 2 ^ 14)
def State.routeFind (s : State) (c : TblCopy) (len prefix_ : Nat) : Option (Nat × RouteEntry) :=
  let (h0, h1) := s.routeBuckets len prefix_
  (bucketSlots h0 ++ bucketSlots h1).findSome? fun i =>
    match c.routeAt i with
    | some e => if e.len = len && e.prefix_ = prefix_ then some (i, e) else none
    | none => none
/-- Longest match over the lengths set in the length filter, from the longest. -/
def State.routeLpm (s : State) (c : TblCopy) (addr : Nat) : Option (Nat × RouteEntry) :=
  ((List.range 33).map (32 - ·)).findSome? fun len => if c.lenFilter.testBit len then s.routeFind c len (prefixOf addr len) else none

/-! ### Groups (R121) -/

def State.memberMap (s : State) (sl g : Nat) : Nat := s.grpStatic (g * 8 + sl) ||| s.grpSnoop (g * 8 + sl)
/-- Local members that receive a copy at egress slice `sl`: not the ingress logical port unless HAIRPIN, none in cell mode or unused. -/
def State.localMembers (s : State) (sl : Nat) (f : Frame) : List Nat :=
  let m := s.memberMap sl f.group
  let hairpin := (s.copyOf sl).bdF f.sid 0 6 1 == 1
  if m = 0 then []
  else ((List.range 128).filter fun q =>
    let lp := 128 * sl + q
    m.testBit q && (hairpin || lp != f.inLport) && s.inUse lp && !s.cellOn (physOf lp)).map (128 * sl + ·)

/-! ### Egress edits (R119) -/

/-- The tag a device writes: TPID, then PCP, DEI and VID. -/
def tagBytes (tpid cls colour vid : Nat) : List Byte :=
  beBytes 2 tpid ++ beBytes 2 (cls * 2 ^ 13 + (if 0 < colour then 2 ^ 12 else 0) + vid)

/-- A frame body with the edits of its egress logical port (R119). A redirected frame whose bridge-domain stage missed (R116) has no
domain: its service identifier is 0 here, so EG_TAG_MODE 1 writes the EGRESS_VID of domain 0 (DESIGN CHOICE, log 115). -/
def State.egressEdit (s : State) (lp : Nat) (f : Frame) (body : List Byte) : List Byte :=
  let c := s.copyOf (sliceOf lp)
  let tagged := 0 < tagCount body
  match c.lportF lp 0 23 2 with
  | 0 => if tagged then body.take 12 ++ body.drop 16 else body
  | 1 =>
    let vid := c.bdF f.sid 0 9 12
    let tpid := if tagged then etypeAt body 12 else if c.lportF lp 0 25 1 = 1 then 0x88A8 else 0x8100
    body.take 12 ++ tagBytes tpid f.cls f.colour vid ++ (if tagged then body.drop 16 else body.drop 12)
  | _ => body

/-- Bridging edits a frame (R116); a mirror copy and a frame injected in MODE 0 pass no bridging stage (DEDUCED, log 60). -/
def EFrame.edited (e : EFrame) : Bool := !e.f.mirrorCopy && !(match e.inj with | some m => m.egress | none => false)

/-- The body of an egress frame as its bytes stand, edited. -/
def State.bodySent (s : State) (e : EFrame) : List Byte :=
  if e.complete then (if e.edited then s.egressEdit e.lport e.f (bodyOf e.f.bytes) else bodyOf e.f.bytes)
  else if e.edited then s.egressEdit e.lport e.f e.f.bytes else e.f.bytes
/-- An egress frame as it is sent on an Ethernet port: edited, padded, with a fresh FCS (R64). -/
def State.wireOf (s : State) (e : EFrame) : List Byte := finishFrame (s.bodySent e)
/-- Size after egress edits (R182); MAX_FRAME of the ingress while it is not known (R183). -/
def State.sentSize (s : State) (e : EFrame) : Nat := if e.complete then (s.wireOf e).length else e.maxLen

end Sys2Proof.Machine
end

