-- ==== Sys2Proof/Machine/TimeBase.lean ====
section
/-! DEFINITION. Reading the time bases, and the stamps of PTP frames (chapter 11): conversion, asymmetry, recognition of event
messages, one-step and transparent-clock edits, and time-stamp reports. -/

namespace Sys2Proof.Machine

/-- Sixteenths of a part per billion in one. -/
def freqUnit : Int := 16000000000

def tbF (n : Nat) (f : Fld) : Fld := f.sh (0x80 * n)
def State.tbEn (s : State) (n : Nat) : Bool := s.flag timePage (tbF n TIME_TB_CFG_EN)
def State.tbState (s : State) (n : Nat) : Nat := s.fld timePage (tbF n TIME_TB_STATUS_STATE)
/-- F_n in 1/16 ppb. -/
def State.tbFreq (s : State) (n : Nat) : Int := signed 32 (s.fld timePage (tbF n TIME_TB_FREQ_F))

/-- Value of a time base at a DT instant, in 2^-16 ns (R306); 0 while it is disabled. -/
def State.tbAt (s : State) (n : Nat) (t : Time) : Int :=
  if s.tbEn n then
    let d : Int := (t : Int) - s.time.dt
    (s.tb n).t + d + d * s.tbFreq n / freqUnit
  else 0
/-- A DT instant in time reference `n`: 0 to 3 a time base, 4 DT (R312). -/
def State.timeIn (s : State) (n : Nat) (t : Time) : Int := if n < 4 then s.tbAt n t else t
/-- Whole nanoseconds of reference `n` now, from 0. -/
def State.nsIn (s : State) (n : Nat) : Nat := (s.timeIn n s.time.dt / 65536).toNat
/-- NOLOCK: the reference names a time base that is not LOCKED. -/
def State.noLock (s : State) (n : Nat) : Bool := n < 4 && s.tbState n != 3

/-- DT now with the resolution of R312, 1/64 ns. -/
def State.ptpNow (s : State) : Time := s.time.dt / 1024 * 1024
/-- The DT instant of a 40-bit stamp, at most one wrap back. -/
def State.stampTime (s : State) (stamp : Nat) : Time := (s.dtNs - stampAge s.stamp stamp) * 65536

def State.tsTb (s : State) (p : Nat) : Nat := s.fld timePage (TIME_TS_CFG_TS_TB.sh (4 * p))
def State.tcEn (s : State) (p : Nat) : Bool := s.flag timePage (TIME_TS_CFG_TC_EN.sh (4 * p))

/-- Total asymmetry A of a logical port in 1/256 ns (R311). -/
def State.asymOf (s : State) (lp : Nat) : Int :=
  signed 16 (s.lane (engineOf lp * 32 + s.laneOf lp)).asym + 16 * signed 20 (s.fld timePage (TIME_TS_CFG_USER_ASYM.sh (4 * physOf lp)))

/-! ### Recognition (R313) -/

/-- A recognised event message: offset of its PTP header, the UDP header's where it has one (with IPv6), and messageType. -/
structure Ptp where
  hdr : Nat
  udp : Option Nat
  v6 : Bool
  typ : Nat
  deriving DecidableEq, Repr

def ptpAt (b : List Byte) (hdr : Nat) (udp : Option Nat) (v6 : Bool) : Option Ptp :=
  if byteAt b (hdr + 1) % 16 = 2 && byteAt b hdr % 16 < 4 && hdr + 34 ≤ b.length then
    some { hdr := hdr, udp := udp, v6 := v6, typ := byteAt b hdr % 16 }
  else none

/-- The event message a frame body carries. -/
def ptpOf (b : List Byte) : Option Ptp :=
  let o := 12 + 4 * tagCount b
  let et := etypeAt b o
  let p := o + 2
  if et = 0x88F7 then ptpAt b p none false
  else if et = 0x0800 then
    if byteAt b p = 0x45 && byteAt b (p + 9) = 17 && beAt b (p + 6) 2 % 2 ^ 14 = 0 && beAt b (p + 22) 2 = 319 then
      ptpAt b (p + 28) (some (p + 20)) false
    else none
  else if et = 0x86DD then
    if byteAt b p / 16 = 6 && byteAt b (p + 6) = 17 && beAt b (p + 42) 2 = 319 then ptpAt b (p + 48) (some (p + 40)) true else none
  else none

/-! ### Edits (R314, R315) -/

/-- 16-bit words of a byte range. -/
def words16 (b : List Byte) (i n : Nat) : List Nat := (List.range (n / 2)).map fun k => beAt b (i + 2 * k) 2
/-- One's complement sum. -/
def onesAdd (a b : Nat) : Nat := let x := a + b; if x < 65536 then x else x - 65535

/-- Replace bytes of a PTP message and update its UDP checksum incrementally, as RFC 1624 states; an IPv4 checksum of 0 stays, and an
update never gives 0 (DEDUCED, log 62). -/
def ptpPatch (b : List Byte) (m : Ptp) (i : Nat) (v : List Byte) : List Byte :=
  let b' := patch b i v
  match m.udp with
  | none => b'
  | some u =>
    let c := beAt b (u + 6) 2
    if c = 0 && !m.v6 then b'
    else
      let x := (words16 b i v.length).foldl (fun a w => onesAdd a (65535 - w)) (65535 - c)
      let x := (words16 b' i v.length).foldl onesAdd x
      let c' := 65535 - x
      patch b' (u + 6) (beBytes 2 (if c' = 0 then 65535 else c'))

/-- Add to correctionField, in 2^-16 ns. -/
def addCorrection (b : List Byte) (m : Ptp) (d : Int) : List Byte :=
  ptpPatch b m (m.hdr + 8) (beBytes 8 (unsigned 64 (signed 64 (beAt b (m.hdr + 8) 8) + d)))

/-- The event message that R315 updates: a recognised one whose ingress and egress physical ports both have TC_EN = 1. The ingress port of a
frame rebuilt from fabric cells is in another module, whose TC_EN and A are not known here: it counts as enabled with A = 0 (DESIGN
CHOICE, log 62). -/
def State.tcFrame (s : State) (e : EFrame) (body : List Byte) : Option Ptp :=
  if e.edited && !e.f.injected && (1024 ≤ e.f.inLport || s.tcEn (physOf e.f.inLport)) && s.tcEn (physOf e.lport) then ptpOf body else none

/-- What R315 adds: residence by the egress port's time base, and the asymmetry of one end. -/
def State.tcAmount (s : State) (e : EFrame) (m : Ptp) : Int :=
  let n := s.tsTb (physOf e.lport)
  let r : Int := (stampAge s.stamp e.f.stamp * 65536 + s.ptpNow % 65536 : Nat)
  let r := if n < 4 then r + r * s.tbFreq n / freqUnit else r
  r + (if m.typ = 0 || m.typ = 3 then (if e.f.inLport < 1024 then 256 * s.asymOf e.f.inLport else 0) else - 256 * s.asymOf e.lport)

/-- A frame body with its stamps written (R314, R315). -/
def State.ptpEdit (s : State) (e : EFrame) (body : List Byte) : List Byte :=
  match s.tcFrame e body with
  | some m => addCorrection body m (s.tcAmount e m)
  | none =>
    match e.inj with
    | none => body
    | some j =>
      if !j.oneStep then body
      else match ptpOf body with
        | none => body
        | some m =>
          if m.typ = 0 && m.hdr + 44 ≤ body.length then
            let t := (s.timeIn (s.tsTb (physOf e.lport)) s.ptpNow).toNat
            let b := ptpPatch body m (m.hdr + 34) (beBytes 6 (t / 65536 / nsPerSec) ++ beBytes 4 (t / 65536 % nsPerSec))
            addCorrection b m (t % 65536 : Nat)
          else body

/-- A frame that carries a timestamp request (R313, R247). -/
def State.tsRequest (s : State) (e : EFrame) : Bool :=
  (match e.inj with | some j => j.tsReq || j.oneStep | none => false) || (s.tcFrame e (s.bodySent e)).isSome

/-! ### Reports (R314, R317) -/

/-- A record of the time-stamp report ring. `kind` 0: transmit on `lp`; 1: an edge of TIME_PPS_IN. -/
def State.stampRecord (s : State) (lp kind n : Nat) (t : Time) (uncal : Bool) (cookie : Nat) : List Byte :=
  let v := (s.timeIn n t).toNat
  let isl := if kind = 0 then sliceOf lp else 51
  timeBytes v ++ leBytes 2 (if kind = 0 then physOf lp else 0xFFFF) ++ leBytes 1 ((if kind = 0 then subOf lp else 0) + 4 * kind) ++
    leBytes 1 (n + (if uncal then 8 else 0) + (if (s.island isl).dtLock then 0 else 16) + (if s.noLock n then 32 else 0)) ++
    leBytes 2 cookie ++ leBytes 4 (if kind = 0 then unsigned 32 (s.asymOf lp / 16) else 0) ++
    leBytes 1 (if n < 4 then s.fld timePage (tbF n TIME_TB_STATUS_STEP_CNT) else 0) ++ zeros 7

/-- The stamps of a port lack calibration (R54): its engine's calibration area is not valid. -/
def State.uncalPort (s : State) (p : Nat) : Bool := !(s.sys.nv.calGood && s.sys.nv.engineCalGood.getD (p / 8) false)

end Sys2Proof.Machine
end

