-- ==== Sys2Proof/Machine/Punt.lean ====
section
/-! DEFINITION. Punted frames in their ingress slice (R398): entry, release, and the discard of a ring's or a slice's frames; and the
transmit side of pack mode and folding (R247 to R257) that scheduling needs: fold lookups, packed lengths, FlexE client FIFOs. -/

namespace Sys2Proof.Machine

/-! ### Punted frames -/

def ringF (r : Nat) (f : Fld) : Fld := f.sh (0x40 * r)
def State.ringEn (s : State) (r : Nat) : Bool := s.flag hostPage (ringF r HOST_RING_CFG_EN)
def State.ringDrops (s : State) (r : Nat) (n : Nat := 1) : State := if n = 0 then s else s.count hostPage (0x228 + 0x40 * r) n
/-- Punt ring `r` goes to the lease holder (R370). -/
def State.puntRouted (s : State) (r : Nat) : Bool := s.bitOf svccPage SVCC_PUNT_ROUTE_TO_CLUSTER r
def puntKey (sl r : Nat) : Nat := sl * 16 + r

/-- A frame is punted to ring `r` in slice `sl` (R398): it waits on-die, charged to pool 0 and with a descriptor, which it takes as a
frame that needs shared space (R148), or is discarded. -/
def State.puntPush (s : State) (sl r : Nat) (f : Frame) (reason rule : Nat) : State :=
  let n := cellsOf f.bytes.length
  let k := puntKey sl r
  if (!s.puntRouted r && !s.ringEn r) || 256 ≤ (s.punts k).length || !s.poolRoom sl 0 n ||
      s.descFree sl ≤ s.fld (deepPage sl) DEEP_DESC_FLOOR_FLOOR then s.ringDrops r
  else
    let s := ((s.takeCells sl n).takeDesc sl).incFld (deepPage sl) DEEP_POOL_OCC_OCC n
    let s := match f.acct with | some lp => s.pfcAdd lp f.cls n | none => s
    s.setPunts k (s.punts k ++ [{ ring := r, f := f, reason := reason, rule := rule }])

/-- Release the cells and the descriptor of a punted frame. -/
def State.puntRelease (s : State) (sl : Nat) (p : Punt) : State :=
  let n := cellsOf p.f.bytes.length
  let s := ((s.giveCells sl n).giveDesc sl).decFld (deepPage sl) DEEP_POOL_OCC_OCC n
  match p.f.acct with | some lp => s.pfcSub lp p.f.cls n | none => s

/-- Discard the frames of ring `r` that wait in slice `sl`. -/
def State.puntClear (s : State) (sl r : Nat) : State :=
  let k := puntKey sl r
  let l := s.punts k
  let s := s.setPunts k []
  let s := l.foldl (fun s p => s.puntRelease sl p) s
  s.ringDrops r l.length

/-- Discard every frame that waits for ring `r` in any slice (R398). -/
def State.puntClearRing (s : State) (r : Nat) : State := s.each (List.range 8) fun s sl => s.puntClear sl r

/-! ### Folding on transmit (R252, R253) -/

def foldKey (sl t : Nat) : Nat := sl * 4 + t
def State.lpPack (s : State) (lp : Nat) (f : Fld) : Nat := s.fld (packPage (sliceOf lp)) (f.sh (4 * qOf lp))
def State.foldOn (s : State) (lp : Nat) : Bool := s.lpPack lp PACK_LPORT_PACK_FOLD_EN == 1
def State.foldTable (s : State) (lp : Nat) : Nat := s.lpPack lp PACK_LPORT_PACK_FOLD_TABLE
def State.foldSt (s : State) (sl t : Nat) (f : Fld) : Nat := s.fld (packPage sl) (f.sh (0x10 * t))
def State.setFoldSt (s : State) (sl t : Nat) (f : Fld) (v : Nat) : State := s.setFld (packPage sl) (f.sh (0x10 * t)) v

/-- A transmit entry is usable at generation `g`. -/
def FoldTx.usable (e : FoldTx) (g : Nat) : Bool := e.state == 0 || (e.state == 1 && e.gen == g) || (e.state == 2 && e.gen != g)
/-- Candidate length of a frame. -/
def State.foldLen (s : State) (lp : Nat) (frame : List Byte) : Nat :=
  12 + 4 * tagCount frame + 2 * s.lpPack lp PACK_LPORT_PACK_FOLD_ETYPE
/-- Tag and length of the fold of a frame, when the table is not suspended and an entry hits. -/
def State.foldHit (s : State) (lp : Nat) (frame : List Byte) : Option (Nat × Nat) :=
  let sl := sliceOf lp
  let t := s.foldTable lp
  if !s.foldOn lp || s.foldSt sl t PACK_FOLD_STATE_SUSPEND = 1 then none
  else
    let n := s.foldLen lp frame
    let g := s.foldSt sl t PACK_FOLD_STATE_TX_ACTIVE
    ((s.fold (foldKey sl t)).tx.find? fun e => e.usable g && e.key == frame.take n).map fun e => (e.tag, n)

/-- Pack header and body of a unit (R249, R250). -/
def State.packUnit (s : State) (lp : Nat) (frame : List Byte) : List Byte × List Byte :=
  let g := if s.foldOn lp then s.foldSt (sliceOf lp) (s.foldTable lp) PACK_FOLD_STATE_TX_ACTIVE else 0
  let head := fun (fold : Nat) (n : Nat) =>
    let h := [BitVec.ofNat 8 (128 + 64 * fold + n / 256), BitVec.ofNat 8 n, BitVec.ofNat 8 g]
    h ++ [crc8 h]
  match s.foldHit lp frame with
  | some (tag, n) =>
    let body := beBytes 2 tag ++ frame.drop n
    (head 1 body.length, body)
  | none => (head 0 frame.length, frame)

/-- The frame goes in a train (R247). -/
def State.inTrain (s : State) (e : EFrame) : Bool :=
  s.packOn e.lport && !s.tsRequest e && !(match e.inj with | some j => j.packBypass | none => false) && etypeAt e.f.bytes 12 != 0x8808

/-- Length that the scheduler charges (R182): with OVERHEAD, or the packed length on a logical port in pack mode. A frame outside a
train there takes its bytes, preamble and gap (DEDUCED, log 63). -/
def State.schedLen (s : State) (e : EFrame) : Nat :=
  if s.inTrain e then
    let (h, b) := s.packUnit e.lport (s.wireOf e)
    h.length + b.length
  else if s.packOn e.lport then s.sentSize e + 20
  else ((s.sentSize e : Int) + signed 7 (s.schdF (sliceOf e.lport) 0 (qOf e.lport) 2 0 7)).toNat

/-! ### FlexE clients (R239, R240) -/

/-- Member, group and slot, of a logical port (R234, R240): in a mode whose PHYs are the sub-ports, the member with the logical port's own
PHY; else the first member on its physical port. -/
def State.flexMember (s : State) (lp : Nat) : Option (Nat × Nat) :=
  let p := physOf lp
  let l := (s.groupsOf p).flatMap fun g => ((s.membersOn g).filter fun i => s.memberPort g i == p).map fun i => (g, i)
  let own := s.modeOf p == 2 || s.modeOf p == 3 || s.modeOf p == 5
  (l.find? fun x => own && s.memberPhy x.1 x.2 == subOf lp).orElse fun _ => l.head?
/-- The group of a member logical port. -/
def State.flexGroup (s : State) (lp : Nat) : Option Nat := (s.flexMember lp).map (·.1)

/-- Whole bytes leave a client's FIFO at 4,999.45 Mbit/s for each slot; `drained` counts ps. -/
def State.drainClient (s : State) (n : Nat) : State :=
  let c := s.client n
  let slots := if s.groupUp c.group then s.clientSlots n else 0
  let nowPs := s.now * 1000
  if slots = 0 || c.fifo.isEmpty then s.setClient n { c with drained := if c.valid then nowPs else 0 }
  else
    let k := min c.fifo.length (slots * 499945 * (nowPs - c.drained) / 800000000)
    let s := s.setClient n { c with
      fifo := c.fifo.drop k
      drained := if k = c.fifo.length then nowPs else c.drained + ceilDiv (k * 800000000) (slots * 499945) }
    if k = 0 then s else s.emit (.clientBytes n (c.fifo.take k))

/-- Room for a nominated frame (R239). -/
def State.clientRoom (s : State) (n : Nat) : Bool :=
  let s := s.drainClient n
  let c := s.client n
  c.fifo.length + s.maxFrame c.lport + 20 ≤ 16384

/-- Default client of a logical port's member, when it is a valid client of the group that names the logical port (R240). -/
def State.defClient (s : State) (lp : Nat) : Option Nat :=
  match s.flexMember lp with
  | none => none
  | some (g, i) =>
    let n := s.fld (flxePage g) (FLXE_MEMBER_DEF_CLIENT.sh (4 * i))
    let c := s.client n
    if c.valid && c.group = g && c.lport = lp then some n else none

/-- Bytes enter a client's FIFO. -/
def State.feedClient (s : State) (n : Nat) (b : List Byte) : State :=
  let s := s.drainClient n
  let c := s.client n
  s.setClient n { c with fifo := c.fifo ++ b }

/-- A frame as the client carries it: preamble, start delimiter, frame and gap (R63, R239). -/
def lineFrame (gap : Nat) (b : List Byte) : List Byte := preamble ++ b ++ List.replicate gap 0x07

/-! ### Trains (R248, R267) -/

def State.packCtr (s : State) (lp n : Nat) : State :=
  let p := s.pack lp
  s.setPack lp { p with counters := p.counters.set n ((p.counters.getD n 0 + 1) % 2 ^ 64) }

/-- Where a unit goes: 0 for the line of a plain Ethernet logical port, else its client + 1. -/
def trainKey (client : Option Nat) : Nat := match client with | some n => n + 1 | none => 0
/-- Bytes of the open train of a client, or of the line. -/
def State.trainBytes (s : State) (lp k : Nat) : Nat := mget 0 (s.pack lp).trainBytes k
def State.setTrainBytes (s : State) (lp k n : Nat) : State :=
  let p := s.pack lp
  s.setPack lp { p with trainBytes := mset 0 p.trainBytes k n }

/-- The start block of a train, or its terminate block and an idle block, leave (R248). -/
def State.trainMark (s : State) (lp k : Nat) (start : Bool) : State :=
  if k = 0 then s.emit (.train lp start) else s.feedClient (k - 1) (if start then [0xFB] else 0xFD :: List.replicate 8 0x07)

/-- End the open train of a client, or of the line. -/
def State.endTrain (s : State) (lp k : Nat) : State :=
  if s.trainBytes lp k = 0 then s else (s.setTrainBytes lp k 0).trainMark lp k false
def State.closeTrain (s : State) (lp : Nat) (client : Option Nat) : State := s.endTrain lp (trainKey client)
/-- End every open train of a logical port: it has no further unit ready. -/
def State.closeTrains (s : State) (lp : Nat) : State := s.each ((s.pack lp).trainBytes.map (·.1)) fun s k => s.endTrain lp k

/-- Send a frame as a unit (R248, R252, R257): counters, the train it goes in, and its bytes. -/
def State.sendUnit (s : State) (lp : Nat) (client : Option Nat) (e : EFrame) (frame : List Byte) : State :=
  let sl := sliceOf lp
  let (h, b) := s.packUnit lp frame
  let folded := (s.foldHit lp frame).isSome
  let len := h.length + b.length
  let limit := (s.lpPack lp PACK_LPORT_PACK_TRAIN_KB + 1) * 1024
  let k := trainKey client
  let s := if limit < s.trainBytes lp k + len then s.endTrain lp k else s
  let s := if s.trainBytes lp k = 0 then (s.packCtr lp 4).trainMark lp k true else s
  let s := s.setTrainBytes lp k (s.trainBytes lp k + len)
  let s := s.packCtr lp 0
  let susp := s.foldSt sl (s.foldTable lp) PACK_FOLD_STATE_SUSPEND = 1
  let s :=
    if !s.foldOn lp then s
    else if susp then s.packCtr lp 3
    else if folded then s.packCtr lp 1
    else
      let s := s.packCtr lp 2
      -- every MISS_SAMPLE_N-th unfolded frame (R257)
      let on := s.flag (packPage sl) PACK_SAMPLE_CFG_MISS_SAMPLE_EN
      let s := if on then s.setMissCount sl (s.missCount sl + 1) else s
      if on && s.fld (packPage sl) PACK_SAMPLE_CFG_MISS_SAMPLE_N ≤ s.missCount sl then
        (s.setMissCount sl 0).puntPush sl (s.fld (packPage sl) PACK_SAMPLE_CFG_MISS_RING)
          { e.f with bytes := frame.take 64, injected := true } 3 0xFFFF
      else s
  match client with
  | some n => s.feedClient n (h ++ b)
  | none => s.emit (.unit lp h b)

/-! ### Where a frame goes on the line -/

/-- A sub-channel that takes its rate from a FlexE client, and that client (R191). -/
def State.subFollows (s : State) (sl i : Nat) : Bool := s.schdF sl 3 i 0 17 1 == 1
def State.subClient (s : State) (sl i : Nat) : Nat := s.schdF sl 3 i 0 18 12
/-- The client a frame enters on a FlexE member logical port (R239, R240). -/
def State.clientFor (s : State) (e : EFrame) : Option Nat :=
  if (s.flexGroup e.lport).isNone then none
  else if e.q < 1024 then s.defClient e.lport
  else
    let sl := sliceOf e.lport
    let g := s.schdF sl 5 (e.q - 1024) 0 0 11
    let c := s.schdF sl 4 g 0 0 9
    if s.subFollows sl c then some (s.subClient sl c) else s.defClient e.lport

/-- A frame of a member logical port enters its client's FIFO, with preamble and gap (R63, R239). -/
def State.clientFrame (s : State) (lp : Nat) (cl : Option Nat) (wire : List Byte) : State :=
  let s := s.keepGap lp wire.length
  match cl with | some n => s.feedClient n (lineFrame (s.mac lp).gap wire) | none => s

/-- The bytes of a frame whose transmission has ended leave: on a plain Ethernet logical port, or, when it started before it was whole,
for its client. A unit has left already (R247). -/
def State.leaveLine (s : State) (lp : Nat) (t : Tx) (e : EFrame) (wire : List Byte) (stomped : Bool) : State :=
  if s.inTrain e then s
  else if (s.flexGroup lp).isNone then (s.keepGap lp wire.length).emit (.frame lp wire stomped)
  else if t.late then s.clientFrame lp (s.clientFor e) wire else s

end Sys2Proof.Machine
end

