-- ==== Sys2Proof/Machine/Xbar.lean ====
section
/-! DEFINITION. The weave crossbar (chapter 08): packing frames into cells, virtual output queues, and the matching round. -/

namespace Sys2Proof.Machine

/-! ### Frame tags (R208) -/

def tagOf (f : Frame) (sub : Nat) (size : Option Nat) (ct : Bool) : List Byte :=
  leBytes 2 (size.getD 0 + (if size.isSome then 2 ^ 14 else 0) + (if ct then 2 ^ 15 else 0)) ++
  leBytes 2 (f.inLport % 1024 + sub * 2 ^ 10 + f.colour * 2 ^ 12 + (if f.mcast then 2 ^ 14 else 0) + (if f.mirrorCopy then 2 ^ 15 else 0)) ++
  leBytes 2 (f.sid + (if f.injected then 2 ^ 14 else 0) + (if f.uncal || f.unlocked then 2 ^ 15 else 0)) ++
  leBytes 2 (f.vid + f.tags * 2 ^ 12) ++ leBytes 2 (if f.mcast then f.group else 0) ++ leBytes 5 f.stamp ++ [0]

/-- A tag as the egress slice reads it. -/
structure Tag where
  f : Frame
  size : Option Nat
  ct : Bool
  sub : Nat
  deriving DecidableEq, Repr

/-- Read a tag; `bytes` follow it. Its one mark covers an uncalibrated and an unlocked stamp. `ses` is the session of a mirror copy. -/
def readTag (cls : Nat) (ses : Option Nat) (t bytes : List Byte) : Tag :=
  let a := leAt t 0 2
  let b := leAt t 2 2
  let c := leAt t 4 2
  let d := leAt t 6 2
  { f := { bytes := bytes, stamp := leAt t 10 5, inLport := b % 1024, cls := cls, colour := bitsOf b 12 2, sid := c % 2 ^ 14
           vid := d % 2 ^ 12, tags := bitsOf d 12 2, mcast := bitsOf b 14 1 == 1, group := leAt t 8 2
           mirrorCopy := bitsOf b 15 1 == 1, session := if bitsOf b 15 1 = 1 then ses else none, injected := bitsOf c 14 1 == 1, uncal := bitsOf c 15 1 == 1, unlocked := false }
    size := if bitsOf a 14 1 = 1 then some (a % 2 ^ 14) else none
    ct := bitsOf a 15 1 == 1
    sub := bitsOf b 10 2 }

/-! ### Packing (R23, R206 to R209). A cell closes as soon as its payload is full. The last byte of a frame enters with the frame's end, so
that END_OFF always lies in a cell that carries it (DESIGN CHOICE, log 44). -/

/-- Close the open cell: `h` gives the header, `inside` whether a frame is open across the close. -/
def Packer.close (p : Packer) (h : Cell) (inside : Bool) : Packer :=
  let c := { h with
    validLen := p.buf.length, firstTag := p.firstTag, endOff := p.endOff, endStatus := p.endStatus
    payload := p.buf ++ zeros (256 - p.buf.length), releases := p.releases, mirrors := p.mirrors }
  { p with buf := [], firstTag := 511, endOff := 511, endStatus := 0, releases := [], mirrors := [], tagAt := none, spans := inside
           closed := p.closed ++ [c] }

/-- Append bytes of the open frame; each full cell closes. -/
def Packer.put (p : Packer) (h : Cell) : Nat → List Byte → Packer
  | 0, _ => p
  | fuel + 1, bs =>
    if bs.isEmpty then p
    else
      let n := 256 - p.buf.length
      let p := { p with buf := p.buf ++ bs.take n }
      Packer.put (if p.buf.length = 256 then p.close h true else p) h fuel (bs.drop n)

/-- Begin a frame with its tag; `ses` is the session of a mirror copy. -/
def Packer.begin (p : Packer) (h : Cell) (tag : List Byte) (ses : Option Nat) : Packer :=
  let at_ := p.buf.length
  let p := { p with firstTag := if p.firstTag = 511 then at_ else p.firstTag, tagAt := some at_, mirrors := p.mirrors ++ ses.toList }
  p.put h 3 tag

/-- End the open frame with its last byte and a status; its charge is given back when this cell launches. -/
def Packer.finish (p : Packer) (h : Cell) (last : List Byte) (status : Nat) (ch : List Charge) : Packer :=
  let p := { p with buf := p.buf ++ last }
  let p := { p with
    endOff := if p.spans && p.endOff == 511 then p.buf.length else p.endOff
    endStatus := if p.spans && p.endOff == 511 then status else p.endStatus
    releases := p.releases ++ ch, tagAt := none, arriving := none }
  if p.buf.length = 256 then p.close h false else p

/-- Bytes without the last, and the last. -/
def butLast (l : List Byte) : List Byte := l.take (l.length - 1)
def lastOf (l : List Byte) : List Byte := l.drop (l.length - 1)

/-- Pack a whole frame. -/
def Packer.putFrame (p : Packer) (h : Cell) (tag : List Byte) (f : Frame) (ch : List Charge) : Packer :=
  let bytes := f.bytes
  ((p.begin h tag f.session).put h (bytes.length / 256 + 3) (butLast bytes)).finish h (lastOf bytes) 0 ch

/-! ### Virtual output queues -/

def voqKey (sl q : Nat) : Nat := sl * 2112 + q
/-- Index of the unicast queue of a physical port, or of the replication queue of a slice (R206). -/
def uniQ (p c : Nat) : Nat := 8 * p + c
def repQ (d c : Nat) : Nat := 2048 + 8 * d + c
/-- DEST of a queue's cells (R209). -/
def destOf (q : Nat) : Nat := if q < 2048 then q / 8 else 256 + (q - 2048) / 8
def destSlice (dest : Nat) : Nat := if dest < 256 then dest / 32 else dest - 256

/-- The 288 bytes of a cell: header, CRC and padded payload (R209). The fabric fields of a TYPE 1 cell are 0. -/
def Cell.wire (c : Cell) : List Byte :=
  let f := if c.fabric then leBytes 4 c.fdest ++ leBytes 3 c.fseq ++
    leBytes 2 (c.srcDev + 4096 * c.fSrcSlice + (if c.first then 32768 else 0)) else zeros 9
  let h := [BitVec.ofNat 8 ((if c.fabric then 2 else 1) + 4 * c.cls + 32 * c.srcSlice)] ++ leBytes 2 c.dest ++ leBytes 3 c.seq ++
    leBytes 5 c.stamp ++ leBytes 2 c.grantWait ++ leBytes 2 c.validLen ++ leBytes 2 c.firstTag ++
    leBytes 2 (c.endOff + 512 * c.endStatus) ++ f
  let b := c.payload ++ zeros (256 - c.payload.length)
  h ++ leBytes 4 (crc32c (h ++ b)).toNat ++ b
/-- The CRC of a 288-byte cell is good (R209, R210). -/
def cellGood (b : List Byte) : Bool := b.length == 288 && leAt b 28 4 == (crc32c (b.take 28 ++ b.drop 32)).toNat

/-- Header of a cell that slice `sl` closes into queue `q` now (R17, R209). -/
def State.cellHead (s : State) (sl q : Nat) : Cell :=
  { fabric := false, cls := q % 8, srcSlice := sl, dest := destOf q, seq := 0, stamp := s.stamp, grantWait := 0, validLen := 0
    firstTag := 511, endOff := 511, endStatus := 0, fdest := 0, fseq := 0, srcDev := 0, fSrcSlice := 0, first := false
    payload := [], releases := [], mirrors := [], input := none }

/-- Enter a whole frame into a queue, or let it wait behind the arriving one (R207). `sub` is its egress sub-port. -/
def State.voqPut (s : State) (sl q : Nat) (f : Frame) (sub : Nat) (ct : Bool) (ch : Charge) : State :=
  let p := s.voq (voqKey sl q)
  if p.arriving.isSome then
    s.setVoq (voqKey sl q) { p with waiting := p.waiting ++ [{ f := f, sub := sub, arr := none, ct := ct, charge := ch }] }
  else
    let p := p.putFrame (s.cellHead sl q) (tagOf f sub (some f.bytes.length) ct) f [ch]
    s.setVoq (voqKey sl q) { p with lastAt := s.now }

/-- Enter the bytes of a cut-through frame that have arrived (R220), of reception `id`. -/
def State.voqBegin (s : State) (sl q : Nat) (f : Frame) (id sub : Nat) (ch : Charge) : State :=
  let p := s.voq (voqKey sl q)
  if p.arriving.isSome then
    s.setVoq (voqKey sl q) { p with waiting := p.waiting ++ [{ f := f, sub := sub, arr := some id, ct := true, charge := ch }] }
  else
    let h := s.cellHead sl q
    let p := (p.begin h (tagOf f sub none true) f.session).put h (f.bytes.length / 256 + 3) f.bytes
    s.setVoq (voqKey sl q) { p with arriving := some id, lastAt := s.now }

/-- More bytes of the arriving frame of reception `id` (R220). -/
def State.voqMore (s : State) (sl q id : Nat) (bytes : List Byte) : State :=
  let p := s.voq (voqKey sl q)
  if p.arriving = some id then
    s.setVoq (voqKey sl q) { p.put (s.cellHead sl q) (bytes.length / 256 + 3) bytes with lastAt := s.now }
  else s

/-- After the tail's frame has ended, the frames behind it enter, up to one that is still arriving (R207). -/
def State.voqNext (s : State) (sl q : Nat) : List VoqWait → State
  | [] => s
  | w :: r =>
    let p := s.voq (voqKey sl q)
    if p.arriving.isSome then s
    else
      let s := s.setVoq (voqKey sl q) { p with waiting := r }
      match w.arr with
      | none => (s.voqPut sl q w.f w.sub w.ct w.charge).voqNext sl q r
      | some id => (s.voqBegin sl q w.f id w.sub w.charge).voqNext sl q r

/-- The cut-through frame of reception `id` ends: `rest` are the bytes not yet entered, `status` as END_STATUS (R69, R208, R209). A frame
in error of which nothing has left the open cell is removed (DESIGN CHOICE, log 44). -/
def State.voqEnd (s : State) (sl q id : Nat) (whole : Frame) (rest : List Byte) (status : Nat) (ch : Charge) : State :=
  let k := voqKey sl q
  let p := s.voq k
  if p.arriving = some id then
    let h := s.cellHead sl q
    let p := { p.put h (rest.length / 256 + 3) (butLast rest) with lastAt := s.now }
    let s := match p.tagAt with
      | some at_ =>
        if status = 0 then
          s.setVoq k ({ p with buf := patch p.buf at_ (leBytes 2 (whole.bytes.length + 2 ^ 14 + 2 ^ 15)) }.finish h (lastOf rest) 0 [ch])
        else
          (s.setVoq k { p with
            buf := p.buf.take at_, firstTag := if p.firstTag = at_ then 511 else p.firstTag, tagAt := none, arriving := none }).voqRelease sl ch
      | none => s.setVoq k (p.finish h (lastOf rest) status [ch])
    s.voqNext sl q (s.voq k).waiting
  else if status = 0 then
    s.setVoq k { p with waiting := p.waiting.map fun w => if w.arr = some id then { w with f := whole, arr := none, charge := ch } else w }
  else (s.setVoq k { p with waiting := p.waiting.filter fun w => decide (w.arr ≠ some id) }).voqRelease sl ch

/-! ### Bytes that arrive (R220) -/

/-- Bytes of a frame in reception that have crossed the connector face by now. -/
def State.rxArrived (s : State) (lp : Nat) (r : RxFrame) : Nat := min r.bytes.length ((s.now - r.since) * s.rateOf lp / 8000)

/-- The bytes of a cut-through reception that have arrived enter its queue, all but the last (R220). -/
def State.ctArrive (s : State) (lp k : Nat) : State :=
  match s.rxOf lp k with
  | none => s
  | some r =>
    match r.ct with
    | none => s
    | some c =>
      let n := s.rxArrived lp r - 1
      let sl := sliceOf lp
      if c.entered < n && (s.voq (voqKey sl c.q)).arriving == some (lp + 1024 * k) then
        (s.voqMore sl c.q (lp + 1024 * k) (slice r.bytes c.entered (n - c.entered))).setRx lp k
          (some { r with ct := some { c with entered := n } })
      else s
def State.ctArriveAll (s : State) : State :=
  s.ports.mac.foldl (fun s e => e.2.rx.foldl (fun s x => s.ctArrive e.1 x.1) s) s

/-- Cells of a queue, closed and open (VOQ_OCC). -/
def Packer.cells (p : Packer) : Nat := p.closed.length + (if p.buf.isEmpty then 0 else 1)

/-! ### The matching round (R212 to R216) -/

/-- Slice `d` withholds the grants of queue `q` (R163, R212). -/
def State.voqHeld (s : State) (q : Nat) : Bool := s.withheld ((destSlice (destOf q) * 264 + destOf q) * 8 + q % 8)

/-- Requests of every (source, destination, class), as a list indexed (s × 8 + d) × 8 + c: closed cells of queues not withheld
whose crossings are not fenced (R14): both slices and the XB run. -/
def State.requests (s : State) : List Nat :=
  s.sw.voqs.foldl (fun l e =>
    let sl := e.1 / 2112
    let q := e.1 % 2112
    let d := destSlice (destOf q)
    if s.voqHeld q || !s.islandRuns sl || !s.islandRuns d || !s.islandRuns 8 then l
    else let i := (sl * 8 + d) * 8 + q % 8
      l.set i (l.getD i 0 + e.2.closed.length)) (List.replicate 512 0)

/-- Hand out single cells in turn: `order` is the turn, `need` what each pair still wants. Gives what each got, what capacity is left,
and who was served last. -/
def turns (order : List Nat) : Nat → List Nat → List Nat → Nat → Option Nat → List Nat × Nat × Option Nat
  | 0, _, got, cap, last => (got, cap, last)
  | fuel + 1, need, got, cap, last =>
    let (need', got', cap', last') := order.foldl (fun (a : List Nat × List Nat × Nat × Option Nat) i =>
      let (need, got, cap, _) := a
      if cap = 0 || need.getD i 0 = 0 then a
      else (need.set i (need.getD i 0 - 1), got.set i (got.getD i 0 + 1), cap - 1, some i)) (need, got, cap, last)
    if cap' = cap then (got, cap, last) else turns order fuel need' got' cap' last'

def rotation (n ptr : Nat) : List Nat := (List.range n).map fun k => (ptr + k) % n

/-- One turn over `n` pairs from `ptr` with capacity `cap`. -/
def serve (n ptr : Nat) (need : List Nat) (cap : Nat) : List Nat × Nat × Option Nat :=
  turns (rotation n ptr) 97 need (List.replicate n 0) cap none

/-- The pointer after iteration 1 (R213): past the last pair served; a pair whose grants were refused, so that no cell of it was served,
keeps its place at the pointer (DEDUCED, log 61). -/
def movePtr (n ptr : Nat) (asked got : List Nat) (last : Option Nat) : Nat :=
  match (rotation n ptr).find? fun i => 0 < asked.getD i 0 && got.getD i 0 = 0 with
  | some i => i
  | none => match last with | some i => (i + 1) % n | none => ptr

/-- Index of the request lists. -/
def rix (s d c : Nat) : Nat := (s * 8 + d) * 8 + c

/-- What a round works on: matched cells, capacities left, and the four pointer sets. -/
structure Round where
  matched : List Nat
  gcap : List Nat
  acap : List Nat
  gptr7 : List Nat
  gptr : List Nat
  aptr7 : List Nat
  aptr : List Nat
  deriving DecidableEq, Repr

/-- One iteration of request, grant and accept. -/
def Round.iterate (r : Round) (count : List Nat) (first : Bool) : Round :=
  let need := fun s d c => min (count.getD (rix s d c) 0 - r.matched.getD (rix s d c) 0) 96
  -- grant, in each destination
  let grants := (List.range 8).map fun d =>
    let n7 := (List.range 8).map fun s => need s d 7
    let (g7, cap, l7) := serve 8 (r.gptr7.getD d 0) n7 (r.gcap.getD d 0)
    let n := (List.range 56).map fun i => need (i / 7) d (i % 7)
    let (g, _, l) := serve 56 (r.gptr.getD d 0) n cap
    (g7, l7, g, l)
  let granted := fun s d c => match grants[d]? with
    | some (g7, _, g, _) => if c = 7 then g7.getD s 0 else g.getD (7 * s + c) 0
    | none => 0
  -- accept, in each source
  let accepts := (List.range 8).map fun s =>
    let n7 := (List.range 8).map fun d => granted s d 7
    let (a7, cap, l7) := serve 8 (r.aptr7.getD s 0) n7 (r.acap.getD s 0)
    let n := (List.range 56).map fun i => granted s (i / 7) (i % 7)
    let (a, _, l) := serve 56 (r.aptr.getD s 0) n cap
    (n7, a7, l7, n, a, l)
  let accepted := fun s d c => match accepts[s]? with
    | some (_, a7, _, _, a, _) => if c = 7 then a7.getD d 0 else a.getD (7 * d + c) 0
    | none => 0
  let sum := fun (f : Nat → Nat → Nat) => (List.range 8).foldl (fun n a => (List.range 8).foldl (fun n c => n + f a c) n) 0
  let r' := { r with
    matched := (List.range 512).map fun i => r.matched.getD i 0 + accepted (i / 64) (i / 8 % 8) (i % 8)
    gcap := (List.range 8).map fun d => r.gcap.getD d 0 - sum fun s c => accepted s d c
    acap := (List.range 8).map fun s => r.acap.getD s 0 - sum fun d c => accepted s d c }
  if !first then r'
  else
    { r' with
      gptr7 := (List.range 8).map fun d =>
        let asked := (List.range 8).map fun s => granted s d 7
        let got := (List.range 8).map fun s => accepted s d 7
        movePtr 8 (r.gptr7.getD d 0) asked got ((grants[d]?).bind fun g => g.2.1)
      gptr := (List.range 8).map fun d =>
        let asked := (List.range 56).map fun i => granted (i / 7) d (i % 7)
        let got := (List.range 56).map fun i => accepted (i / 7) d (i % 7)
        movePtr 56 (r.gptr.getD d 0) asked got ((grants[d]?).bind fun g => g.2.2.2)
      aptr7 := (List.range 8).map fun s => match accepts[s]? with
        | some (n7, a7, l7, _, _, _) => movePtr 8 (r.aptr7.getD s 0) n7 a7 l7
        | none => r.aptr7.getD s 0
      aptr := (List.range 8).map fun s => match accepts[s]? with
        | some (_, _, _, n, a, l) => movePtr 56 (r.aptr.getD s 0) n a l
        | none => r.aptr.getD s 0 }

def State.planesUp (s : State) : List Nat :=
  (List.range 4).filter fun p => s.bitOf (xbarPage 8) XBARM_XM_STATUS_PLANE_UP p

/-- The three iterations over the requests now (R213). -/
def State.matchRound (s : State) (count : List Nat) : Round :=
  let cap := 24 * s.planesUp.length
  let r : Round :=
    { matched := List.replicate 512 0, gcap := List.replicate 8 cap, acap := List.replicate 8 cap
      gptr7 := s.sw.gptr7, gptr := s.sw.gptr, aptr7 := s.sw.aptr7, aptr := s.sw.aptr }
  ((r.iterate count true).iterate count false).iterate count false

/-- Plane of cell `i` of a round (R215): (b + i) mod 4, or the next in service. -/
def planeFor (up : List Nat) (x : Nat) : Nat := ((rotation 4 (x % 4)).find? fun p => up.contains p).getD 0

/-- The queues of (d, c) in a source slice, in turn order: the unicast queues of d's ports, then its replication queue (R214). -/
def turnQueues (d c : Nat) : List Nat := (List.range 32).map (fun i => uniQ (32 * d + i) c) ++ [repQ d c]

def addAt (l : List Nat) (i n : Nat) : List Nat := l.set i (l.getD i 0 + n)

/-- A cell accepted from a link leaves the link's input buffer, forwarded or discarded: its credit returns (R284). -/
def State.inputLeave (s : State) (c : Cell) : State :=
  match c.input with
  | none => s
  | some (p, e) =>
    let l := s.link p
    if l.session ≠ e then s
    else s.setLink p { l with inBuf := l.inBuf.set c.cls (l.inBuf.getD c.cls 0 - 1), returns := addAt l.returns c.cls 1 }

/-- Launch one cell of (s, d, c): from the next queue in turn that holds one (R214, R215). -/
def State.launchOne (s : State) (sl d c plane : Nat) : State :=
  let tk := rix sl d c
  let qs := turnQueues d c
  match (rotation 33 (s.turn tk)).find? fun i =>
      let q := qs.getD i 0
      !(s.voq (voqKey sl q)).closed.isEmpty && !s.withheld ((d * 264 + destOf q) * 8 + c) with
  | none => s
  | some i =>
    let q := qs.getD i 0
    let p := s.voq (voqKey sl q)
    match p.closed with
    | [] => s
    | cell :: rest =>
      let wait := (stampAge s.stamp cell.stamp + 5) * 8 / 5
      let cell' := { cell with seq := p.nextSeq, grantWait := min wait 0xFFFF, releases := [], input := none }
      let s := s.setVoq (voqKey sl q) { p with closed := rest, nextSeq := (p.nextSeq + 1) % 2 ^ 24, reqSince := none }
      let s := s.setTurn tk ((i + 1) % 33)
      let s := (cell.releases.foldl (fun s ch => s.voqRelease sl ch) s).inputLeave cell
      let s := s.count (xbarPage sl) 0xA0
      let s := (s.perfHit sl 0x0A 1 none none (some c) none).perfHit 8 0x0A 1 none none (some c) none
      s.onSw fun w => { w with flight := w.flight ++ [{ cell := cell', atNs := s.now + 5, plane := plane }] }

/-- Launch the matched cells of source `sl`, in order of destination and class (R214, R215). -/
def State.launchFrom (s : State) (sl b : Nat) (m : List Nat) : State :=
  let up := s.planesUp
  let cells := (List.range 64).flatMap fun i => List.replicate (m.getD (sl * 64 + i) 0) i
  (cells.foldl (fun (a : State × Nat) i => (a.1.launchOne sl (i / 8) (i % 8) (planeFor up (b + a.2)), a.2 + 1)) (s, 0)).1

/-- Cells of one XB cycle land in plane order (R215). -/
def byPlane (l : List TimedCell) : List TimedCell := (List.range 4).flatMap fun p => l.filter fun c => c.plane == p

/-- Once per cell time (R212 to R216, R228): the round, its launches and its C7 losses. The bytes that have arrived by now have entered
their queues (R220). -/
def State.runRound (s : State) : State :=
  let s := s.ctArriveAll
  let count := s.requests
  let r := s.matchRound count
  let old := s.sw.flight
  let b := s.sw.spray
  let s := s.onSw fun w => { w with
    gptr7 := r.gptr7, gptr := r.gptr, aptr7 := r.aptr7, aptr := r.aptr, spray := (b + 1) % 4, flight := [] }
  let s := s.each (List.range 8) fun s sl => s.launchFrom sl b r.matched
  let s := s.onSw fun w => { w with flight := old ++ byPlane w.flight }
  let lost := (List.range 64).foldl (fun n i => n + (count.getD (8 * i + 7) 0 - r.matched.getD (8 * i + 7) 0)) 0
  let s := s.count (xbarPage 8) 0x90
  let s := (List.replicate lost 0).foldl (fun s _ => s.countRaise (xbarPage 8) 0x98 4) s
  -- a head cell that requests starts its stall time, and a withheld queue has none (R228)
  s.onSw fun w => { w with voqs := mmap dfltPacker (fun k x =>
    if x.closed.isEmpty then x
    else if s.voqHeld (k % 2112) then { x with reqSince := none }
    else if x.reqSince.isSome then x else { x with reqSince := some s.now }) w.voqs }

end Sys2Proof.Machine
end

