-- ==== Sys2Proof/Machine/Fwd.lean ====
section
/-! DEFINITION. Sending a frame on from its ingress slice: to a logical port, a group or a fabric address (R5, R120, R121, R137), the
fabric packer and the spraying of its cells (R274, R279 to R281), copies held until their frame has ended (R220), and mirror copies
(R138). -/

namespace Sys2Proof.Machine

/-! ### Fabric cells -/

def linkF (k : Nat) (f : Fld) : Fld := f.sh (0x20 * k)
def State.linkFld (s : State) (p : Nat) (f : Fld) : Nat := s.fld (fabrPage (p / 32)) (linkF (p % 32) f)
def State.setLinkFld (s : State) (p : Nat) (f : Fld) (v : Nat) : State := s.setFld (fabrPage (p / 32)) (linkF (p % 32) f) v
/-- State of a link (R276): 0 DOWN, 1 HELLO, 2 TWO_WAY, 3 ACTIVE, 4 FAILED. -/
def State.linkState (s : State) (p : Nat) : Nat := s.linkFld p FABR_LINK_STATE_STATE

/-- A fabric frame tag (R274). -/
def fabricTag (f : Frame) : List Byte :=
  leBytes 2 f.bytes.length ++
  leBytes 2 (f.colour + (if f.mirrorCopy then 4 else 0) + (if f.injected then 8 else 0) + (if f.uncal then 16 else 0) + 32 * f.tags) ++
  leBytes 2 f.sid ++ leBytes 2 f.vid ++ leBytes 2 (f.inLport % 1024) ++ leBytes 5 f.stamp ++ [0]

/-- What the slice of link `p` publishes of it: the cells that wait for it there, divided by 64 and capped at 7 (R281; log 73). -/
def State.loadOf (s : State) (p : Nat) : LinkLoad :=
  { active := s.linkState p == 3, level := min 7 ((s.link p).txq.length / 64)
    dry := (List.range 8).filter fun c => (s.link p).credits.getD c 0 == 0 }
/-- Every cell time the slices publish their links' load levels, and changes of membership come into force (R281, R300). -/
def State.publishLoads (s : State) : State :=
  s.onTrunk fun t => { t with
    loads := t.links.foldl (fun m e => mset dfltLinkLoad m e.1 (s.loadOf e.1)) [], grpOld := [] }
/-- Load level of a link for class `c` as published last. -/
def State.loadLevel (s : State) (p c : Nat) : Nat := if (s.load p).dry.contains c then 7 else (s.load p).level

/-- Ports of a link group in the spray choices of slice `sl`: bit p of its eight member words. -/
def State.groupPorts (s : State) (sl g : Nat) : List Nat :=
  let ws := (s.grpOld (sl * 4096 + g)).getD ((s.copyOf sl).linkW g)
  (List.range 256).filter fun p => (ws.getD (p / 32) 0).getLsbD (p % 32)

/-- The link a cell of class `c` takes in group `g`: the lowest load level, ties in turn after the last chosen (R281). A link that has
left ACTIVE is left out at once (R289); one that has entered it counts from the next cell time. -/
def State.pickLink (s : State) (sl g c : Nat) : Option Nat :=
  let up := (s.groupPorts sl g).filter fun p => (s.load p).active && s.linkState p == 3
  let last := s.groupTurn (sl * 4096 + g)
  let order := (up.filter fun p => last < p + 1) ++ up.filter fun p => p + 1 ≤ last
  order.foldl (fun (b : Option Nat) p => match b with
    | none => some p
    | some x => if s.loadLevel p c < s.loadLevel x c then some p else b) none

/-- A fabric cell closed in slice `sl` enters the virtual output queue of physical port `p` (R281, R282). -/
def State.fabricVoq (s : State) (sl p : Nat) (c : Cell) : State :=
  let k := voqKey sl (uniQ p c.cls)
  let q := s.voq k
  s.setVoq k { q with closed := q.closed ++ [{ c with dest := p, srcSlice := sl, stamp := s.stamp, seq := 0, grantWait := 0 }] }

/-- DROPS for the mirror copies of a discarded cell, each counted with the cell its tag begins in (R138). -/
def State.cellDrops (s : State) (c : Cell) : State := s.mirrorDrops c.mirrors

/-- A fabric cell closed in slice `sl` enters the virtual output queue of a link of group `g`, or is discarded (R281). -/
def State.spray (s : State) (sl g : Nat) (c : Cell) : State :=
  match s.pickLink sl g c.cls with
  | none => (((c.releases.foldl (fun s ch => s.voqRelease sl ch) s).inputLeave c).cellDrops c).countRaise (fabrPage 8) 0xD0 2
  | some p =>
    let s := s.setGroupTurn (sl * 4096 + g) (p + 1)
    s.fabricVoq sl p c

/-- A fabric cell in slice `sl` goes where its FDEST leads now (R282, R289): on over a link group, or to the slice of the logical port
its route ends at; otherwise it is discarded and counted in ROUTE_MISS. -/
def State.forwardCell (s : State) (sl : Nat) (c : Cell) : State :=
  match s.routeLpm (s.copyOf sl) c.fdest with
  | some (_, r) =>
    if r.nextType = 0 then s.spray sl r.next c
    else if r.nextType = 1 then s.fabricVoq sl (physOf (r.next % 1024)) c
    else ((s.inputLeave c).cellDrops c).count tblsPage 0x148
  | none => ((s.inputLeave c).cellDrops c).count tblsPage 0x148

def srcKey (sl fdest cls : Nat) : Nat := (sl * 8 + cls) * 2 ^ 32 + fdest
def State.streamIdleNs (s : State) : Nat := s.fld (fabrPage 8) FABRM_STREAM_CFG_STREAM_IDLE * 1000

/-- Source stream entries of a slice, oldest close first among those idle long enough (R279). -/
def State.srcVictim (s : State) (sl : Nat) : Option Nat :=
  (s.trunk.srcStreams.foldl (fun (b : Option (Nat × Nat)) e =>
    match e.2 with
    | none => b
    | some x =>
      let t := x.lastClose.getD 0
      if e.1 / 2 ^ 35 ≠ sl || !x.packer.buf.isEmpty || s.now < t + s.streamIdleNs then b
      else match b with
        | some (u, _) => if t < u then some (t, e.1) else b
        | none => some (t, e.1)) none).map (·.2)

/-- Make sure the stream has an entry; false when the table is full and no entry is idle long enough (R279). -/
def State.srcEntry (s : State) (sl fdest cls : Nat) : State × Bool :=
  let k := srcKey sl fdest cls
  if (s.srcStream k).isSome then (s, true)
  else
    let new : SrcStream := { fseq := 0, lastClose := none, packer := dfltPacker, group := 0 }
    let n := (s.trunk.srcStreams.filter fun e => e.1 / 2 ^ 35 == sl && e.2.isSome).length
    if n < 65536 then (s.setSrcStream k (some new), true)
    else match s.srcVictim sl with
      | some v => ((s.setSrcStream v none).setSrcStream k (some new), true)
      | none => ((s.count (fabrPage sl) 0xC8).raise (fabrPage sl) 6, false)

/-- Take a frame's cells out of the packer: numbered, marked FIRST after idle, and sprayed (R280, R281). -/
def State.closeFabric (s : State) (sl fdest cls g : Nat) : List Cell → State
  | [] => s
  | c :: r =>
    let k := srcKey sl fdest cls
    match s.srcStream k with
    | none => s
    | some x =>
      let first := match x.lastClose with | none => true | some t => t + s.streamIdleNs ≤ s.now
      let c := { c with fabric := true, cls := cls, fdest := fdest, fseq := x.fseq, srcDev := s.fld (fabrPage 8) FABRM_DEV_NUM_NUM
                        fSrcSlice := sl, first := first }
      let s := s.setSrcStream k (some { x with fseq := (x.fseq + 1) % 2 ^ 24, lastClose := some s.now, group := g })
      (s.spray sl g c).closeFabric sl fdest cls g r

/-- A whole frame enters its stream's fabric packer behind the frames before it, without a gap; full cells close (R23, R274, R279). -/
def State.fabricPut (s : State) (sl fdest g : Nat) (f : Frame) (ch : Charge) : State :=
  let (s, ok) := s.srcEntry sl fdest f.cls
  let k := srcKey sl fdest f.cls
  match ok, s.srcStream k with
  | true, some x =>
    let p := x.packer.putFrame (s.cellHead sl (uniQ 0 f.cls)) (fabricTag f) f [ch]
    (s.setSrcStream k (some { x with packer := { p with closed := [], lastAt := s.now }, group := g })).closeFabric sl fdest f.cls g p.closed
  | _, _ => s.voqRelease sl ch

/-- The open cells of the fabric packers `pick` names that have had no further byte ready for one cell time close, padded (R23, R279). -/
def State.fabricIdle (s : State) (pick : Nat → Bool) : State :=
  let ks := s.trunk.srcStreams.filterMap fun e => match e.2 with
    | some x => if pick e.1 && !x.packer.buf.isEmpty && decide (x.packer.lastAt + 5 ≤ s.now) then some e.1 else none
    | none => none
  s.each ks fun s k =>
    match s.srcStream k with
    | none => s
    | some x =>
      let sl := k / 2 ^ 35
      let c := k / 2 ^ 32 % 8
      let p := x.packer.close (s.cellHead sl (uniQ 0 c)) false
      (s.setSrcStream k (some { x with packer := { p with closed := [] } })).closeFabric sl (k % 2 ^ 32) c x.group p.closed

/-! ### Destinations -/

/-- Where a lookup sends a frame. -/
inductive Dest where
  | none
  | lport (lp : Nat)
  | group (g : Nat)
  | fabric (group addr : Nat)
  deriving DecidableEq, Repr

/-- Resolve a fabric address in slice `sl` (R137): a miss or a discarding route counts in ROUTE_MISS. -/
def State.routeTo (s : State) (sl addr : Nat) : State × Dest :=
  match s.routeLpm (s.copyOf sl) addr with
  | some (_, r) =>
    if r.nextType = 0 then (s, .fabric r.next addr)
    else if r.nextType = 1 then (s, .lport r.next)
    else (s, .none)
  | none => (s.count tblsPage 0x148, .none)

/-- Charge one virtual output queue copy. -/
def State.pendOne (s : State) (sl : Nat) (f : Frame) (n : Nat) (mk : Charge → PendTo) : State × List Pend :=
  match s.voqAdmit sl f.acct f.cls n with
  | (s, some ch) => (s, [{ dest := mk ch, f := f, mirror := none, trunc := none }])
  | (s, none) => (s, [])

/-- Slice `d` is isolated, so slice `sl` discards what is bound for it (R422). -/
def State.sliceGone (s : State) (sl d : Nat) : Bool := sl != d && (s.block d).isolated

/-- Charge the copies of a frame of at most `len` bytes for its destination (R158, R121, R220). -/
def State.pendTo (s : State) (sl : Nat) (f : Frame) (len : Nat) (d : Dest) : State × List Pend :=
  let n := cellsOf len
  match d with
  | .none => (s, [])
  | .lport lp =>
    if s.sliceGone sl (sliceOf lp) then (s.count (deepPage sl) 0xD0, []) else s.pendOne sl f n fun ch => .voq (uniQ (physOf lp) f.cls) lp ch
  | .fabric g a => s.pendOne sl f n fun ch => .fabric g a ch
  | .group g =>
    let m := (s.copyOf sl).gmaskOf g
    ((List.range 8).filter fun d => m.testBit d).foldl (fun (a : State × List Pend) d =>
      if s.sliceGone sl d then (a.1.count (deepPage sl) 0xD0, a.2)
      else
        let (s, l) := a.1.pendOne sl { f with mcast := true, group := g } n fun ch => .voq (repQ d f.cls) 1024 ch
        (s, a.2 ++ l)) (s, [])

def mirCopies (n : Nat) : Nat := 0x200 + 0x10 * n
def mirDrops (n : Nat) : Nat := 0x208 + 0x10 * n


/-- A held copy enters its queue with the whole frame's bytes (R220, R138). -/
def State.enterPend (s : State) (sl : Nat) (p : Pend) (bytes : List Byte) : State :=
  let bytes := match p.trunc with
    | some u => if 64 * u < bytes.length then withFcs (bytes.take (64 * u - 4)) else bytes
    | none => bytes
  let f := { p.f with bytes := bytes }
  let shrink := fun (s : State) (ch : Charge) => s.voqShrink sl ch (ch.cells - cellsOf bytes.length)
  let full : Bool := match p.dest with | .fabric _ a _ => !(s.srcEntry sl a f.cls).2 | _ => false
  let s := match p.mirror with | some n => s.count tblsPage (if full then mirDrops n else mirCopies n) | none => s
  match p.dest with
  | .voq q lp ch =>
    let (s, ch) := shrink s ch
    s.voqPut sl q f (if lp < 1024 then subOf lp else 0) false ch
  | .fabric g a ch =>
    let (s, ch) := shrink s ch
    s.fabricPut sl a g f ch
  | .punt r reason rule => s.puntPush sl r f reason rule

/-- A held copy is discarded with its frame. -/
def State.dropPend (s : State) (sl : Nat) (p : Pend) : State :=
  match p.dest with
  | .voq _ _ ch => s.voqRelease sl ch
  | .fabric _ _ ch => s.voqRelease sl ch
  | .punt _ _ _ => s

/-! ### Mirroring (R138) -/

/-- A candidate of mirror session `n` in slice `sl`: the copy charged for it, if it is copied. -/
def State.mirrorPend (s : State) (sl n : Nat) (f : Frame) (len : Nat) : State × List Pend :=
  let ws := (s.copyOf sl).mirrorW n
  if entF ws 0 0 1 = 0 then (s, [])
  else
    let c := s.mirCount (sl * 16 + n) + 1
    if c < entF ws 2 0 16 then (s.setMirCount (sl * 16 + n) c, [])
    else
      let s := s.setMirCount (sl * 16 + n) 0
      let dest := (ws.getD 1 0).toNat
      let (s, d) := if entF ws 0 1 1 = 1 then s.routeTo sl dest else (s, .lport (dest % 1024))
      let f := { f with cls := entF ws 0 2 3, mirrorCopy := true, session := some n, mcast := false, group := 0 }
      let trunc := if entF ws 0 5 1 = 1 then some (entF ws 0 6 8) else none
      let len := match trunc with | some u => min len (64 * u) | none => len
      let (s, l) := s.pendTo sl f len d
      let l := l.map fun p => { p with mirror := some n, trunc := trunc }
      if l.isEmpty then (s.count tblsPage (mirDrops n), []) else (s, l)

/-- The egress copy of a frame whose transmission starts on `lp`, edited (R138): none for a copy. -/
def State.egressMirror (s : State) (lp : Nat) (f : Frame) (wire : List Byte) : State :=
  let sl := sliceOf lp
  let c := s.copyOf sl
  if f.mirrorCopy || c.lportF lp 1 5 1 = 0 then s
  else
    let (s, l) := s.mirrorPend sl (c.lportF lp 1 6 4) { f with bytes := wire } wire.length
    l.foldl (fun s p => s.enterPend sl p wire) s

end Sys2Proof.Machine
end

