-- ==== Sys2Proof/Machine/Reseq.lean ====
section
/-! DEFINITION. Stomping (R69, R70, R222), the resequencer and how its cells become egress frames (R223 to R227), planes leaving and
returning (R218, R219), and the crossbar's commands. -/

namespace Sys2Proof.Machine

/-! ### Stomping (R69, R70, R222) -/

/-- The egress ends a frame in transmission with the inverted FCS over the bytes it has (R69), counts it (R70) and frees it. -/
def State.stompTx (s : State) (lp : Nat) : State :=
  let m := s.mac lp
  match m.tx with
  | none => s
  | some t =>
    let bytes := match s.ef t.fid with
      | some e => stompFrame (s.bodySent e)
      | none => stompFrame t.bytes
    -- a stomped frame gives a stomped copy (R138); a frame that was whole when it started gave its copy then
    let s := match s.ef t.fid with
      | some e => if t.late then s.egressMirror lp e.f bytes else s
      | none => s
    let s := s.setMac lp { m with tx := none }
    let s := match s.ef t.fid with | some e => s.leaveLine lp t e bytes true | none => s.emit (.frame lp bytes true)
    let s := (s.portCtr lp 40 bytes.length).portCtr lp 65
    let s := match sizeBucket bytes.length with | some b => s.portCtr lp (55 + b) | none => s
    let s := if 0 < t.fragments then s.portCtr lp 67 else s
    s.dropFrame t.fid

/-- The logical port that has a frame in transmission. -/
def State.sendingOn (s : State) (fid : Nat) : Option Nat :=
  match s.ef fid with
  | some e => if e.place = .sending then some e.lport else none
  | none => none

/-- An admitted frame whose bytes cannot be completed: stomped when it is being sent, marked when a preempted one waits, else released
(R222, R225). -/
def State.breakFrame (s : State) (fid : Nat) (underrun : Bool) : State :=
  match s.ef fid with
  | none => s
  | some e =>
    if e.place = .sending then
      let s := if underrun then s.countRaise (xbarPage (sliceOf e.lport)) 0xE8 3 else s
      if ((s.mac e.lport).tx.map (·.fid)) = some fid then s.stompTx e.lport
      else s.setEf fid (some { e with bad := true })
    else
      let k := queueKey (sliceOf e.lport) e.q
      (s.discardFrame fid).landAll k

/-! ### The resequencer (R223 to R227) -/

def streamKey (d src dest c : Nat) : Nat := ((d * 8 + src) * 264 + dest) * 8 + c

def emptyAsm : Reasm := { buf := [], fids := [], decided := false, skipping := false, open_ := false }
/-- The stream waits for room in a LOSSLESS queue (R163): a tag is whole and its frame is not decided. -/
def Reasm.blocked (a : Reasm) : Bool := a.open_ && !a.decided && 16 ≤ a.buf.length

/-- What was injected with the frame of this stamp; requests of frames lost before it are ended (R314, R365). -/
def State.takeInj (s : State) (lp : Nat) (f : Frame) : State × Option InjMeta :=
  if !f.injected then (s, none)
  else
    let k := 8 * lp + f.cls
    let l := s.injSide k
    match l.findIdx? fun m => m.stamp == f.stamp with
    | none => (s, none)
    | some i =>
      let s := (l.take i).foldl (fun s m => s.injDone (some m)) s
      (s.setInjSide k (l.drop (i + 1)), l[i]?)

/-- Offer a frame to the logical ports its tag names; none when a LOSSLESS queue makes it wait, and nothing is then admitted (R163). -/
def State.offerTag (s : State) (d dest : Nat) (t : Tag) : State × Option (List Nat) :=
  let targets := if t.f.mcast then s.localMembers d t.f else [4 * dest + t.sub]
  let set := s.sw.nextFid
  let maxLen := if t.f.injected then (t.size.getD 12288) else s.maxFrame t.f.inLport
  let offer := fun (lp : Nat) (inj : Option InjMeta) =>
    ({ f := t.f, lp := lp, len := t.size, ct := t.ct, maxLen := maxLen, inj := inj, set := if t.f.mcast then some set else none } : Offer)
  let (s', fids, stuck) := targets.foldl (fun (a : State × List Nat × List Nat) lp =>
    let (s, fids, stuck) := a
    let (s, inj) := s.takeInj lp t.f
    match s.admission (offer lp inj) with
    | (s, .admitted i) => (s, fids ++ [i], stuck)
    | (s, .dropped) => (s, fids, stuck)
    | (s, .wait) => (s, fids, stuck ++ [lp])) (s, [], [])
  if stuck.isEmpty then (s', some fids)
  else (s.each stuck fun s lp => (s.attempt (offer lp none)).withhold lp t.f.cls true, none)

/-- The cut-through choice once CT_START cells are released (R221): cleared when a condition fails, which moves CT_DEMOTED. -/
def State.ctDecide (s : State) (d fid : Nat) : State :=
  match s.ef fid with
  | none => s
  | some e =>
    let e := { e with cellsSeen := e.cellsSeen + 1 }
    let s := s.setEf fid (some e)
    if !e.ct || e.cellsSeen ≠ s.fld (xbarPage d) XBAR_XS_CFG_CT_START then s
    else
      let q := s.queue (queueKey d e.q)
      -- the express chain holds C7 frames, so it is part of the C7 queue alone (R149)
      let alone := (q.frames.filter (· != fid)).isEmpty && q.deep.isEmpty &&
        (e.f.cls != 7 ||
          (s.chain (physOf e.lport)).all fun i => i == fid || (match s.ef i with | some x => x.lport != e.lport | none => true))
      let ok := e.q < 1024 && !q.spilling && alone && s.rateOf e.lport ≤ s.rateOf e.f.inLport
        && s.maxFrame e.f.inLport ≤ s.maxFrame e.lport
      if ok then s.count (xbarPage d) 0xD8
      else (s.setEf fid (some { e with ct := false })).count (xbarPage d) 0xE0

def State.setAsm (s : State) (k : Nat) (a : Reasm) : State := let st := s.stream k; s.setStream k { st with asm := a }

/-- Take bytes that begin at a tag: whole frames are offered one after another; the last may go on in later cells. -/
def State.takeTags (s : State) (d dest cls k : Nat) : Nat → List Byte → State
  | 0, _ => s
  | fuel + 1, bs =>
    if bs.isEmpty then s.setAsm k emptyAsm
    else if bs.length < 16 then s.setAsm k { emptyAsm with buf := bs, open_ := true }
    else
      let ses := (s.stream k).mirrors
      let t := readTag cls ses.head? (bs.take 16) (bs.drop 16)
      let whole : Bool := match t.size with | some n => n + 16 ≤ bs.length | none => false
      let n := t.size.getD 0
      let t := if whole then { t with f := { t.f with bytes := (bs.drop 16).take n } } else t
      match s.offerTag d dest t with
      | (s, none) => s.setAsm k { emptyAsm with buf := bs, open_ := true }
      | (s, some fids) =>
        let s := if t.f.mirrorCopy then s.setStream k { s.stream k with mirrors := ses.drop 1 } else s
        let s := s.each fids fun s i => s.ctDecide d i
        if whole then
          -- a copy in the deep part is packed at once
          s.takeTags d dest cls k fuel (bs.drop (16 + n))
        else s.setAsm k { buf := bs, fids := fids, decided := true, skipping := false, open_ := true }

/-- Give an admitted frame the bytes released so far. -/
def State.growFrame (s : State) (i : Nat) (bytes : List Byte) : State :=
  match s.ef i with
  | some e => s.setEf i (some { e with f := { e.f with bytes := bytes } })
  | none => s

/-- A fabric cell leaves the resequencer: for its link (R281, R285), where 512 waiting of a class withhold its grants; on another way
when the link is not ACTIVE any more (R289); or to the slice's fabric resequencer when its last hop was to a port without cell mode
(R290). -/
def State.toLink (s : State) (d : Nat) (c : Cell) : State :=
  if !s.cellOn c.dest then s.setDeliver d (s.deliver d ++ [c])
  else if s.linkState c.dest ≠ 3 then s.forwardCell d c
  else
    let l := s.link c.dest
    let s := s.setLink c.dest { l with txq := l.txq ++ [c] }
    if 511 ≤ (l.txq.filter fun x => x.cls == c.cls).length then s.setWithheld ((d * 264 + c.dest) * 8 + c.cls) true else s

/-- Release a cell (R209, R223, R227). -/
def State.releaseCell (s : State) (d k : Nat) (c : Cell) : State :=
  let st := s.stream k
  let late : Bool := match st.lastStamp with
    | some p => 2 ^ 39 ≤ stampAge c.stamp p
    | none => false
  let s := s.setStream k { st with lastStamp := some c.stamp }
  let s := if late then
      let pg := xbarPage d
      ((((s.setFld pg XBAR_LATE_CAPTURE_SRC_SLICE c.srcSlice).setFld pg XBAR_LATE_CAPTURE_DEST c.dest).setFld pg
        XBAR_LATE_CAPTURE_CLASS c.cls).setFld pg XBAR_LATE_CAPTURE_ORDER 1 |>.setFld pg XBAR_LATE_CAPTURE_VALID 1).raise pg 4
    else s
  if c.fabric then s.toLink d c
  else
    let pay := c.payload.take c.validLen
    let s := s.setStream k { s.stream k with mirrors := (s.stream k).mirrors ++ c.mirrors }
    let a := (s.stream k).asm
    let fuel := 32
    if a.skipping then
      if c.firstTag = 511 then s else s.takeTags d c.dest c.cls k fuel (pay.drop c.firstTag)
    else if !a.open_ then
      if c.firstTag = 511 then s else s.takeTags d c.dest c.cls k fuel (pay.drop c.firstTag)
    else
      let ended := c.endOff ≠ 511
      let buf := a.buf ++ (if ended then pay.take c.endOff else pay)
      let rest := if ended then pay.drop c.endOff else []
      if !a.decided then
        -- only part of the tag had come
        if !ended then
          if buf.length < 16 then s.setAsm k { a with buf := buf }
          else s.takeTags d c.dest c.cls k fuel buf
        else if c.endStatus ≠ 0 then s.takeTags d c.dest c.cls k fuel rest
        else s.takeTags d c.dest c.cls k fuel (patch buf 0 (leBytes 2 (leAt buf 0 2 / 2 ^ 15 * 2 ^ 15 + 2 ^ 14 + (buf.length - 16))) ++ rest)
      else
        let bytes := buf.drop 16
        if !ended then
          let s := s.setAsm k { a with buf := buf }
          s.each a.fids fun s i => (s.growFrame i bytes).ctDecide d i
        else
          let s := s.setAsm k emptyAsm
          let s :=
            if c.endStatus = 0 then s.each a.fids fun s i => (s.frameEnds i bytes).ctDecide d i
            else s.each a.fids fun s i => (s.growFrame i bytes).breakFrame i false
          s.takeTags d c.dest c.cls k fuel rest

/-- The held cell of a stream with a given sequence number. -/
def Stream.heldAt (st : Stream) (e : Nat) : Option TimedCell := st.held.find? fun c => c.cell.seq == e

def State.setHeldCount (s : State) (d : Nat) (n : Int) : State :=
  let pg := xbarPage d
  let h := ((s.fld pg XBAR_RESEQ_STATUS_HELD : Int) + n).toNat
  let s := s.setFld pg XBAR_RESEQ_STATUS_HELD h
  if s.fld pg XBAR_RESEQ_STATUS_PEAK < h then s.setFld pg XBAR_RESEQ_STATUS_PEAK h else s

/-- Release every held cell that continues the stream, until it waits (R223, R163). -/
def State.runStream (s : State) (d k : Nat) : Nat → State
  | 0 => s
  | fuel + 1 =>
    let st := s.stream k
    if st.asm.blocked then s
    else
      match st.heldAt st.e with
      | none => s
      | some c =>
        let s := (s.setStream k { st with held := st.held.filter (· != c), e := (st.e + 1) % 2 ^ 24 }).setHeldCount d (-1)
        (s.releaseCell d k c.cell).runStream d k fuel

/-- The frame open across a gap is lost (R225): its admitted copies, and all bytes up to the next tag. -/
def State.loseOpen (s : State) (d k : Nat) : State :=
  let a := (s.stream k).asm
  -- the copies whose tags wait to be offered are lost with it
  let s := s.mirrorDrops (s.stream k).mirrors
  let s := s.setStream k { s.stream k with mirrors := [] }
  let s := s.setAsm k { emptyAsm with skipping := true }
  if !a.open_ || a.fids.isEmpty then s
  else
    let sending := a.fids.any fun i => (s.sendingOn i).isSome
    let s := if sending then s else s.count (xbarPage d) 0xD0
    s.each a.fids fun s i => s.breakFrame i true

/-- Sequence distance from the expected number (R223). -/
def seqDist (n e : Nat) : Nat := (n + 2 ^ 24 - e) % 2 ^ 24

/-- The held cell with the lowest sequence. -/
def Stream.lowest (st : Stream) : Option TimedCell :=
  st.held.foldl (fun (b : Option TimedCell) c => match b with
    | some x => if seqDist c.cell.seq st.e < seqDist x.cell.seq st.e then some c else b
    | none => some c) none

/-- Skip the gap before a stream's lowest held cell (R224, R225). -/
def State.skipGap (s : State) (d k : Nat) : State :=
  let st := s.stream k
  match st.lowest with
  | none => s
  | some h =>
    if h.cell.seq = st.e then s
    else
      let s := s.loseOpen d k
      let st := s.stream k
      (s.setStream k { st with e := h.cell.seq }).runStream d k (st.held.length + 1)

/-- The stream whose oldest held cell was launched first among a slice's streams that wait at a gap (R226). -/
def State.oldestGap (s : State) (d : Nat) : Option Nat :=
  (s.sw.streams.foldl (fun (b : Option (Nat × Nat)) e =>
    if e.1 / (8 * 264 * 8) ≠ d then b
    else match e.2.lowest with
      | none => b
      | some h =>
        if h.cell.seq = e.2.e then b
        else match b with
          | some (t, _) => if h.atNs < t then some (h.atNs, e.1) else b
          | none => some (h.atNs, e.1)) none).map (·.2)

/-- Launch time of a cell: its stamp plus GRANT_WAIT, or its arrival when that saturates (R223). The crossbar gives both on the model's
clock. -/
def State.launchTime (s : State) (c : TimedCell) : Nat := if c.cell.grantWait = 0xFFFF then s.now else c.atNs

/-- A cell reaches the resequencer (R223, R226). -/
def State.resequence (s : State) (d : Nat) (c : TimedCell) : State :=
  let pg := xbarPage d
  let k := streamKey d c.cell.srcSlice c.cell.dest c.cell.cls
  let s := s.count pg 0xA8
  let st := s.stream k
  let dist := seqDist c.cell.seq st.e
  let hold := fun (s : State) =>
    let st := s.stream k
    (s.setStream k { st with held := st.held ++ [{ c with atNs := s.launchTime c }] }).setHeldCount d 1
  if dist = 0 then
    -- in order: released at once, unless the stream waits for room (R163)
    if st.asm.blocked then hold s
    else (((s.setStream k { st with e := (st.e + 1) % 2 ^ 24 })).releaseCell d k c.cell).runStream d k (st.held.length + 1)
  else if dist < 2 ^ 23 then
    let s := if 32768 ≤ s.fld pg XBAR_RESEQ_STATUS_HELD then
        match s.oldestGap d with
        | some g => ((s.count pg 0xC8).raise pg 1).skipGap d g
        | none => s
      else s
    (hold s).runStream d k (st.held.length + 2)
  else
    let s := s.count pg 0xB8
    ((((s.setFld pg XBAR_LATE_CAPTURE_SRC_SLICE c.cell.srcSlice).setFld pg XBAR_LATE_CAPTURE_DEST c.cell.dest).setFld pg
      XBAR_LATE_CAPTURE_CLASS c.cell.cls).setFld pg XBAR_LATE_CAPTURE_ORDER 0).setFld pg XBAR_LATE_CAPTURE_VALID 1

/-- A gap notice reaches a slice's resequencer: it skips every gap it holds (R218, R224). -/
def State.gapNotice (s : State) (d : Nat) : State :=
  let s := s.count (xbarPage 8) 0xA0
  let ks := (s.sw.streams.filter fun e => e.1 / (8 * 264 * 8) == d && !e.2.held.isEmpty).map fun e => (e.1, e.2.held.length)
  ks.foldl (fun s kn => (List.replicate kn.2 kn.1).foldl (fun s k => s.skipGap d k) s) s

/-- A plane leaves service (R218). -/
def State.planeOut (s : State) (p : Nat) : State :=
  if !s.planesUp.contains p then s
  else
    let pg := xbarPage 8
    -- the plane's guy lines mask its sources for 1 ms (R431)
    let s := s.onSys fun y => { y with planeGuy := y.planeGuy.set p (some (s.now + 1000000)) }
    let s := s.setBitOf pg XBARM_XM_STATUS_PLANE_UP p false
    let s := s.setFld pg XBARM_XM_STATUS_CAPACITY (24 * s.planesUp.length)
    let s := s.onSw fun w => { w with flight := w.flight.filter fun c => c.plane != p, returning := w.returning.set p false }
    let s := s.each (List.range 8) fun s d => s.gapNotice d
    s.raise pg p

/-- A cell with a bad CRC (R210, R218). -/
def State.badCell (s : State) (d p : Nat) : State :=
  let s := s.countRaise (xbarPage d) 0xB0 2
  let s := s.count (xbarPage 8) (0xB0 + 8 * p)
  let ms := s.dtNs / 1000000
  let l := if s.sw.planeWindow = ms then s.sw.planeFails else [0, 0, 0, 0]
  let l := l.set p (l.getD p 0 + 1)
  let s := s.onSw fun w => { w with planeFails := l, planeWindow := ms }
  if 64 ≤ l.getD p 0 then s.planeOut p else s

/-- Physical ports whose room the frame at the front of a waiting stream needs (R163). -/
def State.waitsAt (s : State) (k : Nat) : List Nat :=
  let a := (s.stream k).asm
  let d := k / 16896
  let dest := k / 8 % 264
  if !a.blocked then []
  else
    let t := readTag (k % 8) none (a.buf.take 16) []
    (if t.f.mcast then s.localMembers d t.f else [4 * dest + t.sub]).map physOf

/-- A stream that waits for room tries again (R163): where there is still none, nothing changes. -/
def State.retryStream (s : State) (k : Nat) : State :=
  let st := s.stream k
  if !st.asm.blocked then s
  else
    let d := k / 16896
    let t := s.takeTags d (k / 8 % 264) (k % 8) k 32 st.asm.buf
    if (t.stream k).asm.blocked && (t.stream k).asm.buf.length = st.asm.buf.length then s else t.runStream d k (st.held.length + 1)

/-- A frame of a fabric stream waits for room at a physical port, in a class (R163, R292). -/
def State.fabWaitsAt (s : State) (p c : Nat) : Bool :=
  s.trunk.dstStreams.any fun e => match e.2 with
    | some st => st.asm.decided && e.1 % 8 == c && (match s.routeLpm (s.copyOf (p / 32)) st.fdest with
      | some (_, r) => r.nextType == 1 && physOf r.next == p
      | none => false)
    | none => false

/-- Room may have come free: the frames that wait for it try again, and the grants withheld for frames that fit are given again (R163). -/
def State.retryAll (s : State) : State :=
  if s.sw.withheld.isEmpty then s
  else
    let s := s.each (s.sw.streams.map (·.1)) fun s k => s.retryStream k
    let still := (s.sw.streams.map (·.1)).flatMap fun k => (s.waitsAt k).map fun p => 8 * p + k % 8
    s.each (s.sw.withheld.map (·.1)) fun s k =>
      let p := k / 8 % 264
      if 256 ≤ p || s.cellOn p || still.contains (8 * p + k % 8) || s.fabWaitsAt p (k % 8) then s else s.setWithheld k false

/-- Release a frame that has left its queue: what waited behind it lands or is admitted (R153, R163). -/
def State.frameGone (s : State) (fid : Nat) : State :=
  match s.ef fid with
  | none => s
  | some e =>
    let s := s.dropFrame fid
    (s.landAll (queueKey (sliceOf e.lport) e.q)).retryAll

/-! ### Commands of the chapter -/

/-- MATCHING_ROUND (R212 to R216), once per cell time: idle fabric packers close their cells (R279; log 73), the round runs, load levels
are published (R281), and the descriptors of the frames that have left may let others in (R163). -/
def State.doMatchingRound (s : State) : State := ((s.fabricIdle fun _ => true).runRound.publishLoads).retryAll

/-- CELL_IDLE_CLOSE (R23): the open cell of a queue that has had no further byte ready for one cell time closes, padded; so do the open
cells of the slice's fabric packers of the queue's class (log 73). -/
def State.doCellIdleClose (s : State) (sl q : Nat) : State :=
  let s := s.ctArriveAll.fabricIdle fun k => k / 2 ^ 32 == sl * 8 + q % 8
  let p := s.voq (voqKey sl q)
  if p.buf.isEmpty || s.now < p.lastAt + 5 then s else s.setVoq (voqKey sl q) (p.close (s.cellHead sl q) p.arriving.isSome)

/-- CELL_ARRIVAL (R210, R223): the next cell for slice `d` lands: its 288 bytes as `Cell.wire` gives them, or with a CRC that fails. -/
def State.doCellArrival (s : State) (d : Nat) (good : Bool) : State :=
  match s.sw.flight.find? fun c => destSlice c.cell.dest == d with
  | none => s
  | some c =>
    let s := s.onSw fun w => { w with flight := w.flight.erase c }
    if good then (s.resequence d c).retryAll else s.badCell d c.plane

/-- RESEQ_TIMEOUT (R224): the oldest held cell was launched TIMEOUT or more ago. -/
def State.doReseqTimeout (s : State) (d src dest c : Nat) : State :=
  let k := streamKey d src dest c
  match (s.stream k).lowest with
  | none => s
  | some h =>
    if h.cell.seq ≠ (s.stream k).e && h.atNs + s.fld (xbarPage d) XBAR_RESEQ_CFG_TIMEOUT ≤ s.now then
      ((s.countRaise (xbarPage d) 0xC0 0).skipGap d k).retryAll
    else s

/-- VOQ_STALL (R228): the head cell has been counted in requests for 100 µs without a grant. -/
def State.doVoqStall (s : State) (sl q : Nat) : State :=
  match (s.voq (voqKey sl q)).reqSince with
  | none => s
  | some t =>
    if t + 100000 ≤ s.now && !s.voqHeld q then
      ((s.setFld (xbarPage sl) XBAR_STALL_CAPTURE_INDEX q).setFld (xbarPage sl) XBAR_STALL_CAPTURE_VALID 1).raise (xbarPage sl) 5
    else s

/-- PLANE_REMOVE (R218, R231): refused when it would leave no plane in service. -/
def State.doPlaneRemove (s : State) (p : Nat) : State :=
  if s.planesUp = [p] then s.setFld (xbarPage 8) XBARM_XM_CFG_REFUSED 1
  else s.planeOut p

/-- PLANE_RETURN (R219): the plane retrains. -/
def State.doPlaneReturn (s : State) (p : Nat) : State :=
  if s.planesUp.contains p then s else s.onSw fun w => { w with returning := w.returning.set p true }

/-- PLANE_RETURN_DONE (R219): it rejoins on success, and stays out of service on failure. -/
def State.doPlaneReturnDone (s : State) (p : Nat) (ok : Bool) : State :=
  if !s.sw.returning.getD p false then s
  else
    let s := s.onSw fun w => { w with returning := w.returning.set p false }
    if ok then
      let s := s.setBitOf (xbarPage 8) XBARM_XM_STATUS_PLANE_UP p true
      s.setFld (xbarPage 8) XBARM_XM_STATUS_CAPACITY (24 * s.planesUp.length)
    else s

end Sys2Proof.Machine
end

