-- ==== Sys2Proof/Machine/Sched.lean ====
section
/-! DEFINITION. Scheduling (chapter 07): time gates, shapers, the discards at the head of a queue, and the deep hierarchy's decision. -/

namespace Sys2Proof.Machine

/-! ### Time gates (R192 to R199) -/

/-- What a gate list shows at an instant: entry, gates, operation, and ns until that ends. -/
structure GateAt where
  entry : Nat
  gates : Nat
  op : Nat
  left : Nat
  deriving DecidableEq, Repr

/-- The entries of one cycle: the last holds until the cycle ends, and what lies beyond it is cut (R193). -/
def cycleSegs : List (Nat × Nat × Nat) → Nat → List (Nat × Nat × Nat)
  | [], _ => []
  | [(g, o, _)], rem => if rem = 0 then [] else [(g, o, rem)]
  | (g, o, i) :: r, rem =>
    if rem = 0 then [] else if rem ≤ i then [(g, o, rem)] else (g, o, i) :: cycleSegs r (rem - i)

def GateList.segs (l : GateList) : List (Nat × Nat × Nat) := cycleSegs (l.entries.take l.len) l.cycle

/-- The segment that holds offset `off` of a cycle. -/
def segAt : List (Nat × Nat × Nat) → Nat → Nat → GateAt
  | [], _, _ => { entry := 0, gates := 255, op := 0, left := 1000000000 }
  | (g, o, i) :: r, off, n => if off < i then { entry := n, gates := g, op := o, left := i - off } else segAt r (off - i) (n + 1)

/-- A list with cycles from `base` at time `t`. -/
def GateList.stateAt (l : GateList) (base t : Nat) : GateAt :=
  if l.en && 0 < l.cycle then segAt l.segs (((t : Int) - base) % (l.cycle : Int)).toNat 0
  else { entry := 0, gates := 255, op := 0, left := 1000000000 }

/-- List `o`, with cycles from `base`, at `t` before change time `ct` of a list whose CYCLE_EXT is `ext`. Cycles that would start less
than `ext` before `ct`, and after `since`, are no more started: the cycle in progress is extended to `ct`, its last entry's states held
(R197). -/
def GateList.beforeChange (o : GateList) (base ext ct since t : Nat) : GateAt :=
  let a := o.stateAt base t
  let from_ := max (ct + 1 - ext) (max (since + 1) (base + 1))
  let start := base + ceilDiv (from_ - base) (max 1 o.cycle) * o.cycle
  if o.en && start < ct && start ≤ t then
    let n := o.segs.length - 1
    let e := o.segs.getD n (255, 0, 0)
    { entry := n, gates := e.1, op := e.2.1, left := ct - t }
  else { a with left := min a.left ((if o.en && t < start then min start ct else ct) - t) }

/-- The operative list at `t`, and before its first cycle the list that it replaced (R194). -/
def Gate.operAt (g : Gate) (t : Nat) : GateAt :=
  match g.prev with
  | some (o, base) => if t < g.operBase then o.beforeChange base g.oper.ext g.operBase g.pendAt t else g.oper.stateAt g.operBase t
  | none => g.oper.stateAt g.operBase t

/-- The gates at time `t`: the operative list, and the pending one from its change time, with the old cycle extended up to it where
R197 says so. -/
def Gate.stateAt (g : Gate) (t : Nat) : GateAt :=
  match g.pending with
  | none => g.operAt t
  | some (l, ct) =>
    if ct ≤ t then l.stateAt ct t
    else if t < g.operBase then g.operAt t
    else g.oper.beforeChange g.operBase l.ext ct g.pendAt t

/-- Time now in the reference of a port's operative list. -/
def State.gateNow (s : State) (p : Nat) : Nat := s.nsIn (s.gate p).oper.tb
/-- The port's gates with the pending change time stated in the operative list's reference. -/
def State.gateView (s : State) (p : Nat) : Gate :=
  let g := s.gate p
  let here := fun (x : GateList × Nat) => (x.1, (((x.2 : Int) - s.nsIn x.1.tb) + s.nsIn g.oper.tb).toNat)
  { g with pending := g.pending.map here, prev := g.prev.map here }

def gateF (p : Nat) (f : Fld) : Fld := f.sh (0x10 * (p % 32))
def State.gateSt (s : State) (p : Nat) (f : Fld) : Nat := s.fld (schdPage (p / 32)) (gateF p f)
def State.setGateSt (s : State) (p : Nat) (f : Fld) (v : Nat) : State := s.setFld (schdPage (p / 32)) (gateF p f) v
def State.breach (s : State) (p : Nat) : Nat := s.gateSt p SCHD_GATE_STATUS_BREACH
/-- Guard in use: SELVEDGE, or FALLBACK_SELVEDGE after a breach (R199). -/
def State.selvedge (s : State) (p : Nat) : Nat := if s.breach p = 1 then (s.gate p).oper.fallback else (s.gate p).oper.selvedge

/-- Gate `c` is open from `t` up to `stop`. -/
def Gate.openSpan (g : Gate) (c stop : Nat) : Nat → Nat → Bool
  | 0, _ => false
  | fuel + 1, t =>
    if stop ≤ t then true
    else
      let a := g.stateAt t
      if a.gates.testBit c then g.openSpan c stop fuel (t + max 1 a.left) else false

/-- A frame of class `c` and scheduler length `len` may start now (R194). -/
def State.gateOk (s : State) (lp c len : Nat) : Bool :=
  let p := physOf lp
  let g := s.gateView p
  if s.breach p = 2 || (!g.oper.en && g.pending.isNone) then true
  else
    let t := s.gateNow p
    let e := s.selvedge p
    g.openSpan c (t + wireNs (s.rateOf lp) len + e) 20000 (t - e)

/-- Longest run of segments that open class `c`, among segments taken in order. -/
def longestOpen (c : Nat) : List (Nat × Nat × Nat) → Nat → Nat → Nat
  | [], run, best => max run best
  | (g, _, i) :: r, run, best => if g.testBit c then longestOpen c r (run + i) best else longestOpen c r 0 (max run best)

/-- No window of the class takes the frame (R195). -/
def State.gateTooLong (s : State) (lp c len : Nat) : Bool :=
  let p := physOf lp
  let l := (s.gate p).oper
  if !l.en || s.breach p = 2 || l.segs.all fun x => x.1.testBit c then false
  else longestOpen c (l.segs ++ l.segs) 0 0 < wireNs (s.rateOf lp) len + 2 * s.selvedge p

/-! ### Frames at the head of a queue -/

/-- The frame can be sent as far as its bytes go: it is whole, or goes cut-through and CT_START cells have come (R183, R221). -/
def State.bytesReady (s : State) (e : EFrame) : Bool :=
  e.complete || (e.ct && s.fld (xbarPage (sliceOf e.lport)) XBAR_XS_CFG_CT_START ≤ e.cellsSeen)

/-- Class that pause and gates see: the frame's for an on-die queue, the queue's for a deep one (R185). -/
def State.gateClass (s : State) (e : EFrame) : Nat :=
  if e.q < 1024 then e.f.cls else s.schdF (sliceOf e.lport) 5 (e.q - 1024) 0 21 3

/-- A discarded frame leaves its queue; a mirror copy counts in its session's DROPS (R138). -/
def State.headGone (s : State) (i : Nat) : State := (s.mirrorDrops (((s.ef i).bind fun e => e.f.session).toList)).frameGone i

/-- Discard the frame at the head of its queue (R19, R66, R195, R240): none where it stays. A frame that heads its queue while still held
deep meets R19 there (R152). R66 is tested on a complete frame: the spec
does not say what becomes of a cut-through frame that its edit makes longer than MAX_FRAME after its transmission began, and it is sent
whole here and not counted (DESIGN CHOICE, log 113). -/
def State.headDiscard (s : State) (i : Nat) : Option State :=
  match s.ef i with
  | none => none
  | some e =>
    let lp := e.lport
    let sl := sliceOf lp
    if 4000000000 ≤ stampAge s.stamp e.f.stamp then
      let k := queueKey sl e.q
      let q := s.queue k
      some ((s.setQueue k { q with ageDiscard := q.ageDiscard + 1 }).headGone i)
    else if e.place = .deep then none
    else if e.complete && s.maxFrame lp < (s.wireOf e).length then some ((s.portCtr lp 66).headGone i)
    else if s.gateTooLong lp (s.gateClass e) (s.schedLen e) then some ((s.countRaise (schdPage sl) 0x98 1).headGone i)
    else if e.q < 1024 && (s.flexGroup lp).isSome && (s.defClient lp).isNone then
      some ((s.count (flxePage ((s.flexGroup lp).getD 0)) 0xE0).headGone i)
    else none

/-- The frame at the head of a queue on-die: of the express chain first, where it has one. -/
def State.headOf (s : State) (lp qi : Nat) : Option Nat :=
  let k := queueKey (sliceOf lp) qi
  let chained := if qi = 8 * qOf lp + 7 then
      (s.chain (physOf lp)).find? fun i => match s.ef i with | some e => e.lport == lp | none => false
    else none
  match chained with
  | some i => some i
  | none => (s.queue k).frames.head?

/-- Discard at the head of a queue until its head stays. -/
def State.cleanHead (s : State) (lp qi : Nat) : Nat → State
  | 0 => s
  | fuel + 1 =>
    match (s.headOf lp qi).orElse fun _ => (s.queue (queueKey (sliceOf lp) qi)).deep.head? with
    | none => s
    | some i => match s.headDiscard i with
      | some s' => s'.cleanHead lp qi fuel
      | none => s

/-- Frames of a logical port that wait. -/
def State.waitingOn (s : State) (lp : Nat) : List (Nat × EFrame) :=
  s.sw.efs.filterMap fun x => x.2.bind fun e => if e.lport = lp && e.place ≠ .sending then some (x.1, e) else none

/-- Discard at the heads of every queue of a logical port (R19, R66, R156, R195, R240). -/
def State.cleanHeads (s : State) (lp : Nat) : State :=
  let l := s.waitingOn lp
  s.each ((l.map fun x => x.2.q).eraseDups) fun s qi => (s.landAll (queueKey (sliceOf lp) qi)).cleanHead lp qi (l.length + 1)

/-! ### Shapers (R188 to R191) -/

/-- Rates and bursts of a node, as in force. -/
structure Shaper where
  minRate : Nat
  minBurst : Nat
  maxRate : Nat
  maxBurst : Nat
  unshaped : Bool
  /-- its FlexE client has no slots or is not its logical port's: not selectable -/
  blocked : Bool
  deriving DecidableEq, Repr

/-- Effective rate guarantee of a deep queue (R168, R171). -/
def State.effRate (s : State) (q : Queue) : Nat := q.guarRate * s.fld (deepPage 8) DEEPT_RATE_FACTOR_FACTOR / 65536 * q.scale / 65536

def State.subLport (s : State) (sl i : Nat) : Nat := 128 * sl + 4 * s.schdF sl 3 i 0 0 5 + s.schdF sl 3 i 0 5 2

def State.shaper (s : State) (sl t i : Nat) : Shaper :=
  let o := if t = 2 then 0 else 1
  let f := fun w n => s.schdF sl t i (o + w) 0 n
  let min := if t = 5 then s.effRate (s.queue (queueKey sl (1024 + i))) else f 0 20
  if t = 3 && s.subFollows sl i then
    let n := s.subClient sl i
    let c := s.client n
    let r := if c.valid then 5000 * s.clientSlots n else 0
    { minRate := min, minBurst := f 1 24, maxRate := r, maxBurst := f 3 24, unshaped := false
      blocked := r = 0 || c.lport ≠ s.subLport sl i }
  else
    { minRate := min, minBurst := f 1 24, maxRate := f 2 20, maxBurst := f 3 24, unshaped := f 2 20 = 0, blocked := false }

/-- Tokens credited, spent and lost at the cap move a bucket's account (R172). -/
def TokAcct.move (a : TokAcct) (credited spent lost : Nat) : TokAcct :=
  { a with credited := a.credited + credited, spent := a.spent + spent, lost := a.lost + lost }
/-- A new account from `t` tokens; the audit skips the interval when a configuration change begins it. -/
def TokAcct.from_ (t : Int) (skip : Bool) : TokAcct := { start := t, credited := 0, spent := 0, lost := 0, skip := skip }
/-- Left side minus right side of codes 6 and 7 of R172 for a bucket that holds `t`. -/
def TokAcct.diff (a : TokAcct) (t : Int) : Int := t - (a.start + a.credited - a.spent - a.lost)

/-- A bucket in 1/4,096 byte after `d` units of DT at `rate` Mbit/s, with its residue in 1/(125 × 65,536) and its account. -/
def accrue (tok : Int) (res : Nat) (acct : TokAcct) (rate burst d : Nat) : Int × Nat × TokAcct :=
  let x := rate * 64 * d + res
  let c := x / 8192000
  let t := tok + (c : Nat)
  let cap : Int := (burst * 4096 : Nat)
  if cap ≤ t then (cap, 0, acct.move c 0 (t - cap).toNat) else (t, x % 8192000, acct.move c 0 0)

/-- A node with its buckets accrued to now. -/
def State.nodeNow (s : State) (sl t i : Nat) : Node :=
  let n := s.node (schdKey sl t i)
  let h := s.shaper sl t i
  let d := s.time.dt - n.last
  let (a, ra, aa) :=
    if h.minRate = 0 then (n.minTok, n.minRes, n.acctMin) else accrue n.minTok n.minRes n.acctMin h.minRate h.minBurst d
  let (b, rb, ab) :=
    if h.unshaped then ((0 : Int), 0, if n.maxTok = 0 then n.acctMax else .from_ 0 true)
    else accrue n.maxTok n.maxRes n.acctMax h.maxRate h.maxBurst d
  { n with minTok := a, minRes := ra, acctMin := aa, maxTok := b, maxRes := rb, acctMax := ab, last := s.time.dt }

/-- A node whose buckets a configuration change has emptied (R189): the audit skips it for the interval (R172). -/
def Node.emptied (n : Node) (dt : Nat) : Node :=
  { n with
    minTok := 0, maxTok := 0, minRes := 0, maxRes := 0, last := dt, acctMin := .from_ 0 true, acctMax := .from_ 0 true }

/-- Lowest value a bucket holds (R188). -/
def bucketFloor : Int := -(12351 * 4096)

/-- Charge a frame's length to both buckets of a node. -/
def State.chargeNode (s : State) (sl t i len : Nat) : State :=
  let n := s.nodeNow sl t i
  let h := s.shaper sl t i
  let a := max bucketFloor (n.minTok - (len * 4096 : Nat))
  let b := if h.unshaped then 0 else max bucketFloor (n.maxTok - (len * 4096 : Nat))
  s.setNode (schdKey sl t i) { n with
    minTok := a, acctMin := n.acctMin.move 0 (n.minTok - a).toNat 0, maxTok := b, acctMax := n.acctMax.move 0 (n.maxTok - b).toNat 0 }

/-- A device-made rate change keeps the tokens, accrued under the old rate and clipped to BURST (R189). `old` is the state before. -/
def State.keepTokens (s old : State) (sl t i : Nat) : State := s.setNode (schdKey sl t i) (old.nodeNow sl t i)

/-- Valid children of a node (R184). -/
def State.childrenOf (s : State) (sl t i : Nat) : List Nat :=
  let (ct, w) := if t = 2 then (3, 5) else if t = 3 then (4, 9) else (5, 11)
  (s.sw.schd.filterMap fun e =>
    if e.1 / 32768 = sl * 16 + ct && getBits (e.2.getD 0 0) 31 1 = 1 && getBits (e.2.getD 0 0) 0 w = i then some (e.1 % 32768)
    else none)
/-- Rate of a sub-channel: its MAX_RATE in use, and no more than its logical port's rate. -/
def State.subRate (s : State) (sl i : Nat) : Nat :=
  let h := s.shaper sl 3 i
  let port := s.rateOf (s.subLport sl i)
  if h.unshaped then port else min h.maxRate port
/-- The sum of a sub-channel's children's MIN_RATE exceeds its rate (R190). -/
def State.oversub (s : State) (sl i : Nat) : Bool :=
  s.subRate sl i < (s.childrenOf sl 3 i).foldl (fun n c => n + (s.shaper sl 4 c).minRate) 0
def State.subchannels (s : State) (sl : Nat) : List Nat :=
  s.sw.schd.filterMap fun e =>
    if e.1 / 32768 = sl * 16 + 3 && getBits (e.2.getD 0 0) 31 1 = 1 then some (e.1 % 32768) else none

/-- After a change of rates that the device made: tokens kept, and MIN_OVERSUB where a sub-channel begins or ceases to cover its
children (R189, R190). -/
def State.ratesChanged (s old : State) (sl : Nat) : State :=
  s.each (s.subchannels sl) fun s i =>
    let s := s.keepTokens old sl 3 i
    if s.oversub sl i != old.oversub sl i then s.raise (schdPage sl) 3 else s

/-! ### The deep hierarchy (R184 to R187) -/

/-- What a decision sees of a node. -/
structure NodeView where
  active : Bool
  held : Bool
  sel : Bool
  deriving DecidableEq, Repr

/-- Room for a nominated frame on a logical port and its line (R185, R239). -/
def State.lineRoom (s : State) (sl i lp : Nat) : Bool :=
  match s.flexGroup lp with
  | none => true
  | some _ =>
    if s.subFollows sl i then s.clientRoom (s.subClient sl i)
    else match s.defClient lp with | some n => s.clientRoom n | none => false

/-- The nominated frame that still waits. -/
def State.nominee (s : State) (lp : Nat) : Option (Nat × Nat × Nat) :=
  match (s.psched lp).nominated with
  | some (i, q, b) => if (s.ef i).isSome then some (i, q, b) else none
  | none => none

/-- Room for a nominated frame on logical port `lp` (R185). -/
def State.nomRoom (s : State) (sl i lp : Nat) : Bool := (s.nominee lp).isNone && s.lineRoom sl i lp

def State.viewQueue (s : State) (sl lp i : Nat) : NodeView :=
  let q := s.queue (queueKey sl (1024 + i))
  let active := !(q.frames.isEmpty && q.deep.isEmpty)
  let bucket := 0 ≤ (s.nodeNow sl 5 i).maxTok
  match q.frames.head?.bind s.ef with
  | none => { active := active, held := active && !bucket, sel := false }
  | some e =>
    let c := s.gateClass e
    let go := !s.pausedRx lp c && s.gateOk lp c (s.schedLen e)
    { active := active, held := !bucket || !go, sel := bucket && go && s.bytesReady e && e.lport == lp }
def State.viewGroup (s : State) (sl lp i : Nat) : NodeView :=
  let kids := (s.childrenOf sl 4 i).map fun c => s.viewQueue sl lp c
  let active := kids.any (·.active)
  let bucket := 0 ≤ (s.nodeNow sl 4 i).maxTok
  let some1 := kids.any (·.sel)
  { active := active, held := !bucket || (!some1 && kids.any (·.held)), sel := active && bucket && some1 }
def State.viewSub (s : State) (sl i : Nat) : NodeView :=
  let lp := s.subLport sl i
  let kids := (s.childrenOf sl 3 i).map fun c => s.viewGroup sl lp c
  let active := kids.any (·.active)
  let bucket := 0 ≤ (s.nodeNow sl 3 i).maxTok && !(s.shaper sl 3 i).blocked
  let some1 := kids.any (·.sel)
  { active := active, held := !bucket || (!some1 && kids.any (·.held))
    sel := active && bucket && some1 && s.isUp lp && s.nomRoom sl i lp }

/-- New start tag of a child (R186). -/
def startTag (f v : Nat) : Nat := if (f + 2 ^ 48 - v) % 2 ^ 48 ≤ 2 ^ 30 then f else v

/-- Note a child's status; it takes a new tag when it becomes active, or selectable after it was held (R186). -/
def State.noteChild (s : State) (sl tp ip t i : Nat) (w : NodeView) : State :=
  let k := schdKey sl t i
  let n := s.node k
  let v := (s.node (schdKey sl tp ip)).v
  let tag := startTag n.f v
  s.setNode k (
    if !w.active then { n with active := false, selectable := false, fresh := false }
    else if !n.active then { n with active := true, selectable := w.sel, s := tag, fresh := w.held }
    else if w.held then { n with selectable := false, fresh := true }
    else if n.fresh && w.sel then { n with selectable := true, s := tag, fresh := false }
    else { n with selectable := w.sel })

/-- Choose a child of a node (R185): its index and whether the pass is the excess one. -/
def State.pickChild (s : State) (sl tp ip t : Nat) (kids : List (Nat × NodeView)) : State × Option (Nat × Bool) :=
  let s := kids.foldl (fun s x => s.noteChild sl tp ip t x.1 x.2) s
  let sel := (kids.filter fun x => x.2.sel).map (·.1)
  let pk := schdKey sl tp ip
  let p := s.node pk
  let g := sel.filter fun i => 0 < (s.shaper sl t i).minRate && 0 ≤ (s.nodeNow sl t i).minTok
  match (g.find? fun i => p.rr ≤ i).orElse fun _ => g.head? with
  | some i => (s.setNode pk { p with rr := i + 1 }, some (i, false))
  | none =>
    let d := fun i => signed 48 ((s.node (schdKey sl t i)).s + 2 ^ 48 - p.v)
    match sel.foldl (fun (b : Option Nat) i => match b with
        | none => some i
        | some x => if d i < d x then some i else b) none with
    | none => (s, none)
    | some i => (s.setNode pk { p with v := (s.node (schdKey sl t i)).s }, some (i, true))

/-- One decision of a port's tree (R185, R187): a frame is nominated for its logical port. -/
def State.treeDecide (s : State) (p : Nat) : State :=
  let sl := p / 32
  let k := p % 32
  let subs := s.childrenOf sl 2 k
  if (s.nodeNow sl 2 k).maxTok < 0 then s
  else
    let (s, a) := s.pickChild sl 2 k 3 (subs.map fun i => (i, s.viewSub sl i))
    match a with
    | none => s
    | some (i, pi) =>
      let lp := s.subLport sl i
      let (s, b) := s.pickChild sl 3 i 4 ((s.childrenOf sl 3 i).map fun j => (j, s.viewGroup sl lp j))
      match b with
      | none => s
      | some (j, pj) =>
        let (s, c) := s.pickChild sl 4 j 5 ((s.childrenOf sl 4 j).map fun q => (q, s.viewQueue sl lp q))
        match c with
        | none => s
        | some (q, pq) =>
          match (s.queue (queueKey sl (1024 + q))).frames.head? with
          | none => s
          | some f =>
            let x := s.psched lp
            let bits := (if pi then 1 else 0) + (if pj then 2 else 0) + (if pq then 4 else 0)
            s.setPsched lp { x with nominated := some (f, 1024 + q, bits) }

/-- PORT_TREE_DECISION (R187). -/
def State.doPortTreeDecision (s : State) (p : Nat) : State :=
  let s := s.each (s.lportsOf p) fun s lp => s.cleanHeads lp
  s.treeDecide p

/-- Charge a sent deep frame to its path, and move the tags of the levels whose pass was the excess one (R185, R188). -/
def State.chargePath (s : State) (qi bits sl len : Nat) : State :=
  let q := qi - 1024
  let g := s.schdF sl 5 q 0 0 11
  let c := s.schdF sl 4 g 0 0 9
  let k := s.schdF sl 3 c 0 0 5
  let one := fun (s : State) (t i wLo bit : Nat) =>
    let s := s.chargeNode sl t i len
    if bits.testBit bit then
      let n := s.node (schdKey sl t i)
      let f := (n.s + len * 65536 / max 1 (s.schdF sl t i 0 wLo 10)) % 2 ^ 48
      s.setNode (schdKey sl t i) { n with f := f, s := f }
    else s
  (one (one (one s 3 c 7 0) 4 g 9 1) 5 q 11 2).chargeNode sl 2 k len

end Sys2Proof.Machine
end

