-- ==== Sys2Proof/Machine/Mac.lean ====
section
/-! DEFINITION. The MAC (chapter 03): the transmit order and its choice (R181 to R183), frame preemption (R72 to R76), transmission and
its end, receive counters (R68, R86), pause and priority flow control (R77 to R85). -/

namespace Sys2Proof.Machine

/-! ### Preemption -/

/-- The logical port carries Ethernet framing, where preemption is supported (R72). -/
def State.framed (s : State) (lp : Nat) : Bool := !s.packOn lp && !s.cellOn (physOf lp)
def State.mmOn (s : State) (lp : Nat) : Bool := s.macFld lp PORT_MAC_CFG_PREEMPT_EN == 1 && s.framed lp
/-- Verification applies (R75). -/
def State.verifyOn (s : State) (lp : Nat) : Bool := s.framed lp && s.macFld lp PORT_MAC_CFG_VERIFY_EN == 1
/-- Preemption is active (R73). -/
def State.preemptOn (s : State) (lp : Nat) : Bool :=
  s.mmOn lp && s.isUp lp && (!s.verifyOn lp || s.macFld lp PORT_MM_STATUS_VERIFY_STATUS == 3)
def State.syncPreempt (s : State) (lp : Nat) : State :=
  s.setMacFld lp PORT_MM_STATUS_PREEMPT_ACTIVE (if s.preemptOn lp then 1 else 0)

/-- VERIFY_TIME in ns: 0 encodes 128 ms (R91). -/
def State.verifyNs (s : State) (lp : Nat) : Nat :=
  let t := s.macFld lp PORT_VERIFY_CFG_VERIFY_TIME
  (if t = 0 then 128 else t) * 1000000

/-- VERIFY_STATUS takes a value outside an exchange, which ends: 1 where verification applies, 5 where it does not (R72, R91). -/
def State.verifyRest (s : State) (lp : Nat) : State :=
  ((s.setMac lp { s.mac lp with verifyLeft := 0, verifyNext := none }).setMacFld lp PORT_MM_STATUS_VERIFY_STATUS
    (if s.verifyOn lp then 1 else 5)).syncPreempt lp

/-- Verification starts where it applies to an UP sub-port (R75): at UP, and when PREEMPT_EN becomes 1. -/
def State.verifyStart (s : State) (lp : Nat) : State :=
  if s.verifyOn lp && s.isUp lp then
    let s := s.setMac lp { s.mac lp with
      verifyLeft := s.macFld lp PORT_VERIFY_CFG_VERIFY_LIMIT - 1, verifyNext := some (s.now + s.verifyNs lp) }
    ((s.setMacFld lp PORT_MM_STATUS_VERIFY_STATUS 2).syncPreempt lp).emit (.verify lp (s.srcAddr lp) false)
  else s.verifyRest lp

/-- VERIFY_TIMER (R75): the next verify mPacket, or failure after the last. -/
def State.doVerifyTimer (s : State) (lp : Nat) : State :=
  let m := s.mac lp
  match m.verifyNext with
  | none => s
  | some t =>
    if s.now < t || s.macFld lp PORT_MM_STATUS_VERIFY_STATUS ≠ 2 then s
    else if m.verifyLeft = 0 then
      let s := (s.setMac lp { m with verifyNext := none }).setMacFld lp PORT_MM_STATUS_VERIFY_STATUS 4
      (s.syncPreempt lp).raise (portPage (physOf lp)) (4 + subOf lp)
    else (s.setMac lp { m with verifyLeft := m.verifyLeft - 1, verifyNext := some (s.now + s.verifyNs lp) }).emit (.verify lp (s.srcAddr lp) false)

/-- VERIFY_RESPOND_RECEIVE (R75). -/
def State.doVerifyRespondReceive (s : State) (lp : Nat) : State :=
  if s.isUp lp && s.macFld lp PORT_MM_STATUS_VERIFY_STATUS = 2 then
    let m := s.mac lp
    ((s.setMac lp { m with verifyNext := none, verifyLeft := 0 }).setMacFld lp PORT_MM_STATUS_VERIFY_STATUS 3).syncPreempt lp
  else s

/-- VERIFY_RECEIVE (R75): answered with a respond while PREEMPT_EN = 1. -/
def State.doVerifyReceive (s : State) (lp : Nat) : State := if s.isUp lp && s.mmOn lp then s.emit (.verify lp (s.srcAddr lp) true) else s

/-- A hold of the gates applies to the logical port (R196). -/
def State.heldMac (s : State) (lp : Nat) : Bool := s.gateSt (physOf lp) SCHD_GATE_STATUS_HOLD == 1 && s.preemptOn lp

/-- Bytes of the fragment under way that have left, its preamble apart. -/
def State.fragSent (s : State) (lp : Nat) (t : Tx) : Nat := (s.now - t.start) * s.rateOf lp / 8000 - 8

/-- The frame in transmission may be preempted now (R73, R76): it is preemptable, its fragment with the mCRC reaches (ADD_FRAG + 1) × 64
bytes, and 64 bytes or more are left for the fragment that ends it. -/
def State.preemptPoint (s : State) (lp : Nat) : Bool :=
  match (s.mac lp).tx with
  | none => false
  | some t =>
    let total := match s.ef t.fid with | some e => s.sentSize e | none => 0
    t.preemptable && s.preemptOn lp && decide ((s.macFld lp PORT_MAC_CFG_ADD_FRAG + 1) * 64 ≤ s.fragSent lp t + 4)
      && decide (t.sent + s.fragSent lp t + 64 ≤ total)

/-- A preempted frame that sends a fragment while its gate is closed moves GATE_LATE once (R196). -/
def State.noteLate (s : State) (lp : Nat) (t : Tx) : State :=
  let m := s.mac lp
  let late : Bool := match s.ef t.fid with
    | some e => !((s.gateView (physOf lp)).stateAt (s.gateNow (physOf lp))).gates.testBit (s.gateClass e) && s.breach (physOf lp) != 2
    | none => false
  if late && 0 < t.fragments && !m.gateLate then
    (s.setMac lp { m with gateLate := true }).countRaise (schdPage (sliceOf lp)) 0xA0 2
  else s

/-- Preempt the frame in transmission (R73): a fragment ends, and the frame waits to resume. -/
def State.preemptTx (s : State) (lp : Nat) : State :=
  match (s.mac lp).tx with
  | none => s
  | some t =>
    let n := s.fragSent lp t
    let s := s.noteLate lp t
    let s := s.setMac lp { s.mac lp with tx := none, preempted := some { t with fragments := t.fragments + 1, sent := t.sent + n } }
    ((s.portCtr lp 67).portCtr lp 68).emit (.fragment lp n false)

/-- Resume the preempted frame. -/
def State.resumeTx (s : State) (lp : Nat) : State :=
  let m := s.mac lp
  match m.preempted with
  | none => s
  | some t =>
    let t := { t with start := s.now }
    (s.setMac lp { m with tx := some t, preempted := none }).noteLate lp t

/-! ### The transmit order (R181 to R183) -/

/-- A frame may start on its logical port now (R183, R194, R196, R239). -/
def State.startOk (s : State) (lp i : Nat) : Bool :=
  match s.ef i with
  | none => false
  | some e =>
    let c := s.gateClass e
    s.bytesReady e && !s.pausedRx lp c && s.gateOk lp c (s.schedLen e) && !(e.f.cls != 7 && s.heldMac lp)
      && (match s.clientFor e with | some n => s.clientRoom n | none => true)

/-- Head frame of class queue `c`, if it may start. -/
def State.classReady (s : State) (lp c : Nat) : Option Nat :=
  match s.headOf lp (8 * qOf lp + c) with
  | some i => if s.startOk lp i then some i else none
  | none => none
/-- The deep member's frame, if it may start. -/
def State.deepReady (s : State) (lp : Nat) : Option Nat :=
  match s.nominee lp with
  | some (i, _, _) => if s.startOk lp i then some i else none
  | none => none
/-- The frame of member `m` of the round: 0 to 6 the classes, 7 the deep member. -/
def State.memberReady (s : State) (lp m : Nat) : Option Nat := if m < 7 then s.classReady lp m else s.deepReady lp
def State.memberEmpty (s : State) (lp m : Nat) : Bool :=
  if m < 7 then (s.headOf lp (8 * qOf lp + m)).isNone else !((s.waitingOn lp).any fun x => 1024 ≤ x.2.q)
/-- Weight of a member (R204). -/
def State.memberWeight (s : State) (lp m : Nat) : Nat := s.schdF (sliceOf lp) 0 (qOf lp) (m / 4) (8 * (m % 4)) 7

/-- The deficit round (R182): `len` gives an eligible member's length. -/
def deficitRound (w : List Nat) (len : List (Option Nat)) (empty : List Bool) :
    Nat → Nat → List Nat → Nat → List Nat × Nat × Option Nat
  | 0, _, d, p => (d, p, none)
  | fuel + 1, idle, d, p =>
    if 8 ≤ idle then (d, p, none)
    else
      let next := (p + 1) % 8
      match len.getD p none with
      | some n =>
        if 1 ≤ w.getD p 0 then
          if n ≤ d.getD p 0 then (d.set p (d.getD p 0 - n), p, some p)
          else deficitRound w len empty fuel 0 (d.set p (d.getD p 0 + w.getD p 0 * 256)) next
        else deficitRound w len empty fuel (idle + 1) d next
      | none => deficitRound w len empty fuel (idle + 1) (if empty.getD p false then d.set p 0 else d) next

/-- What the transmitter takes next beside C7: the deep member's guarantee, the round, then members of weight 0. -/
def State.chooseLow (s : State) (lp : Nat) : State × Option Nat :=
  let sl := sliceOf lp
  let k := physOf lp % 32
  let guar := 0 < (s.shaper sl 2 k).minRate && 0 ≤ (s.nodeNow sl 2 k).minTok
  match (if guar then s.deepReady lp else none) with
  | some i => (s, some i)
  | none =>
    let ready := (List.range 8).map fun m => s.memberReady lp m
    let w := (List.range 8).map fun m => s.memberWeight lp m
    let len := ready.map fun o => o.bind fun i => (s.ef i).map fun e => s.schedLen e
    let empty := (List.range 8).map fun m => s.memberEmpty lp m
    let x := s.psched lp
    let (d, p, m) := deficitRound w len empty 2048 0 x.deficit x.pointer
    let s := s.setPsched lp { x with deficit := d, pointer := p }
    match m with
    | some m => (s, ready.getD m none)
    | none => (s, [7, 6, 5, 4, 3, 2, 1, 0].findSome? fun m => if w.getD m 0 = 0 then ready.getD m none else none)

/-! ### MAC control frames (R63, R79, R80) -/

/-- The gap and the preamble go out ahead of a frame of a plain Ethernet logical port. -/
def State.sendLead (s : State) (lp : Nat) : State := s.emit (.lead lp (s.mac lp).gap preamble)

/-- Send a MAC control frame, opcode and data: it leaves whole (R79). On a member logical port it uses the default client, as the frames
of the on-die class queues do (R240; DEDUCED, log 20). -/
def State.sendControl (s : State) (lp : Nat) (opcode : Nat) (data : List Byte) : State :=
  let f := finishFrame (beBytes 6 0x0180C2000001 ++ beBytes 6 (s.srcAddr lp) ++ beBytes 2 0x8808 ++ beBytes 2 opcode ++ data)
  if (s.flexGroup lp).isNone then (((s.txCount lp f).sendLead lp).keepGap lp f.length).emit (.control lp f)
  else match s.defClient lp with
    | some n => let s := (s.txCount lp f).keepGap lp f.length; s.feedClient n (lineFrame (s.mac lp).gap f)
    | none => s

/-- The PFC data for the classes that have a time to send: class-enable vector and eight times. -/
def pfcData (due : List (Option Nat)) : List Byte :=
  beBytes 2 ((List.range 8).foldl (fun n k => if (due.getD k none).isSome then n + 2 ^ k else n) 0) ++
    ((List.range 8).flatMap fun k => beBytes 2 ((due.getD k none).getD 0))

/-- When the pause of class `k` was last sent, after a frame with time `q` for it: none while the device does not pause it. -/
def pauseAt (now : Nat) (q old : Option Nat) : Option Nat :=
  match q with
  | none => old
  | some 0 => none
  | some _ => some now

/-- Send the pause frame that is due: one PFC frame carries every class that needs sending (R79, R80). -/
def State.sendDue (s : State) (lp : Nat) : State :=
  let m := s.mac lp
  match m.linkDue with
  | some q =>
    let s := s.setMac lp { m with linkDue := none, pauseSent := m.pauseSent.map (pauseAt s.now (some q)) }
    (s.sendControl lp 0x0001 (beBytes 2 q)).portCtr lp 46
  | none =>
    if m.pfcDue.any (·.isSome) then
      let s := s.setMac lp { m with
        pfcDue := List.replicate 8 none
        pauseSent := (List.range 8).map fun k => pauseAt s.now (m.pfcDue.getD k none) (m.pauseSent.getD k none) }
      (s.sendControl lp 0x0101 (pfcData m.pfcDue)).each ((List.range 8).filter fun k => (m.pfcDue.getD k none).isSome) fun s c =>
        s.portCtr lp (47 + c)
    else s

/-! ### Transmission -/

/-- Start a frame (R181, R138, R314). -/
def State.startTx (s : State) (lp i : Nat) : State :=
  match s.ef i with
  | none => s
  | some e =>
    let sl := sliceOf lp
    let k := queueKey sl e.q
    let q := s.queue k
    let train := s.inTrain e
    let len := s.schedLen e
    let cl := s.clientFor e
    let body := s.ptpEdit e (s.bodySent e)
    let s := s.setQueue k { q with frames := q.frames.filter (· != i) }
    let s := s.setChain (physOf lp) ((s.chain (physOf lp)).filter (· != i))
    let s := match s.nominee lp with
      | some (j, qi, bits) =>
        if j = i then (s.chargePath qi bits sl len).setPsched lp { s.psched lp with nominated := none } else s
      | none => s
    let s := s.setEf i (some { e with place := .sending })
    let wire := finishFrame body
    let s := if e.complete then s.egressMirror lp e.f wire else s
    let s := match e.inj with
      | some j =>
        if j.tsReq then s.fifoPush 2 (s.stampRecord lp 0 (s.tsTb (physOf lp)) s.ptpNow (s.uncalPort (physOf lp)) j.cookie) else s
      | none => s
    let m := s.mac lp
    let s := s.setMac lp { m with
      tx := some { fid := i, start := s.now, sent := 0, bytes := body, preemptable := e.f.cls != 7, fragments := 0, late := !e.complete } }
    if train then s.sendUnit lp cl e wire
    else
      let s := s.closeTrain lp cl
      if (s.flexGroup lp).isNone then s.sendLead lp else if e.complete then s.clientFrame lp cl wire else s

/-- TRANSMIT_SELECT (R181): a ready C7 frame, which may preempt; the preempted frame; a pause frame that is due (R79); then the deep member
and the round. A hold stops all that the preemptable MAC would start (R196). -/
def State.doTransmitSelect (s : State) (lp : Nat) : State :=
  if !s.isUp lp || s.cellOn (physOf lp) then s
  else
    let s := s.cleanHeads lp
    match (s.mac lp).tx, s.classReady lp 7 with
    | some _, some i => if s.preemptPoint lp then (s.preemptTx lp).startTx lp i else s
    | some _, none => if s.heldMac lp && s.preemptPoint lp then s.preemptTx lp else s
    | none, some i => s.startTx lp i
    | none, none =>
      if s.heldMac lp && ((s.mac lp).preempted.isSome || s.pauseDue lp) then s
      else if (s.mac lp).preempted.isSome then s.resumeTx lp
      else if s.pauseDue lp then s.sendDue lp
      else
        match s.chooseLow lp with
        | (s, some i) => s.startTx lp i
        | (s, none) => s.closeTrains lp

/-- The bytes a frame in transmission ends with. -/
def State.txWire (s : State) (t : Tx) (e : EFrame) : List Byte :=
  let body := s.bodySent e
  finishFrame (t.bytes.take body.length ++ body.drop t.bytes.length)

/-- TRANSMIT_END (R146, R86): the counters move and the frame's cells and descriptor are freed. -/
def State.doTransmitEnd (s : State) (lp : Nat) : State :=
  let m := s.mac lp
  match m.tx with
  | none => s
  | some t =>
    match s.ef t.fid with
    | none => s.setMac lp { m with tx := none, gateLate := false }
    | some e =>
      if !e.complete && !e.bad then s
      else if e.bad || (e.f.mirrorCopy && fcsInverse e.f.bytes) then
        let s := (s.noteLate lp t).stompTx lp
        let m := s.mac lp
        ((s.setMac lp { m with gateLate := false }).landAll (queueKey (sliceOf lp) e.q)).retryAll
      else
        let wire := s.txWire t e
        let s := s.noteLate lp t
        let s := s.setMac lp { s.mac lp with tx := none, gateLate := false }
        let s := s.txCount lp wire
        let s := if 0 < t.fragments then (s.portCtr lp 67).emit (.fragment lp (wire.length - t.sent) true) else s
        let s := s.leaveLine lp t e wire false
        let s := if t.late then s.egressMirror lp e.f wire else s
        s.frameGone t.fid

/-- CT_UNDERRUN (R222). -/
def State.doCtUnderrun (s : State) (lp : Nat) : State :=
  match (s.mac lp).tx with
  | none => s
  | some t =>
    match s.ef t.fid with
    | none => s
    | some e =>
      if e.complete then s
      else ((s.breakFrame t.fid true).landAll (queueKey (sliceOf lp) e.q)).retryAll

/-- Transmission stops at once when the sub-port leaves UP (R37): the frame is aborted and counted in LINK_ABORT, and the bytes sent of it
in TX_OCTETS (R86). -/
def State.abortTx (s : State) (lp : Nat) : State :=
  let m := s.mac lp
  let ids := (m.tx.toList ++ m.preempted.toList).map (·.fid)
  let sent := (match m.tx with | some t => t.sent + s.fragSent lp t | none => 0) + (match m.preempted with | some t => t.sent | none => 0)
  let s := s.portCtr lp 40 sent
  let s := s.setMac lp { m with tx := none, preempted := none, gateLate := false }
  s.each ids fun s i => (s.engCtr (physOf lp) 2).frameGone i

/-! ### Receive errors and counters (R68, R86) -/

/-- The error counter that takes a received frame, none for a good one. -/
def State.rxError (s : State) (lp : Nat) (bytes : List Byte) (e : RxEnd) : Option Nat :=
  let good := fcsGood bytes
  let n := bytes.length
  if e.fec then some 33 else if e.code then some 32 else if e.reasm then some 35 else if e.smd then some 36
  else if s.maxFrame lp < n then some (if good then 30 else 31)
  else if n < 64 then some (if good then 28 else 29)
  else if good then none
  else if fcsInverse bytes then some 34 else some 27

/-- Move the receive counters for a frame that ended. A MAC control frame counts in RX_MCAST (R86); a frame in one piece is no fragment,
unless it is one whose reassembly failed. -/
def State.rxCount (s : State) (lp : Nat) (bytes : List Byte) (err : Option Nat) (fragments : Nat) : State :=
  let n := bytes.length
  let s := s.portCtr lp 0 n
  let s := match sizeBucket n with | some b => s.portCtr lp (17 + b) | none => s
  let s := if 2 ≤ fragments || err = some 35 then s.portCtr lp 37 fragments else s
  match err with
  | some c => s.portCtr lp c
  | none =>
    let s := (s.portCtr lp 1 n).portCtr lp 2
    let s := if etypeAt bytes 12 = 0x8808 then s.portCtr lp 4
      else if daOf bytes = broadcastAddr then s.portCtr lp 5 else if isGroup (daOf bytes) then s.portCtr lp 4 else s.portCtr lp 3
    let s := if isTpid (etypeAt bytes 12) then s.portCtr lp 6 else s
    if 2 ≤ fragments then s.portCtr lp 38 else s

/-! ### Pause (R77 to R85) -/

/-- `n` quanta of 512 bit times in ns. -/
def State.quantaNs (s : State) (lp n : Nat) : Nat := let r := s.rateOf lp; if r = 0 then 0 else n * 512000 / r

def State.setPausedRx (s : State) (lp c : Nat) (b : Bool) : State :=
  s.setMacFld lp { PORT_MM_STATUS_PAUSED_RX with lo := PORT_MM_STATUS_PAUSED_RX.lo + c, w := 1 } (if b then 1 else 0)
def State.storm (s : State) (lp c : Nat) : Bool := (s.macFld lp PORT_MM_STATUS_STORM).testBit c
def State.setStorm (s : State) (lp c : Nat) (b : Bool) : State :=
  s.setMacFld lp { PORT_MM_STATUS_STORM with lo := PORT_MM_STATUS_STORM.lo + c, w := 1 } (if b then 1 else 0)

/-- Number of the last 1 µs step of device time (R84), and the instant of the model's clock at which it fell. -/
def State.dtUs (s : State) : Nat := s.dtNs / 1000
def State.usEdge (s : State) : Nat := s.now - s.dtNs % 1000

/-- The received pause of a class ends now. The watchdog sees it at its next step. -/
def State.pauseClear (s : State) (lp c : Nat) : State :=
  let m := s.mac lp
  let stop := (m.pauseEnd.getD c none).map fun t => min t s.now
  (s.setMac lp { m with pauseEnd := m.pauseEnd.set c stop }).setPausedRx lp c false

/-- A pause for class `c` acts (R81): a time of 0 ends it. The measurement of R84 goes on where no step fell between two pauses. -/
def State.pauseAct (s : State) (lp c quanta : Nat) : State :=
  if quanta = 0 then s.pauseClear lp c
  else
    let m := s.mac lp
    let since := match m.pausedSince.getD c none, m.pauseEnd.getD c none with
      | some u, some t => if s.usEdge < t then u else s.dtUs
      | _, _ => s.dtUs
    (s.setMac lp { m with
      pauseEnd := m.pauseEnd.set c (some (s.now + s.quantaNs lp quanta)), pausedSince := m.pausedSince.set c (some since) }).setPausedRx lp c true

/-- A good MAC control frame acts (R67, R81). -/
def State.controlAct (s : State) (lp : Nat) (bytes : List Byte) : State :=
  match beAt bytes 14 2 with
  | 0x0001 =>
    let s := s.portCtr lp 7
    if s.pauseMode lp = 2 && !s.storm lp 0 then s.each (List.range 8) fun s c => s.pauseAct lp c (beAt bytes 16 2) else s
  | 0x0101 =>
    let v := beAt bytes 16 2
    s.each ((List.range 8).filter fun c => v.testBit c) fun s c =>
      let s := s.portCtr lp (8 + c)
      if s.pauseMode lp = 1 && s.pfcRxEn lp c && !s.storm lp c then s.pauseAct lp c (beAt bytes (18 + 2 * c) 2) else s
  | _ => s.portCtr lp 16

/-- A frame with 0x8808 at offset 12 has ended: it is counted and consumed (R67, R68). -/
def State.controlEnd (s : State) (lp : Nat) (bytes : List Byte) (e : RxEnd) : State :=
  let err := s.rxError lp bytes e
  let s := s.rxCount lp bytes err e.fragments
  if err.isSome then s else s.controlAct lp bytes

/-- A reception without any mark of R68. -/
def cleanEnd : RxEnd := { fec := false, code := false, reasm := false, smd := false, fragments := 1 }

/-- MAC_CONTROL_RECEIVE (R67, R81): a MAC control frame received without a mark; one with a mark comes by FRAME_RECEIVE_START and
FRAME_RECEIVE_END. -/
def State.doMacControlReceive (s : State) (lp : Nat) (bytes : List Byte) : State :=
  if !s.isUp lp || s.cellOn (physOf lp) || etypeAt bytes 12 ≠ 0x8808 then s else s.controlEnd lp bytes cleanEnd

/-- PAUSE_EXPIRE (R81). -/
def State.doPauseExpire (s : State) (lp c : Nat) : State :=
  match (s.mac lp).pauseEnd.getD c none with
  | some t => if t ≤ s.now && s.pausedRx lp c then s.pauseClear lp c else s
  | none => s

/-- PFC_REFRESH (R80): the pause is sent again each REFRESH quanta while the account stays above XOFF_LOW. -/
def State.doPfcRefresh (s : State) (lp c : Nat) : State :=
  let (n, k) := s.pfcMeasure lp c
  match (s.mac lp).pauseSent.getD k none with
  | none => s
  | some t =>
    if s.pausing lp k && s.xoffLow lp k < n && t + s.quantaNs lp (s.macFld lp PORT_PAUSE_TIME_REFRESH) ≤ s.now then
      (s.sendPause lp k (s.macFld lp PORT_PAUSE_TIME_QUANTA)).setPausing lp k true
    else s

/-- Classes that watchdog class `c` stands for (R77). -/
def State.stormClasses (s : State) (lp c : Nat) : List Nat := if s.pauseMode lp = 2 then List.range 8 else [c]

/-- The watchdog's measurement of class `c`: µs paused without a break at the last step (R84); 0 where the pause had run out by then. -/
def State.pausedUs (s : State) (lp c : Nat) : Nat :=
  match (s.mac lp).pausedSince.getD c none, (s.mac lp).pauseEnd.getD c none with
  | some u, some t => if s.usEdge < t then s.dtUs - u else 0
  | _, _ => 0

/-- PAUSE_WATCHDOG_EXPIRE (R84, R85): at a step of 1 µs, for a class whose PFC_RX_EN bit is set. -/
def State.doPauseWatchdog (s : State) (lp c : Nat) : State :=
  if s.macFld lp PORT_PAUSE_WD_WD_EN = 1 && s.pfcRxEn lp c && !s.storm lp c && !(s.pauseMode lp = 2 && c ≠ 0) && 0 < s.pausedUs lp c
      && s.macFld lp PORT_PAUSE_WD_WD_TIME * 1000 ≤ s.pausedUs lp c then
    let s := s.each (s.stormClasses lp c) fun s k => s.pauseClear lp k
    let m := s.mac lp
    let s := (s.setMac lp { m with
      pausedSince := m.pausedSince.set c none, stormSince := m.stormSince.set c (some s.dtUs) }).setStorm lp c true
    (s.portCtr lp (72 + c)).raise (portPage (physOf lp)) (subOf lp)
  else s

/-- PAUSE_RECOVERY_END (R84): the step that ends recovery comes only while the PFC_RX_EN bit is set. -/
def State.doPauseRecoveryEnd (s : State) (lp c : Nat) : State :=
  let m := s.mac lp
  match m.stormSince.getD c none with
  | none => s
  | some u =>
    if s.pfcRxEn lp c && u + s.macFld lp PORT_PAUSE_WD_RECOVERY * 1000 ≤ s.dtUs then
      (s.setMac lp { m with stormSince := m.stormSince.set c none, pausedSince := m.pausedSince.set c none }).setStorm lp c false
    else s

/-- While a class's PFC_RX_EN bit is clear its measurement stands still (R84): the run is kept as what it had reached. -/
def State.wdFollow (s old : State) (lp : Nat) : State :=
  s.each (List.range 8) fun s c =>
    let m := s.mac lp
    match m.pausedSince.getD c none with
    | none => s
    | some u =>
      if old.pfcRxEn lp c && !s.pfcRxEn lp c then s.setMac lp { m with wdKept := m.wdKept.set c (s.dtUs - u) }
      else if !old.pfcRxEn lp c && s.pfcRxEn lp c then
        s.setMac lp { m with pausedSince := m.pausedSince.set c (some (s.dtUs - m.wdKept.getD c 0)), wdKept := m.wdKept.set c 0 }
      else s

end Sys2Proof.Machine
end

