-- ==== Sys2Proof/Machine/SchedCmd.lean ====
section
/-! DEFINITION. The SCHD page's window (R203, R204), gate lists and their changes (R197 to R199), and samples (R200, R201). -/

namespace Sys2Proof.Machine

/-! ### Windows -/

/-- Words of a window from offset `off`. -/
def State.winGet (s : State) (pg off n : Nat) : List Word := (List.range n).map fun i => s.rd (regA pg (off + 4 * i))
def State.winPut (s : State) (pg off : Nat) : List Word → State
  | [] => s
  | w :: r => (s.wr (regA pg off) w).winPut pg (off + 4) r

/-- Finish a window command: RESULT, with BUSY at 0. -/
def State.winDone (s : State) (pg : Nat) (res busy : Fld) (r : Nat) : State := (s.setFld pg res r).setFld pg busy 0

/-- A write of OP while BUSY is 1 is refused (R487). -/
def State.winBusy (s : State) (pg : Nat) (busy refused : Fld) (run : State → State) : State :=
  if s.flag pg busy then s.setFld pg refused 1 else (run (s.setFld pg refused 0))

/-! ### Entries -/

def wBits (w : Word) (lo n : Nat) : Nat := getBits w lo n
/-- A word with only the bits of `m`. -/
def wMask (w : Word) (m : Nat) : Word := w &&& BitVec.ofNat 32 m

/-- Frames are held below a node (R184). -/
def State.queueHolds (s : State) (sl i : Nat) : Bool :=
  let q := s.queue (queueKey sl (1024 + i))
  !(q.frames.isEmpty && q.deep.isEmpty) || s.sw.efs.any fun x => match x.2 with
    | some e => sliceOf e.lport == sl && e.q == 1024 + i
    | none => false
def State.nodeHolds (s : State) (sl t i : Nat) : Bool :=
  if t = 5 then s.queueHolds sl i
  else if t = 4 then (s.childrenOf sl 4 i).any fun q => s.queueHolds sl q
  else (s.childrenOf sl 3 i).any fun g => (s.childrenOf sl 4 g).any fun q => s.queueHolds sl q

/-- Shaper fields of an entry: word of MIN_RATE, and masks of the four words. -/
def shaperMasks : List Nat := [0xFFFFF, 0xFFFFFF, 0xFFFFF, 0xFFFFFF]

/-- Sum of the MIN_RATE of a parent's children. -/
def State.minSum (s : State) (sl ct : Nat) (kids : List Nat) : Nat := kids.foldl (fun n c => n + (s.shaper sl ct c).minRate) 0

/-- MAX_RATE of a node that its children's sum and its own MIN_RATE are held to, 0 where unshaped: the client's rate for a sub-channel
with RATE_SRC = 1, whose configured MAX_RATE is ignored (R184, R191). -/
def State.maxOf (s : State) (sl t i : Nat) : Nat := (s.shaper sl t i).maxRate

/-- Checks on a node entry `ws` that is to replace the one of (t, i) (R184): refused where it breaks one. `s'` has it in place. -/
def State.nodeRefused (s s' : State) (sl t i : Nat) (ws : List Word) : Bool :=
  let o := if t = 2 then 0 else 1
  let w := fun k => ws.getD k 0
  let min := if t = 5 then 0 else wBits (w o) 0 20
  let max := s'.maxOf sl t i
  let rates := min > 800000 || wBits (w (o + 2)) 0 20 > 800000 || (max ≠ 0 && max < (s'.shaper sl t i).minRate)
  let valid := wBits (w 0) 31 1 = 1
  let was := s.schdF sl t i 0 31 1 = 1
  let weight := if t = 3 then wBits (w 0) 7 10 else if t = 4 then wBits (w 0) 9 10 else if t = 5 then wBits (w 0) 11 10 else 1
  let parentBits := if t = 3 then 7 else if t = 4 then 9 else 11
  let parentValid := if t = 4 then s.schdF sl 3 (wBits (w 0) 0 9) 0 31 1 = 1 else if t = 5 then s.schdF sl 4 (wBits (w 0) 0 11) 0 31 1 = 1 else true
  let moved := t ≠ 2 && (wBits (w 0) 0 parentBits ≠ s.schdF sl t i 0 0 parentBits || valid ≠ was)
  let kids := if t = 5 then [] else s.childrenOf sl t i
  let own := max ≠ 0 && t ≠ 5 && max < s.minSum sl (t + 1) kids
  let up := if t = 2 || !valid then false
    else
      let pi := if t = 3 then wBits (w 0) 0 5 else if t = 4 then wBits (w 0) 0 9 else wBits (w 0) 0 11
      let m := s'.maxOf sl (t - 1) pi
      m ≠ 0 && m < s'.minSum sl t (s'.childrenOf sl (t - 1) pi)
  rates || weight = 0 || (t = 5 && wBits (w 0) 21 3 = 7) || (t ≠ 2 && valid && !parentValid) ||
    (t ≠ 2 && t ≠ 5 && !valid && !kids.isEmpty) || (moved && s.nodeHolds sl t i) || own || up

/-- Bits of each word of a node entry that a write sets. -/
def nodeMasks (t : Nat) : List Nat :=
  if t = 2 then shaperMasks
  else if t = 3 then 0xBFFFFFFF :: shaperMasks
  else if t = 4 then 0x8007FFFF :: shaperMasks
  else [0x80FFFFFF, 0, 0xFFFFFF, 0xFFFFF, 0xFFFFFF]

/-- An entry masked to its fields. -/
def maskWords (m : List Nat) (ws : List Word) : List Word := (List.range 8).map fun k => wMask (ws.getD k 0) (m.getD k 0)

/-- Fields of a node's shaper: its rates and bursts, and a sub-channel's RATE_SRC and CLIENT (R188, R191). -/
def shaperFields (t : Nat) (ws : List Word) : List Word :=
  (ws.drop (if t = 2 then 0 else 1)).take 4 ++ (if t = 3 then [wMask (ws.getD 0 0) 0x3FFE0000] else [])

/-- Write a node's entry: a change of its shaper empties both buckets (R189). -/
def State.writeNode (s : State) (sl t i : Nat) (ws : List Word) : State × Nat :=
  let ws := maskWords (nodeMasks t) ws
  let k := schdKey sl t i
  let s' := s.setSchd k ws
  if s.nodeRefused s' sl t i ws then (s, 3)
  else
    if shaperFields t ws = shaperFields t (s.schd k) then (s', 0) else (s'.setNode k ((s'.node k).emptied s.time.dt), 0)

/-- Write an entry of the window (R203, R204): the new state and RESULT. -/
def State.schedWrite (s : State) (sl t i : Nat) (ws : List Word) : State × Nat :=
  let w := fun k => ws.getD k 0
  let put := fun (m : List Nat) => (s.setSchd (schdKey sl t i) (maskWords m ws), 0)
  match t with
  | 0 => if 127 < i || signed 7 (wBits (w 2) 0 7) < -32 then (s, 3) else put [0x7F7F7F7F, 0x7F7F7F7F, 0x7F]
  | 1 =>
    let mode := wBits (w 0) 0 1
    let base := wBits (w 0) 1 14
    let span := wBits (w 0) 15 4
    if 1023 < i || (mode = 1 && i % 8 = 7) || 12 < span || 16384 < base + 2 ^ span || wBits (w 0) 19 2 = 3 then (s, 3)
    else put [0x1FFFFF]
  | 2 => if 31 < i then (s, 3) else s.writeNode sl 2 i ws
  | 3 => if 511 < i then (s, 3) else s.writeNode sl 3 i ws
  | 4 => if 2047 < i then (s, 3) else s.writeNode sl 4 i ws
  | 5 => if 16383 < i then (s, 3) else s.writeNode sl 5 i ws
  | 6 =>
    let cycle := wBits (w 3) 0 30
    let len := wBits (w 5) 0 9
    if 31 < i || 999999999 < wBits (w 2) 0 30 || cycle < 1000 || 1000000000 < cycle || cycle < wBits (w 4) 0 30 || len = 0 || 256 < len
        || 4 < wBits (w 5) 9 3 || wBits (w 6) 16 16 < wBits (w 6) 0 16 then (s, 3)
    else put [0xFFFFFFFF, 0xFFFF, 0x3FFFFFFF, 0x3FFFFFFF, 0x3FFFFFFF, 0x3FFF, 0xFFFFFFFF]
  | 7 =>
    let d := wBits (w 1) 0 30
    if 8191 < i || wBits (w 0) 8 2 = 3 || d < 10 || 1000000000 < d then (s, 3) else put [0x3FF, 0x3FFFFFFF]
  | 9 =>
    let on := wBits (w 4) 0 1 = 1
    let k := queueKey sl i
    let m := s.sample k
    let n := (s.sw.samples.filter fun e => e.1 / 17408 == sl && e.2.watch).length
    if 17407 < i || (on && !m.watch && 256 ≤ n) then (s, 3) else (s.setSample k { m with watch := on }, 0)
  | _ => (s, 3)

/-- Words that a read of an entry loads; none where the OP is refused. -/
def State.schedRead (s : State) (sl t i : Nat) : Option (List Word) :=
  let e := s.schd (schdKey sl t i)
  let tok := fun (o : Nat) =>
    let n := s.nodeNow sl t i
    ((e.set o (BitVec.ofNat 32 (unsigned 32 (n.minTok / 4096)))).set (o + 1) (BitVec.ofNat 32 (unsigned 32 (n.maxTok / 4096))))
  match t with
  | 0 => if i < 128 then some e else none
  | 1 => if i < 1024 then some e else none
  | 2 => if i < 32 then some (tok 5) else none
  | 3 => if i < 512 then some ((tok 5).set 7 (BitVec.ofNat 32 (s.shaper sl 3 i).maxRate)) else none
  | 4 => if i < 2048 then some (tok 5) else none
  | 5 => if i < 16384 then some ((tok 5).set 1 (BitVec.ofNat 32 (s.shaper sl 5 i).minRate)) else none
  | 6 => if i < 32 then some e else none
  | 7 => if i < 8192 then some e else none
  | 8 =>
    if i < 8192 then
      let (g, o, d) := (s.gate (32 * sl + i / 256)).oper.entries.getD (i % 256) (255, 0, 0xF4240)
      some [BitVec.ofNat 32 (g + 256 * o), BitVec.ofNat 32 d, 0, 0, 0, 0, 0, 0]
    else none
  | 9 =>
    if i < 17408 then
      let m := s.sample (queueKey sl i)
      let f := fun (n : Nat) => BitVec.ofNat 32 n
      some [f m.lastDepth, f m.maxDepth, f m.lastDelay, f m.maxDelay,
        f ((if m.watch then 1 else 0) + (if (s.queue (queueKey sl i)).spilling then 2 else 0)), 0, 0, 0]
    else none
  | _ => none

/-- Run a window command: INDEX and TABLE as written with OP. -/
def State.schWindow (s : State) (sl t i : Nat) (run : State → State) : State :=
  s.winBusy (schdPage sl) SCHD_SCH_CMD_BUSY SCHD_SCHD_CFG_REFUSED fun s =>
    run ((s.setFld (schdPage sl) SCHD_SCH_CMD_INDEX i).setFld (schdPage sl) SCHD_SCH_CMD_TABLE t)
def State.schDone (s : State) (sl r : Nat) : State := s.winDone (schdPage sl) SCHD_SCH_CMD_RESULT SCHD_SCH_CMD_BUSY r

/-- SCHED_ENTRY_WRITE (R203): OP = 1. A write that moves deep queues to a logical port whose rate does not cover their GUAR_RATE is
refused with reason 5 (R165, R166; the queue index is that of a QUEUE entry, 0 for other tables: DESIGN CHOICE, log 120). -/
def State.doSchedWrite (s : State) (sl t i : Nat) : State :=
  s.schWindow sl t i fun s =>
    let (s', r) := s.schedWrite sl t i (s.winGet (schdPage sl) 0x104 8)
    match if r = 0 && 3 ≤ t && t ≤ 5 then guarFail (guarPorts s s' ((List.range 128).map fun q => 128 * sl + q)) else none with
    | some (c, x) => (s.guarCapture sl c (if t = 5 then 1024 + i else 0) (some x)).schDone sl 3
    | none => s'.schDone sl r

/-- SCHED_ENTRY_READ (R203): OP = 2. -/
def State.doSchedRead (s : State) (sl t i : Nat) : State :=
  s.schWindow sl t i fun s =>
    match s.schedRead sl t i with
    | some ws => (s.winPut (schdPage sl) 0x104 ws).schDone sl 0
    | none => s.schDone sl 3

/-- SAMPLE_READ_CLEAR (R200): OP = 3 on SAMPLE reads the samples and clears both maxima. -/
def State.doSampleReadClear (s : State) (sl i : Nat) : State :=
  s.schWindow sl 9 i fun s =>
    match s.schedRead sl 9 i with
    | some ws =>
      let m := s.sample (queueKey sl i)
      ((s.winPut (schdPage sl) 0x104 ws).setSample (queueKey sl i) { m with maxDepth := 0, maxDelay := 0 }).schDone sl 0
    | none => s.schDone sl 3

/-! ### Gate lists -/

/-- The admin copy of a port's list. -/
def State.adminList (s : State) (p : Nat) : GateList :=
  let sl := p / 32
  let k := p % 32
  let w := fun n => (s.schd (schdKey sl 6 k)).getD n 0
  { baseSec := wBits (w 0) 0 32 + 2 ^ 32 * wBits (w 1) 0 16, baseNs := wBits (w 2) 0 30, cycle := wBits (w 3) 0 30, ext := wBits (w 4) 0 30
    len := wBits (w 5) 0 9, tb := wBits (w 5) 9 3, en := wBits (w 5) 12 1 = 1, breachAction := wBits (w 5) 13 1 = 1
    selvedge := wBits (w 6) 0 16, fallback := wBits (w 6) 16 16
    entries := (List.range 256).map fun e =>
      let x := s.schd (schdKey sl 7 (256 * k + e))
      (wBits (x.getD 0 0) 0 8, wBits (x.getD 0 0) 8 2, wBits (x.getD 1 0) 0 30) }

/-- GATE_COMMIT (R197): OP = 3 on GATE_ADMIN starts the copy. -/
def State.doGateCommit (s : State) (sl k : Nat) : State :=
  s.schWindow sl 6 k fun s =>
    let p := 32 * sl + k
    (s.setGate p { s.gate p with copying := some (s.adminList p, s.now) }).setFld (schdPage sl) SCHD_SCH_CMD_BUSY 1

/-- Change time of a list whose copy completes at `t` of its reference (R197). -/
def GateList.changeTime (l : GateList) (t : Nat) : Nat :=
  let base := l.baseSec * nsPerSec + l.baseNs
  let first := t + 2000
  if first ≤ base then base else base + ceilDiv (first - base) (max 1 l.cycle) * l.cycle

/-- GATE_COMMIT_COPY_DONE (R197). -/
def State.doGateCopyDone (s : State) (sl k : Nat) : State :=
  let p := 32 * sl + k
  let g := s.gate p
  match g.copying with
  | none => s
  | some (l, _) =>
    let ct := l.changeTime (s.nsIn l.tb)
    let s := s.setGate p { g with copying := none, pending := some (l, ct), pendAt := s.gateNow p }
    let s := ((s.setGateSt p SCHD_GATE_STATUS_PENDING 1).setGateSt p SCHD_GATE_CHANGE_SEC_SEC (ct / nsPerSec)).setGateSt p
      SCHD_GATE_CHANGE_NS_NS (ct % nsPerSec)
    s.schDone sl 0

/-- Show the gates that apply now, and take a hold or release (R193, R196). -/
def State.showGates (s : State) (p : Nat) : State :=
  let g := s.gate p
  let on : Bool := g.oper.en && s.breach p != 2
  let a := (s.gateView p).stateAt (s.gateNow p)
  let s := (s.setGateSt p SCHD_GATE_STATUS_OPER_GATES (if on then a.gates else 255)).setGateSt p SCHD_GATE_STATUS_ENTRY (if on then a.entry else 0)
  let s := s.setGateSt p SCHD_GATE_STATUS_GATING (if on then 1 else 0)
  if !on then s.setGateSt p SCHD_GATE_STATUS_HOLD 0
  else if a.op = 1 then
    let s := s.setGateSt p SCHD_GATE_STATUS_HOLD 1
    s.each (s.lportsOf p) fun s lp =>
      if s.preemptPoint lp then s.preemptTx lp else s
  else if a.op = 2 then s.setGateSt p SCHD_GATE_STATUS_HOLD 0
  else s

/-- The pending list becomes operative once its change time has come (R197, R199). -/
def State.gateChange (s : State) (p : Nat) : State :=
  let g := s.gate p
  match g.pending with
  | none => s
  | some (l, ct) =>
    if s.nsIn l.tb < ct then s
    else
      let s := s.setGate p { g with
        oper := l, operBase := ct, pending := none, fails := [], prev := some (g.oper, g.operBase)
        pendAt := (((g.pendAt : Int) - s.nsIn g.oper.tb) + s.nsIn l.tb).toNat }
      let s := (s.setGateSt p SCHD_GATE_STATUS_PENDING 0).setGateSt p SCHD_GATE_STATUS_BREACH 0
      (s.showGates p).raise (schdPage (p / 32)) 4

/-- GATE_LIST_CHANGE (R197). -/
def State.doGateListChange (s : State) (p : Nat) : State := s.gateChange p
/-- GATE_ENTRY_ADVANCE (R193, R196). -/
def State.doGateEntryAdvance (s : State) (p : Nat) : State := if (s.gate p).oper.en then s.showGates p else s

/-- A step of time reference `n` moves every list that uses it (R198). -/
def State.gateStep (s : State) (n : Nat) : State :=
  s.each ((s.sw.gates.filter fun e => (e.2.oper.tb == n && e.2.oper.en) || (match e.2.pending with | some x => x.1.tb == n | none => false)).map (·.1))
    fun s p => ((s.gateChange p).showGates p).raise (schdPage (p / 32)) 6

/-- Declare a breach (R199, R320). -/
def State.declareBreach (s : State) (p : Nat) : State :=
  let s := s.setGateSt p SCHD_GATE_STATUS_BREACH (if (s.gate p).oper.breachAction then 2 else 1)
  (s.showGates p).raise (schdPage (p / 32)) 5

/-! ### Samples -/

/-- The oldest frame a queue holds. -/
def State.oldestOf (s : State) (sl i : Nat) : Option EFrame :=
  let q := s.queue (queueKey sl i)
  let c := if i < 1024 && i % 8 = 7 then s.headOf (128 * sl + i / 8) i else q.frames.head?
  (c.orElse fun _ => q.deep.head?).bind s.ef

/-- QUEUE_SAMPLE (R200, R201): once in each SAMPLE_PERIOD. -/
def State.doQueueSample (s : State) (sl i : Nat) : State :=
  let k := queueKey sl i
  let q := s.queue k
  let depth := q.occAll
  let delay := match s.oldestOf sl i with | some e => min 0xFFFFFFFF (stampAge s.stamp e.f.stamp) | none => 0
  let m := s.sample k
  if !onceIn (1000 * s.fld (schdPage sl) SCHD_SAMPLE_CFG_PERIOD) m.takenAt s.now then s else
  let s := s.setSample k { m with
    takenAt := some s.now, lastDepth := depth, maxDepth := max m.maxDepth depth, lastDelay := delay, maxDelay := max m.maxDelay delay }
  if s.flag (schdPage sl) SCHD_SAMPLE_CFG_WATCH_EN && m.watch then
    s.fifoPush 3 ((timeBytes s.time.dt).take 12 ++ leBytes 2 i ++ leBytes 1 sl ++ leBytes 1 (if q.spilling then 1 else 0) ++
      leBytes 4 depth ++ leBytes 4 delay ++ zeros 8)
  else s

end Sys2Proof.Machine
end

