-- ==== Sys2Proof/Machine/Classify.lean ====
section
/-! DEFINITION. Parsing, classification and policing (chapter 04): templates, the key, the rule table, actions, meters, and the windows
that write and read them. -/

namespace Sys2Proof.Machine

/-! ### Parsing (R93 to R97) -/

def State.clsLp (s : State) (lp : Nat) (f : Fld) : Nat := s.fld (clsfPage (sliceOf lp)) (f.sh (8 * qOf lp))

/-- The template of a frame whose selected EtherType is `et`: none where the frame has no template (R93). -/
def State.templateFor (s : State) (lp et : Nat) : Option Nat :=
  let pg := clsfPage (sliceOf lp)
  let o := 0x40 * s.clsLp lp CLSF_LPORT_CFG_PROFILE
  match (List.range 8).find? fun e =>
      s.flag pg (CLSF_SEL_EN.sh (o + 4 * e)) && s.fld pg (CLSF_SEL_ETYPE.sh (o + 4 * e)) == et with
  | some e => some (s.fld pg (CLSF_SEL_TEMPLATE.sh (o + 4 * e)))
  | none => if s.flag pg (CLSF_SEL_DEFAULT_NONE.sh o) then none else some (s.fld pg (CLSF_SEL_DEFAULT_TEMPLATE.sh o))

/-- An extraction unit: offset, length, first key byte (R94, R111); none where it is disabled. -/
def unitOf (w : Word) : Option (Nat × Nat × Nat) :=
  if getBits w 17 1 = 1 then some (getBits w 0 7, getBits w 7 4 + 1, getBits w 11 6) else none
def Template.on (t : Template) : List (Nat × Nat × Nat) := t.units.filterMap unitOf

/-- Why parsing fails: 1 short frame, 2 template overrun (R97). -/
def parseReason (t : Template) (base n : Nat) : Option Nat :=
  if t.on.any fun u => n < base + u.1 + u.2.1 + 4 then some 1
  else if t.on.any fun u => 128 < base + u.1 + u.2.1 then some 2
  else none

/-- The 64 key bytes (R96). -/
def keyBytes (lp tmpl cls colour tags et : Nat) (none1 : Bool) (t : Option Template) (base : Nat) (b : List Byte) : List Byte :=
  let head := leBytes 4 (lp + tmpl * 2 ^ 10 + cls * 2 ^ 16 + colour * 2 ^ 19 + tags * 2 ^ 21 + (if none1 then 2 ^ 23 else 0)) ++
    leBytes 2 et ++ zeros 2
  match t with
  | none => head ++ zeros 56
  | some t => t.on.foldl (fun k u => patch k u.2.2 (slice b (base + u.1) u.2.1)) (head ++ zeros 56)

/-! ### Rules (R98, R100) -/

/-- VER admits the slice's current rule version. -/
def verAdmits (ver cur : Nat) : Bool := ver == 0 || ver == cur + 1

/-- Lowest matching entry of a slice. -/
def State.ruleMatch (s : State) (sl : Nat) (key : BitVec 512) : Option (Nat × RuleEntry) :=
  let cur := s.fld (clsfPage sl) CLSF_CLSF_CFG_RULE_VERSION
  (s.tables.rules.find? fun e =>
    e.1 / 16384 == sl && e.2.valid && verAdmits e.2.ver cur && ((key ^^^ e.2.value) &&& e.2.mask) == 0).map fun e => (e.1 % 16384, e.2)

/-- An action (R103). -/
structure Action where
  fwd : Nat
  setClass : Bool
  cls : Nat
  setColour : Bool
  colour : Nat
  meterEn : Bool
  meter : Nat
  noLearn : Bool
  mirrorEn : Bool
  mirror : Nat
  target : Nat
  ring : Nat
  deriving DecidableEq, Repr

def readAction (w : List Word) : Action :=
  let f := fun lo n => wBits (w.getD 0 0) lo n
  { fwd := f 0 3, setClass := f 3 1 = 1, cls := f 4 3, setColour := f 7 1 = 1, colour := f 8 2, meterEn := f 10 1 = 1, meter := f 11 15
    noLearn := f 26 1 = 1, mirrorEn := f 27 1 = 1, mirror := f 28 4, target := (w.getD 1 0).toNat, ring := wBits (w.getD 2 0) 0 4 }

def wordsOf (n : Nat) (v : Nat) : List Word := (List.range n).map fun i => BitVec.ofNat 32 (v / 2 ^ (32 * i))
def natOf (ws : List Word) : Nat := ws.foldr (fun w n => w.toNat + 2 ^ 32 * n) 0

/-- The default action profile of a logical port (R104). -/
def State.defAction (s : State) (lp : Nat) : Action :=
  readAction (s.winGet (clsfPage (sliceOf lp)) (0x800 + 0x10 * s.clsLp lp CLSF_LPORT_CFG_DEF_ACT) 4)

/-- An action holds a refused value (R103, R111). -/
def actionRefused (w : List Word) : Bool :=
  let a := readAction w
  5 < a.fwd || a.colour = 3

/-! ### Meters (R105 to R107) -/

/-- Credit of `dt` ns in 1/4,096 byte, and the residue kept. -/
def meterCredit (rate dt res : Nat) : Nat × Nat := let x := rate * dt * 4096 + res; (x / 125000, x % 125000)

def Meter.aware (m : Meter) : Bool := wBits m.mode 0 1 == 1
def Meter.coupled (m : Meter) : Bool := wBits m.mode 1 1 == 1
def Meter.dropRed (m : Meter) : Bool := wBits m.mode 2 1 == 1
def Meter.lenAdj (m : Meter) : Int := signed 6 (wBits m.mode 3 6)
def Meter.en (m : Meter) : Bool := wBits m.mode 9 1 == 1

/-- Bring the buckets to stamp `t`. -/
def Meter.refill (m : Meter) (t : Nat) : Meter :=
  let d := stampAge t m.last
  let (dt, last) := if 2 ^ 39 ≤ d then (0, m.last) else (d, t)
  let (c, rc) := meterCredit m.cir dt m.resC
  let (e, re) := meterCredit m.eir dt m.resE
  let tc := m.tc + c
  let past := tc - m.cbs * 4096
  let e := e + (if m.coupled then past else 0)
  { m with
    tc := min tc (m.cbs * 4096), te := min (m.te + e) (m.ebs * 4096), resC := rc, resE := re, last := last
    acctC := m.acctC.move c 0 past, acctE := m.acctE.move e 0 (m.te + e - m.ebs * 4096) }

/-- A meter with full buckets; the audit skips it for the interval (R107, R172). -/
def Meter.fill (m : Meter) : Meter :=
  let c := m.cbs * 4096
  let e := m.ebs * 4096
  { m with tc := c, te := e, acctC := .from_ c true, acctE := .from_ e true }

/-- A frame of length `len` and input colour `c`: the meter after it and the colour out (R106). -/
def Meter.update (m : Meter) (c len t : Nat) : Meter × Nat :=
  let m := m.refill t
  let c := if m.aware then c else 0
  let l := len * 4096
  let (m, out) :=
    if c = 0 && l ≤ m.tc then ({ m with tc := m.tc - l, acctC := m.acctC.move 0 l 0 }, 0)
    else if c ≠ 2 && l ≤ m.te then ({ m with te := m.te - l, acctE := m.acctE.move 0 l 0 }, 1)
    else (m, 2)
  ({ m with
    frames := m.frames.set out ((m.frames.getD out 0 + 1) % 2 ^ 64), bytes := m.bytes.set out ((m.bytes.getD out 0 + len) % 2 ^ 64) }, out)

def meterKey (sl i : Nat) : Nat := sl * 32768 + i

/-- A frame meets meter `i`: its colour, and whether it is discarded (R106, R107). -/
def State.meterFrame (s : State) (sl i c size stamp : Nat) : State × Nat × Bool :=
  let m := s.meter (meterKey sl i)
  if !m.en then (s.count (metrPage sl) 0x98, c, false)
  else
    let len := max 1 ((size : Int) + m.lenAdj).toNat
    let (m', out) := m.update c len stamp
    let s := s.setMeter (meterKey sl i) m'
    if out = 2 && m.dropRed then (s.count (metrPage sl) 0x90, out, true) else (s, out, false)

/-! ### Windows (R95, R99 to R101, R107, R108) -/

def ruleKey (sl i : Nat) : Nat := sl * 16384 + i
def tmplKey (sl i : Nat) : Nat := sl * 64 + i

/-- Offset of the rule window of the host or of firmware. -/
def ruleWin (w : Who) : Nat := match w with | .fw _ _ => 0x280 | _ => 0x180

/-- The index lies in the range open to the requester (R101). -/
def State.ruleOpen (s : State) (sl : Nat) (w : Who) (i : Nat) : Bool :=
  match w with
  | .fw _ _ =>
    let b := s.fld (clsfPage sl) CLSF_FW_RULE_RANGE_FW_BASE
    b ≤ i && i < b + s.fld (clsfPage sl) CLSF_FW_RULE_RANGE_FW_COUNT
  | _ => true

/-- A refused write or command: CLSF_CFG.REFUSED, or the firmware window's own bit (R111). -/
def State.ruleRefuse (s : State) (sl : Nat) (w : Who) (b : Bool) : State :=
  match w with
  | .fw _ _ => s.setFld (clsfPage sl) (CLSF_RULE_CMD_REFUSED.sh 0x100) (if b then 1 else 0)
  | _ => s.setFld (clsfPage sl) CLSF_CLSF_CFG_REFUSED (if b then 1 else 0)

/-- Run a rule window command unless it is busy or outside the range. -/
def State.ruleWindow (s : State) (sl : Nat) (w : Who) (i : Nat) (run : State → Nat → State) : State :=
  let o := ruleWin w - 0x180
  if s.flag (clsfPage sl) (CLSF_RULE_CMD_BUSY.sh o) || !s.ruleOpen sl w i then s.ruleRefuse sl w true
  else run ((s.ruleRefuse sl w false).setFld (clsfPage sl) (CLSF_RULE_CMD_INDEX.sh o) i) o

/-- RULE_WRITE (R99): OP = 1 stores the window's value, mask, action and VER, clears the hit counter and sets the valid bit. -/
def State.doRuleWrite (s : State) (sl : Nat) (w : Who) (i ver : Nat) : State :=
  s.ruleWindow sl w i fun s o =>
    let pg := clsfPage sl
    let act := s.winGet pg (0x204 + o) 4
    if ver = 3 || actionRefused act then s.ruleRefuse sl w true
    else
      let a := natOf [act.getD 0 0, act.getD 1 0, wMask (act.getD 2 0) 0xF, 0]
      (s.setFld pg (CLSF_RULE_CMD_VER.sh o) ver).setRule (ruleKey sl i)
        { value := BitVec.ofNat 512 (natOf (s.winGet pg (0x184 + o) 16)), mask := BitVec.ofNat 512 (natOf (s.winGet pg (0x1C4 + o) 16))
          action := BitVec.ofNat 128 a, ver := ver, valid := true, hits := 0 }

/-- RULE_READ (R99): OP = 2 loads the entry. -/
def State.doRuleRead (s : State) (sl : Nat) (w : Who) (i : Nat) : State :=
  s.ruleWindow sl w i fun s o =>
    let pg := clsfPage sl
    let r := s.rule (ruleKey sl i)
    let s := ((s.winPut pg (0x184 + o) (wordsOf 16 r.value.toNat)).winPut pg (0x1C4 + o) (wordsOf 16 r.mask.toNat)).winPut pg (0x204 + o)
      (wordsOf 4 r.action.toNat)
    let s := s.winPut pg (0x214 + o) (wordsOf 2 r.hits)
    (s.setFld pg (CLSF_RULE_CMD_VER.sh o) r.ver).setFld pg (CLSF_RULE_CMD_VALID.sh o) (if r.valid then 1 else 0)

/-- RULE_INVALIDATE (R99): OP = 3 clears the valid bit and the hit counter. -/
def State.doRuleInvalidate (s : State) (sl : Nat) (w : Who) (i : Nat) : State :=
  s.ruleWindow sl w i fun s _ =>
    let r := s.rule (ruleKey sl i)
    s.setRule (ruleKey sl i) { r with valid := false, hits := 0 }

/-- A template is refused (R95). -/
def templateRefused (us : List Word) : Bool :=
  let l := us.filterMap unitOf
  let cover := l.flatMap fun u => (List.range u.2.1).map (u.2.2 + ·)
  (l.any fun u => 128 < u.1 + u.2.1 || u.2.2 < 8 || 64 < u.2.2 + u.2.1) || (List.range 64).any fun k => 2 ≤ cover.count k

/-- TEMPLATE_WRITE (R95): OP = 1 of TMPL_CMD. -/
def State.doTemplateWrite (s : State) (sl i : Nat) : State :=
  let pg := clsfPage sl
  s.winBusy pg CLSF_TMPL_CMD_BUSY CLSF_CLSF_CFG_REFUSED fun s =>
    let s := s.setFld pg CLSF_TMPL_CMD_INDEX i
    let us := (s.winGet pg 0x108 16).map fun w => wMask w 0x3FFFF
    if templateRefused us then s.setFld pg CLSF_CLSF_CFG_REFUSED 1
    else s.setTemplate (tmplKey sl i) { base := s.flag pg CLSF_TMPL_CFG_BASE, units := us }

/-- TEMPLATE_READ: OP = 2 of TMPL_CMD. -/
def State.doTemplateRead (s : State) (sl i : Nat) : State :=
  let pg := clsfPage sl
  s.winBusy pg CLSF_TMPL_CMD_BUSY CLSF_CLSF_CFG_REFUSED fun s =>
    let t := s.template (tmplKey sl i)
    ((s.setFld pg CLSF_TMPL_CMD_INDEX i).setFlag pg CLSF_TMPL_CFG_BASE t.base).winPut pg 0x108 t.units

/-- METER_WRITE (R105, R107): the new configuration starts from full buckets. R107 names no last update time at that instant: it is the
instant of the write here (DESIGN CHOICE, log 114). -/
def State.doMeterWrite (s : State) (sl i : Nat) : State :=
  let pg := metrPage sl
  s.winBusy pg METR_MTR_CMD_BUSY METR_METR_CFG_REFUSED fun s =>
    let s := s.setFld pg METR_MTR_CMD_INDEX i
    let cir := s.fld pg METR_MTR_CIR_RATE
    let cbs := s.fld pg METR_MTR_CBS_BURST
    let eir := s.fld pg METR_MTR_EIR_RATE
    let ebs := s.fld pg METR_MTR_EBS_BURST
    if (0 < cir && cbs < 12288) || (0 < eir && ebs < 12288) then s.setFld pg METR_METR_CFG_REFUSED 1
    else
      let m := s.meter (meterKey sl i)
      s.setMeter (meterKey sl i) ({ m with
        cir := cir, cbs := cbs, eir := eir, ebs := ebs, mode := wMask (s.rd (regA pg 0x114)) 0x3FF, resC := 0, resE := 0
        last := s.stamp } : Meter).fill

/-- METER_READ (R108): configuration, counters and buckets of one instant. -/
def State.doMeterRead (s : State) (sl i : Nat) : State :=
  let pg := metrPage sl
  s.winBusy pg METR_MTR_CMD_BUSY METR_METR_CFG_REFUSED fun s =>
    let m := s.meter (meterKey sl i)
    let f := fun (n : Nat) => BitVec.ofNat 32 n
    let s := (s.setFld pg METR_MTR_CMD_INDEX i).winPut pg 0x104 [f m.cir, f m.cbs, f m.eir, f m.ebs, m.mode]
    let s := s.each (List.range 3) fun s k => (s.setCtr pg (0x120 + 0x10 * k) (m.frames.getD k 0)).setCtr pg (0x128 + 0x10 * k) (m.bytes.getD k 0)
    s.winPut pg 0x150 [f (m.tc / 4096), f (m.te / 4096)]

/-- METER_REFILL (R106): the background refill of an enabled meter. -/
def State.doMeterRefill (s : State) (sl i : Nat) : State :=
  let m := s.meter (meterKey sl i)
  if m.en then s.setMeter (meterKey sl i) (m.refill s.stamp) else s

end Sys2Proof.Machine
end

