-- ==== Sys2Proof/Machine/Ingress.lean ====
section
/-! DEFINITION. A frame from its first byte to its queue: reception, lookup and action (R93 to R104), bridging (R116 to R122, R126),
cut-through or store-and-forward (R220), the end of reception (R68), learn requests (R127), and the arrival check (R319, R320). -/

namespace Sys2Proof.Machine

/-! ### Arrival check (R319, R320) -/

/-- Windows of class `c` among segments laid from `a`: merged (start, end) pairs. -/
def openWindows (c : Nat) : List (Nat × Nat × Nat) → Int → Option Int → List (Int × Int)
  | [], t, some a => [(a, t)]
  | [], _, none => []
  | (g, _, i) :: r, t, st =>
    if g.testBit c then openWindows c r (t + i) (some (st.getD t))
    else (match st with | some a => [(a, t)] | none => []) ++ openWindows c r (t + i) none

/-- The arrival of a frame passes (R319): `at_` is its partner's start and `w` its wire time. -/
def State.arrivalPass (s : State) (p c : Nat) (at_ : Int) (w : Nat) : Bool :=
  let g := s.gate p
  let l := g.oper
  let segs := l.segs
  if l.cycle = 0 || segs.all fun x => x.1.testBit c then true
  else
    let first : Int := g.operBase + ((at_ - g.operBase) / (l.cycle : Int) - 1) * l.cycle
    let tol : Int := s.selvedge p
    let guard : Int := l.selvedge
    (openWindows c (segs ++ segs ++ segs) first none).any fun x => x.1 + guard - tol ≤ at_ && at_ + w ≤ x.2 - guard + tol

/-- A newly committed list took effect in this loom period (R320). -/
def State.listFresh (s : State) (p : Nat) : Bool :=
  let d := s.gateNow p - (s.gate p).operBase
  d ≤ 640 && s.sliceCycle / 1024 == ((s.now - d) * 8 / 5) / 1024 && (s.gate p).oper.en

/-- ARRIVAL_CHECK and BREACH_DECLARE on a received frame (R319, R320). -/
def State.arrivalCheck (s : State) (lp c stamp len : Nat) : State :=
  let p := physOf lp
  let g := s.gate p
  if !s.flag timePage (TIME_ARR_CFG_ARR_EN.sh (4 * p)) || !g.oper.en || s.breach p = 2 then s
  else
    let (n, b) := s.arrival p
    let t : Int := s.timeIn g.oper.tb (s.stampTime stamp) / 65536 - s.fld timePage (TIME_ARR_CFG_LINK_DELAY.sh (4 * p))
    let pass := s.arrivalPass p c t (wireNs (s.rateOf lp) ((len : Int) + signed 7 (s.schdF (sliceOf lp) 0 (qOf lp) 2 0 7)).toNat)
    let s := s.setArrival p (n + 1, if pass then b else b + 1)
    let wake : Bool := match g.wakeUntil with | some (d, k) => s.dtNs < d && k != 0 | none => false
    let g := { g with wakeUntil := match g.wakeUntil with
      | some (d, k) => if wake then some (d, k - 1) else none
      | none => none }
    if pass then s.setGate p g
    else
      let fails := (g.fails.filter fun x => s.dtNs < x + nsPerSec) ++ [s.dtNs]
      let due := wake || s.fld timePage (TIME_ARR_CFG_BREACH_LIMIT.sh (4 * p)) ≤ fails.length
      if due && !s.listFresh p then
        (s.setGate p { g with fails := [], wakeUntil := none }).declareBreach p
      else s.setGate p { g with fails := fails }

/-! ### Lookup -/

/-- Class and colour before the action (R102). -/
def State.baseClass (s : State) (lp : Nat) (b : List Byte) : Nat × Nat :=
  let tci := beAt b 14 2
  if tagCount b = 0 then (s.clsLp lp CLSF_LPORT_CFG_DEF_CLASS, 0)
  else
    (if s.clsLp lp CLSF_LPORT_CFG_TRUST_PCP = 1 then bitsOf (s.clsLp lp CLSF_LPORT_PCP_PCP_MAP) (3 * bitsOf tci 13 3) 3
      else s.clsLp lp CLSF_LPORT_CFG_DEF_CLASS,
     if s.clsLp lp CLSF_LPORT_CFG_DEI_YELLOW = 1 && bitsOf tci 12 1 = 1 then 1 else 0)

/-- Parse a frame and look its key up (R93 to R98, R104): the action and the rule number of R398. -/
def State.classify (s : State) (lp : Nat) (b : List Byte) : State × Action × Nat :=
  let sl := sliceOf lp
  let pg := clsfPage sl
  let tags := tagCount b
  let base := 12 + 4 * tags
  let et := etypeAt b base
  let tn := s.templateFor lp et
  let t := tn.map fun i => s.template (tmplKey sl i)
  let prof := s.clsLp lp CLSF_LPORT_CFG_DEF_ACT
  let start := match t with | some t => if t.base then base else 0 | none => 0
  match t.bind fun t => parseReason t start b.length with
  | some r =>
    let s := s.count pg (if r = 1 then 0x98 else 0xA0)
    let s := (((s.setFld pg CLSF_PARSE_CAPTURE_LPORT (qOf lp)).setFld pg CLSF_PARSE_CAPTURE_TEMPLATE (tn.getD 0)).setFld pg
      CLSF_PARSE_CAPTURE_REASON r).setFld pg CLSF_PARSE_CAPTURE_VALID 1
    (s.raise pg 0, s.defAction lp, 0xD000 + prof)
  | none =>
    let (c, k) := s.baseClass lp b
    let key := keyBytes lp (tn.getD 0) c k tags et tn.isNone t start b
    match s.ruleMatch sl (BitVec.ofNat 512 (leNat key)) with
    | some (i, r) =>
      (s.setRule (ruleKey sl i) { r with hits := (r.hits + 1) % 2 ^ 64 }, readAction (wordsOf 4 r.action.toNat), i)
    | none => (s.count pg 0x90, s.defAction lp, 0xC000 + prof)

/-- Add 1 to counter `n` of a bridge domain: INSERT_FAIL, MAC_MOVE, LIMIT_HIT, UNKNOWN_UC, MOVE_VIOLATION. -/
def State.bdCount (s : State) (bd n : Nat) : State :=
  let l := s.bdCnt bd
  s.setBdCnt bd (l.set n ((l.getD n 0 + 1) % 2 ^ 64))

def State.tblCtr (s : State) (n : Nat) : State := s.count tblsPage (0x100 + 8 * n)

/-- The bridge-domain stage (R117, R118): discarded by ACCEPT, or the domain found. -/
inductive BdStage where
  | accept
  | miss
  | found (bd : Nat)
  deriving DecidableEq, Repr

def State.bdStage (s : State) (lp : Nat) (b : List Byte) : State × BdStage :=
  let c := s.copyOf (sliceOf lp)
  let vid := if tagCount b = 0 then 0 else beAt b 14 2 % 4096
  let acc := c.lportF lp 0 20 2
  if (acc = 1 && vid = 0) || (acc = 2 && vid ≠ 0) then (s.tblCtr 5, .accept)
  else
    let v := if vid = 0 then c.lportF lp 0 8 12 else vid
    let x := c.vxltW (c.lportF lp 0 0 8 * 4096 + v)
    let bd := entF x 0 0 14
    if entF x 0 14 1 = 0 || c.bdF bd 0 0 1 = 0 then (s.tblCtr 4, .miss) else (s, .found bd)

/-- What the source check found (R126). -/
structure SrcCheck where
  drop : Bool
  learn : Bool
  /-- the request is a move request -/
  move : Bool
  deriving DecidableEq, Repr

/-- SOURCE_ADDRESS_CHECK (R126): `may` says that the frame may send a request. -/
def State.srcCheck (s : State) (lp bd : Nat) (b : List Byte) (may : Bool) : State × SrcCheck :=
  let sl := sliceOf lp
  let c := s.copyOf sl
  let a := BitVec.ofNat 48 (saOf b)
  match s.macFind c bd a with
  | some (i, e) =>
    if e.destType = 0 && e.dest = lp then (s.setCopy sl { c with hit := mset false c.hit i true }, { drop := false, learn := false, move := false })
    else if e.static || c.bdF bd 0 3 1 = 0 then
      ((s.bdCount bd 4).raise tblsPage 4, { drop := c.bdF bd 0 4 1 = 1, learn := false, move := false })
    else (s, { drop := false, learn := may, move := true })
  | none =>
    if may && c.bdF bd 0 8 1 = 1 then ((s.bdCount bd 2).raise tblsPage 5, { drop := c.bdF bd 0 5 1 = 1, learn := false, move := false })
    else (s, { drop := false, learn := may, move := false })

/-- A destination that the lookup found, unless it is the ingress logical port without HAIRPIN (R121). -/
def State.notSelf (s : State) (lp bd : Nat) (d : Dest) : State × Dest :=
  match d with
  | .lport x => if x = lp && (s.copyOf (sliceOf lp)).bdF bd 0 6 1 = 0 then (s.tblCtr 7, .none) else (s, d)
  | _ => (s, d)

/-- DESTINATION_LOOKUP (R120). A multicast hit with another DEST_TYPE acts as that type (DEDUCED, log 64). The logical port of an entry
with DEST_TYPE 0 is DEST modulo 1,024, as R120 does not say what a larger DEST names (DESIGN CHOICE, log 116). -/
def State.destLookup (s : State) (lp bd : Nat) (b : List Byte) : State × Dest :=
  let sl := sliceOf lp
  let c := s.copyOf sl
  let da := daOf b
  let flood := c.bdF bd 1 0 16
  if da = broadcastAddr then (s, .group flood)
  else
    match s.macFind c bd (BitVec.ofNat 48 da) with
    | some (_, e) =>
      if e.destType = 3 then (s.tblCtr 8, .none)
      else if e.destType = 1 then (s, .group (e.dest % 65536))
      else if e.destType = 2 then
        let (s, d) := s.routeTo sl e.dest
        s.notSelf lp bd d
      else s.notSelf lp bd (.lport (e.dest % 1024))
    | none => if isGroup da then (s, .group (c.bdF bd 1 16 16)) else (s.bdCount bd 3, .group flood)

/-- The choice of R220 for a logical port and class: cut-through. -/
def State.cutThrough (s : State) (lp c : Nat) : Bool :=
  let p := physOf lp
  let pg := xbarPage (p / 32)
  let o := bitsOf (s.fld pg (XBAR_FWD_MODE_CLASS_OVR.sh (4 * (p % 32)))) (2 * c) 2
  (if o = 1 then false else if o = 2 then true else s.flag pg (XBAR_FWD_MODE_PORT_CT.sh (4 * (p % 32))))
    && !s.packOn lp && !s.cellOn p

/-- Number of a reception among those of every logical port. -/
def rxId (lp k : Nat) : Nat := lp + 1024 * k

/-- The copies of a frame in the direction of its destination, held apart or cut-through (R158, R220). -/
def State.placeFrame (s : State) (lp k : Nat) (r : RxFrame) (f : Frame) (d : Dest) : State × RxFrame :=
  let sl := sliceOf lp
  match d with
  | .lport x =>
    if s.cutThrough x f.cls && !f.injected then
      match s.voqAdmit sl f.acct f.cls (cellsOf (s.maxFrame lp)) with
      | (s, none) => (s, r)
      | (s, some ch) =>
        -- what the lookup may have read has arrived
        let n := min (r.bytes.length - 1) (max 128 (s.rxArrived lp r))
        let f := { f with bytes := r.bytes.take n }
        let q := uniQ (physOf x) f.cls
        (s.voqBegin sl q f (rxId lp k) (subOf x) ch, { r with ct := some { q := q, entered := n, charge := ch, f := f } })
    else
      let (s, l) := s.pendTo sl f (s.maxFrame lp) d
      (s, { r with pending := r.pending ++ l })
  | _ =>
    let (s, l) := s.pendTo sl f (s.maxFrame lp) d
    (s, { r with pending := r.pending ++ l })

/-- RULE_LOOKUP on a received frame (R93 to R104, R116 to R122, R138, R158). -/
def State.lookup (s : State) (lp k : Nat) (r : RxFrame) : State × RxFrame :=
  let sl := sliceOf lp
  let b := r.bytes
  let (c0, col0) := s.baseClass lp b
  let (s, a, rule) := s.classify lp b
  let cls := if a.setClass then a.cls else c0
  let col := if a.setColour then a.colour else col0
  let tags := tagCount b
  let mayLearn := r.wantsLearn
  let r := { r with looked := true, cls := cls, wantsLearn := false }
  let f : Frame :=
    { bytes := b, stamp := r.stamp, inLport := lp, cls := cls, colour := col, sid := 0, vid := if tags = 0 then 0 else beAt b 14 2 % 4096
      tags := tags, mcast := false, group := 0, mirrorCopy := false, session := none, injected := r.injected, uncal := r.uncal, unlocked := r.unlocked }
  -- the ingress copy, before the meter and before a drop (R103, R138)
  let ses := if a.mirrorEn then some a.mirror
    else if a.fwd = 1 || a.fwd = 4 then none
    else let cp := s.copyOf sl; if cp.lportF lp 1 0 1 = 1 then some (cp.lportF lp 1 1 4) else none
  let (s, r) := match ses with
    | some n => let (s, l) := s.mirrorPend sl n f (s.maxFrame lp); (s, { r with pending := r.pending ++ l })
    | none => (s, r)
  if a.fwd = 1 then (s.count (clsfPage sl) 0xA8, r)
  else
    let (s, col, red) := if a.meterEn then s.meterFrame sl a.meter col b.length r.stamp else (s, col, false)
    let f := { f with colour := col }
    if red then (s, r)
    else if a.fwd = 4 then
      let p : Pend := { dest := .punt a.ring 1 rule, f := f, mirror := none, trunc := none }
      (s.count (clsfPage sl) 0xB0, { r with passed := true, pending := r.pending ++ [p] })
    else if a.fwd = 2 && (1024 ≤ a.target || !s.inUse a.target) then (s.count (clsfPage sl) 0xB8, r)
    else
      let r := { r with passed := true }
      let r := if a.fwd = 5 then
          { r with pending := r.pending ++ [{ dest := .punt a.ring 2 rule, f := f, mirror := none, trunc := none }] }
        else r
      let redirect := a.fwd = 2 || a.fwd = 3
      match s.bdStage lp b with
      | (s, .accept) => (s, r)
      | (s, st) =>
        if st = .miss && !redirect then (s, r)
        else if isGroup (saOf b) then (s.tblCtr 6, r)
        else
          let cp := s.copyOf sl
          let (s, chk, f, bd) := match st with
            | .found bd =>
              let may := mayLearn && !a.noLearn && cp.lportF lp 0 22 1 = 1 && cp.bdF bd 0 1 1 = 1
              let (s, chk) := s.srcCheck lp bd b may
              (s, chk, { f with sid := bd }, bd)
            | _ => (s, { drop := false, learn := false, move := false }, f, 0)
          if chk.drop then (s, r)
          else
            let r := { r with wantsLearn := chk.learn, moves := chk.move, domain := bd }
            if a.fwd = 2 then s.placeFrame lp k r f (.lport a.target)
            else if a.fwd = 3 then
              let (s, d) := s.routeTo sl a.target
              s.placeFrame lp k r f d
            else
              let (s, d) := s.destLookup lp bd b
              s.placeFrame lp k r f d

/-! ### Learn requests (R127) -/

def learnKey (bd : Nat) (addr : Nat) : Nat := bd * 2 ^ 48 + addr

/-- LEARN_REQUEST_SEND: a slice sends a request unless its filter holds the key (R127). -/
def State.learnSend (s : State) (lp bd addr : Nat) (move : Bool) : State :=
  let sl := sliceOf lp
  let fl := s.tables.filter.getD sl []
  let k := learnKey bd addr
  if fl.any fun x => x.1 == k then s
  else s.onTables fun t => { t with
    requests := t.requests.set sl (t.requests.getD sl [] ++ [.learn sl bd (BitVec.ofNat 48 addr) lp move])
    filter := if fl.length < 64 then t.filter.set sl (fl ++ [(k, none)]) else t.filter }

/-! ### Commands -/

/-- Frames may come in on a logical port from source `k` (R73, R241): from its MAC on a plain Ethernet logical port, from its express MAC
where preemption is supported, and from a valid client that names it on a member logical port. -/
def State.rxOpen (s : State) (lp k : Nat) : Bool :=
  s.isUp lp && !s.cellOn (physOf lp) &&
    (match s.flexGroup lp with
     | none => k = 0 || (k = 1 && s.framed lp)
     | some g => 2 ≤ k && (s.client (k - 2)).valid && (s.client (k - 2)).lport = lp && (s.client (k - 2)).group = g)

/-- A frame begins: its stamp is the island's time at its first byte, marked where that is uncalibrated or unlocked (R17, R54, R16). -/
def State.rxNew (s : State) (lp : Nat) (bytes : List Byte) : RxFrame :=
  { bytes := bytes, stamp := s.islStamp (sliceOf lp), since := s.now, uncal := s.uncalPort (physOf lp)
    unlocked := !(s.island (sliceOf lp)).dtLock, injected := false, looked := false, ct := none, wantsLearn := true, moves := false, domain := 0
    cls := 0, clsf := [], passed := false, pending := [] }

/-- FRAME_RECEIVE_START (R17, R63): the first byte after a start delimiter crosses the connector face of a sub-port that is UP. The
preamble before it may hold anything; a bad start delimiter is a mark of the frame's end (R68 row 4). -/
def State.doFrameReceiveStart (s : State) (lp k : Nat) (bytes : List Byte) : State :=
  if !s.rxOpen lp k || (s.rxOf lp k).isSome then s else s.setRx lp k (some (s.rxNew lp bytes))

/-- Registers take the values of a list. -/
def State.wrAll (s : State) (l : Map Word) : State := l.foldl (fun s e => s.wr e.1 e.2) s

/-- A frame is looked up under the CLSF registers that were in force when it began (R100, R488: parsing begins with the first byte,
DEDUCED, log 110). -/
def State.lookupRx (s : State) (lp k : Nat) (r : RxFrame) : State × RxFrame :=
  let (t, r') := (s.wrAll r.clsf).lookup lp k r
  (t.wrAll (r.clsf.map fun e => (e.1, s.rd e.1)), r')

/-- RULE_LOOKUP (R97): once for a frame; a MAC control frame is not looked up (R67). -/
def State.doRuleLookup (s : State) (lp k : Nat) : State :=
  match s.rxOf lp k with
  | none => s
  | some r =>
    if r.looked || etypeAt r.bytes 12 = 0x8808 then s
    else
      let (s, r) := s.lookupRx lp k r
      s.setRx lp k (some r)

/-- Bytes of a frame that the MAC stores: up to one above MAX_FRAME (R68). -/
def State.stored (s : State) (lp : Nat) (bytes : List Byte) : List Byte := bytes.take (s.maxFrame lp + 1)

/-- A reception is broken off or ends in error: its copies are discarded, a cut-through one ends with `status` after the bytes that have
arrived (R68, R69, R209). -/
def State.rxBreak (s : State) (lp k status : Nat) (r : RxFrame) (arrived : List Byte) : State :=
  let sl := sliceOf lp
  let s := r.pending.foldl (fun s p => s.dropPend sl p) s
  match r.ct with
  | some c => s.voqEnd sl c.q (rxId lp k) { c.f with bytes := arrived } (arrived.drop c.entered) status c.charge
  | none => s

/-- A reception ends without error: its copies enter their queues (R220). -/
def State.rxGood (s : State) (lp k : Nat) (r : RxFrame) : State :=
  let sl := sliceOf lp
  let s := r.pending.foldl (fun s p => s.enterPend sl p r.bytes) s
  let s := match r.ct with
    | some c =>
      let (s, ch) := s.voqShrink sl c.charge (c.charge.cells - cellsOf r.bytes.length)
      s.voqEnd sl c.q (rxId lp k) { c.f with bytes := r.bytes } (r.bytes.drop c.entered) 0 ch
    | none => s
  if r.wantsLearn then s.learnSend lp r.domain (saOf r.bytes) r.moves else s

/-- A frame that is no MAC control frame has ended (R68, R86, R127, R220, R319). -/
def State.frameEnd (s : State) (lp k : Nat) (r : RxFrame) (e : RxEnd) : State :=
  let err := s.rxError lp r.bytes e
  let s := s.rxCount lp r.bytes err e.fragments
  if err.isSome then s.rxBreak lp k 1 r (s.stored lp r.bytes)
  else
    let s := s.rxGood lp k r
    let sl := sliceOf lp
    let s := (s.perfHit sl 0x08 1 none none (some r.cls) none).perfHit sl 0x09 (ceilDiv r.bytes.length 64) none none (some r.cls) none
    if r.passed then s.arrivalCheck lp r.cls r.stamp r.bytes.length else s

/-- FRAME_RECEIVE_END (R67, R68): a frame not looked up yet is looked up first. -/
def State.doFrameReceiveEnd (s : State) (lp k : Nat) (e : RxEnd) : State :=
  match s.rxOf lp k with
  | none => s
  | some r =>
    if etypeAt r.bytes 12 = 0x8808 then (s.setRx lp k none).controlEnd lp r.bytes e
    else
      let (s, r) := if r.looked then (s, r) else s.lookupRx lp k r
      (s.setRx lp k none).frameEnd lp k r e

/-- A reception of a sub-port that leaves UP ends in RX_CODE_ERR with END_STATUS 2, after the bytes that have arrived (R69, R209). A
reception that did not complete moves no octet counter and no size bucket (R86). -/
def State.rxCut (s : State) (lp k : Nat) : State :=
  match s.rxOf lp k with
  | none => s
  | some r =>
    let n := match r.ct with | some c => max (c.entered + 1) (s.rxArrived lp r) | none => 0
    ((s.setRx lp k none).portCtr lp 32).rxBreak lp k 2 r (s.stored lp (r.bytes.take n))
/-- Every reception of a sub-port that leaves UP is cut. -/
def State.rxAbort (s : State) (lp : Nat) : State := s.each ((s.mac lp).rx.map (·.1)) fun s k => s.rxCut lp k

/-- A whole frame that a pack unit rebuilt enters reception at once (R67, R250). -/
def State.receiveWhole (s : State) (lp k : Nat) (bytes : List Byte) (e : RxEnd) : State :=
  ((s.setRx lp k (some (s.rxNew lp bytes))).doRuleLookup lp k).doFrameReceiveEnd lp k e

end Sys2Proof.Machine
end

