-- ==== Sys2Proof/Machine/Tables.lean ====
section
/-! DEFINITION. The replicated tables (chapter 05): the update sequencer and its copies (R127 to R131), learning, aging and flushes
(R132 to R135), the table window (R142, R143), snooped members (R123), and the scrubber (R109, R139, R140). -/

namespace Sys2Proof.Machine

/-! ### Copies -/

/-- Apply one change to a copy. A hit bit is set with a learned, moved, inserted or repaired entry, and kept by other changes (R126). -/
def TblCopy.apply (c : TblCopy) (w : TblWrite) : TblCopy :=
  match w with
  | .lport i ws => { c with lport := mset dfltTblLport c.lport i ws }
  | .vxlt i ws => { c with vxlt := mset dfltTblVxlt c.vxlt i ws }
  | .bd i ws => { c with bd := mset dfltTblBd c.bd i ws }
  | .mac i e h => { c with
      mac := mset none c.mac i e
      hit := if e.isNone then mset false c.hit i false else if h then mset false c.hit i true else c.hit }
  | .route i e => { c with route := mset none c.route i e }
  | .gmask g m => { c with gmask := mset 0 c.gmask g m }
  | .mirror i ws => { c with mirror := mset dfltTblMirror c.mirror i ws }
  | .linkGroup i ws => { c with linkGroup := mset dfltTblLink c.linkGroup i ws }
  | .lenFilter m => { c with lenFilter := m }

/-- The link groups that `ws` changes in slice `sl` keep their member words for the spray choices until the next cell time (R281, R300). -/
def State.keepGroups (s : State) (sl : Nat) (ws : List TblWrite) : State :=
  ws.foldl (fun (s : State) w => match w with
    | .linkGroup i _ =>
      if (s.grpOld (sl * 4096 + i)).isSome then s
      else s.onTrunk fun t => { t with grpOld := mset none t.grpOld (sl * 4096 + i) (some ((s.copyOf sl).linkW i)) }
    | _ => s) s

/-- An accepted update: the sequencer's own copy takes it, and every copy's queue (R128). -/
def State.pushUpdate (s : State) (u : Update) : State :=
  s.onTables fun t => { t with master := u.writes.foldl TblCopy.apply t.master, copyQueue := t.copyQueue.map (· ++ [u]) }

/-- SEQ_STATUS follows the updates that wait. -/
def State.syncSeq (s : State) : State :=
  let n := min 4096 s.tables.waiting.length
  let s := s.setFld tblsPage TBLS_SEQ_STATUS_DEPTH n
  if s.fld tblsPage TBLS_SEQ_STATUS_PEAK < n then s.setFld tblsPage TBLS_SEQ_STATUS_PEAK n else s

/-- A request reaches the sequencer (R128, R129): `prio` orders those of one cycle. LEARN_BACKLOG fires at 3,072. -/
def State.seqPush (s : State) (prio : Nat) (r : SeqReq) : State :=
  let n := s.tables.waiting.length
  let s := (s.onTables fun t => { t with waiting := t.waiting ++ [(s.now, prio, r)] }).syncSeq
  if n + 1 = 3072 then s.raise tblsPage 1 else s

/-! ### Notifications (R135) -/

/-- Bytes 12 to 31 of a notification; the stamp is taken when the last copy has applied its update. -/
def noteBody (kind newT oldT dom : Nat) (addr new old : Nat) : List Byte :=
  leBytes 1 kind ++ leBytes 1 (newT + 4 * oldT) ++ leBytes 2 dom ++ beBytes 6 addr ++ zeros 2 ++ leBytes 4 new ++ leBytes 4 old
def State.sendNote (s : State) (body : List Byte) : State := s.fifoPush 1 ((timeBytes s.time.dt).take 12 ++ body)
/-- A notification of kinds 1 to 4, where the domain has NOTIFY_EN = 1. -/
def State.noteFor (s : State) (bd : Nat) (body : List Byte) : Option (List Byte) :=
  if s.tables.master.bdF bd 0 7 1 = 1 then some body else none

/-! ### Domains' counts (R131) -/

/-- The write that keeps AT_LIMIT in step with DYN_COUNT. -/
def State.limitWrite (s : State) (bd n : Nat) : List TblWrite :=
  let ws := s.tables.master.bdW bd
  let lim := entF ws 2 0 20
  let at_ : Bool := lim != 0 && lim ≤ n
  if (entF ws 0 8 1 == 1) = at_ then [] else [.bd bd (ws.set 0 (putBits (ws.getD 0 0) 8 1 (if at_ then 1 else 0)))]

/-- DYN_COUNT of a domain changes; the write for AT_LIMIT follows. -/
def State.dynAdd (s : State) (bd : Nat) (n : Int) : State × List TblWrite :=
  let v := ((s.dynCount bd : Int) + n).toNat
  ((s.setDynCount bd v), s.limitWrite bd v)

/-! ### The table window -/

def tblWin (fw : Bool) : Nat := if fw then 0x80 else 0
def State.tblData (s : State) (fw : Bool) : List Word := s.winGet tblsPage (0x404 + tblWin fw) 16
def State.tblPut (s : State) (fw : Bool) (ws : List Word) : State :=
  s.winPut tblsPage (0x404 + tblWin fw) ((List.range 16).map fun i => ws.getD i 0)
def State.tblResult (s : State) (fw : Bool) (r : Nat) : State := s.setFld tblsPage (TBLS_TBL_CMD_RESULT.sh (tblWin fw)) r
def State.tblBusy (s : State) (fw b : Bool) : State := s.setFlag tblsPage (TBLS_TBL_CMD_BUSY.sh (tblWin fw)) b
def State.tblDone (s : State) (fw : Bool) (r : Nat) : State := (s.tblResult fw r).tblBusy fw false

def keyBd (d : List Word) : Nat := wBits (d.getD 1 0) 16 14
def keyAddr (d : List Word) : BitVec 48 := BitVec.ofNat 48 ((d.getD 0 0).toNat + 2 ^ 32 * wBits (d.getD 1 0) 0 16)

/-- Words of a MAC entry read from slot `i` (R143). -/
def State.macWords (s : State) (i : Nat) (e : MacEntry) : List Word :=
  let f := fun (n : Nat) => BitVec.ofNat 32 n
  let hits := (List.range 8).foldl (fun n k => n + if mget false (s.copyOf k).hit i then 2 ^ k else 0) 0
  [f e.addr.toNat, f (e.addr.toNat / 2 ^ 32 + e.bd * 2 ^ 16), f e.dest,
   f (e.destType + (if e.static then 4 else 0) + (if e.stale then 8 else 0) + hits * 16 + 2 ^ 31), f i]
def routeWords (i : Nat) (r : RouteEntry) : List Word :=
  [BitVec.ofNat 32 r.prefix_, BitVec.ofNat 32 (r.len + r.nextType * 64 + r.next * 256), BitVec.ofNat 32 i]

/-- Entries of an index table. -/
def TblCopy.indexWords (c : TblCopy) (t i : Nat) : List Word :=
  if t = 0 then c.lportW i else if t = 1 then c.vxltW i else if t = 2 then c.bdW i else c.mirrorW i
def indexBound (t : Nat) : Nat := if t = 0 then 1024 else if t = 1 then 1048576 else if t = 2 then 16384 else if t = 4 then 524288 else 16

/-- A value that a write of an index table refuses (R143). -/
def indexRefused (t : Nat) (d : List Word) : Bool :=
  let w := fun k => d.getD k 0
  if t = 0 then wBits (w 0) 20 2 == 3 || wBits (w 0) 23 2 == 3
  else if t = 2 then 524288 < wBits (w 2) 0 20
  else if t = 7 then wBits (w 0) 6 8 == 0 || 192 < wBits (w 0) 6 8 || wBits (w 2) 0 16 == 0
  else false

/-- A read (OPs 2, 4, 5): RESULT, and the words it loads (R142). -/
def State.tblRead (s : State) (op t i : Nat) (d : List Word) : Nat × Option (List Word) :=
  let c := s.tables.master
  let f := fun (n : Nat) => BitVec.ofNat 32 n
  if op = 5 then
    if t = 3 && i < 524288 then
      match c.macAt i with | some e => (0, some (s.macWords i e)) | none => (0, some [])
    else if t = 6 && i < 65536 then
      match c.routeAt i with | some r => (0, some (routeWords i r)) | none => (0, some [])
    else (3, none)
  else if op = 4 then
    if t = 6 then match s.routeLpm c (d.getD 0 0).toNat with
      | some (i, r) => (0, some (routeWords i r))
      | none => (1, none)
    else (3, none)
  else if t = 0 || t = 1 || t = 7 then (if i < indexBound t then (0, some (c.indexWords t i)) else (3, none))
  else if t = 2 then
    if i < 16384 then (0, some (c.bdW i ++ [f (s.dynCount i)] ++ (s.bdCnt i).flatMap fun n => wordsOf 2 n)) else (3, none)
  else if t = 3 then
    match s.macFind c (keyBd d) (keyAddr d) with | some (i, e) => (0, some (s.macWords i e)) | none => (1, none)
  else if t = 4 then
    if i < 524288 then (0, some (wordsOf 4 (s.grpStatic i) ++ wordsOf 4 (s.grpSnoop i) ++ [f (c.gmaskOf (i / 8))])) else (3, none)
  else if t = 5 then
    let g := wBits (d.getD 0 0) 0 16
    let lp := wBits (d.getD 0 0) 16 10
    match s.member ((sliceOf lp * 65536 + g) * 128 + qOf lp) with
    | some st => (0, some [f (g + lp * 2 ^ 16), f st])
    | none => (1, none)
  else if t = 6 then
    let len := wBits (d.getD 1 0) 0 6
    if 32 < len then (3, none)
    else match s.routeFind c len (prefixOf (d.getD 0 0).toNat len) with
      | some (i, r) => (0, some (routeWords i r))
      | none => (1, none)
  else (3, none)

/-! ### What an accepted request does -/

/-- Outcome of a window command at the sequencer: the state, RESULT, the changes to the copies, and a notification. -/
structure SeqOut where
  st : State
  result : Nat
  writes : List TblWrite
  note : Option (List Byte)

/-- An insertion fails (R131). -/
def State.insertFail (s : State) (bd addr destType dest : Nat) : State × Option (List Byte) :=
  (((s.bdCount bd 0).tblCtr 1).raise tblsPage 0, s.noteFor bd (noteBody 4 destType 0 bd addr dest 0))

def State.macCount (s : State) (n : Int) : State :=
  s.setFld tblsPage TBLS_MAC_COUNT_ENTRIES ((s.fld tblsPage TBLS_MAC_COUNT_ENTRIES : Int) + n).toNat

/-- What an accepted learn or move request does: the state, the changes, the notification, what moves at the end, and whether the
insertion failed. -/
structure LearnOut where
  st : State
  writes : List TblWrite
  note : Option (List Byte)
  fin : UpdEnd
  fail : Bool

/-- A learn or move request is accepted (R128, R130, R131). A duplicate learn request is a hit refresh, a duplicate move request nothing
(R127). -/
def State.acceptLearn (s : State) (bd : Nat) (addr : BitVec 48) (lp : Nat) (move : Bool) : LearnOut :=
  let c := s.tables.master
  let new : MacEntry := { addr := addr, bd := bd, dest := lp, destType := 0, static := false, stale := false }
  match s.macFind c bd addr with
  | some (i, e) =>
    if e.destType = 0 && e.dest = lp then ⟨s, if move then [] else [.mac i (some e) true], none, .none, false⟩
    else if e.static || c.bdF bd 0 3 1 = 0 then ⟨(s.bdCount bd 4).raise tblsPage 4, [], none, .none, false⟩
    else ⟨s, [.mac i (some new) true], s.noteFor bd (noteBody 2 0 e.destType bd addr.toNat lp e.dest), .moved bd, false⟩
  | none =>
    let lim := c.bdF bd 2 0 20
    if lim ≠ 0 && lim ≤ s.dynCount bd then
      ⟨s.bdCount bd 2, [], some (noteBody 5 0 0 bd addr.toNat lp 0), .none, false⟩
    else
      let (h0, h1) := s.macBuckets bd addr
      match placeIn c.macAt h0 h1 with
      | none =>
        let (s, n) := s.insertFail bd addr.toNat 0 lp
        ⟨s, [], n, .none, true⟩
      | some i =>
        let (s, w) := s.dynAdd bd 1
        ⟨s.macCount 1, .mac i (some new) true :: w, s.noteFor bd (noteBody 1 0 0 bd addr.toNat lp 0), .none, false⟩

/-- Remove a MAC entry: counts and AT_LIMIT follow. -/
def State.removeMac (s : State) (i : Nat) (e : MacEntry) : State × List TblWrite :=
  let (s, w) := if e.static then (s, []) else s.dynAdd e.bd (-1)
  (s.macCount (-1), .mac i none false :: w)

/-- A route's length begins or ends to be in use (R137). -/
def State.syncLens (s : State) (m : Nat) : State :=
  (s.setFld tblsPage TBLS_LEN_FILTER_LO_LENS m).setFld tblsPage TBLS_LEN_FILTER_HI_LEN32 (m / 2 ^ 32)

/-- Remove the route of slot `k`: with the last of its length the filter bit clears after it (R137). -/
def State.removeRoute (s : State) (k len : Nat) : State × List TblWrite :=
  let c := s.tables.master
  if c.route.any fun e => e.1 != k && match e.2 with | some x => x.len == len | none => false then (s, [.route k none])
  else
    let m := c.lenFilter - (c.lenFilter &&& 2 ^ len)
    (s.syncLens m, [.route k none, .lenFilter m])

/-- The slice mask of a group with one slice's members as they stand. -/
def State.maskWrite (s : State) (g sl : Nat) : List TblWrite :=
  let m := s.tables.master.gmaskOf g
  let on := s.memberMap sl g ≠ 0
  let m' := if on then m ||| 2 ^ sl else m - (m &&& 2 ^ sl)
  if m' = m then [] else [.gmask g m']

/-- A window write is accepted (R142, R143). -/
def State.acceptWindow (s : State) (op t i : Nat) (d : List Word) : SeqOut :=
  let c := s.tables.master
  let w := fun k => d.getD k 0
  let no := fun (r : Nat) => ({ st := s, result := r, writes := [], note := none } : SeqOut)
  let ok := fun (s : State) (ws : List TblWrite) => ({ st := s, result := 0, writes := ws, note := none } : SeqOut)
  if op = 1 && (t = 0 || t = 1 || t = 2 || t = 7) then
    if indexBound t ≤ i || indexRefused t d then no 3
    else if t = 0 then ok s [.lport i [w 0, w 1]]
    else if t = 1 then ok s [.vxlt i [w 0]]
    else if t = 7 then ok s [.mirror i [w 0, w 1, w 2]]
    else
      let lim := wBits (w 2) 0 20
      ok s [.bd i [putBits (w 0) 8 1 (if lim ≠ 0 && lim ≤ s.dynCount i then 1 else 0), w 1, wMask (w 2) 0xFFFFF]]
  else if op = 3 && t = 1 then (if indexBound 1 ≤ i then no 3 else ok s [.vxlt i [putBits ((c.vxltW i).getD 0 0) 14 1 0]])
  else if op = 3 && t = 2 then (if indexBound 2 ≤ i then no 3 else ok s [.bd i ((c.bdW i).set 0 (putBits ((c.bdW i).getD 0 0) 0 1 0))])
  else if op = 1 && t = 3 then
    let bd := keyBd d
    let addr := keyAddr d
    let e : MacEntry := { addr := addr, bd := bd, dest := (w 2).toNat, destType := wBits (w 3) 0 2, static := wBits (w 3) 2 1 = 1, stale := false }
    match s.macFind c bd addr with
    | some (k, old) =>
      let n : Int := (if e.static then 0 else 1) - (if old.static then 0 else 1)
      let (s, lw) := if n = 0 then (s, []) else s.dynAdd bd n
      ok s (.mac k (some e) true :: lw)
    | none =>
      let (h0, h1) := s.macBuckets bd addr
      match placeIn c.macAt h0 h1 with
      | none =>
        let (s, n) := s.insertFail bd addr.toNat e.destType e.dest
        { st := s, result := 2, writes := [], note := n }
      | some k =>
        let (s, lw) := if e.static then (s, []) else s.dynAdd bd 1
        ok (s.macCount 1) (.mac k (some e) true :: lw)
  else if op = 3 && t = 3 then
    match s.macFind c (keyBd d) (keyAddr d) with
    | some (k, e) => let (s, ws) := s.removeMac k e; ok s ws
    | none => no 1
  else if op = 1 && t = 4 then
    if indexBound 4 ≤ i then no 3
    else
      let s := s.setGrpStatic i (natOf (d.take 4))
      ok s (s.maskWrite (i / 8) (i % 8))
  else if (op = 6 || op = 7) && t = 5 then
    let g := wBits (w 0) 0 16
    let lp := wBits (w 0) 16 10
    let sl := sliceOf lp
    let k := (sl * 65536 + g) * 128 + qOf lp
    let gk := g * 8 + sl
    if op = 6 then
      if (s.member k).isNone && 65536 ≤ (s.tables.members.filter fun e => e.1 / (65536 * 128) == sl).length then
        { no 2 with st := s.tblCtr 13 }
      else
        let s := (s.setMember k (some (s.dtSec % 65536))).setGrpSnoop gk (s.grpSnoop gk ||| 2 ^ qOf lp)
        ok s (s.maskWrite g sl)
    else if (s.member k).isNone then no 1
    else
      let m := s.grpSnoop gk
      let s := (s.setMember k none).setGrpSnoop gk (m - (m &&& 2 ^ qOf lp))
      ok s (s.maskWrite g sl)
  else if (op = 1 || op = 3) && t = 6 then
    let len := wBits (w 1) 0 6
    let nt := wBits (w 1) 6 2
    if 32 < len || (op = 1 && nt = 3) then no 3
    else
      let p := prefixOf (w 0).toNat len
      let r : RouteEntry := { prefix_ := p, len := len, nextType := nt, next := wBits (w 1) 8 12 }
      match s.routeFind c len p with
      | some (k, _) =>
        if op = 1 then ok s [.route k (some r)]
        else
          let (s, ws) := s.removeRoute k len
          ok s ws
      | none =>
        if op = 3 then no 1
        else
          let m := c.lenFilter ||| 2 ^ len
          if 8 < ((List.range 33).filter fun k => m.testBit k).length then no 3
          else
            let (h0, h1) := s.routeBuckets len p
            match placeIn c.routeAt h0 h1 with
            | none => no 2
            | some k => ok (s.syncLens m) [.lenFilter m, .route k (some r)]
  else no 3

/-- Table code of R142 for the tables the sequencer repairs. -/
def scrubCode (t : ScrubTable) : Nat :=
  match t with
  | .lport => 0 | .vxlt => 1 | .bd => 2 | .mac => 3 | .group | .mask => 4 | .route => 6 | .mirror => 7 | .member => 8 | _ => 9

/-- A repair is accepted (R140): the good value with its hit bits, or the entry invalidated in every copy. -/
def State.acceptRepair (s : State) (t : ScrubTable) (i : Nat) (good : Bool) : State × List TblWrite × Option (List Byte) :=
  let c := s.tables.master
  match t with
  | .lport => (s, [.lport i (if good then c.lportW i else dfltTblLport)], none)
  | .vxlt => (s, [.vxlt i (if good then c.vxltW i else [putBits ((c.vxltW i).getD 0 0) 14 1 0])], none)
  | .bd => (s, [.bd i (if good then c.bdW i else (c.bdW i).set 0 (putBits ((c.bdW i).getD 0 0) 0 1 0))], none)
  | .mirror => (s, [.mirror i (if good then c.mirrorW i else dfltTblMirror)], none)
  | .mask => (s, [.gmask i (if good then c.gmaskOf i else 0)], none)
  | .mac => match c.macAt i with
    | some e =>
      if good then (s, [.mac i (some e) true], none)
      else
        let (s, ws) := s.removeMac i e
        (s, ws, some (noteBody 8 0 e.destType e.bd e.addr.toNat 0 e.dest))
    | none => (s, [], none)
  | .route => match c.routeAt i with
    | some r =>
      if good then (s, [.route i (some r)], none)
      else
        let (s, ws) := s.removeRoute i r.len
        (s, ws, some (noteBody 8 0 r.nextType 0 0 0 r.next))
    | none => (s, [], none)
  | _ => (s, [], none)

/-- The waiting request that is accepted next: first come, then by the order of R128. -/
def nextReq : List (Nat × Nat × SeqReq) → Option (Nat × Nat × SeqReq)
  | [] => none
  | x :: r => match nextReq r with
    | none => some x
    | some y => if y.1 < x.1 || (y.1 = x.1 && y.2.1 < x.2.1) then some y else some x

def State.dropFilter (s : State) (sl k : Nat) : State :=
  s.onTables fun t => { t with filter := t.filter.set sl ((t.filter.getD sl []).filter fun x => x.1 != k) }

/-- Some slice's copy reloads: the sequencer applies no update (R428). -/
def State.reloading (s : State) : Bool := s.sys.blocks.any fun e => e.2.reload.isSome

/-- The flush of a window (R134). -/
def State.flushOf (s : State) (fw : Bool) : Option Flush := s.tables.flushes.find? fun f => f.fw == fw

/-- SEQUENCER_ACCEPT (R128, R129): the next update is accepted. -/
def State.doSequencerAccept (s : State) : State :=
  if s.reloading then s
  else match nextReq s.tables.waiting with
  | none => s
  | some x =>
    let s := (s.onTables fun t => { t with waiting := t.waiting.erase x }).syncSeq
    let plain := fun (s : State) (ws : List TblWrite) (n : Option (List Byte)) =>
      s.pushUpdate { writes := ws, note := n, window := none, filter := none }
    match x.2.2 with
    | .repair sl t i bad =>
      let good := (List.range 7).any fun k => !bad.testBit ((sl + 1 + k) % 8)
      let (s, ws, n) := s.acceptRepair t i good
      s.pushUpdate { writes := ws, note := n, window := none, filter := none, fin := if good then .repaired (scrubCode t) i sl else .none }
    | .learn sl bd addr lp move =>
      let o := s.acceptLearn bd addr lp move
      let k := learnKey bd addr.toNat
      if o.fail then
        let s := o.st.onTables fun t => { t with
          filter := t.filter.set sl ((t.filter.getD sl []).map fun x => if x.1 = k then (k, some (s.now + 1000000)) else x) }
        plain s o.writes o.note
      else o.st.pushUpdate { writes := o.writes, note := o.note, window := none, filter := some (sl, k), fin := o.fin }
    | .mask g sl n => plain s (s.maskWrite g sl) n
    | .age i e del st =>
      match s.tables.master.macAt i with
      | none => s
      | some m =>
        if m.addr ≠ e.addr || m.bd ≠ e.bd || m.static then s
        else if !del then plain s [.mac i (some { m with stale := st }) false] none
        else if m.stale && m.dest = e.dest && m.destType = e.destType then
          let n := s.noteFor m.bd (noteBody 3 0 m.destType m.bd m.addr.toNat 0 m.dest)
          let (s, ws) := s.removeMac i m
          s.pushUpdate { writes := ws, note := n, window := none, filter := none, fin := .aged }
        else s
    | .flushDelete fw i e =>
      match s.tables.master.macAt i with
      | none => s
      | some m =>
        -- an entry that has moved off the flushed location stays (R134)
        let off : Bool := (s.flushOf fw).any fun f => f.oneDest && !(m.dest == f.dest && m.destType == f.destType)
        if m.addr ≠ e.addr || m.bd ≠ e.bd || m.static || off then s
        else
          let (s, ws) := s.removeMac i m
          let s := s.onTables fun t => { t with
            flushes := t.flushes.map fun f => if f.fw = fw then { f with removed := f.removed + 1 } else f }
          s.pushUpdate { writes := ws, note := none, window := none, filter := none, fin := .flushed fw }
    | .window fw op t i d =>
      let o := s.acceptWindow op t i d
      let s := o.st.tblResult fw o.result
      if o.writes.isEmpty && o.note.isNone then s.tblBusy fw false
      else s.pushUpdate { writes := o.writes, note := o.note, window := some (if fw then 1 else 0), filter := none }
    | .seed n v =>
      if s.fld tblsPage TBLS_MAC_COUNT_ENTRIES ≠ 0 || !s.tables.master.route.isEmpty then s.setFld tblsPage TBLS_TBLS_CFG_REFUSED 1
      else (s.setFld tblsPage TBLS_TBLS_CFG_REFUSED 0).setFld tblsPage (TBLS_HASH_SEED_SEED.sh (4 * n)) v.toNat
    | .linkGroup i d => s.pushUpdate { writes := [.linkGroup i d], note := none, window := some 2, filter := none }

/-- The last copy has applied an update: counters that move then (R126, R133, R140). The capture shows REPAIRED while it still names the
entry. -/
def State.updEnd (s : State) (x : UpdEnd) : State :=
  match x with
  | .moved bd => (s.bdCount bd 1).tblCtr 3
  | .aged => s.tblCtr 2
  | .repaired code slot sl =>
    let f := fun x => s.fld tblsPage x
    let same : Bool := f TBLS_ECC_CAPTURE_TABLE == code && f TBLS_ECC_CAPTURE_SLOT == slot && f TBLS_ECC_CAPTURE_SLICE == sl
    let s := s.tblCtr 12
    if same then s.setFlag tblsPage TBLS_ECC_CAPTURE_REPAIRED true else s
  | _ => s

/-- COPY_APPLY (R128, R130, R135): a copy applies its next update; what follows when it is the last one to do so. -/
def State.doCopyApply (s : State) (sl : Nat) : State :=
  if s.reloading then s
  else match s.tables.copyQueue.getD sl [] with
  | [] => s
  | u :: r =>
    let n := r.length + 1
    let last := (List.range 8).all fun k => k == sl || (s.tables.copyQueue.getD k []).length < n
    let s := s.onTables fun t => { t with copyQueue := t.copyQueue.set sl r }
    let s := (s.keepGroups sl u.writes).setCopy sl (u.writes.foldl TblCopy.apply (s.copyOf sl))
    let s := match u.filter with
      | some (k, key) => if k = sl then s.dropFilter sl key else s
      | none => s
    if !last then s
    else
      let s := (match u.note with | some b => s.sendNote b | none => s).updEnd u.fin
      match u.window with
      | some 0 => s.tblBusy false false
      | some 1 => s.tblBusy true false
      | some _ => (s.setFld (fabrPage 8) FABRM_GRP_CMD_RESULT 0).setFld (fabrPage 8) FABRM_GRP_CMD_BUSY 0
      | none => s

/-- LEARN_REQUEST_ARRIVE (R127, R129): refused and counted when 4,096 updates wait. R127 gives the key of a refused request no exit from
the pending filter: it leaves at once here, so that the station's next frame asks again (DESIGN CHOICE, log 117). -/
def State.doLearnArrive (s : State) (sl : Nat) : State :=
  match s.tables.requests.getD sl [] with
  | [] => s
  | q :: r =>
    let s := s.onTables fun t => { t with requests := t.requests.set sl r }
    if 4096 ≤ s.tables.waiting.length then
      let s := s.tblCtr 0
      match q with | .learn _ bd a _ _ => s.dropFilter sl (learnKey bd a.toNat) | _ => s
    else s.seqPush (1 + sl) q

/-- PENDING_FILTER_EXPIRE (R127): 1 ms after an insertion failure. -/
def State.doFilterExpire (s : State) (sl : Nat) : State :=
  s.onTables fun t => { t with
    filter := t.filter.set sl ((t.filter.getD sl []).filter fun x => match x.2 with | some e => s.now < e | none => true) }

/-- AGE_SWEEP_SLOT (R132): the sweeper visits its next slot, one in each 524,288th part of the aging period. -/
def State.doAgeSweep (s : State) : State :=
  let period := s.fld tblsPage TBLS_AGE_CFG_AGE_PERIOD * nsPerSec
  if period = 0 || !onceIn period (s.tables.sweptAt.map (· * 524288)) (s.now * 524288) then s
  else
    let i := s.tables.sweep
    let s := s.onTables fun t => { t with sweep := (i + 1) % 524288, sweptAt := some s.now }
    match s.tables.master.macAt i with
    | none => s
    | some e =>
      if e.static || s.tables.master.bdF e.bd 0 2 1 = 0 then s
      else
        let hit := (List.range 8).any fun k => mget false (s.copyOf k).hit i
        let s := s.each (List.range 8) fun s k => let c := s.copyOf k; s.setCopy k { c with hit := mset false c.hit i false }
        if hit then s.seqPush 10 (.age i e false false)
        else if !e.stale then s.seqPush 10 (.age i e false true)
        else s.seqPush 10 (.age i e true true)

/-- A snooped record goes: the slice's map is written, and the sequencer brings its slice mask in step (R122, R123, R128). -/
def State.memberGone (s : State) (k prio : Nat) (note : Option (List Byte)) : State :=
  let sl := k / (65536 * 128)
  let g := k / 128 % 65536
  let m := s.grpSnoop (g * 8 + sl)
  ((s.setMember k none).setGrpSnoop (g * 8 + sl) (m - (m &&& 2 ^ (k % 128)))).seqPush prio (.mask g sl note)

/-- MEMBER_AGE_SWEEP (R123): once in a second of DT, each record not joined for MEMBER_TIMEOUT is removed, with a notification (R135). -/
def State.doMemberAge (s : State) (sl : Nat) : State :=
  if mget none s.tables.memberSec sl = some s.dtSec then s
  else
    let s := s.onTables fun t => { t with memberSec := mset none t.memberSec sl (some s.dtSec) }
    let now := s.dtSec % 65536
    let lim := s.fld tblsPage TBLS_MEMBER_CFG_MEMBER_TIMEOUT
    let old := s.tables.members.filterMap fun e => match e.2 with
      | some t => if e.1 / (65536 * 128) = sl && lim ≤ (now + 65536 - t) % 65536 then some e.1 else none
      | none => none
    s.each old fun s k =>
      s.memberGone k 10 (some (leBytes 1 6 ++ zeros 1 ++ leBytes 2 (k / 128 % 65536) ++ leBytes 2 (128 * sl + k % 128) ++ zeros 14))

/-! ### Window commands -/

def whoFw (w : Who) : Bool := match w with | .fw _ _ => true | _ => false

/-- A window command: reads answer at once, writes wait for the sequencer (R142). -/
def State.tblCommand (s : State) (w : Who) (op t i : Nat) : State :=
  let fw := whoFw w
  if s.flag tblsPage (TBLS_TBL_CMD_BUSY.sh (tblWin fw)) then s.setFld tblsPage TBLS_TBLS_CFG_REFUSED 1
  else
    let s := s.setFld tblsPage TBLS_TBLS_CFG_REFUSED 0
    let s := (s.setFld tblsPage (TBLS_TBL_CMD_INDEX.sh (tblWin fw)) i).setFld tblsPage (TBLS_TBL_CMD_TABLE.sh (tblWin fw)) t
    let d := s.tblData fw
    if op = 2 || op = 4 || op = 5 then
      match s.tblRead op t i d with
      | (r, some ws) => (s.tblPut fw ws).tblDone fw r
      | (r, none) => s.tblDone fw r
    else if fw && !s.bitOf tblsPage TBLS_FW_TABLE_EN_WRITE_EN t then s.tblDone fw 3
    else if op = 3 && t = 3 && i = 0x80000 then
      let f : Flush :=
        { fw := fw, oneBd := wBits (d.getD 4 0) 19 1 = 1, bd := keyBd d, oneDest := wBits (d.getD 4 0) 20 1 = 1, dest := (d.getD 2 0).toNat
          destType := wBits (d.getD 3 0) 0 2, removed := 0 }
      let hits := s.tables.master.mac.filterMap fun x => match x.2 with
        | some e =>
          if !e.static && (!f.oneBd || e.bd = f.bd) && (!f.oneDest || (e.dest = f.dest && e.destType = f.destType)) then some (x.1, e) else none
        | none => none
      let s := (s.tblBusy fw true).onTables fun t => { t with flushes := t.flushes ++ [f] }
      hits.foldl (fun s x => s.seqPush (if fw then 12 else 11) (.flushDelete fw x.1 x.2)) s
    else (s.tblBusy fw true).seqPush (if fw then 12 else 11) (.window fw op t i d)

/-- Every entry that a flush removes has gone from every copy. -/
def State.flushOver (s : State) (f : Flush) : Bool :=
  !(s.tables.waiting.any fun x => match x.2.2 with | .flushDelete fw _ _ => fw == f.fw | _ => false)
    && !(s.tables.copyQueue.any fun q => q.any fun u => u.fin == .flushed f.fw)

/-- MAC_FLUSH_DONE (R134): the flush that began first among those that are over completes, with one notification of kind 7. -/
def State.doFlushDone (s : State) : State :=
  match s.tables.flushes.find? fun f => s.flushOver f with
  | none => s
  | some f =>
    let s := s.onTables fun t => { t with flushes := t.flushes.erase f }
    (s.tblDone f.fw 0).sendNote (noteBody 7 0 0 (if f.oneBd then f.bd else 0xFFFF) 0 f.removed 0)

def State.doTableWrite (s : State) (w : Who) (t i : Nat) : State := s.tblCommand w 1 t i
def State.doTableRead (s : State) (w : Who) (t i : Nat) : State := s.tblCommand w 2 t i
def State.doTableDelete (s : State) (w : Who) (t i : Nat) : State := s.tblCommand w 3 t i
def State.doMacInsert (s : State) (w : Who) : State := s.tblCommand w 1 3 0
def State.doMacDelete (s : State) (w : Who) : State := s.tblCommand w 3 3 0
def State.doMacFlush (s : State) (w : Who) : State := s.tblCommand w 3 3 0x80000
def State.doReadBySlot (s : State) (w : Who) (t i : Nat) : State := s.tblCommand w 5 t i
def State.doMemberJoin (s : State) (w : Who) : State := s.tblCommand w 6 5 0
def State.doMemberLeave (s : State) (w : Who) : State := s.tblCommand w 7 5 0
def State.doRouteInsert (s : State) (w : Who) : State := s.tblCommand w 1 6 0
def State.doRouteDelete (s : State) (w : Who) : State := s.tblCommand w 3 6 0
def State.doRouteMatch (s : State) (w : Who) : State := s.tblCommand w 4 6 0
/-- HASH_SEED_WRITE (R124): an update of the sequencer, checked when it applies. -/
def State.doHashSeed (s : State) (n : Nat) (v : Word) : State := s.seqPush 11 (.seed n (wMask v 0x1FFFF))

/-! ### The scrubber (R109, R139, R140) -/

/-- An uncorrectable entry counts as invalid in its copy until it is repaired (R140). LPORT entries have no valid bit: one that is lost
acts as at reset (DESIGN CHOICE, log 118). -/
def TblCopy.lose (c : TblCopy) (t : ScrubTable) (i : Nat) : TblCopy :=
  match t with
  | .lport => c.apply (.lport i dfltTblLport)
  | .vxlt => c.apply (.vxlt i [putBits ((c.vxltW i).getD 0 0) 14 1 0])
  | .bd => c.apply (.bd i ((c.bdW i).set 0 (putBits ((c.bdW i).getD 0 0) 0 1 0)))
  | .mac => { c with mac := mset none c.mac i none }
  | .route => c.apply (.route i none)
  | .mirror => c.apply (.mirror i dfltTblMirror)
  | .mask => c.apply (.gmask i 0)
  | _ => c

/-- Number of a table among those the scrubber walks. -/
def scrubNum (t : ScrubTable) : Nat :=
  match t with
  | .lport => 0 | .vxlt => 1 | .bd => 2 | .mac => 3 | .group => 4 | .mask => 5 | .route => 6 | .mirror => 7 | .member => 8
  | .rule => 9 | .template => 10 | .selector => 11 | .defAct => 12 | .meter => 13

/-- The scrubber reads an entry once in each SCRUB_PERIOD (R139). -/
def scrubKey (sl : Nat) (t : ScrubTable) (i : Nat) : Nat := (i * 16 + scrubNum t) * 8 + sl
def State.scrubDue (s : State) (k : Nat) : Bool :=
  onceIn (1000000 * s.fld tblsPage TBLS_SCRUB_CFG_SCRUB_PERIOD) (mget none s.tables.scrubbed k) s.now

/-- ECC_CAPTURE of TBLS. -/
def State.eccCapture (s : State) (code slot sl : Nat) : State :=
  let s := ((s.setFld tblsPage TBLS_ECC_CAPTURE_SLOT slot).setFld tblsPage TBLS_ECC_CAPTURE_TABLE code).setFld tblsPage TBLS_ECC_CAPTURE_SLICE sl
  (s.setFld tblsPage TBLS_ECC_CAPTURE_REPAIRED 0).setFld tblsPage TBLS_ECC_CAPTURE_VALID 1

/-- An uncorrectable entry of slice `sl` (R109, R140): repaired from another copy through the sequencer where it is replicated, else
cleared or set to its reset value. -/
def State.scrubLost (s : State) (sl : Nat) (t : ScrubTable) (i : Nat) (bad : BitVec 8) : State :=
  let cl := clsfPage sl
  let mp := metrPage sl
  let s := s.tblCtr 11
  match t with
  | .rule =>
    let i := i % 16384
    let r := s.rule (ruleKey sl i)
    let s := (s.setRule (ruleKey sl i) { r with valid := false }).setFld cl CLSF_ECC_CAPTURE_INDEX i
    ((s.setFld cl CLSF_ECC_CAPTURE_VALID 1).eccCapture 9 i sl).raise cl 2
  | .template => (s.setTemplate (tmplKey sl (i % 64)) dfltTemplate).raise cl 2
  | .selector =>
    let a := regA cl (0x400 + 0x40 * (i / 9 % 16) + 4 * (i % 9))
    (s.wr a (resetAt a)).raise cl 2
  | .defAct => (s.each (List.range 4) fun s w => let a := regA cl (0x800 + 0x10 * (i % 32) + 4 * w); s.wr a (resetAt a)).raise cl 2
  | .meter =>
    let i := i % 32768
    let s := s.setMeter (meterKey sl i) (s.meter (meterKey sl i)).fill
    (((s.setFld mp METR_ECC_CAPTURE_INDEX i).setFld mp METR_ECC_CAPTURE_VALID 1).eccCapture 9 i sl).raise mp 1
  | .group =>
    let g := i % 65536
    let s := ((s.setGrpStatic (g * 8 + sl) 0).setGrpSnoop (g * 8 + sl) 0).seqPush 0 (.mask g sl none)
    (s.eccCapture 4 i sl).raise tblsPage 3
  | .member =>
    let live := s.tables.members.filter fun e => e.1 / (65536 * 128) == sl
    let s := match live[i]? with | some e => s.memberGone e.1 0 none | none => s
    (s.eccCapture 8 i sl).raise tblsPage 3
  | t =>
    let s := s.setCopy sl ((s.copyOf sl).lose t i)
    ((s.eccCapture (scrubCode t) i sl).raise tblsPage 3).seqPush 0 (.repair sl t i bad.toNat)

/-- SCRUB_STEP: what is found in entry `i` of a table of slice `sl`. The scrubber reads each entry once in a period; a lookup that meets
an uncorrectable entry asks for its repair at any time (R140). -/
def State.doScrub (s : State) (sl : Nat) (t : ScrubTable) (i : Nat) (f : ScrubFind) : State :=
  let k := scrubKey sl t i
  let due := s.scrubDue k
  let s := if due then s.onTables fun x => { x with scrubbed := mset none x.scrubbed k (some s.now) } else s
  match f with
  | .clean => s
  | .uncorrectable bad => s.scrubLost sl t i bad
  | .parity => if t = .mac then s.setCopy sl (let c := s.copyOf sl; { c with hit := mset false c.hit i true }) else s
  | .corrected =>
    if !due then s
    else
      let s := (s.tblCtr 10).raise tblsPage 2
      match t with
      | .rule | .template | .selector | .defAct => s.raise (clsfPage sl) 1
      | .meter => s.raise (metrPage sl) 0
      | _ => s

end Sys2Proof.Machine
end

