-- ==== Sys2Proof/Machine/Loom.lean ====
section
/-! DEFINITION. Loom budgets (chapter 12): the layout of a period, the lottery, emergency takes, and the doubled layout of a stack
controller. The work of the other chapters is not charged slot by slot (DESIGN CHOICE, log 40). -/

namespace Sys2Proof.Machine

def actF (a : Nat) (f : Fld) : Fld := f.sh (0x10 * a)
def State.loomSlots (s : State) (i a : Nat) : Nat := s.fld (loomPage i) (actF a LOOM_ACT_CFG_SLOTS)
def State.loomTickets (s : State) (i a : Nat) : Nat := s.fld (loomPage i) (actF a LOOM_ACT_CFG_TICKETS)
/-- KIND of an activity: 0 warp, 1 weft, 2 emergency, 3 unused (R340). -/
def loomKindOf (i a : Nat) : Nat := (loomAct i a).2.2

/-- Who holds a slot: the warp activity whose share takes position `m` of `n` free ones (R327); none for a weft slot. `ws` are the
warp counts of activities `a`, `a` + 1, … -/
def warpAt : List Nat → Nat → Nat → Nat → Option Nat
  | [], _, _, _ => none
  | w :: r, a, n, m =>
    if n = 0 then none
    else if (m + 1) * w / n > m * w / n then some a
    else warpAt r (a + 1) (n - w) (m - m * w / n)

/-- Holder of position `p` of an instance's period. Thermal rest (entry 8) holds its slots after the warp activities. -/
def Loom.holder (l : Loom) (p : Nat) : Option Nat := warpAt l.layout 0 1024 p

/-- One step of the 32-bit LFSR of R330. -/
def lfsr32 (x : Nat) : Nat :=
  let b := BitVec.ofNat 32 x
  let n : Nat := if (b.getLsbD 31 ^^ b.getLsbD 21 ^^ b.getLsbD 1 ^^ b.getLsbD 0) then 1 else 0
  (x * 2 + n) % 2 ^ 32

/-- First contender whose running ticket sum exceeds `x`. -/
def drawWinner (s : State) (i : Nat) : List Nat → Nat → Option Nat
  | [], _ => none
  | a :: r, x => if x < s.loomTickets i a then some a else drawWinner s i r (x - s.loomTickets i a)

/-- The lottery of R330 among weft activities with a request and budget left. -/
def State.lottery (s : State) (i : Nat) (l : Loom) (req : Nat → Bool) : Option Nat :=
  let c := (List.range 8).filter fun a => loomKindOf i a == 1 && req a && l.used.getD a 0 < s.loomSlots i a
  let t := c.foldl (fun n a => n + s.loomTickets i a) 0
  if t = 0 then c.head? else drawWinner s i c (l.lfsr / 65536 * t / 65536)

/-- Waits after one cycle: a raised request waits on, a lowered one is forgotten. -/
def waitOn (waits : List (Option Nat)) (req : Nat → Bool) : List (Option Nat) :=
  (List.range 8).map fun a => if req a then some (match waits.getD a none with | some n => n + 1 | none => 0) else none

/-- Grant a slot: USED moves, and PEAK_WAIT keeps the longest wait (R330, R340). -/
def State.loomGrant (s : State) (i a : Nat) : State :=
  let l := s.loomOf i
  let w := min 65535 ((l.waits.getD a none).getD 0)
  let s := s.setLoom i { l with used := l.used.set a (l.used.getD a 0 + 1), waits := l.waits.set a none }
  let isl := s.islandOf (loomPage i)
  let s := (s.perfHit isl 0x06 1 none none none none).perfHit isl 0x07 ((l.waits.getD a none).getD 0) none none none none
  s.setFld (loomPage i) (actF a LOOM_ACT_STAT_PEAK_WAIT) (max w (s.fld (loomPage i) (actF a LOOM_ACT_STAT_PEAK_WAIT)))

/-- The injection bus of a cluster without the lease carries no traffic (R325). -/
def State.loomIdle (s : State) (i : Nat) : Bool := (i == 16 || i == 17) && s.svc.lease.holder != some (i - 16)

/-- The next slot of instance `i` is awarded, with the requests raised (R328, R330). A period of 1,024 slots that has ended waits for
LOOM_PERIOD_START. -/
def State.loomSlot (s : State) (i : Nat) (requests : BitVec 8) : State :=
  let l := s.loomOf i
  if 1024 ≤ l.pos then s
  else
    let req := fun a => requests.getLsbD a && loomKindOf i a < 2 && !s.loomIdle i
    let l' := { l with pos := l.pos + 1, lfsr := lfsr32 l.lfsr, waits := waitOn l.waits req }
    let s := s.setLoom i l'
    match l.holder l.pos with
    | some a =>
      if 8 ≤ a then s
      else if req a then s.loomGrant i a
      else match s.lottery i l req with | some b => s.loomGrant i b | none => s
    | none => match s.lottery i l req with | some b => s.loomGrant i b | none => s

/-- EMERGENCY_TAKE (R332): the debug port takes the next cycle of a slice's table memories, within its slots of the period and with
the table-emergency right of an open session; or postponed refresh takes one of a stack controller. -/
def State.doEmergencyTake (s : State) (i : Nat) : State :=
  let l := s.loomOf i
  let may := if i < 8 then s.host.debugOpen && s.host.rights.testBit 2 && decide (l.emergUsed < s.loomSlots i 7) else decide (i < 16)
  if !may || 1024 ≤ l.pos then s
  else
    let s := s.setLoom i { l with
      pos := l.pos + 1, lfsr := lfsr32 l.lfsr, emergUsed := l.emergUsed + 1
      used := if i < 8 then l.used.set 7 (l.used.getD 7 0 + 1) else l.used
      waits := l.waits.map fun w => w.map (· + 1) }
    (s.incFld (loomPage i) LOOM_EMERG_CNT_COUNT 1).raise (loomPage i) 1

/-- The warp counts that ACT_CFG asks for, with thermal rest while the layout is doubled (R327, R333). -/
def State.loomLayout (s : State) (i : Nat) : List Nat :=
  let w := (List.range 8).map fun a => if loomKindOf i a = 0 then s.loomSlots i a else 0
  if s.flag (loomPage i) LOOM_LOOM_INFO_DOUBLED then w ++ [336] else w

/-- A loom period starts (R327, R329, R331): an activity that still requests with its budget spent was exhausted, the slots are laid
out anew and every budget is whole again. `reseed` is the LFSR value a write of LFSR_SEED loads. -/
def State.loomStart (s : State) (i : Nat) (reseed : Option Nat) : State :=
  let l := s.loomOf i
  let pg := loomPage i
  let out := (List.range 8).filter fun a =>
    loomKindOf i a == 1 && (l.waits.getD a none).isSome && s.loomSlots i a ≤ l.used.getD a 0
  let s := s.each out fun s a => s.incFld pg (actF a LOOM_EXHAUSTED_COUNT) 1
  let s := s.each (List.range 8) fun s a => s.setFld pg (actF a LOOM_ACT_STAT_USED) (l.used.getD a 0)
  let s := s.setLoom i { l with
    pos := 0, used := List.replicate 8 0, emergUsed := 0, layout := s.loomLayout i, lfsr := reseed.getD l.lfsr }
  if out.isEmpty then s else s.raise pg 0

/-- A stack controller enters or leaves the doubled layout (R333). -/
def State.setDoubled (s : State) (d : Nat) (b : Bool) : State :=
  let i := 8 + d
  let pg := loomPage i
  if s.flag pg LOOM_LOOM_INFO_DOUBLED = b then s
  else
    let s := s.setFlag pg LOOM_LOOM_INFO_DOUBLED b
    let s := s.each (List.range 4) fun s a =>
      s.setFld pg (actF a LOOM_ACT_CFG_SLOTS) (if b then [200, 200, 96, 128].getD a 0 else (loomAct i a).1)
    (s.setLoom i { s.loomOf i with layout := s.loomLayout i }).raise pg 2

end Sys2Proof.Machine
end

