-- ==== Sys2Proof/Machine/Deep.lean ====
section
/-! DEFINITION. Queue configuration and the guarantee check (R164 to R166), port scaling (R171), bobbins (R151 to R153), stacks and
derating (R167 to R170). -/

namespace Sys2Proof.Machine

/-! ### Port scaling (R171) -/

/-- Scale of a logical port's guarantees in 1/65,536. -/
def State.portScale (s : State) (lp : Nat) : Nat :=
  let sum := s.guarPort lp
  let rate := s.rateOf lp
  if rate < sum then rate * 65536 / sum else 65536

/-- After a change of rates or guarantees in a slice, each logical port's deep queues take their scale; GUAR_PORT_SCALED is raised for
each port that becomes scaled (R171). -/
def State.rescale (s : State) (sl : Nat) : State :=
  let qs := (s.queuesOf sl).filterMap fun e => if 1024 ≤ e.1 then (s.queueLport sl e.1).map fun lp => (e.1, lp, s.portScale lp) else none
  let newly := (qs.filter fun x => x.2.2 < 65536 && (s.queue (queueKey sl x.1)).scale == 65536).map (·.2.1)
  let old := s
  let s := qs.foldl (fun s x =>
    let q := s.queue (queueKey sl x.1)
    if q.scale = x.2.2 then s
    else (s.setQueue (queueKey sl x.1) { q with scale := x.2.2 }).keepTokens old sl 5 (x.1 - 1024)) s
  s.each newly.eraseDups fun s _ => s.raise (deepPage sl) 4

/-! ### The queue window (R164, R176) -/

/-- The configuration in the window. -/
def State.windowQueue (s : State) (sl : Nat) (q : Queue) : Queue :=
  let f := fun x => s.fld (deepPage sl) x
  { q with
    minCells := f DEEP_Q_DATA0_MIN_CELLS, pool := f DEEP_Q_DATA0_POOL, profile := f DEEP_Q_DATA0_PROFILE
    lossless := f DEEP_Q_DATA0_LOSSLESS == 1, spillEn := f DEEP_Q_DATA0_SPILL_EN == 1, maxCells := f DEEP_Q_DATA1_MAX_CELLS
    spillTh := f DEEP_Q_DATA2_SPILL_TH, minBobbins := f DEEP_Q_DATA3_MIN_BOBBINS, maxBobbins := f DEEP_Q_DATA4_MAX_BOBBINS
    guarRate := f DEEP_Q_DATA5_GUAR_RATE }

/-- A field the window tables refuse (R176). -/
def queueFieldBad (i : Nat) (q : Queue) : Bool :=
  17408 ≤ i || q.maxCells < q.minCells || q.maxBobbins < q.minBobbins || 800000 < q.guarRate ||
    (i < 1024 && (q.spillEn || q.spillTh ≠ 0 || q.minBobbins ≠ 0 || q.maxBobbins ≠ 0 || q.guarRate ≠ 0))

/-- GUAR_RATE is a deep queue's MIN_RATE: a change from `s` to `s'` that brings it above the queue's MAX_RATE, or the sum of its parent's
children above the parent's, is refused (R184, R190). -/
def State.minRateRefused (s s' : State) (sl i : Nat) : Bool :=
  s.schdF sl 5 i 0 31 1 == 1 && (s.shaper sl 5 i).minRate != (s'.shaper sl 5 i).minRate &&
    s.nodeRefused s' sl 5 i (s.schd (schdKey sl 5 i))

/-- QUEUE_CONFIG_WRITE (R164 to R166). The sums are those of the registers as written (R388). A refusal by R184 is a field refused, reason 6
(DEDUCED, log 120). -/
def State.doQueueConfigWrite (s : State) (sl i : Nat) : State :=
  let pg := deepPage sl
  s.winBusy pg DEEP_Q_CMD_BUSY DEEP_ADM_CFG_REFUSED fun s =>
    let s := s.setFld pg DEEP_Q_CMD_INDEX i
    let k := queueKey sl i
    let old := s.queue k
    let q := s.windowQueue sl old
    let done := fun (s : State) r => s.winDone pg DEEP_Q_CMD_RESULT DEEP_Q_CMD_BUSY r
    if queueFieldBad i q then done (s.guarCapture sl 6 i none) 3
    else
      let s' := s.setQueue k q
      let rows := guarRows s.asWritten s'.asWritten sl ++ guarPorts s s' (if i < 1024 then [] else (s.queueLport sl i).toList)
      match guarFail rows with
      | some (r, x) => done (s.guarCapture sl r i (some x)) 3
      | none =>
        if 1024 ≤ i && s.minRateRefused s' sl (i - 1024) then done (s.guarCapture sl 6 i none) 3
        else
          let nk := schdKey sl 5 (i - 1024)
          let s' := if 1024 ≤ i && q.guarRate ≠ old.guarRate then s'.setNode nk ((s'.node nk).emptied s'.time.dt) else s'
          done (s'.rescale sl).retryAll 0

/-- QUEUE_CONFIG_READ (R164): configuration, state and counters of one instant. -/
def State.doQueueConfigRead (s : State) (sl i : Nat) : State :=
  let pg := deepPage sl
  s.winBusy pg DEEP_Q_CMD_BUSY DEEP_ADM_CFG_REFUSED fun s =>
    let s := s.setFld pg DEEP_Q_CMD_INDEX i
    if 17408 ≤ i then (s.guarCapture sl 6 i none).winDone pg DEEP_Q_CMD_RESULT DEEP_Q_CMD_BUSY 3
    else
      let q := s.queue (queueKey sl i)
      let cs := [q.admitFrames, q.admitBytes, q.spilled, q.dropWred, q.dropSpace, q.dropDesc, q.ageDiscard, q.deepLost]
      let w := fun (n : Nat) => BitVec.ofNat 32 n
      let cfg := q.minCells + 2 ^ 19 * q.pool + 2 ^ 21 * q.profile + (if q.lossless then 2 ^ 26 else 0) + (if q.spillEn then 2 ^ 27 else 0)
      let s := s.winPut pg 0x104
        ([w cfg, w q.maxCells, w q.spillTh, w q.minBobbins, w q.maxBobbins, w q.guarRate,
          w (q.occ + (if q.spilling then 2 ^ 19 else 0)), w q.bobbins.length, w q.deep.length, w (q.avg / 65536),
          w (s.effRate q), 0, 0, 0, 0, 0] ++ cs.flatMap fun c => [w c, w (c / 2 ^ 32)])
      s.winDone pg DEEP_Q_CMD_RESULT DEEP_Q_CMD_BUSY 0

/-! ### Bobbins -/

/-- Start the write of an open bobbin. -/
def Bobbin.startWrite (b : Bobbin) : Bobbin := if b.phase = 0 then { b with phase := 1 } else b

/-- BOBBIN_IDLE_WRITE (R151): a queue that has admitted no frame deep for 1 µs writes its open bobbin part-filled. -/
def State.doBobbinIdleWrite (s : State) (sl q : Nat) : State :=
  let k := queueKey sl (1024 + q)
  let x := s.queue k
  match x.bobbins.getLast? with
  | some b =>
    if b.phase = 0 && x.deepAt + 1000 ≤ s.now then
      ((s.setQueue k { x with bobbins := x.bobbins.dropLast ++ [b.startWrite] }).bobFld DEEPT_BOB_USED_COUNT (-1)).bobFld
        DEEPT_BOB_TRANSIT_COUNT 1
    else s
  | none => s

/-- The first bobbin under write becomes stored. -/
def storeFirst : List Bobbin → List Bobbin
  | [] => []
  | b :: r => if b.phase = 1 then { b with phase := 2 } :: r else b :: storeFirst r

/-- Frames of a queue's deep part whose bytes are all written leave write staging (R145). -/
def State.leaveStaging (s : State) (k : Nat) : State :=
  let q := s.queue k
  s.each q.deep fun s i =>
    match s.ef i with
    | some e =>
      if e.deepHi ≠ 0 && !(q.bobbins.any fun b => b.phase < 2 && meets b.lo b.hi e.deepLo e.deepHi) then
        (s.unstage (sliceOf e.lport) e).setEf i (some { e with charge := 0 })
      else s
    | none => s

/-- Bobbins that slice `sl` is reading. -/
def State.readingIn (s : State) (sl : Nat) : Nat :=
  s.sw.queues.foldl (fun n e => if e.1 / 17408 = sl then n + (e.2.bobbins.filter fun b => b.phase == 3).length else n) 0

/-- The read-back engine fetches the first stored bobbin of a queue, which is then in transit, once read staging has room for it beside
those it is reading (R153, R172). -/
def State.startRead (s : State) (sl k : Nat) : State :=
  let q := s.queue k
  match q.bobbins with
  | b :: r =>
    if b.phase = 2 && s.rstage sl + 8 * (s.readingIn sl + 1) ≤ s.fld (deepPage sl) DEEP_STAGE_RSTAGE then
      ((s.setQueue k { q with bobbins := { b with phase := 3 } :: r }).bobFld DEEPT_BOB_USED_COUNT (-1)).bobFld DEEPT_BOB_TRANSIT_COUNT 1
    else s
  | [] => s

/-- BOBBIN_WRITE_DONE (R151, R172): the oldest write of a queue is done; the bobbin passes from in transit to in use. -/
def State.doBobbinWriteDone (s : State) (sl q : Nat) : State :=
  let k := queueKey sl (1024 + q)
  let x := s.queue k
  match x.bobbins.find? fun b => b.phase = 1 with
  | some b =>
    let s := s.perfHit (9 + b.stack) 0x05 (ceilDiv (b.hi - b.lo) 32) none (some 11) none none
    let s := s.setQueue k { x with bobbins := storeFirst x.bobbins }
    let s := (s.bobFld DEEPT_BOB_TRANSIT_COUNT (-1)).bobFld DEEPT_BOB_USED_COUNT 1
    (((s.leaveStaging k).purge k).startRead sl k).retryAll
  | none => s

/-- BOBBIN_READBACK (R153): the next bobbin of a queue's deep part returns in order, is freed, and the frames that are now whole in
read staging land; the fetch of the next begins. It waits while read staging has no room for it. -/
def State.doBobbinReadback (s : State) (sl q : Nat) : State :=
  let k := queueKey sl (1024 + q)
  let s := s.startRead sl k
  let x := s.queue k
  match x.bobbins with
  | b :: r =>
    if b.phase = 3 then
      let s := s.perfHit (9 + b.stack) 0x04 (ceilDiv (b.hi - b.lo) 32) none (some 11) none none
      let s := s.setQueue k { x with bobbins := r }
      let s := (s.bobFld DEEPT_BOB_TRANSIT_COUNT (-1)).bobFld DEEPT_BOB_FREE_COUNT 1
      ((s.landAll k).startRead sl k).retryAll
    else s
  | [] => s

/-! ### Stacks (R167 to R170, R346, R347) -/

/-- SLOT_LOST follows the stacks in service: slot A lies on D0 to D3, slot B on D4 to D7 (R346, R347). -/
def State.syncSlots (s : State) : State :=
  let lost := fun (o : Nat) => !((List.range 4).all fun d => s.stackIn (o + d))
  s.setFld svccPage SVCC_CKPT_STATUS_SLOT_LOST ((if lost 0 then 1 else 0) + (if lost 4 then 2 else 0))

/-- A stack leaves service (R169): its bobbins leave the four counts at once, every deep frame with a byte on it is lost, and no
bobbin is drawn from it. STACK_FAIL fires. -/
def State.stackLeave (s : State) (d : Nat) (fault : Bool) : State :=
  if !s.stackIn d then s
  else
    let s := (s.setStackSt d { s.stackSt d with out := true, fault := fault }).onSw fun w => { w with derateDue := true }
    let mine := s.sw.queues.flatMap fun e => e.2.bobbins.filter fun b => b.stack == d
    let tr := (mine.filter fun b => b.phase == 1 || b.phase == 3).length
    let us := mine.length - tr
    let s := (((s.bobFld DEEPT_BOB_TOTAL_COUNT (-stackBobbins)).bobFld DEEPT_BOB_TRANSIT_COUNT (-tr)).bobFld DEEPT_BOB_USED_COUNT
      (-us)).bobFld DEEPT_BOB_FREE_COUNT (-((stackBobbins : Int) - tr - us))
    let s := s.each ((s.sw.queues.filter fun e => e.2.bobbins.any fun b => b.stack == d).map (·.1)) fun s k =>
      let q := s.queue k
      let gone := q.bobbins.filter fun b => b.stack == d
      let s := s.each q.deep fun s i =>
        match s.ef i with
        | some e => if gone.any fun b => meets b.lo b.hi e.deepLo e.deepHi then s.setEf i (some { e with lost := true }) else s
        | none => s
      (s.setQueue k { q with bobbins := q.bobbins.filter fun b => b.stack != d }).landAll k
    s.syncSlots.raise (deepPage 8) (1 + d)

/-- The bytes of a window whose page lies on a stack read zero (R346, R347). -/
def dropStack (m : Mem) (d : Nat) : Mem := m.filter fun c => c.1 / 4096 % 8 != d

/-- A stack rejoins with all its bobbins free (R170). After a removal or a fault its window pages return filled with zeros and its
checkpoint slot holds nothing (R347); a block reset of its controller keeps the reserved region (R428). -/
def State.stackJoin (s : State) (d : Nat) (zero : Bool) : State :=
  if s.stackIn d then s
  else
    let s := (s.setStackSt d { s.stackSt d with out := false, fault := false }).onSw fun w => { w with derateDue := true }
    let s := (s.bobFld DEEPT_BOB_TOTAL_COUNT stackBobbins).bobFld DEEPT_BOB_FREE_COUNT stackBobbins
    let s := if zero then s.onSvc fun v =>
        { v with clusters := v.clusters.map fun c => { c with window := dropStack c.window d }, slots := v.slots.set (d / 4) Ckpt.empty }
      else s
    s.syncSlots.retryAll

/-- STACK_REFRESH_DOUBLE and STACK_REFRESH_NORMAL (R167). -/
def State.refreshRate (s : State) (d : Nat) (b : Bool) : State :=
  if s.stackDouble d = b then s
  else
    let s := (s.setStackSt d { s.stackSt d with doubled := b }).onSw fun w => { w with derateDue := true }
    if b then s.raise (deepPage 8) 12 else s

def State.doStackRefreshDouble (s : State) (d : Nat) : State := s.refreshRate d true
def State.doStackRefreshNormal (s : State) (d : Nat) : State := s.refreshRate d false

/-- Deliverable rate of the deep tier in Gbit/s, each direction (R24). -/
def State.deepGbps (s : State) : Nat :=
  sumOver (List.range 8) fun d => if s.stackIn d then (if s.stackDouble d then 2500 else 5000) else 0
def State.stacksIn (s : State) : Nat := ((List.range 8).filter s.stackIn).length

/-- DERATE_RECOMPUTE (R167, R168, R333). -/
def State.doDerateRecompute (s : State) : State :=
  if !s.sw.derateDue then s
  else
    let old := s
    let pg := deepPage 8
    let r := s.deepGbps * 65536 / 40000
    let n := s.stacksIn * 65536 / 8
    let changed := s.fld pg DEEPT_RATE_FACTOR_FACTOR ≠ r || s.fld pg DEEPT_SPACE_FACTOR_FACTOR ≠ n
    let s := ((s.setFld pg DEEPT_RATE_FACTOR_FACTOR r).setFld pg DEEPT_SPACE_FACTOR_FACTOR n).onSw fun w => { w with derateDue := false }
    let s := (s.setFld pg DEEPT_DEEP_RATE_WRITE_GBPS s.deepGbps).setFld pg DEEPT_DEEP_RATE_READ_GBPS s.deepGbps
    let s := s.each (List.range 8) fun s d => s.setDoubled d (s.stackIn d && s.stackDouble d)
    let s := if changed then s.raise pg 0 else s
    s.each (List.range 8) fun s sl =>
      let s := s.each ((s.queuesOf sl).map (·.1)) fun s i => if 1024 ≤ i then s.keepTokens old sl 5 (i - 1024) else s
      (s.ratesChanged old sl).retryAll

/-- STACK_FAULT (R169). -/
def State.doStackFault (s : State) (d : Nat) : State := s.stackLeave d true

end Sys2Proof.Machine
end

