-- ==== Sys2Proof/Machine/Flexe.lean ====
section
/-! DEFINITION. Logical ports reaching and leaving UP (R35, R37, R75, R81, R256, R320), and FlexE groups, calendars and clients
(R233 to R246, R262, R263). -/

namespace Sys2Proof.Machine

/-! ### Reaching and leaving UP -/

/-- A logical port leaves UP: the frame in transmission is aborted, the one in reception ends in error, pauses clear, the open trains
end and the hold timer starts (R37, R35, R69, R81). -/
def State.lpLeave (s : State) (lp : Nat) : State :=
  let s := ((s.abortTx lp).rxAbort lp).clearPause lp
  -- a train that was open on receive is cut inside a unit (R259)
  let s := s.each ((s.pack lp).rxTrain.map (·.1)) fun s k => if mget 0 (s.pack lp).rxTrain k = 1 then s.packCtr lp 8 else s
  let s := s.setPack lp { s.pack lp with trainBytes := [], rxTrain := [] }
  ((s.setMac lp { s.mac lp with verifyNext := none }).syncPreempt lp).startHold lp

/-- A logical port reaches UP: its hold timer ends, verification starts, and the fold table of a pack-mode logical port is suspended
(R35, R75, R256). -/
def State.lpArrive (s : State) (lp : Nat) : State :=
  let s := s.setPitch lp { s.pitch lp with holdStart := none, holdExpired := false }
  let s := (s.verifyStart lp).pfcCheckAll lp
  if s.packOn lp && s.foldOn lp then
    (s.setFoldSt (sliceOf lp) (s.foldTable lp) PACK_FOLD_STATE_SUSPEND 1).raise (packPage (sliceOf lp)) 3
  else s

/-- Make a change that may move logical ports `lps` to or from UP, and do what follows for each that moved (R237). -/
def State.withUp (s : State) (lps : List Nat) (f : State → State) : State :=
  let up := lps.map fun lp => (lp, s.isUp lp)
  up.foldl (fun s x =>
    if x.2 && !s.isUp x.1 then s.lpLeave x.1 else if !x.2 && s.isUp x.1 then s.lpArrive x.1 else s) (f s)

/-! ### Groups (R234 to R237) -/

/-- PHYs of a port mode and their PHY_TYPE code (R234, R262). -/
def phyCount (mode : Nat) : Nat := match mode with | 1 => 2 | 2 => 2 | 3 => 4 | 4 => 1 | 5 => 4 | _ => 0
def phyType (mode : Nat) : Nat := match mode with | 3 => 1 | 5 => 0 | _ => 2
/-- Sub-port whose pitching brings PHY `i` up. -/
def phySub (mode i : Nat) : Nat := if mode = 1 || mode = 4 then 0 else i

/-- The lanes of an enabled member are UP in R32; its PHY exists in the port's present mode with the group's type. -/
def State.memberLocked (s : State) (g i : Nat) : Bool :=
  let p := s.memberPort g i
  let m := s.modeOf p
  let y := s.memberPhy g i
  y < phyCount m && phyType m == s.fld (flxePage g) FLXE_GRP_CFG_PHY_TYPE && (s.pitch (4 * p + phySub m y)).state == 5

/-- Logical ports of the member ports of a group. -/
def State.groupLports (s : State) (g : Nat) : List Nat :=
  ((s.membersOn g).map (s.memberPort g)).eraseDups.flatMap s.lportsOf

/-- PHY_DOWN follows the members. -/
def State.syncPhyDown (s : State) (g : Nat) : State :=
  s.setFld (flxePage g) FLXE_GRP_STATUS_PHY_DOWN ((s.membersOn g).foldl (fun n i => if s.memberLocked g i then n else n + 2 ^ i) 0)

/-- Valid clients of a group. -/
def State.groupClients (s : State) (g : Nat) : List Nat := (s.trunk.clients.filter fun c => c.2.valid && c.2.group == g).map (·.1)
/-- The FIFOs of a group's clients drain up to now, before anything that changes their rate (R239). -/
def State.drainGroup (s : State) (g : Nat) : State := s.each (s.groupClients g) fun s n => s.drainClient n

/-- A group enters a state of R236; its logical ports follow (R237), and so does GROUP_DOWN, live while the group is not UP. At UP the
members' counts of bad and missing frames begin anew. -/
def State.setGroup (s : State) (g st : Nat) : State :=
  let s := (s.drainGroup g).withUp (s.groupLports g) fun s =>
    let x := s.flexe g
    let x := if st = 5 then { x with bad := List.replicate 8 0, lastOh := List.replicate 8 s.now } else x
    (s.setFld (flxePage g) FLXE_GRP_STATUS_STATE st).setFlexe g { x with entered := s.now }
  if st = 5 then s.lower (flxePage g) 0 else s.raiseLive (flxePage g) 0

def State.groupState (s : State) (g : Nat) : Nat := s.fld (flxePage g) FLXE_GRP_STATUS_STATE

/-- What a group does of itself (R236): DOWN and PHY_WAIT by EN, OH_LOCK once every member is up, PHY_WAIT when a member of an UP group
is lost. -/
def State.groupSync (s : State) (g : Nat) : State :=
  let s := s.syncPhyDown g
  let st := s.groupState g
  let all := !(s.membersOn g).isEmpty && (s.membersOn g).all (s.memberLocked g)
  if !s.flag (flxePage g) FLXE_GRP_CFG_EN then (if st = 0 then s else s.setGroup g 0)
  else if st = 0 then s.setGroup g 1
  else if st = 1 && all then s.setGroup g 2
  else if st = 5 && !all then s.setGroup g 1
  else s

/-- The lanes of a physical port's sub-port changed state: the groups it belongs to follow. -/
def State.groupsFollow (s : State) (p : Nat) : State := s.each (s.groupsOf p) fun s g => s.groupSync g

def State.membersUp (s : State) (g : Nat) : Bool := (s.membersOn g).all (s.memberLocked g)
def State.groupTimedOut (s : State) (g st ns : Nat) : Bool := s.groupState g == st && (s.flexe g).entered + ns ≤ s.now

/-- FLEXE_OH_LOCK_DONE and FLEXE_OH_LOCK_TIMEOUT (8 ms). -/
def State.doFlexeOhLockDone (s : State) (g : Nat) : State := if s.groupState g = 2 && s.membersUp g then s.setGroup g 3 else s
def State.doFlexeOhLockTimeout (s : State) (g : Nat) : State := if s.groupTimedOut g 2 8000000 then s.setGroup g 1 else s

def sameSet (a b : List Nat) : Bool := a.all b.contains && b.all a.contains

/-- The received group number, PHY maps and PHY numbers agree with the configuration (R236). -/
def State.mapGood (s : State) (g : Nat) : Bool :=
  let x := s.flexe g
  let num := fun i => s.fld (flxePage g) (FLXE_MEMBER_PHY_NUM.sh (4 * i))
  let nums := (s.membersOn g).map num
  (s.membersOn g).all fun i =>
    x.groupNums.getD i 0 == s.fld (flxePage g) FLXE_GRP_CFG_GROUP_NUM && sameSet (x.phyMaps.getD i []) nums && x.phyNums.getD i 0 == num i

/-- FLEXE_MAP_CHECK_DONE: the check passes, or fails with MAP_MISMATCH. -/
def State.doFlexeMapCheckDone (s : State) (g : Nat) : State :=
  if s.groupState g ≠ 3 then s
  else if s.mapGood g && s.membersUp g then s.setGroup g 4
  else (s.setGroup g 1).raise (flxePage g) 4
def State.doFlexeMapCheckTimeout (s : State) (g : Nat) : State :=
  if s.groupTimedOut g 3 3400000 then (s.setGroup g 1).raise (flxePage g) 4 else s

/-- FLEXE_DESKEW_DONE: SKEW reports the differential delay; 10 µs or less brings the group UP. -/
def State.doFlexeDeskewDone (s : State) (g skew : Nat) : State :=
  if s.groupState g ≠ 4 then s
  else
    let s := s.setFld (flxePage g) FLXE_SKEW_SKEW_NS skew
    if skew ≤ 10000 && s.membersUp g then s.setGroup g 5 else (s.setGroup g 1).raise (flxePage g) 5
def State.doFlexeDeskewTimeout (s : State) (g : Nat) : State :=
  if s.groupTimedOut g 4 1000000 then (s.setGroup g 1).raise (flxePage g) 5 else s

/-! ### Calendars (R242 to R246) -/

/-- Code of a slot in a received calendar: a wire ID, 0 unused, 0xFFFF unavailable (R238, R242; the two codes PRESUMED, log 123). -/
def State.rxCode (s : State) (g : Nat) (b : Bool) (e : Nat) : Nat :=
  if e < 640 then (mget (α := BitVec 16) 0 (s.flexe g).rxCal ((if b then 640 else 0) + e)).toNat else 0
/-- The same in the format of R242: a wire ID stands for the group's client that has it, and one that no client has shows as unused
(DESIGN CHOICE, log 123). -/
def State.rxEntry (s : State) (g : Nat) (b : Bool) (e : Nat) : Nat :=
  let c := s.rxCode g b e
  if c = 0 then 0 else if c = 0xFFFF then 2 * 4096
  else match (s.groupClients g).find? fun n => (s.client n).wireId == c with | some n => 4096 + n | none => 0
/-- Receive slots of client `n` of group `g` in one of the peer's calendars. -/
def State.rxSlotsIn (s : State) (g n : Nat) (b : Bool) : Nat :=
  ((s.membersOn g).flatMap fun i => (List.range (s.memberSlots g)).filter fun e =>
    s.rxCode g b (80 * i + e) == (s.client n).wireId).length
/-- RX_CAL_DATA shows the entry that RX_CAL_IDX names (R242). -/
def State.syncRxCal (s : State) (g : Nat) : State :=
  let pg := flxePage g
  s.setFld pg FLXE_RX_CAL_DATA_ENTRY (s.rxEntry g (s.flag pg FLXE_RX_CAL_IDX_CAL) (s.fld pg FLXE_RX_CAL_IDX_INDEX))

/-- RX_CUT of a client counts (R246). -/
def State.cutClient (s : State) (n : Nat) : State := s.setClient n { s.client n with rxCut := ((s.client n).rxCut + 1) % 2 ^ 64 }

/-- The peer changes the calendar in use (R246): a client that it removes mid-frame loses the part received. -/
def State.rxSwitch (s : State) (g : Nat) (b : Bool) : State :=
  let lost := (s.groupClients g).filter fun n =>
    s.rxSlotsIn g n (!b) ≠ 0 && s.rxSlotsIn g n b == 0 && (s.rxOf (s.client n).lport (n + 2)).isSome
  let s := s.each lost fun s n =>
    let lp := (s.client n).lport
    let s := s.cutClient n
    match s.rxOf lp (n + 2) with
    | some r => (s.setRx lp (n + 2) none).rxBreak lp (n + 2) 2 r (s.stored lp (r.bytes.take (s.rxArrived lp r)))
    | none => s
  let s := s.setFlag (flxePage g) FLXE_GRP_STATUS_CAL_RX b
  (s.setFlexe g { s.flexe g with announced := List.replicate 8 false }).raise (flxePage g) 3

/-- Time of an overhead frame in ns (R244). -/
def ohFrameNs : Nat := 104760
/-- Overhead frames missing on a member: each is missed one frame time after it was due (DESIGN CHOICE, log 124). -/
def State.ohMissed (s : State) (g i : Nat) : Nat := (s.now - (s.flexe g).lastOh.getD i 0) / ohFrameNs - 1
/-- OH_LOST: 5 consecutive overhead frames of a member of an UP group failed or are missing (R236). -/
def State.ohCheck (s : State) (g : Nat) : State :=
  if s.groupState g = 5 && (s.membersOn g).any fun i => 5 ≤ (s.flexe g).bad.getD i 0 + s.ohMissed g i then
    (s.setGroup g 1).raise (flxePage g) 7
  else s

/-- What a good overhead frame brings of member `i`: numbers and map, CR and CA, calendar codes, and whether the calendar not in use has
come over a whole multiframe of 32 frames without a change (R236, R243). -/
def Flexe.take (x : Flexe) (i : Nat) (oh : OhFrame) (pend smcEn : Bool) (now : Nat) : Flexe :=
  let key := fun (e : Bool × Fin 640 × BitVec 16) => (if e.1 then 640 else 0) + e.2.1.val
  let changed := oh.entries.any fun e => mget (α := BitVec 16) 0 x.rxCal (key e) != e.2.2
  let n := x.mf.getD i none
  let n := if changed && n != some 0 then none else n
  { x with
    bad := x.bad.set i 0, lastOh := x.lastOh.set i now
    groupNums := x.groupNums.set i oh.groupNum.toNat, phyNums := x.phyNums.set i oh.phyNum.toNat, phyMaps := x.phyMaps.set i oh.phyMap
    caSeen := x.caSeen || (oh.ca && pend), peerCr := oh.cr
    mf := x.mf.set i (if oh.lastOfMultiframe then some 0 else n.map (· + 1))
    announced := x.announced.set i ((oh.lastOfMultiframe && n == some 31) || (x.announced.getD i false && !changed))
    rxCal := oh.entries.foldl (fun m e => mset (α := BitVec 16) 0 m (key e) e.2.2) x.rxCal
    smc := if smcEn then oh.smc else x.smc }

/-- FLEXE_OH_FRAME_RECEIVE (R233, R236, R243, R246): an overhead frame on member `i`. -/
def State.doFlexeOhFrameReceive (s : State) (g i : Nat) (oh : OhFrame) : State :=
  let pg := flxePage g
  if !s.flag pg FLXE_GRP_CFG_EN || !s.flag pg (FLXE_MEMBER_EN.sh (4 * i)) || s.groupState g < 2 then s
  else
    let s := s.ohCheck g
    let x := s.flexe g
    if !oh.crcGood then
      ((s.setFlexe g { x with bad := x.bad.set i (x.bad.getD i 0 + 1), lastOh := x.lastOh.set i s.now, mf := x.mf.set i none }).count pg
        0xD0).ohCheck g
    else
      let s := s.setFlexe g (x.take i oh (s.flag pg FLXE_GRP_STATUS_SWITCH_PEND) (s.flag pg FLXE_GRP_CFG_SMC_EN) s.now)
      let s := s.setFld pg { FLXE_GRP_STATUS_RPF_MAP with lo := FLXE_GRP_STATUS_RPF_MAP.lo + i, w := 1 } (if oh.rpf then 1 else 0)
      let s := if s.flag pg FLXE_GRP_STATUS_CAL_RX = oh.calInUse then s else s.rxSwitch g oh.calInUse
      let s := s.syncRxCal g
      if oh.rpf && s.groupState g = 5 then (s.setGroup g 1).raise pg 6 else s

/-- The transmit calendar switches (R243, R245): each client's FIFO keeps its bytes, and the sub-channels take the new rates. -/
def State.calSwitch (s : State) (g : Nat) : State :=
  let pg := flxePage g
  let s := s.drainGroup g
  let old := s
  let s := s.setFlag pg FLXE_GRP_STATUS_CAL_TX (!s.flag pg FLXE_GRP_STATUS_CAL_TX)
  let s := s.setFld pg FLXE_GRP_STATUS_SWITCH_PEND 0
  let s := s.setFlexe g { s.flexe g with caSeen := false, switchDeadline := none }
  let s := (s.count pg 0xD8).raise pg 1
  match s.groupSlice g with
  | some sl => (s.ratesChanged old sl).rescale sl
  | none => s

/-- Code that announces entry `e` of a transmit calendar (R238, R242): the wire ID of its client, 0 unused, 0xFFFF unavailable. -/
def State.txCode (s : State) (g : Nat) (b : Bool) (e : Nat) : BitVec 16 :=
  let (c, k) := s.calEntry g b e
  if k = 1 then BitVec.ofNat 16 (s.client c).wireId else if k = 2 then 0xFFFF else 0

/-- Entries of a group's members (R235). -/
def State.groupEntries (s : State) (g : Nat) : List Nat :=
  (s.membersOn g).flatMap fun i => (List.range (s.memberSlots g)).map fun e => 80 * i + e

/-- The overhead frame sent on member `i` (R233, R237, R242, R243): it announces the codes of the calendar not in use that its multiframe
began with. With SMC_EN = 1 the section management channel carries what Maelwick gives, a free value; else idle. -/
def State.ohSent (s : State) (g i : Nat) (smc : Option (BitVec 64)) : OhFrame :=
  let pg := flxePage g
  let x := s.flexe g
  let num := fun i => BitVec.ofNat 8 (s.fld pg (FLXE_MEMBER_PHY_NUM.sh (4 * i)))
  { crcGood := true, rpf := s.groupState g != 5, cr := s.flag pg FLXE_GRP_STATUS_SWITCH_PEND && !x.caSeen
    ca := x.peerCr && (s.membersOn g).all fun j => x.announced.getD j false
    calInUse := s.flag pg FLXE_GRP_STATUS_CAL_TX, groupNum := BitVec.ofNat 20 (s.fld pg FLXE_GRP_CFG_GROUP_NUM), phyNum := num i
    phyMap := (s.membersOn g).map fun j => (num j).toNat
    entries := (List.range (s.memberSlots g)).map fun e =>
      (!s.flag pg FLXE_GRP_STATUS_CAL_TX, Fin.ofNat 640 (80 * i + e), mget 0 x.shown (80 * i + e))
    lastOfMultiframe := x.frame == 31, smc := smc }

/-- FLEXE_OH_FRAME_SEND (R237, R243): an overhead-frame boundary. A switch that was acknowledged takes effect, and each member whose lanes
are UP carries an overhead frame; the multiframe counts 32 of them. -/
def State.doFlexeOhFrameSend (s : State) (g : Nat) : State :=
  let pg := flxePage g
  let s := (s.groupSync g).ohCheck g
  if !s.flag pg FLXE_GRP_CFG_EN then s
  else
    let s := if s.flag pg FLXE_GRP_STATUS_SWITCH_PEND && (s.flexe g).caSeen then s.calSwitch g else s
    let x := s.flexe g
    let idle := !s.flag pg FLXE_GRP_STATUS_CAL_TX
    let s := if x.frame = 0 then
        s.setFlexe g { x with shown := (s.groupEntries g).foldl (fun m e => mset (α := BitVec 16) 0 m e (s.txCode g idle e)) [] }
      else s
    let s := s.each ((s.membersOn g).filter (s.memberLocked g)) fun s i =>
      let (v, t) := if s.flag pg FLXE_GRP_CFG_SMC_EN then (fun (x : BitVec 64 × State) => (some x.1, x.2)) s.fresh else (none, s)
      t.emit (.flexeOh g i (t.ohSent g i v))
    s.setFlexe g { s.flexe g with frame := (x.frame + 1) % 32 }

/-- CAL_SWITCH_REQUEST (R243): CMD = 1. -/
def State.doCalSwitchRequest (s : State) (g : Nat) : State :=
  let pg := flxePage g
  let s := s.setFlag pg FLXE_GRP_CFG_REFUSED false
  if s.flag pg FLXE_GRP_STATUS_SWITCH_PEND then s
  else (s.setFld pg FLXE_GRP_STATUS_SWITCH_PEND 1).setFlexe g { s.flexe g with
    caSeen := false, switchDeadline := some (s.now + s.fld pg FLXE_CA_TIMEOUT_TIMEOUT * 1000000) }

/-- A pending switch ends without effect. -/
def State.calDrop (s : State) (g : Nat) : State :=
  (s.setFld (flxePage g) FLXE_GRP_STATUS_SWITCH_PEND 0).setFlexe g { s.flexe g with caSeen := false, switchDeadline := none }
/-- CAL_SWITCH_ABANDON (R243): CMD = 2. -/
def State.doCalSwitchAbandon (s : State) (g : Nat) : State := (s.setFlag (flxePage g) FLXE_GRP_CFG_REFUSED false).calDrop g
/-- CAL_SWITCH_TIMEOUT (R243): no CA came within CA_TIMEOUT. -/
def State.doCalSwitchTimeout (s : State) (g : Nat) : State :=
  match (s.flexe g).switchDeadline with
  | some t => if t ≤ s.now && !(s.flexe g).caSeen then (s.calDrop g).raise (flxePage g) 2 else s
  | none => s

/-! ### Clients (R238, R263) -/

/-- Firmware may write group `g`. -/
def State.fwGroup (s : State) (g : Nat) : Bool := s.bitOf (flxePage 32) FLXEC_FW_GROUP_EN_WRITE_EN g

/-- A client write that R238 refuses. -/
def State.clientBad (s : State) (n g lp wire : Nat) (valid : Bool) : Bool :=
  let others := s.trunk.clients.filter fun c => c.2.valid && c.1 != n
  wire = 0 || wire = 0xFFFF || (valid && 512 ≤ (others.filter fun c => sliceOf c.2.lport == sliceOf lp).length) ||
    (others.any fun c => c.2.group == g && c.2.wireId == wire) || !(s.groupLports g).contains lp ||
    (s.foldOn lp && others.any fun c => c.2.lport == lp)

/-- CLIENT_WRITE (R238, R245, R263). Firmware writes the clients of the groups open to it, before and after the write. -/
def State.doClientWrite (s : State) (fw : Bool) (n : Nat) : State :=
  let pg := flxePage 32
  s.winBusy pg FLXEC_CL_CMD_BUSY FLXEC_CL_CFG_REFUSED fun s =>
    let s := s.setFld pg FLXEC_CL_CMD_INDEX n
    let done := fun (s : State) r => s.winDone pg FLXEC_CL_CMD_RESULT FLXEC_CL_CMD_BUSY r
    let g := s.fld pg FLXEC_CL_DATA0_GROUP
    let lp := s.fld pg FLXEC_CL_DATA0_LPORT
    let wire := s.fld pg FLXEC_CL_DATA0_WIRE_ID
    let valid := s.flag pg FLXEC_CL_DATA0_VALID
    let c := s.client n
    if s.clientBad n g lp wire valid || (fw && !(s.fwGroup g && (!c.valid || s.fwGroup c.group))) then done s 3
    else
      let s := s.drainClient n
      let old := s
      let c := s.client n
      let c := if valid then c else { c with fifo := [], fifoDiscard := (c.fifoDiscard + c.fifo.length) % 2 ^ 64 }
      let s := s.setClient n { c with
        group := g, lport := lp, valid := valid, wireId := wire, drained := if valid then s.now * 1000 else 0 }
      let s := (s.syncRxCal c.group).syncRxCal g
      done (((s.ratesChanged old (sliceOf lp)).rescale (sliceOf lp))) 0

/-- CLIENT_READ (R263). -/
def State.doClientRead (s : State) (n : Nat) : State :=
  let pg := flxePage 32
  s.winBusy pg FLXEC_CL_CMD_BUSY FLXEC_CL_CFG_REFUSED fun s =>
    let s := (s.setFld pg FLXEC_CL_CMD_INDEX n).drainClient n
    let c := s.client n
    let w := fun (n : Nat) => BitVec.ofNat 32 n
    let s := s.winPut pg 0x104
      [w (c.group + 32 * c.lport + (if c.valid then 32768 else 0) + 65536 * c.wireId),
       w (s.clientSlots n + 1024 * s.rxSlotsIn c.group n (s.flag (flxePage c.group) FLXE_GRP_STATUS_CAL_RX)), w c.fifo.length]
    let s := s.winPut pg 0x114 [w c.fifoDiscard, w (c.fifoDiscard / 2 ^ 32), w c.rxCut, w (c.rxCut / 2 ^ 32)]
    s.winDone pg FLXEC_CL_CMD_RESULT FLXEC_CL_CMD_BUSY 0

end Sys2Proof.Machine
end

