-- ==== Sys2Proof/Machine/PackRx.lean ====
section
/-! DEFINITION. Receiving pack-mode units (R250, R254, R255, R259) and the fold tables (R253, R254, R256, R266, R267). -/

namespace Sys2Proof.Machine

/-! ### Units -/

/-- A version of a template that holds bytes. -/
def FoldRx.live (v : Option FoldRx) : Option (List Byte) := v.bind fun x => if x.valid then some x.bytes else none

/-- The template version that resolves tag `x` at generation `u`: NEXT where it is of that generation, else CUR (R254). -/
def Fold.version (f : Fold) (x u : Nat) : Option FoldRx :=
  match mget none f.next x with
  | some v => if v.gen = u then some v else mget none f.cur x
  | none => mget none f.cur x

/-- Resolve a folded unit: the state (a generation may become active) and the template, or the counter of the drop (R254). -/
def State.resolveFold (s : State) (sl t x u : Nat) : State × (List Byte ⊕ Nat) :=
  let k := foldKey sl t
  let act := s.foldSt sl t PACK_FOLD_STATE_RX_ACTIVE
  let known : State × Bool :=
    if u = act then (s, true)
    else if s.foldSt sl t PACK_FOLD_STATE_ARMED = 1 && u = s.foldSt sl t PACK_FOLD_STATE_RX_ARMED then
      (((((s.setFoldSt sl t PACK_FOLD_STATE_RX_ACTIVE u).setFoldSt sl t PACK_FOLD_STATE_ARMED 0).setFoldSt sl t
        PACK_FOLD_STATE_PROMOTING 1).setFold k { s.fold k with promoting := some u }), true)
    else (s, false)
  if !known.2 then (s, .inr 11)
  else
    let s := known.1
    match FoldRx.live ((s.fold k).version x u) with
    | some b => (s, .inl b)
    | none => (s, .inr 12)

/-- The received train of a source: 0 none, 1 open, 2 its rest is discarded. -/
def State.rxTrain (s : State) (lp k : Nat) : Nat := mget 0 (s.pack lp).rxTrain k
def State.setRxTrain (s : State) (lp k n : Nat) : State :=
  let p := s.pack lp
  s.setPack lp { p with rxTrain := mset 0 p.rxTrain k n }

/-- The header of a unit is refused: the rest of the train is discarded (R250). -/
def State.packHeaderRefuse (s : State) (lp k : Nat) : State :=
  let s := (s.packCtr lp 8).packCtr lp 9
  (s.setRxTrain lp k 2).raise (packPage (sliceOf lp)) 0

/-- The body of a unit with a good header arrived whole: rebuild and receive its frame (R250, R254, R255). -/
def State.packBody (s : State) (lp k : Nat) (fold : Bool) (gen : Nat) (body : List Byte) : State :=
  if !fold then s.receiveWhole lp k body cleanEnd
  else
    let sl := sliceOf lp
    let s := s.packCtr lp 6
    if !s.foldOn lp then (s.packCtr lp 12).raise (packPage sl) 2
    else
      match s.resolveFold sl (s.foldTable lp) (beAt body 0 2) gen with
      | (s, .inr n) => (s.packCtr lp n).raise (packPage sl) (n - 10)
      | (s, .inl b) =>
        let frame := b ++ body.drop 2
        if fcsGood frame then s.receiveWhole lp k frame cleanEnd
        else ((s.rxCount lp frame (some 27) 0).packCtr lp 13).raise (packPage sl) 4

/-- A unit of an open train, with how it ended (R250, R259). -/
def State.packUnitIn (s : State) (lp k : Nat) (unit : List Byte) (e : UnitErr) : State :=
  let h := unit.take 4
  let len := byteAt h 0 % 64 * 256 + byteAt h 1
  let fold := (byteAt h 0).testBit 6
  let body := unit.drop 4
  let short := fun (s : State) => (s.setRxTrain lp k 0).packCtr lp 8
  match e with
  | .header => s.packHeaderRefuse lp k
  | .trainEnd => short s
  | .cut => if 2 ≤ k then s.cutClient (k - 2) else s
  | _ =>
    if h.length < 4 then short s
    else if crc8 (h.take 3) ≠ BitVec.ofNat 8 (byteAt h 3) || !(byteAt h 0).testBit 7 ||
        (if fold then len < 44 || 12278 < len else len < 64 || 12288 < len) then s.packHeaderRefuse lp k
    else if body.length < len then short s
    else
      let s := s.packCtr lp 5
      match e with
      | .bodyFec => (s.portCtr lp 33).packCtr lp 10
      | .bodyCode => (s.portCtr lp 32).packCtr lp 10
      | _ => s.packBody lp k fold (byteAt h 2) (body.take len)

/-- PACK_UNIT_RECEIVE (R241, R250, R254, R259): a unit of source `k`, the first of its train or a later one, with how it ended. -/
def State.doPackUnitReceive (s : State) (lp k : Nat) (first : Bool) (unit : List Byte) (e : UnitErr) : State :=
  if !s.packOn lp || !s.rxOpen lp k || (s.rxOf lp k).isSome then s
  else
    let s := if first then (s.setRxTrain lp k 1).packCtr lp 7 else s
    if s.rxTrain lp k ≠ 1 then s
    else
      let s := s.packUnitIn lp k unit e
      if e = .last then s.setRxTrain lp k 0 else s

/-! ### Fold tables -/

def State.foldRefused (s : State) (sl : Nat) (b : Bool) : State := s.setFlag (packPage sl) PACK_PACK_CFG_REFUSED b

/-- FOLD_COMMIT (R253): CMD = 1, refused during cleaning. -/
def State.doFoldCommit (s : State) (sl t : Nat) : State :=
  if s.foldSt sl t PACK_FOLD_STATE_CLEANING = 1 then s.foldRefused sl true
  else (s.foldRefused sl false).setFold (foldKey sl t) { s.fold (foldKey sl t) with commitDue := true }

/-- FOLD_COMMIT_APPLY (R253): at the next unit boundary the new generation is in use. -/
def State.doFoldCommitApply (s : State) (sl t : Nat) : State :=
  let k := foldKey sl t
  let f := s.fold k
  if !f.commitDue then s
  else
    let g := (s.foldSt sl t PACK_FOLD_STATE_TX_ACTIVE + 1) % 256
    ((s.setFoldSt sl t PACK_FOLD_STATE_TX_ACTIVE g).setFoldSt sl t PACK_FOLD_STATE_CLEANING 1).setFold k
      { f with commitDue := false, cleaning := some g }

/-- FOLD_CLEANING_DONE (R253): entries added in the generation are current, entries removed in it are gone. -/
def State.doFoldCleaningDone (s : State) (sl t : Nat) : State :=
  let k := foldKey sl t
  let f := s.fold k
  match f.cleaning with
  | none => s
  | some g =>
    let tx := (f.tx.filter fun e => !(e.state == 2 && e.gen == g)).map fun e =>
      if e.state = 1 && e.gen = g then { e with state := 0 } else e
    (s.setFoldSt sl t PACK_FOLD_STATE_CLEANING 0).setFold k { f with tx := tx, cleaning := none }

/-- FOLD_DISCARD_PENDING (R253): CMD = 6. -/
def State.doFoldDiscardPending (s : State) (sl t : Nat) : State :=
  let k := foldKey sl t
  let f := s.fold k
  (s.foldRefused sl false).setFold k { f with
    tx := (f.tx.filter fun e => e.state != 1).map fun e => if e.state = 2 then { e with state := 0 } else e }

/-- FOLD_ARM (R254): CMD = 2, refused during promotion. -/
def State.doFoldArm (s : State) (sl t : Nat) : State :=
  if s.foldSt sl t PACK_FOLD_STATE_PROMOTING = 1 then s.foldRefused sl true
  else ((s.foldRefused sl false).setFoldSt sl t PACK_FOLD_STATE_RX_ARMED
    ((s.foldSt sl t PACK_FOLD_STATE_RX_ACTIVE + 1) % 256)).setFoldSt sl t PACK_FOLD_STATE_ARMED 1

/-- FOLD_DISARM (R254): CMD = 3. -/
def State.doFoldDisarm (s : State) (sl t : Nat) : State :=
  let k := foldKey sl t
  ((s.foldRefused sl false).setFoldSt sl t PACK_FOLD_STATE_ARMED 0).setFold k { s.fold k with next := [] }

/-- Copy each NEXT of generation `g` into CUR; a NEXT without a template removes it. -/
def promote (g : Nat) (cur next : Map (Option FoldRx)) : Map (Option FoldRx) :=
  next.foldl (fun m e => match e.2 with
    | some v => if v.gen = g then mset none m e.1 (if v.valid then some v else none) else m
    | none => m) cur

/-- FOLD_PROMOTION_DONE (R254). -/
def State.doFoldPromotionDone (s : State) (sl t : Nat) : State :=
  let k := foldKey sl t
  let f := s.fold k
  match f.promoting with
  | none => s
  | some g =>
    (s.setFoldSt sl t PACK_FOLD_STATE_PROMOTING 0).setFold k { f with
      cur := promote g f.cur f.next, promoting := none
      next := f.next.filter fun e => match e.2 with | some v => v.gen != g | none => false }

/-- FOLD_RESUME (R256): CMD = 4. -/
def State.doFoldResume (s : State) (sl t : Nat) : State := (s.foldRefused sl false).setFoldSt sl t PACK_FOLD_STATE_SUSPEND 0

/-- FOLD_RESTART (R256): CMD = 5 with GEN. -/
def State.doFoldRestart (s : State) (sl t gen : Nat) : State :=
  let k := foldKey sl t
  let s := (s.foldRefused sl false).setFoldSt sl t PACK_FOLD_STATE_TX_ACTIVE gen
  let s := (s.setFoldSt sl t PACK_FOLD_STATE_RX_ACTIVE gen).setFoldSt sl t PACK_FOLD_STATE_ARMED 0
  (s.setFoldSt sl t PACK_FOLD_STATE_SUSPEND 1).setFold k { s.fold k with restarting := true, commitDue := false }

/-- FOLD_RESTART_DONE (R256): both sides of the table are empty. -/
def State.doFoldRestartDone (s : State) (sl t : Nat) : State :=
  let k := foldKey sl t
  if (s.fold k).restarting then
    ((s.setFoldSt sl t PACK_FOLD_STATE_CLEANING 0).setFoldSt sl t PACK_FOLD_STATE_PROMOTING 0).setFold k dfltFold
  else s

/-! ### The fold windows (R253, R254, R266). The firmware window lies 0x80 above the host's. -/

def foldWin (fw : Bool) (f : Fld) : Fld := f.sh (if fw then 0x80 else 0)
/-- Bytes, length, generation and VALID of the window. -/
def State.foldWindow (s : State) (fw : Bool) (sl : Nat) : List Byte × Nat × Nat × Bool :=
  let pg := packPage sl
  let n := s.fld pg (foldWin fw PACK_FOLD_DATA6_LEN)
  let bytes := (s.winGet pg (if fw then 0x484 else 0x404) 6).flatMap fun w => leBytes 4 w.toNat
  (bytes.take n, n, s.fld pg (foldWin fw PACK_FOLD_DATA6_GEN), s.flag pg (foldWin fw PACK_FOLD_DATA6_VALID))

/-- Run a fold window command: `run` answers RESULT. Firmware writes only the tables that FW_FOLD_EN opens. -/
def State.foldCmd (s : State) (fw write : Bool) (sl t tag dir : Nat) (run : State → State × Nat) : State :=
  let pg := packPage sl
  s.winBusy pg (foldWin fw PACK_FOLD_CMD_BUSY) PACK_PACK_CFG_REFUSED fun s =>
    let s := ((s.setFld pg (foldWin fw PACK_FOLD_CMD_INDEX) tag).setFld pg (foldWin fw PACK_FOLD_CMD_TABLE) t).setFld pg
      (foldWin fw PACK_FOLD_CMD_DIR) dir
    let (s, r) := if fw && write && !s.bitOf pg PACK_FW_FOLD_EN_WRITE_EN t then (s, 3) else run s
    s.winDone pg (foldWin fw PACK_FOLD_CMD_RESULT) (foldWin fw PACK_FOLD_CMD_BUSY) r

/-- Entries of a transmit table (R251). -/
def foldTxSize : Nat := 131072

/-- FOLD_ENTRY_WRITE (R253, R254): add a transmit entry, or write a receive template's NEXT. -/
def State.doFoldEntryWrite (s : State) (fw : Bool) (sl t : Nat) (tx : Bool) (tag : Nat) : State :=
  s.foldCmd fw true sl t tag (if tx then 1 else 0) fun s =>
    let k := foldKey sl t
    let f := s.fold k
    let (bytes, len, gen, valid) := s.foldWindow fw sl
    if len < 12 || 22 < len then (s, 3)
    else if tx then
      let g := (s.foldSt sl t PACK_FOLD_STATE_TX_ACTIVE + 1) % 256
      if gen ≠ g || (f.tx.any fun e => e.key == bytes && e.usable g) then (s, 3)
      else if foldTxSize ≤ f.tx.length then (s.raise (packPage sl) 5, 2)
      else (s.setFold k { f with tx := f.tx ++ [{ key := bytes, tag := tag, state := 1, gen := gen }] }, 0)
    else if s.foldSt sl t PACK_FOLD_STATE_PROMOTING = 1 || gen ≠ (s.foldSt sl t PACK_FOLD_STATE_RX_ACTIVE + 1) % 256 then (s, 3)
    else (s.setFold k { f with next := mset none f.next tag (some { bytes := bytes, valid := valid, gen := gen }) }, 0)

/-- Show an entry in the window. -/
def State.foldShow (s : State) (fw : Bool) (sl : Nat) (bytes : List Byte) (gen : Nat) (valid : Bool) (st : Nat) (next : Bool) : State :=
  let pg := packPage sl
  let b := bytes ++ zeros (24 - bytes.length)
  s.winPut pg (if fw then 0x484 else 0x404)
    (((List.range 6).map fun w => BitVec.ofNat 32 (leAt b (4 * w) 4)) ++
      [BitVec.ofNat 32 (bytes.length + 32 * gen + (if valid then 8192 else 0) + 16384 * st + (if next then 65536 else 0))])

/-- FOLD_ENTRY_READ (R266): the transmit entry of a tag, or the template of a tag (NEXT where it has one). -/
def State.doFoldEntryRead (s : State) (fw : Bool) (sl t : Nat) (tx : Bool) (tag : Nat) : State :=
  s.foldCmd fw false sl t tag (if tx then 1 else 0) fun s =>
    let f := s.fold (foldKey sl t)
    if tx then
      match f.tx.find? fun e => e.tag == tag with
      | some e => (s.foldShow fw sl e.key e.gen false e.state false, 0)
      | none => (s, 1)
    else
      match mget none f.next tag, mget none f.cur tag with
      | some v, _ => (s.foldShow fw sl v.bytes v.gen v.valid 0 true, 0)
      | none, some v => (s.foldShow fw sl v.bytes v.gen v.valid 0 false, 0)
      | none, none => (s, 1)

/-- FOLD_ENTRY_REMOVE (R253): the transmit entry with the window's key; OP = 3 is no command of the receive side. -/
def State.doFoldEntryRemove (s : State) (fw : Bool) (sl t : Nat) (tx : Bool) (tag : Nat) : State :=
  s.foldCmd fw true sl t tag (if tx then 1 else 0) fun s =>
    let k := foldKey sl t
    let f := s.fold k
    let (bytes, len, _, _) := s.foldWindow fw sl
    if !tx || len < 12 || 22 < len then (s, 3)
    else
      match f.tx.find? fun e => e.key == bytes && e.state != 2 with
      | none => (s, 1)
      | some e =>
        let g := (s.foldSt sl t PACK_FOLD_STATE_TX_ACTIVE + 1) % 256
        if e.state = 1 then (s.setFold k { f with tx := f.tx.filter fun x => x != e }, 0)
        else (s.setFold k { f with tx := f.tx.map fun x => if x = e then { e with state := 2, gen := g } else x }, 0)

/-- PACK_CNT_SEL (R266, R267): the counters of a local logical port are latched at one instant. -/
def State.doPackCntSel (s : State) (sl q : Nat) : State :=
  let s := (s.foldRefused sl false).setFld (packPage sl) PACK_CNT_SEL_LPORT q
  s.each (List.range 14) fun s n => s.setCtr (packPage sl) (0x508 + 8 * n) ((s.pack (128 * sl + q)).counters.getD n 0)

end Sys2Proof.Machine
end

