-- ==== Sys2Proof/Machine/Fabric.lean ====
section
/-! DEFINITION. The fabric (chapter 10): link units, hellos and link states, credits and retry, link failure and gap notices, the
destination resequencer, and the windows of the FABR page. -/

namespace Sys2Proof.Machine

/-! ### Cells as bytes (R209, R273) -/

/-- A fabric cell as a link carries it from slice `sl`: DEST, SEQ, STAMP and GRANT_WAIT are 0 (R273). -/
def cellBytes (sl : Nat) (c : Cell) : List Byte :=
  Cell.wire { c with fabric := true, srcSlice := sl, dest := 0, seq := 0, stamp := 0, grantWait := 0 }

/-- Read a fabric cell. -/
def readCell (b : List Byte) : Cell :=
  let x := leAt b 26 2
  { fabric := true, cls := byteAt b 0 / 4 % 8, srcSlice := byteAt b 0 / 32, dest := 0, seq := 0, stamp := 0, grantWait := 0
    validLen := leAt b 13 2 % 512, firstTag := leAt b 15 2 % 512, endOff := leAt b 17 2 % 512, endStatus := leAt b 17 2 / 512 % 4
    fdest := leAt b 19 4, fseq := leAt b 23 3, srcDev := x % 4096, fSrcSlice := x / 4096 % 8, first := x.testBit 15
    payload := b.drop 32, releases := [], mirrors := [], input := none }

/-- FIRST_TAG of a gap notice (R296). -/
def noticeTag : Nat := 0x1FE

/-! ### Small parts -/

def State.linkCtr (s : State) (p n : Nat) : State :=
  let l := s.link p
  s.setLink p { l with counters := l.counters.set n ((l.counters.getD n 0 + 1) % 2 ^ 64) }
def State.syncFill (s : State) (p : Nat) : State := s.setLinkFld p FABR_LINK_STATE_RETRY_FILL (s.link p).retry.length
/-- A link's event names its local port, so that guy lines can tell it (R432). -/
def linkSrc (p src : Nat) : Nat := src + 32 * (p % 32 + 1)
def State.linkRaise (s : State) (p src : Nat) : State := s.raise (fabrPage (p / 32)) (linkSrc p src)

/-- Grant of class `c` as configured (R284). -/
def State.grantOf (s : State) (p c : Nat) : Nat :=
  s.linkFld p ((if c % 2 = 0 then FABR_LINK_CREDIT_GRANT_LO else FABR_LINK_CREDIT_GRANT_HI).sh (4 * (c / 2)))
/-- Fabric address of a link: DEV_ADDR and the physical port number (R275). -/
def State.linkAddr (s : State) (p : Nat) : Nat := s.fld (fabrPage 8) FABRM_DEV_ADDR_ADDR * 256 + p
def State.devNum (s : State) : Nat := s.fld (fabrPage 8) FABRM_DEV_NUM_NUM
def State.moduleId (s : State) : Nat :=
  s.fld (fabrPage 8) FABRM_MODULE_ID_LO_ID + 2 ^ 32 * s.fld (fabrPage 8) FABRM_MODULE_ID_HI_ID
/-- Link retry time in ns and µs (R288). -/
def State.retryNs (s : State) (p : Nat) : Nat := 4 * s.linkFld p FABR_LINK_RETRY_RETRY_TIMER
def State.retryUs (s : State) (p : Nat) : Nat := ceilDiv (s.retryNs p) 1000
def State.intervalUs (s : State) : Nat := s.fld (fabrPage 8) FABRM_HELLO_CFG_INTERVAL
def State.deadNs (s : State) : Nat := s.fld (fabrPage 8) FABRM_HELLO_CFG_DEAD_MULT * s.intervalUs * 1000

/-! ### PATH_MAX and EFF_TIMEOUT (R294, R295) -/

/-- Largest link retry time in µs of the links with CELL_EN = 1; the default link retry time where there is none (DEDUCED, log 70). -/
def State.localMax (s : State) : Nat :=
  let l := (List.range 256).filter s.cellOn
  if l.isEmpty then 20 else l.foldl (fun m p => max m (s.retryUs p)) 0

/-- RESEQ_EFF follows RESEQ_CFG and PATH_MAX. -/
def State.syncEff (s : State) : State :=
  let pg := fabrPage 8
  s.setFld pg FABRM_RESEQ_EFF_EFF_TIMEOUT (max (s.fld pg FABRM_RESEQ_CFG_TIMEOUT) (4 * s.fld pg FABRM_PATH_RETRY_PATH_MAX))

/-- LOCAL_MAX is measured anew, and PATH_MAX rises to it. -/
def State.syncPath (s : State) : State :=
  let pg := fabrPage 8
  let m := s.localMax
  ((s.setFld pg FABRM_PATH_RETRY_LOCAL_MAX m).setFld pg FABRM_PATH_RETRY_PATH_MAX (max m (s.fld pg FABRM_PATH_RETRY_PATH_MAX))).syncEff

/-- A hello's PATH_MAX in TWO_WAY or ACTIVE (R294, R295). -/
def State.hearPath (s : State) (n : Nat) : State :=
  let pg := fabrPage 8
  if n ≤ s.fld pg FABRM_PATH_RETRY_PATH_MAX then s
  else
    let s := (s.setFld pg FABRM_PATH_RETRY_PATH_MAX n).syncEff
    if s.fld pg FABRM_RESEQ_CFG_TIMEOUT < 4 * n then s.raise pg 1 else s

/-- PATH_MAX_RESET (R294). -/
def State.doPathMaxReset (s : State) : State :=
  let pg := fabrPage 8
  (s.setFld pg FABRM_PATH_RETRY_PATH_MAX (s.fld pg FABRM_PATH_RETRY_LOCAL_MAX)).syncEff

/-! ### Failure (R289, R296) -/

/-- One entry of a gap notice (R296). -/
def noticeEntry (c : Cell) : List Byte :=
  leBytes 8 (c.srcDev + 2 ^ 12 * c.fSrcSlice + 2 ^ 15 * (c.fdest % 256) + 2 ^ 23 * c.cls + 2 ^ 26 * c.fseq)

/-- Notices of the cells lost toward one fabric address, 32 to a notice. -/
def State.noticesFor (s : State) (sl fdest : Nat) : Nat → List Cell → State
  | 0, _ => s
  | fuel + 1, cs =>
    if cs.isEmpty then s
    else
      let l := (cs.take 32).flatMap noticeEntry
      let c : Cell :=
        { fabric := true, cls := 7, srcSlice := sl, dest := 0, seq := 0, stamp := s.stamp, grantWait := 0, validLen := l.length
          firstTag := noticeTag, endOff := 511, endStatus := 0, fdest := fdest, fseq := 0, srcDev := s.devNum, fSrcSlice := sl
          first := false, payload := l ++ zeros (256 - l.length), releases := [], mirrors := [], input := none }
      ((s.count (fabrPage 8) 0xB0).forwardCell sl c).noticesFor sl fdest fuel (cs.drop 32)

/-- A link leaves its state for `st`: waiting cells are sprayed again, notices go out for the cells in the retry buffer, and its
credits and pending returns clear. Where that is a failure, LINK_FAIL and FAILS tell it; an ACTIVE link raises NEIGHBOR_DOWN. -/
def State.linkOut (s : State) (p st : Nat) (fails : Bool) : State :=
  let was := s.linkState p
  let sl := p / 32
  let l := s.link p
  let s := s.setLinkFld p FABR_LINK_STATE_STATE st
  let s := s.setLink p { l with
    txq := [], retry := [], resend := [], lastNak := none, nakPending := false, inBuf := List.replicate 8 0, session := l.session + 1
    credits := List.replicate 8 0, returns := List.replicate 8 0
    latchDue := [], audited := [], helloDue := false
    holddownEnd := s.now + s.fld (fabrPage 8) FABRM_STREAM_CFG_HOLDDOWN * 1000000 }
  let s := s.syncFill p
  let s := s.each (List.range 8) fun s c => s.setWithheld ((sl * 264 + p) * 8 + c) false
  let s := l.txq.foldl (fun s c => s.forwardCell sl c) s
  let lost := (l.retry.map (·.cell)).filter fun c => c.firstTag != noticeTag
  let s := s.each (lost.map (·.fdest)).eraseDups fun s d =>
    let cs := lost.filter fun c => c.fdest == d
    s.noticesFor sl d (cs.length / 32 + 1) cs
  let s := if fails then (s.linkCtr p 8).linkRaise p 0 else s
  if was = 3 then s.linkRaise p 2 else s

/-- An ACTIVE link fails (R288, R289). -/
def State.linkFail (s : State) (p : Nat) : State := if s.linkState p = 3 then s.linkOut p 4 true else s

/-! ### States and REJECT (R276, R277) -/

def State.linkMode (s : State) (p : Nat) : Bool := s.modeOf p == 1 || s.modeOf p == 4

/-- The first row of R277 that applies. -/
def State.rejectOf (s : State) (p : Nat) : Nat :=
  let linkEn := s.linkFld p FABR_LINK_CFG_LINK_EN == 1
  match (if (s.link p).seen then (s.link p).nbr else none) with
  | none => if !linkEn then 5 else if !s.linkMode p then 7 else 0
  | some n =>
    if n.addr / 2 ^ 26 ≠ s.linkAddr p / 2 ^ 26 then 1
    else if n.num = s.devNum then 2
    else if (List.range 256).any fun q => q != p && (s.linkState q == 2 || s.linkState q == 3) &&
        (match (s.link q).nbr with | some m => m.num == n.num && m.id != n.id | none => false) then 3
    else if n.addr = s.linkAddr p then 4
    else if !linkEn then 5
    else if !n.linkEn || n.reject ≠ 0 then 6
    else if !s.linkMode p then 7 else 0

/-- Evaluate REJECT: a change to a nonzero code raises LINK_REJECT and ends ACTIVE. -/
def State.evalReject (s : State) (p : Nat) : State :=
  if !s.cellOn p then s
  else
    let r := s.rejectOf p
    if r = s.linkFld p FABR_LINK_STATE_REJECT then s
    else
      let s := s.setLinkFld p FABR_LINK_STATE_REJECT r
      if r = 0 then s else (s.linkRaise p 3).linkFail p

/-- Entry to ACTIVE (R276, R278). -/
def State.enterActive (s : State) (p : Nat) (n : Neighbor) : State :=
  let l := s.link p
  let known := (List.range 256).any fun q => q != p && s.linkState q == 3 &&
    (match (s.link q).nbr with | some m => m.id == n.id | none => false)
  let s := s.setLink p { l with
    nextLseq := 0, expect := 0, retry := [], resend := [], lastNak := none, nakPending := false, nakSent := false, due := none
    inBuf := List.replicate 8 0, session := l.session + 1
    credits := n.grants, granted := n.grants, returns := List.replicate 8 0
    grantsInForce := (List.range 8).map (s.grantOf p) }
  let s := ((s.setLinkFld p FABR_LINK_STATE_STATE 3).syncFill p).linkRaise p 1
  if known then s else s.raise (fabrPage 8) 0

/-- REJECT is evaluated; a link in TWO_WAY with REJECT 0 in both directions enters ACTIVE (R276, R277). -/
def State.linkCheck (s : State) (p : Nat) : State :=
  let s := s.evalReject p
  match (s.link p).nbr with
  | some n =>
    if s.linkState p = 2 && s.linkFld p FABR_LINK_STATE_REJECT = 0 && n.reject = 0 then s.enterActive p n else s
  | none => s

/-- The link follows its port (R269, R276): CELL_EN, the port mode and sub-port 0. CELL_EN = 0 fails a link in any state but DOWN. -/
def State.linkFollow (s : State) (p : Nat) : State :=
  let st := s.linkState p
  let up := (s.pitch (4 * p)).state == 5
  if !s.cellOn p then (if st = 0 then s else s.linkOut p 0 true)
  else
    let s :=
      if !up || !s.linkMode p then (if st = 3 then s.linkFail p else if st = 1 || st = 2 then s.linkOut p 0 false else s)
      else if st = 0 then
        (s.setLinkFld p FABR_LINK_STATE_STATE 1).setLink p { s.link p with
          helloAt := s.now, lastHello := some s.now, echo := 0, seen := false, due := none, hunt := 0 }
      else s
    s.linkCheck p

/-! ### Hellos (R275 to R278) -/

/-- The hello a link sends. -/
def State.helloBytes (s : State) (p : Nat) : List Byte :=
  let l := s.link p
  let g := fun c => if s.linkState p = 3 then l.grantsInForce.getD c 0 else s.grantOf p c
  let b := leBytes 8 s.moduleId ++ leBytes 4 (s.linkAddr p) ++ leBytes 2 s.devNum ++
    leBytes 1 (s.linkFld p FABR_LINK_CFG_LINK_EN + (if l.seen then 2 else 0)) ++ leBytes 1 (s.linkFld p FABR_LINK_STATE_REJECT) ++
    leBytes 8 ((l.nbr.map (·.id)).getD 0) ++ leBytes 4 ((l.nbr.map (·.addr)).getD 0) ++ leBytes 2 (s.retryUs p) ++
    leBytes 2 (s.fld (fabrPage 8) FABRM_PATH_RETRY_PATH_MAX) ++ ((List.range 8).flatMap fun c => leBytes 2 (g c)) ++
    leBytes 4 s.intervalUs ++ leBytes 5 s.stamp ++ leBytes 5 l.echo ++ leBytes 4 (if l.echo = 0 then 0 else s.now - l.echoAt)
  let b := b ++ zeros (284 - b.length)
  b ++ leBytes 4 (crc32c b).toNat

/-- Read a hello. -/
def readHello (b : List Byte) : Neighbor :=
  { id := leAt b 0 8, addr := leAt b 8 4, num := leAt b 12 2 % 4096, retryUs := leAt b 28 2 % 4096, pathMax := leAt b 30 2 % 4096, rtt := 0
    linkEn := (byteAt b 14).testBit 0, peerSeen := (byteAt b 14).testBit 1, reject := byteAt b 15
    grants := (List.range 8).map fun c => leAt b (32 + 2 * c) 2, txStamp := leAt b 52 5 }

/-- What the link state machine does with a valid hello that names `me` and `addr` as its peer (R276). -/
def State.helloStep (s : State) (p : Nat) (n : Neighbor) (names : Bool) : State :=
  let s := if s.linkState p = 1 && n.peerSeen && names then s.setLinkFld p FABR_LINK_STATE_STATE 2 else s
  s.linkCheck p

/-- With SRC 3 a hello of link `p` that echoes stamp `t1` measures the neighbour's DT: ((t2 − t1) + (t3 − t4)) ÷ 2 less A, in 1/256 ns
(R304). The steering that DT_TRIM gives works from it. -/
def State.neighborMeasure (s : State) (p t1 hold t3 : Nat) : State :=
  let m := fun (x : Int) => signed 40 (unsigned 40 x)
  if s.fld timePage TIME_DT_CFG_SRC ≠ 3 || s.fld timePage TIME_DT_CFG_LINK ≠ p || t1 = 0 then s
  else s.onTime fun t => { t with
    nbrOfs := some ((m ((t3 : Int) - hold - t1) + m ((t3 : Int) - s.stamp)) * 128 - s.asymOf (4 * p)) }

/-- HELLO_RECEIVE (R275, R276, R277, R294, R304). A FAILED link measures and checks, and its state stays. -/
def State.doHelloReceive (s : State) (p : Nat) (b : List Byte) : State :=
  if s.linkState p = 0 then s
  else if b.length ≠ 288 || leAt b 284 4 ≠ (crc32c (b.take 284)).toNat then s.linkCtr p 11
  else
    let s := s.linkCtr p 10
    let echo := leAt b 57 5
    let rtt := (stampAge s.stamp echo - leAt b 62 4) % 2 ^ 20
    let s := if echo = 0 then s else s.setLinkFld p FABR_LINK_RTT_RTT rtt
    let n := { readHello b with rtt := s.linkFld p FABR_LINK_RTT_RTT }
    let l := s.link p
    let s := (s.neighborMeasure p echo (leAt b 62 4) n.txStamp).setLink p { l with
      nbr := some n, seen := true, lastHello := some s.now, echo := n.txStamp, echoAt := s.now }
    let s := s.helloStep p n (leAt b 16 8 == s.moduleId && leAt b 24 4 == s.linkAddr p)
    if s.linkState p = 2 || s.linkState p = 3 then s.hearPath n.pathMax else s

/-- HELLO_SEND (R275): the interval has elapsed, and a hello takes the next free unit slot. -/
def State.doHelloSend (s : State) (p : Nat) : State :=
  let l := s.link p
  let st := s.linkState p
  if (st = 1 || st = 2 || st = 3) && l.helloAt + s.intervalUs * 1000 ≤ s.now then
    s.setLink p { l with helloAt := s.now, helloDue := true }
  else s

/-- HELLO_DEAD_INTERVAL (R276). -/
def State.doHelloDeadInterval (s : State) (p : Nat) : State :=
  match (s.link p).lastHello with
  | none => s
  | some t =>
    if s.now < t + s.deadNs then s
    else if s.linkState p = 3 then s.linkFail p
    else if s.linkState p = 2 then (s.setLinkFld p FABR_LINK_STATE_STATE 1).setLink p { s.link p with seen := false }
    else s

/-- HOLDDOWN_EXPIRE (R289). -/
def State.doHolddownExpire (s : State) (p : Nat) : State :=
  if s.linkState p = 4 && (s.link p).holddownEnd ≤ s.now then (s.setLinkFld p FABR_LINK_STATE_STATE 0).linkFollow p else s

/-! ### Receiving units (R272, R284, R287, R297) -/

/-- Entries of the retry buffer from sequence `a` on. -/
def retryFrom (l : List Retry) (a : Nat) : List Retry :=
  l.filter fun r => let d := (a + 4096 - r.lseq) % 4096; d = 0 || 2048 < d

/-- PCRC of a prefix (R271). -/
def prefixGood (b : List Byte) : Bool := b.length == 8 && crc8 (b.take 7) == BitVec.ofNat 8 (byteAt b 7)

/-- The receiver tries eight bytes as the next prefix, `first` where an alignment-marker group has just passed; true when it takes them.
After a prefix that fails, which counts in PREFIX_ERR, it tries 8 bytes on and then 296 bytes on, and when neither passes it discards
what comes up to the next alignment-marker group (R272). A position that is only tried counts nowhere (DESIGN CHOICE, log 125). -/
def State.prefixTaken (s : State) (p : Nat) (first : Bool) (b : List Byte) : State × Bool :=
  let l := s.link p
  let hunt := if first then 0 else l.hunt
  if prefixGood b && hunt < 3 then
    (s.setLink p { l with hunt := 0, due := if byteAt b 0 % 4 = 1 then some (leAt b 1 2 % 4096) else none }, true)
  else
    let s := s.setLink p { l with hunt := min 3 (hunt + 1), due := none }
    (if hunt = 0 then s.linkCtr p 11 else s, false)

/-- The sender of a link evaluates the credit account of a latch prefix's class, then applies its returns (R297). -/
def State.latchApply (s : State) (p : Nat) (b : List Byte) : State :=
  let l := s.link p
  let c := leAt b 3 2 / 4096 % 8
  let bq := leAt b 3 2 % 4096
  let r := leAt b 5 2 % 4096
  let w := (l.retry.filter fun x => x.cell.cls == c).length
  let left : Int := (l.credits.getD c 0 + w + bq + r : Nat)
  s.setLink p { l with
    audited := l.audited ++ [(c, left - (l.granted.getD c 0 : Nat))]
    credits := addAt l.credits c r }

/-- ACK, NAK and credits of a prefix (R287). -/
def State.prefixApply (s : State) (p : Nat) (b : List Byte) : State :=
  let l := s.link p
  let a := leAt b 3 2 % 4096
  let nak := (byteAt b 0).testBit 2
  let retry := retryFrom l.retry a
  let keep := retry.map (·.lseq)
  let again : Bool := nak && decide (l.lastNak ≠ some a)
  let s := s.setLink p { l with
    retry := retry
    resend := if again then keep else l.resend.filter keep.contains
    lastNak := if nak then some a else l.lastNak
    credits := addAt l.credits (leAt b 3 2 / 4096 % 8) (leAt b 5 2 % 4096) }
  let s := s.syncFill p
  if nak then s.linkCtr p 4 else s

/-- LINK_PREFIX_RECEIVE (R272, R287, R297): an ACTIVE link acts on a prefix whose PCRC passes. -/
def State.doLinkPrefixReceive (s : State) (p : Nat) (first : Bool) (b : List Byte) : State :=
  if s.linkState p = 0 then s
  else match s.prefixTaken p first b with
    | (s, false) => s
    | (s, true) => if s.linkState p ≠ 3 then s else if (byteAt b 0).testBit 3 then s.latchApply p b else s.prefixApply p b

/-- LATCH_PREFIX_RECEIVE (R297): a prefix with LATCH = 1 arrives. -/
def State.doLatchPrefixReceive (s : State) (p : Nat) (first : Bool) (b : List Byte) : State :=
  if s.linkState p = 0 then s
  else match s.prefixTaken p first b with
    | (s, false) => s
    | (s, true) => if s.linkState p ≠ 3 || !(byteAt b 0).testBit 3 then s else s.latchApply p b

/-- LINK_CELL_RECEIVE (R272, R282, R284, R287): the cell of a prefix that was taken is accepted in LSEQ order into the input buffer and
routed; it leaves the buffer when it launches or is discarded. -/
def State.doLinkCellReceive (s : State) (p lseq : Nat) (cell : List Byte) (fecBad : Bool) : State :=
  if s.linkState p ≠ 3 || (s.link p).due ≠ some lseq then s
  else
    let l := { s.link p with due := none }
    if fecBad || !cellGood cell then (s.setLink p { l with nakPending := true }).linkCtr p 6
    else if lseq = l.expect then
      let c := readCell cell
      let s := (s.setLink p { l with
        expect := (l.expect + 1) % 4096, nakSent := false, inBuf := addAt l.inBuf c.cls 1 }).linkCtr p 1
      s.forwardCell (p / 32) { c with input := some (p, l.session) }
    else
      let d := (l.expect + 4096 - lseq) % 4096
      if 1 ≤ d && d ≤ 2048 then (s.setLink p l).linkCtr p 5
      else (s.setLink p { l with nakPending := true }).linkCtr p 7

/-! ### Sending units (R270, R271, R285, R287) -/

/-- The class whose returns the next prefix carries: class 7 first, the others in turn. -/
def creditClass (returns : List Nat) (turn : Nat) : Nat :=
  if returns.getD 7 0 ≠ 0 then 7
  else (((List.range 7).map fun i => (turn + i) % 7).find? fun c => returns.getD c 0 != 0).getD 0

/-- A prefix; `lseq` is 0 for a unit without a cell. NAK goes out once per value of the expected sequence, and returns are taken. -/
def State.makePrefix (s : State) (p kind lseq : Nat) : State × List Byte :=
  let l := s.link p
  let nak : Bool := l.nakPending && !l.nakSent
  let c := creditClass l.returns l.creditTurn
  let n := min 2048 (l.returns.getD c 0)
  let b := leBytes 1 (kind + (if nak then 4 else 0)) ++ leBytes 2 lseq ++ leBytes 2 (l.expect + 4096 * c) ++ leBytes 2 n
  let s := s.setLink p { l with
    nakPending := l.nakPending && !nak, nakSent := l.nakSent || nak, returns := l.returns.set c (l.returns.getD c 0 - n)
    creditTurn := if c < 7 && n ≠ 0 then (c + 1) % 7 else l.creditTurn }
  (if nak then s.linkCtr p 3 else s, b ++ [crc8 b])

/-- One of the eight audit prefixes (R297). -/
def latchPrefix (x : Nat × Nat × Nat) : List Byte :=
  let b := leBytes 1 8 ++ leBytes 2 0 ++ leBytes 2 (x.2.1 % 4096 + 4096 * x.1) ++ leBytes 2 (x.2.2 % 4096)
  b ++ [crc8 b]

def State.sendHello (s : State) (p : Nat) : State :=
  let (s, pre) := s.makePrefix p 2 0
  let s := s.emit (.unit p pre (s.helloBytes p))
  (s.setLink p { s.link p with helloDue := false }).linkCtr p 9

/-- A KIND 0 prefix alone: an audit prefix where one is due. -/
def State.sendIdle (s : State) (p : Nat) : State :=
  match (s.link p).latchDue with
  | x :: r => (s.setLink p { s.link p with latchDue := r }).emit (.unit p (latchPrefix x) [])
  | [] =>
    let (s, pre) := s.makePrefix p 0 0
    s.emit (.unit p pre [])

/-- The cell a link sends next for the first time: C7, else C0 to C6 in turn, where the class has credit (R285). -/
def Link.nextCell (l : Link) : Option Cell :=
  let has := fun c => l.credits.getD c 0 != 0 && l.txq.any fun x => x.cls == c
  let order := 7 :: (List.range 7).map fun i => (l.classTurn + i) % 7
  (order.find? has).bind fun c => l.txq.find? fun x => x.cls == c

/-- LINK_UNIT_SLOT (R270, R285): the first ready item leaves; audit prefixes go ahead of it, with no other prefix between them and their
latch (DEDUCED, log 73). A link that fails for a fifth transmission sends a KIND 0 prefix in that slot. -/
def State.doLinkUnitSlot (s : State) (p : Nat) : State :=
  let st := s.linkState p
  let l := s.link p
  if st = 0 then s
  else if st ≠ 3 then (if l.helloDue && st ≠ 4 then s.sendHello p else s.sendIdle p)
  else if !l.latchDue.isEmpty then s.sendIdle p
  else
    match l.resend with
    | q :: r =>
      match l.retry.find? fun x => x.lseq == q with
      | none => (s.setLink p { l with resend := r }).sendIdle p
      | some x =>
        if 4 ≤ x.attempts then (s.linkFail p).sendIdle p
        else
          let s := (s.setLink p { l with
            resend := r
            retry := l.retry.map fun y => if y.lseq = q then { y with attempts := y.attempts + 1, sentAt := s.now } else y }).linkCtr p 2
          let (s, pre) := s.makePrefix p 1 q
          s.emit (.unit p pre (cellBytes (p / 32) x.cell))
    | [] =>
      if l.helloDue then s.sendHello p
      else
        match if 2048 ≤ l.retry.length then none else l.nextCell with
        | none => s.sendIdle p
        | some c =>
          let q := l.nextLseq
          let txq := l.txq.erase c
          let s := (s.setLink p { l with
            txq := txq, nextLseq := (q + 1) % 4096, credits := l.credits.set c.cls (l.credits.getD c.cls 0 - 1)
            retry := l.retry ++ [{ lseq := q, cell := c, attempts := 1, sentAt := s.now }]
            classTurn := if c.cls < 7 then (c.cls + 1) % 7 else l.classTurn }).linkCtr p 0
          let s := s.syncFill p
          let s := if (txq.filter fun x => x.cls == c.cls).length < 512 then s.setWithheld ((p / 32 * 264 + p) * 8 + c.cls) false else s
          let (s, pre) := s.makePrefix p 1 q
          s.emit (.unit p pre (cellBytes (p / 32) c))

/-- RETRY_TIMER_EXPIRE (R287, R288): the oldest entry was last sent RETRY_TIMER ago; all are resent, or the link fails. -/
def State.doRetryTimerExpire (s : State) (p : Nat) : State :=
  let l := s.link p
  match l.retry with
  | [] => s
  | x :: _ =>
    if s.linkState p ≠ 3 || s.now < x.sentAt + s.linkFld p FABR_LINK_RETRY_RETRY_TIMER || l.resend.contains x.lseq then s
    else if 4 ≤ x.attempts then s.linkFail p
    else s.setLink p { l with resend := l.retry.map (·.lseq) }

/-! ### The destination resequencer (R290 to R293) -/

/-- Key of a fabric stream of slice `d`. -/
def fabKey (d dev ss port c : Nat) : Nat := (((d * 4096 + dev) * 8 + ss) * 256 + port) * 8 + c
def fabKeyOf (d : Nat) (c : Cell) : Nat := fabKey d c.srcDev c.fSrcSlice (c.fdest % 256) c.cls
/-- Slice of a stream key. -/
def fabSlice (k : Nat) : Nat := k / 2 ^ 26

/-- Streams of a slice. -/
def State.fabStreams (s : State) (d : Nat) : List (Nat × FabStream) :=
  s.trunk.dstStreams.filterMap fun e => if fabSlice e.1 = d then e.2.map fun x => (e.1, x) else none

def State.fabCtr (s : State) (d n : Nat) : State := s.count (fabrPage d) (0xA0 + 8 * n)

/-- RESEQ_STATUS and STREAM_STATUS follow the streams. -/
def State.syncFab (s : State) (d : Nat) : State :=
  let pg := fabrPage d
  let l := s.fabStreams d
  let h := l.foldl (fun n e => n + e.2.held.length) 0
  let s := (s.setFld pg FABR_RESEQ_STATUS_HELD h).setFld pg FABR_STREAM_STATUS_ENTRIES l.length
  if s.fld pg FABR_RESEQ_STATUS_PEAK < h then s.setFld pg FABR_RESEQ_STATUS_PEAK h else s

def State.fabHeld (s : State) (d : Nat) : Nat := (s.fabStreams d).foldl (fun n e => n + e.2.held.length) 0

/-- Frames whose bytes a stream has released whole; none where a LOSSLESS queue has no room (R163, R292). -/
def State.fabFrame (s : State) (d cls fdest : Nat) (tag frame : List Byte) : State × Bool :=
  let a := leAt tag 2 2
  let f : Frame :=
    { bytes := frame, stamp := leAt tag 10 5, inLport := 2048 + leAt tag 8 2 % 1024, cls := cls, colour := a % 4, sid := leAt tag 4 2 % 2 ^ 14
      vid := leAt tag 6 2 % 4096, tags := a / 32 % 4, mcast := false, group := 0, mirrorCopy := a.testBit 2, session := none, injected := a.testBit 3
      uncal := a.testBit 4, unlocked := false }
  match s.routeLpm (s.copyOf d) fdest with
  | some (_, r) =>
    if r.nextType ≠ 1 || sliceOf r.next ≠ d then (s, true)
    else
      let o : Offer := { f := f, lp := r.next, len := some frame.length, ct := false, maxLen := frame.length, inj := none, set := none }
      match s.admission o with
      | (s, .wait) => (s, false)
      | (s, _) => (s, true)
  | none => (s.count tblsPage 0x148, true)

/-- Take the whole frames from the bytes of a stream (R292). A frame that must wait blocks the stream. -/
def State.fabTake (s : State) (d k fdest : Nat) : Nat → State
  | 0 => s
  | fuel + 1 =>
    match s.dstStream k with
    | none => s
    | some st =>
      let b := st.asm.buf
      let n := leAt b 0 2 % 2 ^ 14
      if b.length < 16 || b.length < 16 + n then s
      else
        match s.fabFrame d (k % 8) fdest (b.take 16) (slice b 16 n) with
        | (s, false) => s.setDstStream k (some { st with asm := { st.asm with decided := true } })
        | (s, true) =>
          (s.setDstStream k (some { st with asm := { st.asm with buf := b.drop (16 + n), decided := false } })).fabTake d k fdest fuel

/-- Release a cell of a fabric stream. -/
def State.fabRelease (s : State) (d k : Nat) (c : Cell) : State :=
  match s.dstStream k with
  | none => s
  | some st =>
    let pay := c.payload.take c.validLen
    let a := st.asm
    let st := { st with fdest := c.fdest }
    if a.skipping || !a.open_ then
      -- bytes of a frame whose tag lay in the gap
      let s := if a.skipping && a.open_ && c.firstTag ≠ 0 then s.fabCtr d 7 else s
      if c.firstTag = 511 then s.setDstStream k (some { st with asm := { a with open_ := false } })
      else
        (s.setDstStream k (some { st with asm := { a with buf := pay.drop c.firstTag, skipping := false, open_ := true } })).fabTake d k c.fdest 32
    else (s.setDstStream k (some { st with asm := { a with buf := a.buf ++ pay } })).fabTake d k c.fdest 32

/-- The frame open across a gap is lost (R292). Where none was open, `open_` marks that the bytes of a lost frame may follow the gap. -/
def State.fabLose (s : State) (d k : Nat) : State :=
  match s.dstStream k with
  | none => s
  | some st =>
    let s := s.setDstStream k (some { st with asm := { emptyAsm with
      skipping := true, open_ := if st.asm.skipping then st.asm.open_ else st.asm.buf.isEmpty } })
    if st.asm.buf.isEmpty then s else s.fabCtr d 7

/-- Remove a lost-list item. -/
def State.takeLost (s : State) (d k e : Nat) : State × Bool :=
  let l := s.lostItems d
  if l.any fun x => x.1 == k && x.2.1 == e then (s.setLostItems d (l.filter fun x => !(x.1 == k && x.2.1 == e)), true) else (s, false)

/-- Release and skip until the stream waits (R291). A blocked stream waits. -/
def State.fabRun (s : State) (d k : Nat) : Nat → State
  | 0 => s
  | fuel + 1 =>
    match s.dstStream k with
    | none => s
    | some st =>
      match st.e with
      | none => s
      | some e =>
        if st.asm.decided then s
        else
          match st.held.find? fun c => c.cell.fseq == e with
          | some h =>
            let s := s.setDstStream k (some { st with held := st.held.erase h, e := some ((e + 1) % 2 ^ 24) })
            (s.fabRelease d k h.cell).fabRun d k fuel
          | none =>
            if st.held.isEmpty then s
            else
              match s.takeLost d k e with
              | (s, true) =>
                let s := (s.fabLose d k).fabCtr d 2
                match s.dstStream k with
                | some st => (s.setDstStream k (some { st with e := some ((e + 1) % 2 ^ 24) })).fabRun d k fuel
                | none => s
              | (s, false) => s

/-- Fuel enough for a stream and the lost list. -/
def State.fabAdvance (s : State) (d k : Nat) : State :=
  s.fabRun d k (((s.dstStream k).map (·.held.length)).getD 0 + (s.lostItems d).length + 2)

/-- The held cell with the lowest sequence, the oldest arrival when E is unknown. -/
def FabStream.lowest (st : FabStream) : Option TimedCell :=
  let before := fun (a b : TimedCell) => match st.e with
    | some e => decide (seqDist a.cell.fseq e < seqDist b.cell.fseq e)
    | none => decide (a.atNs < b.atNs)
  st.held.foldl (fun (o : Option TimedCell) c => match o with | some x => if before c x then some c else o | none => some c) none

/-- Skip the gap of a stream: its lowest held cell is next (R291, R293). -/
def State.fabSkip (s : State) (d k : Nat) : State :=
  match s.dstStream k with
  | none => s
  | some st =>
    match st.lowest with
    | none => s
    | some h =>
      let s := if st.e = some h.cell.fseq then s else s.fabLose d k
      match s.dstStream k with
      | some st => (s.setDstStream k (some { st with e := some h.cell.fseq })).fabAdvance d k
      | none => s

/-- The stream whose oldest held cell arrived first (R293). -/
def State.fabOldest (s : State) (d : Nat) : Option Nat :=
  ((s.fabStreams d).foldl (fun (b : Option (Nat × Nat)) e =>
    if e.2.asm.decided then b
    else match e.2.held.map (·.atNs) with
      | [] => b
      | x :: r =>
        let t := r.foldl min x
        match b with
        | some (u, _) => if t < u then some (t, e.1) else b
        | none => some (t, e.1)) none).map (·.2)

/-- Make sure a stream has an entry (R293). -/
def State.fabEntry (s : State) (d k : Nat) : State × Bool :=
  if (s.dstStream k).isSome then (s, true)
  else
    let new := { dfltFabStream with lastArrival := s.now }
    let l := s.fabStreams d
    if l.length < 16384 then (s.setDstStream k (some new), true)
    else
      match ((l.filter fun e => e.2.held.isEmpty).foldl (fun (b : Option (Nat × Nat)) e => match b with
          | some (t, _) => if e.2.lastArrival < t then some (e.2.lastArrival, e.1) else b
          | none => some (e.2.lastArrival, e.1)) none) with
      | some (_, v) => ((s.setDstStream v none).setDstStream k (some new), true)
      | none => ((s.fabCtr d 6).raise (fabrPage d) 6, false)

/-- Hold a cell; a full store first skips the oldest gap (R293). -/
def State.fabHold (s : State) (d k : Nat) (c : Cell) : State :=
  let s := if 32768 ≤ s.fabHeld d then
      match s.fabOldest d with
      | some g => ((s.fabCtr d 3).raise (fabrPage d) 5).fabSkip d g
      | none => s
    else s
  match s.dstStream k with
  | some st => s.setDstStream k (some { st with held := st.held ++ [{ cell := c, atNs := s.now, plane := 0 }] })
  | none => s

/-- Sequence `a` lies ahead of `e` (R223, R291). -/
def ahead (a e : Nat) : Bool := seqDist a e ≠ 0 && seqDist a e < 2 ^ 23

/-- A cell with FIRST = 1 sets E (R291). -/
def State.fabFirst (s : State) (d k fseq : Nat) : State :=
  match s.dstStream k with
  | none => s
  | some st =>
    match st.e with
    | none => s.setDstStream k (some { st with e := some fseq, held := st.held.filter fun h => h.cell.fseq == fseq || ahead h.cell.fseq fseq })
    | some e =>
      if ahead fseq e then
        let s := (s.fabLose d k).fabCtr d 4
        match s.dstStream k with
        | some st => s.setDstStream k (some { st with
            e := some fseq, held := st.held.filter fun h => h.cell.fseq == fseq || ahead h.cell.fseq fseq })
        | none => s
      else s

/-- A fabric cell reaches the destination resequencer (R291). -/
def State.fabCell (s : State) (d : Nat) (c : Cell) : State :=
  let k := fabKeyOf d c
  let (s, ok) := s.fabEntry d k
  if !ok then s
  else
    let s := match s.dstStream k with | some st => s.setDstStream k (some { st with lastArrival := s.now }) | none => s
    let s := if c.first then s.fabFirst d k c.fseq else s
    match (s.dstStream k).bind (·.e) with
    | none => s.fabHold d k c
    | some e =>
      if c.fseq = e && !(((s.dstStream k).map (·.asm.decided)).getD false) then
        match s.dstStream k with
        | some st => ((s.setDstStream k (some { st with e := some ((e + 1) % 2 ^ 24) })).fabRelease d k c).fabAdvance d k
        | none => s
      else if c.fseq = e || ahead c.fseq e then (s.fabHold d k c).fabAdvance d k
      else
        let pg := fabrPage d
        let s := s.fabCtr d 0
        let s := ((s.setFld pg FABR_LATE_CAPTURE_SRC_DEV c.srcDev).setFld pg FABR_LATE_CAPTURE_SRC_SLICE c.fSrcSlice).setFld pg
          FABR_LATE_CAPTURE_PORT (c.fdest % 256)
        (s.setFld pg FABR_LATE_CAPTURE_CLASS c.cls).setFld pg FABR_LATE_CAPTURE_VALID 1

/-- Streams that waited for room try again (R163): where there is still none, nothing changes. -/
def State.fabRetry (s : State) (d : Nat) : State :=
  s.each (((s.fabStreams d).filter fun e => e.2.asm.decided).map (·.1)) fun s k =>
    match s.dstStream k with
    | none => s
    | some st =>
      let t := (s.setDstStream k (some { st with asm := { st.asm with decided := false } })).fabTake d k st.fdest 32
      match t.dstStream k with
      | some x => if x.asm.decided && x.asm.buf.length = st.asm.buf.length then s else t.fabAdvance d k
      | none => t

/-- FABRIC_CELL_DELIVER (R291): the next fabric cell after its last crossbar hop. -/
def State.doFabricCellDeliver (s : State) (d : Nat) : State :=
  let s := (s.fabRetry d).retryAll
  match (s.deliver d).find? fun c => c.firstTag != noticeTag with
  | none => s
  | some c => ((s.setDeliver d ((s.deliver d).erase c)).fabCell d c).syncFab d

/-- FAB_RESEQ_TIMEOUT (R291): the stream's oldest held cell has waited EFF_TIMEOUT. -/
def State.doFabReseqTimeout (s : State) (d dev ss port c : Nat) : State :=
  let k := fabKey d dev ss port c
  match s.dstStream k with
  | none => s
  | some st =>
    match st.lowest with
    | none => s
    | some h =>
      if st.asm.decided || st.e = some h.cell.fseq || s.now < h.atNs + s.fld (fabrPage 8) FABRM_RESEQ_EFF_EFF_TIMEOUT * 1000 then s
      else (((s.fabCtr d 1).raise (fabrPage d) 4).fabSkip d k).syncFab d

/-- A lost-list item (R290, R293). -/
def State.putLost (s : State) (d k fseq : Nat) : State :=
  let l := s.lostItems d
  if 4096 ≤ l.length then s.count (fabrPage 8) 0xC8 else s.setLostItems d (l ++ [(k, fseq, s.now)])

/-- One entry of a gap notice reaches its stream (R291). -/
def State.noticeOne (s : State) (d : Nat) (x : Nat) : State :=
  let k := fabKey d (x % 4096) (x / 2 ^ 12 % 8) (x / 2 ^ 15 % 256) (x / 2 ^ 23 % 8)
  let fseq := x / 2 ^ 26 % 2 ^ 24
  match s.dstStream k with
  | none => s.putLost d k fseq
  | some st =>
    match st.e with
    | none => s.putLost d k fseq
    | some e =>
      if fseq = e && !st.held.isEmpty && !st.asm.decided && (st.held.find? fun c => c.cell.fseq == e).isNone then
        let s := (s.fabLose d k).fabCtr d 2
        match s.dstStream k with
        | some st => (s.setDstStream k (some { st with e := some ((e + 1) % 2 ^ 24) })).fabAdvance d k
        | none => s
      else if fseq = e || ahead fseq e then s.putLost d k fseq
      else s.count (fabrPage 8) 0xC0

/-- GAP_NOTICE_RECEIVE (R291, R296): the next notice that reached slice `d`. -/
def State.doGapNoticeReceive (s : State) (d : Nat) : State :=
  match (s.deliver d).find? fun c => c.firstTag == noticeTag with
  | none => s
  | some c =>
    let s := (s.setDeliver d ((s.deliver d).erase c)).count (fabrPage 8) 0xB8
    (s.each ((List.range (c.validLen / 8)).map fun i => leAt c.payload (8 * i) 8) fun s x => s.noticeOne d x).syncFab d

/-- LOST_ITEM_EXPIRE (R290). -/
def State.doLostItemExpire (s : State) (d : Nat) : State :=
  s.setLostItems d ((s.lostItems d).filter fun x => s.now < x.2.2 + s.streamIdleNs)

/-- STREAM_ENTRY_IDLE (R290). -/
def State.doStreamEntryIdle (s : State) (d dev ss port c : Nat) : State :=
  let k := fabKey d dev ss port c
  match s.dstStream k with
  | some st => if st.held.isEmpty && st.lastArrival + s.streamIdleNs ≤ s.now then (s.setDstStream k none).syncFab d else s
  | none => s

/-! ### Windows (R299, R300) -/

/-- LINK_CNT_SEL (R299). -/
def State.doLinkCntSel (s : State) (sl k : Nat) : State :=
  let s := (s.setFlag (fabrPage sl) FABR_FS_CFG_REFUSED false).setFld (fabrPage sl) FABR_CNT_SEL_LINK k
  s.each (List.range 12) fun s n => s.setCtr (fabrPage sl) (0x600 + 8 * n) ((s.link (32 * sl + k)).counters.getD n 0)

/-- Ones among the bits of a word. -/
def ones (w : Word) : Nat := ((List.range 32).filter w.getLsbD).length

/-- The group window runs a command: `run` with the index set. Firmware needs GROUP_WR (R300). -/
def State.grpCmd (s : State) (fw : Bool) (i : Nat) (run : State → State) : State :=
  let pg := fabrPage 8
  s.winBusy pg FABRM_GRP_CMD_BUSY FABRM_FD_CFG_REFUSED fun s =>
    let s := s.setFld pg FABRM_GRP_CMD_INDEX i
    if fw && !s.flag pg FABRM_FW_FAB_EN_GROUP_WR then s.winDone pg FABRM_GRP_CMD_RESULT FABRM_GRP_CMD_BUSY 3 else run s

/-- LINK_GROUP_WRITE (R300): the sequencer brings it to every copy. -/
def State.doLinkGroupWrite (s : State) (fw : Bool) (i : Nat) : State :=
  s.grpCmd fw i fun s =>
    let pg := fabrPage 8
    let ws := s.winGet pg 0x104 8
    if 64 < ws.foldl (fun n w => n + ones w) 0 then s.winDone pg FABRM_GRP_CMD_RESULT FABRM_GRP_CMD_BUSY 3
    else (s.setFld pg FABRM_GRP_CMD_BUSY 1).seqPush (if fw then 12 else 11) (.linkGroup i ws)

/-- LINK_GROUP_READ (R300). -/
def State.doLinkGroupRead (s : State) (fw : Bool) (i : Nat) : State :=
  s.grpCmd fw i fun s =>
    (s.winPut (fabrPage 8) 0x104 (s.tables.master.linkW i)).winDone (fabrPage 8) FABRM_GRP_CMD_RESULT FABRM_GRP_CMD_BUSY 0

/-- NEIGHBOR_READ (R278, R300). -/
def State.doNeighborRead (s : State) (p : Nat) : State :=
  let pg := fabrPage 8
  s.winBusy pg FABRM_NBR_CMD_BUSY FABRM_FD_CFG_REFUSED fun s =>
    let s := s.setFld pg FABRM_NBR_CMD_INDEX p
    let w := fun (n : Nat) => BitVec.ofNat 32 n
    let s := match (s.link p).nbr with
      | some n => s.winPut pg 0x144 [w n.id, w (n.id / 2 ^ 32), w n.addr, w (n.num + 65536 * n.retryUs), w n.pathMax, w n.rtt]
      | none => s.winPut pg 0x144 [0, 0, 0, 0, 0, 0]
    s.setFld pg FABRM_NBR_CMD_BUSY 0

end Sys2Proof.Machine
end

