-- ==== Sys2Proof/Machine/Audit.lean ====
section
/-! DEFINITION. The conservation audit (R172, R173, R297). -/

namespace Sys2Proof.Machine

/-- Islands fenced or in reset (R173). -/
def State.darkIslands (s : State) : List Nat := (List.range 54).filter fun i => (s.island i).rst != 0

/-- Token accounts out of balance (R172, codes 6 and 7), for the slices audited. The spec numbers no shaper or meter across tables and
slices: INSTANCE is the model's key of the node, (slice × 16 + table) × 32,768 + index, or of the meter, slice × 32,768 + index, and the
difference counts 1/4,096 byte (DESIGN CHOICE, log 121). -/
def State.tokenFaults (s : State) (skip : List Nat) : List (Nat × Nat × Int) :=
  let bad := fun (code k : Nat) (a : TokAcct) (t : Int) => if a.skip || a.diff t = 0 then [] else [(code, k, a.diff t)]
  ((s.sw.nodes.filter fun e => !skip.contains (e.1 / 524288)).flatMap fun e =>
    let n := s.nodeNow (e.1 / 524288) (e.1 / 32768 % 16) (e.1 % 32768)
    bad 6 e.1 n.acctMin n.minTok ++ bad 6 e.1 n.acctMax n.maxTok) ++
  ((s.tables.meters.filter fun e => !skip.contains (e.1 / 32768)).flatMap fun e =>
    bad 7 e.1 e.2.acctC e.2.tc ++ bad 7 e.1 e.2.acctE e.2.te)

/-- Every token account starts again at the audit instant. -/
def State.tokenStart (s : State) : State :=
  let s := s.each (s.sw.nodes.map (·.1)) fun s k =>
    let n := s.nodeNow (k / 524288) (k / 32768 % 16) (k % 32768)
    s.setNode k { n with acctMin := .from_ n.minTok false, acctMax := .from_ n.maxTok false }
  s.each (s.tables.meters.map (·.1)) fun s k =>
    let m := s.meter k
    s.setMeter k { m with acctC := .from_ m.tc false, acctE := .from_ m.te false }

/-- Left side minus right side of the accounts: (code, instance, difference), for the islands audited. -/
def State.accounts (s : State) (skip : List Nat) : List (Nat × Nat × Int) :=
  let sum3 := fun (pg : Nat) (a b c : Fld) => s.fld pg a + s.fld pg b + s.fld pg c
  let slices := (List.range 8).filter fun i => !skip.contains i
  let cells := slices.map fun i => (1, i, (sum3 (deepPage i) DEEP_CELL_FREE_COUNT DEEP_CELL_USED_COUNT DEEP_CELL_TRANSIT_COUNT : Int) - 262144)
  let descs := slices.map fun i => (2, i, (sum3 (deepPage i) DEEP_DESC_FREE_COUNT DEEP_DESC_USED_COUNT DEEP_DESC_TRANSIT_COUNT : Int) - 262144)
  let deep := if skip.contains 52 then []
    else [(3, 0, (sum3 (deepPage 8) DEEPT_BOB_FREE_COUNT DEEPT_BOB_USED_COUNT DEEPT_BOB_TRANSIT_COUNT : Int)
            - (s.fld (deepPage 8) DEEPT_BOB_TOTAL_COUNT : Nat)),
          (4, 0, (sum3 (deepPage 8) DEEPT_DDESC_FREE_COUNT DEEPT_DDESC_USED_COUNT DEEPT_DDESC_TRANSIT_COUNT : Int) - 67108864)]
  let pools := if skip.contains 52 then []
    else (List.range 4).map fun p =>
      (8, p, ((s.fld poolPage (POOL_POOL_STATE_FREE.sh (4 * p)) +
        (s.svc.bufs.filter fun b => b.1 / 32768 == p && b.2.holder.isSome).length : Nat) : Int) - (poolCount p : Nat))
  (cells ++ descs ++ deep ++ s.tokenFaults skip ++ pools).filter fun x => x.2.2 != 0

/-- AUDIT_LATCH (R173, R297), at the slow-clock edge of a DT second boundary, so within the first microsecond of the second and once: the islands latch their accounts, and the receiving end of each ACTIVE link its counts. An accepted cell
leaves the input buffer at once, so B is 0. -/
def State.doAuditLatch (s : State) : State :=
  if !s.flag (deepPage 8) DEEPT_AUDIT_CFG_AUDIT_EN || 1000 ≤ s.dtSub || s.sw.auditSec = some s.dtSec then s
  else
    let dark := s.darkIslands
    let l := s.accounts (dark ++ s.sw.auditDark)
    let s := s.tokenStart.onSw fun w => { w with audit := some l, auditDark := dark, auditSec := some s.dtSec }
    s.each ((List.range 256).filter fun p => s.linkState p == 3) fun s p =>
      let k := s.link p
      s.setLink p { k with
        latchDue := (List.range 8).map fun c => (c, k.inBuf.getD c 0, k.returns.getD c 0), returns := List.replicate 8 0, audited := [] }

/-- Credit accounts out of balance beyond the excess of 2,048 cells that R172 allows. -/
def State.creditFaults (s : State) : List (Nat × Nat × Int) :=
  ((List.range 256).filter fun p => s.linkState p == 3).flatMap fun p =>
    (s.link p).audited.filterMap fun x => if x.2 < 0 || 2048 < x.2 then some (5, p, x.2) else none

/-- AUDIT_CHECK (R173): the first mismatch is captured and raises CONSERVE_FAIL. -/
def State.doAuditCheck (s : State) : State :=
  match s.sw.audit with
  | none => s
  | some l =>
    let pg := deepPage 8
    let s := (s.onSw fun w => { w with audit := none }).incFld pg DEEPT_AUDIT_COUNT_COUNT 1
    match l ++ s.creditFaults with
    | [] => s
    | (c, i, d) :: _ =>
      let s := ((s.setFld pg DEEPT_AUDIT_CAPTURE_ACCOUNT c).setFld pg DEEPT_AUDIT_CAPTURE_INSTANCE i).setFld pg DEEPT_AUDIT_CAPTURE_VALID 1
      (s.setFld pg DEEPT_AUDIT_DIFF_DIFF (unsigned 32 d)).raise pg 9

end Sys2Proof.Machine
end

