-- ==== Sys2Proof/Machine/Optics.lean ====
section
/-! DEFINITION. Optical engines (chapter 02): pitching, hold timers, parking, wake patterns, laser sparing, eye safety, wear records
and calibration. -/

namespace Sys2Proof.Machine

/-! ### Engines and lanes -/

/-- The engine runs: its island is out of reset and its microcode runs (R58, R60). -/
def State.engineRuns (s : State) (e : Nat) : Bool := s.islandRuns (17 + e) && s.ucState e == 0

/-- A lane is dark for good until something lights it: a failed source, a latched limiter, the eye lock (R49, R51, R52). A latched
limiter keeps it dark also while a spare is brought up for it. -/
def LaneSt.dark (x : LaneSt) : Bool := x.lstate == 3 || x.lstate == 4 || x.lstate == 5 || x.latched
/-- Some lane of the logical port is dark. -/
def State.lanesDark (s : State) (lp : Nat) : Bool := (s.lanesOf lp).any fun l => (s.lane (laneKey (engineOf lp) l)).dark
/-- BIAS cannot succeed: a lane is dark, the fatal path holds every lane, or the engine or its slice is in reset (R32, R422, R424). -/
def State.biasBlocked (s : State) (lp : Nat) : Bool :=
  s.lanesDark lp || s.fatal || !s.engineRuns (engineOf lp) || !s.islandRuns (sliceOf lp)

/-! ### Moves of the pitching machine (R32 to R34) -/

/-- RCLK_OK: the recovered clock is valid while sub-port 0 of RCLK_PORT is UP (R318). -/
def State.syncRclk (s : State) : State :=
  s.setFlag timePage TIME_FREF_STATUS_RCLK_OK ((s.pitch (4 * s.fld timePage TIME_FREF_CFG_RCLK_PORT)).state == 5)

/-- Make a change of a physical port's sub-ports and do what follows it in every chapter. -/
def State.portMove (s : State) (p : Nat) (f : State → State) : State :=
  let s := s.withUp ((List.range 4).map fun m => 4 * p + m) f
  ((s.groupsFollow p).linkFollow p).syncRclk

/-- A sub-port enters a state of R32, with all that follows. -/
def State.pitchTo (s : State) (lp st : Nat) : State := s.portMove (physOf lp) fun s => s.enterPitch lp st

def State.onPitch (s : State) (lp : Nat) (f : Pitch → Pitch) : State := s.setPitch lp (f (s.pitch lp))

/-- A sub-port enters BACKOFF: 1 ms, doubled on each further consecutive failure up to 128 ms; PITCH_FAIL at RETRY_LIMIT failures
(R34). It is raised once, at the failure that makes the count equal RETRY_LIMIT: a limit lowered below a running count raises nothing
until after the next UP (R34 leaves this open; DESIGN CHOICE, log 105). -/
def State.backoff (s : State) (lp : Nat) : State :=
  let p := physOf lp
  let n := (s.pitch lp).fails
  let s := (s.pitchTo lp 7).engCtr p 5
  let s := s.onPitch lp fun t => { t with fails := n + 1, backoffEnd := s.now + min 128 (2 ^ n) * 1000000 }
  if n + 1 = s.portFld p OENG_PORT_PITCH_RETRY_LIMIT then s.raise (oengPage (engineOf lp)) (localOf lp) else s

/-- The next start of the equaliser is warm (R32, R60). -/
def State.eqWarm (s : State) (lp : Nat) : Bool := (s.pitch lp).warm && s.portFld (physOf lp) OENG_PORT_PITCH_EQ_COLD == 0

/-- A sub-port has been in state `st` for at least `ns`. -/
def State.pitchOver (s : State) (lp st ns : Nat) : Bool := (s.pitch lp).state == st && (s.pitch lp).entered + ns ≤ s.now

/-- PITCH_BIAS_DONE: EQUALISE, or AM_LOCK at once when the port was parked with its receiver locked (R33). -/
def State.doPitchBiasDone (s : State) (lp : Nat) : State :=
  if (s.pitch lp).state ≠ 1 || s.biasBlocked lp then s
  else
    let s := s.pitchTo lp 2
    let s := s.onPitch lp fun t => { t with lit := true }
    let t := s.pitch lp
    if t.fromParked && t.rxLocked && t.light then (s.pitchTo lp 3).pitchTo lp 4 else s

def State.doPitchBiasTimeout (s : State) (lp : Nat) : State := if s.pitchOver lp 1 300000 then s.backoff lp else s

/-- PITCH_EQUALISE_DONE: the coefficients are kept for a warm start. -/
def State.doPitchEqualiseDone (s : State) (lp : Nat) : State :=
  if (s.pitch lp).state ≠ 2 then s else (s.onPitch lp fun t => { t with warm := true, light := true }).pitchTo lp 3

def State.doPitchEqualiseTimeout (s : State) (lp : Nat) : State :=
  if s.pitchOver lp 2 (if s.eqWarm lp then 500000 else 20000000) then s.backoff lp else s

def State.doPitchFecLockDone (s : State) (lp : Nat) : State := if (s.pitch lp).state ≠ 3 then s else s.pitchTo lp 4
def State.doPitchFecLockTimeout (s : State) (lp : Nat) : State := if s.pitchOver lp 3 100000 then s.backoff lp else s

/-- PITCH_AM_LOCK_DONE: UP; the failure count and the backoff interval restart (R34), and the wake window opens when sub-port 0 comes
from PARKED (R320). -/
def State.doPitchAmLockDone (s : State) (lp : Nat) : State :=
  if (s.pitch lp).state ≠ 4 || s.lanesDark lp then s
  else
    let woken := (s.pitch lp).fromParked && subOf lp == 0
    let s := (s.onPitch lp fun t => { t with fails := 0, serCount := 0 }).pitchTo lp 5
    let p := physOf lp
    if woken then s.setGate p { s.gate p with wakeUntil := some (s.dtNs + 100000000, 1000) } else s

def State.doPitchAmLockTimeout (s : State) (lp : Nat) : State := if s.pitchOver lp 4 900000 then s.backoff lp else s

/-- A sub-port leaves UP for EQUALISE, its transmitter lit, with a warm start (R32). -/
def State.strikeWarm (s : State) (lp : Nat) : State := if (s.pitch lp).state = 5 then s.pitchTo lp 2 else s

/-- An UP sub-port with WAKE_ON_LIGHT = 1 keeps transmitting to a peer whose light is absent (R40, R60). -/
def State.keepsUp (s : State) (lp : Nat) : Bool := s.portFld (physOf lp) OENG_PORT_MODE_WAKE_ON_LIGHT == 1

/-- LOSS_OF_LIGHT (R32, R40). -/
def State.doLossOfLight (s : State) (lp : Nat) : State :=
  let s := s.onPitch lp fun t => { t with light := false, rxLocked := false }
  match (s.pitch lp).state with
  | 5 => if s.keepsUp lp then s else s.strikeWarm lp
  | 2 => s.backoff lp
  | _ => s

/-- ALIGNMENT_LOCK_LOSS (R55). -/
def State.doAlignmentLockLoss (s : State) (lp : Nat) : State :=
  if s.keepsUp lp && !(s.pitch lp).light then s else s.strikeWarm lp

/-- BACKOFF_END: EQUALISE when the transmitter is lit, else BIAS (R32). -/
def State.doBackoffEnd (s : State) (lp : Nat) : State :=
  let t := s.pitch lp
  if t.state ≠ 7 || s.now < t.backoffEnd then s else s.pitchTo lp (if t.lit then 2 else 1)

/-- UNCORRECTABLE_CODEWORD (R55, R56): counted, and SER_STRIKE of them within one window end UP. The frame, cell or unit it falls in
ends with the mark its own command carries. -/
def State.doUncorrectableCodeword (s : State) (lp : Nat) : State :=
  if (s.pitch lp).state ≠ 5 then s
  else
    let w := s.dtNs / 1000000
    let s := (s.portCtr lp 71).onPitch lp fun t => { t with serCount := if t.serWin = w then t.serCount + 1 else 1, serWin := w }
    let lim := s.portFld (physOf lp) OENG_PORT_SER_SER_STRIKE
    if lim ≠ 0 && lim ≤ (s.pitch lp).serCount then (s.onPitch lp fun t => { t with serCount := 0 }).strikeWarm lp else s

/-- SER_WINDOW_RESTART: the count restarts at 0 once DT has passed into another whole millisecond (R56); a codeword does the same when
it is the first of its window. `codewords` and `symbols` are what the FEC corrected since the command's last occurrence (R86; log 109). -/
def State.doSerWindowRestart (s : State) (lp codewords symbols : Nat) : State :=
  let w := s.dtNs / 1000000
  let s := (s.portCtr lp 69 codewords).portCtr lp 70 symbols
  s.onPitch lp fun t => if t.serWin = w then t else { t with serCount := 0, serWin := w }

/-! ### Hold timers and parking -/

/-- HOLD_TIMER_EXPIRE, at a slow-clock edge (R35, R36). -/
def State.doHoldTimerExpire (s : State) (lp : Nat) : State :=
  match (s.pitch lp).holdStart with
  | some t =>
    if s.isUp lp || !s.slowEdge || s.now < t + 1000 * s.portFld (physOf lp) OENG_PORT_HOLD_HOLD_TIMEOUT then s
    else (s.onPitch lp fun t => { t with holdStart := none, holdExpired := true }).discardQueued lp 0 |>.retryAll
  | none => s

/-- Every dark logical port of a physical port discards what it queues (R38). -/
def State.darkDiscard (s : State) (p : Nat) : State :=
  (s.each ((List.range 4).map fun m => 4 * p + m) fun s lp =>
    if s.isDark lp then (s.onPitch lp fun t => { t with holdStart := none, holdExpired := false }).discardQueued lp 1 else s).retryAll

/-- Sub-ports of a physical port enter PARKED (R39, R40). -/
def State.parkSubs (s : State) (p : Nat) (lps : List Nat) : State :=
  let s := s.portMove p fun s => s.each lps fun s lp =>
    let lock := (s.pitch lp).state == 5 && (s.pitch lp).light
    (s.enterPitch lp 6).onPitch lp fun t => { t with rxLocked := lock }
  let s := s.each lps fun s lp => s.onPitch lp fun t => { t with holdStart := none, holdExpired := false }
  s.darkDiscard p

/-- PARK_APPLY: each used sub-port without a frame in transmission, a preempted one that has still to resume included, enters PARKED
(R39). -/
def State.doParkApply (s : State) (p : Nat) : State :=
  if !s.parkWanted p || !s.engineRuns (p / 8) then s
  else s.parkSubs p ((s.lportsOf p).filter fun lp => (s.pitch lp).state != 6 && (s.mac lp).tx.isNone && (s.mac lp).preempted.isNone)

/-- A sub-port in STRUCK starts pitching when it may (R32, R35). -/
def State.kick (s : State) (lp : Nat) : State :=
  if s.inUse lp && s.subEn lp && !s.parkWanted (physOf lp) && (s.pitch lp).state == 0 && s.engineRuns (engineOf lp) && s.islandRuns (sliceOf lp)
  then (s.enterPitch lp 1).startHold lp else s

/-- Settings of a physical port have been applied: a new mode strikes every sub-port and pitches cold (R30), SUB_EN = 0 strikes, SUB_EN
= 1 pitches, a host write of PARK = 0 unparks (R32, R44). A mode change and an engine reset restart the failure count and the backoff
interval, as reaching UP does; R34 names only UP (DESIGN CHOICE, log 105). -/
def State.portSettle (s : State) (p oldMode : Nat) : State :=
  let all := (List.range 4).map fun m => 4 * p + m
  let s := if s.modeOf p = oldMode then s
    else s.each all fun s lp => (s.enterPitch lp 0).onPitch lp fun t => { t with warm := false, fails := 0, serCount := 0 }
  let s := s.each (s.lportsOf p) fun s lp =>
    if !s.subEn lp && (s.pitch lp).state ≠ 6 && (s.pitch lp).state ≠ 0 then s.enterPitch lp 0 else s
  if s.parkWanted p then s else s.each (s.lportsOf p) fun s lp => s.kick lp

/-- Apply writes of an OENG page (R31): `merge` brings the shadow into force. -/
def State.engineApply (s : State) (e : Nat) (merge : State → State) : State :=
  let ports := (List.range 8).map fun k => 8 * e + k
  let old := ports.map s.modeOf
  let lps := (List.range 32).map fun i => 32 * e + i
  let s := s.withUp lps fun s =>
    let s := merge s
    s.each (List.range 8) fun s k =>
      let p := 8 * e + k
      let s := s.portSettle p (old.getD k 0)
      if !s.parkWanted p && (s.lportsOf p).any fun lp => (s.pitch lp).state == 6 then s.unpark p else s
  (s.each ports fun s p => ((s.groupsFollow p).linkFollow p).darkDiscard p).syncRclk

/-- The lanes of an engine go dark for its reset: every sub-port in use leaves UP (R58). The next start is cold. -/
def State.engineDown (s : State) (e : Nat) : State :=
  let ports := (List.range 8).map fun k => 8 * e + k
  let lps := (List.range 32).map fun i => 32 * e + i
  let s := s.withUp lps fun s => s.each lps fun s lp =>
    let on := (s.pitch lp).state ≠ 0
    let s := s.enterPitch lp 0
    let s := s.onPitch lp fun t => { t with warm := false, rxLocked := false, fails := 0, serCount := 0 }
    if on && s.subEn lp then s.startHold lp else s
  (s.each ports fun s p => (s.groupsFollow p).linkFollow p).syncRclk

/-- The engine runs again: every enabled sub-port pitches cold (R58). -/
def State.engineUp (s : State) (e : Nat) : State := s.each ((List.range 32).map fun i => 32 * e + i) fun s lp => s.kick lp

/-! ### Wake (R41 to R43) -/

/-- WAKE, and the unparking that WAKE_ACTION asks for (R42). -/
def State.wake (s : State) (p : Nat) : State :=
  let s := s.raise (oengPage (p / 8)) (8 + p % 8)
  if s.portFld p OENG_PORT_MODE_WAKE_ACTION = 1 then s.unpark p else s

/-- Mask, check value and enable of wake pattern `j` (R41). -/
def State.wakePattern (s : State) (p j : Nat) : Nat × Nat × Bool :=
  let pg := oengPage (p / 8)
  let o := 0x100 * (p % 8) + 0x20 * j
  let m := fun n => s.fld pg (OENG_WAKE_MASK_MASK.sh (o + 4 * n))
  (m 0 + 2 ^ 32 * m 1 + 2 ^ 64 * m 2 + 2 ^ 96 * m 3, s.fld pg (OENG_WAKE_CHECK_CHECK.sh o), s.flag pg (OENG_WAKE_CHECK_EN.sh o))

/-- A frame matches a wake pattern (R41). -/
def wakeMatch (bytes : List Byte) (w : Nat × Nat × Bool) : Bool :=
  let sel := (List.range 128).filter w.1.testBit
  w.2.2 && sel.all (· < bytes.length) && (crc16 (sel.map fun i => bytes.getD i 0)).toNat == w.2.1

/-- PARKED_FRAME_RECEIVE (R40 to R42): not delivered; one match a frame. -/
def State.doParkedFrameReceive (s : State) (lp : Nat) (bytes : List Byte) : State :=
  let p := physOf lp
  if !s.inUse lp || (s.pitch lp).state ≠ 6 then s
  else
    let s := s.onPitch lp fun t => { t with light := true, rxLocked := true }
    if fcsGood bytes && (List.range 8).any fun j => wakeMatch bytes (s.wakePattern p j) then (s.engCtr p 3).wake p else s

/-- LIGHT_APPEAR: light after none; on a parked port with WAKE_ON_LIGHT = 1 it wakes (R43). -/
def State.doLightAppear (s : State) (lp : Nat) : State :=
  let p := physOf lp
  if (s.pitch lp).light then s
  else
    let s := s.onPitch lp fun t => { t with light := true }
    if s.inUse lp && (s.pitch lp).state = 6 && s.portFld p OENG_PORT_MODE_WAKE_ON_LIGHT = 1 then s.wake p else s

/-! ### Sources (R45 to R50) -/

/-- The wear record of a lane's present source: sources 0 to 31 the primaries, 32 to 35 the spares. -/
def State.srcOf (s : State) (e l : Nat) : Nat := match (s.lane (laneKey e l)).src with | 0 => l | n => 31 + n
def State.onWear (s : State) (e src : Nat) (f : Wear → Wear) : State := s.setWear (e * 64 + src) (f (s.wear (e * 64 + src)))

/-- A lane went dark: the logical port that uses it leaves UP for BIAS (R32). -/
def State.laneDarkens (s : State) (e l : Nat) : State :=
  match s.lportOfLane e l with
  | none => s
  | some lp =>
    let s := s.onPitch lp fun t => { t with lit := false }
    if (s.pitch lp).state = 5 then s.pitchTo lp 1 else s

/-- Lanes of the engine above lane `l` whose switch started at this instant, in the same sample, and has not reached its spare's power. -/
def State.laterLanes (s : State) (e l : Nat) : List Nat :=
  (List.range 32).filter fun k =>
    let x := s.lane (laneKey e k)
    decide (l < k) && x.switching.isSome && !x.switchReady && x.switchAt == s.now

/-- A lane qualifies for a spare: it is switched, or finds none (R47, R49). A lower lane of the same sample is served first: the spares of
the higher ones are chosen anew after its own. -/
def State.switchLane (s : State) (e l : Nat) : State :=
  let serve := fun (s : State) (k : Nat) =>
    let (s, ok) := s.startSwitch e k
    if ok then s
    else
      let t := s.noSpare e k
      if (t.lane (laneKey e k)).lstate = 3 then t.laneDarkens e k else t
  let later := s.laterLanes e l
  let s := s.each later fun s k =>
    match (s.lane (laneKey e k)).switching with
    | some sp => (s.giveSpare e sp).onLane e k fun x => { x with switching := none }
    | none => s
  (serve s l).each later serve

/-- LASER_SAMPLE (R45, R46, R49): telemetry, and the class of the source. -/
def State.doLaserSample (s : State) (e l : Nat) (bias bol txPwr rxPwr : Nat) (reaches : Bool) : State :=
  if !s.engineRuns e then s
  else
    let s := s.onLane e l fun x => { x with bias := bias, txPwr := txPwr, rxPwr := rxPwr }
    let s := s.onWear e (s.srcOf e l) fun w => { w with bias := bias }
    let x := s.lane (laneKey e l)
    if 3 ≤ x.lstate then s
    else if !reaches || 16 * bol ≤ 10 * bias then
      let s := if x.failed then s else s.onWear e (s.srcOf e l) fun w => { w with failures := w.failures + 1 }
      let s := s.onLane e l fun x => { x with failed := true }
      if x.deferred then s else s.switchLane e l
    else if x.deferred then s
    else if 13 * bol ≤ 10 * bias then
      if x.lstate = 2 then s
      else
        let s := (s.onLane e l fun x => { x with lstate := 2 }).raise (oengPage e) 16
        if s.flag (oengPage e) OENG_OE_CFG_SPARE_POLICY then s.onLane e l fun x => { x with pending := true } else s.switchLane e l
    else s.onLane e l fun x => { x with lstate := 1 }

/-- SPARE_POWER_READY: the optical switch moves the lane (R48 step 2). -/
def State.doSparePowerReady (s : State) (e l : Nat) : State :=
  if (s.lane (laneKey e l)).switching.isSome then s.onLane e l fun x => { x with switchReady := true } else s

/-- SPARE_SWITCH_COMPLETE (R48 step 4). A latched limiter keeps the lane tripped until it is cleared (R52). -/
def State.doSpareSwitchComplete (s : State) (e l : Nat) : State :=
  let x := s.lane (laneKey e l)
  match x.switching with
  | some sp =>
    if !x.switchReady then s
    else
      let s := s.onWear e (s.srcOf e l) fun w => { w with switches := w.switches + 1 }
      (s.onLane e l fun x => { x with
        src := sp + 1, lstate := if x.latched then 4 else 1, switching := none, switchReady := false, pending := false, failed := false }).raise (oengPage e) 17
  | none => s

/-- Nanoseconds of one hour. -/
def hourNs : Nat := 3600000000000

/-- WEAR_RECORD_WRITE: the powered hours are credited, and the 36 records are written as one object of NV (R50, R451, R456). -/
def State.doWearRecordWrite (s : State) (e : Nat) : State :=
  let h := (s.now - s.wearHour e) / hourNs
  let s := (s.setWearHour e (s.wearHour e + h * hourNs)).each (List.range 36) fun s i =>
    s.onWear e i fun w => { w with hours := w.hours + h }
  if s.sys.nv.powerFail || !s.sys.nv.mounted then s
  else
    s.onNv fun n =>
      let q := match mget none n.wear e with | some x => x.1 + 1 | none => 0
      { n with wear := mset none n.wear e (some (q, (List.range 36).map fun i => s.wear (e * 64 + i))) }

/-! ### Eye safety (R51, R52) -/

/-- EYE_LIMIT_TRIP: the limiter darkens and latches the lane; the third trip within 3,600 s of device time locks it. -/
def State.doEyeLimitTrip (s : State) (e l : Nat) : State :=
  let x := s.lane (laneKey e l)
  if x.latched || x.lstate = 5 then s
  else
    let trips := s.dtNs :: x.trips.filter fun t => s.dtNs < t + 3600 * nsPerSec
    let s := s.onWear e (s.srcOf e l) fun w => { w with trips := w.trips + 1 }
    let s := s.onLane e l fun x => { x with
      lstate := if 3 ≤ trips.length then 5 else 4, latched := true, trips := trips, switching := none, switchReady := false
      deferred := false, pending := false }
    (s.raise (oengPage e) 20).laneDarkens e l

/-- LANE_CLEAR_TRIP (R52): no effect on an eye-locked lane or one not tripped. -/
def State.doLaneClearTrip (s : State) (e l : Nat) : State :=
  let x := s.lane (laneKey e l)
  if x.lstate = 5 || !x.latched then s
  else s.onLane e l fun x => { x with latched := false, lstate := if x.lstate = 4 then 1 else x.lstate }

/-- LANE_APPROVE_SWITCH (R46). -/
def State.doLaneApproveSwitch (s : State) (e l : Nat) : State := if (s.lane (laneKey e l)).pending then (s.startSwitch e l).1 else s

/-- LANE_SWITCH_NOW (R52, R60): no effect without a suitable spare, on an eye-locked lane, or during a switch. -/
def State.doLaneSwitchNow (s : State) (e l : Nat) : State :=
  let x := s.lane (laneKey e l)
  if x.lstate = 5 || x.switching.isSome || x.deferred then s else (s.startSwitch e l).1

/-! ### Calibration (R53, R54) -/

/-- The value at calibration point `i` of value `v` (0 TX_DELAY, 1 RX_DELAY, 2 ASYM) of a lane. -/
def State.calPoint (s : State) (e l v i : Nat) : Nat := mget 0 s.sys.nv.calPoints ((laneKey e l * 3 + v) * 3 + i)
def State.calValue (s : State) (e l v temp : Nat) : Nat := Config.calInterpolate temp (s.calPoint e l v 0) (s.calPoint e l v 1) (s.calPoint e l v 2)

/-- CAL_INTERPOLATE: the values in use of every lane of an engine; 0 without a good calibration record. -/
def State.doCalInterpolate (s : State) (e temp : Nat) : State :=
  if !s.engineRuns e then s
  else
    let ok := s.sys.nv.calGood && s.sys.nv.engineCalGood.getD e false
    s.each (List.range 32) fun s l => s.onLane e l fun x =>
      if ok then
        { x with txDelay := s.calValue e l 0 temp % 2 ^ 14, rxDelay := s.calValue e l 1 temp % 2 ^ 14, asym := s.calValue e l 2 temp % 2 ^ 16 }
      else { x with txDelay := 0, rxDelay := 0, asym := 0 }

end Sys2Proof.Machine
end

