-- ==== Sys2Proof/Machine/TimeUnit.lean ====
section
/-! DEFINITION. Device time, the time bases and their servo, and the time pins (chapter 11). -/

namespace Sys2Proof.Machine

def State.onTb (s : State) (n : Nat) (f : TimeBase → TimeBase) : State := s.setTb n (f (s.tb n))
/-- REFUSED of TIME_CFG (R323). -/
def State.timeRefused (s : State) (b : Bool) : State := s.setFlag timePage TIME_TIME_CFG_REFUSED b

/-! ### The passing of time (R302, R306) -/

/-- Advance an amount by a frequency in 1/16 ppb, with the residue of the division. -/
def scaled (d res freq : Int) : Int × Int :=
  let x := d * freq + res
  (d + x / freqUnit, x % freqUnit)

/-- DT_FREQ in 1/16 ppb. -/
def State.dtFreq (s : State) : Int := signed 24 (s.fld timePage TIME_DT_STATUS_FREQ)

/-- DT advances by `d` units of 2^-16 ns, and every enabled time base with it. -/
def State.advance (s : State) (d : Int) : State :=
  let s := s.onTime fun t => { t with dt := ((t.dt : Int) + d).toNat }
  s.each (List.range 4) fun s n =>
    if s.tbEn n then
      let (x, r) := scaled d (s.tb n).res (s.tbFreq n)
      s.onTb n fun b => { b with t := b.t + x, res := r }
    else s

/-- One nanosecond of the reference oscillator passes. -/
def State.tick (s : State) : State :=
  let s := { s with now := s.now + 1 }
  if s.time.standby then s.onTime fun t => { t with dt := t.dt + 65536 }
  else
    let (x, r) := scaled 65536 s.time.dtRes s.dtFreq
    (s.onTime fun t => { t with dtRes := r }).advance x

/-! ### DT (R303, R305, R322) -/

/-- The source that steers DT is present (R303). -/
def State.dtSourceOk (s : State) : Bool :=
  match s.fld timePage TIME_DT_CFG_SRC with
  | 0 => true
  | 1 => s.flag timePage TIME_FREF_STATUS_IN_PRESENT
  | 2 => s.tbState (s.fld timePage TIME_DT_CFG_TB_SEL) == 3
  | _ => s.linkState (s.fld timePage TIME_DT_CFG_LINK) == 3

def State.doDtSourceLost (s : State) : State :=
  if s.dtSourceOk || !s.flag timePage TIME_DT_STATUS_SRC_OK then s
  else (s.setFlag timePage TIME_DT_STATUS_SRC_OK false).raiseLive timePage 12
def State.doDtSourceReturn (s : State) : State :=
  if !s.dtSourceOk || s.flag timePage TIME_DT_STATUS_SRC_OK then s
  else (s.setFlag timePage TIME_DT_STATUS_SRC_OK true).lower timePage 12

/-- The island behind a DEVC assertion (R439). -/
def State.islandCapture (s : State) (i cause : Nat) : State :=
  ((s.setFld devcPage DEVC_ISLAND_CAPTURE_ISLAND i).setFld devcPage DEVC_ISLAND_CAPTURE_CAUSE cause).setFlag devcPage DEVC_ISLAND_CAPTURE_VALID true

/-- DT_TRIM (R15, R16, R302, R303): an island measures its skew in 1/64 ns, and runs free from what it measured while it is unlocked
(log 102); at the TU the steering gives DT_FREQ, at most 10 ppm with
SRC 2 or 3 and 0 with SRC 1. -/
def State.doDtTrim (s : State) (i skew freq : Nat) : State :=
  let src := s.fld timePage TIME_DT_CFG_SRC
  let s :=
    if i = 51 && 2 ≤ src && s.flag timePage TIME_DT_STATUS_SRC_OK && !s.time.standby then
      s.setFld timePage TIME_DT_STATUS_FREQ (unsigned 24 (sat (-160000) 160000 (signed 24 freq)))
    else s
  if i = 53 || i = 51 || !s.islandRuns i || !s.islandRuns 51 then s
  else
    let x := s.island i
    let k := signed 8 skew
    let lock : Bool := decide (-32 ≤ k ∧ k ≤ 32)
    let s := s.setIsland i { x with
      skew := unsigned 8 (sat (-127) 127 k), dtLock := lock
      free := if lock then none else some (((s.time.dt : Int) + k * 1024).toNat, s.now) }
    if x.dtLock && !lock then (s.islandCapture i 0).raise devcPage 0 else s

/-- CLK_UNLOCK (R435). -/
def State.doClkUnlock (s : State) (i : Nat) : State :=
  if !(s.island i).clkLock then s
  else ((s.setIsland i { s.island i with clkLock := false }).islandCapture i 1).raise devcPage 1

/-- The PPS output's source has gone back: its next whole second gives its edge once, whatever edges it gave before (R316). -/
def State.ppsBack (s : State) (back : Bool) : State := if back then s.onTime fun t => { t with ppsLast := none } else s

/-- DT_SET (R305): refused while a sub-port is UP or a link ACTIVE. Every time base moves with DT. A DT_SET_NS above 999,999,999 lies
outside R8, which does not say what such a write does: the register takes it and DT carries it into the seconds (DESIGN CHOICE, log 80). -/
def State.doDtSet (s : State) : State :=
  if (s.ports.pitch.any fun e => e.2.state == 5) || (s.trunk.links.any fun e => s.linkState e.1 == 3) then s.timeRefused true
  else
    let sec := s.fld timePage TIME_DT_SET_SEC_LO_SEC + 2 ^ 32 * s.fld timePage TIME_DT_SET_SEC_HI_SEC
    let t := (sec * nsPerSec + s.fld timePage TIME_DT_SET_NS_NS) * 65536
    let d : Int := (t : Int) - s.time.dt
    let mv := fun (x : Nat) => ((x : Int) + d).toNat
    let s := ((s.timeRefused false).ppsBack (decide (d < 0))).onTime fun y => { y with dt := t }
    let s := s.each (List.range 4) fun s n =>
      if s.tbEn n then s.onTb n fun b => { b with
        t := b.t + d, lastStep := b.lastStep.map mv, lastAt := b.lastAt.map (·.map mv)
        prevOfs := b.prevOfs.map (·.map fun p => (p.1, mv p.2)) }
      else s
    s.gateStep 4

/-- Write a time value into four registers SEC_LO, SEC_HI, NS, FRAC. -/
def State.latchTime (s : State) (lo hi ns fr : Fld) (t : Nat) : State :=
  let sec := t / 65536 / nsPerSec
  (((s.setFld timePage lo sec).setFld timePage hi (sec / 2 ^ 32)).setFld timePage ns (t / 65536 % nsPerSec)).setFld timePage fr (t % 65536)

/-- DT_LATCH_READ (R322). -/
def State.doDtLatchRead (s : State) : State :=
  s.latchTime TIME_DT_SEC_LO_SEC TIME_DT_SEC_HI_SEC TIME_DT_NS_NS TIME_DT_FRAC_FRAC s.time.dt

/-- TB_LATCH_READ (R306): the time base and DT of one instant. -/
def State.doTbLatchRead (s : State) (n : Nat) : State :=
  let s := s.latchTime (tbF n TIME_TB_SEC_LO_SEC) (tbF n TIME_TB_SEC_HI_SEC) (tbF n TIME_TB_NS_NS) (tbF n TIME_TB_FRAC_FRAC)
    (s.tbAt n s.time.dt).toNat
  (s.setFld timePage (tbF n TIME_TB_SNAP_DT_SEC_SEC) s.dtSec).setFld timePage (tbF n TIME_TB_SNAP_DT_NS_NS) s.dtSub

/-! ### The servo (R307 to R310) -/

/-- One ppb in the unit of `i` and `r`. -/
def ppb : Int := 2 ^ 28
/-- Limit of a frequency: 200,000 ppb. -/
def freqLimit : Int := 200000 * ppb
/-- F_n from the servo's frequency, in the units of TB_FREQ. -/
def State.setTbFreq (s : State) (n : Nat) (f : Int) : State := s.setFld timePage (tbF n TIME_TB_FREQ_F) (unsigned 32 (f / 2 ^ 24))
/-- A time base changes state (R309). -/
def State.setTbState (s : State) (n st : Nat) : State :=
  if s.tbState n = st then s else (s.setFld timePage (tbF n TIME_TB_STATUS_STATE) st).raise timePage n
def State.activeCh (s : State) (n : Nat) : Nat := s.fld timePage (tbF n TIME_TB_STATUS_ACTIVE_CH)
def State.chOk (s : State) (n ch : Nat) : Bool :=
  s.flag timePage (tbF n (if ch = 0 then TIME_TB_STATUS_CH0_OK else TIME_TB_STATUS_CH1_OK))
def State.setChOk (s : State) (n ch : Nat) (b : Bool) : State :=
  s.setFlag timePage (tbF n (if ch = 0 then TIME_TB_STATUS_CH0_OK else TIME_TB_STATUS_CH1_OK)) b
def State.tbSwitching (s : State) (n : Nat) : Bool := s.flag timePage (tbF n TIME_TB_STATUS_SWITCHING)

/-- A step of `amt` units of 2^-16 ns (R308). -/
def State.stepTb (s : State) (n : Nat) (amt : Int) : State :=
  let s := s.ppsBack (decide (amt < 0) && s.fld timePage TIME_PPS_OUT_CFG_SRC == n)
  let s := s.onTb n fun b => { b with t := b.t + amt, lastStep := some s.time.dt }
  let s := s.setFld timePage (tbF n TIME_TB_STATUS_STEP_CNT) (s.fld timePage (tbF n TIME_TB_STATUS_STEP_CNT) + 1)
  (s.raise timePage (8 + n)).gateStep n

/-- A switch of channel (R310). -/
def State.switchTb (s : State) (n : Nat) : State :=
  let ch := 1 - s.activeCh n
  let s := s.onTb n fun b => { b with i := b.i - b.r.getD ch 0 }
  let s := (s.setFld timePage (tbF n TIME_TB_STATUS_ACTIVE_CH) ch).setFld timePage (tbF n TIME_TB_STATUS_SWITCHING) 1
  s.raise timePage (4 + n)

def State.enterHoldover (s : State) (n : Nat) : State := (s.setTbFreq n (s.tb n).i).setTbState n 4

/-- The state after an active-channel offset of magnitude `m` in 1/16 ns (R309). -/
def State.servoState (s : State) (n : Nat) (m : Int) : State :=
  let small : Bool := m ≤ 1600
  match s.tbState n with
  | 2 =>
    let g := if small then (s.tb n).good + 1 else 0
    let s := s.onTb n fun b => { b with good := g }
    if 16 ≤ g then s.setTbState n 3 else s
  | 3 => if 16000 < m then (s.onTb n fun b => { b with good := 0 }).setTbState n 2 else s
  | _ => (s.onTb n fun b => { b with good := if small then 1 else 0 }).setTbState n 2

/-- The offset of the active channel steers the time base (R307). The Bool tells that the servo stepped. -/
def State.servo (s : State) (n : Nat) (o : Int) : State × Bool :=
  let fl := fun f => s.fld timePage (tbF n f)
  let m : Int := o.natAbs
  if fl TIME_TB_CFG_STEP_EN = 1 && s.tbState n == 2 && !s.tbSwitching n && decide (16 * (fl TIME_TB_STEP_TH_STEP_TH : Int) < m) then
    -- an offset above 100 ns breaks the run of 16 though it is stepped away (R309)
    (((if m ≤ 1600 then s else s.onTb n fun b => { b with good := 0 }).stepTb n (-o * 4096)), true)
  else
    let i := sat (-freqLimit) freqLimit ((s.tb n).i - o * 2 ^ (24 - fl TIME_TB_CFG_KI))
    let p : Int := o * 2 ^ (24 - fl TIME_TB_CFG_KP)
    let slew : Int := fl TIME_TB_TIMEOUT_SW_SLEW * ppb
    let p := if s.tbSwitching n then sat (-slew) slew p else p
    let s := (s.onTb n fun b => { b with i := i }).setTbFreq n (sat (-freqLimit) freqLimit (i - p))
    let s := s.servoState n m
    (if s.tbSwitching n && decide (m ≤ 1600) then s.setFlag timePage (tbF n TIME_TB_STATUS_SWITCHING) false else s, false)

/-- The other channel tracks the rate of its own grandmaster (R307). -/
def State.trackRate (s : State) (n ch : Nat) (o : Int) : State :=
  match (s.tb n).prevOfs.getD ch none with
  | some (o', t') =>
    let dt : Int := (s.time.dt : Int) - t'
    if dt ≤ 0 then s
    else
      let slope := (o - o') * 2 ^ 24 * nsPerSec * 65536 / dt
      s.onTb n fun b => { b with r := b.r.set ch (b.r.getD ch 0 + (slope - b.r.getD ch 0) / 16) }
  | none => s

/-- TB_OFFSET_WRITE (R307): an offset in 1/16 ns. -/
def State.doTbOffset (s : State) (n ch : Nat) (o : Int) : State :=
  let late : Bool := match (s.tb n).lastStep with | some t => decide (s.time.dt < t + 2000000 * 65536) | none => false
  if s.tbState n = 0 then s
  else if late then
    let d := s.fld timePage (tbF n TIME_TB_STATUS_DISCARDED)
    s.setFld timePage (tbF n TIME_TB_STATUS_DISCARDED) (if d < 255 then d + 1 else 255)
  else
    let s := (s.setChOk n ch true).onTb n fun b => { b with lastAt := b.lastAt.set ch (some s.time.dt) }
    let (s, stepped) := if ch = s.activeCh n then s.servo n o else (s.trackRate n ch o, false)
    if stepped then s else s.onTb n fun b => { b with prevOfs := b.prevOfs.set ch (some (o, s.time.dt)) }

def State.doTbOffsetWrite (s : State) (n ch : Nat) (o : Word) : State := (s.timeRefused false).doTbOffset n ch (signed 32 o.toNat)

/-- TB_STEP: the amount in TB_STEP_LO and TB_STEP_HI, in ns (R308); suppressed while SWITCHING is 1 (R310). -/
def State.doTbStep (s : State) (n : Nat) : State :=
  let amt := signed 64 (s.fld timePage (tbF n TIME_TB_STEP_LO_STEP) + 2 ^ 32 * s.fld timePage (tbF n TIME_TB_STEP_HI_STEP))
  if s.tbState n = 0 || s.tbSwitching n then s.timeRefused false else (s.stepTb n (amt * 65536)).timeRefused false

/-- TB_SWITCH_CHANNEL: refused while the other channel is not OK (R310). -/
def State.doTbSwitchChannel (s : State) (n : Nat) : State :=
  if s.tbState n = 0 then s.timeRefused false
  else if s.chOk n (1 - s.activeCh n) then
    let s := (s.switchTb n).timeRefused false
    if s.tbState n = 4 then s.setTbFreq n (s.tb n).i else s
  else s.timeRefused true

/-- TB_HOLDOVER and TB_RESET_SERVO (R309). -/
def State.doTbHoldover (s : State) (n : Nat) : State :=
  if s.tbState n = 0 then s.timeRefused false else (s.enterHoldover n).timeRefused false
def State.doTbResetServo (s : State) (n : Nat) : State :=
  if s.tbState n = 0 then s.timeRefused false else ((s.onTb n fun b => { b with i := 0, good := 0 }).setTbState n 2).timeRefused false

/-- TB_CHANNEL_TIMEOUT: a channel stops being OK; an active one switches or falls to HOLDOVER (R309, R310). -/
def State.doTbChannelTimeout (s : State) (n ch : Nat) : State :=
  let past : Bool := match (s.tb n).lastAt.getD ch none with
    | some t => decide (t + s.fld timePage (tbF n TIME_TB_TIMEOUT_OFS_TIMEOUT) * 1000000 * 65536 ≤ s.time.dt)
    | none => false
  if !s.chOk n ch || !past then s
  else
    let s := s.setChOk n ch false
    if ch ≠ s.activeCh n then s
    else if s.flag timePage (tbF n TIME_TB_CFG_AUTO_SW) && s.chOk n (1 - ch) then s.switchTb n
    else if s.tbState n = 2 || s.tbState n = 3 then s.enterHoldover n else s

/-- Settings of the TIME page have been applied (R303, R309). -/
def State.timeSettle (s : State) : State :=
  let s := s.each (List.range 4) fun s n =>
    if s.tbEn n && s.tbState n = 0 then ((s.setTb n dfltTimeBase).setTbFreq n 0).setTbState n 1
    else if !s.tbEn n && s.tbState n ≠ 0 then
      let s := ((((s.setTb n dfltTimeBase).setTbFreq n 0).setChOk n 0 false).setChOk n 1 false).setTbState n 0
      s.setFld timePage (tbF n TIME_TB_STATUS_SWITCHING) 0
    else s
  let s := if s.fld timePage TIME_DT_CFG_SRC = 1 then s.setFld timePage TIME_DT_STATUS_FREQ 0 else s
  let s := s.setFlag timePage TIME_FREF_STATUS_IN_LOCKED
    (s.fld timePage TIME_DT_CFG_SRC == 1 && s.flag timePage TIME_FREF_STATUS_IN_PRESENT)
  -- EN = 0 stops driving TIME_PPS_OUT (R323)
  let s := if s.time.ppsLevel && !s.flag timePage TIME_PPS_OUT_CFG_EN then
      (s.onTime fun t => { t with ppsLevel := false }).emit (.pin "TIME_PPS_OUT" false) else s
  let s := if s.flag timePage TIME_PPS_IN_CFG_EN then
      (if s.time.ppsInAt.isNone then s.onTime fun t => { t with ppsInAt := some s.now } else s)
    else (s.onTime fun t => { t with ppsInAt := none }).lower timePage 14
  s.syncRclk

/-! ### Pins (R316 to R318), held low in the fatal state (R424, R425) -/

/-- Whole nanoseconds of the PPS output's source, shifted by PPS_OUT_ADJ. -/
def State.ppsNs (s : State) : Int :=
  s.timeIn (s.fld timePage TIME_PPS_OUT_CFG_SRC) s.time.dt / 65536 - signed 32 (s.fld timePage TIME_PPS_OUT_ADJ_ADJ)

/-- PPS_OUT_EDGE: within 2 ns of a whole second of the source, once for each. -/
def State.doPpsOutEdge (s : State) : State :=
  let src := s.fld timePage TIME_PPS_OUT_CFG_SRC
  let k := s.ppsNs / nsPerSec
  if s.fatal || !s.flag timePage TIME_PPS_OUT_CFG_EN || (s.flag timePage TIME_PPS_OUT_CFG_SQUELCH && s.noLock src)
    || decide (2 ≤ s.ppsNs % nsPerSec) || s.time.ppsLast == some k then s
  else
    let due := if s.flag timePage TIME_TOD_CFG_TX_SYNC && !s.time.todTx.isEmpty
      then some (s.now + 1000 * s.fld timePage TIME_TOD_CFG_TX_DELAY) else s.time.todDue
    (s.onTime fun t => { t with
      ppsLevel := true, ppsEnd := s.now + 1000 * s.fld timePage TIME_PPS_OUT_CFG_WIDTH, ppsLast := some k, todDue := due
      }).emit (.pin "TIME_PPS_OUT" true)

def State.doPpsOutPulseEnd (s : State) : State :=
  if !s.time.ppsLevel || s.now < s.time.ppsEnd then s
  else (s.onTime fun t => { t with ppsLevel := false }).emit (.pin "TIME_PPS_OUT" false)

/-- The time inputs are ignored in standby and in the fatal state (R470). -/
def State.timeInDead (s : State) : Bool := s.fatal || !s.sys.power.rails

/-- PPS_IN_EDGE (R317). -/
def State.doPpsInEdge (s : State) : State :=
  if s.timeInDead || !s.flag timePage TIME_PPS_IN_CFG_EN then s
  else
    let n := s.fld timePage TIME_PPS_IN_CFG_IN_TB
    let t := ((s.ptpNow : Int) - signed 32 (s.fld timePage TIME_PPS_IN_ADJ_ADJ) * 65536).toNat
    let s := (s.onTime fun x => { x with ppsInAt := some s.now }).lower timePage 14
    let s := s.fifoPush 2 (s.stampRecord 0 1 n t false 0)
    if s.flag timePage TIME_PPS_IN_CFG_FEED_EN then
      let sec : Int := nsPerSec * 65536
      let o := (s.timeIn n t + sec / 2) % sec - sec / 2
      s.doTbOffset n (s.fld timePage TIME_PPS_IN_CFG_CH) (o / 4096)
    else s

/-- PPS_IN_TIMEOUT: no edge for 1.1 s. -/
def State.doPpsInTimeout (s : State) : State :=
  match s.time.ppsInAt with
  | some t => if s.flag timePage TIME_PPS_IN_CFG_EN && decide (t + 1100000000 ≤ s.now) then s.raiseLive timePage 14 else s
  | none => s

def State.doFrefAbsent (s : State) : State :=
  if s.timeInDead then s else
  ((s.setFlag timePage TIME_FREF_STATUS_IN_PRESENT false).setFlag timePage TIME_FREF_STATUS_IN_LOCKED false).raiseLive timePage 13
def State.doFrefPresent (s : State) : State :=
  if s.timeInDead then s else
  ((s.setFlag timePage TIME_FREF_STATUS_IN_PRESENT true).setFlag timePage TIME_FREF_STATUS_IN_LOCKED
    (s.fld timePage TIME_DT_CFG_SRC == 1)).lower timePage 13

/-- What FREF_OUT carries (R318, R425): none, held low; 0, the oscillator; p + 1, the receive clock of physical port p. -/
def State.frefOut (s : State) : Option Nat :=
  if s.fatal then none
  else match s.fld timePage TIME_FREF_CFG_OUT_SRC with
    | 1 => some 0
    | 2 => if s.flag timePage TIME_FREF_STATUS_RCLK_OK then some (s.fld timePage TIME_FREF_CFG_RCLK_PORT + 1) else none
    | _ => none

/-- TOD_TX_WRITE: into the 256-byte FIFO, or refused. -/
def State.doTodTxWrite (s : State) (b : Byte) : State :=
  if 256 ≤ s.time.todTx.length then s.timeRefused true
  else (s.onTime fun t => { t with todTx := t.todTx ++ [b] }).timeRefused false

/-- TOD_TX_SEND: at once, or TX_DELAY after a TIME_PPS_OUT edge. -/
def State.doTodTxSend (s : State) : State :=
  let go := !s.flag timePage TIME_TOD_CFG_TX_SYNC || (match s.time.todDue with | some t => decide (t ≤ s.now) | none => false)
  if s.fatal || !s.flag timePage TIME_TOD_CFG_EN || s.time.todTx.isEmpty || !go then s
  else
    let l := s.time.todTx
    l.foldl (fun s b => s.emit (.uart b)) (s.onTime fun t => { t with todTx := [], todDue := none })

/-- TOD_RX_BYTE: the newest byte is dropped when the FIFO is full. -/
def State.doTodRxByte (s : State) (b : Byte) : State :=
  if s.timeInDead || !s.flag timePage TIME_TOD_CFG_EN then s
  else if 256 ≤ s.time.todRx.length then (s.onTime fun t => { t with todLost := true }).raise timePage 15
  else s.onTime fun t => { t with todRx := t.todRx ++ [b] }

/-- TOD_RX_READ. -/
def State.doTodRxRead (s : State) : State :=
  match s.time.todRx with
  | b :: r =>
    let gap := s.time.todLost
    let s := s.onTime fun t => { t with todRx := r, todLost := false }
    ((s.setFld timePage TIME_TOD_RX_DATA b.toNat).setFlag timePage TIME_TOD_RX_EMPTY false).setFlag timePage TIME_TOD_RX_GAP gap
  | [] =>
    ((s.setFld timePage TIME_TOD_RX_DATA 0).setFlag timePage TIME_TOD_RX_EMPTY true).setFlag timePage TIME_TOD_RX_GAP false

/-- ARR_SEL: one port's two counters at one instant (R323). -/
def State.doArrSel (s : State) (p : Nat) : State :=
  let (n, b) := s.arrival p
  (((s.timeRefused false).setFld timePage TIME_ARR_SEL_PORT p).setCtr timePage 0xC08 n).setCtr timePage 0xC10 b

/-- ARRIVAL_WAKE_WINDOW_CLOSE (R320). -/
def State.doArrivalWakeWindowClose (s : State) (p : Nat) : State :=
  match (s.gate p).wakeUntil with
  | some (d, k) => if d ≤ s.dtNs || k = 0 then s.setGate p { s.gate p with wakeUntil := none } else s
  | none => s

end Sys2Proof.Machine
end

