-- ==== Sys2Proof/Machine/Cluster.lean ====
section
/-! DEFINITION. Service clusters, the lease, checkpoints and role swaps, and the limits of firmware (R342 to R357, R363, R364). -/

namespace Sys2Proof.Machine

/-! ### Clusters -/

/-- Island of a cluster: 49 SCA, 50 SCB. -/
def clusterIsland (c : Nat) : Nat := 49 + c
def clF (c : Nat) (f : Fld) : Fld := f.sh (4 * c)
def State.cluster (s : State) (c : Nat) : ClusterSt := s.svc.clusters.getD c ClusterSt.reset
def State.onCluster (s : State) (c : Nat) (f : ClusterSt → ClusterSt) : State :=
  s.onSvc fun v => { v with clusters := v.clusters.set c (f (s.cluster c)) }
def State.role (s : State) (c : Nat) : Nat := s.fld svccPage (clF c SVCC_CLUSTER_STATE_ROLE)
def State.setRole (s : State) (c r : Nat) : State := s.setFld svccPage (clF c SVCC_CLUSTER_STATE_ROLE) r
def State.setCause (s : State) (c r : Nat) : State := s.setFld svccPage (clF c SVCC_CLUSTER_STATE_CAUSE) r
/-- A word of a cluster's own copy of a register (R373, R376); `pair` 4 for the registers the whole cluster shares. -/
def clKey (pair off : Nat) : Nat := (pair + 1) * 4096 + off
def State.clWord (s : State) (c pair off : Nat) : Word := mget (α := Word) 0 (s.cluster c).desc (clKey pair off)
def State.setClWord (s : State) (c pair off : Nat) (v : Word) : State :=
  s.onCluster c fun x => { x with desc := mset (α := Word) 0 x.desc (clKey pair off) v }

def State.isHolder (s : State) (c : Nat) : Bool := s.svc.lease.holder == some c
/-- The cluster drives outputs: its firmware runs, its comparator does not block it and its clock is not gated (R343, R345). The firmware
of a cluster that lost its lease runs on until a reset, with its outputs gated (R350, R351; CAUSE 3, log 81). -/
def State.drives (s : State) (c : Nat) : Bool :=
  let r := s.role c
  let lost : Bool := r == 6 && s.fld svccPage (clF c SVCC_CLUSTER_STATE_CAUSE) == 3 && !(s.block (clusterIsland c)).isolated
  (r == 3 || r == 4 || r == 5 || lost) && !(s.cluster c).blocked && !(s.cluster c).clockGated

/-! ### Firmware containment (R351, R364) -/

/-- DENY_CAPTURE (R374). -/
def State.denyCapture (s : State) (page off cause : Nat) : State :=
  (((s.setFld svccPage SVCC_DENY_CAPTURE_PAGE page).setFld svccPage SVCC_DENY_CAPTURE_OFFSET off).setFld svccPage SVCC_DENY_CAPTURE_CAUSE cause).setFlag
    svccPage SVCC_DENY_CAPTURE_VALID true

/-- A denied firmware access (R364): counted, captured, raised; the core takes fault `code` (5 load, 7 store). -/
def State.fwDenied (s : State) (c page off cause code : Nat) : State :=
  (((s.count svccPage 0xB8).denyCapture page off cause).raise svccPage 12).emit (.coreFault c code)

/-- An output gated for want of the lease (R351). -/
def State.fwGated (s : State) (c page off : Nat) : State :=
  ((s.count svccPage 0xB0).denyCapture page off 3).emit (.coreFault c 7)

/-- An output of cluster `c` under the lease (R343, R351): nothing when the cluster drives none, a store fault when it is gated. -/
def State.clusterOut (s : State) (c page off : Nat) (run : State → State) : State :=
  if !s.drives c then s else if !s.isHolder c then s.fwGated c page off else run s

/-- FIRMWARE_HOST_PAGE_READ (R364): HOST and LOOM are host-only for reads too. -/
def State.doFirmwareHostPageRead (s : State) (c page off : Nat) : State :=
  let hostOnly : Bool := match pageOf page with | some (.host, _) => true | some (.loom, _) => true | _ => false
  if s.drives c && hostOnly then s.fwDenied c page off 6 5 else s

/-! ### The lease (R348 to R352) -/

/-- A held write of LEASE_CFG comes into force at a lease operation, at an expiry, or when no cluster holds the lease (R373). -/
def State.applyLeaseCfg (s : State) : State :=
  let a := regA svccPage SVCC_LEASE_CFG_LEASE_MS.off
  match s.shadow.find? (·.1 == a) with
  | some e => if s.host.held.any (·.1 == svccPage) then s else { s.wr a e.2 with shadow := merase s.shadow a }
  | none => s

def State.leaseNs (s : State) : Nat := 1000000 * s.fld svccPage SVCC_LEASE_CFG_LEASE_MS
def State.guardNs (s : State) : Nat := 1000000 * s.fld svccPage SVCC_LEASE_CFG_GUARD_MS

/-- The pool manager takes back every buffer of requesters 0 to 4 (R369). -/
def State.poolReclaim (s : State) : State :=
  let l := (s.svc.bufs.filter fun e => match e.2.holder with | some r => r < 5 | none => false).map (·.1)
  let s := s.each l fun s k => (s.bufRelease (k / 32768) (k % 32768)).count poolPage 0xB8
  s.onSvc fun v => { v with puntQ := [] }

/-- A deep checkpoint is copied into the NV slot that does not hold the last NV commit (R455). -/
def State.nvCkptCopyStart (s : State) (k : Ckpt) : State :=
  let n := s.sys.nv
  if n.ckptCopy.isSome || n.powerFail || !n.mounted then s
  else
    let a := n.ckpt.getD 0 Ckpt.empty
    let b := n.ckpt.getD 1 Ckpt.empty
    let last := if b.committed && (!a.committed || a.seq < b.seq) then 1 else 0
    let slot := if a.committed || b.committed then 1 - last else 0
    s.onNv fun n => { n with ckptCopy := some (slot, k), lastCkptCopy := s.now }

/-- The last committed deep checkpoint that is not lost (R347, R355). -/
def State.bestSlot (s : State) : Option Nat :=
  let lost := s.fld svccPage SVCC_CKPT_STATUS_SLOT_LOST
  let ok := fun i => (s.svc.slots.getD i Ckpt.empty).committed && !lost.testBit i
  let seq := fun i => (s.svc.slots.getD i Ckpt.empty).seq
  if ok 0 && ok 1 then some (if seq 0 < seq 1 then 1 else 0) else if ok 0 then some 0 else if ok 1 then some 1 else none

/-- The cores of cluster `c` that stall on an output or on the message FIFO when its lease ends: a stalled post is gated, a stalled read
returns 0xFFFF_FFFF (R351, R405). -/
def State.stallsEnd (s : State) (c : Nat) : State :=
  let rs := s.svc.fwReaders.filter fun x => x.1 == c
  let s := s.onSvc fun v => { v with fwReaders := v.fwReaders.filter fun x => x.1 != c }
  let s := rs.foldl (fun (s : State) (x : Nat × Nat) => (s.setClWord c x.2 0x110 0xFFFFFFFF).emit (.coreRead c 0xFFFFFFFF)) s
  s.each (List.range 4) fun s p =>
    if (mget none s.svc.injStalled (4 * c + p)).isSome then
      (s.onSvc fun v => { v with injStalled := mset none v.injStalled (4 * c + p) none }).fwGated c svccPage 0x12C
    else s

/-- The lease ends at instant `at_`: the checkpoint under way is abandoned, the buffers of its holder return, outputs still queued are
discarded with their epoch (R349, R351, R354, R369). -/
def State.leaseEnd (s : State) (at_ : Nat) (from_ : Nat) : State :=
  match s.svc.lease.holder with
  | none => s
  | some c =>
    let n := sumOver (List.range 4) fun p => (s.injQ (4 * c + p)).length
    let s := s.each (List.range 4) fun s p => (s.setInjQ (4 * c + p) []).setClWord c p 0x130 0
    let s := (if n = 0 then s else s.count svccPage 0xB0 n).stallsEnd c
    let s := s.onLease fun l => { l with
      holder := none, lastEnd := some at_, lastHolder := some c, takeoverFrom := from_, guardOpen := false }
    let s := s.onSvc fun v => { v with ckptBusy := none, restore := none, swapFrom := none }
    let s := (s.setFlag svccPage SVCC_CKPT_STATUS_BUSY false).poolReclaim
    ((s.raise svccPage 0).journalNote 3).applyLeaseCfg

/-- The arbiter revokes the lease at once (R343, R352, R357); its former holder has lost it. -/
def State.leaseRevoke (s : State) (cause : Nat) : State :=
  match s.svc.lease.holder with
  | none => s
  | some c =>
    let s := (s.leaseEnd s.now s.now).onSvc fun v => { v with swapDueAt := none }
    if s.role c = 4 || s.role c = 5 then (s.setRole c 6).setCause c cause else s

/-- LEASE_OP.RESULT; OP and EPOCH are write-only. -/
def State.leaseResult (s : State) (c : Nat) (ok : Bool) : State :=
  s.setClWord c 4 0x100 (if ok then 0 else 0x80000)

/-- A LEASE_OP of cluster `c`: never gated, answered in LEASE_OP.RESULT (R348, R349). -/
def State.leaseOp (s : State) (c : Nat) (ok : Bool) (run : State → State) : State :=
  if !s.drives c then s else ((if ok then run s else s).leaseResult c ok).applyLeaseCfg

def State.epochOk (s : State) (c epoch : Nat) : Bool := s.isHolder c && s.svc.lease.epoch == epoch

/-- LEASE_RENEW: refused in the cycle of expiry and after it (R349, R350). -/
def State.doLeaseRenew (s : State) (c epoch : Nat) : State :=
  let s := s.applyLeaseCfg
  s.leaseOp c (s.epochOk c epoch && s.now < s.svc.lease.expiry) fun s =>
    s.onLease fun l => { l with expiry := s.now + s.leaseNs, renewed := s.now }

/-- Two claims in one groundsheet cycle of 5 ns: the cluster that did not hold the last lease wins (R350). -/
def State.claimBeats (s : State) (c : Nat) : Bool :=
  let l := s.svc.lease
  match l.holder with
  | some h => h != c && l.since / 5 == s.now / 5 && l.lastHolder == some h && s.role h == 4
  | none => false

/-- The claiming cluster starts its restore, or the configuration store when no slot qualifies (R355). -/
def State.restoreStart (s : State) : State :=
  match s.bestSlot with
  | some i => (s.onSvc fun v => { v with restore := some i }).setFlag svccPage SVCC_CKPT_STATUS_BUSY true
  | none => (s.onSvc fun v => { v with restore := none }).raise svccPage 8

/-- LEASE_CLAIM (R349, R350, R355): refused in the fatal state and in bivouac mode (R425, R449). -/
def State.doLeaseClaim (s : State) (c : Nat) : State :=
  let l := s.svc.lease
  let past : Bool := match l.lastEnd with | some t => decide (t + s.guardNs ≤ s.now) | none => true
  let may : Bool := (l.next = 0 || l.next = c + 1) && s.role c = 3 && !s.fatal && !s.sys.boot.bivouac
  if may && s.claimBeats c then
    s.leaseOp c true fun s =>
      let h := l.holder.getD 0
      let s := ((s.setRole h 3).setRole c 4).onCluster h fun x => { x with clockGated := true }
      s.onLease fun l => { l with holder := some c }
  else
    s.leaseOp c (may && l.holder.isNone && past) fun s =>
      let s := s.applyLeaseCfg
      let s := s.onLease fun l => { l with
        holder := some c, epoch := (l.epoch + 1) % 65536, expiry := s.now + s.leaseNs, since := s.now, renewed := s.now }
      let s := ((s.setRole c 4).setCause c 0).count svccPage 0xD8
      let s := if s.svc.swapDueAt.isSome && l.lastHolder != some c then s.count svccPage 0xE0 else s
      let s := s.onSvc fun v => { v with swapDueAt := none, swapFrom := some s.now }
      (((s.raise svccPage 0).raise svccPage 1).journalNote 3).restoreStart

/-- LEASE_RELEASE: the former holder waits as a standby; an NV copy follows (R349, R357, R455). -/
def State.doLeaseRelease (s : State) (c epoch : Nat) : State :=
  s.leaseOp c (s.epochOk c epoch) fun s =>
    let s := (s.leaseEnd s.now s.now).setRole c 3
    let s := s.onCluster c fun x => { x with clockGated := true }
    match s.bestSlot with
    | some i => s.nvCkptCopyStart (s.svc.slots.getD i Ckpt.empty)
    | none => s

/-- LEASE_READY: TAKEOVER_MS is fixed and the cluster is active (R349, R356). -/
def State.doLeaseReady (s : State) (c epoch : Nat) : State :=
  s.leaseOp c (s.epochOk c epoch) fun s =>
    if s.role c ≠ 4 then s
    else
      let s := s.setRole c 5
      if s.svc.lease.lastEnd.isNone then s
      else s.setFld svccPage SVCC_TAKEOVER_MS_MS (min 65535 ((s.now - s.svc.lease.takeoverFrom) / 1000000))

/-- LEASE_EXPIRE (R349, R350): the last lease ends at its expiry, and the takeover interval runs from the last renewal (R356). -/
def State.doLeaseExpire (s : State) : State :=
  let l := s.svc.lease
  match l.holder with
  | none => s
  | some c =>
    if s.now < l.expiry then s
    else
      let s := (s.leaseEnd l.expiry l.renewed).onSvc fun v => { v with swapDueAt := none }
      (s.setRole c 6).setCause c 3

/-- LEASE_GUARD_END: the clock of each standby at ROLE 3 is ungated (R349). -/
def State.doLeaseGuardEnd (s : State) : State :=
  let l := s.svc.lease
  let past : Bool := match l.lastEnd with | some t => decide (t + s.guardNs ≤ s.now) | none => true
  if l.holder.isSome || l.guardOpen || !past then s
  else
    let s := s.onLease fun l => { l with guardOpen := true }
    s.each [0, 1] fun s c => if s.role c = 3 then s.onCluster c fun x => { x with clockGated := false } else s

/-- LEASE_REVOKE and LEASE_SET_NEXT (R352): NEXT 3 is refused. -/
def State.doLeaseRevoke (s : State) : State := (s.leaseRevoke 3).setFlag svccPage SVCC_SVCC_CFG_REFUSED false
def State.doLeaseSetNext (s : State) (n : Nat) : State :=
  if n = 3 then s.setFlag svccPage SVCC_SVCC_CFG_REFUSED true
  else (s.onLease fun l => { l with next := n }).setFlag svccPage SVCC_SVCC_CFG_REFUSED false

/-! ### Faults and starts of a cluster (R343 to R345) -/

def State.nvSlot (s : State) (k : Nat) : NvSlot := s.sys.nv.slots.getD k NvSlot.empty
def slotF (k : Nat) (f : Fld) : Fld := f.sh (0x10 * k)
/-- An image slot changes, and its registers with it (R446, R460). -/
def State.setNvSlot (s : State) (k : Nat) (x : NvSlot) : State :=
  let s := s.onNv fun n => { n with slots := n.slots.set k x }
  (((s.setFld nvstPage (slotF k NVST_SLOT_STATUS_STATE) x.state).setFld nvstPage (slotF k NVST_SLOT_STATUS_SVN) x.svn).setFld nvstPage
    (slotF k NVST_SLOT_MW_VER_VERSION) x.mw).setFld nvstPage (slotF k NVST_SLOT_UC_VER_VERSION) x.uc
/-- A slot's state changes: the journal records it (R456). -/
def State.setSlotState (s : State) (k st : Nat) : State := (s.setNvSlot k { s.nvSlot k with state := st }).journalNote 4

/-- The trial of the running slot fails: REJECTED and TRIAL_FAILED (R448). -/
def State.trialFail (s : State) : State :=
  match s.sys.boot.trialEnd with
  | none => s
  | some _ => ((s.onBoot fun b => { b with trialEnd := none }).setSlotState s.sys.boot.slot 5).raise nvstPage 4

/-- The cluster's outputs are blocked and its lease is revoked (R343); an unconfirmed trial fails (R448). -/
def State.clusterFault (s : State) (c cause src : Nat) : State :=
  let s := s.onCluster c fun x => { x with blocked := true }
  let s := if s.isHolder c then s.leaseRevoke cause else s
  (((s.setRole c 6).setCause c cause).raise svccPage src).trialFail

/-- LOCKSTEP_MISMATCH (R343): the comparator sees outputs of a cluster whose firmware runs. -/
def State.doLockstepMismatch (s : State) (c pair : Nat) : State :=
  if !s.drives c then s else (s.setFld svccPage (clF c SVCC_CLUSTER_STATE_PAIR) pair).clusterFault c 1 (2 + c)

/-- SRAM_ECC_ERROR (R344). -/
def State.doSramEccError (s : State) (c : Nat) (uncorrectable : Bool) : State :=
  let r := s.role c
  if r = 0 || r = 6 then s
  else if uncorrectable then s.clusterFault c 2 (4 + c)
  else
    let n := s.fld svccPage (clF c SVCC_CLUSTER_STATE_SRAM_CORR)
    (s.setFld svccPage (clF c SVCC_CLUSTER_STATE_SRAM_CORR) (if n < 65535 then n + 1 else n)).raise svccPage 6

/-- A cluster reaches ROLE 3: its clock is gated, unless the lease is free and no guard runs (R345, R349, R357). -/
def State.standbyReady (s : State) (c : Nat) : State :=
  let s := (s.setRole c 3).setCause c 0
  let s := s.onCluster c fun x => { x with clockGated := s.svc.lease.holder.isSome || !s.svc.lease.guardOpen }
  if s.svc.lease.holder.isSome && s.svc.swapFrom.isNone then s.onSvc fun v => { v with swapFrom := some s.now } else s

/-- CLUSTER_SELFTEST_DONE and CLUSTER_LOAD_DONE (R345). -/
def State.doClusterSelftestDone (s : State) (c : Nat) (ok : Bool) : State :=
  if s.role c ≠ 1 then s
  else if ok then s.setRole c 2 else ((s.setRole c 6).setCause c 4).raise svccPage 7
def State.doClusterLoadDone (s : State) (c : Nat) (ok : Bool) : State :=
  if s.role c ≠ 2 then s
  else if ok then s.standbyReady c else ((s.setRole c 6).setCause c 5).raise svccPage 7

/-! ### Checkpoints (R353 to R355) -/

def refusedSvcc (s : State) (b : Bool) : State := s.setFlag svccPage SVCC_SVCC_CFG_REFUSED b

/-- CKPT_CMD: the state at this instant, into the slot other than the last committed one, or into the one slot that is not lost. With
both slots lost the command faults (R353, R354). -/
def State.doCkptCmd (s : State) (c : Nat) : State :=
  s.clusterOut c svccPage 0x104 fun s =>
    let lost := s.fld svccPage SVCC_CKPT_STATUS_SLOT_LOST
    let last := s.fld svccPage SVCC_CKPT_STATUS_SLOT
    if lost = 3 then s.emit (.coreFault c 7)
    else if s.flag svccPage SVCC_CKPT_STATUS_BUSY then s
    else
      let slot := if lost = 1 then 1 else if lost = 2 then 0
        else if s.flag svccPage SVCC_CKPT_STATUS_VALID then 1 - last else 0
      let x := s.cluster c
      let k : Ckpt :=
        { committed := true, seq := (s.fld svccPage SVCC_CKPT_STATUS_SEQ + 1) % 2 ^ 24, epoch := s.svc.lease.epoch, pages := x.marks
          sram := x.sram, window := x.window.filter fun b => x.marks.contains (b.1 / 4096), mwVersion := s.sys.boot.mwVersion }
      let s := s.onSvc fun v => { v with
        ckptBusy := some (slot, k), slots := v.slots.set slot { v.slots.getD slot Ckpt.empty with committed := false } }
      (s.onCluster c fun x => { x with touched := [] }).setFlag svccPage SVCC_CKPT_STATUS_BUSY true

/-- CKPT_MARK: up to 57,344 of the 196,608 window pages (R353). -/
def State.doCkptMark (s : State) (c page : Nat) (set : Bool) : State :=
  s.clusterOut c svccPage 0x108 fun s =>
    let m := (s.cluster c).marks
    if 196608 ≤ page || (set && !m.contains page && 57344 ≤ m.length) then refusedSvcc s true
    else
      refusedSvcc (s.onCluster c fun x => { x with marks := if set then insNat page m else m.filter (· != page) }) false

/-- CKPT_COMMIT: the commit marker is written last (R354); the first commit after NV_CKPT_MIN minutes is copied to NV (R455). -/
def State.doCkptCommit (s : State) : State :=
  match s.svc.ckptBusy with
  | none => s
  | some (slot, k) =>
    let s := s.onSvc fun v => { v with slots := v.slots.set slot k, ckptBusy := none, lastCommit := s.now }
    let s := ((s.setFld svccPage SVCC_CKPT_STATUS_SEQ k.seq).setFld svccPage SVCC_CKPT_STATUS_SLOT slot).setFlag svccPage
      SVCC_CKPT_STATUS_VALID true
    let s := s.setFlag svccPage SVCC_CKPT_STATUS_BUSY false
    if s.sys.nv.lastCkptCopy + 60 * nsPerSec * s.fld nvstPage NVST_NV_CFG_NV_CKPT_MIN ≤ s.now then s.nvCkptCopyStart k else s

/-- CKPT_STALE (R354). -/
def State.doCkptStale (s : State) : State :=
  if s.svc.lastCommit + 2000000 * s.fld svccPage SVCC_CKPT_CFG_PERIOD_MS ≤ s.now then s.raise svccPage 9 else s

/-- CHECKPOINT_RESTORE_DONE: SRAM, and the marked pages into the same page numbers of the holder's window (R355). -/
def State.doCheckpointRestoreDone (s : State) : State :=
  match s.svc.restore, s.svc.lease.holder with
  | some i, some c =>
    let k := s.svc.slots.getD i Ckpt.empty
    let s := (s.onSvc fun v => { v with restore := none }).setFlag svccPage SVCC_CKPT_STATUS_BUSY false
    let kept := (s.cluster c).window.filter fun b => !k.pages.contains (b.1 / 4096)
    s.onCluster c fun x => { x with
      sram := k.sram, marks := k.pages
      window := k.window.foldl (fun (w : Mem) b => if s.stackIn (b.1 / 4096 % 8) then w.set b.1 b.2 else w) kept }
  | _, _ => s

/-- CLUSTER_WINDOW_ACCESS (R346, R347, R351, R353): 768 MB of window; page i lies on stack i mod 8. -/
def State.doClusterWindowAccess (s : State) (c addr : Nat) (st : Option Byte) : State :=
  if !s.drives c then s
  else
    let code := if st.isSome then 7 else 5
    if 0x30000000 ≤ addr then
      let (v, s) := s.fresh
      s.fwDenied c (v.toNat % 2 ^ 14) (v.toNat / 2 ^ 14 % 2 ^ 12) 4 code
    else if st.isSome && !s.isHolder c then ((s.count svccPage 0xB0)).emit (.coreFault c 7)
    else if !s.stackIn (addr / 4096 % 8) then (s.raise svccPage 15).emit (.coreFault c code)
    else
      let pg := addr / 4096
      let x := s.cluster c
      let s := s.perfHit (clusterIsland c) (if st.isSome then 0x05 else 0x04) 1 (some 1) none none (some pg)
      match st with
      | none => s.emit (.coreRead c (x.window.get addr).toNat)
      | some b =>
        let first := s.svc.ckptBusy.isSome && x.marks.contains pg && !x.touched.contains pg
        let s := s.onCluster c fun x => { x with window := x.window.set addr b }
        if first then
          let (v, s) := s.fresh
          (s.onCluster c fun x => { x with touched := insNat pg x.touched }).emit (.stall c (v.toNat % 1001))
        else s

/-! ### Role swaps (R357) -/

/-- SWAP_DUE: the holder has held the lease for PERIOD_H hours; a standby not at ROLE 3 defers the swap. -/
def State.doSwapDue (s : State) : State :=
  match s.svc.lease.holder, s.svc.swapFrom with
  | some c, some t =>
    let h := s.fld svccPage SVCC_SWAP_CFG_PERIOD_H
    if h = 0 || s.now < t + h * hourNs || s.svc.swapDueAt.isSome then s
    else if s.role (1 - c) ≠ 3 then s.onSvc fun v => { v with swapFrom := none }
    else (s.onSvc fun v => { v with swapDueAt := some s.now }).raise svccPage 10
  | _, _ => s

/-- SWAP_WINDOW_EXPIRE: the lease is revoked, the swap counted, and the former holder tests itself and loads again. -/
def State.doSwapWindowExpire (s : State) : State :=
  match s.svc.lease.holder, s.svc.swapDueAt with
  | some c, some t =>
    if s.now < t + 60 * nsPerSec * s.fld svccPage SVCC_SWAP_CFG_WINDOW_MIN then s
    else ((((s.leaseRevoke 3).setRole c 1).setCause c 0).raise svccPage 11).count svccPage 0xE0
  | _, _ => s

end Sys2Proof.Machine
end

