-- ==== Sys2Proof/Machine/Twin.lean ====
section
/-! DEFINITION. Twin mode (R358 to R362). -/

namespace Sys2Proof.Machine

/-! ### Shared ports (R358) -/

def State.sharedPorts (s : State) : List Nat :=
  (List.range 256).filter fun p => s.bitOf twinPage (TWIN_SHARED_MAP_SHARED.sh (4 * (p / 32))) (p % 32)

/-- Every used sub-port of a port that is to be parked enters PARKED. -/
def State.parkNow (s : State) (p : Nat) : State :=
  if s.parkWanted p && s.engineRuns (p / 8) then s.parkSubs p ((s.lportsOf p).filter fun lp => (s.pitch lp).state != 6) else s.darkDiscard p

/-- A port that twin mode no longer holds unparks and pitches, unless its PARK bit is 1. -/
def State.unparkShared (s : State) (p : Nat) : State :=
  if s.portFld p OENG_PORT_MODE_PARK = 1 then s else (s.unpark p).each (s.lportsOf p) fun s lp => s.kick lp

/-! ### Roles -/

def State.twinLeaseNs (s : State) : Nat := 1000000 * s.fld twinPage TWIN_TWIN_TIMING_LEASE_MS
def State.twinGuardNs (s : State) : Nat := 1000000 * s.fld twinPage TWIN_TWIN_TIMING_GUARD_MS
def State.twinMode (s : State) : Nat := s.fld twinPage TWIN_TWIN_CFG_MODE
def State.twinPrio (s : State) : Nat := s.fld twinPage TWIN_TWIN_CFG_PRIO
def State.leaseHeld (s : State) : Bool := s.svc.lease.holder.isSome

def State.setHoldOut (s : State) (b : Bool) : State :=
  if s.svc.twin.holdOut = b then s else (s.onTwin fun t => { t with holdOut := b }).emit (.pin "TWIN_HOLD_OUT" b)

/-- The role changes: leaving the active role parks the shared ports first, taking it unparks them (R358). -/
def State.setTwinRole (s : State) (r : Nat) : State :=
  let old := s.svc.twin.role
  if old = r then s
  else
    let s := s.onTwin fun t => { t with role := r, epoch := if r = 1 then (t.epoch + 1) % 65536 else t.epoch }
    let s := if old = 1 then s.each s.sharedPorts fun s p => s.parkNow p
      else if r = 1 then s.each s.sharedPorts fun s p => s.unparkShared p else s
    (s.count twinPage 0xB0).raise twinPage 0

/-- ROLE 3, listening for LEASE_MS + GUARD_MS (R360). -/
def State.twinListen (s : State) : State :=
  (s.setTwinRole 3).onTwin fun t => { t with listenEnd := s.now + s.twinLeaseNs + s.twinGuardNs, listens := 0, renewSeen := false }

def State.twinActive (s : State) : State :=
  (s.setTwinRole 1).onTwin fun t => { t with expiry := s.now + s.twinLeaseNs, releaseEnd := none, renewAt := none }

/-- The role ends: the shared ports are parked, then the end is signalled (R358, R361). -/
def State.twinGiveUp (s : State) (next : Nat) : State :=
  let s := if next = 3 then s.twinListen else s.setTwinRole next
  if s.twinMode = 2 then s.onTwin fun t => { t with holdReleaseAt := some (s.now + 1000000), holdSampleAt := none } else s

/-- The fatal path, a cold reset and the loss of VIN12 end the role; TWIN_HOLD_OUT is low at once (R362). -/
def State.twinStop (s : State) : State :=
  let s := if s.svc.twin.role = 1 then s.setTwinRole 3 else s
  (s.setHoldOut false).onTwin fun t => { t with holdReleaseAt := none, holdSampleAt := none, releaseEnd := none }

/-- The fatal state, the loss of VIN12 and bivouac mode hold the role down: no renew or grant leaves (R362, R424, R470). -/
def State.twinQuiet (s : State) : Bool := s.fatal || !s.sys.power.vin || s.sys.boot.bivouac

/-- Settings of the TWIN page have been applied: MODE, and SHARED_MAP while MODE is 0. -/
def State.twinSettle (s : State) : State :=
  let m := s.twinMode
  let s := if m = 2 then s else (s.setHoldOut false).onTwin fun t => { t with holdReleaseAt := none, holdSampleAt := none }
  let s := if m = 0 && s.svc.twin.role ≠ 0 then s.setTwinRole 0 else if m ≠ 0 && s.svc.twin.role = 0 then s.twinListen else s
  s.each (List.range 256) fun s p =>
    if s.sharedOff p then s.parkNow p
    else if (s.lportsOf p).any fun lp => (s.pitch lp).state == 6 then s.unparkShared p else s

/-! ### Frames (R359)

32 bytes: identity 0 to 7, type 8 (0 status, 1 renew, 2 grant, 3 release), role 9, PRIO 10, epoch 12 to 13, CRC-32C of SHARED_MAP 16 to
19, CRC-32C of bytes 0 to 27 at 28. The spec names the contents and not their places (DESIGN CHOICE, log 71). -/

def State.sharedCrc (s : State) : Nat :=
  (crc32c ((List.range 8).flatMap fun w => leBytes 4 (s.fld twinPage (TWIN_SHARED_MAP_SHARED.sh (4 * w))))).toNat

def State.twinFrame (s : State) (typ : Nat) : List Byte :=
  let t := s.svc.twin
  let b := leBytes 8 s.sys.nv.moduleId ++ leBytes 1 typ ++ leBytes 1 t.role ++ leBytes 1 s.twinPrio ++ zeros 1 ++ leBytes 2 t.epoch ++ zeros 2 ++
    leBytes 4 s.sharedCrc ++ zeros 8
  b ++ leBytes 4 (crc32c b).toNat

def twinGood (b : List Byte) : Bool := b.length == 32 && leAt b 28 4 == (crc32c (b.take 28)).toNat

/-- A renew reaches this module (R359, R360). -/
def State.twinRenewed (s : State) (peerId peerPrio : Nat) : State :=
  let grant := fun (s : State) =>
    (s.onTwin fun t => { t with record := s.now + s.twinLeaseNs, renewSeen := true }).emit (.twin (s.twinFrame 2))
  match s.svc.twin.role with
  | 1 =>
    let s := (s.count twinPage 0xB8).raise twinPage 2
    let yields : Bool := if s.twinPrio = peerPrio then decide (peerId < s.sys.nv.moduleId) else s.twinPrio == 0
    if yields then (s.setTwinRole 2).onTwin fun t => { t with record := s.now + s.twinLeaseNs } else s
  | 2 => grant s
  | 3 => grant (s.setTwinRole 2)
  | _ => s

/-- TWIN_FRAME_RECEIVE (R359, R360). -/
def State.doTwinFrameReceive (s : State) (b : List Byte) : State :=
  if s.twinMode ≠ 1 then s
  else if !twinGood b then s.count twinPage 0xA8
  else
    let id := leAt b 0 8
    let s := (s.count twinPage 0xA0).onTwin fun t => { t with linkUp := true, lastFrame := s.now, peerRole := byteAt b 9, peerId := id }
    let s := ((s.setFld twinPage TWIN_PEER_ID_LO_ID id).setFld twinPage TWIN_PEER_ID_HI_ID (id / 2 ^ 32)).lower twinPage 1
    let s := if leAt b 16 4 ≠ s.sharedCrc then s.raise twinPage 3 else s
    match byteAt b 8 with
    | 1 => if s.twinQuiet then s else s.twinRenewed id (byteAt b 10)
    | 2 => if s.svc.twin.role = 1 then s.onTwin fun t => { t with expiry := t.renewSentAt + s.twinLeaseNs } else s
    | 3 => if s.svc.twin.role = 1 then s else s.onTwin fun t => { t with releaseEnd := some (s.now + s.twinGuardNs) }
    | _ => s

/-- TWIN_STATUS_SEND: every 1 ms in native mode; in standby and in bivouac mode the groundsheet island sends status frames with ROLE 0,
and none in the fatal state (R359, R470). -/
def State.doTwinStatusSend (s : State) : State :=
  let due := onceIn 1000000 s.svc.twin.statusAt s.now
  let sent := s.onTwin fun t => { t with statusAt := some s.now }
  if s.fatal || !s.sys.power.vsb then s
  else if !s.sys.power.rails || s.sys.boot.bivouac then
    if due then sent.emit (.twin ((s.onTwin fun t => { t with role := 0 }).twinFrame 0)) else s
  else if s.twinMode = 1 && due then sent.emit (.twin (s.twinFrame 0)) else s

/-- TWIN_RENEW_SEND: every RENEW_MS while the module's own cluster holds the lease (R359). -/
def State.doTwinRenewSend (s : State) : State :=
  if s.twinMode = 1 && s.svc.twin.role = 1 && s.leaseHeld && !s.twinQuiet &&
      onceIn (1000000 * s.fld twinPage TWIN_TWIN_TIMING_RENEW_MS) s.svc.twin.renewAt s.now then
    (s.onTwin fun t => { t with renewSentAt := s.now, renewAt := some s.now }).emit (.twin (s.twinFrame 1))
  else s

/-- The own cluster has held the lease at some point within the last twin LEASE_MS (R361). -/
def State.leaseRecent (s : State) : Bool :=
  s.leaseHeld || (match s.svc.lease.lastEnd with | some t => decide (s.now ≤ t + s.twinLeaseNs) | none => false)

/-- TWIN_EXPIRY (R359, R361). -/
def State.doTwinExpiry (s : State) : State :=
  if s.svc.twin.role ≠ 1 then s
  else if s.twinMode = 2 then (if s.leaseRecent then s else s.twinGiveUp 3)
  else if s.now < s.svc.twin.expiry then s else s.twinGiveUp 3

/-- TWIN_STANDBY_TAKEOVER (R359). -/
def State.doTwinStandbyTakeover (s : State) : State :=
  if s.twinMode = 1 && s.svc.twin.role = 2 && decide (s.svc.twin.record + s.twinGuardNs ≤ s.now) && s.leaseHeld && !s.twinQuiet
  then s.twinActive else s

/-- TWIN_LINK_LOST: three status periods of 1 ms without a frame. -/
def State.doTwinLinkLost (s : State) : State :=
  if s.twinMode = 1 && s.svc.twin.linkUp && decide (s.svc.twin.lastFrame + 3000000 ≤ s.now) then
    (s.onTwin fun t => { t with linkUp := false }).raiseLive twinPage 1
  else s

/-- In forerunner mode the module may take the role: TWIN_HOLD_IN low for GUARD_MS without a break, and the lease held (R361). -/
def State.holdMay (s : State) : Bool :=
  s.leaseHeld && !s.svc.twin.holdIn && (match s.svc.twin.holdLowSince with | some t => decide (t + s.twinGuardNs ≤ s.now) | none => false)

/-- TWIN_LISTEN_END (R360, R361): with PRIO 0 the module listens twice. -/
def State.doTwinListenEnd (s : State) : State :=
  let t := s.svc.twin
  if t.role ≠ 3 || s.now < t.listenEnd || s.twinMode = 0 || t.holdOut || s.twinQuiet then s
  else if s.twinPrio = 0 && t.listens = 0 then
    s.onTwin fun t => { t with listens := 1, listenEnd := s.now + s.twinLeaseNs + s.twinGuardNs }
  else if s.twinMode = 1 then s.twinActive
  else if s.holdMay then (s.setHoldOut true).onTwin fun t => { t with holdSampleAt := some (s.now + 1000000), holdReleaseAt := none }
  else s

/-- TWIN_HAND_OVER (R360, R361). -/
def State.doTwinHandOver (s : State) : State :=
  if s.svc.twin.role ≠ 1 then s
  else if s.twinMode = 2 then s.twinGiveUp 3
  else
    let s := (s.twinGiveUp 2).onTwin fun t => { t with record := s.now + s.twinLeaseNs }
    s.emit (.twin (s.twinFrame 3))

/-- TWIN_RELEASE_GUARD_END (R360). -/
def State.doTwinReleaseGuardEnd (s : State) : State :=
  match s.svc.twin.releaseEnd with
  | some t => if s.now < t || s.twinQuiet then s else s.twinActive
  | none => s

/-- TWIN_HOLD_IN_CHANGE (R361): a module that keeps TWIN_HOLD_OUT high and waits takes the role when the pin falls. -/
def State.doTwinHoldInChange (s : State) (level : Bool) : State :=
  let t := s.svc.twin
  if t.holdIn = level then s
  else
    let s := s.onTwin fun t => { t with holdIn := level, holdLowSince := if level then none else some s.now }
    if s.twinMode = 2 && !level && t.holdOut && t.role = 3 && t.holdSampleAt.isNone && t.holdReleaseAt.isNone then s.twinActive else s

/-- TWIN_HOLD_SAMPLE (R361). -/
def State.doTwinHoldSample (s : State) : State :=
  match s.svc.twin.holdSampleAt with
  | none => s
  | some t =>
    if s.now < t then s
    else
      let s := s.onTwin fun t => { t with holdSampleAt := none }
      if !s.svc.twin.holdIn then s.twinActive else if s.twinPrio = 0 then (s.setHoldOut false).twinListen else s

/-- TWIN_HOLD_RELEASE (R361). -/
def State.doTwinHoldRelease (s : State) : State :=
  match s.svc.twin.holdReleaseAt with
  | none => s
  | some t => if s.now < t then s else (s.setHoldOut false).onTwin fun t => { t with holdReleaseAt := none }

end Sys2Proof.Machine
end

