-- ==== Sys2Proof/Machine/Inject.lean ====
section
/-! DEFINITION. Injection by firmware, laser ceilings, the pool manager, punts to the lease holder, and the message FIFOs (R365 to
R371). -/

namespace Sys2Proof.Machine

/-! ### The pool manager (R367 to R369) -/

def poolSize (p : Nat) : Nat := match p with | 0 => 256 | 1 => 1024 | 2 => 4096 | _ => 12288
/-- BAR2 offset of pool `p` (R380). -/
def poolBase (p : Nat) : Nat := match p with | 0 => 0 | 1 => 0x800000 | 2 => 0x1800000 | _ => 0x2800000
/-- BAR2 offset of the buffer a handle names. -/
def handleAt (h : Nat) : Nat := poolBase (hPool h) + hIdx h * poolSize (hPool h)
def mkHandle (pool idx gen : Nat) : Nat := pool + 4 * idx + 2 ^ 24 * (gen % 256)

/-- Lowest free index of a pool. Buffers stand in the map by rising number. -/
def State.lowestFree (s : State) (p : Nat) : Nat :=
  s.svc.bufs.foldl (fun n e => if e.1 / 32768 = p && e.2.holder.isSome && e.1 % 32768 = n then n + 1 else n) 0

/-- The smallest pool whose buffers hold `size` bytes (R367). -/
def poolFor (size : Nat) : Nat := if size ≤ 256 then 0 else if size ≤ 1024 then 1 else if size ≤ 4096 then 2 else 3

/-- An allocation by requester `r`: RESULT, and the handle where it is 0 (R367, R369). -/
def State.poolAlloc (s : State) (r size : Nat) : State × Nat × Nat :=
  if size = 0 || 12288 < size then (s, 3, 0)
  else
    let p := poolFor size
    let i := s.lowestFree p
    if poolCount p ≤ i then (s.count poolPage 0xA0, 1, 0)
    else if s.fld poolPage (POOL_QUOTA_QUOTA.sh (quotaF r p)) ≤ s.fld poolPage (POOL_QUOTA_HELD.sh (quotaF r p)) then (s.count poolPage 0xA8, 2, 0)
    else
      let b := s.buf (bufKey p i)
      let g := (b.gen + 1) % 256
      let s := s.setBuf (bufKey p i) { holder := some r, gen := g, transit := false }
      ((s.decFld poolPage (POOL_POOL_STATE_FREE.sh (4 * p)) 1).incFld poolPage (POOL_QUOTA_HELD.sh (quotaF r p)) 1, 0, mkHandle p i g)

/-- The result of a pool command in the requester's own registers (R376). -/
def State.pmAnswer (s : State) (fw : Option (Nat × Nat)) (req size res h : Nat) : State :=
  let w := BitVec.ofNat 32 (4 * req + 64 * size + 2 ^ 20 * res)
  match fw with
  | some (c, p) => (s.setClWord c p 0x180 w).setClWord c p 0x184 (BitVec.ofNat 32 h)
  | none =>
    ((s.wr (regA poolPage 0x100) w).wr (regA poolPage 0x104) (BitVec.ofNat 32 h)).setFlag poolPage POOL_POOL_CFG_REFUSED false

/-- Run a pool command: the host names a requester from 5 to 15, others are refused; a core pair is its own requester and needs the
lease (R351, R369, R376). -/
def State.pmCommand (s : State) (fw : Option (Nat × Nat)) (req : Nat) (run : State → Nat → State) : State :=
  match fw with
  | some (c, p) => s.clusterOut c poolPage 0x180 fun s => run s p
  | none => if req < 5 then s.setFlag poolPage POOL_POOL_CFG_REFUSED true else run s req

def State.doPmAllocate (s : State) (fw : Option (Nat × Nat)) (req size : Nat) : State :=
  s.pmCommand fw req fun s r =>
    let (s, res, h) := s.poolAlloc r size
    s.pmAnswer fw r size res h

def State.doPmFree (s : State) (fw : Option (Nat × Nat)) (req h : Nat) : State :=
  s.pmCommand fw req fun s r =>
    let (s, ok) := s.bufFree r h
    s.pmAnswer fw r 0 (if ok then 0 else 3) h

/-! ### Injection (R365) -/

/-- The 16 descriptor bytes that a write of INJ_DESC3 posts. -/
def State.injBytes (s : State) (c p : Nat) (w3 : Word) : List Byte :=
  ((List.range 3).flatMap fun w => leBytes 4 (s.clWord c p (0x120 + 4 * w)).toNat) ++ leBytes 4 w3.toNat

/-- Read an inject descriptor of a core pair. -/
def readInj (p : Nat) (b : List Byte) : InjDesc :=
  let h := leAt b 0 4
  let a := leAt b 4 2
  let l := leAt b 6 2
  let o := byteAt b 10
  { handle := h, size := a % 2 ^ 14, mode := a / 2 ^ 14, lport := l % 1024, cls := bitsOf l 10 3, colour := bitsOf o 2 2
    noLearn := o.testBit 0, throttled := false
    inj :=
      { tsReq := l.testBit 13, oneStep := l.testBit 14, packBypass := l.testBit 15, egress := a / 2 ^ 14 == 0, cookie := leAt b 8 2, stamp := 0
        free := if o.testBit 1 then some (p, h) else none } }

/-- The core pair holds the buffer of a handle. -/
def State.holds (s : State) (r h : Nat) : Bool :=
  let b := s.buf (bufKey (hPool h) (hIdx h))
  b.holder == some r && b.gen == hGen h && h / 2 ^ 17 % 128 == 0

def State.syncDepth (s : State) (c p : Nat) : State := s.setClWord c p 0x130 (BitVec.ofNat 32 (s.injQ (4 * c + p)).length)

/-- INJECT_POST: queued, refused with a store fault, or stalled by a full queue. -/
def State.doInjectPost (s : State) (c p : Nat) (w3 : Word) : State :=
  s.clusterOut c svccPage 0x12C fun s =>
    let s := s.setClWord c p 0x12C w3
    let d := readInj p (s.injBytes c p w3)
    let k := 4 * c + p
    if 2 ≤ d.mode || d.colour = 3 || !s.holds p d.handle || poolSize (hPool d.handle) < d.size || s.fld svccPage SVCC_INJ_LIMIT_PORT_RATE = 0 then
      (s.count svccPage 0xC8).emit (.coreFault c 7)
    else if 64 ≤ (s.injQ k).length then
      (s.onSvc fun v => { v with injStalled := mset none v.injStalled k (some d) }).emit (.stall c 0)
    else (s.setInjQ k (s.injQ k ++ [d])).syncDepth c p

/-- Credit a bucket up to `cap` bytes at `rate` Mbit/s since its last credit; it counts 1/4,096 byte. -/
def Bucket.credit (b : Bucket) (now rate cap : Nat) : Bucket :=
  let x := (now - b.last) * rate * 64 + b.res
  let t := b.tok + x / 125
  if (cap * 4096 : Int) ≤ t then { tok := cap * 4096, res := 0, last := now } else { tok := t, res := x % 125, last := now }
def Bucket.charge (b : Bucket) (n : Nat) : Bucket := { b with tok := b.tok - 4096 * n }

/-- The frame of a descriptor: the bytes before its FCS, and the FCS that the device writes. A frame of MODE 0 has no ingress logical
port: 0 stands for it (R179). -/
def State.injFrame (s : State) (d : InjDesc) (body : List Byte) : Frame :=
  let b := withFcs body
  { bytes := b, stamp := s.stamp, inLport := if d.mode = 0 then 0 else d.lport, cls := d.cls, colour := d.colour, sid := 0
    vid := if tagCount b = 0 then 0 else beAt b 14 2 % 4096, tags := tagCount b, mcast := false, group := 0, mirrorCopy := false, session := none
    injected := true, uncal := false, unlocked := !(s.island (sliceOf d.lport)).dtLock }

/-- What was asked for a frame waits for it at its egress logical port; without a copy on the way the request ends. -/
def State.injAwait (s : State) (m : InjMeta) (l : List Pend) : State :=
  match l with
  | [p] =>
    match p.dest with
    | .voq _ lp _ => if lp < 1024 then s.setInjSide (8 * lp + p.f.cls) (s.injSide (8 * lp + p.f.cls) ++ [m]) else s.injDone (some m)
    | _ => s.injDone (some m)
  | _ => s.injDone (some m)

/-- Send an injected frame: MODE 0 to the queue of LPORT and CLASS, MODE 1 through the ingress of LPORT after its MAC (R365). -/
def State.injectFrame (s : State) (d : InjDesc) (body : List Byte) : State :=
  let f := s.injFrame d body
  let sl := sliceOf d.lport
  let m := { d.inj with stamp := f.stamp }
  if d.mode = 0 then
    let (s, l) := s.pendTo sl f f.bytes.length (.lport d.lport)
    l.foldl (fun s p => s.enterPend sl p f.bytes) (s.injAwait m l)
  else
    let (s, r) := s.lookup d.lport 0
      { s.rxNew d.lport f.bytes with stamp := f.stamp, uncal := false, unlocked := f.unlocked, injected := true, wantsLearn := !d.noLearn }
    (s.injAwait m r.pending).rxGood d.lport 0 r

/-- A post that the full queue of a pair stalled enters it once there is room. -/
def State.injResume (s : State) (c p : Nat) : State :=
  let k := 4 * c + p
  match mget none s.svc.injStalled k with
  | none => s
  | some d => ((s.onSvc fun v => { v with injStalled := mset none v.injStalled k none }).setInjQ k (s.injQ k ++ [d])).syncDepth c p

/-- INJECT_SEND: the frame at the head of a pair's queue, once both buckets are positive. -/
def State.doInjectSend (s : State) (p : Nat) : State :=
  match s.svc.lease.holder with
  | none => s
  | some c =>
    let k := 4 * c + p
    match s.injQ k with
    | [] => s
    | d :: rest =>
      let port := physOf d.lport
      let pb := (s.portBucket port).credit s.now (s.fld svccPage SVCC_INJ_LIMIT_PORT_RATE) 65536
      let db := s.svc.devBucket.credit s.now (s.fld svccPage SVCC_INJ_LIMIT_DEV_RATE) 262144
      if 0 < pb.tok && 0 < db.tok then
        let s := (s.setPortBucket port (pb.charge (d.size + 20))).onSvc fun v => { v with devBucket := db.charge (d.size + 20) }
        (((s.setInjQ k rest).syncDepth c p).injResume c p).injectFrame d (Mem.read s.svc.poolMem (handleAt d.handle) (d.size - 4))
      else
        let s := (s.setPortBucket port pb).onSvc fun v => { v with devBucket := db }
        if d.throttled then s
        else ((s.setInjQ k ({ d with throttled := true } :: rest)).count svccPage 0xC0).raise svccPage 13

/-- LASER_REQ: a firmware power ceiling, 0.01 dBm in two's complement, for a lane or every lane of an engine (R366). -/
def State.doLaserReq (s : State) (c e l ceil : Nat) (all : Bool) : State :=
  s.clusterOut c svccPage 0x10C fun s =>
    s.each (if all then List.range 32 else [l]) fun s l => s.onLane e l fun x => { x with fwCeil := some ceil }

/-- The ceiling in force on a lane's target power, in 0.01 dBm: the smaller of the firmware's and LASER_CEIL (R366). -/
def State.laserCeil (s : State) (e l : Nat) : Int :=
  let host := signed 12 (s.fld svccPage SVCC_LASER_CEIL_CEIL)
  match (s.lane (laneKey e l)).fwCeil with
  | some x => min host (signed 12 x)
  | none => host

/-! ### Punts to the cluster and messages (R370, R371) -/

/-- PUNT_TO_CLUSTER: the next frame of a slice that waits for a ring routed to the lease holder. -/
def State.doPuntToCluster (s : State) (sl : Nat) : State :=
  match (List.range 16).find? fun r => s.puntRouted r && !(s.punts (puntKey sl r)).isEmpty with
  | none => s
  | some r =>
    match s.punts (puntKey sl r) with
    | [] => s
    | p :: rest =>
      let s := ((s.setPunts (puntKey sl r) rest).puntRelease sl p).retryAll
      let lost := fun (s : State) => (s.count svccPage 0xD0).raise svccPage 14
      if !s.leaseHeld || 1024 ≤ s.svc.puntQ.length then lost s
      else
        let (s, res, h) := s.poolAlloc 4 p.f.bytes.length
        if res ≠ 0 then lost s
        else s.onSvc fun v => { v with poolMem := v.poolMem.write (handleAt h) p.f.bytes, puntQ := v.puntQ ++ [h] }

/-- A core pair takes handle `h` from MB_TO_FW. -/
def State.mbTake (s : State) (c p h : Nat) : State := (s.setClWord c p 0x110 (BitVec.ofNat 32 h)).emit (.coreRead c h)

/-- MB_TO_FW_POST: a handle ends the oldest stalled read of an empty FIFO, and enters the FIFO otherwise (R371, R405). -/
def State.doMbToFwPost (s : State) (h : Nat) : State :=
  match s.svc.fwReaders with
  | (c, p) :: r => (refusedSvcc (s.onSvc fun v => { v with fwReaders := r }) false).mbTake c p h
  | [] => if 256 ≤ s.svc.toFw.length then refusedSvcc s true else refusedSvcc (s.onSvc fun v => { v with toFw := v.toFw ++ [h] }) false

/-- MB_TO_FW_READ: firmware takes a handle. On an empty FIFO the core of the lease holder stalls until one arrives or the lease ends; a
cluster without the lease has 0xFFFF_FFFF at once (R371, R405; DEDUCED, log 126). -/
def State.doMbToFwRead (s : State) (c p : Nat) : State :=
  if !s.drives c then s
  else
    match s.svc.toFw with
    | h :: r => (s.onSvc fun v => { v with toFw := r }).mbTake c p h
    | [] =>
      if s.isHolder c then
        (s.onSvc fun v => { v with fwReaders := if v.fwReaders.contains (c, p) then v.fwReaders else v.fwReaders ++ [(c, p)] }).emit (.stall c 0)
      else s.mbTake c p 0xFFFFFFFF

/-- MB_TO_HOST_POST: a full FIFO drops the newest handle, whose buffer is freed. -/
def State.doMbToHostPost (s : State) (c h : Nat) : State :=
  s.clusterOut c svccPage 0x114 fun s =>
    if 256 ≤ s.svc.toHost.length then
      let s := if (s.buf (bufKey (hPool h) (hIdx h))).gen = hGen h then s.bufRelease (hPool h) (hIdx h) else s
      s.onSvc fun v => { v with toHostGap := true }
    else s.onSvc fun v => { v with toHost := v.toHost ++ [h] }

/-- MB_TO_HOST_READ: the gap marker, a handle, or 0xFFFF_FFFF after 2 µs. -/
def State.doMbToHostRead (s : State) : State :=
  if s.svc.toHostGap then (s.onSvc fun v => { v with toHostGap := false }).emit (.completion 0xFFFFFFFE)
  else
    match s.svc.toHost with
    | h :: r => (s.onSvc fun v => { v with toHost := r }).emit (.completion (BitVec.ofNat 32 h))
    | [] => s.emit (.completion 0xFFFFFFFF)

end Sys2Proof.Machine
end

