-- ==== Sys2Proof/Machine/Rings.lean ====
section
/-! DEFINITION. The DMA rings, the notification FIFOs on their way to host memory, the event window, the counter harvest and the
performance counters (R89, R383, R395 to R408). -/

namespace Sys2Proof.Machine

/-! ### Ring registers (R396) -/

/-- The applied value of a register that acts at once; a write of it that waits in the shadow is spent. -/
def State.wrNow (s : State) (a : Nat) (v : Word) : State := { s.wr a v with shadow := merase s.shadow a }

def State.ringFld (s : State) (r : Nat) (f : Fld) : Nat := s.fld hostPage (ringF r f)
def State.setRingFld (s : State) (r : Nat) (f : Fld) (v : Nat) : State := s.setFld hostPage (ringF r f) v
def State.ringBase (s : State) (r : Nat) : Nat := s.ringFld r HOST_RING_BASE_LO_BASE + 2 ^ 32 * s.ringFld r HOST_RING_BASE_HI_BASE
/-- Entries of a descriptor ring, bytes of a record ring. -/
def ringSize (r log2 : Nat) : Nat := if r < 32 then 2 ^ log2 else 2 ^ (log2 + 16)
def ringMod (r : Nat) : Nat := if r < 32 then 2 ^ 16 else 2 ^ 32
def State.ringLen (s : State) (r : Nat) : Nat := ringSize r (s.ringFld r HOST_RING_CFG_LOG2)
def State.hostIdx (s : State) (r : Nat) : Nat := s.ringFld r HOST_HOST_IDX_INDEX % ringMod r
def State.devIdx (s : State) (r : Nat) : Nat := s.ringFld r HOST_DEV_IDX_INDEX % ringMod r
def State.ringRuns (s : State) (r : Nat) : Bool := s.ringFld r HOST_RING_CFG_EN == 1 && s.ringFld r HOST_RING_CFG_RUNNING == 1
/-- The device may issue DMA: link trained and Bus Master Enable set (R383). -/
def State.dmaOn (s : State) : Bool := s.host.linkUp && s.host.busMaster
/-- Descriptors between the host's index and the device's. -/
def State.posted (s : State) (r : Nat) : Nat := (s.hostIdx r + ringMod r - s.devIdx r) % ringMod r
/-- Bytes of a record ring that the host has consumed or never had. -/
def State.ringSpace (s : State) (r : Nat) : Nat := s.ringLen r - (s.devIdx r + ringMod r - s.hostIdx r) % ringMod r
def State.dmaWrite (s : State) (a : Nat) (b : List Byte) : State := s.onHost fun h => { h with mem := h.mem.write a b }

/-- Signal the ring's vector and begin to count anew (R401). -/
def State.ringSignal (s : State) (r : Nat) : State :=
  (s.setRing r { s.ring r with unsignalled := 0, firstAt := none }).signal (s.ringFld r HOST_RING_CFG_VECTOR)

/-- An entry is complete: DEV_IDX moves by `n`, is written back, and the coalescing counts it unless it is a pad (R396, R401). -/
def State.ringAdvance (s : State) (r n : Nat) (pad : Bool) : State :=
  let s := s.setRingFld r HOST_DEV_IDX_INDEX ((s.devIdx r + n) % ringMod r)
  let wb := s.ringFld r HOST_WB_LO_ADDR + 2 ^ 32 * s.ringFld r HOST_WB_HI_ADDR
  let s := if wb = 0 then s else s.dmaWrite wb (leBytes 8 (s.devIdx r))
  if pad then s
  else
    let x := s.ring r
    let s := s.setRing r { x with unsignalled := x.unsignalled + 1, firstAt := if x.firstAt.isNone then some s.now else x.firstAt }
    if s.ringFld r HOST_COAL_COUNT ≤ x.unsignalled + 1 then s.ringSignal r else s

/-- RING_ENABLE (R396): the ring starts empty at the host's index. -/
def State.doRingEnable (s : State) (r : Nat) : State :=
  if s.ringEn r then s
  else
    let a := regA hostPage (0x208 + 0x40 * r)
    let s := s.wrNow a (putBits (s.rdShadow a) 0 1 1)
    let s := ((s.setRingFld r HOST_RING_CFG_RUNNING 1).setRingFld r HOST_RING_CFG_DMA_ERR 0).setRingFld r HOST_DEV_IDX_INDEX (s.hostIdx r)
    s.setRing r dfltRing

/-- RING_DISABLE (R396, R398): the ring stops; the frames that wait for a punt ring are discarded. -/
def State.doRingDisable (s : State) (r : Nat) : State :=
  if !s.ringEn r then s
  else
    let a := regA hostPage (0x208 + 0x40 * r)
    let s := (s.wrNow a (putBits (s.rdShadow a) 0 1 0)).setRingFld r HOST_RING_CFG_RUNNING 0
    if r < 16 then s.puntClearRing r else s

/-- A HOST_IDX value that would put more than the ring's size between the indices is refused while the ring has EN or RUNNING (R396). -/
def State.hostIdxOk (s : State) (r v : Nat) : Bool :=
  if s.ringEn r || s.ringFld r HOST_RING_CFG_RUNNING == 1 then
    let m := ringMod r
    let d := if r < 32 then (v % m + m - s.devIdx r) % m else (s.devIdx r + m - v % m) % m
    d ≤ s.ringLen r
  else true

/-! ### Descriptor rings (R397 to R399) -/

/-- The punt ring of a pair has a frame waiting and a descriptor posted. -/
def State.puntWork (s : State) (r : Nat) : Bool :=
  s.ringRuns r && !s.puntRouted r && s.posted r != 0 && (List.range 8).any fun sl => !(s.punts (puntKey sl r)).isEmpty
def State.injWork (s : State) (r : Nat) : Bool := s.ringRuns (16 + r) && s.posted (16 + r) != 0
/-- Within a pair, the two rings take turns whenever both have work (R399). -/
def State.pairGo (s : State) (r : Nat) (inj : Bool) : Bool :=
  s.dmaOn && (if inj then s.injWork r else s.puntWork r) && (s.pairTurn r == inj || !(s.injWork r && s.puntWork r))

/-- WEIGHT of a ring pair: that of its punt ring (R399). -/
def State.pairWeight (s : State) (r : Nat) : Nat := s.ringFld r HOST_RING_CFG_WEIGHT
/-- A slot of 32 bytes for the ring pairs, by deficit round robin with quanta of WEIGHT × 32 bytes (R399): the pair that holds the turn
keeps it while it has work and bytes left of its quantum. -/
def State.pairSlot (s : State) : State :=
  let work := fun r => s.puntWork r || s.injWork r
  let give := fun (s : State) r left => s.onHost fun h => { h with
    drrPair := r, drrLeft := left, pairSlots := mset 0 h.pairSlots r (mget 0 h.pairSlots r + 1) }
  let cur := s.host.drrPair
  if work cur && 32 ≤ s.host.drrLeft then give s cur (s.host.drrLeft - 32)
  else match ((List.range 16).map fun k => (cur + 1 + k) % 16).find? work with
    | some r => give s r (32 * s.pairWeight r - 32)
    | none => s.onHost fun h => { h with drrLeft := 0 }

/-- LOOM_SLOT_AWARD (R328, R330, R399): a slot that the punt and inject rings win goes to one ring pair. -/
def State.doLoomSlotAward (s : State) (i : Nat) (requests : BitVec 8) : State :=
  let t := s.loomSlot i requests
  if i = 18 && (s.loomOf 18).used.getD 1 0 < (t.loomOf 18).used.getD 1 0 then t.pairSlot else t

/-- Host address of the descriptor at the device's index. -/
def State.descAt (s : State) (r : Nat) : Nat := s.ringBase r + 32 * (s.devIdx r % s.ringLen r)

/-- An inject descriptor of a host ring: bytes 8 to 14 are bytes 4 to 10 of R365. -/
def hostInj (desc : List Byte) : InjDesc := readInj 0 (zeros 4 ++ slice desc 8 7)

/-- INJECT_RING_FETCH (R397): a refused descriptor is skipped with STATUS 2, any other enters its frame. -/
def State.doInjectRingFetch (s : State) (r : Nat) (desc frame : List Byte) : State :=
  if !s.pairGo r true then s
  else
    let k := 16 + r
    let d := hostInj desc
    let bad : Bool := 2 ≤ d.mode || d.colour == 3 || d.inj.free.isSome || s.fld svccPage SVCC_INJ_LIMIT_PORT_RATE == 0
    let a := s.descAt k
    let s := s.setPairTurn r false
    let s := if bad then s.ringDrops k else s.injectFrame d ((frame ++ zeros (d.size - 4 - frame.length)).take (d.size - 4))
    (s.dmaWrite (a + 15) [if bad then 2 else 1]).ringAdvance k 1 false

/-- Bytes 10 to 31 of a punt descriptor (R398). -/
def State.puntDesc (s : State) (p : Punt) (len : Nat) (trunc refused : Bool) : List Byte :=
  let n := s.tsTb (physOf p.f.inLport)
  let t := (s.timeIn n (s.stampTime p.f.stamp)).toNat
  leBytes 2 (len + (if trunc then 2 ^ 14 else 0) + (if refused then 2 ^ 15 else 0)) ++ leBytes 2 (p.f.bytes.length % 2 ^ 14) ++
    leBytes 2 (p.f.inLport + 2 ^ 10 * p.f.cls + 2 ^ 13 * p.f.colour) ++ leBytes 1 p.reason ++
    leBytes 1 (n + (if p.f.uncal then 8 else 0) + (if p.f.unlocked then 16 else 0) + (if s.noLock n then 32 else 0)) ++
    leBytes 2 p.rule ++ leBytes 6 (t / 65536 / nsPerSec) ++ leBytes 4 (t / 65536 % nsPerSec) ++ leBytes 2 (t % 65536)

/-- PUNT_RING_DELIVER (R398): a waiting frame of the lowest slice takes the next posted descriptor, whose bytes 0 to 9 the host wrote. -/
def State.doPuntRingDeliver (s : State) (r : Nat) (desc : List Byte) : State :=
  if !s.pairGo r false then s
  else
    match (List.range 8).find? fun sl => !(s.punts (puntKey sl r)).isEmpty with
    | none => s
    | some sl =>
      match s.punts (puntKey sl r) with
      | [] => s
      | p :: rest =>
        let buf := leAt desc 0 8
        let n := leAt desc 8 2 % 2 ^ 14
        let refused : Bool := n < 64 || 12288 < n
        let size := p.f.bytes.length
        let len := if refused then 0 else min size n
        let a := s.descAt r
        let body := s.puntDesc p len (!refused && decide (n < size)) refused
        let s := (((s.setPairTurn r true).setPunts (puntKey sl r) rest).puntRelease sl p).retryAll
        let s := s.dmaWrite buf (p.f.bytes.take len)
        (s.dmaWrite (a + 10) body).ringAdvance r 1 false

/-- DMA_READ_ERROR (R402): the ring stops with its descriptor unread. -/
def State.doDmaReadError (s : State) (r : Nat) : State :=
  if r < 32 && s.ringRuns r then
    ((s.setRingFld r HOST_RING_CFG_DMA_ERR 1).setRingFld r HOST_RING_CFG_RUNNING 0).raise hostPage 2
  else s

/-! ### Record rings (R400, R401, R404) -/

def entryLen (body : List Byte) : Nat := 8 + ceilDiv body.length 8 * 8
/-- Bytes of the ring that entries of these lengths take from position `pos`, pads included. -/
def needAt (size : Nat) : Nat → List Nat → Nat
  | _, [] => 0
  | pos, n :: r => if size < pos + n then size - pos + n + needAt size (n % size) r else n + needAt size ((pos + n) % size) r
def State.ringFits (s : State) (r : Nat) (lens : List Nat) : Bool :=
  s.dmaOn && s.ringRuns r && needAt (s.ringLen r) (s.devIdx r % s.ringLen r) lens ≤ s.ringSpace r

/-- Write one entry at the device's index, with the ring's next SEQ. -/
def State.ringPut (s : State) (r typ : Nat) (body : List Byte) : State :=
  let x := s.ring r
  let s := s.dmaWrite (s.ringBase r + s.devIdx r % s.ringLen r) (ringEntry typ x.seq body)
  (s.setRing r { x with seq := (x.seq + 1) % 2 ^ 32 }).ringAdvance r (entryLen body) (typ == 0xFE)

/-- Write an entry, behind a pad when it would straddle the end of the ring. -/
def State.ringEntryPut (s : State) (r typ : Nat) (body : List Byte) : State :=
  let left := s.ringLen r - s.devIdx r % s.ringLen r
  let s := if left < entryLen body then s.ringPut r 0xFE (zeros (left - 8)) else s
  s.ringPut r typ body

/-- FIFO and entry type of a record ring (R400, R404). -/
def ringFifo (r : Nat) : Option (Nat × Nat) :=
  match r with | 32 => some (0, 1) | 34 => some (1, 4) | 35 => some (2, 5) | 33 => some (3, 3) | 36 => some (4, 6) | _ => none

/-- Entries that go ahead of the ring's next one: a gap of dropped harvests (R89). -/
def State.ringGap (s : State) (r : Nat) : List (List Byte) :=
  match (s.ring r).gap with | some (n, t) => [gapBody t n] | none => []
def State.ringGapPut (s : State) (r : Nat) : State :=
  match (s.ring r).gap with
  | some (n, t) => ((s.setRing r { s.ring r with gap := none }).ringEntryPut r 0xFF (gapBody t n)).ringDrops r (min n (2 ^ 32 - 1))
  | none => s

/-- RING_RECORD_WRITE: the FIFO's next item becomes an entry, and a gap marker ahead of it a gap entry, once the ring has room for both. -/
def State.doRingRecordWrite (s : State) (r : Nat) : State :=
  match ringFifo r with
  | none => s
  | some (f, typ) =>
    let gap := s.ringGap r
    match (s.fifo f).items with
    | (true, g) :: (m, b) :: rest =>
      if s.ringFits r ((gap ++ [g, b]).map entryLen) then
        let s := ((s.setFifo f { s.fifo f with items := rest }).syncFifo f).ringGapPut r
        let s := (s.ringEntryPut r 0xFF g).ringDrops r (leAt g 12 4)
        s.ringEntryPut r (if m then 0xFF else typ) b
      else s
    | (m, b) :: rest =>
      if s.ringFits r ((gap ++ [b]).map entryLen) then
        ((((s.setFifo f { s.fifo f with items := rest }).syncFifo f).ringGapPut r)).ringEntryPut r (if m then 0xFF else typ) b
      else s
    | [] => s

/-- RING_COAL_TIMER (R401). -/
def State.doRingCoalTimer (s : State) (r : Nat) : State :=
  match (s.ring r).firstAt with
  | some t => if t + 1000 * s.ringFld r HOST_COAL_TIME ≤ s.now then s.ringSignal r else s
  | none => s

def State.doNotifyFifoEnqueue (s : State) (f : Nat) (item : List Byte) : State := s.fifoPush f item

/-! ### The counter harvest (R89) -/

/-- The record of a physical port. -/
def State.harvestBody (s : State) (p : Nat) : List Byte :=
  let l := s.lportsOf p
  let n := l.length
  timeBytes s.time.dt ++ leBytes 2 p ++ leBytes 2 (32 + 640 * n + 48) ++ leBytes 1 (2 ^ n - 1) ++ zeros 13 ++
    ((List.range n).flatMap fun m => (List.range 80).flatMap fun i => leBytes 8 (s.ctr (portPage p) (0x200 + 0x280 * m + 8 * i))) ++
    ((List.range 6).flatMap fun i => leBytes 8 (s.ctr (oengPage (p / 8)) (0x200 + 0x40 * (p % 8) + 8 * i)))

/-- The half-range bits of the counters that a harvest record holds clear (R88). -/
def State.harvestClear (s : State) (p : Nat) : State :=
  let s := s.each (List.range (s.lportsOf p).length) fun s m =>
    s.each (List.range 3) fun s w => s.wr (regA (portPage p) (0x180 + 0x10 * m + 4 * w)) 0
  s.each (List.range 6) fun s n =>
    let b := 6 * (p % 8) + n
    s.setEvtBit (regA (oengPage (p / 8)) (0xA0 + b / 32 * 4)) (b % 32) false

/-- COUNTER_HARVEST: once in each PERIOD the port's record goes to ring 33, or is dropped whole and becomes a gap (R89, R404). -/
def State.doCounterHarvest (s : State) (p : Nat) : State :=
  if !(s.flag hostPage HOST_HARVEST_CFG_EN && s.ringRuns 33)
      || !onceIn (1000000 * s.fld hostPage HOST_HARVEST_CFG_PERIOD) (mget none s.host.harvestAt p) s.now then s
  else
    let s := s.onHost fun h => { h with harvestAt := mset none h.harvestAt p (some s.now) }
    let b := s.harvestBody p
    if s.ringFits 33 ((s.ringGap 33 ++ [b]).map entryLen) then ((s.ringGapPut 33).ringEntryPut 33 2 b).harvestClear p
    else
      let x := s.ring 33
      match x.gap with
      | some (n, t) => s.setRing 33 { x with gap := some (n + 1, t) }
      | none => (s.setRing 33 { x with gap := some (1, s.time.dt) }).raise hostPage 3

/-! ### The event window (R405) -/

/-- EVT_WIN_STATUS and the eight window words after a read. -/
def State.winAnswer (s : State) (st : Nat) (b : List Byte) : State :=
  let s := s.setFld hostPage HOST_EVT_WIN_STATUS_STATUS st
  let s := s.each (List.range 8) fun s w => s.wr (regA hostPage (0x104 + 4 * w)) (BitVec.ofNat 32 (leAt b (4 * w) 4))
  (s.onHost fun h => { h with winWait := none }).emit (.completion (BitVec.ofNat 32 st))

/-- Pop the oldest item of FIFO 0, if there is one. -/
def State.winPop (s : State) : Option State :=
  match (s.fifo 0).items with
  | (m, b) :: rest => some (((s.setFifo 0 { s.fifo 0 with items := rest }).syncFifo 0).winAnswer (if m then 3 else 1) b)
  | [] => none

/-- While ring 32 is enabled a read pops nothing and answers EMPTY; the words keep their contents. -/
def State.winClosed (s : State) : State :=
  ((s.setFld hostPage HOST_EVT_WIN_STATUS_STATUS 4).onHost fun h => { h with winWait := none }).emit (.completion 4)

def State.doEvtWinRead (s : State) : State :=
  if s.ringEn 32 then s.winClosed
  else match s.winPop with
    | some s => s
    | none => s.onHost fun h => { h with winWait := some s.now }

def State.doEvtWinReadReturn (s : State) : State :=
  match s.host.winWait with
  | none => s
  | some t =>
    if s.ringEn 32 then s.winClosed else
    match s.winPop with
    | some s => s
    | none => if t + 2000 ≤ s.now then (s.winAnswer 4 []).count hostPage 0xC8 else s

/-! ### Performance counters (R406, R408) -/

/-- Cycles of an island's clock since the model's clock began. -/
def State.islandCycles (s : State) (i : Nat) : Nat :=
  if i < 9 then s.now * 8 / 5 else if i < 17 then s.now else if i < 49 then s.now / 2 else if i < 51 then s.now * 2
  else if i < 53 then s.now else s.now / 5
/-- The island's cycle counter. -/
def State.cycleCtr (s : State) (i : Nat) : Nat :=
  if s.frozen i then s.ctr (perfPage i) 0x90 else (s.islandCycles i + 2 ^ 64 - mget 0 s.host.perfBase i) % 2 ^ 64
def State.setPerfBase (s : State) (i n : Nat) : State := s.onHost fun h => { h with perfBase := mset 0 h.perfBase i (n % 2 ^ 64) }

/-- A command of PERF_CTL is an accepted write. -/
def State.perfAccept (s : State) (i : Nat) : State := s.setFlag (perfPage i) PERF_PERF_CFG_REFUSED false

def State.doPerfFreeze (s : State) (i : Nat) : State :=
  let s := s.perfAccept i
  if s.frozen i then s
  else ((s.setCtr (perfPage i) 0x90 (s.cycleCtr i)).setFrozen i true).setFlag (perfPage i) PERF_PERF_STATUS_FROZEN true

def State.doPerfRelease (s : State) (i : Nat) : State :=
  let s := s.perfAccept i
  if !s.frozen i then s
  else
    ((s.setPerfBase i (s.islandCycles i + 2 ^ 64 - s.ctr (perfPage i) 0x90)).setFrozen i false).setFlag (perfPage i) PERF_PERF_STATUS_FROZEN false

def State.doPerfZero (s : State) (i : Nat) : State :=
  let s := s.perfAccept i
  let s := (s.setPerfBase i (s.islandCycles i)).setCtr (perfPage i) 0x90 0
  s.each (List.range 8) fun s k => s.setCtr (perfPage i) (0x110 + 0x20 * k) 0

/-- PERF_DUMP: one item of FIFO 4, once for every multiple of PERIOD counted from the DT second (R408). -/
def State.doPerfDump (s : State) (i : Nat) : State :=
  let k := (s.dtSec, s.dtSub / (1000 * s.fld (perfPage i) PERF_PERF_CFG_PERIOD))
  if !s.flag (perfPage i) PERF_PERF_CFG_DUMP_EN || s.islandDark i || mget none s.host.dumpAt i == some k then s
  else
    let s := s.onHost fun h => { h with dumpAt := mset none h.dumpAt i (some k) }
    s.fifoPush 4 (timeBytes s.time.dt ++ leBytes 1 i ++
      leBytes 1 ((if (s.island i).dtLock then 0 else 1) + (if s.frozen i then 2 else 0)) ++ leBytes 8 (s.cycleCtr i) ++
      (List.range 8).flatMap fun k => leBytes 8 (s.ctr (perfPage i) (0x110 + 0x20 * k)))

end Sys2Proof.Machine
end

