-- ==== Sys2Proof/Machine/HostIf.lean ====
section
/-! DEFINITION. The PCI Express endpoint: bus errors, dark pages, BAR2, MSI-X and the resets of the link; reads of registers and what
a read changes; the common header's event registers; the test and debug ports (R379 to R383, R386, R390 to R394, R409, R410). -/

namespace Sys2Proof.Machine

/-! ### Who accesses (R406) -/

def whoPriv (w : Who) : Nat := match w with | .host => 0 | .fw _ _ => 1 | .debug => 2
def whoMaster (w : Who) : Nat := match w with | .host => 1 | .debug => 2 | .fw c p => 3 + 4 * c.val + p.val
/-- A register access counts in island 52: event 1 a read, 2 a write, 3 a write refused or denied. -/
def State.accessHit (s : State) (w : Who) (ev page : Nat) : State := s.perfHit 52 ev 1 (some (whoPriv w)) (some (whoMaster w)) none (some page)

/-! ### Bus errors and dark pages (R381, R382) -/

/-- Why an access to a page and offset is a bus error: 1 reserved page, 3 not on a DWORD, 2 reserved offset; 0 for none. -/
def accessError (page off : Nat) : Nat :=
  match pageOf page with
  | none => 1
  | some (t, _) =>
    if off % 4 ≠ 0 then 3
    else match t with
      | .msixTable => 0
      | .msixPba => if off < 32 then 0 else 2
      | _ => if (rowOf t off).isSome then 0 else 2

/-- Record a bus error; a read completes with Completer Abort. -/
def State.busError (s : State) (page off cause : Nat) (write : Bool) : State :=
  let s := (s.setFld hostPage HOST_BUS_ERR_CAPTURE_PAGE page).setFld hostPage HOST_BUS_ERR_CAPTURE_OFFSET off
  let s := (s.setFlag hostPage HOST_BUS_ERR_CAPTURE_WRITE write).setFld hostPage HOST_BUS_ERR_CAPTURE_CAUSE cause
  let s := ((s.setFlag hostPage HOST_BUS_ERR_CAPTURE_VALID true).count hostPage (if write then 0xA8 else 0xA0)).raise hostPage 0
  if write then s else s.emit .abort

def isWrite (a : Access) : Bool := match a with | .read => false | .write _ => true

/-- BUS_ERROR_ACCESS: a BAR2 access outside the pools (page 0x3FFF), an access of another size, or one to a reserved page or offset. -/
def State.doBusErrorAccess (s : State) (page off : Nat) (bar2 badSize : Bool) (a : Access) : State :=
  if bar2 then s.busError 0x3FFF off 4 (isWrite a)
  else
    let c := if badSize then 3 else accessError page off
    if c = 0 then s else s.busError page off c (isWrite a)

def State.pageDark (s : State) (page : Nat) : Bool := s.islandDark (s.islandOf page)

/-- The offsets of a dark page that read and write normally, since the fault collector holds them. -/
def hdrHeld (off : Nat) : Bool := 0x10 ≤ off && off < 0x50

/-! ### Reads -/

/-- A cycle counter is computed; every other counter is stored. -/
def State.ctrValue (s : State) (page off : Nat) : Nat :=
  match pageOf page with
  | some (.perf, i) => if off = 0x90 then s.cycleCtr i else s.ctr page off
  | _ => s.ctr page off

/-- The registers that carry AGE: the slow-domain copies (R393). -/
def ageAt (t : PageTy) (off : Nat) : Bool :=
  match t with
  | .devc => 0x100 ≤ off && off < 0x1D8
  | .oeng => off == 0x80 || (0x100 ≤ off && off < 0x200 && off % 0x20 == 0xC) || (0xC00 ≤ off && off < 0xE00)
  | .deepT => 0x100 ≤ off && off < 0x120
  | .svcc => off == 0x88
  | .twin => off == 0x88
  | .fltc => off == 0x9C
  | .nvst => off == 0x84 || off == 0xB4
  | _ => false

/-- Whole microseconds since the slow-domain copies were taken, saturating at 15 (R393). -/
def State.copyAge (s : State) : Nat := min 15 ((s.now - s.sys.slowAt) / 1000)

/-- What a read of a register returns: the shadow in the writable bits (R388), a counter's low word or its latched high word (R87,
R110), the complement of a guarded register (R389), the occupancy VOQ_SEL selects, the MSI-X table and PBA. -/
def State.readReg (s : State) (page off : Nat) : Word :=
  let a := regA page off
  match pageOf page with
  | none => 0
  | some (.msixTable, _) =>
    let e := s.msixE (off / 16)
    match off % 16 / 4 with
    | 0 => BitVec.ofNat 32 e.addr
    | 1 => BitVec.ofNat 32 (e.addr / 2 ^ 32)
    | 2 => e.data
    | _ => if e.masked then 1 else 0
  | some (.msixPba, _) => BitVec.ofNat 32 ((List.range 32).foldl (fun n b => if s.host.pba.contains (off * 8 + b) then n + 2 ^ b else n) 0)
  | some (t, i) =>
    match rowOf t off with
    | none => 0
    | some r =>
      if off = 0xC then
        putBits (s.rd a) 31 1 (if s.shadow.any fun e => e.1 / 4096 = page then 1 else 0)
      else if ageAt t off then putBits ((s.rdShadow a &&& BitVec.ofNat 32 r.wm) ||| (s.rd a &&& ~~~ BitVec.ofNat 32 r.wm)) 28 4 s.copyAge
      else if t = .svcc && 0x100 ≤ off && off < 0x134 then 0
      else if t = .xbarS && off = 0x94 then BitVec.ofNat 32 (s.voq (voqKey i (s.fld page XBAR_VOQ_SEL_INDEX))).cells
      else match r.kind with
        | .ctr => BitVec.ofNat 32 (s.ctrValue page off)
        | .ctrHi => mget 0 s.latch a
        | .wg => if 0xF00 ≤ off then ~~~ s.rdShadow (regA page (off - 0x100)) else s.rdShadow a
        | .cfg => (s.rdShadow a &&& BitVec.ofNat 32 r.wm) ||| (s.rd a &&& ~~~ BitVec.ofNat 32 r.wm)
        | _ => s.rd a

/-- The half-range bit that a read of a counter's low word clears (R88). -/
def State.readHalf (s : State) (page off : Nat) : State :=
  match pageOf page with
  | some (.port, _) =>
    let m := (off - 0x200) / 0x280
    let i := (off - 0x200) % 0x280 / 8
    s.setEvtBit (regA page (0x180 + 0x10 * m + i / 32 * 4)) (i % 32) false
  | some (.oeng, _) =>
    let b := 6 * ((off - 0x200) / 0x40) + (off - 0x200) % 0x40 / 8
    s.setEvtBit (regA page (0xA0 + b / 32 * 4)) (b % 32) false
  | _ => s

/-- A read of a counter's low word latches its high word (R87, R110). -/
def State.latchCtr (s : State) (page off : Nat) : State :=
  ({ s with latch := mset (α := Word) 0 s.latch (regA page (off + 4)) (BitVec.ofNat 32 (s.ctrValue page off / 2 ^ 32)) }).readHalf page off

def isCtr (page off : Nat) : Bool :=
  match pageOf page with
  | some (t, _) => match rowOf t off with | some r => r.kind == .ctr | none => false
  | none => false

/-- A field counted since the last read starts anew (R340): the two PEAK fields of a store at what it holds now, the others at 0. -/
def State.restartPeak (s : State) (page off : Nat) : State :=
  match pageOf page with
  | some (.tbls, _) => if off = 0x98 then s.setFld page TBLS_SEQ_STATUS_PEAK (s.fld page TBLS_SEQ_STATUS_DEPTH) else s
  | some (.xbarS, _) => if off = 0x88 then s.setFld page XBAR_RESEQ_STATUS_PEAK (s.fld page XBAR_RESEQ_STATUS_HELD) else s
  | some (.fabrS, _) => if off = 0x88 then s.setFld page FABR_RESEQ_STATUS_PEAK (s.fld page FABR_RESEQ_STATUS_HELD) else s
  | some (.loom, _) =>
    if 0x104 ≤ off && off < 0x180 && off % 16 = 4 then s.setFld page (actF ((off - 0x104) / 16) LOOM_ACT_STAT_PEAK_WAIT) 0 else s
  | some (.time, _) =>
    if 0x20C ≤ off && off < 0x400 && (off - 0x20C) % 0x80 = 0 then s.setFld page (tbF ((off - 0x20C) / 0x80) TIME_TB_STATUS_DISCARDED) 0 else s
  | _ => s

/-- What a read changes besides what it returns, for the registers whose read acts. -/
def State.readEffect (s : State) (page off : Nat) : State :=
  let s := if isCtr page off then s.latchCtr page off else s.restartPeak page off
  match pageOf page with
  | some (.time, _) =>
    if off = 0x90 then s.doDtLatchRead
    else if 0x214 ≤ off && off < 0x400 && (off - 0x214) % 0x80 = 0 then s.doTbLatchRead ((off - 0x214) / 0x80)
    else if off = 0x118 then s.doTodRxRead
    else s
  | _ => s

/-- A register read that answers: the value on the bus, then the read's effect. Registers whose value the read itself makes are read
after it. -/
def State.readWith (s : State) (page off : Nat) : State × Word :=
  let made : Bool := page == timePage && (off == 0x90 || off == 0x118 || (0x214 ≤ off && off < 0x400 && (off - 0x214) % 0x80 == 0))
  let t := s.readEffect page off
  (t, if made then t.readReg page off else s.readReg page off)

/-- A read of a dark page (R382). -/
def State.darkRead (s : State) (page off : Nat) : State :=
  if hdrHeld off || off = 0 || off = 4 then s.emit (.completion (s.readReg page off)) else (s.count hostPage 0xC0).emit (.completion 0)

/-- A host read of a register that is neither reserved nor dark. -/
def State.hostRead (s : State) (w : Who) (page off : Nat) : State :=
  let (s, v) := (s.accessHit w 1 page).readWith page off
  s.emit (.completion v)

/-- A read by host or debug port, wherever it falls. A read of MB_TO_HOST takes a message (R371, log 92). -/
def State.anyRead (s : State) (w : Who) (page off : Nat) : State :=
  if accessError page off ≠ 0 then s.busError page off (accessError page off) false
  else if s.pageDark page then (s.accessHit w 1 page).darkRead page off
  else if page = hostPage && off = 0x100 then (s.accessHit w 1 page).doEvtWinRead
  else if page = svccPage && off = 0x114 then (s.accessHit w 1 page).doMbToHostRead
  else s.hostRead w page off

/-- COUNTER_LOW_READ. -/
def State.doCounterLowRead (s : State) (page off : Nat) : State := if isCtr page off then s.anyRead .host page off else s
/-- PEAK_FIELD_READ. -/
def State.doPeakFieldRead (s : State) (page off : Nat) : State := s.anyRead .host page off

/-! ### The header's event registers (R386, R391, R392) -/

/-- EVT_CLEAR: a sticky bit clears when the sequence number is the source's present one. -/
def State.doEvtClear (s : State) (page src seq : Nat) : State :=
  match pageOf page with
  | none => s
  | some _ =>
    if s.evtSeq page src = seq then (s.setEvtBit (evtStickyA page) src false).setFlag page HDR_LAST_OK true
    else s.setFlag page HDR_LAST_OK false

/-- The table of R423 gives the source a contain target, whether or not it exists at this moment (R420). -/
def hasTarget (pg src : Nat) : Bool :=
  match pageOf pg with
  | none => false
  | some (t, i) =>
    match t with
    | .port | .oeng | .slce | .clsf | .metr | .schd | .pack | .xbarS | .deepS | .fabrS | .flxeG | .xbarM | .time => true
    | .deepT => 1 ≤ src && src ≤ 8
    | .loom => i < 18
    | .svcc => 2 ≤ src && src ≤ 5
    | .devc => src < 2
    | _ => false

/-- A severity word may be written (R420): no source of the page gets severity 2 without a contain target, and the fixed severities of
THERM_TRIP and POWER_FAIL (FLTC 4 and 5) stay at 3. -/
def sevWordOk (page off : Nat) (v : Word) : Bool :=
  let lo := if off = 0x48 then 0 else 16
  let src := match pageOf page with | some (t, _) => t.sources | none => 0
  (List.range 16).all fun b =>
    let n := getBits v (2 * b) 2
    !(src.testBit (lo + b)) || ((n != 2 || hasTarget page (lo + b)) && (page != fltcPage || !(lo + b == 4 || lo + b == 5) || n == 3))

/-- A write to offset 0x010 to 0x04C. -/
def State.hdrWrite (s : State) (page off : Nat) (v : Word) : State :=
  match pageOf page with
  | none => s
  | some (t, _) =>
    if off = 0x40 then s.doEvtClear page (getBits v 0 5) (getBits v 8 8)
    else if off = 0x44 || off = 0x48 || off = 0x4C then
      match rowOf t off with
      | some r =>
        let v := v &&& BitVec.ofNat 32 r.wm
        if off = 0x44 then s.wr (regA page off) v
        else if sevWordOk page off v then (s.wr (regA page off) v).setFlag fltcPage FLTC_FLTC_CFG_SEV_REFUSED false
        else s.setFlag fltcPage FLTC_FLTC_CFG_SEV_REFUSED true
      | none => s
    else s

/-- Reserved bits written as 1 are counted (R11). -/
def State.countReserved (s : State) (page off : Nat) (v : Word) : State :=
  match pageOf page with
  | some (t, _) => match rowOf t off with
    | some r => if off < 0xF00 && (v &&& ~~~ BitVec.ofNat 32 r.im) != 0 then s.count hostPage 0xB0 else s
    | none => s
  | none => s

/-- DARK_PAGE_ACCESS. -/
def State.doDarkPageAccess (s : State) (page off : Nat) (a : Access) : State :=
  if accessError page off ≠ 0 then s.busError page off (accessError page off) (isWrite a)
  else if !s.pageDark page then s
  else match a with
    | .read => (s.accessHit .host 1 page).darkRead page off
    | .write v =>
      let s := s.accessHit .host 2 page
      if hdrHeld off then (s.countReserved page off v).hdrWrite page off v else s.count hostPage 0xC0

/-! ### BAR2 (R380) -/

/-- The pool that a range of BAR2 lies in whole. -/
def bar2Pool (a n : Nat) : Option Nat :=
  (List.range 4).find? fun p => poolBase p ≤ a && a + n ≤ poolBase p + poolCount p * poolSize p

def State.doBar2Write (s : State) (a : Nat) (b : List Byte) : State :=
  match bar2Pool a b.length with
  | some _ => (s.perfHit 52 0x05 (ceilDiv b.length 32) (some 0) (some 1) none none).onSvc fun v => { v with poolMem := v.poolMem.write a b }
  | none => s.busError 0x3FFF (a % 4096) 4 true

/-! ### The debug port (R409, R410) -/

/-- A debug session closes. -/
def State.debugClose (s : State) : State :=
  let s := s.onHost fun h => { h with debugOpen := false, rights := 0, nonce := none }
  (s.setFlag hostPage HOST_HOST_STATUS_DEBUG_OPEN false).lower hostPage 4

def State.debugAllowed (s : State) : Bool := s.flag hostPage HOST_DEBUG_CTL_DEBUG_ALLOW
/-- The module identity as the debug port states it. -/
def State.identity (s : State) : List Byte := leBytes 8 s.sys.nv.moduleId

/-- DBG_CHALLENGE: a nonce from the random source, and the module identity. -/
def State.doDbgChallenge (s : State) : State :=
  if !s.debugAllowed then s
  else
    let (n, s) := s.freshBytes 32
    (s.onHost fun h => { h with nonce := some n }).emit (.tap (n ++ s.identity))

/-- DBG_RESPONSE: the signature over nonce, identity and rights is verified with the debug key. -/
def State.doDbgResponse (s : State) (rights : Nat) (key sig : List Byte) : State :=
  match s.host.nonce with
  | none => s
  | some n =>
    let locked : Bool := match s.host.lockout with | some t => decide (s.now < t) | none => false
    if !s.debugAllowed || locked || s.host.debugOpen then s
    else
      let msg := n ++ s.identity ++ leBytes 1 rights
      let ok : Bool := s.sys.nv.calGood && (Config.sha384 key == s.sys.nv.debugKeyDigest) && Config.ecdsaVerify key msg sig
      if ok then
        let s := s.onHost fun h => { h with nonce := none, debugOpen := true, rights := rights, debugLast := s.now }
        (((s.setFlag hostPage HOST_HOST_STATUS_DEBUG_OPEN true).count hostPage 0xD8)).raiseLive hostPage 4
      else (s.onHost fun h => { h with nonce := none, lockout := some (s.now + nsPerSec) }).count hostPage 0xD0

def State.doDbgClose (s : State) : State := if s.host.debugOpen then s.debugClose else s
/-- 600 s without a DBG_ACCESS have passed. -/
def State.debugIdle (s : State) : Bool := s.host.debugOpen && decide (s.host.debugLast + 600 * nsPerSec ≤ s.now)
def State.doDebugIdleTimeout (s : State) : State := if s.debugIdle then s.debugClose else s
def State.doDebugLockoutEnd (s : State) : State :=
  match s.host.lockout with
  | some t => if t ≤ s.now then s.onHost fun h => { h with lockout := none } else s
  | none => s
/-- DEBUG_ALLOW_WRITE: the guarded write of DEBUG_CTL has passed its guard. -/
def State.doDebugAllowWrite (s : State) (v : Word) : State :=
  let s := s.wrNow (regA hostPage 0xE00) (v &&& 1)
  if v.getLsbD 0 then s else s.doDbgClose

/-- TAP_RESET: the controller selects IDCODE again (IEEE Std 1149.1). -/
def State.doTapReset (s : State) : State := s.doDbgClose.onHost fun h => { h with tap := .idcode }

/-- BOUNDARY_SCAN_INSTRUCTION (R409): the instruction in force and the boundary-scan cells; SAMPLE captures the lands, PRELOAD and
EXTEST load the cells. The controller needs VSB33, EXTEST needs VIN12. -/
def State.doBoundaryScan (s : State) (i : TapInstr) (cells : List Bool) : State :=
  if !s.sys.power.vsb || (i == .extest && !s.sys.power.vin) then s
  else
    let s := s.onHost fun h => { h with tap := i, cells := match i with | .sample | .preload | .extest => cells | _ => h.cells }
    match i with
    | .idcode => s.emit (.tap (leBytes 4 0x22048E41))
    | _ => s

/-! ### Resets and states of the link (R383, R394, R472) -/

/-- A register of the HOST page that R383 keeps: a counter or a capture register. -/
def hostKept (off : Nat) : Bool := off < 0x80 || off == 0x88 || off == 0x8C

/-- Registers, rings, MSI-X table and window of the HOST page return to reset; `keep` tells which registers stay. Counters stand apart. -/
def State.hostReset (s : State) (keep : Nat → Bool) : State :=
  let s := s.each (List.range 16) fun s r => if s.ringEn r then s.puntClearRing r else s
  let s := s.debugClose
  let s := { s with
    regs := s.regs.filter fun e => decide (e.1 / 4096 ≠ hostPage) || keep (e.1 % 4096)
    shadow := s.shadow.filter fun e => decide (e.1 / 4096 ≠ hostPage) }
  let s := ((s.setFlag hostPage HDR_HOLD false).setFld hostPage HDR_HELD 0).setFlag hostPage HDR_OVERFLOW false
  let s := (s.setHeld hostPage []).setGuard hostPage none
  let s := s.onHost fun h => { h with
    linkUp := false, busMaster := false, msixEnable := false, msix := [], rings := [], winWait := none, pairTurn := [] }
  s.each (List.range 5) fun s f => s.syncFifo f

/-- PCIE_RESET. -/
def State.doPcieReset (s : State) (k : PcieResetKind) : State :=
  let s := s.hostReset hostKept
  match k with
  | .perstN => s.onHost fun h => { h with perstLow := true }
  | _ => s

def State.doPerstNRelease (s : State) : State := s.onHost fun h => { h with perstLow := false }

/-- PCIE_LINK_UP: the link trains with a width of 1, 2, 4 or 8 lanes and a speed of 1 to 5 while the HI island runs. -/
def State.doPcieLinkUp (s : State) (width speed : Nat) : State :=
  if s.host.perstLow || s.islandDark 52 || !(width = 1 || width = 2 || width = 4 || width = 8) || speed = 0 || 5 < speed then s
  else
    let s := s.onHost fun h => { h with linkUp := true }
    ((s.setFld hostPage HOST_HOST_STATUS_WIDTH width).setFld hostPage HOST_HOST_STATUS_SPEED speed).flushPba

def State.doBusMasterEnable (s : State) : State :=
  if !s.host.linkUp then s
  else ((s.onHost fun h => { h with busMaster := true }).setFlag hostPage HOST_HOST_STATUS_BUS_MASTER true).flushPba

def State.doMsixEnableSet (s : State) : State :=
  if !s.host.linkUp then s else (s.onHost fun h => { h with msixEnable := true }).flushPba

def State.doMsixVectorUnmask (s : State) (v : Nat) : State := (s.setMsixE v { s.msixE v with masked := false }).flushPba

/-- A write to the MSI-X table. -/
def State.msixWrite (s : State) (off : Nat) (v : Word) : State :=
  let k := off / 16
  let e := s.msixE k
  match off % 16 / 4 with
  | 0 => s.setMsixE k { e with addr := e.addr / 2 ^ 32 * 2 ^ 32 + v.toNat }
  | 1 => s.setMsixE k { e with addr := e.addr % 2 ^ 32 + v.toNat * 2 ^ 32 }
  | 2 => s.setMsixE k { e with data := v }
  | _ => (s.setMsixE k { e with masked := v.getLsbD 0 }).flushPba

end Sys2Proof.Machine
end

