-- ==== Sys2Proof/Machine/Fault.lean ====
section
/-! DEFINITION. Fault collection and block resets (chapter 15): contain and fatal actions, isolation, guy windows, the reset of each
kind of block, rail breaks and temperature. -/

namespace Sys2Proof.Machine

/-! ### Alerts of the board-management interface (R476, R477) -/

/-- A bit of ALERT_STATUS rises; SMB_ALERT_N is low while any is 1. -/
def State.alertSet (s : State) (b : Nat) : State :=
  let old := s.sys.power.alert
  let s := s.onPower fun p => { p with alert := old ||| 2 ^ b }
  if old = 0 then s.emit (.pin "SMB_ALERT_N" false) else s

/-! ### The fatal path (R424, R425) -/

/-- Every lane goes dark and every port leaves UP: sub-ports wait in BIAS until something lights them (R424). -/
def State.lightsOut (s : State) : State :=
  let lps := (s.ports.pitch.filter fun e => e.2.state != 0 && e.2.state != 6).map (·.1)
  let ps := (lps.map physOf).eraseDups
  let s := s.withUp lps fun s => s.each lps fun s lp => (s.enterPitch lp 1).onPitch lp fun t => { t with warm := false }
  (s.each ps fun s p => (s.groupsFollow p).linkFollow p).syncRclk

/-- The time outputs are held low (R424). -/
def State.pinsLow (s : State) : State :=
  (((s.onTime fun t => { t with ppsLevel := false, todDue := none }).emit (.pin "TIME_PPS_OUT" false)).emit (.pin "FREF_OUT" false)).emit
    (.pin "TOD_TXD" false)

/-- A fatal assertion: the fatal path acts on the first, and counts each. The fatal record of the journal is the groundsheet island's
own: it names island 53 and is not marked unlocked, whatever island the source lies in (R456 gives it the layout of R403 and R12 leaves
open which island it names; DESIGN CHOICE, log 102). -/
def State.fatalEnter (s : State) (pg src : Nat) : State :=
  let s := s.count fltcPage 0xC0
  if s.fatal then s
  else
    let s := (s.setFlag fltcPage FLTC_FATAL_STATE_FATAL true).setFlag fltcPage FLTC_FATAL_STATE_VALID true
    let s := (s.setFld fltcPage FLTC_FATAL_STATE_PAGE pg).setFld fltcPage FLTC_FATAL_STATE_SOURCE src
    let s := (s.setFld fltcPage FLTC_FATAL_SEC_SEC s.dtSec).setFld fltcPage FLTC_FATAL_NS_NS s.dtSub
    let s := ((s.lightsOut.leaseRevoke 3).twinStop).pinsLow
    (s.alertSet 2).journal (eventRecord s.time.dt pg src (s.evtSeq pg src) 3 (s.live pg src) false 53)

/-! ### Contain targets (R423) -/

/-- Contain target of a source: an island, none where it has none at this moment. -/
def State.containTarget (s : State) (pg src : Nat) : Option Nat :=
  match pageOf pg with
  | none => none
  | some (t, i) =>
    match t with
    | .port => some (i / 32)
    | .oeng => some (17 + i)
    | .slce | .clsf | .metr | .schd | .pack | .xbarS | .deepS | .fabrS => some i
    | .flxeG => s.groupSlice i
    | .xbarM => some 8
    | .deepT => if 1 ≤ src && src ≤ 8 then some (8 + src) else none
    | .loom => if i < 8 then some i else if i < 16 then some (i + 1) else if i = 16 then some 49 else if i = 17 then some 50 else none
    | .time => some 51
    | .svcc => if src = 2 || src = 4 then some 49 else if src = 3 || src = 5 then some 50 else none
    | .devc =>
      let n := s.fld devcPage DEVC_ISLAND_CAPTURE_ISLAND
      if src < 2 && n < 52 then some n else none
    | _ => none

/-! ### The state of a block (R421, R429, R431) -/

def blkF (t : Nat) (f : Fld) : Fld := f.sh (4 * t)
def State.onBlock (s : State) (t : Nat) (f : Block → Block) : State := s.setBlock t (f (s.block t))
def State.onIsland (s : State) (i : Nat) (f : IslandSt → IslandSt) : State := s.setIsland i (f (s.island i))
def State.setRst (s : State) (i r : Nat) : State := s.onIsland i fun x => { x with rst := r }
def State.blockState (s : State) (t st : Nat) : State := s.setFld fltcPage (blkF t FLTC_BLOCK_STATE_STATE) st
/-- BLOCK_STATE.GUY: the target's guy lines apply. -/
def State.syncGuy (s : State) (t : Nat) : State :=
  s.setFlag fltcPage (blkF t FLTC_BLOCK_STATE_GUY) ((s.block t).guy && s.flag fltcPage FLTC_GUY_CFG_GUY_EN)
/-- CONTAINS: the contain resets of the target within the span. -/
def State.containsNow (s : State) (t : Nat) : List Nat :=
  (s.block t).contains.filter fun a => s.now < a + s.fld fltcPage FLTC_FLTC_CFG_CONTAIN_SPAN * nsPerSec
def State.syncContains (s : State) (t : Nat) : State :=
  s.setFld fltcPage (blkF t FLTC_BLOCK_STATE_CONTAINS) (min 15 (s.containsNow t).length)

/-- REFUSED of FLTC_CFG. -/
def State.fltcRefused (s : State) (b : Bool) : State := s.setFlag fltcPage FLTC_FLTC_CFG_REFUSED b

/-! ### What a block reset clears (R428) -/

/-- Drop every entry of a map whose key the test names. -/
def mdrop {α : Type} (m : Map α) (f : Nat → Bool) : Map α := m.filter fun e => !f e.1

/-- Entries of the replicated tables in one copy (R428). -/
def sliceEntries : Nat := 1721360

/-- Ports of a slice leave UP and stay STRUCK: their lasers and lock are kept, so the next start is warm. A parked sub-port stays
parked. The slice's fabric links fail and its FlexE groups go to PHY_WAIT. -/
def State.slicePorts (s : State) (sl : Nat) : State :=
  let lps := (List.range 128).map fun i => 128 * sl + i
  let ps := (List.range 32).map fun i => 32 * sl + i
  let s := s.withUp lps fun s => s.each lps fun s lp =>
    let t := s.pitch lp
    if t.state = 0 || t.state = 6 then s
    else (s.enterPitch lp 0).onPitch lp fun x => { x with warm := t.warm }
  let s := (s.each ps fun s p => (s.groupsFollow p).linkFollow p).syncRclk
  let s := s.each (s.groupsOn.filter fun g => s.groupSlice g = some sl) fun s g => if s.groupState g = 0 then s else s.setGroup g 1
  let s := s.each lps fun s lp => (s.rxAbort lp).clearPause lp
  s.each lps fun s lp => (s.setMac lp dfltMac).setMacFld lp PORT_MM_STATUS_STORM 0

/-- Frames of the slice's queues, staging and deep parts are released; so are its virtual output queues and punted frames. -/
def State.sliceFrames (s : State) (sl : Nat) : State :=
  let s := s.each ((s.sw.efs.filter fun e => match e.2 with | some x => sliceOf x.lport == sl | none => false).map (·.1)) fun s i => s.discardFrame i
  let ch := (s.sw.voqs.filter fun e => e.1 / 2112 == sl).flatMap fun e =>
    e.2.closed.flatMap (·.releases) ++ e.2.releases ++ e.2.waiting.map (·.charge)
  let open_ := (s.trunk.srcStreams.filter fun e => e.1 / 2 ^ 35 == sl).filterMap fun e => e.2.map (·.packer)
  let s := (ch ++ open_.flatMap (·.releases)).foldl (fun s c => s.voqRelease sl c) s
  let ses := (s.sw.voqs.filter fun e => e.1 / 2112 == sl).flatMap fun e =>
    e.2.closed.flatMap (·.mirrors) ++ e.2.mirrors ++ e.2.waiting.flatMap fun w => w.f.session.toList
  let s := s.mirrorDrops (ses ++ open_.flatMap (·.mirrors))
  let s := s.onSw fun w => { w with voqs := mdrop w.voqs fun k => k / 2112 == sl }
  let inj := (s.sw.injSide.filter fun e => e.1 / 8 / 128 == sl).flatMap (·.2)
  let s := inj.foldl (fun s m => s.injDone (some m)) s
  let s := s.onSw fun w => { w with injSide := mdrop w.injSide fun k => k / 8 / 128 == sl }
  s.each (List.range 16) fun s r => s.puntClear sl r

/-- Cells in flight from or to a slice are discarded at its fence, each counted in the VOQ_DROP of its source (R14). -/
def State.flightDrop (s : State) (gone : TimedCell → Bool) : State :=
  let l := s.sw.flight.filter gone
  let s := s.onSw fun w => { w with flight := w.flight.filter fun c => !gone c }
  l.foldl (fun s c => (s.cellDrops c.cell).count (deepPage c.cell.srcSlice) 0xD0) s

/-- The crossbar streams from and to a slice start again at 0, at both of their ends; what a stream holds is discarded and its open
frame is lost (R225, R428). -/
def State.sliceStreams (s : State) (sl : Nat) : State :=
  let ks := (s.sw.streams.map (·.1)).filter fun k => k / 16896 == sl || k / 2112 % 8 == sl
  let s := s.each ks fun s k =>
    let d := k / 16896
    let n := (s.stream k).held.length
    let s := if d = sl then s else s.loseOpen d k
    (s.setStream k dfltStream).setHeldCount d (-n)
  s.onSw fun w => { w with
    voqs := mmap dfltPacker (fun k x => if destSlice (destOf (k % 2112)) = sl then { x with nextSeq := 0 } else x) w.voqs
    withheld := mdrop w.withheld fun k => k / 8 / 264 == sl }

/-- The slice's fabric streams, shapers, meters, schedulers, discard LFSR and table copy. -/
def State.sliceRest (s : State) (sl : Nat) : State :=
  let s := s.onTrunk fun t => { t with
    srcStreams := mdrop t.srcStreams fun k => k / 2 ^ 35 == sl, dstStreams := mdrop t.dstStreams fun k => fabSlice k == sl
    lost := mdrop t.lost fun k => fabSlice k == sl, deliver := mdrop t.deliver fun k => k == sl }
  let s := s.syncFab sl
  let nodes := ((s.sw.schd.map (·.1) ++ s.sw.nodes.map (·.1)).filter fun k => k / 524288 == sl && 2 ≤ k / 32768 % 16).eraseDups
  let s := s.each nodes fun s k => s.setNode k { dfltNode with last := s.time.dt }
  let s := s.onSw fun w => { w with scheds := mdrop w.scheds fun k => k / 128 == sl }
  let s := s.each ((s.tables.meters.map (·.1)).filter fun k => k / 32768 == sl) fun s k =>
    s.setMeter k { (s.meter k).fill with resC := 0, resE := 0, last := s.stamp }
  let s := s.each ((s.trunk.clients.filter fun e => s.groupSlice e.2.group = some sl).map (·.1)) fun s n =>
    s.setClient n { s.client n with fifo := [] }
  let s := s.setLfsr sl s.sliceCycle
  let s := s.onTables fun t => { t with
    copies := t.copies.set sl TblCopy.empty, requests := t.requests.set sl [], filter := t.filter.set sl [] }
  s.setFlag (slcePage sl) SLCE_SLCE_STATUS_READY false

def State.sliceClear (s : State) (sl : Nat) : State :=
  let s := (s.slicePorts sl).flightDrop fun c => c.cell.srcSlice == sl || destSlice c.cell.dest == sl
  ((s.sliceFrames sl).sliceStreams sl).sliceRest sl

/-- Cells in flight and the matcher's pointers (R428). The fence opens every stream's check of stamps anew (R227). -/
def State.xbClear (s : State) : State :=
  (s.flightDrop fun _ => true).onSw fun w => { w with
    streams := mmap dfltStream (fun _ x => { x with lastStamp := none }) w.streams
    gptr7 := List.replicate 8 0, gptr := List.replicate 8 0, aptr7 := List.replicate 8 0, aptr := List.replicate 8 0, spray := 0 }

/-- Servo integrators to 0, time bases to FREE, DT_LOCK of every island to 0; DT goes on from the standby counter (R428). -/
def State.tuClear (s : State) : State :=
  let s := s.onTime fun t => { t with standby := true }
  let s := s.each (List.range 4) fun s n =>
    if s.tbEn n then
      let s := s.onTb n fun b => { b with i := 0, r := [0, 0], prevOfs := [none, none], lastAt := [none, none], good := 0 }
      let s := ((s.setTbFreq n 0).setChOk n 0 false).setChOk n 1 false
      (s.setFld timePage (tbF n TIME_TB_STATUS_SWITCHING) 0).setTbState n 1
    else s
  s.each (List.range 53) fun s i =>
    if (s.island i).dtLock then
      ((s.onIsland i fun x => { x with dtLock := false, free := some (s.time.dt, s.now) }).islandCapture i 0).raise devcPage 0
    else s

/-- A service cluster's cores and SRAM (R345, R427). Its window and checkpoint slots are kept. -/
def State.clusterClear (s : State) (c : Nat) : State :=
  (s.onCluster c fun x => { ClusterSt.reset with window := x.window }).each (List.range 4) fun s p => s.setInjQ (4 * c + p) []

/-- What the reset of island `t` clears (R428). -/
def State.blockClear (s : State) (t : Nat) : State :=
  if t < 8 then s.sliceClear t
  else if t = 8 then s.xbClear
  else if t < 17 then s.stackLeave (t - 9) false
  else if t < 49 then (s.engineDown (t - 17)).setUcState (t - 17) 1
  else if t = 51 then s.tuClear
  else s.clusterClear (t - 49)

/-! ### Block resets (R429) -/

/-- Steps 1 to 4 of R429: guy lines, fence, reset, clearing. -/
def State.blockStart (s : State) (t : Nat) (byHost : Bool) (cause : Option (Nat × Nat)) : State :=
  let out : Bool := 9 ≤ t && t < 17 && !s.stackIn (t - 9)
  let s := if 9 ≤ t && t < 17 then s.onSw fun w => { w with stackTest := w.stackTest.set (t - 9) out } else s
  let s := s.onBlock t fun b => { b with
    resetting := true, isolated := false, guy := true, guyEnd := none, byHost := byHost, cause := cause
    reload := if t < 8 then some sliceEntries else none }
  let s := (((s.blockState t 1).syncGuy t).setRst t 1).blockClear t
  if t < 8 then
    (s.setFlag (slcePage t) SLCE_SLCE_STATUS_RELOADING true).setFld (slcePage t) SLCE_SLCE_STATUS_RELOAD_LEFT sliceEntries
  else s

/-- Isolation: the target is held in reset behind its fence, and its guy lines stay (R421, R422). -/
def State.isolate (s : State) (t : Nat) (cause : Option (Nat × Nat)) : State :=
  let s := s.onBlock t fun b => { b with
    resetting := false, isolated := true, guy := true, guyEnd := none, byHost := false, cause := cause, reload := none }
  let s := if t = 49 || t = 50 then (if s.isHolder (t - 49) then s.leaseRevoke 3 else s).setRole (t - 49) 6 else s
  ((((s.blockState t 2).syncGuy t).setRst t 1).blockClear t).raise fltcPage 2

/-- A contain action (R418 to R421). -/
def State.containAct (s : State) (pg src : Nat) : State :=
  match s.containTarget pg src with
  | none => s.count fltcPage 0xA8
  | some t =>
    let b := s.block t
    if b.resetting || b.isolated || !s.islandRuns t then s.count fltcPage 0xA8
    else if t = 49 || t = 50 then s.isolate t (some (pg, src))
    else
      let l := s.containsNow t
      let lim := s.fld fltcPage FLTC_FLTC_CFG_CONTAIN_LIMIT
      if lim ≠ 0 && lim ≤ l.length then (if t = 8 then s.fatalEnter pg src else s.isolate t (some (pg, src)))
      else ((s.onBlock t fun b => { b with contains := s.now :: l }).syncContains t).blockStart t false (some (pg, src))

/-- Take the severity actions that are due, and those that they cause in turn (R418, R419). -/
def State.settleN : Nat → State → State
  | 0, s => s
  | n + 1, s =>
    match s.sys.due with
    | [] => s
    | (pg, src, sev) :: r =>
      let s := s.onSys fun y => { y with due := r }
      settleN n (if sev = 3 then s.fatalEnter pg src else s.containAct pg src)

/-- The end of every command: severity actions are taken before the next one (R418). -/
def settle (s : State) : State := State.settleN (s.sys.due.length + 256) s

/-- The reset is over: counted and raised, and the guy lines end SETTLE_MS later (R429, R431). The island's PLL is locked by then
(DEDUCED, log 106). -/
def State.blockDone (s : State) (t : Nat) : State :=
  let s := s.onBlock t fun b => { b with
    resetting := false, guyEnd := some (s.now + 1000000 * s.fld fltcPage FLTC_GUY_CFG_SETTLE_MS) }
  ((((s.setRst t 0).onIsland t fun x => { x with clkLock := true }).blockState t 0).count fltcPage 0xA0).raise fltcPage 1

/-- The matrix of a slot's Maelwick holds an entry with stepping 0xC0, the module revision and both versions (R444). The matrix
follows the header page: a count and entries of 12 bytes. -/
def State.tested (s : State) (k mw uc : Nat) : Bool :=
  let m := ((mget [] (s.nvSlot k).pages 1 ++ mget [] (s.nvSlot k).pages 2) : List Byte)
  let rev := s.fld devcPage DEVC_DEV_INFO_MODULE_REV
  (List.range (min 256 (leAt m 0 4))).any fun i =>
    let e := slice m (4 + 12 * i) 12
    byteAt e 0 == 0xC0 && byteAt e 1 ≤ rev && rev ≤ byteAt e 2 && leAt e 4 4 == mw && leAt e 8 4 == uc

/-- An engine boots: its microcode runs, and a calibration record that fails its check raises CAL_MISSING (R54). -/
def State.engineBoot (s : State) (e : Nat) : State :=
  let s := s.setUcState e 0
  if s.sys.nv.engineCalGood.getD e false then s else s.raise (oengPage e) 23

/-- BLOCK_RESET_READY (R429, R430): a slice waits for its reload, a controller for its self-test, and everything for the end of a fatal
state. An engine with an untested combination stays in reset (R445). -/
def State.doBlockResetReady (s : State) (t : Nat) : State :=
  let b := s.block t
  if !b.resetting || s.fatal || b.reload.isSome || (9 ≤ t && t < 17) then s
  else if t < 8 then
    let s := (s.blockDone t).setFlag (slcePage t) SLCE_SLCE_STATUS_READY true
    (s.raise (slcePage t) 4).each ((List.range 128).map fun i => 128 * t + i) fun s lp => s.kick lp
  else if t = 8 then s.blockDone t
  else if t < 49 then
    let e := t - 17
    let k := s.sys.boot.slot
    let x := s.nvSlot k
    if s.tested k s.sys.boot.mwVersion x.uc then ((s.blockDone t).engineBoot e).engineUp e
    else
      let s := s.setUcState e 3
      (s.onBoot fun b => { b with cause := 2 }).raise nvstPage 3
  else if t = 51 then (s.onTime fun x => { x with standby := false }).blockDone t
  else (s.blockDone t).setRole (t - 49) 1

/-- The slice that a reload copies from: the next one that runs and does not itself reload (R140, R428). -/
def State.reloadFrom (s : State) (sl : Nat) : Option Nat :=
  ((List.range 7).map fun k => (sl + 1 + k) % 8).find? fun k => s.islandRuns k && (s.block k).reload.isNone

/-- SLICE_RELOAD_DONE: the copy, and the updates its source had still to apply, are those of the source. -/
def State.doSliceReloadDone (s : State) (sl : Nat) : State :=
  match (s.block sl).reload, s.reloadFrom sl with
  | some _, some k =>
    let s := s.onBlock sl fun b => { b with reload := none }
    let s := s.onTables fun t => { t with
      copies := t.copies.set sl (t.copies.getD k TblCopy.empty), copyQueue := t.copyQueue.set sl (t.copyQueue.getD k []) }
    (s.setFlag (slcePage sl) SLCE_SLCE_STATUS_RELOADING false).setFld (slcePage sl) SLCE_SLCE_STATUS_RELOAD_LEFT 0
  | _, _ => s

/-- Every source that is live with its sticky bit clear, among those the guy lines masked until now (R431); a source that guy lines mask for
some ports only is tried for each. -/
def State.reassert (old s : State) : State :=
  let pages := ((old.regs.filter fun e => e.1 % 4096 == 0x10).map fun e => e.1 / 4096)
  s.each pages fun s pg => s.each (List.range 32) fun s src =>
    if s.live pg src && !s.sticky pg src && (List.range 33).any fun k => old.guyMasked pg src k && !s.guyMasked pg src k then s.raise pg src else s

/-- GUY_WINDOW_END (R431): of island `t`; the windows of planes end with it once their time has come. -/
def State.doGuyWindowEnd (s : State) (t : Nat) : State :=
  match (s.block t).guyEnd with
  | some a =>
    if s.now < a then s
    else
      let s' := (s.onBlock t fun b => { b with guy := false, guyEnd := none, byHost := false, cause := none }).syncGuy t
      State.reassert s s'
  | none => s

/-! ### Stacks (R169, R170, R432) -/

/-- STACK_REMOVE: the host takes a stack out of service; its guy lines apply until it rejoins or stays out. -/
def State.doStackRemove (s : State) (d : Nat) : State :=
  if !s.stackIn d || (s.block (9 + d)).resetting then s
  else
    let s := (s.onBlock (9 + d) fun b => { b with guy := true, guyEnd := none, byHost := true, cause := none }).syncGuy (9 + d)
    s.stackLeave d false

/-- STACK_RETURN: a block reset and self-test of the controller. -/
def State.doStackReturn (s : State) (d : Nat) : State :=
  if s.stackIn d || (s.block (9 + d)).resetting || (s.block (9 + d)).isolated then s else s.blockStart (9 + d) true none

/-- STACK_SELFTEST_DONE: the controller runs again; the stack rejoins with all its bobbins free, or stays out with FAULT set. -/
def State.doStackSelftestDone (s : State) (d : Nat) (ok : Bool) : State :=
  let t := 9 + d
  if !(s.block t).resetting || s.fatal then s
  else
    let zero := s.sw.stackTest.getD d false
    let s := s.onSw fun w => { w with stackTest := w.stackTest.set d false }
    let s := s.blockDone t
    if ok then s.stackJoin d zero else s.setStackSt d { s.stackSt d with fault := true }

/-! ### Rails and temperature (R415, R416, R426) -/

/-- RAIL_BREAK: the pair's source keeps its live state and is not seen, but a source of severity 3 is taken to assert. -/
def State.doRailBreak (s : State) (pg src : Nat) : State :=
  match pageOf pg with
  | none => s
  | some _ =>
    if s.host.broken.contains (pg, src) then s
    else
      let s := (s.setFld fltcPage FLTC_RAIL_CAPTURE_PAGE pg).setFld fltcPage FLTC_RAIL_CAPTURE_SOURCE src
      let s := (s.setFlag fltcPage FLTC_RAIL_CAPTURE_BROKEN true).setFlag fltcPage FLTC_RAIL_CAPTURE_VALID true
      let fatal : Bool := s.evtSev pg src == 3
      let cut := fun (s : State) => s.onHost fun h => { h with broken := h.broken ++ [(pg, src)] }
      let s := ((if fatal then s else cut s).count fltcPage 0xB0).raiseLive fltcPage 0
      if fatal then
        -- the fatal record of a rail break names page 0x3FFF (R437)
        let s := s.raise pg src
        cut (s.onSys fun y => { y with due := y.due.map fun x => if x = (pg, src, 3) then (0x3FFF, src, 3) else x })
      else s

/-- RAIL_RESTORE: every pair reads valid again, and a source whose level changed while its pair was broken is seen (R416). -/
def State.doRailRestore (s : State) : State :=
  let l := s.host.brokenLevel
  let s := (s.onHost fun h => { h with broken := [], brokenLevel := [] }).setFlag fltcPage FLTC_RAIL_CAPTURE_BROKEN false
  (l.foldl (fun (s : State) (e : Nat × Nat × Bool) => if e.2.2 then s.raiseLive e.1 e.2.1 else s.lower e.1 e.2.1) s).lower fltcPage 0

/-- Junction temperatures all lie below 100 °C. -/
def State.allCool (s : State) : Bool := (List.range 53).all fun i => (s.island i).temp < 100

/-- TEMP_HIGH of an engine: live from 100 °C until the sensor reads below 95 °C (R62). -/
def State.tempHigh (s : State) (e temp : Nat) : State :=
  if 100 ≤ temp then s.raiseLive (oengPage e) 21 else if temp < 95 then s.lower (oengPage e) 21 else s

/-- THERM_THRESHOLD_CROSS: a junction sensor reads `temp` °C. -/
def State.doThermCross (s : State) (i temp : Nat) : State :=
  let s := s.onIsland i fun x => { x with temp := temp }
  let s := if 17 ≤ i && i < 49 then s.tempHigh (i - 17) temp else s
  let s := if 105 ≤ temp then
      (if s.live fltcPage 3 then s else (s.raiseLive fltcPage 3).alertSet 0)
    else s
  let s := if 115 ≤ temp && !s.live fltcPage 4 then
      let s := s.onSys fun y => { y with tripPersist := true, power := { y.power with thermTripLow := true } }
      ((s.emit (.pin "THERM_TRIP_N" false)).alertSet 1).raiseLive fltcPage 4
    else s
  if s.allCool then ((s.lower fltcPage 3).lower fltcPage 4).onSys fun y => { y with tripPersist := false } else s

end Sys2Proof.Machine
end

