-- ==== Sys2Proof/Machine/Boot.lean ====
section
/-! DEFINITION. Resets of the whole device and its start (R427, R447 to R454), and the non-volatile store: images, objects, checkpoint
copies, the journal and the retention refresh (R440 to R461). -/

namespace Sys2Proof.Machine

/-! ### What the registers show of the store -/

def State.showNv (s : State) : State :=
  let s := s.each [0, 1] fun s k => s.setNvSlot k (s.nvSlot k)
  let s := s.setFld nvstPage NVST_SVN_STATUS_SVN_FLOOR s.sys.nv.svnFloor
  (s.setFld nvstPage NVST_NV_HEALTH_SPARE_BLOCKS s.sys.nv.spare).setFld nvstPage NVST_NV_HEALTH_MAX_ERASE s.sys.nv.maxErase

/-- An erase of flash blocks: the highest erase count rises or stays, which the spec does not fix (DESIGN CHOICE, log 82). -/
def State.nvErase (s : State) : State :=
  let (v, s) := s.fresh
  s.onNv fun n => { n with maxErase := min 16383 (n.maxErase + v.toNat % 2) }

/-! ### Cold reset (R427, R454) -/

/-- A register that a cold reset keeps: the fatal record and the record of the last reset (R436). -/
def coldKept (a : Nat) : Bool := a / 4096 == fltcPage && 0x88 ≤ a % 4096 && a % 4096 ≤ 0x94

/-- The islands lose their state: every register, counter, frame, table and queue. The groundsheet island keeps its own (R427). A lane
that runs on a spare has its primary source back and every spare is free, since R427 sets SRC and SPARE_USED to their reset values,
against R48's 'never used again' (DESIGN CHOICE, log 107). -/
def State.wipe (s : State) : State :=
  let s := s.twinStop
  let next := s.flag nvstPage NVST_BOOT_STATUS_BIVOUAC_NEXT || s.sys.boot.bivNext
  let dark : HostSt := { HostSt.reset with mem := s.host.mem, tap := s.host.tap, cells := s.host.cells, perstLow := s.host.perstLow }
  let nv := { s.sys.nv with cmds := [], ckptCopy := none, powerFail := false }
  let t := s.svc.twin
  let twin : Twin := { Service.reset.twin with holdIn := t.holdIn, holdLowSince := t.holdLowSince, epoch := t.epoch }
  let s := { s with
    regs := s.regs.filter fun e => coldKept e.1
    ctrs := s.ctrs.filter fun e => e.1 == regA fltcPage 0xC0
    shadow := [], latch := [], host := dark, tables := Tables.reset, sw := Switch.reset, trunk := Trunk.reset, loom := []
    ports := { Ports.reset with wearHour := s.ports.wearHour }
    time := { TimeSt.reset with dt := s.time.dt }
    svc := { Service.reset with twin := twin }
    sys := { s.sys with
      nv := nv, blocks := [], planeGuy := List.replicate 4 none, due := []
      islands := (s.sys.islands.map fun (e : Nat × IslandSt) => (e.1, { dfltIsland e.1 with temp := e.2.temp, clkLock := e.1 == 53 && e.2.clkLock })).filter fun e => decide (e.2 ≠ dfltIsland e.1)
      boot := { System.reset.boot with bivNext := next } } }
  let s := s.each (List.range 32) fun s e => match mget none s.sys.nv.wear e with
    | some (_, l) => s.each (List.range 36) fun s i => s.setWear (e * 64 + i) (l.getD i dfltWear)
    | none => s
  -- a cold reset loads each slice's discard LFSR (R160)
  (s.each (List.range 8) fun s sl => s.setLfsr sl s.sliceCycle).showNv

/-- The rails leave regulation: PWR_GOOD falls (R467, R470). -/
def State.railsOff (s : State) : State :=
  if s.sys.power.rails then ((s.onPower fun p => { p with rails := false }).emit (.pin "PWR_GOOD" false)).alertSet 3 else s

/-- The record of a reset, and the end of a fatal state (R425, R427). -/
def State.resetRecord (s : State) (scope cause : Nat) : State :=
  let s := ((s.setFld fltcPage FLTC_LAST_RESET_SCOPE scope).setFld fltcPage FLTC_LAST_RESET_CAUSE cause).setFlag fltcPage
    FLTC_LAST_RESET_AFTER_FATAL s.fatal
  ((s.setFlag fltcPage FLTC_FATAL_STATE_FATAL false).onPower fun p => { p with vinReturned := false }).journalNote 1

/-- A cold reset, up to the point where the regulators ramp again (R454 step 3). THERM_TRIP_N is released when every sensor is below
100 °C (R473). -/
def State.coldReset (s : State) (cause : Nat) : State :=
  let s := ((s.wipe.railsOff).resetRecord 1 cause).onBoot fun b => { b with phase := if s.sys.power.vin then 1 else 0 }
  if s.sys.power.thermTripLow && s.allCool then
    (s.onSys fun y => { y with tripPersist := false, power := { y.power with thermTripLow := false } }).emit (.pin "THERM_TRIP_N" true)
  else s

/-! ### Warm reset (R427) -/

/-- Pages that a warm reset keeps. -/
def warmPage (pg : Nat) : Bool :=
  match pageOf pg with
  | some (t, _) => match t with
    | .oeng | .time | .twin | .devc | .nvst | .fltc => true
    | _ => false
  | none => false

/-- Islands that a warm reset resets: 0 to 16, 49, 50 and 52. -/
def warmIslands : List Nat := List.range 17 ++ [49, 50, 52]

/-- Registers after a warm reset: kept pages but for their sticky bits and sequence numbers; the others at reset, but for PAGE_APPLIED.COUNT,
which counts from the cold reset (R386), and for EMERG_CNT and EXHAUSTED of LOOM, which are counters (R340). -/
def warmRegs (m : Map Word) : Map Word :=
  m.filter fun e =>
    let o := e.1 % 4096
    (warmPage (e.1 / 4096) && !(0x14 ≤ o && o < 0x40)) || o == 0xC ||
      (match pageOf (e.1 / 4096) with | some (.loom, _) => o == 0x8C || (0x100 ≤ o && o < 0x180 && o % 16 == 8) | _ => false)

/-- Fields that outlive a warm reset on pages that it resets: the link and configuration space behind HOST_STATUS, the checkpoints of the
reserved region, and the counts of audits and of corrected SRAM errors (R427). -/
def warmFields : List (Nat × Fld) :=
  ([HOST_HOST_STATUS_WIDTH, HOST_HOST_STATUS_SPEED, HOST_HOST_STATUS_BUS_MASTER].map fun f => (hostPage, f)) ++
    ([SVCC_CKPT_STATUS_VALID, SVCC_CKPT_STATUS_SLOT, SVCC_CKPT_STATUS_SEQ, SVCC_CKPT_STATUS_SLOT_LOST, clF 0 SVCC_CLUSTER_STATE_SRAM_CORR,
      clF 1 SVCC_CLUSTER_STATE_SRAM_CORR].map fun f => (svccPage, f)) ++ [(deepPage 8, DEEPT_AUDIT_COUNT_COUNT)]

/-- Counters that stand inside entries outlive the reset of the entries (R427: every counter is kept). -/
def Tables.warm (t : Tables) : Tables :=
  { Tables.reset with
    bdCount := t.bdCount
    rules := (t.rules.map fun e => (e.1, { dfltRule with hits := e.2.hits })).filter fun e => decide (e.2 ≠ dfltRule)
    meters := (t.meters.map fun e => (e.1, { dfltMeter with frames := e.2.frames, bytes := e.2.bytes })).filter fun e => decide (e.2 ≠ dfltMeter) }

def Queue.warm (i : Nat) (q : Queue) : Queue :=
  { dfltQueue (i % 17408) with
    admitFrames := q.admitFrames, admitBytes := q.admitBytes, spilled := q.spilled, dropWred := q.dropWred, dropSpace := q.dropSpace
    dropDesc := q.dropDesc, ageDiscard := q.ageDiscard, deepLost := q.deepLost }

def Switch.warm (w : Switch) : Switch :=
  { Switch.reset with
    nextFid := w.nextFid
    queues := (w.queues.map fun e => (e.1, e.2.warm e.1)).filter fun e => decide (e.2 ≠ dfltQueue (e.1 % 17408)) }

def Trunk.warm (t : Trunk) : Trunk :=
  { Trunk.reset with
    clients := (t.clients.map fun e => (e.1, { dfltClient with fifoDiscard := e.2.fifoDiscard, rxCut := e.2.rxCut })).filter
      fun e => decide (e.2 ≠ dfltClient)
    packs := (t.packs.map fun e => (e.1, { dfltPack with counters := e.2.counters })).filter fun e => decide (e.2 ≠ dfltPack)
    links := (t.links.map fun e => (e.1, { dfltLink with counters := e.2.counters })).filter fun e => decide (e.2 ≠ dfltLink) }

/-- Sub-ports leave UP for the reset of their slices; the engines keep lock, so they pitch warm, or cold after a fatal state (R425). -/
def State.warmPorts (s : State) (cold : Bool) : State :=
  let lps := (s.ports.pitch.filter fun e => e.2.state != 6).map (·.1)
  s.each lps fun s lp =>
    let t := s.pitch lp
    s.setPitch lp { dfltPitch with warm := t.warm && !cold, light := t.light, rxLocked := t.rxLocked && !cold }

/-- The notification FIFOs as the HI island's reset leaves them: what they held is lost, and a gap marker will say so (R14, R404). -/
def State.lostNotes (s : State) : Map Fifo :=
  (s.host.fifos.map fun e =>
    let n := e.2.drops + e.2.held
    (e.1, ({ items := [], drops := n, firstDrop := if e.2.drops = 0 && n ≠ 0 then s.time.dt else e.2.firstDrop } : Fifo))).filter
      fun e => decide (e.2 ≠ dfltFifo)

/-- A warm reset, up to R454 step 6. Cells in flight are discarded at the fences (R14). -/
def State.warmReset (s : State) (cause : Nat) : State :=
  let fatal := s.fatal
  let s := ((s.leaseRevoke 3).flightDrop fun _ => true).each (List.range 54) fun s i => if s.frozen i then s.doPerfRelease i else s
  let next := s.flag nvstPage NVST_BOOT_STATUS_BIVOUAC_NEXT || s.sys.boot.bivNext
  let h : HostSt := { HostSt.reset with
    linkUp := s.host.linkUp, busMaster := s.host.busMaster, msixEnable := s.host.msixEnable, perstLow := s.host.perstLow
    mem := s.host.mem, tap := s.host.tap, cells := s.host.cells, perfBase := s.host.perfBase, broken := s.host.broken
    brokenLevel := s.host.brokenLevel, fifos := s.lostNotes }
  let v := s.svc
  let svc : Service := { Service.reset with
    clusters := v.clusters.map fun c => { ClusterSt.reset with window := c.window }
    lease := { v.lease with next := 0 }, slots := v.slots, lastCommit := v.lastCommit, twin := v.twin, poolMem := v.poolMem }
  let ck := warmFields.map fun f => (f, s.fld f.1 f.2)
  let kept := s.sys.blocks.filter fun e => e.2.isolated || (17 ≤ e.1 && e.1 < 49) || e.1 == 51
  let freed := (s.sys.blocks.filter fun e => !(e.2.isolated || (17 ≤ e.1 && e.1 < 49) || e.1 == 51)).map (·.1)
  let s := s.warmPorts fatal
  let s := { s with
    regs := warmRegs s.regs, shadow := s.shadow.filter fun e => warmPage (e.1 / 4096), latch := [], host := h
    ports := { s.ports with mac := [] }
    tables := s.tables.warm, sw := s.sw.warm, trunk := s.trunk.warm, loom := [], svc := svc
    sys := { s.sys with
      blocks := kept, planeGuy := List.replicate 4 none, due := [], nv := { s.sys.nv with powerFail := false }
      boot := { s.sys.boot with phase := 1, warm := true, trialEnd := none, bivNext := next, diag := none } } }
  let s := ck.foldl (fun s x => s.setFld x.1.1 x.1.2 x.2) s
  let s := s.each freed fun s t => (s.blockState t 0).syncGuy t
  let s := s.each warmIslands fun s i => s.setRst i 1
  let s := s.each (List.range 8) fun s sl => s.setLfsr sl s.sliceCycle
  let s := ((s.lower fltcPage 5).resetRecord 2 cause).showNv
  -- a THERM_TRIP that persists through the reset asserts again (R426)
  if s.live fltcPage 4 then s.raise fltcPage 4 else s

/-! ### Power-up (R453, R454) -/

/-- STANDBY_POWER_UP: the groundsheet island leaves reset; the standby counter runs. -/
def State.doStandbyPowerUp (s : State) : State :=
  if s.sys.power.vsb then s
  else
    let s := s.wipe
    let s := { s with regs := s.regs.filter fun e => !coldKept e.1, ctrs := [], time := { s.time with dt := 0, standby := true } }
    let s := s.onIsland 53 fun x => { x with clkLock := true }
    let s := s.onSys fun y => { y with
      tripPersist := false, nv := { y.nv with mounted := false, openPage := [], openAt := s.now }
      power := { System.reset.power with vsb := true, vin := y.power.vin, below6 := y.power.below6, resetNLow := y.power.resetNLow } }
    s.showNv

/-- One object lost at mount: counted, raised and recorded with its identifier (R453). -/
def State.objectLost (s : State) (id : Nat) : State :=
  let s := (s.countRaise nvstPage 0xC8 1).onNv fun n => { n with objs := mset none n.objs id none }
  s.journal ((eventRecord s.time.dt nvstPage 31 5 0 false true 53).take 20 ++ leBytes 4 id ++ zeros 8)

/-- NV_MOUNT_DONE: the page map is rebuilt; a slot that was being written holds no committed image. `lost` names the objects that hold
a page the code cannot correct. -/
def State.doNvMountDone (s : State) (lost : List Nat) : State :=
  if !s.sys.power.vsb || s.sys.nv.mounted then s
  else
    let s := s.onNv fun n => { n with mounted := true }
    let s := s.each [0, 1] fun s k => if (s.nvSlot k).state = 1 then s.setNvSlot k NvSlot.empty else s
    let s := s.each (lost.filter fun i => (mget none s.sys.nv.objs i).isSome) fun s i => s.objectLost i
    s.showNv

/-- Power comes: a cold reset with cause 1, and the hours of the wear records start. -/
def State.powerUp (s : State) : State :=
  let s := (s.onPower fun p => { p with vin := true, below6 := false }).coldReset 1
  s.each (List.range 32) fun s e => s.setWearHour e s.now

/-- MAIN_POWER_UP, at t_V: VIN12 in range, RESET_N high and the flash mounted (R466). -/
def State.doMainPowerUp (s : State) : State :=
  let p := s.sys.power
  if !p.vsb || p.vin || !p.below6 || p.resetNLow || !s.sys.nv.mounted then s else s.powerUp

/-- RAILS_IN_REGULATION: PWR_GOOD rises; islands 0 to 52 are powered. -/
def State.doRailsInRegulation (s : State) : State :=
  let p := s.sys.power
  if !p.vin || p.rails || p.resetNLow || s.sys.boot.phase ≠ 1 then s
  else
    let s := ((s.onPower fun p => { p with rails := true }).emit (.pin "PWR_GOOD" true)).alertSet 3
    s.each (List.range 53) fun s i => s.onIsland i fun x => { x with power := 2 }

/-- ISLANDS_CLOCKED: PLLs lock, DT goes on in the TU, the HI island runs. A THERM_TRIP that persists asserts again (R426). -/
def State.doIslandsClocked (s : State) : State :=
  if !s.sys.power.rails || s.sys.boot.phase ≠ 1 || (s.island 52).rst = 0 || s.sys.boot.warm then s
  else
    let s := s.each (List.range 53) fun s i => s.onIsland i fun x => { x with clkLock := true }
    let s := (((s.setRst 51 0).setRst 52 0).onIsland 51 fun x => { x with dtLock := true }).onTime fun t => { t with standby := false }
    if s.sys.tripPersist then (s.raiseLive fltcPage 3).raiseLive fltcPage 4 else s

/-! ### Images (R443 to R449) -/

/-- Bytes of an image from the manifest matrix on: the pages from page 1, cut to the image's length. -/
def NvSlot.bytes (x : NvSlot) : List Byte := ((mvals x.pages).flatMap id).take x.length

/-- A slot passes verification (R444). -/
def State.slotGood (s : State) (k : Nat) : Bool :=
  let x := s.nvSlot k
  let b := x.bytes
  let n := leAt b 0 4
  let key := slice b (4 + 12 * n) 97
  let formed : Bool := 1 ≤ n && n ≤ 256 && 4 + 12 * n + 128 + 96 ≤ b.length
  let signed : Bool := Config.ecdsaVerify key (b.take (b.length - 96)) (b.drop (b.length - 96))
  formed && decide (s.sys.nv.svnFloor ≤ x.svn) && (Config.sha384 key == s.sys.nv.rootKeyDigest) && signed

/-- Check the slots in one state in turn: a slot that passes is chosen, one that fails becomes REJECTED (R447). -/
def State.chooseIn (s : State) (st : Nat) : List Nat → State × Option Nat
  | [] => (s, none)
  | k :: r =>
    if (s.nvSlot k).state ≠ st then s.chooseIn st r
    else if s.slotGood k then (s, some k)
    else ((s.setSlotState k 5).raise nvstPage 5).chooseIn st r

/-- The boot ROM's choice: TRIAL, else CONFIRMED, else PREVIOUS. -/
def State.chooseSlot (s : State) : State × Option Nat :=
  match s.chooseIn 2 [0, 1] with
  | (s, some k) => (s, some k)
  | (s, none) =>
    match s.chooseIn 3 [0, 1] with
    | (s, some k) => (s, some k)
    | (s, none) => s.chooseIn 4 [0, 1]

/-- Bivouac mode (R449, R470): islands 0 to 50 are held in reset, every lane is dark and TWIN_HOLD_OUT is low. -/
def State.bivouacEnter (s : State) (cause : Nat) : State :=
  let s := s.onBoot fun b => { b with phase := 5, cause := cause, bivouac := true, warm := false }
  let s := s.twinStop.each (List.range 32) fun s e => (s.engineDown e).setUcState e 1
  let s := s.each (List.range 51) fun s i => s.setRst i 1
  (s.raiseLive nvstPage 3).journalNote 6

/-- Islands 0 to 16 are ready (R427, R454). An isolated one stays in reset (R421). -/
def State.coresReady (s : State) : State :=
  let s := s.each (List.range 17) fun s i => if (s.block i).isolated then s else s.setRst i 0
  let s := s.each (List.range 8) fun s sl => if (s.block sl).isolated then s else s.setFlag (slcePage sl) SLCE_SLCE_STATUS_READY true
  s.each (List.range 1024) fun s lp => s.kick lp

/-- BOOT_VERIFY_DONE: step 6 of R454. The order of the checks is the host's request, the calibration area, the slot and the
combination (DESIGN CHOICE, log 83). -/
def State.doBootVerifyDone (s : State) : State :=
  let b := s.sys.boot
  if !s.sys.power.rails || b.phase ≠ 1 || s.fatal || (!b.warm && (s.island 52).rst ≠ 0) then s
  else
    let s := (s.setRst 52 0).onBoot fun b => { b with bivNext := false }
    if b.bivNext then s.bivouacEnter 3
    else if !s.sys.nv.calGood then s.bivouacEnter 4
    else
      match s.chooseSlot with
      | (s, none) => (s.journalNote 2).bivouacEnter 1
      | (s, some k) =>
        let x := s.nvSlot k
        let s := (s.onBoot fun b => { b with slot := k }).journalNote 2
        if !s.tested k x.mw (if b.warm then b.ucVersion else x.uc) then s.bivouacEnter 2
        else
          let s := (s.onBoot fun b => { b with
            phase := if b.warm then 3 else 2, cause := 0, bivouac := false, mwVersion := x.mw }).lower nvstPage 3
          if b.warm then s.coresReady else s

/-- MICROCODE_LOADED: step 7. An engine whose calibration record fails its check raises CAL_MISSING (R54). -/
def State.doMicrocodeLoaded (s : State) : State :=
  let b := s.sys.boot
  if b.phase ≠ 2 || (s.island 17).rst = 0 then s
  else
    let s := s.onBoot fun b => { b with ucVersion := (s.nvSlot b.slot).uc }
    s.each (List.range 32) fun s e =>
      (s.setRst (17 + e) 0).engineBoot e

/-- The NV checkpoint with the highest sequence (R455). -/
def State.nvBest (s : State) : Ckpt :=
  let a := s.sys.nv.ckpt.getD 0 Ckpt.empty
  let b := s.sys.nv.ckpt.getD 1 Ckpt.empty
  if b.committed && (!a.committed || a.seq < b.seq) then b else a

/-- ISLANDS_SELFTEST_DONE: step 8. The NV checkpoint goes into deep slot A when the chosen Maelwick wrote it (R455). -/
def State.doIslandsSelftestDone (s : State) : State :=
  if s.sys.boot.phase ≠ 2 || (s.island 17).rst ≠ 0 then s
  else
    let s := (s.onBoot fun b => { b with phase := 3 }).coresReady
    let k := s.nvBest
    if k.committed && k.mwVersion == s.sys.boot.mwVersion then
      let s := s.onSvc fun v => { v with slots := v.slots.set 0 k }
      ((s.setFlag svccPage SVCC_CKPT_STATUS_VALID true).setFld svccPage SVCC_CKPT_STATUS_SLOT 0).setFld svccPage SVCC_CKPT_STATUS_SEQ k.seq
    else s

/-- The object list of R454: as each object fits in the top 16 MB, with what does not fit counted. -/
def State.objectList (s : State) : List Byte × Nat :=
  let l := s.sys.nv.objs.filterMap fun e => e.2.bind fun o => if 2 ^ 31 ≤ e.1 && !o.deleted then some (e.1, o.body) else none
  l.foldl (fun a x =>
    let e := leBytes 4 x.1 ++ leBytes 4 x.2.length ++ x.2 ++ zeros ((8 - x.2.length % 8) % 8)
    if a.1.length + e.length + 8 ≤ 2 ^ 24 then (a.1 ++ e, a.2) else (a.1, a.2 + 1)) ([], 0)

/-- MAELWICK_LOADED: step 9. SCA claims the lease, SCB stands by cold, and the objects reach the holder's window. -/
def State.doMaelwickLoaded (s : State) : State :=
  if s.sys.boot.phase ≠ 3 || s.fatal then s
  else
    let s := s.each [0, 1] fun s c => if (s.block (clusterIsland c)).isolated then s else (s.setRst (clusterIsland c) 0).standbyReady c
    let s := s.doLeaseGuardEnd.doLeaseClaim 0
    let (b, n) := s.objectList
    let s := match s.svc.lease.holder with
      | some c => s.onCluster c fun x => { x with window := x.window.write 0x2F000000 (b ++ zeros 8) }
      | none => s
    let s := if n = 0 then s else s.count nvstPage 0xD0 n
    let trial := (s.nvSlot s.sys.boot.slot).state = 2
    s.onBoot fun b => { b with
      phase := 4, warm := false
      trialEnd := if trial then some (s.now + nsPerSec * s.fld nvstPage NVST_BOOT_STATUS_TRIAL_S) else none }

/-- TRIAL_TIMEOUT (R448). -/
def State.doTrialTimeout (s : State) : State :=
  match s.sys.boot.trialEnd with
  | some t => if t ≤ s.now then s.trialFail else s
  | none => s

/-! ### The update and object windows (R458 to R460) -/

def State.nvRefused (s : State) (b : Bool) : State := s.setFlag nvstPage NVST_NV_CFG_REFUSED b
def nvBusyF (obj : Bool) : Fld := if obj then NVST_OBJ_CMD_BUSY else NVST_UPD_CMD_BUSY
def nvResultF (obj : Bool) : Fld := if obj then NVST_OBJ_CMD_RESULT else NVST_UPD_CMD_RESULT
/-- A command of a window is refused: RESULT 3 (R460). -/
def State.nvRefuse (s : State) (obj : Bool) : State := (s.setFld nvstPage (nvResultF obj) 3).nvRefused true

/-- The slot that runs, while Maelwick may run. -/
def State.runningSlot (s : State) : Option Nat :=
  let b := s.sys.boot
  if 2 ≤ b.phase && b.phase ≤ 4 then some b.slot else none

/-- Start a window command: refused while one of its window runs (R487), while the store is protected (R452) or when its own condition
fails. The two windows run side by side. -/
def State.nvStart (s : State) (bad : Bool) (c : NvCmd) : State :=
  if s.flag nvstPage (nvBusyF c.obj) || s.sys.nv.cmds.any (fun d => d.obj == c.obj) then s.nvRefused true
  else if bad || s.sys.nv.powerFail || !s.sys.nv.mounted then s.nvRefuse c.obj
  else ((s.onNv fun n => { n with cmds := n.cmds ++ [c] }).setFld nvstPage (nvBusyF c.obj) 1).nvRefused false

/-- The command of a window ends. -/
def State.nvDone (s : State) (obj : Bool) (r : Nat) : State :=
  ((s.onNv fun n => { n with cmds := n.cmds.filter fun c => c.obj != obj }).setFld nvstPage (nvBusyF obj) 0).setFld nvstPage (nvResultF obj) r

/-- A handle names a buffer that a host requester holds (R369, R458). -/
def State.hostBuf (s : State) (h : Nat) : Bool :=
  let b := s.buf (bufKey (hPool h) (hIdx h))
  b.gen == hGen h && h / 2 ^ 17 % 128 == 0 && (match b.holder with | some r => 5 ≤ r | none => false)

def updCmd (op slot idx : Nat) (data : List Byte) : NvCmd := { obj := false, op := op, slot := slot, idx := idx, id := 0, data := data }
def State.trialOpen (s : State) : Bool := [0, 1].any fun k => (s.nvSlot k).state == 2

/-- UPDATE_BEGIN. -/
def State.doUpdateBegin (s : State) (k : Nat) : State := s.nvStart (s.runningSlot == some k || s.trialOpen) (updCmd 1 k 0 [])
/-- UPDATE_WRITE: the first 4,096 bytes of the buffer at this instant. -/
def State.doUpdateWrite (s : State) (k i : Nat) : State :=
  let h := s.fld nvstPage NVST_UPD_HANDLE_HANDLE
  let x := s.nvSlot k
  let bad : Bool := x.state != 1 || i == 0 || (x.pages.any fun e => e.1 == i) || !s.hostBuf h || hPool h < 2
  s.nvStart bad (updCmd 2 k i (s.svc.poolMem.read (handleAt h) 4096))
/-- UPDATE_FINISH and UPDATE_ABANDON. -/
def State.doUpdateFinish (s : State) (k : Nat) : State := s.nvStart ((s.nvSlot k).state != 1) (updCmd 3 k 0 [])
def State.doUpdateAbandon (s : State) (k : Nat) : State := s.nvStart ((s.nvSlot k).state != 1) (updCmd 4 k 0 [])
/-- UPDATE_CONFIRM and UPDATE_SELECT. -/
def State.doUpdateConfirm (s : State) : State :=
  let bad : Bool := match s.runningSlot with | some k => (s.nvSlot k).state != 2 | none => true
  s.nvStart bad (updCmd 5 s.sys.boot.slot 0 [])
def State.doUpdateSelect (s : State) (k : Nat) : State := s.nvStart ((s.nvSlot k).state != 4) (updCmd 6 k 0 [])

def State.objId (s : State) : Nat := s.fld nvstPage NVST_OBJ_ID_ID
def State.objHandle (s : State) : Nat := s.fld nvstPage NVST_OBJ_HANDLE_HANDLE
def idGood (id : Nat) : Bool := 1 ≤ id && id ≤ 0xFFFFFFFD
def objCmd (op id : Nat) (idx h : Nat) (data : List Byte) : NvCmd := { obj := true, op := op, slot := h, idx := idx, id := id, data := data }

/-- OBJECT_WRITE: LENGTH bytes of the buffer. -/
def State.doObjectWrite (s : State) : State :=
  let h := s.objHandle
  let n := s.fld nvstPage NVST_OBJ_LEN_LENGTH
  s.nvStart (!idGood s.objId || !s.hostBuf h || poolSize (hPool h) < n) (objCmd 1 s.objId 0 h (s.svc.poolMem.read (handleAt h) n))
/-- OBJECT_READ of an object, or of a journal page with ID 0xFFFF_FFFE (R456). -/
def State.doObjectRead (s : State) : State :=
  let id := s.objId
  s.nvStart (!(idGood id || id == 0xFFFFFFFE) || !s.hostBuf s.objHandle)
    (objCmd 2 id (s.fld nvstPage NVST_OBJ_INDEX_INDEX) s.objHandle [])
def State.doObjectDelete (s : State) : State := s.nvStart (!idGood s.objId) (objCmd 3 s.objId 0 0 [])

/-- A journal page of 4 KB: header of 64 bytes (sequence 8, stamp 14, count 4, CRC-32C 4 over the records; DESIGN CHOICE, log 50), its records
and zeros. -/
def State.journalPage (s : State) (i : Nat) : Option (List Byte) :=
  s.sys.nv.journal[i]?.map fun recs =>
    let body := recs.flatMap id
    let head := leBytes 8 (s.sys.nv.journalSeq - 1 - i) ++ (body.take 14 ++ zeros (14 - (body.take 14).length)) ++ leBytes 4 recs.length ++
      leBytes 4 (crc32c body).toNat
    head ++ zeros (64 - head.length) ++ body ++ zeros (4032 - body.length)

/-- Put the result of a read into the buffer and its length into OBJ_LEN. -/
def State.objAnswer (s : State) (h : Nat) (b : List Byte) : State :=
  if poolSize (hPool h) < b.length then s.nvRefuse true |>.nvDone true 3
  else
    let s := s.onSvc fun v => { v with poolMem := v.poolMem.write (handleAt h) b }
    (s.setFld nvstPage NVST_OBJ_LEN_LENGTH b.length).nvDone true 0

/-- An object's new copy, one sequence number higher (R451). -/
def State.objCommit (s : State) (id : Nat) (body : List Byte) (deleted : Bool) : State :=
  let q := match mget none s.sys.nv.objs id with | some o => o.seq + 1 | none => 0
  s.nvErase.onNv fun n => { n with objs := mset none n.objs id (some { seq := q, body := body, deleted := deleted }) }

def State.objectDone (s : State) (c : NvCmd) : State :=
  match c.op with
  | 1 => if s.sys.nv.spare < 1024 then s.nvDone true 2 else (s.objCommit c.id c.data false).nvDone true 0
  | 2 =>
    if c.id = 0xFFFFFFFE then
      match s.journalPage c.idx with
      | some b => s.objAnswer c.slot b
      | none => s.nvDone true 1
    else match mget none s.sys.nv.objs c.id with
      | some o => if o.deleted then s.nvDone true 1 else s.objAnswer c.slot o.body
      | none => s.nvDone true 1
  | _ =>
    match mget none s.sys.nv.objs c.id with
    | some o => if o.deleted then s.nvDone true 1
      else if s.sys.nv.spare < 1024 then s.nvDone true 2 else (s.objCommit c.id [] true).nvDone true 0
    | none => s.nvDone true 1

/-- FINISH: the slot header is written with values the spec does not derive from the pages (free values, log 84), the image is
verified, and the slot becomes TRIAL; a failed verification frees the copy. -/
def State.finishDone (s : State) (k : Nat) : State :=
  let (v, s) := s.fresh
  let (w, s) := s.fresh
  let x := s.nvSlot k
  let total := ((mvals x.pages).flatMap id).length
  let s := s.setNvSlot k { x with svn := v.toNat % 65536, length := v.toNat / 65536 % (total + 1), mw := w.toNat % 2 ^ 32, uc := w.toNat / 2 ^ 32 }
  if s.slotGood k then (s.setSlotState k 2).nvDone false 0
  else ((s.setNvSlot k NvSlot.empty).journalNote 4).nvDone false 4

def State.updateDone (s : State) (c : NvCmd) : State :=
  let k := c.slot
  match c.op with
  | 1 => ((s.nvErase.setNvSlot k { NvSlot.empty with state := 1 }).journalNote 4).nvDone false 0
  | 2 =>
    let x := s.nvSlot k
    (s.setNvSlot k { x with pages := mset [] x.pages c.idx c.data }).nvDone false 0
  | 3 => s.finishDone k
  | 4 => ((s.setNvSlot k NvSlot.empty).journalNote 4).nvDone false 0
  | 5 =>
    let s := s.each [0, 1] fun s j => if j ≠ k && (s.nvSlot j).state = 3 then s.setSlotState j 4 else s
    ((s.onBoot fun b => { b with trialEnd := none }).setSlotState k 3).nvDone false 0
  | _ => (s.setSlotState k 2).nvDone false 0

/-- The new copy that a command writes fails its verification (R451 step 4): it is freed, the previous copy stands, and RESULT is 4. -/
def State.verifyFailed (s : State) (c : NvCmd) : State :=
  if c.obj then s.nvErase.nvDone true 4 else ((s.setNvSlot c.slot NvSlot.empty).journalNote 4).nvDone false 4

/-- NV_COMMAND_DONE: the oldest window command under way finishes. `verified`: what it wrote reads back right (R451 step 4), which object
writes and deletions and FINISH ask. -/
def State.doNvCommandDone (s : State) (verified : Bool) : State :=
  match s.sys.nv.cmds with
  | c :: _ =>
    let checks : Bool := if c.obj then c.op != 2 else c.op == 3
    (if checks && !verified then s.verifyFailed c else if c.obj then s.objectDone c else s.updateDone c).showNv
  | [] => s

/-! ### Diagnostics, fuses, checkpoint copies, journal, refresh (R450, R455 to R457, R460) -/

/-- DIAG_RUN: in bivouac mode only; islands 0 to 50. -/
def State.doDiagRun (s : State) (i : Nat) : State :=
  let b := s.sys.boot
  if !b.bivouac || 50 < i || b.diag.isSome then s.nvRefused true
  else
    let s := ((s.onBoot fun b => { b with diag := some i }).setRst i 0).nvRefused false
    (s.setFld nvstPage NVST_DIAG_STATUS_RESULT 1).setFld nvstPage NVST_DIAG_STATUS_ISLAND i

def State.doDiagDone (s : State) (ok : Bool) : State :=
  match s.sys.boot.diag with
  | some i =>
    let s := (s.onBoot fun b => { b with diag := none }).setRst i 1
    s.setFld nvstPage NVST_DIAG_STATUS_RESULT (if ok then 2 else 3)
  | none => s

/-- SVN_RAISE: refused unless above the floor and no higher than the running slot's SVN. -/
def State.doSvnRaise (s : State) (floor : Nat) : State :=
  let ok : Bool := s.sys.nv.svnFloor < floor && (match s.runningSlot with | some k => floor ≤ (s.nvSlot k).svn | none => false)
  if ok then ((s.onNv fun n => { n with svnFloor := floor }).setFld nvstPage NVST_SVN_STATUS_SVN_FLOOR floor).nvRefused false
  else s.nvRefused true

/-- NV_CKPT_COPY_DONE: the copy commits. -/
def State.doNvCkptCopyDone (s : State) : State :=
  match s.sys.nv.ckptCopy with
  | some (i, k) =>
    let s := s.nvErase.onNv fun n => { n with ckpt := n.ckpt.set i k, ckptCopy := none }
    s.countRaise nvstPage 0xD8 6
  | none => s

/-- The open page is programmed; a full journal erases its oldest block of 64 pages (R456). -/
def State.programJournal (s : State) : State :=
  let n := s.sys.nv
  let s := s.onNv fun n => { n with
    journal := n.openPage.take 126 :: n.journal, openPage := n.openPage.drop 126, openAt := s.now, journalSeq := n.journalSeq + 1 }
  if 65536 < n.journal.length + 1 then
    ((s.onNv fun n => { n with journal := n.journal.take (n.journal.length - 64) }).nvErase).raise nvstPage 7
  else s

/-- JOURNAL_PAGE_PROGRAM: when the page is full, and once every second. -/
def State.doJournalPageProgram (s : State) : State :=
  let n := s.sys.nv
  if n.powerFail || !n.mounted || n.openPage.isEmpty || (n.openPage.length < 126 && s.now < n.openAt + nsPerSec) then s else s.programJournal

/-- NV_REFRESH_SCAN: the page had `corrected` bits corrected in its worst sector, was programmed more than three years ago (`old`), and its
block has reached its last erase (`retired`). -/
def State.doNvRefreshScan (s : State) (corrected : Nat) (old retired : Bool) : State :=
  if s.sys.nv.powerFail || !s.sys.nv.mounted then s
  else
    let s := if 40 < corrected then s.nvErase.countRaise nvstPage 0xC0 0 else if old then s.nvErase else s
    let s := if retired then
        let n := s.sys.nv.spare - 1
        let s := s.onNv fun x => { x with spare := n }
        if s.sys.nv.spare < 1024 then s.raise nvstPage 2 else s
      else s
    s.showNv

end Sys2Proof.Machine
end

