-- ==== Sys2Proof/Machine/Power.lean ====
section
/-! DEFINITION. Reset commands (R421, R427 to R430, R437), supplies and pins (R466 to R473), board management (R476, R477), and the
slow-domain copies (R15, R393). -/

namespace Sys2Proof.Machine

/-! ### Reset commands -/

/-- Cause that LAST_RESET records for who wrote RESET_CTL (R437). -/
def resetCause (w : Who) : Nat := match w with | .debug => 4 | _ => 3

/-- A store of firmware to a guarded register is denied (R364). -/
def State.guardedRun (s : State) (w : Who) (page off : Nat) (run : State → State) : State :=
  match w with
  | .fw c _ => if s.drives c then s.fwDenied c page off 2 7 else s
  | _ => if s.pageDark page then s.count hostPage 0xC0 else run s

/-- COLD_RESET_CMD. -/
def State.doColdResetCmd (s : State) (w : Who) : State :=
  s.guardedRun w fltcPage 0xE00 fun s => s.coldReset (resetCause w)

/-- WARM_RESET_CMD: after VIN12 returned only a cold reset ends the fatal state (R467). -/
def State.doWarmResetCmd (s : State) (w : Who) : State :=
  s.guardedRun w fltcPage 0xE00 fun s =>
    if s.fatal && s.sys.power.vinReturned then s.fltcRefused true else (s.fltcRefused false).warmReset (resetCause w)

/-- The reset of a service cluster (R345, R427): the lease is revoked first when it holds it, and an unconfirmed trial fails (R448). -/
def State.clusterReset (s : State) (c : Nat) : State :=
  let s := if s.isHolder c then s.leaseRevoke 0 else s
  let s := s.trialFail
  ((s.blockStart (clusterIsland c) true none).setRole c 0).setCause c 0

/-- An isolated target returns to service by a reset, with CONTAINS at 0 (R421). -/
def State.releaseTarget (s : State) (t : Nat) : State :=
  let s := (s.onBlock t fun b => { b with contains := [] }).syncContains t
  if t = 49 || t = 50 then s.clusterReset (t - 49) else s.blockStart t false none

/-- BLOCK_RESET_CMD, SCOPE 3: targets 0 to 51 but 49 and 50; refused while the target resets, is isolated or is held in reset. -/
def State.doBlockResetCmd (s : State) (w : Who) (t : Nat) : State :=
  s.guardedRun w fltcPage 0xE00 fun s =>
    let b := s.block t
    if 51 < t || t = 49 || t = 50 || b.resetting || b.isolated || !s.islandRuns t then s.fltcRefused true
    else (s.fltcRefused false).blockStart t true none

/-- CLUSTER_RESET_CMD, SCOPE 4: on an isolated cluster it acts as SCOPE 5. -/
def State.doClusterResetCmd (s : State) (w : Who) (t : Nat) : State :=
  s.guardedRun w fltcPage 0xE00 fun s =>
    let b := s.block t
    if (t ≠ 49 && t ≠ 50) || b.resetting then s.fltcRefused true
    else if b.isolated then (s.fltcRefused false).releaseTarget t
    else if !s.islandRuns t then s.fltcRefused true
    else (s.fltcRefused false).clusterReset (t - 49)

/-- RELEASE_ISOLATED, SCOPE 5. -/
def State.doReleaseIsolated (s : State) (w : Who) (t : Nat) : State :=
  s.guardedRun w fltcPage 0xE00 fun s =>
    if 51 < t || !(s.block t).isolated then s.fltcRefused true else (s.fltcRefused false).releaseTarget t

/-- RECORD_CLR_FATAL: refused while FATAL is 1. -/
def State.doRecordClrFatal (s : State) : State :=
  if s.fatal then s.fltcRefused true
  else
    let s := s.each [0x88, 0x8C, 0x90] fun s o => s.wr (regA fltcPage o) 0
    s.fltcRefused false

/-- RECORD_CLR_LAST. -/
def State.doRecordClrLast (s : State) : State := (s.wr (regA fltcPage 0x94) 0).fltcRefused false

/-! ### Supplies and pins (R466, R467, R471) -/

/-- RESET_N has been low for `ns`: 10 µs or more starts a cold reset, less than 1 µs is ignored, and between the two either may happen. -/
def State.doResetNAssert (s : State) (ns : Nat) : State :=
  if !s.sys.power.vsb || s.sys.power.resetNLow || ns < 1000 then s
  else
    let (v, s) := if ns < 10000 then s.fresh else (1, s)
    if v.getLsbD 0 then
      ((s.coldReset 2).onPower fun p => { p with resetNLow := true }).onBoot fun b => { b with phase := 0 }
    else s

/-- RESET_N rises: power-up runs from step 3 of R454. -/
def State.doResetNRelease (s : State) : State :=
  if !s.sys.power.resetNLow then s
  else
    (s.onPower fun p => { p with resetNLow := false }).onBoot fun b => { b with phase := if s.sys.power.vin then 1 else b.phase }

/-- The NV controller at a power failure (R452): a window command ends with RESULT 3, a copy under way is abandoned, the journal's open
page is programmed, and nothing more is written. -/
def State.nvPowerFail (s : State) : State :=
  let s := s.sys.nv.cmds.foldl (fun (s : State) c => s.nvDone c.obj 3) s
  let s := if s.sys.nv.powerFail || !s.sys.nv.mounted || s.sys.nv.openPage.isEmpty then s else s.programJournal
  s.onNv fun n => { n with powerFail := true, ckptCopy := none }

/-- POWER_FAIL_INPUT (R426, R452, R467). In standby the pin is ignored (R470). The fatal path acts, and then the flash is protected. -/
def State.doPowerFailInput (s : State) (c : PowerFailCause) : State :=
  let on : Bool := match c with | .pin => s.sys.power.rails | .vin12 => !s.sys.power.vin && !s.sys.power.below6 | .vsb33 => s.sys.power.vsb
  if !on then s
  else
    let s := (settle (s.raiseLive fltcPage 5)).nvPowerFail
    match c with
    | .vsb33 => s.onPower fun p => { p with vsb := false }
    | _ => s

/-- VIN12_LOW: below 10.8 V the regulators turn off; the islands lose their state, and the fatal record stands. -/
def State.doVin12Low (s : State) : State :=
  if !s.sys.power.vin then s
  else
    let fail := s.sys.nv.powerFail
    let s := (s.railsOff.onPower fun p => { p with vin := false, below6 := false }).wipe
    s.onNv fun n => { n with powerFail := fail }

/-- VIN12_OFF: below 6 V the module awaits a new power-up. -/
def State.doVin12Off (s : State) : State :=
  if s.sys.power.vin then s else (s.onPower fun p => { p with below6 := true }).onBoot fun b => { b with phase := 0 }

/-- VIN12_RETURN without falling below 6 V: the regulators restart, and steps 3 to 5 run with the fatal state holding. -/
def State.doVin12Return (s : State) : State :=
  let p := s.sys.power
  if !p.vsb || p.vin || p.below6 then s
  else
    (s.onPower fun p => { p with vin := true, vinReturned := s.fatal }).onBoot fun b => { b with phase := if p.resetNLow then 0 else 1 }

/-! ### Board management (R476, R477) -/

/-- An answer of the SMBus target, which runs while VSB33 is present. -/
def State.bmcAnswer (s : State) (b : List Byte) : State := if s.sys.power.vsb then s.emit (.bmc b) else s

def State.doBmcReadIdentity (s : State) : State := s.bmcAnswer (leBytes 8 s.sys.nv.moduleId)
def State.doBmcReadDevInfo (s : State) : State := s.bmcAnswer (leBytes 4 (s.rd (regA devcPage 0x80)).toNat)
def State.doBmcReadStatus (s : State) : State :=
  let p := s.sys.power
  let bit := fun (b : Bool) (n : Nat) => if b then n else 0
  s.bmcAnswer (leBytes 1 (bit p.vin 1 + bit p.rails 2 + bit s.fatal 4 + 8 * s.sys.boot.phase))
def State.doBmcReadTemp (s : State) : State := s.bmcAnswer (leBytes 2 (s.sys.power.temp % 256 + 256 * (s.sys.power.tempIsland % 64)))
def State.doBmcReadVin12 (s : State) : State := s.bmcAnswer (leBytes 2 s.sys.power.vin12mV)
def State.doBmcReadVin12Current (s : State) : State := s.bmcAnswer (leBytes 2 s.sys.power.vin12dA)
def State.doBmcReadVsb33 (s : State) : State := s.bmcAnswer (leBytes 2 s.sys.power.vsb33mV)
def State.doBmcReadPower (s : State) : State := s.bmcAnswer (leBytes 2 s.sys.power.powerW)
def State.doBmcReadFatal (s : State) : State :=
  s.bmcAnswer ([0x88, 0x8C, 0x90].flatMap fun o => leBytes 4 (s.rd (regA fltcPage o)).toNat)
def State.doBmcReadLastReset (s : State) : State := s.bmcAnswer (leBytes 1 ((s.rd (regA fltcPage 0x94)).toNat % 128))
def State.doBmcReadAlertStatus (s : State) : State := s.bmcAnswer (leBytes 1 s.sys.power.alert)

/-- A write without a correct PEC byte is not acknowledged and changes nothing. -/
def State.bmcWrite (s : State) (ok : Bool) (run : State → State) : State :=
  if !s.sys.power.vsb then s else if ok then run s else s.emit .nack

/-- BMC_CLEAR_ALERT_STATUS: SMB_ALERT_N rises once every bit is 0. -/
def State.doBmcClearAlert (s : State) (v : Byte) (pec : Bool) : State :=
  s.bmcWrite pec fun s =>
    let a := (BitVec.ofNat 8 s.sys.power.alert &&& ~~~ v).toNat
    let was := s.sys.power.alert
    let s := s.onPower fun p => { p with alert := a }
    if was ≠ 0 && a = 0 then s.emit (.pin "SMB_ALERT_N" true) else s

def State.doBmcColdReset (s : State) (v : Byte) (pec : Bool) : State := s.bmcWrite (pec && v == 0xC1) fun s => s.coldReset 5

def State.doSmbAlertResponse (s : State) : State :=
  if s.sys.power.vsb && s.sys.power.alert != 0 then s.emit (.smbAlert 0x4C) else s

/-- BMC_READING_REFRESH: every 1 ms (R476). The temperature is that of FLTC.TEMP_MAX; while VIN12 is off it is the groundsheet island's own
(`temp`, of island 53: a reading of another island does not come then), and current and power read 0. -/
def State.doBmcReadingRefresh (s : State) (temp island vin cur vsb pow : Nat) : State :=
  if !s.sys.power.vsb || !onceIn 1000000 s.sys.power.readAt s.now || (!s.sys.power.vin && island != 53) then s
  else
    let (t, i) := if s.sys.power.vin then (s.fld fltcPage FLTC_TEMP_MAX_TEMP, s.fld fltcPage FLTC_TEMP_MAX_ISLAND) else (temp, 53)
    s.onPower fun p => { p with
    readAt := some s.now, temp := t, tempIsland := i, vin12mV := vin, vin12dA := if p.vin then cur else 0, vsb33mV := vsb
    powerW := if p.vin then pow else 0 }

/-! ### Slow-domain copies (R15, R57, R59, R374, R393) -/

/-- LSTATE as the copy shows it: 0 dark while the transmitter is dark, 1 once lit (R57). -/
def State.lstateShown (s : State) (e l : Nat) : Nat :=
  let x := s.lane (laneKey e l)
  let lit : Bool := match s.lportOfLane e l with | some lp => (s.pitch lp).lit | none => false
  if x.lstate ≤ 2 && !lit then 0 else if x.lstate = 0 then 1 else x.lstate

def State.copyEngine (s : State) (e : Nat) : State :=
  let pg := oengPage e
  let s := (s.setFld pg OENG_OE_STATUS_TEMP (s.island (17 + e)).temp).setFld pg OENG_OE_STATUS_UC_STATE (s.ucState e)
  let s := (s.setFld pg OENG_OE_STATUS_SPARE_USED (s.spareUsed e)).setFld pg OENG_OE_STATUS_SPARES_FREE
    ((List.range 4).filter (s.spareFree e)).length
  let s := s.each (List.range 8) fun s k =>
    let st := fun m => (s.pitch (4 * (8 * e + k) + m)).state
    let f := fun (x : Fld) => x.sh (0x20 * k)
    (((s.setFld pg (f OENG_PITCH_STATE_SUB0) (st 0)).setFld pg (f OENG_PITCH_STATE_SUB1) (st 1)).setFld pg (f OENG_PITCH_STATE_SUB2)
      (st 2)).setFld pg (f OENG_PITCH_STATE_SUB3) (st 3)
  s.each (List.range 32) fun s l =>
    let x := s.lane (laneKey e l)
    let f := fun (y : Fld) => y.sh (0x10 * l)
    let s := (s.setFld pg (f OENG_LANE_OPT_TX_PWR) x.txPwr).setFld pg (f OENG_LANE_OPT_RX_PWR) x.rxPwr
    let s := ((s.setFld pg (f OENG_LANE_LASER_BIAS) x.bias).setFld pg (f OENG_LANE_LASER_SRC) x.src).setFld pg (f OENG_LANE_LASER_LSTATE)
      (s.lstateShown e l)
    let s := s.setFlag pg (f OENG_LANE_LASER_PENDING) x.pending
    ((s.setFld pg (f OENG_LANE_CAL_DELAY_TX_DELAY) x.txDelay).setFld pg (f OENG_LANE_CAL_DELAY_RX_DELAY) x.rxDelay).setFld pg
      (f OENG_LANE_CAL_ASYM_ASYM) x.asym

/-- A parked engine: some port uses its lanes and every sub-port in use is PARKED. The spec defines the term nowhere (R15; DEDUCED, log
103). -/
def State.engineParked (s : State) (e : Nat) : Bool :=
  let l := (List.range 8).flatMap fun k => s.lportsOf (8 * e + k)
  !l.isEmpty && l.all fun lp => (s.pitch lp).state == 6

/-- POWER as the copy shows it: 3 for a parked engine that is on. -/
def State.powerShown (s : State) (i : Nat) : Nat :=
  let p := (s.island i).power
  if 17 ≤ i && i < 49 && p == 2 && s.engineParked (i - 17) then 3 else p

def State.copyIsland (s : State) (i : Nat) : State :=
  let x := s.island i
  let f := fun (y : Fld) => y.sh (4 * i)
  let s := (s.setFld devcPage (f DEVC_ISLAND_STATE_POWER) (s.powerShown i)).setFld devcPage (f DEVC_ISLAND_STATE_RST) x.rst
  ((s.setFlag devcPage (f DEVC_ISLAND_STATE_CLK_LOCK) x.clkLock).setFlag devcPage (f DEVC_ISLAND_STATE_DT_LOCK) x.dtLock).setFld devcPage
    (f DEVC_ISLAND_STATE_SKEW) x.skew

/-- STACK_STATE of a stack (R177). TEMP is the junction reading of its controller's island (DEDUCED, log 122). -/
def State.copyStack (s : State) (d : Nat) : State :=
  let x := s.stackSt d
  let f := fun (y : Fld) => y.sh (4 * d)
  let s := (s.setFlag (deepPage 8) (f DEEPT_STACK_STATE_IN_SERVICE) (!x.out)).setFlag (deepPage 8) (f DEEPT_STACK_STATE_REFRESH_2X) x.doubled
  (s.setFlag (deepPage 8) (f DEEPT_STACK_STATE_FAULT) x.fault).setFld (deepPage 8) (f DEEPT_STACK_STATE_TEMP) (s.island (9 + d)).temp

/-- Milliseconds left of an interval, as a field of `w` bits shows them. -/
def State.remainMs (s : State) (t : Nat) : Nat := min 1023 ((t - s.now) / 1000000)

def State.copyService (s : State) : State :=
  let l := s.svc.lease
  let s := (s.setFld svccPage SVCC_LEASE_STATUS_HOLDER (match l.holder with | some c => c + 1 | none => 0)).setFld svccPage
    SVCC_LEASE_STATUS_EPOCH l.epoch
  let s := s.setFld svccPage SVCC_LEASE_STATUS_REMAIN_MS (if l.holder.isSome then s.remainMs l.expiry else 0)
  let t := s.svc.twin
  let s := (s.setFld twinPage TWIN_TWIN_STATUS_ROLE t.role).setFlag twinPage TWIN_TWIN_STATUS_LINK_UP t.linkUp
  let s := (s.setFld twinPage TWIN_TWIN_STATUS_PEER_ROLE t.peerRole).setFlag twinPage TWIN_TWIN_STATUS_HOLD_IN t.holdIn
  (s.setFlag twinPage TWIN_TWIN_STATUS_HOLD_OUT t.holdOut).setFld twinPage TWIN_TWIN_STATUS_REMAIN_MS
    (if t.role = 1 then s.remainMs t.expiry else 0)

def State.copyBoot (s : State) : State :=
  let b := s.sys.boot
  let s := ((s.setFld nvstPage NVST_BOOT_STATUS_PHASE b.phase).setFld nvstPage NVST_BOOT_STATUS_SLOT b.slot).setFld nvstPage
    NVST_BOOT_STATUS_CAUSE b.cause
  s.showNv

/-- The hottest of islands 0 to 52: temperature and island. -/
def State.hottest (s : State) : Nat × Nat :=
  (List.range 53).foldl (fun (a : Nat × Nat) i => if a.1 < (s.island i).temp then ((s.island i).temp, i) else a) (0, 0)

/-- SLOW_COPY_REFRESH, at an edge of the slow clock: the copies show the state as it stood just before the edge; AGE restarts at 0. -/
def State.doSlowCopyRefresh (s : State) : State :=
  if !s.sys.power.vsb || !s.slowEdge then s
  else
    let s := s.onSys fun y => { y with slowAt := s.now }
    let s := s.each (List.range 54) fun s i => (s.copyIsland i).syncContains i
    let s := s.each (List.range 32) fun s e => s.copyEngine e
    let s := s.each (List.range 8) fun s d => s.copyStack d
    let (t, i) := s.hottest
    let s := (s.setFld fltcPage FLTC_TEMP_MAX_TEMP t).setFld fltcPage FLTC_TEMP_MAX_ISLAND i
    s.copyService.copyBoot

end Sys2Proof.Machine
end

