-- ==== Sys2Proof/Machine/Refuse.lean ====
section
/-! DEFINITION. Which register writes a page refuses (R388 and the register tables of every chapter): `writeBad b n …` compares the
registers before (`b`) and after (`n`) a write, both with every write of the shadows and hold buffers in place. -/

namespace Sys2Proof.Machine

/-- Outside lo to hi. -/
def outside (lo hi n : Nat) : Bool := n < lo || hi < n

/-! ### Page by page -/

/-- A sum of R165 that the write moves beyond its limit. -/
def guarBad (b n : State) (sl : Nat) : Option (Nat × Nat) := guarFail (guarRows b n sl)

/-- PORT (R90, R71, R75, R83, R145). -/
def portBad (b n : State) (p off : Nat) : Bool :=
  let pg := portPage p
  let f := fun (x : Fld) (o : Nat) => n.fld pg (x.sh o)
  if off < 0x180 then
    let o := (off - 0x80) / 0x40 * 0x40
    match off - o with
    | 0x80 => outside 1518 12288 (f PORT_MAC_CFG_MAX_FRAME o) || f PORT_MAC_CFG_PAUSE_MODE o == 3
    | 0x84 => (guarBad b n (p / 32)).isSome
    | 0x88 => f PORT_PAUSE_TIME_REFRESH o == 0 || f PORT_PAUSE_TIME_QUANTA o ≤ f PORT_PAUSE_TIME_REFRESH o
    | 0x8C => outside 1 10000 (f PORT_PAUSE_WD_WD_TIME o) || outside 1 10000 (f PORT_PAUSE_WD_RECOVERY o)
    | 0x94 => f PORT_VERIFY_CFG_VERIFY_LIMIT o == 0
    | _ => false
  else if off < 0xD00 then
    let o := (off - 0xC00) / 8 * 8
    f PORT_PFC_XOFF_HIGH_XOFF_HIGH o ≤ f PORT_PFC_XOFF_LOW_XOFF_LOW o
  else (guarBad b n (p / 32)).isSome

/-- OENG (R29, R38, R59, R62): modes that the variant lacks, HOLD_TIMEOUT, RETRY_LIMIT, and an enabled wake pattern that matches nothing. -/
def oengBad (n : State) (e off : Nat) : Bool :=
  let pg := oengPage e
  if off < 0x400 then
    let o := (off - 0x100) / 0x20 * 0x20
    match off - o with
    | 0x100 =>
      let m := n.fld pg (OENG_PORT_MODE_MODE.sh o)
      m == 6 || m == 7 || (n.fld pg OENG_OE_INFO_VARIANT == 0 && (m == 3 || m == 5))
    | 0x104 => 1000000 < n.fld pg (OENG_PORT_HOLD_HOLD_TIMEOUT.sh o)
    | 0x108 => n.fld pg (OENG_PORT_PITCH_RETRY_LIMIT.sh o) == 0
    | _ => false
  else
    let (mask, _, en) := n.wakePattern (8 * e + (off - 0x400) / 0x100) ((off - 0x400) % 0x100 / 0x20)
    en && mask == 0

/-- Enabled members of every group with EN = 1: group, slot. -/
def State.allMembers (s : State) : List (Nat × Nat) := s.groupsOn.flatMap fun g => (s.membersOn g).map fun i => (g, i)

/-- R235 for group `g`: its enabled members name different PHYs of one slice, of its PHY type where the PHY exists, and none that another
enabled group names. -/
def membersBad (n : State) (g : Nat) : Bool :=
  let phy := fun (x : Nat × Nat) => 4 * n.memberPort x.1 x.2 + n.memberPhy x.1 x.2
  let own := (n.membersOn g).map fun i => (g, i)
  let all := (n.allMembers.filter fun x => x.1 != g) ++ own
  let ps := own.map fun x => n.memberPort x.1 x.2
  let on := n.flag (flxePage g) FLXE_GRP_CFG_EN
  let type := n.fld (flxePage g) FLXE_GRP_CFG_PHY_TYPE
  (own.map phy).eraseDups.length != own.length ||
    (on && own.any fun x => (all.filter fun y => phy y == phy x).length != 1) ||
    ps.any (fun p => p / 32 != (ps.headD 0) / 32) ||
    own.any fun x =>
      let m := n.modeOf (n.memberPort x.1 x.2)
      n.memberPhy x.1 x.2 < phyCount m && phyType m != type

/-- FLXE 0 to 31 (R235, R237, R240, R261, R271): the calendar in use is not written, and a fabric port is no member. -/
def flxeBad (n : State) (g off : Nat) : Bool :=
  let pg := flxePage g
  if off = 0x80 then
    n.fld pg FLXE_GRP_CFG_PHY_TYPE == 3 || outside 1 1048574 (n.fld pg FLXE_GRP_CFG_GROUP_NUM) || membersBad n g
  else if off = 0x8C then outside 1 1000 (n.fld pg FLXE_CA_TIMEOUT_TIMEOUT)
  else if 0xA0 ≤ off && off < 0xC0 then
    let o := off - 0xA0
    outside 1 254 (n.fld pg (FLXE_MEMBER_PHY_NUM.sh o)) ||
      n.cellOn (n.fld pg (FLXE_MEMBER_PORT.sh o)) || membersBad n g
  else if 0x400 ≤ off then
    let inB := 0x900 ≤ off
    let w := n.rd (regA pg off)
    getBits w 12 2 == 3 || getBits w 28 2 == 3 || n.flag pg FLXE_GRP_STATUS_CAL_TX == inB
  else false

/-- R251 over the logical ports of slice `sl`, for one of them. -/
def foldBad (n : State) (sl q : Nat) : Bool :=
  let f := fun (x : Fld) (k : Nat) => n.fld (packPage sl) (x.sh (4 * k))
  let lp := 128 * sl + q
  f PACK_LPORT_PACK_FOLD_EN q == 1 &&
    (f PACK_LPORT_PACK_PACK_EN q == 0 ||
      ((List.range 128).any fun k =>
        k != q && f PACK_LPORT_PACK_FOLD_EN k == 1 && f PACK_LPORT_PACK_FOLD_TABLE k == f PACK_LPORT_PACK_FOLD_TABLE q) ||
      1 < (n.trunk.clients.filter fun (e : Nat × Client) => e.2.valid && e.2.lport == lp).length)

/-- PACK (R251, R261). -/
def packBad (n : State) (sl off : Nat) : Bool :=
  if off = 0x84 then n.fld (packPage sl) PACK_SAMPLE_CFG_MISS_SAMPLE_N == 0
  else if 0x300 ≤ off then false
  else
    let q := (off - 0x100) / 4
    n.fld (packPage sl) (PACK_LPORT_PACK_TRAIN_KB.sh (4 * q)) == 0 || foldBad n sl q

/-- XBAR 0 to 7 (R217, R221, R224, R229). -/
def xbarBad (n : State) (sl off : Nat) : Bool :=
  let pg := xbarPage sl
  if off = 0x80 then outside 1 8 (n.fld pg XBAR_XS_CFG_CT_START)
  else if off = 0x84 then outside 20 10000 (n.fld pg XBAR_RESEQ_CFG_TIMEOUT)
  else if off = 0x90 then 2111 < n.fld pg XBAR_VOQ_SEL_INDEX
  else
    let o := n.fld pg (XBAR_FWD_MODE_CLASS_OVR.sh (off - 0x100))
    (List.range 8).any fun c => o / 4 ^ c % 4 == 3

/-- DEEP 0 to 7, ranges (R160, R174): values that no sum makes wrong. -/
def deepRangeBad (n : State) (sl off : Nat) : Bool :=
  let pg := deepPage sl
  if off = 0x84 then outside 4096 262144 (n.fld pg DEEP_VOQ_CELLS_CELLS)
  else if off = 0x88 then outside 1024 65535 (n.fld pg DEEP_STAGE_WSTAGE) || outside 1024 65535 (n.fld pg DEEP_STAGE_RSTAGE)
  else if 0x400 ≤ off then
    let o := (off - 0x400) / 8 * 8
    n.fld pg (DEEP_WRED_P_EN.sh o) == 1 && n.fld pg (DEEP_WRED_TH_MAX_TH.sh o) ≤ n.fld pg (DEEP_WRED_TH_MIN_TH.sh o)
  else false

/-- FABR 0 to 7 (R271, R286, R288, R295). -/
def fabrBad (n : State) (sl off : Nat) : Bool :=
  let pg := fabrPage sl
  let k := (off - 0x100) / 0x20
  let o := 0x20 * k
  match off - o with
  | 0x100 => n.fld pg (FABR_LINK_CFG_CELL_EN.sh o) == 1 && !(n.groupsOf (32 * sl + k)).isEmpty
  | 0x104 =>
    outside 500 250000 (n.fld pg (FABR_LINK_RETRY_RETRY_TIMER.sh o)) ||
      n.fld (fabrPage 8) FABRM_RESEQ_CFG_TIMEOUT < 4 * n.localMax
  | _ =>
    2048 < sumOver (List.range 4) fun j =>
      n.fld pg (FABR_LINK_CREDIT_GRANT_LO.sh (o + 4 * j)) + n.fld pg (FABR_LINK_CREDIT_GRANT_HI.sh (o + 4 * j))

/-- Some link is ACTIVE. -/
def State.anyActive (s : State) : Bool := (List.range 256).any fun p => s.linkState p == 3

/-- FABR 8 (R264, R269, R276, R295). -/
def fabrMBad (b n : State) (off : Nat) : Bool :=
  let pg := fabrPage 8
  match off with
  | 0x84 => b.anyActive
  | 0x88 => b.anyActive
  | 0x8C => outside 10 100000 (n.fld pg FABRM_HELLO_CFG_INTERVAL) || outside 2 15 (n.fld pg FABRM_HELLO_CFG_DEAD_MULT)
  | 0x90 => n.fld pg FABRM_RESEQ_CFG_TIMEOUT < 4 * b.fld pg FABRM_PATH_RETRY_PATH_MAX
  | 0x9C => outside 100 60000 (n.fld pg FABRM_STREAM_CFG_STREAM_IDLE) || outside 1 1000 (n.fld pg FABRM_STREAM_CFG_HOLDDOWN)
  | _ => false

/-- Range of SLOTS of activity `a` of instance `i` (R326); none where SLOTS cannot be configured. -/
def slotRange (i a : Nat) : Option (Nat × Nat) :=
  if loomKindOf i a = 3 then none
  else if loomKindOf i a = 1 then some (0, 1024)
  else if i < 8 then (if a = 0 then some (820, 1024) else if a = 7 then some (0, 64) else none)
  else if i < 16 then none
  else if a = 0 then (if i < 18 then some (128, 512) else some (32, 256))
  else none

/-- LOOM (R326, R329, R330): a seed of 0, slots outside their range or unchangeable, and weft budgets beyond the slots that the warp
activities leave free. -/
def loomBad (b n : State) (i off : Nat) : Bool :=
  if off = 0x88 then n.rd (regA (loomPage i) 0x88) == 0
  else
    let a := (off - 0x100) / 0x10
    let x := n.loomSlots i a
    (match slotRange i a with
      | some (lo, hi) => outside lo hi x
      | none => x != b.loomSlots i a) ||
      1024 < (n.loomLayout i).foldl (· + ·) 0 + sumOver (List.range 8) fun a => if loomKindOf i a = 1 then n.loomSlots i a else 0

/-- TIME (R302, R308, R314, R316, R318, R320, R322). -/
def timeBad (n : State) (off : Nat) : Bool :=
  let f := fun (x : Fld) => n.fld timePage x
  if off = 0x100 then 4 < f TIME_PPS_OUT_CFG_SRC || outside 1 500000 (f TIME_PPS_OUT_CFG_WIDTH)
  else if off = 0x110 then 4 < f TIME_TOD_CFG_BAUD
  else if off = 0x11C then f TIME_FREF_CFG_OUT_SRC == 3
  else if 0x200 ≤ off && off < 0x400 then
    let o := (off - 0x200) / 0x80 * 0x80
    match off - o with
    | 0x200 => 24 < f (TIME_TB_CFG_KP.sh o) || 24 < f (TIME_TB_CFG_KI.sh o)
    | 0x204 => outside 1 4000000000 (f (TIME_TB_STEP_TH_STEP_TH.sh o))
    | 0x208 => outside 1 60000 (f (TIME_TB_TIMEOUT_OFS_TIMEOUT.sh o)) || f (TIME_TB_TIMEOUT_SW_SLEW.sh o) == 0
    | _ => false
  else if 0x400 ≤ off && off < 0x800 then 4 < f (TIME_TS_CFG_TS_TB.sh (off - 0x400))
  else if 0x800 ≤ off then
    1000000 < f (TIME_ARR_CFG_LINK_DELAY.sh (off - 0x800)) || f (TIME_ARR_CFG_BREACH_LIMIT.sh (off - 0x800)) == 0
  else false

/-- TWIN (R358, R359, R375): MODE stays while the module holds a role, and SHARED_MAP while twin mode is on. -/
def twinBad (b n : State) (off : Nat) : Bool :=
  let f := fun (x : Fld) => n.fld twinPage x
  if off = 0x80 then
    let m := f TWIN_TWIN_CFG_MODE
    let role := b.fld twinPage TWIN_TWIN_STATUS_ROLE
    m == 3 || (m != b.fld twinPage TWIN_TWIN_CFG_MODE && (role == 1 || role == 2))
  else if off = 0x84 then
    let l := f TWIN_TWIN_TIMING_LEASE_MS
    outside 1 (l / 2) (f TWIN_TWIN_TIMING_RENEW_MS) || outside 50 1000 l || f TWIN_TWIN_TIMING_GUARD_MS == 0
  else b.fld twinPage TWIN_TWIN_CFG_MODE != 0

/-- SVCC (R348, R353, R357, R374). -/
def svccBad (n : State) (off : Nat) : Bool :=
  let f := fun (x : Fld) => n.fld svccPage x
  match off with
  | 0x84 =>
    let l := f SVCC_LEASE_CFG_LEASE_MS
    outside 20 1000 l || f SVCC_LEASE_CFG_GUARD_MS == 0 || outside 1 (l / 2) (f SVCC_LEASE_CFG_RENEW_MS)
  | 0x94 => outside 10 10000 (f SVCC_CKPT_CFG_PERIOD_MS)
  | 0x9C => 1000 < f SVCC_SWAP_CFG_PERIOD_H || outside 1 1000 (f SVCC_SWAP_CFG_WINDOW_MIN)
  | 0xE04 => 1000 < f SVCC_INJ_LIMIT_PORT_RATE || 10000 < f SVCC_INJ_LIMIT_DEV_RATE
  | _ => false

/-- HOST (R396, R399, R412). -/
def hostBad (b n : State) (off : Nat) : Bool :=
  let f := fun (x : Fld) => n.fld hostPage x
  if off = 0x90 then outside 1 1000 (f HOST_HARVEST_CFG_PERIOD)
  else if 0x200 ≤ off && off < 0xB40 then
    let r := (off - 0x200) / 0x40
    let o := 0x40 * r
    let on : Bool := b.flag hostPage (HOST_RING_CFG_EN.sh o) || b.flag hostPage (HOST_RING_CFG_RUNNING.sh o)
    match off - o with
    | 0x200 => on || f (HOST_RING_BASE_LO_BASE.sh o) % 4096 != 0
    | 0x204 => on
    | 0x208 =>
      let l := f (HOST_RING_CFG_LOG2.sh o)
      (on && l != b.fld hostPage (HOST_RING_CFG_LOG2.sh o)) || (if r < 32 then outside 6 12 l else 10 < l) ||
        (r < 16 && f (HOST_RING_CFG_WEIGHT.sh o) == 0)
    | 0x214 => on || f (HOST_WB_LO_ADDR.sh o) % 8 != 0
    | 0x20C => !b.hostIdxOk r (n.rd (regA hostPage off)).toNat
    | 0x218 => on
    | 0x21C => f (HOST_COAL_COUNT.sh o) == 0 || f (HOST_COAL_TIME.sh o) == 0
    | _ => false
  else if 0xC00 ≤ off && off < 0xC14 then outside 1 16384 (f (HOST_FIFO_CFG_QUOTA.sh (off - 0xC00)))
  else false

/-- PERF (R406, R407, R414). -/
def perfBad (n : State) (i off : Nat) : Bool :=
  let f := fun (x : Fld) => n.fld (perfPage i) x
  if off = 0x80 then outside 100 1000000 (f PERF_PERF_CFG_PERIOD)
  else
    let o := (off - 0x100) / 0x20 * 0x20
    match off - o with
    | 0x100 => 0x0D < f (PERF_EVSEL_EVENT.sh o)
    | 0x104 => f (PERF_FILTER_PRIV.sh o) == 0 || 11 < f (PERF_FILTER_MASTER.sh o)
    | 0x10C => f (PERF_RANGE_LIMIT_PAGE.sh o) < f (PERF_RANGE_BASE_PAGE.sh o)
    | _ => false

/-- The page refuses the write that made `n` of `b`, both as written. -/
def writeBad (b n : State) (t : PageTy) (i off : Nat) : Bool :=
  match t with
  | .port => portBad b n i off
  | .oeng => oengBad n i off
  | .flxeG => flxeBad n i off
  | .pack => packBad n i off
  | .xbarS => xbarBad n i off
  | .deepS => deepRangeBad n i off || (guarBad b n i).isSome
  | .fabrS => fabrBad n i off
  | .fabrM => fabrMBad b n off
  | .loom => loomBad b n i off
  | .time => timeBad n off
  | .tbls =>
    if off = 0x88 then n.fld tblsPage TBLS_MEMBER_CFG_MEMBER_TIMEOUT == 0
    else if off = 0x8C then outside 100 60000 (n.fld tblsPage TBLS_SCRUB_CFG_SCRUB_PERIOD) else false
  | .clsf =>
    let pg := clsfPage i
    if 0x800 ≤ off && off < 0xA00 then
      let o := 0x800 + (off - 0x800) / 16 * 16
      actionRefused ((List.range 4).map fun k => n.rd (regA pg (o + 4 * k)))
    else if off = 0x204 || off = 0x304 then actionRefused [n.rd (regA pg off)]
    else if off = 0xE00 then
      16384 < n.fld pg CLSF_FW_RULE_RANGE_FW_BASE + n.fld pg CLSF_FW_RULE_RANGE_FW_COUNT
    else false
  | .schd => off == 0x84 && outside 100 1000000 (n.fld (schdPage i) SCHD_SAMPLE_CFG_PERIOD)
  | .svcc => svccBad n off
  | .twin => twinBad b n off
  | .host => hostBad b n off
  | .perf => perfBad n i off
  | .fltc =>
    if off = 0x80 then n.fld fltcPage FLTC_FLTC_CFG_CONTAIN_SPAN == 0 else off == 0x84 && 10000 < n.fld fltcPage FLTC_GUY_CFG_SETTLE_MS
  | .slce => outside 1 10000 (n.fld (slcePage i) SLCE_SLCE_CFG_HANG_US)
  | .nvst =>
    if off = 0x80 then outside 7 365 (n.fld nvstPage NVST_NV_CFG_REFRESH_DAYS) || outside 180 10080 (n.fld nvstPage NVST_NV_CFG_NV_CKPT_MIN)
    else off == 0x84 && n.fld nvstPage NVST_BOOT_STATUS_TRIAL_S < 60
  | .metr | .devc | .pool | .xbarM | .deepT | .flxeC | .msixTable | .msixPba => false

/-! ### Where a page says that it refused -/

/-- The REFUSED bit for a write of a register of a page: of the sub-port on PORT, of the port block on OENG, of the firmware rule
window on CLSF, of the page elsewhere. -/
def refusedAt (t : PageTy) (off : Nat) : Option Fld :=
  match t with
  | .port =>
    let m := if off < 0x180 then (off - 0x80) / 0x40 else if off < 0xD00 then (off - 0xC00) / 0x40 else (off - 0xD00) / 0x20
    some (PORT_MAC_CFG_REFUSED.sh (0x40 * m))
  | .oeng =>
    if 0x100 ≤ off && off < 0x200 then some (OENG_PORT_MODE_REFUSED.sh ((off - 0x100) / 0x20 * 0x20))
    else if 0x400 ≤ off && off < 0xC00 then some (OENG_PORT_MODE_REFUSED.sh ((off - 0x400) / 0x100 * 0x20))
    else none
  | .clsf => if 0x280 ≤ off && off < 0x320 then some ⟨0x280, 31, 1⟩ else some CLSF_CLSF_CFG_REFUSED
  | .devc | .msixTable | .msixPba => none
  | .host | .fltc | .nvst | .time | .tbls | .svcc | .twin | .pool | .slce | .metr | .schd | .pack | .xbarS | .xbarM | .deepS | .deepT
  | .fabrS | .fabrM | .loom | .flxeG | .flxeC | .perf => some ⟨0x80, 31, 1⟩

/-- Set or clear the REFUSED bit that a write of a register concerns. -/
def State.markRefused (s : State) (page off : Nat) (b : Bool) : State :=
  match pageOf page with
  | some (t, _) => match refusedAt t off with | some f => s.setFlag page f b | none => s
  | none => s

/-- A register write is refused: the bit, the count of refused writes, and on DEEP what the guarantee check found (R165, R166; a value
out of range is captured as reason 6, DEDUCED, log 93). -/
def State.writeRefused (s : State) (w : Who) (page off : Nat) (b n : State) : State :=
  let s := ((s.markRefused page off true).accessHit w 3 page)
  match pageOf page with
  | some (.deepS, i) =>
    if deepRangeBad n i off then s.guarCapture i 6 0 none
    else match guarBad b n i with | some (r, x) => s.guarCapture i r 0 (some x) | none => s
  | some (.port, i) => match guarBad b n (i / 32) with | some (r, x) => s.guarCapture (i / 32) r 0 (some x) | none => s
  | _ => s

/-- The check of a write of `v` at a BAR0 address. -/
def State.checkWrite (s : State) (a : Nat) (v : Word) : Option (State × State) :=
  match pageOf (a / 4096) with
  | some (t, i) =>
    let b := s.asWritten
    let n := b.merge a v
    if writeBad b n t i (a % 4096) then some (b, n) else none
  | none => none

end Sys2Proof.Machine
end

