-- ==== Sys2Proof/Machine/HostReg.lean ====
section
/-! DEFINITION. Register writes: the shadow and its applies, PAGE_HOLD, the guard, window commands, and what firmware may write
(R364, R386 to R389, R487, R488, and the registers that a chapter says act at once). -/

namespace Sys2Proof.Machine

/-! ### The shadow and its apply (R387, R388, R488) -/

/-- A write enters the shadow. -/
def State.shadowPut (s : State) (a : Nat) (v : Word) : State :=
  { s with shadow := mins a (mergeWord (wmOf a) (s.rd a) v) (merase s.shadow a) }

/-- Sub-port of a PORT register, from its offset. -/
def portSub (off : Nat) : Nat :=
  if off < 0x180 then (off - 0x80) / 0x40 else if off < 0xD00 then (off - 0xC00) / 0x40 else (off - 0xD00) / 0x20

/-- A write that waits may apply now: a sub-port has no frame in progress, a preempted one included (R76, R488), an engine's microcode polls (R31), a DT second
begins (R322), and no lease is in force for LEASE_CFG (R373). -/
def State.applyReady (s : State) (a : Nat) : Bool :=
  match pageOf (a / 4096) with
  | some (.port, i) =>
    let m := s.mac (4 * i + portSub (a % 4096))
    m.rx.isEmpty && m.tx.isNone && m.preempted.isNone
  | some (.oeng, e) => s.engineRuns e
  | some (.time, _) => decide (s.dtSub < 1000)
  | some (.svcc, _) => a % 4096 != 0x84 || s.svc.lease.holder.isNone
  | _ => true

/-- Writes leave the shadow and take effect; PAGE_APPLIED.COUNT moves. -/
def State.applyWrites (s : State) (page : Nat) (es : Map Word) : State :=
  let s := { s with shadow := s.shadow.filter fun e => !es.any (·.1 == e.1) }
  let s := es.foldl (fun (s : State) (e : Nat × Word) => s.merge e.1 e.2) s
  s.setFld page HDR_COUNT (s.fld page HDR_COUNT + 1)

/-- PFC_TX_EN or PAUSE_MODE turns off a pause that this side holds: it sends the resume first (R80, PFC_RESUME_SEND), and a sub-port
without a frame in progress sends it before the change. -/
def State.pauseLetGo (s new : State) (lp : Nat) : State :=
  let off := (List.range 8).filter fun c =>
    s.pausing lp c && (new.pauseMode lp != s.pauseMode lp || (s.pauseMode lp == 1 && s.pfcTxEn lp c && !new.pfcTxEn lp c))
  if off.isEmpty then s else (s.each off fun s c => (s.sendPause lp c 0).setPausing lp c false).sendDue lp

/-- Preemption follows a change of its enables: verification starts when PREEMPT_EN becomes 1 (R75), and VERIFY_EN decides whether it
applies (R91). -/
def State.preemptFollow (s old : State) (lp : Nat) : State :=
  let pre := s.macFld lp PORT_MAC_CFG_PREEMPT_EN
  if pre = 1 && old.macFld lp PORT_MAC_CFG_PREEMPT_EN = 0 then s.verifyStart lp
  else if s.macFld lp PORT_MAC_CFG_VERIFY_EN ≠ old.macFld lp PORT_MAC_CFG_VERIFY_EN then s.verifyRest lp
  else s.syncPreempt lp

/-- Apply writes of a PORT page, sub-port by sub-port. -/
def State.applyPort (s : State) (page p : Nat) (es : Map Word) : State :=
  let lps := ((es.map fun e => 4 * p + portSub (e.1 % 4096)).eraseDups)
  let new := s.applyWrites page es
  let s := s.each lps fun s lp => s.pauseLetGo new lp
  let old := s
  let s := s.applyWrites page es
  s.each lps fun s lp => ((s.preemptFollow old lp).wdFollow old lp).each (List.range 8) fun s c => (s.pfcCheckLow lp c).pfcCheckHigh lp c

/-- Rates may have changed on slice `sl`. -/
def State.ratesFollow (s old : State) (sl : Nat) : State := (s.rescale sl).ratesChanged old sl

/-- Apply writes of an OENG page. -/
def State.applyOeng (s : State) (page e : Nat) (es : Map Word) : State :=
  (s.engineApply e fun s => s.applyWrites page es).ratesFollow s (e / 4)

/-- Apply writes of a FlexE group's page. -/
def State.applyFlexe (s : State) (page g : Nat) (es : Map Word) : State :=
  let s := s.drainGroup g
  let new := s.applyWrites page es
  let lps := (s.groupLports g ++ new.groupLports g).eraseDups
  let t := (s.withUp lps fun s => (s.applyWrites page es).groupSync g).syncRxCal g
  t.each ((lps.map sliceOf).eraseDups) fun t sl => t.ratesFollow s sl

/-- Rings whose EN a write of RING_CFG changes start or stop (R396). -/
def State.applyHost (s : State) (page : Nat) (es : Map Word) : State :=
  let old := s
  let s := s.applyWrites page es
  s.each (List.range 37) fun s r =>
    let was := old.ringEn r
    let now := s.ringEn r
    if was = now then s
    else
      let s := s.setFlag hostPage (ringF r HOST_RING_CFG_EN) was
      if now then s.doRingEnable r else s.doRingDisable r

/-- Frames of a slice that have begun and are not looked up yet keep the CLSF values they began under (R100, R110, R488; log 110). -/
def State.keepParse (s : State) (sl : Nat) (es : Map Word) : State :=
  s.each ((List.range 128).map fun q => 128 * sl + q) fun s lp =>
    s.each ((s.mac lp).rx.map (·.1)) fun s k =>
      match s.rxOf lp k with
      | some r =>
        if r.looked then s
        else
          let old := (es.filter fun e => !r.clsf.any (·.1 == e.1)).map fun e => (e.1, s.rd e.1)
          s.setRx lp k (some { r with clsf := r.clsf ++ old })
      | none => s

/-- An applied write of a selector latches its counters at that instant (R267, R299, R323). -/
def State.selectorsFollow (s : State) (t : PageTy) (i page : Nat) (es : Map Word) : State :=
  let hit := fun off => (es.find? (·.1 == regA page off)).map (·.2.toNat)
  match t with
  | .time => match hit 0xC00 with | some p => s.doArrSel p | none => s
  | .fabrS => match hit 0x84 with | some k => s.doLinkCntSel i k | none => s
  | .pack => match hit 0x500 with | some q => s.doPackCntSel i q | none => s
  | _ => s

/-- Apply the writes `es` of a page, with all that follows from the new values. -/
def State.applyPage (s : State) (page : Nat) (es : Map Word) : State :=
  match pageOf page with
  | none => s
  | some (t, i) =>
    let go := fun (s : State) => s.applyWrites page es
    match t with
    | .port => s.applyPort page i es
    | .oeng => s.applyOeng page i es
    | .flxeG => s.applyFlexe page i es
    | .host => s.applyHost page es
    | .fabrS =>
      let t' := t
      let t := (go s).each ((List.range 32).map fun k => 32 * i + k) fun s p => s.linkFollow p
      (t.each (((List.range 128).map fun q => 128 * i + q).filter fun lp => s.cellOn (physOf lp) != t.cellOn (physOf lp)) fun t lp =>
        t.verifyStart lp).syncPath.selectorsFollow t' i page es
    | .clsf =>
      (s.keepParse i es).applyWrites page es
    | .fabrM => (go s).syncEff.each (List.range 256) fun s p => s.linkCheck p
    | .time => (go s).timeSettle.selectorsFollow t i page es
    | .twin => (go s).twinSettle
    | .fltc => State.reassert s ((go s).each (List.range 52) fun s t => (s.syncContains t).syncGuy t)
    | .loom =>
      let s := go s
      match es.find? (·.1 == regA page 0x88) with
      | some e => s.setLoom i { s.loomOf i with lfsr := e.2.toNat }
      | none => s
    | .pack =>
      let s' := go s
      (s'.each (((List.range 128).map fun q => 128 * i + q).filter fun lp => s.packOn lp != s'.packOn lp) fun t lp => t.verifyStart lp)
        |>.selectorsFollow t i page es
    | .tbls =>
      let seeds := es.filter fun e => e.1 = regA page 0x90 || e.1 = regA page 0x94
      let rest := es.filter fun e => !(e.1 = regA page 0x90 || e.1 = regA page 0x94)
      let s := s.applyWrites page rest
      let s := { s with shadow := s.shadow.filter fun e => !seeds.any (·.1 == e.1) }
      seeds.foldl (fun (s : State) (e : Nat × Word) => s.doHashSeed ((e.1 % 4096 - 0x90) / 4) e.2) s
    | _ => go s

/-! ### Window commands (R99, R113, R142, R164, R203, R263, R300, R376, R387, R457, R487). The data words of a window are shadowed like other
registers (R387), so that a command waits until every earlier write to its page has applied (R99; DEDUCED of the other windows, log 112) -/

/-- The REFUSED bit of a register's page reads 1. -/
def State.isRefused (s : State) (page off : Nat) : Bool :=
  match pageOf page with
  | some (t, _) => match refusedAt t off with | some f => s.flag page f | none => false
  | none => false

/-- A command or a write is refused before it runs. -/
def State.refuseNow (s : State) (w : Who) (page off : Nat) : State := (s.markRefused page off true).accessHit w 3 page

/-- Run a command; a refusal counts in the events of island 52. -/
def State.noted (s : State) (w : Who) (page off : Nat) (run : State → State) : State :=
  let t := run s
  if t.isRefused page off then t.accessHit w 3 page else t

/-- The window a command register belongs to: the firmware window's commands run with its limits whoever writes them (log 95). -/
def winWho (w : Who) (firmware : Bool) : Who := if firmware then (if whoFw w then w else .fw 0 0) else w

/-- SCH_CMD (R203). -/
def State.schCommand (s : State) (sl op t i : Nat) : State :=
  match op with
  | 1 => (s.doSchedWrite sl t i).rescale sl
  | 2 => s.doSchedRead sl t i
  | _ =>
    if t = 6 && i < 32 then s.doGateCommit sl i
    else if t = 9 then s.doSampleReadClear sl i
    else s.schWindow sl t i fun s => s.schDone sl 3

/-- UPD_CMD (R457). -/
def State.updCommand (s : State) (op k i : Nat) : State :=
  match op with
  | 1 => s.doUpdateBegin k
  | 2 => s.doUpdateWrite k i
  | 3 => s.doUpdateFinish k
  | 4 => s.doUpdateAbandon k
  | 5 => s.doUpdateConfirm
  | 6 => s.doUpdateSelect k
  | _ => s

/-- The command in word `v` of a window command register. -/
def State.windowRun (s : State) (w : Who) (t : PageTy) (i off : Nat) (v : Word) : State :=
  let b := getBits v
  let fw := whoFw w
  match t with
  | .nvst =>
    if off = 0x100 then s.updCommand (b 0 3) (b 3 1) (b 4 16)
    else match b 0 2 with | 1 => s.doObjectWrite | 2 => s.doObjectRead | _ => s.doObjectDelete
  | .tbls => s.tblCommand (winWho w (off == 0x480)) (b 24 3) (b 20 4) (b 0 20)
  | .pool =>
    match b 0 2 with
    | 1 => s.doPmAllocate none (b 2 4) (b 6 14)
    | 2 => s.doPmFree none (b 2 4) (s.fld poolPage POOL_PM_HANDLE_HANDLE)
    | _ => s
  | .pack =>
    let f := off == 0x480
    let tx := v.getLsbD 18
    match b 19 2 with
    | 1 => s.doFoldEntryWrite f i (b 16 2) tx (b 0 16)
    | 2 => s.doFoldEntryRead f i (b 16 2) tx (b 0 16)
    | _ => s.doFoldEntryRemove f i (b 16 2) tx (b 0 16)
  | .fabrM =>
    if off = 0x100 then match b 12 2 with | 1 => s.doLinkGroupWrite fw (b 0 12) | 2 => s.doLinkGroupRead fw (b 0 12) | _ => s
    else if b 8 2 = 2 then s.doNeighborRead (b 0 8) else s
  | .flxeC => match b 12 2 with | 1 => s.doClientWrite fw (b 0 12) | 2 => s.doClientRead (b 0 12) | _ => s
  | .clsf =>
    if off = 0x100 then match b 6 2 with | 1 => s.doTemplateWrite i (b 0 6) | 2 => s.doTemplateRead i (b 0 6) | _ => s
    else
      let w := winWho w (off == 0x280)
      match b 14 2 with
      | 1 => s.doRuleWrite i w (b 0 14) (b 16 2)
      | 2 => s.doRuleRead i w (b 0 14)
      | _ => s.doRuleInvalidate i w (b 0 14)
  | .metr => match b 15 2 with | 1 => s.doMeterWrite i (b 0 15) | 2 => s.doMeterRead i (b 0 15) | _ => s
  | .schd => s.schCommand i (b 19 2) (b 15 4) (b 0 15)
  | .deepS => match b 15 2 with | 1 => s.doQueueConfigWrite i (b 0 15) | 2 => s.doQueueConfigRead i (b 0 15) | _ => s
  | _ => s

/-- BUSY of a window whose commands wait. -/
def waitBusy (t : PageTy) (off : Nat) : Fld :=
  match t with
  | .clsf => if off = 0x100 then CLSF_TMPL_CMD_BUSY else CLSF_RULE_CMD_BUSY.sh (off - 0x180)
  | .metr => METR_MTR_CMD_BUSY
  | .schd => SCHD_SCH_CMD_BUSY
  | .nvst => if off = 0x100 then NVST_UPD_CMD_BUSY else NVST_OBJ_CMD_BUSY
  | .tbls => TBLS_TBL_CMD_BUSY.sh (off - 0x400)
  | .pool => POOL_PM_CMD_BUSY
  | .pack => PACK_FOLD_CMD_BUSY.sh (off - 0x400)
  | .fabrM => if off = 0x100 then FABRM_GRP_CMD_BUSY else FABRM_NBR_CMD_BUSY
  | .flxeC => FLXEC_CL_CMD_BUSY
  | _ => DEEP_Q_CMD_BUSY

/-- A command waits for its page's boundary: an earlier write to the page has not applied, or it writes a node or a queue-map entry,
which takes effect at the next loom period (R203; DEDUCED, log 112: it runs there, and BUSY reads 1 until then). -/
def State.mustWait (s : State) (t : PageTy) (page : Nat) (v : Word) : Bool :=
  s.shadow.any (fun e => e.1 / 4096 == page) || (t == .schd && getBits v 19 2 == 1 && 1 ≤ getBits v 15 4 && getBits v 15 4 ≤ 5)

/-- A window command takes its turn: it runs, or waits with BUSY set. -/
def State.inTurn (s : State) (w : Who) (t : PageTy) (page off : Nat) (v : Word) (run : State → State) : State :=
  if !s.mustWait t page v then run s
  else if s.flag page (waitBusy t off) then s.refuseNow w page off
  else (s.setFlag page (waitBusy t off) true).onHost fun h => { h with waits := h.waits ++ [⟨w, page, off, v⟩] }

/-- The commands that waited for a page's boundary run, in their order. -/
def State.runWaits (s : State) (page : Nat) : State :=
  match pageOf page with
  | none => s
  | some (t, i) =>
    if s.shadow.any fun e => e.1 / 4096 == page then s
    else
      let l := s.host.waits.filter fun x => x.page == page
      let s := s.onHost fun h => { h with waits := h.waits.filter fun x => x.page != page }
      l.foldl (fun s x => (s.setFlag page (waitBusy t x.off) false).noted x.who page x.off fun s => s.windowRun x.who t i x.off x.v) s

/-- PAGE_APPLY: the boundary of a page. -/
def State.doPageApply (s : State) (page : Nat) : State :=
  if s.pageDark page then s
  else
    let es := s.shadow.filter fun e => decide (e.1 / 4096 = page) && s.applyReady e.1
    (if es.isEmpty then s else (s.applyPage page es).retryAll).runWaits page

/-- LOOM_PERIOD_START: the boundary of every page of KIND 1 of the owning island (R387), and a new period. -/
def State.doLoomPeriodStart (s : State) (i : Nat) : State :=
  let pages := if i < 8 then [slcePage i, schdPage i, packPage i, xbarPage i, deepPage i, fabrPage i, loomPage i] else [loomPage i]
  (s.each pages fun s page => s.doPageApply page).loomStart i none

/-! ### PAGE_HOLD (R388) -/

def State.doPageHoldSet (s : State) (page : Nat) : State :=
  match pageOf page with
  | none => s
  | some _ => (s.setFlag page HDR_HOLD true).setFlag page HDR_OVERFLOW false

def State.holdEnd (s : State) (page : Nat) : State :=
  (((s.setHeld page []).setFld page HDR_HELD 0).setFlag page HDR_HOLD false).setFlag page HDR_OVERFLOW false

/-- HOLD = 0: the held writes enter the shadow together. They were checked when they were written. -/
def State.doPageHoldRelease (s : State) (page : Nat) : State :=
  match pageOf page with
  | none => s
  | some _ => ((s.held page).foldl (fun (s : State) (e : RegWrite) => s.shadowPut e.addr e.v) s).holdEnd page

def State.doPageHoldDiscard (s : State) (page : Nat) : State :=
  match pageOf page with
  | none => s
  | some _ => s.holdEnd page

def State.holdWrite (s : State) (page : Nat) (v : Word) : State :=
  if v.getLsbD 11 then s.doPageHoldDiscard page
  else if v.getLsbD 0 then s.doPageHoldSet page
  else s.doPageHoldRelease page

/-! ### Configuration writes -/

/-- A page gathers the writes of `w`: its HOLD is 1 and `w` is not firmware. -/
def State.gathers (s : State) (w : Who) (page : Nat) : Bool := s.flag page HDR_HOLD && !whoFw w

/-- A write of a shadowed register: refused, held or put into the shadow. -/
def State.cfgWrite (s : State) (w : Who) (page off : Nat) (v : Word) : State :=
  let a := regA page off
  if wmOf a = 0 then s
  else match s.checkWrite a v with
    | some (b, n) => s.writeRefused w page off b n
    | none =>
      if !s.gathers w page then (s.shadowPut a v).markRefused page off false
      else if 256 ≤ (s.held page).length then ((s.markRefused page off true).setFlag page HDR_OVERFLOW true).accessHit w 3 page
      else
        let l := s.held page ++ [⟨a, v⟩]
        ((s.setHeld page l).setFld page HDR_HELD l.length).markRefused page off false

/-! ### Guarded registers (R389) -/

/-- A guarded write fails. -/
def State.guardFailed (s : State) (page off cause : Nat) : State :=
  let s := (s.count hostPage 0xB8).setFld hostPage HOST_GUARD_CAPTURE_PAGE page
  let s := (s.setFld hostPage HOST_GUARD_CAPTURE_OFFSET off).setFld hostPage HOST_GUARD_CAPTURE_CAUSE cause
  (s.setFlag hostPage HOST_GUARD_CAPTURE_VALID true).raise hostPage 1

/-- A value whose 64 ns are over at `t` has lapsed. -/
def State.guardExpire (s : State) (page t : Nat) : State :=
  match s.guardOf page with
  | some g => if g.deadline ≤ t then (s.setGuard page none).guardFailed page g.off 1 else s
  | none => s

/-- GUARD_LAPSE. -/
def State.doGuardLapse (s : State) (page : Nat) : State := s.guardExpire page s.now

/-- A value write: V is pending for 64 ns; a second one ends both (cause 4 is captured at the pending register, DEDUCED, log 94). -/
def State.guardValue (s : State) (page off : Nat) (v : Word) : State :=
  let s := s.guardExpire page s.now
  match s.guardOf page with
  | some g => (s.setGuard page none).guardFailed page g.off 4
  | none => s.setGuard page (some { off := off, v := v, deadline := s.now + 64 })

/-- A guarded register that acts at once takes V and acts; when it refuses, it keeps its value. -/
def State.acted (s : State) (w : Who) (page off : Nat) (v : Word) (run : State → State) : State :=
  let a := regA page off
  let old := s.rd a
  let t := run ((s.markRefused page off false).wrNow a (mergeWord (wmOf a) old v))
  if t.isRefused page off then (t.wrNow a old).accessHit w 3 page else t

/-- RESET_CTL (R427 to R430). -/
def State.resetCtl (s : State) (w : Who) (v : Word) : State :=
  let t := getBits v 3 6
  match getBits v 0 3 with
  | 1 => s.doColdResetCmd w
  | 2 => s.doWarmResetCmd w
  | 3 => s.doBlockResetCmd w t
  | 4 => s.doClusterResetCmd w t
  | 5 => s.doReleaseIsolated w t
  | _ => s

/-- RECORD_CLR (R437 to R439): a refusal of the fatal record clears nothing. -/
def State.recordClr (s : State) (v : Word) : State :=
  let t := if v.getLsbD 0 then s.doRecordClrFatal else s
  if v.getLsbD 1 && !(v.getLsbD 0 && s.fatal) then t.doRecordClrLast else t

/-- LANE_ACTION (R46, R52). -/
def State.laneAction (s : State) (e : Nat) (v : Word) : State :=
  let l := getBits v 0 5
  match getBits v 5 3 with
  | 1 => s.doLaneClearTrip e l
  | 2 => s.doLaneApproveSwitch e l
  | 3 => s.doLaneSwitchNow e l
  | _ => s

/-- A guarded write has passed its guard: registers that act do so at once, the others enter the shadow. -/
def State.guardPassed (s : State) (w : Who) (page off : Nat) (v : Word) : State :=
  match pageOf page with
  | none => s
  | some (t, i) =>
    let shadowed := fun (s : State) =>
      match s.checkWrite (regA page off) v with
      | some (b, n) => s.writeRefused w page off b n
      | none => (s.shadowPut (regA page off) v).markRefused page off false
    let act := s.acted w page off v
    match t with
    | .host => act fun s => s.doDebugAllowWrite v
    | .fltc => if off = 0xE00 then act fun s => s.resetCtl w v else act fun s => s.recordClr v
    | .nvst => act fun s => s.doSvnRaise (getBits v 0 16)
    | .time => if off = 0xE00 then act fun s => if v.getLsbD 0 then s.doDtSet else s else act id
    | .svcc =>
      if off = 0xE00 then
        act fun s =>
          if getBits v 2 2 = 3 then refusedSvcc s true
          else match getBits v 0 2 with | 1 => s.doLeaseRevoke | 2 => s.doLeaseSetNext (getBits v 2 2) | _ => s
      else shadowed s
    | .twin => act fun s => if getBits v 0 2 = 1 then s.doTwinHandOver else s
    | .xbarM =>
      let p := getBits v 0 2
      act fun s => match getBits v 2 2 with | 1 => s.doPlaneRemove p | 2 => s.doPlaneReturn p | _ => s
    | .deepT =>
      let d := getBits v 0 3
      act fun s => match getBits v 3 2 with | 1 => s.doStackRemove d | 2 => s.doStackReturn d | _ => s
    | .oeng => act fun s => s.laneAction i v
    | .fabrM => if off = 0xE04 then act fun s => if v.getLsbD 0 then s.doPathMaxReset else s else shadowed s
    | _ => shadowed s

/-- A complement write to the guarded register at `off`. A complement while a value of another register is pending is cause 3 and leaves
that value pending (DEDUCED, log 94). -/
def State.guardComplement (s : State) (w : Who) (page off : Nat) (v : Word) : State :=
  let s := s.guardExpire page (s.now - 1)
  match s.guardOf page with
  | none => s.guardFailed page off 3
  | some g =>
    if g.off ≠ off then s.guardFailed page off 3
    else
      let s := s.setGuard page none
      if v = ~~~ g.v then s.guardPassed w page off g.v else s.guardFailed page off 2

/-! ### Registers that act at once, and window commands (R387, R487) -/

/-- An accepted write that acts: REFUSED clears, and then it runs. -/
def State.writeRuns (s : State) (w : Who) (page off : Nat) (run : State → State) : State := (s.markRefused page off false).noted w page off run

/-- A write of a window's command register: refused with OP while BUSY or while the page holds writes, else its operands are taken and
the command runs. OP is write-only. -/
def State.winWrite (s : State) (w : Who) (page off opMask : Nat) (busy : Fld) (v : Word) (run : State → State) : State :=
  let a := regA page off
  let op : Bool := (v &&& BitVec.ofNat 32 opMask) != 0
  if op && (s.gathers w page || s.flag page busy) then s.refuseNow w page off
  else if s.flag page busy then s
  else
    let s := s.wrNow a (mergeWord (wmOf a - (wmOf a &&& opMask)) (s.rd a) v)
    if op then s.writeRuns w page off run else s.markRefused page off false

/-- A write of a register that takes its value at once. -/
def State.dataWrite (s : State) (page off : Nat) (v : Word) : State :=
  let a := regA page off
  (s.wrNow a (mergeWord (wmOf a) (s.rd a) v)).markRefused page off false

/-- FOLD_CTL (R254, R255, R259). -/
def State.foldCtl (s : State) (sl t cmd gen : Nat) : State :=
  match cmd with
  | 1 => s.doFoldCommit sl t
  | 2 => s.doFoldArm sl t
  | 3 => s.doFoldDisarm sl t
  | 4 => s.doFoldResume sl t
  | 5 => s.doFoldRestart sl t gen
  | 6 => s.doFoldDiscardPending sl t
  | _ => s

/-- TB_CMD (R308 to R312). -/
def State.tbCommand (s : State) (n cmd : Nat) : State :=
  match cmd with
  | 1 => s.doTbStep n
  | 2 => s.doTbSwitchChannel n
  | 3 => s.doTbHoldover n
  | 4 => s.doTbResetServo n
  | _ => s

/-- A write, by host or debug port or allowed to firmware, of a window's command register or of a register that acts at once. FOLD_CTL,
CAL_CTL, PERF_CTL and DIAG_CMD hold commands alone and act when they are written (DEDUCED, log 112). -/
def State.nowWrite (s : State) (w : Who) (t : PageTy) (i page off : Nat) (v : Word) : State :=
  let fw := whoFw w
  let b := getBits v
  let wait := fun mask => s.winWrite w page off mask (waitBusy t off) v fun s => s.inTurn w t page off v fun s => s.windowRun w t i off v
  match t with
  | .nvst =>
    if off = 0x100 then wait 0x7
    else if off = 0x110 then wait 0x3
    else s.writeRuns w page off fun s => if v.getLsbD 6 then s.doDiagRun (b 0 6) else s
  | .time =>
    if off = 0x114 then s.writeRuns w page off fun s => s.doTodTxWrite (v.setWidth 8)
    else if 0x200 ≤ off && off < 0x400 then
      let n := (off - 0x200) / 0x80
      let o := (off - 0x200) % 0x80
      if o = 0x30 || o = 0x34 then s.writeRuns w page off fun s => s.doTbOffsetWrite n ((o - 0x30) / 4) v
      else if o = 0x40 then s.writeRuns w page off fun s => s.tbCommand n (b 0 3)
      else s.dataWrite page off v
    else s.dataWrite page off v
  | .tbls => wait 0x7000000
  | .svcc => if off = 0x110 && !fw then s.writeRuns w page off fun s => s.doMbToFwPost v.toNat else s
  | .pool => if off = 0x100 then wait 0x3 else s
  | .clsf =>
    if off = 0x100 then wait 0xC0
    else if b 16 2 = 3 || (off = 0x280 && b 14 2 ≠ 0 && !s.ruleOpen i (winWho w true) (b 0 14)) then s.refuseNow w page off
    else wait 0xC000
  | .metr => wait 0x18000
  | .schd => wait 0x180000
  | .pack =>
    if 0x300 ≤ off && off < 0x340 then s.writeRuns w page off fun s => s.foldCtl i ((off - 0x300) / 16) (b 0 3) (b 8 8) else wait 0x180000
  | .deepS => wait 0x18000
  | .fabrM => if off = 0x100 then wait 0x3000 else wait 0x300
  | .flxeG => s.writeRuns w page off fun s => match b 0 2 with | 1 => s.doCalSwitchRequest i | 2 => s.doCalSwitchAbandon i | _ => s
  | .flxeC => wait 0x3000
  | .perf =>
    s.writeRuns w page off fun s => match b 0 2 with | 1 => s.doPerfFreeze i | 2 => s.doPerfRelease i | 3 => s.doPerfZero i | _ => s
  | _ => s.dataWrite page off v

/-! ### What firmware may write (R364) -/

/-- TB, TOD and TS registers of TIME that FW_TIME_EN opens, by offset: none where firmware may never write. -/
def timeOpen (off : Nat) : Option Fld :=
  let o := (off - 0x200) % 0x80
  if 0x200 ≤ off && off < 0x400 && (o = 0x00 || o = 0x30 || o = 0x34 || o = 0x38 || o = 0x3C || o = 0x40) then
    some ⟨0xE04, (off - 0x200) / 0x80, 1⟩
  else if off = 0x110 || off = 0x114 then some TIME_FW_TIME_EN_TOD_WR
  else if 0x400 ≤ off && off < 0xC00 then some TIME_FW_TIME_EN_TS_WR
  else none

/-- Why a firmware write is denied: 0 allowed, 1 not writable by firmware, 2 guarded, 5 not enabled (R364, R374). -/
def State.fwCause (s : State) (page off : Nat) : Nat :=
  if 0xE00 ≤ off then 2
  else if off < 0x80 then 1
  else
    let en := fun (b : Bool) => if b then 0 else 5
    match pageOf page with
    | some (.clsf, _) => if 0x280 ≤ off && off < 0x320 then 0 else 1
    | some (.tbls, _) => if 0x480 ≤ off && off < 0x500 then 0 else 1
    | some (.flxeG, g) => en (s.fwGroup g)
    | some (.flxeC, _) => if off = 0x100 || off = 0x104 then 0 else 1
    | some (.pack, i) =>
      if 0x480 ≤ off && off < 0x4A0 then 0
      else if 0x300 ≤ off && off < 0x340 && off % 16 = 4 then en (s.bitOf (packPage i) PACK_FW_FOLD_EN_WRITE_EN ((off - 0x300) / 16))
      else 1
    | some (.time, _) => match timeOpen off with | some f => en (s.flag timePage f) | none => 1
    | some (.fabrM, _) =>
      if 0x100 ≤ off && off < 0x124 then en (s.flag (fabrPage 8) FABRM_FW_FAB_EN_GROUP_WR) else if off = 0x140 then 0 else 1
    | some (.fabrS, _) =>
      if 0x100 ≤ off && off < 0x500 && off % 0x20 = 0 then en (s.flag (fabrPage 8) FABRM_FW_FAB_EN_LINK_WR) else 1
    | some (.svcc, _) =>
      if off = 0x100 || off = 0x104 || off = 0x108 || off = 0x10C || off = 0x114 || (0x120 ≤ off && off < 0x130) then 0 else 1
    | some (.pool, _) => if off = 0x180 || off = 0x184 then 0 else 1
    | _ => 1

/-- Bits of a register that firmware may change where it may change only some of them: USER_ASYM, LINK_DELAY and LINK_EN. -/
def fwMask (page off : Nat) : Nat :=
  match pageOf page with
  | some (.time, _) => if 0x400 ≤ off && off < 0x800 then 0xFFFFF0 else if 0x800 ≤ off && off < 0xC00 then 0xFFFFF else 0xFFFFFFFF
  | some (.fabrS, _) => 0x2
  | _ => 0xFFFFFFFF

/-- Registers of SVCC that firmware writes (R348, R353, R365, R366, R371). -/
def State.fwSvcc (s : State) (c p off : Nat) (v : Word) : State :=
  let b := getBits v
  if off = 0x100 then
    match b 0 3 with
    | 1 => s.doLeaseRenew c (b 3 16)
    | 2 => s.doLeaseClaim c
    | 3 => s.doLeaseRelease c (b 3 16)
    | 4 => s.doLeaseReady c (b 3 16)
    | _ => s
  else if off = 0x104 then (if v.getLsbD 0 then s.doCkptCmd c else s)
  else if off = 0x108 then s.doCkptMark c (b 0 18) (v.getLsbD 18)
  else if off = 0x10C then s.doLaserReq c (b 0 5) (b 5 5) (b 10 12) (v.getLsbD 22)
  else if off = 0x114 then s.doMbToHostPost c v.toNat
  else if off = 0x12C then s.doInjectPost c p v
  else s.setClWord c p off v

/-- A core pair's own copies of FW_PM_CMD and FW_PM_HANDLE (R376). -/
def State.fwPool (s : State) (c p off : Nat) (v : Word) : State :=
  if off = 0x184 then s.setClWord c p 0x184 v
  else
    let s := s.setClWord c p 0x180 (mergeWord 0xFFFFC (s.clWord c p 0x180) v)
    match getBits v 0 2 with
    | 1 => s.doPmAllocate (some (c, p)) 0 (getBits v 6 14)
    | 2 => s.doPmFree (some (c, p)) 0 (s.clWord c p 0x184).toNat
    | _ => s

/-! ### A register write, whoever makes it -/

/-- An access of `w` that writes page and offset: firmware needs a running cluster, the lease and the right to write; a dark page takes
nothing (R351, R364, R382). -/
def State.access (s : State) (w : Who) (page off : Nat) (run : State → State) : State :=
  match w with
  | .fw c _ =>
    if !s.drives c then s
    else if !(page == svccPage && off == 0x100) && !s.isHolder c then s.fwGated c page off
    else if s.fwCause page off ≠ 0 then (s.fwDenied c page off (s.fwCause page off) 7).accessHit w 3 page
    else if s.pageDark page then s.count hostPage 0xC0
    else run (s.accessHit w 2 page)
  | _ =>
    let s := s.accessHit w 2 page
    if s.pageDark page then s.count hostPage 0xC0 else run s

/-- What a write does to a register that takes it. -/
def State.regWrite (s : State) (w : Who) (page off : Nat) (v : Word) : State :=
  match pageOf page with
  | none => s
  | some (t, i) =>
    if off = 8 then s.holdWrite page v
    else if off < 0x80 then s.hdrWrite page off v
    else if 0xF00 ≤ off then s.guardComplement w page (off - 0x100) v
    else match rowOf t off with
      | none => s
      | some r =>
        match r.kind with
        | .wg => s.guardValue page off v
        | .cfg => s.cfgWrite w page off v
        | .now => s.nowWrite w t i page off v
        | _ => s

/-- REGISTER_WRITE: a write of `v` by `w`. -/
def State.doRegisterWrite (s : State) (w : Who) (page off : Nat) (v : Word) : State :=
  let bad := accessError page off
  match w with
  | .fw c p =>
    if bad ≠ 0 then (if s.drives c then s.fwDenied c page off 1 7 else s)
    else s.access w page off fun s =>
      let s := s.countReserved page off v
      if page = svccPage then s.fwSvcc c.val p.val off v
      else if page = poolPage then s.fwPool c.val p.val off v
      else s.regWrite w page off (mergeWord (fwMask page off) (s.rdShadow (regA page off)) v)
  | _ =>
    if bad ≠ 0 then s.busError page off bad true
    else if s.pageDark page && hdrHeld off then ((s.accessHit w 2 page).countReserved page off v).hdrWrite page off v
    else s.access w page off fun s =>
      match pageOf page with
      | some (.msixTable, _) => s.msixWrite off v
      | some (.msixPba, _) => s
      | _ => (s.countReserved page off v).regWrite w page off v

/-- GUARD_VALUE_WRITE and GUARD_COMPLEMENT_WRITE: the two writes of R389. -/
def State.doGuardValueWrite (s : State) (w : Who) (page off : Nat) (v : Word) : State :=
  if 0xE00 ≤ off && off < 0xF00 then s.doRegisterWrite w page off v else s
def State.doGuardComplementWrite (s : State) (w : Who) (page off : Nat) (v : Word) : State :=
  if 0xF00 ≤ off then s.doRegisterWrite w page off v else s

/-! ### Rows that stand for one write -/

/-- A window command of `w`: its operands are in the window already. -/
def State.cmdRow (s : State) (w : Who) (page off : Nat) (run : State → State) : State :=
  s.access w page off fun s => if s.gathers w page then s.refuseNow w page off else s.noted w page off run

/-- A window command of `w` that may have to wait, with the word that its register takes for it. -/
def State.turnRow (s : State) (w : Who) (t : PageTy) (page off v : Nat) (run : State → State) : State :=
  s.cmdRow w page off fun s => s.inTurn w t page off (BitVec.ofNat 32 v) run

/-- A write that acts at once. -/
def State.nowRow (s : State) (w : Who) (page off : Nat) (run : State → State) : State := s.access w page off fun s => s.noted w page off run

/-- A guarded write whose guard has passed. -/
def State.guardRow (s : State) (w : Who) (page off v : Nat) : State :=
  s.access w page off fun s => s.guardPassed w page off (BitVec.ofNat 32 v)

/-- EVT_CLEAR: a header register, which firmware may not write. -/
def State.doEvtClearBy (s : State) (w : Who) (page src seq : Nat) : State :=
  match w with
  | .fw _ _ => s.access w page 0x40 fun s => s.doEvtClear page src seq
  | _ =>
    if accessError page 0x40 ≠ 0 then s.busError page 0x40 (accessError page 0x40) true
    else (s.accessHit w 2 page).doEvtClear page src seq

/-- BUF_ECC_CORR and BUF_ECC_UNCORR of a slice (R435, R438): a corrected read is counted; an uncorrectable cell is captured, and the frame
that holds it is discarded and counted. -/
def State.bufError (s : State) (sl src cell frame : Nat) : State :=
  if src = 0 then s.count (slcePage sl) 0x90
  else if src = 1 then
    let s := (s.setFld (slcePage sl) SLCE_BUF_CAPTURE_CELL cell).setFlag (slcePage sl) SLCE_BUF_CAPTURE_VALID true
    match s.ef frame with
    | some e => if sliceOf e.lport = sl then (s.breakFrame frame false).count (slcePage sl) 0x98 else s
    | none => s
  else s

/-- EVENT_ASSERT: an occurrence of a source of a page. MICROCODE_FAULT stops the engine's microcode (R58, R60: UC_STATE 2). -/
def State.doEventAssert (s : State) (page src cell frame : Nat) : State :=
  match pageOf page with
  | some (t, i) =>
    if !t.sources.testBit src then s
    else if t = .slce && !s.srcHeld page then (s.bufError i src cell frame).raise page src
    else if t = .oeng && src = 22 && s.ucState i = 0 then (s.setUcState i 2).raise page src
    else s.raise page src
  | none => s

/-- The value of a read comes back over the test port. -/
def toTap (o : Out) : Out := match o with | .completion v => .tap (leBytes 4 v.toNat) | o => o

/-- DBG_ACCESS (R410): in an open session, with the right to read (bit 0) or write (bit 1) (DESIGN CHOICE, log 96). -/
def State.doDbgAccess (s : State) (page off : Nat) (a : Access) : State :=
  if !s.host.debugOpen then s
  else if s.debugIdle then s.debugClose
  else
    let s := s.onHost fun h => { h with debugLast := s.now }
    match a with
    | .write v => if s.host.rights.testBit 1 then s.doRegisterWrite .debug page off v else s
    | .read =>
      if !s.host.rights.testBit 0 then s
      else
        let t := s.anyRead .debug page off
        let n := t.out.length - s.out.length
        { t with out := (t.out.take n).map toTap ++ t.out.drop n }

end Sys2Proof.Machine
end

