-- ==== Sys2Proof/Machine/CmdHost.lean ====
section
/-! DEFINITION. The meanings of the commands, one definition each: PCI Express, registers, events, rings, performance counters and debug (chapter 14). Severity
actions that a command brings about are taken at its end (`settle`, R418). -/

namespace Sys2Proof.Machine

/-- COUNTER_LOW_READ (R87, R61, R88, R110, R414). -/
def execCounterLowRead (page : Fin 16384) (off : Fin 4096) (s : State) : Res := .next (settle (s.doCounterLowRead page off))
/-- BUS_ERROR_ACCESS (R381, R11). -/
def execBusErrorAccess (page : Fin 16384) (off : Fin 4096) (bar2 : Bool) (badSize : Bool) (a : Access) (s : State) : Res :=
  .next (settle (s.doBusErrorAccess page off bar2 badSize a))
/-- DARK_PAGE_ACCESS (R382). -/
def execDarkPageAccess (page : Fin 16384) (off : Fin 4096) (a : Access) (s : State) : Res :=
  .next (settle (s.doDarkPageAccess page off a))
/-- BAR2_WRITE (R380). -/
def execBar2Write (addr : Fin 67108864) (bytes : List Byte) (s : State) : Res := .next (settle (s.doBar2Write addr bytes))
/-- PCIE_RESET (R383, R398, R472). -/
def execPcieReset (k : PcieResetKind) (s : State) : Res := .next (settle (s.doPcieReset k))
/-- PCIE_LINK_UP (R472, R383, R394). -/
def execPcieLinkUp (width : Fin 16) (speed : Fin 8) (s : State) : Res := .next (settle (s.doPcieLinkUp width speed))
/-- BUS_MASTER_ENABLE (R383, R394). -/
def execBusMasterEnable (s : State) : Res := .next (settle (s.doBusMasterEnable))
/-- MSIX_VECTOR_UNMASK (R394). -/
def execMsixVectorUnmask (v : Fin 256) (s : State) : Res := .next (settle (s.doMsixVectorUnmask v))
/-- REGISTER_WRITE (R387, R1, R6, R11, R30, R41, R60, R82, R83, R91, R111, R114). -/
def execRegisterWrite (w : Who) (page : Fin 16384) (off : Fin 4096) (v : Word) (s : State) : Res :=
  .next (settle (s.doRegisterWrite w page off v))
/-- PAGE_APPLY (R387, R5, R27, R30, R31, R32, R35, R37, R38, R47, R65, R72). -/
def execPageApply (page : Fin 16384) (s : State) : Res := .next (settle (s.doPageApply page))
/-- PAGE_HOLD_SET (R388, R386). -/
def execPageHoldSet (page : Fin 16384) (s : State) : Res := .next (settle (s.doRegisterWrite .host page 8 1))
/-- PAGE_HOLD_RELEASE (R388, R31, R386). -/
def execPageHoldRelease (page : Fin 16384) (s : State) : Res := .next (settle (s.doRegisterWrite .host page 8 0))
/-- PAGE_HOLD_DISCARD (R386). -/
def execPageHoldDiscard (page : Fin 16384) (s : State) : Res := .next (settle (s.doRegisterWrite .host page 8 0x800))
/-- GUARD_VALUE_WRITE (R389). -/
def execGuardValueWrite (w : Who) (page : Fin 16384) (off : Fin 4096) (v : Word) (s : State) : Res :=
  .next (settle (s.doGuardValueWrite w page off v))
/-- GUARD_COMPLEMENT_WRITE (R389, R101, R263, R388). -/
def execGuardComplementWrite (w : Who) (page : Fin 16384) (off : Fin 4096) (v : Word) (s : State) : Res :=
  .next (settle (s.doGuardComplementWrite w page off v))
/-- GUARD_LAPSE (R389). -/
def execGuardLapse (page : Fin 16384) (s : State) : Res := .next (settle (s.doGuardLapse page))
/-- EVENT_ASSERT (R390, R14, R17, R32, R37, R58, R62, R92, R112, R115, R144, R178). -/
def execEventAssert (page : Fin 16384) (src : Fin 32) (s : State) (cell : Fin 262144 := 0) (frame : Nat := 0) : Res :=
  .next (settle (s.doEventAssert page src cell frame))
/-- EVT_CLEAR (R391, R386). -/
def execEvtClear (w : Who) (page : Fin 16384) (src : Fin 32) (seq : Byte) (s : State) : Res :=
  .next (settle (s.doEvtClearBy w page src seq.toNat))
/-- RING_ENABLE (R396). -/
def execRingEnable (r : Ring) (s : State) : Res := .next (settle (s.doRingEnable r))
/-- RING_DISABLE (R396, R398). -/
def execRingDisable (r : Ring) (s : State) : Res := .next (settle (s.doRingDisable r))
/-- HOST_IDX_WRITE (R396). -/
def execHostIdxWrite (r : Ring) (v : Word) (s : State) : Res := .next (settle (s.doRegisterWrite .host hostPage (0x20C + 0x40 * r.val) v))
/-- INJECT_RING_FETCH (R397, R5). -/
def execInjectRingFetch (r : Fin 16) (desc : List Byte) (frame : List Byte) (s : State) : Res :=
  .next (settle (s.doInjectRingFetch r desc frame))
/-- PUNT_RING_DELIVER (R398, R312). -/
def execPuntRingDeliver (r : Fin 16) (desc : List Byte) (s : State) : Res := .next (settle (s.doPuntRingDeliver r desc))
/-- DMA_READ_ERROR (R402). -/
def execDmaReadError (r : Ring) (s : State) : Res := .next (settle (s.doDmaReadError r))
/-- RING_RECORD_WRITE (R400, R394, R401, R404). -/
def execRingRecordWrite (r : Ring) (s : State) : Res := .next (settle (s.doRingRecordWrite r))
/-- RING_COAL_TIMER (R401, R394). -/
def execRingCoalTimer (r : Ring) (s : State) : Res := .next (settle (s.doRingCoalTimer r))
/-- NOTIFY_FIFO_ENQUEUE (R404). -/
def execNotifyFifoEnqueue (f : Fin 5) (item : List Byte) (s : State) : Res := .next (settle (s.doNotifyFifoEnqueue f item))
/-- EVT_WIN_READ (R405). -/
def execEvtWinRead (s : State) : Res := .next (settle (s.anyRead .host hostPage 0x100))
/-- EVT_WIN_READ_RETURN (R405). -/
def execEvtWinReadReturn (s : State) : Res := .next (settle (s.doEvtWinReadReturn))
/-- PERF_FREEZE (R406). -/
def execPerfFreeze (i : Island) (s : State) : Res := .next (settle (s.nowRow .host (perfPage i) 0x84 fun s => s.doPerfFreeze i))
/-- PERF_RELEASE (R406). -/
def execPerfRelease (i : Island) (s : State) : Res := .next (settle (s.nowRow .host (perfPage i) 0x84 fun s => s.doPerfRelease i))
/-- PERF_ZERO (R406). -/
def execPerfZero (i : Island) (s : State) : Res := .next (settle (s.nowRow .host (perfPage i) 0x84 fun s => s.doPerfZero i))
/-- PERF_DUMP (R408, R17). -/
def execPerfDump (i : Island) (s : State) : Res := .next (settle (s.doPerfDump i))
/-- DBG_CHALLENGE (R410). -/
def execDbgChallenge (s : State) : Res := .next (settle (s.doDbgChallenge))
/-- DBG_RESPONSE (R410). -/
def execDbgResponse (rights : BitVec 3) (key : List Byte) (sig : List Byte) (s : State) : Res :=
  .next (settle (s.doDbgResponse rights.toNat key sig))
/-- DBG_ACCESS (R410). -/
def execDbgAccess (page : Fin 16384) (off : Fin 4096) (a : Access) (s : State) : Res := .next (settle (s.doDbgAccess page off a))
/-- DBG_CLOSE (R410). -/
def execDbgClose (s : State) : Res := .next (settle (s.doDbgClose))
/-- DEBUG_IDLE_TIMEOUT (R410). -/
def execDebugIdleTimeout (s : State) : Res := .next (settle (s.doDebugIdleTimeout))
/-- DEBUG_LOCKOUT_END (R410). -/
def execDebugLockoutEnd (s : State) : Res := .next (settle (s.doDebugLockoutEnd))
/-- DEBUG_ALLOW_WRITE (R410). -/
def execDebugAllowWrite (v : Word) (s : State) : Res := .next (settle (s.guardRow .host hostPage 0xE00 v.toNat))
/-- TAP_RESET (R410, R409). -/
def execTapReset (s : State) : Res := .next (settle (s.doTapReset))
/-- PEAK_FIELD_READ (R340, R143, R230, R299, R323). -/
def execPeakFieldRead (page : Fin 16384) (off : Fin 4096) (s : State) : Res := .next (settle (s.doPeakFieldRead page off))
/-- PERST_N_RELEASE (R472). -/
def execPerstNRelease (s : State) : Res := .next (settle (s.doPerstNRelease))
/-- MSIX_ENABLE_SET (R394). -/
def execMsixEnableSet (s : State) : Res := .next (settle (s.doMsixEnableSet))
/-- BOUNDARY_SCAN_INSTRUCTION (R409). -/
def execBoundaryScanInstruction (i : TapInstr) (cells : List Bool) (s : State) : Res := .next (settle (s.doBoundaryScan i cells))

end Sys2Proof.Machine
end

