-- ==== Sys2Proof/Machine/CmdPort.lean ====
section
/-! DEFINITION. The meanings of the commands, one definition each: frames at the MAC, pauses, verification, pitching, optics and counters (chapters 02 and 03). Severity
actions that a command brings about are taken at its end (`settle`, R418). -/

namespace Sys2Proof.Machine

/-- FRAME_RECEIVE_START (R17, R9, R63, R312). -/
def execFrameReceiveStart (lp : LPort) (bytes : List Byte) (s : State) (src : RxSrc := .mac) : Res :=
  .next (settle (s.doFrameReceiveStart lp src.code bytes))
/-- RULE_LOOKUP (R97, R5, R23, R78, R79, R82, R93, R94, R96, R98, R100, R102). -/
def execRuleLookup (lp : LPort) (s : State) (src : RxSrc := .mac) : Res := .next (settle (s.doRuleLookup lp src.code))
/-- FRAME_RECEIVE_END (R68, R65, R69, R70, R76, R86, R88, R127, R199, R207, R220, R241). -/
def execFrameReceiveEnd (lp : LPort) (e : RxEnd) (s : State) (src : RxSrc := .mac) : Res :=
  .next (settle (s.doFrameReceiveEnd lp src.code e))
/-- MAC_CONTROL_RECEIVE (R67, R77, R81, R84, R85). -/
def execMacControlReceive (lp : LPort) (bytes : List Byte) (s : State) : Res := .next (settle (s.doMacControlReceive lp bytes))
/-- PAUSE_EXPIRE (R81). -/
def execPauseExpire (lp : LPort) (c : Cls) (s : State) : Res := .next (settle (s.doPauseExpire lp c))
/-- PFC_REFRESH (R80). -/
def execPfcRefresh (lp : LPort) (c : Cls) (s : State) : Res := .next (settle (s.doPfcRefresh lp c))
/-- PAUSE_WATCHDOG_EXPIRE (R84, R85). -/
def execPauseWatchdogExpire (lp : LPort) (c : Cls) (s : State) : Res := .next (settle (s.doPauseWatchdog lp c))
/-- PAUSE_RECOVERY_END (R84). -/
def execPauseRecoveryEnd (lp : LPort) (c : Cls) (s : State) : Res := .next (settle (s.doPauseRecoveryEnd lp c))
/-- VERIFY_TIMER (R75). -/
def execVerifyTimer (lp : LPort) (s : State) : Res := .next (settle (s.doVerifyTimer lp))
/-- VERIFY_RESPOND_RECEIVE (R75, R73). -/
def execVerifyRespondReceive (lp : LPort) (s : State) : Res := .next (settle (s.doVerifyRespondReceive lp))
/-- VERIFY_RECEIVE (R75). -/
def execVerifyReceive (lp : LPort) (s : State) : Res := .next (settle (s.doVerifyReceive lp))
/-- PARKED_FRAME_RECEIVE (R41, R32, R40, R42, R358). -/
def execParkedFrameReceive (lp : LPort) (bytes : List Byte) (s : State) : Res := .next (settle (s.doParkedFrameReceive lp bytes))
/-- LIGHT_APPEAR (R43, R32, R358). -/
def execLightAppear (lp : LPort) (s : State) : Res := .next (settle (s.doLightAppear lp))
/-- UNCORRECTABLE_CODEWORD (R55, R37, R56, R68, R259). -/
def execUncorrectableCodeword (lp : LPort) (s : State) : Res := .next (settle (s.doUncorrectableCodeword lp))
/-- SER_WINDOW_RESTART (R56, R86). -/
def execSerWindowRestart (lp : LPort) (s : State) (codewords symbols : Nat := 0) : Res :=
  .next (settle (s.doSerWindowRestart lp codewords symbols))
/-- PITCH_BIAS_DONE (R32). -/
def execPitchBiasDone (lp : LPort) (s : State) : Res := .next (settle (s.doPitchBiasDone lp))
/-- PITCH_BIAS_TIMEOUT (R32, R34). -/
def execPitchBiasTimeout (lp : LPort) (s : State) : Res := .next (settle (s.doPitchBiasTimeout lp))
/-- PITCH_EQUALISE_DONE (R32). -/
def execPitchEqualiseDone (lp : LPort) (s : State) : Res := .next (settle (s.doPitchEqualiseDone lp))
/-- PITCH_EQUALISE_TIMEOUT (R32, R34). -/
def execPitchEqualiseTimeout (lp : LPort) (s : State) : Res := .next (settle (s.doPitchEqualiseTimeout lp))
/-- LOSS_OF_LIGHT (R32, R35, R37, R69, R71, R81, R236, R259, R276, R288). -/
def execLossOfLight (lp : LPort) (s : State) : Res := .next (settle (s.doLossOfLight lp))
/-- PITCH_FEC_LOCK_DONE (R32). -/
def execPitchFecLockDone (lp : LPort) (s : State) : Res := .next (settle (s.doPitchFecLockDone lp))
/-- PITCH_FEC_LOCK_TIMEOUT (R32, R34). -/
def execPitchFecLockTimeout (lp : LPort) (s : State) : Res := .next (settle (s.doPitchFecLockTimeout lp))
/-- PITCH_AM_LOCK_DONE (R32, R34, R75, R236, R256, R276, R320). -/
def execPitchAmLockDone (lp : LPort) (s : State) : Res := .next (settle (s.doPitchAmLockDone lp))
/-- PITCH_AM_LOCK_TIMEOUT (R32, R34). -/
def execPitchAmLockTimeout (lp : LPort) (s : State) : Res := .next (settle (s.doPitchAmLockTimeout lp))
/-- ALIGNMENT_LOCK_LOSS (R55, R32, R35, R37, R69, R71, R81, R236, R276). -/
def execAlignmentLockLoss (lp : LPort) (s : State) : Res := .next (settle (s.doAlignmentLockLoss lp))
/-- BACKOFF_END (R34, R32, R47). -/
def execBackoffEnd (lp : LPort) (s : State) : Res := .next (settle (s.doBackoffEnd lp))
/-- HOLD_TIMER_EXPIRE (R36, R35, R152). -/
def execHoldTimerExpire (lp : LPort) (s : State) : Res := .next (settle (s.doHoldTimerExpire lp))
/-- PARK_APPLY (R39, R38). -/
def execParkApply (p : Port) (s : State) : Res := .next (settle (s.doParkApply p))
/-- LASER_SAMPLE (R45, R32, R37, R46, R47, R48, R49). -/
def execLaserSample (e : Engine) (l : Lane) (x : LaserSample) (s : State) : Res :=
  .next (settle (s.doLaserSample e l x.bias.toNat x.bol.toNat x.txPwr.toNat x.rxPwr.toNat x.reaches))
/-- SPARE_POWER_READY (R48). -/
def execSparePowerReady (e : Engine) (l : Lane) (s : State) : Res := .next (settle (s.doSparePowerReady e l))
/-- SPARE_SWITCH_COMPLETE (R48). -/
def execSpareSwitchComplete (e : Engine) (l : Lane) (s : State) : Res := .next (settle (s.doSpareSwitchComplete e l))
/-- WEAR_RECORD_WRITE (R50, R451). -/
def execWearRecordWrite (e : Engine) (s : State) : Res := .next (settle (s.doWearRecordWrite e))
/-- EYE_LIMIT_TRIP (R51, R32, R37, R52). -/
def execEyeLimitTrip (e : Engine) (l : Lane) (s : State) : Res := .next (settle (s.doEyeLimitTrip e l))
/-- LANE_CLEAR_TRIP (R52). -/
def execLaneClearTrip (e : Engine) (l : Lane) (s : State) : Res := .next (settle (s.guardRow .host (oengPage e) 0xE00 (l.val + 0x20)))
/-- LANE_APPROVE_SWITCH (R46). -/
def execLaneApproveSwitch (e : Engine) (l : Lane) (s : State) : Res := .next (settle (s.guardRow .host (oengPage e) 0xE00 (l.val + 0x40)))
/-- LANE_SWITCH_NOW (R52). -/
def execLaneSwitchNow (e : Engine) (l : Lane) (s : State) : Res := .next (settle (s.guardRow .host (oengPage e) 0xE00 (l.val + 0x60)))
/-- CAL_INTERPOLATE (R53). -/
def execCalInterpolate (e : Engine) (temp : BitVec 8) (s : State) : Res := .next (settle (s.doCalInterpolate e temp.toNat))
/-- COUNTER_HARVEST (R89, R17, R61, R88, R404). -/
def execCounterHarvest (p : Port) (s : State) : Res := .next (settle (s.doCounterHarvest p))

end Sys2Proof.Machine
end

