-- ==== Sys2Proof/Machine/CmdService.lean ====
section
/-! DEFINITION. The meanings of the commands, one definition each: service clusters, the lease, checkpoints, twin mode, injection, the pool manager and mailboxes (chapter 13). Severity
actions that a command brings about are taken at its end (`settle`, R418). -/

namespace Sys2Proof.Machine

/-- Pool commands: PM_CMD of the host, or FW_PM_CMD of a core pair (R376). -/
def State.pmAllocateBy (s : State) (w : Who) (req size : Nat) : State :=
  match w with
  | .fw c p => s.access w poolPage 0x180 fun s => s.doPmAllocate (some (c.val, p.val)) req size
  | _ => s.turnRow w .pool poolPage 0x100 (1 + 4 * req + 64 * size) fun s => s.doPmAllocate none req size
def State.pmFreeBy (s : State) (w : Who) (req handle : Nat) : State :=
  match w with
  | .fw c p => s.access w poolPage 0x180 fun s => s.doPmFree (some (c.val, p.val)) req handle
  | _ => s.cmdRow w poolPage 0x100 fun s => s.doPmFree none req handle

/-- LOCKSTEP_MISMATCH (R343, R352, R448). -/
def execLockstepMismatch (c : Cluster) (pair : Pair) (s : State) : Res := .next (settle (s.doLockstepMismatch c pair))
/-- SRAM_ECC_ERROR (R344, R352). -/
def execSramEccError (c : Cluster) (uncorrectable : Bool) (s : State) : Res := .next (settle (s.doSramEccError c uncorrectable))
/-- CLUSTER_SELFTEST_DONE (R345). -/
def execClusterSelftestDone (c : Cluster) (ok : Bool) (s : State) : Res := .next (settle (s.doClusterSelftestDone c ok))
/-- CLUSTER_LOAD_DONE (R345, R357). -/
def execClusterLoadDone (c : Cluster) (ok : Bool) (s : State) : Res := .next (settle (s.doClusterLoadDone c ok))
/-- LEASE_RENEW (R349, R350, R373). -/
def execLeaseRenew (c : Cluster) (epoch : BitVec 16) (s : State) : Res := .next (settle (s.doLeaseRenew c epoch.toNat))
/-- LEASE_CLAIM (R349, R350, R351, R355, R361, R373, R425). -/
def execLeaseClaim (c : Cluster) (s : State) : Res := .next (settle (s.doLeaseClaim c))
/-- LEASE_RELEASE (R349, R369, R455). -/
def execLeaseRelease (c : Cluster) (epoch : BitVec 16) (s : State) : Res := .next (settle (s.doLeaseRelease c epoch.toNat))
/-- LEASE_READY (R349, R356). -/
def execLeaseReady (c : Cluster) (epoch : BitVec 16) (s : State) : Res := .next (settle (s.doLeaseReady c epoch.toNat))
/-- LEASE_EXPIRE (R349, R350, R351, R354, R369, R373, R405). -/
def execLeaseExpire (s : State) : Res := .next (settle (s.doLeaseExpire))
/-- LEASE_GUARD_END (R349). -/
def execLeaseGuardEnd (s : State) : Res := .next (settle (s.doLeaseGuardEnd))
/-- LEASE_REVOKE (R352, R350, R369). -/
def execLeaseRevoke (s : State) : Res := .next (settle (s.guardRow .host svccPage 0xE00 1))
/-- LEASE_SET_NEXT (R352). -/
def execLeaseSetNext (next : Fin 4) (s : State) : Res := .next (settle (s.guardRow .host svccPage 0xE00 (2 + 4 * next.val)))
/-- CKPT_CMD (R353, R351, R354). -/
def execCkptCmd (c : Cluster) (s : State) : Res := .next (settle (s.doCkptCmd c))
/-- CKPT_MARK (R353). -/
def execCkptMark (c : Cluster) (page : BitVec 18) (set : Bool) (s : State) : Res := .next (settle (s.doCkptMark c page.toNat set))
/-- CKPT_COMMIT (R354, R455). -/
def execCkptCommit (s : State) : Res := .next (settle (s.doCkptCommit))
/-- CKPT_STALE (R354). -/
def execCkptStale (s : State) : Res := .next (settle (s.doCkptStale))
/-- CHECKPOINT_RESTORE_DONE (R355). -/
def execCheckpointRestoreDone (s : State) : Res := .next (settle (s.doCheckpointRestoreDone))
/-- SWAP_DUE (R357). -/
def execSwapDue (s : State) : Res := .next (settle (s.doSwapDue))
/-- SWAP_WINDOW_EXPIRE (R357). -/
def execSwapWindowExpire (s : State) : Res := .next (settle (s.doSwapWindowExpire))
/-- TWIN_FRAME_RECEIVE (R359, R358, R360). -/
def execTwinFrameReceive (bytes : List Byte) (s : State) : Res := .next (settle (s.doTwinFrameReceive bytes))
/-- TWIN_STATUS_SEND (R359). -/
def execTwinStatusSend (s : State) : Res := .next (settle (s.doTwinStatusSend))
/-- TWIN_RENEW_SEND (R359). -/
def execTwinRenewSend (s : State) : Res := .next (settle (s.doTwinRenewSend))
/-- TWIN_EXPIRY (R359, R358, R361). -/
def execTwinExpiry (s : State) : Res := .next (settle (s.doTwinExpiry))
/-- TWIN_STANDBY_TAKEOVER (R359, R358). -/
def execTwinStandbyTakeover (s : State) : Res := .next (settle (s.doTwinStandbyTakeover))
/-- TWIN_LINK_LOST (R359). -/
def execTwinLinkLost (s : State) : Res := .next (settle (s.doTwinLinkLost))
/-- TWIN_LISTEN_END (R360, R358, R361). -/
def execTwinListenEnd (s : State) : Res := .next (settle (s.doTwinListenEnd))
/-- TWIN_HAND_OVER (R360, R358). -/
def execTwinHandOver (s : State) : Res := .next (settle (s.guardRow .host twinPage 0xE00 1))
/-- TWIN_RELEASE_GUARD_END (R360, R358). -/
def execTwinReleaseGuardEnd (s : State) : Res := .next (settle (s.doTwinReleaseGuardEnd))
/-- TWIN_HOLD_IN_CHANGE (R361). -/
def execTwinHoldInChange (level : Bool) (s : State) : Res := .next (settle (s.doTwinHoldInChange level))
/-- TWIN_HOLD_SAMPLE (R361, R358, R474). -/
def execTwinHoldSample (s : State) : Res := .next (settle (s.doTwinHoldSample))
/-- TWIN_HOLD_RELEASE (R361, R474). -/
def execTwinHoldRelease (s : State) : Res := .next (settle (s.doTwinHoldRelease))
/-- INJECT_POST (R365, R351). -/
def execInjectPost (c : Cluster) (pair : Pair) (w3 : Word) (s : State) : Res := .next (settle (s.doInjectPost c pair w3))
/-- INJECT_SEND (R365, R5). -/
def execInjectSend (pair : Pair) (s : State) : Res := .next (settle (s.doInjectSend pair))
/-- LASER_REQ (R366). -/
def execLaserReq (c : Cluster) (e : Engine) (l : Lane) (ceil : BitVec 12) (all : Bool) (s : State) : Res :=
  .next (settle (s.doLaserReq c e l ceil.toNat all))
/-- PM_ALLOCATE (R367, R351, R368, R369, R376, R487). -/
def execPmAllocate (w : Who) (req : Fin 16) (size : BitVec 14) (s : State) : Res := .next (settle (s.pmAllocateBy w req size.toNat))
/-- PM_FREE (R368, R351, R376). -/
def execPmFree (w : Who) (req : Fin 16) (handle : Word) (s : State) : Res := .next (settle (s.pmFreeBy w req handle.toNat))
/-- PUNT_TO_CLUSTER (R370). -/
def execPuntToCluster (sl : Slice) (s : State) : Res := .next (settle (s.doPuntToCluster sl))
/-- MB_TO_FW_POST (R371). -/
def execMbToFwPost (handle : Word) (s : State) : Res :=
  .next (settle (s.nowRow .host svccPage 0x110 fun s => s.doMbToFwPost handle.toNat))
/-- MB_TO_FW_READ (R371, R405). -/
def execMbToFwRead (c : Cluster) (pair : Pair) (s : State) : Res := .next (settle (s.doMbToFwRead c pair))
/-- MB_TO_HOST_POST (R371). -/
def execMbToHostPost (c : Cluster) (handle : Word) (s : State) : Res := .next (settle (s.doMbToHostPost c handle.toNat))
/-- MB_TO_HOST_READ (R371). -/
def execMbToHostRead (s : State) : Res := .next (settle (s.anyRead .host svccPage 0x114))
/-- CLUSTER_WINDOW_ACCESS (R347, R351, R353). -/
def execClusterWindowAccess (c : Cluster) (addr : BitVec 36) (st : Option Byte) (s : State) : Res :=
  .next (settle (s.doClusterWindowAccess c addr.toNat st))
/-- FIRMWARE_HOST_PAGE_READ (R364). -/
def execFirmwareHostPageRead (c : Cluster) (page : Fin 16384) (off : Fin 4096) (s : State) : Res :=
  .next (settle (s.doFirmwareHostPageRead c page off))

end Sys2Proof.Machine
end

