-- ==== Sys2Proof/Machine/CmdSwitch.lean ====
section
/-! DEFINITION. The meanings of the commands, one definition each: crossbar, queues, the deep tier, audit, scheduling and gates (chapters 06 to 08). Severity
actions that a command brings about are taken at its end (`settle`, R418). -/

namespace Sys2Proof.Machine

/-- CELL_IDLE_CLOSE (R23, R17, R209). -/
def execCellIdleClose (sl : Slice) (q : Fin 2112) (s : State) : Res := .next (settle (s.doCellIdleClose sl q))
/-- MATCHING_ROUND (R213, R163, R206, R209, R212, R214, R215, R216, R285). -/
def execMatchingRound (s : State) : Res := .next (settle (s.doMatchingRound))
/-- CELL_ARRIVAL (R223, R5, R20, R21, R32, R35, R38, R44, R66, R73, R78, R121). -/
def execCellArrival (d : Slice) (crcGood : Bool) (s : State) : Res := .next (settle (s.doCellArrival d crcGood))
/-- RESEQ_TIMEOUT (R224, R21, R225, R227). -/
def execReseqTimeout (d : Slice) (src : Slice) (dest : Fin 264) (c : Cls) (s : State) : Res :=
  .next (settle (s.doReseqTimeout d src dest c))
/-- VOQ_STALL (R228). -/
def execVoqStall (sl : Slice) (q : Fin 2112) (s : State) : Res := .next (settle (s.doVoqStall sl q))
/-- PLANE_TRAINING_LOSS (R218, R21, R224, R225). -/
def execPlaneTrainingLoss (p : Plane) (s : State) : Res := .next (settle (s.planeOut p))
/-- PLANE_REMOVE (R218, R21, R224, R225, R231, R431). -/
def execPlaneRemove (p : Plane) (s : State) : Res := .next (settle (s.guardRow .host (xbarPage 8) 0xE00 (p.val + 4)))
/-- PLANE_RETURN (R219, R231). -/
def execPlaneReturn (p : Plane) (s : State) : Res := .next (settle (s.guardRow .host (xbarPage 8) 0xE00 (p.val + 8)))
/-- PLANE_RETURN_DONE (R219). -/
def execPlaneReturnDone (p : Plane) (ok : Bool) (s : State) : Res := .next (settle (s.doPlaneReturnDone p ok))
/-- PORT_TREE_DECISION (R187, R183, R185, R186, R188, R190, R239). -/
def execPortTreeDecision (p : Port) (s : State) : Res := .next (settle (s.doPortTreeDecision p))
/-- TRANSMIT_SELECT (R181, R19, R20, R63, R64, R66, R73, R76, R79, R81, R119, R138). -/
def execTransmitSelect (lp : LPort) (s : State) : Res := .next (settle (s.doTransmitSelect lp))
/-- TRANSMIT_END (R146, R70, R78, R80, R86, R88). -/
def execTransmitEnd (lp : LPort) (s : State) : Res := .next (settle (s.doTransmitEnd lp))
/-- CT_UNDERRUN (R222, R69). -/
def execCtUnderrun (lp : LPort) (s : State) : Res := .next (settle (s.doCtUnderrun lp))
/-- BOBBIN_IDLE_WRITE (R151). -/
def execBobbinIdleWrite (sl : Slice) (q : Fin 16384) (s : State) : Res := .next (settle (s.doBobbinIdleWrite sl q))
/-- BOBBIN_READBACK (R153, R152, R156). -/
def execBobbinReadback (sl : Slice) (q : Fin 16384) (s : State) : Res := .next (settle (s.doBobbinReadback sl q))
/-- QUEUE_CONFIG_WRITE (R164, R145, R165, R166, R176, R487). -/
def execQueueConfigWrite (sl : Slice) (idx : Fin 32768) (s : State) : Res :=
  .next (settle (s.turnRow .host .deepS (deepPage sl) 0x100 (idx + 0x8000) fun s => s.doQueueConfigWrite sl idx))
/-- QUEUE_CONFIG_READ (R164, R176). -/
def execQueueConfigRead (sl : Slice) (idx : Fin 32768) (s : State) : Res :=
  .next (settle (s.turnRow .host .deepS (deepPage sl) 0x100 (idx + 0x10000) fun s => s.doQueueConfigRead sl idx))
/-- STACK_REFRESH_DOUBLE (R167). -/
def execStackRefreshDouble (d : Stack) (s : State) : Res := .next (settle (s.doStackRefreshDouble d))
/-- STACK_REFRESH_NORMAL (R167). -/
def execStackRefreshNormal (d : Stack) (s : State) : Res := .next (settle (s.doStackRefreshNormal d))
/-- DERATE_RECOMPUTE (R167, R24, R168, R189, R190, R333). -/
def execDerateRecompute (s : State) : Res := .next (settle (s.doDerateRecompute))
/-- STACK_FAULT (R169, R347). -/
def execStackFault (d : Stack) (s : State) : Res := .next (settle (s.doStackFault d))
/-- STACK_REMOVE (R169, R177, R347, R431). -/
def execStackRemove (d : Stack) (s : State) : Res := .next (settle (s.guardRow .host (deepPage 8) 0xE00 (d.val + 8)))
/-- STACK_RETURN (R170, R14, R177). -/
def execStackReturn (d : Stack) (s : State) : Res := .next (settle (s.guardRow .host (deepPage 8) 0xE00 (d.val + 16)))
/-- STACK_SELFTEST_DONE (R170, R347). -/
def execStackSelftestDone (d : Stack) (ok : Bool) (s : State) : Res := .next (settle (s.doStackSelftestDone d ok))
/-- AUDIT_LATCH (R173, R297). -/
def execAuditLatch (s : State) : Res := .next (settle (s.doAuditLatch))
/-- AUDIT_CHECK (R173, R172). -/
def execAuditCheck (s : State) : Res := .next (settle (s.doAuditCheck))
/-- SCHED_ENTRY_WRITE (R203, R154, R179, R184, R189, R191, R201, R204, R487). -/
def execSchedEntryWrite (sl : Slice) (table : Fin 16) (idx : Fin 32768) (s : State) : Res :=
  .next (settle (s.turnRow .host .schd (schdPage sl) 0x100 (idx + 0x8000 * table + 0x80000) fun s => s.schCommand sl 1 table idx))
/-- SCHED_ENTRY_READ (R203). -/
def execSchedEntryRead (sl : Slice) (table : Fin 16) (idx : Fin 32768) (s : State) : Res :=
  .next (settle (s.turnRow .host .schd (schdPage sl) 0x100 (idx + 0x8000 * table + 0x100000) fun s => s.doSchedRead sl table idx))
/-- GATE_COMMIT (R197, R203). -/
def execGateCommit (sl : Slice) (k : Fin 32) (s : State) : Res :=
  .next (settle (s.turnRow .host .schd (schdPage sl) 0x100 (k + 0x1B0000) fun s => s.doGateCommit sl k))
/-- GATE_COMMIT_COPY_DONE (R197). -/
def execGateCommitCopyDone (sl : Slice) (k : Fin 32) (s : State) : Res := .next (settle (s.doGateCopyDone sl k))
/-- GATE_LIST_CHANGE (R197, R193, R199). -/
def execGateListChange (p : Port) (s : State) : Res := .next (settle (s.doGateListChange p))
/-- GATE_ENTRY_ADVANCE (R193, R192, R196). -/
def execGateEntryAdvance (p : Port) (s : State) : Res := .next (settle (s.doGateEntryAdvance p))
/-- SAMPLE_READ_CLEAR (R200, R203). -/
def execSampleReadClear (sl : Slice) (idx : Fin 32768) (s : State) : Res :=
  .next (settle (s.turnRow .host .schd (schdPage sl) 0x100 (idx + 0x1C8000) fun s => s.doSampleReadClear sl idx))
/-- QUEUE_SAMPLE (R200, R201). -/
def execQueueSample (sl : Slice) (idx : Fin 17408) (s : State) : Res := .next (settle (s.doQueueSample sl idx))
/-- BOBBIN_WRITE_DONE (R172, R151). -/
def execBobbinWriteDone (sl : Slice) (q : Fin 16384) (s : State) : Res := .next (settle (s.doBobbinWriteDone sl q))

end Sys2Proof.Machine
end

