-- ==== Sys2Proof/Machine/CmdSystem.lean ====
section
/-! DEFINITION. The meanings of the commands, one definition each: faults and resets, boot, the NV store, supplies and board management (chapters 15 to 17). Severity
actions that a command brings about are taken at its end (`settle`, R418). -/

namespace Sys2Proof.Machine

/-- RAIL_BREAK (R416, R415, R424). -/
def execRailBreak (page : Fin 16384) (src : Fin 32) (s : State) : Res := .next (settle (s.doRailBreak page src))
/-- RAIL_RESTORE (R416, R415). -/
def execRailRestore (s : State) : Res := .next (settle (s.doRailRestore))
/-- THERM_THRESHOLD_CROSS (R426, R424, R473). -/
def execThermThresholdCross (i : Island) (temp : BitVec 8) (s : State) : Res := .next (settle (s.doThermCross i temp.toNat))
/-- COLD_RESET_CMD (R427, R14, R160, R362, R410, R425, R430, R436, R437, R473). -/
def execColdResetCmd (w : Who) (s : State) : Res := .next (settle (s.guardRow w fltcPage 0xE00 1))
/-- WARM_RESET_CMD (R427, R14, R410, R425, R430). -/
def execWarmResetCmd (w : Who) (s : State) : Res := .next (settle (s.guardRow w fltcPage 0xE00 2))
/-- BLOCK_RESET_CMD (R428, R14, R58, R160, R289, R398, R427, R429, R430, R431, R437). -/
def execBlockResetCmd (w : Who) (target : Fin 64) (s : State) : Res := .next (settle (s.guardRow w fltcPage 0xE00 (3 + 8 * target.val)))
/-- CLUSTER_RESET_CMD (R427, R14, R345, R421, R430, R448). -/
def execClusterResetCmd (w : Who) (target : Fin 64) (s : State) : Res := .next (settle (s.guardRow w fltcPage 0xE00 (4 + 8 * target.val)))
/-- RELEASE_ISOLATED (R421, R345, R430). -/
def execReleaseIsolated (w : Who) (target : Fin 64) (s : State) : Res := .next (settle (s.guardRow w fltcPage 0xE00 (5 + 8 * target.val)))
/-- BLOCK_RESET_READY (R429, R14, R54, R58, R428, R445). -/
def execBlockResetReady (i : Island) (s : State) : Res := .next (settle (s.doBlockResetReady i))
/-- SLICE_RELOAD_DONE (R428). -/
def execSliceReloadDone (sl : Slice) (s : State) : Res := .next (settle (s.doSliceReloadDone sl))
/-- GUY_WINDOW_END (R431). -/
def execGuyWindowEnd (i : Island) (s : State) : Res := .next (settle (s.doGuyWindowEnd i))
/-- RECORD_CLR_FATAL (R437). -/
def execRecordClrFatal (s : State) : Res := .next (settle (s.guardRow .host fltcPage 0xE04 1))
/-- RECORD_CLR_LAST (R437). -/
def execRecordClrLast (s : State) : Res := .next (settle (s.guardRow .host fltcPage 0xE04 2))
/-- SLOW_COPY_REFRESH (R393, R15, R57, R177, R375, R460). -/
def execSlowCopyRefresh (s : State) : Res := .next (settle (s.doSlowCopyRefresh))
/-- STANDBY_POWER_UP (R454, R436). -/
def execStandbyPowerUp (s : State) : Res := .next (settle (s.doStandbyPowerUp))
/-- NV_MOUNT_DONE (R453, R451, R454). -/
def execNvMountDone (lost : List (BitVec 32)) (s : State) : Res := .next (settle (s.doNvMountDone (lost.map fun x => x.toNat)))
/-- MAIN_POWER_UP (R454, R427, R466). -/
def execMainPowerUp (s : State) : Res := .next (settle (s.doMainPowerUp))
/-- RAILS_IN_REGULATION (R454). -/
def execRailsInRegulation (s : State) : Res := .next (settle (s.doRailsInRegulation))
/-- ISLANDS_CLOCKED (R454, R302). -/
def execIslandsClocked (s : State) : Res := .next (settle (s.doIslandsClocked))
/-- BOOT_VERIFY_DONE (R447, R444, R445, R449, R454). -/
def execBootVerifyDone (s : State) : Res := .next (settle (s.doBootVerifyDone))
/-- MICROCODE_LOADED (R454, R54). -/
def execMicrocodeLoaded (s : State) : Res := .next (settle (s.doMicrocodeLoaded))
/-- ISLANDS_SELFTEST_DONE (R454, R455). -/
def execIslandsSelftestDone (s : State) : Res := .next (settle (s.doIslandsSelftestDone))
/-- MAELWICK_LOADED (R454). -/
def execMaelwickLoaded (s : State) : Res := .next (settle (s.doMaelwickLoaded))
/-- TRIAL_TIMEOUT (R448). -/
def execTrialTimeout (s : State) : Res := .next (settle (s.doTrialTimeout))
/-- UPDATE_BEGIN (R458). -/
def execUpdateBegin (slot : Fin 2) (s : State) : Res := .next (settle (s.turnRow .host .nvst nvstPage 0x100 (1 + 8 * slot) fun s => s.doUpdateBegin slot))
/-- UPDATE_WRITE (R458, R487). -/
def execUpdateWrite (slot : Fin 2) (idx : BitVec 16) (s : State) : Res :=
  .next (settle (s.turnRow .host .nvst nvstPage 0x100 (2 + 8 * slot + 16 * idx.toNat) fun s => s.doUpdateWrite slot idx.toNat))
/-- UPDATE_FINISH (R458, R444, R451). -/
def execUpdateFinish (slot : Fin 2) (s : State) : Res := .next (settle (s.turnRow .host .nvst nvstPage 0x100 (3 + 8 * slot) fun s => s.doUpdateFinish slot))
/-- UPDATE_ABANDON (R458). -/
def execUpdateAbandon (slot : Fin 2) (s : State) : Res := .next (settle (s.turnRow .host .nvst nvstPage 0x100 (4 + 8 * slot) fun s => s.doUpdateAbandon slot))
/-- UPDATE_CONFIRM (R458, R448). -/
def execUpdateConfirm (s : State) : Res := .next (settle (s.turnRow .host .nvst nvstPage 0x100 5 fun s => s.doUpdateConfirm))
/-- UPDATE_SELECT (R458). -/
def execUpdateSelect (slot : Fin 2) (s : State) : Res := .next (settle (s.turnRow .host .nvst nvstPage 0x100 (6 + 8 * slot) fun s => s.doUpdateSelect slot))
/-- OBJECT_WRITE (R459, R451, R487). -/
def execObjectWrite (s : State) : Res := .next (settle (s.turnRow .host .nvst nvstPage 0x110 1 fun s => s.doObjectWrite))
/-- OBJECT_READ (R459). -/
def execObjectRead (s : State) : Res := .next (settle (s.turnRow .host .nvst nvstPage 0x110 2 fun s => s.doObjectRead))
/-- OBJECT_DELETE (R459). -/
def execObjectDelete (s : State) : Res := .next (settle (s.turnRow .host .nvst nvstPage 0x110 3 fun s => s.doObjectDelete))
/-- DIAG_RUN (R450). -/
def execDiagRun (i : Fin 64) (s : State) : Res := .next (settle (s.nowRow .host nvstPage 0x130 fun s => s.doDiagRun i))
/-- DIAG_DONE (R450). -/
def execDiagDone (ok : Bool) (s : State) : Res := .next (settle (s.doDiagDone ok))
/-- SVN_RAISE (R460). -/
def execSvnRaise (floor : BitVec 16) (s : State) : Res := .next (settle (s.guardRow .host nvstPage 0xE00 floor.toNat))
/-- NV_CKPT_COPY_DONE (R455, R451). -/
def execNvCkptCopyDone (s : State) : Res := .next (settle (s.doNvCkptCopyDone))
/-- JOURNAL_PAGE_PROGRAM (R456). -/
def execJournalPageProgram (s : State) : Res := .next (settle (s.doJournalPageProgram))
/-- NV_REFRESH_SCAN (R457). -/
def execNvRefreshScan (_page : BitVec 20) (corrected : Nat) (old : Bool) (retired : Bool) (s : State) : Res :=
  .next (settle (s.doNvRefreshScan corrected old retired))
/-- RESET_N_ASSERT (R471, R362, R427). -/
def execResetNAssert (lowNs : Nat) (s : State) : Res := .next (settle (s.doResetNAssert lowNs))
/-- RESET_N_RELEASE (R471). -/
def execResetNRelease (s : State) : Res := .next (settle (s.doResetNRelease))
/-- POWER_FAIL_INPUT (R467, R362, R424, R426, R452). -/
def execPowerFailInput (c : PowerFailCause) (s : State) : Res := .next (settle (s.doPowerFailInput c))
/-- VIN12_LOW (R467, R362). -/
def execVin12Low (s : State) : Res := .next (settle (s.doVin12Low))
/-- VIN12_OFF (R467). -/
def execVin12Off (s : State) : Res := .next (settle (s.doVin12Off))
/-- VIN12_RETURN (R467). -/
def execVin12Return (s : State) : Res := .next (settle (s.doVin12Return))
/-- BMC_READ_IDENTITY (R476). -/
def execBmcReadIdentity (s : State) : Res := .next (settle (s.doBmcReadIdentity))
/-- BMC_READ_DEV_INFO (R476). -/
def execBmcReadDevInfo (s : State) : Res := .next (settle (s.doBmcReadDevInfo))
/-- BMC_READ_STATUS (R476). -/
def execBmcReadStatus (s : State) : Res := .next (settle (s.doBmcReadStatus))
/-- BMC_READ_TEMP (R476). -/
def execBmcReadTemp (s : State) : Res := .next (settle (s.doBmcReadTemp))
/-- BMC_READ_VIN12 (R476). -/
def execBmcReadVin12 (s : State) : Res := .next (settle (s.doBmcReadVin12))
/-- BMC_READ_VIN12_CURRENT (R476). -/
def execBmcReadVin12Current (s : State) : Res := .next (settle (s.doBmcReadVin12Current))
/-- BMC_READ_VSB33 (R476). -/
def execBmcReadVsb33 (s : State) : Res := .next (settle (s.doBmcReadVsb33))
/-- BMC_READ_POWER (R476). -/
def execBmcReadPower (s : State) : Res := .next (settle (s.doBmcReadPower))
/-- BMC_READ_FATAL (R476). -/
def execBmcReadFatal (s : State) : Res := .next (settle (s.doBmcReadFatal))
/-- BMC_READ_LAST_RESET (R476). -/
def execBmcReadLastReset (s : State) : Res := .next (settle (s.doBmcReadLastReset))
/-- BMC_READ_ALERT_STATUS (R476). -/
def execBmcReadAlertStatus (s : State) : Res := .next (settle (s.doBmcReadAlertStatus))
/-- BMC_CLEAR_ALERT_STATUS (R477, R476). -/
def execBmcClearAlertStatus (v : Byte) (pecGood : Bool) (s : State) : Res := .next (settle (s.doBmcClearAlert v pecGood))
/-- BMC_COLD_RESET (R476, R362, R427). -/
def execBmcColdReset (v : Byte) (pecGood : Bool) (s : State) : Res := .next (settle (s.doBmcColdReset v pecGood))
/-- SMB_ALERT_RESPONSE (R477). -/
def execSmbAlertResponse (s : State) : Res := .next (settle (s.doSmbAlertResponse))
/-- BMC_READING_REFRESH (R476). -/
def execBmcReadingRefresh (temp : Byte) (island : Island) (vin12mV vin12dA vsb33mV powerW : BitVec 16) (s : State) : Res :=
  .next (settle (s.doBmcReadingRefresh temp.toNat island vin12mV.toNat vin12dA.toNat vsb33mV.toNat powerW.toNat))
/-- NV_COMMAND_DONE (R458, R451, R459). -/
def execNvCommandDone (s : State) (verified : Bool := true) : Res := .next (settle (s.doNvCommandDone verified))

end Sys2Proof.Machine
end

