-- ==== Sys2Proof/Machine/CmdTables.lean ====
section
/-! DEFINITION. The meanings of the commands, one definition each: rules, templates, meters, the bridging tables and the sequencer (chapters 04 and 05). Severity
actions that a command brings about are taken at its end (`settle`, R418). -/

namespace Sys2Proof.Machine

/-- RULE_WRITE (R99, R100, R101, R103, R111, R487). -/
def execRuleWrite (sl : Slice) (w : Who) (idx : Fin 16384) (ver : Fin 4) (s : State) : Res :=
  .next (settle (s.turnRow w .clsf (clsfPage sl) (if whoFw w then 0x280 else 0x180) (idx + 16384 + 65536 * ver) fun s => s.doRuleWrite sl w idx ver))
/-- RULE_READ (R99, R101). -/
def execRuleRead (sl : Slice) (w : Who) (idx : Fin 16384) (s : State) : Res :=
  .next (settle (s.turnRow w .clsf (clsfPage sl) (if whoFw w then 0x280 else 0x180) (idx + 32768) fun s => s.doRuleRead sl w idx))
/-- RULE_INVALIDATE (R99, R101). -/
def execRuleInvalidate (sl : Slice) (w : Who) (idx : Fin 16384) (s : State) : Res :=
  .next (settle (s.turnRow w .clsf (clsfPage sl) (if whoFw w then 0x280 else 0x180) (idx + 49152) fun s => s.doRuleInvalidate sl w idx))
/-- TEMPLATE_WRITE (R95, R111, R487). -/
def execTemplateWrite (sl : Slice) (idx : Fin 64) (s : State) : Res :=
  .next (settle (s.turnRow .host .clsf (clsfPage sl) 0x100 (idx + 0x40) fun s => s.doTemplateWrite sl idx))
/-- TEMPLATE_READ (R111). -/
def execTemplateRead (sl : Slice) (idx : Fin 64) (s : State) : Res :=
  .next (settle (s.turnRow .host .clsf (clsfPage sl) 0x100 (idx + 0x80) fun s => s.doTemplateRead sl idx))
/-- METER_WRITE (R107, R105, R113, R114, R487). -/
def execMeterWrite (sl : Slice) (idx : Fin 32768) (s : State) : Res :=
  .next (settle (s.turnRow .host .metr (metrPage sl) 0x100 (idx + 0x8000) fun s => s.doMeterWrite sl idx))
/-- METER_READ (R108, R114). -/
def execMeterRead (sl : Slice) (idx : Fin 32768) (s : State) : Res :=
  .next (settle (s.turnRow .host .metr (metrPage sl) 0x100 (idx + 0x10000) fun s => s.doMeterRead sl idx))
/-- METER_REFILL (R106). -/
def execMeterRefill (sl : Slice) (idx : Fin 32768) (s : State) : Res := .next (settle (s.doMeterRefill sl idx))
/-- SCRUB_STEP (R139, R109, R140). -/
def execScrubStep (sl : Slice) (t : ScrubTable) (idx : Fin 1048576) (f : ScrubFind) (s : State) : Res :=
  .next (settle (s.doScrub sl t idx f))
/-- LEARN_REQUEST_ARRIVE (R129). -/
def execLearnRequestArrive (sl : Slice) (s : State) : Res := .next (settle (s.doLearnArrive sl))
/-- SEQUENCER_ACCEPT (R128, R125, R129, R130, R131, R133, R135, R140). -/
def execSequencerAccept (s : State) : Res := .next (settle (s.doSequencerAccept))
/-- COPY_APPLY (R129, R122, R125, R127, R130, R131, R133, R135). -/
def execCopyApply (sl : Slice) (s : State) : Res := .next (settle (s.doCopyApply sl))
/-- PENDING_FILTER_EXPIRE (R127). -/
def execPendingFilterExpire (sl : Slice) (s : State) : Res := .next (settle (s.doFilterExpire sl))
/-- AGE_SWEEP_SLOT (R132, R133). -/
def execAgeSweepSlot (s : State) : Res := .next (settle (s.doAgeSweep))
/-- MEMBER_AGE_SWEEP (R123, R122, R135). -/
def execMemberAgeSweep (sl : Slice) (s : State) : Res := .next (settle (s.doMemberAge sl))
/-- TABLE_ENTRY_WRITE (R142, R122, R143, R487). -/
def execTableEntryWrite (w : Who) (table : Fin 16) (idx : Fin 1048576) (s : State) : Res :=
  .next (settle (s.turnRow w .tbls tblsPage (if whoFw w then 0x480 else 0x400) (0x1000000 + 0x100000 * table + idx) fun s => s.doTableWrite w table idx))
/-- TABLE_ENTRY_READ (R142). -/
def execTableEntryRead (w : Who) (table : Fin 16) (idx : Fin 1048576) (s : State) : Res :=
  .next (settle (s.turnRow w .tbls tblsPage (if whoFw w then 0x480 else 0x400) (0x2000000 + 0x100000 * table + idx) fun s => s.doTableRead w table idx))
/-- TABLE_ENTRY_DELETE (R142). -/
def execTableEntryDelete (w : Who) (table : Fin 16) (idx : Fin 1048576) (s : State) : Res :=
  .next (settle (s.turnRow w .tbls tblsPage (if whoFw w then 0x480 else 0x400) (0x3000000 + 0x100000 * table + idx) fun s => s.doTableDelete w table idx))
/-- MAC_INSERT (R125, R124, R142). -/
def execMacInsert (w : Who) (s : State) : Res :=
  .next (settle (s.turnRow w .tbls tblsPage (if whoFw w then 0x480 else 0x400) 0x1300000 fun s => s.doMacInsert w))
/-- MAC_DELETE (R142). -/
def execMacDelete (w : Who) (s : State) : Res :=
  .next (settle (s.turnRow w .tbls tblsPage (if whoFw w then 0x480 else 0x400) 0x3300000 fun s => s.doMacDelete w))
/-- MAC_FLUSH (R134, R142). -/
def execMacFlush (w : Who) (s : State) : Res :=
  .next (settle (s.turnRow w .tbls tblsPage (if whoFw w then 0x480 else 0x400) 0x3380000 fun s => s.doMacFlush w))
/-- MAC_FLUSH_DONE (R134, R135). -/
def execMacFlushDone (s : State) : Res := .next (settle (s.doFlushDone))
/-- READ_BY_SLOT (R142). -/
def execReadBySlot (w : Who) (table : Fin 16) (idx : Fin 1048576) (s : State) : Res :=
  .next (settle (s.turnRow w .tbls tblsPage (if whoFw w then 0x480 else 0x400) (0x5000000 + 0x100000 * table + idx) fun s => s.doReadBySlot w table idx))
/-- MEMBER_JOIN (R123, R122, R142). -/
def execMemberJoin (w : Who) (s : State) : Res :=
  .next (settle (s.turnRow w .tbls tblsPage (if whoFw w then 0x480 else 0x400) 0x6500000 fun s => s.doMemberJoin w))
/-- MEMBER_LEAVE (R123, R122, R142). -/
def execMemberLeave (w : Who) (s : State) : Res :=
  .next (settle (s.turnRow w .tbls tblsPage (if whoFw w then 0x480 else 0x400) 0x7500000 fun s => s.doMemberLeave w))
/-- ROUTE_INSERT (R137, R136, R142). -/
def execRouteInsert (w : Who) (s : State) : Res :=
  .next (settle (s.turnRow w .tbls tblsPage (if whoFw w then 0x480 else 0x400) 0x1600000 fun s => s.doRouteInsert w))
/-- ROUTE_DELETE (R137, R142). -/
def execRouteDelete (w : Who) (s : State) : Res :=
  .next (settle (s.turnRow w .tbls tblsPage (if whoFw w then 0x480 else 0x400) 0x3600000 fun s => s.doRouteDelete w))
/-- ROUTE_LONGEST_MATCH (R142, R137). -/
def execRouteLongestMatch (w : Who) (s : State) : Res :=
  .next (settle (s.turnRow w .tbls tblsPage (if whoFw w then 0x480 else 0x400) 0x4600000 fun s => s.doRouteMatch w))
/-- HASH_SEED_WRITE (R124). -/
def execHashSeedWrite (n : Fin 2) (v : Word) (s : State) : Res := .next (settle (s.doHashSeed n v))

end Sys2Proof.Machine
end

