-- ==== Sys2Proof/Machine/CmdTime.lean ====
section
/-! DEFINITION. The meanings of the commands, one definition each: time bases, the time pins and loom budgets (chapters 11 and 12). Severity
actions that a command brings about are taken at its end (`settle`, R418). -/

namespace Sys2Proof.Machine

/-- A read of `w`: firmware gets the value too. -/
def State.readBy (s : State) (w : Who) (page off : Nat) : State :=
  match w with
  | .fw c _ =>
    if !s.drives c then s
    else if s.pageDark page then (s.count hostPage 0xC0).emit (.coreRead c 0)
    else
      let (t, v) := (s.accessHit w 1 page).readWith page off
      t.emit (.coreRead c v.toNat)
  | _ => s.anyRead w page off

/-- DT_TRIM (R16, R302, R435). -/
def execDtTrim (i : Island) (skew : BitVec 8) (freq : BitVec 24) (s : State) : Res := .next (settle (s.doDtTrim i skew.toNat freq.toNat))
/-- CLK_UNLOCK (R435). -/
def execClkUnlock (i : Island) (s : State) : Res := .next (settle (s.doClkUnlock i))
/-- DT_SOURCE_LOST (R303). -/
def execDtSourceLost (s : State) : Res := .next (settle (s.doDtSourceLost))
/-- DT_SOURCE_RETURN (R303). -/
def execDtSourceReturn (s : State) : Res := .next (settle (s.doDtSourceReturn))
/-- DT_SET (R305, R322). -/
def execDtSet (s : State) : Res := .next (settle (s.guardRow .host timePage 0xE00 1))
/-- DT_LATCH_READ (R322). -/
def execDtLatchRead (s : State) : Res := .next (settle (s.anyRead .host timePage 0x90))
/-- TB_LATCH_READ (R306). -/
def execTbLatchRead (n : TB) (s : State) : Res := .next (settle (s.anyRead .host timePage (0x214 + 0x80 * n.val)))
/-- TB_OFFSET_WRITE (R307, R198, R308, R309, R310, R322). -/
def execTbOffsetWrite (w : Who) (n : TB) (ch : Fin 2) (o : Word) (s : State) : Res :=
  .next (settle (s.nowRow w timePage (0x230 + 0x80 * n.val + 4 * ch.val) fun s => s.doTbOffsetWrite n ch o))
/-- TB_STEP (R308, R198, R322). -/
def execTbStep (w : Who) (n : TB) (s : State) : Res := .next (settle (s.nowRow w timePage (0x240 + 0x80 * n.val) fun s => s.doTbStep n))
/-- TB_SWITCH_CHANNEL (R310). -/
def execTbSwitchChannel (w : Who) (n : TB) (s : State) : Res :=
  .next (settle (s.nowRow w timePage (0x240 + 0x80 * n.val) fun s => s.doTbSwitchChannel n))
/-- TB_HOLDOVER (R309). -/
def execTbHoldover (w : Who) (n : TB) (s : State) : Res :=
  .next (settle (s.nowRow w timePage (0x240 + 0x80 * n.val) fun s => s.doTbHoldover n))
/-- TB_RESET_SERVO (R309). -/
def execTbResetServo (w : Who) (n : TB) (s : State) : Res :=
  .next (settle (s.nowRow w timePage (0x240 + 0x80 * n.val) fun s => s.doTbResetServo n))
/-- TB_CHANNEL_TIMEOUT (R309, R310). -/
def execTbChannelTimeout (n : TB) (ch : Fin 2) (s : State) : Res := .next (settle (s.doTbChannelTimeout n ch))
/-- PPS_OUT_EDGE (R316). -/
def execPpsOutEdge (s : State) : Res := .next (settle (s.doPpsOutEdge))
/-- PPS_OUT_PULSE_END (R316). -/
def execPpsOutPulseEnd (s : State) : Res := .next (settle (s.doPpsOutPulseEnd))
/-- PPS_IN_EDGE (R317, R307, R314). -/
def execPpsInEdge (s : State) : Res := .next (settle (s.doPpsInEdge))
/-- PPS_IN_TIMEOUT (R317). -/
def execPpsInTimeout (s : State) : Res := .next (settle (s.doPpsInTimeout))
/-- FREF_ABSENT (R318). -/
def execFrefAbsent (s : State) : Res := .next (settle (s.doFrefAbsent))
/-- FREF_PRESENT (R318). -/
def execFrefPresent (s : State) : Res := .next (settle (s.doFrefPresent))
/-- TOD_TX_WRITE (R318, R322). -/
def execTodTxWrite (w : Who) (b : Byte) (s : State) : Res := .next (settle (s.nowRow w timePage 0x114 fun s => s.doTodTxWrite b))
/-- TOD_TX_SEND (R318). -/
def execTodTxSend (s : State) : Res := .next (settle (s.doTodTxSend))
/-- TOD_RX_BYTE (R318). -/
def execTodRxByte (b : Byte) (s : State) : Res := .next (settle (s.doTodRxByte b))
/-- TOD_RX_READ (R318). -/
def execTodRxRead (w : Who) (s : State) : Res := .next (settle (s.readBy w timePage 0x118))
/-- ARR_SEL (R323). -/
def execArrSel (p : Port) (s : State) : Res := .next (settle (s.nowRow .host timePage 0xC00 fun s => s.doArrSel p))
/-- ARRIVAL_WAKE_WINDOW_CLOSE (R320). -/
def execArrivalWakeWindowClose (p : Port) (s : State) : Res := .next (settle (s.doArrivalWakeWindowClose p))
/-- LOOM_PERIOD_START (R327, R326, R329, R330, R331, R340). -/
def execLoomPeriodStart (i : Fin 19) (s : State) : Res := .next (settle (s.doLoomPeriodStart i))
/-- LOOM_SLOT_AWARD (R330, R326, R328, R331, R335, R399). -/
def execLoomSlotAward (i : Fin 19) (requests : BitVec 8) (s : State) : Res := .next (settle (s.doLoomSlotAward i requests))
/-- EMERGENCY_TAKE (R332). -/
def execEmergencyTake (i : Fin 19) (s : State) : Res := .next (settle (s.doEmergencyTake i))

end Sys2Proof.Machine
end

