-- ==== Sys2Proof/Machine/CmdTrunk.lean ====
section
/-! DEFINITION. The meanings of the commands, one definition each: FlexE, pack mode, folding and the fabric (chapters 09 and 10). Severity
actions that a command brings about are taken at its end (`settle`, R418). -/

namespace Sys2Proof.Machine

/-- FLEXE_OH_FRAME_RECEIVE (R236, R233, R237, R242, R243, R246, R259). -/
def execFlexeOhFrameReceive (g : Group) (i : Fin 8) (oh : OhFrame) (s : State) : Res := .next (settle (s.doFlexeOhFrameReceive g i oh))
/-- FLEXE_OH_FRAME_SEND (R243, R171, R189, R190, R191, R233, R237, R242, R245). -/
def execFlexeOhFrameSend (g : Group) (s : State) : Res := .next (settle (s.doFlexeOhFrameSend g))
/-- FLEXE_OH_LOCK_DONE (R236). -/
def execFlexeOhLockDone (g : Group) (s : State) : Res := .next (settle (s.doFlexeOhLockDone g))
/-- FLEXE_OH_LOCK_TIMEOUT (R236). -/
def execFlexeOhLockTimeout (g : Group) (s : State) : Res := .next (settle (s.doFlexeOhLockTimeout g))
/-- FLEXE_MAP_CHECK_DONE (R236). -/
def execFlexeMapCheckDone (g : Group) (s : State) : Res := .next (settle (s.doFlexeMapCheckDone g))
/-- FLEXE_MAP_CHECK_TIMEOUT (R236). -/
def execFlexeMapCheckTimeout (g : Group) (s : State) : Res := .next (settle (s.doFlexeMapCheckTimeout g))
/-- FLEXE_DESKEW_DONE (R236, R237, R256). -/
def execFlexeDeskewDone (g : Group) (skewNs : BitVec 14) (s : State) : Res := .next (settle (s.doFlexeDeskewDone g skewNs.toNat))
/-- FLEXE_DESKEW_TIMEOUT (R236). -/
def execFlexeDeskewTimeout (g : Group) (s : State) : Res := .next (settle (s.doFlexeDeskewTimeout g))
/-- CAL_SWITCH_REQUEST (R243). -/
def execCalSwitchRequest (g : Group) (w : Who) (s : State) : Res :=
  .next (settle (s.nowRow w (flxePage g) 0x88 fun s => s.doCalSwitchRequest g))
/-- CAL_SWITCH_ABANDON (R243). -/
def execCalSwitchAbandon (g : Group) (w : Who) (s : State) : Res :=
  .next (settle (s.nowRow w (flxePage g) 0x88 fun s => s.doCalSwitchAbandon g))
/-- CAL_SWITCH_TIMEOUT (R243). -/
def execCalSwitchTimeout (g : Group) (s : State) : Res := .next (settle (s.doCalSwitchTimeout g))
/-- CLIENT_WRITE (R238, R245, R263, R487). -/
def execClientWrite (w : Who) (n : Fin 4096) (s : State) : Res :=
  .next (settle (s.turnRow w .flxeC (flxePage 32) 0x100 (n + 0x1000) fun s => s.doClientWrite (whoFw w) n))
/-- CLIENT_READ (R263). -/
def execClientRead (w : Who) (n : Fin 4096) (s : State) : Res := .next (settle (s.turnRow w .flxeC (flxePage 32) 0x100 (n + 0x2000) fun s => s.doClientRead n))
/-- PACK_UNIT_RECEIVE (R250, R246, R247, R249, R254, R255, R259). -/
def execPackUnitReceive (lp : LPort) (first : Bool) (unit : List Byte) (e : UnitErr) (s : State) (src : RxSrc := .mac) : Res :=
  .next (settle (s.doPackUnitReceive lp src.code first unit e))
/-- FOLD_COMMIT (R253). -/
def execFoldCommit (w : Who) (sl : Slice) (t : Fin 4) (s : State) : Res :=
  .next (settle (s.nowRow w (packPage sl) (0x304 + 16 * t.val) fun s => s.doFoldCommit sl t))
/-- FOLD_COMMIT_APPLY (R253). -/
def execFoldCommitApply (sl : Slice) (t : Fin 4) (s : State) : Res := .next (settle (s.doFoldCommitApply sl t))
/-- FOLD_CLEANING_DONE (R253). -/
def execFoldCleaningDone (sl : Slice) (t : Fin 4) (s : State) : Res := .next (settle (s.doFoldCleaningDone sl t))
/-- FOLD_DISCARD_PENDING (R253). -/
def execFoldDiscardPending (w : Who) (sl : Slice) (t : Fin 4) (s : State) : Res :=
  .next (settle (s.nowRow w (packPage sl) (0x304 + 16 * t.val) fun s => s.doFoldDiscardPending sl t))
/-- FOLD_ARM (R254). -/
def execFoldArm (w : Who) (sl : Slice) (t : Fin 4) (s : State) : Res :=
  .next (settle (s.nowRow w (packPage sl) (0x304 + 16 * t.val) fun s => s.doFoldArm sl t))
/-- FOLD_DISARM (R254). -/
def execFoldDisarm (w : Who) (sl : Slice) (t : Fin 4) (s : State) : Res :=
  .next (settle (s.nowRow w (packPage sl) (0x304 + 16 * t.val) fun s => s.doFoldDisarm sl t))
/-- FOLD_PROMOTION_DONE (R254). -/
def execFoldPromotionDone (sl : Slice) (t : Fin 4) (s : State) : Res := .next (settle (s.doFoldPromotionDone sl t))
/-- FOLD_RESUME (R256). -/
def execFoldResume (w : Who) (sl : Slice) (t : Fin 4) (s : State) : Res :=
  .next (settle (s.nowRow w (packPage sl) (0x304 + 16 * t.val) fun s => s.doFoldResume sl t))
/-- FOLD_RESTART (R256). -/
def execFoldRestart (w : Who) (sl : Slice) (t : Fin 4) (gen : Byte) (s : State) : Res :=
  .next (settle (s.nowRow w (packPage sl) (0x304 + 16 * t.val) fun s => s.doFoldRestart sl t gen.toNat))
/-- FOLD_RESTART_DONE (R256). -/
def execFoldRestartDone (sl : Slice) (t : Fin 4) (s : State) : Res := .next (settle (s.doFoldRestartDone sl t))
/-- The word of FOLD_CMD or FW_FOLD_CMD for operation `op` (R266). -/
def foldWord (op t : Nat) (tx : Bool) (tag : Nat) : Nat := op * 2 ^ 19 + (if tx then 2 ^ 18 else 0) + t * 2 ^ 16 + tag
/-- FOLD_ENTRY_WRITE (R253, R254, R266, R487). -/
def execFoldEntryWrite (w : Who) (sl : Slice) (t : Fin 4) (tx : Bool) (tag : BitVec 16) (s : State) : Res :=
  .next (settle (s.turnRow w .pack (packPage sl) (if whoFw w then 0x480 else 0x400)
    (foldWord 1 t tx tag.toNat) fun s => s.doFoldEntryWrite (whoFw w) sl t tx tag.toNat))
/-- FOLD_ENTRY_READ (R266). -/
def execFoldEntryRead (w : Who) (sl : Slice) (t : Fin 4) (tx : Bool) (tag : BitVec 16) (s : State) : Res :=
  .next (settle (s.turnRow w .pack (packPage sl) (if whoFw w then 0x480 else 0x400)
    (foldWord 2 t tx tag.toNat) fun s => s.doFoldEntryRead (whoFw w) sl t tx tag.toNat))
/-- FOLD_ENTRY_REMOVE (R253, R266). -/
def execFoldEntryRemove (w : Who) (sl : Slice) (t : Fin 4) (tx : Bool) (tag : BitVec 16) (s : State) : Res :=
  .next (settle (s.turnRow w .pack (packPage sl) (if whoFw w then 0x480 else 0x400)
    (foldWord 3 t tx tag.toNat) fun s => s.doFoldEntryRemove (whoFw w) sl t tx tag.toNat))
/-- PACK_CNT_SEL (R266, R267). -/
def execPackCntSel (sl : Slice) (q : Fin 128) (s : State) : Res :=
  .next (settle (s.nowRow .host (packPage sl) 0x500 fun s => s.doPackCntSel sl q))
/-- LINK_PREFIX_RECEIVE (R272, R271, R284, R287). -/
def execLinkPrefixReceive (p : Port) (pfx : List Byte) (s : State) (first : Bool := false) : Res :=
  .next (settle (s.doLinkPrefixReceive p first pfx))
/-- LINK_CELL_RECEIVE (R287, R273, R281, R282, R286). -/
def execLinkCellReceive (p : Port) (lseq : BitVec 12) (cell : List Byte) (fecBad : Bool) (s : State) : Res :=
  .next (settle (s.doLinkCellReceive p lseq.toNat cell fecBad))
/-- HELLO_RECEIVE (R275, R276, R277, R278, R288, R294, R295, R304). -/
def execHelloReceive (p : Port) (bytes : List Byte) (s : State) : Res := .next (settle (s.doHelloReceive p bytes))
/-- LATCH_PREFIX_RECEIVE (R297). -/
def execLatchPrefixReceive (p : Port) (pfx : List Byte) (s : State) (first : Bool := false) : Res :=
  .next (settle (s.doLatchPrefixReceive p first pfx))
/-- LINK_UNIT_SLOT (R285, R270, R271, R273, R275, R284, R286, R287). -/
def execLinkUnitSlot (p : Port) (s : State) : Res := .next (settle (s.doLinkUnitSlot p))
/-- HELLO_SEND (R275). -/
def execHelloSend (p : Port) (s : State) : Res := .next (settle (s.doHelloSend p))
/-- HELLO_DEAD_INTERVAL (R276, R288, R289). -/
def execHelloDeadInterval (p : Port) (s : State) : Res := .next (settle (s.doHelloDeadInterval p))
/-- RETRY_TIMER_EXPIRE (R287, R276, R288, R289, R296). -/
def execRetryTimerExpire (p : Port) (s : State) : Res := .next (settle (s.doRetryTimerExpire p))
/-- HOLDDOWN_EXPIRE (R289, R276). -/
def execHolddownExpire (p : Port) (s : State) : Res := .next (settle (s.doHolddownExpire p))
/-- FABRIC_CELL_DELIVER (R291, R20, R21, R273, R284, R290, R292, R293). -/
def execFabricCellDeliver (sl : Slice) (s : State) : Res := .next (settle (s.doFabricCellDeliver sl))
/-- FAB_RESEQ_TIMEOUT (R291, R292). -/
def execFabReseqTimeout (sl : Slice) (srcDev : BitVec 12) (srcSlice : Slice) (port : BitVec 8) (c : Cls) (s : State) : Res :=
  .next (settle (s.doFabReseqTimeout sl srcDev.toNat srcSlice port.toNat c))
/-- GAP_NOTICE_RECEIVE (R291, R292, R293, R296). -/
def execGapNoticeReceive (sl : Slice) (s : State) : Res := .next (settle (s.doGapNoticeReceive sl))
/-- LOST_ITEM_EXPIRE (R290). -/
def execLostItemExpire (sl : Slice) (s : State) : Res := .next (settle (s.doLostItemExpire sl))
/-- STREAM_ENTRY_IDLE (R290). -/
def execStreamEntryIdle (sl : Slice) (srcDev : BitVec 12) (srcSlice : Slice) (port : BitVec 8) (c : Cls) (s : State) : Res :=
  .next (settle (s.doStreamEntryIdle sl srcDev.toNat srcSlice port.toNat c))
/-- LINK_CNT_SEL (R299). -/
def execLinkCntSel (sl : Slice) (k : Fin 32) (s : State) : Res :=
  .next (settle (s.nowRow .host (fabrPage sl) 0x84 fun s => s.doLinkCntSel sl k))
/-- LINK_GROUP_WRITE (R300, R487). -/
def execLinkGroupWrite (w : Who) (idx : Fin 4096) (s : State) : Res :=
  .next (settle (s.turnRow w .fabrM (fabrPage 8) 0x100 (idx + 0x1000) fun s => s.doLinkGroupWrite (whoFw w) idx))
/-- LINK_GROUP_READ (R300). -/
def execLinkGroupRead (w : Who) (idx : Fin 4096) (s : State) : Res :=
  .next (settle (s.turnRow w .fabrM (fabrPage 8) 0x100 (idx + 0x2000) fun s => s.doLinkGroupRead (whoFw w) idx))
/-- NEIGHBOR_READ (R300, R278). -/
def execNeighborRead (p : Port) (s : State) : Res := .next (settle (s.turnRow .host .fabrM (fabrPage 8) 0x140 (p + 0x200) fun s => s.doNeighborRead p))
/-- PATH_MAX_RESET (R294, R300). -/
def execPathMaxReset (s : State) : Res := .next (settle (s.guardRow .host (fabrPage 8) 0xE04 1))

end Sys2Proof.Machine
end

