-- ==== Sys2Proof/Machine/Dispatch.lean ====
section
/-! DEFINITION. The meaning of every command: one arm per constructor, in the order of spec/opcode_table.json. -/

namespace Sys2Proof.Machine

def exec (i : Instr) (s : State) : Host.Outcome State Fault Refusal :=
  match i with
  | .frameReceiveStart lp bytes src => Sys2Proof.Machine.execFrameReceiveStart lp bytes s src
  | .ruleLookup lp src => Sys2Proof.Machine.execRuleLookup lp s src
  | .frameReceiveEnd lp e src => Sys2Proof.Machine.execFrameReceiveEnd lp e s src
  | .macControlReceive lp bytes => Sys2Proof.Machine.execMacControlReceive lp bytes s
  | .pauseExpire lp c => Sys2Proof.Machine.execPauseExpire lp c s
  | .pfcRefresh lp c => Sys2Proof.Machine.execPfcRefresh lp c s
  | .pauseWatchdogExpire lp c => Sys2Proof.Machine.execPauseWatchdogExpire lp c s
  | .pauseRecoveryEnd lp c => Sys2Proof.Machine.execPauseRecoveryEnd lp c s
  | .verifyTimer lp => Sys2Proof.Machine.execVerifyTimer lp s
  | .verifyRespondReceive lp => Sys2Proof.Machine.execVerifyRespondReceive lp s
  | .verifyReceive lp => Sys2Proof.Machine.execVerifyReceive lp s
  | .parkedFrameReceive lp bytes => Sys2Proof.Machine.execParkedFrameReceive lp bytes s
  | .lightAppear lp => Sys2Proof.Machine.execLightAppear lp s
  | .cellIdleClose sl q => Sys2Proof.Machine.execCellIdleClose sl q s
  | .matchingRound => Sys2Proof.Machine.execMatchingRound s
  | .cellArrival d crcGood => Sys2Proof.Machine.execCellArrival d crcGood s
  | .reseqTimeout d src dest c => Sys2Proof.Machine.execReseqTimeout d src dest c s
  | .voqStall sl q => Sys2Proof.Machine.execVoqStall sl q s
  | .planeTrainingLoss p => Sys2Proof.Machine.execPlaneTrainingLoss p s
  | .planeRemove p => Sys2Proof.Machine.execPlaneRemove p s
  | .planeReturn p => Sys2Proof.Machine.execPlaneReturn p s
  | .planeReturnDone p ok => Sys2Proof.Machine.execPlaneReturnDone p ok s
  | .portTreeDecision p => Sys2Proof.Machine.execPortTreeDecision p s
  | .transmitSelect lp => Sys2Proof.Machine.execTransmitSelect lp s
  | .transmitEnd lp => Sys2Proof.Machine.execTransmitEnd lp s
  | .ctUnderrun lp => Sys2Proof.Machine.execCtUnderrun lp s
  | .bobbinIdleWrite sl q => Sys2Proof.Machine.execBobbinIdleWrite sl q s
  | .bobbinReadback sl q => Sys2Proof.Machine.execBobbinReadback sl q s
  | .uncorrectableCodeword lp => Sys2Proof.Machine.execUncorrectableCodeword lp s
  | .serWindowRestart lp n m => Sys2Proof.Machine.execSerWindowRestart lp s n m
  | .pitchBiasDone lp => Sys2Proof.Machine.execPitchBiasDone lp s
  | .pitchBiasTimeout lp => Sys2Proof.Machine.execPitchBiasTimeout lp s
  | .pitchEqualiseDone lp => Sys2Proof.Machine.execPitchEqualiseDone lp s
  | .pitchEqualiseTimeout lp => Sys2Proof.Machine.execPitchEqualiseTimeout lp s
  | .lossOfLight lp => Sys2Proof.Machine.execLossOfLight lp s
  | .pitchFecLockDone lp => Sys2Proof.Machine.execPitchFecLockDone lp s
  | .pitchFecLockTimeout lp => Sys2Proof.Machine.execPitchFecLockTimeout lp s
  | .pitchAmLockDone lp => Sys2Proof.Machine.execPitchAmLockDone lp s
  | .pitchAmLockTimeout lp => Sys2Proof.Machine.execPitchAmLockTimeout lp s
  | .alignmentLockLoss lp => Sys2Proof.Machine.execAlignmentLockLoss lp s
  | .backoffEnd lp => Sys2Proof.Machine.execBackoffEnd lp s
  | .holdTimerExpire lp => Sys2Proof.Machine.execHoldTimerExpire lp s
  | .parkApply p => Sys2Proof.Machine.execParkApply p s
  | .laserSample e l x => Sys2Proof.Machine.execLaserSample e l x s
  | .sparePowerReady e l => Sys2Proof.Machine.execSparePowerReady e l s
  | .spareSwitchComplete e l => Sys2Proof.Machine.execSpareSwitchComplete e l s
  | .wearRecordWrite e => Sys2Proof.Machine.execWearRecordWrite e s
  | .eyeLimitTrip e l => Sys2Proof.Machine.execEyeLimitTrip e l s
  | .laneClearTrip e l => Sys2Proof.Machine.execLaneClearTrip e l s
  | .laneApproveSwitch e l => Sys2Proof.Machine.execLaneApproveSwitch e l s
  | .laneSwitchNow e l => Sys2Proof.Machine.execLaneSwitchNow e l s
  | .calInterpolate e temp => Sys2Proof.Machine.execCalInterpolate e temp s
  | .counterHarvest p => Sys2Proof.Machine.execCounterHarvest p s
  | .counterLowRead page off => Sys2Proof.Machine.execCounterLowRead page off s
  | .ruleWrite sl w idx ver => Sys2Proof.Machine.execRuleWrite sl w idx ver s
  | .ruleRead sl w idx => Sys2Proof.Machine.execRuleRead sl w idx s
  | .ruleInvalidate sl w idx => Sys2Proof.Machine.execRuleInvalidate sl w idx s
  | .templateWrite sl idx => Sys2Proof.Machine.execTemplateWrite sl idx s
  | .templateRead sl idx => Sys2Proof.Machine.execTemplateRead sl idx s
  | .meterWrite sl idx => Sys2Proof.Machine.execMeterWrite sl idx s
  | .meterRead sl idx => Sys2Proof.Machine.execMeterRead sl idx s
  | .meterRefill sl idx => Sys2Proof.Machine.execMeterRefill sl idx s
  | .scrubStep sl t idx f => Sys2Proof.Machine.execScrubStep sl t idx f s
  | .learnRequestArrive sl => Sys2Proof.Machine.execLearnRequestArrive sl s
  | .sequencerAccept => Sys2Proof.Machine.execSequencerAccept s
  | .copyApply sl => Sys2Proof.Machine.execCopyApply sl s
  | .pendingFilterExpire sl => Sys2Proof.Machine.execPendingFilterExpire sl s
  | .ageSweepSlot => Sys2Proof.Machine.execAgeSweepSlot s
  | .memberAgeSweep sl => Sys2Proof.Machine.execMemberAgeSweep sl s
  | .tableEntryWrite w table idx => Sys2Proof.Machine.execTableEntryWrite w table idx s
  | .tableEntryRead w table idx => Sys2Proof.Machine.execTableEntryRead w table idx s
  | .tableEntryDelete w table idx => Sys2Proof.Machine.execTableEntryDelete w table idx s
  | .macInsert w => Sys2Proof.Machine.execMacInsert w s
  | .macDelete w => Sys2Proof.Machine.execMacDelete w s
  | .macFlush w => Sys2Proof.Machine.execMacFlush w s
  | .macFlushDone => Sys2Proof.Machine.execMacFlushDone s
  | .readBySlot w table idx => Sys2Proof.Machine.execReadBySlot w table idx s
  | .memberJoin w => Sys2Proof.Machine.execMemberJoin w s
  | .memberLeave w => Sys2Proof.Machine.execMemberLeave w s
  | .routeInsert w => Sys2Proof.Machine.execRouteInsert w s
  | .routeDelete w => Sys2Proof.Machine.execRouteDelete w s
  | .routeLongestMatch w => Sys2Proof.Machine.execRouteLongestMatch w s
  | .hashSeedWrite n v => Sys2Proof.Machine.execHashSeedWrite n v s
  | .queueConfigWrite sl idx => Sys2Proof.Machine.execQueueConfigWrite sl idx s
  | .queueConfigRead sl idx => Sys2Proof.Machine.execQueueConfigRead sl idx s
  | .stackRefreshDouble d => Sys2Proof.Machine.execStackRefreshDouble d s
  | .stackRefreshNormal d => Sys2Proof.Machine.execStackRefreshNormal d s
  | .derateRecompute => Sys2Proof.Machine.execDerateRecompute s
  | .stackFault d => Sys2Proof.Machine.execStackFault d s
  | .stackRemove d => Sys2Proof.Machine.execStackRemove d s
  | .stackReturn d => Sys2Proof.Machine.execStackReturn d s
  | .stackSelftestDone d ok => Sys2Proof.Machine.execStackSelftestDone d ok s
  | .auditLatch => Sys2Proof.Machine.execAuditLatch s
  | .auditCheck => Sys2Proof.Machine.execAuditCheck s
  | .schedEntryWrite sl table idx => Sys2Proof.Machine.execSchedEntryWrite sl table idx s
  | .schedEntryRead sl table idx => Sys2Proof.Machine.execSchedEntryRead sl table idx s
  | .gateCommit sl k => Sys2Proof.Machine.execGateCommit sl k s
  | .gateCommitCopyDone sl k => Sys2Proof.Machine.execGateCommitCopyDone sl k s
  | .gateListChange p => Sys2Proof.Machine.execGateListChange p s
  | .gateEntryAdvance p => Sys2Proof.Machine.execGateEntryAdvance p s
  | .sampleReadClear sl idx => Sys2Proof.Machine.execSampleReadClear sl idx s
  | .queueSample sl idx => Sys2Proof.Machine.execQueueSample sl idx s
  | .flexeOhFrameReceive g ix oh => Sys2Proof.Machine.execFlexeOhFrameReceive g ix oh s
  | .flexeOhFrameSend g => Sys2Proof.Machine.execFlexeOhFrameSend g s
  | .flexeOhLockDone g => Sys2Proof.Machine.execFlexeOhLockDone g s
  | .flexeOhLockTimeout g => Sys2Proof.Machine.execFlexeOhLockTimeout g s
  | .flexeMapCheckDone g => Sys2Proof.Machine.execFlexeMapCheckDone g s
  | .flexeMapCheckTimeout g => Sys2Proof.Machine.execFlexeMapCheckTimeout g s
  | .flexeDeskewDone g skewNs => Sys2Proof.Machine.execFlexeDeskewDone g skewNs s
  | .flexeDeskewTimeout g => Sys2Proof.Machine.execFlexeDeskewTimeout g s
  | .calSwitchRequest g w => Sys2Proof.Machine.execCalSwitchRequest g w s
  | .calSwitchAbandon g w => Sys2Proof.Machine.execCalSwitchAbandon g w s
  | .calSwitchTimeout g => Sys2Proof.Machine.execCalSwitchTimeout g s
  | .clientWrite w n => Sys2Proof.Machine.execClientWrite w n s
  | .clientRead w n => Sys2Proof.Machine.execClientRead w n s
  | .packUnitReceive lp first unit e src => Sys2Proof.Machine.execPackUnitReceive lp first unit e s src
  | .foldCommit w sl t => Sys2Proof.Machine.execFoldCommit w sl t s
  | .foldCommitApply sl t => Sys2Proof.Machine.execFoldCommitApply sl t s
  | .foldCleaningDone sl t => Sys2Proof.Machine.execFoldCleaningDone sl t s
  | .foldDiscardPending w sl t => Sys2Proof.Machine.execFoldDiscardPending w sl t s
  | .foldArm w sl t => Sys2Proof.Machine.execFoldArm w sl t s
  | .foldDisarm w sl t => Sys2Proof.Machine.execFoldDisarm w sl t s
  | .foldPromotionDone sl t => Sys2Proof.Machine.execFoldPromotionDone sl t s
  | .foldResume w sl t => Sys2Proof.Machine.execFoldResume w sl t s
  | .foldRestart w sl t gen => Sys2Proof.Machine.execFoldRestart w sl t gen s
  | .foldRestartDone sl t => Sys2Proof.Machine.execFoldRestartDone sl t s
  | .foldEntryWrite w sl t tx tag => Sys2Proof.Machine.execFoldEntryWrite w sl t tx tag s
  | .foldEntryRead w sl t tx tag => Sys2Proof.Machine.execFoldEntryRead w sl t tx tag s
  | .foldEntryRemove w sl t tx tag => Sys2Proof.Machine.execFoldEntryRemove w sl t tx tag s
  | .packCntSel sl q => Sys2Proof.Machine.execPackCntSel sl q s
  | .linkPrefixReceive p pfx first => Sys2Proof.Machine.execLinkPrefixReceive p pfx s first
  | .linkCellReceive p lseq cell fecBad => Sys2Proof.Machine.execLinkCellReceive p lseq cell fecBad s
  | .helloReceive p bytes => Sys2Proof.Machine.execHelloReceive p bytes s
  | .latchPrefixReceive p pfx first => Sys2Proof.Machine.execLatchPrefixReceive p pfx s first
  | .linkUnitSlot p => Sys2Proof.Machine.execLinkUnitSlot p s
  | .helloSend p => Sys2Proof.Machine.execHelloSend p s
  | .helloDeadInterval p => Sys2Proof.Machine.execHelloDeadInterval p s
  | .retryTimerExpire p => Sys2Proof.Machine.execRetryTimerExpire p s
  | .holddownExpire p => Sys2Proof.Machine.execHolddownExpire p s
  | .fabricCellDeliver sl => Sys2Proof.Machine.execFabricCellDeliver sl s
  | .fabReseqTimeout sl srcDev srcSlice port c => Sys2Proof.Machine.execFabReseqTimeout sl srcDev srcSlice port c s
  | .gapNoticeReceive sl => Sys2Proof.Machine.execGapNoticeReceive sl s
  | .lostItemExpire sl => Sys2Proof.Machine.execLostItemExpire sl s
  | .streamEntryIdle sl srcDev srcSlice port c => Sys2Proof.Machine.execStreamEntryIdle sl srcDev srcSlice port c s
  | .linkCntSel sl k => Sys2Proof.Machine.execLinkCntSel sl k s
  | .linkGroupWrite w idx => Sys2Proof.Machine.execLinkGroupWrite w idx s
  | .linkGroupRead w idx => Sys2Proof.Machine.execLinkGroupRead w idx s
  | .neighborRead p => Sys2Proof.Machine.execNeighborRead p s
  | .pathMaxReset => Sys2Proof.Machine.execPathMaxReset s
  | .dtTrim ix skew freq => Sys2Proof.Machine.execDtTrim ix skew freq s
  | .clkUnlock ix => Sys2Proof.Machine.execClkUnlock ix s
  | .dtSourceLost => Sys2Proof.Machine.execDtSourceLost s
  | .dtSourceReturn => Sys2Proof.Machine.execDtSourceReturn s
  | .dtSet => Sys2Proof.Machine.execDtSet s
  | .dtLatchRead => Sys2Proof.Machine.execDtLatchRead s
  | .tbLatchRead n => Sys2Proof.Machine.execTbLatchRead n s
  | .tbOffsetWrite w n ch o => Sys2Proof.Machine.execTbOffsetWrite w n ch o s
  | .tbStep w n => Sys2Proof.Machine.execTbStep w n s
  | .tbSwitchChannel w n => Sys2Proof.Machine.execTbSwitchChannel w n s
  | .tbHoldover w n => Sys2Proof.Machine.execTbHoldover w n s
  | .tbResetServo w n => Sys2Proof.Machine.execTbResetServo w n s
  | .tbChannelTimeout n ch => Sys2Proof.Machine.execTbChannelTimeout n ch s
  | .ppsOutEdge => Sys2Proof.Machine.execPpsOutEdge s
  | .ppsOutPulseEnd => Sys2Proof.Machine.execPpsOutPulseEnd s
  | .ppsInEdge => Sys2Proof.Machine.execPpsInEdge s
  | .ppsInTimeout => Sys2Proof.Machine.execPpsInTimeout s
  | .frefAbsent => Sys2Proof.Machine.execFrefAbsent s
  | .frefPresent => Sys2Proof.Machine.execFrefPresent s
  | .todTxWrite w b => Sys2Proof.Machine.execTodTxWrite w b s
  | .todTxSend => Sys2Proof.Machine.execTodTxSend s
  | .todRxByte b => Sys2Proof.Machine.execTodRxByte b s
  | .todRxRead w => Sys2Proof.Machine.execTodRxRead w s
  | .arrSel p => Sys2Proof.Machine.execArrSel p s
  | .arrivalWakeWindowClose p => Sys2Proof.Machine.execArrivalWakeWindowClose p s
  | .loomPeriodStart ix => Sys2Proof.Machine.execLoomPeriodStart ix s
  | .loomSlotAward ix requests => Sys2Proof.Machine.execLoomSlotAward ix requests s
  | .emergencyTake ix => Sys2Proof.Machine.execEmergencyTake ix s
  | .lockstepMismatch c pair => Sys2Proof.Machine.execLockstepMismatch c pair s
  | .sramEccError c uncorrectable => Sys2Proof.Machine.execSramEccError c uncorrectable s
  | .clusterSelftestDone c ok => Sys2Proof.Machine.execClusterSelftestDone c ok s
  | .clusterLoadDone c ok => Sys2Proof.Machine.execClusterLoadDone c ok s
  | .leaseRenew c epoch => Sys2Proof.Machine.execLeaseRenew c epoch s
  | .leaseClaim c => Sys2Proof.Machine.execLeaseClaim c s
  | .leaseRelease c epoch => Sys2Proof.Machine.execLeaseRelease c epoch s
  | .leaseReady c epoch => Sys2Proof.Machine.execLeaseReady c epoch s
  | .leaseExpire => Sys2Proof.Machine.execLeaseExpire s
  | .leaseGuardEnd => Sys2Proof.Machine.execLeaseGuardEnd s
  | .leaseRevoke => Sys2Proof.Machine.execLeaseRevoke s
  | .leaseSetNext next => Sys2Proof.Machine.execLeaseSetNext next s
  | .ckptCmd c => Sys2Proof.Machine.execCkptCmd c s
  | .ckptMark c page set => Sys2Proof.Machine.execCkptMark c page set s
  | .ckptCommit => Sys2Proof.Machine.execCkptCommit s
  | .ckptStale => Sys2Proof.Machine.execCkptStale s
  | .checkpointRestoreDone => Sys2Proof.Machine.execCheckpointRestoreDone s
  | .swapDue => Sys2Proof.Machine.execSwapDue s
  | .swapWindowExpire => Sys2Proof.Machine.execSwapWindowExpire s
  | .twinFrameReceive bytes => Sys2Proof.Machine.execTwinFrameReceive bytes s
  | .twinStatusSend => Sys2Proof.Machine.execTwinStatusSend s
  | .twinRenewSend => Sys2Proof.Machine.execTwinRenewSend s
  | .twinExpiry => Sys2Proof.Machine.execTwinExpiry s
  | .twinStandbyTakeover => Sys2Proof.Machine.execTwinStandbyTakeover s
  | .twinLinkLost => Sys2Proof.Machine.execTwinLinkLost s
  | .twinListenEnd => Sys2Proof.Machine.execTwinListenEnd s
  | .twinHandOver => Sys2Proof.Machine.execTwinHandOver s
  | .twinReleaseGuardEnd => Sys2Proof.Machine.execTwinReleaseGuardEnd s
  | .twinHoldInChange level => Sys2Proof.Machine.execTwinHoldInChange level s
  | .twinHoldSample => Sys2Proof.Machine.execTwinHoldSample s
  | .twinHoldRelease => Sys2Proof.Machine.execTwinHoldRelease s
  | .injectPost c pair w3 => Sys2Proof.Machine.execInjectPost c pair w3 s
  | .injectSend pair => Sys2Proof.Machine.execInjectSend pair s
  | .laserReq c e l ceil all => Sys2Proof.Machine.execLaserReq c e l ceil all s
  | .pmAllocate w req size => Sys2Proof.Machine.execPmAllocate w req size s
  | .pmFree w req handle => Sys2Proof.Machine.execPmFree w req handle s
  | .puntToCluster sl => Sys2Proof.Machine.execPuntToCluster sl s
  | .mbToFwPost handle => Sys2Proof.Machine.execMbToFwPost handle s
  | .mbToFwRead c pair => Sys2Proof.Machine.execMbToFwRead c pair s
  | .mbToHostPost c handle => Sys2Proof.Machine.execMbToHostPost c handle s
  | .mbToHostRead => Sys2Proof.Machine.execMbToHostRead s
  | .busErrorAccess page off bar2 badSize a => Sys2Proof.Machine.execBusErrorAccess page off bar2 badSize a s
  | .darkPageAccess page off a => Sys2Proof.Machine.execDarkPageAccess page off a s
  | .bar2Write addr bytes => Sys2Proof.Machine.execBar2Write addr bytes s
  | .pcieReset k => Sys2Proof.Machine.execPcieReset k s
  | .pcieLinkUp width speed => Sys2Proof.Machine.execPcieLinkUp width speed s
  | .busMasterEnable => Sys2Proof.Machine.execBusMasterEnable s
  | .msixVectorUnmask v => Sys2Proof.Machine.execMsixVectorUnmask v s
  | .registerWrite w page off v => Sys2Proof.Machine.execRegisterWrite w page off v s
  | .pageApply page => Sys2Proof.Machine.execPageApply page s
  | .pageHoldSet page => Sys2Proof.Machine.execPageHoldSet page s
  | .pageHoldRelease page => Sys2Proof.Machine.execPageHoldRelease page s
  | .pageHoldDiscard page => Sys2Proof.Machine.execPageHoldDiscard page s
  | .guardValueWrite w page off v => Sys2Proof.Machine.execGuardValueWrite w page off v s
  | .guardComplementWrite w page off v => Sys2Proof.Machine.execGuardComplementWrite w page off v s
  | .guardLapse page => Sys2Proof.Machine.execGuardLapse page s
  | .eventAssert page src cell frame => Sys2Proof.Machine.execEventAssert page src s cell frame
  | .evtClear w page src seq => Sys2Proof.Machine.execEvtClear w page src seq s
  | .ringEnable r => Sys2Proof.Machine.execRingEnable r s
  | .ringDisable r => Sys2Proof.Machine.execRingDisable r s
  | .hostIdxWrite r v => Sys2Proof.Machine.execHostIdxWrite r v s
  | .injectRingFetch r desc frame => Sys2Proof.Machine.execInjectRingFetch r desc frame s
  | .puntRingDeliver r desc => Sys2Proof.Machine.execPuntRingDeliver r desc s
  | .dmaReadError r => Sys2Proof.Machine.execDmaReadError r s
  | .ringRecordWrite r => Sys2Proof.Machine.execRingRecordWrite r s
  | .ringCoalTimer r => Sys2Proof.Machine.execRingCoalTimer r s
  | .notifyFifoEnqueue f item => Sys2Proof.Machine.execNotifyFifoEnqueue f item s
  | .evtWinRead => Sys2Proof.Machine.execEvtWinRead s
  | .evtWinReadReturn => Sys2Proof.Machine.execEvtWinReadReturn s
  | .perfFreeze ix => Sys2Proof.Machine.execPerfFreeze ix s
  | .perfRelease ix => Sys2Proof.Machine.execPerfRelease ix s
  | .perfZero ix => Sys2Proof.Machine.execPerfZero ix s
  | .perfDump ix => Sys2Proof.Machine.execPerfDump ix s
  | .dbgChallenge => Sys2Proof.Machine.execDbgChallenge s
  | .dbgResponse rights key sig => Sys2Proof.Machine.execDbgResponse rights key sig s
  | .dbgAccess page off a => Sys2Proof.Machine.execDbgAccess page off a s
  | .dbgClose => Sys2Proof.Machine.execDbgClose s
  | .debugIdleTimeout => Sys2Proof.Machine.execDebugIdleTimeout s
  | .debugLockoutEnd => Sys2Proof.Machine.execDebugLockoutEnd s
  | .debugAllowWrite v => Sys2Proof.Machine.execDebugAllowWrite v s
  | .tapReset => Sys2Proof.Machine.execTapReset s
  | .railBreak page src => Sys2Proof.Machine.execRailBreak page src s
  | .railRestore => Sys2Proof.Machine.execRailRestore s
  | .thermThresholdCross ix temp => Sys2Proof.Machine.execThermThresholdCross ix temp s
  | .coldResetCmd w => Sys2Proof.Machine.execColdResetCmd w s
  | .warmResetCmd w => Sys2Proof.Machine.execWarmResetCmd w s
  | .blockResetCmd w target => Sys2Proof.Machine.execBlockResetCmd w target s
  | .clusterResetCmd w target => Sys2Proof.Machine.execClusterResetCmd w target s
  | .releaseIsolated w target => Sys2Proof.Machine.execReleaseIsolated w target s
  | .blockResetReady ix => Sys2Proof.Machine.execBlockResetReady ix s
  | .sliceReloadDone sl => Sys2Proof.Machine.execSliceReloadDone sl s
  | .guyWindowEnd ix => Sys2Proof.Machine.execGuyWindowEnd ix s
  | .recordClrFatal => Sys2Proof.Machine.execRecordClrFatal s
  | .recordClrLast => Sys2Proof.Machine.execRecordClrLast s
  | .slowCopyRefresh => Sys2Proof.Machine.execSlowCopyRefresh s
  | .standbyPowerUp => Sys2Proof.Machine.execStandbyPowerUp s
  | .nvMountDone lost => Sys2Proof.Machine.execNvMountDone lost s
  | .mainPowerUp => Sys2Proof.Machine.execMainPowerUp s
  | .railsInRegulation => Sys2Proof.Machine.execRailsInRegulation s
  | .islandsClocked => Sys2Proof.Machine.execIslandsClocked s
  | .bootVerifyDone => Sys2Proof.Machine.execBootVerifyDone s
  | .microcodeLoaded => Sys2Proof.Machine.execMicrocodeLoaded s
  | .islandsSelftestDone => Sys2Proof.Machine.execIslandsSelftestDone s
  | .maelwickLoaded => Sys2Proof.Machine.execMaelwickLoaded s
  | .trialTimeout => Sys2Proof.Machine.execTrialTimeout s
  | .updateBegin slot => Sys2Proof.Machine.execUpdateBegin slot s
  | .updateWrite slot idx => Sys2Proof.Machine.execUpdateWrite slot idx s
  | .updateFinish slot => Sys2Proof.Machine.execUpdateFinish slot s
  | .updateAbandon slot => Sys2Proof.Machine.execUpdateAbandon slot s
  | .updateConfirm => Sys2Proof.Machine.execUpdateConfirm s
  | .updateSelect slot => Sys2Proof.Machine.execUpdateSelect slot s
  | .objectWrite => Sys2Proof.Machine.execObjectWrite s
  | .objectRead => Sys2Proof.Machine.execObjectRead s
  | .objectDelete => Sys2Proof.Machine.execObjectDelete s
  | .diagRun ix => Sys2Proof.Machine.execDiagRun ix s
  | .diagDone ok => Sys2Proof.Machine.execDiagDone ok s
  | .svnRaise floor => Sys2Proof.Machine.execSvnRaise floor s
  | .nvCkptCopyDone => Sys2Proof.Machine.execNvCkptCopyDone s
  | .journalPageProgram => Sys2Proof.Machine.execJournalPageProgram s
  | .nvRefreshScan page corrected old retired => Sys2Proof.Machine.execNvRefreshScan page corrected old retired s
  | .resetNAssert lowNs => Sys2Proof.Machine.execResetNAssert lowNs s
  | .resetNRelease => Sys2Proof.Machine.execResetNRelease s
  | .powerFailInput c => Sys2Proof.Machine.execPowerFailInput c s
  | .vin12Low => Sys2Proof.Machine.execVin12Low s
  | .vin12Off => Sys2Proof.Machine.execVin12Off s
  | .vin12Return => Sys2Proof.Machine.execVin12Return s
  | .bmcReadIdentity => Sys2Proof.Machine.execBmcReadIdentity s
  | .bmcReadDevInfo => Sys2Proof.Machine.execBmcReadDevInfo s
  | .bmcReadStatus => Sys2Proof.Machine.execBmcReadStatus s
  | .bmcReadTemp => Sys2Proof.Machine.execBmcReadTemp s
  | .bmcReadVin12 => Sys2Proof.Machine.execBmcReadVin12 s
  | .bmcReadVin12Current => Sys2Proof.Machine.execBmcReadVin12Current s
  | .bmcReadVsb33 => Sys2Proof.Machine.execBmcReadVsb33 s
  | .bmcReadPower => Sys2Proof.Machine.execBmcReadPower s
  | .bmcReadFatal => Sys2Proof.Machine.execBmcReadFatal s
  | .bmcReadLastReset => Sys2Proof.Machine.execBmcReadLastReset s
  | .bmcReadAlertStatus => Sys2Proof.Machine.execBmcReadAlertStatus s
  | .bmcClearAlertStatus v pecGood => Sys2Proof.Machine.execBmcClearAlertStatus v pecGood s
  | .bmcColdReset v pecGood => Sys2Proof.Machine.execBmcColdReset v pecGood s
  | .smbAlertResponse => Sys2Proof.Machine.execSmbAlertResponse s
  | .bmcReadingRefresh temp island vin12mV vin12dA vsb33mV powerW => Sys2Proof.Machine.execBmcReadingRefresh temp island vin12mV vin12dA vsb33mV powerW s
  | .clusterWindowAccess c addr st => Sys2Proof.Machine.execClusterWindowAccess c addr st s
  | .firmwareHostPageRead c page off => Sys2Proof.Machine.execFirmwareHostPageRead c page off s
  | .peakFieldRead page off => Sys2Proof.Machine.execPeakFieldRead page off s
  | .perstNRelease => Sys2Proof.Machine.execPerstNRelease s
  | .msixEnableSet => Sys2Proof.Machine.execMsixEnableSet s
  | .boundaryScanInstruction ix cells => Sys2Proof.Machine.execBoundaryScanInstruction ix cells s
  | .nvCommandDone verified => Sys2Proof.Machine.execNvCommandDone s verified
  | .bobbinWriteDone sl q => Sys2Proof.Machine.execBobbinWriteDone sl q s

end Sys2Proof.Machine
end

