-- ==== Sys2Proof/Safety.lean ====
section
/-! DEFINITION. What a safe run is: every step answers a next state. The model has no fault and no refusal (NOTES.md, Stops), so what
can go wrong is what the state says: a fatal state, a memory out of its canonical form, or a command lost from the queue. -/

namespace Sys2Proof.Machine

/-- The state after `n` steps, as long as each answers. -/
def run : Nat → State → Option State
  | 0, s => some s
  | n + 1, s => match step s with | .next t => run n t | _ => none

/-- Every step of every run from `s` answers a next state. -/
def Safe (s : State) : Prop := ∀ n, (run n s).isSome = true

/-- The byte memories of the block are in canonical form: the host's memory as the block sees it, and the buffers of the pool
manager. -/
def State.memWf (s : State) : Prop := s.host.mem.wf = true ∧ s.svc.poolMem.wf = true

/-- The module is not in its fatal state (R424). -/
def State.sound (s : State) : Prop := s.fatal = false

/-! ### What a command leaves alone -/

/-- The parts of the state beside the queue of commands. -/
inductive Part where
  | now | free | out | regs | shadow | latch | ctrs | host | ports | tables | sw | trunk | time | loom | svc | sys
  deriving DecidableEq, Repr

/-- The two states agree on every part that the list does not name, and on the queue of commands. -/
def SameBut (l : List Part) (s t : State) : Prop :=
  t.pending = s.pending
    ∧ (Part.now ∈ l ∨ t.now = s.now)
    ∧ (Part.free ∈ l ∨ t.free = s.free)
    ∧ (Part.out ∈ l ∨ t.out = s.out)
    ∧ (Part.regs ∈ l ∨ t.regs = s.regs)
    ∧ (Part.shadow ∈ l ∨ t.shadow = s.shadow)
    ∧ (Part.latch ∈ l ∨ t.latch = s.latch)
    ∧ (Part.ctrs ∈ l ∨ t.ctrs = s.ctrs)
    ∧ (Part.host ∈ l ∨ t.host = s.host)
    ∧ (Part.ports ∈ l ∨ t.ports = s.ports)
    ∧ (Part.tables ∈ l ∨ t.tables = s.tables)
    ∧ (Part.sw ∈ l ∨ t.sw = s.sw)
    ∧ (Part.trunk ∈ l ∨ t.trunk = s.trunk)
    ∧ (Part.time ∈ l ∨ t.time = s.time)
    ∧ (Part.loom ∈ l ∨ t.loom = s.loom)
    ∧ (Part.svc ∈ l ∨ t.svc = s.svc)
    ∧ (Part.sys ∈ l ∨ t.sys = s.sys)

/-- Every register whose BAR0 address the list does not name holds what it held. -/
def RegsBut (l : List Nat) (s t : State) : Prop := ∀ a, a ∉ l → t.rd a = s.rd a

/-- Every counter whose BAR0 address the list does not name holds what it held. -/
def CtrsBut (l : List Nat) (s t : State) : Prop := ∀ pg off, regA pg off ∉ l → t.ctr pg off = s.ctr pg off

/-- The state with other counters. -/
def State.withCtrs (s : State) (c : Map Nat) : State := { s with ctrs := c }

/-- The registers that raising an event of page `pg` may change: its EVT_STICKY and EVT_SEQ, those of FIFO_GAP, and the fields that
follow the event FIFO (R390, R404). -/
def raiseRegs (pg : Nat) : List Nat :=
  [regA pg 0x14, regA hostPage 0x14, regA hostPage 0x20, regA hostPage HOST_FIFO_CFG_DEPTH.off, regA hostPage HOST_FIFO_POOL_FREE.off]
    ++ (List.range 8).map fun k => regA pg (0x20 + 4 * k)

/-- No severity action waits (R418). -/
abbrev Quiet (s : State) : Prop := s.sys.due = []

/-- No severity action waits, and none of the listed sources (page and source number), nor FIFO_GAP, has severity contain or fatal. -/
abbrev Calm (l : List (Nat × Nat)) (s : State) : Prop :=
  s.sys.due = [] ∧ s.evtSev hostPage 3 ≤ 1 ∧ ∀ e ∈ l, s.evtSev e.1 e.2 ≤ 1

/-! ### Register accesses -/

/-- An access of `w` to a register is let in: the page is not dark, and firmware drives, holds the lease (but for FW_LEASE_OP) and may
write the register (R351, R364, R382). -/
def Admits (s : State) (w : Who) (page off : Nat) : Prop :=
  s.pageDark page = false ∧ ∀ c p, w = .fw c p →
    s.drives c = true ∧ ((page = svccPage ∧ off = 0x100) ∨ s.isHolder c = true) ∧ s.fwCause page off = 0

/-- A window command of `w` is let in and meets no page that holds writes (R388, R487). -/
def Reaches (s : State) (w : Who) (page off : Nat) : Prop := Admits s w page off ∧ s.gathers w page = false

/-- A window command's turn has come: it reaches its window, and no earlier write to the page waits for the boundary (R99, R107, R164). -/
def TakesTurn (s : State) (w : Who) (page off : Nat) : Prop :=
  Reaches s w page off ∧ (s.shadow.any fun e => e.1 / 4096 == page) = false

/-- A register write of `w` that is let in, counted: the access among the events of island 52, and reserved bits written as 1 (R11,
R406). -/
def State.taken (s : State) (w : Who) (page off : Nat) (v : Word) : State := (s.accessHit w 2 page).countReserved page off v

/-- The state in which a guarded register acts: the write of `w` is counted, REFUSED is clear and the register holds V (R389). -/
def State.letIn (s : State) (w : Who) (page off v : Nat) : State :=
  ((s.accessHit w 2 page).markRefused page off false).wrNow (regA page off)
    (mergeWord (wmOf (regA page off)) ((s.accessHit w 2 page).rd (regA page off)) (BitVec.ofNat 32 v))

/-- After the register has acted, with `t` what came of it: where the action was refused, the register keeps the value it had in `s`
and the refusal is counted. -/
def State.letOut (s t : State) (w : Who) (page off : Nat) : State :=
  if t.isRefused page off then (t.wrNow (regA page off) ((s.accessHit w 2 page).rd (regA page off))).accessHit w 3 page else t

/-! ### The table window -/

/-- A table-window command of `w` runs: REFUSED clear, INDEX and TABLE as written with OP (R142). -/
def State.tblAt (s : State) (w : Who) (t i : Nat) : State :=
  ((s.setFld tblsPage TBLS_TBLS_CFG_REFUSED 0).setFld tblsPage (TBLS_TBL_CMD_INDEX.sh (tblWin (whoFw w))) i).setFld tblsPage
    (TBLS_TBL_CMD_TABLE.sh (tblWin (whoFw w))) t

/-- A table-window write of `w` waits for the sequencer, with BUSY at 1 (R128, R142). -/
def State.tblWaits (s : State) (w : Who) (op t i : Nat) : State :=
  ((s.tblAt w t i).tblBusy (whoFw w) true).seqPush (if whoFw w then 12 else 11)
    (.window (whoFw w) op t i ((s.tblAt w t i).tblData (whoFw w)))

end Sys2Proof.Machine
end

