-- ==== Sys2Proof/Certificates/Slice0/Obligations.lean ====
section
/-! DEFINITION. The statements about the model, for the provers. A clause about one command says what state it answers under premises
on the state and the operands alone. `settle` takes the severity actions that became due (R418); with none due it changes nothing. -/

open Sys2Proof Sys2Proof.Machine

/-- What the pause commands do where they act. PAUSE_EXPIRE at or after the end of a class's pause clears its PAUSED_RX bit and leaves
the instant at which the pause ended. PFC_REFRESH sends the pause again while the account stays above XOFF_LOW and REFRESH quanta
have passed. PAUSE_WATCHDOG_EXPIRE, WD_TIME ms of unbroken pause after its start by the 1 us steps of DT and with the class's
PFC_RX_EN bit set, ends the pause of every class it stands for, starts the storm of the class and counts and raises it.
PAUSE_RECOVERY_END ends the storm RECOVERY ms after it began, by the same steps, while the PFC_RX_EN bit is set. No other part of
the state than registers and port state changes at an expiry or a recovery. -/
def Obligations.PauseCommandsComplete : Prop :=
  (∀ (lp : LPort) (c : Cls) (s : State) (u : Nat), Quiet s → (s.mac lp).pauseEnd.getD c none = some u → u ≤ s.now →
    s.pausedRx lp c = true →
    ∃ t, exec (.pauseExpire lp c) s = .next t ∧ (t.mac lp).pauseEnd.getD c none = some u ∧ t.pausedRx lp c = false
      ∧ (∀ k, k ≠ lp.val → t.mac k = s.mac k) ∧ SameBut [.regs, .ports] s t
      ∧ RegsBut [regA (portPage (physOf lp)) (PORT_MM_STATUS_PAUSED_RX.off + 0x40 * subOf lp)] s t)
  ∧ (∀ (lp : LPort) (c : Cls) (s : State) (u : Nat), Quiet s → (s.mac lp).stormSince.getD c none = some u →
    s.pfcRxEn lp c = true → u + s.macFld lp PORT_PAUSE_WD_RECOVERY * 1000 ≤ s.dtUs →
    ∃ t, exec (.pauseRecoveryEnd lp c) s = .next t ∧ (t.mac lp).stormSince.getD c none = none ∧ t.storm lp c = false
      ∧ (∀ k, k ≠ lp.val → t.mac k = s.mac k) ∧ SameBut [.regs, .ports] s t
      ∧ RegsBut [regA (portPage (physOf lp)) (PORT_MM_STATUS_STORM.off + 0x40 * subOf lp)] s t)
  ∧ (∀ (lp : LPort) (c : Cls) (s : State) (u : Nat), s.pauseMode lp ≠ 2 → s.pausing lp c = true →
    (s.mac lp).pauseSent.getD c none = some u → s.xoffLow lp c < s.pfcOcc lp c →
    u + s.quantaNs lp (s.macFld lp PORT_PAUSE_TIME_REFRESH) ≤ s.now →
    exec (.pfcRefresh lp c) s = .next (settle ((s.sendPause lp c (s.macFld lp PORT_PAUSE_TIME_QUANTA)).setPausing lp c true)))
  ∧ (∀ (lp : LPort) (c : Cls) (s : State) (u v : Nat), s.pauseMode lp ≠ 2 → s.macFld lp PORT_PAUSE_WD_WD_EN = 1 →
    s.pfcRxEn lp c = true → s.storm lp c = false → (s.mac lp).pausedSince.getD c none = some u → (s.mac lp).pauseEnd.getD c none = some v →
    s.usEdge < v → 0 < s.dtUs - u → s.macFld lp PORT_PAUSE_WD_WD_TIME * 1000 ≤ s.dtUs - u →
    ∃ t, exec (.pauseWatchdogExpire lp c) s = .next (settle ((t.portCtr lp (72 + c)).raise (portPage (physOf lp)) (subOf lp)))
      ∧ t.storm lp c = true ∧ (t.mac lp).pauseEnd.getD c none = some (min v s.now)
      ∧ (∀ k, k ≠ lp.val → t.mac k = s.mac k) ∧ SameBut [.regs, .ports] s t)

/-- A verify mPacket from the peer is answered with a respond from the logical port's SRC_ADDR while PREEMPT_EN = 1 and the sub-port
is UP, and nothing else changes. A respond received while verification is in progress ends it with VERIFY_STATUS = 3. When
VERIFY_TIME has passed, an attempt that is left is used: one verify mPacket goes out and one attempt fewer is left; with none left
VERIFY_STATUS reads 4 and PREEMPT_VERIFY_FAIL is raised. The other registers, the other sub-ports' MACs and the other parts of the
state keep what they hold. -/
def Obligations.VerificationCompletes : Prop :=
  (∀ (lp : LPort) (s : State), Quiet s → s.isUp lp = true → s.mmOn lp = true →
    exec (.verifyReceive lp) s = .next (s.emit (.verify lp (s.srcAddr lp) true)))
  ∧ (∀ (lp : LPort) (s : State), Quiet s → s.isUp lp = true → s.macFld lp PORT_MM_STATUS_VERIFY_STATUS = 2 →
    ∃ t, exec (.verifyRespondReceive lp) s = .next t ∧ t.macFld lp PORT_MM_STATUS_VERIFY_STATUS = 3 ∧ (t.mac lp).verifyNext = none
      ∧ (∀ k, k ≠ lp.val → t.mac k = s.mac k) ∧ SameBut [.regs, .ports] s t
      ∧ RegsBut [regA (portPage (physOf lp)) (PORT_MM_STATUS_VERIFY_STATUS.off + 0x40 * subOf lp)] s t)
  ∧ (∀ (lp : LPort) (s : State) (u : Nat), Quiet s → (s.mac lp).verifyNext = some u → u ≤ s.now →
    s.macFld lp PORT_MM_STATUS_VERIFY_STATUS = 2 → (s.mac lp).verifyLeft ≠ 0 →
    exec (.verifyTimer lp) s = .next ((s.setMac lp { s.mac lp with
      verifyLeft := (s.mac lp).verifyLeft - 1, verifyNext := some (s.now + s.verifyNs lp) }).emit (.verify lp (s.srcAddr lp) false)))
  ∧ (∀ (lp : LPort) (s : State) (u : Nat), (s.mac lp).verifyNext = some u → u ≤ s.now →
    s.macFld lp PORT_MM_STATUS_VERIFY_STATUS = 2 → (s.mac lp).verifyLeft = 0 →
    ∃ u, exec (.verifyTimer lp) s = .next (settle (u.raise (portPage (physOf lp)) (4 + subOf lp)))
      ∧ u.macFld lp PORT_MM_STATUS_VERIFY_STATUS = 4 ∧ (u.mac lp).verifyNext = none
      ∧ (∀ k, k ≠ lp.val → u.mac k = s.mac k) ∧ SameBut [.regs, .ports] s u
      ∧ RegsBut [regA (portPage (physOf lp)) (PORT_MM_STATUS_VERIFY_STATUS.off + 0x40 * subOf lp)] s u)

/-- Where a received frame goes through its commands, whatever the state. A first byte from a source that is open and idle (the MAC,
the express MAC or a client's) opens a reception with the bytes and the 40-bit stamp of the instant, and nothing but that MAC
changes; from any other source it changes nothing. The lookup is made once, on the reception's frame, under the CLSF registers the
frame began with, and its result replaces the reception; a MAC control frame, and a frame looked up already, is not looked up. An
end of a MAC control frame counts it and acts on it, or only counts an errored one. An end of any other frame looks it up if need
be; in error it moves the receive counters and breaks the reception off after the stored bytes, and without error its copies enter
their queues, its performance events are counted and the arrival check sees it where it passed classification. A MAC control frame
that arrives without a mark on an UP sub-port counts by its error, or acts: a link PAUSE on all eight classes, a PFC frame on the
classes it names, any other opcode only moves the unknown counter. A frame that matches a wake pattern on a parked sub-port counts
and wakes the port, as does light on a parked port with WAKE_ON_LIGHT = 1. -/
def Obligations.ReceptionCompletes : Prop :=
  (∀ (lp : LPort) (src : RxSrc) (b : List Byte) (s : State), Quiet s →
    (s.rxOpen lp src.code = true → s.rxOf lp src.code = none →
      ∃ t r, exec (.frameReceiveStart lp b src) s = .next t ∧ t.rxOf lp src.code = some r ∧ r.bytes = b ∧ r.stamp = s.islStamp (sliceOf lp)
        ∧ r.looked = false ∧ r.pending = [] ∧ (∀ k, k ≠ lp.val → t.mac k = s.mac k) ∧ SameBut [.ports] s t)
    ∧ (s.rxOpen lp src.code = false ∨ s.rxOf lp src.code ≠ none → exec (.frameReceiveStart lp b src) s = .next s))
  ∧ (∀ (lp : LPort) (src : RxSrc) (s : State),
    (∀ r, s.rxOf lp src.code = some r → r.looked = false → etypeAt r.bytes 12 ≠ 0x8808 →
      exec (.ruleLookup lp src) s = .next (settle ((s.lookupRx lp src.code r).1.setRx lp src.code (some (s.lookupRx lp src.code r).2))))
    ∧ (Quiet s → (∀ r, s.rxOf lp src.code = some r → r.looked = true ∨ etypeAt r.bytes 12 = 0x8808) →
      exec (.ruleLookup lp src) s = .next s))
  ∧ (∀ (lp : LPort) (src : RxSrc) (e : RxEnd) (s : State),
    (Quiet s → s.rxOf lp src.code = none → exec (.frameReceiveEnd lp e src) s = .next s)
    ∧ ∀ r, s.rxOf lp src.code = some r →
      (etypeAt r.bytes 12 = 0x8808 →
        exec (.frameReceiveEnd lp e src) s = .next (settle ((s.setRx lp src.code none).controlEnd lp r.bytes e)))
      ∧ (etypeAt r.bytes 12 ≠ 0x8808 → ∀ (u : State) (q : RxFrame),
        (u, q) = (if r.looked then (s, r) else s.lookupRx lp src.code r) →
        let v := u.setRx lp src.code none
        (∀ c, v.rxError lp q.bytes e = some c → exec (.frameReceiveEnd lp e src) s = .next (settle
          ((v.rxCount lp q.bytes (some c) e.fragments).rxBreak lp src.code 1 q
            ((v.rxCount lp q.bytes (some c) e.fragments).stored lp q.bytes))))
        ∧ (v.rxError lp q.bytes e = none →
          let w := (((v.rxCount lp q.bytes none e.fragments).rxGood lp src.code q).perfHit (sliceOf lp) 0x08 1 none none (some q.cls)
            none).perfHit (sliceOf lp) 0x09 (ceilDiv q.bytes.length 64) none none (some q.cls) none
          exec (.frameReceiveEnd lp e src) s
            = .next (settle (if q.passed then w.arrivalCheck lp q.cls q.stamp q.bytes.length else w)))))
  ∧ (∀ (lp : LPort) (b : List Byte) (s : State),
    (s.isUp lp = true → s.cellOn (physOf lp) = false → etypeAt b 12 = 0x8808 →
      (∀ c, s.rxError lp b cleanEnd = some c → exec (.macControlReceive lp b) s = .next (settle (s.rxCount lp b (some c) 1)))
      ∧ (s.rxError lp b cleanEnd = none → ∀ u, u = s.rxCount lp b none 1 →
        (beAt b 14 2 ≠ 0x0001 → beAt b 14 2 ≠ 0x0101 → exec (.macControlReceive lp b) s = .next (settle (u.portCtr lp 16)))
        ∧ (beAt b 14 2 = 0x0001 → exec (.macControlReceive lp b) s = .next (settle
          (if (u.portCtr lp 7).pauseMode lp = 2 ∧ (u.portCtr lp 7).storm lp 0 = false then
            (u.portCtr lp 7).each (List.range 8) fun s c => s.pauseAct lp c (beAt b 16 2) else u.portCtr lp 7)))
        ∧ (beAt b 14 2 = 0x0101 → exec (.macControlReceive lp b) s = .next (settle
          (u.each ((List.range 8).filter fun c => (beAt b 16 2).testBit c) fun s c =>
            if (s.portCtr lp (8 + c)).pauseMode lp = 1 ∧ (s.portCtr lp (8 + c)).pfcRxEn lp c = true ∧ (s.portCtr lp (8 + c)).storm lp c = false
            then (s.portCtr lp (8 + c)).pauseAct lp c (beAt b (18 + 2 * c) 2) else s.portCtr lp (8 + c))))))
    ∧ (Quiet s → s.isUp lp = false ∨ s.cellOn (physOf lp) = true ∨ etypeAt b 12 ≠ 0x8808 → exec (.macControlReceive lp b) s = .next s))
  ∧ (∀ (lp : LPort) (b : List Byte) (s : State), s.inUse lp = true → (s.pitch lp).state = 6 → fcsGood b = true →
    ((List.range 8).any fun j => wakeMatch b (s.wakePattern (physOf lp) j)) = true →
    exec (.parkedFrameReceive lp b) s = .next (settle
      (((s.onPitch lp fun t => { t with light := true, rxLocked := true }).engCtr (physOf lp) 3).wake (physOf lp))))
  ∧ (∀ (lp : LPort) (s : State), (s.pitch lp).light = false → s.inUse lp = true → (s.pitch lp).state = 6 →
    s.portFld (physOf lp) OENG_PORT_MODE_WAKE_ON_LIGHT = 1 →
    exec (.lightAppear lp) s = .next (settle ((s.onPitch lp fun t => { t with light := true }).wake (physOf lp))))

/-- Where the pitching machine goes. BIAS done leads to EQUALISE with the transmitter lit, or through it to AM_LOCK when the sub-port
was parked with its receiver locked and light present; EQUALISE done keeps the coefficients and leads to FEC_LOCK, FEC_LOCK done
to AM_LOCK, and AM_LOCK done to UP with the failure count and the SER count at 0. Each of the four states that lasts its limit
ends in backoff: 300 us, 0.5 ms warm or 20 ms cold, 100 us, 900 us. A sub-port that is UP leaves for EQUALISE on loss of light,
unless WAKE_ON_LIGHT keeps it, and on loss of alignment lock; from EQUALISE loss of light is a failure. A backoff that is over
leads to EQUALISE with the transmitter lit, else to BIAS. -/
def Obligations.PitchingMoves : Prop :=
  (∀ (lp : LPort) (s u : State), (s.pitch lp).state = 1 → s.biasBlocked lp = false →
    u = (s.pitchTo lp 2).onPitch lp (fun t => { t with lit := true }) →
    exec (.pitchBiasDone lp) s = .next (settle
      (if (u.pitch lp).fromParked && (u.pitch lp).rxLocked && (u.pitch lp).light then (u.pitchTo lp 3).pitchTo lp 4 else u)))
  ∧ (∀ (lp : LPort) (s : State), (s.pitch lp).state = 2 →
    exec (.pitchEqualiseDone lp) s = .next (settle ((s.onPitch lp fun t => { t with warm := true, light := true }).pitchTo lp 3)))
  ∧ (∀ (lp : LPort) (s : State), (s.pitch lp).state = 3 → exec (.pitchFecLockDone lp) s = .next (settle (s.pitchTo lp 4)))
  ∧ (∀ (lp : LPort) (s : State), (s.pitch lp).state = 4 → s.lanesDark lp = false → (s.pitch lp).fromParked = false →
    exec (.pitchAmLockDone lp) s = .next (settle ((s.onPitch lp fun t => { t with fails := 0, serCount := 0 }).pitchTo lp 5)))
  ∧ (∀ (lp : LPort) (s : State), (s.pitch lp).state = 1 → (s.pitch lp).entered + 300000 ≤ s.now →
    exec (.pitchBiasTimeout lp) s = .next (settle (s.backoff lp)))
  ∧ (∀ (lp : LPort) (s : State), (s.pitch lp).state = 2 →
    (s.pitch lp).entered + (if s.eqWarm lp then 500000 else 20000000) ≤ s.now →
    exec (.pitchEqualiseTimeout lp) s = .next (settle (s.backoff lp)))
  ∧ (∀ (lp : LPort) (s : State), (s.pitch lp).state = 3 → (s.pitch lp).entered + 100000 ≤ s.now →
    exec (.pitchFecLockTimeout lp) s = .next (settle (s.backoff lp)))
  ∧ (∀ (lp : LPort) (s : State), (s.pitch lp).state = 4 → (s.pitch lp).entered + 900000 ≤ s.now →
    exec (.pitchAmLockTimeout lp) s = .next (settle (s.backoff lp)))
  ∧ (∀ (lp : LPort) (s : State), (s.pitch lp).state = 5 → s.keepsUp lp = false →
    exec (.lossOfLight lp) s = .next (settle ((s.onPitch lp fun t => { t with light := false, rxLocked := false }).pitchTo lp 2)))
  ∧ (∀ (lp : LPort) (s : State), (s.pitch lp).state = 2 →
    exec (.lossOfLight lp) s = .next (settle ((s.onPitch lp fun t => { t with light := false, rxLocked := false }).backoff lp)))
  ∧ (∀ (lp : LPort) (s : State), (s.pitch lp).state = 5 → (s.pitch lp).light = true →
    exec (.alignmentLockLoss lp) s = .next (settle (s.pitchTo lp 2)))
  ∧ (∀ (lp : LPort) (s : State), (s.pitch lp).state = 7 → (s.pitch lp).backoffEnd ≤ s.now →
    exec (.backoffEnd lp) s = .next (settle (s.pitchTo lp (if (s.pitch lp).lit then 2 else 1))))

/-- What the remaining optics commands do. An uncorrectable codeword on an UP sub-port that stays below SER_STRIKE counts in the port
counter and in the window's count, where the window is the whole millisecond of DT, and a new window restarts the count; a
window's end counts the corrected codewords and symbols. A hold timer that ran out discards, at a slow-clock edge, what the dark
logical port queues. PARK_APPLY parks every used sub-port without a frame in transmission or preempted. A sample of a healthy
source records bias and powers and leaves the lane in lane state 1. SPARE_POWER_READY marks a switch in progress as ready, and its
completion moves the lane to the spare, adds one switch to the wear record of the source it leaves and raises the event. The wear
record of an engine is written to the non-volatile store. A limiter trip latches the lane and darkens it, and calibration values
follow the temperature. -/
def Obligations.OpticsCommandsComplete : Prop :=
  (∀ (lp : LPort) (s u : State), (s.pitch lp).state = 5 →
    u = (s.portCtr lp 71).onPitch lp (fun t => { t with
      serCount := if t.serWin = s.dtNs / 1000000 then t.serCount + 1 else 1, serWin := s.dtNs / 1000000 }) →
    (u.portFld (physOf lp) OENG_PORT_SER_SER_STRIKE = 0 ∨ (u.pitch lp).serCount < u.portFld (physOf lp) OENG_PORT_SER_SER_STRIKE) →
    exec (.uncorrectableCodeword lp) s = .next (settle u))
  ∧ (∀ (lp : LPort) (cw sym : Nat) (s : State), ∃ t, exec (.serWindowRestart lp cw sym) s = .next (settle t)
      ∧ t.pitch lp = (if (s.pitch lp).serWin = s.dtNs / 1000000 then s.pitch lp
        else { s.pitch lp with serCount := 0, serWin := s.dtNs / 1000000 })
      ∧ t = ((s.portCtr lp 69 cw).portCtr lp 70 sym).setPitch lp (t.pitch lp))
  ∧ (∀ (lp : LPort) (s : State) (u : Nat), (s.pitch lp).holdStart = some u → s.isUp lp = false →
    u + 1000 * s.portFld (physOf lp) OENG_PORT_HOLD_HOLD_TIMEOUT ≤ s.now → s.slowEdge = true →
    exec (.holdTimerExpire lp) s = .next (settle
      ((s.onPitch lp fun t => { t with holdStart := none, holdExpired := true }).discardQueued lp 0).retryAll))
  ∧ (∀ (p : Port) (s : State), s.parkWanted p = true → s.engineRuns (p / 8) = true →
    exec (.parkApply p) s = .next (settle
      (s.parkSubs p ((s.lportsOf p).filter fun lp => (s.pitch lp).state != 6 && (s.mac lp).tx.isNone && (s.mac lp).preempted.isNone))))
  ∧ (∀ (e : Engine) (l : Lane) (x : LaserSample) (s : State), Quiet s → s.engineRuns e = true →
    (s.lane (laneKey e l)).lstate < 3 → (s.lane (laneKey e l)).deferred = false → x.reaches = true →
    10 * x.bias.toNat < 13 * x.bol.toNat →
    ∃ t, exec (.laserSample e l x) s = .next t
      ∧ t.lane (laneKey e l) = { s.lane (laneKey e l) with lstate := 1, bias := x.bias.toNat, txPwr := x.txPwr.toNat, rxPwr := x.rxPwr.toNat }
      ∧ t.wear (e * 64 + s.srcOf e l) = { s.wear (e * 64 + s.srcOf e l) with bias := x.bias.toNat } ∧ SameBut [.ports] s t)
  ∧ (∀ (e : Engine) (l : Lane) (s : State), Quiet s → (s.lane (laneKey e l)).switching.isSome = true →
    exec (.sparePowerReady e l) s = .next (s.onLane e l fun x => { x with switchReady := true }))
  ∧ (∀ (e : Engine) (l : Lane) (s : State) (sp : Nat), (s.lane (laneKey e l)).switching = some sp →
    (s.lane (laneKey e l)).switchReady = true →
    ∃ t, exec (.spareSwitchComplete e l) s = .next (settle (t.raise (oengPage e) 17))
      ∧ (t.lane (laneKey e l)).src = sp + 1 ∧ (t.lane (laneKey e l)).switching = none
      ∧ (t.lane (laneKey e l)).lstate = (if (s.lane (laneKey e l)).latched then 4 else 1)
      ∧ (t.wear (e * 64 + s.srcOf e l)).switches = (s.wear (e * 64 + s.srcOf e l)).switches + 1 ∧ SameBut [.ports] s t)
  ∧ (∀ (e : Engine) (s : State), Quiet s → s.sys.nv.powerFail = false → s.sys.nv.mounted = true →
    ∃ t, exec (.wearRecordWrite e) s = .next t
      ∧ (mget none t.sys.nv.wear e).map (·.2) = some ((List.range 36).map fun i => t.wear (e * 64 + i)) ∧ SameBut [.ports, .sys] s t)
  ∧ (∀ (e : Engine) (l : Lane) (s : State), (s.lane (laneKey e l)).latched = false → (s.lane (laneKey e l)).lstate ≠ 5 →
    ∃ t, exec (.eyeLimitTrip e l) s = .next (settle ((t.raise (oengPage e) 20).laneDarkens e l))
      ∧ (t.lane (laneKey e l)).latched = true ∧ (t.lane (laneKey e l)).switching = none
      ∧ ((t.lane (laneKey e l)).lstate = 4 ∨ (t.lane (laneKey e l)).lstate = 5)
      ∧ ((s.lane (laneKey e l)).trips.length < 2 → (t.lane (laneKey e l)).lstate = 4) ∧ SameBut [.ports] s t)
  ∧ (∀ (e : Engine) (temp : BitVec 8) (s : State), Quiet s → s.engineRuns e = true →
    (s.sys.nv.calGood = false ∨ s.sys.nv.engineCalGood.getD e false = false →
      exec (.calInterpolate e temp) s = .next
        (s.each (List.range 32) fun s l => s.onLane e l fun x => { x with txDelay := 0, rxDelay := 0, asym := 0 }))
    ∧ (s.sys.nv.calGood = true → s.sys.nv.engineCalGood.getD e false = true →
      exec (.calInterpolate e temp) s = .next (s.each (List.range 32) fun s l => s.onLane e l fun x => { x with
        txDelay := s.calValue e l 0 temp.toNat % 2 ^ 14, rxDelay := s.calValue e l 1 temp.toNat % 2 ^ 14
        asym := s.calValue e l 2 temp.toNat % 2 ^ 16 })))

/-- What the crossbar commands do where they act. A queue with bytes and none more ready for one cell time closes its open cell, once
the bytes that have arrived are in, and nothing else changes. A matching round leaves the cells in flight in their places and puts
what it launches behind them, publishes the load levels and lets waiting frames try again. The next cell for a slice leaves the
flight and is resequenced, or counted and dropped when its CRC is bad. A stream whose oldest held cell waited TIMEOUT counts,
raises and skips its gap. A head cell without a grant for 100 us is captured and raised. A plane in service that loses training
leaves service; one that is returning and passes rejoins, the capacity follows, and one that fails stays out. The guarded
PLANE_REMOVE and PLANE_RETURN act behind the guard. -/
def Obligations.CrossbarCommandsComplete : Prop :=
  (∀ (sl : Slice) (q : Fin 2112) (s u : State), u = s.ctArriveAll.fabricIdle (fun k => k / 2 ^ 32 == sl * 8 + q % 8) →
    ((u.voq (voqKey sl q)).buf ≠ [] → (u.voq (voqKey sl q)).lastAt + 5 ≤ u.now →
      ∃ t, exec (.cellIdleClose sl q) s = .next (settle t)
        ∧ t.voq (voqKey sl q) = (u.voq (voqKey sl q)).close (u.cellHead sl q) (u.voq (voqKey sl q)).arriving.isSome
        ∧ (∀ k, k ≠ voqKey sl q → t.voq k = u.voq k) ∧ SameBut [.sw] u t)
    ∧ ((u.voq (voqKey sl q)).buf = [] ∨ u.now < (u.voq (voqKey sl q)).lastAt + 5 → exec (.cellIdleClose sl q) s = .next (settle u)))
  ∧ (∀ s : State, ∃ (t : State) (l : List TimedCell), exec .matchingRound s = .next (settle t.publishLoads.retryAll)
      ∧ t.sw.flight = (s.fabricIdle fun _ => true).sw.flight ++ l)
  ∧ (∀ (d : Slice) (s : State) (c : TimedCell), (s.sw.flight.find? fun c => destSlice c.cell.dest == d) = some c →
    exec (.cellArrival d true) s = .next (settle ((s.onSw fun w => { w with flight := w.flight.erase c }).resequence d c).retryAll)
    ∧ exec (.cellArrival d false) s = .next (settle ((s.onSw fun w => { w with flight := w.flight.erase c }).badCell d c.plane)))
  ∧ (∀ (d src : Slice) (dest : Fin 264) (c : Cls) (s : State) (h : TimedCell),
    (s.stream (streamKey d src dest c)).lowest = some h → h.cell.seq ≠ (s.stream (streamKey d src dest c)).e →
    h.atNs + s.fld (xbarPage d) XBAR_RESEQ_CFG_TIMEOUT ≤ s.now →
    exec (.reseqTimeout d src dest c) s = .next (settle ((s.countRaise (xbarPage d) 0xC0 0).skipGap d (streamKey d src dest c)).retryAll))
  ∧ (∀ (sl : Slice) (q : Fin 2112) (s : State) (t : Nat), (s.voq (voqKey sl q)).reqSince = some t → t + 100000 ≤ s.now →
    s.voqHeld q = false →
    exec (.voqStall sl q) s = .next (settle
      (((s.setFld (xbarPage sl) XBAR_STALL_CAPTURE_INDEX q).setFld (xbarPage sl) XBAR_STALL_CAPTURE_VALID 1).raise (xbarPage sl) 5)))
  ∧ (∀ (p : Plane) (s : State), s.planesUp.contains p.val = true →
    ∃ t : State, exec (.planeTrainingLoss p) s = .next (settle (t.raise (xbarPage 8) p))
      ∧ (∃ u : State, t = u.each (List.range 8) (fun s d => s.gapNotice d) ∧ u.sw.flight = s.sw.flight.filter (fun c => c.plane != p.val)
        ∧ u.bitOf (xbarPage 8) XBARM_XM_STATUS_PLANE_UP p = false))
  ∧ (∀ (p : Plane) (s : State), Quiet s → s.sw.returning.getD p false = true →
    (∃ t, exec (.planeReturnDone p true) s = .next t ∧ t.bitOf (xbarPage 8) XBARM_XM_STATUS_PLANE_UP p = true
      ∧ t.sw.returning.getD p false = false ∧ SameBut [.regs, .sw] s t)
    ∧ exec (.planeReturnDone p false) s = .next (s.onSw fun w => { w with returning := w.returning.set p false }))
  ∧ (∀ (p : Plane) (s : State), Admits s .host (xbarPage 8) 0xE00 →
    exec (.planeRemove p) s = .next (settle
      ((s.accessHit .host 2 (xbarPage 8)).acted .host (xbarPage 8) 0xE00 (BitVec.ofNat 32 (p + 4)) fun s => s.doPlaneRemove p))
    ∧ exec (.planeReturn p) s = .next (settle
      ((s.accessHit .host 2 (xbarPage 8)).acted .host (xbarPage 8) 0xE00 (BitVec.ofNat 32 (p + 8)) fun s => s.doPlaneReturn p)))

/-- What the transmit and bobbin commands do where they act. A tree decision releases what no longer may stand at the head of a queue
and then nominates; a tree whose port has no excess tokens nominates nothing. A selection on an UP sub-port first clears the heads
of the queues, then: a ready class 7 frame starts, preempting what is in transmission where a fragment may end; with nothing in
transmission and no hold a preempted frame resumes, then a due pause is sent, then the frame of the lower classes starts, or the
trains close where there is none. A whole good frame that ends leaves the MAC free, its counters move, its last fragment counts,
it leaves the module, is mirrored where it began late, and its cells are freed; a bad one ends with its check inverted; one that
is still arriving goes on. A cut-through frame whose bytes are not all there breaks off. An open bobbin that has waited 1 us
begins its write, a written bobbin passes from transit to use, and a bobbin under read is landed and freed; either lets the next
read begin and waiting frames try again. -/
def Obligations.TransmissionCompletes : Prop :=
  (∀ (p : Port) (s u : State), u = s.each (s.lportsOf p) (fun s lp => s.cleanHeads lp) →
    exec (.portTreeDecision p) s = .next (settle (u.treeDecide p))
    ∧ ((u.nodeNow (p / 32) 2 (p % 32)).maxTok < 0 → exec (.portTreeDecision p) s = .next (settle u)))
  ∧ (∀ (lp : LPort) (s u : State), s.isUp lp = true → s.cellOn (physOf lp) = false → u = s.cleanHeads lp →
    (∀ i, (u.mac lp).tx = none → u.classReady lp 7 = some i → exec (.transmitSelect lp) s = .next (settle (u.startTx lp i)))
    ∧ (∀ t i, (u.mac lp).tx = some t → u.classReady lp 7 = some i →
      exec (.transmitSelect lp) s = .next (settle (if u.preemptPoint lp then (u.preemptTx lp).startTx lp i else u)))
    ∧ (∀ t, (u.mac lp).tx = some t → u.classReady lp 7 = none →
      exec (.transmitSelect lp) s = .next (settle (if u.heldMac lp && u.preemptPoint lp then u.preemptTx lp else u)))
    ∧ ((u.mac lp).tx = none → u.classReady lp 7 = none →
      (u.heldMac lp = true → ((u.mac lp).preempted.isSome || u.pauseDue lp) = true → exec (.transmitSelect lp) s = .next (settle u))
      ∧ (u.heldMac lp = false → (u.mac lp).preempted.isSome = true → exec (.transmitSelect lp) s = .next (settle (u.resumeTx lp)))
      ∧ (u.heldMac lp = false → (u.mac lp).preempted.isSome = false → u.pauseDue lp = true →
        exec (.transmitSelect lp) s = .next (settle (u.sendDue lp)))
      ∧ ((u.mac lp).preempted.isSome = false → u.pauseDue lp = false → ∀ v, u.chooseLow lp = v →
        exec (.transmitSelect lp) s = .next (settle
          (match v.2 with | some i => v.1.startTx lp i | none => v.1.closeTrains lp)))))
  ∧ (∀ (lp : LPort) (s : State) (t : Tx) (e : EFrame), (s.mac lp).tx = some t → s.ef t.fid = some e →
    (e.complete = true → e.bad = false → e.f.mirrorCopy = false → ∀ u, u = ((s.noteLate lp t).setMac lp { (s.noteLate lp t).mac lp with
        tx := none, gateLate := false }).txCount lp (s.txWire t e) →
      exec (.transmitEnd lp) s = .next (settle
        ((if t.late then
          ((if 0 < t.fragments then (u.portCtr lp 67).emit (.fragment lp ((s.txWire t e).length - t.sent) true) else u).leaveLine lp t e
            (s.txWire t e) false).egressMirror lp e.f (s.txWire t e)
         else (if 0 < t.fragments then (u.portCtr lp 67).emit (.fragment lp ((s.txWire t e).length - t.sent) true) else u).leaveLine lp t e
            (s.txWire t e) false).frameGone t.fid)))
    ∧ (e.bad = true → ∀ u, u = (s.noteLate lp t).stompTx lp →
      exec (.transmitEnd lp) s = .next (settle
        (((u.setMac lp { u.mac lp with gateLate := false }).landAll (queueKey (sliceOf lp) e.q)).retryAll)))
    ∧ (e.complete = false → exec (.ctUnderrun lp) s = .next (settle
      (((s.breakFrame t.fid true).landAll (queueKey (sliceOf lp) e.q)).retryAll)))
    ∧ (Quiet s → e.complete = false → e.bad = false → exec (.transmitEnd lp) s = .next s)
    ∧ (Quiet s → e.complete = true → exec (.ctUnderrun lp) s = .next s))
  ∧ (∀ (lp : LPort) (s : State), Quiet s → (s.mac lp).tx = none →
    exec (.transmitEnd lp) s = .next s ∧ exec (.ctUnderrun lp) s = .next s)
  ∧ (∀ (sl : Slice) (q : Fin 16384) (s : State) (b : Bobbin), Quiet s →
    (s.queue (queueKey sl (1024 + q))).bobbins.getLast? = some b → b.phase = 0 →
    (s.queue (queueKey sl (1024 + q))).deepAt + 1000 ≤ s.now →
    ∃ t, exec (.bobbinIdleWrite sl q) s = .next t
      ∧ t.queue (queueKey sl (1024 + q)) = { s.queue (queueKey sl (1024 + q)) with
          bobbins := (s.queue (queueKey sl (1024 + q))).bobbins.dropLast ++ [{ b with phase := 1 }] }
      ∧ (∀ k, k ≠ queueKey sl (1024 + q) → t.queue k = s.queue k) ∧ SameBut [.regs, .sw] s t
      ∧ RegsBut [regA (deepPage 8) DEEPT_BOB_USED_COUNT.off, regA (deepPage 8) DEEPT_BOB_TRANSIT_COUNT.off] s t)
  ∧ (∀ (sl : Slice) (q : Fin 16384) (s u : State) (b : Bobbin),
    ((s.queue (queueKey sl (1024 + q))).bobbins.find? fun b => b.phase = 1) = some b →
    u = s.perfHit (9 + b.stack) 0x05 (ceilDiv (b.hi - b.lo) 32) none (some 11) none none →
    exec (.bobbinWriteDone sl q) s = .next (settle
      (((((((u.setQueue (queueKey sl (1024 + q)) { s.queue (queueKey sl (1024 + q)) with
          bobbins := storeFirst (s.queue (queueKey sl (1024 + q))).bobbins }).bobFld DEEPT_BOB_TRANSIT_COUNT (-1)).bobFld
          DEEPT_BOB_USED_COUNT 1).leaveStaging (queueKey sl (1024 + q))).purge (queueKey sl (1024 + q))).startRead sl
          (queueKey sl (1024 + q))).retryAll)))
  ∧ (∀ (sl : Slice) (q : Fin 16384) (s v u : State) (b : Bobbin) (r : List Bobbin), v = s.startRead sl (queueKey sl (1024 + q)) →
    (v.queue (queueKey sl (1024 + q))).bobbins = b :: r → b.phase = 3 →
    u = v.perfHit (9 + b.stack) 0x04 (ceilDiv (b.hi - b.lo) 32) none (some 11) none none →
    exec (.bobbinReadback sl q) s = .next (settle
      ((((((u.setQueue (queueKey sl (1024 + q)) { v.queue (queueKey sl (1024 + q)) with bobbins := r }).bobFld
          DEEPT_BOB_TRANSIT_COUNT (-1)).bobFld DEEPT_BOB_FREE_COUNT 1).landAll (queueKey sl (1024 + q))).startRead sl
          (queueKey sl (1024 + q))).retryAll)))

/-- What the memory stacks, the audit and the counters do. Doubled refresh shows in the state of a stack, makes a derate due, and
raises its event; normal refresh clears it. A derate that is due takes both factors and the bandwidths from the stacks in service.
A controller that passes its self-test rejoins and one that fails stays out with FAULT. The audit latches its accounts and the
islands left out, once at a second of DT; its check counts, and captures and raises the first mismatch. Once in each PERIOD a
harvest goes to ring 33 and clears the half-range bits, or, where it does not fit, is dropped whole into a gap. A read of a
counter's low word latches the high word and completes; a read of a peak field starts it anew. A tripped lane is cleared, and a
pending lane switches to its spare. -/
def Obligations.StacksAuditCountersComplete : Prop :=
  (∀ (d : Stack) (s : State), s.stackDouble d = false →
    exec (.stackRefreshDouble d) s = .next (settle
      (((s.setStackSt d { s.stackSt d with doubled := true }).onSw fun w => { w with derateDue := true }).raise (deepPage 8) 12)))
  ∧ (∀ (d : Stack) (s : State), Quiet s → s.stackDouble d = true →
    exec (.stackRefreshNormal d) s = .next
      ((s.setStackSt d { s.stackSt d with doubled := false }).onSw fun w => { w with derateDue := true }))
  ∧ (∀ s u v w : State, s.sw.derateDue = true →
    w = ((s.setFld (deepPage 8) DEEPT_RATE_FACTOR_FACTOR (s.deepGbps * 65536 / 40000)).setFld (deepPage 8) DEEPT_SPACE_FACTOR_FACTOR
      (s.stacksIn * 65536 / 8)).onSw (fun x => { x with derateDue := false }) →
    u = ((w.setFld (deepPage 8) DEEPT_DEEP_RATE_WRITE_GBPS w.deepGbps).setFld (deepPage 8) DEEPT_DEEP_RATE_READ_GBPS w.deepGbps).each
      (List.range 8) (fun v d => v.setDoubled d (v.stackIn d && v.stackDouble d)) →
    v = (if s.fld (deepPage 8) DEEPT_RATE_FACTOR_FACTOR = s.deepGbps * 65536 / 40000
        ∧ s.fld (deepPage 8) DEEPT_SPACE_FACTOR_FACTOR = s.stacksIn * 65536 / 8 then u else u.raise (deepPage 8) 0) →
    exec .derateRecompute s = .next (settle (v.each (List.range 8) fun v sl =>
      ((v.each ((v.queuesOf sl).map (·.1)) fun v i => if 1024 ≤ i then v.keepTokens s sl 5 (i - 1024) else v).ratesChanged s sl).retryAll)))
  ∧ (∀ (d : Stack) (s : State), s.stackIn d = true → exec (.stackFault d) s = .next (settle (s.stackLeave d true)))
  ∧ (∀ (d : Stack) (s u : State), (s.block (9 + d)).resetting = true → s.fatal = false →
    u = (s.onSw fun w => { w with stackTest := w.stackTest.set d false }).blockDone (9 + d) →
    exec (.stackSelftestDone d true) s = .next (settle (u.stackJoin d (s.sw.stackTest.getD d false)))
    ∧ exec (.stackSelftestDone d false) s = .next (settle (u.setStackSt d { u.stackSt d with fault := true })))
  ∧ (∀ s : State, Quiet s → s.flag (deepPage 8) DEEPT_AUDIT_CFG_AUDIT_EN = true → s.dtSub < 1000 → s.sw.auditSec ≠ some s.dtSec →
    ∃ t, exec .auditLatch s = .next t ∧ t.sw.audit = some (s.accounts (s.darkIslands ++ s.sw.auditDark))
      ∧ t.sw.auditDark = s.darkIslands ∧ t.sw.auditSec = some s.dtSec ∧ SameBut [.sw, .tables, .trunk] s t)
  ∧ (∀ (s u : State) (l : List (Nat × Nat × Int)), s.sw.audit = some l →
    u = (s.onSw fun w => { w with audit := none }).incFld (deepPage 8) DEEPT_AUDIT_COUNT_COUNT 1 →
    (Quiet s → l ++ u.creditFaults = [] → exec .auditCheck s = .next u)
    ∧ (∀ c i d r, l ++ u.creditFaults = (c, i, d) :: r → exec .auditCheck s = .next (settle
        (((((u.setFld (deepPage 8) DEEPT_AUDIT_CAPTURE_ACCOUNT c).setFld (deepPage 8) DEEPT_AUDIT_CAPTURE_INSTANCE i).setFld (deepPage 8)
          DEEPT_AUDIT_CAPTURE_VALID 1).setFld (deepPage 8) DEEPT_AUDIT_DIFF_DIFF (unsigned 32 d)).raise (deepPage 8) 9))))
  ∧ (∀ (p : Port) (s u : State), s.flag hostPage HOST_HARVEST_CFG_EN = true → s.ringRuns 33 = true →
    onceIn (1000000 * s.fld hostPage HOST_HARVEST_CFG_PERIOD) (mget none s.host.harvestAt p) s.now = true →
    u = s.onHost (fun h => { h with harvestAt := mset none h.harvestAt p (some s.now) }) →
    (u.ringFits 33 ((u.ringGap 33 ++ [u.harvestBody p]).map entryLen) = true →
      exec (.counterHarvest p) s = .next (settle (((u.ringGapPut 33).ringEntryPut 33 2 (u.harvestBody p)).harvestClear p)))
    ∧ (u.ringFits 33 ((u.ringGap 33 ++ [u.harvestBody p]).map entryLen) = false → ∀ n t, (u.ring 33).gap = some (n, t) →
      exec (.counterHarvest p) s = .next (settle (u.setRing 33 { u.ring 33 with gap := some (n + 1, t) })))
    ∧ (u.ringFits 33 ((u.ringGap 33 ++ [u.harvestBody p]).map entryLen) = false → (u.ring 33).gap = none →
      exec (.counterHarvest p) s = .next (settle ((u.setRing 33 { u.ring 33 with gap := some (1, s.time.dt) }).raise hostPage 3))))
  ∧ (∀ (page : Fin 16384) (off : Fin 4096) (s u : State), isCtr page off = true → accessError page off = 0 → s.pageDark page = false →
    u = s.accessHit .host 1 page →
    exec (.counterLowRead page off) s = .next (settle ((u.latchCtr page off).emit (.completion (u.readReg page off)))))
  ∧ (∀ (page : Fin 16384) (off : Fin 4096) (s u : State), isCtr page off = false → accessError page off = 0 → s.pageDark page = false →
    ¬(page.val = hostPage ∧ off.val = 0x100) → ¬(page.val = svccPage ∧ off.val = 0x114) →
    ¬(page.val = timePage ∧ (off.val = 0x90 ∨ off.val = 0x118 ∨ 0x214 ≤ off.val ∧ (off.val - 0x214) % 0x80 = 0)) →
    u = s.accessHit .host 1 page →
    exec (.peakFieldRead page off) s = .next (settle ((u.restartPeak page off).emit (.completion (u.readReg page off)))))
  ∧ (∀ (e : Engine) (l : Lane) (s : State), (s.lane (laneKey e l)).latched = true → (s.lane (laneKey e l)).lstate = 4 →
    ((s.doLaneClearTrip e l).lane (laneKey e l)).latched = false ∧ ((s.doLaneClearTrip e l).lane (laneKey e l)).lstate = 1)
  ∧ (∀ (e : Engine) (l : Lane) (s : State),
    ((s.lane (laneKey e l)).pending = true → s.doLaneApproveSwitch e l = (s.startSwitch e l).1)
    ∧ ((s.lane (laneKey e l)).lstate ≠ 5 → (s.lane (laneKey e l)).switching = none → (s.lane (laneKey e l)).deferred = false →
      s.doLaneSwitchNow e l = (s.startSwitch e l).1))
  ∧ (∀ (d : Stack) (s : State),
    (s.stackIn d = true → (s.block (9 + d)).resetting = false → s.doStackRemove d =
      ((s.onBlock (9 + d) fun b => { b with guy := true, guyEnd := none, byHost := true, cause := none }).syncGuy (9 + d)).stackLeave d false)
    ∧ (s.stackIn d = false → (s.block (9 + d)).resetting = false → (s.block (9 + d)).isolated = false →
      s.doStackReturn d = s.blockStart (9 + d) true none))

/-- What the scheduler, queue-window and gate commands do where they act. With BUSY at 0, a read loads the entry's words into the
window with RESULT 0, a write of an entry of tables 0 and 6 and up, runs its checks and answers RESULT, one of a queue-map or node
entry waits for the next loom period with BUSY at 1 and then runs so, a gate entry that the checks take replaces the old one, OP 3
on SAMPLE also clears both maxima, and OP 3 on GATE_ADMIN copies the list and leaves BUSY at 1. The copy done gives the pending
list its change time, which the status shows. A pending list becomes operative at its change time, takes the place of the old one
and raises. A gate advance shows the gates that apply now. A sample takes the depth and delay and their maxima. A queue's
configuration is read and written through its window. -/
def Obligations.SchedulerCommandsComplete : Prop :=
  (∀ (sl : Slice) (t : Fin 16) (i : Fin 32768) (s u : State), TakesTurn s .host (schdPage sl) 0x100 → Quiet s →
    s.flag (schdPage sl) SCHD_SCH_CMD_BUSY = false →
    u = ((s.setFld (schdPage sl) SCHD_SCHD_CFG_REFUSED 0).setFld (schdPage sl) SCHD_SCH_CMD_INDEX i).setFld (schdPage sl) SCHD_SCH_CMD_TABLE t →
    (∀ ws, u.schedRead sl t i = some ws →
      ∃ c, exec (.schedEntryRead sl t i) s = .next (((u.winPut (schdPage sl) 0x104 ws).schDone sl 0).withCtrs c))
    ∧ (u.schedRead sl t i = none → ∃ c, exec (.schedEntryRead sl t i) s = .next ((u.schDone sl 3).withCtrs c)))
  ∧ (∀ (sl : Slice) (t : Fin 16) (i : Fin 32768) (s : State), Reaches s .host (schdPage sl) 0x100 →
    s.flag (schdPage sl) SCHD_SCH_CMD_BUSY = false → 1 ≤ t.val → t.val ≤ 5 →
    ∃ c, exec (.schedEntryWrite sl t i) s = .next (settle (((s.setFlag (schdPage sl) SCHD_SCH_CMD_BUSY true).onHost fun h => { h with
      waits := h.waits ++ [⟨.host, schdPage sl, 0x100, BitVec.ofNat 32 (i + 0x8000 * t + 0x80000)⟩] }).withCtrs c)))
  ∧ (∀ (sl : Slice) (t : Fin 16) (i : Fin 32768) (s u : State), TakesTurn s .host (schdPage sl) 0x100 → ¬ (1 ≤ t.val ∧ t.val ≤ 5) →
    s.flag (schdPage sl) SCHD_SCH_CMD_BUSY = false →
    u = ((s.setFld (schdPage sl) SCHD_SCHD_CFG_REFUSED 0).setFld (schdPage sl) SCHD_SCH_CMD_INDEX i).setFld (schdPage sl) SCHD_SCH_CMD_TABLE t →
    ∃ c d, exec (.schedEntryWrite sl t i) s = .next (settle
      (((((u.withCtrs c).schedWrite sl t i (u.winGet (schdPage sl) 0x104 8)).1.schDone sl
        ((u.withCtrs c).schedWrite sl t i (u.winGet (schdPage sl) 0x104 8)).2).rescale sl).withCtrs d)))
  ∧ (∀ (sl : Slice) (t : Fin 16) (i : Fin 32768) (s u : State), s.flag (schdPage sl) SCHD_SCH_CMD_BUSY = false →
    u = ((s.setFld (schdPage sl) SCHD_SCHD_CFG_REFUSED 0).setFld (schdPage sl) SCHD_SCH_CMD_INDEX i).setFld (schdPage sl) SCHD_SCH_CMD_TABLE t →
    (3 ≤ t.val → t.val ≤ 5 → guarFail (guarPorts u (u.schedWrite sl t i (u.winGet (schdPage sl) 0x104 8)).1
      ((List.range 128).map fun q => 128 * sl + q)) = none) →
    s.windowRun .host .schd sl 0x100 (BitVec.ofNat 32 (i + 0x8000 * t + 0x80000)) =
      ((u.schedWrite sl t i (u.winGet (schdPage sl) 0x104 8)).1.schDone sl (u.schedWrite sl t i (u.winGet (schdPage sl) 0x104 8)).2).rescale sl)
  ∧ (∀ (sl : Slice) (i : Nat) (s : State) (ws : List Word), i ≤ 8191 → getBits (ws.getD 0 0) 8 2 ≠ 3 → 10 ≤ getBits (ws.getD 1 0) 0 30 →
    getBits (ws.getD 1 0) 0 30 ≤ 1000000000 →
    s.schedWrite sl 7 i ws = (s.setSchd (schdKey sl 7 i) (maskWords [0x3FF, 0x3FFFFFFF] ws), 0))
  ∧ (∀ (sl : Slice) (k : Fin 32) (s u : State), TakesTurn s .host (schdPage sl) 0x100 → Quiet s →
    s.flag (schdPage sl) SCHD_SCH_CMD_BUSY = false →
    u = ((s.setFld (schdPage sl) SCHD_SCHD_CFG_REFUSED 0).setFld (schdPage sl) SCHD_SCH_CMD_INDEX k).setFld (schdPage sl) SCHD_SCH_CMD_TABLE 6 →
    ∃ c, exec (.gateCommit sl k) s = .next (((u.setGate (32 * sl + k) { u.gate (32 * sl + k) with
      copying := some (u.adminList (32 * sl + k), u.now) }).setFld (schdPage sl) SCHD_SCH_CMD_BUSY 1).withCtrs c))
  ∧ (∀ (sl : Slice) (i : Fin 32768) (s u : State) (ws : List Word), TakesTurn s .host (schdPage sl) 0x100 → Quiet s →
    s.flag (schdPage sl) SCHD_SCH_CMD_BUSY = false →
    u = ((s.setFld (schdPage sl) SCHD_SCHD_CFG_REFUSED 0).setFld (schdPage sl) SCHD_SCH_CMD_INDEX i).setFld (schdPage sl) SCHD_SCH_CMD_TABLE 9 →
    u.schedRead sl 9 i = some ws →
    ∃ c, exec (.sampleReadClear sl i) s = .next ((((u.winPut (schdPage sl) 0x104 ws).setSample (queueKey sl i)
      { u.sample (queueKey sl i) with maxDepth := 0, maxDelay := 0 }).schDone sl 0).withCtrs c))
  ∧ (∀ (sl : Slice) (k : Fin 32) (s : State) (l : GateList) (n ct : Nat), Quiet s → (s.gate (32 * sl + k)).copying = some (l, n) →
    ct = l.changeTime (s.nsIn l.tb) →
    exec (.gateCommitCopyDone sl k) s = .next (((((s.setGate (32 * sl + k) { s.gate (32 * sl + k) with
      copying := none, pending := some (l, ct), pendAt := s.gateNow (32 * sl + k) }).setGateSt (32 * sl + k) SCHD_GATE_STATUS_PENDING 1).setGateSt (32 * sl + k)
      SCHD_GATE_CHANGE_SEC_SEC (ct / nsPerSec)).setGateSt (32 * sl + k) SCHD_GATE_CHANGE_NS_NS (ct % nsPerSec)).schDone sl 0))
  ∧ (∀ (p : Port) (s : State) (l : GateList) (ct : Nat), (s.gate p).pending = some (l, ct) → ct ≤ s.nsIn l.tb →
    exec (.gateListChange p) s = .next (settle
      (((((s.setGate p { s.gate p with
        oper := l, operBase := ct, pending := none, fails := [], prev := some ((s.gate p).oper, (s.gate p).operBase)
        pendAt := ((((s.gate p).pendAt : Int) - s.nsIn (s.gate p).oper.tb) + s.nsIn l.tb).toNat }).setGateSt p SCHD_GATE_STATUS_PENDING 0).setGateSt
        p SCHD_GATE_STATUS_BREACH 0).showGates p).raise (schdPage (p / 32)) 4)))
  ∧ (∀ (p : Port) (s : State), (s.gate p).oper.en = true → exec (.gateEntryAdvance p) s = .next (settle (s.showGates p)))
  ∧ (∀ (sl : Slice) (i : Fin 17408) (s : State) (d : Nat), Quiet s → s.flag (schdPage sl) SCHD_SAMPLE_CFG_WATCH_EN = false →
    onceIn (1000 * s.fld (schdPage sl) SCHD_SAMPLE_CFG_PERIOD) (s.sample (queueKey sl i)).takenAt s.now = true →
    d = (match s.oldestOf sl i with | some e => min 0xFFFFFFFF (stampAge s.stamp e.f.stamp) | none => 0) →
    exec (.queueSample sl i) s = .next (s.setSample (queueKey sl i) { s.sample (queueKey sl i) with
      takenAt := some s.now, lastDepth := (s.queue (queueKey sl i)).occAll, maxDepth := max (s.sample (queueKey sl i)).maxDepth (s.queue (queueKey sl i)).occAll
      lastDelay := d, maxDelay := max (s.sample (queueKey sl i)).maxDelay d }))
  ∧ (∀ (sl : Slice) (i : Fin 32768) (s u : State), TakesTurn s .host (deepPage sl) 0x100 → Quiet s →
    s.flag (deepPage sl) DEEP_Q_CMD_BUSY = false → i.val < 17408 →
    u = (s.setFld (deepPage sl) DEEP_ADM_CFG_REFUSED 0).setFld (deepPage sl) DEEP_Q_CMD_INDEX i →
    ∃ c ws, exec (.queueConfigRead sl i) s = .next (((u.winPut (deepPage sl) 0x104 ws).winDone (deepPage sl) DEEP_Q_CMD_RESULT
        DEEP_Q_CMD_BUSY 0).withCtrs c) ∧ ws.length = 32 ∧ ws.getD 1 0 = BitVec.ofNat 32 (u.queue (queueKey sl i)).maxCells
        ∧ ws.getD 5 0 = BitVec.ofNat 32 (u.queue (queueKey sl i)).guarRate ∧ ws.getD 7 0 = BitVec.ofNat 32 (u.queue (queueKey sl i)).bobbins.length
        ∧ ws.getD 16 0 = BitVec.ofNat 32 (u.queue (queueKey sl i)).admitFrames)
  ∧ (∀ (sl : Slice) (i : Fin 32768) (s u : State) (q : Queue), TakesTurn s .host (deepPage sl) 0x100 →
    s.flag (deepPage sl) DEEP_Q_CMD_BUSY = false →
    u = (s.setFld (deepPage sl) DEEP_ADM_CFG_REFUSED 0).setFld (deepPage sl) DEEP_Q_CMD_INDEX i →
    q = u.windowQueue sl (u.queue (queueKey sl i)) → queueFieldBad i q = false →
    guarFail (guarRows u.asWritten (u.setQueue (queueKey sl i) q).asWritten sl ++
      guarPorts u (u.setQueue (queueKey sl i) q) (if i.val < 1024 then [] else (u.queueLport sl i).toList)) = none →
    (1024 ≤ i.val → u.minRateRefused (u.setQueue (queueKey sl i) q) sl (i - 1024) = false) →
    q.guarRate = (u.queue (queueKey sl i)).guarRate →
    ∃ c d, exec (.queueConfigWrite sl i) s = .next (settle
      (((((u.withCtrs c).setQueue (queueKey sl i) q).rescale sl).retryAll.winDone (deepPage sl) DEEP_Q_CMD_RESULT DEEP_Q_CMD_BUSY 0).withCtrs d)))

/-- What the classifier, meter and scrub commands do where they act. A rule write within the requester's range, with VER below 3 and
an action without a refused value, stores value, mask, action and VER, valid and with its hit counter at 0; a read loads the entry
into the requester's window; an invalidation clears the valid bit and the counter. A template that passes its check is stored and
read back. A meter write with bursts large enough starts from full buckets; a read shows counters and buckets of one instant; a
refill of an enabled meter brings both buckets to now. A scrub step is noted as this period's; a clean one does nothing else, a
corrected one due in the period counts and raises TABLE_ECC_CORR, with the page's own source for a rule or meter; an uncorrectable
rule is invalidated and an uncorrectable meter has full buckets. -/
def Obligations.ClassifierCommandsComplete : Prop :=
  (∀ (sl : Slice) (w : Who) (i : Fin 16384) (s u : State) (pg o : Nat), TakesTurn s w (clsfPage sl) (if whoFw w then 0x280 else 0x180) → Quiet s →
    pg = clsfPage sl → o = ruleWin w - 0x180 → s.flag pg (CLSF_RULE_CMD_BUSY.sh o) = false → s.ruleOpen sl w i = true →
    u = (s.ruleRefuse sl w false).setFld pg (CLSF_RULE_CMD_INDEX.sh o) i →
    (∀ ver : Fin 4, ver ≠ 3 → actionRefused (u.winGet pg (0x204 + o) 4) = false →
      ∃ c, exec (.ruleWrite sl w i ver) s = .next (((u.setFld pg (CLSF_RULE_CMD_VER.sh o) ver).setRule (ruleKey sl i)
        { value := BitVec.ofNat 512 (natOf (u.winGet pg (0x184 + o) 16)), mask := BitVec.ofNat 512 (natOf (u.winGet pg (0x1C4 + o) 16))
          action := BitVec.ofNat 128 (natOf [(u.winGet pg (0x204 + o) 4).getD 0 0, (u.winGet pg (0x204 + o) 4).getD 1 0,
            wMask ((u.winGet pg (0x204 + o) 4).getD 2 0) 0xF, 0])
          ver := ver, valid := true, hits := 0 }).withCtrs c))
    ∧ (∃ c, exec (.ruleRead sl w i) s = .next ((((((((u.winPut pg (0x184 + o) (wordsOf 16 (u.rule (ruleKey sl i)).value.toNat)).winPut pg
        (0x1C4 + o) (wordsOf 16 (u.rule (ruleKey sl i)).mask.toNat)).winPut pg (0x204 + o) (wordsOf 4 (u.rule (ruleKey sl i)).action.toNat)).winPut pg
        (0x214 + o) (wordsOf 2 (u.rule (ruleKey sl i)).hits)).setFld pg (CLSF_RULE_CMD_VER.sh o) (u.rule (ruleKey sl i)).ver).setFld pg
        (CLSF_RULE_CMD_VALID.sh o) (if (u.rule (ruleKey sl i)).valid then 1 else 0))).withCtrs c))
    ∧ (∃ c, exec (.ruleInvalidate sl w i) s = .next
        ((u.setRule (ruleKey sl i) { u.rule (ruleKey sl i) with valid := false, hits := 0 }).withCtrs c)))
  ∧ (∀ (sl : Slice) (i : Fin 64) (s u : State) (pg : Nat), TakesTurn s .host (clsfPage sl) 0x100 → Quiet s → pg = clsfPage sl →
    s.flag pg CLSF_TMPL_CMD_BUSY = false → u = (s.setFld pg CLSF_CLSF_CFG_REFUSED 0).setFld pg CLSF_TMPL_CMD_INDEX i →
    (templateRefused ((u.winGet pg 0x108 16).map fun w => wMask w 0x3FFFF) = false →
      ∃ c, exec (.templateWrite sl i) s = .next ((u.setTemplate (tmplKey sl i)
        { base := u.flag pg CLSF_TMPL_CFG_BASE, units := (u.winGet pg 0x108 16).map fun w => wMask w 0x3FFFF }).withCtrs c))
    ∧ (∃ c, exec (.templateRead sl i) s = .next (((u.setFlag pg CLSF_TMPL_CFG_BASE (s.template (tmplKey sl i)).base).winPut pg 0x108
        (s.template (tmplKey sl i)).units).withCtrs c)))
  ∧ (∀ (sl : Slice) (i : Fin 32768) (s u : State) (pg : Nat), TakesTurn s .host (metrPage sl) 0x100 → Quiet s → pg = metrPage sl →
    s.flag pg METR_MTR_CMD_BUSY = false → u = (s.setFld pg METR_METR_CFG_REFUSED 0).setFld pg METR_MTR_CMD_INDEX i →
    ((u.fld pg METR_MTR_CIR_RATE = 0 ∨ 12288 ≤ u.fld pg METR_MTR_CBS_BURST) →
      (u.fld pg METR_MTR_EIR_RATE = 0 ∨ 12288 ≤ u.fld pg METR_MTR_EBS_BURST) →
      ∃ t, exec (.meterWrite sl i) s = .next t ∧ SameBut [.regs, .ctrs, .tables] s t ∧ t.regs = u.regs
        ∧ t.meter (meterKey sl i) = ({ s.meter (meterKey sl i) with
          cir := u.fld pg METR_MTR_CIR_RATE, cbs := u.fld pg METR_MTR_CBS_BURST, eir := u.fld pg METR_MTR_EIR_RATE
          ebs := u.fld pg METR_MTR_EBS_BURST, mode := wMask (u.rd (regA pg 0x114)) 0x3FF, resC := 0, resE := 0, last := s.stamp } : Meter).fill
        ∧ (t.meter (meterKey sl i)).tc = u.fld pg METR_MTR_CBS_BURST * 4096 ∧ (t.meter (meterKey sl i)).te = u.fld pg METR_MTR_EBS_BURST * 4096
        ∧ ∀ k, k ≠ meterKey sl i → t.meter k = s.meter k)
    ∧ (∃ t, exec (.meterRead sl i) s = .next t ∧ SameBut [.regs, .ctrs] s t
        ∧ t.regs = ((u.winPut pg 0x104 [BitVec.ofNat 32 (s.meter (meterKey sl i)).cir, BitVec.ofNat 32 (s.meter (meterKey sl i)).cbs,
          BitVec.ofNat 32 (s.meter (meterKey sl i)).eir, BitVec.ofNat 32 (s.meter (meterKey sl i)).ebs, (s.meter (meterKey sl i)).mode]).winPut pg 0x150
          [BitVec.ofNat 32 ((s.meter (meterKey sl i)).tc / 4096), BitVec.ofNat 32 ((s.meter (meterKey sl i)).te / 4096)]).regs))
  ∧ (∀ (sl : Slice) (i : Fin 32768) (s : State), Quiet s → (s.meter (meterKey sl i)).en = true →
    exec (.meterRefill sl i) s = .next (s.setMeter (meterKey sl i) ((s.meter (meterKey sl i)).refill s.stamp)))
  ∧ (∀ (sl : Slice) (t : ScrubTable) (i : Fin 1048576) (s u : State), Quiet s →
    u = (if s.scrubDue (scrubKey sl t i) then s.onTables fun x => { x with scrubbed := mset none x.scrubbed (scrubKey sl t i) (some s.now) } else s) →
    exec (.scrubStep sl t i .clean) s = .next u
    ∧ (s.scrubDue (scrubKey sl t i) = false → exec (.scrubStep sl t i .corrected) s = .next s)
    ∧ (s.scrubDue (scrubKey sl t i) = true → exec (.scrubStep sl t i .corrected) s = .next (settle (
        if t = .meter then ((u.tblCtr 10).raise tblsPage 2).raise (metrPage sl) 0
        else if t = .rule ∨ t = .template ∨ t = .selector ∨ t = .defAct then ((u.tblCtr 10).raise tblsPage 2).raise (clsfPage sl) 1
        else (u.tblCtr 10).raise tblsPage 2))))
  ∧ (∀ (sl : Slice) (i : Fin 1048576) (s : State) (k : Nat) (b : BitVec 8), k = ruleKey sl (i % 16384) →
    ∃ u : State, exec (.scrubStep sl .rule i (.uncorrectable b)) s = .next (settle (u.raise (clsfPage sl) 2))
      ∧ u.rule k = { s.rule k with valid := false } ∧ ∀ j, j ≠ k → u.rule j = s.rule j)
  ∧ (∀ (sl : Slice) (i : Fin 1048576) (s : State) (k : Nat) (b : BitVec 8), k = meterKey sl (i % 32768) →
    ∃ u : State, exec (.scrubStep sl .meter i (.uncorrectable b)) s = .next (settle (u.raise (metrPage sl) 1))
      ∧ u.meter k = (s.meter k).fill ∧ (u.meter k).tc = (s.meter k).cbs * 4096 ∧ (u.meter k).te = (s.meter k).ebs * 4096 ∧ ∀ j, j ≠ k → u.meter j = s.meter j)

/-- What the table-window commands do with BUSY at 0. A read, a longest-prefix match and a read by slot answer at once: RESULT and the
words they load. A write, an insertion, a deletion, a join or a leave, which firmware may give only for a table its enable opens,
sets BUSY and waits for the sequencer behind the requests there. A flush sets BUSY, starts the flush of the domain and destination
named, and one request waits for each entry that matches. Firmware without the table's enable gets RESULT 3. A seed write waits
for the sequencer as well. -/
def Obligations.TableWindowCommandsComplete : Prop :=
  (∀ (w : Who) (s : State), TakesTurn s w tblsPage (if whoFw w then 0x480 else 0x400) → Quiet s →
    s.flag tblsPage (TBLS_TBL_CMD_BUSY.sh (tblWin (whoFw w))) = false →
    (∀ (t : Fin 16) (i : Fin 1048576) r ws,
      (s.tblAt w t i).tblRead 2 t i ((s.tblAt w t i).tblData (whoFw w)) = (r, some ws) →
      ∃ c, exec (.tableEntryRead w t i) s = .next ((((s.tblAt w t i).tblPut (whoFw w) ws).tblDone (whoFw w) r).withCtrs c))
    ∧ (∀ (t : Fin 16) (i : Fin 1048576) r, (s.tblAt w t i).tblRead 2 t i ((s.tblAt w t i).tblData (whoFw w)) = (r, none) →
      ∃ c, exec (.tableEntryRead w t i) s = .next (((s.tblAt w t i).tblDone (whoFw w) r).withCtrs c))
    ∧ (∀ (t : Fin 16) (i : Fin 1048576) r ws, (s.tblAt w t i).tblRead 5 t i ((s.tblAt w t i).tblData (whoFw w)) = (r, some ws) →
      ∃ c, exec (.readBySlot w t i) s = .next ((((s.tblAt w t i).tblPut (whoFw w) ws).tblDone (whoFw w) r).withCtrs c))
    ∧ (∀ r ws, (s.tblAt w 6 0).tblRead 4 6 0 ((s.tblAt w 6 0).tblData (whoFw w)) = (r, some ws) →
      ∃ c, exec (.routeLongestMatch w) s = .next ((((s.tblAt w 6 0).tblPut (whoFw w) ws).tblDone (whoFw w) r).withCtrs c))
    ∧ (∀ r, (s.tblAt w 6 0).tblRead 4 6 0 ((s.tblAt w 6 0).tblData (whoFw w)) = (r, none) →
      ∃ c, exec (.routeLongestMatch w) s = .next (((s.tblAt w 6 0).tblDone (whoFw w) r).withCtrs c)))
  ∧ (∀ (w : Who) (s : State), TakesTurn s w tblsPage (if whoFw w then 0x480 else 0x400) → Quiet s →
    s.flag tblsPage (TBLS_TBL_CMD_BUSY.sh (tblWin (whoFw w))) = false → s.tables.waiting.length ≠ 3071 →
    (∀ t : Nat, whoFw w = true → s.bitOf tblsPage TBLS_FW_TABLE_EN_WRITE_EN t = true) →
    (∀ (t : Fin 16) (i : Fin 1048576), ∃ c, exec (.tableEntryWrite w t i) s = .next ((s.tblWaits w 1 t i).withCtrs c))
    ∧ (∀ (t : Fin 16) (i : Fin 1048576), ¬(t.val = 3 ∧ i.val = 0x80000) →
      ∃ c, exec (.tableEntryDelete w t i) s = .next ((s.tblWaits w 3 t i).withCtrs c))
    ∧ (∃ c, exec (.macInsert w) s = .next ((s.tblWaits w 1 3 0).withCtrs c))
    ∧ (∃ c, exec (.macDelete w) s = .next ((s.tblWaits w 3 3 0).withCtrs c))
    ∧ (∃ c, exec (.memberJoin w) s = .next ((s.tblWaits w 6 5 0).withCtrs c))
    ∧ (∃ c, exec (.memberLeave w) s = .next ((s.tblWaits w 7 5 0).withCtrs c))
    ∧ (∃ c, exec (.routeInsert w) s = .next ((s.tblWaits w 1 6 0).withCtrs c))
    ∧ (∃ c, exec (.routeDelete w) s = .next ((s.tblWaits w 3 6 0).withCtrs c)))
  ∧ (∀ (c0 : Cluster) (p : Pair) (t : Fin 16) (i : Fin 1048576) (s : State), TakesTurn s (.fw c0 p) tblsPage 0x480 → Quiet s →
    s.flag tblsPage (TBLS_TBL_CMD_BUSY.sh (tblWin true)) = false → s.bitOf tblsPage TBLS_FW_TABLE_EN_WRITE_EN t = false →
    ∃ c, exec (.tableEntryWrite (.fw c0 p) t i) s = .next (((s.tblAt (.fw c0 p) t i).tblDone true 3).withCtrs c))
  ∧ (∀ (w : Who) (s u : State) (d : List Word) (f : Flush), TakesTurn s w tblsPage (if whoFw w then 0x480 else 0x400) →
    s.flag tblsPage (TBLS_TBL_CMD_BUSY.sh (tblWin (whoFw w))) = false →
    (whoFw w = true → s.bitOf tblsPage TBLS_FW_TABLE_EN_WRITE_EN 3 = true) → u = s.tblAt w 3 0x80000 → d = u.tblData (whoFw w) →
    f = { fw := whoFw w, oneBd := getBits (d.getD 4 0) 19 1 = 1, bd := keyBd d, oneDest := getBits (d.getD 4 0) 20 1 = 1
          dest := (d.getD 2 0).toNat, destType := getBits (d.getD 3 0) 0 2, removed := 0 } →
    ∃ (hits : List (Nat × MacEntry)) (c k : Map Nat), (∀ x, x ∈ hits ↔ (x.1, some x.2) ∈ s.tables.master.mac ∧ x.2.static = false
        ∧ (f.oneBd = true → x.2.bd = f.bd) ∧ (f.oneDest = true → x.2.dest = f.dest ∧ x.2.destType = f.destType))
      ∧ exec (.macFlush w) s = .next (settle ((hits.foldl (fun s x => s.seqPush (if whoFw w then 12 else 11) (.flushDelete (whoFw w) x.1 x.2))
        (((u.withCtrs c).tblBusy (whoFw w) true).onTables fun t => { t with flushes := t.flushes ++ [f] })).withCtrs k)))
  ∧ (∀ (n : Fin 2) (v : Word) (s : State), exec (.hashSeedWrite n v) s = .next (settle (s.seqPush 11 (.seed n (wMask v 0x1FFFF)))))

/-- What the sequencer's commands do where they act. A learn request joins the requests that wait while fewer than 4,096 do; beyond,
it is counted and its address leaves the pending filter. The request that came first is accepted: a window command answers RESULT
and, where it changes the tables, its writes go to every copy's queue; a seed is refused unless both tables are empty. A copy
applies its oldest update; when it is the last copy to do so, the notification leaves and the window's BUSY falls. A pending
address leaves the filter at its time. The next sweep slot, once its time has come, with an entry clears its hit bits and asks the
sequencer to keep, mark or delete it. Once in a second a record that did not join in time leaves, and its slice mask follows
through the sequencer. A flush whose removals every copy has applied ends with one notification of kind 7. -/
def Obligations.TableSequencerComplete : Prop :=
  (∀ (sl : Slice) (s : State) (q : SeqReq) (r : List SeqReq), s.tables.requests.getD sl [] = q :: r → s.tables.waiting.length < 4096 →
    exec (.learnRequestArrive sl) s = .next (settle ((s.onTables fun t => { t with requests := t.requests.set sl r }).seqPush (1 + sl) q)))
  ∧ (∀ (sl : Slice) (s : State) (k : Nat) (bd lp : Nat) (a : BitVec 48) (mv : Bool) (r : List SeqReq), Quiet s →
    s.tables.requests.getD sl [] = .learn k bd a lp mv :: r → 4096 ≤ s.tables.waiting.length →
    exec (.learnRequestArrive sl) s = .next
      (((s.onTables fun t => { t with requests := t.requests.set sl r }).tblCtr 0).dropFilter sl (learnKey bd a.toNat)))
  ∧ (∀ (s u : State) (n : Nat) (p : Nat) (r : SeqReq), s.reloading = false → nextReq s.tables.waiting = some (n, p, r) →
    u = (s.onTables fun t => { t with waiting := t.waiting.erase (n, p, r) }).syncSeq →
    (∀ fw op t i d o, r = .window fw op t i d → o = u.acceptWindow op t i d → (o.writes ≠ [] ∨ o.note ≠ none) →
      exec .sequencerAccept s = .next (settle ((o.st.tblResult fw o.result).pushUpdate
        { writes := o.writes, note := o.note, window := some (if fw then 1 else 0), filter := none })))
    ∧ (∀ fw op t i d o, r = .window fw op t i d → o = u.acceptWindow op t i d → o.writes = [] → o.note = none →
      exec .sequencerAccept s = .next (settle ((o.st.tblResult fw o.result).tblBusy fw false)))
    ∧ (∀ sl bd a lp mv o, r = .learn sl bd a lp mv → o = u.acceptLearn bd a lp mv → o.fail = false →
      exec .sequencerAccept s = .next (settle
        (o.st.pushUpdate { writes := o.writes, note := o.note, window := none, filter := some (sl, learnKey bd a.toNat), fin := o.fin })))
    ∧ (∀ sl bd a lp mv o, r = .learn sl bd a lp mv → o = u.acceptLearn bd a lp mv → o.fail = true →
      exec .sequencerAccept s = .next (settle ((o.st.onTables fun t => { t with
          filter := t.filter.set sl ((t.filter.getD sl []).map fun x => if x.1 = learnKey bd a.toNat then (x.1, some (u.now + 1000000)) else x) }).pushUpdate
        { writes := o.writes, note := o.note, window := none, filter := none })))
    ∧ (∀ g sl n, r = .mask g sl n →
      exec .sequencerAccept s = .next (settle (u.pushUpdate { writes := u.maskWrite g sl, note := n, window := none, filter := none })))
    ∧ (∀ k v, r = .seed k v → u.fld tblsPage TBLS_MAC_COUNT_ENTRIES = 0 → u.tables.master.route = [] →
      exec .sequencerAccept s = .next (settle
        ((u.setFld tblsPage TBLS_TBLS_CFG_REFUSED 0).setFld tblsPage (TBLS_HASH_SEED_SEED.sh (4 * k)) v.toNat)))
    ∧ (∀ k v, r = .seed k v → u.fld tblsPage TBLS_MAC_COUNT_ENTRIES ≠ 0 →
      exec .sequencerAccept s = .next (settle (u.setFld tblsPage TBLS_TBLS_CFG_REFUSED 1)))
    ∧ (∀ i d, r = .linkGroup i d →
      exec .sequencerAccept s = .next (settle (u.pushUpdate { writes := [.linkGroup i d], note := none, window := some 2, filter := none }))))
  ∧ (∀ (sl : Slice) (s v : State) (u : Update) (r : List Update), s.reloading = false → s.tables.copyQueue.getD sl [] = u :: r → u.filter = none →
    v = ((s.onTables fun t => { t with copyQueue := t.copyQueue.set sl r }).keepGroups sl u.writes).setCopy sl
      (u.writes.foldl TblCopy.apply ((s.onTables fun t => { t with copyQueue := t.copyQueue.set sl r }).copyOf sl)) →
    (∀ k : Nat, k ∈ List.range 8 → k ≠ sl.val → r.length + 1 ≤ (s.tables.copyQueue.getD k []).length →
      exec (.copyApply sl) s = .next (settle v))
    ∧ ((∀ k ∈ List.range 8, k = sl.val ∨ (s.tables.copyQueue.getD k []).length < r.length + 1) →
      (∀ b, u.note = some b → u.window = none → exec (.copyApply sl) s = .next (settle ((v.sendNote b).updEnd u.fin)))
      ∧ (u.note = none → u.window = some 0 → exec (.copyApply sl) s = .next (settle ((v.updEnd u.fin).tblBusy false false)))
      ∧ (u.note = none → u.window = some 1 → exec (.copyApply sl) s = .next (settle ((v.updEnd u.fin).tblBusy true false)))))
  ∧ (∀ (sl : Slice) (s : State), Quiet s →
    exec (.pendingFilterExpire sl) s = .next (s.onTables fun t => { t with
      filter := t.filter.set sl ((t.filter.getD sl []).filter fun x => match x.2 with | some e => s.now < e | none => true) }))
  ∧ (∀ (s u : State) (e : MacEntry), s.fld tblsPage TBLS_AGE_CFG_AGE_PERIOD ≠ 0 →
    onceIn (s.fld tblsPage TBLS_AGE_CFG_AGE_PERIOD * nsPerSec) (s.tables.sweptAt.map (· * 524288)) (s.now * 524288) = true →
    u = s.onTables (fun t => { t with sweep := (s.tables.sweep + 1) % 524288, sweptAt := some s.now }) → s.tables.master.macAt s.tables.sweep = some e →
    e.static = false → s.tables.master.bdF e.bd 0 2 1 ≠ 0 →
    exec .ageSweepSlot s = .next (settle ((u.each (List.range 8) fun v k =>
      v.setCopy k { v.copyOf k with hit := mset false (v.copyOf k).hit s.tables.sweep false }).seqPush 10
        (if (List.range 8).any (fun k => mget false (u.copyOf k).hit s.tables.sweep) then .age s.tables.sweep e false false
         else if e.stale then .age s.tables.sweep e true true else .age s.tables.sweep e false true))))
  ∧ (∀ (sl : Slice) (s : State) (k t g : Nat) (b : List Byte), s.tables.members = [(k, some t)] → k / (65536 * 128) = sl.val →
    mget none s.tables.memberSec sl ≠ some s.dtSec →
    s.fld tblsPage TBLS_MEMBER_CFG_MEMBER_TIMEOUT ≤ (s.dtSec % 65536 + 65536 - t) % 65536 → g = k / 128 % 65536 →
    b = leBytes 1 6 ++ zeros 1 ++ leBytes 2 g ++ leBytes 2 (128 * sl + k % 128) ++ zeros 14 →
    ∃ u : State, u.member k = none ∧ u.grpSnoop (g * 8 + sl) = s.grpSnoop (g * 8 + sl) - (s.grpSnoop (g * 8 + sl) &&& 2 ^ (k % 128))
      ∧ exec (.memberAgeSweep sl) s = .next (settle (u.seqPush 10 (.mask g sl (some b)))))
  ∧ (∀ (sl : Slice) (s : State), (∀ e ∈ s.tables.members, e.1 / (65536 * 128) ≠ sl.val) → Quiet s →
    mget none s.tables.memberSec sl ≠ some s.dtSec →
    exec (.memberAgeSweep sl) s = .next (s.onTables fun t => { t with memberSec := mset none t.memberSec sl (some s.dtSec) }))
  ∧ (∀ (sl : Slice) (s : State), Quiet s → mget none s.tables.memberSec sl = some s.dtSec → exec (.memberAgeSweep sl) s = .next s)
  ∧ (∀ (s : State) (f : Flush) (r : List Flush), s.tables.flushes = f :: r → s.flushOver f = true →
    exec .macFlushDone s = .next (settle ((((s.onTables fun t => { t with flushes := r }).tblDone f.fw 0).sendNote
      (noteBody 7 0 0 (if f.oneBd then f.bd else 0xFFFF) 0 f.removed 0)))))
  ∧ (∀ (s : State) (f : Flush), (∀ x ∈ s.tables.waiting, ∀ i e, x.2.2 ≠ .flushDelete f.fw i e) →
    (∀ q ∈ s.tables.copyQueue, ∀ u ∈ q, u.fin ≠ .flushed f.fw) → s.flushOver f = true)

/-- What the FlexE commands do where they act. A group in OH_LOCK, MAP_CHECK or DESKEW whose members are up goes on to the next state
when the step is done, and back to PHY_WAIT when its limit of 8 ms, 3.4 ms or 1 ms is over, with the event of its check; a check
that fails goes back as well, and a skew of at most 10 us brings the group UP. A bad overhead frame counts; a good one is taken
into the received calendar, and one that names another calendar in use switches it. A frame boundary sends, on each member whose
lanes are UP, RPF, CR, CA, the calendar in use and the codes of the other. A switch request becomes pending with its deadline, is
abandoned by command, and times out with an event unless CA has come. The client window reads a client and writes one that the
checks take. -/
def Obligations.FlexeCommandsComplete : Prop :=
  (∀ (g : Group) (s : State),
    (s.groupState g = 2 → s.membersUp g = true → exec (.flexeOhLockDone g) s = .next (settle (s.setGroup g 3)))
    ∧ (s.groupState g = 2 → (s.flexe g).entered + 8000000 ≤ s.now → exec (.flexeOhLockTimeout g) s = .next (settle (s.setGroup g 1)))
    ∧ (s.groupState g = 3 → s.mapGood g = true → s.membersUp g = true → exec (.flexeMapCheckDone g) s = .next (settle (s.setGroup g 4)))
    ∧ (s.groupState g = 3 → s.mapGood g = false → exec (.flexeMapCheckDone g) s = .next (settle ((s.setGroup g 1).raise (flxePage g) 4)))
    ∧ (s.groupState g = 3 → (s.flexe g).entered + 3400000 ≤ s.now →
      exec (.flexeMapCheckTimeout g) s = .next (settle ((s.setGroup g 1).raise (flxePage g) 4)))
    ∧ (s.groupState g = 4 → (s.flexe g).entered + 1000000 ≤ s.now →
      exec (.flexeDeskewTimeout g) s = .next (settle ((s.setGroup g 1).raise (flxePage g) 5))))
  ∧ (∀ (g : Group) (d : BitVec 14) (s u : State), s.groupState g = 4 → u = s.setFld (flxePage g) FLXE_SKEW_SKEW_NS d.toNat →
    (d.toNat ≤ 10000 → u.membersUp g = true → exec (.flexeDeskewDone g d) s = .next (settle (u.setGroup g 5)))
    ∧ (10000 < d.toNat → exec (.flexeDeskewDone g d) s = .next (settle ((u.setGroup g 1).raise (flxePage g) 5))))
  ∧ (∀ (g : Group) (i : Fin 8) (oh : OhFrame) (s u v : State), s.flag (flxePage g) FLXE_GRP_CFG_EN = true →
    s.flag (flxePage g) (FLXE_MEMBER_EN.sh (4 * i)) = true → 2 ≤ s.groupState g → u = s.ohCheck g →
    (oh.crcGood = false → exec (.flexeOhFrameReceive g i oh) s = .next (settle (((u.setFlexe g { u.flexe g with
        bad := (u.flexe g).bad.set i ((u.flexe g).bad.getD i 0 + 1), lastOh := (u.flexe g).lastOh.set i u.now
        mf := (u.flexe g).mf.set i none }).count (flxePage g) 0xD0).ohCheck g)))
    ∧ (oh.crcGood = true → oh.rpf = false →
      v = (u.setFlexe g ((u.flexe g).take i oh (u.flag (flxePage g) FLXE_GRP_STATUS_SWITCH_PEND) (u.flag (flxePage g) FLXE_GRP_CFG_SMC_EN) u.now)).setFld
          (flxePage g) { FLXE_GRP_STATUS_RPF_MAP with lo := FLXE_GRP_STATUS_RPF_MAP.lo + i, w := 1 } 0 →
      (v.flag (flxePage g) FLXE_GRP_STATUS_CAL_RX = oh.calInUse → exec (.flexeOhFrameReceive g i oh) s = .next (settle (v.syncRxCal g)))
      ∧ (v.flag (flxePage g) FLXE_GRP_STATUS_CAL_RX ≠ oh.calInUse →
        exec (.flexeOhFrameReceive g i oh) s = .next (settle ((v.rxSwitch g oh.calInUse).syncRxCal g)))))
  ∧ (∀ (x : Flexe) (i : Nat) (oh : OhFrame) (p e : Bool) (n : Nat), i < x.bad.length → i < x.lastOh.length →
    (x.take i oh p e n).bad.getD i 0 = 0 ∧ (x.take i oh p e n).lastOh.getD i 0 = n ∧ (x.take i oh p e n).peerCr = oh.cr
      ∧ (x.take i oh p e n).caSeen = (x.caSeen || (oh.ca && p)) ∧ (x.take i oh p e n).smc = (if e then oh.smc else x.smc)
      ∧ (x.take i oh p e n).rxCal = oh.entries.foldl (fun m y => mset (α := BitVec 16) 0 m ((if y.1 then 640 else 0) + y.2.1.val) y.2.2) x.rxCal)
  ∧ (∀ (g : Group) (s u v : State), u = (s.groupSync g).ohCheck g → u.flag (flxePage g) FLXE_GRP_CFG_EN = true →
    u.flag (flxePage g) FLXE_GRP_STATUS_SWITCH_PEND = false → u.flag (flxePage g) FLXE_GRP_CFG_SMC_EN = false →
    v = (if (u.flexe g).frame = 0 then u.setFlexe g { u.flexe g with
      shown := (u.groupEntries g).foldl (fun m e => mset (α := BitVec 16) 0 m e (u.txCode g (!u.flag (flxePage g) FLXE_GRP_STATUS_CAL_TX) e)) [] } else u) →
    ∃ w : State, w = v.each ((v.membersOn g).filter (v.memberLocked g)) (fun t i => t.emit (.flexeOh g i (v.ohSent g i none)))
      ∧ exec (.flexeOhFrameSend g) s = .next (settle (w.setFlexe g { w.flexe g with frame := ((u.flexe g).frame + 1) % 32 })))
  ∧ (∀ (g i : Nat) (s : State), (s.ohSent g i none).crcGood = true ∧ (s.ohSent g i none).rpf = (s.groupState g != 5)
    ∧ (s.ohSent g i none).ca = ((s.flexe g).peerCr && (s.membersOn g).all fun j => (s.flexe g).announced.getD j false)
    ∧ (s.ohSent g i none).calInUse = s.flag (flxePage g) FLXE_GRP_STATUS_CAL_TX
    ∧ (s.ohSent g i none).lastOfMultiframe = ((s.flexe g).frame == 31))
  ∧ (∀ (g : Group) (w : Who) (s u : State), Admits s w (flxePage g) 0x88 → Quiet s →
    u = s.setFlag (flxePage g) FLXE_GRP_CFG_REFUSED false →
    (u.flag (flxePage g) FLXE_GRP_STATUS_SWITCH_PEND = false → ∃ c, exec (.calSwitchRequest g w) s = .next
      (((u.setFld (flxePage g) FLXE_GRP_STATUS_SWITCH_PEND 1).setFlexe g { s.flexe g with
        caSeen := false, switchDeadline := some (s.now + u.fld (flxePage g) FLXE_CA_TIMEOUT_TIMEOUT * 1000000) }).withCtrs c))
    ∧ (∃ c, exec (.calSwitchAbandon g w) s = .next ((u.calDrop g).withCtrs c)))
  ∧ (∀ (g : Group) (s : State) (n : Nat), (s.flexe g).switchDeadline = some n → n ≤ s.now → (s.flexe g).caSeen = false →
    exec (.calSwitchTimeout g) s = .next (settle ((s.calDrop g).raise (flxePage g) 2)))
  ∧ (∀ (w : Who) (n : Fin 4096) (s u : State) (pg : Nat), TakesTurn s w (flxePage 32) 0x100 → pg = flxePage 32 →
    s.flag pg FLXEC_CL_CMD_BUSY = false → u = (s.setFld pg FLXEC_CL_CFG_REFUSED 0).setFld pg FLXEC_CL_CMD_INDEX n →
    (∀ g lp wire, g = u.fld pg FLXEC_CL_DATA0_GROUP → lp = u.fld pg FLXEC_CL_DATA0_LPORT → wire = u.fld pg FLXEC_CL_DATA0_WIRE_ID →
      u.flag pg FLXEC_CL_DATA0_VALID = true → u.clientBad n g lp wire true = false →
      (whoFw w = true → u.fwGroup g = true ∧ (s.client n).valid = false) →
      ∃ c d, exec (.clientWrite w n) s = .next (settle ((((((((((u.withCtrs c).drainClient n).setClient n
        { ((u.withCtrs c).drainClient n).client n with group := g, lport := lp, valid := true, wireId := wire
                                                       drained := ((u.withCtrs c).drainClient n).now * 1000 }).syncRxCal
          (((u.withCtrs c).drainClient n).client n).group).syncRxCal g).ratesChanged
        ((u.withCtrs c).drainClient n) (sliceOf lp)).rescale (sliceOf lp)).winDone pg FLXEC_CL_CMD_RESULT FLXEC_CL_CMD_BUSY 0)).withCtrs d)))
    ∧ (∃ c d ws xs, exec (.clientRead w n) s = .next (settle ((((((u.withCtrs c).drainClient n).winPut pg 0x104 ws).winPut pg 0x114 xs).winDone pg
        FLXEC_CL_CMD_RESULT FLXEC_CL_CMD_BUSY 0).withCtrs d))
      ∧ ws.getD 2 0 = BitVec.ofNat 32 (((u.withCtrs c).drainClient n).client n).fifo.length
      ∧ xs.getD 0 0 = BitVec.ofNat 32 (((u.withCtrs c).drainClient n).client n).fifoDiscard
      ∧ xs.getD 2 0 = BitVec.ofNat 32 (((u.withCtrs c).drainClient n).client n).rxCut))

/-- What the pack and fold commands do where they act. A whole unfolded unit with a good header is counted and its frame received; a
unit with a bad header ends the train's use; a cut unit counts at the client it came by. A commit is due, applies at the next
boundary with the next generation and cleaning, and cleaning makes what was added current and drops what was removed. Pending
changes are discarded. A receive generation is armed, disarmed, and promoted into CUR. A suspended table resumes; a restart sets
both generations, suspends the table and empties it. The fold window writes, reads and removes entries. The counters of a logical
port are latched at one instant. -/
def Obligations.PackAndFoldCommandsComplete : Prop :=
  (∀ (lp : LPort) (src : RxSrc) (unit : List Byte) (s u : State) (len : Nat), s.packOn lp = true → s.rxOpen lp src.code = true →
    s.rxOf lp src.code = none → u = (s.setRxTrain lp src.code 1).packCtr lp 7 →
    len = byteAt (unit.take 4) 0 % 64 * 256 + byteAt (unit.take 4) 1 →
    exec (.packUnitReceive lp true unit .header src) s = .next (settle (u.packHeaderRefuse lp src.code))
    ∧ exec (.packUnitReceive lp true unit .trainEnd src) s = .next (settle ((u.setRxTrain lp src.code 0).packCtr lp 8))
    ∧ (∀ n, src = .client n → exec (.packUnitReceive lp true unit .cut src) s = .next (settle (u.cutClient n)))
    ∧ (4 ≤ (unit.take 4).length → crc8 ((unit.take 4).take 3) = BitVec.ofNat 8 (byteAt (unit.take 4) 3) → (byteAt (unit.take 4) 0).testBit 7 = true →
      (byteAt (unit.take 4) 0).testBit 6 = false → 64 ≤ len → len ≤ 12288 → len ≤ (unit.drop 4).length →
      exec (.packUnitReceive lp true unit .none src) s
        = .next (settle ((u.packCtr lp 5).receiveWhole lp src.code ((unit.drop 4).take len) cleanEnd))
      ∧ exec (.packUnitReceive lp true unit .last src) s
        = .next (settle (((u.packCtr lp 5).receiveWhole lp src.code ((unit.drop 4).take len) cleanEnd).setRxTrain lp src.code 0))))
  ∧ (∀ (w : Who) (sl : Slice) (t : Fin 4) (s u : State) (k : Nat), Admits s w (packPage sl) (0x304 + 16 * t) → Quiet s →
    u = s.foldRefused sl false → k = foldKey sl t →
    (s.foldSt sl t PACK_FOLD_STATE_CLEANING ≠ 1 →
      ∃ c, exec (.foldCommit w sl t) s = .next ((u.setFold k { s.fold k with commitDue := true }).withCtrs c))
    ∧ (∃ c, exec (.foldDiscardPending w sl t) s = .next ((u.setFold k { s.fold k with
        tx := ((s.fold k).tx.filter fun e => e.state != 1).map fun e => if e.state = 2 then { e with state := 0 } else e }).withCtrs c))
    ∧ (s.foldSt sl t PACK_FOLD_STATE_PROMOTING ≠ 1 →
      ∃ c, exec (.foldArm w sl t) s = .next (((u.setFoldSt sl t PACK_FOLD_STATE_RX_ARMED
        ((s.foldSt sl t PACK_FOLD_STATE_RX_ACTIVE + 1) % 256)).setFoldSt sl t PACK_FOLD_STATE_ARMED 1).withCtrs c))
    ∧ (∃ c, exec (.foldDisarm w sl t) s = .next (((u.setFoldSt sl t PACK_FOLD_STATE_ARMED 0).setFold k { s.fold k with next := [] }).withCtrs c))
    ∧ (∃ c, exec (.foldResume w sl t) s = .next ((u.setFoldSt sl t PACK_FOLD_STATE_SUSPEND 0).withCtrs c))
    ∧ (∀ gen : Byte, ∃ c, exec (.foldRestart w sl t gen) s = .next
        ((((((u.setFoldSt sl t PACK_FOLD_STATE_TX_ACTIVE gen.toNat).setFoldSt sl t PACK_FOLD_STATE_RX_ACTIVE gen.toNat).setFoldSt sl t
          PACK_FOLD_STATE_ARMED 0).setFoldSt sl t PACK_FOLD_STATE_SUSPEND 1).setFold k
          { s.fold k with restarting := true, commitDue := false }).withCtrs c)))
  ∧ (∀ (sl : Slice) (t : Fin 4) (s : State) (k g : Nat), Quiet s → k = foldKey sl t →
    ((s.fold k).commitDue = true → g = (s.foldSt sl t PACK_FOLD_STATE_TX_ACTIVE + 1) % 256 →
      exec (.foldCommitApply sl t) s = .next (((s.setFoldSt sl t PACK_FOLD_STATE_TX_ACTIVE g).setFoldSt sl t PACK_FOLD_STATE_CLEANING 1).setFold k
        { s.fold k with commitDue := false, cleaning := some g }))
    ∧ ((s.fold k).cleaning = some g →
      exec (.foldCleaningDone sl t) s = .next ((s.setFoldSt sl t PACK_FOLD_STATE_CLEANING 0).setFold k { s.fold k with
        tx := ((s.fold k).tx.filter fun e => !(e.state == 2 && e.gen == g)).map (fun e => if e.state = 1 && e.gen = g then { e with state := 0 } else e)
        cleaning := none }))
    ∧ ((s.fold k).promoting = some g →
      exec (.foldPromotionDone sl t) s = .next ((s.setFoldSt sl t PACK_FOLD_STATE_PROMOTING 0).setFold k { s.fold k with
        cur := promote g (s.fold k).cur (s.fold k).next, promoting := none
        next := (s.fold k).next.filter fun e => match e.2 with | some v => v.gen != g | none => false }))
    ∧ ((s.fold k).restarting = true →
      exec (.foldRestartDone sl t) s = .next
        (((s.setFoldSt sl t PACK_FOLD_STATE_CLEANING 0).setFoldSt sl t PACK_FOLD_STATE_PROMOTING 0).setFold k dfltFold)))
  ∧ (∀ (w : Who) (sl : Slice) (t : Fin 4) (tx : Bool) (tag : BitVec 16) (s u : State) (pg : Nat),
    TakesTurn s w (packPage sl) (if whoFw w then 0x480 else 0x400) → pg = packPage sl → s.flag pg (foldWin (whoFw w) PACK_FOLD_CMD_BUSY) = false →
    u = (((s.setFld pg PACK_PACK_CFG_REFUSED 0).setFld pg (foldWin (whoFw w) PACK_FOLD_CMD_INDEX) tag.toNat).setFld pg
      (foldWin (whoFw w) PACK_FOLD_CMD_TABLE) t).setFld pg (foldWin (whoFw w) PACK_FOLD_CMD_DIR) (if tx then 1 else 0) →
    (∀ e, tx = true → ((u.fold (foldKey sl t)).tx.find? fun e => e.tag == tag.toNat) = some e → ∃ c, exec (.foldEntryRead w sl t tx tag) s =
      .next (settle (((u.foldShow (whoFw w) sl e.key e.gen false e.state false).winDone pg (foldWin (whoFw w) PACK_FOLD_CMD_RESULT)
        (foldWin (whoFw w) PACK_FOLD_CMD_BUSY) 0).withCtrs c)))
    ∧ (tx = true → ((u.fold (foldKey sl t)).tx.find? fun e => e.tag == tag.toNat) = none → ∃ c, exec (.foldEntryRead w sl t tx tag) s =
      .next (settle ((u.winDone pg (foldWin (whoFw w) PACK_FOLD_CMD_RESULT) (foldWin (whoFw w) PACK_FOLD_CMD_BUSY) 1).withCtrs c)))
    ∧ ((whoFw w = true → u.bitOf pg PACK_FW_FOLD_EN_WRITE_EN t = true) → ∀ bytes len gen valid, u.foldWindow (whoFw w) sl = (bytes, len, gen, valid) →
      12 ≤ len → len ≤ 22 →
      (tx = true → gen = (u.foldSt sl t PACK_FOLD_STATE_TX_ACTIVE + 1) % 256 →
        ((u.fold (foldKey sl t)).tx.any fun e => e.key == bytes && e.usable gen) = false → (u.fold (foldKey sl t)).tx.length < foldTxSize →
        ∃ c, exec (.foldEntryWrite w sl t tx tag) s = .next (settle (((u.setFold (foldKey sl t) { u.fold (foldKey sl t) with
          tx := (u.fold (foldKey sl t)).tx ++ [{ key := bytes, tag := tag.toNat, state := 1, gen := gen }] }).winDone pg
          (foldWin (whoFw w) PACK_FOLD_CMD_RESULT) (foldWin (whoFw w) PACK_FOLD_CMD_BUSY) 0).withCtrs c)))
      ∧ (tx = false → u.foldSt sl t PACK_FOLD_STATE_PROMOTING ≠ 1 → gen = (u.foldSt sl t PACK_FOLD_STATE_RX_ACTIVE + 1) % 256 →
        ∃ c, exec (.foldEntryWrite w sl t tx tag) s = .next (settle (((u.setFold (foldKey sl t) { u.fold (foldKey sl t) with
          next := mset none (u.fold (foldKey sl t)).next tag.toNat (some { bytes := bytes, valid := valid, gen := gen }) }).winDone pg
          (foldWin (whoFw w) PACK_FOLD_CMD_RESULT) (foldWin (whoFw w) PACK_FOLD_CMD_BUSY) 0).withCtrs c)))
      ∧ (∀ e, tx = true → ((u.fold (foldKey sl t)).tx.find? fun e => e.key == bytes && e.state != 2) = some e → e.state = 1 →
        ∃ c, exec (.foldEntryRemove w sl t tx tag) s = .next (settle (((u.setFold (foldKey sl t) { u.fold (foldKey sl t) with
          tx := (u.fold (foldKey sl t)).tx.filter fun x => x != e }).winDone pg
          (foldWin (whoFw w) PACK_FOLD_CMD_RESULT) (foldWin (whoFw w) PACK_FOLD_CMD_BUSY) 0).withCtrs c)))))
  ∧ (∀ (sl : Slice) (q : Fin 128) (s : State), Admits s .host (packPage sl) 0x500 → Quiet s →
    ∃ t, exec (.packCntSel sl q) s = .next t ∧ SameBut [.regs, .ctrs] s t
      ∧ t.regs = ((s.foldRefused sl false).setFld (packPage sl) PACK_CNT_SEL_LPORT q).regs)

/-- What the fabric commands do where they act. A good prefix on an ACTIVE link removes what it acknowledges from the retry buffer and
adds its returned credits; an audit prefix evaluates the account of its class; a bad one counts and the next is hunted for. A good
cell of a taken prefix, in sequence, is counted, kept in the input buffer and forwarded; a bad one asks for a NAK; a cell without
its prefix is ignored. A valid hello is recorded, moves the link state, and raises PATH_MAX. The first new cell that has credit
leaves in a unit slot with the next LSEQ and enters the retry buffer. A silent or unacknowledged ACTIVE link fails; a retry timer
resends all; a hold-down ends. Cells and gap notices reach the destination streams, whose gaps time out and whose idle entries
leave. The windows write and read link groups, show a neighbor, and show a link's counters. -/
def Obligations.FabricCommandsComplete : Prop :=
  (∀ (p : Port) (first : Bool) (b : List Byte) (s u : State) (l : Link), s.linkState p = 3 → l = s.link p →
    (prefixGood b = true → (if first then 0 else l.hunt) < 3 →
      u = s.setLink p { l with hunt := 0, due := if byteAt b 0 % 4 = 1 then some (leAt b 1 2 % 4096) else none } →
      ((byteAt b 0).testBit 3 = false → exec (.linkPrefixReceive p b first) s = .next (settle (u.prefixApply p b)))
      ∧ (Quiet s → (byteAt b 0).testBit 3 = true → exec (.latchPrefixReceive p b first) s = .next (u.latchApply p b)
        ∧ exec (.linkPrefixReceive p b first) s = .next (u.latchApply p b)))
    ∧ (Quiet s → prefixGood b = false →
      exec (.linkPrefixReceive p b first) s = .next (if (if first then 0 else l.hunt) = 0
        then (s.setLink p { l with hunt := 1, due := none }).linkCtr p 11
        else s.setLink p { l with hunt := min 3 ((if first then 0 else l.hunt) + 1), due := none })))
  ∧ (∀ (p : Nat) (b : List Byte) (s : State) (l : Link), l = s.link p →
    ((byteAt b 0).testBit 2 = false → s.prefixApply p b = ((s.setLink p { l with
        retry := retryFrom l.retry (leAt b 3 2 % 4096)
        resend := l.resend.filter ((retryFrom l.retry (leAt b 3 2 % 4096)).map (·.lseq)).contains, lastNak := l.lastNak
        credits := addAt l.credits (leAt b 3 2 / 4096 % 8) (leAt b 5 2 % 4096) }).syncFill p))
    ∧ ((byteAt b 0).testBit 2 = true → l.lastNak ≠ some (leAt b 3 2 % 4096) → s.prefixApply p b = (((s.setLink p { l with
        retry := retryFrom l.retry (leAt b 3 2 % 4096)
        resend := (retryFrom l.retry (leAt b 3 2 % 4096)).map (·.lseq), lastNak := some (leAt b 3 2 % 4096)
        credits := addAt l.credits (leAt b 3 2 / 4096 % 8) (leAt b 5 2 % 4096) }).syncFill p).linkCtr p 4))
    ∧ s.latchApply p b = s.setLink p { l with
        audited := l.audited ++ [(leAt b 3 2 / 4096 % 8, ((l.credits.getD (leAt b 3 2 / 4096 % 8) 0 + (l.retry.filter fun x => x.cell.cls == leAt b 3 2 / 4096 % 8).length
          + leAt b 3 2 % 4096 + leAt b 5 2 % 4096 : Nat) : Int) - (l.granted.getD (leAt b 3 2 / 4096 % 8) 0 : Nat))]
        credits := addAt l.credits (leAt b 3 2 / 4096 % 8) (leAt b 5 2 % 4096) })
  ∧ (∀ (p : Port) (q : BitVec 12) (b : List Byte) (e : Bool) (s : State) (l : Link), s.linkState p = 3 → (s.link p).due = some q.toNat →
    l = { s.link p with due := none } →
    (e = true ∨ cellGood b = false →
      exec (.linkCellReceive p q b e) s = .next (settle ((s.setLink p { l with nakPending := true }).linkCtr p 6)))
    ∧ (e = false → cellGood b = true → q.toNat = l.expect →
      exec (.linkCellReceive p q b e) s = .next (settle (((s.setLink p { l with
        expect := (l.expect + 1) % 4096, nakSent := false, inBuf := addAt l.inBuf (readCell b).cls 1 }).linkCtr p 1).forwardCell (p / 32)
          { readCell b with input := some (p, l.session) }))))
  ∧ (∀ (p : Port) (q : BitVec 12) (b : List Byte) (e : Bool) (s : State), Quiet s → (s.link p).due ≠ some q.toNat →
    exec (.linkCellReceive p q b e) s = .next s)
  ∧ (∀ (p : Port) (b : List Byte) (s u v : State) (n : Neighbor), 1 ≤ s.linkState p → b.length = 288 →
    leAt b 284 4 = (crc32c (b.take 284)).toNat →
    u = (if leAt b 57 5 = 0 then s.linkCtr p 10
      else (s.linkCtr p 10).setLinkFld p FABR_LINK_RTT_RTT ((stampAge s.stamp (leAt b 57 5) - leAt b 62 4) % 2 ^ 20)) →
    n = { readHello b with rtt := u.linkFld p FABR_LINK_RTT_RTT } →
    v = ((u.neighborMeasure p (leAt b 57 5) (leAt b 62 4) n.txStamp).setLink p { u.link p with nbr := some n, seen := true, lastHello := some u.now, echo := n.txStamp, echoAt := u.now }).helloStep p n
      (leAt b 16 8 == u.moduleId && leAt b 24 4 == u.linkAddr p) →
    exec (.helloReceive p b) s = .next (settle (if v.linkState p = 2 || v.linkState p = 3 then v.hearPath n.pathMax else v)))
  ∧ (∀ (p : Port) (s u v : State) (c : Cell) (l : Link), s.linkState p = 3 → l = s.link p → l.latchDue = [] → l.resend = [] → l.helloDue = false → l.retry.length < 2048 →
    l.nextCell = some c →
    u = ((s.setLink p { l with
      txq := l.txq.erase c, nextLseq := (l.nextLseq + 1) % 4096, credits := l.credits.set c.cls (l.credits.getD c.cls 0 - 1)
      retry := l.retry ++ [{ lseq := l.nextLseq, cell := c, attempts := 1, sentAt := s.now }]
      classTurn := if c.cls < 7 then (c.cls + 1) % 7 else l.classTurn }).linkCtr p 0).syncFill p →
    v = (if ((l.txq.erase c).filter fun x => x.cls == c.cls).length < 512 then u.setWithheld ((p / 32 * 264 + p) * 8 + c.cls) false else u) →
    exec (.linkUnitSlot p) s = .next (settle ((v.makePrefix p 1 l.nextLseq).1.emit
      (.unit p (v.makePrefix p 1 l.nextLseq).2 (cellBytes (p / 32) c)))))
  ∧ (∀ (p : Port) (s : State), Quiet s → 1 ≤ s.linkState p → s.linkState p ≤ 3 → (s.link p).helloAt + s.intervalUs * 1000 ≤ s.now →
    exec (.helloSend p) s = .next (s.setLink p { s.link p with helloAt := s.now, helloDue := true }))
  ∧ (∀ (p : Port) (s : State) (t : Nat), (s.link p).lastHello = some t → t + s.deadNs ≤ s.now →
    (s.linkState p = 3 → exec (.helloDeadInterval p) s = .next (settle (s.linkOut p 4 true)))
    ∧ (Quiet s → s.linkState p = 2 → exec (.helloDeadInterval p) s = .next ((s.setLinkFld p FABR_LINK_STATE_STATE 1).setLink p { s.link p with seen := false })))
  ∧ (∀ (p : Port) (s : State) (x : Retry) (r : List Retry), s.linkState p = 3 → (s.link p).retry = x :: r →
    x.sentAt + s.linkFld p FABR_LINK_RETRY_RETRY_TIMER ≤ s.now → (s.link p).resend.contains x.lseq = false →
    (4 ≤ x.attempts → exec (.retryTimerExpire p) s = .next (settle (s.linkOut p 4 true)))
    ∧ (Quiet s → x.attempts < 4 →
      exec (.retryTimerExpire p) s = .next (s.setLink p { s.link p with resend := (s.link p).retry.map (·.lseq) })))
  ∧ (∀ (p : Port) (s : State), s.linkState p = 4 → (s.link p).holddownEnd ≤ s.now →
    exec (.holddownExpire p) s = .next (settle ((s.setLinkFld p FABR_LINK_STATE_STATE 0).linkFollow p)))
  ∧ (∀ (d : Slice) (s u : State) (c : Cell),
    (u = (s.fabRetry d).retryAll → ((u.deliver d).find? fun c => c.firstTag != noticeTag) = some c →
      exec (.fabricCellDeliver d) s = .next (settle (((u.setDeliver d ((u.deliver d).erase c)).fabCell d c).syncFab d)))
    ∧ (((s.deliver d).find? fun c => c.firstTag == noticeTag) = some c →
      exec (.gapNoticeReceive d) s = .next (settle
        ((((s.setDeliver d ((s.deliver d).erase c)).count (fabrPage 8) 0xB8).each
          ((List.range (c.validLen / 8)).map fun i => leAt c.payload (8 * i) 8) fun s x => s.noticeOne d x).syncFab d))))
  ∧ (∀ (d ss : Slice) (dev : BitVec 12) (pt : BitVec 8) (c : Cls) (s : State) (st : FabStream),
    s.dstStream (fabKey d dev.toNat ss pt.toNat c) = some st →
    (∀ h, st.lowest = some h → st.asm.decided = false → st.e ≠ some h.cell.fseq →
      h.atNs + s.fld (fabrPage 8) FABRM_RESEQ_EFF_EFF_TIMEOUT * 1000 ≤ s.now →
      exec (.fabReseqTimeout d dev ss pt c) s = .next (settle
        ((((s.fabCtr d 1).raise (fabrPage d) 4).fabSkip d (fabKey d dev.toNat ss pt.toNat c)).syncFab d)))
    ∧ (st.held = [] → st.lastArrival + s.streamIdleNs ≤ s.now →
      exec (.streamEntryIdle d dev ss pt c) s = .next (settle ((s.setDstStream (fabKey d dev.toNat ss pt.toNat c) none).syncFab d))))
  ∧ (∀ (d : Slice) (s : State), Quiet s →
    exec (.lostItemExpire d) s = .next (s.setLostItems d ((s.lostItems d).filter fun x => s.now < x.2.2 + s.streamIdleNs)))
  ∧ (∀ (sl : Slice) (k : Fin 32) (s : State), Admits s .host (fabrPage sl) 0x84 → Quiet s →
    ∃ t, exec (.linkCntSel sl k) s = .next t ∧ SameBut [.regs, .ctrs] s t
      ∧ t.regs = ((s.setFlag (fabrPage sl) FABR_FS_CFG_REFUSED false).setFld (fabrPage sl) FABR_CNT_SEL_LINK k).regs)
  ∧ (∀ (w : Who) (i : Fin 4096) (s u : State), TakesTurn s w (fabrPage 8) 0x100 → Quiet s →
    s.flag (fabrPage 8) FABRM_GRP_CMD_BUSY = false → (whoFw w = true → s.flag (fabrPage 8) FABRM_FW_FAB_EN_GROUP_WR = true) →
    u = (s.setFld (fabrPage 8) FABRM_FD_CFG_REFUSED 0).setFld (fabrPage 8) FABRM_GRP_CMD_INDEX i →
    (∃ c, exec (.linkGroupRead w i) s = .next
      (((u.winPut (fabrPage 8) 0x104 (s.tables.master.linkW i)).winDone (fabrPage 8) FABRM_GRP_CMD_RESULT FABRM_GRP_CMD_BUSY 0).withCtrs c))
    ∧ ((u.winGet (fabrPage 8) 0x104 8).foldl (fun n w => n + ones w) 0 ≤ 64 → s.tables.waiting.length ≠ 3071 →
      ∃ c, exec (.linkGroupWrite w i) s = .next
        (((u.setFld (fabrPage 8) FABRM_GRP_CMD_BUSY 1).seqPush (if whoFw w then 12 else 11) (.linkGroup i (u.winGet (fabrPage 8) 0x104 8))).withCtrs c)))
  ∧ (∀ (p : Port) (s u : State) (n : Neighbor), TakesTurn s .host (fabrPage 8) 0x140 → Quiet s →
    s.flag (fabrPage 8) FABRM_NBR_CMD_BUSY = false → (s.link p).nbr = some n →
    u = (s.setFld (fabrPage 8) FABRM_FD_CFG_REFUSED 0).setFld (fabrPage 8) FABRM_NBR_CMD_INDEX p →
    ∃ c, exec (.neighborRead p) s = .next (((u.winPut (fabrPage 8) 0x144
      [BitVec.ofNat 32 n.id, BitVec.ofNat 32 (n.id / 2 ^ 32), BitVec.ofNat 32 n.addr, BitVec.ofNat 32 (n.num + 65536 * n.retryUs)
      , BitVec.ofNat 32 n.pathMax, BitVec.ofNat 32 n.rtt]).setFld (fabrPage 8) FABRM_NBR_CMD_BUSY 0).withCtrs c))

/-- What a guarded command does where it acts. The register's page is not dark and the writer may write it; the write is counted,
REFUSED clears, the register takes its value, and then: a tripped lane that no eye locks clears its trip; a pending switch of a
lane is approved, or a lane is switched now; a plane or a stack leaves service or returns; PATH_MAX returns to LOCAL_MAX; DT and
every enabled time base move to the set time; the lease is revoked or NEXT set; the active twin of mode 1 hands over; debug
sessions are allowed or closed; the cold, warm, block and cluster resets start, an isolated target is released; the reset records
clear; the SVN floor rises. -/
def Obligations.GuardedCommandsComplete : Prop :=
  (∀ (e : Engine) (l : Lane) (s x : State) (pg k : Nat), Admits s .host (oengPage e) 0xE00 → pg = oengPage e → k = laneKey e l →
    (x = s.letIn .host pg 0xE00 (l + 0x20) → (x.lane k).lstate = 4 → (x.lane k).latched = true →
      exec (.laneClearTrip e l) s = .next (settle (s.letOut (x.onLane e l fun y => { y with latched := false, lstate := 1 }) .host pg 0xE00)))
    ∧ (x = s.letIn .host pg 0xE00 (l + 0x40) → (x.lane k).pending = true →
      exec (.laneApproveSwitch e l) s = .next (settle (s.letOut (x.startSwitch e l).1 .host pg 0xE00)))
    ∧ (x = s.letIn .host pg 0xE00 (l + 0x60) → (x.lane k).lstate ≠ 5 → (x.lane k).switching = none → (x.lane k).deferred = false →
      exec (.laneSwitchNow e l) s = .next (settle (s.letOut (x.startSwitch e l).1 .host pg 0xE00))))
  ∧ (∀ (p : Plane) (s x : State) (pg : Nat), Admits s .host (xbarPage 8) 0xE00 → pg = xbarPage 8 →
    (x = s.letIn .host pg 0xE00 (p + 4) → x.planesUp ≠ [p.val] →
      exec (.planeRemove p) s = .next (settle (s.letOut (x.planeOut p) .host pg 0xE00)))
    ∧ (x = s.letIn .host pg 0xE00 (p + 8) → x.planesUp.contains p.val = false →
      exec (.planeReturn p) s = .next (settle (s.letOut (x.onSw fun w => { w with returning := w.returning.set p true }) .host pg 0xE00))))
  ∧ (∀ (d : Stack) (s x : State) (pg : Nat), Admits s .host (deepPage 8) 0xE00 → pg = deepPage 8 →
    (x = s.letIn .host pg 0xE00 (d + 8) → x.stackIn d = true → (x.block (9 + d)).resetting = false →
      exec (.stackRemove d) s = .next (settle (s.letOut (((x.onBlock (9 + d) fun b => { b with
        guy := true, guyEnd := none, byHost := true, cause := none }).syncGuy (9 + d)).stackLeave d false) .host pg 0xE00)))
    ∧ (x = s.letIn .host pg 0xE00 (d + 16) → x.stackIn d = false → (x.block (9 + d)).resetting = false → (x.block (9 + d)).isolated = false →
      exec (.stackReturn d) s = .next (settle (s.letOut (x.blockStart (9 + d) true none) .host pg 0xE00))))
  ∧ (∀ (s x : State), Admits s .host (fabrPage 8) 0xE04 → x = s.letIn .host (fabrPage 8) 0xE04 1 →
    exec .pathMaxReset s = .next (settle (s.letOut
      ((x.setFld (fabrPage 8) FABRM_PATH_RETRY_PATH_MAX (x.fld (fabrPage 8) FABRM_PATH_RETRY_LOCAL_MAX)).syncEff) .host (fabrPage 8) 0xE04)))
  ∧ (∀ (s x : State) (t : Nat) (d : Int) (mv : Nat → Nat), Admits s .host timePage 0xE00 → x = s.letIn .host timePage 0xE00 1 →
    (x.ports.pitch.any fun e => e.2.state == 5) = false → (x.trunk.links.any fun e => x.linkState e.1 == 3) = false →
    t = ((x.fld timePage TIME_DT_SET_SEC_LO_SEC + 2 ^ 32 * x.fld timePage TIME_DT_SET_SEC_HI_SEC) * nsPerSec
      + x.fld timePage TIME_DT_SET_NS_NS) * 65536 →
    d = (t : Int) - x.time.dt → mv = (fun (n : Nat) => ((n : Int) + d).toNat) →
    exec .dtSet s = .next (settle (s.letOut ((((((x.timeRefused false).ppsBack (decide (d < 0))).onTime fun y => { y with dt := t }).each (List.range 4) fun s n =>
      if s.tbEn n then s.onTb n fun b => { b with
        t := b.t + d, lastStep := b.lastStep.map mv, lastAt := b.lastAt.map (·.map mv)
        prevOfs := b.prevOfs.map (·.map fun p => (p.1, mv p.2)) }
      else s).gateStep 4)) .host timePage 0xE00)))
  ∧ (∀ (s x : State), Admits s .host svccPage 0xE00 →
    (x = s.letIn .host svccPage 0xE00 1 →
      exec .leaseRevoke s = .next (settle (s.letOut ((x.leaseRevoke 3).setFlag svccPage SVCC_SVCC_CFG_REFUSED false) .host svccPage 0xE00)))
    ∧ (∀ n : Fin 4, x = s.letIn .host svccPage 0xE00 (2 + 4 * n) → n ≠ 3 →
      exec (.leaseSetNext n) s = .next (settle (s.letOut
        ((x.onLease fun l => { l with next := n }).setFlag svccPage SVCC_SVCC_CFG_REFUSED false) .host svccPage 0xE00))))
  ∧ (∀ (s x : State), Admits s .host twinPage 0xE00 → x = s.letIn .host twinPage 0xE00 1 → x.svc.twin.role = 1 →
    (x.twinMode = 2 → exec .twinHandOver s = .next (settle (s.letOut (x.twinGiveUp 3) .host twinPage 0xE00)))
    ∧ (∀ y, x.twinMode ≠ 2 → y = (x.twinGiveUp 2).onTwin (fun t => { t with record := x.now + x.twinLeaseNs }) →
      exec .twinHandOver s = .next (settle (s.letOut (y.emit (.twin (y.twinFrame 3))) .host twinPage 0xE00))))
  ∧ (∀ (v : Word) (s x : State), Admits s .host hostPage 0xE00 → x = s.letIn .host hostPage 0xE00 v.toNat →
    (v.getLsbD 0 = true →
      exec (.debugAllowWrite v) s = .next (settle (s.letOut (x.wrNow (regA hostPage 0xE00) (v &&& 1)) .host hostPage 0xE00)))
    ∧ (v.getLsbD 0 = false →
      exec (.debugAllowWrite v) s = .next (settle (s.letOut ((x.wrNow (regA hostPage 0xE00) (v &&& 1)).doDbgClose) .host hostPage 0xE00))))
  ∧ (∀ (w : Who) (s x : State), w = .host ∨ w = .debug → Admits s w fltcPage 0xE00 →
    (x = s.letIn w fltcPage 0xE00 1 →
      exec (.coldResetCmd w) s = .next (settle (s.letOut (x.coldReset (resetCause w)) w fltcPage 0xE00)))
    ∧ (x = s.letIn w fltcPage 0xE00 2 → x.fatal = false ∨ x.sys.power.vinReturned = false →
      exec (.warmResetCmd w) s = .next (settle (s.letOut ((x.fltcRefused false).warmReset (resetCause w)) w fltcPage 0xE00)))
    ∧ (∀ t : Fin 64, x = s.letIn w fltcPage 0xE00 (3 + 8 * t) → t.val ≤ 51 → t ≠ 49 → t ≠ 50 → (x.block t).resetting = false →
      (x.block t).isolated = false → x.islandRuns t = true →
      exec (.blockResetCmd w t) s = .next (settle (s.letOut ((x.fltcRefused false).blockStart t true none) w fltcPage 0xE00)))
    ∧ (∀ t : Fin 64, x = s.letIn w fltcPage 0xE00 (4 + 8 * t) → t = 49 ∨ t = 50 → (x.block t).resetting = false →
      (x.block t).isolated = false → x.islandRuns t = true →
      exec (.clusterResetCmd w t) s = .next (settle (s.letOut ((x.fltcRefused false).clusterReset (t - 49)) w fltcPage 0xE00)))
    ∧ (∀ t : Fin 64, x = s.letIn w fltcPage 0xE00 (5 + 8 * t) → t.val ≤ 51 → (x.block t).isolated = true →
      exec (.releaseIsolated w t) s = .next (settle (s.letOut ((x.fltcRefused false).releaseTarget t) w fltcPage 0xE00))))
  ∧ (∀ (s x : State), Admits s .host fltcPage 0xE04 →
    (x = s.letIn .host fltcPage 0xE04 1 → x.fatal = false →
      exec .recordClrFatal s = .next (settle (s.letOut ((x.each [0x88, 0x8C, 0x90] fun s o => s.wr (regA fltcPage o) 0).fltcRefused false)
        .host fltcPage 0xE04)))
    ∧ (x = s.letIn .host fltcPage 0xE04 2 →
      exec .recordClrLast s = .next (settle (s.letOut ((x.wr (regA fltcPage 0x94) 0).fltcRefused false) .host fltcPage 0xE04))))
  ∧ (∀ (n : BitVec 16) (s x : State) (k : Nat), Admits s .host nvstPage 0xE00 → x = s.letIn .host nvstPage 0xE00 n.toNat →
    x.sys.nv.svnFloor < n.toNat → x.runningSlot = some k → n.toNat ≤ (x.nvSlot k).svn →
    exec (.svnRaise n) s = .next (settle (s.letOut
      (((x.onNv fun v => { v with svnFloor := n.toNat }).setFld nvstPage NVST_SVN_STATUS_SVN_FLOOR n.toNat).nvRefused false) .host nvstPage 0xE00)))

/-- What the commands of device time and the time bases do where they act. An island's measured skew sets its lock; a lock lost is
captured and raised. The loss and the return of DT's source are raised and lowered. A read of DT_SEC_LO or TB_SEC_LO latches one
instant and returns it. An offset soon after a step is counted and discarded; another offset makes its channel OK and steers the
servo or tracks its grandmaster's rate. A time base steps by the written amount, switches channel, holds over or resets its servo.
A silent channel stops being OK; a silent active one switches or holds over. -/
def Obligations.TimeBaseCommandsComplete : Prop :=
  (∀ (i : Island) (k : BitVec 8) (f : BitVec 24) (s : State) (m : Int) (x : IslandSt), Quiet s → m = signed 8 k.toNat →
    x = { s.island i with
      skew := unsigned 8 (sat (-127) 127 m), dtLock := decide (-32 ≤ m ∧ m ≤ 32)
      free := if -32 ≤ m ∧ m ≤ 32 then none else some (((s.time.dt : Int) + m * 1024).toNat, s.now) } → i ≠ 53 → i ≠ 51 → s.islandRuns i = true → s.islandRuns 51 = true →
    ((s.island i).dtLock = false ∨ (-32 ≤ m ∧ m ≤ 32) → exec (.dtTrim i k f) s = .next (s.setIsland i x))
    ∧ ((s.island i).dtLock = true → ¬(-32 ≤ m ∧ m ≤ 32) →
      exec (.dtTrim i k f) s = .next (settle (((s.setIsland i x).islandCapture i 0).raise devcPage 0))))
  ∧ (∀ (k : BitVec 8) (f : BitVec 24) (s : State), Quiet s → 2 ≤ s.fld timePage TIME_DT_CFG_SRC → s.flag timePage TIME_DT_STATUS_SRC_OK = true →
    s.time.standby = false →
    exec (.dtTrim 51 k f) s = .next (s.setFld timePage TIME_DT_STATUS_FREQ (unsigned 24 (sat (-160000) 160000 (signed 24 f.toNat)))))
  ∧ (∀ (i : Island) (s : State), (s.island i).clkLock = true →
    exec (.clkUnlock i) s = .next (settle (((s.setIsland i { s.island i with clkLock := false }).islandCapture i 1).raise devcPage 1)))
  ∧ (∀ s : State,
    (s.dtSourceOk = false → s.flag timePage TIME_DT_STATUS_SRC_OK = true →
      exec .dtSourceLost s = .next (settle ((s.setFlag timePage TIME_DT_STATUS_SRC_OK false).raiseLive timePage 12)))
    ∧ (s.dtSourceOk = true → s.flag timePage TIME_DT_STATUS_SRC_OK = false →
      exec .dtSourceReturn s = .next (settle ((s.setFlag timePage TIME_DT_STATUS_SRC_OK true).lower timePage 12))))
  ∧ (∀ s u : State, Quiet s → s.pageDark timePage = false →
    u = s.latchTime TIME_DT_SEC_LO_SEC TIME_DT_SEC_HI_SEC TIME_DT_NS_NS TIME_DT_FRAC_FRAC s.time.dt →
    ∃ c, exec .dtLatchRead s = .next ((u.emit (.completion (u.rd (regA timePage 0x90)))).withCtrs c))
  ∧ (∀ (n : TB) (s u v : State), Quiet s → s.pageDark timePage = false →
    u = s.latchTime (tbF n TIME_TB_SEC_LO_SEC) (tbF n TIME_TB_SEC_HI_SEC) (tbF n TIME_TB_NS_NS) (tbF n TIME_TB_FRAC_FRAC) (s.tbAt n s.time.dt).toNat →
    v = (u.setFld timePage (tbF n TIME_TB_SNAP_DT_SEC_SEC) s.dtSec).setFld timePage (tbF n TIME_TB_SNAP_DT_NS_NS) s.dtSub →
    ∃ c, exec (.tbLatchRead n) s = .next ((v.emit (.completion (v.rd (regA timePage (0x214 + 0x80 * n))))).withCtrs c))
  ∧ (∀ (w : Who) (n : TB) (ch : Fin 2) (o : Word) (s u : State) (x : Int) (d : Nat), Admits s w timePage (0x230 + 0x80 * n + 4 * ch) →
    u = s.timeRefused false → x = signed 32 o.toNat → u.tbState n ≠ 0 → d = u.fld timePage (tbF n TIME_TB_STATUS_DISCARDED) →
    (∀ t, Quiet s → (u.tb n).lastStep = some t → u.time.dt < t + 2000000 * 65536 →
      ∃ c, exec (.tbOffsetWrite w n ch o) s = .next ((u.setFld timePage (tbF n TIME_TB_STATUS_DISCARDED) (if d < 255 then d + 1 else 255)).withCtrs c))
    ∧ ((∀ t, (u.tb n).lastStep = some t → t + 2000000 * 65536 ≤ u.time.dt) →
      ∃ c e, ∀ y, y = ((u.withCtrs c).setChOk n ch true).onTb n (fun b => { b with lastAt := b.lastAt.set ch (some u.time.dt) }) →
        (ch.val = y.activeCh n → (y.servo n x).2 = true → exec (.tbOffsetWrite w n ch o) s = .next (settle ((y.servo n x).1.withCtrs e)))
        ∧ (ch.val = y.activeCh n → (y.servo n x).2 = false → exec (.tbOffsetWrite w n ch o) s = .next (settle
          (((y.servo n x).1.onTb n fun b => { b with prevOfs := b.prevOfs.set ch (some (x, (y.servo n x).1.time.dt)) }).withCtrs e)))
        ∧ (ch.val ≠ y.activeCh n → exec (.tbOffsetWrite w n ch o) s = .next (settle
          (((y.trackRate n ch x).onTb n fun b => { b with prevOfs := b.prevOfs.set ch (some (x, (y.trackRate n ch x).time.dt)) }).withCtrs e)))))
  ∧ (∀ (w : Who) (n : TB) (s : State), Admits s w timePage (0x240 + 0x80 * n) → s.tbState n ≠ 0 →
    (s.tbSwitching n = false → ∃ c d, exec (.tbStep w n) s = .next (settle ((((s.withCtrs c).stepTb n
      (signed 64 (s.fld timePage (tbF n TIME_TB_STEP_LO_STEP) + 2 ^ 32 * s.fld timePage (tbF n TIME_TB_STEP_HI_STEP)) * 65536)).timeRefused false).withCtrs d)))
    ∧ (s.chOk n (1 - s.activeCh n) = true → ∃ c d, ∀ y, y = ((s.withCtrs c).switchTb n).timeRefused false →
      exec (.tbSwitchChannel w n) s = .next (settle ((if y.tbState n = 4 then y.setTbFreq n (y.tb n).i else y).withCtrs d)))
    ∧ (∃ c d, exec (.tbHoldover w n) s = .next (settle
      (((((s.withCtrs c).setTbFreq n (s.tb n).i).setTbState n 4).timeRefused false).withCtrs d)))
    ∧ (∃ c d, exec (.tbResetServo w n) s = .next (settle
      (((((s.withCtrs c).onTb n fun b => { b with i := 0, good := 0 }).setTbState n 2).timeRefused false).withCtrs d))))
  ∧ (∀ (n : TB) (ch : Fin 2) (s u : State) (t : Nat), s.chOk n ch = true → (s.tb n).lastAt.getD ch none = some t →
    t + s.fld timePage (tbF n TIME_TB_TIMEOUT_OFS_TIMEOUT) * 1000000 * 65536 ≤ s.time.dt → u = s.setChOk n ch false →
    (ch.val ≠ u.activeCh n → exec (.tbChannelTimeout n ch) s = .next (settle u))
    ∧ (ch.val = u.activeCh n → u.flag timePage (tbF n TIME_TB_CFG_AUTO_SW) = true → u.chOk n (1 - ch) = true →
      exec (.tbChannelTimeout n ch) s = .next (settle (u.switchTb n)))
    ∧ (ch.val = u.activeCh n → u.flag timePage (tbF n TIME_TB_CFG_AUTO_SW) = false → u.tbState n = 2 ∨ u.tbState n = 3 →
      exec (.tbChannelTimeout n ch) s = .next (settle ((u.setTbFreq n (u.tb n).i).setTbState n 4))))

/-- What the commands of the time pins and the loom do where they act. The PPS output rises within 2 ns of a whole second and falls
when its width has passed. An edge of the PPS input is stamped into the report ring; without an edge for 1.1 s the loss is raised.
The presence of the reference is recorded, raised and lowered. Time-of-day bytes enter their FIFOs, leave together, and are read.
One port's two arrival counters show at one instant, and a wake window closes. A loom period lays its slots out anew with whole
budgets; a slot goes to its holder, else to the lottery's winner (and one that the rings win to one ring pair); an emergency take
uses the next slot. -/
def Obligations.TimePinsAndLoomComplete : Prop :=
  (∀ (s : State) (src : Nat) (k : Int), Quiet s → src = s.fld timePage TIME_PPS_OUT_CFG_SRC → k = s.ppsNs / nsPerSec → s.fatal = false →
    s.flag timePage TIME_PPS_OUT_CFG_EN = true → (s.flag timePage TIME_PPS_OUT_CFG_SQUELCH && s.noLock src) = false →
    s.ppsNs % nsPerSec < 2 → s.time.ppsLast ≠ some k →
    exec .ppsOutEdge s = .next ((s.onTime fun t => { t with
      ppsLevel := true, ppsEnd := s.now + 1000 * s.fld timePage TIME_PPS_OUT_CFG_WIDTH, ppsLast := some k
      todDue := if s.flag timePage TIME_TOD_CFG_TX_SYNC && !s.time.todTx.isEmpty
        then some (s.now + 1000 * s.fld timePage TIME_TOD_CFG_TX_DELAY) else s.time.todDue }).emit (.pin "TIME_PPS_OUT" true)))
  ∧ (∀ s : State, Quiet s → s.time.ppsLevel = true → s.time.ppsEnd ≤ s.now →
    exec .ppsOutPulseEnd s = .next ((s.onTime fun t => { t with ppsLevel := false }).emit (.pin "TIME_PPS_OUT" false)))
  ∧ (∀ (s u v : State) (n t : Nat) (o : Int), s.timeInDead = false → s.flag timePage TIME_PPS_IN_CFG_EN = true →
    n = s.fld timePage TIME_PPS_IN_CFG_IN_TB → t = ((s.ptpNow : Int) - signed 32 (s.fld timePage TIME_PPS_IN_ADJ_ADJ) * 65536).toNat →
    u = ((s.onTime fun x => { x with ppsInAt := some s.now }).lower timePage 14) → v = u.fifoPush 2 (u.stampRecord 0 1 n t false 0) →
    (v.flag timePage TIME_PPS_IN_CFG_FEED_EN = false → exec .ppsInEdge s = .next (settle v))
    ∧ (v.flag timePage TIME_PPS_IN_CFG_FEED_EN = true → o = (v.timeIn n t + nsPerSec * 65536 / 2) % (nsPerSec * 65536) - nsPerSec * 65536 / 2 →
      exec .ppsInEdge s = .next (settle (v.doTbOffset n (v.fld timePage TIME_PPS_IN_CFG_CH) (o / 4096)))))
  ∧ (∀ (s : State) (t : Nat), s.time.ppsInAt = some t → s.flag timePage TIME_PPS_IN_CFG_EN = true → t + 1100000000 ≤ s.now →
    exec .ppsInTimeout s = .next (settle (s.raiseLive timePage 14)))
  ∧ (∀ s : State, s.timeInDead = false →
    exec .frefAbsent s = .next (settle (((s.setFlag timePage TIME_FREF_STATUS_IN_PRESENT false).setFlag timePage TIME_FREF_STATUS_IN_LOCKED false).raiseLive timePage 13))
    ∧ exec .frefPresent s = .next (settle (((s.setFlag timePage TIME_FREF_STATUS_IN_PRESENT true).setFlag timePage TIME_FREF_STATUS_IN_LOCKED
      (s.fld timePage TIME_DT_CFG_SRC == 1)).lower timePage 13)))
  ∧ (∀ (w : Who) (b : Byte) (s : State), Admits s w timePage 0x114 → Quiet s → s.time.todTx.length < 256 →
    ∃ c, exec (.todTxWrite w b) s = .next (((s.onTime fun t => { t with todTx := t.todTx ++ [b] }).timeRefused false).withCtrs c))
  ∧ (∀ s : State, s.fatal = false → s.flag timePage TIME_TOD_CFG_EN = true → s.time.todTx ≠ [] →
    s.flag timePage TIME_TOD_CFG_TX_SYNC = false ∨ (∃ t, s.time.todDue = some t ∧ t ≤ s.now) →
    exec .todTxSend s = .next (settle (s.time.todTx.foldl (fun s b => s.emit (.uart b)) (s.onTime fun t => { t with todTx := [], todDue := none }))))
  ∧ (∀ (b : Byte) (s : State), s.timeInDead = false → s.flag timePage TIME_TOD_CFG_EN = true →
    (Quiet s → s.time.todRx.length < 256 → exec (.todRxByte b) s = .next (s.onTime fun t => { t with todRx := t.todRx ++ [b] }))
    ∧ (256 ≤ s.time.todRx.length → exec (.todRxByte b) s = .next (settle ((s.onTime fun t => { t with todLost := true }).raise timePage 15))))
  ∧ (∀ (s u : State) (b : Byte) (r : List Byte), Quiet s → s.pageDark timePage = false → s.time.todRx = b :: r →
    u = ((((s.onTime fun t => { t with todRx := r, todLost := false }).setFld timePage TIME_TOD_RX_DATA b.toNat).setFlag timePage TIME_TOD_RX_EMPTY
      false).setFlag timePage TIME_TOD_RX_GAP s.time.todLost) →
    (∃ c, exec (.todRxRead .host) s = .next ((u.emit (.completion (u.rd (regA timePage 0x118)))).withCtrs c))
    ∧ (∀ (k : Cluster) (p : Pair), s.drives k = true →
      ∃ c, exec (.todRxRead (.fw k p)) s = .next ((u.emit (.coreRead k (u.rd (regA timePage 0x118)).toNat)).withCtrs c)))
  ∧ (∀ (p : Port) (s : State), Quiet s → Admits s .host timePage 0xC00 →
    ∃ c, exec (.arrSel p) s = .next (((((s.timeRefused false).setFld timePage TIME_ARR_SEL_PORT p).setCtr timePage 0xC08 (s.arrival p).1).setCtr
      timePage 0xC10 (s.arrival p).2).withCtrs c))
  ∧ (∀ (p : Port) (s : State) (d k : Nat), Quiet s → (s.gate p).wakeUntil = some (d, k) → d ≤ s.dtNs ∨ k = 0 →
    exec (.arrivalWakeWindowClose p) s = .next (s.setGate p { s.gate p with wakeUntil := none }))
  ∧ (∀ (i : Fin 19) (s y u : State) (l : Loom),
    y = s.each (if i.val < 8 then [slcePage i, schdPage i, packPage i, xbarPage i, deepPage i, fabrPage i, loomPage i] else [loomPage i])
      (fun s page => s.doPageApply page) → l = y.loomOf i →
    ((List.range 8).filter fun a => loomKindOf i a == 1 && (l.waits.getD a none).isSome && y.loomSlots i a ≤ l.used.getD a 0) = [] →
    u = y.each (List.range 8) (fun s a => s.setFld (loomPage i) (actF a LOOM_ACT_STAT_USED) (l.used.getD a 0)) →
    exec (.loomPeriodStart i) s = .next (settle (u.setLoom i { l with
      pos := 0, used := List.replicate 8 0, emergUsed := 0, layout := u.loomLayout i, lfsr := l.lfsr })))
  ∧ (∀ (i : Fin 19) (rq : BitVec 8) (s u t : State) (l : Loom) (req : Nat → Bool), l = s.loomOf i → l.pos < 1024 →
    req = (fun a => rq.getLsbD a && loomKindOf i a < 2 && !s.loomIdle i) →
    u = s.setLoom i { l with pos := l.pos + 1, lfsr := lfsr32 l.lfsr, waits := waitOn l.waits req } →
    ((∃ a, l.holder l.pos = some a ∧ a < 8 ∧ req a = true ∧ t = u.loomGrant i a)
      ∨ ((∀ a, l.holder l.pos = some a → a < 8 ∧ req a = false) ∧ ∃ b, u.lottery i l req = some b ∧ t = u.loomGrant i b)
      ∨ ((∀ a, l.holder l.pos = some a → a < 8 → req a = false ∧ u.lottery i l req = none) ∧ (l.holder l.pos = none → u.lottery i l req = none)
        ∧ t = u)) →
    (i.val = 18 → (s.loomOf 18).used.getD 1 0 < (t.loomOf 18).used.getD 1 0 → exec (.loomSlotAward i rq) s = .next (settle t.pairSlot))
    ∧ (i.val ≠ 18 ∨ (t.loomOf 18).used.getD 1 0 ≤ (s.loomOf 18).used.getD 1 0 → exec (.loomSlotAward i rq) s = .next (settle t)))
  ∧ (∀ (i : Fin 19) (s : State) (l : Loom), l = s.loomOf i → l.pos < 1024 → i.val < 16 →
    (i.val < 8 → s.host.debugOpen = true ∧ s.host.rights.testBit 2 = true ∧ l.emergUsed < s.loomSlots i 7) →
    exec (.emergencyTake i) s = .next (settle (((s.setLoom i { l with
      pos := l.pos + 1, lfsr := lfsr32 l.lfsr, emergUsed := l.emergUsed + 1
      used := if i.val < 8 then l.used.set 7 (l.used.getD 7 0 + 1) else l.used
      waits := l.waits.map fun w => w.map (· + 1) }).incFld (loomPage i) LOOM_EMERG_CNT_COUNT 1).raise (loomPage i) 1)))

/-- What the cluster and lease commands do where they act. A lockstep mismatch or an uncorrectable ECC error of a driving cluster
blocks and faults it; a corrected error counts. A self-test or a load that passes moves the cluster on, one that fails leaves it
in fault. A renewal before expiry with the right epoch sets a new expiry. A claim of a ready cluster with the lease free and the
guard past takes it with the next epoch and starts the restore. A release ends the lease and copies the last checkpoint; readiness
makes the holder active and fixes the takeover time. A lease that reached its expiry ends. The guard's end ungates each waiting
standby. A swap falls due, and its window's end revokes the lease. Reads of host-only pages by firmware fault. -/
def Obligations.ClusterFaultsAndLeaseComplete : Prop :=
  (∀ (c : Cluster) (p : Pair) (s : State), s.drives c = true →
    exec (.lockstepMismatch c p) s = .next (settle ((s.setFld svccPage (clF c SVCC_CLUSTER_STATE_PAIR) p).clusterFault c 1 (2 + c))))
  ∧ (∀ (c : Cluster) (s : State) (n : Nat), s.role c ≠ 0 → s.role c ≠ 6 →
    exec (.sramEccError c true) s = .next (settle (s.clusterFault c 2 (4 + c)))
    ∧ (n = s.fld svccPage (clF c SVCC_CLUSTER_STATE_SRAM_CORR) → exec (.sramEccError c false) s = .next (settle
      ((s.setFld svccPage (clF c SVCC_CLUSTER_STATE_SRAM_CORR) (if n < 65535 then n + 1 else n)).raise svccPage 6))))
  ∧ (∀ (c : Cluster) (s : State),
    (s.role c = 1 → (Quiet s → exec (.clusterSelftestDone c true) s = .next (s.setRole c 2))
      ∧ exec (.clusterSelftestDone c false) s = .next (settle (((s.setRole c 6).setCause c 4).raise svccPage 7)))
    ∧ (s.role c = 2 → exec (.clusterLoadDone c true) s = .next (settle (s.standbyReady c))
      ∧ exec (.clusterLoadDone c false) s = .next (settle (((s.setRole c 6).setCause c 5).raise svccPage 7))))
  ∧ (∀ (c : Cluster) (ep : BitVec 16) (s y : State), y = s.applyLeaseCfg → y.drives c = true → y.epochOk c ep.toNat = true →
    y.now < y.svc.lease.expiry →
    exec (.leaseRenew c ep) s = .next (settle (((y.onLease fun l => { l with
      expiry := y.now + y.leaseNs, renewed := y.now }).leaseResult c true).applyLeaseCfg)))
  ∧ (∀ (c : Cluster) (s y u v : State) (l : Lease), l = s.svc.lease → s.drives c = true → s.role c = 3 → (l.next = 0 ∨ l.next = c + 1) →
    s.fatal = false → s.sys.boot.bivouac = false → l.holder = none → (∀ t, l.lastEnd = some t → t + s.guardNs ≤ s.now) →
    y = s.applyLeaseCfg →
    u = ((((y.onLease fun l => { l with
      holder := some c.val, epoch := (l.epoch + 1) % 65536, expiry := y.now + y.leaseNs, since := y.now, renewed := y.now }).setRole c 4).setCause c 0).count
      svccPage 0xD8) →
    v = (if u.svc.swapDueAt.isSome && l.lastHolder != some c.val then u.count svccPage 0xE0 else u) →
    exec (.leaseClaim c) s = .next (settle ((((((((v.onSvc fun x => { x with
      swapDueAt := none, swapFrom := some v.now }).raise svccPage 0).raise svccPage 1).journalNote 3).restoreStart)).leaseResult c true).applyLeaseCfg)))
  ∧ (∀ (c : Cluster) (ep : BitVec 16) (s u : State), s.drives c = true → s.epochOk c ep.toNat = true →
    (u = ((s.leaseEnd s.now s.now).setRole c 3).onCluster c (fun x => { x with clockGated := true }) →
      (∀ i, u.bestSlot = some i → exec (.leaseRelease c ep) s = .next (settle
        (((u.nvCkptCopyStart (u.svc.slots.getD i Ckpt.empty)).leaseResult c true).applyLeaseCfg)))
      ∧ (u.bestSlot = none → exec (.leaseRelease c ep) s = .next (settle ((u.leaseResult c true).applyLeaseCfg))))
    ∧ (s.role c = 4 → u = s.setRole c 5 →
      (u.svc.lease.lastEnd = none → exec (.leaseReady c ep) s = .next (settle ((u.leaseResult c true).applyLeaseCfg)))
      ∧ (u.svc.lease.lastEnd ≠ none → exec (.leaseReady c ep) s = .next (settle
        (((u.setFld svccPage SVCC_TAKEOVER_MS_MS (min 65535 ((u.now - u.svc.lease.takeoverFrom) / 1000000))).leaseResult c true).applyLeaseCfg)))))
  ∧ (∀ (s : State) (c : Nat), s.svc.lease.holder = some c → s.svc.lease.expiry ≤ s.now →
    exec .leaseExpire s = .next (settle
      ((((s.leaseEnd s.svc.lease.expiry s.svc.lease.renewed).onSvc fun v => { v with swapDueAt := none }).setRole c 6).setCause c 3)))
  ∧ (∀ s : State, s.svc.lease.holder = none → s.svc.lease.guardOpen = false → (∀ t, s.svc.lease.lastEnd = some t → t + s.guardNs ≤ s.now) →
    exec .leaseGuardEnd s = .next (settle ((s.onLease fun l => { l with guardOpen := true }).each [0, 1] fun s c =>
      if s.role c = 3 then s.onCluster c fun x => { x with clockGated := false } else s)))
  ∧ (∀ (s : State) (c t : Nat), s.svc.lease.holder = some c →
    (s.svc.swapFrom = some t → s.fld svccPage SVCC_SWAP_CFG_PERIOD_H ≠ 0 → t + s.fld svccPage SVCC_SWAP_CFG_PERIOD_H * hourNs ≤ s.now →
      s.svc.swapDueAt = none →
      (Quiet s → s.role (1 - c) ≠ 3 → exec .swapDue s = .next (s.onSvc fun v => { v with swapFrom := none }))
      ∧ (s.role (1 - c) = 3 → exec .swapDue s = .next (settle ((s.onSvc fun v => { v with swapDueAt := some s.now }).raise svccPage 10))))
    ∧ (s.svc.swapDueAt = some t → t + 60 * nsPerSec * s.fld svccPage SVCC_SWAP_CFG_WINDOW_MIN ≤ s.now →
      exec .swapWindowExpire s = .next (settle (((((s.leaseRevoke 3).setRole c 1).setCause c 0).raise svccPage 11).count svccPage 0xE0))))
  ∧ (∀ (c : Cluster) (page : Fin 16384) (off : Fin 4096) (s : State) (i : Nat), s.drives c = true →
    pageOf page = some (.host, i) ∨ pageOf page = some (.loom, i) →
    exec (.firmwareHostPageRead c page off) s = .next (settle
      ((((s.count svccPage 0xB8).denyCapture page off 6).raise svccPage 12).emit (.coreFault c 5))))

/-- What the checkpoint commands do where they act. The holder's checkpoint command takes the marked pages and the SRAM of this
instant into the slot that is not the last committed one. A mark is set or cleared. A commit makes the checkpoint the last one,
and copies it to NV when NV_CKPT_MIN has passed. Two periods without a commit are raised. A restore gives the holder the SRAM and
the marked pages, which keep their marks. The window's reads and stores reach the byte addressed; the first store to a marked page
while a checkpoint is taken stalls the core up to 1 us; an access past the window, a gated store and one to a stack out of service
fault. -/
def Obligations.CheckpointsComplete : Prop :=
  (∀ (c : Cluster) (s : State) (slot : Nat) (x : ClusterSt) (k : Ckpt), Quiet s → s.drives c = true → s.isHolder c = true →
    s.fld svccPage SVCC_CKPT_STATUS_SLOT_LOST = 0 → s.flag svccPage SVCC_CKPT_STATUS_BUSY = false → x = s.cluster c →
    slot = (if s.flag svccPage SVCC_CKPT_STATUS_VALID then 1 - s.fld svccPage SVCC_CKPT_STATUS_SLOT else 0) →
    k = { committed := true, seq := (s.fld svccPage SVCC_CKPT_STATUS_SEQ + 1) % 2 ^ 24, epoch := s.svc.lease.epoch, pages := x.marks, sram := x.sram
          window := x.window.filter (fun b => x.marks.contains (b.1 / 4096)), mwVersion := s.sys.boot.mwVersion } →
    exec (.ckptCmd c) s = .next (((s.onSvc fun v => { v with
      ckptBusy := some (slot, k), slots := v.slots.set slot { v.slots.getD slot Ckpt.empty with committed := false } }).onCluster c
        fun x => { x with touched := [] }).setFlag svccPage SVCC_CKPT_STATUS_BUSY true))
  ∧ (∀ (c : Cluster) (page : BitVec 18) (s : State), Quiet s → s.drives c = true → s.isHolder c = true → page.toNat < 196608 →
    (page.toNat ∈ (s.cluster c).marks ∨ (s.cluster c).marks.length < 57344 →
      exec (.ckptMark c page true) s = .next ((s.onCluster c fun x => { x with marks := insNat page.toNat (s.cluster c).marks }).setFlag svccPage
        SVCC_SVCC_CFG_REFUSED false))
    ∧ exec (.ckptMark c page false) s = .next ((s.onCluster c fun x => { x with marks := (s.cluster c).marks.filter (· != page.toNat) }).setFlag
      svccPage SVCC_SVCC_CFG_REFUSED false))
  ∧ (∀ (s u : State) (slot : Nat) (k : Ckpt), s.svc.ckptBusy = some (slot, k) →
    u = (((((s.onSvc fun v => { v with slots := v.slots.set slot k, ckptBusy := none, lastCommit := s.now }).setFld svccPage
      SVCC_CKPT_STATUS_SEQ k.seq).setFld svccPage SVCC_CKPT_STATUS_SLOT slot).setFlag svccPage SVCC_CKPT_STATUS_VALID true).setFlag svccPage
      SVCC_CKPT_STATUS_BUSY false) →
    (u.sys.nv.lastCkptCopy + 60 * nsPerSec * u.fld nvstPage NVST_NV_CFG_NV_CKPT_MIN ≤ u.now → exec .ckptCommit s = .next (settle (u.nvCkptCopyStart k)))
    ∧ (u.now < u.sys.nv.lastCkptCopy + 60 * nsPerSec * u.fld nvstPage NVST_NV_CFG_NV_CKPT_MIN → exec .ckptCommit s = .next (settle u)))
  ∧ (∀ s : State, s.svc.lastCommit + 2000000 * s.fld svccPage SVCC_CKPT_CFG_PERIOD_MS ≤ s.now →
    exec .ckptStale s = .next (settle (s.raise svccPage 9)))
  ∧ (∀ (s u : State) (i c : Nat) (k : Ckpt), s.svc.restore = some i → s.svc.lease.holder = some c → k = s.svc.slots.getD i Ckpt.empty →
    u = (s.onSvc fun v => { v with restore := none }).setFlag svccPage SVCC_CKPT_STATUS_BUSY false →
    exec .checkpointRestoreDone s = .next (settle (u.onCluster c fun x => { x with
      sram := k.sram, marks := k.pages
      window := k.window.foldl (fun (w : Mem) b => if u.stackIn (b.1 / 4096 % 8) then w.set b.1 b.2 else w)
        ((u.cluster c).window.filter fun b => !k.pages.contains (b.1 / 4096)) })))
  ∧ (∀ (c : Cluster) (a : BitVec 36) (b : Byte) (s u v : State), s.drives c = true → a.toNat < 0x30000000 → s.stackIn (a.toNat / 4096 % 8) = true →
    u = s.perfHit (clusterIsland c) 0x05 1 (some 1) none none (some (a.toNat / 4096)) →
    v = u.onCluster c (fun x => { x with window := x.window.set a.toNat b }) →
    exec (.clusterWindowAccess c a none) s = .next (settle
      ((s.perfHit (clusterIsland c) 0x04 1 (some 1) none none (some (a.toNat / 4096))).emit (.coreRead c ((s.cluster c).window.get a.toNat).toNat)))
    ∧ (s.isHolder c = true → u.svc.ckptBusy = none → exec (.clusterWindowAccess c a (some b)) s = .next (settle v))
    ∧ (s.isHolder c = true → u.svc.ckptBusy ≠ none → (s.cluster c).marks.contains (a.toNat / 4096) = true →
      (s.cluster c).touched.contains (a.toNat / 4096) = false →
      exec (.clusterWindowAccess c a (some b)) s = .next (settle ((v.fresh.2.onCluster c fun x => { x with
        touched := insNat (a.toNat / 4096) x.touched }).emit (.stall c (v.fresh.1.toNat % 1001))))))

/-- What the twin commands do where they act. A good frame in native mode counts, names the peer and marks the link up; a renew is
granted or taken as a conflict, a grant moves the active role's expiry, a release starts the guard; a bad frame counts. Status and
renew frames leave. An active role that expired, or whose lease is gone in forerunner mode, is given up; a standby whose record
and guard have passed takes it; a silent link is lost; a module that has listened takes the role, listens again with PRIO 0, or
raises TWIN_HOLD_OUT. The release guard's end takes the role. The hold input and its sample decide the role, and the hold output
is released. -/
def Obligations.TwinCommandsComplete : Prop :=
  (∀ (b : List Byte) (s : State), s.twinMode = 1 → twinGood b = false → exec (.twinFrameReceive b) s = .next (settle (s.count twinPage 0xA8)))
  ∧ (∀ (b : List Byte) (s u v : State), s.twinMode = 1 → twinGood b = true →
    u = (((((s.count twinPage 0xA0).onTwin fun t => { t with linkUp := true, lastFrame := s.now, peerRole := byteAt b 9, peerId := leAt b 0 8 }).setFld
      twinPage TWIN_PEER_ID_LO_ID (leAt b 0 8)).setFld twinPage TWIN_PEER_ID_HI_ID (leAt b 0 8 / 2 ^ 32)).lower twinPage 1) →
    v = (if leAt b 16 4 ≠ u.sharedCrc then u.raise twinPage 3 else u) →
    (byteAt b 8 = 0 → exec (.twinFrameReceive b) s = .next (settle v))
    ∧ (byteAt b 8 = 1 → v.twinQuiet = false → exec (.twinFrameReceive b) s = .next (settle (v.twinRenewed (leAt b 0 8) (byteAt b 10))))
    ∧ (byteAt b 8 = 2 → v.svc.twin.role = 1 →
      exec (.twinFrameReceive b) s = .next (settle (v.onTwin fun t => { t with expiry := t.renewSentAt + v.twinLeaseNs })))
    ∧ (byteAt b 8 = 3 → v.svc.twin.role ≠ 1 →
      exec (.twinFrameReceive b) s = .next (settle (v.onTwin fun t => { t with releaseEnd := some (v.now + v.twinGuardNs) }))))
  ∧ (∀ s : State, Quiet s → s.fatal = false →
    (s.sys.power.vsb = true → s.sys.power.rails = true → s.sys.boot.bivouac = false → s.twinMode = 1 →
      onceIn 1000000 s.svc.twin.statusAt s.now = true →
      exec .twinStatusSend s = .next ((s.onTwin fun t => { t with statusAt := some s.now }).emit (.twin (s.twinFrame 0))))
    ∧ (s.twinMode = 1 → s.svc.twin.role = 1 → s.leaseHeld = true → s.twinQuiet = false →
      onceIn (1000000 * s.fld twinPage TWIN_TWIN_TIMING_RENEW_MS) s.svc.twin.renewAt s.now = true →
      exec .twinRenewSend s = .next ((s.onTwin fun t => { t with renewSentAt := s.now, renewAt := some s.now }).emit
        (.twin (s.twinFrame 1)))))
  ∧ (∀ s : State,
    (s.svc.twin.role = 1 → s.twinMode = 2 → s.leaseRecent = false → exec .twinExpiry s = .next (settle (s.twinGiveUp 3)))
    ∧ (s.svc.twin.role = 1 → s.twinMode ≠ 2 → s.svc.twin.expiry ≤ s.now → exec .twinExpiry s = .next (settle (s.twinGiveUp 3)))
    ∧ (s.twinMode = 1 → s.svc.twin.role = 2 → s.svc.twin.record + s.twinGuardNs ≤ s.now → s.leaseHeld = true → s.twinQuiet = false →
      exec .twinStandbyTakeover s = .next (settle ((s.setTwinRole 1).onTwin fun t => { t with
        expiry := s.now + s.twinLeaseNs, releaseEnd := none, renewAt := none })))
    ∧ (s.twinMode = 1 → s.svc.twin.linkUp = true → s.svc.twin.lastFrame + 3000000 ≤ s.now →
      exec .twinLinkLost s = .next (settle ((s.onTwin fun t => { t with linkUp := false }).raiseLive twinPage 1))))
  ∧ (∀ s : State, s.svc.twin.role = 3 → s.svc.twin.listenEnd ≤ s.now → s.svc.twin.holdOut = false → s.twinQuiet = false →
    (Quiet s → s.twinMode ≠ 0 → s.twinPrio = 0 → s.svc.twin.listens = 0 →
      exec .twinListenEnd s = .next (s.onTwin fun t => { t with listens := 1, listenEnd := s.now + s.twinLeaseNs + s.twinGuardNs }))
    ∧ (s.twinMode = 1 → s.twinPrio ≠ 0 ∨ s.svc.twin.listens ≠ 0 → exec .twinListenEnd s = .next (settle s.twinActive))
    ∧ (s.twinMode = 2 → s.twinPrio ≠ 0 ∨ s.svc.twin.listens ≠ 0 → s.holdMay = true →
      exec .twinListenEnd s = .next (settle ((s.setHoldOut true).onTwin fun t => { t with
        holdSampleAt := some (s.now + 1000000), holdReleaseAt := none }))))
  ∧ (∀ (s : State) (t : Nat), s.svc.twin.releaseEnd = some t → t ≤ s.now → s.twinQuiet = false →
    exec .twinReleaseGuardEnd s = .next (settle s.twinActive))
  ∧ (∀ (s u : State) (b : Bool), s.svc.twin.holdIn ≠ b →
    u = s.onTwin (fun t => { t with holdIn := b, holdLowSince := if b then none else some s.now }) →
    (u.twinMode ≠ 2 ∨ b = true → exec (.twinHoldInChange b) s = .next (settle u))
    ∧ (u.twinMode = 2 → b = false → s.svc.twin.holdOut = true → s.svc.twin.role = 3 → s.svc.twin.holdSampleAt = none →
      s.svc.twin.holdReleaseAt = none → exec (.twinHoldInChange b) s = .next (settle u.twinActive)))
  ∧ (∀ (s u : State) (t : Nat), s.svc.twin.holdSampleAt = some t → t ≤ s.now → u = s.onTwin (fun t => { t with holdSampleAt := none }) →
    (u.svc.twin.holdIn = false → exec .twinHoldSample s = .next (settle u.twinActive))
    ∧ (u.svc.twin.holdIn = true → u.twinPrio = 0 → exec .twinHoldSample s = .next (settle (u.setHoldOut false).twinListen)))
  ∧ (∀ (s : State) (t : Nat), s.svc.twin.holdReleaseAt = some t → t ≤ s.now →
    exec .twinHoldRelease s = .next (settle ((s.setHoldOut false).onTwin fun t => { t with holdReleaseAt := none })))

/-- What the service commands do where they act. The lease holder's post of an inject descriptor that is good and finds room is
queued; one that is not is counted and faults; a full queue stalls the core and holds the post until the pair's head leaves. The
frame at the head of a queue leaves once both buckets are positive, and both are charged with its size. Firmware sets a power
ceiling on a lane or all lanes of an engine. A pool command of the host or of a core pair answers in the requester's registers; a
free by the holder with the right generation releases the buffer. A punted frame waiting for a ring routed to the holder enters a
buffer of pool requester 4. Message handles enter their FIFOs and are read in order; a read of an empty one stalls, and the next
handle ends it. -/
def Obligations.ServiceCommandsComplete : Prop :=
  (∀ (c : Cluster) (p : Pair) (w3 : Word) (s u : State) (d : InjDesc), s.drives c = true → s.isHolder c = true → u = s.setClWord c p 0x12C w3 →
    d = readInj p (u.injBytes c p w3) →
    (d.mode < 2 → d.colour ≠ 3 → u.holds p d.handle = true → d.size ≤ poolSize (hPool d.handle) →
      u.fld svccPage SVCC_INJ_LIMIT_PORT_RATE ≠ 0 →
      ((u.injQ (4 * c + p)).length < 64 → exec (.injectPost c p w3) s = .next (settle ((u.setInjQ (4 * c + p) (u.injQ (4 * c + p) ++ [d])).syncDepth c p)))
      ∧ (64 ≤ (u.injQ (4 * c + p)).length → exec (.injectPost c p w3) s = .next (settle ((u.onSvc fun v => { v with
          injStalled := mset none v.injStalled (4 * c + p) (some d) }).emit (.stall c 0)))))
    ∧ (u.holds p d.handle = false → exec (.injectPost c p w3) s = .next (settle ((u.count svccPage 0xC8).emit (.coreFault c 7)))))
  ∧ (∀ (p : Pair) (s u : State) (c : Nat) (d : InjDesc) (rest : List InjDesc) (pb db : Bucket), s.svc.lease.holder = some c →
    s.injQ (4 * c + p) = d :: rest → pb = (s.portBucket (physOf d.lport)).credit s.now (s.fld svccPage SVCC_INJ_LIMIT_PORT_RATE) 65536 →
    db = s.svc.devBucket.credit s.now (s.fld svccPage SVCC_INJ_LIMIT_DEV_RATE) 262144 →
    (0 < pb.tok → 0 < db.tok →
      u = (s.setPortBucket (physOf d.lport) (pb.charge (d.size + 20))).onSvc (fun v => { v with devBucket := db.charge (d.size + 20) }) →
      exec (.injectSend p) s = .next (settle ((((u.setInjQ (4 * c + p) rest).syncDepth c p).injResume c p).injectFrame d
        (Mem.read u.svc.poolMem (handleAt d.handle) (d.size - 4)))))
    ∧ (pb.tok ≤ 0 ∨ db.tok ≤ 0 → d.throttled = false →
      u = (s.setPortBucket (physOf d.lport) pb).onSvc (fun v => { v with devBucket := db }) →
      exec (.injectSend p) s = .next (settle
        (((u.setInjQ (4 * c + p) ({ d with throttled := true } :: rest)).count svccPage 0xC0).raise svccPage 13))))
  ∧ (∀ (c : Cluster) (e : Engine) (l : Lane) (ceil : BitVec 12) (all : Bool) (s : State), s.drives c = true → s.isHolder c = true →
    exec (.laserReq c e l ceil all) s = .next (settle
      (s.each (if all then List.range 32 else [l.val]) fun s l => s.onLane e l fun x => { x with fwCeil := some ceil.toNat })))
  ∧ (∀ (req : Fin 16) (size : BitVec 14) (h : Word) (s u : State) (p i g : Nat), Quiet s → 5 ≤ req.val →
    (1 ≤ size.toNat → size.toNat ≤ 12288 → p = poolFor size.toNat → i = s.lowestFree p → i < poolCount p → g = ((s.buf (bufKey p i)).gen + 1) % 256 →
      (∀ r, s.fld poolPage (POOL_QUOTA_HELD.sh (quotaF r p)) < s.fld poolPage (POOL_QUOTA_QUOTA.sh (quotaF r p)) →
        u = ((s.setBuf (bufKey p i) { holder := some r, gen := g, transit := false }).decFld poolPage (POOL_POOL_STATE_FREE.sh (4 * p)) 1).incFld
          poolPage (POOL_QUOTA_HELD.sh (quotaF r p)) 1 →
        (r = req.val → TakesTurn s .host poolPage 0x100 →
          ∃ c, exec (.pmAllocate .host req size) s = .next ((u.pmAnswer none r size.toNat 0 (mkHandle p i g)).withCtrs c))
        ∧ (∀ (k : Cluster) (q : Pair), r = q.val → Admits s (.fw k q) poolPage 0x180 → s.drives k = true → s.isHolder k = true →
          ∃ c, exec (.pmAllocate (.fw k q) req size) s = .next ((u.pmAnswer (some (k.val, q.val)) r size.toNat 0 (mkHandle p i g)).withCtrs c))))
    ∧ (∀ r, (s.buf (bufKey (hPool h.toNat) (hIdx h.toNat))).holder = some r → (s.buf (bufKey (hPool h.toNat) (hIdx h.toNat))).gen = hGen h.toNat →
      h.toNat / 2 ^ 17 % 128 = 0 → u = s.bufRelease (hPool h.toNat) (hIdx h.toNat) →
      (r = req.val → Reaches s .host poolPage 0x100 →
        ∃ c, exec (.pmFree .host req h) s = .next ((u.pmAnswer none r 0 0 h.toNat).withCtrs c))
      ∧ (∀ (k : Cluster) (q : Pair), r = q.val → Admits s (.fw k q) poolPage 0x180 → s.drives k = true → s.isHolder k = true →
        ∃ c, exec (.pmFree (.fw k q) req h) s = .next ((u.pmAnswer (some (k.val, q.val)) r 0 0 h.toNat).withCtrs c))))
  ∧ (∀ (sl : Slice) (s u v : State) (r h : Nat) (p : Punt) (rest : List Punt),
    ((List.range 16).find? fun r => s.puntRouted r && !(s.punts (puntKey sl r)).isEmpty) = some r → s.punts (puntKey sl r) = p :: rest →
    u = ((s.setPunts (puntKey sl r) rest).puntRelease sl p).retryAll →
    (u.leaseHeld = true → u.svc.puntQ.length < 1024 → u.poolAlloc 4 p.f.bytes.length = (v, 0, h) →
      exec (.puntToCluster sl) s = .next (settle
        (v.onSvc fun x => { x with poolMem := x.poolMem.write (handleAt h) p.f.bytes, puntQ := x.puntQ ++ [h] })))
    ∧ (u.leaseHeld = false → exec (.puntToCluster sl) s = .next (settle ((u.count svccPage 0xD0).raise svccPage 14))))
  ∧ (∀ (h : Word) (s : State), Admits s .host svccPage 0x110 → Quiet s →
    (s.svc.fwReaders = [] → s.svc.toFw.length < 256 →
      ∃ c, exec (.mbToFwPost h) s = .next (((s.onSvc fun v => { v with toFw := v.toFw ++ [h.toNat] }).setFlag svccPage SVCC_SVCC_CFG_REFUSED false).withCtrs c))
    ∧ (∀ k q r, s.svc.fwReaders = (k, q) :: r →
      ∃ c, exec (.mbToFwPost h) s = .next (((((s.onSvc fun v => { v with fwReaders := r }).setFlag svccPage SVCC_SVCC_CFG_REFUSED false).setClWord k q 0x110
        (BitVec.ofNat 32 h.toNat)).emit (.coreRead k h.toNat)).withCtrs c)))
  ∧ (∀ (c : Cluster) (p : Pair) (h : Word) (s : State), Quiet s → s.drives c = true →
    (∀ x r, s.svc.toFw = x :: r →
      exec (.mbToFwRead c p) s = .next (((s.onSvc fun v => { v with toFw := r }).setClWord c p 0x110 (BitVec.ofNat 32 x)).emit (.coreRead c x)))
    ∧ (s.svc.toFw = [] → s.isHolder c = true → s.svc.fwReaders.contains (c.val, p.val) = false →
      exec (.mbToFwRead c p) s = .next ((s.onSvc fun v => { v with fwReaders := v.fwReaders ++ [(c.val, p.val)] }).emit (.stall c 0)))
    ∧ (s.isHolder c = true → s.svc.toHost.length < 256 →
      exec (.mbToHostPost c h) s = .next (s.onSvc fun v => { v with toHost := v.toHost ++ [h.toNat] })))
  ∧ (∀ s : State, Quiet s → s.pageDark svccPage = false →
    (s.svc.toHostGap = true →
      ∃ c, exec .mbToHostRead s = .next (((s.onSvc fun v => { v with toHostGap := false }).emit (.completion 0xFFFFFFFE)).withCtrs c))
    ∧ (∀ h r, s.svc.toHostGap = false → s.svc.toHost = h :: r →
      ∃ c, exec .mbToHostRead s = .next (((s.onSvc fun v => { v with toHost := r }).emit (.completion (BitVec.ofNat 32 h))).withCtrs c))
    ∧ (s.svc.toHostGap = false → s.svc.toHost = [] →
      ∃ c, exec .mbToHostRead s = .next ((s.emit (.completion 0xFFFFFFFF)).withCtrs c)))

/-- What a register write does where it is let in; the access is counted first. A configuration write that its check passes enters the
shadow with REFUSED clear; while the page holds writes it joins the held ones, or is refused with OVERFLOW when 256 are held; one
that its check stops is refused. Firmware's write changes the bits it may write. A register that acts at once acts, a header
register takes its write, a word of the MSI-X table changes. At a page's boundary the writes that are ready apply, then the window
commands that waited for them run. HOLD 1 starts a hold, HOLD 0 gives the held writes to the shadow together, DISCARD drops them.
A value of a guarded register waits 64 ns; its complement passes the guard, and a value that waits longer fails it. -/
def Obligations.RegisterWritesComplete : Prop :=
  (∀ (w : Who) (page : Fin 16384) (off : Fin 4096) (v : Word) (s x : State) (t : PageTy) (i a : Nat) (r : RegRow),
    w = .host ∨ w = .debug → Admits s w page off → pageOf page = some (t, i) → t ≠ .msixTable → t ≠ .msixPba → accessError page off = 0 →
    a = regA page off → rowOf t off = some r → x = s.taken w page off v →
    (r.kind = .cfg → 0x80 ≤ off.val → off.val < 0xF00 → wmOf a ≠ 0 →
      (x.checkWrite a v = none →
        (x.gathers w page = false → exec (.registerWrite w page off v) s = .next (settle ((x.shadowPut a v).markRefused page off false)))
        ∧ (x.gathers w page = true → (x.held page).length < 256 → exec (.registerWrite w page off v) s = .next (settle
          (((x.setHeld page (x.held page ++ [⟨a, v⟩])).setFld page HDR_HELD ((x.held page).length + 1)).markRefused page off false)))
        ∧ (x.gathers w page = true → 256 ≤ (x.held page).length → exec (.registerWrite w page off v) s = .next (settle
          (((x.markRefused page off true).setFlag page HDR_OVERFLOW true).accessHit w 3 page))))
      ∧ (∀ b n, x.checkWrite a v = some (b, n) → exec (.registerWrite w page off v) s = .next (settle (x.writeRefused w page off b n))))
    ∧ (r.kind = .now → 0x80 ≤ off.val → off.val < 0xF00 → exec (.registerWrite w page off v) s = .next (settle (x.nowWrite w t i page off v)))
    ∧ (off.val < 0x80 → off ≠ 8 → exec (.registerWrite w page off v) s = .next (settle (x.hdrWrite page off v)))
    ∧ (r.kind = .wg → 0xE00 ≤ off.val → off.val < 0xF00 →
      (x.guardOf page = none → exec (.guardValueWrite w page off v) s = .next (settle
        (x.setGuard page (some { off := off, v := v, deadline := x.now + 64 }))))
      ∧ (∀ g, x.guardOf page = some g → x.now < g.deadline → exec (.guardValueWrite w page off v) s = .next (settle
        ((x.setGuard page none).guardFailed page g.off 4))))
    ∧ (0xF00 ≤ off.val → ∀ g, x.guardOf page = some g → x.now ≤ g.deadline → 0 < g.deadline → g.off = off.val - 0x100 →
      (v = ~~~ g.v → exec (.guardComplementWrite w page off v) s = .next (settle ((x.setGuard page none).guardPassed w page g.off g.v)))
      ∧ (v ≠ ~~~ g.v → exec (.guardComplementWrite w page off v) s = .next (settle ((x.setGuard page none).guardFailed page g.off 2)))))
  ∧ (∀ (c : Cluster) (p : Pair) (page : Fin 16384) (off : Fin 4096) (v u : Word) (s x : State) (t : PageTy) (i a : Nat) (r : RegRow),
    Admits s (.fw c p) page off → pageOf page = some (t, i) → page.val ≠ svccPage → page.val ≠ poolPage → accessError page off = 0 →
    a = regA page off → rowOf t off = some r → r.kind = .cfg → 0x80 ≤ off.val → t ≠ .host → wmOf a ≠ 0 →
    u = mergeWord (fwMask page off) ((s.accessHit (.fw c p) 2 page).rdShadow a) v →
    x = s.taken (.fw c p) page off v → x.checkWrite a u = none →
    exec (.registerWrite (.fw c p) page off v) s = .next (settle ((x.shadowPut a u).markRefused page off false)))
  ∧ (∀ (off : Fin 4096) (v : Word) (s : State), Admits s .host 9 off → off.val % 4 = 0 →
    exec (.registerWrite .host 9 off v) s = .next (settle ((s.accessHit .host 2 9).msixWrite off v)))
  ∧ (∀ (page : Fin 16384) (s : State) (es : Map Word), s.pageDark page = false →
    es = (s.shadow.filter fun e => decide (e.1 / 4096 = page.val) && s.applyReady e.1) →
    (es.isEmpty = false → exec (.pageApply page) s = .next (settle (((s.applyPage page es).retryAll).runWaits page)))
    ∧ (es.isEmpty = true → exec (.pageApply page) s = .next (settle (s.runWaits page))))
  ∧ (∀ (page : Fin 16384) (s x : State) (t : PageTy) (i : Nat), s.pageDark page = false → pageOf page = some (t, i) → t ≠ .msixTable → t ≠ .msixPba →
    accessError page 8 = 0 →
    (x = s.taken .host page 8 1 →
      exec (.pageHoldSet page) s = .next (settle ((x.setFlag page HDR_HOLD true).setFlag page HDR_OVERFLOW false)))
    ∧ (x = s.taken .host page 8 0 → exec (.pageHoldRelease page) s = .next (settle
      (((x.held page).foldl (fun (s : State) (e : RegWrite) => s.shadowPut e.addr e.v) x).holdEnd page)))
    ∧ (x = s.taken .host page 8 0x800 → exec (.pageHoldDiscard page) s = .next (settle (x.holdEnd page))))
  ∧ (∀ (page : Fin 16384) (s : State) (g : Guard), s.guardOf page = some g → g.deadline ≤ s.now →
    exec (.guardLapse page) s = .next (settle ((s.setGuard page none).guardFailed page g.off 1)))

/-- What these commands do. An occurrence of a source of a page raises it; of a slice's BUF sources it also counts or captures and
discards the frame, and of MICROCODE_FAULT it stops the microcode. A clear with the source's present number clears its sticky bit
and sets LAST_OK; another number clears LAST_OK only; firmware's is denied. A wrong access is captured, counted and raises
BUS_ERROR, and a read completes with abort. On a dark page a write of a header register takes effect and any other is counted; a
read of one, of PAGE_ID or PAGE_ISLAND gives its value, and any other gives 0 and is counted. A BAR2 write within one pool stores
its bytes. A counter's low-word read answers it and latches the high word, and a peak's read answers it and starts it anew. -/
def Obligations.EventAndErrorCommandsComplete : Prop :=
  (∀ (page : Fin 16384) (src : Fin 32) (cell : Fin 262144) (frame : Nat) (s : State) (t : PageTy) (i : Nat), pageOf page = some (t, i) →
    t.sources.testBit src = true →
    (t ≠ .slce ∨ s.srcHeld page = true → t ≠ .oeng ∨ src.val ≠ 22 ∨ s.ucState i ≠ 0 →
      exec (.eventAssert page src cell frame) s = .next (settle (s.raise page src)))
    ∧ (t = .slce → s.srcHeld page = false →
      (src.val = 0 → exec (.eventAssert page src cell frame) s = .next (settle ((s.count (slcePage i) 0x90).raise page src)))
      ∧ (∀ u, u = (s.setFld (slcePage i) SLCE_BUF_CAPTURE_CELL cell).setFlag (slcePage i) SLCE_BUF_CAPTURE_VALID true → src.val = 1 →
        (u.ef frame = none → exec (.eventAssert page src cell frame) s = .next (settle (u.raise page src)))
        ∧ (∀ e, u.ef frame = some e → sliceOf e.lport = i →
          exec (.eventAssert page src cell frame) s = .next (settle (((u.breakFrame frame false).count (slcePage i) 0x98).raise page src)))))
    ∧ (t = .oeng → src.val = 22 → s.ucState i = 0 →
      exec (.eventAssert page src cell frame) s = .next (settle ((s.setUcState i 2).raise page src))))
  ∧ (∀ (w : Who) (page : Fin 16384) (src : Fin 32) (seq : Byte) (s x : State) (t : PageTy) (i : Nat), w = .host ∨ w = .debug →
    pageOf page = some (t, i) → accessError page 0x40 = 0 → x = s.accessHit w 2 page →
    (x.evtSeq page src = seq.toNat → exec (.evtClear w page src seq) s = .next (settle
      ((x.setEvtBit (evtStickyA page) src false).setFlag page HDR_LAST_OK true)))
    ∧ (x.evtSeq page src ≠ seq.toNat → exec (.evtClear w page src seq) s = .next (settle (x.setFlag page HDR_LAST_OK false))))
  ∧ (∀ (c : Cluster) (p : Pair) (page : Fin 16384) (src : Fin 32) (seq : Byte) (s : State), s.drives c = true → s.isHolder c = true →
    exec (.evtClear (.fw c p) page src seq) s = .next (settle ((s.fwDenied c page 0x40 1 7).accessHit (.fw c p) 3 page)))
  ∧ (∀ (page : Fin 16384) (off : Fin 4096) (a : Access) (s : State),
    (∀ bad, exec (.busErrorAccess page off true bad a) s = .next (settle (s.busError 0x3FFF off 4 (isWrite a))))
    ∧ exec (.busErrorAccess page off false true a) s = .next (settle (s.busError page off 3 (isWrite a)))
    ∧ (accessError page off ≠ 0 → exec (.busErrorAccess page off false false a) s = .next (settle (s.busError page off (accessError page off) (isWrite a))))
    ∧ (accessError page off = 0 → s.pageDark page = true → ∀ x y, x = s.accessHit .host 1 page → y = s.accessHit .host 2 page →
      (hdrHeld off = true ∨ off.val = 0 ∨ off.val = 4 → exec (.darkPageAccess page off .read) s = .next (settle (x.emit (.completion (x.readReg page off)))))
      ∧ (hdrHeld off = false → off.val ≠ 0 → off.val ≠ 4 →
        exec (.darkPageAccess page off .read) s = .next (settle ((x.count hostPage 0xC0).emit (.completion 0))))
      ∧ (∀ v, (hdrHeld off = true → exec (.darkPageAccess page off (.write v)) s = .next (settle ((y.countReserved page off v).hdrWrite page off v)))
        ∧ (hdrHeld off = false → exec (.darkPageAccess page off (.write v)) s = .next (settle (y.count hostPage 0xC0)))))
    ∧ (accessError page off = 0 → s.pageDark page = false → page.val ≠ timePage → page.val ≠ svccPage → (page.val ≠ hostPage ∨ off.val ≠ 0x100) → ∀ x,
      x = s.accessHit .host 1 page →
      (isCtr page off = true → exec (.counterLowRead page off) s = .next (settle ((x.latchCtr page off).emit (.completion (x.readReg page off)))))
      ∧ (isCtr page off = false → exec (.peakFieldRead page off) s = .next (settle ((x.restartPeak page off).emit (.completion (x.readReg page off)))))))
  ∧ (∀ (a : Fin 67108864) (b : List Byte) (s : State),
    (∀ p, bar2Pool a b.length = some p → exec (.bar2Write a b) s = .next (settle
      ((s.perfHit 52 0x05 (ceilDiv b.length 32) (some 0) (some 1) none none).onSvc fun v => { v with poolMem := v.poolMem.write a b })))
    ∧ (bar2Pool a b.length = none → exec (.bar2Write a b) s = .next (settle (s.busError 0x3FFF (a.val % 4096) 4 true))))

/-- What the commands of the host link do where they act. A reset of any kind returns the HOST registers but counters and captures,
drops what punt rings hold, and PERST_N also holds the link down until it is released. The link trains at a width and speed it may
have, and Bus Master, MSI-X and a vector's unmask send what was pending. A ring starts empty at the host's index and stops when EN
falls. A host index within the ring is taken, any other refused. An inject descriptor sends its frame, or is skipped with STATUS
2; a punted frame of the lowest slice takes the next posted descriptor. A read error stops the ring. The next item of a FIFO
becomes an entry of its ring, behind a gap entry where items were lost. A due coalescing time signals. -/
def Obligations.LinkAndRingCommandsComplete : Prop :=
  (∀ (k : PcieResetKind) (s : State),
    (k ≠ .perstN → exec (.pcieReset k) s = .next (settle (s.hostReset hostKept)))
    ∧ (k = .perstN → exec (.pcieReset k) s = .next (settle ((s.hostReset hostKept).onHost fun h => { h with perstLow := true })))
    ∧ exec .perstNRelease s = .next (settle (s.onHost fun h => { h with perstLow := false })))
  ∧ (∀ (width : Fin 16) (speed : Fin 8) (s : State), s.host.perstLow = false → s.islandDark 52 = false →
    width = 1 ∨ width = 2 ∨ width = 4 ∨ width = 8 → 1 ≤ speed.val → speed.val ≤ 5 →
    exec (.pcieLinkUp width speed) s = .next (settle ((((s.onHost fun h => { h with linkUp := true }).setFld hostPage
      HOST_HOST_STATUS_WIDTH width).setFld hostPage HOST_HOST_STATUS_SPEED speed).flushPba)))
  ∧ (∀ s : State, s.host.linkUp = true →
    exec .busMasterEnable s = .next (settle (((s.onHost fun h => { h with busMaster := true }).setFlag hostPage HOST_HOST_STATUS_BUS_MASTER true).flushPba))
    ∧ exec .msixEnableSet s = .next (settle ((s.onHost fun h => { h with msixEnable := true }).flushPba)))
  ∧ (∀ (v : Fin 256) (s : State),
    exec (.msixVectorUnmask v) s = .next (settle ((s.setMsixE v { s.msixE v with masked := false }).flushPba)))
  ∧ (∀ (r : Ring) (s : State) (a : Nat), a = regA hostPage (0x208 + 0x40 * r) →
    (∀ u, s.ringEn r = false → u = s.wrNow a (putBits (s.rdShadow a) 0 1 1) →
      exec (.ringEnable r) s = .next (settle ((((u.setRingFld r HOST_RING_CFG_RUNNING 1).setRingFld r HOST_RING_CFG_DMA_ERR 0).setRingFld r
        HOST_DEV_IDX_INDEX (u.hostIdx r)).setRing r dfltRing)))
    ∧ (∀ u, s.ringEn r = true → u = (s.wrNow a (putBits (s.rdShadow a) 0 1 0)).setRingFld r HOST_RING_CFG_RUNNING 0 →
      (r.val < 16 → exec (.ringDisable r) s = .next (settle (u.puntClearRing r)))
      ∧ (16 ≤ r.val → exec (.ringDisable r) s = .next (settle u))))
  ∧ (∀ (r : Ring) (v : Word) (s x : State) (a : Nat), Admits s .host hostPage (0x20C + 0x40 * r) → a = regA hostPage (0x20C + 0x40 * r) →
    x = s.taken .host hostPage (0x20C + 0x40 * r) v → x.gathers .host hostPage = false →
    (x.asWritten.hostIdxOk r ((x.asWritten.merge a v).rd a).toNat = true →
      exec (.hostIdxWrite r v) s = .next (settle ((x.shadowPut a v).markRefused hostPage (0x20C + 0x40 * r) false)))
    ∧ (x.asWritten.hostIdxOk r ((x.asWritten.merge a v).rd a).toNat = false →
      exec (.hostIdxWrite r v) s = .next (settle (x.writeRefused .host hostPage (0x20C + 0x40 * r) x.asWritten (x.asWritten.merge a v)))))
  ∧ (∀ (r : Fin 16) (desc frame : List Byte) (s : State) (d : InjDesc), s.pairGo r true = true → d = hostInj desc →
    (d.mode < 2 → d.colour ≠ 3 → d.inj.free = none → s.fld svccPage SVCC_INJ_LIMIT_PORT_RATE ≠ 0 →
      exec (.injectRingFetch r desc frame) s = .next (settle (((((s.setPairTurn r false).injectFrame d
        ((frame ++ zeros (d.size - 4 - frame.length)).take (d.size - 4)))).dmaWrite (s.descAt (16 + r) + 15) [1]).ringAdvance (16 + r) 1 false)))
    ∧ (2 ≤ d.mode ∨ d.colour = 3 ∨ d.inj.free ≠ none ∨ s.fld svccPage SVCC_INJ_LIMIT_PORT_RATE = 0 →
      exec (.injectRingFetch r desc frame) s = .next (settle (((((s.setPairTurn r false).ringDrops (16 + r))).dmaWrite
        (s.descAt (16 + r) + 15) [2]).ringAdvance (16 + r) 1 false))))
  ∧ (∀ (r : Fin 16) (desc : List Byte) (s u : State) (sl n : Nat) (p : Punt) (rest : List Punt), s.pairGo r false = true →
    ((List.range 8).find? fun sl => !(s.punts (puntKey sl r)).isEmpty) = some sl → s.punts (puntKey sl r) = p :: rest →
    u = (((s.setPairTurn r true).setPunts (puntKey sl r) rest).puntRelease sl p).retryAll → n = leAt desc 8 2 % 2 ^ 14 →
    (64 ≤ n → n ≤ 12288 → exec (.puntRingDeliver r desc) s = .next (settle
      (((u.dmaWrite (leAt desc 0 8) (p.f.bytes.take (min p.f.bytes.length n))).dmaWrite (s.descAt r + 10)
        (s.puntDesc p (min p.f.bytes.length n) (decide (n < p.f.bytes.length)) false)).ringAdvance r 1 false)))
    ∧ (n < 64 ∨ 12288 < n → exec (.puntRingDeliver r desc) s = .next (settle
      (((u.dmaWrite (leAt desc 0 8) []).dmaWrite (s.descAt r + 10) (s.puntDesc p 0 false true)).ringAdvance r 1 false))))
  ∧ (∀ (r : Ring) (s : State), r.val < 32 → s.ringRuns r = true →
    exec (.dmaReadError r) s = .next (settle (((s.setRingFld r HOST_RING_CFG_DMA_ERR 1).setRingFld r HOST_RING_CFG_RUNNING 0).raise hostPage 2)))
  ∧ (∀ (r : Ring) (s u v : State) (f typ : Nat) (b g : List Byte) (rest : List (Bool × List Byte)), ringFifo r = some (f, typ) →
    u = ((s.setFifo f { s.fifo f with items := rest }).syncFifo f).ringGapPut r →
    ((s.fifo f).items = (false, b) :: rest → s.ringFits r ((s.ringGap r ++ [b]).map entryLen) = true →
      exec (.ringRecordWrite r) s = .next (settle (u.ringEntryPut r typ b)))
    ∧ ((s.fifo f).items = (true, g) :: (false, b) :: rest → s.ringFits r ((s.ringGap r ++ [g, b]).map entryLen) = true →
      v = (u.ringEntryPut r 0xFF g).ringDrops r (leAt g 12 4) →
      exec (.ringRecordWrite r) s = .next (settle (v.ringEntryPut r typ b))))
  ∧ (∀ (r : Ring) (s : State) (t : Nat), (s.ring r).firstAt = some t → t + 1000 * s.ringFld r HOST_COAL_TIME ≤ s.now →
    exec (.ringCoalTimer r) s = .next (settle (s.ringSignal r)))

/-- What these commands do where they act. An item reaches its FIFO. A read of the event window pops the oldest item with its status,
answers EMPTY while ring 32 is enabled, and otherwise waits; a waiting read answers an item that came, or after 2 us answers EMPTY
and is counted. Freezing an island keeps the cycle count and FROZEN, releasing goes on from it, zeroing starts the eight counters
and the cycle count anew, and a dump, one a period of DT, is an item of FIFO 4. A challenge gives 32 fresh bytes and the identity;
a response that verifies opens a session, one that does not locks the port out for 1 s. An access of an open session runs with its
right. A session closes on its command, on a reset of the controller, or after 600 s idle. An instruction of the controller takes
effect. -/
def Obligations.WindowPerformanceAndDebugComplete : Prop :=
  (∀ (f : Fin 5) (item : List Byte) (s : State), exec (.notifyFifoEnqueue f item) s = .next (settle (s.fifoPush f item)))
  ∧ (∀ (s : State),
    (s.pageDark hostPage = false → ∀ x, x = s.accessHit .host 1 hostPage →
      (x.ringEn 32 = true → exec .evtWinRead s = .next (settle x.winClosed))
      ∧ (x.ringEn 32 = false → ∀ m b rest, (x.fifo 0).items = (m, b) :: rest → exec .evtWinRead s = .next (settle
        (((x.setFifo 0 { x.fifo 0 with items := rest }).syncFifo 0).winAnswer (if m then 3 else 1) b)))
      ∧ (x.ringEn 32 = false → (x.fifo 0).items = [] → exec .evtWinRead s = .next (settle (x.onHost fun h => { h with winWait := some x.now }))))
    ∧ (∀ t, s.host.winWait = some t →
      (s.ringEn 32 = true → exec .evtWinReadReturn s = .next (settle s.winClosed))
      ∧ (s.ringEn 32 = false → ∀ m b rest, (s.fifo 0).items = (m, b) :: rest → exec .evtWinReadReturn s = .next (settle
        (((s.setFifo 0 { s.fifo 0 with items := rest }).syncFifo 0).winAnswer (if m then 3 else 1) b)))
      ∧ (s.ringEn 32 = false → (s.fifo 0).items = [] → t + 2000 ≤ s.now →
        exec .evtWinReadReturn s = .next (settle ((s.winAnswer 4 []).count hostPage 0xC8)))))
  ∧ (∀ (i : Island) (s u : State) (pg : Nat), pg = perfPage i → Admits s .host pg 0x84 →
    u = (s.accessHit .host 2 pg).setFlag pg PERF_PERF_CFG_REFUSED false →
    (s.frozen i = false → exec (.perfFreeze i) s = .next (settle
      (((u.setCtr pg 0x90 (u.cycleCtr i)).setFrozen i true).setFlag pg PERF_PERF_STATUS_FROZEN true)))
    ∧ (s.frozen i = true → exec (.perfRelease i) s = .next (settle
      (((u.setPerfBase i (u.islandCycles i + 2 ^ 64 - u.ctr pg 0x90)).setFrozen i false).setFlag pg PERF_PERF_STATUS_FROZEN false)))
    ∧ exec (.perfZero i) s = .next (settle
      (((u.setPerfBase i (u.islandCycles i)).setCtr pg 0x90 0).each (List.range 8) fun s k => s.setCtr pg (0x110 + 0x20 * k) 0)))
  ∧ (∀ (i : Island) (x s : State) (k : Nat × Nat), k = (x.dtSec, x.dtSub / (1000 * x.fld (perfPage i) PERF_PERF_CFG_PERIOD)) →
    x.flag (perfPage i) PERF_PERF_CFG_DUMP_EN = true → x.islandDark i = false → mget none x.host.dumpAt i ≠ some k →
    s = x.onHost (fun h => { h with dumpAt := mset none h.dumpAt i (some k) }) →
    exec (.perfDump i) x = .next (settle (s.fifoPush 4 (timeBytes s.time.dt ++ leBytes 1 i ++
      leBytes 1 ((if (s.island i).dtLock then 0 else 1) + (if s.frozen i then 2 else 0)) ++ leBytes 8 (s.cycleCtr i) ++
      (List.range 8).flatMap fun k => leBytes 8 (s.ctr (perfPage i) (0x110 + 0x20 * k))))))
  ∧ (∀ (s u : State) (n : List Byte), s.debugAllowed = true → s.freshBytes 32 = (n, u) →
    exec .dbgChallenge s = .next (settle ((u.onHost fun h => { h with nonce := some n }).emit (.tap (n ++ u.identity)))))
  ∧ (∀ (rights : BitVec 3) (key sig n : List Byte) (s : State) (ok : Bool), s.host.nonce = some n → s.debugAllowed = true → s.host.lockout = none →
    s.host.debugOpen = false →
    ok = (s.sys.nv.calGood && (Config.sha384 key == s.sys.nv.debugKeyDigest) && Config.ecdsaVerify key (n ++ s.identity ++ leBytes 1 rights.toNat) sig) →
    exec (.dbgResponse rights key sig) s = .next (settle (if ok then (((s.onHost fun h => { h with
        nonce := none, debugOpen := true, rights := rights.toNat, debugLast := s.now }).setFlag hostPage HOST_HOST_STATUS_DEBUG_OPEN true).count
        hostPage 0xD8).raiseLive hostPage 4
      else (s.onHost fun h => { h with nonce := none, lockout := some (s.now + nsPerSec) }).count hostPage 0xD0)))
  ∧ (∀ (page : Fin 16384) (off : Fin 4096) (s u : State), s.host.debugOpen = true → s.now < s.host.debugLast + 600 * nsPerSec →
    u = s.onHost (fun h => { h with debugLast := s.now }) →
    (∀ v, s.host.rights.testBit 1 = true → exec (.dbgAccess page off (.write v)) s = .next (settle (u.doRegisterWrite .debug page off v)))
    ∧ (∀ t, s.host.rights.testBit 0 = true → t = u.anyRead .debug page off → exec (.dbgAccess page off .read) s = .next (settle
      { t with out := (t.out.take (t.out.length - u.out.length)).map toTap ++ t.out.drop (t.out.length - u.out.length) })))
  ∧ (∀ s : State,
    (s.host.debugOpen = true → exec .dbgClose s = .next (settle s.debugClose)
      ∧ exec .tapReset s = .next (settle (s.debugClose.onHost fun h => { h with tap := .idcode }))
      ∧ (s.host.debugLast + 600 * nsPerSec ≤ s.now → exec .debugIdleTimeout s = .next (settle s.debugClose)))
    ∧ (s.host.debugOpen = false → exec .tapReset s = .next (settle (s.onHost fun h => { h with tap := .idcode })))
    ∧ (∀ t, s.host.lockout = some t → t ≤ s.now → exec .debugLockoutEnd s = .next (settle (s.onHost fun h => { h with lockout := none }))))
  ∧ (∀ (i : TapInstr) (cells : List Bool) (s u : State), s.sys.power.vsb = true → (i = .extest → s.sys.power.vin = true) →
    u = s.onHost (fun h => { h with tap := i, cells := match i with | .sample | .preload | .extest => cells | _ => h.cells }) →
    (i ≠ .idcode → exec (.boundaryScanInstruction i cells) s = .next (settle u))
    ∧ (i = .idcode → exec (.boundaryScanInstruction i cells) s = .next (settle (u.emit (.tap (leBytes 4 0x22048E41))))))

/-- What these commands do where they act. A broken rail pair is captured, counted, stands apart until every pair reads valid (its
level changes are then seen), and raises RAIL_BREAK; a source of severity 3 on it is taken to assert. A sensor's reading is
stored, an engine's may raise or lower TEMP_HIGH; from 105 C THERM_WARN and its alert rise, from 115 C THERM_TRIP, and both fall
once all lie below 100 C. A resetting block that is ready leaves reset, each kind as its own: a slice with its ports, an engine
with a tested microcode, the time unit, the crossbar, a cluster to its self-test. A reload takes the source's copy. A guy window
that is over ends. At an edge of the slow clock its copies show the state. -/
def Obligations.FaultCommandsComplete : Prop :=
  (∀ (page : Fin 16384) (src : Fin 32) (s u v : State) (t : PageTy) (i : Nat), pageOf page = some (t, i) → s.host.broken.contains (page.val, src.val) = false →
    u = (((s.setFld fltcPage FLTC_RAIL_CAPTURE_PAGE page).setFld fltcPage FLTC_RAIL_CAPTURE_SOURCE src).setFlag fltcPage
      FLTC_RAIL_CAPTURE_BROKEN true).setFlag fltcPage FLTC_RAIL_CAPTURE_VALID true →
    (u.evtSev page src ≠ 3 → exec (.railBreak page src) s = .next (settle
      (((u.onHost fun h => { h with broken := h.broken ++ [(page.val, src.val)] }).count fltcPage 0xB0).raiseLive fltcPage 0)))
    ∧ (u.evtSev page src = 3 → v = ((u.count fltcPage 0xB0).raiseLive fltcPage 0).raise page src →
      exec (.railBreak page src) s = .next (settle ((v.onSys fun y => { y with
        due := y.due.map fun x => if x = (page.val, src.val, 3) then (0x3FFF, src.val, 3) else x }).onHost fun h => { h with
        broken := h.broken ++ [(page.val, src.val)] }))))
  ∧ (∀ s u : State, u = (s.onHost fun h => { h with broken := [], brokenLevel := [] }).setFlag fltcPage FLTC_RAIL_CAPTURE_BROKEN false →
    exec .railRestore s = .next (settle ((s.host.brokenLevel.foldl (fun (s : State) (e : Nat × Nat × Bool) =>
      if e.2.2 then s.raiseLive e.1 e.2.1 else s.lower e.1 e.2.1) u).lower fltcPage 0)))
  ∧ (∀ (i : Island) (temp : BitVec 8) (s w u x : State), w = s.onIsland i (fun y => { y with temp := temp.toNat }) →
    u = (if 17 ≤ i.val ∧ i.val < 49 then w.tempHigh (i - 17) temp.toNat else w) →
    (temp.toNat < 105 →
      (u.allCool = false → exec (.thermThresholdCross i temp) s = .next (settle u))
      ∧ (u.allCool = true → exec (.thermThresholdCross i temp) s = .next (settle
        (((u.lower fltcPage 3).lower fltcPage 4).onSys fun y => { y with tripPersist := false }))))
    ∧ (105 ≤ temp.toNat → temp.toNat < 115 → u.live fltcPage 3 = false → x = (u.raiseLive fltcPage 3).alertSet 0 → x.allCool = false →
      exec (.thermThresholdCross i temp) s = .next (settle x))
    ∧ (115 ≤ temp.toNat → u.live fltcPage 3 = true → u.live fltcPage 4 = false →
      x = (((u.onSys fun y => { y with tripPersist := true, power := { y.power with thermTripLow := true } }).emit (.pin "THERM_TRIP_N" false)).alertSet
        1).raiseLive fltcPage 4 → x.allCool = false →
      exec (.thermThresholdCross i temp) s = .next (settle x))
    ∧ (∀ a, 115 ≤ temp.toNat → u.live fltcPage 3 = false → a = (u.raiseLive fltcPage 3).alertSet 0 → a.live fltcPage 4 = false →
      x = (((a.onSys fun y => { y with tripPersist := true, power := { y.power with thermTripLow := true } }).emit (.pin "THERM_TRIP_N" false)).alertSet
        1).raiseLive fltcPage 4 → x.allCool = false →
      exec (.thermThresholdCross i temp) s = .next (settle x)))
  ∧ (∀ (t : Island) (s u : State) (e : Nat), (s.block t).resetting = true → s.fatal = false → (s.block t).reload = none →
    (t.val < 8 → u = ((s.blockDone t).setFlag (slcePage t) SLCE_SLCE_STATUS_READY true).raise (slcePage t) 4 →
      exec (.blockResetReady t) s = .next (settle (u.each ((List.range 128).map fun i => 128 * t + i) fun s lp => s.kick lp)))
    ∧ (t = 8 → exec (.blockResetReady t) s = .next (settle (s.blockDone t)))
    ∧ (17 ≤ t.val → t.val < 49 → e = t - 17 →
      (s.tested s.sys.boot.slot s.sys.boot.mwVersion (s.nvSlot s.sys.boot.slot).uc = true →
        exec (.blockResetReady t) s = .next (settle (((s.blockDone t).engineBoot e).engineUp e)))
      ∧ (s.tested s.sys.boot.slot s.sys.boot.mwVersion (s.nvSlot s.sys.boot.slot).uc = false →
        exec (.blockResetReady t) s = .next (settle (((s.setUcState e 3).onBoot fun b => { b with cause := 2 }).raise nvstPage 3))))
    ∧ (t = 51 → exec (.blockResetReady t) s = .next (settle ((s.onTime fun x => { x with standby := false }).blockDone t)))
    ∧ (t = 49 ∨ t = 50 → exec (.blockResetReady t) s = .next (settle ((s.blockDone t).setRole (t - 49) 1))))
  ∧ (∀ (sl : Slice) (s u : State) (n k : Nat), Quiet s → (s.block sl).reload = some n → s.reloadFrom sl = some k →
    u = (s.onBlock sl fun b => { b with reload := none }).onTables (fun t => { t with
      copies := t.copies.set sl (t.copies.getD k TblCopy.empty), copyQueue := t.copyQueue.set sl (t.copyQueue.getD k []) }) →
    exec (.sliceReloadDone sl) s = .next
      ((u.setFlag (slcePage sl) SLCE_SLCE_STATUS_RELOADING false).setFld (slcePage sl) SLCE_SLCE_STATUS_RELOAD_LEFT 0))
  ∧ (∀ (t : Island) (s : State) (a : Nat), (s.block t).guyEnd = some a → a ≤ s.now →
    exec (.guyWindowEnd t) s = .next (settle (s.reassert
      ((s.onBlock t fun b => { b with guy := false, guyEnd := none, byHost := false, cause := none }).syncGuy t))))
  ∧ (∀ (s u : State), s.sys.power.vsb = true → s.slowEdge = true →
    u = ((((s.onSys fun y => { y with slowAt := s.now }).each (List.range 54) fun s i => (s.copyIsland i).syncContains i).each (List.range 32)
      (fun s e => s.copyEngine e)).each (List.range 8) fun s d => s.copyStack d) →
    exec .slowCopyRefresh s = .next (settle (((u.setFld fltcPage FLTC_TEMP_MAX_TEMP u.hottest.1).setFld fltcPage
      FLTC_TEMP_MAX_ISLAND u.hottest.2).copyService.copyBoot)))

/-- What the steps of power-up do where they act. Standby power starts the groundsheet island afresh with DT at 0. Once mounted, a
slot that was being written is free and each lost object is counted and recorded. Main power starts a cold reset of cause 1. Rails
in regulation raise PWR_GOOD and power islands 0 to 52; the clocks then lock and DT goes on. Verification chooses a slot, or
enters bivouac mode for a request, a bad calibration area, no good slot or an untested combination. Microcode, self-tests and
Maelwick follow in order, with the NV checkpoint put into slot A, the lease claimed and the objects placed. A trial whose time is
over fails. -/
def Obligations.PowerUpCommandsComplete : Prop :=
  (∀ (s u v : State), s.sys.power.vsb = false → u = s.wipe →
    v = { u with regs := u.regs.filter fun e => !coldKept e.1, ctrs := [], time := { u.time with dt := 0, standby := true } } →
    exec .standbyPowerUp s = .next (settle (((v.onIsland 53 fun x => { x with clkLock := true }).onSys fun y => { y with
      tripPersist := false, nv := { y.nv with mounted := false, openPage := [], openAt := v.now }
      power := { System.reset.power with vsb := true, vin := y.power.vin, below6 := y.power.below6, resetNLow := y.power.resetNLow } }).showNv)))
  ∧ (∀ (lost : List (BitVec 32)) (s u : State), s.sys.power.vsb = true → s.sys.nv.mounted = false →
    u = (s.onNv fun n => { n with mounted := true }).each [0, 1] (fun s k => if (s.nvSlot k).state = 1 then s.setNvSlot k NvSlot.empty else s) →
    exec (.nvMountDone lost) s = .next (settle ((u.each ((lost.map fun x => x.toNat).filter fun i => (mget none u.sys.nv.objs i).isSome)
      fun s i => s.objectLost i).showNv)))
  ∧ (∀ s : State, s.sys.power.vsb = true → s.sys.power.vin = false → s.sys.power.below6 = true → s.sys.power.resetNLow = false →
    s.sys.nv.mounted = true → exec .mainPowerUp s = .next (settle s.powerUp))
  ∧ (∀ s : State, s.sys.power.vin = true → s.sys.power.rails = false → s.sys.power.resetNLow = false → s.sys.boot.phase = 1 →
    exec .railsInRegulation s = .next (settle ((((s.onPower fun p => { p with rails := true }).emit (.pin "PWR_GOOD" true)).alertSet 3).each
      (List.range 53) fun s i => s.onIsland i fun x => { x with power := 2 })))
  ∧ (∀ s u : State, s.sys.power.rails = true → s.sys.boot.phase = 1 → (s.island 52).rst ≠ 0 → s.sys.boot.warm = false →
    u = (((((s.each (List.range 53) fun s i => s.onIsland i fun x => { x with clkLock := true }).setRst 51 0).setRst 52 0).onIsland 51 fun x => { x with
      dtLock := true }).onTime fun t => { t with standby := false }) →
    (u.sys.tripPersist = false → exec .islandsClocked s = .next (settle u))
    ∧ (u.sys.tripPersist = true → exec .islandsClocked s = .next (settle ((u.raiseLive fltcPage 3).raiseLive fltcPage 4))))
  ∧ (∀ s u : State, s.sys.power.rails = true → s.sys.boot.phase = 1 → s.fatal = false → (s.sys.boot.warm = true ∨ (s.island 52).rst = 0) →
    u = (s.setRst 52 0).onBoot (fun b => { b with bivNext := false }) →
    (s.sys.boot.bivNext = true → exec .bootVerifyDone s = .next (settle (u.bivouacEnter 3)))
    ∧ (s.sys.boot.bivNext = false → u.sys.nv.calGood = false → exec .bootVerifyDone s = .next (settle (u.bivouacEnter 4)))
    ∧ (s.sys.boot.bivNext = false → u.sys.nv.calGood = true → exec .bootVerifyDone s = .next (settle
      (match u.chooseSlot with
      | (t, none) => (t.journalNote 2).bivouacEnter 1
      | (t, some k) =>
        if !((t.onBoot fun b => { b with slot := k }).journalNote 2).tested k (t.nvSlot k).mw
            (if s.sys.boot.warm then s.sys.boot.ucVersion else (t.nvSlot k).uc) then
          ((t.onBoot fun b => { b with slot := k }).journalNote 2).bivouacEnter 2
        else
          if s.sys.boot.warm then ((((t.onBoot fun b => { b with slot := k }).journalNote 2).onBoot fun b => { b with
            phase := if b.warm then 3 else 2, cause := 0, bivouac := false, mwVersion := (t.nvSlot k).mw }).lower nvstPage 3).coresReady
          else (((t.onBoot fun b => { b with slot := k }).journalNote 2).onBoot fun b => { b with
            phase := if b.warm then 3 else 2, cause := 0, bivouac := false, mwVersion := (t.nvSlot k).mw }).lower nvstPage 3))))
  ∧ (∀ s : State, s.sys.boot.phase = 2 →
    ((s.island 17).rst ≠ 0 → exec .microcodeLoaded s = .next (settle
      ((s.onBoot fun b => { b with ucVersion := (s.nvSlot b.slot).uc }).each (List.range 32) fun s e =>
        (s.setRst (17 + e) 0).engineBoot e)))
    ∧ (∀ u k, (s.island 17).rst = 0 → u = (s.onBoot fun b => { b with phase := 3 }).coresReady → k = u.nvBest →
      (k.committed = true → k.mwVersion = u.sys.boot.mwVersion → exec .islandsSelftestDone s = .next (settle
        ((((u.onSvc fun v => { v with slots := v.slots.set 0 k }).setFlag svccPage SVCC_CKPT_STATUS_VALID true).setFld svccPage
          SVCC_CKPT_STATUS_SLOT 0).setFld svccPage SVCC_CKPT_STATUS_SEQ k.seq)))
      ∧ (k.committed = false ∨ k.mwVersion ≠ u.sys.boot.mwVersion → exec .islandsSelftestDone s = .next (settle u))))
  ∧ (∀ (s u v : State) (b : List Byte) (n c : Nat), s.sys.boot.phase = 3 → s.fatal = false →
    u = (s.each [0, 1] fun s c => if (s.block (clusterIsland c)).isolated then s else (s.setRst (clusterIsland c) 0).standbyReady c).doLeaseGuardEnd.doLeaseClaim 0 →
    u.objectList = (b, n) → u.svc.lease.holder = some c →
    v = (if n = 0 then u.onCluster c (fun x => { x with window := x.window.write 0x2F000000 (b ++ zeros 8) })
      else (u.onCluster c fun x => { x with window := x.window.write 0x2F000000 (b ++ zeros 8) }).count nvstPage 0xD0 n) →
    exec .maelwickLoaded s = .next (settle (v.onBoot fun b => { b with
      phase := 4, warm := false
      trialEnd := if (v.nvSlot v.sys.boot.slot).state = 2 then some (v.now + nsPerSec * v.fld nvstPage NVST_BOOT_STATUS_TRIAL_S) else none })))
  ∧ (∀ (s : State) (t : Nat), s.sys.boot.trialEnd = some t → t ≤ s.now →
    exec .trialTimeout s = .next (settle (((s.onBoot fun b => { b with trialEnd := none }).setSlotState s.sys.boot.slot 5).raise nvstPage 4)))

/-- What the commands of the store do where they act. A window command whose own condition holds starts: BUSY is 1, REFUSED 0, and it
is under way; it takes its buffer's bytes at that instant. The two windows run side by side, and the oldest command is done first:
a begun slot is erased and RECEIVING, a written page stands in it, a finished image is verified, an abandoned slot is free, a
trial is confirmed and the other slot steps down, a previous image is selected; an object gets its next copy, is read into the
buffer, or is deleted, with RESULT 1 where it is absent and 2 where too few spare blocks are left; a new copy that does not read
back right is freed with RESULT 4. Diagnostics of an island start in bivouac mode and end with their result. A checkpoint copy
commits. The journal's open page is programmed, and a refresh scan erases or retires a block. -/
def Obligations.StoreCommandsComplete : Prop :=
  (∀ (k : Fin 2) (i : BitVec 16) (s : State) (go : NvCmd → State), TakesTurn s .host nvstPage 0x100 → Quiet s → (s.sys.nv.cmds.any fun d => d.obj == false) = false →
    s.sys.nv.powerFail = false → s.sys.nv.mounted = true → s.flag nvstPage NVST_UPD_CMD_BUSY = false →
    go = (fun c => ((s.onNv fun n => { n with cmds := n.cmds ++ [c] }).setFld nvstPage NVST_UPD_CMD_BUSY 1).nvRefused false) →
    (s.runningSlot ≠ some k.val → s.trialOpen = false → ∃ c, exec (.updateBegin k) s = .next ((go (updCmd 1 k 0 [])).withCtrs c))
    ∧ (∀ h, h = s.fld nvstPage NVST_UPD_HANDLE_HANDLE → (s.nvSlot k).state = 1 → i ≠ 0 → ((s.nvSlot k).pages.any fun e => e.1 == i.toNat) = false →
      s.hostBuf h = true → 2 ≤ hPool h →
      ∃ c, exec (.updateWrite k i) s = .next ((go (updCmd 2 k i.toNat (s.svc.poolMem.read (handleAt h) 4096))).withCtrs c))
    ∧ ((s.nvSlot k).state = 1 → (∃ c, exec (.updateFinish k) s = .next ((go (updCmd 3 k 0 [])).withCtrs c))
      ∧ ∃ c, exec (.updateAbandon k) s = .next ((go (updCmd 4 k 0 [])).withCtrs c))
    ∧ (∀ j, s.runningSlot = some j → (s.nvSlot j).state = 2 → ∃ c, exec .updateConfirm s = .next ((go (updCmd 5 s.sys.boot.slot 0 [])).withCtrs c))
    ∧ ((s.nvSlot k).state = 4 → ∃ c, exec (.updateSelect k) s = .next ((go (updCmd 6 k 0 [])).withCtrs c)))
  ∧ (∀ (s : State) (go : NvCmd → State) (h n : Nat), TakesTurn s .host nvstPage 0x110 → Quiet s → (s.sys.nv.cmds.any fun d => d.obj == true) = false →
    s.sys.nv.powerFail = false → s.sys.nv.mounted = true → s.flag nvstPage NVST_OBJ_CMD_BUSY = false →
    go = (fun c => ((s.onNv fun n => { n with cmds := n.cmds ++ [c] }).setFld nvstPage NVST_OBJ_CMD_BUSY 1).nvRefused false) → h = s.objHandle →
    n = s.fld nvstPage NVST_OBJ_LEN_LENGTH →
    (idGood s.objId = true → s.hostBuf h = true → n ≤ poolSize (hPool h) →
      ∃ c, exec .objectWrite s = .next ((go (objCmd 1 s.objId 0 h (s.svc.poolMem.read (handleAt h) n))).withCtrs c))
    ∧ (idGood s.objId = true ∨ s.objId = 0xFFFFFFFE → s.hostBuf h = true →
      ∃ c, exec .objectRead s = .next ((go (objCmd 2 s.objId (s.fld nvstPage NVST_OBJ_INDEX_INDEX) h [])).withCtrs c))
    ∧ (idGood s.objId = true → ∃ c, exec .objectDelete s = .next ((go (objCmd 3 s.objId 0 0 [])).withCtrs c)))
  ∧ (∀ (s : State) (v : Bool) (c : NvCmd) (rest : List NvCmd), s.sys.nv.cmds = c :: rest →
    (c.obj = false →
      (c.op = 1 → exec (.nvCommandDone v) s = .next (settle
        ((((s.nvErase.setNvSlot c.slot { NvSlot.empty with state := 1 }).journalNote 4).nvDone false 0).showNv)))
      ∧ (c.op = 2 → exec (.nvCommandDone v) s = .next (settle
        (((s.setNvSlot c.slot { s.nvSlot c.slot with pages := mset [] (s.nvSlot c.slot).pages c.idx c.data }).nvDone false 0).showNv)))
      ∧ (c.op = 3 → v = true → exec (.nvCommandDone v) s = .next (settle (s.finishDone c.slot).showNv))
      ∧ (c.op = 4 → exec (.nvCommandDone v) s = .next (settle ((((s.setNvSlot c.slot NvSlot.empty).journalNote 4).nvDone false 0).showNv)))
      ∧ (c.op = 5 → exec (.nvCommandDone v) s = .next (settle
        (((((s.each [0, 1] fun s j => if j ≠ c.slot && (s.nvSlot j).state = 3 then s.setSlotState j 4 else s).onBoot fun b => { b with
          trialEnd := none }).setSlotState c.slot 3).nvDone false 0).showNv)))
      ∧ (c.op = 6 → exec (.nvCommandDone v) s = .next (settle (((s.setSlotState c.slot 2).nvDone false 0).showNv))))
    ∧ (c.obj = true →
      (c.op = 1 → v = true → s.sys.nv.spare < 1024 → exec (.nvCommandDone v) s = .next (settle (s.nvDone true 2).showNv))
      ∧ (c.op = 1 → v = true → 1024 ≤ s.sys.nv.spare → exec (.nvCommandDone v) s = .next (settle (((s.objCommit c.id c.data false).nvDone true 0).showNv)))
      ∧ (∀ o, c.op = 2 → c.id ≠ 0xFFFFFFFE → mget none s.sys.nv.objs c.id = some o → o.deleted = false →
        exec (.nvCommandDone v) s = .next (settle (s.objAnswer c.slot o.body).showNv))
      ∧ (∀ b, c.op = 2 → c.id = 0xFFFFFFFE → s.journalPage c.idx = some b → exec (.nvCommandDone v) s = .next (settle (s.objAnswer c.slot b).showNv))
      ∧ (c.op = 2 → c.id ≠ 0xFFFFFFFE → mget none s.sys.nv.objs c.id = none → exec (.nvCommandDone v) s = .next (settle (s.nvDone true 1).showNv))
      ∧ (∀ o, c.op = 3 → v = true → mget none s.sys.nv.objs c.id = some o → o.deleted = false → 1024 ≤ s.sys.nv.spare →
        exec (.nvCommandDone v) s = .next (settle (((s.objCommit c.id [] true).nvDone true 0).showNv)))
      ∧ (c.op = 3 → v = true → mget none s.sys.nv.objs c.id = none → exec (.nvCommandDone v) s = .next (settle (s.nvDone true 1).showNv)))
    ∧ (c.obj = false → c.op = 3 → v = false → exec (.nvCommandDone v) s = .next (settle
      ((((s.setNvSlot c.slot NvSlot.empty).journalNote 4).nvDone false 4).showNv)))
    ∧ (c.obj = true → c.op ≠ 2 → v = false → exec (.nvCommandDone v) s = .next (settle (s.nvErase.nvDone true 4).showNv)))
  ∧ (∀ (i : Fin 64) (s : State), Admits s .host nvstPage 0x130 → Quiet s → s.sys.boot.bivouac = true → i.val ≤ 50 → s.sys.boot.diag = none →
    ∃ c, exec (.diagRun i) s = .next ((((((s.onBoot fun b => { b with diag := some i.val }).setRst i 0).nvRefused false).setFld nvstPage
      NVST_DIAG_STATUS_RESULT 1).setFld nvstPage NVST_DIAG_STATUS_ISLAND i).withCtrs c))
  ∧ (∀ (ok : Bool) (s : State) (i : Nat), Quiet s → s.sys.boot.diag = some i → exec (.diagDone ok) s = .next
    (((s.onBoot fun b => { b with diag := none }).setRst i 1).setFld nvstPage NVST_DIAG_STATUS_RESULT (if ok then 2 else 3)))
  ∧ (∀ (s : State) (i : Nat) (k : Ckpt), s.sys.nv.ckptCopy = some (i, k) → exec .nvCkptCopyDone s = .next (settle
    ((s.nvErase.onNv fun n => { n with ckpt := n.ckpt.set i k, ckptCopy := none }).countRaise nvstPage 0xD8 6)))
  ∧ (∀ (s u : State), s.sys.nv.powerFail = false → s.sys.nv.mounted = true → s.sys.nv.openPage ≠ [] →
    (126 ≤ s.sys.nv.openPage.length ∨ s.sys.nv.openAt + nsPerSec ≤ s.now) →
    u = s.onNv (fun n => { n with
      journal := n.openPage.take 126 :: n.journal, openPage := n.openPage.drop 126, openAt := s.now, journalSeq := n.journalSeq + 1 }) →
    (s.sys.nv.journal.length < 65536 → exec .journalPageProgram s = .next (settle u))
    ∧ (65536 ≤ s.sys.nv.journal.length → exec .journalPageProgram s = .next (settle
      (((u.onNv fun n => { n with journal := n.journal.take (n.journal.length - 64) }).nvErase).raise nvstPage 7))))
  ∧ (∀ (page : BitVec 20) (n : Nat) (old : Bool) (s u : State), s.sys.nv.powerFail = false → s.sys.nv.mounted = true →
    u = (if 40 < n then s.nvErase.countRaise nvstPage 0xC0 0 else if old then s.nvErase else s) →
    exec (.nvRefreshScan page n old false) s = .next (settle u.showNv)
    ∧ (∀ v, v = u.onNv (fun x => { x with spare := u.sys.nv.spare - 1 }) →
      (v.sys.nv.spare < 1024 → exec (.nvRefreshScan page n old true) s = .next (settle (v.raise nvstPage 2).showNv))
      ∧ (1024 ≤ v.sys.nv.spare → exec (.nvRefreshScan page n old true) s = .next (settle v.showNv))))

/-- What these commands do where they act. RESET_N low for 10 us or more resets the module cold with cause 2 and holds it; for less
than 1 us it is ignored, and between the two either may happen; its rise starts power-up. A power failure asserts POWER_FAIL, and
after the fatal path has acted the flash is protected. VIN12 below 10.8 V turns the regulators off and clears the islands; below 6
V the module waits for a new power-up; a return from between them starts the regulators again. Once a millisecond the readings of
the board are stored, the temperature from TEMP_MAX while VIN12 is on, else from the groundsheet island's own sensor. Every read
of the SMBus target answers its bytes, a write with a good PEC clears alert bits or resets cold, one without is not acknowledged,
and an alert response gives 0x4C. -/
def Obligations.SupplyAndBoardCommandsComplete : Prop :=
  (∀ (ns : Nat) (s : State), s.sys.power.vsb = true → s.sys.power.resetNLow = false →
    (ns < 1000 → exec (.resetNAssert ns) s = .next (settle s))
    ∧ (10000 ≤ ns → exec (.resetNAssert ns) s = .next (settle
      (((s.coldReset 2).onPower fun p => { p with resetNLow := true }).onBoot fun b => { b with phase := 0 })))
    ∧ (∀ u, 1000 ≤ ns → ns < 10000 → u = { s with free := s.free + 1 } → exec (.resetNAssert ns) s = .next (settle
      (if (Config.freeValue s.free).getLsbD 0 then ((u.coldReset 2).onPower fun p => { p with resetNLow := true }).onBoot fun b => { b with phase := 0 }
       else u))))
  ∧ (∀ s : State, s.sys.power.resetNLow = true → exec .resetNRelease s = .next (settle
    ((s.onPower fun p => { p with resetNLow := false }).onBoot fun b => { b with phase := if s.sys.power.vin then 1 else b.phase })))
  ∧ (∀ s : State,
    (s.sys.power.rails = true → exec (.powerFailInput .pin) s = .next (settle (settle (s.raiseLive fltcPage 5)).nvPowerFail))
    ∧ (s.sys.power.vin = false → s.sys.power.below6 = false →
      exec (.powerFailInput .vin12) s = .next (settle (settle (s.raiseLive fltcPage 5)).nvPowerFail))
    ∧ (s.sys.power.vsb = true → exec (.powerFailInput .vsb33) s = .next (settle
      ((settle (s.raiseLive fltcPage 5)).nvPowerFail.onPower fun p => { p with vsb := false })))
    ∧ (s.sys.power.vin = true → exec .vin12Low s = .next (settle
      (((s.railsOff.onPower fun p => { p with vin := false, below6 := false }).wipe).onNv fun n => { n with powerFail := s.sys.nv.powerFail })))
    ∧ (Quiet s → s.sys.power.vin = false →
      exec .vin12Off s = .next ((s.onPower fun p => { p with below6 := true }).onBoot fun b => { b with phase := 0 }))
    ∧ (Quiet s → s.sys.power.vsb = true → s.sys.power.vin = false → s.sys.power.below6 = false →
      exec .vin12Return s = .next ((s.onPower fun p => { p with vin := true, vinReturned := s.fatal }).onBoot fun b => { b with
        phase := if s.sys.power.resetNLow then 0 else 1 })))
  ∧ (∀ (temp : Byte) (i : Island) (vin cur vsb pow : BitVec 16) (s : State), Quiet s → s.sys.power.vsb = true →
    onceIn 1000000 s.sys.power.readAt s.now = true →
    (s.sys.power.vin = true → exec (.bmcReadingRefresh temp i vin cur vsb pow) s = .next (s.onPower fun p => { p with
      readAt := some s.now, temp := s.fld fltcPage FLTC_TEMP_MAX_TEMP, tempIsland := s.fld fltcPage FLTC_TEMP_MAX_ISLAND, vin12mV := vin.toNat
      vin12dA := cur.toNat, vsb33mV := vsb.toNat, powerW := pow.toNat }))
    ∧ (s.sys.power.vin = false → i = 53 → exec (.bmcReadingRefresh temp i vin cur vsb pow) s = .next (s.onPower fun p => { p with
      readAt := some s.now, temp := temp.toNat, tempIsland := 53, vin12mV := vin.toNat, vin12dA := 0, vsb33mV := vsb.toNat, powerW := 0 }))
    ∧ (s.sys.power.vin = false → i ≠ 53 → exec (.bmcReadingRefresh temp i vin cur vsb pow) s = .next s))
  ∧ (∀ (s : State) (p : Power) (say : List Byte → State), Quiet s → s.sys.power.vsb = true → p = s.sys.power → say = (fun b => s.emit (.bmc b)) →
    exec .bmcReadIdentity s = .next (say (leBytes 8 s.sys.nv.moduleId))
    ∧ exec .bmcReadDevInfo s = .next (say (leBytes 4 (s.rd (regA devcPage 0x80)).toNat))
    ∧ exec .bmcReadStatus s = .next (say (leBytes 1 ((if p.vin then 1 else 0) + (if p.rails then 2 else 0) + (if s.fatal then 4 else 0) + 8 * s.sys.boot.phase)))
    ∧ exec .bmcReadTemp s = .next (say (leBytes 2 (p.temp % 256 + 256 * (p.tempIsland % 64))))
    ∧ exec .bmcReadVin12 s = .next (say (leBytes 2 p.vin12mV))
    ∧ exec .bmcReadVin12Current s = .next (say (leBytes 2 p.vin12dA))
    ∧ exec .bmcReadVsb33 s = .next (say (leBytes 2 p.vsb33mV))
    ∧ exec .bmcReadPower s = .next (say (leBytes 2 p.powerW))
    ∧ exec .bmcReadFatal s = .next (say ([0x88, 0x8C, 0x90].flatMap fun o => leBytes 4 (s.rd (regA fltcPage o)).toNat))
    ∧ exec .bmcReadLastReset s = .next (say (leBytes 1 ((s.rd (regA fltcPage 0x94)).toNat % 128)))
    ∧ exec .bmcReadAlertStatus s = .next (say (leBytes 1 p.alert))
    ∧ (p.alert ≠ 0 → exec .smbAlertResponse s = .next (s.emit (.smbAlert 0x4C))))
  ∧ (∀ (v : Byte) (s : State) (a : Nat), Quiet s → s.sys.power.vsb = true → a = (BitVec.ofNat 8 s.sys.power.alert &&& ~~~ v).toNat →
    (a ≠ 0 → exec (.bmcClearAlertStatus v true) s = .next (s.onPower fun p => { p with alert := a }))
    ∧ (a = 0 → s.sys.power.alert ≠ 0 → exec (.bmcClearAlertStatus v true) s = .next ((s.onPower fun p => { p with alert := a }).emit
      (.pin "SMB_ALERT_N" true)))
    ∧ exec (.bmcClearAlertStatus v false) s = .next (s.emit .nack)
    ∧ (v = 0xC1 → exec (.bmcColdReset v true) s = .next (settle (s.coldReset 5)))
    ∧ (v ≠ 0xC1 → exec (.bmcColdReset v true) s = .next (s.emit .nack))
    ∧ exec (.bmcColdReset v false) s = .next (s.emit .nack))

/-- With a command at the front of the queue a step is `exec` of that command on the state whose queue is the rest; the commands run
one by one, each whole, in the order of the queue. -/
def Obligations.StepRunsFrontCommand : Prop :=
  ∀ (c : Instr) (r : List Instr) (s : State), s.pending = c :: r → step s = exec c { s with pending := r }

/-- The model's choice (log 1): with no command waiting a step is one tick of the reference oscillator. The clock moves on by one
nanosecond. While the device runs on standby power alone, DT moves by exactly 65,536 units of 2^-16 ns and nothing else changes
but the clock. In every case no register, counter, table, frame, service cluster or pin moves, and no command joins the queue. -/
def Obligations.IdleStepIsOneTick : Prop :=
  ∀ (s : State), s.pending = [] →
    ∃ t, step s = .next t ∧ t.now = s.now + 1 ∧ SameBut [.now, .time] s t
      ∧ (s.time.standby = true → t = { s with now := s.now + 1, time := { s.time with dt := s.time.dt + 65536 } })

/-- No command and no state stops the block: from every state every run of any length answers a next state at each step. Where the
spec refuses or discards a command, that is the command's effect on the state. -/
def Obligations.EveryStepAnswers : Prop := ∀ s : State, Safe s

/-- After a step the queue is what stood behind the command that ran: no command adds, drops or reorders a waiting command, a reset
included; and with none waiting none comes. -/
def Obligations.StepKeepsQueueOrder : Prop := ∀ s t : State, step s = .next t → t.pending = s.pending.tail

/-- From every state in which the host's memory as the block sees it and the buffers of the pool manager are in canonical form
(addresses strictly rising, no byte equal to what an unlisted address reads as), one step of the block, whatever the command,
leaves both in canonical form. The form itself is the model's (log 9). -/
def Obligations.StepKeepsMemoryForm : Prop := ∀ s t : State, s.memWf → step s = .next t → t.memWf

/-- From every state in which no page holds more than 256 writes, one step of the block leaves no page with more: a 257th write is
refused, firmware and guarded writes are never held, and a release, a discard or a reset only empties a buffer. -/
def Obligations.StepKeepsHoldBuffers : Prop :=
  ∀ s t : State, (∀ p, (s.held p).length ≤ 256) → step s = .next t → ∀ p, (t.held p).length ≤ 256

/-- From every state in which the five notification FIFOs hold at most 16,384 items together, gap markers apart, one step of the block
leaves them so, whatever quotas the host has written: an item that finds the pool without a free item is dropped. -/
def Obligations.StepKeepsNotificationPool : Prop := ∀ s t : State, s.fifoTotal ≤ 16384 → step s = .next t → t.fifoTotal ≤ 16384

/-- Over a run of any length, whatever the commands: the root key digest in the fuses is what it was, the security-version floor
SVN_FLOOR is no lower, and the module identity and the debug key digest of the signed calibration area are what they were. A
reset, an update, a power loss and a guarded write are among the commands. -/
def Obligations.FusesAndIdentityHold : Prop :=
  ∀ (n : Nat) (s t : State), run n s = some t →
    t.sys.nv.rootKeyDigest = s.sys.nv.rootKeyDigest ∧ s.sys.nv.svnFloor ≤ t.sys.nv.svnFloor
      ∧ t.sys.nv.moduleId = s.sys.nv.moduleId ∧ t.sys.nv.debugKeyDigest = s.sys.nv.debugKeyDigest

/-- Over a run of any length: everything that left the module before (frames, messages, pins, completions) is still the older part of
what has left it, the clock has not run back (it moves by one nanosecond at each step with no command, and at no other), and the
counter behind the free values (the model's own, log 3) has not fallen, so no two open values share a number. -/
def Obligations.OutputsAndClockOnlyGrow : Prop :=
  (∀ (n : Nat) (s t : State), run n s = some t → (∃ l, t.out = l ++ s.out) ∧ s.now ≤ t.now ∧ s.free ≤ t.free)
  ∧ (∀ s t : State, step s = .next t → t.now = if s.pending = [] then s.now + 1 else s.now)

/-- In the state at reset nothing waits and nothing has left the module. Every counter stands at 0; every sub-port is STRUCK with
MAX_FRAME 12,288 and flow control off; the tables hold their reset values and no MAC address; every crossbar queue starts with
sequence number 0; every loom LFSR holds its seed; the notification FIFOs are empty with the default quotas; nothing is held,
guarded or shadowed; no cluster holds the lease. Only the groundsheet island answers: every other island is dark until power-up
(R454). -/
def Obligations.ResetState : Prop :=
  State.reset.pending = [] ∧ State.reset.out = [] ∧ State.reset.shadow = []
  ∧ (∀ pg off, State.reset.ctr pg off = 0)
  ∧ (∀ lp : LPort, (State.reset.pitch lp).state = 0 ∧ (State.reset.mac lp).rx = [] ∧ (State.reset.mac lp).tx = none
      ∧ State.reset.maxFrame lp = 12288 ∧ State.reset.pauseMode lp = 0)
  ∧ (∀ i, State.reset.tables.master.lportW i = [0x01400100, 0] ∧ State.reset.tables.master.bdW i = [0x8E, 0, 0]
      ∧ State.reset.tables.master.macAt i = none)
  ∧ (∀ k, (State.reset.voq k).nextSeq = 0 ∧ (State.reset.voq k).waiting = [] ∧ (State.reset.stream k).e = 0)
  ∧ (∀ i, (State.reset.loomOf i).lfsr = 0x1D0C0000 + i)
  ∧ (∀ f : Fin 5, State.reset.fifo f = dfltFifo ∧ State.reset.fld hostPage (HOST_FIFO_CFG_QUOTA.sh (4 * f)) = [4096, 8192, 2048, 1024, 1024].getD f 0)
  ∧ (∀ p, State.reset.held p = [] ∧ State.reset.guardOf p = none)
  ∧ State.reset.svc.lease.holder = none
  ∧ (∀ i : Island, State.reset.islandDark i = decide (i ≠ 53))

/-- The premises of the three invariants stated of every step hold in the state at reset: the byte memories are in canonical form, no
page holds a write, and the notification FIFOs hold no item. -/
def Obligations.InvariantsHoldAtReset : Prop :=
  State.reset.memWf ∧ (∀ p, (State.reset.held p).length ≤ 256) ∧ State.reset.fifoTotal ≤ 16384

/-- A write to EVT_CLEAR by the host or the debug port with SOURCE n and SEQ s, where no severity action waits. With the present
EVT_SEQ it clears STICKY bit n, no other sticky bit, and LAST_OK reads 1; otherwise EVT_STICKY keeps its value and LAST_OK reads
0. No other register changes, and only counters beside (the access counts). So a clear with the number read before a later
assertion of the source leaves its sticky bit as that assertion left it. It succeeds whatever LIVE holds, LIVE stays, and a live
source, raised again, asserts nothing. Firmware's clear, in whatever state its cluster is (where the event of a denied access has
severity log or notify), clears no sticky bit of any page. -/
def Obligations.ClearNeedsThePresentNumber : Prop :=
  (∀ (w : Who) (page : Fin 16384) (src : Fin 32) (seq : Byte) (s : State) (t : PageTy) (i : Nat), w = .host ∨ w = .debug →
    pageOf page = some (t, i) → accessError page 0x40 = 0 → Quiet s →
    ∃ u, exec (.evtClear w page src seq) s = .next u ∧ SameBut [.regs, .ctrs] s u ∧ RegsBut [regA page 0x14, regA page 0x40] s u
      ∧ (s.evtSeq page src = seq.toNat → u.sticky page src = false ∧ (∀ n < 32, n ≠ src.val → u.sticky page n = s.sticky page n)
        ∧ u.flag page HDR_LAST_OK = true)
      ∧ (s.evtSeq page src ≠ seq.toNat → u.rd (regA page 0x14) = s.rd (regA page 0x14) ∧ u.flag page HDR_LAST_OK = false)
      ∧ (∀ r : State, s = r.raise page src → r.srcHeld page = false → r.host.broken.contains (page.val, src.val) = false →
        seq.toNat = r.evtSeq page src → u.sticky page src = s.sticky page src)
      ∧ u.live page src = s.live page src ∧ (s.live page src = true → s.host.broken.contains (page.val, src.val) = false → u.raiseLive page src = u))
  ∧ (∀ (c : Cluster) (p : Pair) (page : Fin 16384) (src : Fin 32) (seq : Byte) (s : State), Calm [(svccPage, 12)] s →
    ∃ u, exec (.evtClear (.fw c p) page src seq) s = .next u ∧ ∀ q n, n < 32 → s.sticky q n = true → u.sticky q n = true)

/-- `s` is the state `r` in which the occurrence falls, after what a slice's BUF source or MICROCODE_FAULT does to its own block. An
occurrence of a source of a page whose EVT_ENABLE bit is 0, where the source is neither masked by guy lines nor held by its
target's reset nor on a broken pair, and no severity action waits. Nothing is recorded and nothing signalled: the notification
FIFOs, the pending messages, the journal and what leaves the module stay. STICKY moves to 1, EVT_SEQ by 1, and no other register
changes. The severity action is due and is taken at the end of the command: contain for code 2, fatal for code 3; for codes 0 and
1 there is none, and the command ends there. -/
def Obligations.DisabledEventLeavesNoRecord : Prop :=
  ∀ (page : Fin 16384) (src : Fin 32) (cell : Fin 262144) (frame : Nat) (r s : State) (t : PageTy) (i : Nat),
    pageOf page = some (t, i) → t.sources.testBit src = true →
    (t ≠ .slce → t ≠ .oeng ∨ src.val ≠ 22 ∨ r.ucState i ≠ 0 → s = r) → (t = .slce → s = if r.srcHeld page then r else r.bufError i src cell frame) →
    (t = .oeng → src.val = 22 → r.ucState i = 0 → s = r.setUcState i 2) →
    Quiet s → s.srcHeld page = false → s.host.broken.contains (page.val, src.val) = false → s.guyMasked page src 0 = false → s.evtEnabled page src = false →
    ∃ u, exec (.eventAssert page src cell frame) r = .next (settle u) ∧ SameBut [.regs, .sys] s u ∧ { u.sys with due := [] } = s.sys
      ∧ RegsBut [regA page 0x14, regA page (0x20 + src.val / 4 * 4)] s u ∧ u.sticky page src = true ∧ u.evtSeq page src = (s.evtSeq page src + 1) % 256
      ∧ (∀ n < 32, n ≠ src.val → u.sticky page n = s.sticky page n)
      ∧ (s.evtSev page src ≤ 1 → settle u = u)
      ∧ (s.evtSev page src = 2 → settle u = State.settleN 256 ((u.onSys fun y => { y with due := [] }).containAct page src))
      ∧ (s.evtSev page src = 3 → settle u = State.settleN 256 ((u.onSys fun y => { y with due := [] }).fatalEnter page src))

/-- `s` is the state in which it falls, after what a BUF source or MICROCODE_FAULT does to its own block. An occurrence of a source of
a page that is neither held by its target's reset nor on a broken pair, where no severity action waits and FIFO_GAP has none. Not
masked and of severity 2, its contain action is taken, whether STICKY reads 0 or 1. Of severity 3, the fatal action is taken while
the module is not in the fatal state: from this assertion FATAL reads 1 at the start of that action; while FATAL reads 1, the
assertion takes no action (it is counted in FATALS, and nothing else follows). A masked source takes no action: its EVT_SEQ and
GUY_MASKED move, and nothing else. -/
def Obligations.ContainEveryFatalFirst : Prop :=
  ∀ (page : Fin 16384) (src : Fin 32) (cell : Fin 262144) (frame : Nat) (r s u : State) (t : PageTy) (i : Nat),
    pageOf page = some (t, i) → t.sources.testBit src = true →
    (t ≠ .slce → t ≠ .oeng ∨ src.val ≠ 22 ∨ r.ucState i ≠ 0 → s = r) → (t = .slce → s = if r.srcHeld page then r else r.bufError i src cell frame) →
    (t = .oeng → src.val = 22 → r.ucState i = 0 → s = r.setUcState i 2) →
    Quiet s → s.srcHeld page = false → s.host.broken.contains (page.val, src.val) = false → s.evtSev hostPage 3 ≤ 1 →
    u = (s.raise page src).onSys (fun y => { y with due := [] }) →
    (s.guyMasked page src 0 = false →
      (∀ b, s.sticky page src = b → s.evtSev page src = 2 → exec (.eventAssert page src cell frame) r = .next (State.settleN 256 (u.containAct page src)))
      ∧ (s.evtSev page src = 3 → s.fatal = false → exec (.eventAssert page src cell frame) r = .next (State.settleN 256 (u.fatalEnter page src))
        ∧ u.fatal = false)
      ∧ (s.evtSev page src = 3 → s.fatal = true → exec (.eventAssert page src cell frame) r = .next (u.count fltcPage 0xC0)))
    ∧ (s.guyMasked page src 0 = true → exec (.eventAssert page src cell frame) r = .next ((s.bumpSeq page src).count fltcPage 0xB8))

/-- A write by the host of a page's EVT_SEVERITY word, on a page that is dark or not. A write that gives severity 2 to a source of the
page without a contain target, or that gives THERM_TRIP or POWER_FAIL (the sources of fixed severity) another code than 3, leaves
the whole register, and every other register but FLTC_CFG, unchanged and sets SEV_REFUSED. Any other write is taken in the fields
of the page's sources and clears it. An assertion of severity 2 whose contain target is already resetting, is isolated, or does
not exist at the moment, takes no reset: its contain action counts in CONTAIN_MERGED and changes nothing else; there `s` is the
state in which it falls, after what a BUF source or MICROCODE_FAULT does to its own block. -/
def Obligations.SeverityWriteRefused : Prop :=
  (∀ (page : Fin 16384) (off : Fin 4096) (v : Word) (s : State) (t : PageTy) (i lo : Nat) (r : RegRow), Quiet s →
    (off.val = 0x48 ∧ lo = 0) ∨ (off.val = 0x4C ∧ lo = 16) → pageOf page = some (t, i) → rowOf t off = some r → accessError page off = 0 →
    ∃ u, exec (.registerWrite .host page off v) s = .next u
      ∧ ((∃ n < 16, t.sources.testBit (lo + n) = true ∧ ((getBits (v &&& BitVec.ofNat 32 r.wm) (2 * n) 2 = 2 ∧ hasTarget page (lo + n) = false)
            ∨ (page.val = fltcPage ∧ (lo + n = 4 ∨ lo + n = 5) ∧ getBits (v &&& BitVec.ofNat 32 r.wm) (2 * n) 2 ≠ 3))) →
        RegsBut [regA fltcPage FLTC_FLTC_CFG_SEV_REFUSED.off] s u ∧ u.flag fltcPage FLTC_FLTC_CFG_SEV_REFUSED = true)
      ∧ ((∀ n < 16, t.sources.testBit (lo + n) = true → (getBits (v &&& BitVec.ofNat 32 r.wm) (2 * n) 2 ≠ 2 ∨ hasTarget page (lo + n) = true)
            ∧ (page.val = fltcPage → lo + n = 4 ∨ lo + n = 5 → getBits (v &&& BitVec.ofNat 32 r.wm) (2 * n) 2 = 3)) →
        u.rd (regA page off) = v &&& BitVec.ofNat 32 r.wm ∧ u.flag fltcPage FLTC_FLTC_CFG_SEV_REFUSED = false
        ∧ RegsBut [regA page off, regA fltcPage FLTC_FLTC_CFG_SEV_REFUSED.off] s u))
  ∧ (∀ (page : Fin 16384) (src : Fin 32) (cell : Fin 262144) (frame : Nat) (r s u : State) (t : PageTy) (i : Nat),
    pageOf page = some (t, i) → t.sources.testBit src = true →
    (t ≠ .slce → t ≠ .oeng ∨ src.val ≠ 22 ∨ r.ucState i ≠ 0 → s = r) → (t = .slce → s = if r.srcHeld page then r else r.bufError i src cell frame) →
    (t = .oeng → src.val = 22 → r.ucState i = 0 → s = r.setUcState i 2) → Quiet s →
    s.srcHeld page = false → s.host.broken.contains (page.val, src.val) = false → s.guyMasked page src 0 = false → s.evtSev hostPage 3 ≤ 1 →
    s.evtSev page src = 2 → u = (s.raise page src).onSys (fun y => { y with due := [] }) →
    (u.containTarget page src = none → exec (.eventAssert page src cell frame) r = .next (u.count fltcPage 0xA8))
    ∧ (∀ k, u.containTarget page src = some k → (u.block k).resetting = true ∨ (u.block k).isolated = true ∨ u.islandRuns k = false →
      exec (.eventAssert page src cell frame) r = .next (u.count fltcPage 0xA8)))

/-- Counter i of sub-port m of a physical port's PORT page, at 0x200 + 0x280 m + 8 i, where no severity action waits and the page is
not dark. The host's read of the low word returns the counter's low 32 bits and latches its bits from 32 on. In any later state in
which that latch stands, whatever the counter holds by then, the host's read of the high word at +4 (a read through the row that
reads any register) returns the latched value; of a 48-bit counter its bits [31:16], which are reserved, read 0. -/
def Obligations.CounterHighWordLatched : Prop :=
  ∀ (p : Port) (m : Fin 4) (i : Fin 80) (page : Fin 16384) (lo hi : Fin 4096) (s : State), page.val = portPage p →
    lo.val = 0x200 + 0x280 * m.val + 8 * i.val → hi.val = lo.val + 4 → Quiet s → s.pageDark page = false →
    ∃ u, exec (.counterLowRead page lo) s = .next u ∧ u.out = .completion (BitVec.ofNat 32 (s.ctr page lo)) :: s.out
      ∧ u.ctr page lo = s.ctr page lo
      ∧ ∀ x : State, Quiet x → x.pageDark page = false → mget 0 x.latch (regA page hi) = mget 0 u.latch (regA page hi) →
        ∃ y v, exec (.peakFieldRead page hi) x = .next y ∧ y.out = .completion v :: x.out ∧ v = BitVec.ofNat 32 (s.ctr page lo / 2 ^ 32)
          ∧ (s.ctr page lo < 2 ^ 48 → v.toNat < 2 ^ 16)

/-- A register write by the firmware of a running cluster, to a register that exists. While the cluster does not hold the lease, and
the write is not one of LEASE_OP, it gives the core a store access fault (code 7), adds 1 to LEASE_GATED and fills DENY_CAPTURE;
no other register, no other counter and no other part of the state changes. While the cluster holds the lease but firmware may not
write that register (a header or host-only register, a guarded one, one whose enable is 0), no register changes but DENY_CAPTURE
and those that the event FIRMWARE_DENIED moves, and nothing else but counters, the host side (notifications and messages), the
journal and the core's fault; here that event and FIFO_GAP have severity log or notify. The cause a denial of the lease records
(3) is the model's reading (log 81). -/
def Obligations.FirmwareWithoutRightWritesNothing : Prop :=
  ∀ (c : Cluster) (p : Pair) (page : Fin 16384) (off : Fin 4096) (v : Word) (s : State), s.drives c = true → accessError page off = 0 →
    (s.isHolder c = false → ¬ (page.val = svccPage ∧ off.val = 0x100) → Quiet s →
      ∃ u, exec (.registerWrite (.fw c p) page off v) s = .next u ∧ SameBut [.regs, .ctrs, .out] s u
        ∧ RegsBut [regA svccPage SVCC_DENY_CAPTURE_PAGE.off] s u ∧ u.out = .coreFault c 7 :: s.out
        ∧ u.ctr svccPage 0xB0 = (s.ctr svccPage 0xB0 + 1) % 2 ^ 64
        ∧ (∀ q o, regA q o ≠ regA svccPage 0xB0 → u.ctr q o = s.ctr q o))
    ∧ (s.isHolder c = true → s.fwCause page off ≠ 0 → Calm [(svccPage, 12)] s →
      ∃ u, exec (.registerWrite (.fw c p) page off v) s = .next u ∧ SameBut [.regs, .ctrs, .out, .host, .sys] s u
        ∧ RegsBut (regA svccPage SVCC_DENY_CAPTURE_PAGE.off :: raiseRegs svccPage) s u ∧ u.sys.due = [])

/-- For every operand and every state, each of these commands answers a next state, the state its effect gives with the severity
actions that became due taken (`settle`, R418). Of the commands that stand for a register access: one that writes a guarded
register answers the state the guarded register gives (`guardPassed`, R389), where the write is let in (`Admits`). Commands:
FRAME_RECEIVE_START, RULE_LOOKUP, FRAME_RECEIVE_END, MAC_CONTROL_RECEIVE, PAUSE_EXPIRE, PFC_REFRESH, PAUSE_WATCHDOG_EXPIRE,
PAUSE_RECOVERY_END, VERIFY_TIMER, VERIFY_RESPOND_RECEIVE, VERIFY_RECEIVE, PARKED_FRAME_RECEIVE, LIGHT_APPEAR,
UNCORRECTABLE_CODEWORD, SER_WINDOW_RESTART, PITCH_BIAS_DONE, PITCH_BIAS_TIMEOUT, PITCH_EQUALISE_DONE, PITCH_EQUALISE_TIMEOUT,
LOSS_OF_LIGHT, PITCH_FEC_LOCK_DONE, PITCH_FEC_LOCK_TIMEOUT, PITCH_AM_LOCK_DONE, PITCH_AM_LOCK_TIMEOUT, ALIGNMENT_LOCK_LOSS,
BACKOFF_END, HOLD_TIMER_EXPIRE, PARK_APPLY, LASER_SAMPLE, SPARE_POWER_READY, SPARE_SWITCH_COMPLETE, WEAR_RECORD_WRITE,
EYE_LIMIT_TRIP, LANE_CLEAR_TRIP, LANE_APPROVE_SWITCH, LANE_SWITCH_NOW, CAL_INTERPOLATE, COUNTER_HARVEST. -/
def Obligations.EveryPortCommandCompletes : Prop :=
  (∀ (lp : LPort) (bytes : List Byte) (src : RxSrc) (s : State), exec (.frameReceiveStart lp bytes src) s = .next (settle (s.doFrameReceiveStart lp src.code bytes)))
  ∧ (∀ (lp : LPort) (src : RxSrc) (s : State), exec (.ruleLookup lp src) s = .next (settle (s.doRuleLookup lp src.code)))
  ∧ (∀ (lp : LPort) (e : RxEnd) (src : RxSrc) (s : State), exec (.frameReceiveEnd lp e src) s = .next (settle (s.doFrameReceiveEnd lp src.code e)))
  ∧ (∀ (lp : LPort) (bytes : List Byte) (s : State), exec (.macControlReceive lp bytes) s = .next (settle (s.doMacControlReceive lp bytes)))
  ∧ (∀ (lp : LPort) (c : Cls) (s : State), exec (.pauseExpire lp c) s = .next (settle (s.doPauseExpire lp c)))
  ∧ (∀ (lp : LPort) (c : Cls) (s : State), exec (.pfcRefresh lp c) s = .next (settle (s.doPfcRefresh lp c)))
  ∧ (∀ (lp : LPort) (c : Cls) (s : State), exec (.pauseWatchdogExpire lp c) s = .next (settle (s.doPauseWatchdog lp c)))
  ∧ (∀ (lp : LPort) (c : Cls) (s : State), exec (.pauseRecoveryEnd lp c) s = .next (settle (s.doPauseRecoveryEnd lp c)))
  ∧ (∀ (lp : LPort) (s : State), exec (.verifyTimer lp) s = .next (settle (s.doVerifyTimer lp)))
  ∧ (∀ (lp : LPort) (s : State), exec (.verifyRespondReceive lp) s = .next (settle (s.doVerifyRespondReceive lp)))
  ∧ (∀ (lp : LPort) (s : State), exec (.verifyReceive lp) s = .next (settle (s.doVerifyReceive lp)))
  ∧ (∀ (lp : LPort) (bytes : List Byte) (s : State), exec (.parkedFrameReceive lp bytes) s = .next (settle (s.doParkedFrameReceive lp bytes)))
  ∧ (∀ (lp : LPort) (s : State), exec (.lightAppear lp) s = .next (settle (s.doLightAppear lp)))
  ∧ (∀ (lp : LPort) (s : State), exec (.uncorrectableCodeword lp) s = .next (settle (s.doUncorrectableCodeword lp)))
  ∧ (∀ (lp : LPort) (codewords symbols : Nat) (s : State), exec (.serWindowRestart lp codewords symbols) s = .next (settle (s.doSerWindowRestart lp codewords symbols)))
  ∧ (∀ (lp : LPort) (s : State), exec (.pitchBiasDone lp) s = .next (settle (s.doPitchBiasDone lp)))
  ∧ (∀ (lp : LPort) (s : State), exec (.pitchBiasTimeout lp) s = .next (settle (s.doPitchBiasTimeout lp)))
  ∧ (∀ (lp : LPort) (s : State), exec (.pitchEqualiseDone lp) s = .next (settle (s.doPitchEqualiseDone lp)))
  ∧ (∀ (lp : LPort) (s : State), exec (.pitchEqualiseTimeout lp) s = .next (settle (s.doPitchEqualiseTimeout lp)))
  ∧ (∀ (lp : LPort) (s : State), exec (.lossOfLight lp) s = .next (settle (s.doLossOfLight lp)))
  ∧ (∀ (lp : LPort) (s : State), exec (.pitchFecLockDone lp) s = .next (settle (s.doPitchFecLockDone lp)))
  ∧ (∀ (lp : LPort) (s : State), exec (.pitchFecLockTimeout lp) s = .next (settle (s.doPitchFecLockTimeout lp)))
  ∧ (∀ (lp : LPort) (s : State), exec (.pitchAmLockDone lp) s = .next (settle (s.doPitchAmLockDone lp)))
  ∧ (∀ (lp : LPort) (s : State), exec (.pitchAmLockTimeout lp) s = .next (settle (s.doPitchAmLockTimeout lp)))
  ∧ (∀ (lp : LPort) (s : State), exec (.alignmentLockLoss lp) s = .next (settle (s.doAlignmentLockLoss lp)))
  ∧ (∀ (lp : LPort) (s : State), exec (.backoffEnd lp) s = .next (settle (s.doBackoffEnd lp)))
  ∧ (∀ (lp : LPort) (s : State), exec (.holdTimerExpire lp) s = .next (settle (s.doHoldTimerExpire lp)))
  ∧ (∀ (p : Port) (s : State), exec (.parkApply p) s = .next (settle (s.doParkApply p)))
  ∧ (∀ (e : Engine) (l : Lane) (x : LaserSample) (s : State), exec (.laserSample e l x) s = .next (settle (s.doLaserSample e l x.bias.toNat x.bol.toNat x.txPwr.toNat x.rxPwr.toNat x.reaches)))
  ∧ (∀ (e : Engine) (l : Lane) (s : State), exec (.sparePowerReady e l) s = .next (settle (s.doSparePowerReady e l)))
  ∧ (∀ (e : Engine) (l : Lane) (s : State), exec (.spareSwitchComplete e l) s = .next (settle (s.doSpareSwitchComplete e l)))
  ∧ (∀ (e : Engine) (s : State), exec (.wearRecordWrite e) s = .next (settle (s.doWearRecordWrite e)))
  ∧ (∀ (e : Engine) (l : Lane) (s : State), exec (.eyeLimitTrip e l) s = .next (settle (s.doEyeLimitTrip e l)))
  ∧ (∀ (e : Engine) (l : Lane) (s : State), Admits s .host (oengPage e) 0xE00 →
    exec (.laneClearTrip e l) s = .next (settle ((s.accessHit .host 2 (oengPage e)).guardPassed .host (oengPage e) 0xE00 (BitVec.ofNat 32 (l.val + 0x20)))))
  ∧ (∀ (e : Engine) (l : Lane) (s : State), Admits s .host (oengPage e) 0xE00 →
    exec (.laneApproveSwitch e l) s = .next (settle ((s.accessHit .host 2 (oengPage e)).guardPassed .host (oengPage e) 0xE00 (BitVec.ofNat 32 (l.val + 0x40)))))
  ∧ (∀ (e : Engine) (l : Lane) (s : State), Admits s .host (oengPage e) 0xE00 →
    exec (.laneSwitchNow e l) s = .next (settle ((s.accessHit .host 2 (oengPage e)).guardPassed .host (oengPage e) 0xE00 (BitVec.ofNat 32 (l.val + 0x60)))))
  ∧ (∀ (e : Engine) (temp : BitVec 8) (s : State), exec (.calInterpolate e temp) s = .next (settle (s.doCalInterpolate e temp.toNat)))
  ∧ (∀ (p : Port) (s : State), exec (.counterHarvest p) s = .next (settle (s.doCounterHarvest p)))

/-- For every operand and every state, each of these commands answers a next state, the state its effect gives with the severity
actions that became due taken (`settle`, R418). Of the commands that stand for a register access: one that is a window command
completes with its effect where it reaches its window and its turn has come (`TakesTurn`); the access itself moves performance and
access counters (`withCtrs`). Commands: RULE_WRITE, RULE_READ, RULE_INVALIDATE, TEMPLATE_WRITE, TEMPLATE_READ, METER_WRITE,
METER_READ, METER_REFILL, SCRUB_STEP, LEARN_REQUEST_ARRIVE, SEQUENCER_ACCEPT, COPY_APPLY, PENDING_FILTER_EXPIRE, AGE_SWEEP_SLOT,
MEMBER_AGE_SWEEP, TABLE_ENTRY_WRITE, TABLE_ENTRY_READ, TABLE_ENTRY_DELETE, MAC_INSERT, MAC_DELETE, MAC_FLUSH, MAC_FLUSH_DONE,
READ_BY_SLOT, MEMBER_JOIN, MEMBER_LEAVE, ROUTE_INSERT, ROUTE_DELETE, ROUTE_LONGEST_MATCH, HASH_SEED_WRITE. -/
def Obligations.EveryTableCommandCompletes : Prop :=
  (∀ (sl : Slice) (w : Who) (idx : Fin 16384) (ver : Fin 4) (s : State), TakesTurn s w (clsfPage sl) (if whoFw w then 0x280 else 0x180) →
    ∃ c1 c2, exec (.ruleWrite sl w idx ver) s = .next (settle (((s.withCtrs c1).doRuleWrite sl w idx ver).withCtrs c2)))
  ∧ (∀ (sl : Slice) (w : Who) (idx : Fin 16384) (s : State), TakesTurn s w (clsfPage sl) (if whoFw w then 0x280 else 0x180) →
    ∃ c1 c2, exec (.ruleRead sl w idx) s = .next (settle (((s.withCtrs c1).doRuleRead sl w idx).withCtrs c2)))
  ∧ (∀ (sl : Slice) (w : Who) (idx : Fin 16384) (s : State), TakesTurn s w (clsfPage sl) (if whoFw w then 0x280 else 0x180) →
    ∃ c1 c2, exec (.ruleInvalidate sl w idx) s = .next (settle (((s.withCtrs c1).doRuleInvalidate sl w idx).withCtrs c2)))
  ∧ (∀ (sl : Slice) (idx : Fin 64) (s : State), TakesTurn s .host (clsfPage sl) 0x100 →
    ∃ c1 c2, exec (.templateWrite sl idx) s = .next (settle (((s.withCtrs c1).doTemplateWrite sl idx).withCtrs c2)))
  ∧ (∀ (sl : Slice) (idx : Fin 64) (s : State), TakesTurn s .host (clsfPage sl) 0x100 →
    ∃ c1 c2, exec (.templateRead sl idx) s = .next (settle (((s.withCtrs c1).doTemplateRead sl idx).withCtrs c2)))
  ∧ (∀ (sl : Slice) (idx : Fin 32768) (s : State), TakesTurn s .host (metrPage sl) 0x100 →
    ∃ c1 c2, exec (.meterWrite sl idx) s = .next (settle (((s.withCtrs c1).doMeterWrite sl idx).withCtrs c2)))
  ∧ (∀ (sl : Slice) (idx : Fin 32768) (s : State), TakesTurn s .host (metrPage sl) 0x100 →
    ∃ c1 c2, exec (.meterRead sl idx) s = .next (settle (((s.withCtrs c1).doMeterRead sl idx).withCtrs c2)))
  ∧ (∀ (sl : Slice) (idx : Fin 32768) (s : State), exec (.meterRefill sl idx) s = .next (settle (s.doMeterRefill sl idx)))
  ∧ (∀ (sl : Slice) (t : ScrubTable) (idx : Fin 1048576) (f : ScrubFind) (s : State), exec (.scrubStep sl t idx f) s = .next (settle (s.doScrub sl t idx f)))
  ∧ (∀ (sl : Slice) (s : State), exec (.learnRequestArrive sl) s = .next (settle (s.doLearnArrive sl)))
  ∧ (∀ (s : State), exec .sequencerAccept s = .next (settle (s.doSequencerAccept)))
  ∧ (∀ (sl : Slice) (s : State), exec (.copyApply sl) s = .next (settle (s.doCopyApply sl)))
  ∧ (∀ (sl : Slice) (s : State), exec (.pendingFilterExpire sl) s = .next (settle (s.doFilterExpire sl)))
  ∧ (∀ (s : State), exec .ageSweepSlot s = .next (settle (s.doAgeSweep)))
  ∧ (∀ (sl : Slice) (s : State), exec (.memberAgeSweep sl) s = .next (settle (s.doMemberAge sl)))
  ∧ (∀ (w : Who) (table : Fin 16) (idx : Fin 1048576) (s : State), TakesTurn s w tblsPage (if whoFw w then 0x480 else 0x400) →
    ∃ c1 c2, exec (.tableEntryWrite w table idx) s = .next (settle (((s.withCtrs c1).doTableWrite w table idx).withCtrs c2)))
  ∧ (∀ (w : Who) (table : Fin 16) (idx : Fin 1048576) (s : State), TakesTurn s w tblsPage (if whoFw w then 0x480 else 0x400) →
    ∃ c1 c2, exec (.tableEntryRead w table idx) s = .next (settle (((s.withCtrs c1).doTableRead w table idx).withCtrs c2)))
  ∧ (∀ (w : Who) (table : Fin 16) (idx : Fin 1048576) (s : State), TakesTurn s w tblsPage (if whoFw w then 0x480 else 0x400) →
    ∃ c1 c2, exec (.tableEntryDelete w table idx) s = .next (settle (((s.withCtrs c1).doTableDelete w table idx).withCtrs c2)))
  ∧ (∀ (w : Who) (s : State), TakesTurn s w tblsPage (if whoFw w then 0x480 else 0x400) →
    ∃ c1 c2, exec (.macInsert w) s = .next (settle (((s.withCtrs c1).doMacInsert w).withCtrs c2)))
  ∧ (∀ (w : Who) (s : State), TakesTurn s w tblsPage (if whoFw w then 0x480 else 0x400) →
    ∃ c1 c2, exec (.macDelete w) s = .next (settle (((s.withCtrs c1).doMacDelete w).withCtrs c2)))
  ∧ (∀ (w : Who) (s : State), TakesTurn s w tblsPage (if whoFw w then 0x480 else 0x400) →
    ∃ c1 c2, exec (.macFlush w) s = .next (settle (((s.withCtrs c1).doMacFlush w).withCtrs c2)))
  ∧ (∀ (s : State), exec .macFlushDone s = .next (settle (s.doFlushDone)))
  ∧ (∀ (w : Who) (table : Fin 16) (idx : Fin 1048576) (s : State), TakesTurn s w tblsPage (if whoFw w then 0x480 else 0x400) →
    ∃ c1 c2, exec (.readBySlot w table idx) s = .next (settle (((s.withCtrs c1).doReadBySlot w table idx).withCtrs c2)))
  ∧ (∀ (w : Who) (s : State), TakesTurn s w tblsPage (if whoFw w then 0x480 else 0x400) →
    ∃ c1 c2, exec (.memberJoin w) s = .next (settle (((s.withCtrs c1).doMemberJoin w).withCtrs c2)))
  ∧ (∀ (w : Who) (s : State), TakesTurn s w tblsPage (if whoFw w then 0x480 else 0x400) →
    ∃ c1 c2, exec (.memberLeave w) s = .next (settle (((s.withCtrs c1).doMemberLeave w).withCtrs c2)))
  ∧ (∀ (w : Who) (s : State), TakesTurn s w tblsPage (if whoFw w then 0x480 else 0x400) →
    ∃ c1 c2, exec (.routeInsert w) s = .next (settle (((s.withCtrs c1).doRouteInsert w).withCtrs c2)))
  ∧ (∀ (w : Who) (s : State), TakesTurn s w tblsPage (if whoFw w then 0x480 else 0x400) →
    ∃ c1 c2, exec (.routeDelete w) s = .next (settle (((s.withCtrs c1).doRouteDelete w).withCtrs c2)))
  ∧ (∀ (w : Who) (s : State), TakesTurn s w tblsPage (if whoFw w then 0x480 else 0x400) →
    ∃ c1 c2, exec (.routeLongestMatch w) s = .next (settle (((s.withCtrs c1).doRouteMatch w).withCtrs c2)))
  ∧ (∀ (n : Fin 2) (v : Word) (s : State), exec (.hashSeedWrite n v) s = .next (settle (s.doHashSeed n v)))

/-- For every operand and every state, each of these commands answers a next state, the state its effect gives with the severity
actions that became due taken (`settle`, R418). Of the commands that stand for a register access: one that writes a guarded
register answers the state the guarded register gives (`guardPassed`, R389), where the write is let in (`Admits`); one that is a
window command completes with its effect where it reaches its window and its turn has come (`TakesTurn`; for SCHD, where
`mustWait` is false); the access itself moves performance and access counters (`withCtrs`). Commands: CELL_IDLE_CLOSE,
MATCHING_ROUND, CELL_ARRIVAL, RESEQ_TIMEOUT, VOQ_STALL, PLANE_TRAINING_LOSS, PLANE_REMOVE, PLANE_RETURN, PLANE_RETURN_DONE,
PORT_TREE_DECISION, TRANSMIT_SELECT, TRANSMIT_END, CT_UNDERRUN, BOBBIN_IDLE_WRITE, BOBBIN_READBACK, QUEUE_CONFIG_WRITE,
QUEUE_CONFIG_READ, STACK_REFRESH_DOUBLE, STACK_REFRESH_NORMAL, DERATE_RECOMPUTE, STACK_FAULT, STACK_REMOVE, STACK_RETURN,
STACK_SELFTEST_DONE, AUDIT_LATCH, AUDIT_CHECK, SCHED_ENTRY_WRITE, SCHED_ENTRY_READ, GATE_COMMIT, GATE_COMMIT_COPY_DONE,
GATE_LIST_CHANGE, GATE_ENTRY_ADVANCE, SAMPLE_READ_CLEAR, QUEUE_SAMPLE, BOBBIN_WRITE_DONE. -/
def Obligations.EverySwitchCommandCompletes : Prop :=
  (∀ (sl : Slice) (q : Fin 2112) (s : State), exec (.cellIdleClose sl q) s = .next (settle (s.doCellIdleClose sl q)))
  ∧ (∀ (s : State), exec .matchingRound s = .next (settle (s.doMatchingRound)))
  ∧ (∀ (d : Slice) (crcGood : Bool) (s : State), exec (.cellArrival d crcGood) s = .next (settle (s.doCellArrival d crcGood)))
  ∧ (∀ (d : Slice) (src : Slice) (dest : Fin 264) (c : Cls) (s : State), exec (.reseqTimeout d src dest c) s = .next (settle (s.doReseqTimeout d src dest c)))
  ∧ (∀ (sl : Slice) (q : Fin 2112) (s : State), exec (.voqStall sl q) s = .next (settle (s.doVoqStall sl q)))
  ∧ (∀ (p : Plane) (s : State), exec (.planeTrainingLoss p) s = .next (settle (s.planeOut p)))
  ∧ (∀ (p : Plane) (s : State), Admits s .host (xbarPage 8) 0xE00 →
    exec (.planeRemove p) s = .next (settle ((s.accessHit .host 2 (xbarPage 8)).guardPassed .host (xbarPage 8) 0xE00 (BitVec.ofNat 32 (p.val + 4)))))
  ∧ (∀ (p : Plane) (s : State), Admits s .host (xbarPage 8) 0xE00 →
    exec (.planeReturn p) s = .next (settle ((s.accessHit .host 2 (xbarPage 8)).guardPassed .host (xbarPage 8) 0xE00 (BitVec.ofNat 32 (p.val + 8)))))
  ∧ (∀ (p : Plane) (ok : Bool) (s : State), exec (.planeReturnDone p ok) s = .next (settle (s.doPlaneReturnDone p ok)))
  ∧ (∀ (p : Port) (s : State), exec (.portTreeDecision p) s = .next (settle (s.doPortTreeDecision p)))
  ∧ (∀ (lp : LPort) (s : State), exec (.transmitSelect lp) s = .next (settle (s.doTransmitSelect lp)))
  ∧ (∀ (lp : LPort) (s : State), exec (.transmitEnd lp) s = .next (settle (s.doTransmitEnd lp)))
  ∧ (∀ (lp : LPort) (s : State), exec (.ctUnderrun lp) s = .next (settle (s.doCtUnderrun lp)))
  ∧ (∀ (sl : Slice) (q : Fin 16384) (s : State), exec (.bobbinIdleWrite sl q) s = .next (settle (s.doBobbinIdleWrite sl q)))
  ∧ (∀ (sl : Slice) (q : Fin 16384) (s : State), exec (.bobbinReadback sl q) s = .next (settle (s.doBobbinReadback sl q)))
  ∧ (∀ (sl : Slice) (idx : Fin 32768) (s : State), TakesTurn s .host (deepPage sl) 0x100 →
    ∃ c1 c2, exec (.queueConfigWrite sl idx) s = .next (settle (((s.withCtrs c1).doQueueConfigWrite sl idx).withCtrs c2)))
  ∧ (∀ (sl : Slice) (idx : Fin 32768) (s : State), TakesTurn s .host (deepPage sl) 0x100 →
    ∃ c1 c2, exec (.queueConfigRead sl idx) s = .next (settle (((s.withCtrs c1).doQueueConfigRead sl idx).withCtrs c2)))
  ∧ (∀ (d : Stack) (s : State), exec (.stackRefreshDouble d) s = .next (settle (s.doStackRefreshDouble d)))
  ∧ (∀ (d : Stack) (s : State), exec (.stackRefreshNormal d) s = .next (settle (s.doStackRefreshNormal d)))
  ∧ (∀ (s : State), exec .derateRecompute s = .next (settle (s.doDerateRecompute)))
  ∧ (∀ (d : Stack) (s : State), exec (.stackFault d) s = .next (settle (s.doStackFault d)))
  ∧ (∀ (d : Stack) (s : State), Admits s .host (deepPage 8) 0xE00 →
    exec (.stackRemove d) s = .next (settle ((s.accessHit .host 2 (deepPage 8)).guardPassed .host (deepPage 8) 0xE00 (BitVec.ofNat 32 (d.val + 8)))))
  ∧ (∀ (d : Stack) (s : State), Admits s .host (deepPage 8) 0xE00 →
    exec (.stackReturn d) s = .next (settle ((s.accessHit .host 2 (deepPage 8)).guardPassed .host (deepPage 8) 0xE00 (BitVec.ofNat 32 (d.val + 16)))))
  ∧ (∀ (d : Stack) (ok : Bool) (s : State), exec (.stackSelftestDone d ok) s = .next (settle (s.doStackSelftestDone d ok)))
  ∧ (∀ (s : State), exec .auditLatch s = .next (settle (s.doAuditLatch)))
  ∧ (∀ (s : State), exec .auditCheck s = .next (settle (s.doAuditCheck)))
  ∧ (∀ (sl : Slice) (table : Fin 16) (idx : Fin 32768) (s : State), Reaches s .host (schdPage sl) 0x100 →
    s.mustWait .schd (schdPage sl) (BitVec.ofNat 32 (idx + 0x8000 * table + 0x80000)) = false →
    ∃ c1 c2, exec (.schedEntryWrite sl table idx) s = .next (settle (((s.withCtrs c1).schCommand sl 1 table idx).withCtrs c2)))
  ∧ (∀ (sl : Slice) (table : Fin 16) (idx : Fin 32768) (s : State), Reaches s .host (schdPage sl) 0x100 →
    s.mustWait .schd (schdPage sl) (BitVec.ofNat 32 (idx + 0x8000 * table + 0x100000)) = false →
    ∃ c1 c2, exec (.schedEntryRead sl table idx) s = .next (settle (((s.withCtrs c1).doSchedRead sl table idx).withCtrs c2)))
  ∧ (∀ (sl : Slice) (k : Fin 32) (s : State), Reaches s .host (schdPage sl) 0x100 →
    s.mustWait .schd (schdPage sl) (BitVec.ofNat 32 (k + 0x1B0000)) = false →
    ∃ c1 c2, exec (.gateCommit sl k) s = .next (settle (((s.withCtrs c1).doGateCommit sl k).withCtrs c2)))
  ∧ (∀ (sl : Slice) (k : Fin 32) (s : State), exec (.gateCommitCopyDone sl k) s = .next (settle (s.doGateCopyDone sl k)))
  ∧ (∀ (p : Port) (s : State), exec (.gateListChange p) s = .next (settle (s.doGateListChange p)))
  ∧ (∀ (p : Port) (s : State), exec (.gateEntryAdvance p) s = .next (settle (s.doGateEntryAdvance p)))
  ∧ (∀ (sl : Slice) (idx : Fin 32768) (s : State), Reaches s .host (schdPage sl) 0x100 →
    s.mustWait .schd (schdPage sl) (BitVec.ofNat 32 (idx + 0x1C8000)) = false →
    ∃ c1 c2, exec (.sampleReadClear sl idx) s = .next (settle (((s.withCtrs c1).doSampleReadClear sl idx).withCtrs c2)))
  ∧ (∀ (sl : Slice) (idx : Fin 17408) (s : State), exec (.queueSample sl idx) s = .next (settle (s.doQueueSample sl idx)))
  ∧ (∀ (sl : Slice) (q : Fin 16384) (s : State), exec (.bobbinWriteDone sl q) s = .next (settle (s.doBobbinWriteDone sl q)))

/-- For every operand and every state, each of these commands answers a next state, the state its effect gives with the severity
actions that became due taken (`settle`, R418). Of the commands that stand for a register access: one that writes a guarded
register answers the state the guarded register gives (`guardPassed`, R389), where the write is let in (`Admits`); one that is a
write of a register acting at once completes where the write is let in (`Admits`); one that is a window command completes with its
effect where it reaches its window and its turn has come (`TakesTurn`); the access itself moves performance and access counters
(`withCtrs`). Commands: FLEXE_OH_FRAME_RECEIVE, FLEXE_OH_FRAME_SEND, FLEXE_OH_LOCK_DONE, FLEXE_OH_LOCK_TIMEOUT,
FLEXE_MAP_CHECK_DONE, FLEXE_MAP_CHECK_TIMEOUT, FLEXE_DESKEW_DONE, FLEXE_DESKEW_TIMEOUT, CAL_SWITCH_REQUEST, CAL_SWITCH_ABANDON,
CAL_SWITCH_TIMEOUT, CLIENT_WRITE, CLIENT_READ, PACK_UNIT_RECEIVE, FOLD_COMMIT, FOLD_COMMIT_APPLY, FOLD_CLEANING_DONE,
FOLD_DISCARD_PENDING, FOLD_ARM, FOLD_DISARM, FOLD_PROMOTION_DONE, FOLD_RESUME, FOLD_RESTART, FOLD_RESTART_DONE, FOLD_ENTRY_WRITE,
FOLD_ENTRY_READ, FOLD_ENTRY_REMOVE, PACK_CNT_SEL, LINK_PREFIX_RECEIVE, LINK_CELL_RECEIVE, HELLO_RECEIVE, LATCH_PREFIX_RECEIVE,
LINK_UNIT_SLOT, HELLO_SEND, HELLO_DEAD_INTERVAL, RETRY_TIMER_EXPIRE, HOLDDOWN_EXPIRE, FABRIC_CELL_DELIVER, FAB_RESEQ_TIMEOUT,
GAP_NOTICE_RECEIVE, LOST_ITEM_EXPIRE, STREAM_ENTRY_IDLE, LINK_CNT_SEL, LINK_GROUP_WRITE, LINK_GROUP_READ, NEIGHBOR_READ,
PATH_MAX_RESET. -/
def Obligations.EveryTrunkCommandCompletes : Prop :=
  (∀ (g : Group) (i : Fin 8) (oh : OhFrame) (s : State), exec (.flexeOhFrameReceive g i oh) s = .next (settle (s.doFlexeOhFrameReceive g i oh)))
  ∧ (∀ (g : Group) (s : State), exec (.flexeOhFrameSend g) s = .next (settle (s.doFlexeOhFrameSend g)))
  ∧ (∀ (g : Group) (s : State), exec (.flexeOhLockDone g) s = .next (settle (s.doFlexeOhLockDone g)))
  ∧ (∀ (g : Group) (s : State), exec (.flexeOhLockTimeout g) s = .next (settle (s.doFlexeOhLockTimeout g)))
  ∧ (∀ (g : Group) (s : State), exec (.flexeMapCheckDone g) s = .next (settle (s.doFlexeMapCheckDone g)))
  ∧ (∀ (g : Group) (s : State), exec (.flexeMapCheckTimeout g) s = .next (settle (s.doFlexeMapCheckTimeout g)))
  ∧ (∀ (g : Group) (skewNs : BitVec 14) (s : State), exec (.flexeDeskewDone g skewNs) s = .next (settle (s.doFlexeDeskewDone g skewNs.toNat)))
  ∧ (∀ (g : Group) (s : State), exec (.flexeDeskewTimeout g) s = .next (settle (s.doFlexeDeskewTimeout g)))
  ∧ (∀ (g : Group) (w : Who) (s : State), Admits s w (flxePage g) 0x88 →
    ∃ c1 c2, exec (.calSwitchRequest g w) s = .next (settle (((s.withCtrs c1).doCalSwitchRequest g).withCtrs c2)))
  ∧ (∀ (g : Group) (w : Who) (s : State), Admits s w (flxePage g) 0x88 →
    ∃ c1 c2, exec (.calSwitchAbandon g w) s = .next (settle (((s.withCtrs c1).doCalSwitchAbandon g).withCtrs c2)))
  ∧ (∀ (g : Group) (s : State), exec (.calSwitchTimeout g) s = .next (settle (s.doCalSwitchTimeout g)))
  ∧ (∀ (w : Who) (n : Fin 4096) (s : State), TakesTurn s w (flxePage 32) 0x100 →
    ∃ c1 c2, exec (.clientWrite w n) s = .next (settle (((s.withCtrs c1).doClientWrite (whoFw w) n).withCtrs c2)))
  ∧ (∀ (w : Who) (n : Fin 4096) (s : State), TakesTurn s w (flxePage 32) 0x100 →
    ∃ c1 c2, exec (.clientRead w n) s = .next (settle (((s.withCtrs c1).doClientRead n).withCtrs c2)))
  ∧ (∀ (lp : LPort) (first : Bool) (unit : List Byte) (e : UnitErr) (src : RxSrc) (s : State), exec (.packUnitReceive lp first unit e src) s = .next (settle (s.doPackUnitReceive lp src.code first unit e)))
  ∧ (∀ (w : Who) (sl : Slice) (t : Fin 4) (s : State), Admits s w (packPage sl) (0x304 + 16 * t.val) →
    ∃ c1 c2, exec (.foldCommit w sl t) s = .next (settle (((s.withCtrs c1).doFoldCommit sl t).withCtrs c2)))
  ∧ (∀ (sl : Slice) (t : Fin 4) (s : State), exec (.foldCommitApply sl t) s = .next (settle (s.doFoldCommitApply sl t)))
  ∧ (∀ (sl : Slice) (t : Fin 4) (s : State), exec (.foldCleaningDone sl t) s = .next (settle (s.doFoldCleaningDone sl t)))
  ∧ (∀ (w : Who) (sl : Slice) (t : Fin 4) (s : State), Admits s w (packPage sl) (0x304 + 16 * t.val) →
    ∃ c1 c2, exec (.foldDiscardPending w sl t) s = .next (settle (((s.withCtrs c1).doFoldDiscardPending sl t).withCtrs c2)))
  ∧ (∀ (w : Who) (sl : Slice) (t : Fin 4) (s : State), Admits s w (packPage sl) (0x304 + 16 * t.val) →
    ∃ c1 c2, exec (.foldArm w sl t) s = .next (settle (((s.withCtrs c1).doFoldArm sl t).withCtrs c2)))
  ∧ (∀ (w : Who) (sl : Slice) (t : Fin 4) (s : State), Admits s w (packPage sl) (0x304 + 16 * t.val) →
    ∃ c1 c2, exec (.foldDisarm w sl t) s = .next (settle (((s.withCtrs c1).doFoldDisarm sl t).withCtrs c2)))
  ∧ (∀ (sl : Slice) (t : Fin 4) (s : State), exec (.foldPromotionDone sl t) s = .next (settle (s.doFoldPromotionDone sl t)))
  ∧ (∀ (w : Who) (sl : Slice) (t : Fin 4) (s : State), Admits s w (packPage sl) (0x304 + 16 * t.val) →
    ∃ c1 c2, exec (.foldResume w sl t) s = .next (settle (((s.withCtrs c1).doFoldResume sl t).withCtrs c2)))
  ∧ (∀ (w : Who) (sl : Slice) (t : Fin 4) (gen : Byte) (s : State), Admits s w (packPage sl) (0x304 + 16 * t.val) →
    ∃ c1 c2, exec (.foldRestart w sl t gen) s = .next (settle (((s.withCtrs c1).doFoldRestart sl t gen.toNat).withCtrs c2)))
  ∧ (∀ (sl : Slice) (t : Fin 4) (s : State), exec (.foldRestartDone sl t) s = .next (settle (s.doFoldRestartDone sl t)))
  ∧ (∀ (w : Who) (sl : Slice) (t : Fin 4) (tx : Bool) (tag : BitVec 16) (s : State), TakesTurn s w (packPage sl) (if whoFw w then 0x480 else 0x400) →
    ∃ c1 c2, exec (.foldEntryWrite w sl t tx tag) s = .next (settle (((s.withCtrs c1).doFoldEntryWrite (whoFw w) sl t tx tag.toNat).withCtrs c2)))
  ∧ (∀ (w : Who) (sl : Slice) (t : Fin 4) (tx : Bool) (tag : BitVec 16) (s : State), TakesTurn s w (packPage sl) (if whoFw w then 0x480 else 0x400) →
    ∃ c1 c2, exec (.foldEntryRead w sl t tx tag) s = .next (settle (((s.withCtrs c1).doFoldEntryRead (whoFw w) sl t tx tag.toNat).withCtrs c2)))
  ∧ (∀ (w : Who) (sl : Slice) (t : Fin 4) (tx : Bool) (tag : BitVec 16) (s : State), TakesTurn s w (packPage sl) (if whoFw w then 0x480 else 0x400) →
    ∃ c1 c2, exec (.foldEntryRemove w sl t tx tag) s = .next (settle (((s.withCtrs c1).doFoldEntryRemove (whoFw w) sl t tx tag.toNat).withCtrs c2)))
  ∧ (∀ (sl : Slice) (q : Fin 128) (s : State), Admits s .host (packPage sl) 0x500 →
    ∃ c1 c2, exec (.packCntSel sl q) s = .next (settle (((s.withCtrs c1).doPackCntSel sl q).withCtrs c2)))
  ∧ (∀ (p : Port) (pfx : List Byte) (first : Bool) (s : State), exec (.linkPrefixReceive p pfx first) s = .next (settle (s.doLinkPrefixReceive p first pfx)))
  ∧ (∀ (p : Port) (lseq : BitVec 12) (cell : List Byte) (fecBad : Bool) (s : State), exec (.linkCellReceive p lseq cell fecBad) s = .next (settle (s.doLinkCellReceive p lseq.toNat cell fecBad)))
  ∧ (∀ (p : Port) (bytes : List Byte) (s : State), exec (.helloReceive p bytes) s = .next (settle (s.doHelloReceive p bytes)))
  ∧ (∀ (p : Port) (pfx : List Byte) (first : Bool) (s : State), exec (.latchPrefixReceive p pfx first) s = .next (settle (s.doLatchPrefixReceive p first pfx)))
  ∧ (∀ (p : Port) (s : State), exec (.linkUnitSlot p) s = .next (settle (s.doLinkUnitSlot p)))
  ∧ (∀ (p : Port) (s : State), exec (.helloSend p) s = .next (settle (s.doHelloSend p)))
  ∧ (∀ (p : Port) (s : State), exec (.helloDeadInterval p) s = .next (settle (s.doHelloDeadInterval p)))
  ∧ (∀ (p : Port) (s : State), exec (.retryTimerExpire p) s = .next (settle (s.doRetryTimerExpire p)))
  ∧ (∀ (p : Port) (s : State), exec (.holddownExpire p) s = .next (settle (s.doHolddownExpire p)))
  ∧ (∀ (sl : Slice) (s : State), exec (.fabricCellDeliver sl) s = .next (settle (s.doFabricCellDeliver sl)))
  ∧ (∀ (sl : Slice) (srcDev : BitVec 12) (srcSlice : Slice) (port : BitVec 8) (c : Cls) (s : State), exec (.fabReseqTimeout sl srcDev srcSlice port c) s = .next (settle (s.doFabReseqTimeout sl srcDev.toNat srcSlice port.toNat c)))
  ∧ (∀ (sl : Slice) (s : State), exec (.gapNoticeReceive sl) s = .next (settle (s.doGapNoticeReceive sl)))
  ∧ (∀ (sl : Slice) (s : State), exec (.lostItemExpire sl) s = .next (settle (s.doLostItemExpire sl)))
  ∧ (∀ (sl : Slice) (srcDev : BitVec 12) (srcSlice : Slice) (port : BitVec 8) (c : Cls) (s : State), exec (.streamEntryIdle sl srcDev srcSlice port c) s = .next (settle (s.doStreamEntryIdle sl srcDev.toNat srcSlice port.toNat c)))
  ∧ (∀ (sl : Slice) (k : Fin 32) (s : State), Admits s .host (fabrPage sl) 0x84 →
    ∃ c1 c2, exec (.linkCntSel sl k) s = .next (settle (((s.withCtrs c1).doLinkCntSel sl k).withCtrs c2)))
  ∧ (∀ (w : Who) (idx : Fin 4096) (s : State), TakesTurn s w (fabrPage 8) 0x100 →
    ∃ c1 c2, exec (.linkGroupWrite w idx) s = .next (settle (((s.withCtrs c1).doLinkGroupWrite (whoFw w) idx).withCtrs c2)))
  ∧ (∀ (w : Who) (idx : Fin 4096) (s : State), TakesTurn s w (fabrPage 8) 0x100 →
    ∃ c1 c2, exec (.linkGroupRead w idx) s = .next (settle (((s.withCtrs c1).doLinkGroupRead (whoFw w) idx).withCtrs c2)))
  ∧ (∀ (p : Port) (s : State), TakesTurn s .host (fabrPage 8) 0x140 →
    ∃ c1 c2, exec (.neighborRead p) s = .next (settle (((s.withCtrs c1).doNeighborRead p).withCtrs c2)))
  ∧ (∀ (s : State), Admits s .host (fabrPage 8) 0xE04 →
    exec .pathMaxReset s = .next (settle ((s.accessHit .host 2 (fabrPage 8)).guardPassed .host (fabrPage 8) 0xE04 (BitVec.ofNat 32 1))))

/-- For every operand and every state, each of these commands answers a next state, the state its effect gives with the severity
actions that became due taken (`settle`, R418). Of the commands that stand for a register access: one that writes a guarded
register answers the state the guarded register gives (`guardPassed`, R389), where the write is let in (`Admits`); one that is a
write of a register acting at once completes where the write is let in (`Admits`); the access itself moves performance and access
counters (`withCtrs`). Commands: DT_TRIM, CLK_UNLOCK, DT_SOURCE_LOST, DT_SOURCE_RETURN, DT_SET, DT_LATCH_READ, TB_LATCH_READ,
TB_OFFSET_WRITE, TB_STEP, TB_SWITCH_CHANNEL, TB_HOLDOVER, TB_RESET_SERVO, TB_CHANNEL_TIMEOUT, PPS_OUT_EDGE, PPS_OUT_PULSE_END,
PPS_IN_EDGE, PPS_IN_TIMEOUT, FREF_ABSENT, FREF_PRESENT, TOD_TX_WRITE, TOD_TX_SEND, TOD_RX_BYTE, TOD_RX_READ, ARR_SEL,
ARRIVAL_WAKE_WINDOW_CLOSE, LOOM_PERIOD_START, LOOM_SLOT_AWARD, EMERGENCY_TAKE. -/
def Obligations.EveryTimeCommandCompletes : Prop :=
  (∀ (i : Island) (skew : BitVec 8) (freq : BitVec 24) (s : State), exec (.dtTrim i skew freq) s = .next (settle (s.doDtTrim i skew.toNat freq.toNat)))
  ∧ (∀ (i : Island) (s : State), exec (.clkUnlock i) s = .next (settle (s.doClkUnlock i)))
  ∧ (∀ (s : State), exec .dtSourceLost s = .next (settle (s.doDtSourceLost)))
  ∧ (∀ (s : State), exec .dtSourceReturn s = .next (settle (s.doDtSourceReturn)))
  ∧ (∀ (s : State), Admits s .host timePage 0xE00 →
    exec .dtSet s = .next (settle ((s.accessHit .host 2 timePage).guardPassed .host timePage 0xE00 (BitVec.ofNat 32 1))))
  ∧ (∀ (s : State), exec .dtLatchRead s = .next (settle (s.anyRead .host timePage 0x90)))
  ∧ (∀ (n : TB) (s : State), exec (.tbLatchRead n) s = .next (settle (s.anyRead .host timePage (0x214 + 0x80 * n.val))))
  ∧ (∀ (w : Who) (n : TB) (ch : Fin 2) (o : Word) (s : State), Admits s w timePage (0x230 + 0x80 * n.val + 4 * ch.val) →
    ∃ c1 c2, exec (.tbOffsetWrite w n ch o) s = .next (settle (((s.withCtrs c1).doTbOffsetWrite n ch o).withCtrs c2)))
  ∧ (∀ (w : Who) (n : TB) (s : State), Admits s w timePage (0x240 + 0x80 * n.val) →
    ∃ c1 c2, exec (.tbStep w n) s = .next (settle (((s.withCtrs c1).doTbStep n).withCtrs c2)))
  ∧ (∀ (w : Who) (n : TB) (s : State), Admits s w timePage (0x240 + 0x80 * n.val) →
    ∃ c1 c2, exec (.tbSwitchChannel w n) s = .next (settle (((s.withCtrs c1).doTbSwitchChannel n).withCtrs c2)))
  ∧ (∀ (w : Who) (n : TB) (s : State), Admits s w timePage (0x240 + 0x80 * n.val) →
    ∃ c1 c2, exec (.tbHoldover w n) s = .next (settle (((s.withCtrs c1).doTbHoldover n).withCtrs c2)))
  ∧ (∀ (w : Who) (n : TB) (s : State), Admits s w timePage (0x240 + 0x80 * n.val) →
    ∃ c1 c2, exec (.tbResetServo w n) s = .next (settle (((s.withCtrs c1).doTbResetServo n).withCtrs c2)))
  ∧ (∀ (n : TB) (ch : Fin 2) (s : State), exec (.tbChannelTimeout n ch) s = .next (settle (s.doTbChannelTimeout n ch)))
  ∧ (∀ (s : State), exec .ppsOutEdge s = .next (settle (s.doPpsOutEdge)))
  ∧ (∀ (s : State), exec .ppsOutPulseEnd s = .next (settle (s.doPpsOutPulseEnd)))
  ∧ (∀ (s : State), exec .ppsInEdge s = .next (settle (s.doPpsInEdge)))
  ∧ (∀ (s : State), exec .ppsInTimeout s = .next (settle (s.doPpsInTimeout)))
  ∧ (∀ (s : State), exec .frefAbsent s = .next (settle (s.doFrefAbsent)))
  ∧ (∀ (s : State), exec .frefPresent s = .next (settle (s.doFrefPresent)))
  ∧ (∀ (w : Who) (b : Byte) (s : State), Admits s w timePage 0x114 →
    ∃ c1 c2, exec (.todTxWrite w b) s = .next (settle (((s.withCtrs c1).doTodTxWrite b).withCtrs c2)))
  ∧ (∀ (s : State), exec .todTxSend s = .next (settle (s.doTodTxSend)))
  ∧ (∀ (b : Byte) (s : State), exec (.todRxByte b) s = .next (settle (s.doTodRxByte b)))
  ∧ (∀ (w : Who) (s : State), exec (.todRxRead w) s = .next (settle (s.readBy w timePage 0x118)))
  ∧ (∀ (p : Port) (s : State), Admits s .host timePage 0xC00 →
    ∃ c1 c2, exec (.arrSel p) s = .next (settle (((s.withCtrs c1).doArrSel p).withCtrs c2)))
  ∧ (∀ (p : Port) (s : State), exec (.arrivalWakeWindowClose p) s = .next (settle (s.doArrivalWakeWindowClose p)))
  ∧ (∀ (i : Fin 19) (s : State), exec (.loomPeriodStart i) s = .next (settle (s.doLoomPeriodStart i)))
  ∧ (∀ (i : Fin 19) (requests : BitVec 8) (s : State), exec (.loomSlotAward i requests) s = .next (settle (s.doLoomSlotAward i requests)))
  ∧ (∀ (i : Fin 19) (s : State), exec (.emergencyTake i) s = .next (settle (s.doEmergencyTake i)))

/-- For every operand and every state, each of these commands answers a next state, the state its effect gives with the severity
actions that became due taken (`settle`, R418). Of the commands that stand for a register access: one that writes a guarded
register answers the state the guarded register gives (`guardPassed`, R389), where the write is let in (`Admits`); one that is a
write of a register acting at once completes where the write is let in (`Admits`); the access itself moves performance and access
counters (`withCtrs`). Commands: LOCKSTEP_MISMATCH, SRAM_ECC_ERROR, CLUSTER_SELFTEST_DONE, CLUSTER_LOAD_DONE, LEASE_RENEW,
LEASE_CLAIM, LEASE_RELEASE, LEASE_READY, LEASE_EXPIRE, LEASE_GUARD_END, LEASE_REVOKE, LEASE_SET_NEXT, CKPT_CMD, CKPT_MARK,
CKPT_COMMIT, CKPT_STALE, CHECKPOINT_RESTORE_DONE, SWAP_DUE, SWAP_WINDOW_EXPIRE, TWIN_FRAME_RECEIVE, TWIN_STATUS_SEND,
TWIN_RENEW_SEND, TWIN_EXPIRY, TWIN_STANDBY_TAKEOVER, TWIN_LINK_LOST, TWIN_LISTEN_END, TWIN_HAND_OVER, TWIN_RELEASE_GUARD_END,
TWIN_HOLD_IN_CHANGE, TWIN_HOLD_SAMPLE, TWIN_HOLD_RELEASE, INJECT_POST, INJECT_SEND, LASER_REQ, PM_ALLOCATE, PM_FREE,
PUNT_TO_CLUSTER, MB_TO_FW_POST, MB_TO_FW_READ, MB_TO_HOST_POST, MB_TO_HOST_READ, CLUSTER_WINDOW_ACCESS, FIRMWARE_HOST_PAGE_READ. -/
def Obligations.EveryServiceCommandCompletes : Prop :=
  (∀ (c : Cluster) (pair : Pair) (s : State), exec (.lockstepMismatch c pair) s = .next (settle (s.doLockstepMismatch c pair)))
  ∧ (∀ (c : Cluster) (uncorrectable : Bool) (s : State), exec (.sramEccError c uncorrectable) s = .next (settle (s.doSramEccError c uncorrectable)))
  ∧ (∀ (c : Cluster) (ok : Bool) (s : State), exec (.clusterSelftestDone c ok) s = .next (settle (s.doClusterSelftestDone c ok)))
  ∧ (∀ (c : Cluster) (ok : Bool) (s : State), exec (.clusterLoadDone c ok) s = .next (settle (s.doClusterLoadDone c ok)))
  ∧ (∀ (c : Cluster) (epoch : BitVec 16) (s : State), exec (.leaseRenew c epoch) s = .next (settle (s.doLeaseRenew c epoch.toNat)))
  ∧ (∀ (c : Cluster) (s : State), exec (.leaseClaim c) s = .next (settle (s.doLeaseClaim c)))
  ∧ (∀ (c : Cluster) (epoch : BitVec 16) (s : State), exec (.leaseRelease c epoch) s = .next (settle (s.doLeaseRelease c epoch.toNat)))
  ∧ (∀ (c : Cluster) (epoch : BitVec 16) (s : State), exec (.leaseReady c epoch) s = .next (settle (s.doLeaseReady c epoch.toNat)))
  ∧ (∀ (s : State), exec .leaseExpire s = .next (settle (s.doLeaseExpire)))
  ∧ (∀ (s : State), exec .leaseGuardEnd s = .next (settle (s.doLeaseGuardEnd)))
  ∧ (∀ (s : State), Admits s .host svccPage 0xE00 →
    exec .leaseRevoke s = .next (settle ((s.accessHit .host 2 svccPage).guardPassed .host svccPage 0xE00 (BitVec.ofNat 32 1))))
  ∧ (∀ (next : Fin 4) (s : State), Admits s .host svccPage 0xE00 →
    exec (.leaseSetNext next) s = .next (settle ((s.accessHit .host 2 svccPage).guardPassed .host svccPage 0xE00 (BitVec.ofNat 32 (2 + 4 * next.val)))))
  ∧ (∀ (c : Cluster) (s : State), exec (.ckptCmd c) s = .next (settle (s.doCkptCmd c)))
  ∧ (∀ (c : Cluster) (page : BitVec 18) (set : Bool) (s : State), exec (.ckptMark c page set) s = .next (settle (s.doCkptMark c page.toNat set)))
  ∧ (∀ (s : State), exec .ckptCommit s = .next (settle (s.doCkptCommit)))
  ∧ (∀ (s : State), exec .ckptStale s = .next (settle (s.doCkptStale)))
  ∧ (∀ (s : State), exec .checkpointRestoreDone s = .next (settle (s.doCheckpointRestoreDone)))
  ∧ (∀ (s : State), exec .swapDue s = .next (settle (s.doSwapDue)))
  ∧ (∀ (s : State), exec .swapWindowExpire s = .next (settle (s.doSwapWindowExpire)))
  ∧ (∀ (bytes : List Byte) (s : State), exec (.twinFrameReceive bytes) s = .next (settle (s.doTwinFrameReceive bytes)))
  ∧ (∀ (s : State), exec .twinStatusSend s = .next (settle (s.doTwinStatusSend)))
  ∧ (∀ (s : State), exec .twinRenewSend s = .next (settle (s.doTwinRenewSend)))
  ∧ (∀ (s : State), exec .twinExpiry s = .next (settle (s.doTwinExpiry)))
  ∧ (∀ (s : State), exec .twinStandbyTakeover s = .next (settle (s.doTwinStandbyTakeover)))
  ∧ (∀ (s : State), exec .twinLinkLost s = .next (settle (s.doTwinLinkLost)))
  ∧ (∀ (s : State), exec .twinListenEnd s = .next (settle (s.doTwinListenEnd)))
  ∧ (∀ (s : State), Admits s .host twinPage 0xE00 →
    exec .twinHandOver s = .next (settle ((s.accessHit .host 2 twinPage).guardPassed .host twinPage 0xE00 (BitVec.ofNat 32 1))))
  ∧ (∀ (s : State), exec .twinReleaseGuardEnd s = .next (settle (s.doTwinReleaseGuardEnd)))
  ∧ (∀ (level : Bool) (s : State), exec (.twinHoldInChange level) s = .next (settle (s.doTwinHoldInChange level)))
  ∧ (∀ (s : State), exec .twinHoldSample s = .next (settle (s.doTwinHoldSample)))
  ∧ (∀ (s : State), exec .twinHoldRelease s = .next (settle (s.doTwinHoldRelease)))
  ∧ (∀ (c : Cluster) (pair : Pair) (w3 : Word) (s : State), exec (.injectPost c pair w3) s = .next (settle (s.doInjectPost c pair w3)))
  ∧ (∀ (pair : Pair) (s : State), exec (.injectSend pair) s = .next (settle (s.doInjectSend pair)))
  ∧ (∀ (c : Cluster) (e : Engine) (l : Lane) (ceil : BitVec 12) (all : Bool) (s : State), exec (.laserReq c e l ceil all) s = .next (settle (s.doLaserReq c e l ceil.toNat all)))
  ∧ (∀ (w : Who) (req : Fin 16) (size : BitVec 14) (s : State), exec (.pmAllocate w req size) s = .next (settle (s.pmAllocateBy w req size.toNat)))
  ∧ (∀ (w : Who) (req : Fin 16) (handle : Word) (s : State), exec (.pmFree w req handle) s = .next (settle (s.pmFreeBy w req handle.toNat)))
  ∧ (∀ (sl : Slice) (s : State), exec (.puntToCluster sl) s = .next (settle (s.doPuntToCluster sl)))
  ∧ (∀ (handle : Word) (s : State), Admits s .host svccPage 0x110 →
    ∃ c1 c2, exec (.mbToFwPost handle) s = .next (settle (((s.withCtrs c1).doMbToFwPost handle.toNat).withCtrs c2)))
  ∧ (∀ (c : Cluster) (pair : Pair) (s : State), exec (.mbToFwRead c pair) s = .next (settle (s.doMbToFwRead c pair)))
  ∧ (∀ (c : Cluster) (handle : Word) (s : State), exec (.mbToHostPost c handle) s = .next (settle (s.doMbToHostPost c handle.toNat)))
  ∧ (∀ (s : State), exec .mbToHostRead s = .next (settle (s.anyRead .host svccPage 0x114)))
  ∧ (∀ (c : Cluster) (addr : BitVec 36) (st : Option Byte) (s : State), exec (.clusterWindowAccess c addr st) s = .next (settle (s.doClusterWindowAccess c addr.toNat st)))
  ∧ (∀ (c : Cluster) (page : Fin 16384) (off : Fin 4096) (s : State), exec (.firmwareHostPageRead c page off) s = .next (settle (s.doFirmwareHostPageRead c page off)))

/-- For every operand and every state, each of these commands answers a next state, the state its effect gives with the severity
actions that became due taken (`settle`, R418). Of the commands that stand for a register access: one that writes a guarded
register answers the state the guarded register gives (`guardPassed`, R389), where the write is let in (`Admits`); one that is a
write of a register acting at once completes where the write is let in (`Admits`); the access itself moves performance and access
counters (`withCtrs`). Commands: COUNTER_LOW_READ, BUS_ERROR_ACCESS, DARK_PAGE_ACCESS, BAR2_WRITE, PCIE_RESET, PCIE_LINK_UP,
BUS_MASTER_ENABLE, MSIX_VECTOR_UNMASK, REGISTER_WRITE, PAGE_APPLY, PAGE_HOLD_SET, PAGE_HOLD_RELEASE, PAGE_HOLD_DISCARD,
GUARD_VALUE_WRITE, GUARD_COMPLEMENT_WRITE, GUARD_LAPSE, EVENT_ASSERT, EVT_CLEAR, RING_ENABLE, RING_DISABLE, HOST_IDX_WRITE,
INJECT_RING_FETCH, PUNT_RING_DELIVER, DMA_READ_ERROR, RING_RECORD_WRITE, RING_COAL_TIMER, NOTIFY_FIFO_ENQUEUE, EVT_WIN_READ,
EVT_WIN_READ_RETURN, PERF_FREEZE, PERF_RELEASE, PERF_ZERO, PERF_DUMP, DBG_CHALLENGE, DBG_RESPONSE, DBG_ACCESS, DBG_CLOSE,
DEBUG_IDLE_TIMEOUT, DEBUG_LOCKOUT_END, DEBUG_ALLOW_WRITE, TAP_RESET, PEAK_FIELD_READ, PERST_N_RELEASE, MSIX_ENABLE_SET,
BOUNDARY_SCAN_INSTRUCTION. -/
def Obligations.EveryHostCommandCompletes : Prop :=
  (∀ (page : Fin 16384) (off : Fin 4096) (s : State), exec (.counterLowRead page off) s = .next (settle (s.doCounterLowRead page off)))
  ∧ (∀ (page : Fin 16384) (off : Fin 4096) (bar2 : Bool) (badSize : Bool) (a : Access) (s : State), exec (.busErrorAccess page off bar2 badSize a) s = .next (settle (s.doBusErrorAccess page off bar2 badSize a)))
  ∧ (∀ (page : Fin 16384) (off : Fin 4096) (a : Access) (s : State), exec (.darkPageAccess page off a) s = .next (settle (s.doDarkPageAccess page off a)))
  ∧ (∀ (addr : Fin 67108864) (bytes : List Byte) (s : State), exec (.bar2Write addr bytes) s = .next (settle (s.doBar2Write addr bytes)))
  ∧ (∀ (k : PcieResetKind) (s : State), exec (.pcieReset k) s = .next (settle (s.doPcieReset k)))
  ∧ (∀ (width : Fin 16) (speed : Fin 8) (s : State), exec (.pcieLinkUp width speed) s = .next (settle (s.doPcieLinkUp width speed)))
  ∧ (∀ (s : State), exec .busMasterEnable s = .next (settle (s.doBusMasterEnable)))
  ∧ (∀ (v : Fin 256) (s : State), exec (.msixVectorUnmask v) s = .next (settle (s.doMsixVectorUnmask v)))
  ∧ (∀ (w : Who) (page : Fin 16384) (off : Fin 4096) (v : Word) (s : State), exec (.registerWrite w page off v) s = .next (settle (s.doRegisterWrite w page off v)))
  ∧ (∀ (page : Fin 16384) (s : State), exec (.pageApply page) s = .next (settle (s.doPageApply page)))
  ∧ (∀ (page : Fin 16384) (s : State), exec (.pageHoldSet page) s = .next (settle (s.doRegisterWrite .host page 8 1)))
  ∧ (∀ (page : Fin 16384) (s : State), exec (.pageHoldRelease page) s = .next (settle (s.doRegisterWrite .host page 8 0)))
  ∧ (∀ (page : Fin 16384) (s : State), exec (.pageHoldDiscard page) s = .next (settle (s.doRegisterWrite .host page 8 0x800)))
  ∧ (∀ (w : Who) (page : Fin 16384) (off : Fin 4096) (v : Word) (s : State), exec (.guardValueWrite w page off v) s = .next (settle (s.doGuardValueWrite w page off v)))
  ∧ (∀ (w : Who) (page : Fin 16384) (off : Fin 4096) (v : Word) (s : State), exec (.guardComplementWrite w page off v) s = .next (settle (s.doGuardComplementWrite w page off v)))
  ∧ (∀ (page : Fin 16384) (s : State), exec (.guardLapse page) s = .next (settle (s.doGuardLapse page)))
  ∧ (∀ (page : Fin 16384) (src : Fin 32) (cell : Fin 262144) (frame : Nat) (s : State), exec (.eventAssert page src cell frame) s = .next (settle (s.doEventAssert page src cell frame)))
  ∧ (∀ (w : Who) (page : Fin 16384) (src : Fin 32) (seq : Byte) (s : State), exec (.evtClear w page src seq) s = .next (settle (s.doEvtClearBy w page src seq.toNat)))
  ∧ (∀ (r : Ring) (s : State), exec (.ringEnable r) s = .next (settle (s.doRingEnable r)))
  ∧ (∀ (r : Ring) (s : State), exec (.ringDisable r) s = .next (settle (s.doRingDisable r)))
  ∧ (∀ (r : Ring) (v : Word) (s : State), exec (.hostIdxWrite r v) s = .next (settle (s.doRegisterWrite .host hostPage (0x20C + 0x40 * r.val) v)))
  ∧ (∀ (r : Fin 16) (desc : List Byte) (frame : List Byte) (s : State), exec (.injectRingFetch r desc frame) s = .next (settle (s.doInjectRingFetch r desc frame)))
  ∧ (∀ (r : Fin 16) (desc : List Byte) (s : State), exec (.puntRingDeliver r desc) s = .next (settle (s.doPuntRingDeliver r desc)))
  ∧ (∀ (r : Ring) (s : State), exec (.dmaReadError r) s = .next (settle (s.doDmaReadError r)))
  ∧ (∀ (r : Ring) (s : State), exec (.ringRecordWrite r) s = .next (settle (s.doRingRecordWrite r)))
  ∧ (∀ (r : Ring) (s : State), exec (.ringCoalTimer r) s = .next (settle (s.doRingCoalTimer r)))
  ∧ (∀ (f : Fin 5) (item : List Byte) (s : State), exec (.notifyFifoEnqueue f item) s = .next (settle (s.doNotifyFifoEnqueue f item)))
  ∧ (∀ (s : State), exec .evtWinRead s = .next (settle (s.anyRead .host hostPage 0x100)))
  ∧ (∀ (s : State), exec .evtWinReadReturn s = .next (settle (s.doEvtWinReadReturn)))
  ∧ (∀ (i : Island) (s : State), Admits s .host (perfPage i) 0x84 →
    ∃ c1 c2, exec (.perfFreeze i) s = .next (settle (((s.withCtrs c1).doPerfFreeze i).withCtrs c2)))
  ∧ (∀ (i : Island) (s : State), Admits s .host (perfPage i) 0x84 →
    ∃ c1 c2, exec (.perfRelease i) s = .next (settle (((s.withCtrs c1).doPerfRelease i).withCtrs c2)))
  ∧ (∀ (i : Island) (s : State), Admits s .host (perfPage i) 0x84 →
    ∃ c1 c2, exec (.perfZero i) s = .next (settle (((s.withCtrs c1).doPerfZero i).withCtrs c2)))
  ∧ (∀ (i : Island) (s : State), exec (.perfDump i) s = .next (settle (s.doPerfDump i)))
  ∧ (∀ (s : State), exec .dbgChallenge s = .next (settle (s.doDbgChallenge)))
  ∧ (∀ (rights : BitVec 3) (key : List Byte) (sig : List Byte) (s : State), exec (.dbgResponse rights key sig) s = .next (settle (s.doDbgResponse rights.toNat key sig)))
  ∧ (∀ (page : Fin 16384) (off : Fin 4096) (a : Access) (s : State), exec (.dbgAccess page off a) s = .next (settle (s.doDbgAccess page off a)))
  ∧ (∀ (s : State), exec .dbgClose s = .next (settle (s.doDbgClose)))
  ∧ (∀ (s : State), exec .debugIdleTimeout s = .next (settle (s.doDebugIdleTimeout)))
  ∧ (∀ (s : State), exec .debugLockoutEnd s = .next (settle (s.doDebugLockoutEnd)))
  ∧ (∀ (v : Word) (s : State), Admits s .host hostPage 0xE00 →
    exec (.debugAllowWrite v) s = .next (settle ((s.accessHit .host 2 hostPage).guardPassed .host hostPage 0xE00 (BitVec.ofNat 32 v.toNat))))
  ∧ (∀ (s : State), exec .tapReset s = .next (settle (s.doTapReset)))
  ∧ (∀ (page : Fin 16384) (off : Fin 4096) (s : State), exec (.peakFieldRead page off) s = .next (settle (s.doPeakFieldRead page off)))
  ∧ (∀ (s : State), exec .perstNRelease s = .next (settle (s.doPerstNRelease)))
  ∧ (∀ (s : State), exec .msixEnableSet s = .next (settle (s.doMsixEnableSet)))
  ∧ (∀ (i : TapInstr) (cells : List Bool) (s : State), exec (.boundaryScanInstruction i cells) s = .next (settle (s.doBoundaryScan i cells)))

/-- For every operand and every state, each of these commands answers a next state, the state its effect gives with the severity
actions that became due taken (`settle`, R418). Of the commands that stand for a register access: one that writes a guarded
register answers the state the guarded register gives (`guardPassed`, R389), where the write is let in (`Admits`); one that is a
write of a register acting at once completes where the write is let in (`Admits`); one that is a window command completes with its
effect where it reaches its window and its turn has come (`TakesTurn`); the access itself moves performance and access counters
(`withCtrs`). Commands: RAIL_BREAK, RAIL_RESTORE, THERM_THRESHOLD_CROSS, COLD_RESET_CMD, WARM_RESET_CMD, BLOCK_RESET_CMD,
CLUSTER_RESET_CMD, RELEASE_ISOLATED, BLOCK_RESET_READY, SLICE_RELOAD_DONE, GUY_WINDOW_END, RECORD_CLR_FATAL, RECORD_CLR_LAST,
SLOW_COPY_REFRESH, STANDBY_POWER_UP, NV_MOUNT_DONE, MAIN_POWER_UP, RAILS_IN_REGULATION, ISLANDS_CLOCKED, BOOT_VERIFY_DONE,
MICROCODE_LOADED, ISLANDS_SELFTEST_DONE, MAELWICK_LOADED, TRIAL_TIMEOUT, UPDATE_BEGIN, UPDATE_WRITE, UPDATE_FINISH,
UPDATE_ABANDON, UPDATE_CONFIRM, UPDATE_SELECT, OBJECT_WRITE, OBJECT_READ, OBJECT_DELETE, DIAG_RUN, DIAG_DONE, SVN_RAISE,
NV_CKPT_COPY_DONE, JOURNAL_PAGE_PROGRAM, NV_REFRESH_SCAN, RESET_N_ASSERT, RESET_N_RELEASE, POWER_FAIL_INPUT, VIN12_LOW, VIN12_OFF,
VIN12_RETURN, BMC_READ_IDENTITY, BMC_READ_DEV_INFO, BMC_READ_STATUS, BMC_READ_TEMP, BMC_READ_VIN12, BMC_READ_VIN12_CURRENT,
BMC_READ_VSB33, BMC_READ_POWER, BMC_READ_FATAL, BMC_READ_LAST_RESET, BMC_READ_ALERT_STATUS, BMC_CLEAR_ALERT_STATUS,
BMC_COLD_RESET, SMB_ALERT_RESPONSE, BMC_READING_REFRESH, NV_COMMAND_DONE. -/
def Obligations.EverySystemCommandCompletes : Prop :=
  (∀ (page : Fin 16384) (src : Fin 32) (s : State), exec (.railBreak page src) s = .next (settle (s.doRailBreak page src)))
  ∧ (∀ (s : State), exec .railRestore s = .next (settle (s.doRailRestore)))
  ∧ (∀ (i : Island) (temp : BitVec 8) (s : State), exec (.thermThresholdCross i temp) s = .next (settle (s.doThermCross i temp.toNat)))
  ∧ (∀ (w : Who) (s : State), Admits s w fltcPage 0xE00 →
    exec (.coldResetCmd w) s = .next (settle ((s.accessHit w 2 fltcPage).guardPassed w fltcPage 0xE00 (BitVec.ofNat 32 1))))
  ∧ (∀ (w : Who) (s : State), Admits s w fltcPage 0xE00 →
    exec (.warmResetCmd w) s = .next (settle ((s.accessHit w 2 fltcPage).guardPassed w fltcPage 0xE00 (BitVec.ofNat 32 2))))
  ∧ (∀ (w : Who) (target : Fin 64) (s : State), Admits s w fltcPage 0xE00 →
    exec (.blockResetCmd w target) s = .next (settle ((s.accessHit w 2 fltcPage).guardPassed w fltcPage 0xE00 (BitVec.ofNat 32 (3 + 8 * target.val)))))
  ∧ (∀ (w : Who) (target : Fin 64) (s : State), Admits s w fltcPage 0xE00 →
    exec (.clusterResetCmd w target) s = .next (settle ((s.accessHit w 2 fltcPage).guardPassed w fltcPage 0xE00 (BitVec.ofNat 32 (4 + 8 * target.val)))))
  ∧ (∀ (w : Who) (target : Fin 64) (s : State), Admits s w fltcPage 0xE00 →
    exec (.releaseIsolated w target) s = .next (settle ((s.accessHit w 2 fltcPage).guardPassed w fltcPage 0xE00 (BitVec.ofNat 32 (5 + 8 * target.val)))))
  ∧ (∀ (i : Island) (s : State), exec (.blockResetReady i) s = .next (settle (s.doBlockResetReady i)))
  ∧ (∀ (sl : Slice) (s : State), exec (.sliceReloadDone sl) s = .next (settle (s.doSliceReloadDone sl)))
  ∧ (∀ (i : Island) (s : State), exec (.guyWindowEnd i) s = .next (settle (s.doGuyWindowEnd i)))
  ∧ (∀ (s : State), Admits s .host fltcPage 0xE04 →
    exec .recordClrFatal s = .next (settle ((s.accessHit .host 2 fltcPage).guardPassed .host fltcPage 0xE04 (BitVec.ofNat 32 1))))
  ∧ (∀ (s : State), Admits s .host fltcPage 0xE04 →
    exec .recordClrLast s = .next (settle ((s.accessHit .host 2 fltcPage).guardPassed .host fltcPage 0xE04 (BitVec.ofNat 32 2))))
  ∧ (∀ (s : State), exec .slowCopyRefresh s = .next (settle (s.doSlowCopyRefresh)))
  ∧ (∀ (s : State), exec .standbyPowerUp s = .next (settle (s.doStandbyPowerUp)))
  ∧ (∀ (lost : List (BitVec 32)) (s : State), exec (.nvMountDone lost) s = .next (settle (s.doNvMountDone (lost.map fun x => x.toNat))))
  ∧ (∀ (s : State), exec .mainPowerUp s = .next (settle (s.doMainPowerUp)))
  ∧ (∀ (s : State), exec .railsInRegulation s = .next (settle (s.doRailsInRegulation)))
  ∧ (∀ (s : State), exec .islandsClocked s = .next (settle (s.doIslandsClocked)))
  ∧ (∀ (s : State), exec .bootVerifyDone s = .next (settle (s.doBootVerifyDone)))
  ∧ (∀ (s : State), exec .microcodeLoaded s = .next (settle (s.doMicrocodeLoaded)))
  ∧ (∀ (s : State), exec .islandsSelftestDone s = .next (settle (s.doIslandsSelftestDone)))
  ∧ (∀ (s : State), exec .maelwickLoaded s = .next (settle (s.doMaelwickLoaded)))
  ∧ (∀ (s : State), exec .trialTimeout s = .next (settle (s.doTrialTimeout)))
  ∧ (∀ (slot : Fin 2) (s : State), TakesTurn s .host nvstPage 0x100 →
    ∃ c1 c2, exec (.updateBegin slot) s = .next (settle (((s.withCtrs c1).doUpdateBegin slot).withCtrs c2)))
  ∧ (∀ (slot : Fin 2) (idx : BitVec 16) (s : State), TakesTurn s .host nvstPage 0x100 →
    ∃ c1 c2, exec (.updateWrite slot idx) s = .next (settle (((s.withCtrs c1).doUpdateWrite slot idx.toNat).withCtrs c2)))
  ∧ (∀ (slot : Fin 2) (s : State), TakesTurn s .host nvstPage 0x100 →
    ∃ c1 c2, exec (.updateFinish slot) s = .next (settle (((s.withCtrs c1).doUpdateFinish slot).withCtrs c2)))
  ∧ (∀ (slot : Fin 2) (s : State), TakesTurn s .host nvstPage 0x100 →
    ∃ c1 c2, exec (.updateAbandon slot) s = .next (settle (((s.withCtrs c1).doUpdateAbandon slot).withCtrs c2)))
  ∧ (∀ (s : State), TakesTurn s .host nvstPage 0x100 →
    ∃ c1 c2, exec .updateConfirm s = .next (settle (((s.withCtrs c1).doUpdateConfirm).withCtrs c2)))
  ∧ (∀ (slot : Fin 2) (s : State), TakesTurn s .host nvstPage 0x100 →
    ∃ c1 c2, exec (.updateSelect slot) s = .next (settle (((s.withCtrs c1).doUpdateSelect slot).withCtrs c2)))
  ∧ (∀ (s : State), TakesTurn s .host nvstPage 0x110 →
    ∃ c1 c2, exec .objectWrite s = .next (settle (((s.withCtrs c1).doObjectWrite).withCtrs c2)))
  ∧ (∀ (s : State), TakesTurn s .host nvstPage 0x110 →
    ∃ c1 c2, exec .objectRead s = .next (settle (((s.withCtrs c1).doObjectRead).withCtrs c2)))
  ∧ (∀ (s : State), TakesTurn s .host nvstPage 0x110 →
    ∃ c1 c2, exec .objectDelete s = .next (settle (((s.withCtrs c1).doObjectDelete).withCtrs c2)))
  ∧ (∀ (i : Fin 64) (s : State), Admits s .host nvstPage 0x130 →
    ∃ c1 c2, exec (.diagRun i) s = .next (settle (((s.withCtrs c1).doDiagRun i).withCtrs c2)))
  ∧ (∀ (ok : Bool) (s : State), exec (.diagDone ok) s = .next (settle (s.doDiagDone ok)))
  ∧ (∀ (floor : BitVec 16) (s : State), Admits s .host nvstPage 0xE00 →
    exec (.svnRaise floor) s = .next (settle ((s.accessHit .host 2 nvstPage).guardPassed .host nvstPage 0xE00 (BitVec.ofNat 32 floor.toNat))))
  ∧ (∀ (s : State), exec .nvCkptCopyDone s = .next (settle (s.doNvCkptCopyDone)))
  ∧ (∀ (s : State), exec .journalPageProgram s = .next (settle (s.doJournalPageProgram)))
  ∧ (∀ (_page : BitVec 20) (corrected : Nat) (old : Bool) (retired : Bool) (s : State), exec (.nvRefreshScan _page corrected old retired) s = .next (settle (s.doNvRefreshScan corrected old retired)))
  ∧ (∀ (lowNs : Nat) (s : State), exec (.resetNAssert lowNs) s = .next (settle (s.doResetNAssert lowNs)))
  ∧ (∀ (s : State), exec .resetNRelease s = .next (settle (s.doResetNRelease)))
  ∧ (∀ (c : PowerFailCause) (s : State), exec (.powerFailInput c) s = .next (settle (s.doPowerFailInput c)))
  ∧ (∀ (s : State), exec .vin12Low s = .next (settle (s.doVin12Low)))
  ∧ (∀ (s : State), exec .vin12Off s = .next (settle (s.doVin12Off)))
  ∧ (∀ (s : State), exec .vin12Return s = .next (settle (s.doVin12Return)))
  ∧ (∀ (s : State), exec .bmcReadIdentity s = .next (settle (s.doBmcReadIdentity)))
  ∧ (∀ (s : State), exec .bmcReadDevInfo s = .next (settle (s.doBmcReadDevInfo)))
  ∧ (∀ (s : State), exec .bmcReadStatus s = .next (settle (s.doBmcReadStatus)))
  ∧ (∀ (s : State), exec .bmcReadTemp s = .next (settle (s.doBmcReadTemp)))
  ∧ (∀ (s : State), exec .bmcReadVin12 s = .next (settle (s.doBmcReadVin12)))
  ∧ (∀ (s : State), exec .bmcReadVin12Current s = .next (settle (s.doBmcReadVin12Current)))
  ∧ (∀ (s : State), exec .bmcReadVsb33 s = .next (settle (s.doBmcReadVsb33)))
  ∧ (∀ (s : State), exec .bmcReadPower s = .next (settle (s.doBmcReadPower)))
  ∧ (∀ (s : State), exec .bmcReadFatal s = .next (settle (s.doBmcReadFatal)))
  ∧ (∀ (s : State), exec .bmcReadLastReset s = .next (settle (s.doBmcReadLastReset)))
  ∧ (∀ (s : State), exec .bmcReadAlertStatus s = .next (settle (s.doBmcReadAlertStatus)))
  ∧ (∀ (v : Byte) (pecGood : Bool) (s : State), exec (.bmcClearAlertStatus v pecGood) s = .next (settle (s.doBmcClearAlert v pecGood)))
  ∧ (∀ (v : Byte) (pecGood : Bool) (s : State), exec (.bmcColdReset v pecGood) s = .next (settle (s.doBmcColdReset v pecGood)))
  ∧ (∀ (s : State), exec .smbAlertResponse s = .next (settle (s.doSmbAlertResponse)))
  ∧ (∀ (temp : Byte) (island : Island) (vin12mV vin12dA vsb33mV powerW : BitVec 16) (s : State), exec (.bmcReadingRefresh temp island vin12mV vin12dA vsb33mV powerW) s = .next (settle (s.doBmcReadingRefresh temp.toNat island vin12mV.toNat vin12dA.toNat vsb33mV.toNat powerW.toNat)))
  ∧ (∀ (verified : Bool) (s : State), exec (.nvCommandDone verified) s = .next (settle (s.doNvCommandDone verified)))
end

