-- ==== Sys2Proof/Laws/Map.lean ====
section
/-! SUPPORT. Maps and byte memories: a read after a write, and the canonical form that every operation keeps. -/

namespace Sys2Proof.Machine

variable {α : Type}

theorem mget_merase_self (d : α) (m : Map α) (k : Nat) : mget d (merase m k) k = d := by
  induction m with
  | nil => rfl
  | cons e r ih =>
    obtain ⟨i, v⟩ := e
    by_cases h : i = k <;> simp [merase, mget, h, ih]

theorem mget_merase_ne (d : α) (m : Map α) {j k : Nat} (h : j ≠ k) : mget d (merase m k) j = mget d m j := by
  induction m with
  | nil => rfl
  | cons e r ih =>
    obtain ⟨i, v⟩ := e
    simp only [merase, mget]
    split
    · next hk => rw [if_neg (by omega), ih]
    · simp only [mget, ih]

theorem mget_mins_ne (d : α) (m : Map α) {j k : Nat} (v : α) (h : j ≠ k) : mget d (mins k v m) j = mget d m j := by
  induction m with
  | nil => simp [mins, mget, Ne.symm h]
  | cons e r ih =>
    obtain ⟨i, w⟩ := e
    by_cases hk : k < i <;> simp [mins, mget, hk, ih, Ne.symm h]

theorem mget_mins_self (d : α) (m : Map α) (k : Nat) (v : α) : mget d (mins k v (merase m k)) k = v := by
  induction m with
  | nil => simp [merase, mins, mget]
  | cons e r ih =>
    obtain ⟨i, w⟩ := e
    by_cases hk : i = k
    · simp [merase, hk, ih]
    · by_cases hl : k < i <;> simp [merase, mins, mget, hk, hl, ih]

/-- A read after a write of the same key. -/
@[simp] theorem mget_mset_self [DecidableEq α] (d : α) (m : Map α) (k : Nat) (v : α) : mget d (mset d m k v) k = v := by
  unfold mset
  split
  · next h => rw [mget_merase_self, h]
  · exact mget_mins_self d m k v

/-- A read after a write of another key; the two keys may have defaults of their own. -/
theorem mget_mset_ne [DecidableEq α] (d d' : α) (m : Map α) {j k : Nat} (v : α) (h : j ≠ k) :
    mget d (mset d' m k v) j = mget d m j := by
  unfold mset
  split
  · exact mget_merase_ne d m h
  · rw [mget_mins_ne d _ v h, mget_merase_ne d m h]

/-- A read after a write. -/
theorem mget_mset [DecidableEq α] (d : α) (m : Map α) (j k : Nat) (v : α) :
    mget d (mset d m k v) j = if j = k then v else mget d m j := by
  split
  · next h => rw [h, mget_mset_self]
  · next h => exact mget_mset_ne d d m v h

/-! ### The canonical form -/

/-- Every key is above `b`. -/
def above (b : Nat) (m : Map α) : Prop := ∀ e ∈ m, b < e.1

theorem mrising_cons (i : Nat) (v : α) (m : Map α) : mrising ((i, v) :: m) = true ↔ above i m ∧ mrising m = true := by
  induction m generalizing i v with
  | nil => simp [mrising, above]
  | cons e r ih =>
    obtain ⟨j, w⟩ := e
    simp only [mrising, Bool.and_eq_true, decide_eq_true_eq]
    constructor
    · rintro ⟨h, hr⟩
      refine ⟨?_, hr⟩
      intro x hx
      rcases List.mem_cons.mp hx with rfl | hx
      · exact h
      · exact Nat.lt_trans h (((ih j w).mp hr).1 x hx)
    · rintro ⟨ha, hr⟩
      exact ⟨ha _ (List.mem_cons_self ..), hr⟩

theorem merase_sublist (m : Map α) (k : Nat) : (merase m k).Sublist m := by
  induction m with
  | nil => exact List.Sublist.slnil
  | cons e r ih =>
    obtain ⟨i, v⟩ := e
    by_cases h : i = k
    · simpa [merase, h] using ih.trans (List.sublist_cons_self _ _)
    · simpa [merase, h] using ih

theorem mem_mins (k : Nat) (v : α) (m : Map α) (x : Nat × α) : x ∈ mins k v m ↔ x = (k, v) ∨ x ∈ m := by
  induction m with
  | nil => simp [mins]
  | cons e r ih =>
    obtain ⟨i, w⟩ := e
    by_cases h : k < i
    · simp [mins, h]
    · simp only [mins, h, if_false, List.mem_cons, ih, or_left_comm]

theorem mrising_merase (m : Map α) (k : Nat) (h : mrising m = true) : mrising (merase m k) = true := by
  induction m with
  | nil => rfl
  | cons e r ih =>
    obtain ⟨i, v⟩ := e
    rw [mrising_cons] at h
    by_cases hk : i = k
    · simpa [merase, hk] using ih h.2
    · have : merase ((i, v) :: r) k = (i, v) :: merase r k := by simp [merase, hk]
      rw [this, mrising_cons]
      exact ⟨fun x hx => h.1 x ((merase_sublist r k).subset hx), ih h.2⟩

theorem mrising_mins (m : Map α) (k : Nat) (v : α) (h : mrising m = true) (hk : ∀ e ∈ m, e.1 ≠ k) : mrising (mins k v m) = true := by
  induction m with
  | nil => rfl
  | cons e r ih =>
    obtain ⟨i, w⟩ := e
    have h' := (mrising_cons i w r).mp h
    by_cases hl : k < i
    · have : mins k v ((i, w) :: r) = (k, v) :: (i, w) :: r := by simp [mins, hl]
      rw [this, mrising_cons]
      refine ⟨fun x hx => ?_, h⟩
      rcases List.mem_cons.mp hx with rfl | hx
      · exact hl
      · exact Nat.lt_trans hl (h'.1 x hx)
    · have : mins k v ((i, w) :: r) = (i, w) :: mins k v r := by simp [mins, hl]
      rw [this, mrising_cons]
      refine ⟨fun x hx => ?_, ih h'.2 fun e he => hk e (List.mem_cons_of_mem _ he)⟩
      rcases (mem_mins k v r x).mp hx with rfl | hx
      · have := hk (i, w) (List.mem_cons_self ..)
        simp only at this ⊢; omega
      · exact h'.1 x hx

theorem merase_not_mem (m : Map α) (k : Nat) : ∀ e ∈ merase m k, e.1 ≠ k := by
  induction m with
  | nil => simp [merase]
  | cons e r ih =>
    obtain ⟨i, v⟩ := e
    intro x hx
    by_cases h : i = k
    · exact ih x (by simpa [merase, h] using hx)
    · have : merase ((i, v) :: r) k = (i, v) :: merase r k := by simp [merase, h]
      rw [this] at hx
      rcases List.mem_cons.mp hx with rfl | hx
      · exact h
      · exact ih x hx

/-- A write keeps the canonical form. -/
theorem mwf_mset [DecidableEq α] (d : α) (m : Map α) (k : Nat) (v : α) (h : mwf d m = true) : mwf d (mset d m k v) = true := by
  simp only [mwf, Bool.and_eq_true, List.all_eq_true, decide_eq_true_eq] at h ⊢
  have hs := merase_sublist m k
  unfold mset
  split
  · exact ⟨mrising_merase m k h.1, fun x hx => h.2 x (hs.subset hx)⟩
  · next hv =>
    refine ⟨mrising_mins _ k v (mrising_merase m k h.1) (merase_not_mem m k), fun x hx => ?_⟩
    rcases (mem_mins k v _ x).mp hx with rfl | hx
    · exact hv
    · exact h.2 x (hs.subset hx)

/-! ### Byte memories -/

@[simp] theorem Mem.get_set_self (m : Mem) (a : Nat) (b : Byte) : (m.set a b).get a = b := mget_mset_self _ _ _ _
theorem Mem.get_set_ne (m : Mem) {a c : Nat} (b : Byte) (h : c ≠ a) : (m.set a b).get c = m.get c := mget_mset_ne _ _ _ _ h
theorem Mem.wf_set (m : Mem) (a : Nat) (b : Byte) (h : m.wf = true) : (m.set a b).wf = true := mwf_mset _ _ _ _ h

/-- A write of bytes leaves every other byte alone. -/
theorem Mem.get_write_of_outside (m : Mem) (a c : Nat) (l : List Byte) (h : c < a ∨ a + l.length ≤ c) :
    (m.write a l).get c = m.get c := by
  induction l generalizing m a with
  | nil => rfl
  | cons b r ih =>
    simp only [List.length_cons] at h
    rw [Mem.write, ih _ _ (by omega), Mem.get_set_ne _ _ (by omega)]

/-- A read of what was written. -/
theorem Mem.get_write (m : Mem) (a : Nat) (l : List Byte) (i : Nat) (h : i < l.length) : (m.write a l).get (a + i) = l[i] := by
  induction l generalizing m a i with
  | nil => simp at h
  | cons b r ih =>
    rw [Mem.write]
    cases i with
    | zero => rw [Mem.get_write_of_outside _ _ _ _ (by omega)]; exact Mem.get_set_self m a b
    | succ i =>
      have := ih (m.set a b) (a + 1) i (by simpa using h)
      rw [show a + (i + 1) = a + 1 + i by omega, this]; rfl

/-- Every memory operation keeps the canonical form. -/
theorem Mem.wf_write (m : Mem) (a : Nat) (l : List Byte) (h : m.wf = true) : (m.write a l).wf = true := by
  induction l generalizing m a with
  | nil => exact h
  | cons b r ih => exact ih _ _ (Mem.wf_set _ _ _ h)

/-- The memories of the state after reset are canonical. -/
theorem reset_mems_wf : State.reset.host.mem.wf = true ∧ State.reset.svc.poolMem.wf = true := ⟨rfl, rfl⟩

/-! ### Loops -/

/-- What every turn keeps, the loop keeps. -/
theorem foldl_keep {β γ : Type} (P : State → γ) (f : State → β → State) (h : ∀ s b, P (f s b) = P s) :
    ∀ (l : List β) (s : State), P (l.foldl f s) = P s
  | [], _ => rfl
  | b :: r, s => (foldl_keep P f h r (f s b)).trans (h s b)

theorem State.each_keep {γ : Type} (P : State → γ) (f : State → Nat → State) (h : ∀ s n, P (f s n) = P s) (l : List Nat) (s : State) :
    P (s.each l f) = P s := foldl_keep P f h l s

end Sys2Proof.Machine
end

