-- ==== Sys2Proof/Laws/State.lean ====
section
/-! SUPPORT. What each update of the state leaves alone and what it sets, field by field. -/

namespace Sys2Proof.Machine

@[simp] theorem State.wr_now (s : State) (a : Nat) (v : Word) : (s.wr a v).now = s.now := (rfl)
@[simp] theorem State.wr_free (s : State) (a : Nat) (v : Word) : (s.wr a v).free = s.free := (rfl)
@[simp] theorem State.wr_pending (s : State) (a : Nat) (v : Word) : (s.wr a v).pending = s.pending := (rfl)
@[simp] theorem State.wr_out (s : State) (a : Nat) (v : Word) : (s.wr a v).out = s.out := (rfl)
@[simp] theorem State.wr_regs (s : State) (a : Nat) (v : Word) : (s.wr a v).regs = mset (resetAt a) s.regs a v := (rfl)
@[simp] theorem State.wr_shadow (s : State) (a : Nat) (v : Word) : (s.wr a v).shadow = s.shadow := (rfl)
@[simp] theorem State.wr_latch (s : State) (a : Nat) (v : Word) : (s.wr a v).latch = s.latch := (rfl)
@[simp] theorem State.wr_ctrs (s : State) (a : Nat) (v : Word) : (s.wr a v).ctrs = s.ctrs := (rfl)
@[simp] theorem State.wr_host (s : State) (a : Nat) (v : Word) : (s.wr a v).host = s.host := (rfl)
@[simp] theorem State.wr_ports (s : State) (a : Nat) (v : Word) : (s.wr a v).ports = s.ports := (rfl)
@[simp] theorem State.wr_tables (s : State) (a : Nat) (v : Word) : (s.wr a v).tables = s.tables := (rfl)
@[simp] theorem State.wr_sw (s : State) (a : Nat) (v : Word) : (s.wr a v).sw = s.sw := (rfl)
@[simp] theorem State.wr_trunk (s : State) (a : Nat) (v : Word) : (s.wr a v).trunk = s.trunk := (rfl)
@[simp] theorem State.wr_time (s : State) (a : Nat) (v : Word) : (s.wr a v).time = s.time := (rfl)
@[simp] theorem State.wr_loom (s : State) (a : Nat) (v : Word) : (s.wr a v).loom = s.loom := (rfl)
@[simp] theorem State.wr_svc (s : State) (a : Nat) (v : Word) : (s.wr a v).svc = s.svc := (rfl)
@[simp] theorem State.wr_sys (s : State) (a : Nat) (v : Word) : (s.wr a v).sys = s.sys := (rfl)

@[simp] theorem State.setFld_now (s : State) (pg : Nat) (f : Fld) (v : Nat) : (s.setFld pg f v).now = s.now := (rfl)
@[simp] theorem State.setFld_free (s : State) (pg : Nat) (f : Fld) (v : Nat) : (s.setFld pg f v).free = s.free := (rfl)
@[simp] theorem State.setFld_pending (s : State) (pg : Nat) (f : Fld) (v : Nat) : (s.setFld pg f v).pending = s.pending := (rfl)
@[simp] theorem State.setFld_out (s : State) (pg : Nat) (f : Fld) (v : Nat) : (s.setFld pg f v).out = s.out := (rfl)
@[simp] theorem State.setFld_shadow (s : State) (pg : Nat) (f : Fld) (v : Nat) : (s.setFld pg f v).shadow = s.shadow := (rfl)
@[simp] theorem State.setFld_latch (s : State) (pg : Nat) (f : Fld) (v : Nat) : (s.setFld pg f v).latch = s.latch := (rfl)
@[simp] theorem State.setFld_ctrs (s : State) (pg : Nat) (f : Fld) (v : Nat) : (s.setFld pg f v).ctrs = s.ctrs := (rfl)
@[simp] theorem State.setFld_host (s : State) (pg : Nat) (f : Fld) (v : Nat) : (s.setFld pg f v).host = s.host := (rfl)
@[simp] theorem State.setFld_ports (s : State) (pg : Nat) (f : Fld) (v : Nat) : (s.setFld pg f v).ports = s.ports := (rfl)
@[simp] theorem State.setFld_tables (s : State) (pg : Nat) (f : Fld) (v : Nat) : (s.setFld pg f v).tables = s.tables := (rfl)
@[simp] theorem State.setFld_sw (s : State) (pg : Nat) (f : Fld) (v : Nat) : (s.setFld pg f v).sw = s.sw := (rfl)
@[simp] theorem State.setFld_trunk (s : State) (pg : Nat) (f : Fld) (v : Nat) : (s.setFld pg f v).trunk = s.trunk := (rfl)
@[simp] theorem State.setFld_time (s : State) (pg : Nat) (f : Fld) (v : Nat) : (s.setFld pg f v).time = s.time := (rfl)
@[simp] theorem State.setFld_loom (s : State) (pg : Nat) (f : Fld) (v : Nat) : (s.setFld pg f v).loom = s.loom := (rfl)
@[simp] theorem State.setFld_svc (s : State) (pg : Nat) (f : Fld) (v : Nat) : (s.setFld pg f v).svc = s.svc := (rfl)
@[simp] theorem State.setFld_sys (s : State) (pg : Nat) (f : Fld) (v : Nat) : (s.setFld pg f v).sys = s.sys := (rfl)

@[simp] theorem State.setFlag_now (s : State) (pg : Nat) (f : Fld) (b : Bool) : (s.setFlag pg f b).now = s.now := (rfl)
@[simp] theorem State.setFlag_free (s : State) (pg : Nat) (f : Fld) (b : Bool) : (s.setFlag pg f b).free = s.free := (rfl)
@[simp] theorem State.setFlag_pending (s : State) (pg : Nat) (f : Fld) (b : Bool) : (s.setFlag pg f b).pending = s.pending := (rfl)
@[simp] theorem State.setFlag_out (s : State) (pg : Nat) (f : Fld) (b : Bool) : (s.setFlag pg f b).out = s.out := (rfl)
@[simp] theorem State.setFlag_shadow (s : State) (pg : Nat) (f : Fld) (b : Bool) : (s.setFlag pg f b).shadow = s.shadow := (rfl)
@[simp] theorem State.setFlag_latch (s : State) (pg : Nat) (f : Fld) (b : Bool) : (s.setFlag pg f b).latch = s.latch := (rfl)
@[simp] theorem State.setFlag_ctrs (s : State) (pg : Nat) (f : Fld) (b : Bool) : (s.setFlag pg f b).ctrs = s.ctrs := (rfl)
@[simp] theorem State.setFlag_host (s : State) (pg : Nat) (f : Fld) (b : Bool) : (s.setFlag pg f b).host = s.host := (rfl)
@[simp] theorem State.setFlag_ports (s : State) (pg : Nat) (f : Fld) (b : Bool) : (s.setFlag pg f b).ports = s.ports := (rfl)
@[simp] theorem State.setFlag_tables (s : State) (pg : Nat) (f : Fld) (b : Bool) : (s.setFlag pg f b).tables = s.tables := (rfl)
@[simp] theorem State.setFlag_sw (s : State) (pg : Nat) (f : Fld) (b : Bool) : (s.setFlag pg f b).sw = s.sw := (rfl)
@[simp] theorem State.setFlag_trunk (s : State) (pg : Nat) (f : Fld) (b : Bool) : (s.setFlag pg f b).trunk = s.trunk := (rfl)
@[simp] theorem State.setFlag_time (s : State) (pg : Nat) (f : Fld) (b : Bool) : (s.setFlag pg f b).time = s.time := (rfl)
@[simp] theorem State.setFlag_loom (s : State) (pg : Nat) (f : Fld) (b : Bool) : (s.setFlag pg f b).loom = s.loom := (rfl)
@[simp] theorem State.setFlag_svc (s : State) (pg : Nat) (f : Fld) (b : Bool) : (s.setFlag pg f b).svc = s.svc := (rfl)
@[simp] theorem State.setFlag_sys (s : State) (pg : Nat) (f : Fld) (b : Bool) : (s.setFlag pg f b).sys = s.sys := (rfl)

@[simp] theorem State.setEvtBit_now (s : State) (a n : Nat) (b : Bool) : (s.setEvtBit a n b).now = s.now := (rfl)
@[simp] theorem State.setEvtBit_free (s : State) (a n : Nat) (b : Bool) : (s.setEvtBit a n b).free = s.free := (rfl)
@[simp] theorem State.setEvtBit_pending (s : State) (a n : Nat) (b : Bool) : (s.setEvtBit a n b).pending = s.pending := (rfl)
@[simp] theorem State.setEvtBit_out (s : State) (a n : Nat) (b : Bool) : (s.setEvtBit a n b).out = s.out := (rfl)
@[simp] theorem State.setEvtBit_shadow (s : State) (a n : Nat) (b : Bool) : (s.setEvtBit a n b).shadow = s.shadow := (rfl)
@[simp] theorem State.setEvtBit_latch (s : State) (a n : Nat) (b : Bool) : (s.setEvtBit a n b).latch = s.latch := (rfl)
@[simp] theorem State.setEvtBit_ctrs (s : State) (a n : Nat) (b : Bool) : (s.setEvtBit a n b).ctrs = s.ctrs := (rfl)
@[simp] theorem State.setEvtBit_host (s : State) (a n : Nat) (b : Bool) : (s.setEvtBit a n b).host = s.host := (rfl)
@[simp] theorem State.setEvtBit_ports (s : State) (a n : Nat) (b : Bool) : (s.setEvtBit a n b).ports = s.ports := (rfl)
@[simp] theorem State.setEvtBit_tables (s : State) (a n : Nat) (b : Bool) : (s.setEvtBit a n b).tables = s.tables := (rfl)
@[simp] theorem State.setEvtBit_sw (s : State) (a n : Nat) (b : Bool) : (s.setEvtBit a n b).sw = s.sw := (rfl)
@[simp] theorem State.setEvtBit_trunk (s : State) (a n : Nat) (b : Bool) : (s.setEvtBit a n b).trunk = s.trunk := (rfl)
@[simp] theorem State.setEvtBit_time (s : State) (a n : Nat) (b : Bool) : (s.setEvtBit a n b).time = s.time := (rfl)
@[simp] theorem State.setEvtBit_loom (s : State) (a n : Nat) (b : Bool) : (s.setEvtBit a n b).loom = s.loom := (rfl)
@[simp] theorem State.setEvtBit_svc (s : State) (a n : Nat) (b : Bool) : (s.setEvtBit a n b).svc = s.svc := (rfl)
@[simp] theorem State.setEvtBit_sys (s : State) (a n : Nat) (b : Bool) : (s.setEvtBit a n b).sys = s.sys := (rfl)

@[simp] theorem State.setCtr_now (s : State) (pg off n : Nat) : (s.setCtr pg off n).now = s.now := (rfl)
@[simp] theorem State.setCtr_free (s : State) (pg off n : Nat) : (s.setCtr pg off n).free = s.free := (rfl)
@[simp] theorem State.setCtr_pending (s : State) (pg off n : Nat) : (s.setCtr pg off n).pending = s.pending := (rfl)
@[simp] theorem State.setCtr_out (s : State) (pg off n : Nat) : (s.setCtr pg off n).out = s.out := (rfl)
@[simp] theorem State.setCtr_regs (s : State) (pg off n : Nat) : (s.setCtr pg off n).regs = s.regs := (rfl)
@[simp] theorem State.setCtr_shadow (s : State) (pg off n : Nat) : (s.setCtr pg off n).shadow = s.shadow := (rfl)
@[simp] theorem State.setCtr_latch (s : State) (pg off n : Nat) : (s.setCtr pg off n).latch = s.latch := (rfl)
@[simp] theorem State.setCtr_ctrs (s : State) (pg off n : Nat) : (s.setCtr pg off n).ctrs = mset 0 s.ctrs (regA pg off) n := (rfl)
@[simp] theorem State.setCtr_host (s : State) (pg off n : Nat) : (s.setCtr pg off n).host = s.host := (rfl)
@[simp] theorem State.setCtr_ports (s : State) (pg off n : Nat) : (s.setCtr pg off n).ports = s.ports := (rfl)
@[simp] theorem State.setCtr_tables (s : State) (pg off n : Nat) : (s.setCtr pg off n).tables = s.tables := (rfl)
@[simp] theorem State.setCtr_sw (s : State) (pg off n : Nat) : (s.setCtr pg off n).sw = s.sw := (rfl)
@[simp] theorem State.setCtr_trunk (s : State) (pg off n : Nat) : (s.setCtr pg off n).trunk = s.trunk := (rfl)
@[simp] theorem State.setCtr_time (s : State) (pg off n : Nat) : (s.setCtr pg off n).time = s.time := (rfl)
@[simp] theorem State.setCtr_loom (s : State) (pg off n : Nat) : (s.setCtr pg off n).loom = s.loom := (rfl)
@[simp] theorem State.setCtr_svc (s : State) (pg off n : Nat) : (s.setCtr pg off n).svc = s.svc := (rfl)
@[simp] theorem State.setCtr_sys (s : State) (pg off n : Nat) : (s.setCtr pg off n).sys = s.sys := (rfl)

@[simp] theorem State.count_now (s : State) (pg off n : Nat) : (s.count pg off n).now = s.now := (rfl)
@[simp] theorem State.count_free (s : State) (pg off n : Nat) : (s.count pg off n).free = s.free := (rfl)
@[simp] theorem State.count_pending (s : State) (pg off n : Nat) : (s.count pg off n).pending = s.pending := (rfl)
@[simp] theorem State.count_out (s : State) (pg off n : Nat) : (s.count pg off n).out = s.out := (rfl)
@[simp] theorem State.count_regs (s : State) (pg off n : Nat) : (s.count pg off n).regs = s.regs := (rfl)
@[simp] theorem State.count_shadow (s : State) (pg off n : Nat) : (s.count pg off n).shadow = s.shadow := (rfl)
@[simp] theorem State.count_latch (s : State) (pg off n : Nat) : (s.count pg off n).latch = s.latch := (rfl)
@[simp] theorem State.count_ctrs (s : State) (pg off n : Nat) : (s.count pg off n).ctrs = mset 0 s.ctrs (regA pg off) ((s.ctr pg off + n) % 2 ^ 64) := (rfl)
@[simp] theorem State.count_host (s : State) (pg off n : Nat) : (s.count pg off n).host = s.host := (rfl)
@[simp] theorem State.count_ports (s : State) (pg off n : Nat) : (s.count pg off n).ports = s.ports := (rfl)
@[simp] theorem State.count_tables (s : State) (pg off n : Nat) : (s.count pg off n).tables = s.tables := (rfl)
@[simp] theorem State.count_sw (s : State) (pg off n : Nat) : (s.count pg off n).sw = s.sw := (rfl)
@[simp] theorem State.count_trunk (s : State) (pg off n : Nat) : (s.count pg off n).trunk = s.trunk := (rfl)
@[simp] theorem State.count_time (s : State) (pg off n : Nat) : (s.count pg off n).time = s.time := (rfl)
@[simp] theorem State.count_loom (s : State) (pg off n : Nat) : (s.count pg off n).loom = s.loom := (rfl)
@[simp] theorem State.count_svc (s : State) (pg off n : Nat) : (s.count pg off n).svc = s.svc := (rfl)
@[simp] theorem State.count_sys (s : State) (pg off n : Nat) : (s.count pg off n).sys = s.sys := (rfl)

@[simp] theorem State.emit_now (s : State) (o : Out) : (s.emit o).now = s.now := (rfl)
@[simp] theorem State.emit_free (s : State) (o : Out) : (s.emit o).free = s.free := (rfl)
@[simp] theorem State.emit_pending (s : State) (o : Out) : (s.emit o).pending = s.pending := (rfl)
@[simp] theorem State.emit_out (s : State) (o : Out) : (s.emit o).out = o :: s.out := (rfl)
@[simp] theorem State.emit_regs (s : State) (o : Out) : (s.emit o).regs = s.regs := (rfl)
@[simp] theorem State.emit_shadow (s : State) (o : Out) : (s.emit o).shadow = s.shadow := (rfl)
@[simp] theorem State.emit_latch (s : State) (o : Out) : (s.emit o).latch = s.latch := (rfl)
@[simp] theorem State.emit_ctrs (s : State) (o : Out) : (s.emit o).ctrs = s.ctrs := (rfl)
@[simp] theorem State.emit_host (s : State) (o : Out) : (s.emit o).host = s.host := (rfl)
@[simp] theorem State.emit_ports (s : State) (o : Out) : (s.emit o).ports = s.ports := (rfl)
@[simp] theorem State.emit_tables (s : State) (o : Out) : (s.emit o).tables = s.tables := (rfl)
@[simp] theorem State.emit_sw (s : State) (o : Out) : (s.emit o).sw = s.sw := (rfl)
@[simp] theorem State.emit_trunk (s : State) (o : Out) : (s.emit o).trunk = s.trunk := (rfl)
@[simp] theorem State.emit_time (s : State) (o : Out) : (s.emit o).time = s.time := (rfl)
@[simp] theorem State.emit_loom (s : State) (o : Out) : (s.emit o).loom = s.loom := (rfl)
@[simp] theorem State.emit_svc (s : State) (o : Out) : (s.emit o).svc = s.svc := (rfl)
@[simp] theorem State.emit_sys (s : State) (o : Out) : (s.emit o).sys = s.sys := (rfl)

@[simp] theorem State.onHost_now (s : State) (f : HostSt → HostSt) : (s.onHost f).now = s.now := (rfl)
@[simp] theorem State.onHost_free (s : State) (f : HostSt → HostSt) : (s.onHost f).free = s.free := (rfl)
@[simp] theorem State.onHost_pending (s : State) (f : HostSt → HostSt) : (s.onHost f).pending = s.pending := (rfl)
@[simp] theorem State.onHost_out (s : State) (f : HostSt → HostSt) : (s.onHost f).out = s.out := (rfl)
@[simp] theorem State.onHost_regs (s : State) (f : HostSt → HostSt) : (s.onHost f).regs = s.regs := (rfl)
@[simp] theorem State.onHost_shadow (s : State) (f : HostSt → HostSt) : (s.onHost f).shadow = s.shadow := (rfl)
@[simp] theorem State.onHost_latch (s : State) (f : HostSt → HostSt) : (s.onHost f).latch = s.latch := (rfl)
@[simp] theorem State.onHost_ctrs (s : State) (f : HostSt → HostSt) : (s.onHost f).ctrs = s.ctrs := (rfl)
@[simp] theorem State.onHost_host (s : State) (f : HostSt → HostSt) : (s.onHost f).host = f s.host := (rfl)
@[simp] theorem State.onHost_ports (s : State) (f : HostSt → HostSt) : (s.onHost f).ports = s.ports := (rfl)
@[simp] theorem State.onHost_tables (s : State) (f : HostSt → HostSt) : (s.onHost f).tables = s.tables := (rfl)
@[simp] theorem State.onHost_sw (s : State) (f : HostSt → HostSt) : (s.onHost f).sw = s.sw := (rfl)
@[simp] theorem State.onHost_trunk (s : State) (f : HostSt → HostSt) : (s.onHost f).trunk = s.trunk := (rfl)
@[simp] theorem State.onHost_time (s : State) (f : HostSt → HostSt) : (s.onHost f).time = s.time := (rfl)
@[simp] theorem State.onHost_loom (s : State) (f : HostSt → HostSt) : (s.onHost f).loom = s.loom := (rfl)
@[simp] theorem State.onHost_svc (s : State) (f : HostSt → HostSt) : (s.onHost f).svc = s.svc := (rfl)
@[simp] theorem State.onHost_sys (s : State) (f : HostSt → HostSt) : (s.onHost f).sys = s.sys := (rfl)

@[simp] theorem State.onPorts_now (s : State) (f : Ports → Ports) : (s.onPorts f).now = s.now := (rfl)
@[simp] theorem State.onPorts_free (s : State) (f : Ports → Ports) : (s.onPorts f).free = s.free := (rfl)
@[simp] theorem State.onPorts_pending (s : State) (f : Ports → Ports) : (s.onPorts f).pending = s.pending := (rfl)
@[simp] theorem State.onPorts_out (s : State) (f : Ports → Ports) : (s.onPorts f).out = s.out := (rfl)
@[simp] theorem State.onPorts_regs (s : State) (f : Ports → Ports) : (s.onPorts f).regs = s.regs := (rfl)
@[simp] theorem State.onPorts_shadow (s : State) (f : Ports → Ports) : (s.onPorts f).shadow = s.shadow := (rfl)
@[simp] theorem State.onPorts_latch (s : State) (f : Ports → Ports) : (s.onPorts f).latch = s.latch := (rfl)
@[simp] theorem State.onPorts_ctrs (s : State) (f : Ports → Ports) : (s.onPorts f).ctrs = s.ctrs := (rfl)
@[simp] theorem State.onPorts_host (s : State) (f : Ports → Ports) : (s.onPorts f).host = s.host := (rfl)
@[simp] theorem State.onPorts_ports (s : State) (f : Ports → Ports) : (s.onPorts f).ports = f s.ports := (rfl)
@[simp] theorem State.onPorts_tables (s : State) (f : Ports → Ports) : (s.onPorts f).tables = s.tables := (rfl)
@[simp] theorem State.onPorts_sw (s : State) (f : Ports → Ports) : (s.onPorts f).sw = s.sw := (rfl)
@[simp] theorem State.onPorts_trunk (s : State) (f : Ports → Ports) : (s.onPorts f).trunk = s.trunk := (rfl)
@[simp] theorem State.onPorts_time (s : State) (f : Ports → Ports) : (s.onPorts f).time = s.time := (rfl)
@[simp] theorem State.onPorts_loom (s : State) (f : Ports → Ports) : (s.onPorts f).loom = s.loom := (rfl)
@[simp] theorem State.onPorts_svc (s : State) (f : Ports → Ports) : (s.onPorts f).svc = s.svc := (rfl)
@[simp] theorem State.onPorts_sys (s : State) (f : Ports → Ports) : (s.onPorts f).sys = s.sys := (rfl)

@[simp] theorem State.onTables_now (s : State) (f : Tables → Tables) : (s.onTables f).now = s.now := (rfl)
@[simp] theorem State.onTables_free (s : State) (f : Tables → Tables) : (s.onTables f).free = s.free := (rfl)
@[simp] theorem State.onTables_pending (s : State) (f : Tables → Tables) : (s.onTables f).pending = s.pending := (rfl)
@[simp] theorem State.onTables_out (s : State) (f : Tables → Tables) : (s.onTables f).out = s.out := (rfl)
@[simp] theorem State.onTables_regs (s : State) (f : Tables → Tables) : (s.onTables f).regs = s.regs := (rfl)
@[simp] theorem State.onTables_shadow (s : State) (f : Tables → Tables) : (s.onTables f).shadow = s.shadow := (rfl)
@[simp] theorem State.onTables_latch (s : State) (f : Tables → Tables) : (s.onTables f).latch = s.latch := (rfl)
@[simp] theorem State.onTables_ctrs (s : State) (f : Tables → Tables) : (s.onTables f).ctrs = s.ctrs := (rfl)
@[simp] theorem State.onTables_host (s : State) (f : Tables → Tables) : (s.onTables f).host = s.host := (rfl)
@[simp] theorem State.onTables_ports (s : State) (f : Tables → Tables) : (s.onTables f).ports = s.ports := (rfl)
@[simp] theorem State.onTables_tables (s : State) (f : Tables → Tables) : (s.onTables f).tables = f s.tables := (rfl)
@[simp] theorem State.onTables_sw (s : State) (f : Tables → Tables) : (s.onTables f).sw = s.sw := (rfl)
@[simp] theorem State.onTables_trunk (s : State) (f : Tables → Tables) : (s.onTables f).trunk = s.trunk := (rfl)
@[simp] theorem State.onTables_time (s : State) (f : Tables → Tables) : (s.onTables f).time = s.time := (rfl)
@[simp] theorem State.onTables_loom (s : State) (f : Tables → Tables) : (s.onTables f).loom = s.loom := (rfl)
@[simp] theorem State.onTables_svc (s : State) (f : Tables → Tables) : (s.onTables f).svc = s.svc := (rfl)
@[simp] theorem State.onTables_sys (s : State) (f : Tables → Tables) : (s.onTables f).sys = s.sys := (rfl)

@[simp] theorem State.onSw_now (s : State) (f : Switch → Switch) : (s.onSw f).now = s.now := (rfl)
@[simp] theorem State.onSw_free (s : State) (f : Switch → Switch) : (s.onSw f).free = s.free := (rfl)
@[simp] theorem State.onSw_pending (s : State) (f : Switch → Switch) : (s.onSw f).pending = s.pending := (rfl)
@[simp] theorem State.onSw_out (s : State) (f : Switch → Switch) : (s.onSw f).out = s.out := (rfl)
@[simp] theorem State.onSw_regs (s : State) (f : Switch → Switch) : (s.onSw f).regs = s.regs := (rfl)
@[simp] theorem State.onSw_shadow (s : State) (f : Switch → Switch) : (s.onSw f).shadow = s.shadow := (rfl)
@[simp] theorem State.onSw_latch (s : State) (f : Switch → Switch) : (s.onSw f).latch = s.latch := (rfl)
@[simp] theorem State.onSw_ctrs (s : State) (f : Switch → Switch) : (s.onSw f).ctrs = s.ctrs := (rfl)
@[simp] theorem State.onSw_host (s : State) (f : Switch → Switch) : (s.onSw f).host = s.host := (rfl)
@[simp] theorem State.onSw_ports (s : State) (f : Switch → Switch) : (s.onSw f).ports = s.ports := (rfl)
@[simp] theorem State.onSw_tables (s : State) (f : Switch → Switch) : (s.onSw f).tables = s.tables := (rfl)
@[simp] theorem State.onSw_sw (s : State) (f : Switch → Switch) : (s.onSw f).sw = f s.sw := (rfl)
@[simp] theorem State.onSw_trunk (s : State) (f : Switch → Switch) : (s.onSw f).trunk = s.trunk := (rfl)
@[simp] theorem State.onSw_time (s : State) (f : Switch → Switch) : (s.onSw f).time = s.time := (rfl)
@[simp] theorem State.onSw_loom (s : State) (f : Switch → Switch) : (s.onSw f).loom = s.loom := (rfl)
@[simp] theorem State.onSw_svc (s : State) (f : Switch → Switch) : (s.onSw f).svc = s.svc := (rfl)
@[simp] theorem State.onSw_sys (s : State) (f : Switch → Switch) : (s.onSw f).sys = s.sys := (rfl)

@[simp] theorem State.onTrunk_now (s : State) (f : Trunk → Trunk) : (s.onTrunk f).now = s.now := (rfl)
@[simp] theorem State.onTrunk_free (s : State) (f : Trunk → Trunk) : (s.onTrunk f).free = s.free := (rfl)
@[simp] theorem State.onTrunk_pending (s : State) (f : Trunk → Trunk) : (s.onTrunk f).pending = s.pending := (rfl)
@[simp] theorem State.onTrunk_out (s : State) (f : Trunk → Trunk) : (s.onTrunk f).out = s.out := (rfl)
@[simp] theorem State.onTrunk_regs (s : State) (f : Trunk → Trunk) : (s.onTrunk f).regs = s.regs := (rfl)
@[simp] theorem State.onTrunk_shadow (s : State) (f : Trunk → Trunk) : (s.onTrunk f).shadow = s.shadow := (rfl)
@[simp] theorem State.onTrunk_latch (s : State) (f : Trunk → Trunk) : (s.onTrunk f).latch = s.latch := (rfl)
@[simp] theorem State.onTrunk_ctrs (s : State) (f : Trunk → Trunk) : (s.onTrunk f).ctrs = s.ctrs := (rfl)
@[simp] theorem State.onTrunk_host (s : State) (f : Trunk → Trunk) : (s.onTrunk f).host = s.host := (rfl)
@[simp] theorem State.onTrunk_ports (s : State) (f : Trunk → Trunk) : (s.onTrunk f).ports = s.ports := (rfl)
@[simp] theorem State.onTrunk_tables (s : State) (f : Trunk → Trunk) : (s.onTrunk f).tables = s.tables := (rfl)
@[simp] theorem State.onTrunk_sw (s : State) (f : Trunk → Trunk) : (s.onTrunk f).sw = s.sw := (rfl)
@[simp] theorem State.onTrunk_trunk (s : State) (f : Trunk → Trunk) : (s.onTrunk f).trunk = f s.trunk := (rfl)
@[simp] theorem State.onTrunk_time (s : State) (f : Trunk → Trunk) : (s.onTrunk f).time = s.time := (rfl)
@[simp] theorem State.onTrunk_loom (s : State) (f : Trunk → Trunk) : (s.onTrunk f).loom = s.loom := (rfl)
@[simp] theorem State.onTrunk_svc (s : State) (f : Trunk → Trunk) : (s.onTrunk f).svc = s.svc := (rfl)
@[simp] theorem State.onTrunk_sys (s : State) (f : Trunk → Trunk) : (s.onTrunk f).sys = s.sys := (rfl)

@[simp] theorem State.onTime_now (s : State) (f : TimeSt → TimeSt) : (s.onTime f).now = s.now := (rfl)
@[simp] theorem State.onTime_free (s : State) (f : TimeSt → TimeSt) : (s.onTime f).free = s.free := (rfl)
@[simp] theorem State.onTime_pending (s : State) (f : TimeSt → TimeSt) : (s.onTime f).pending = s.pending := (rfl)
@[simp] theorem State.onTime_out (s : State) (f : TimeSt → TimeSt) : (s.onTime f).out = s.out := (rfl)
@[simp] theorem State.onTime_regs (s : State) (f : TimeSt → TimeSt) : (s.onTime f).regs = s.regs := (rfl)
@[simp] theorem State.onTime_shadow (s : State) (f : TimeSt → TimeSt) : (s.onTime f).shadow = s.shadow := (rfl)
@[simp] theorem State.onTime_latch (s : State) (f : TimeSt → TimeSt) : (s.onTime f).latch = s.latch := (rfl)
@[simp] theorem State.onTime_ctrs (s : State) (f : TimeSt → TimeSt) : (s.onTime f).ctrs = s.ctrs := (rfl)
@[simp] theorem State.onTime_host (s : State) (f : TimeSt → TimeSt) : (s.onTime f).host = s.host := (rfl)
@[simp] theorem State.onTime_ports (s : State) (f : TimeSt → TimeSt) : (s.onTime f).ports = s.ports := (rfl)
@[simp] theorem State.onTime_tables (s : State) (f : TimeSt → TimeSt) : (s.onTime f).tables = s.tables := (rfl)
@[simp] theorem State.onTime_sw (s : State) (f : TimeSt → TimeSt) : (s.onTime f).sw = s.sw := (rfl)
@[simp] theorem State.onTime_trunk (s : State) (f : TimeSt → TimeSt) : (s.onTime f).trunk = s.trunk := (rfl)
@[simp] theorem State.onTime_time (s : State) (f : TimeSt → TimeSt) : (s.onTime f).time = f s.time := (rfl)
@[simp] theorem State.onTime_loom (s : State) (f : TimeSt → TimeSt) : (s.onTime f).loom = s.loom := (rfl)
@[simp] theorem State.onTime_svc (s : State) (f : TimeSt → TimeSt) : (s.onTime f).svc = s.svc := (rfl)
@[simp] theorem State.onTime_sys (s : State) (f : TimeSt → TimeSt) : (s.onTime f).sys = s.sys := (rfl)

@[simp] theorem State.onSvc_now (s : State) (f : Service → Service) : (s.onSvc f).now = s.now := (rfl)
@[simp] theorem State.onSvc_free (s : State) (f : Service → Service) : (s.onSvc f).free = s.free := (rfl)
@[simp] theorem State.onSvc_pending (s : State) (f : Service → Service) : (s.onSvc f).pending = s.pending := (rfl)
@[simp] theorem State.onSvc_out (s : State) (f : Service → Service) : (s.onSvc f).out = s.out := (rfl)
@[simp] theorem State.onSvc_regs (s : State) (f : Service → Service) : (s.onSvc f).regs = s.regs := (rfl)
@[simp] theorem State.onSvc_shadow (s : State) (f : Service → Service) : (s.onSvc f).shadow = s.shadow := (rfl)
@[simp] theorem State.onSvc_latch (s : State) (f : Service → Service) : (s.onSvc f).latch = s.latch := (rfl)
@[simp] theorem State.onSvc_ctrs (s : State) (f : Service → Service) : (s.onSvc f).ctrs = s.ctrs := (rfl)
@[simp] theorem State.onSvc_host (s : State) (f : Service → Service) : (s.onSvc f).host = s.host := (rfl)
@[simp] theorem State.onSvc_ports (s : State) (f : Service → Service) : (s.onSvc f).ports = s.ports := (rfl)
@[simp] theorem State.onSvc_tables (s : State) (f : Service → Service) : (s.onSvc f).tables = s.tables := (rfl)
@[simp] theorem State.onSvc_sw (s : State) (f : Service → Service) : (s.onSvc f).sw = s.sw := (rfl)
@[simp] theorem State.onSvc_trunk (s : State) (f : Service → Service) : (s.onSvc f).trunk = s.trunk := (rfl)
@[simp] theorem State.onSvc_time (s : State) (f : Service → Service) : (s.onSvc f).time = s.time := (rfl)
@[simp] theorem State.onSvc_loom (s : State) (f : Service → Service) : (s.onSvc f).loom = s.loom := (rfl)
@[simp] theorem State.onSvc_svc (s : State) (f : Service → Service) : (s.onSvc f).svc = f s.svc := (rfl)
@[simp] theorem State.onSvc_sys (s : State) (f : Service → Service) : (s.onSvc f).sys = s.sys := (rfl)

@[simp] theorem State.onSys_now (s : State) (f : System → System) : (s.onSys f).now = s.now := (rfl)
@[simp] theorem State.onSys_free (s : State) (f : System → System) : (s.onSys f).free = s.free := (rfl)
@[simp] theorem State.onSys_pending (s : State) (f : System → System) : (s.onSys f).pending = s.pending := (rfl)
@[simp] theorem State.onSys_out (s : State) (f : System → System) : (s.onSys f).out = s.out := (rfl)
@[simp] theorem State.onSys_regs (s : State) (f : System → System) : (s.onSys f).regs = s.regs := (rfl)
@[simp] theorem State.onSys_shadow (s : State) (f : System → System) : (s.onSys f).shadow = s.shadow := (rfl)
@[simp] theorem State.onSys_latch (s : State) (f : System → System) : (s.onSys f).latch = s.latch := (rfl)
@[simp] theorem State.onSys_ctrs (s : State) (f : System → System) : (s.onSys f).ctrs = s.ctrs := (rfl)
@[simp] theorem State.onSys_host (s : State) (f : System → System) : (s.onSys f).host = s.host := (rfl)
@[simp] theorem State.onSys_ports (s : State) (f : System → System) : (s.onSys f).ports = s.ports := (rfl)
@[simp] theorem State.onSys_tables (s : State) (f : System → System) : (s.onSys f).tables = s.tables := (rfl)
@[simp] theorem State.onSys_sw (s : State) (f : System → System) : (s.onSys f).sw = s.sw := (rfl)
@[simp] theorem State.onSys_trunk (s : State) (f : System → System) : (s.onSys f).trunk = s.trunk := (rfl)
@[simp] theorem State.onSys_time (s : State) (f : System → System) : (s.onSys f).time = s.time := (rfl)
@[simp] theorem State.onSys_loom (s : State) (f : System → System) : (s.onSys f).loom = s.loom := (rfl)
@[simp] theorem State.onSys_svc (s : State) (f : System → System) : (s.onSys f).svc = s.svc := (rfl)
@[simp] theorem State.onSys_sys (s : State) (f : System → System) : (s.onSys f).sys = f s.sys := (rfl)

@[simp] theorem State.onNv_now (s : State) (f : Nv → Nv) : (s.onNv f).now = s.now := (rfl)
@[simp] theorem State.onNv_free (s : State) (f : Nv → Nv) : (s.onNv f).free = s.free := (rfl)
@[simp] theorem State.onNv_pending (s : State) (f : Nv → Nv) : (s.onNv f).pending = s.pending := (rfl)
@[simp] theorem State.onNv_out (s : State) (f : Nv → Nv) : (s.onNv f).out = s.out := (rfl)
@[simp] theorem State.onNv_regs (s : State) (f : Nv → Nv) : (s.onNv f).regs = s.regs := (rfl)
@[simp] theorem State.onNv_shadow (s : State) (f : Nv → Nv) : (s.onNv f).shadow = s.shadow := (rfl)
@[simp] theorem State.onNv_latch (s : State) (f : Nv → Nv) : (s.onNv f).latch = s.latch := (rfl)
@[simp] theorem State.onNv_ctrs (s : State) (f : Nv → Nv) : (s.onNv f).ctrs = s.ctrs := (rfl)
@[simp] theorem State.onNv_host (s : State) (f : Nv → Nv) : (s.onNv f).host = s.host := (rfl)
@[simp] theorem State.onNv_ports (s : State) (f : Nv → Nv) : (s.onNv f).ports = s.ports := (rfl)
@[simp] theorem State.onNv_tables (s : State) (f : Nv → Nv) : (s.onNv f).tables = s.tables := (rfl)
@[simp] theorem State.onNv_sw (s : State) (f : Nv → Nv) : (s.onNv f).sw = s.sw := (rfl)
@[simp] theorem State.onNv_trunk (s : State) (f : Nv → Nv) : (s.onNv f).trunk = s.trunk := (rfl)
@[simp] theorem State.onNv_time (s : State) (f : Nv → Nv) : (s.onNv f).time = s.time := (rfl)
@[simp] theorem State.onNv_loom (s : State) (f : Nv → Nv) : (s.onNv f).loom = s.loom := (rfl)
@[simp] theorem State.onNv_svc (s : State) (f : Nv → Nv) : (s.onNv f).svc = s.svc := (rfl)

@[simp] theorem State.onBoot_now (s : State) (f : Boot → Boot) : (s.onBoot f).now = s.now := (rfl)
@[simp] theorem State.onBoot_free (s : State) (f : Boot → Boot) : (s.onBoot f).free = s.free := (rfl)
@[simp] theorem State.onBoot_pending (s : State) (f : Boot → Boot) : (s.onBoot f).pending = s.pending := (rfl)
@[simp] theorem State.onBoot_out (s : State) (f : Boot → Boot) : (s.onBoot f).out = s.out := (rfl)
@[simp] theorem State.onBoot_regs (s : State) (f : Boot → Boot) : (s.onBoot f).regs = s.regs := (rfl)
@[simp] theorem State.onBoot_shadow (s : State) (f : Boot → Boot) : (s.onBoot f).shadow = s.shadow := (rfl)
@[simp] theorem State.onBoot_latch (s : State) (f : Boot → Boot) : (s.onBoot f).latch = s.latch := (rfl)
@[simp] theorem State.onBoot_ctrs (s : State) (f : Boot → Boot) : (s.onBoot f).ctrs = s.ctrs := (rfl)
@[simp] theorem State.onBoot_host (s : State) (f : Boot → Boot) : (s.onBoot f).host = s.host := (rfl)
@[simp] theorem State.onBoot_ports (s : State) (f : Boot → Boot) : (s.onBoot f).ports = s.ports := (rfl)
@[simp] theorem State.onBoot_tables (s : State) (f : Boot → Boot) : (s.onBoot f).tables = s.tables := (rfl)
@[simp] theorem State.onBoot_sw (s : State) (f : Boot → Boot) : (s.onBoot f).sw = s.sw := (rfl)
@[simp] theorem State.onBoot_trunk (s : State) (f : Boot → Boot) : (s.onBoot f).trunk = s.trunk := (rfl)
@[simp] theorem State.onBoot_time (s : State) (f : Boot → Boot) : (s.onBoot f).time = s.time := (rfl)
@[simp] theorem State.onBoot_loom (s : State) (f : Boot → Boot) : (s.onBoot f).loom = s.loom := (rfl)
@[simp] theorem State.onBoot_svc (s : State) (f : Boot → Boot) : (s.onBoot f).svc = s.svc := (rfl)

@[simp] theorem State.onPower_now (s : State) (f : Power → Power) : (s.onPower f).now = s.now := (rfl)
@[simp] theorem State.onPower_free (s : State) (f : Power → Power) : (s.onPower f).free = s.free := (rfl)
@[simp] theorem State.onPower_pending (s : State) (f : Power → Power) : (s.onPower f).pending = s.pending := (rfl)
@[simp] theorem State.onPower_out (s : State) (f : Power → Power) : (s.onPower f).out = s.out := (rfl)
@[simp] theorem State.onPower_regs (s : State) (f : Power → Power) : (s.onPower f).regs = s.regs := (rfl)
@[simp] theorem State.onPower_shadow (s : State) (f : Power → Power) : (s.onPower f).shadow = s.shadow := (rfl)
@[simp] theorem State.onPower_latch (s : State) (f : Power → Power) : (s.onPower f).latch = s.latch := (rfl)
@[simp] theorem State.onPower_ctrs (s : State) (f : Power → Power) : (s.onPower f).ctrs = s.ctrs := (rfl)
@[simp] theorem State.onPower_host (s : State) (f : Power → Power) : (s.onPower f).host = s.host := (rfl)
@[simp] theorem State.onPower_ports (s : State) (f : Power → Power) : (s.onPower f).ports = s.ports := (rfl)
@[simp] theorem State.onPower_tables (s : State) (f : Power → Power) : (s.onPower f).tables = s.tables := (rfl)
@[simp] theorem State.onPower_sw (s : State) (f : Power → Power) : (s.onPower f).sw = s.sw := (rfl)
@[simp] theorem State.onPower_trunk (s : State) (f : Power → Power) : (s.onPower f).trunk = s.trunk := (rfl)
@[simp] theorem State.onPower_time (s : State) (f : Power → Power) : (s.onPower f).time = s.time := (rfl)
@[simp] theorem State.onPower_loom (s : State) (f : Power → Power) : (s.onPower f).loom = s.loom := (rfl)
@[simp] theorem State.onPower_svc (s : State) (f : Power → Power) : (s.onPower f).svc = s.svc := (rfl)

@[simp] theorem State.onLease_now (s : State) (f : Lease → Lease) : (s.onLease f).now = s.now := (rfl)
@[simp] theorem State.onLease_free (s : State) (f : Lease → Lease) : (s.onLease f).free = s.free := (rfl)
@[simp] theorem State.onLease_pending (s : State) (f : Lease → Lease) : (s.onLease f).pending = s.pending := (rfl)
@[simp] theorem State.onLease_out (s : State) (f : Lease → Lease) : (s.onLease f).out = s.out := (rfl)
@[simp] theorem State.onLease_regs (s : State) (f : Lease → Lease) : (s.onLease f).regs = s.regs := (rfl)
@[simp] theorem State.onLease_shadow (s : State) (f : Lease → Lease) : (s.onLease f).shadow = s.shadow := (rfl)
@[simp] theorem State.onLease_latch (s : State) (f : Lease → Lease) : (s.onLease f).latch = s.latch := (rfl)
@[simp] theorem State.onLease_ctrs (s : State) (f : Lease → Lease) : (s.onLease f).ctrs = s.ctrs := (rfl)
@[simp] theorem State.onLease_host (s : State) (f : Lease → Lease) : (s.onLease f).host = s.host := (rfl)
@[simp] theorem State.onLease_ports (s : State) (f : Lease → Lease) : (s.onLease f).ports = s.ports := (rfl)
@[simp] theorem State.onLease_tables (s : State) (f : Lease → Lease) : (s.onLease f).tables = s.tables := (rfl)
@[simp] theorem State.onLease_sw (s : State) (f : Lease → Lease) : (s.onLease f).sw = s.sw := (rfl)
@[simp] theorem State.onLease_trunk (s : State) (f : Lease → Lease) : (s.onLease f).trunk = s.trunk := (rfl)
@[simp] theorem State.onLease_time (s : State) (f : Lease → Lease) : (s.onLease f).time = s.time := (rfl)
@[simp] theorem State.onLease_loom (s : State) (f : Lease → Lease) : (s.onLease f).loom = s.loom := (rfl)
@[simp] theorem State.onLease_sys (s : State) (f : Lease → Lease) : (s.onLease f).sys = s.sys := (rfl)

@[simp] theorem State.onTwin_now (s : State) (f : Twin → Twin) : (s.onTwin f).now = s.now := (rfl)
@[simp] theorem State.onTwin_free (s : State) (f : Twin → Twin) : (s.onTwin f).free = s.free := (rfl)
@[simp] theorem State.onTwin_pending (s : State) (f : Twin → Twin) : (s.onTwin f).pending = s.pending := (rfl)
@[simp] theorem State.onTwin_out (s : State) (f : Twin → Twin) : (s.onTwin f).out = s.out := (rfl)
@[simp] theorem State.onTwin_regs (s : State) (f : Twin → Twin) : (s.onTwin f).regs = s.regs := (rfl)
@[simp] theorem State.onTwin_shadow (s : State) (f : Twin → Twin) : (s.onTwin f).shadow = s.shadow := (rfl)
@[simp] theorem State.onTwin_latch (s : State) (f : Twin → Twin) : (s.onTwin f).latch = s.latch := (rfl)
@[simp] theorem State.onTwin_ctrs (s : State) (f : Twin → Twin) : (s.onTwin f).ctrs = s.ctrs := (rfl)
@[simp] theorem State.onTwin_host (s : State) (f : Twin → Twin) : (s.onTwin f).host = s.host := (rfl)
@[simp] theorem State.onTwin_ports (s : State) (f : Twin → Twin) : (s.onTwin f).ports = s.ports := (rfl)
@[simp] theorem State.onTwin_tables (s : State) (f : Twin → Twin) : (s.onTwin f).tables = s.tables := (rfl)
@[simp] theorem State.onTwin_sw (s : State) (f : Twin → Twin) : (s.onTwin f).sw = s.sw := (rfl)
@[simp] theorem State.onTwin_trunk (s : State) (f : Twin → Twin) : (s.onTwin f).trunk = s.trunk := (rfl)
@[simp] theorem State.onTwin_time (s : State) (f : Twin → Twin) : (s.onTwin f).time = s.time := (rfl)
@[simp] theorem State.onTwin_loom (s : State) (f : Twin → Twin) : (s.onTwin f).loom = s.loom := (rfl)
@[simp] theorem State.onTwin_sys (s : State) (f : Twin → Twin) : (s.onTwin f).sys = s.sys := (rfl)

@[simp] theorem State.wrNow_now (s : State) (a : Nat) (v : Word) : (s.wrNow a v).now = s.now := (rfl)
@[simp] theorem State.wrNow_free (s : State) (a : Nat) (v : Word) : (s.wrNow a v).free = s.free := (rfl)
@[simp] theorem State.wrNow_pending (s : State) (a : Nat) (v : Word) : (s.wrNow a v).pending = s.pending := (rfl)
@[simp] theorem State.wrNow_out (s : State) (a : Nat) (v : Word) : (s.wrNow a v).out = s.out := (rfl)
@[simp] theorem State.wrNow_regs (s : State) (a : Nat) (v : Word) : (s.wrNow a v).regs = mset (resetAt a) s.regs a v := (rfl)
@[simp] theorem State.wrNow_shadow (s : State) (a : Nat) (v : Word) : (s.wrNow a v).shadow = merase s.shadow a := (rfl)
@[simp] theorem State.wrNow_latch (s : State) (a : Nat) (v : Word) : (s.wrNow a v).latch = s.latch := (rfl)
@[simp] theorem State.wrNow_ctrs (s : State) (a : Nat) (v : Word) : (s.wrNow a v).ctrs = s.ctrs := (rfl)
@[simp] theorem State.wrNow_host (s : State) (a : Nat) (v : Word) : (s.wrNow a v).host = s.host := (rfl)
@[simp] theorem State.wrNow_ports (s : State) (a : Nat) (v : Word) : (s.wrNow a v).ports = s.ports := (rfl)
@[simp] theorem State.wrNow_tables (s : State) (a : Nat) (v : Word) : (s.wrNow a v).tables = s.tables := (rfl)
@[simp] theorem State.wrNow_sw (s : State) (a : Nat) (v : Word) : (s.wrNow a v).sw = s.sw := (rfl)
@[simp] theorem State.wrNow_trunk (s : State) (a : Nat) (v : Word) : (s.wrNow a v).trunk = s.trunk := (rfl)
@[simp] theorem State.wrNow_time (s : State) (a : Nat) (v : Word) : (s.wrNow a v).time = s.time := (rfl)
@[simp] theorem State.wrNow_loom (s : State) (a : Nat) (v : Word) : (s.wrNow a v).loom = s.loom := (rfl)
@[simp] theorem State.wrNow_svc (s : State) (a : Nat) (v : Word) : (s.wrNow a v).svc = s.svc := (rfl)
@[simp] theorem State.wrNow_sys (s : State) (a : Nat) (v : Word) : (s.wrNow a v).sys = s.sys := (rfl)

@[simp] theorem State.setHeld_now (s : State) (k : Nat) (v : List RegWrite) : (s.setHeld k v).now = s.now := (rfl)
@[simp] theorem State.setHeld_free (s : State) (k : Nat) (v : List RegWrite) : (s.setHeld k v).free = s.free := (rfl)
@[simp] theorem State.setHeld_pending (s : State) (k : Nat) (v : List RegWrite) : (s.setHeld k v).pending = s.pending := (rfl)
@[simp] theorem State.setHeld_out (s : State) (k : Nat) (v : List RegWrite) : (s.setHeld k v).out = s.out := (rfl)
@[simp] theorem State.setHeld_regs (s : State) (k : Nat) (v : List RegWrite) : (s.setHeld k v).regs = s.regs := (rfl)
@[simp] theorem State.setHeld_shadow (s : State) (k : Nat) (v : List RegWrite) : (s.setHeld k v).shadow = s.shadow := (rfl)
@[simp] theorem State.setHeld_latch (s : State) (k : Nat) (v : List RegWrite) : (s.setHeld k v).latch = s.latch := (rfl)
@[simp] theorem State.setHeld_ctrs (s : State) (k : Nat) (v : List RegWrite) : (s.setHeld k v).ctrs = s.ctrs := (rfl)
@[simp] theorem State.setHeld_ports (s : State) (k : Nat) (v : List RegWrite) : (s.setHeld k v).ports = s.ports := (rfl)
@[simp] theorem State.setHeld_tables (s : State) (k : Nat) (v : List RegWrite) : (s.setHeld k v).tables = s.tables := (rfl)
@[simp] theorem State.setHeld_sw (s : State) (k : Nat) (v : List RegWrite) : (s.setHeld k v).sw = s.sw := (rfl)
@[simp] theorem State.setHeld_trunk (s : State) (k : Nat) (v : List RegWrite) : (s.setHeld k v).trunk = s.trunk := (rfl)
@[simp] theorem State.setHeld_time (s : State) (k : Nat) (v : List RegWrite) : (s.setHeld k v).time = s.time := (rfl)
@[simp] theorem State.setHeld_loom (s : State) (k : Nat) (v : List RegWrite) : (s.setHeld k v).loom = s.loom := (rfl)
@[simp] theorem State.setHeld_svc (s : State) (k : Nat) (v : List RegWrite) : (s.setHeld k v).svc = s.svc := (rfl)
@[simp] theorem State.setHeld_sys (s : State) (k : Nat) (v : List RegWrite) : (s.setHeld k v).sys = s.sys := (rfl)

@[simp] theorem State.setGuard_now (s : State) (k : Nat) (v : Option Guard) : (s.setGuard k v).now = s.now := (rfl)
@[simp] theorem State.setGuard_free (s : State) (k : Nat) (v : Option Guard) : (s.setGuard k v).free = s.free := (rfl)
@[simp] theorem State.setGuard_pending (s : State) (k : Nat) (v : Option Guard) : (s.setGuard k v).pending = s.pending := (rfl)
@[simp] theorem State.setGuard_out (s : State) (k : Nat) (v : Option Guard) : (s.setGuard k v).out = s.out := (rfl)
@[simp] theorem State.setGuard_regs (s : State) (k : Nat) (v : Option Guard) : (s.setGuard k v).regs = s.regs := (rfl)
@[simp] theorem State.setGuard_shadow (s : State) (k : Nat) (v : Option Guard) : (s.setGuard k v).shadow = s.shadow := (rfl)
@[simp] theorem State.setGuard_latch (s : State) (k : Nat) (v : Option Guard) : (s.setGuard k v).latch = s.latch := (rfl)
@[simp] theorem State.setGuard_ctrs (s : State) (k : Nat) (v : Option Guard) : (s.setGuard k v).ctrs = s.ctrs := (rfl)
@[simp] theorem State.setGuard_ports (s : State) (k : Nat) (v : Option Guard) : (s.setGuard k v).ports = s.ports := (rfl)
@[simp] theorem State.setGuard_tables (s : State) (k : Nat) (v : Option Guard) : (s.setGuard k v).tables = s.tables := (rfl)
@[simp] theorem State.setGuard_sw (s : State) (k : Nat) (v : Option Guard) : (s.setGuard k v).sw = s.sw := (rfl)
@[simp] theorem State.setGuard_trunk (s : State) (k : Nat) (v : Option Guard) : (s.setGuard k v).trunk = s.trunk := (rfl)
@[simp] theorem State.setGuard_time (s : State) (k : Nat) (v : Option Guard) : (s.setGuard k v).time = s.time := (rfl)
@[simp] theorem State.setGuard_loom (s : State) (k : Nat) (v : Option Guard) : (s.setGuard k v).loom = s.loom := (rfl)
@[simp] theorem State.setGuard_svc (s : State) (k : Nat) (v : Option Guard) : (s.setGuard k v).svc = s.svc := (rfl)
@[simp] theorem State.setGuard_sys (s : State) (k : Nat) (v : Option Guard) : (s.setGuard k v).sys = s.sys := (rfl)

@[simp] theorem State.setMsixE_now (s : State) (k : Nat) (v : Msix) : (s.setMsixE k v).now = s.now := (rfl)
@[simp] theorem State.setMsixE_free (s : State) (k : Nat) (v : Msix) : (s.setMsixE k v).free = s.free := (rfl)
@[simp] theorem State.setMsixE_pending (s : State) (k : Nat) (v : Msix) : (s.setMsixE k v).pending = s.pending := (rfl)
@[simp] theorem State.setMsixE_out (s : State) (k : Nat) (v : Msix) : (s.setMsixE k v).out = s.out := (rfl)
@[simp] theorem State.setMsixE_regs (s : State) (k : Nat) (v : Msix) : (s.setMsixE k v).regs = s.regs := (rfl)
@[simp] theorem State.setMsixE_shadow (s : State) (k : Nat) (v : Msix) : (s.setMsixE k v).shadow = s.shadow := (rfl)
@[simp] theorem State.setMsixE_latch (s : State) (k : Nat) (v : Msix) : (s.setMsixE k v).latch = s.latch := (rfl)
@[simp] theorem State.setMsixE_ctrs (s : State) (k : Nat) (v : Msix) : (s.setMsixE k v).ctrs = s.ctrs := (rfl)
@[simp] theorem State.setMsixE_ports (s : State) (k : Nat) (v : Msix) : (s.setMsixE k v).ports = s.ports := (rfl)
@[simp] theorem State.setMsixE_tables (s : State) (k : Nat) (v : Msix) : (s.setMsixE k v).tables = s.tables := (rfl)
@[simp] theorem State.setMsixE_sw (s : State) (k : Nat) (v : Msix) : (s.setMsixE k v).sw = s.sw := (rfl)
@[simp] theorem State.setMsixE_trunk (s : State) (k : Nat) (v : Msix) : (s.setMsixE k v).trunk = s.trunk := (rfl)
@[simp] theorem State.setMsixE_time (s : State) (k : Nat) (v : Msix) : (s.setMsixE k v).time = s.time := (rfl)
@[simp] theorem State.setMsixE_loom (s : State) (k : Nat) (v : Msix) : (s.setMsixE k v).loom = s.loom := (rfl)
@[simp] theorem State.setMsixE_svc (s : State) (k : Nat) (v : Msix) : (s.setMsixE k v).svc = s.svc := (rfl)
@[simp] theorem State.setMsixE_sys (s : State) (k : Nat) (v : Msix) : (s.setMsixE k v).sys = s.sys := (rfl)

@[simp] theorem State.setRing_now (s : State) (k : Nat) (v : RingSt) : (s.setRing k v).now = s.now := (rfl)
@[simp] theorem State.setRing_free (s : State) (k : Nat) (v : RingSt) : (s.setRing k v).free = s.free := (rfl)
@[simp] theorem State.setRing_pending (s : State) (k : Nat) (v : RingSt) : (s.setRing k v).pending = s.pending := (rfl)
@[simp] theorem State.setRing_out (s : State) (k : Nat) (v : RingSt) : (s.setRing k v).out = s.out := (rfl)
@[simp] theorem State.setRing_regs (s : State) (k : Nat) (v : RingSt) : (s.setRing k v).regs = s.regs := (rfl)
@[simp] theorem State.setRing_shadow (s : State) (k : Nat) (v : RingSt) : (s.setRing k v).shadow = s.shadow := (rfl)
@[simp] theorem State.setRing_latch (s : State) (k : Nat) (v : RingSt) : (s.setRing k v).latch = s.latch := (rfl)
@[simp] theorem State.setRing_ctrs (s : State) (k : Nat) (v : RingSt) : (s.setRing k v).ctrs = s.ctrs := (rfl)
@[simp] theorem State.setRing_ports (s : State) (k : Nat) (v : RingSt) : (s.setRing k v).ports = s.ports := (rfl)
@[simp] theorem State.setRing_tables (s : State) (k : Nat) (v : RingSt) : (s.setRing k v).tables = s.tables := (rfl)
@[simp] theorem State.setRing_sw (s : State) (k : Nat) (v : RingSt) : (s.setRing k v).sw = s.sw := (rfl)
@[simp] theorem State.setRing_trunk (s : State) (k : Nat) (v : RingSt) : (s.setRing k v).trunk = s.trunk := (rfl)
@[simp] theorem State.setRing_time (s : State) (k : Nat) (v : RingSt) : (s.setRing k v).time = s.time := (rfl)
@[simp] theorem State.setRing_loom (s : State) (k : Nat) (v : RingSt) : (s.setRing k v).loom = s.loom := (rfl)
@[simp] theorem State.setRing_svc (s : State) (k : Nat) (v : RingSt) : (s.setRing k v).svc = s.svc := (rfl)
@[simp] theorem State.setRing_sys (s : State) (k : Nat) (v : RingSt) : (s.setRing k v).sys = s.sys := (rfl)

@[simp] theorem State.setFifo_now (s : State) (k : Nat) (v : Fifo) : (s.setFifo k v).now = s.now := (rfl)
@[simp] theorem State.setFifo_free (s : State) (k : Nat) (v : Fifo) : (s.setFifo k v).free = s.free := (rfl)
@[simp] theorem State.setFifo_pending (s : State) (k : Nat) (v : Fifo) : (s.setFifo k v).pending = s.pending := (rfl)
@[simp] theorem State.setFifo_out (s : State) (k : Nat) (v : Fifo) : (s.setFifo k v).out = s.out := (rfl)
@[simp] theorem State.setFifo_regs (s : State) (k : Nat) (v : Fifo) : (s.setFifo k v).regs = s.regs := (rfl)
@[simp] theorem State.setFifo_shadow (s : State) (k : Nat) (v : Fifo) : (s.setFifo k v).shadow = s.shadow := (rfl)
@[simp] theorem State.setFifo_latch (s : State) (k : Nat) (v : Fifo) : (s.setFifo k v).latch = s.latch := (rfl)
@[simp] theorem State.setFifo_ctrs (s : State) (k : Nat) (v : Fifo) : (s.setFifo k v).ctrs = s.ctrs := (rfl)
@[simp] theorem State.setFifo_ports (s : State) (k : Nat) (v : Fifo) : (s.setFifo k v).ports = s.ports := (rfl)
@[simp] theorem State.setFifo_tables (s : State) (k : Nat) (v : Fifo) : (s.setFifo k v).tables = s.tables := (rfl)
@[simp] theorem State.setFifo_sw (s : State) (k : Nat) (v : Fifo) : (s.setFifo k v).sw = s.sw := (rfl)
@[simp] theorem State.setFifo_trunk (s : State) (k : Nat) (v : Fifo) : (s.setFifo k v).trunk = s.trunk := (rfl)
@[simp] theorem State.setFifo_time (s : State) (k : Nat) (v : Fifo) : (s.setFifo k v).time = s.time := (rfl)
@[simp] theorem State.setFifo_loom (s : State) (k : Nat) (v : Fifo) : (s.setFifo k v).loom = s.loom := (rfl)
@[simp] theorem State.setFifo_svc (s : State) (k : Nat) (v : Fifo) : (s.setFifo k v).svc = s.svc := (rfl)
@[simp] theorem State.setFifo_sys (s : State) (k : Nat) (v : Fifo) : (s.setFifo k v).sys = s.sys := (rfl)

@[simp] theorem State.setPunts_now (s : State) (k : Nat) (v : List Punt) : (s.setPunts k v).now = s.now := (rfl)
@[simp] theorem State.setPunts_free (s : State) (k : Nat) (v : List Punt) : (s.setPunts k v).free = s.free := (rfl)
@[simp] theorem State.setPunts_pending (s : State) (k : Nat) (v : List Punt) : (s.setPunts k v).pending = s.pending := (rfl)
@[simp] theorem State.setPunts_out (s : State) (k : Nat) (v : List Punt) : (s.setPunts k v).out = s.out := (rfl)
@[simp] theorem State.setPunts_regs (s : State) (k : Nat) (v : List Punt) : (s.setPunts k v).regs = s.regs := (rfl)
@[simp] theorem State.setPunts_shadow (s : State) (k : Nat) (v : List Punt) : (s.setPunts k v).shadow = s.shadow := (rfl)
@[simp] theorem State.setPunts_latch (s : State) (k : Nat) (v : List Punt) : (s.setPunts k v).latch = s.latch := (rfl)
@[simp] theorem State.setPunts_ctrs (s : State) (k : Nat) (v : List Punt) : (s.setPunts k v).ctrs = s.ctrs := (rfl)
@[simp] theorem State.setPunts_ports (s : State) (k : Nat) (v : List Punt) : (s.setPunts k v).ports = s.ports := (rfl)
@[simp] theorem State.setPunts_tables (s : State) (k : Nat) (v : List Punt) : (s.setPunts k v).tables = s.tables := (rfl)
@[simp] theorem State.setPunts_sw (s : State) (k : Nat) (v : List Punt) : (s.setPunts k v).sw = s.sw := (rfl)
@[simp] theorem State.setPunts_trunk (s : State) (k : Nat) (v : List Punt) : (s.setPunts k v).trunk = s.trunk := (rfl)
@[simp] theorem State.setPunts_time (s : State) (k : Nat) (v : List Punt) : (s.setPunts k v).time = s.time := (rfl)
@[simp] theorem State.setPunts_loom (s : State) (k : Nat) (v : List Punt) : (s.setPunts k v).loom = s.loom := (rfl)
@[simp] theorem State.setPunts_svc (s : State) (k : Nat) (v : List Punt) : (s.setPunts k v).svc = s.svc := (rfl)
@[simp] theorem State.setPunts_sys (s : State) (k : Nat) (v : List Punt) : (s.setPunts k v).sys = s.sys := (rfl)

@[simp] theorem State.setPairTurn_now (s : State) (k : Nat) (v : Bool) : (s.setPairTurn k v).now = s.now := (rfl)
@[simp] theorem State.setPairTurn_free (s : State) (k : Nat) (v : Bool) : (s.setPairTurn k v).free = s.free := (rfl)
@[simp] theorem State.setPairTurn_pending (s : State) (k : Nat) (v : Bool) : (s.setPairTurn k v).pending = s.pending := (rfl)
@[simp] theorem State.setPairTurn_out (s : State) (k : Nat) (v : Bool) : (s.setPairTurn k v).out = s.out := (rfl)
@[simp] theorem State.setPairTurn_regs (s : State) (k : Nat) (v : Bool) : (s.setPairTurn k v).regs = s.regs := (rfl)
@[simp] theorem State.setPairTurn_shadow (s : State) (k : Nat) (v : Bool) : (s.setPairTurn k v).shadow = s.shadow := (rfl)
@[simp] theorem State.setPairTurn_latch (s : State) (k : Nat) (v : Bool) : (s.setPairTurn k v).latch = s.latch := (rfl)
@[simp] theorem State.setPairTurn_ctrs (s : State) (k : Nat) (v : Bool) : (s.setPairTurn k v).ctrs = s.ctrs := (rfl)
@[simp] theorem State.setPairTurn_ports (s : State) (k : Nat) (v : Bool) : (s.setPairTurn k v).ports = s.ports := (rfl)
@[simp] theorem State.setPairTurn_tables (s : State) (k : Nat) (v : Bool) : (s.setPairTurn k v).tables = s.tables := (rfl)
@[simp] theorem State.setPairTurn_sw (s : State) (k : Nat) (v : Bool) : (s.setPairTurn k v).sw = s.sw := (rfl)
@[simp] theorem State.setPairTurn_trunk (s : State) (k : Nat) (v : Bool) : (s.setPairTurn k v).trunk = s.trunk := (rfl)
@[simp] theorem State.setPairTurn_time (s : State) (k : Nat) (v : Bool) : (s.setPairTurn k v).time = s.time := (rfl)
@[simp] theorem State.setPairTurn_loom (s : State) (k : Nat) (v : Bool) : (s.setPairTurn k v).loom = s.loom := (rfl)
@[simp] theorem State.setPairTurn_svc (s : State) (k : Nat) (v : Bool) : (s.setPairTurn k v).svc = s.svc := (rfl)
@[simp] theorem State.setPairTurn_sys (s : State) (k : Nat) (v : Bool) : (s.setPairTurn k v).sys = s.sys := (rfl)

@[simp] theorem State.setFrozen_now (s : State) (k : Nat) (v : Bool) : (s.setFrozen k v).now = s.now := (rfl)
@[simp] theorem State.setFrozen_free (s : State) (k : Nat) (v : Bool) : (s.setFrozen k v).free = s.free := (rfl)
@[simp] theorem State.setFrozen_pending (s : State) (k : Nat) (v : Bool) : (s.setFrozen k v).pending = s.pending := (rfl)
@[simp] theorem State.setFrozen_out (s : State) (k : Nat) (v : Bool) : (s.setFrozen k v).out = s.out := (rfl)
@[simp] theorem State.setFrozen_regs (s : State) (k : Nat) (v : Bool) : (s.setFrozen k v).regs = s.regs := (rfl)
@[simp] theorem State.setFrozen_shadow (s : State) (k : Nat) (v : Bool) : (s.setFrozen k v).shadow = s.shadow := (rfl)
@[simp] theorem State.setFrozen_latch (s : State) (k : Nat) (v : Bool) : (s.setFrozen k v).latch = s.latch := (rfl)
@[simp] theorem State.setFrozen_ctrs (s : State) (k : Nat) (v : Bool) : (s.setFrozen k v).ctrs = s.ctrs := (rfl)
@[simp] theorem State.setFrozen_ports (s : State) (k : Nat) (v : Bool) : (s.setFrozen k v).ports = s.ports := (rfl)
@[simp] theorem State.setFrozen_tables (s : State) (k : Nat) (v : Bool) : (s.setFrozen k v).tables = s.tables := (rfl)
@[simp] theorem State.setFrozen_sw (s : State) (k : Nat) (v : Bool) : (s.setFrozen k v).sw = s.sw := (rfl)
@[simp] theorem State.setFrozen_trunk (s : State) (k : Nat) (v : Bool) : (s.setFrozen k v).trunk = s.trunk := (rfl)
@[simp] theorem State.setFrozen_time (s : State) (k : Nat) (v : Bool) : (s.setFrozen k v).time = s.time := (rfl)
@[simp] theorem State.setFrozen_loom (s : State) (k : Nat) (v : Bool) : (s.setFrozen k v).loom = s.loom := (rfl)
@[simp] theorem State.setFrozen_svc (s : State) (k : Nat) (v : Bool) : (s.setFrozen k v).svc = s.svc := (rfl)
@[simp] theorem State.setFrozen_sys (s : State) (k : Nat) (v : Bool) : (s.setFrozen k v).sys = s.sys := (rfl)

@[simp] theorem State.setMac_now (s : State) (k : Nat) (v : Mac) : (s.setMac k v).now = s.now := (rfl)
@[simp] theorem State.setMac_free (s : State) (k : Nat) (v : Mac) : (s.setMac k v).free = s.free := (rfl)
@[simp] theorem State.setMac_pending (s : State) (k : Nat) (v : Mac) : (s.setMac k v).pending = s.pending := (rfl)
@[simp] theorem State.setMac_out (s : State) (k : Nat) (v : Mac) : (s.setMac k v).out = s.out := (rfl)
@[simp] theorem State.setMac_regs (s : State) (k : Nat) (v : Mac) : (s.setMac k v).regs = s.regs := (rfl)
@[simp] theorem State.setMac_shadow (s : State) (k : Nat) (v : Mac) : (s.setMac k v).shadow = s.shadow := (rfl)
@[simp] theorem State.setMac_latch (s : State) (k : Nat) (v : Mac) : (s.setMac k v).latch = s.latch := (rfl)
@[simp] theorem State.setMac_ctrs (s : State) (k : Nat) (v : Mac) : (s.setMac k v).ctrs = s.ctrs := (rfl)
@[simp] theorem State.setMac_host (s : State) (k : Nat) (v : Mac) : (s.setMac k v).host = s.host := (rfl)
@[simp] theorem State.setMac_tables (s : State) (k : Nat) (v : Mac) : (s.setMac k v).tables = s.tables := (rfl)
@[simp] theorem State.setMac_sw (s : State) (k : Nat) (v : Mac) : (s.setMac k v).sw = s.sw := (rfl)
@[simp] theorem State.setMac_trunk (s : State) (k : Nat) (v : Mac) : (s.setMac k v).trunk = s.trunk := (rfl)
@[simp] theorem State.setMac_time (s : State) (k : Nat) (v : Mac) : (s.setMac k v).time = s.time := (rfl)
@[simp] theorem State.setMac_loom (s : State) (k : Nat) (v : Mac) : (s.setMac k v).loom = s.loom := (rfl)
@[simp] theorem State.setMac_svc (s : State) (k : Nat) (v : Mac) : (s.setMac k v).svc = s.svc := (rfl)
@[simp] theorem State.setMac_sys (s : State) (k : Nat) (v : Mac) : (s.setMac k v).sys = s.sys := (rfl)

@[simp] theorem State.setPitch_now (s : State) (k : Nat) (v : Pitch) : (s.setPitch k v).now = s.now := (rfl)
@[simp] theorem State.setPitch_free (s : State) (k : Nat) (v : Pitch) : (s.setPitch k v).free = s.free := (rfl)
@[simp] theorem State.setPitch_pending (s : State) (k : Nat) (v : Pitch) : (s.setPitch k v).pending = s.pending := (rfl)
@[simp] theorem State.setPitch_out (s : State) (k : Nat) (v : Pitch) : (s.setPitch k v).out = s.out := (rfl)
@[simp] theorem State.setPitch_regs (s : State) (k : Nat) (v : Pitch) : (s.setPitch k v).regs = s.regs := (rfl)
@[simp] theorem State.setPitch_shadow (s : State) (k : Nat) (v : Pitch) : (s.setPitch k v).shadow = s.shadow := (rfl)
@[simp] theorem State.setPitch_latch (s : State) (k : Nat) (v : Pitch) : (s.setPitch k v).latch = s.latch := (rfl)
@[simp] theorem State.setPitch_ctrs (s : State) (k : Nat) (v : Pitch) : (s.setPitch k v).ctrs = s.ctrs := (rfl)
@[simp] theorem State.setPitch_host (s : State) (k : Nat) (v : Pitch) : (s.setPitch k v).host = s.host := (rfl)
@[simp] theorem State.setPitch_tables (s : State) (k : Nat) (v : Pitch) : (s.setPitch k v).tables = s.tables := (rfl)
@[simp] theorem State.setPitch_sw (s : State) (k : Nat) (v : Pitch) : (s.setPitch k v).sw = s.sw := (rfl)
@[simp] theorem State.setPitch_trunk (s : State) (k : Nat) (v : Pitch) : (s.setPitch k v).trunk = s.trunk := (rfl)
@[simp] theorem State.setPitch_time (s : State) (k : Nat) (v : Pitch) : (s.setPitch k v).time = s.time := (rfl)
@[simp] theorem State.setPitch_loom (s : State) (k : Nat) (v : Pitch) : (s.setPitch k v).loom = s.loom := (rfl)
@[simp] theorem State.setPitch_svc (s : State) (k : Nat) (v : Pitch) : (s.setPitch k v).svc = s.svc := (rfl)
@[simp] theorem State.setPitch_sys (s : State) (k : Nat) (v : Pitch) : (s.setPitch k v).sys = s.sys := (rfl)

@[simp] theorem State.setLane_now (s : State) (k : Nat) (v : LaneSt) : (s.setLane k v).now = s.now := (rfl)
@[simp] theorem State.setLane_free (s : State) (k : Nat) (v : LaneSt) : (s.setLane k v).free = s.free := (rfl)
@[simp] theorem State.setLane_pending (s : State) (k : Nat) (v : LaneSt) : (s.setLane k v).pending = s.pending := (rfl)
@[simp] theorem State.setLane_out (s : State) (k : Nat) (v : LaneSt) : (s.setLane k v).out = s.out := (rfl)
@[simp] theorem State.setLane_regs (s : State) (k : Nat) (v : LaneSt) : (s.setLane k v).regs = s.regs := (rfl)
@[simp] theorem State.setLane_shadow (s : State) (k : Nat) (v : LaneSt) : (s.setLane k v).shadow = s.shadow := (rfl)
@[simp] theorem State.setLane_latch (s : State) (k : Nat) (v : LaneSt) : (s.setLane k v).latch = s.latch := (rfl)
@[simp] theorem State.setLane_ctrs (s : State) (k : Nat) (v : LaneSt) : (s.setLane k v).ctrs = s.ctrs := (rfl)
@[simp] theorem State.setLane_host (s : State) (k : Nat) (v : LaneSt) : (s.setLane k v).host = s.host := (rfl)
@[simp] theorem State.setLane_tables (s : State) (k : Nat) (v : LaneSt) : (s.setLane k v).tables = s.tables := (rfl)
@[simp] theorem State.setLane_sw (s : State) (k : Nat) (v : LaneSt) : (s.setLane k v).sw = s.sw := (rfl)
@[simp] theorem State.setLane_trunk (s : State) (k : Nat) (v : LaneSt) : (s.setLane k v).trunk = s.trunk := (rfl)
@[simp] theorem State.setLane_time (s : State) (k : Nat) (v : LaneSt) : (s.setLane k v).time = s.time := (rfl)
@[simp] theorem State.setLane_loom (s : State) (k : Nat) (v : LaneSt) : (s.setLane k v).loom = s.loom := (rfl)
@[simp] theorem State.setLane_svc (s : State) (k : Nat) (v : LaneSt) : (s.setLane k v).svc = s.svc := (rfl)
@[simp] theorem State.setLane_sys (s : State) (k : Nat) (v : LaneSt) : (s.setLane k v).sys = s.sys := (rfl)

@[simp] theorem State.setWear_now (s : State) (k : Nat) (v : Wear) : (s.setWear k v).now = s.now := (rfl)
@[simp] theorem State.setWear_free (s : State) (k : Nat) (v : Wear) : (s.setWear k v).free = s.free := (rfl)
@[simp] theorem State.setWear_pending (s : State) (k : Nat) (v : Wear) : (s.setWear k v).pending = s.pending := (rfl)
@[simp] theorem State.setWear_out (s : State) (k : Nat) (v : Wear) : (s.setWear k v).out = s.out := (rfl)
@[simp] theorem State.setWear_regs (s : State) (k : Nat) (v : Wear) : (s.setWear k v).regs = s.regs := (rfl)
@[simp] theorem State.setWear_shadow (s : State) (k : Nat) (v : Wear) : (s.setWear k v).shadow = s.shadow := (rfl)
@[simp] theorem State.setWear_latch (s : State) (k : Nat) (v : Wear) : (s.setWear k v).latch = s.latch := (rfl)
@[simp] theorem State.setWear_ctrs (s : State) (k : Nat) (v : Wear) : (s.setWear k v).ctrs = s.ctrs := (rfl)
@[simp] theorem State.setWear_host (s : State) (k : Nat) (v : Wear) : (s.setWear k v).host = s.host := (rfl)
@[simp] theorem State.setWear_tables (s : State) (k : Nat) (v : Wear) : (s.setWear k v).tables = s.tables := (rfl)
@[simp] theorem State.setWear_sw (s : State) (k : Nat) (v : Wear) : (s.setWear k v).sw = s.sw := (rfl)
@[simp] theorem State.setWear_trunk (s : State) (k : Nat) (v : Wear) : (s.setWear k v).trunk = s.trunk := (rfl)
@[simp] theorem State.setWear_time (s : State) (k : Nat) (v : Wear) : (s.setWear k v).time = s.time := (rfl)
@[simp] theorem State.setWear_loom (s : State) (k : Nat) (v : Wear) : (s.setWear k v).loom = s.loom := (rfl)
@[simp] theorem State.setWear_svc (s : State) (k : Nat) (v : Wear) : (s.setWear k v).svc = s.svc := (rfl)
@[simp] theorem State.setWear_sys (s : State) (k : Nat) (v : Wear) : (s.setWear k v).sys = s.sys := (rfl)

@[simp] theorem State.setWearHour_now (s : State) (k : Nat) (v : Nat) : (s.setWearHour k v).now = s.now := (rfl)
@[simp] theorem State.setWearHour_free (s : State) (k : Nat) (v : Nat) : (s.setWearHour k v).free = s.free := (rfl)
@[simp] theorem State.setWearHour_pending (s : State) (k : Nat) (v : Nat) : (s.setWearHour k v).pending = s.pending := (rfl)
@[simp] theorem State.setWearHour_out (s : State) (k : Nat) (v : Nat) : (s.setWearHour k v).out = s.out := (rfl)
@[simp] theorem State.setWearHour_regs (s : State) (k : Nat) (v : Nat) : (s.setWearHour k v).regs = s.regs := (rfl)
@[simp] theorem State.setWearHour_shadow (s : State) (k : Nat) (v : Nat) : (s.setWearHour k v).shadow = s.shadow := (rfl)
@[simp] theorem State.setWearHour_latch (s : State) (k : Nat) (v : Nat) : (s.setWearHour k v).latch = s.latch := (rfl)
@[simp] theorem State.setWearHour_ctrs (s : State) (k : Nat) (v : Nat) : (s.setWearHour k v).ctrs = s.ctrs := (rfl)
@[simp] theorem State.setWearHour_host (s : State) (k : Nat) (v : Nat) : (s.setWearHour k v).host = s.host := (rfl)
@[simp] theorem State.setWearHour_tables (s : State) (k : Nat) (v : Nat) : (s.setWearHour k v).tables = s.tables := (rfl)
@[simp] theorem State.setWearHour_sw (s : State) (k : Nat) (v : Nat) : (s.setWearHour k v).sw = s.sw := (rfl)
@[simp] theorem State.setWearHour_trunk (s : State) (k : Nat) (v : Nat) : (s.setWearHour k v).trunk = s.trunk := (rfl)
@[simp] theorem State.setWearHour_time (s : State) (k : Nat) (v : Nat) : (s.setWearHour k v).time = s.time := (rfl)
@[simp] theorem State.setWearHour_loom (s : State) (k : Nat) (v : Nat) : (s.setWearHour k v).loom = s.loom := (rfl)
@[simp] theorem State.setWearHour_svc (s : State) (k : Nat) (v : Nat) : (s.setWearHour k v).svc = s.svc := (rfl)
@[simp] theorem State.setWearHour_sys (s : State) (k : Nat) (v : Nat) : (s.setWearHour k v).sys = s.sys := (rfl)

@[simp] theorem State.setSpareNoted_now (s : State) (k : Nat) (v : Bool) : (s.setSpareNoted k v).now = s.now := (rfl)
@[simp] theorem State.setSpareNoted_free (s : State) (k : Nat) (v : Bool) : (s.setSpareNoted k v).free = s.free := (rfl)
@[simp] theorem State.setSpareNoted_pending (s : State) (k : Nat) (v : Bool) : (s.setSpareNoted k v).pending = s.pending := (rfl)
@[simp] theorem State.setSpareNoted_out (s : State) (k : Nat) (v : Bool) : (s.setSpareNoted k v).out = s.out := (rfl)
@[simp] theorem State.setSpareNoted_regs (s : State) (k : Nat) (v : Bool) : (s.setSpareNoted k v).regs = s.regs := (rfl)
@[simp] theorem State.setSpareNoted_shadow (s : State) (k : Nat) (v : Bool) : (s.setSpareNoted k v).shadow = s.shadow := (rfl)
@[simp] theorem State.setSpareNoted_latch (s : State) (k : Nat) (v : Bool) : (s.setSpareNoted k v).latch = s.latch := (rfl)
@[simp] theorem State.setSpareNoted_ctrs (s : State) (k : Nat) (v : Bool) : (s.setSpareNoted k v).ctrs = s.ctrs := (rfl)
@[simp] theorem State.setSpareNoted_host (s : State) (k : Nat) (v : Bool) : (s.setSpareNoted k v).host = s.host := (rfl)
@[simp] theorem State.setSpareNoted_tables (s : State) (k : Nat) (v : Bool) : (s.setSpareNoted k v).tables = s.tables := (rfl)
@[simp] theorem State.setSpareNoted_sw (s : State) (k : Nat) (v : Bool) : (s.setSpareNoted k v).sw = s.sw := (rfl)
@[simp] theorem State.setSpareNoted_trunk (s : State) (k : Nat) (v : Bool) : (s.setSpareNoted k v).trunk = s.trunk := (rfl)
@[simp] theorem State.setSpareNoted_time (s : State) (k : Nat) (v : Bool) : (s.setSpareNoted k v).time = s.time := (rfl)
@[simp] theorem State.setSpareNoted_loom (s : State) (k : Nat) (v : Bool) : (s.setSpareNoted k v).loom = s.loom := (rfl)
@[simp] theorem State.setSpareNoted_svc (s : State) (k : Nat) (v : Bool) : (s.setSpareNoted k v).svc = s.svc := (rfl)
@[simp] theorem State.setSpareNoted_sys (s : State) (k : Nat) (v : Bool) : (s.setSpareNoted k v).sys = s.sys := (rfl)

@[simp] theorem State.setSpareUsed_now (s : State) (k : Nat) (v : Nat) : (s.setSpareUsed k v).now = s.now := (rfl)
@[simp] theorem State.setSpareUsed_free (s : State) (k : Nat) (v : Nat) : (s.setSpareUsed k v).free = s.free := (rfl)
@[simp] theorem State.setSpareUsed_pending (s : State) (k : Nat) (v : Nat) : (s.setSpareUsed k v).pending = s.pending := (rfl)
@[simp] theorem State.setSpareUsed_out (s : State) (k : Nat) (v : Nat) : (s.setSpareUsed k v).out = s.out := (rfl)
@[simp] theorem State.setSpareUsed_regs (s : State) (k : Nat) (v : Nat) : (s.setSpareUsed k v).regs = s.regs := (rfl)
@[simp] theorem State.setSpareUsed_shadow (s : State) (k : Nat) (v : Nat) : (s.setSpareUsed k v).shadow = s.shadow := (rfl)
@[simp] theorem State.setSpareUsed_latch (s : State) (k : Nat) (v : Nat) : (s.setSpareUsed k v).latch = s.latch := (rfl)
@[simp] theorem State.setSpareUsed_ctrs (s : State) (k : Nat) (v : Nat) : (s.setSpareUsed k v).ctrs = s.ctrs := (rfl)
@[simp] theorem State.setSpareUsed_host (s : State) (k : Nat) (v : Nat) : (s.setSpareUsed k v).host = s.host := (rfl)
@[simp] theorem State.setSpareUsed_tables (s : State) (k : Nat) (v : Nat) : (s.setSpareUsed k v).tables = s.tables := (rfl)
@[simp] theorem State.setSpareUsed_sw (s : State) (k : Nat) (v : Nat) : (s.setSpareUsed k v).sw = s.sw := (rfl)
@[simp] theorem State.setSpareUsed_trunk (s : State) (k : Nat) (v : Nat) : (s.setSpareUsed k v).trunk = s.trunk := (rfl)
@[simp] theorem State.setSpareUsed_time (s : State) (k : Nat) (v : Nat) : (s.setSpareUsed k v).time = s.time := (rfl)
@[simp] theorem State.setSpareUsed_loom (s : State) (k : Nat) (v : Nat) : (s.setSpareUsed k v).loom = s.loom := (rfl)
@[simp] theorem State.setSpareUsed_svc (s : State) (k : Nat) (v : Nat) : (s.setSpareUsed k v).svc = s.svc := (rfl)
@[simp] theorem State.setSpareUsed_sys (s : State) (k : Nat) (v : Nat) : (s.setSpareUsed k v).sys = s.sys := (rfl)

@[simp] theorem State.setUcState_now (s : State) (k : Nat) (v : Nat) : (s.setUcState k v).now = s.now := (rfl)
@[simp] theorem State.setUcState_free (s : State) (k : Nat) (v : Nat) : (s.setUcState k v).free = s.free := (rfl)
@[simp] theorem State.setUcState_pending (s : State) (k : Nat) (v : Nat) : (s.setUcState k v).pending = s.pending := (rfl)
@[simp] theorem State.setUcState_out (s : State) (k : Nat) (v : Nat) : (s.setUcState k v).out = s.out := (rfl)
@[simp] theorem State.setUcState_regs (s : State) (k : Nat) (v : Nat) : (s.setUcState k v).regs = s.regs := (rfl)
@[simp] theorem State.setUcState_shadow (s : State) (k : Nat) (v : Nat) : (s.setUcState k v).shadow = s.shadow := (rfl)
@[simp] theorem State.setUcState_latch (s : State) (k : Nat) (v : Nat) : (s.setUcState k v).latch = s.latch := (rfl)
@[simp] theorem State.setUcState_ctrs (s : State) (k : Nat) (v : Nat) : (s.setUcState k v).ctrs = s.ctrs := (rfl)
@[simp] theorem State.setUcState_host (s : State) (k : Nat) (v : Nat) : (s.setUcState k v).host = s.host := (rfl)
@[simp] theorem State.setUcState_tables (s : State) (k : Nat) (v : Nat) : (s.setUcState k v).tables = s.tables := (rfl)
@[simp] theorem State.setUcState_sw (s : State) (k : Nat) (v : Nat) : (s.setUcState k v).sw = s.sw := (rfl)
@[simp] theorem State.setUcState_trunk (s : State) (k : Nat) (v : Nat) : (s.setUcState k v).trunk = s.trunk := (rfl)
@[simp] theorem State.setUcState_time (s : State) (k : Nat) (v : Nat) : (s.setUcState k v).time = s.time := (rfl)
@[simp] theorem State.setUcState_loom (s : State) (k : Nat) (v : Nat) : (s.setUcState k v).loom = s.loom := (rfl)
@[simp] theorem State.setUcState_svc (s : State) (k : Nat) (v : Nat) : (s.setUcState k v).svc = s.svc := (rfl)
@[simp] theorem State.setUcState_sys (s : State) (k : Nat) (v : Nat) : (s.setUcState k v).sys = s.sys := (rfl)

@[simp] theorem State.setRule_now (s : State) (k : Nat) (v : RuleEntry) : (s.setRule k v).now = s.now := (rfl)
@[simp] theorem State.setRule_free (s : State) (k : Nat) (v : RuleEntry) : (s.setRule k v).free = s.free := (rfl)
@[simp] theorem State.setRule_pending (s : State) (k : Nat) (v : RuleEntry) : (s.setRule k v).pending = s.pending := (rfl)
@[simp] theorem State.setRule_out (s : State) (k : Nat) (v : RuleEntry) : (s.setRule k v).out = s.out := (rfl)
@[simp] theorem State.setRule_regs (s : State) (k : Nat) (v : RuleEntry) : (s.setRule k v).regs = s.regs := (rfl)
@[simp] theorem State.setRule_shadow (s : State) (k : Nat) (v : RuleEntry) : (s.setRule k v).shadow = s.shadow := (rfl)
@[simp] theorem State.setRule_latch (s : State) (k : Nat) (v : RuleEntry) : (s.setRule k v).latch = s.latch := (rfl)
@[simp] theorem State.setRule_ctrs (s : State) (k : Nat) (v : RuleEntry) : (s.setRule k v).ctrs = s.ctrs := (rfl)
@[simp] theorem State.setRule_host (s : State) (k : Nat) (v : RuleEntry) : (s.setRule k v).host = s.host := (rfl)
@[simp] theorem State.setRule_ports (s : State) (k : Nat) (v : RuleEntry) : (s.setRule k v).ports = s.ports := (rfl)
@[simp] theorem State.setRule_sw (s : State) (k : Nat) (v : RuleEntry) : (s.setRule k v).sw = s.sw := (rfl)
@[simp] theorem State.setRule_trunk (s : State) (k : Nat) (v : RuleEntry) : (s.setRule k v).trunk = s.trunk := (rfl)
@[simp] theorem State.setRule_time (s : State) (k : Nat) (v : RuleEntry) : (s.setRule k v).time = s.time := (rfl)
@[simp] theorem State.setRule_loom (s : State) (k : Nat) (v : RuleEntry) : (s.setRule k v).loom = s.loom := (rfl)
@[simp] theorem State.setRule_svc (s : State) (k : Nat) (v : RuleEntry) : (s.setRule k v).svc = s.svc := (rfl)
@[simp] theorem State.setRule_sys (s : State) (k : Nat) (v : RuleEntry) : (s.setRule k v).sys = s.sys := (rfl)

@[simp] theorem State.setTemplate_now (s : State) (k : Nat) (v : Template) : (s.setTemplate k v).now = s.now := (rfl)
@[simp] theorem State.setTemplate_free (s : State) (k : Nat) (v : Template) : (s.setTemplate k v).free = s.free := (rfl)
@[simp] theorem State.setTemplate_pending (s : State) (k : Nat) (v : Template) : (s.setTemplate k v).pending = s.pending := (rfl)
@[simp] theorem State.setTemplate_out (s : State) (k : Nat) (v : Template) : (s.setTemplate k v).out = s.out := (rfl)
@[simp] theorem State.setTemplate_regs (s : State) (k : Nat) (v : Template) : (s.setTemplate k v).regs = s.regs := (rfl)
@[simp] theorem State.setTemplate_shadow (s : State) (k : Nat) (v : Template) : (s.setTemplate k v).shadow = s.shadow := (rfl)
@[simp] theorem State.setTemplate_latch (s : State) (k : Nat) (v : Template) : (s.setTemplate k v).latch = s.latch := (rfl)
@[simp] theorem State.setTemplate_ctrs (s : State) (k : Nat) (v : Template) : (s.setTemplate k v).ctrs = s.ctrs := (rfl)
@[simp] theorem State.setTemplate_host (s : State) (k : Nat) (v : Template) : (s.setTemplate k v).host = s.host := (rfl)
@[simp] theorem State.setTemplate_ports (s : State) (k : Nat) (v : Template) : (s.setTemplate k v).ports = s.ports := (rfl)
@[simp] theorem State.setTemplate_sw (s : State) (k : Nat) (v : Template) : (s.setTemplate k v).sw = s.sw := (rfl)
@[simp] theorem State.setTemplate_trunk (s : State) (k : Nat) (v : Template) : (s.setTemplate k v).trunk = s.trunk := (rfl)
@[simp] theorem State.setTemplate_time (s : State) (k : Nat) (v : Template) : (s.setTemplate k v).time = s.time := (rfl)
@[simp] theorem State.setTemplate_loom (s : State) (k : Nat) (v : Template) : (s.setTemplate k v).loom = s.loom := (rfl)
@[simp] theorem State.setTemplate_svc (s : State) (k : Nat) (v : Template) : (s.setTemplate k v).svc = s.svc := (rfl)
@[simp] theorem State.setTemplate_sys (s : State) (k : Nat) (v : Template) : (s.setTemplate k v).sys = s.sys := (rfl)

@[simp] theorem State.setMeter_now (s : State) (k : Nat) (v : Meter) : (s.setMeter k v).now = s.now := (rfl)
@[simp] theorem State.setMeter_free (s : State) (k : Nat) (v : Meter) : (s.setMeter k v).free = s.free := (rfl)
@[simp] theorem State.setMeter_pending (s : State) (k : Nat) (v : Meter) : (s.setMeter k v).pending = s.pending := (rfl)
@[simp] theorem State.setMeter_out (s : State) (k : Nat) (v : Meter) : (s.setMeter k v).out = s.out := (rfl)
@[simp] theorem State.setMeter_regs (s : State) (k : Nat) (v : Meter) : (s.setMeter k v).regs = s.regs := (rfl)
@[simp] theorem State.setMeter_shadow (s : State) (k : Nat) (v : Meter) : (s.setMeter k v).shadow = s.shadow := (rfl)
@[simp] theorem State.setMeter_latch (s : State) (k : Nat) (v : Meter) : (s.setMeter k v).latch = s.latch := (rfl)
@[simp] theorem State.setMeter_ctrs (s : State) (k : Nat) (v : Meter) : (s.setMeter k v).ctrs = s.ctrs := (rfl)
@[simp] theorem State.setMeter_host (s : State) (k : Nat) (v : Meter) : (s.setMeter k v).host = s.host := (rfl)
@[simp] theorem State.setMeter_ports (s : State) (k : Nat) (v : Meter) : (s.setMeter k v).ports = s.ports := (rfl)
@[simp] theorem State.setMeter_sw (s : State) (k : Nat) (v : Meter) : (s.setMeter k v).sw = s.sw := (rfl)
@[simp] theorem State.setMeter_trunk (s : State) (k : Nat) (v : Meter) : (s.setMeter k v).trunk = s.trunk := (rfl)
@[simp] theorem State.setMeter_time (s : State) (k : Nat) (v : Meter) : (s.setMeter k v).time = s.time := (rfl)
@[simp] theorem State.setMeter_loom (s : State) (k : Nat) (v : Meter) : (s.setMeter k v).loom = s.loom := (rfl)
@[simp] theorem State.setMeter_svc (s : State) (k : Nat) (v : Meter) : (s.setMeter k v).svc = s.svc := (rfl)
@[simp] theorem State.setMeter_sys (s : State) (k : Nat) (v : Meter) : (s.setMeter k v).sys = s.sys := (rfl)

@[simp] theorem State.setGrpStatic_now (s : State) (k : Nat) (v : Nat) : (s.setGrpStatic k v).now = s.now := (rfl)
@[simp] theorem State.setGrpStatic_free (s : State) (k : Nat) (v : Nat) : (s.setGrpStatic k v).free = s.free := (rfl)
@[simp] theorem State.setGrpStatic_pending (s : State) (k : Nat) (v : Nat) : (s.setGrpStatic k v).pending = s.pending := (rfl)
@[simp] theorem State.setGrpStatic_out (s : State) (k : Nat) (v : Nat) : (s.setGrpStatic k v).out = s.out := (rfl)
@[simp] theorem State.setGrpStatic_regs (s : State) (k : Nat) (v : Nat) : (s.setGrpStatic k v).regs = s.regs := (rfl)
@[simp] theorem State.setGrpStatic_shadow (s : State) (k : Nat) (v : Nat) : (s.setGrpStatic k v).shadow = s.shadow := (rfl)
@[simp] theorem State.setGrpStatic_latch (s : State) (k : Nat) (v : Nat) : (s.setGrpStatic k v).latch = s.latch := (rfl)
@[simp] theorem State.setGrpStatic_ctrs (s : State) (k : Nat) (v : Nat) : (s.setGrpStatic k v).ctrs = s.ctrs := (rfl)
@[simp] theorem State.setGrpStatic_host (s : State) (k : Nat) (v : Nat) : (s.setGrpStatic k v).host = s.host := (rfl)
@[simp] theorem State.setGrpStatic_ports (s : State) (k : Nat) (v : Nat) : (s.setGrpStatic k v).ports = s.ports := (rfl)
@[simp] theorem State.setGrpStatic_sw (s : State) (k : Nat) (v : Nat) : (s.setGrpStatic k v).sw = s.sw := (rfl)
@[simp] theorem State.setGrpStatic_trunk (s : State) (k : Nat) (v : Nat) : (s.setGrpStatic k v).trunk = s.trunk := (rfl)
@[simp] theorem State.setGrpStatic_time (s : State) (k : Nat) (v : Nat) : (s.setGrpStatic k v).time = s.time := (rfl)
@[simp] theorem State.setGrpStatic_loom (s : State) (k : Nat) (v : Nat) : (s.setGrpStatic k v).loom = s.loom := (rfl)
@[simp] theorem State.setGrpStatic_svc (s : State) (k : Nat) (v : Nat) : (s.setGrpStatic k v).svc = s.svc := (rfl)
@[simp] theorem State.setGrpStatic_sys (s : State) (k : Nat) (v : Nat) : (s.setGrpStatic k v).sys = s.sys := (rfl)

@[simp] theorem State.setGrpSnoop_now (s : State) (k : Nat) (v : Nat) : (s.setGrpSnoop k v).now = s.now := (rfl)
@[simp] theorem State.setGrpSnoop_free (s : State) (k : Nat) (v : Nat) : (s.setGrpSnoop k v).free = s.free := (rfl)
@[simp] theorem State.setGrpSnoop_pending (s : State) (k : Nat) (v : Nat) : (s.setGrpSnoop k v).pending = s.pending := (rfl)
@[simp] theorem State.setGrpSnoop_out (s : State) (k : Nat) (v : Nat) : (s.setGrpSnoop k v).out = s.out := (rfl)
@[simp] theorem State.setGrpSnoop_regs (s : State) (k : Nat) (v : Nat) : (s.setGrpSnoop k v).regs = s.regs := (rfl)
@[simp] theorem State.setGrpSnoop_shadow (s : State) (k : Nat) (v : Nat) : (s.setGrpSnoop k v).shadow = s.shadow := (rfl)
@[simp] theorem State.setGrpSnoop_latch (s : State) (k : Nat) (v : Nat) : (s.setGrpSnoop k v).latch = s.latch := (rfl)
@[simp] theorem State.setGrpSnoop_ctrs (s : State) (k : Nat) (v : Nat) : (s.setGrpSnoop k v).ctrs = s.ctrs := (rfl)
@[simp] theorem State.setGrpSnoop_host (s : State) (k : Nat) (v : Nat) : (s.setGrpSnoop k v).host = s.host := (rfl)
@[simp] theorem State.setGrpSnoop_ports (s : State) (k : Nat) (v : Nat) : (s.setGrpSnoop k v).ports = s.ports := (rfl)
@[simp] theorem State.setGrpSnoop_sw (s : State) (k : Nat) (v : Nat) : (s.setGrpSnoop k v).sw = s.sw := (rfl)
@[simp] theorem State.setGrpSnoop_trunk (s : State) (k : Nat) (v : Nat) : (s.setGrpSnoop k v).trunk = s.trunk := (rfl)
@[simp] theorem State.setGrpSnoop_time (s : State) (k : Nat) (v : Nat) : (s.setGrpSnoop k v).time = s.time := (rfl)
@[simp] theorem State.setGrpSnoop_loom (s : State) (k : Nat) (v : Nat) : (s.setGrpSnoop k v).loom = s.loom := (rfl)
@[simp] theorem State.setGrpSnoop_svc (s : State) (k : Nat) (v : Nat) : (s.setGrpSnoop k v).svc = s.svc := (rfl)
@[simp] theorem State.setGrpSnoop_sys (s : State) (k : Nat) (v : Nat) : (s.setGrpSnoop k v).sys = s.sys := (rfl)

@[simp] theorem State.setMember_now (s : State) (k : Nat) (v : Option Nat) : (s.setMember k v).now = s.now := (rfl)
@[simp] theorem State.setMember_free (s : State) (k : Nat) (v : Option Nat) : (s.setMember k v).free = s.free := (rfl)
@[simp] theorem State.setMember_pending (s : State) (k : Nat) (v : Option Nat) : (s.setMember k v).pending = s.pending := (rfl)
@[simp] theorem State.setMember_out (s : State) (k : Nat) (v : Option Nat) : (s.setMember k v).out = s.out := (rfl)
@[simp] theorem State.setMember_regs (s : State) (k : Nat) (v : Option Nat) : (s.setMember k v).regs = s.regs := (rfl)
@[simp] theorem State.setMember_shadow (s : State) (k : Nat) (v : Option Nat) : (s.setMember k v).shadow = s.shadow := (rfl)
@[simp] theorem State.setMember_latch (s : State) (k : Nat) (v : Option Nat) : (s.setMember k v).latch = s.latch := (rfl)
@[simp] theorem State.setMember_ctrs (s : State) (k : Nat) (v : Option Nat) : (s.setMember k v).ctrs = s.ctrs := (rfl)
@[simp] theorem State.setMember_host (s : State) (k : Nat) (v : Option Nat) : (s.setMember k v).host = s.host := (rfl)
@[simp] theorem State.setMember_ports (s : State) (k : Nat) (v : Option Nat) : (s.setMember k v).ports = s.ports := (rfl)
@[simp] theorem State.setMember_sw (s : State) (k : Nat) (v : Option Nat) : (s.setMember k v).sw = s.sw := (rfl)
@[simp] theorem State.setMember_trunk (s : State) (k : Nat) (v : Option Nat) : (s.setMember k v).trunk = s.trunk := (rfl)
@[simp] theorem State.setMember_time (s : State) (k : Nat) (v : Option Nat) : (s.setMember k v).time = s.time := (rfl)
@[simp] theorem State.setMember_loom (s : State) (k : Nat) (v : Option Nat) : (s.setMember k v).loom = s.loom := (rfl)
@[simp] theorem State.setMember_svc (s : State) (k : Nat) (v : Option Nat) : (s.setMember k v).svc = s.svc := (rfl)
@[simp] theorem State.setMember_sys (s : State) (k : Nat) (v : Option Nat) : (s.setMember k v).sys = s.sys := (rfl)

@[simp] theorem State.setMirCount_now (s : State) (k : Nat) (v : Nat) : (s.setMirCount k v).now = s.now := (rfl)
@[simp] theorem State.setMirCount_free (s : State) (k : Nat) (v : Nat) : (s.setMirCount k v).free = s.free := (rfl)
@[simp] theorem State.setMirCount_pending (s : State) (k : Nat) (v : Nat) : (s.setMirCount k v).pending = s.pending := (rfl)
@[simp] theorem State.setMirCount_out (s : State) (k : Nat) (v : Nat) : (s.setMirCount k v).out = s.out := (rfl)
@[simp] theorem State.setMirCount_regs (s : State) (k : Nat) (v : Nat) : (s.setMirCount k v).regs = s.regs := (rfl)
@[simp] theorem State.setMirCount_shadow (s : State) (k : Nat) (v : Nat) : (s.setMirCount k v).shadow = s.shadow := (rfl)
@[simp] theorem State.setMirCount_latch (s : State) (k : Nat) (v : Nat) : (s.setMirCount k v).latch = s.latch := (rfl)
@[simp] theorem State.setMirCount_ctrs (s : State) (k : Nat) (v : Nat) : (s.setMirCount k v).ctrs = s.ctrs := (rfl)
@[simp] theorem State.setMirCount_host (s : State) (k : Nat) (v : Nat) : (s.setMirCount k v).host = s.host := (rfl)
@[simp] theorem State.setMirCount_ports (s : State) (k : Nat) (v : Nat) : (s.setMirCount k v).ports = s.ports := (rfl)
@[simp] theorem State.setMirCount_sw (s : State) (k : Nat) (v : Nat) : (s.setMirCount k v).sw = s.sw := (rfl)
@[simp] theorem State.setMirCount_trunk (s : State) (k : Nat) (v : Nat) : (s.setMirCount k v).trunk = s.trunk := (rfl)
@[simp] theorem State.setMirCount_time (s : State) (k : Nat) (v : Nat) : (s.setMirCount k v).time = s.time := (rfl)
@[simp] theorem State.setMirCount_loom (s : State) (k : Nat) (v : Nat) : (s.setMirCount k v).loom = s.loom := (rfl)
@[simp] theorem State.setMirCount_svc (s : State) (k : Nat) (v : Nat) : (s.setMirCount k v).svc = s.svc := (rfl)
@[simp] theorem State.setMirCount_sys (s : State) (k : Nat) (v : Nat) : (s.setMirCount k v).sys = s.sys := (rfl)

@[simp] theorem State.setBdCnt_now (s : State) (k : Nat) (v : List Nat) : (s.setBdCnt k v).now = s.now := (rfl)
@[simp] theorem State.setBdCnt_free (s : State) (k : Nat) (v : List Nat) : (s.setBdCnt k v).free = s.free := (rfl)
@[simp] theorem State.setBdCnt_pending (s : State) (k : Nat) (v : List Nat) : (s.setBdCnt k v).pending = s.pending := (rfl)
@[simp] theorem State.setBdCnt_out (s : State) (k : Nat) (v : List Nat) : (s.setBdCnt k v).out = s.out := (rfl)
@[simp] theorem State.setBdCnt_regs (s : State) (k : Nat) (v : List Nat) : (s.setBdCnt k v).regs = s.regs := (rfl)
@[simp] theorem State.setBdCnt_shadow (s : State) (k : Nat) (v : List Nat) : (s.setBdCnt k v).shadow = s.shadow := (rfl)
@[simp] theorem State.setBdCnt_latch (s : State) (k : Nat) (v : List Nat) : (s.setBdCnt k v).latch = s.latch := (rfl)
@[simp] theorem State.setBdCnt_ctrs (s : State) (k : Nat) (v : List Nat) : (s.setBdCnt k v).ctrs = s.ctrs := (rfl)
@[simp] theorem State.setBdCnt_host (s : State) (k : Nat) (v : List Nat) : (s.setBdCnt k v).host = s.host := (rfl)
@[simp] theorem State.setBdCnt_ports (s : State) (k : Nat) (v : List Nat) : (s.setBdCnt k v).ports = s.ports := (rfl)
@[simp] theorem State.setBdCnt_sw (s : State) (k : Nat) (v : List Nat) : (s.setBdCnt k v).sw = s.sw := (rfl)
@[simp] theorem State.setBdCnt_trunk (s : State) (k : Nat) (v : List Nat) : (s.setBdCnt k v).trunk = s.trunk := (rfl)
@[simp] theorem State.setBdCnt_time (s : State) (k : Nat) (v : List Nat) : (s.setBdCnt k v).time = s.time := (rfl)
@[simp] theorem State.setBdCnt_loom (s : State) (k : Nat) (v : List Nat) : (s.setBdCnt k v).loom = s.loom := (rfl)
@[simp] theorem State.setBdCnt_svc (s : State) (k : Nat) (v : List Nat) : (s.setBdCnt k v).svc = s.svc := (rfl)
@[simp] theorem State.setBdCnt_sys (s : State) (k : Nat) (v : List Nat) : (s.setBdCnt k v).sys = s.sys := (rfl)

@[simp] theorem State.setDynCount_now (s : State) (k : Nat) (v : Nat) : (s.setDynCount k v).now = s.now := (rfl)
@[simp] theorem State.setDynCount_free (s : State) (k : Nat) (v : Nat) : (s.setDynCount k v).free = s.free := (rfl)
@[simp] theorem State.setDynCount_pending (s : State) (k : Nat) (v : Nat) : (s.setDynCount k v).pending = s.pending := (rfl)
@[simp] theorem State.setDynCount_out (s : State) (k : Nat) (v : Nat) : (s.setDynCount k v).out = s.out := (rfl)
@[simp] theorem State.setDynCount_regs (s : State) (k : Nat) (v : Nat) : (s.setDynCount k v).regs = s.regs := (rfl)
@[simp] theorem State.setDynCount_shadow (s : State) (k : Nat) (v : Nat) : (s.setDynCount k v).shadow = s.shadow := (rfl)
@[simp] theorem State.setDynCount_latch (s : State) (k : Nat) (v : Nat) : (s.setDynCount k v).latch = s.latch := (rfl)
@[simp] theorem State.setDynCount_ctrs (s : State) (k : Nat) (v : Nat) : (s.setDynCount k v).ctrs = s.ctrs := (rfl)
@[simp] theorem State.setDynCount_host (s : State) (k : Nat) (v : Nat) : (s.setDynCount k v).host = s.host := (rfl)
@[simp] theorem State.setDynCount_ports (s : State) (k : Nat) (v : Nat) : (s.setDynCount k v).ports = s.ports := (rfl)
@[simp] theorem State.setDynCount_sw (s : State) (k : Nat) (v : Nat) : (s.setDynCount k v).sw = s.sw := (rfl)
@[simp] theorem State.setDynCount_trunk (s : State) (k : Nat) (v : Nat) : (s.setDynCount k v).trunk = s.trunk := (rfl)
@[simp] theorem State.setDynCount_time (s : State) (k : Nat) (v : Nat) : (s.setDynCount k v).time = s.time := (rfl)
@[simp] theorem State.setDynCount_loom (s : State) (k : Nat) (v : Nat) : (s.setDynCount k v).loom = s.loom := (rfl)
@[simp] theorem State.setDynCount_svc (s : State) (k : Nat) (v : Nat) : (s.setDynCount k v).svc = s.svc := (rfl)
@[simp] theorem State.setDynCount_sys (s : State) (k : Nat) (v : Nat) : (s.setDynCount k v).sys = s.sys := (rfl)

@[simp] theorem State.setVoq_now (s : State) (k : Nat) (v : Packer) : (s.setVoq k v).now = s.now := (rfl)
@[simp] theorem State.setVoq_free (s : State) (k : Nat) (v : Packer) : (s.setVoq k v).free = s.free := (rfl)
@[simp] theorem State.setVoq_pending (s : State) (k : Nat) (v : Packer) : (s.setVoq k v).pending = s.pending := (rfl)
@[simp] theorem State.setVoq_out (s : State) (k : Nat) (v : Packer) : (s.setVoq k v).out = s.out := (rfl)
@[simp] theorem State.setVoq_regs (s : State) (k : Nat) (v : Packer) : (s.setVoq k v).regs = s.regs := (rfl)
@[simp] theorem State.setVoq_shadow (s : State) (k : Nat) (v : Packer) : (s.setVoq k v).shadow = s.shadow := (rfl)
@[simp] theorem State.setVoq_latch (s : State) (k : Nat) (v : Packer) : (s.setVoq k v).latch = s.latch := (rfl)
@[simp] theorem State.setVoq_ctrs (s : State) (k : Nat) (v : Packer) : (s.setVoq k v).ctrs = s.ctrs := (rfl)
@[simp] theorem State.setVoq_host (s : State) (k : Nat) (v : Packer) : (s.setVoq k v).host = s.host := (rfl)
@[simp] theorem State.setVoq_ports (s : State) (k : Nat) (v : Packer) : (s.setVoq k v).ports = s.ports := (rfl)
@[simp] theorem State.setVoq_tables (s : State) (k : Nat) (v : Packer) : (s.setVoq k v).tables = s.tables := (rfl)
@[simp] theorem State.setVoq_trunk (s : State) (k : Nat) (v : Packer) : (s.setVoq k v).trunk = s.trunk := (rfl)
@[simp] theorem State.setVoq_time (s : State) (k : Nat) (v : Packer) : (s.setVoq k v).time = s.time := (rfl)
@[simp] theorem State.setVoq_loom (s : State) (k : Nat) (v : Packer) : (s.setVoq k v).loom = s.loom := (rfl)
@[simp] theorem State.setVoq_svc (s : State) (k : Nat) (v : Packer) : (s.setVoq k v).svc = s.svc := (rfl)
@[simp] theorem State.setVoq_sys (s : State) (k : Nat) (v : Packer) : (s.setVoq k v).sys = s.sys := (rfl)

@[simp] theorem State.setTurn_now (s : State) (k : Nat) (v : Nat) : (s.setTurn k v).now = s.now := (rfl)
@[simp] theorem State.setTurn_free (s : State) (k : Nat) (v : Nat) : (s.setTurn k v).free = s.free := (rfl)
@[simp] theorem State.setTurn_pending (s : State) (k : Nat) (v : Nat) : (s.setTurn k v).pending = s.pending := (rfl)
@[simp] theorem State.setTurn_out (s : State) (k : Nat) (v : Nat) : (s.setTurn k v).out = s.out := (rfl)
@[simp] theorem State.setTurn_regs (s : State) (k : Nat) (v : Nat) : (s.setTurn k v).regs = s.regs := (rfl)
@[simp] theorem State.setTurn_shadow (s : State) (k : Nat) (v : Nat) : (s.setTurn k v).shadow = s.shadow := (rfl)
@[simp] theorem State.setTurn_latch (s : State) (k : Nat) (v : Nat) : (s.setTurn k v).latch = s.latch := (rfl)
@[simp] theorem State.setTurn_ctrs (s : State) (k : Nat) (v : Nat) : (s.setTurn k v).ctrs = s.ctrs := (rfl)
@[simp] theorem State.setTurn_host (s : State) (k : Nat) (v : Nat) : (s.setTurn k v).host = s.host := (rfl)
@[simp] theorem State.setTurn_ports (s : State) (k : Nat) (v : Nat) : (s.setTurn k v).ports = s.ports := (rfl)
@[simp] theorem State.setTurn_tables (s : State) (k : Nat) (v : Nat) : (s.setTurn k v).tables = s.tables := (rfl)
@[simp] theorem State.setTurn_trunk (s : State) (k : Nat) (v : Nat) : (s.setTurn k v).trunk = s.trunk := (rfl)
@[simp] theorem State.setTurn_time (s : State) (k : Nat) (v : Nat) : (s.setTurn k v).time = s.time := (rfl)
@[simp] theorem State.setTurn_loom (s : State) (k : Nat) (v : Nat) : (s.setTurn k v).loom = s.loom := (rfl)
@[simp] theorem State.setTurn_svc (s : State) (k : Nat) (v : Nat) : (s.setTurn k v).svc = s.svc := (rfl)
@[simp] theorem State.setTurn_sys (s : State) (k : Nat) (v : Nat) : (s.setTurn k v).sys = s.sys := (rfl)

@[simp] theorem State.setWithheld_now (s : State) (k : Nat) (v : Bool) : (s.setWithheld k v).now = s.now := (rfl)
@[simp] theorem State.setWithheld_free (s : State) (k : Nat) (v : Bool) : (s.setWithheld k v).free = s.free := (rfl)
@[simp] theorem State.setWithheld_pending (s : State) (k : Nat) (v : Bool) : (s.setWithheld k v).pending = s.pending := (rfl)
@[simp] theorem State.setWithheld_out (s : State) (k : Nat) (v : Bool) : (s.setWithheld k v).out = s.out := (rfl)
@[simp] theorem State.setWithheld_regs (s : State) (k : Nat) (v : Bool) : (s.setWithheld k v).regs = s.regs := (rfl)
@[simp] theorem State.setWithheld_shadow (s : State) (k : Nat) (v : Bool) : (s.setWithheld k v).shadow = s.shadow := (rfl)
@[simp] theorem State.setWithheld_latch (s : State) (k : Nat) (v : Bool) : (s.setWithheld k v).latch = s.latch := (rfl)
@[simp] theorem State.setWithheld_ctrs (s : State) (k : Nat) (v : Bool) : (s.setWithheld k v).ctrs = s.ctrs := (rfl)
@[simp] theorem State.setWithheld_host (s : State) (k : Nat) (v : Bool) : (s.setWithheld k v).host = s.host := (rfl)
@[simp] theorem State.setWithheld_ports (s : State) (k : Nat) (v : Bool) : (s.setWithheld k v).ports = s.ports := (rfl)
@[simp] theorem State.setWithheld_tables (s : State) (k : Nat) (v : Bool) : (s.setWithheld k v).tables = s.tables := (rfl)
@[simp] theorem State.setWithheld_trunk (s : State) (k : Nat) (v : Bool) : (s.setWithheld k v).trunk = s.trunk := (rfl)
@[simp] theorem State.setWithheld_time (s : State) (k : Nat) (v : Bool) : (s.setWithheld k v).time = s.time := (rfl)
@[simp] theorem State.setWithheld_loom (s : State) (k : Nat) (v : Bool) : (s.setWithheld k v).loom = s.loom := (rfl)
@[simp] theorem State.setWithheld_svc (s : State) (k : Nat) (v : Bool) : (s.setWithheld k v).svc = s.svc := (rfl)
@[simp] theorem State.setWithheld_sys (s : State) (k : Nat) (v : Bool) : (s.setWithheld k v).sys = s.sys := (rfl)

@[simp] theorem State.setStream_now (s : State) (k : Nat) (v : Stream) : (s.setStream k v).now = s.now := (rfl)
@[simp] theorem State.setStream_free (s : State) (k : Nat) (v : Stream) : (s.setStream k v).free = s.free := (rfl)
@[simp] theorem State.setStream_pending (s : State) (k : Nat) (v : Stream) : (s.setStream k v).pending = s.pending := (rfl)
@[simp] theorem State.setStream_out (s : State) (k : Nat) (v : Stream) : (s.setStream k v).out = s.out := (rfl)
@[simp] theorem State.setStream_regs (s : State) (k : Nat) (v : Stream) : (s.setStream k v).regs = s.regs := (rfl)
@[simp] theorem State.setStream_shadow (s : State) (k : Nat) (v : Stream) : (s.setStream k v).shadow = s.shadow := (rfl)
@[simp] theorem State.setStream_latch (s : State) (k : Nat) (v : Stream) : (s.setStream k v).latch = s.latch := (rfl)
@[simp] theorem State.setStream_ctrs (s : State) (k : Nat) (v : Stream) : (s.setStream k v).ctrs = s.ctrs := (rfl)
@[simp] theorem State.setStream_host (s : State) (k : Nat) (v : Stream) : (s.setStream k v).host = s.host := (rfl)
@[simp] theorem State.setStream_ports (s : State) (k : Nat) (v : Stream) : (s.setStream k v).ports = s.ports := (rfl)
@[simp] theorem State.setStream_tables (s : State) (k : Nat) (v : Stream) : (s.setStream k v).tables = s.tables := (rfl)
@[simp] theorem State.setStream_trunk (s : State) (k : Nat) (v : Stream) : (s.setStream k v).trunk = s.trunk := (rfl)
@[simp] theorem State.setStream_time (s : State) (k : Nat) (v : Stream) : (s.setStream k v).time = s.time := (rfl)
@[simp] theorem State.setStream_loom (s : State) (k : Nat) (v : Stream) : (s.setStream k v).loom = s.loom := (rfl)
@[simp] theorem State.setStream_svc (s : State) (k : Nat) (v : Stream) : (s.setStream k v).svc = s.svc := (rfl)
@[simp] theorem State.setStream_sys (s : State) (k : Nat) (v : Stream) : (s.setStream k v).sys = s.sys := (rfl)

@[simp] theorem State.setEf_now (s : State) (k : Nat) (v : Option EFrame) : (s.setEf k v).now = s.now := (rfl)
@[simp] theorem State.setEf_free (s : State) (k : Nat) (v : Option EFrame) : (s.setEf k v).free = s.free := (rfl)
@[simp] theorem State.setEf_pending (s : State) (k : Nat) (v : Option EFrame) : (s.setEf k v).pending = s.pending := (rfl)
@[simp] theorem State.setEf_out (s : State) (k : Nat) (v : Option EFrame) : (s.setEf k v).out = s.out := (rfl)
@[simp] theorem State.setEf_regs (s : State) (k : Nat) (v : Option EFrame) : (s.setEf k v).regs = s.regs := (rfl)
@[simp] theorem State.setEf_shadow (s : State) (k : Nat) (v : Option EFrame) : (s.setEf k v).shadow = s.shadow := (rfl)
@[simp] theorem State.setEf_latch (s : State) (k : Nat) (v : Option EFrame) : (s.setEf k v).latch = s.latch := (rfl)
@[simp] theorem State.setEf_ctrs (s : State) (k : Nat) (v : Option EFrame) : (s.setEf k v).ctrs = s.ctrs := (rfl)
@[simp] theorem State.setEf_host (s : State) (k : Nat) (v : Option EFrame) : (s.setEf k v).host = s.host := (rfl)
@[simp] theorem State.setEf_ports (s : State) (k : Nat) (v : Option EFrame) : (s.setEf k v).ports = s.ports := (rfl)
@[simp] theorem State.setEf_tables (s : State) (k : Nat) (v : Option EFrame) : (s.setEf k v).tables = s.tables := (rfl)
@[simp] theorem State.setEf_trunk (s : State) (k : Nat) (v : Option EFrame) : (s.setEf k v).trunk = s.trunk := (rfl)
@[simp] theorem State.setEf_time (s : State) (k : Nat) (v : Option EFrame) : (s.setEf k v).time = s.time := (rfl)
@[simp] theorem State.setEf_loom (s : State) (k : Nat) (v : Option EFrame) : (s.setEf k v).loom = s.loom := (rfl)
@[simp] theorem State.setEf_svc (s : State) (k : Nat) (v : Option EFrame) : (s.setEf k v).svc = s.svc := (rfl)
@[simp] theorem State.setEf_sys (s : State) (k : Nat) (v : Option EFrame) : (s.setEf k v).sys = s.sys := (rfl)

@[simp] theorem State.setCellSet_now (s : State) (k : Nat) (v : Nat × Nat) : (s.setCellSet k v).now = s.now := (rfl)
@[simp] theorem State.setCellSet_free (s : State) (k : Nat) (v : Nat × Nat) : (s.setCellSet k v).free = s.free := (rfl)
@[simp] theorem State.setCellSet_pending (s : State) (k : Nat) (v : Nat × Nat) : (s.setCellSet k v).pending = s.pending := (rfl)
@[simp] theorem State.setCellSet_out (s : State) (k : Nat) (v : Nat × Nat) : (s.setCellSet k v).out = s.out := (rfl)
@[simp] theorem State.setCellSet_regs (s : State) (k : Nat) (v : Nat × Nat) : (s.setCellSet k v).regs = s.regs := (rfl)
@[simp] theorem State.setCellSet_shadow (s : State) (k : Nat) (v : Nat × Nat) : (s.setCellSet k v).shadow = s.shadow := (rfl)
@[simp] theorem State.setCellSet_latch (s : State) (k : Nat) (v : Nat × Nat) : (s.setCellSet k v).latch = s.latch := (rfl)
@[simp] theorem State.setCellSet_ctrs (s : State) (k : Nat) (v : Nat × Nat) : (s.setCellSet k v).ctrs = s.ctrs := (rfl)
@[simp] theorem State.setCellSet_host (s : State) (k : Nat) (v : Nat × Nat) : (s.setCellSet k v).host = s.host := (rfl)
@[simp] theorem State.setCellSet_ports (s : State) (k : Nat) (v : Nat × Nat) : (s.setCellSet k v).ports = s.ports := (rfl)
@[simp] theorem State.setCellSet_tables (s : State) (k : Nat) (v : Nat × Nat) : (s.setCellSet k v).tables = s.tables := (rfl)
@[simp] theorem State.setCellSet_trunk (s : State) (k : Nat) (v : Nat × Nat) : (s.setCellSet k v).trunk = s.trunk := (rfl)
@[simp] theorem State.setCellSet_time (s : State) (k : Nat) (v : Nat × Nat) : (s.setCellSet k v).time = s.time := (rfl)
@[simp] theorem State.setCellSet_loom (s : State) (k : Nat) (v : Nat × Nat) : (s.setCellSet k v).loom = s.loom := (rfl)
@[simp] theorem State.setCellSet_svc (s : State) (k : Nat) (v : Nat × Nat) : (s.setCellSet k v).svc = s.svc := (rfl)
@[simp] theorem State.setCellSet_sys (s : State) (k : Nat) (v : Nat × Nat) : (s.setCellSet k v).sys = s.sys := (rfl)

@[simp] theorem State.setQueue_now (s : State) (k : Nat) (v : Queue) : (s.setQueue k v).now = s.now := (rfl)
@[simp] theorem State.setQueue_free (s : State) (k : Nat) (v : Queue) : (s.setQueue k v).free = s.free := (rfl)
@[simp] theorem State.setQueue_pending (s : State) (k : Nat) (v : Queue) : (s.setQueue k v).pending = s.pending := (rfl)
@[simp] theorem State.setQueue_out (s : State) (k : Nat) (v : Queue) : (s.setQueue k v).out = s.out := (rfl)
@[simp] theorem State.setQueue_regs (s : State) (k : Nat) (v : Queue) : (s.setQueue k v).regs = s.regs := (rfl)
@[simp] theorem State.setQueue_shadow (s : State) (k : Nat) (v : Queue) : (s.setQueue k v).shadow = s.shadow := (rfl)
@[simp] theorem State.setQueue_latch (s : State) (k : Nat) (v : Queue) : (s.setQueue k v).latch = s.latch := (rfl)
@[simp] theorem State.setQueue_ctrs (s : State) (k : Nat) (v : Queue) : (s.setQueue k v).ctrs = s.ctrs := (rfl)
@[simp] theorem State.setQueue_host (s : State) (k : Nat) (v : Queue) : (s.setQueue k v).host = s.host := (rfl)
@[simp] theorem State.setQueue_ports (s : State) (k : Nat) (v : Queue) : (s.setQueue k v).ports = s.ports := (rfl)
@[simp] theorem State.setQueue_tables (s : State) (k : Nat) (v : Queue) : (s.setQueue k v).tables = s.tables := (rfl)
@[simp] theorem State.setQueue_trunk (s : State) (k : Nat) (v : Queue) : (s.setQueue k v).trunk = s.trunk := (rfl)
@[simp] theorem State.setQueue_time (s : State) (k : Nat) (v : Queue) : (s.setQueue k v).time = s.time := (rfl)
@[simp] theorem State.setQueue_loom (s : State) (k : Nat) (v : Queue) : (s.setQueue k v).loom = s.loom := (rfl)
@[simp] theorem State.setQueue_svc (s : State) (k : Nat) (v : Queue) : (s.setQueue k v).svc = s.svc := (rfl)
@[simp] theorem State.setQueue_sys (s : State) (k : Nat) (v : Queue) : (s.setQueue k v).sys = s.sys := (rfl)

@[simp] theorem State.setChain_now (s : State) (k : Nat) (v : List Nat) : (s.setChain k v).now = s.now := (rfl)
@[simp] theorem State.setChain_free (s : State) (k : Nat) (v : List Nat) : (s.setChain k v).free = s.free := (rfl)
@[simp] theorem State.setChain_pending (s : State) (k : Nat) (v : List Nat) : (s.setChain k v).pending = s.pending := (rfl)
@[simp] theorem State.setChain_out (s : State) (k : Nat) (v : List Nat) : (s.setChain k v).out = s.out := (rfl)
@[simp] theorem State.setChain_regs (s : State) (k : Nat) (v : List Nat) : (s.setChain k v).regs = s.regs := (rfl)
@[simp] theorem State.setChain_shadow (s : State) (k : Nat) (v : List Nat) : (s.setChain k v).shadow = s.shadow := (rfl)
@[simp] theorem State.setChain_latch (s : State) (k : Nat) (v : List Nat) : (s.setChain k v).latch = s.latch := (rfl)
@[simp] theorem State.setChain_ctrs (s : State) (k : Nat) (v : List Nat) : (s.setChain k v).ctrs = s.ctrs := (rfl)
@[simp] theorem State.setChain_host (s : State) (k : Nat) (v : List Nat) : (s.setChain k v).host = s.host := (rfl)
@[simp] theorem State.setChain_ports (s : State) (k : Nat) (v : List Nat) : (s.setChain k v).ports = s.ports := (rfl)
@[simp] theorem State.setChain_tables (s : State) (k : Nat) (v : List Nat) : (s.setChain k v).tables = s.tables := (rfl)
@[simp] theorem State.setChain_trunk (s : State) (k : Nat) (v : List Nat) : (s.setChain k v).trunk = s.trunk := (rfl)
@[simp] theorem State.setChain_time (s : State) (k : Nat) (v : List Nat) : (s.setChain k v).time = s.time := (rfl)
@[simp] theorem State.setChain_loom (s : State) (k : Nat) (v : List Nat) : (s.setChain k v).loom = s.loom := (rfl)
@[simp] theorem State.setChain_svc (s : State) (k : Nat) (v : List Nat) : (s.setChain k v).svc = s.svc := (rfl)
@[simp] theorem State.setChain_sys (s : State) (k : Nat) (v : List Nat) : (s.setChain k v).sys = s.sys := (rfl)

@[simp] theorem State.setInjSide_now (s : State) (k : Nat) (v : List InjMeta) : (s.setInjSide k v).now = s.now := (rfl)
@[simp] theorem State.setInjSide_free (s : State) (k : Nat) (v : List InjMeta) : (s.setInjSide k v).free = s.free := (rfl)
@[simp] theorem State.setInjSide_pending (s : State) (k : Nat) (v : List InjMeta) : (s.setInjSide k v).pending = s.pending := (rfl)
@[simp] theorem State.setInjSide_out (s : State) (k : Nat) (v : List InjMeta) : (s.setInjSide k v).out = s.out := (rfl)
@[simp] theorem State.setInjSide_regs (s : State) (k : Nat) (v : List InjMeta) : (s.setInjSide k v).regs = s.regs := (rfl)
@[simp] theorem State.setInjSide_shadow (s : State) (k : Nat) (v : List InjMeta) : (s.setInjSide k v).shadow = s.shadow := (rfl)
@[simp] theorem State.setInjSide_latch (s : State) (k : Nat) (v : List InjMeta) : (s.setInjSide k v).latch = s.latch := (rfl)
@[simp] theorem State.setInjSide_ctrs (s : State) (k : Nat) (v : List InjMeta) : (s.setInjSide k v).ctrs = s.ctrs := (rfl)
@[simp] theorem State.setInjSide_host (s : State) (k : Nat) (v : List InjMeta) : (s.setInjSide k v).host = s.host := (rfl)
@[simp] theorem State.setInjSide_ports (s : State) (k : Nat) (v : List InjMeta) : (s.setInjSide k v).ports = s.ports := (rfl)
@[simp] theorem State.setInjSide_tables (s : State) (k : Nat) (v : List InjMeta) : (s.setInjSide k v).tables = s.tables := (rfl)
@[simp] theorem State.setInjSide_trunk (s : State) (k : Nat) (v : List InjMeta) : (s.setInjSide k v).trunk = s.trunk := (rfl)
@[simp] theorem State.setInjSide_time (s : State) (k : Nat) (v : List InjMeta) : (s.setInjSide k v).time = s.time := (rfl)
@[simp] theorem State.setInjSide_loom (s : State) (k : Nat) (v : List InjMeta) : (s.setInjSide k v).loom = s.loom := (rfl)
@[simp] theorem State.setInjSide_svc (s : State) (k : Nat) (v : List InjMeta) : (s.setInjSide k v).svc = s.svc := (rfl)
@[simp] theorem State.setInjSide_sys (s : State) (k : Nat) (v : List InjMeta) : (s.setInjSide k v).sys = s.sys := (rfl)

@[simp] theorem State.setVoqUsed_now (s : State) (k : Nat) (v : Nat) : (s.setVoqUsed k v).now = s.now := (rfl)
@[simp] theorem State.setVoqUsed_free (s : State) (k : Nat) (v : Nat) : (s.setVoqUsed k v).free = s.free := (rfl)
@[simp] theorem State.setVoqUsed_pending (s : State) (k : Nat) (v : Nat) : (s.setVoqUsed k v).pending = s.pending := (rfl)
@[simp] theorem State.setVoqUsed_out (s : State) (k : Nat) (v : Nat) : (s.setVoqUsed k v).out = s.out := (rfl)
@[simp] theorem State.setVoqUsed_regs (s : State) (k : Nat) (v : Nat) : (s.setVoqUsed k v).regs = s.regs := (rfl)
@[simp] theorem State.setVoqUsed_shadow (s : State) (k : Nat) (v : Nat) : (s.setVoqUsed k v).shadow = s.shadow := (rfl)
@[simp] theorem State.setVoqUsed_latch (s : State) (k : Nat) (v : Nat) : (s.setVoqUsed k v).latch = s.latch := (rfl)
@[simp] theorem State.setVoqUsed_ctrs (s : State) (k : Nat) (v : Nat) : (s.setVoqUsed k v).ctrs = s.ctrs := (rfl)
@[simp] theorem State.setVoqUsed_host (s : State) (k : Nat) (v : Nat) : (s.setVoqUsed k v).host = s.host := (rfl)
@[simp] theorem State.setVoqUsed_ports (s : State) (k : Nat) (v : Nat) : (s.setVoqUsed k v).ports = s.ports := (rfl)
@[simp] theorem State.setVoqUsed_tables (s : State) (k : Nat) (v : Nat) : (s.setVoqUsed k v).tables = s.tables := (rfl)
@[simp] theorem State.setVoqUsed_trunk (s : State) (k : Nat) (v : Nat) : (s.setVoqUsed k v).trunk = s.trunk := (rfl)
@[simp] theorem State.setVoqUsed_time (s : State) (k : Nat) (v : Nat) : (s.setVoqUsed k v).time = s.time := (rfl)
@[simp] theorem State.setVoqUsed_loom (s : State) (k : Nat) (v : Nat) : (s.setVoqUsed k v).loom = s.loom := (rfl)
@[simp] theorem State.setVoqUsed_svc (s : State) (k : Nat) (v : Nat) : (s.setVoqUsed k v).svc = s.svc := (rfl)
@[simp] theorem State.setVoqUsed_sys (s : State) (k : Nat) (v : Nat) : (s.setVoqUsed k v).sys = s.sys := (rfl)

@[simp] theorem State.setHeadroomUsed_now (s : State) (k : Nat) (v : Nat) : (s.setHeadroomUsed k v).now = s.now := (rfl)
@[simp] theorem State.setHeadroomUsed_free (s : State) (k : Nat) (v : Nat) : (s.setHeadroomUsed k v).free = s.free := (rfl)
@[simp] theorem State.setHeadroomUsed_pending (s : State) (k : Nat) (v : Nat) : (s.setHeadroomUsed k v).pending = s.pending := (rfl)
@[simp] theorem State.setHeadroomUsed_out (s : State) (k : Nat) (v : Nat) : (s.setHeadroomUsed k v).out = s.out := (rfl)
@[simp] theorem State.setHeadroomUsed_regs (s : State) (k : Nat) (v : Nat) : (s.setHeadroomUsed k v).regs = s.regs := (rfl)
@[simp] theorem State.setHeadroomUsed_shadow (s : State) (k : Nat) (v : Nat) : (s.setHeadroomUsed k v).shadow = s.shadow := (rfl)
@[simp] theorem State.setHeadroomUsed_latch (s : State) (k : Nat) (v : Nat) : (s.setHeadroomUsed k v).latch = s.latch := (rfl)
@[simp] theorem State.setHeadroomUsed_ctrs (s : State) (k : Nat) (v : Nat) : (s.setHeadroomUsed k v).ctrs = s.ctrs := (rfl)
@[simp] theorem State.setHeadroomUsed_host (s : State) (k : Nat) (v : Nat) : (s.setHeadroomUsed k v).host = s.host := (rfl)
@[simp] theorem State.setHeadroomUsed_ports (s : State) (k : Nat) (v : Nat) : (s.setHeadroomUsed k v).ports = s.ports := (rfl)
@[simp] theorem State.setHeadroomUsed_tables (s : State) (k : Nat) (v : Nat) : (s.setHeadroomUsed k v).tables = s.tables := (rfl)
@[simp] theorem State.setHeadroomUsed_trunk (s : State) (k : Nat) (v : Nat) : (s.setHeadroomUsed k v).trunk = s.trunk := (rfl)
@[simp] theorem State.setHeadroomUsed_time (s : State) (k : Nat) (v : Nat) : (s.setHeadroomUsed k v).time = s.time := (rfl)
@[simp] theorem State.setHeadroomUsed_loom (s : State) (k : Nat) (v : Nat) : (s.setHeadroomUsed k v).loom = s.loom := (rfl)
@[simp] theorem State.setHeadroomUsed_svc (s : State) (k : Nat) (v : Nat) : (s.setHeadroomUsed k v).svc = s.svc := (rfl)
@[simp] theorem State.setHeadroomUsed_sys (s : State) (k : Nat) (v : Nat) : (s.setHeadroomUsed k v).sys = s.sys := (rfl)

@[simp] theorem State.setWstage_now (s : State) (k : Nat) (v : Nat) : (s.setWstage k v).now = s.now := (rfl)
@[simp] theorem State.setWstage_free (s : State) (k : Nat) (v : Nat) : (s.setWstage k v).free = s.free := (rfl)
@[simp] theorem State.setWstage_pending (s : State) (k : Nat) (v : Nat) : (s.setWstage k v).pending = s.pending := (rfl)
@[simp] theorem State.setWstage_out (s : State) (k : Nat) (v : Nat) : (s.setWstage k v).out = s.out := (rfl)
@[simp] theorem State.setWstage_regs (s : State) (k : Nat) (v : Nat) : (s.setWstage k v).regs = s.regs := (rfl)
@[simp] theorem State.setWstage_shadow (s : State) (k : Nat) (v : Nat) : (s.setWstage k v).shadow = s.shadow := (rfl)
@[simp] theorem State.setWstage_latch (s : State) (k : Nat) (v : Nat) : (s.setWstage k v).latch = s.latch := (rfl)
@[simp] theorem State.setWstage_ctrs (s : State) (k : Nat) (v : Nat) : (s.setWstage k v).ctrs = s.ctrs := (rfl)
@[simp] theorem State.setWstage_host (s : State) (k : Nat) (v : Nat) : (s.setWstage k v).host = s.host := (rfl)
@[simp] theorem State.setWstage_ports (s : State) (k : Nat) (v : Nat) : (s.setWstage k v).ports = s.ports := (rfl)
@[simp] theorem State.setWstage_tables (s : State) (k : Nat) (v : Nat) : (s.setWstage k v).tables = s.tables := (rfl)
@[simp] theorem State.setWstage_trunk (s : State) (k : Nat) (v : Nat) : (s.setWstage k v).trunk = s.trunk := (rfl)
@[simp] theorem State.setWstage_time (s : State) (k : Nat) (v : Nat) : (s.setWstage k v).time = s.time := (rfl)
@[simp] theorem State.setWstage_loom (s : State) (k : Nat) (v : Nat) : (s.setWstage k v).loom = s.loom := (rfl)
@[simp] theorem State.setWstage_svc (s : State) (k : Nat) (v : Nat) : (s.setWstage k v).svc = s.svc := (rfl)
@[simp] theorem State.setWstage_sys (s : State) (k : Nat) (v : Nat) : (s.setWstage k v).sys = s.sys := (rfl)

@[simp] theorem State.setRstage_now (s : State) (k : Nat) (v : Nat) : (s.setRstage k v).now = s.now := (rfl)
@[simp] theorem State.setRstage_free (s : State) (k : Nat) (v : Nat) : (s.setRstage k v).free = s.free := (rfl)
@[simp] theorem State.setRstage_pending (s : State) (k : Nat) (v : Nat) : (s.setRstage k v).pending = s.pending := (rfl)
@[simp] theorem State.setRstage_out (s : State) (k : Nat) (v : Nat) : (s.setRstage k v).out = s.out := (rfl)
@[simp] theorem State.setRstage_regs (s : State) (k : Nat) (v : Nat) : (s.setRstage k v).regs = s.regs := (rfl)
@[simp] theorem State.setRstage_shadow (s : State) (k : Nat) (v : Nat) : (s.setRstage k v).shadow = s.shadow := (rfl)
@[simp] theorem State.setRstage_latch (s : State) (k : Nat) (v : Nat) : (s.setRstage k v).latch = s.latch := (rfl)
@[simp] theorem State.setRstage_ctrs (s : State) (k : Nat) (v : Nat) : (s.setRstage k v).ctrs = s.ctrs := (rfl)
@[simp] theorem State.setRstage_host (s : State) (k : Nat) (v : Nat) : (s.setRstage k v).host = s.host := (rfl)
@[simp] theorem State.setRstage_ports (s : State) (k : Nat) (v : Nat) : (s.setRstage k v).ports = s.ports := (rfl)
@[simp] theorem State.setRstage_tables (s : State) (k : Nat) (v : Nat) : (s.setRstage k v).tables = s.tables := (rfl)
@[simp] theorem State.setRstage_trunk (s : State) (k : Nat) (v : Nat) : (s.setRstage k v).trunk = s.trunk := (rfl)
@[simp] theorem State.setRstage_time (s : State) (k : Nat) (v : Nat) : (s.setRstage k v).time = s.time := (rfl)
@[simp] theorem State.setRstage_loom (s : State) (k : Nat) (v : Nat) : (s.setRstage k v).loom = s.loom := (rfl)
@[simp] theorem State.setRstage_svc (s : State) (k : Nat) (v : Nat) : (s.setRstage k v).svc = s.svc := (rfl)
@[simp] theorem State.setRstage_sys (s : State) (k : Nat) (v : Nat) : (s.setRstage k v).sys = s.sys := (rfl)

@[simp] theorem State.setStackSt_now (s : State) (k : Nat) (v : StackSt) : (s.setStackSt k v).now = s.now := (rfl)
@[simp] theorem State.setStackSt_free (s : State) (k : Nat) (v : StackSt) : (s.setStackSt k v).free = s.free := (rfl)
@[simp] theorem State.setStackSt_pending (s : State) (k : Nat) (v : StackSt) : (s.setStackSt k v).pending = s.pending := (rfl)
@[simp] theorem State.setStackSt_out (s : State) (k : Nat) (v : StackSt) : (s.setStackSt k v).out = s.out := (rfl)
@[simp] theorem State.setStackSt_regs (s : State) (k : Nat) (v : StackSt) : (s.setStackSt k v).regs = s.regs := (rfl)
@[simp] theorem State.setStackSt_shadow (s : State) (k : Nat) (v : StackSt) : (s.setStackSt k v).shadow = s.shadow := (rfl)
@[simp] theorem State.setStackSt_latch (s : State) (k : Nat) (v : StackSt) : (s.setStackSt k v).latch = s.latch := (rfl)
@[simp] theorem State.setStackSt_ctrs (s : State) (k : Nat) (v : StackSt) : (s.setStackSt k v).ctrs = s.ctrs := (rfl)
@[simp] theorem State.setStackSt_host (s : State) (k : Nat) (v : StackSt) : (s.setStackSt k v).host = s.host := (rfl)
@[simp] theorem State.setStackSt_ports (s : State) (k : Nat) (v : StackSt) : (s.setStackSt k v).ports = s.ports := (rfl)
@[simp] theorem State.setStackSt_tables (s : State) (k : Nat) (v : StackSt) : (s.setStackSt k v).tables = s.tables := (rfl)
@[simp] theorem State.setStackSt_trunk (s : State) (k : Nat) (v : StackSt) : (s.setStackSt k v).trunk = s.trunk := (rfl)
@[simp] theorem State.setStackSt_time (s : State) (k : Nat) (v : StackSt) : (s.setStackSt k v).time = s.time := (rfl)
@[simp] theorem State.setStackSt_loom (s : State) (k : Nat) (v : StackSt) : (s.setStackSt k v).loom = s.loom := (rfl)
@[simp] theorem State.setStackSt_svc (s : State) (k : Nat) (v : StackSt) : (s.setStackSt k v).svc = s.svc := (rfl)
@[simp] theorem State.setStackSt_sys (s : State) (k : Nat) (v : StackSt) : (s.setStackSt k v).sys = s.sys := (rfl)

@[simp] theorem State.setPoolFull_now (s : State) (k : Nat) (v : Bool) : (s.setPoolFull k v).now = s.now := (rfl)
@[simp] theorem State.setPoolFull_free (s : State) (k : Nat) (v : Bool) : (s.setPoolFull k v).free = s.free := (rfl)
@[simp] theorem State.setPoolFull_pending (s : State) (k : Nat) (v : Bool) : (s.setPoolFull k v).pending = s.pending := (rfl)
@[simp] theorem State.setPoolFull_out (s : State) (k : Nat) (v : Bool) : (s.setPoolFull k v).out = s.out := (rfl)
@[simp] theorem State.setPoolFull_regs (s : State) (k : Nat) (v : Bool) : (s.setPoolFull k v).regs = s.regs := (rfl)
@[simp] theorem State.setPoolFull_shadow (s : State) (k : Nat) (v : Bool) : (s.setPoolFull k v).shadow = s.shadow := (rfl)
@[simp] theorem State.setPoolFull_latch (s : State) (k : Nat) (v : Bool) : (s.setPoolFull k v).latch = s.latch := (rfl)
@[simp] theorem State.setPoolFull_ctrs (s : State) (k : Nat) (v : Bool) : (s.setPoolFull k v).ctrs = s.ctrs := (rfl)
@[simp] theorem State.setPoolFull_host (s : State) (k : Nat) (v : Bool) : (s.setPoolFull k v).host = s.host := (rfl)
@[simp] theorem State.setPoolFull_ports (s : State) (k : Nat) (v : Bool) : (s.setPoolFull k v).ports = s.ports := (rfl)
@[simp] theorem State.setPoolFull_tables (s : State) (k : Nat) (v : Bool) : (s.setPoolFull k v).tables = s.tables := (rfl)
@[simp] theorem State.setPoolFull_trunk (s : State) (k : Nat) (v : Bool) : (s.setPoolFull k v).trunk = s.trunk := (rfl)
@[simp] theorem State.setPoolFull_time (s : State) (k : Nat) (v : Bool) : (s.setPoolFull k v).time = s.time := (rfl)
@[simp] theorem State.setPoolFull_loom (s : State) (k : Nat) (v : Bool) : (s.setPoolFull k v).loom = s.loom := (rfl)
@[simp] theorem State.setPoolFull_svc (s : State) (k : Nat) (v : Bool) : (s.setPoolFull k v).svc = s.svc := (rfl)
@[simp] theorem State.setPoolFull_sys (s : State) (k : Nat) (v : Bool) : (s.setPoolFull k v).sys = s.sys := (rfl)

@[simp] theorem State.setLfsr_now (s : State) (k : Nat) (v : Nat) : (s.setLfsr k v).now = s.now := (rfl)
@[simp] theorem State.setLfsr_free (s : State) (k : Nat) (v : Nat) : (s.setLfsr k v).free = s.free := (rfl)
@[simp] theorem State.setLfsr_pending (s : State) (k : Nat) (v : Nat) : (s.setLfsr k v).pending = s.pending := (rfl)
@[simp] theorem State.setLfsr_out (s : State) (k : Nat) (v : Nat) : (s.setLfsr k v).out = s.out := (rfl)
@[simp] theorem State.setLfsr_regs (s : State) (k : Nat) (v : Nat) : (s.setLfsr k v).regs = s.regs := (rfl)
@[simp] theorem State.setLfsr_shadow (s : State) (k : Nat) (v : Nat) : (s.setLfsr k v).shadow = s.shadow := (rfl)
@[simp] theorem State.setLfsr_latch (s : State) (k : Nat) (v : Nat) : (s.setLfsr k v).latch = s.latch := (rfl)
@[simp] theorem State.setLfsr_ctrs (s : State) (k : Nat) (v : Nat) : (s.setLfsr k v).ctrs = s.ctrs := (rfl)
@[simp] theorem State.setLfsr_host (s : State) (k : Nat) (v : Nat) : (s.setLfsr k v).host = s.host := (rfl)
@[simp] theorem State.setLfsr_ports (s : State) (k : Nat) (v : Nat) : (s.setLfsr k v).ports = s.ports := (rfl)
@[simp] theorem State.setLfsr_tables (s : State) (k : Nat) (v : Nat) : (s.setLfsr k v).tables = s.tables := (rfl)
@[simp] theorem State.setLfsr_trunk (s : State) (k : Nat) (v : Nat) : (s.setLfsr k v).trunk = s.trunk := (rfl)
@[simp] theorem State.setLfsr_time (s : State) (k : Nat) (v : Nat) : (s.setLfsr k v).time = s.time := (rfl)
@[simp] theorem State.setLfsr_loom (s : State) (k : Nat) (v : Nat) : (s.setLfsr k v).loom = s.loom := (rfl)
@[simp] theorem State.setLfsr_svc (s : State) (k : Nat) (v : Nat) : (s.setLfsr k v).svc = s.svc := (rfl)
@[simp] theorem State.setLfsr_sys (s : State) (k : Nat) (v : Nat) : (s.setLfsr k v).sys = s.sys := (rfl)

@[simp] theorem State.setSchd_now (s : State) (k : Nat) (v : List Word) : (s.setSchd k v).now = s.now := (rfl)
@[simp] theorem State.setSchd_free (s : State) (k : Nat) (v : List Word) : (s.setSchd k v).free = s.free := (rfl)
@[simp] theorem State.setSchd_pending (s : State) (k : Nat) (v : List Word) : (s.setSchd k v).pending = s.pending := (rfl)
@[simp] theorem State.setSchd_out (s : State) (k : Nat) (v : List Word) : (s.setSchd k v).out = s.out := (rfl)
@[simp] theorem State.setSchd_regs (s : State) (k : Nat) (v : List Word) : (s.setSchd k v).regs = s.regs := (rfl)
@[simp] theorem State.setSchd_shadow (s : State) (k : Nat) (v : List Word) : (s.setSchd k v).shadow = s.shadow := (rfl)
@[simp] theorem State.setSchd_latch (s : State) (k : Nat) (v : List Word) : (s.setSchd k v).latch = s.latch := (rfl)
@[simp] theorem State.setSchd_ctrs (s : State) (k : Nat) (v : List Word) : (s.setSchd k v).ctrs = s.ctrs := (rfl)
@[simp] theorem State.setSchd_host (s : State) (k : Nat) (v : List Word) : (s.setSchd k v).host = s.host := (rfl)
@[simp] theorem State.setSchd_ports (s : State) (k : Nat) (v : List Word) : (s.setSchd k v).ports = s.ports := (rfl)
@[simp] theorem State.setSchd_tables (s : State) (k : Nat) (v : List Word) : (s.setSchd k v).tables = s.tables := (rfl)
@[simp] theorem State.setSchd_trunk (s : State) (k : Nat) (v : List Word) : (s.setSchd k v).trunk = s.trunk := (rfl)
@[simp] theorem State.setSchd_time (s : State) (k : Nat) (v : List Word) : (s.setSchd k v).time = s.time := (rfl)
@[simp] theorem State.setSchd_loom (s : State) (k : Nat) (v : List Word) : (s.setSchd k v).loom = s.loom := (rfl)
@[simp] theorem State.setSchd_svc (s : State) (k : Nat) (v : List Word) : (s.setSchd k v).svc = s.svc := (rfl)
@[simp] theorem State.setSchd_sys (s : State) (k : Nat) (v : List Word) : (s.setSchd k v).sys = s.sys := (rfl)

@[simp] theorem State.setNode_now (s : State) (k : Nat) (v : Node) : (s.setNode k v).now = s.now := (rfl)
@[simp] theorem State.setNode_free (s : State) (k : Nat) (v : Node) : (s.setNode k v).free = s.free := (rfl)
@[simp] theorem State.setNode_pending (s : State) (k : Nat) (v : Node) : (s.setNode k v).pending = s.pending := (rfl)
@[simp] theorem State.setNode_out (s : State) (k : Nat) (v : Node) : (s.setNode k v).out = s.out := (rfl)
@[simp] theorem State.setNode_regs (s : State) (k : Nat) (v : Node) : (s.setNode k v).regs = s.regs := (rfl)
@[simp] theorem State.setNode_shadow (s : State) (k : Nat) (v : Node) : (s.setNode k v).shadow = s.shadow := (rfl)
@[simp] theorem State.setNode_latch (s : State) (k : Nat) (v : Node) : (s.setNode k v).latch = s.latch := (rfl)
@[simp] theorem State.setNode_ctrs (s : State) (k : Nat) (v : Node) : (s.setNode k v).ctrs = s.ctrs := (rfl)
@[simp] theorem State.setNode_host (s : State) (k : Nat) (v : Node) : (s.setNode k v).host = s.host := (rfl)
@[simp] theorem State.setNode_ports (s : State) (k : Nat) (v : Node) : (s.setNode k v).ports = s.ports := (rfl)
@[simp] theorem State.setNode_tables (s : State) (k : Nat) (v : Node) : (s.setNode k v).tables = s.tables := (rfl)
@[simp] theorem State.setNode_trunk (s : State) (k : Nat) (v : Node) : (s.setNode k v).trunk = s.trunk := (rfl)
@[simp] theorem State.setNode_time (s : State) (k : Nat) (v : Node) : (s.setNode k v).time = s.time := (rfl)
@[simp] theorem State.setNode_loom (s : State) (k : Nat) (v : Node) : (s.setNode k v).loom = s.loom := (rfl)
@[simp] theorem State.setNode_svc (s : State) (k : Nat) (v : Node) : (s.setNode k v).svc = s.svc := (rfl)
@[simp] theorem State.setNode_sys (s : State) (k : Nat) (v : Node) : (s.setNode k v).sys = s.sys := (rfl)

@[simp] theorem State.setPsched_now (s : State) (k : Nat) (v : PortSched) : (s.setPsched k v).now = s.now := (rfl)
@[simp] theorem State.setPsched_free (s : State) (k : Nat) (v : PortSched) : (s.setPsched k v).free = s.free := (rfl)
@[simp] theorem State.setPsched_pending (s : State) (k : Nat) (v : PortSched) : (s.setPsched k v).pending = s.pending := (rfl)
@[simp] theorem State.setPsched_out (s : State) (k : Nat) (v : PortSched) : (s.setPsched k v).out = s.out := (rfl)
@[simp] theorem State.setPsched_regs (s : State) (k : Nat) (v : PortSched) : (s.setPsched k v).regs = s.regs := (rfl)
@[simp] theorem State.setPsched_shadow (s : State) (k : Nat) (v : PortSched) : (s.setPsched k v).shadow = s.shadow := (rfl)
@[simp] theorem State.setPsched_latch (s : State) (k : Nat) (v : PortSched) : (s.setPsched k v).latch = s.latch := (rfl)
@[simp] theorem State.setPsched_ctrs (s : State) (k : Nat) (v : PortSched) : (s.setPsched k v).ctrs = s.ctrs := (rfl)
@[simp] theorem State.setPsched_host (s : State) (k : Nat) (v : PortSched) : (s.setPsched k v).host = s.host := (rfl)
@[simp] theorem State.setPsched_ports (s : State) (k : Nat) (v : PortSched) : (s.setPsched k v).ports = s.ports := (rfl)
@[simp] theorem State.setPsched_tables (s : State) (k : Nat) (v : PortSched) : (s.setPsched k v).tables = s.tables := (rfl)
@[simp] theorem State.setPsched_trunk (s : State) (k : Nat) (v : PortSched) : (s.setPsched k v).trunk = s.trunk := (rfl)
@[simp] theorem State.setPsched_time (s : State) (k : Nat) (v : PortSched) : (s.setPsched k v).time = s.time := (rfl)
@[simp] theorem State.setPsched_loom (s : State) (k : Nat) (v : PortSched) : (s.setPsched k v).loom = s.loom := (rfl)
@[simp] theorem State.setPsched_svc (s : State) (k : Nat) (v : PortSched) : (s.setPsched k v).svc = s.svc := (rfl)
@[simp] theorem State.setPsched_sys (s : State) (k : Nat) (v : PortSched) : (s.setPsched k v).sys = s.sys := (rfl)

@[simp] theorem State.setGate_now (s : State) (k : Nat) (v : Gate) : (s.setGate k v).now = s.now := (rfl)
@[simp] theorem State.setGate_free (s : State) (k : Nat) (v : Gate) : (s.setGate k v).free = s.free := (rfl)
@[simp] theorem State.setGate_pending (s : State) (k : Nat) (v : Gate) : (s.setGate k v).pending = s.pending := (rfl)
@[simp] theorem State.setGate_out (s : State) (k : Nat) (v : Gate) : (s.setGate k v).out = s.out := (rfl)
@[simp] theorem State.setGate_regs (s : State) (k : Nat) (v : Gate) : (s.setGate k v).regs = s.regs := (rfl)
@[simp] theorem State.setGate_shadow (s : State) (k : Nat) (v : Gate) : (s.setGate k v).shadow = s.shadow := (rfl)
@[simp] theorem State.setGate_latch (s : State) (k : Nat) (v : Gate) : (s.setGate k v).latch = s.latch := (rfl)
@[simp] theorem State.setGate_ctrs (s : State) (k : Nat) (v : Gate) : (s.setGate k v).ctrs = s.ctrs := (rfl)
@[simp] theorem State.setGate_host (s : State) (k : Nat) (v : Gate) : (s.setGate k v).host = s.host := (rfl)
@[simp] theorem State.setGate_ports (s : State) (k : Nat) (v : Gate) : (s.setGate k v).ports = s.ports := (rfl)
@[simp] theorem State.setGate_tables (s : State) (k : Nat) (v : Gate) : (s.setGate k v).tables = s.tables := (rfl)
@[simp] theorem State.setGate_trunk (s : State) (k : Nat) (v : Gate) : (s.setGate k v).trunk = s.trunk := (rfl)
@[simp] theorem State.setGate_time (s : State) (k : Nat) (v : Gate) : (s.setGate k v).time = s.time := (rfl)
@[simp] theorem State.setGate_loom (s : State) (k : Nat) (v : Gate) : (s.setGate k v).loom = s.loom := (rfl)
@[simp] theorem State.setGate_svc (s : State) (k : Nat) (v : Gate) : (s.setGate k v).svc = s.svc := (rfl)
@[simp] theorem State.setGate_sys (s : State) (k : Nat) (v : Gate) : (s.setGate k v).sys = s.sys := (rfl)

@[simp] theorem State.setSample_now (s : State) (k : Nat) (v : Sample) : (s.setSample k v).now = s.now := (rfl)
@[simp] theorem State.setSample_free (s : State) (k : Nat) (v : Sample) : (s.setSample k v).free = s.free := (rfl)
@[simp] theorem State.setSample_pending (s : State) (k : Nat) (v : Sample) : (s.setSample k v).pending = s.pending := (rfl)
@[simp] theorem State.setSample_out (s : State) (k : Nat) (v : Sample) : (s.setSample k v).out = s.out := (rfl)
@[simp] theorem State.setSample_regs (s : State) (k : Nat) (v : Sample) : (s.setSample k v).regs = s.regs := (rfl)
@[simp] theorem State.setSample_shadow (s : State) (k : Nat) (v : Sample) : (s.setSample k v).shadow = s.shadow := (rfl)
@[simp] theorem State.setSample_latch (s : State) (k : Nat) (v : Sample) : (s.setSample k v).latch = s.latch := (rfl)
@[simp] theorem State.setSample_ctrs (s : State) (k : Nat) (v : Sample) : (s.setSample k v).ctrs = s.ctrs := (rfl)
@[simp] theorem State.setSample_host (s : State) (k : Nat) (v : Sample) : (s.setSample k v).host = s.host := (rfl)
@[simp] theorem State.setSample_ports (s : State) (k : Nat) (v : Sample) : (s.setSample k v).ports = s.ports := (rfl)
@[simp] theorem State.setSample_tables (s : State) (k : Nat) (v : Sample) : (s.setSample k v).tables = s.tables := (rfl)
@[simp] theorem State.setSample_trunk (s : State) (k : Nat) (v : Sample) : (s.setSample k v).trunk = s.trunk := (rfl)
@[simp] theorem State.setSample_time (s : State) (k : Nat) (v : Sample) : (s.setSample k v).time = s.time := (rfl)
@[simp] theorem State.setSample_loom (s : State) (k : Nat) (v : Sample) : (s.setSample k v).loom = s.loom := (rfl)
@[simp] theorem State.setSample_svc (s : State) (k : Nat) (v : Sample) : (s.setSample k v).svc = s.svc := (rfl)
@[simp] theorem State.setSample_sys (s : State) (k : Nat) (v : Sample) : (s.setSample k v).sys = s.sys := (rfl)

@[simp] theorem State.setFlexe_now (s : State) (k : Nat) (v : Flexe) : (s.setFlexe k v).now = s.now := (rfl)
@[simp] theorem State.setFlexe_free (s : State) (k : Nat) (v : Flexe) : (s.setFlexe k v).free = s.free := (rfl)
@[simp] theorem State.setFlexe_pending (s : State) (k : Nat) (v : Flexe) : (s.setFlexe k v).pending = s.pending := (rfl)
@[simp] theorem State.setFlexe_out (s : State) (k : Nat) (v : Flexe) : (s.setFlexe k v).out = s.out := (rfl)
@[simp] theorem State.setFlexe_regs (s : State) (k : Nat) (v : Flexe) : (s.setFlexe k v).regs = s.regs := (rfl)
@[simp] theorem State.setFlexe_shadow (s : State) (k : Nat) (v : Flexe) : (s.setFlexe k v).shadow = s.shadow := (rfl)
@[simp] theorem State.setFlexe_latch (s : State) (k : Nat) (v : Flexe) : (s.setFlexe k v).latch = s.latch := (rfl)
@[simp] theorem State.setFlexe_ctrs (s : State) (k : Nat) (v : Flexe) : (s.setFlexe k v).ctrs = s.ctrs := (rfl)
@[simp] theorem State.setFlexe_host (s : State) (k : Nat) (v : Flexe) : (s.setFlexe k v).host = s.host := (rfl)
@[simp] theorem State.setFlexe_ports (s : State) (k : Nat) (v : Flexe) : (s.setFlexe k v).ports = s.ports := (rfl)
@[simp] theorem State.setFlexe_tables (s : State) (k : Nat) (v : Flexe) : (s.setFlexe k v).tables = s.tables := (rfl)
@[simp] theorem State.setFlexe_sw (s : State) (k : Nat) (v : Flexe) : (s.setFlexe k v).sw = s.sw := (rfl)
@[simp] theorem State.setFlexe_time (s : State) (k : Nat) (v : Flexe) : (s.setFlexe k v).time = s.time := (rfl)
@[simp] theorem State.setFlexe_loom (s : State) (k : Nat) (v : Flexe) : (s.setFlexe k v).loom = s.loom := (rfl)
@[simp] theorem State.setFlexe_svc (s : State) (k : Nat) (v : Flexe) : (s.setFlexe k v).svc = s.svc := (rfl)
@[simp] theorem State.setFlexe_sys (s : State) (k : Nat) (v : Flexe) : (s.setFlexe k v).sys = s.sys := (rfl)

@[simp] theorem State.setClient_now (s : State) (k : Nat) (v : Client) : (s.setClient k v).now = s.now := (rfl)
@[simp] theorem State.setClient_free (s : State) (k : Nat) (v : Client) : (s.setClient k v).free = s.free := (rfl)
@[simp] theorem State.setClient_pending (s : State) (k : Nat) (v : Client) : (s.setClient k v).pending = s.pending := (rfl)
@[simp] theorem State.setClient_out (s : State) (k : Nat) (v : Client) : (s.setClient k v).out = s.out := (rfl)
@[simp] theorem State.setClient_regs (s : State) (k : Nat) (v : Client) : (s.setClient k v).regs = s.regs := (rfl)
@[simp] theorem State.setClient_shadow (s : State) (k : Nat) (v : Client) : (s.setClient k v).shadow = s.shadow := (rfl)
@[simp] theorem State.setClient_latch (s : State) (k : Nat) (v : Client) : (s.setClient k v).latch = s.latch := (rfl)
@[simp] theorem State.setClient_ctrs (s : State) (k : Nat) (v : Client) : (s.setClient k v).ctrs = s.ctrs := (rfl)
@[simp] theorem State.setClient_host (s : State) (k : Nat) (v : Client) : (s.setClient k v).host = s.host := (rfl)
@[simp] theorem State.setClient_ports (s : State) (k : Nat) (v : Client) : (s.setClient k v).ports = s.ports := (rfl)
@[simp] theorem State.setClient_tables (s : State) (k : Nat) (v : Client) : (s.setClient k v).tables = s.tables := (rfl)
@[simp] theorem State.setClient_sw (s : State) (k : Nat) (v : Client) : (s.setClient k v).sw = s.sw := (rfl)
@[simp] theorem State.setClient_time (s : State) (k : Nat) (v : Client) : (s.setClient k v).time = s.time := (rfl)
@[simp] theorem State.setClient_loom (s : State) (k : Nat) (v : Client) : (s.setClient k v).loom = s.loom := (rfl)
@[simp] theorem State.setClient_svc (s : State) (k : Nat) (v : Client) : (s.setClient k v).svc = s.svc := (rfl)
@[simp] theorem State.setClient_sys (s : State) (k : Nat) (v : Client) : (s.setClient k v).sys = s.sys := (rfl)

@[simp] theorem State.setPack_now (s : State) (k : Nat) (v : Pack) : (s.setPack k v).now = s.now := (rfl)
@[simp] theorem State.setPack_free (s : State) (k : Nat) (v : Pack) : (s.setPack k v).free = s.free := (rfl)
@[simp] theorem State.setPack_pending (s : State) (k : Nat) (v : Pack) : (s.setPack k v).pending = s.pending := (rfl)
@[simp] theorem State.setPack_out (s : State) (k : Nat) (v : Pack) : (s.setPack k v).out = s.out := (rfl)
@[simp] theorem State.setPack_regs (s : State) (k : Nat) (v : Pack) : (s.setPack k v).regs = s.regs := (rfl)
@[simp] theorem State.setPack_shadow (s : State) (k : Nat) (v : Pack) : (s.setPack k v).shadow = s.shadow := (rfl)
@[simp] theorem State.setPack_latch (s : State) (k : Nat) (v : Pack) : (s.setPack k v).latch = s.latch := (rfl)
@[simp] theorem State.setPack_ctrs (s : State) (k : Nat) (v : Pack) : (s.setPack k v).ctrs = s.ctrs := (rfl)
@[simp] theorem State.setPack_host (s : State) (k : Nat) (v : Pack) : (s.setPack k v).host = s.host := (rfl)
@[simp] theorem State.setPack_ports (s : State) (k : Nat) (v : Pack) : (s.setPack k v).ports = s.ports := (rfl)
@[simp] theorem State.setPack_tables (s : State) (k : Nat) (v : Pack) : (s.setPack k v).tables = s.tables := (rfl)
@[simp] theorem State.setPack_sw (s : State) (k : Nat) (v : Pack) : (s.setPack k v).sw = s.sw := (rfl)
@[simp] theorem State.setPack_time (s : State) (k : Nat) (v : Pack) : (s.setPack k v).time = s.time := (rfl)
@[simp] theorem State.setPack_loom (s : State) (k : Nat) (v : Pack) : (s.setPack k v).loom = s.loom := (rfl)
@[simp] theorem State.setPack_svc (s : State) (k : Nat) (v : Pack) : (s.setPack k v).svc = s.svc := (rfl)
@[simp] theorem State.setPack_sys (s : State) (k : Nat) (v : Pack) : (s.setPack k v).sys = s.sys := (rfl)

@[simp] theorem State.setFold_now (s : State) (k : Nat) (v : Fold) : (s.setFold k v).now = s.now := (rfl)
@[simp] theorem State.setFold_free (s : State) (k : Nat) (v : Fold) : (s.setFold k v).free = s.free := (rfl)
@[simp] theorem State.setFold_pending (s : State) (k : Nat) (v : Fold) : (s.setFold k v).pending = s.pending := (rfl)
@[simp] theorem State.setFold_out (s : State) (k : Nat) (v : Fold) : (s.setFold k v).out = s.out := (rfl)
@[simp] theorem State.setFold_regs (s : State) (k : Nat) (v : Fold) : (s.setFold k v).regs = s.regs := (rfl)
@[simp] theorem State.setFold_shadow (s : State) (k : Nat) (v : Fold) : (s.setFold k v).shadow = s.shadow := (rfl)
@[simp] theorem State.setFold_latch (s : State) (k : Nat) (v : Fold) : (s.setFold k v).latch = s.latch := (rfl)
@[simp] theorem State.setFold_ctrs (s : State) (k : Nat) (v : Fold) : (s.setFold k v).ctrs = s.ctrs := (rfl)
@[simp] theorem State.setFold_host (s : State) (k : Nat) (v : Fold) : (s.setFold k v).host = s.host := (rfl)
@[simp] theorem State.setFold_ports (s : State) (k : Nat) (v : Fold) : (s.setFold k v).ports = s.ports := (rfl)
@[simp] theorem State.setFold_tables (s : State) (k : Nat) (v : Fold) : (s.setFold k v).tables = s.tables := (rfl)
@[simp] theorem State.setFold_sw (s : State) (k : Nat) (v : Fold) : (s.setFold k v).sw = s.sw := (rfl)
@[simp] theorem State.setFold_time (s : State) (k : Nat) (v : Fold) : (s.setFold k v).time = s.time := (rfl)
@[simp] theorem State.setFold_loom (s : State) (k : Nat) (v : Fold) : (s.setFold k v).loom = s.loom := (rfl)
@[simp] theorem State.setFold_svc (s : State) (k : Nat) (v : Fold) : (s.setFold k v).svc = s.svc := (rfl)
@[simp] theorem State.setFold_sys (s : State) (k : Nat) (v : Fold) : (s.setFold k v).sys = s.sys := (rfl)

@[simp] theorem State.setMissCount_now (s : State) (k : Nat) (v : Nat) : (s.setMissCount k v).now = s.now := (rfl)
@[simp] theorem State.setMissCount_free (s : State) (k : Nat) (v : Nat) : (s.setMissCount k v).free = s.free := (rfl)
@[simp] theorem State.setMissCount_pending (s : State) (k : Nat) (v : Nat) : (s.setMissCount k v).pending = s.pending := (rfl)
@[simp] theorem State.setMissCount_out (s : State) (k : Nat) (v : Nat) : (s.setMissCount k v).out = s.out := (rfl)
@[simp] theorem State.setMissCount_regs (s : State) (k : Nat) (v : Nat) : (s.setMissCount k v).regs = s.regs := (rfl)
@[simp] theorem State.setMissCount_shadow (s : State) (k : Nat) (v : Nat) : (s.setMissCount k v).shadow = s.shadow := (rfl)
@[simp] theorem State.setMissCount_latch (s : State) (k : Nat) (v : Nat) : (s.setMissCount k v).latch = s.latch := (rfl)
@[simp] theorem State.setMissCount_ctrs (s : State) (k : Nat) (v : Nat) : (s.setMissCount k v).ctrs = s.ctrs := (rfl)
@[simp] theorem State.setMissCount_host (s : State) (k : Nat) (v : Nat) : (s.setMissCount k v).host = s.host := (rfl)
@[simp] theorem State.setMissCount_ports (s : State) (k : Nat) (v : Nat) : (s.setMissCount k v).ports = s.ports := (rfl)
@[simp] theorem State.setMissCount_tables (s : State) (k : Nat) (v : Nat) : (s.setMissCount k v).tables = s.tables := (rfl)
@[simp] theorem State.setMissCount_sw (s : State) (k : Nat) (v : Nat) : (s.setMissCount k v).sw = s.sw := (rfl)
@[simp] theorem State.setMissCount_time (s : State) (k : Nat) (v : Nat) : (s.setMissCount k v).time = s.time := (rfl)
@[simp] theorem State.setMissCount_loom (s : State) (k : Nat) (v : Nat) : (s.setMissCount k v).loom = s.loom := (rfl)
@[simp] theorem State.setMissCount_svc (s : State) (k : Nat) (v : Nat) : (s.setMissCount k v).svc = s.svc := (rfl)
@[simp] theorem State.setMissCount_sys (s : State) (k : Nat) (v : Nat) : (s.setMissCount k v).sys = s.sys := (rfl)

@[simp] theorem State.setLink_now (s : State) (k : Nat) (v : Link) : (s.setLink k v).now = s.now := (rfl)
@[simp] theorem State.setLink_free (s : State) (k : Nat) (v : Link) : (s.setLink k v).free = s.free := (rfl)
@[simp] theorem State.setLink_pending (s : State) (k : Nat) (v : Link) : (s.setLink k v).pending = s.pending := (rfl)
@[simp] theorem State.setLink_out (s : State) (k : Nat) (v : Link) : (s.setLink k v).out = s.out := (rfl)
@[simp] theorem State.setLink_regs (s : State) (k : Nat) (v : Link) : (s.setLink k v).regs = s.regs := (rfl)
@[simp] theorem State.setLink_shadow (s : State) (k : Nat) (v : Link) : (s.setLink k v).shadow = s.shadow := (rfl)
@[simp] theorem State.setLink_latch (s : State) (k : Nat) (v : Link) : (s.setLink k v).latch = s.latch := (rfl)
@[simp] theorem State.setLink_ctrs (s : State) (k : Nat) (v : Link) : (s.setLink k v).ctrs = s.ctrs := (rfl)
@[simp] theorem State.setLink_host (s : State) (k : Nat) (v : Link) : (s.setLink k v).host = s.host := (rfl)
@[simp] theorem State.setLink_ports (s : State) (k : Nat) (v : Link) : (s.setLink k v).ports = s.ports := (rfl)
@[simp] theorem State.setLink_tables (s : State) (k : Nat) (v : Link) : (s.setLink k v).tables = s.tables := (rfl)
@[simp] theorem State.setLink_sw (s : State) (k : Nat) (v : Link) : (s.setLink k v).sw = s.sw := (rfl)
@[simp] theorem State.setLink_time (s : State) (k : Nat) (v : Link) : (s.setLink k v).time = s.time := (rfl)
@[simp] theorem State.setLink_loom (s : State) (k : Nat) (v : Link) : (s.setLink k v).loom = s.loom := (rfl)
@[simp] theorem State.setLink_svc (s : State) (k : Nat) (v : Link) : (s.setLink k v).svc = s.svc := (rfl)
@[simp] theorem State.setLink_sys (s : State) (k : Nat) (v : Link) : (s.setLink k v).sys = s.sys := (rfl)

@[simp] theorem State.setSrcStream_now (s : State) (k : Nat) (v : Option SrcStream) : (s.setSrcStream k v).now = s.now := (rfl)
@[simp] theorem State.setSrcStream_free (s : State) (k : Nat) (v : Option SrcStream) : (s.setSrcStream k v).free = s.free := (rfl)
@[simp] theorem State.setSrcStream_pending (s : State) (k : Nat) (v : Option SrcStream) : (s.setSrcStream k v).pending = s.pending := (rfl)
@[simp] theorem State.setSrcStream_out (s : State) (k : Nat) (v : Option SrcStream) : (s.setSrcStream k v).out = s.out := (rfl)
@[simp] theorem State.setSrcStream_regs (s : State) (k : Nat) (v : Option SrcStream) : (s.setSrcStream k v).regs = s.regs := (rfl)
@[simp] theorem State.setSrcStream_shadow (s : State) (k : Nat) (v : Option SrcStream) : (s.setSrcStream k v).shadow = s.shadow := (rfl)
@[simp] theorem State.setSrcStream_latch (s : State) (k : Nat) (v : Option SrcStream) : (s.setSrcStream k v).latch = s.latch := (rfl)
@[simp] theorem State.setSrcStream_ctrs (s : State) (k : Nat) (v : Option SrcStream) : (s.setSrcStream k v).ctrs = s.ctrs := (rfl)
@[simp] theorem State.setSrcStream_host (s : State) (k : Nat) (v : Option SrcStream) : (s.setSrcStream k v).host = s.host := (rfl)
@[simp] theorem State.setSrcStream_ports (s : State) (k : Nat) (v : Option SrcStream) : (s.setSrcStream k v).ports = s.ports := (rfl)
@[simp] theorem State.setSrcStream_tables (s : State) (k : Nat) (v : Option SrcStream) : (s.setSrcStream k v).tables = s.tables := (rfl)
@[simp] theorem State.setSrcStream_sw (s : State) (k : Nat) (v : Option SrcStream) : (s.setSrcStream k v).sw = s.sw := (rfl)
@[simp] theorem State.setSrcStream_time (s : State) (k : Nat) (v : Option SrcStream) : (s.setSrcStream k v).time = s.time := (rfl)
@[simp] theorem State.setSrcStream_loom (s : State) (k : Nat) (v : Option SrcStream) : (s.setSrcStream k v).loom = s.loom := (rfl)
@[simp] theorem State.setSrcStream_svc (s : State) (k : Nat) (v : Option SrcStream) : (s.setSrcStream k v).svc = s.svc := (rfl)
@[simp] theorem State.setSrcStream_sys (s : State) (k : Nat) (v : Option SrcStream) : (s.setSrcStream k v).sys = s.sys := (rfl)

@[simp] theorem State.setDstStream_now (s : State) (k : Nat) (v : Option FabStream) : (s.setDstStream k v).now = s.now := (rfl)
@[simp] theorem State.setDstStream_free (s : State) (k : Nat) (v : Option FabStream) : (s.setDstStream k v).free = s.free := (rfl)
@[simp] theorem State.setDstStream_pending (s : State) (k : Nat) (v : Option FabStream) : (s.setDstStream k v).pending = s.pending := (rfl)
@[simp] theorem State.setDstStream_out (s : State) (k : Nat) (v : Option FabStream) : (s.setDstStream k v).out = s.out := (rfl)
@[simp] theorem State.setDstStream_regs (s : State) (k : Nat) (v : Option FabStream) : (s.setDstStream k v).regs = s.regs := (rfl)
@[simp] theorem State.setDstStream_shadow (s : State) (k : Nat) (v : Option FabStream) : (s.setDstStream k v).shadow = s.shadow := (rfl)
@[simp] theorem State.setDstStream_latch (s : State) (k : Nat) (v : Option FabStream) : (s.setDstStream k v).latch = s.latch := (rfl)
@[simp] theorem State.setDstStream_ctrs (s : State) (k : Nat) (v : Option FabStream) : (s.setDstStream k v).ctrs = s.ctrs := (rfl)
@[simp] theorem State.setDstStream_host (s : State) (k : Nat) (v : Option FabStream) : (s.setDstStream k v).host = s.host := (rfl)
@[simp] theorem State.setDstStream_ports (s : State) (k : Nat) (v : Option FabStream) : (s.setDstStream k v).ports = s.ports := (rfl)
@[simp] theorem State.setDstStream_tables (s : State) (k : Nat) (v : Option FabStream) : (s.setDstStream k v).tables = s.tables := (rfl)
@[simp] theorem State.setDstStream_sw (s : State) (k : Nat) (v : Option FabStream) : (s.setDstStream k v).sw = s.sw := (rfl)
@[simp] theorem State.setDstStream_time (s : State) (k : Nat) (v : Option FabStream) : (s.setDstStream k v).time = s.time := (rfl)
@[simp] theorem State.setDstStream_loom (s : State) (k : Nat) (v : Option FabStream) : (s.setDstStream k v).loom = s.loom := (rfl)
@[simp] theorem State.setDstStream_svc (s : State) (k : Nat) (v : Option FabStream) : (s.setDstStream k v).svc = s.svc := (rfl)
@[simp] theorem State.setDstStream_sys (s : State) (k : Nat) (v : Option FabStream) : (s.setDstStream k v).sys = s.sys := (rfl)

@[simp] theorem State.setLostItems_now (s : State) (k : Nat) (v : List (Nat × Nat × Nat)) : (s.setLostItems k v).now = s.now := (rfl)
@[simp] theorem State.setLostItems_free (s : State) (k : Nat) (v : List (Nat × Nat × Nat)) : (s.setLostItems k v).free = s.free := (rfl)
@[simp] theorem State.setLostItems_pending (s : State) (k : Nat) (v : List (Nat × Nat × Nat)) : (s.setLostItems k v).pending = s.pending := (rfl)
@[simp] theorem State.setLostItems_out (s : State) (k : Nat) (v : List (Nat × Nat × Nat)) : (s.setLostItems k v).out = s.out := (rfl)
@[simp] theorem State.setLostItems_regs (s : State) (k : Nat) (v : List (Nat × Nat × Nat)) : (s.setLostItems k v).regs = s.regs := (rfl)
@[simp] theorem State.setLostItems_shadow (s : State) (k : Nat) (v : List (Nat × Nat × Nat)) : (s.setLostItems k v).shadow = s.shadow := (rfl)
@[simp] theorem State.setLostItems_latch (s : State) (k : Nat) (v : List (Nat × Nat × Nat)) : (s.setLostItems k v).latch = s.latch := (rfl)
@[simp] theorem State.setLostItems_ctrs (s : State) (k : Nat) (v : List (Nat × Nat × Nat)) : (s.setLostItems k v).ctrs = s.ctrs := (rfl)
@[simp] theorem State.setLostItems_host (s : State) (k : Nat) (v : List (Nat × Nat × Nat)) : (s.setLostItems k v).host = s.host := (rfl)
@[simp] theorem State.setLostItems_ports (s : State) (k : Nat) (v : List (Nat × Nat × Nat)) : (s.setLostItems k v).ports = s.ports := (rfl)
@[simp] theorem State.setLostItems_tables (s : State) (k : Nat) (v : List (Nat × Nat × Nat)) : (s.setLostItems k v).tables = s.tables := (rfl)
@[simp] theorem State.setLostItems_sw (s : State) (k : Nat) (v : List (Nat × Nat × Nat)) : (s.setLostItems k v).sw = s.sw := (rfl)
@[simp] theorem State.setLostItems_time (s : State) (k : Nat) (v : List (Nat × Nat × Nat)) : (s.setLostItems k v).time = s.time := (rfl)
@[simp] theorem State.setLostItems_loom (s : State) (k : Nat) (v : List (Nat × Nat × Nat)) : (s.setLostItems k v).loom = s.loom := (rfl)
@[simp] theorem State.setLostItems_svc (s : State) (k : Nat) (v : List (Nat × Nat × Nat)) : (s.setLostItems k v).svc = s.svc := (rfl)
@[simp] theorem State.setLostItems_sys (s : State) (k : Nat) (v : List (Nat × Nat × Nat)) : (s.setLostItems k v).sys = s.sys := (rfl)

@[simp] theorem State.setDeliver_now (s : State) (k : Nat) (v : List Cell) : (s.setDeliver k v).now = s.now := (rfl)
@[simp] theorem State.setDeliver_free (s : State) (k : Nat) (v : List Cell) : (s.setDeliver k v).free = s.free := (rfl)
@[simp] theorem State.setDeliver_pending (s : State) (k : Nat) (v : List Cell) : (s.setDeliver k v).pending = s.pending := (rfl)
@[simp] theorem State.setDeliver_out (s : State) (k : Nat) (v : List Cell) : (s.setDeliver k v).out = s.out := (rfl)
@[simp] theorem State.setDeliver_regs (s : State) (k : Nat) (v : List Cell) : (s.setDeliver k v).regs = s.regs := (rfl)
@[simp] theorem State.setDeliver_shadow (s : State) (k : Nat) (v : List Cell) : (s.setDeliver k v).shadow = s.shadow := (rfl)
@[simp] theorem State.setDeliver_latch (s : State) (k : Nat) (v : List Cell) : (s.setDeliver k v).latch = s.latch := (rfl)
@[simp] theorem State.setDeliver_ctrs (s : State) (k : Nat) (v : List Cell) : (s.setDeliver k v).ctrs = s.ctrs := (rfl)
@[simp] theorem State.setDeliver_host (s : State) (k : Nat) (v : List Cell) : (s.setDeliver k v).host = s.host := (rfl)
@[simp] theorem State.setDeliver_ports (s : State) (k : Nat) (v : List Cell) : (s.setDeliver k v).ports = s.ports := (rfl)
@[simp] theorem State.setDeliver_tables (s : State) (k : Nat) (v : List Cell) : (s.setDeliver k v).tables = s.tables := (rfl)
@[simp] theorem State.setDeliver_sw (s : State) (k : Nat) (v : List Cell) : (s.setDeliver k v).sw = s.sw := (rfl)
@[simp] theorem State.setDeliver_time (s : State) (k : Nat) (v : List Cell) : (s.setDeliver k v).time = s.time := (rfl)
@[simp] theorem State.setDeliver_loom (s : State) (k : Nat) (v : List Cell) : (s.setDeliver k v).loom = s.loom := (rfl)
@[simp] theorem State.setDeliver_svc (s : State) (k : Nat) (v : List Cell) : (s.setDeliver k v).svc = s.svc := (rfl)
@[simp] theorem State.setDeliver_sys (s : State) (k : Nat) (v : List Cell) : (s.setDeliver k v).sys = s.sys := (rfl)

@[simp] theorem State.setGroupTurn_now (s : State) (k : Nat) (v : Nat) : (s.setGroupTurn k v).now = s.now := (rfl)
@[simp] theorem State.setGroupTurn_free (s : State) (k : Nat) (v : Nat) : (s.setGroupTurn k v).free = s.free := (rfl)
@[simp] theorem State.setGroupTurn_pending (s : State) (k : Nat) (v : Nat) : (s.setGroupTurn k v).pending = s.pending := (rfl)
@[simp] theorem State.setGroupTurn_out (s : State) (k : Nat) (v : Nat) : (s.setGroupTurn k v).out = s.out := (rfl)
@[simp] theorem State.setGroupTurn_regs (s : State) (k : Nat) (v : Nat) : (s.setGroupTurn k v).regs = s.regs := (rfl)
@[simp] theorem State.setGroupTurn_shadow (s : State) (k : Nat) (v : Nat) : (s.setGroupTurn k v).shadow = s.shadow := (rfl)
@[simp] theorem State.setGroupTurn_latch (s : State) (k : Nat) (v : Nat) : (s.setGroupTurn k v).latch = s.latch := (rfl)
@[simp] theorem State.setGroupTurn_ctrs (s : State) (k : Nat) (v : Nat) : (s.setGroupTurn k v).ctrs = s.ctrs := (rfl)
@[simp] theorem State.setGroupTurn_host (s : State) (k : Nat) (v : Nat) : (s.setGroupTurn k v).host = s.host := (rfl)
@[simp] theorem State.setGroupTurn_ports (s : State) (k : Nat) (v : Nat) : (s.setGroupTurn k v).ports = s.ports := (rfl)
@[simp] theorem State.setGroupTurn_tables (s : State) (k : Nat) (v : Nat) : (s.setGroupTurn k v).tables = s.tables := (rfl)
@[simp] theorem State.setGroupTurn_sw (s : State) (k : Nat) (v : Nat) : (s.setGroupTurn k v).sw = s.sw := (rfl)
@[simp] theorem State.setGroupTurn_time (s : State) (k : Nat) (v : Nat) : (s.setGroupTurn k v).time = s.time := (rfl)
@[simp] theorem State.setGroupTurn_loom (s : State) (k : Nat) (v : Nat) : (s.setGroupTurn k v).loom = s.loom := (rfl)
@[simp] theorem State.setGroupTurn_svc (s : State) (k : Nat) (v : Nat) : (s.setGroupTurn k v).svc = s.svc := (rfl)
@[simp] theorem State.setGroupTurn_sys (s : State) (k : Nat) (v : Nat) : (s.setGroupTurn k v).sys = s.sys := (rfl)

@[simp] theorem State.setTb_now (s : State) (k : Nat) (v : TimeBase) : (s.setTb k v).now = s.now := (rfl)
@[simp] theorem State.setTb_free (s : State) (k : Nat) (v : TimeBase) : (s.setTb k v).free = s.free := (rfl)
@[simp] theorem State.setTb_pending (s : State) (k : Nat) (v : TimeBase) : (s.setTb k v).pending = s.pending := (rfl)
@[simp] theorem State.setTb_out (s : State) (k : Nat) (v : TimeBase) : (s.setTb k v).out = s.out := (rfl)
@[simp] theorem State.setTb_regs (s : State) (k : Nat) (v : TimeBase) : (s.setTb k v).regs = s.regs := (rfl)
@[simp] theorem State.setTb_shadow (s : State) (k : Nat) (v : TimeBase) : (s.setTb k v).shadow = s.shadow := (rfl)
@[simp] theorem State.setTb_latch (s : State) (k : Nat) (v : TimeBase) : (s.setTb k v).latch = s.latch := (rfl)
@[simp] theorem State.setTb_ctrs (s : State) (k : Nat) (v : TimeBase) : (s.setTb k v).ctrs = s.ctrs := (rfl)
@[simp] theorem State.setTb_host (s : State) (k : Nat) (v : TimeBase) : (s.setTb k v).host = s.host := (rfl)
@[simp] theorem State.setTb_ports (s : State) (k : Nat) (v : TimeBase) : (s.setTb k v).ports = s.ports := (rfl)
@[simp] theorem State.setTb_tables (s : State) (k : Nat) (v : TimeBase) : (s.setTb k v).tables = s.tables := (rfl)
@[simp] theorem State.setTb_sw (s : State) (k : Nat) (v : TimeBase) : (s.setTb k v).sw = s.sw := (rfl)
@[simp] theorem State.setTb_trunk (s : State) (k : Nat) (v : TimeBase) : (s.setTb k v).trunk = s.trunk := (rfl)
@[simp] theorem State.setTb_loom (s : State) (k : Nat) (v : TimeBase) : (s.setTb k v).loom = s.loom := (rfl)
@[simp] theorem State.setTb_svc (s : State) (k : Nat) (v : TimeBase) : (s.setTb k v).svc = s.svc := (rfl)
@[simp] theorem State.setTb_sys (s : State) (k : Nat) (v : TimeBase) : (s.setTb k v).sys = s.sys := (rfl)

@[simp] theorem State.setArrival_now (s : State) (k : Nat) (v : Nat × Nat) : (s.setArrival k v).now = s.now := (rfl)
@[simp] theorem State.setArrival_free (s : State) (k : Nat) (v : Nat × Nat) : (s.setArrival k v).free = s.free := (rfl)
@[simp] theorem State.setArrival_pending (s : State) (k : Nat) (v : Nat × Nat) : (s.setArrival k v).pending = s.pending := (rfl)
@[simp] theorem State.setArrival_out (s : State) (k : Nat) (v : Nat × Nat) : (s.setArrival k v).out = s.out := (rfl)
@[simp] theorem State.setArrival_regs (s : State) (k : Nat) (v : Nat × Nat) : (s.setArrival k v).regs = s.regs := (rfl)
@[simp] theorem State.setArrival_shadow (s : State) (k : Nat) (v : Nat × Nat) : (s.setArrival k v).shadow = s.shadow := (rfl)
@[simp] theorem State.setArrival_latch (s : State) (k : Nat) (v : Nat × Nat) : (s.setArrival k v).latch = s.latch := (rfl)
@[simp] theorem State.setArrival_ctrs (s : State) (k : Nat) (v : Nat × Nat) : (s.setArrival k v).ctrs = s.ctrs := (rfl)
@[simp] theorem State.setArrival_host (s : State) (k : Nat) (v : Nat × Nat) : (s.setArrival k v).host = s.host := (rfl)
@[simp] theorem State.setArrival_ports (s : State) (k : Nat) (v : Nat × Nat) : (s.setArrival k v).ports = s.ports := (rfl)
@[simp] theorem State.setArrival_tables (s : State) (k : Nat) (v : Nat × Nat) : (s.setArrival k v).tables = s.tables := (rfl)
@[simp] theorem State.setArrival_sw (s : State) (k : Nat) (v : Nat × Nat) : (s.setArrival k v).sw = s.sw := (rfl)
@[simp] theorem State.setArrival_trunk (s : State) (k : Nat) (v : Nat × Nat) : (s.setArrival k v).trunk = s.trunk := (rfl)
@[simp] theorem State.setArrival_loom (s : State) (k : Nat) (v : Nat × Nat) : (s.setArrival k v).loom = s.loom := (rfl)
@[simp] theorem State.setArrival_svc (s : State) (k : Nat) (v : Nat × Nat) : (s.setArrival k v).svc = s.svc := (rfl)
@[simp] theorem State.setArrival_sys (s : State) (k : Nat) (v : Nat × Nat) : (s.setArrival k v).sys = s.sys := (rfl)

@[simp] theorem State.setInjQ_now (s : State) (k : Nat) (v : List InjDesc) : (s.setInjQ k v).now = s.now := (rfl)
@[simp] theorem State.setInjQ_free (s : State) (k : Nat) (v : List InjDesc) : (s.setInjQ k v).free = s.free := (rfl)
@[simp] theorem State.setInjQ_pending (s : State) (k : Nat) (v : List InjDesc) : (s.setInjQ k v).pending = s.pending := (rfl)
@[simp] theorem State.setInjQ_out (s : State) (k : Nat) (v : List InjDesc) : (s.setInjQ k v).out = s.out := (rfl)
@[simp] theorem State.setInjQ_regs (s : State) (k : Nat) (v : List InjDesc) : (s.setInjQ k v).regs = s.regs := (rfl)
@[simp] theorem State.setInjQ_shadow (s : State) (k : Nat) (v : List InjDesc) : (s.setInjQ k v).shadow = s.shadow := (rfl)
@[simp] theorem State.setInjQ_latch (s : State) (k : Nat) (v : List InjDesc) : (s.setInjQ k v).latch = s.latch := (rfl)
@[simp] theorem State.setInjQ_ctrs (s : State) (k : Nat) (v : List InjDesc) : (s.setInjQ k v).ctrs = s.ctrs := (rfl)
@[simp] theorem State.setInjQ_host (s : State) (k : Nat) (v : List InjDesc) : (s.setInjQ k v).host = s.host := (rfl)
@[simp] theorem State.setInjQ_ports (s : State) (k : Nat) (v : List InjDesc) : (s.setInjQ k v).ports = s.ports := (rfl)
@[simp] theorem State.setInjQ_tables (s : State) (k : Nat) (v : List InjDesc) : (s.setInjQ k v).tables = s.tables := (rfl)
@[simp] theorem State.setInjQ_sw (s : State) (k : Nat) (v : List InjDesc) : (s.setInjQ k v).sw = s.sw := (rfl)
@[simp] theorem State.setInjQ_trunk (s : State) (k : Nat) (v : List InjDesc) : (s.setInjQ k v).trunk = s.trunk := (rfl)
@[simp] theorem State.setInjQ_time (s : State) (k : Nat) (v : List InjDesc) : (s.setInjQ k v).time = s.time := (rfl)
@[simp] theorem State.setInjQ_loom (s : State) (k : Nat) (v : List InjDesc) : (s.setInjQ k v).loom = s.loom := (rfl)
@[simp] theorem State.setInjQ_sys (s : State) (k : Nat) (v : List InjDesc) : (s.setInjQ k v).sys = s.sys := (rfl)

@[simp] theorem State.setPortBucket_now (s : State) (k : Nat) (v : Bucket) : (s.setPortBucket k v).now = s.now := (rfl)
@[simp] theorem State.setPortBucket_free (s : State) (k : Nat) (v : Bucket) : (s.setPortBucket k v).free = s.free := (rfl)
@[simp] theorem State.setPortBucket_pending (s : State) (k : Nat) (v : Bucket) : (s.setPortBucket k v).pending = s.pending := (rfl)
@[simp] theorem State.setPortBucket_out (s : State) (k : Nat) (v : Bucket) : (s.setPortBucket k v).out = s.out := (rfl)
@[simp] theorem State.setPortBucket_regs (s : State) (k : Nat) (v : Bucket) : (s.setPortBucket k v).regs = s.regs := (rfl)
@[simp] theorem State.setPortBucket_shadow (s : State) (k : Nat) (v : Bucket) : (s.setPortBucket k v).shadow = s.shadow := (rfl)
@[simp] theorem State.setPortBucket_latch (s : State) (k : Nat) (v : Bucket) : (s.setPortBucket k v).latch = s.latch := (rfl)
@[simp] theorem State.setPortBucket_ctrs (s : State) (k : Nat) (v : Bucket) : (s.setPortBucket k v).ctrs = s.ctrs := (rfl)
@[simp] theorem State.setPortBucket_host (s : State) (k : Nat) (v : Bucket) : (s.setPortBucket k v).host = s.host := (rfl)
@[simp] theorem State.setPortBucket_ports (s : State) (k : Nat) (v : Bucket) : (s.setPortBucket k v).ports = s.ports := (rfl)
@[simp] theorem State.setPortBucket_tables (s : State) (k : Nat) (v : Bucket) : (s.setPortBucket k v).tables = s.tables := (rfl)
@[simp] theorem State.setPortBucket_sw (s : State) (k : Nat) (v : Bucket) : (s.setPortBucket k v).sw = s.sw := (rfl)
@[simp] theorem State.setPortBucket_trunk (s : State) (k : Nat) (v : Bucket) : (s.setPortBucket k v).trunk = s.trunk := (rfl)
@[simp] theorem State.setPortBucket_time (s : State) (k : Nat) (v : Bucket) : (s.setPortBucket k v).time = s.time := (rfl)
@[simp] theorem State.setPortBucket_loom (s : State) (k : Nat) (v : Bucket) : (s.setPortBucket k v).loom = s.loom := (rfl)
@[simp] theorem State.setPortBucket_sys (s : State) (k : Nat) (v : Bucket) : (s.setPortBucket k v).sys = s.sys := (rfl)

@[simp] theorem State.setBuf_now (s : State) (k : Nat) (v : Buf) : (s.setBuf k v).now = s.now := (rfl)
@[simp] theorem State.setBuf_free (s : State) (k : Nat) (v : Buf) : (s.setBuf k v).free = s.free := (rfl)
@[simp] theorem State.setBuf_pending (s : State) (k : Nat) (v : Buf) : (s.setBuf k v).pending = s.pending := (rfl)
@[simp] theorem State.setBuf_out (s : State) (k : Nat) (v : Buf) : (s.setBuf k v).out = s.out := (rfl)
@[simp] theorem State.setBuf_regs (s : State) (k : Nat) (v : Buf) : (s.setBuf k v).regs = s.regs := (rfl)
@[simp] theorem State.setBuf_shadow (s : State) (k : Nat) (v : Buf) : (s.setBuf k v).shadow = s.shadow := (rfl)
@[simp] theorem State.setBuf_latch (s : State) (k : Nat) (v : Buf) : (s.setBuf k v).latch = s.latch := (rfl)
@[simp] theorem State.setBuf_ctrs (s : State) (k : Nat) (v : Buf) : (s.setBuf k v).ctrs = s.ctrs := (rfl)
@[simp] theorem State.setBuf_host (s : State) (k : Nat) (v : Buf) : (s.setBuf k v).host = s.host := (rfl)
@[simp] theorem State.setBuf_ports (s : State) (k : Nat) (v : Buf) : (s.setBuf k v).ports = s.ports := (rfl)
@[simp] theorem State.setBuf_tables (s : State) (k : Nat) (v : Buf) : (s.setBuf k v).tables = s.tables := (rfl)
@[simp] theorem State.setBuf_sw (s : State) (k : Nat) (v : Buf) : (s.setBuf k v).sw = s.sw := (rfl)
@[simp] theorem State.setBuf_trunk (s : State) (k : Nat) (v : Buf) : (s.setBuf k v).trunk = s.trunk := (rfl)
@[simp] theorem State.setBuf_time (s : State) (k : Nat) (v : Buf) : (s.setBuf k v).time = s.time := (rfl)
@[simp] theorem State.setBuf_loom (s : State) (k : Nat) (v : Buf) : (s.setBuf k v).loom = s.loom := (rfl)
@[simp] theorem State.setBuf_sys (s : State) (k : Nat) (v : Buf) : (s.setBuf k v).sys = s.sys := (rfl)

@[simp] theorem State.setIsland_now (s : State) (k : Nat) (v : IslandSt) : (s.setIsland k v).now = s.now := (rfl)
@[simp] theorem State.setIsland_free (s : State) (k : Nat) (v : IslandSt) : (s.setIsland k v).free = s.free := (rfl)
@[simp] theorem State.setIsland_pending (s : State) (k : Nat) (v : IslandSt) : (s.setIsland k v).pending = s.pending := (rfl)
@[simp] theorem State.setIsland_out (s : State) (k : Nat) (v : IslandSt) : (s.setIsland k v).out = s.out := (rfl)
@[simp] theorem State.setIsland_regs (s : State) (k : Nat) (v : IslandSt) : (s.setIsland k v).regs = s.regs := (rfl)
@[simp] theorem State.setIsland_shadow (s : State) (k : Nat) (v : IslandSt) : (s.setIsland k v).shadow = s.shadow := (rfl)
@[simp] theorem State.setIsland_latch (s : State) (k : Nat) (v : IslandSt) : (s.setIsland k v).latch = s.latch := (rfl)
@[simp] theorem State.setIsland_ctrs (s : State) (k : Nat) (v : IslandSt) : (s.setIsland k v).ctrs = s.ctrs := (rfl)
@[simp] theorem State.setIsland_host (s : State) (k : Nat) (v : IslandSt) : (s.setIsland k v).host = s.host := (rfl)
@[simp] theorem State.setIsland_ports (s : State) (k : Nat) (v : IslandSt) : (s.setIsland k v).ports = s.ports := (rfl)
@[simp] theorem State.setIsland_tables (s : State) (k : Nat) (v : IslandSt) : (s.setIsland k v).tables = s.tables := (rfl)
@[simp] theorem State.setIsland_sw (s : State) (k : Nat) (v : IslandSt) : (s.setIsland k v).sw = s.sw := (rfl)
@[simp] theorem State.setIsland_trunk (s : State) (k : Nat) (v : IslandSt) : (s.setIsland k v).trunk = s.trunk := (rfl)
@[simp] theorem State.setIsland_time (s : State) (k : Nat) (v : IslandSt) : (s.setIsland k v).time = s.time := (rfl)
@[simp] theorem State.setIsland_loom (s : State) (k : Nat) (v : IslandSt) : (s.setIsland k v).loom = s.loom := (rfl)
@[simp] theorem State.setIsland_svc (s : State) (k : Nat) (v : IslandSt) : (s.setIsland k v).svc = s.svc := (rfl)

@[simp] theorem State.setBlock_now (s : State) (k : Nat) (v : Block) : (s.setBlock k v).now = s.now := (rfl)
@[simp] theorem State.setBlock_free (s : State) (k : Nat) (v : Block) : (s.setBlock k v).free = s.free := (rfl)
@[simp] theorem State.setBlock_pending (s : State) (k : Nat) (v : Block) : (s.setBlock k v).pending = s.pending := (rfl)
@[simp] theorem State.setBlock_out (s : State) (k : Nat) (v : Block) : (s.setBlock k v).out = s.out := (rfl)
@[simp] theorem State.setBlock_regs (s : State) (k : Nat) (v : Block) : (s.setBlock k v).regs = s.regs := (rfl)
@[simp] theorem State.setBlock_shadow (s : State) (k : Nat) (v : Block) : (s.setBlock k v).shadow = s.shadow := (rfl)
@[simp] theorem State.setBlock_latch (s : State) (k : Nat) (v : Block) : (s.setBlock k v).latch = s.latch := (rfl)
@[simp] theorem State.setBlock_ctrs (s : State) (k : Nat) (v : Block) : (s.setBlock k v).ctrs = s.ctrs := (rfl)
@[simp] theorem State.setBlock_host (s : State) (k : Nat) (v : Block) : (s.setBlock k v).host = s.host := (rfl)
@[simp] theorem State.setBlock_ports (s : State) (k : Nat) (v : Block) : (s.setBlock k v).ports = s.ports := (rfl)
@[simp] theorem State.setBlock_tables (s : State) (k : Nat) (v : Block) : (s.setBlock k v).tables = s.tables := (rfl)
@[simp] theorem State.setBlock_sw (s : State) (k : Nat) (v : Block) : (s.setBlock k v).sw = s.sw := (rfl)
@[simp] theorem State.setBlock_trunk (s : State) (k : Nat) (v : Block) : (s.setBlock k v).trunk = s.trunk := (rfl)
@[simp] theorem State.setBlock_time (s : State) (k : Nat) (v : Block) : (s.setBlock k v).time = s.time := (rfl)
@[simp] theorem State.setBlock_loom (s : State) (k : Nat) (v : Block) : (s.setBlock k v).loom = s.loom := (rfl)
@[simp] theorem State.setBlock_svc (s : State) (k : Nat) (v : Block) : (s.setBlock k v).svc = s.svc := (rfl)

@[simp] theorem State.setLoom_now (s : State) (k : Nat) (v : Loom) : (s.setLoom k v).now = s.now := (rfl)
@[simp] theorem State.setLoom_free (s : State) (k : Nat) (v : Loom) : (s.setLoom k v).free = s.free := (rfl)
@[simp] theorem State.setLoom_pending (s : State) (k : Nat) (v : Loom) : (s.setLoom k v).pending = s.pending := (rfl)
@[simp] theorem State.setLoom_out (s : State) (k : Nat) (v : Loom) : (s.setLoom k v).out = s.out := (rfl)
@[simp] theorem State.setLoom_regs (s : State) (k : Nat) (v : Loom) : (s.setLoom k v).regs = s.regs := (rfl)
@[simp] theorem State.setLoom_shadow (s : State) (k : Nat) (v : Loom) : (s.setLoom k v).shadow = s.shadow := (rfl)
@[simp] theorem State.setLoom_latch (s : State) (k : Nat) (v : Loom) : (s.setLoom k v).latch = s.latch := (rfl)
@[simp] theorem State.setLoom_ctrs (s : State) (k : Nat) (v : Loom) : (s.setLoom k v).ctrs = s.ctrs := (rfl)
@[simp] theorem State.setLoom_host (s : State) (k : Nat) (v : Loom) : (s.setLoom k v).host = s.host := (rfl)
@[simp] theorem State.setLoom_ports (s : State) (k : Nat) (v : Loom) : (s.setLoom k v).ports = s.ports := (rfl)
@[simp] theorem State.setLoom_tables (s : State) (k : Nat) (v : Loom) : (s.setLoom k v).tables = s.tables := (rfl)
@[simp] theorem State.setLoom_sw (s : State) (k : Nat) (v : Loom) : (s.setLoom k v).sw = s.sw := (rfl)
@[simp] theorem State.setLoom_trunk (s : State) (k : Nat) (v : Loom) : (s.setLoom k v).trunk = s.trunk := (rfl)
@[simp] theorem State.setLoom_time (s : State) (k : Nat) (v : Loom) : (s.setLoom k v).time = s.time := (rfl)
@[simp] theorem State.setLoom_svc (s : State) (k : Nat) (v : Loom) : (s.setLoom k v).svc = s.svc := (rfl)
@[simp] theorem State.setLoom_sys (s : State) (k : Nat) (v : Loom) : (s.setLoom k v).sys = s.sys := (rfl)

@[simp] theorem State.noteLevel_now (s : State) (pg src : Nat) (b : Bool) : (s.noteLevel pg src b).now = s.now := (rfl)
@[simp] theorem State.noteLevel_free (s : State) (pg src : Nat) (b : Bool) : (s.noteLevel pg src b).free = s.free := (rfl)
@[simp] theorem State.noteLevel_pending (s : State) (pg src : Nat) (b : Bool) : (s.noteLevel pg src b).pending = s.pending := (rfl)
@[simp] theorem State.noteLevel_out (s : State) (pg src : Nat) (b : Bool) : (s.noteLevel pg src b).out = s.out := (rfl)
@[simp] theorem State.noteLevel_regs (s : State) (pg src : Nat) (b : Bool) : (s.noteLevel pg src b).regs = s.regs := (rfl)
@[simp] theorem State.noteLevel_shadow (s : State) (pg src : Nat) (b : Bool) : (s.noteLevel pg src b).shadow = s.shadow := (rfl)
@[simp] theorem State.noteLevel_latch (s : State) (pg src : Nat) (b : Bool) : (s.noteLevel pg src b).latch = s.latch := (rfl)
@[simp] theorem State.noteLevel_ctrs (s : State) (pg src : Nat) (b : Bool) : (s.noteLevel pg src b).ctrs = s.ctrs := (rfl)
@[simp] theorem State.noteLevel_ports (s : State) (pg src : Nat) (b : Bool) : (s.noteLevel pg src b).ports = s.ports := (rfl)
@[simp] theorem State.noteLevel_tables (s : State) (pg src : Nat) (b : Bool) : (s.noteLevel pg src b).tables = s.tables := (rfl)
@[simp] theorem State.noteLevel_sw (s : State) (pg src : Nat) (b : Bool) : (s.noteLevel pg src b).sw = s.sw := (rfl)
@[simp] theorem State.noteLevel_trunk (s : State) (pg src : Nat) (b : Bool) : (s.noteLevel pg src b).trunk = s.trunk := (rfl)
@[simp] theorem State.noteLevel_time (s : State) (pg src : Nat) (b : Bool) : (s.noteLevel pg src b).time = s.time := (rfl)
@[simp] theorem State.noteLevel_loom (s : State) (pg src : Nat) (b : Bool) : (s.noteLevel pg src b).loom = s.loom := (rfl)
@[simp] theorem State.noteLevel_svc (s : State) (pg src : Nat) (b : Bool) : (s.noteLevel pg src b).svc = s.svc := (rfl)
@[simp] theorem State.noteLevel_sys (s : State) (pg src : Nat) (b : Bool) : (s.noteLevel pg src b).sys = s.sys := (rfl)

@[simp] theorem State.bumpSeq_now (s : State) (pg src : Nat) : (s.bumpSeq pg src).now = s.now := by simp only [State.bumpSeq, State.wr_now]
@[simp] theorem State.bumpSeq_free (s : State) (pg src : Nat) : (s.bumpSeq pg src).free = s.free := by simp only [State.bumpSeq, State.wr_free]
@[simp] theorem State.bumpSeq_pending (s : State) (pg src : Nat) : (s.bumpSeq pg src).pending = s.pending := by simp only [State.bumpSeq, State.wr_pending]
@[simp] theorem State.bumpSeq_out (s : State) (pg src : Nat) : (s.bumpSeq pg src).out = s.out := by simp only [State.bumpSeq, State.wr_out]
@[simp] theorem State.bumpSeq_shadow (s : State) (pg src : Nat) : (s.bumpSeq pg src).shadow = s.shadow := by simp only [State.bumpSeq, State.wr_shadow]
@[simp] theorem State.bumpSeq_latch (s : State) (pg src : Nat) : (s.bumpSeq pg src).latch = s.latch := by simp only [State.bumpSeq, State.wr_latch]
@[simp] theorem State.bumpSeq_ctrs (s : State) (pg src : Nat) : (s.bumpSeq pg src).ctrs = s.ctrs := by simp only [State.bumpSeq, State.wr_ctrs]
@[simp] theorem State.bumpSeq_host (s : State) (pg src : Nat) : (s.bumpSeq pg src).host = s.host := by simp only [State.bumpSeq, State.wr_host]
@[simp] theorem State.bumpSeq_ports (s : State) (pg src : Nat) : (s.bumpSeq pg src).ports = s.ports := by simp only [State.bumpSeq, State.wr_ports]
@[simp] theorem State.bumpSeq_tables (s : State) (pg src : Nat) : (s.bumpSeq pg src).tables = s.tables := by simp only [State.bumpSeq, State.wr_tables]
@[simp] theorem State.bumpSeq_sw (s : State) (pg src : Nat) : (s.bumpSeq pg src).sw = s.sw := by simp only [State.bumpSeq, State.wr_sw]
@[simp] theorem State.bumpSeq_trunk (s : State) (pg src : Nat) : (s.bumpSeq pg src).trunk = s.trunk := by simp only [State.bumpSeq, State.wr_trunk]
@[simp] theorem State.bumpSeq_time (s : State) (pg src : Nat) : (s.bumpSeq pg src).time = s.time := by simp only [State.bumpSeq, State.wr_time]
@[simp] theorem State.bumpSeq_loom (s : State) (pg src : Nat) : (s.bumpSeq pg src).loom = s.loom := by simp only [State.bumpSeq, State.wr_loom]
@[simp] theorem State.bumpSeq_svc (s : State) (pg src : Nat) : (s.bumpSeq pg src).svc = s.svc := by simp only [State.bumpSeq, State.wr_svc]
@[simp] theorem State.bumpSeq_sys (s : State) (pg src : Nat) : (s.bumpSeq pg src).sys = s.sys := by simp only [State.bumpSeq, State.wr_sys]

@[simp] theorem State.incFld_now (s : State) (pg : Nat) (f : Fld) (n : Nat) : (s.incFld pg f n).now = s.now := by simp only [State.incFld, State.setFld_now]
@[simp] theorem State.incFld_free (s : State) (pg : Nat) (f : Fld) (n : Nat) : (s.incFld pg f n).free = s.free := by simp only [State.incFld, State.setFld_free]
@[simp] theorem State.incFld_pending (s : State) (pg : Nat) (f : Fld) (n : Nat) : (s.incFld pg f n).pending = s.pending := by simp only [State.incFld, State.setFld_pending]
@[simp] theorem State.incFld_out (s : State) (pg : Nat) (f : Fld) (n : Nat) : (s.incFld pg f n).out = s.out := by simp only [State.incFld, State.setFld_out]
@[simp] theorem State.incFld_shadow (s : State) (pg : Nat) (f : Fld) (n : Nat) : (s.incFld pg f n).shadow = s.shadow := by simp only [State.incFld, State.setFld_shadow]
@[simp] theorem State.incFld_latch (s : State) (pg : Nat) (f : Fld) (n : Nat) : (s.incFld pg f n).latch = s.latch := by simp only [State.incFld, State.setFld_latch]
@[simp] theorem State.incFld_ctrs (s : State) (pg : Nat) (f : Fld) (n : Nat) : (s.incFld pg f n).ctrs = s.ctrs := by simp only [State.incFld, State.setFld_ctrs]
@[simp] theorem State.incFld_host (s : State) (pg : Nat) (f : Fld) (n : Nat) : (s.incFld pg f n).host = s.host := by simp only [State.incFld, State.setFld_host]
@[simp] theorem State.incFld_ports (s : State) (pg : Nat) (f : Fld) (n : Nat) : (s.incFld pg f n).ports = s.ports := by simp only [State.incFld, State.setFld_ports]
@[simp] theorem State.incFld_tables (s : State) (pg : Nat) (f : Fld) (n : Nat) : (s.incFld pg f n).tables = s.tables := by simp only [State.incFld, State.setFld_tables]
@[simp] theorem State.incFld_sw (s : State) (pg : Nat) (f : Fld) (n : Nat) : (s.incFld pg f n).sw = s.sw := by simp only [State.incFld, State.setFld_sw]
@[simp] theorem State.incFld_trunk (s : State) (pg : Nat) (f : Fld) (n : Nat) : (s.incFld pg f n).trunk = s.trunk := by simp only [State.incFld, State.setFld_trunk]
@[simp] theorem State.incFld_time (s : State) (pg : Nat) (f : Fld) (n : Nat) : (s.incFld pg f n).time = s.time := by simp only [State.incFld, State.setFld_time]
@[simp] theorem State.incFld_loom (s : State) (pg : Nat) (f : Fld) (n : Nat) : (s.incFld pg f n).loom = s.loom := by simp only [State.incFld, State.setFld_loom]
@[simp] theorem State.incFld_svc (s : State) (pg : Nat) (f : Fld) (n : Nat) : (s.incFld pg f n).svc = s.svc := by simp only [State.incFld, State.setFld_svc]
@[simp] theorem State.incFld_sys (s : State) (pg : Nat) (f : Fld) (n : Nat) : (s.incFld pg f n).sys = s.sys := by simp only [State.incFld, State.setFld_sys]

@[simp] theorem State.decFld_now (s : State) (pg : Nat) (f : Fld) (n : Nat) : (s.decFld pg f n).now = s.now := by simp only [State.decFld, State.setFld_now]
@[simp] theorem State.decFld_free (s : State) (pg : Nat) (f : Fld) (n : Nat) : (s.decFld pg f n).free = s.free := by simp only [State.decFld, State.setFld_free]
@[simp] theorem State.decFld_pending (s : State) (pg : Nat) (f : Fld) (n : Nat) : (s.decFld pg f n).pending = s.pending := by simp only [State.decFld, State.setFld_pending]
@[simp] theorem State.decFld_out (s : State) (pg : Nat) (f : Fld) (n : Nat) : (s.decFld pg f n).out = s.out := by simp only [State.decFld, State.setFld_out]
@[simp] theorem State.decFld_shadow (s : State) (pg : Nat) (f : Fld) (n : Nat) : (s.decFld pg f n).shadow = s.shadow := by simp only [State.decFld, State.setFld_shadow]
@[simp] theorem State.decFld_latch (s : State) (pg : Nat) (f : Fld) (n : Nat) : (s.decFld pg f n).latch = s.latch := by simp only [State.decFld, State.setFld_latch]
@[simp] theorem State.decFld_ctrs (s : State) (pg : Nat) (f : Fld) (n : Nat) : (s.decFld pg f n).ctrs = s.ctrs := by simp only [State.decFld, State.setFld_ctrs]
@[simp] theorem State.decFld_host (s : State) (pg : Nat) (f : Fld) (n : Nat) : (s.decFld pg f n).host = s.host := by simp only [State.decFld, State.setFld_host]
@[simp] theorem State.decFld_ports (s : State) (pg : Nat) (f : Fld) (n : Nat) : (s.decFld pg f n).ports = s.ports := by simp only [State.decFld, State.setFld_ports]
@[simp] theorem State.decFld_tables (s : State) (pg : Nat) (f : Fld) (n : Nat) : (s.decFld pg f n).tables = s.tables := by simp only [State.decFld, State.setFld_tables]
@[simp] theorem State.decFld_sw (s : State) (pg : Nat) (f : Fld) (n : Nat) : (s.decFld pg f n).sw = s.sw := by simp only [State.decFld, State.setFld_sw]
@[simp] theorem State.decFld_trunk (s : State) (pg : Nat) (f : Fld) (n : Nat) : (s.decFld pg f n).trunk = s.trunk := by simp only [State.decFld, State.setFld_trunk]
@[simp] theorem State.decFld_time (s : State) (pg : Nat) (f : Fld) (n : Nat) : (s.decFld pg f n).time = s.time := by simp only [State.decFld, State.setFld_time]
@[simp] theorem State.decFld_loom (s : State) (pg : Nat) (f : Fld) (n : Nat) : (s.decFld pg f n).loom = s.loom := by simp only [State.decFld, State.setFld_loom]
@[simp] theorem State.decFld_svc (s : State) (pg : Nat) (f : Fld) (n : Nat) : (s.decFld pg f n).svc = s.svc := by simp only [State.decFld, State.setFld_svc]
@[simp] theorem State.decFld_sys (s : State) (pg : Nat) (f : Fld) (n : Nat) : (s.decFld pg f n).sys = s.sys := by simp only [State.decFld, State.setFld_sys]

@[simp] theorem State.setBitOf_now (s : State) (pg : Nat) (f : Fld) (n : Nat) (b : Bool) : (s.setBitOf pg f n b).now = s.now := by simp only [State.setBitOf, State.setFld_now]
@[simp] theorem State.setBitOf_free (s : State) (pg : Nat) (f : Fld) (n : Nat) (b : Bool) : (s.setBitOf pg f n b).free = s.free := by simp only [State.setBitOf, State.setFld_free]
@[simp] theorem State.setBitOf_pending (s : State) (pg : Nat) (f : Fld) (n : Nat) (b : Bool) : (s.setBitOf pg f n b).pending = s.pending := by simp only [State.setBitOf, State.setFld_pending]
@[simp] theorem State.setBitOf_out (s : State) (pg : Nat) (f : Fld) (n : Nat) (b : Bool) : (s.setBitOf pg f n b).out = s.out := by simp only [State.setBitOf, State.setFld_out]
@[simp] theorem State.setBitOf_shadow (s : State) (pg : Nat) (f : Fld) (n : Nat) (b : Bool) : (s.setBitOf pg f n b).shadow = s.shadow := by simp only [State.setBitOf, State.setFld_shadow]
@[simp] theorem State.setBitOf_latch (s : State) (pg : Nat) (f : Fld) (n : Nat) (b : Bool) : (s.setBitOf pg f n b).latch = s.latch := by simp only [State.setBitOf, State.setFld_latch]
@[simp] theorem State.setBitOf_ctrs (s : State) (pg : Nat) (f : Fld) (n : Nat) (b : Bool) : (s.setBitOf pg f n b).ctrs = s.ctrs := by simp only [State.setBitOf, State.setFld_ctrs]
@[simp] theorem State.setBitOf_host (s : State) (pg : Nat) (f : Fld) (n : Nat) (b : Bool) : (s.setBitOf pg f n b).host = s.host := by simp only [State.setBitOf, State.setFld_host]
@[simp] theorem State.setBitOf_ports (s : State) (pg : Nat) (f : Fld) (n : Nat) (b : Bool) : (s.setBitOf pg f n b).ports = s.ports := by simp only [State.setBitOf, State.setFld_ports]
@[simp] theorem State.setBitOf_tables (s : State) (pg : Nat) (f : Fld) (n : Nat) (b : Bool) : (s.setBitOf pg f n b).tables = s.tables := by simp only [State.setBitOf, State.setFld_tables]
@[simp] theorem State.setBitOf_sw (s : State) (pg : Nat) (f : Fld) (n : Nat) (b : Bool) : (s.setBitOf pg f n b).sw = s.sw := by simp only [State.setBitOf, State.setFld_sw]
@[simp] theorem State.setBitOf_trunk (s : State) (pg : Nat) (f : Fld) (n : Nat) (b : Bool) : (s.setBitOf pg f n b).trunk = s.trunk := by simp only [State.setBitOf, State.setFld_trunk]
@[simp] theorem State.setBitOf_time (s : State) (pg : Nat) (f : Fld) (n : Nat) (b : Bool) : (s.setBitOf pg f n b).time = s.time := by simp only [State.setBitOf, State.setFld_time]
@[simp] theorem State.setBitOf_loom (s : State) (pg : Nat) (f : Fld) (n : Nat) (b : Bool) : (s.setBitOf pg f n b).loom = s.loom := by simp only [State.setBitOf, State.setFld_loom]
@[simp] theorem State.setBitOf_svc (s : State) (pg : Nat) (f : Fld) (n : Nat) (b : Bool) : (s.setBitOf pg f n b).svc = s.svc := by simp only [State.setBitOf, State.setFld_svc]
@[simp] theorem State.setBitOf_sys (s : State) (pg : Nat) (f : Fld) (n : Nat) (b : Bool) : (s.setBitOf pg f n b).sys = s.sys := by simp only [State.setBitOf, State.setFld_sys]

@[simp] theorem State.setPortFld_now (s : State) (p : Nat) (f : Fld) (v : Nat) : (s.setPortFld p f v).now = s.now := by simp only [State.setPortFld, State.setFld_now]
@[simp] theorem State.setPortFld_free (s : State) (p : Nat) (f : Fld) (v : Nat) : (s.setPortFld p f v).free = s.free := by simp only [State.setPortFld, State.setFld_free]
@[simp] theorem State.setPortFld_pending (s : State) (p : Nat) (f : Fld) (v : Nat) : (s.setPortFld p f v).pending = s.pending := by simp only [State.setPortFld, State.setFld_pending]
@[simp] theorem State.setPortFld_out (s : State) (p : Nat) (f : Fld) (v : Nat) : (s.setPortFld p f v).out = s.out := by simp only [State.setPortFld, State.setFld_out]
@[simp] theorem State.setPortFld_shadow (s : State) (p : Nat) (f : Fld) (v : Nat) : (s.setPortFld p f v).shadow = s.shadow := by simp only [State.setPortFld, State.setFld_shadow]
@[simp] theorem State.setPortFld_latch (s : State) (p : Nat) (f : Fld) (v : Nat) : (s.setPortFld p f v).latch = s.latch := by simp only [State.setPortFld, State.setFld_latch]
@[simp] theorem State.setPortFld_ctrs (s : State) (p : Nat) (f : Fld) (v : Nat) : (s.setPortFld p f v).ctrs = s.ctrs := by simp only [State.setPortFld, State.setFld_ctrs]
@[simp] theorem State.setPortFld_host (s : State) (p : Nat) (f : Fld) (v : Nat) : (s.setPortFld p f v).host = s.host := by simp only [State.setPortFld, State.setFld_host]
@[simp] theorem State.setPortFld_ports (s : State) (p : Nat) (f : Fld) (v : Nat) : (s.setPortFld p f v).ports = s.ports := by simp only [State.setPortFld, State.setFld_ports]
@[simp] theorem State.setPortFld_tables (s : State) (p : Nat) (f : Fld) (v : Nat) : (s.setPortFld p f v).tables = s.tables := by simp only [State.setPortFld, State.setFld_tables]
@[simp] theorem State.setPortFld_sw (s : State) (p : Nat) (f : Fld) (v : Nat) : (s.setPortFld p f v).sw = s.sw := by simp only [State.setPortFld, State.setFld_sw]
@[simp] theorem State.setPortFld_trunk (s : State) (p : Nat) (f : Fld) (v : Nat) : (s.setPortFld p f v).trunk = s.trunk := by simp only [State.setPortFld, State.setFld_trunk]
@[simp] theorem State.setPortFld_time (s : State) (p : Nat) (f : Fld) (v : Nat) : (s.setPortFld p f v).time = s.time := by simp only [State.setPortFld, State.setFld_time]
@[simp] theorem State.setPortFld_loom (s : State) (p : Nat) (f : Fld) (v : Nat) : (s.setPortFld p f v).loom = s.loom := by simp only [State.setPortFld, State.setFld_loom]
@[simp] theorem State.setPortFld_svc (s : State) (p : Nat) (f : Fld) (v : Nat) : (s.setPortFld p f v).svc = s.svc := by simp only [State.setPortFld, State.setFld_svc]
@[simp] theorem State.setPortFld_sys (s : State) (p : Nat) (f : Fld) (v : Nat) : (s.setPortFld p f v).sys = s.sys := by simp only [State.setPortFld, State.setFld_sys]

@[simp] theorem State.setMacFld_now (s : State) (lp : Nat) (f : Fld) (v : Nat) : (s.setMacFld lp f v).now = s.now := by simp only [State.setMacFld, State.setFld_now]
@[simp] theorem State.setMacFld_free (s : State) (lp : Nat) (f : Fld) (v : Nat) : (s.setMacFld lp f v).free = s.free := by simp only [State.setMacFld, State.setFld_free]
@[simp] theorem State.setMacFld_pending (s : State) (lp : Nat) (f : Fld) (v : Nat) : (s.setMacFld lp f v).pending = s.pending := by simp only [State.setMacFld, State.setFld_pending]
@[simp] theorem State.setMacFld_out (s : State) (lp : Nat) (f : Fld) (v : Nat) : (s.setMacFld lp f v).out = s.out := by simp only [State.setMacFld, State.setFld_out]
@[simp] theorem State.setMacFld_shadow (s : State) (lp : Nat) (f : Fld) (v : Nat) : (s.setMacFld lp f v).shadow = s.shadow := by simp only [State.setMacFld, State.setFld_shadow]
@[simp] theorem State.setMacFld_latch (s : State) (lp : Nat) (f : Fld) (v : Nat) : (s.setMacFld lp f v).latch = s.latch := by simp only [State.setMacFld, State.setFld_latch]
@[simp] theorem State.setMacFld_ctrs (s : State) (lp : Nat) (f : Fld) (v : Nat) : (s.setMacFld lp f v).ctrs = s.ctrs := by simp only [State.setMacFld, State.setFld_ctrs]
@[simp] theorem State.setMacFld_host (s : State) (lp : Nat) (f : Fld) (v : Nat) : (s.setMacFld lp f v).host = s.host := by simp only [State.setMacFld, State.setFld_host]
@[simp] theorem State.setMacFld_ports (s : State) (lp : Nat) (f : Fld) (v : Nat) : (s.setMacFld lp f v).ports = s.ports := by simp only [State.setMacFld, State.setFld_ports]
@[simp] theorem State.setMacFld_tables (s : State) (lp : Nat) (f : Fld) (v : Nat) : (s.setMacFld lp f v).tables = s.tables := by simp only [State.setMacFld, State.setFld_tables]
@[simp] theorem State.setMacFld_sw (s : State) (lp : Nat) (f : Fld) (v : Nat) : (s.setMacFld lp f v).sw = s.sw := by simp only [State.setMacFld, State.setFld_sw]
@[simp] theorem State.setMacFld_trunk (s : State) (lp : Nat) (f : Fld) (v : Nat) : (s.setMacFld lp f v).trunk = s.trunk := by simp only [State.setMacFld, State.setFld_trunk]
@[simp] theorem State.setMacFld_time (s : State) (lp : Nat) (f : Fld) (v : Nat) : (s.setMacFld lp f v).time = s.time := by simp only [State.setMacFld, State.setFld_time]
@[simp] theorem State.setMacFld_loom (s : State) (lp : Nat) (f : Fld) (v : Nat) : (s.setMacFld lp f v).loom = s.loom := by simp only [State.setMacFld, State.setFld_loom]
@[simp] theorem State.setMacFld_svc (s : State) (lp : Nat) (f : Fld) (v : Nat) : (s.setMacFld lp f v).svc = s.svc := by simp only [State.setMacFld, State.setFld_svc]
@[simp] theorem State.setMacFld_sys (s : State) (lp : Nat) (f : Fld) (v : Nat) : (s.setMacFld lp f v).sys = s.sys := by simp only [State.setMacFld, State.setFld_sys]

@[simp] theorem State.setPfcOcc_now (s : State) (lp c v : Nat) : (s.setPfcOcc lp c v).now = s.now := by simp only [State.setPfcOcc, State.setFld_now]
@[simp] theorem State.setPfcOcc_free (s : State) (lp c v : Nat) : (s.setPfcOcc lp c v).free = s.free := by simp only [State.setPfcOcc, State.setFld_free]
@[simp] theorem State.setPfcOcc_pending (s : State) (lp c v : Nat) : (s.setPfcOcc lp c v).pending = s.pending := by simp only [State.setPfcOcc, State.setFld_pending]
@[simp] theorem State.setPfcOcc_out (s : State) (lp c v : Nat) : (s.setPfcOcc lp c v).out = s.out := by simp only [State.setPfcOcc, State.setFld_out]
@[simp] theorem State.setPfcOcc_shadow (s : State) (lp c v : Nat) : (s.setPfcOcc lp c v).shadow = s.shadow := by simp only [State.setPfcOcc, State.setFld_shadow]
@[simp] theorem State.setPfcOcc_latch (s : State) (lp c v : Nat) : (s.setPfcOcc lp c v).latch = s.latch := by simp only [State.setPfcOcc, State.setFld_latch]
@[simp] theorem State.setPfcOcc_ctrs (s : State) (lp c v : Nat) : (s.setPfcOcc lp c v).ctrs = s.ctrs := by simp only [State.setPfcOcc, State.setFld_ctrs]
@[simp] theorem State.setPfcOcc_host (s : State) (lp c v : Nat) : (s.setPfcOcc lp c v).host = s.host := by simp only [State.setPfcOcc, State.setFld_host]
@[simp] theorem State.setPfcOcc_ports (s : State) (lp c v : Nat) : (s.setPfcOcc lp c v).ports = s.ports := by simp only [State.setPfcOcc, State.setFld_ports]
@[simp] theorem State.setPfcOcc_tables (s : State) (lp c v : Nat) : (s.setPfcOcc lp c v).tables = s.tables := by simp only [State.setPfcOcc, State.setFld_tables]
@[simp] theorem State.setPfcOcc_sw (s : State) (lp c v : Nat) : (s.setPfcOcc lp c v).sw = s.sw := by simp only [State.setPfcOcc, State.setFld_sw]
@[simp] theorem State.setPfcOcc_trunk (s : State) (lp c v : Nat) : (s.setPfcOcc lp c v).trunk = s.trunk := by simp only [State.setPfcOcc, State.setFld_trunk]
@[simp] theorem State.setPfcOcc_time (s : State) (lp c v : Nat) : (s.setPfcOcc lp c v).time = s.time := by simp only [State.setPfcOcc, State.setFld_time]
@[simp] theorem State.setPfcOcc_loom (s : State) (lp c v : Nat) : (s.setPfcOcc lp c v).loom = s.loom := by simp only [State.setPfcOcc, State.setFld_loom]
@[simp] theorem State.setPfcOcc_svc (s : State) (lp c v : Nat) : (s.setPfcOcc lp c v).svc = s.svc := by simp only [State.setPfcOcc, State.setFld_svc]
@[simp] theorem State.setPfcOcc_sys (s : State) (lp c v : Nat) : (s.setPfcOcc lp c v).sys = s.sys := by simp only [State.setPfcOcc, State.setFld_sys]


@[simp] theorem State.journal_now (s : State) (r : List Byte) : (s.journal r).now = s.now := by simp only [State.journal, State.onNv_now]
@[simp] theorem State.journal_free (s : State) (r : List Byte) : (s.journal r).free = s.free := by simp only [State.journal, State.onNv_free]
@[simp] theorem State.journal_pending (s : State) (r : List Byte) : (s.journal r).pending = s.pending := by simp only [State.journal, State.onNv_pending]
@[simp] theorem State.journal_out (s : State) (r : List Byte) : (s.journal r).out = s.out := by simp only [State.journal, State.onNv_out]
@[simp] theorem State.journal_regs (s : State) (r : List Byte) : (s.journal r).regs = s.regs := by simp only [State.journal, State.onNv_regs]
@[simp] theorem State.journal_shadow (s : State) (r : List Byte) : (s.journal r).shadow = s.shadow := by simp only [State.journal, State.onNv_shadow]
@[simp] theorem State.journal_latch (s : State) (r : List Byte) : (s.journal r).latch = s.latch := by simp only [State.journal, State.onNv_latch]
@[simp] theorem State.journal_ctrs (s : State) (r : List Byte) : (s.journal r).ctrs = s.ctrs := by simp only [State.journal, State.onNv_ctrs]
@[simp] theorem State.journal_host (s : State) (r : List Byte) : (s.journal r).host = s.host := by simp only [State.journal, State.onNv_host]
@[simp] theorem State.journal_ports (s : State) (r : List Byte) : (s.journal r).ports = s.ports := by simp only [State.journal, State.onNv_ports]
@[simp] theorem State.journal_tables (s : State) (r : List Byte) : (s.journal r).tables = s.tables := by simp only [State.journal, State.onNv_tables]
@[simp] theorem State.journal_sw (s : State) (r : List Byte) : (s.journal r).sw = s.sw := by simp only [State.journal, State.onNv_sw]
@[simp] theorem State.journal_trunk (s : State) (r : List Byte) : (s.journal r).trunk = s.trunk := by simp only [State.journal, State.onNv_trunk]
@[simp] theorem State.journal_time (s : State) (r : List Byte) : (s.journal r).time = s.time := by simp only [State.journal, State.onNv_time]
@[simp] theorem State.journal_loom (s : State) (r : List Byte) : (s.journal r).loom = s.loom := by simp only [State.journal, State.onNv_loom]
@[simp] theorem State.journal_svc (s : State) (r : List Byte) : (s.journal r).svc = s.svc := by simp only [State.journal, State.onNv_svc]

@[simp] theorem State.journalNote_now (s : State) (n : Nat) : (s.journalNote n).now = s.now := by simp only [State.journalNote, State.journal_now]
@[simp] theorem State.journalNote_free (s : State) (n : Nat) : (s.journalNote n).free = s.free := by simp only [State.journalNote, State.journal_free]
@[simp] theorem State.journalNote_pending (s : State) (n : Nat) : (s.journalNote n).pending = s.pending := by simp only [State.journalNote, State.journal_pending]
@[simp] theorem State.journalNote_out (s : State) (n : Nat) : (s.journalNote n).out = s.out := by simp only [State.journalNote, State.journal_out]
@[simp] theorem State.journalNote_regs (s : State) (n : Nat) : (s.journalNote n).regs = s.regs := by simp only [State.journalNote, State.journal_regs]
@[simp] theorem State.journalNote_shadow (s : State) (n : Nat) : (s.journalNote n).shadow = s.shadow := by simp only [State.journalNote, State.journal_shadow]
@[simp] theorem State.journalNote_latch (s : State) (n : Nat) : (s.journalNote n).latch = s.latch := by simp only [State.journalNote, State.journal_latch]
@[simp] theorem State.journalNote_ctrs (s : State) (n : Nat) : (s.journalNote n).ctrs = s.ctrs := by simp only [State.journalNote, State.journal_ctrs]
@[simp] theorem State.journalNote_host (s : State) (n : Nat) : (s.journalNote n).host = s.host := by simp only [State.journalNote, State.journal_host]
@[simp] theorem State.journalNote_ports (s : State) (n : Nat) : (s.journalNote n).ports = s.ports := by simp only [State.journalNote, State.journal_ports]
@[simp] theorem State.journalNote_tables (s : State) (n : Nat) : (s.journalNote n).tables = s.tables := by simp only [State.journalNote, State.journal_tables]
@[simp] theorem State.journalNote_sw (s : State) (n : Nat) : (s.journalNote n).sw = s.sw := by simp only [State.journalNote, State.journal_sw]
@[simp] theorem State.journalNote_trunk (s : State) (n : Nat) : (s.journalNote n).trunk = s.trunk := by simp only [State.journalNote, State.journal_trunk]
@[simp] theorem State.journalNote_time (s : State) (n : Nat) : (s.journalNote n).time = s.time := by simp only [State.journalNote, State.journal_time]
@[simp] theorem State.journalNote_loom (s : State) (n : Nat) : (s.journalNote n).loom = s.loom := by simp only [State.journalNote, State.journal_loom]
@[simp] theorem State.journalNote_svc (s : State) (n : Nat) : (s.journalNote n).svc = s.svc := by simp only [State.journalNote, State.journal_svc]

@[simp] theorem State.setPausedRx_now (s : State) (lp c : Nat) (b : Bool) : (s.setPausedRx lp c b).now = s.now := by simp only [State.setPausedRx, State.setMacFld_now]
@[simp] theorem State.setPausedRx_free (s : State) (lp c : Nat) (b : Bool) : (s.setPausedRx lp c b).free = s.free := by simp only [State.setPausedRx, State.setMacFld_free]
@[simp] theorem State.setPausedRx_pending (s : State) (lp c : Nat) (b : Bool) : (s.setPausedRx lp c b).pending = s.pending := by simp only [State.setPausedRx, State.setMacFld_pending]
@[simp] theorem State.setPausedRx_out (s : State) (lp c : Nat) (b : Bool) : (s.setPausedRx lp c b).out = s.out := by simp only [State.setPausedRx, State.setMacFld_out]
@[simp] theorem State.setPausedRx_shadow (s : State) (lp c : Nat) (b : Bool) : (s.setPausedRx lp c b).shadow = s.shadow := by simp only [State.setPausedRx, State.setMacFld_shadow]
@[simp] theorem State.setPausedRx_latch (s : State) (lp c : Nat) (b : Bool) : (s.setPausedRx lp c b).latch = s.latch := by simp only [State.setPausedRx, State.setMacFld_latch]
@[simp] theorem State.setPausedRx_ctrs (s : State) (lp c : Nat) (b : Bool) : (s.setPausedRx lp c b).ctrs = s.ctrs := by simp only [State.setPausedRx, State.setMacFld_ctrs]
@[simp] theorem State.setPausedRx_host (s : State) (lp c : Nat) (b : Bool) : (s.setPausedRx lp c b).host = s.host := by simp only [State.setPausedRx, State.setMacFld_host]
@[simp] theorem State.setPausedRx_ports (s : State) (lp c : Nat) (b : Bool) : (s.setPausedRx lp c b).ports = s.ports := by simp only [State.setPausedRx, State.setMacFld_ports]
@[simp] theorem State.setPausedRx_tables (s : State) (lp c : Nat) (b : Bool) : (s.setPausedRx lp c b).tables = s.tables := by simp only [State.setPausedRx, State.setMacFld_tables]
@[simp] theorem State.setPausedRx_sw (s : State) (lp c : Nat) (b : Bool) : (s.setPausedRx lp c b).sw = s.sw := by simp only [State.setPausedRx, State.setMacFld_sw]
@[simp] theorem State.setPausedRx_trunk (s : State) (lp c : Nat) (b : Bool) : (s.setPausedRx lp c b).trunk = s.trunk := by simp only [State.setPausedRx, State.setMacFld_trunk]
@[simp] theorem State.setPausedRx_time (s : State) (lp c : Nat) (b : Bool) : (s.setPausedRx lp c b).time = s.time := by simp only [State.setPausedRx, State.setMacFld_time]
@[simp] theorem State.setPausedRx_loom (s : State) (lp c : Nat) (b : Bool) : (s.setPausedRx lp c b).loom = s.loom := by simp only [State.setPausedRx, State.setMacFld_loom]
@[simp] theorem State.setPausedRx_svc (s : State) (lp c : Nat) (b : Bool) : (s.setPausedRx lp c b).svc = s.svc := by simp only [State.setPausedRx, State.setMacFld_svc]
@[simp] theorem State.setPausedRx_sys (s : State) (lp c : Nat) (b : Bool) : (s.setPausedRx lp c b).sys = s.sys := by simp only [State.setPausedRx, State.setMacFld_sys]

@[simp] theorem State.setStorm_now (s : State) (lp c : Nat) (b : Bool) : (s.setStorm lp c b).now = s.now := by simp only [State.setStorm, State.setMacFld_now]
@[simp] theorem State.setStorm_free (s : State) (lp c : Nat) (b : Bool) : (s.setStorm lp c b).free = s.free := by simp only [State.setStorm, State.setMacFld_free]
@[simp] theorem State.setStorm_pending (s : State) (lp c : Nat) (b : Bool) : (s.setStorm lp c b).pending = s.pending := by simp only [State.setStorm, State.setMacFld_pending]
@[simp] theorem State.setStorm_out (s : State) (lp c : Nat) (b : Bool) : (s.setStorm lp c b).out = s.out := by simp only [State.setStorm, State.setMacFld_out]
@[simp] theorem State.setStorm_shadow (s : State) (lp c : Nat) (b : Bool) : (s.setStorm lp c b).shadow = s.shadow := by simp only [State.setStorm, State.setMacFld_shadow]
@[simp] theorem State.setStorm_latch (s : State) (lp c : Nat) (b : Bool) : (s.setStorm lp c b).latch = s.latch := by simp only [State.setStorm, State.setMacFld_latch]
@[simp] theorem State.setStorm_ctrs (s : State) (lp c : Nat) (b : Bool) : (s.setStorm lp c b).ctrs = s.ctrs := by simp only [State.setStorm, State.setMacFld_ctrs]
@[simp] theorem State.setStorm_host (s : State) (lp c : Nat) (b : Bool) : (s.setStorm lp c b).host = s.host := by simp only [State.setStorm, State.setMacFld_host]
@[simp] theorem State.setStorm_ports (s : State) (lp c : Nat) (b : Bool) : (s.setStorm lp c b).ports = s.ports := by simp only [State.setStorm, State.setMacFld_ports]
@[simp] theorem State.setStorm_tables (s : State) (lp c : Nat) (b : Bool) : (s.setStorm lp c b).tables = s.tables := by simp only [State.setStorm, State.setMacFld_tables]
@[simp] theorem State.setStorm_sw (s : State) (lp c : Nat) (b : Bool) : (s.setStorm lp c b).sw = s.sw := by simp only [State.setStorm, State.setMacFld_sw]
@[simp] theorem State.setStorm_trunk (s : State) (lp c : Nat) (b : Bool) : (s.setStorm lp c b).trunk = s.trunk := by simp only [State.setStorm, State.setMacFld_trunk]
@[simp] theorem State.setStorm_time (s : State) (lp c : Nat) (b : Bool) : (s.setStorm lp c b).time = s.time := by simp only [State.setStorm, State.setMacFld_time]
@[simp] theorem State.setStorm_loom (s : State) (lp c : Nat) (b : Bool) : (s.setStorm lp c b).loom = s.loom := by simp only [State.setStorm, State.setMacFld_loom]
@[simp] theorem State.setStorm_svc (s : State) (lp c : Nat) (b : Bool) : (s.setStorm lp c b).svc = s.svc := by simp only [State.setStorm, State.setMacFld_svc]
@[simp] theorem State.setStorm_sys (s : State) (lp c : Nat) (b : Bool) : (s.setStorm lp c b).sys = s.sys := by simp only [State.setStorm, State.setMacFld_sys]

@[simp] theorem State.onPitch_now (s : State) (lp : Nat) (f : Pitch → Pitch) : (s.onPitch lp f).now = s.now := by simp only [State.onPitch, State.setPitch_now]
@[simp] theorem State.onPitch_free (s : State) (lp : Nat) (f : Pitch → Pitch) : (s.onPitch lp f).free = s.free := by simp only [State.onPitch, State.setPitch_free]
@[simp] theorem State.onPitch_pending (s : State) (lp : Nat) (f : Pitch → Pitch) : (s.onPitch lp f).pending = s.pending := by simp only [State.onPitch, State.setPitch_pending]
@[simp] theorem State.onPitch_out (s : State) (lp : Nat) (f : Pitch → Pitch) : (s.onPitch lp f).out = s.out := by simp only [State.onPitch, State.setPitch_out]
@[simp] theorem State.onPitch_regs (s : State) (lp : Nat) (f : Pitch → Pitch) : (s.onPitch lp f).regs = s.regs := by simp only [State.onPitch, State.setPitch_regs]
@[simp] theorem State.onPitch_shadow (s : State) (lp : Nat) (f : Pitch → Pitch) : (s.onPitch lp f).shadow = s.shadow := by simp only [State.onPitch, State.setPitch_shadow]
@[simp] theorem State.onPitch_latch (s : State) (lp : Nat) (f : Pitch → Pitch) : (s.onPitch lp f).latch = s.latch := by simp only [State.onPitch, State.setPitch_latch]
@[simp] theorem State.onPitch_ctrs (s : State) (lp : Nat) (f : Pitch → Pitch) : (s.onPitch lp f).ctrs = s.ctrs := by simp only [State.onPitch, State.setPitch_ctrs]
@[simp] theorem State.onPitch_host (s : State) (lp : Nat) (f : Pitch → Pitch) : (s.onPitch lp f).host = s.host := by simp only [State.onPitch, State.setPitch_host]
@[simp] theorem State.onPitch_tables (s : State) (lp : Nat) (f : Pitch → Pitch) : (s.onPitch lp f).tables = s.tables := by simp only [State.onPitch, State.setPitch_tables]
@[simp] theorem State.onPitch_sw (s : State) (lp : Nat) (f : Pitch → Pitch) : (s.onPitch lp f).sw = s.sw := by simp only [State.onPitch, State.setPitch_sw]
@[simp] theorem State.onPitch_trunk (s : State) (lp : Nat) (f : Pitch → Pitch) : (s.onPitch lp f).trunk = s.trunk := by simp only [State.onPitch, State.setPitch_trunk]
@[simp] theorem State.onPitch_time (s : State) (lp : Nat) (f : Pitch → Pitch) : (s.onPitch lp f).time = s.time := by simp only [State.onPitch, State.setPitch_time]
@[simp] theorem State.onPitch_loom (s : State) (lp : Nat) (f : Pitch → Pitch) : (s.onPitch lp f).loom = s.loom := by simp only [State.onPitch, State.setPitch_loom]
@[simp] theorem State.onPitch_svc (s : State) (lp : Nat) (f : Pitch → Pitch) : (s.onPitch lp f).svc = s.svc := by simp only [State.onPitch, State.setPitch_svc]
@[simp] theorem State.onPitch_sys (s : State) (lp : Nat) (f : Pitch → Pitch) : (s.onPitch lp f).sys = s.sys := by simp only [State.onPitch, State.setPitch_sys]

@[simp] theorem State.onLane_now (s : State) (e l : Nat) (f : LaneSt → LaneSt) : (s.onLane e l f).now = s.now := by simp only [State.onLane, State.setLane_now]
@[simp] theorem State.onLane_free (s : State) (e l : Nat) (f : LaneSt → LaneSt) : (s.onLane e l f).free = s.free := by simp only [State.onLane, State.setLane_free]
@[simp] theorem State.onLane_pending (s : State) (e l : Nat) (f : LaneSt → LaneSt) : (s.onLane e l f).pending = s.pending := by simp only [State.onLane, State.setLane_pending]
@[simp] theorem State.onLane_out (s : State) (e l : Nat) (f : LaneSt → LaneSt) : (s.onLane e l f).out = s.out := by simp only [State.onLane, State.setLane_out]
@[simp] theorem State.onLane_regs (s : State) (e l : Nat) (f : LaneSt → LaneSt) : (s.onLane e l f).regs = s.regs := by simp only [State.onLane, State.setLane_regs]
@[simp] theorem State.onLane_shadow (s : State) (e l : Nat) (f : LaneSt → LaneSt) : (s.onLane e l f).shadow = s.shadow := by simp only [State.onLane, State.setLane_shadow]
@[simp] theorem State.onLane_latch (s : State) (e l : Nat) (f : LaneSt → LaneSt) : (s.onLane e l f).latch = s.latch := by simp only [State.onLane, State.setLane_latch]
@[simp] theorem State.onLane_ctrs (s : State) (e l : Nat) (f : LaneSt → LaneSt) : (s.onLane e l f).ctrs = s.ctrs := by simp only [State.onLane, State.setLane_ctrs]
@[simp] theorem State.onLane_host (s : State) (e l : Nat) (f : LaneSt → LaneSt) : (s.onLane e l f).host = s.host := by simp only [State.onLane, State.setLane_host]
@[simp] theorem State.onLane_tables (s : State) (e l : Nat) (f : LaneSt → LaneSt) : (s.onLane e l f).tables = s.tables := by simp only [State.onLane, State.setLane_tables]
@[simp] theorem State.onLane_sw (s : State) (e l : Nat) (f : LaneSt → LaneSt) : (s.onLane e l f).sw = s.sw := by simp only [State.onLane, State.setLane_sw]
@[simp] theorem State.onLane_trunk (s : State) (e l : Nat) (f : LaneSt → LaneSt) : (s.onLane e l f).trunk = s.trunk := by simp only [State.onLane, State.setLane_trunk]
@[simp] theorem State.onLane_time (s : State) (e l : Nat) (f : LaneSt → LaneSt) : (s.onLane e l f).time = s.time := by simp only [State.onLane, State.setLane_time]
@[simp] theorem State.onLane_loom (s : State) (e l : Nat) (f : LaneSt → LaneSt) : (s.onLane e l f).loom = s.loom := by simp only [State.onLane, State.setLane_loom]
@[simp] theorem State.onLane_svc (s : State) (e l : Nat) (f : LaneSt → LaneSt) : (s.onLane e l f).svc = s.svc := by simp only [State.onLane, State.setLane_svc]
@[simp] theorem State.onLane_sys (s : State) (e l : Nat) (f : LaneSt → LaneSt) : (s.onLane e l f).sys = s.sys := by simp only [State.onLane, State.setLane_sys]

@[simp] theorem State.onWear_now (s : State) (e l : Nat) (f : Wear → Wear) : (s.onWear e l f).now = s.now := by simp only [State.onWear, State.setWear_now]
@[simp] theorem State.onWear_free (s : State) (e l : Nat) (f : Wear → Wear) : (s.onWear e l f).free = s.free := by simp only [State.onWear, State.setWear_free]
@[simp] theorem State.onWear_pending (s : State) (e l : Nat) (f : Wear → Wear) : (s.onWear e l f).pending = s.pending := by simp only [State.onWear, State.setWear_pending]
@[simp] theorem State.onWear_out (s : State) (e l : Nat) (f : Wear → Wear) : (s.onWear e l f).out = s.out := by simp only [State.onWear, State.setWear_out]
@[simp] theorem State.onWear_regs (s : State) (e l : Nat) (f : Wear → Wear) : (s.onWear e l f).regs = s.regs := by simp only [State.onWear, State.setWear_regs]
@[simp] theorem State.onWear_shadow (s : State) (e l : Nat) (f : Wear → Wear) : (s.onWear e l f).shadow = s.shadow := by simp only [State.onWear, State.setWear_shadow]
@[simp] theorem State.onWear_latch (s : State) (e l : Nat) (f : Wear → Wear) : (s.onWear e l f).latch = s.latch := by simp only [State.onWear, State.setWear_latch]
@[simp] theorem State.onWear_ctrs (s : State) (e l : Nat) (f : Wear → Wear) : (s.onWear e l f).ctrs = s.ctrs := by simp only [State.onWear, State.setWear_ctrs]
@[simp] theorem State.onWear_host (s : State) (e l : Nat) (f : Wear → Wear) : (s.onWear e l f).host = s.host := by simp only [State.onWear, State.setWear_host]
@[simp] theorem State.onWear_tables (s : State) (e l : Nat) (f : Wear → Wear) : (s.onWear e l f).tables = s.tables := by simp only [State.onWear, State.setWear_tables]
@[simp] theorem State.onWear_sw (s : State) (e l : Nat) (f : Wear → Wear) : (s.onWear e l f).sw = s.sw := by simp only [State.onWear, State.setWear_sw]
@[simp] theorem State.onWear_trunk (s : State) (e l : Nat) (f : Wear → Wear) : (s.onWear e l f).trunk = s.trunk := by simp only [State.onWear, State.setWear_trunk]
@[simp] theorem State.onWear_time (s : State) (e l : Nat) (f : Wear → Wear) : (s.onWear e l f).time = s.time := by simp only [State.onWear, State.setWear_time]
@[simp] theorem State.onWear_loom (s : State) (e l : Nat) (f : Wear → Wear) : (s.onWear e l f).loom = s.loom := by simp only [State.onWear, State.setWear_loom]
@[simp] theorem State.onWear_svc (s : State) (e l : Nat) (f : Wear → Wear) : (s.onWear e l f).svc = s.svc := by simp only [State.onWear, State.setWear_svc]
@[simp] theorem State.onWear_sys (s : State) (e l : Nat) (f : Wear → Wear) : (s.onWear e l f).sys = s.sys := by simp only [State.onWear, State.setWear_sys]

@[simp] theorem State.setRx_now (s : State) (lp k : Nat) (r : Option RxFrame) : (s.setRx lp k r).now = s.now := by simp only [State.setRx, State.setMac_now]
@[simp] theorem State.setRx_free (s : State) (lp k : Nat) (r : Option RxFrame) : (s.setRx lp k r).free = s.free := by simp only [State.setRx, State.setMac_free]
@[simp] theorem State.setRx_pending (s : State) (lp k : Nat) (r : Option RxFrame) : (s.setRx lp k r).pending = s.pending := by simp only [State.setRx, State.setMac_pending]
@[simp] theorem State.setRx_out (s : State) (lp k : Nat) (r : Option RxFrame) : (s.setRx lp k r).out = s.out := by simp only [State.setRx, State.setMac_out]
@[simp] theorem State.setRx_regs (s : State) (lp k : Nat) (r : Option RxFrame) : (s.setRx lp k r).regs = s.regs := by simp only [State.setRx, State.setMac_regs]
@[simp] theorem State.setRx_shadow (s : State) (lp k : Nat) (r : Option RxFrame) : (s.setRx lp k r).shadow = s.shadow := by simp only [State.setRx, State.setMac_shadow]
@[simp] theorem State.setRx_latch (s : State) (lp k : Nat) (r : Option RxFrame) : (s.setRx lp k r).latch = s.latch := by simp only [State.setRx, State.setMac_latch]
@[simp] theorem State.setRx_ctrs (s : State) (lp k : Nat) (r : Option RxFrame) : (s.setRx lp k r).ctrs = s.ctrs := by simp only [State.setRx, State.setMac_ctrs]
@[simp] theorem State.setRx_host (s : State) (lp k : Nat) (r : Option RxFrame) : (s.setRx lp k r).host = s.host := by simp only [State.setRx, State.setMac_host]
@[simp] theorem State.setRx_tables (s : State) (lp k : Nat) (r : Option RxFrame) : (s.setRx lp k r).tables = s.tables := by simp only [State.setRx, State.setMac_tables]
@[simp] theorem State.setRx_sw (s : State) (lp k : Nat) (r : Option RxFrame) : (s.setRx lp k r).sw = s.sw := by simp only [State.setRx, State.setMac_sw]
@[simp] theorem State.setRx_trunk (s : State) (lp k : Nat) (r : Option RxFrame) : (s.setRx lp k r).trunk = s.trunk := by simp only [State.setRx, State.setMac_trunk]
@[simp] theorem State.setRx_time (s : State) (lp k : Nat) (r : Option RxFrame) : (s.setRx lp k r).time = s.time := by simp only [State.setRx, State.setMac_time]
@[simp] theorem State.setRx_loom (s : State) (lp k : Nat) (r : Option RxFrame) : (s.setRx lp k r).loom = s.loom := by simp only [State.setRx, State.setMac_loom]
@[simp] theorem State.setRx_svc (s : State) (lp k : Nat) (r : Option RxFrame) : (s.setRx lp k r).svc = s.svc := by simp only [State.setRx, State.setMac_svc]
@[simp] theorem State.setRx_sys (s : State) (lp k : Nat) (r : Option RxFrame) : (s.setRx lp k r).sys = s.sys := by simp only [State.setRx, State.setMac_sys]

@[simp] theorem State.onBlock_now (s : State) (t : Nat) (f : Block → Block) : (s.onBlock t f).now = s.now := by simp only [State.onBlock, State.setBlock_now]
@[simp] theorem State.onBlock_free (s : State) (t : Nat) (f : Block → Block) : (s.onBlock t f).free = s.free := by simp only [State.onBlock, State.setBlock_free]
@[simp] theorem State.onBlock_pending (s : State) (t : Nat) (f : Block → Block) : (s.onBlock t f).pending = s.pending := by simp only [State.onBlock, State.setBlock_pending]
@[simp] theorem State.onBlock_out (s : State) (t : Nat) (f : Block → Block) : (s.onBlock t f).out = s.out := by simp only [State.onBlock, State.setBlock_out]
@[simp] theorem State.onBlock_regs (s : State) (t : Nat) (f : Block → Block) : (s.onBlock t f).regs = s.regs := by simp only [State.onBlock, State.setBlock_regs]
@[simp] theorem State.onBlock_shadow (s : State) (t : Nat) (f : Block → Block) : (s.onBlock t f).shadow = s.shadow := by simp only [State.onBlock, State.setBlock_shadow]
@[simp] theorem State.onBlock_latch (s : State) (t : Nat) (f : Block → Block) : (s.onBlock t f).latch = s.latch := by simp only [State.onBlock, State.setBlock_latch]
@[simp] theorem State.onBlock_ctrs (s : State) (t : Nat) (f : Block → Block) : (s.onBlock t f).ctrs = s.ctrs := by simp only [State.onBlock, State.setBlock_ctrs]
@[simp] theorem State.onBlock_host (s : State) (t : Nat) (f : Block → Block) : (s.onBlock t f).host = s.host := by simp only [State.onBlock, State.setBlock_host]
@[simp] theorem State.onBlock_ports (s : State) (t : Nat) (f : Block → Block) : (s.onBlock t f).ports = s.ports := by simp only [State.onBlock, State.setBlock_ports]
@[simp] theorem State.onBlock_tables (s : State) (t : Nat) (f : Block → Block) : (s.onBlock t f).tables = s.tables := by simp only [State.onBlock, State.setBlock_tables]
@[simp] theorem State.onBlock_sw (s : State) (t : Nat) (f : Block → Block) : (s.onBlock t f).sw = s.sw := by simp only [State.onBlock, State.setBlock_sw]
@[simp] theorem State.onBlock_trunk (s : State) (t : Nat) (f : Block → Block) : (s.onBlock t f).trunk = s.trunk := by simp only [State.onBlock, State.setBlock_trunk]
@[simp] theorem State.onBlock_time (s : State) (t : Nat) (f : Block → Block) : (s.onBlock t f).time = s.time := by simp only [State.onBlock, State.setBlock_time]
@[simp] theorem State.onBlock_loom (s : State) (t : Nat) (f : Block → Block) : (s.onBlock t f).loom = s.loom := by simp only [State.onBlock, State.setBlock_loom]
@[simp] theorem State.onBlock_svc (s : State) (t : Nat) (f : Block → Block) : (s.onBlock t f).svc = s.svc := by simp only [State.onBlock, State.setBlock_svc]

@[simp] theorem State.onIsland_now (s : State) (t : Nat) (f : IslandSt → IslandSt) : (s.onIsland t f).now = s.now := by simp only [State.onIsland, State.setIsland_now]
@[simp] theorem State.onIsland_free (s : State) (t : Nat) (f : IslandSt → IslandSt) : (s.onIsland t f).free = s.free := by simp only [State.onIsland, State.setIsland_free]
@[simp] theorem State.onIsland_pending (s : State) (t : Nat) (f : IslandSt → IslandSt) : (s.onIsland t f).pending = s.pending := by simp only [State.onIsland, State.setIsland_pending]
@[simp] theorem State.onIsland_out (s : State) (t : Nat) (f : IslandSt → IslandSt) : (s.onIsland t f).out = s.out := by simp only [State.onIsland, State.setIsland_out]
@[simp] theorem State.onIsland_regs (s : State) (t : Nat) (f : IslandSt → IslandSt) : (s.onIsland t f).regs = s.regs := by simp only [State.onIsland, State.setIsland_regs]
@[simp] theorem State.onIsland_shadow (s : State) (t : Nat) (f : IslandSt → IslandSt) : (s.onIsland t f).shadow = s.shadow := by simp only [State.onIsland, State.setIsland_shadow]
@[simp] theorem State.onIsland_latch (s : State) (t : Nat) (f : IslandSt → IslandSt) : (s.onIsland t f).latch = s.latch := by simp only [State.onIsland, State.setIsland_latch]
@[simp] theorem State.onIsland_ctrs (s : State) (t : Nat) (f : IslandSt → IslandSt) : (s.onIsland t f).ctrs = s.ctrs := by simp only [State.onIsland, State.setIsland_ctrs]
@[simp] theorem State.onIsland_host (s : State) (t : Nat) (f : IslandSt → IslandSt) : (s.onIsland t f).host = s.host := by simp only [State.onIsland, State.setIsland_host]
@[simp] theorem State.onIsland_ports (s : State) (t : Nat) (f : IslandSt → IslandSt) : (s.onIsland t f).ports = s.ports := by simp only [State.onIsland, State.setIsland_ports]
@[simp] theorem State.onIsland_tables (s : State) (t : Nat) (f : IslandSt → IslandSt) : (s.onIsland t f).tables = s.tables := by simp only [State.onIsland, State.setIsland_tables]
@[simp] theorem State.onIsland_sw (s : State) (t : Nat) (f : IslandSt → IslandSt) : (s.onIsland t f).sw = s.sw := by simp only [State.onIsland, State.setIsland_sw]
@[simp] theorem State.onIsland_trunk (s : State) (t : Nat) (f : IslandSt → IslandSt) : (s.onIsland t f).trunk = s.trunk := by simp only [State.onIsland, State.setIsland_trunk]
@[simp] theorem State.onIsland_time (s : State) (t : Nat) (f : IslandSt → IslandSt) : (s.onIsland t f).time = s.time := by simp only [State.onIsland, State.setIsland_time]
@[simp] theorem State.onIsland_loom (s : State) (t : Nat) (f : IslandSt → IslandSt) : (s.onIsland t f).loom = s.loom := by simp only [State.onIsland, State.setIsland_loom]
@[simp] theorem State.onIsland_svc (s : State) (t : Nat) (f : IslandSt → IslandSt) : (s.onIsland t f).svc = s.svc := by simp only [State.onIsland, State.setIsland_svc]

@[simp] theorem State.onTb_now (s : State) (n : Nat) (f : TimeBase → TimeBase) : (s.onTb n f).now = s.now := by simp only [State.onTb, State.setTb_now]
@[simp] theorem State.onTb_free (s : State) (n : Nat) (f : TimeBase → TimeBase) : (s.onTb n f).free = s.free := by simp only [State.onTb, State.setTb_free]
@[simp] theorem State.onTb_pending (s : State) (n : Nat) (f : TimeBase → TimeBase) : (s.onTb n f).pending = s.pending := by simp only [State.onTb, State.setTb_pending]
@[simp] theorem State.onTb_out (s : State) (n : Nat) (f : TimeBase → TimeBase) : (s.onTb n f).out = s.out := by simp only [State.onTb, State.setTb_out]
@[simp] theorem State.onTb_regs (s : State) (n : Nat) (f : TimeBase → TimeBase) : (s.onTb n f).regs = s.regs := by simp only [State.onTb, State.setTb_regs]
@[simp] theorem State.onTb_shadow (s : State) (n : Nat) (f : TimeBase → TimeBase) : (s.onTb n f).shadow = s.shadow := by simp only [State.onTb, State.setTb_shadow]
@[simp] theorem State.onTb_latch (s : State) (n : Nat) (f : TimeBase → TimeBase) : (s.onTb n f).latch = s.latch := by simp only [State.onTb, State.setTb_latch]
@[simp] theorem State.onTb_ctrs (s : State) (n : Nat) (f : TimeBase → TimeBase) : (s.onTb n f).ctrs = s.ctrs := by simp only [State.onTb, State.setTb_ctrs]
@[simp] theorem State.onTb_host (s : State) (n : Nat) (f : TimeBase → TimeBase) : (s.onTb n f).host = s.host := by simp only [State.onTb, State.setTb_host]
@[simp] theorem State.onTb_ports (s : State) (n : Nat) (f : TimeBase → TimeBase) : (s.onTb n f).ports = s.ports := by simp only [State.onTb, State.setTb_ports]
@[simp] theorem State.onTb_tables (s : State) (n : Nat) (f : TimeBase → TimeBase) : (s.onTb n f).tables = s.tables := by simp only [State.onTb, State.setTb_tables]
@[simp] theorem State.onTb_sw (s : State) (n : Nat) (f : TimeBase → TimeBase) : (s.onTb n f).sw = s.sw := by simp only [State.onTb, State.setTb_sw]
@[simp] theorem State.onTb_trunk (s : State) (n : Nat) (f : TimeBase → TimeBase) : (s.onTb n f).trunk = s.trunk := by simp only [State.onTb, State.setTb_trunk]
@[simp] theorem State.onTb_loom (s : State) (n : Nat) (f : TimeBase → TimeBase) : (s.onTb n f).loom = s.loom := by simp only [State.onTb, State.setTb_loom]
@[simp] theorem State.onTb_svc (s : State) (n : Nat) (f : TimeBase → TimeBase) : (s.onTb n f).svc = s.svc := by simp only [State.onTb, State.setTb_svc]
@[simp] theorem State.onTb_sys (s : State) (n : Nat) (f : TimeBase → TimeBase) : (s.onTb n f).sys = s.sys := by simp only [State.onTb, State.setTb_sys]

@[simp] theorem State.setCopy_now (s : State) (sl : Nat) (c : TblCopy) : (s.setCopy sl c).now = s.now := by simp only [State.setCopy, State.onTables_now]
@[simp] theorem State.setCopy_free (s : State) (sl : Nat) (c : TblCopy) : (s.setCopy sl c).free = s.free := by simp only [State.setCopy, State.onTables_free]
@[simp] theorem State.setCopy_pending (s : State) (sl : Nat) (c : TblCopy) : (s.setCopy sl c).pending = s.pending := by simp only [State.setCopy, State.onTables_pending]
@[simp] theorem State.setCopy_out (s : State) (sl : Nat) (c : TblCopy) : (s.setCopy sl c).out = s.out := by simp only [State.setCopy, State.onTables_out]
@[simp] theorem State.setCopy_regs (s : State) (sl : Nat) (c : TblCopy) : (s.setCopy sl c).regs = s.regs := by simp only [State.setCopy, State.onTables_regs]
@[simp] theorem State.setCopy_shadow (s : State) (sl : Nat) (c : TblCopy) : (s.setCopy sl c).shadow = s.shadow := by simp only [State.setCopy, State.onTables_shadow]
@[simp] theorem State.setCopy_latch (s : State) (sl : Nat) (c : TblCopy) : (s.setCopy sl c).latch = s.latch := by simp only [State.setCopy, State.onTables_latch]
@[simp] theorem State.setCopy_ctrs (s : State) (sl : Nat) (c : TblCopy) : (s.setCopy sl c).ctrs = s.ctrs := by simp only [State.setCopy, State.onTables_ctrs]
@[simp] theorem State.setCopy_host (s : State) (sl : Nat) (c : TblCopy) : (s.setCopy sl c).host = s.host := by simp only [State.setCopy, State.onTables_host]
@[simp] theorem State.setCopy_ports (s : State) (sl : Nat) (c : TblCopy) : (s.setCopy sl c).ports = s.ports := by simp only [State.setCopy, State.onTables_ports]
@[simp] theorem State.setCopy_sw (s : State) (sl : Nat) (c : TblCopy) : (s.setCopy sl c).sw = s.sw := by simp only [State.setCopy, State.onTables_sw]
@[simp] theorem State.setCopy_trunk (s : State) (sl : Nat) (c : TblCopy) : (s.setCopy sl c).trunk = s.trunk := by simp only [State.setCopy, State.onTables_trunk]
@[simp] theorem State.setCopy_time (s : State) (sl : Nat) (c : TblCopy) : (s.setCopy sl c).time = s.time := by simp only [State.setCopy, State.onTables_time]
@[simp] theorem State.setCopy_loom (s : State) (sl : Nat) (c : TblCopy) : (s.setCopy sl c).loom = s.loom := by simp only [State.setCopy, State.onTables_loom]
@[simp] theorem State.setCopy_svc (s : State) (sl : Nat) (c : TblCopy) : (s.setCopy sl c).svc = s.svc := by simp only [State.setCopy, State.onTables_svc]
@[simp] theorem State.setCopy_sys (s : State) (sl : Nat) (c : TblCopy) : (s.setCopy sl c).sys = s.sys := by simp only [State.setCopy, State.onTables_sys]


@[simp] theorem State.setLinkFld_now (s : State) (p : Nat) (f : Fld) (v : Nat) : (s.setLinkFld p f v).now = s.now := by simp only [State.setLinkFld, State.setFld_now]
@[simp] theorem State.setLinkFld_free (s : State) (p : Nat) (f : Fld) (v : Nat) : (s.setLinkFld p f v).free = s.free := by simp only [State.setLinkFld, State.setFld_free]
@[simp] theorem State.setLinkFld_pending (s : State) (p : Nat) (f : Fld) (v : Nat) : (s.setLinkFld p f v).pending = s.pending := by simp only [State.setLinkFld, State.setFld_pending]
@[simp] theorem State.setLinkFld_out (s : State) (p : Nat) (f : Fld) (v : Nat) : (s.setLinkFld p f v).out = s.out := by simp only [State.setLinkFld, State.setFld_out]
@[simp] theorem State.setLinkFld_shadow (s : State) (p : Nat) (f : Fld) (v : Nat) : (s.setLinkFld p f v).shadow = s.shadow := by simp only [State.setLinkFld, State.setFld_shadow]
@[simp] theorem State.setLinkFld_latch (s : State) (p : Nat) (f : Fld) (v : Nat) : (s.setLinkFld p f v).latch = s.latch := by simp only [State.setLinkFld, State.setFld_latch]
@[simp] theorem State.setLinkFld_ctrs (s : State) (p : Nat) (f : Fld) (v : Nat) : (s.setLinkFld p f v).ctrs = s.ctrs := by simp only [State.setLinkFld, State.setFld_ctrs]
@[simp] theorem State.setLinkFld_host (s : State) (p : Nat) (f : Fld) (v : Nat) : (s.setLinkFld p f v).host = s.host := by simp only [State.setLinkFld, State.setFld_host]
@[simp] theorem State.setLinkFld_ports (s : State) (p : Nat) (f : Fld) (v : Nat) : (s.setLinkFld p f v).ports = s.ports := by simp only [State.setLinkFld, State.setFld_ports]
@[simp] theorem State.setLinkFld_tables (s : State) (p : Nat) (f : Fld) (v : Nat) : (s.setLinkFld p f v).tables = s.tables := by simp only [State.setLinkFld, State.setFld_tables]
@[simp] theorem State.setLinkFld_sw (s : State) (p : Nat) (f : Fld) (v : Nat) : (s.setLinkFld p f v).sw = s.sw := by simp only [State.setLinkFld, State.setFld_sw]
@[simp] theorem State.setLinkFld_trunk (s : State) (p : Nat) (f : Fld) (v : Nat) : (s.setLinkFld p f v).trunk = s.trunk := by simp only [State.setLinkFld, State.setFld_trunk]
@[simp] theorem State.setLinkFld_time (s : State) (p : Nat) (f : Fld) (v : Nat) : (s.setLinkFld p f v).time = s.time := by simp only [State.setLinkFld, State.setFld_time]
@[simp] theorem State.setLinkFld_loom (s : State) (p : Nat) (f : Fld) (v : Nat) : (s.setLinkFld p f v).loom = s.loom := by simp only [State.setLinkFld, State.setFld_loom]
@[simp] theorem State.setLinkFld_svc (s : State) (p : Nat) (f : Fld) (v : Nat) : (s.setLinkFld p f v).svc = s.svc := by simp only [State.setLinkFld, State.setFld_svc]
@[simp] theorem State.setLinkFld_sys (s : State) (p : Nat) (f : Fld) (v : Nat) : (s.setLinkFld p f v).sys = s.sys := by simp only [State.setLinkFld, State.setFld_sys]

@[simp] theorem State.setRingFld_now (s : State) (r : Nat) (f : Fld) (v : Nat) : (s.setRingFld r f v).now = s.now := by simp only [State.setRingFld, State.setFld_now]
@[simp] theorem State.setRingFld_free (s : State) (r : Nat) (f : Fld) (v : Nat) : (s.setRingFld r f v).free = s.free := by simp only [State.setRingFld, State.setFld_free]
@[simp] theorem State.setRingFld_pending (s : State) (r : Nat) (f : Fld) (v : Nat) : (s.setRingFld r f v).pending = s.pending := by simp only [State.setRingFld, State.setFld_pending]
@[simp] theorem State.setRingFld_out (s : State) (r : Nat) (f : Fld) (v : Nat) : (s.setRingFld r f v).out = s.out := by simp only [State.setRingFld, State.setFld_out]
@[simp] theorem State.setRingFld_shadow (s : State) (r : Nat) (f : Fld) (v : Nat) : (s.setRingFld r f v).shadow = s.shadow := by simp only [State.setRingFld, State.setFld_shadow]
@[simp] theorem State.setRingFld_latch (s : State) (r : Nat) (f : Fld) (v : Nat) : (s.setRingFld r f v).latch = s.latch := by simp only [State.setRingFld, State.setFld_latch]
@[simp] theorem State.setRingFld_ctrs (s : State) (r : Nat) (f : Fld) (v : Nat) : (s.setRingFld r f v).ctrs = s.ctrs := by simp only [State.setRingFld, State.setFld_ctrs]
@[simp] theorem State.setRingFld_host (s : State) (r : Nat) (f : Fld) (v : Nat) : (s.setRingFld r f v).host = s.host := by simp only [State.setRingFld, State.setFld_host]
@[simp] theorem State.setRingFld_ports (s : State) (r : Nat) (f : Fld) (v : Nat) : (s.setRingFld r f v).ports = s.ports := by simp only [State.setRingFld, State.setFld_ports]
@[simp] theorem State.setRingFld_tables (s : State) (r : Nat) (f : Fld) (v : Nat) : (s.setRingFld r f v).tables = s.tables := by simp only [State.setRingFld, State.setFld_tables]
@[simp] theorem State.setRingFld_sw (s : State) (r : Nat) (f : Fld) (v : Nat) : (s.setRingFld r f v).sw = s.sw := by simp only [State.setRingFld, State.setFld_sw]
@[simp] theorem State.setRingFld_trunk (s : State) (r : Nat) (f : Fld) (v : Nat) : (s.setRingFld r f v).trunk = s.trunk := by simp only [State.setRingFld, State.setFld_trunk]
@[simp] theorem State.setRingFld_time (s : State) (r : Nat) (f : Fld) (v : Nat) : (s.setRingFld r f v).time = s.time := by simp only [State.setRingFld, State.setFld_time]
@[simp] theorem State.setRingFld_loom (s : State) (r : Nat) (f : Fld) (v : Nat) : (s.setRingFld r f v).loom = s.loom := by simp only [State.setRingFld, State.setFld_loom]
@[simp] theorem State.setRingFld_svc (s : State) (r : Nat) (f : Fld) (v : Nat) : (s.setRingFld r f v).svc = s.svc := by simp only [State.setRingFld, State.setFld_svc]
@[simp] theorem State.setRingFld_sys (s : State) (r : Nat) (f : Fld) (v : Nat) : (s.setRingFld r f v).sys = s.sys := by simp only [State.setRingFld, State.setFld_sys]

@[simp] theorem State.setFoldSt_now (s : State) (sl t : Nat) (f : Fld) (v : Nat) : (s.setFoldSt sl t f v).now = s.now := by simp only [State.setFoldSt, State.setFld_now]
@[simp] theorem State.setFoldSt_free (s : State) (sl t : Nat) (f : Fld) (v : Nat) : (s.setFoldSt sl t f v).free = s.free := by simp only [State.setFoldSt, State.setFld_free]
@[simp] theorem State.setFoldSt_pending (s : State) (sl t : Nat) (f : Fld) (v : Nat) : (s.setFoldSt sl t f v).pending = s.pending := by simp only [State.setFoldSt, State.setFld_pending]
@[simp] theorem State.setFoldSt_out (s : State) (sl t : Nat) (f : Fld) (v : Nat) : (s.setFoldSt sl t f v).out = s.out := by simp only [State.setFoldSt, State.setFld_out]
@[simp] theorem State.setFoldSt_shadow (s : State) (sl t : Nat) (f : Fld) (v : Nat) : (s.setFoldSt sl t f v).shadow = s.shadow := by simp only [State.setFoldSt, State.setFld_shadow]
@[simp] theorem State.setFoldSt_latch (s : State) (sl t : Nat) (f : Fld) (v : Nat) : (s.setFoldSt sl t f v).latch = s.latch := by simp only [State.setFoldSt, State.setFld_latch]
@[simp] theorem State.setFoldSt_ctrs (s : State) (sl t : Nat) (f : Fld) (v : Nat) : (s.setFoldSt sl t f v).ctrs = s.ctrs := by simp only [State.setFoldSt, State.setFld_ctrs]
@[simp] theorem State.setFoldSt_host (s : State) (sl t : Nat) (f : Fld) (v : Nat) : (s.setFoldSt sl t f v).host = s.host := by simp only [State.setFoldSt, State.setFld_host]
@[simp] theorem State.setFoldSt_ports (s : State) (sl t : Nat) (f : Fld) (v : Nat) : (s.setFoldSt sl t f v).ports = s.ports := by simp only [State.setFoldSt, State.setFld_ports]
@[simp] theorem State.setFoldSt_tables (s : State) (sl t : Nat) (f : Fld) (v : Nat) : (s.setFoldSt sl t f v).tables = s.tables := by simp only [State.setFoldSt, State.setFld_tables]
@[simp] theorem State.setFoldSt_sw (s : State) (sl t : Nat) (f : Fld) (v : Nat) : (s.setFoldSt sl t f v).sw = s.sw := by simp only [State.setFoldSt, State.setFld_sw]
@[simp] theorem State.setFoldSt_trunk (s : State) (sl t : Nat) (f : Fld) (v : Nat) : (s.setFoldSt sl t f v).trunk = s.trunk := by simp only [State.setFoldSt, State.setFld_trunk]
@[simp] theorem State.setFoldSt_time (s : State) (sl t : Nat) (f : Fld) (v : Nat) : (s.setFoldSt sl t f v).time = s.time := by simp only [State.setFoldSt, State.setFld_time]
@[simp] theorem State.setFoldSt_loom (s : State) (sl t : Nat) (f : Fld) (v : Nat) : (s.setFoldSt sl t f v).loom = s.loom := by simp only [State.setFoldSt, State.setFld_loom]
@[simp] theorem State.setFoldSt_svc (s : State) (sl t : Nat) (f : Fld) (v : Nat) : (s.setFoldSt sl t f v).svc = s.svc := by simp only [State.setFoldSt, State.setFld_svc]
@[simp] theorem State.setFoldSt_sys (s : State) (sl t : Nat) (f : Fld) (v : Nat) : (s.setFoldSt sl t f v).sys = s.sys := by simp only [State.setFoldSt, State.setFld_sys]

@[simp] theorem State.setGateSt_now (s : State) (p : Nat) (f : Fld) (v : Nat) : (s.setGateSt p f v).now = s.now := by simp only [State.setGateSt, State.setFld_now]
@[simp] theorem State.setGateSt_free (s : State) (p : Nat) (f : Fld) (v : Nat) : (s.setGateSt p f v).free = s.free := by simp only [State.setGateSt, State.setFld_free]
@[simp] theorem State.setGateSt_pending (s : State) (p : Nat) (f : Fld) (v : Nat) : (s.setGateSt p f v).pending = s.pending := by simp only [State.setGateSt, State.setFld_pending]
@[simp] theorem State.setGateSt_out (s : State) (p : Nat) (f : Fld) (v : Nat) : (s.setGateSt p f v).out = s.out := by simp only [State.setGateSt, State.setFld_out]
@[simp] theorem State.setGateSt_shadow (s : State) (p : Nat) (f : Fld) (v : Nat) : (s.setGateSt p f v).shadow = s.shadow := by simp only [State.setGateSt, State.setFld_shadow]
@[simp] theorem State.setGateSt_latch (s : State) (p : Nat) (f : Fld) (v : Nat) : (s.setGateSt p f v).latch = s.latch := by simp only [State.setGateSt, State.setFld_latch]
@[simp] theorem State.setGateSt_ctrs (s : State) (p : Nat) (f : Fld) (v : Nat) : (s.setGateSt p f v).ctrs = s.ctrs := by simp only [State.setGateSt, State.setFld_ctrs]
@[simp] theorem State.setGateSt_host (s : State) (p : Nat) (f : Fld) (v : Nat) : (s.setGateSt p f v).host = s.host := by simp only [State.setGateSt, State.setFld_host]
@[simp] theorem State.setGateSt_ports (s : State) (p : Nat) (f : Fld) (v : Nat) : (s.setGateSt p f v).ports = s.ports := by simp only [State.setGateSt, State.setFld_ports]
@[simp] theorem State.setGateSt_tables (s : State) (p : Nat) (f : Fld) (v : Nat) : (s.setGateSt p f v).tables = s.tables := by simp only [State.setGateSt, State.setFld_tables]
@[simp] theorem State.setGateSt_sw (s : State) (p : Nat) (f : Fld) (v : Nat) : (s.setGateSt p f v).sw = s.sw := by simp only [State.setGateSt, State.setFld_sw]
@[simp] theorem State.setGateSt_trunk (s : State) (p : Nat) (f : Fld) (v : Nat) : (s.setGateSt p f v).trunk = s.trunk := by simp only [State.setGateSt, State.setFld_trunk]
@[simp] theorem State.setGateSt_time (s : State) (p : Nat) (f : Fld) (v : Nat) : (s.setGateSt p f v).time = s.time := by simp only [State.setGateSt, State.setFld_time]
@[simp] theorem State.setGateSt_loom (s : State) (p : Nat) (f : Fld) (v : Nat) : (s.setGateSt p f v).loom = s.loom := by simp only [State.setGateSt, State.setFld_loom]
@[simp] theorem State.setGateSt_svc (s : State) (p : Nat) (f : Fld) (v : Nat) : (s.setGateSt p f v).svc = s.svc := by simp only [State.setGateSt, State.setFld_svc]
@[simp] theorem State.setGateSt_sys (s : State) (p : Nat) (f : Fld) (v : Nat) : (s.setGateSt p f v).sys = s.sys := by simp only [State.setGateSt, State.setFld_sys]

@[simp] theorem State.setRole_now (s : State) (c r : Nat) : (s.setRole c r).now = s.now := by simp only [State.setRole, State.setFld_now]
@[simp] theorem State.setRole_free (s : State) (c r : Nat) : (s.setRole c r).free = s.free := by simp only [State.setRole, State.setFld_free]
@[simp] theorem State.setRole_pending (s : State) (c r : Nat) : (s.setRole c r).pending = s.pending := by simp only [State.setRole, State.setFld_pending]
@[simp] theorem State.setRole_out (s : State) (c r : Nat) : (s.setRole c r).out = s.out := by simp only [State.setRole, State.setFld_out]
@[simp] theorem State.setRole_shadow (s : State) (c r : Nat) : (s.setRole c r).shadow = s.shadow := by simp only [State.setRole, State.setFld_shadow]
@[simp] theorem State.setRole_latch (s : State) (c r : Nat) : (s.setRole c r).latch = s.latch := by simp only [State.setRole, State.setFld_latch]
@[simp] theorem State.setRole_ctrs (s : State) (c r : Nat) : (s.setRole c r).ctrs = s.ctrs := by simp only [State.setRole, State.setFld_ctrs]
@[simp] theorem State.setRole_host (s : State) (c r : Nat) : (s.setRole c r).host = s.host := by simp only [State.setRole, State.setFld_host]
@[simp] theorem State.setRole_ports (s : State) (c r : Nat) : (s.setRole c r).ports = s.ports := by simp only [State.setRole, State.setFld_ports]
@[simp] theorem State.setRole_tables (s : State) (c r : Nat) : (s.setRole c r).tables = s.tables := by simp only [State.setRole, State.setFld_tables]
@[simp] theorem State.setRole_sw (s : State) (c r : Nat) : (s.setRole c r).sw = s.sw := by simp only [State.setRole, State.setFld_sw]
@[simp] theorem State.setRole_trunk (s : State) (c r : Nat) : (s.setRole c r).trunk = s.trunk := by simp only [State.setRole, State.setFld_trunk]
@[simp] theorem State.setRole_time (s : State) (c r : Nat) : (s.setRole c r).time = s.time := by simp only [State.setRole, State.setFld_time]
@[simp] theorem State.setRole_loom (s : State) (c r : Nat) : (s.setRole c r).loom = s.loom := by simp only [State.setRole, State.setFld_loom]
@[simp] theorem State.setRole_svc (s : State) (c r : Nat) : (s.setRole c r).svc = s.svc := by simp only [State.setRole, State.setFld_svc]
@[simp] theorem State.setRole_sys (s : State) (c r : Nat) : (s.setRole c r).sys = s.sys := by simp only [State.setRole, State.setFld_sys]

@[simp] theorem State.setCause_now (s : State) (c r : Nat) : (s.setCause c r).now = s.now := by simp only [State.setCause, State.setFld_now]
@[simp] theorem State.setCause_free (s : State) (c r : Nat) : (s.setCause c r).free = s.free := by simp only [State.setCause, State.setFld_free]
@[simp] theorem State.setCause_pending (s : State) (c r : Nat) : (s.setCause c r).pending = s.pending := by simp only [State.setCause, State.setFld_pending]
@[simp] theorem State.setCause_out (s : State) (c r : Nat) : (s.setCause c r).out = s.out := by simp only [State.setCause, State.setFld_out]
@[simp] theorem State.setCause_shadow (s : State) (c r : Nat) : (s.setCause c r).shadow = s.shadow := by simp only [State.setCause, State.setFld_shadow]
@[simp] theorem State.setCause_latch (s : State) (c r : Nat) : (s.setCause c r).latch = s.latch := by simp only [State.setCause, State.setFld_latch]
@[simp] theorem State.setCause_ctrs (s : State) (c r : Nat) : (s.setCause c r).ctrs = s.ctrs := by simp only [State.setCause, State.setFld_ctrs]
@[simp] theorem State.setCause_host (s : State) (c r : Nat) : (s.setCause c r).host = s.host := by simp only [State.setCause, State.setFld_host]
@[simp] theorem State.setCause_ports (s : State) (c r : Nat) : (s.setCause c r).ports = s.ports := by simp only [State.setCause, State.setFld_ports]
@[simp] theorem State.setCause_tables (s : State) (c r : Nat) : (s.setCause c r).tables = s.tables := by simp only [State.setCause, State.setFld_tables]
@[simp] theorem State.setCause_sw (s : State) (c r : Nat) : (s.setCause c r).sw = s.sw := by simp only [State.setCause, State.setFld_sw]
@[simp] theorem State.setCause_trunk (s : State) (c r : Nat) : (s.setCause c r).trunk = s.trunk := by simp only [State.setCause, State.setFld_trunk]
@[simp] theorem State.setCause_time (s : State) (c r : Nat) : (s.setCause c r).time = s.time := by simp only [State.setCause, State.setFld_time]
@[simp] theorem State.setCause_loom (s : State) (c r : Nat) : (s.setCause c r).loom = s.loom := by simp only [State.setCause, State.setFld_loom]
@[simp] theorem State.setCause_svc (s : State) (c r : Nat) : (s.setCause c r).svc = s.svc := by simp only [State.setCause, State.setFld_svc]
@[simp] theorem State.setCause_sys (s : State) (c r : Nat) : (s.setCause c r).sys = s.sys := by simp only [State.setCause, State.setFld_sys]

@[simp] theorem State.onCluster_now (s : State) (c : Nat) (f : ClusterSt → ClusterSt) : (s.onCluster c f).now = s.now := by simp only [State.onCluster, State.onSvc_now]
@[simp] theorem State.onCluster_free (s : State) (c : Nat) (f : ClusterSt → ClusterSt) : (s.onCluster c f).free = s.free := by simp only [State.onCluster, State.onSvc_free]
@[simp] theorem State.onCluster_pending (s : State) (c : Nat) (f : ClusterSt → ClusterSt) : (s.onCluster c f).pending = s.pending := by simp only [State.onCluster, State.onSvc_pending]
@[simp] theorem State.onCluster_out (s : State) (c : Nat) (f : ClusterSt → ClusterSt) : (s.onCluster c f).out = s.out := by simp only [State.onCluster, State.onSvc_out]
@[simp] theorem State.onCluster_regs (s : State) (c : Nat) (f : ClusterSt → ClusterSt) : (s.onCluster c f).regs = s.regs := by simp only [State.onCluster, State.onSvc_regs]
@[simp] theorem State.onCluster_shadow (s : State) (c : Nat) (f : ClusterSt → ClusterSt) : (s.onCluster c f).shadow = s.shadow := by simp only [State.onCluster, State.onSvc_shadow]
@[simp] theorem State.onCluster_latch (s : State) (c : Nat) (f : ClusterSt → ClusterSt) : (s.onCluster c f).latch = s.latch := by simp only [State.onCluster, State.onSvc_latch]
@[simp] theorem State.onCluster_ctrs (s : State) (c : Nat) (f : ClusterSt → ClusterSt) : (s.onCluster c f).ctrs = s.ctrs := by simp only [State.onCluster, State.onSvc_ctrs]
@[simp] theorem State.onCluster_host (s : State) (c : Nat) (f : ClusterSt → ClusterSt) : (s.onCluster c f).host = s.host := by simp only [State.onCluster, State.onSvc_host]
@[simp] theorem State.onCluster_ports (s : State) (c : Nat) (f : ClusterSt → ClusterSt) : (s.onCluster c f).ports = s.ports := by simp only [State.onCluster, State.onSvc_ports]
@[simp] theorem State.onCluster_tables (s : State) (c : Nat) (f : ClusterSt → ClusterSt) : (s.onCluster c f).tables = s.tables := by simp only [State.onCluster, State.onSvc_tables]
@[simp] theorem State.onCluster_sw (s : State) (c : Nat) (f : ClusterSt → ClusterSt) : (s.onCluster c f).sw = s.sw := by simp only [State.onCluster, State.onSvc_sw]
@[simp] theorem State.onCluster_trunk (s : State) (c : Nat) (f : ClusterSt → ClusterSt) : (s.onCluster c f).trunk = s.trunk := by simp only [State.onCluster, State.onSvc_trunk]
@[simp] theorem State.onCluster_time (s : State) (c : Nat) (f : ClusterSt → ClusterSt) : (s.onCluster c f).time = s.time := by simp only [State.onCluster, State.onSvc_time]
@[simp] theorem State.onCluster_loom (s : State) (c : Nat) (f : ClusterSt → ClusterSt) : (s.onCluster c f).loom = s.loom := by simp only [State.onCluster, State.onSvc_loom]
@[simp] theorem State.onCluster_sys (s : State) (c : Nat) (f : ClusterSt → ClusterSt) : (s.onCluster c f).sys = s.sys := by simp only [State.onCluster, State.onSvc_sys]

@[simp] theorem State.setPerfBase_now (s : State) (i n : Nat) : (s.setPerfBase i n).now = s.now := by simp only [State.setPerfBase, State.onHost_now]
@[simp] theorem State.setPerfBase_free (s : State) (i n : Nat) : (s.setPerfBase i n).free = s.free := by simp only [State.setPerfBase, State.onHost_free]
@[simp] theorem State.setPerfBase_pending (s : State) (i n : Nat) : (s.setPerfBase i n).pending = s.pending := by simp only [State.setPerfBase, State.onHost_pending]
@[simp] theorem State.setPerfBase_out (s : State) (i n : Nat) : (s.setPerfBase i n).out = s.out := by simp only [State.setPerfBase, State.onHost_out]
@[simp] theorem State.setPerfBase_regs (s : State) (i n : Nat) : (s.setPerfBase i n).regs = s.regs := by simp only [State.setPerfBase, State.onHost_regs]
@[simp] theorem State.setPerfBase_shadow (s : State) (i n : Nat) : (s.setPerfBase i n).shadow = s.shadow := by simp only [State.setPerfBase, State.onHost_shadow]
@[simp] theorem State.setPerfBase_latch (s : State) (i n : Nat) : (s.setPerfBase i n).latch = s.latch := by simp only [State.setPerfBase, State.onHost_latch]
@[simp] theorem State.setPerfBase_ctrs (s : State) (i n : Nat) : (s.setPerfBase i n).ctrs = s.ctrs := by simp only [State.setPerfBase, State.onHost_ctrs]
@[simp] theorem State.setPerfBase_ports (s : State) (i n : Nat) : (s.setPerfBase i n).ports = s.ports := by simp only [State.setPerfBase, State.onHost_ports]
@[simp] theorem State.setPerfBase_tables (s : State) (i n : Nat) : (s.setPerfBase i n).tables = s.tables := by simp only [State.setPerfBase, State.onHost_tables]
@[simp] theorem State.setPerfBase_sw (s : State) (i n : Nat) : (s.setPerfBase i n).sw = s.sw := by simp only [State.setPerfBase, State.onHost_sw]
@[simp] theorem State.setPerfBase_trunk (s : State) (i n : Nat) : (s.setPerfBase i n).trunk = s.trunk := by simp only [State.setPerfBase, State.onHost_trunk]
@[simp] theorem State.setPerfBase_time (s : State) (i n : Nat) : (s.setPerfBase i n).time = s.time := by simp only [State.setPerfBase, State.onHost_time]
@[simp] theorem State.setPerfBase_loom (s : State) (i n : Nat) : (s.setPerfBase i n).loom = s.loom := by simp only [State.setPerfBase, State.onHost_loom]
@[simp] theorem State.setPerfBase_svc (s : State) (i n : Nat) : (s.setPerfBase i n).svc = s.svc := by simp only [State.setPerfBase, State.onHost_svc]
@[simp] theorem State.setPerfBase_sys (s : State) (i n : Nat) : (s.setPerfBase i n).sys = s.sys := by simp only [State.setPerfBase, State.onHost_sys]

@[simp] theorem State.setAsm_now (s : State) (k : Nat) (a : Reasm) : (s.setAsm k a).now = s.now := by simp only [State.setAsm, State.setStream_now]
@[simp] theorem State.setAsm_free (s : State) (k : Nat) (a : Reasm) : (s.setAsm k a).free = s.free := by simp only [State.setAsm, State.setStream_free]
@[simp] theorem State.setAsm_pending (s : State) (k : Nat) (a : Reasm) : (s.setAsm k a).pending = s.pending := by simp only [State.setAsm, State.setStream_pending]
@[simp] theorem State.setAsm_out (s : State) (k : Nat) (a : Reasm) : (s.setAsm k a).out = s.out := by simp only [State.setAsm, State.setStream_out]
@[simp] theorem State.setAsm_regs (s : State) (k : Nat) (a : Reasm) : (s.setAsm k a).regs = s.regs := by simp only [State.setAsm, State.setStream_regs]
@[simp] theorem State.setAsm_shadow (s : State) (k : Nat) (a : Reasm) : (s.setAsm k a).shadow = s.shadow := by simp only [State.setAsm, State.setStream_shadow]
@[simp] theorem State.setAsm_latch (s : State) (k : Nat) (a : Reasm) : (s.setAsm k a).latch = s.latch := by simp only [State.setAsm, State.setStream_latch]
@[simp] theorem State.setAsm_ctrs (s : State) (k : Nat) (a : Reasm) : (s.setAsm k a).ctrs = s.ctrs := by simp only [State.setAsm, State.setStream_ctrs]
@[simp] theorem State.setAsm_host (s : State) (k : Nat) (a : Reasm) : (s.setAsm k a).host = s.host := by simp only [State.setAsm, State.setStream_host]
@[simp] theorem State.setAsm_ports (s : State) (k : Nat) (a : Reasm) : (s.setAsm k a).ports = s.ports := by simp only [State.setAsm, State.setStream_ports]
@[simp] theorem State.setAsm_tables (s : State) (k : Nat) (a : Reasm) : (s.setAsm k a).tables = s.tables := by simp only [State.setAsm, State.setStream_tables]
@[simp] theorem State.setAsm_trunk (s : State) (k : Nat) (a : Reasm) : (s.setAsm k a).trunk = s.trunk := by simp only [State.setAsm, State.setStream_trunk]
@[simp] theorem State.setAsm_time (s : State) (k : Nat) (a : Reasm) : (s.setAsm k a).time = s.time := by simp only [State.setAsm, State.setStream_time]
@[simp] theorem State.setAsm_loom (s : State) (k : Nat) (a : Reasm) : (s.setAsm k a).loom = s.loom := by simp only [State.setAsm, State.setStream_loom]
@[simp] theorem State.setAsm_svc (s : State) (k : Nat) (a : Reasm) : (s.setAsm k a).svc = s.svc := by simp only [State.setAsm, State.setStream_svc]
@[simp] theorem State.setAsm_sys (s : State) (k : Nat) (a : Reasm) : (s.setAsm k a).sys = s.sys := by simp only [State.setAsm, State.setStream_sys]

@[simp] theorem State.setTbFreq_now (s : State) (n : Nat) (f : Int) : (s.setTbFreq n f).now = s.now := by simp only [State.setTbFreq, State.setFld_now]
@[simp] theorem State.setTbFreq_free (s : State) (n : Nat) (f : Int) : (s.setTbFreq n f).free = s.free := by simp only [State.setTbFreq, State.setFld_free]
@[simp] theorem State.setTbFreq_pending (s : State) (n : Nat) (f : Int) : (s.setTbFreq n f).pending = s.pending := by simp only [State.setTbFreq, State.setFld_pending]
@[simp] theorem State.setTbFreq_out (s : State) (n : Nat) (f : Int) : (s.setTbFreq n f).out = s.out := by simp only [State.setTbFreq, State.setFld_out]
@[simp] theorem State.setTbFreq_shadow (s : State) (n : Nat) (f : Int) : (s.setTbFreq n f).shadow = s.shadow := by simp only [State.setTbFreq, State.setFld_shadow]
@[simp] theorem State.setTbFreq_latch (s : State) (n : Nat) (f : Int) : (s.setTbFreq n f).latch = s.latch := by simp only [State.setTbFreq, State.setFld_latch]
@[simp] theorem State.setTbFreq_ctrs (s : State) (n : Nat) (f : Int) : (s.setTbFreq n f).ctrs = s.ctrs := by simp only [State.setTbFreq, State.setFld_ctrs]
@[simp] theorem State.setTbFreq_host (s : State) (n : Nat) (f : Int) : (s.setTbFreq n f).host = s.host := by simp only [State.setTbFreq, State.setFld_host]
@[simp] theorem State.setTbFreq_ports (s : State) (n : Nat) (f : Int) : (s.setTbFreq n f).ports = s.ports := by simp only [State.setTbFreq, State.setFld_ports]
@[simp] theorem State.setTbFreq_tables (s : State) (n : Nat) (f : Int) : (s.setTbFreq n f).tables = s.tables := by simp only [State.setTbFreq, State.setFld_tables]
@[simp] theorem State.setTbFreq_sw (s : State) (n : Nat) (f : Int) : (s.setTbFreq n f).sw = s.sw := by simp only [State.setTbFreq, State.setFld_sw]
@[simp] theorem State.setTbFreq_trunk (s : State) (n : Nat) (f : Int) : (s.setTbFreq n f).trunk = s.trunk := by simp only [State.setTbFreq, State.setFld_trunk]
@[simp] theorem State.setTbFreq_time (s : State) (n : Nat) (f : Int) : (s.setTbFreq n f).time = s.time := by simp only [State.setTbFreq, State.setFld_time]
@[simp] theorem State.setTbFreq_loom (s : State) (n : Nat) (f : Int) : (s.setTbFreq n f).loom = s.loom := by simp only [State.setTbFreq, State.setFld_loom]
@[simp] theorem State.setTbFreq_svc (s : State) (n : Nat) (f : Int) : (s.setTbFreq n f).svc = s.svc := by simp only [State.setTbFreq, State.setFld_svc]
@[simp] theorem State.setTbFreq_sys (s : State) (n : Nat) (f : Int) : (s.setTbFreq n f).sys = s.sys := by simp only [State.setTbFreq, State.setFld_sys]

@[simp] theorem State.lower_now (s : State) (pg src : Nat) : (s.lower pg src).now = s.now := by
  unfold State.lower; split
  · rw [State.noteLevel_now]
  · rw [State.setEvtBit_now]
@[simp] theorem State.lower_free (s : State) (pg src : Nat) : (s.lower pg src).free = s.free := by
  unfold State.lower; split
  · rw [State.noteLevel_free]
  · rw [State.setEvtBit_free]
@[simp] theorem State.lower_pending (s : State) (pg src : Nat) : (s.lower pg src).pending = s.pending := by
  unfold State.lower; split
  · rw [State.noteLevel_pending]
  · rw [State.setEvtBit_pending]
@[simp] theorem State.lower_out (s : State) (pg src : Nat) : (s.lower pg src).out = s.out := by
  unfold State.lower; split
  · rw [State.noteLevel_out]
  · rw [State.setEvtBit_out]
@[simp] theorem State.lower_shadow (s : State) (pg src : Nat) : (s.lower pg src).shadow = s.shadow := by
  unfold State.lower; split
  · rw [State.noteLevel_shadow]
  · rw [State.setEvtBit_shadow]
@[simp] theorem State.lower_latch (s : State) (pg src : Nat) : (s.lower pg src).latch = s.latch := by
  unfold State.lower; split
  · rw [State.noteLevel_latch]
  · rw [State.setEvtBit_latch]
@[simp] theorem State.lower_ctrs (s : State) (pg src : Nat) : (s.lower pg src).ctrs = s.ctrs := by
  unfold State.lower; split
  · rw [State.noteLevel_ctrs]
  · rw [State.setEvtBit_ctrs]
@[simp] theorem State.lower_ports (s : State) (pg src : Nat) : (s.lower pg src).ports = s.ports := by
  unfold State.lower; split
  · rw [State.noteLevel_ports]
  · rw [State.setEvtBit_ports]
@[simp] theorem State.lower_tables (s : State) (pg src : Nat) : (s.lower pg src).tables = s.tables := by
  unfold State.lower; split
  · rw [State.noteLevel_tables]
  · rw [State.setEvtBit_tables]
@[simp] theorem State.lower_sw (s : State) (pg src : Nat) : (s.lower pg src).sw = s.sw := by
  unfold State.lower; split
  · rw [State.noteLevel_sw]
  · rw [State.setEvtBit_sw]
@[simp] theorem State.lower_trunk (s : State) (pg src : Nat) : (s.lower pg src).trunk = s.trunk := by
  unfold State.lower; split
  · rw [State.noteLevel_trunk]
  · rw [State.setEvtBit_trunk]
@[simp] theorem State.lower_time (s : State) (pg src : Nat) : (s.lower pg src).time = s.time := by
  unfold State.lower; split
  · rw [State.noteLevel_time]
  · rw [State.setEvtBit_time]
@[simp] theorem State.lower_loom (s : State) (pg src : Nat) : (s.lower pg src).loom = s.loom := by
  unfold State.lower; split
  · rw [State.noteLevel_loom]
  · rw [State.setEvtBit_loom]
@[simp] theorem State.lower_svc (s : State) (pg src : Nat) : (s.lower pg src).svc = s.svc := by
  unfold State.lower; split
  · rw [State.noteLevel_svc]
  · rw [State.setEvtBit_svc]
@[simp] theorem State.lower_sys (s : State) (pg src : Nat) : (s.lower pg src).sys = s.sys := by
  unfold State.lower; split
  · rw [State.noteLevel_sys]
  · rw [State.setEvtBit_sys]

@[simp] theorem State.onNv_inner (s : State) (f : Nv → Nv) : (s.onNv f).sys.nv = f s.sys.nv := (rfl)
@[simp] theorem State.onBoot_inner (s : State) (f : Boot → Boot) : (s.onBoot f).sys.boot = f s.sys.boot := (rfl)
@[simp] theorem State.onPower_inner (s : State) (f : Power → Power) : (s.onPower f).sys.power = f s.sys.power := (rfl)
@[simp] theorem State.onLease_inner (s : State) (f : Lease → Lease) : (s.onLease f).svc.lease = f s.svc.lease := (rfl)
@[simp] theorem State.onTwin_inner (s : State) (f : Twin → Twin) : (s.onTwin f).svc.twin = f s.svc.twin := (rfl)
@[simp] theorem State.held_setHeld (s : State) (k : Nat) (v : List RegWrite) : (s.setHeld k v).held k = v := mget_mset_self _ _ _ _
theorem State.held_setHeld_ne (s : State) {j k : Nat} (v : List RegWrite) (h : j ≠ k) : (s.setHeld k v).held j = s.held j := mget_mset_ne _ _ _ _ h
@[simp] theorem State.guardOf_setGuard (s : State) (k : Nat) (v : Option Guard) : (s.setGuard k v).guardOf k = v := mget_mset_self _ _ _ _
theorem State.guardOf_setGuard_ne (s : State) {j k : Nat} (v : Option Guard) (h : j ≠ k) : (s.setGuard k v).guardOf j = s.guardOf j := mget_mset_ne _ _ _ _ h
@[simp] theorem State.msixE_setMsixE (s : State) (k : Nat) (v : Msix) : (s.setMsixE k v).msixE k = v := mget_mset_self _ _ _ _
theorem State.msixE_setMsixE_ne (s : State) {j k : Nat} (v : Msix) (h : j ≠ k) : (s.setMsixE k v).msixE j = s.msixE j := mget_mset_ne _ _ _ _ h
@[simp] theorem State.ring_setRing (s : State) (k : Nat) (v : RingSt) : (s.setRing k v).ring k = v := mget_mset_self _ _ _ _
theorem State.ring_setRing_ne (s : State) {j k : Nat} (v : RingSt) (h : j ≠ k) : (s.setRing k v).ring j = s.ring j := mget_mset_ne _ _ _ _ h
@[simp] theorem State.fifo_setFifo (s : State) (k : Nat) (v : Fifo) : (s.setFifo k v).fifo k = v := mget_mset_self _ _ _ _
theorem State.fifo_setFifo_ne (s : State) {j k : Nat} (v : Fifo) (h : j ≠ k) : (s.setFifo k v).fifo j = s.fifo j := mget_mset_ne _ _ _ _ h
@[simp] theorem State.punts_setPunts (s : State) (k : Nat) (v : List Punt) : (s.setPunts k v).punts k = v := mget_mset_self _ _ _ _
theorem State.punts_setPunts_ne (s : State) {j k : Nat} (v : List Punt) (h : j ≠ k) : (s.setPunts k v).punts j = s.punts j := mget_mset_ne _ _ _ _ h
@[simp] theorem State.pairTurn_setPairTurn (s : State) (k : Nat) (v : Bool) : (s.setPairTurn k v).pairTurn k = v := mget_mset_self _ _ _ _
theorem State.pairTurn_setPairTurn_ne (s : State) {j k : Nat} (v : Bool) (h : j ≠ k) : (s.setPairTurn k v).pairTurn j = s.pairTurn j := mget_mset_ne _ _ _ _ h
@[simp] theorem State.frozen_setFrozen (s : State) (k : Nat) (v : Bool) : (s.setFrozen k v).frozen k = v := mget_mset_self _ _ _ _
theorem State.frozen_setFrozen_ne (s : State) {j k : Nat} (v : Bool) (h : j ≠ k) : (s.setFrozen k v).frozen j = s.frozen j := mget_mset_ne _ _ _ _ h
@[simp] theorem State.mac_setMac (s : State) (k : Nat) (v : Mac) : (s.setMac k v).mac k = v := mget_mset_self _ _ _ _
theorem State.mac_setMac_ne (s : State) {j k : Nat} (v : Mac) (h : j ≠ k) : (s.setMac k v).mac j = s.mac j := mget_mset_ne _ _ _ _ h
@[simp] theorem State.pitch_setPitch (s : State) (k : Nat) (v : Pitch) : (s.setPitch k v).pitch k = v := mget_mset_self _ _ _ _
theorem State.pitch_setPitch_ne (s : State) {j k : Nat} (v : Pitch) (h : j ≠ k) : (s.setPitch k v).pitch j = s.pitch j := mget_mset_ne _ _ _ _ h
@[simp] theorem State.lane_setLane (s : State) (k : Nat) (v : LaneSt) : (s.setLane k v).lane k = v := mget_mset_self _ _ _ _
theorem State.lane_setLane_ne (s : State) {j k : Nat} (v : LaneSt) (h : j ≠ k) : (s.setLane k v).lane j = s.lane j := mget_mset_ne _ _ _ _ h
@[simp] theorem State.wear_setWear (s : State) (k : Nat) (v : Wear) : (s.setWear k v).wear k = v := mget_mset_self _ _ _ _
theorem State.wear_setWear_ne (s : State) {j k : Nat} (v : Wear) (h : j ≠ k) : (s.setWear k v).wear j = s.wear j := mget_mset_ne _ _ _ _ h
@[simp] theorem State.wearHour_setWearHour (s : State) (k : Nat) (v : Nat) : (s.setWearHour k v).wearHour k = v := mget_mset_self _ _ _ _
theorem State.wearHour_setWearHour_ne (s : State) {j k : Nat} (v : Nat) (h : j ≠ k) : (s.setWearHour k v).wearHour j = s.wearHour j := mget_mset_ne _ _ _ _ h
@[simp] theorem State.spareNoted_setSpareNoted (s : State) (k : Nat) (v : Bool) : (s.setSpareNoted k v).spareNoted k = v := mget_mset_self _ _ _ _
theorem State.spareNoted_setSpareNoted_ne (s : State) {j k : Nat} (v : Bool) (h : j ≠ k) : (s.setSpareNoted k v).spareNoted j = s.spareNoted j := mget_mset_ne _ _ _ _ h
@[simp] theorem State.spareUsed_setSpareUsed (s : State) (k : Nat) (v : Nat) : (s.setSpareUsed k v).spareUsed k = v := mget_mset_self _ _ _ _
theorem State.spareUsed_setSpareUsed_ne (s : State) {j k : Nat} (v : Nat) (h : j ≠ k) : (s.setSpareUsed k v).spareUsed j = s.spareUsed j := mget_mset_ne _ _ _ _ h
@[simp] theorem State.ucState_setUcState (s : State) (k : Nat) (v : Nat) : (s.setUcState k v).ucState k = v := mget_mset_self _ _ _ _
theorem State.ucState_setUcState_ne (s : State) {j k : Nat} (v : Nat) (h : j ≠ k) : (s.setUcState k v).ucState j = s.ucState j := mget_mset_ne _ _ _ _ h
@[simp] theorem State.rule_setRule (s : State) (k : Nat) (v : RuleEntry) : (s.setRule k v).rule k = v := mget_mset_self _ _ _ _
theorem State.rule_setRule_ne (s : State) {j k : Nat} (v : RuleEntry) (h : j ≠ k) : (s.setRule k v).rule j = s.rule j := mget_mset_ne _ _ _ _ h
@[simp] theorem State.template_setTemplate (s : State) (k : Nat) (v : Template) : (s.setTemplate k v).template k = v := mget_mset_self _ _ _ _
theorem State.template_setTemplate_ne (s : State) {j k : Nat} (v : Template) (h : j ≠ k) : (s.setTemplate k v).template j = s.template j := mget_mset_ne _ _ _ _ h
@[simp] theorem State.meter_setMeter (s : State) (k : Nat) (v : Meter) : (s.setMeter k v).meter k = v := mget_mset_self _ _ _ _
theorem State.meter_setMeter_ne (s : State) {j k : Nat} (v : Meter) (h : j ≠ k) : (s.setMeter k v).meter j = s.meter j := mget_mset_ne _ _ _ _ h
@[simp] theorem State.grpStatic_setGrpStatic (s : State) (k : Nat) (v : Nat) : (s.setGrpStatic k v).grpStatic k = v := mget_mset_self _ _ _ _
theorem State.grpStatic_setGrpStatic_ne (s : State) {j k : Nat} (v : Nat) (h : j ≠ k) : (s.setGrpStatic k v).grpStatic j = s.grpStatic j := mget_mset_ne _ _ _ _ h
@[simp] theorem State.grpSnoop_setGrpSnoop (s : State) (k : Nat) (v : Nat) : (s.setGrpSnoop k v).grpSnoop k = v := mget_mset_self _ _ _ _
theorem State.grpSnoop_setGrpSnoop_ne (s : State) {j k : Nat} (v : Nat) (h : j ≠ k) : (s.setGrpSnoop k v).grpSnoop j = s.grpSnoop j := mget_mset_ne _ _ _ _ h
@[simp] theorem State.member_setMember (s : State) (k : Nat) (v : Option Nat) : (s.setMember k v).member k = v := mget_mset_self _ _ _ _
theorem State.member_setMember_ne (s : State) {j k : Nat} (v : Option Nat) (h : j ≠ k) : (s.setMember k v).member j = s.member j := mget_mset_ne _ _ _ _ h
@[simp] theorem State.mirCount_setMirCount (s : State) (k : Nat) (v : Nat) : (s.setMirCount k v).mirCount k = v := mget_mset_self _ _ _ _
theorem State.mirCount_setMirCount_ne (s : State) {j k : Nat} (v : Nat) (h : j ≠ k) : (s.setMirCount k v).mirCount j = s.mirCount j := mget_mset_ne _ _ _ _ h
@[simp] theorem State.bdCnt_setBdCnt (s : State) (k : Nat) (v : List Nat) : (s.setBdCnt k v).bdCnt k = v := mget_mset_self _ _ _ _
theorem State.bdCnt_setBdCnt_ne (s : State) {j k : Nat} (v : List Nat) (h : j ≠ k) : (s.setBdCnt k v).bdCnt j = s.bdCnt j := mget_mset_ne _ _ _ _ h
@[simp] theorem State.dynCount_setDynCount (s : State) (k : Nat) (v : Nat) : (s.setDynCount k v).dynCount k = v := mget_mset_self _ _ _ _
theorem State.dynCount_setDynCount_ne (s : State) {j k : Nat} (v : Nat) (h : j ≠ k) : (s.setDynCount k v).dynCount j = s.dynCount j := mget_mset_ne _ _ _ _ h
@[simp] theorem State.voq_setVoq (s : State) (k : Nat) (v : Packer) : (s.setVoq k v).voq k = v := mget_mset_self _ _ _ _
theorem State.voq_setVoq_ne (s : State) {j k : Nat} (v : Packer) (h : j ≠ k) : (s.setVoq k v).voq j = s.voq j := mget_mset_ne _ _ _ _ h
@[simp] theorem State.turn_setTurn (s : State) (k : Nat) (v : Nat) : (s.setTurn k v).turn k = v := mget_mset_self _ _ _ _
theorem State.turn_setTurn_ne (s : State) {j k : Nat} (v : Nat) (h : j ≠ k) : (s.setTurn k v).turn j = s.turn j := mget_mset_ne _ _ _ _ h
@[simp] theorem State.withheld_setWithheld (s : State) (k : Nat) (v : Bool) : (s.setWithheld k v).withheld k = v := mget_mset_self _ _ _ _
theorem State.withheld_setWithheld_ne (s : State) {j k : Nat} (v : Bool) (h : j ≠ k) : (s.setWithheld k v).withheld j = s.withheld j := mget_mset_ne _ _ _ _ h
@[simp] theorem State.stream_setStream (s : State) (k : Nat) (v : Stream) : (s.setStream k v).stream k = v := mget_mset_self _ _ _ _
theorem State.stream_setStream_ne (s : State) {j k : Nat} (v : Stream) (h : j ≠ k) : (s.setStream k v).stream j = s.stream j := mget_mset_ne _ _ _ _ h
@[simp] theorem State.ef_setEf (s : State) (k : Nat) (v : Option EFrame) : (s.setEf k v).ef k = v := mget_mset_self _ _ _ _
theorem State.ef_setEf_ne (s : State) {j k : Nat} (v : Option EFrame) (h : j ≠ k) : (s.setEf k v).ef j = s.ef j := mget_mset_ne _ _ _ _ h
@[simp] theorem State.cellSet_setCellSet (s : State) (k : Nat) (v : Nat × Nat) : (s.setCellSet k v).cellSet k = v := mget_mset_self _ _ _ _
theorem State.cellSet_setCellSet_ne (s : State) {j k : Nat} (v : Nat × Nat) (h : j ≠ k) : (s.setCellSet k v).cellSet j = s.cellSet j := mget_mset_ne _ _ _ _ h
@[simp] theorem State.queue_setQueue (s : State) (k : Nat) (v : Queue) : (s.setQueue k v).queue k = v := mget_mset_self _ _ _ _
theorem State.queue_setQueue_ne (s : State) {j k : Nat} (v : Queue) (h : j ≠ k) : (s.setQueue k v).queue j = s.queue j := mget_mset_ne _ _ _ _ h
@[simp] theorem State.chain_setChain (s : State) (k : Nat) (v : List Nat) : (s.setChain k v).chain k = v := mget_mset_self _ _ _ _
theorem State.chain_setChain_ne (s : State) {j k : Nat} (v : List Nat) (h : j ≠ k) : (s.setChain k v).chain j = s.chain j := mget_mset_ne _ _ _ _ h
@[simp] theorem State.injSide_setInjSide (s : State) (k : Nat) (v : List InjMeta) : (s.setInjSide k v).injSide k = v := mget_mset_self _ _ _ _
theorem State.injSide_setInjSide_ne (s : State) {j k : Nat} (v : List InjMeta) (h : j ≠ k) : (s.setInjSide k v).injSide j = s.injSide j := mget_mset_ne _ _ _ _ h
@[simp] theorem State.voqUsed_setVoqUsed (s : State) (k : Nat) (v : Nat) : (s.setVoqUsed k v).voqUsed k = v := mget_mset_self _ _ _ _
theorem State.voqUsed_setVoqUsed_ne (s : State) {j k : Nat} (v : Nat) (h : j ≠ k) : (s.setVoqUsed k v).voqUsed j = s.voqUsed j := mget_mset_ne _ _ _ _ h
@[simp] theorem State.headroomUsed_setHeadroomUsed (s : State) (k : Nat) (v : Nat) : (s.setHeadroomUsed k v).headroomUsed k = v := mget_mset_self _ _ _ _
theorem State.headroomUsed_setHeadroomUsed_ne (s : State) {j k : Nat} (v : Nat) (h : j ≠ k) : (s.setHeadroomUsed k v).headroomUsed j = s.headroomUsed j := mget_mset_ne _ _ _ _ h
@[simp] theorem State.wstage_setWstage (s : State) (k : Nat) (v : Nat) : (s.setWstage k v).wstage k = v := mget_mset_self _ _ _ _
theorem State.wstage_setWstage_ne (s : State) {j k : Nat} (v : Nat) (h : j ≠ k) : (s.setWstage k v).wstage j = s.wstage j := mget_mset_ne _ _ _ _ h
@[simp] theorem State.rstage_setRstage (s : State) (k : Nat) (v : Nat) : (s.setRstage k v).rstage k = v := mget_mset_self _ _ _ _
theorem State.rstage_setRstage_ne (s : State) {j k : Nat} (v : Nat) (h : j ≠ k) : (s.setRstage k v).rstage j = s.rstage j := mget_mset_ne _ _ _ _ h
@[simp] theorem State.stackSt_setStackSt (s : State) (k : Nat) (v : StackSt) : (s.setStackSt k v).stackSt k = v := mget_mset_self _ _ _ _
theorem State.stackSt_setStackSt_ne (s : State) {j k : Nat} (v : StackSt) (h : j ≠ k) : (s.setStackSt k v).stackSt j = s.stackSt j := mget_mset_ne _ _ _ _ h
@[simp] theorem State.poolFull_setPoolFull (s : State) (k : Nat) (v : Bool) : (s.setPoolFull k v).poolFull k = v := mget_mset_self _ _ _ _
theorem State.poolFull_setPoolFull_ne (s : State) {j k : Nat} (v : Bool) (h : j ≠ k) : (s.setPoolFull k v).poolFull j = s.poolFull j := mget_mset_ne _ _ _ _ h
@[simp] theorem State.lfsr_setLfsr (s : State) (k : Nat) (v : Nat) : (s.setLfsr k v).lfsr k = v := mget_mset_self _ _ _ _
theorem State.lfsr_setLfsr_ne (s : State) {j k : Nat} (v : Nat) (h : j ≠ k) : (s.setLfsr k v).lfsr j = s.lfsr j := mget_mset_ne _ _ _ _ h
@[simp] theorem State.schd_setSchd (s : State) (k : Nat) (v : List Word) : (s.setSchd k v).schd k = v := mget_mset_self _ _ _ _
theorem State.schd_setSchd_ne (s : State) {j k : Nat} (v : List Word) (h : j ≠ k) : (s.setSchd k v).schd j = s.schd j := mget_mset_ne _ _ _ _ h
@[simp] theorem State.node_setNode (s : State) (k : Nat) (v : Node) : (s.setNode k v).node k = v := mget_mset_self _ _ _ _
theorem State.node_setNode_ne (s : State) {j k : Nat} (v : Node) (h : j ≠ k) : (s.setNode k v).node j = s.node j := mget_mset_ne _ _ _ _ h
@[simp] theorem State.psched_setPsched (s : State) (k : Nat) (v : PortSched) : (s.setPsched k v).psched k = v := mget_mset_self _ _ _ _
theorem State.psched_setPsched_ne (s : State) {j k : Nat} (v : PortSched) (h : j ≠ k) : (s.setPsched k v).psched j = s.psched j := mget_mset_ne _ _ _ _ h
@[simp] theorem State.gate_setGate (s : State) (k : Nat) (v : Gate) : (s.setGate k v).gate k = v := mget_mset_self _ _ _ _
theorem State.gate_setGate_ne (s : State) {j k : Nat} (v : Gate) (h : j ≠ k) : (s.setGate k v).gate j = s.gate j := mget_mset_ne _ _ _ _ h
@[simp] theorem State.sample_setSample (s : State) (k : Nat) (v : Sample) : (s.setSample k v).sample k = v := mget_mset_self _ _ _ _
theorem State.sample_setSample_ne (s : State) {j k : Nat} (v : Sample) (h : j ≠ k) : (s.setSample k v).sample j = s.sample j := mget_mset_ne _ _ _ _ h
@[simp] theorem State.flexe_setFlexe (s : State) (k : Nat) (v : Flexe) : (s.setFlexe k v).flexe k = v := mget_mset_self _ _ _ _
theorem State.flexe_setFlexe_ne (s : State) {j k : Nat} (v : Flexe) (h : j ≠ k) : (s.setFlexe k v).flexe j = s.flexe j := mget_mset_ne _ _ _ _ h
@[simp] theorem State.client_setClient (s : State) (k : Nat) (v : Client) : (s.setClient k v).client k = v := mget_mset_self _ _ _ _
theorem State.client_setClient_ne (s : State) {j k : Nat} (v : Client) (h : j ≠ k) : (s.setClient k v).client j = s.client j := mget_mset_ne _ _ _ _ h
@[simp] theorem State.pack_setPack (s : State) (k : Nat) (v : Pack) : (s.setPack k v).pack k = v := mget_mset_self _ _ _ _
theorem State.pack_setPack_ne (s : State) {j k : Nat} (v : Pack) (h : j ≠ k) : (s.setPack k v).pack j = s.pack j := mget_mset_ne _ _ _ _ h
@[simp] theorem State.fold_setFold (s : State) (k : Nat) (v : Fold) : (s.setFold k v).fold k = v := mget_mset_self _ _ _ _
theorem State.fold_setFold_ne (s : State) {j k : Nat} (v : Fold) (h : j ≠ k) : (s.setFold k v).fold j = s.fold j := mget_mset_ne _ _ _ _ h
@[simp] theorem State.missCount_setMissCount (s : State) (k : Nat) (v : Nat) : (s.setMissCount k v).missCount k = v := mget_mset_self _ _ _ _
theorem State.missCount_setMissCount_ne (s : State) {j k : Nat} (v : Nat) (h : j ≠ k) : (s.setMissCount k v).missCount j = s.missCount j := mget_mset_ne _ _ _ _ h
@[simp] theorem State.link_setLink (s : State) (k : Nat) (v : Link) : (s.setLink k v).link k = v := mget_mset_self _ _ _ _
theorem State.link_setLink_ne (s : State) {j k : Nat} (v : Link) (h : j ≠ k) : (s.setLink k v).link j = s.link j := mget_mset_ne _ _ _ _ h
@[simp] theorem State.srcStream_setSrcStream (s : State) (k : Nat) (v : Option SrcStream) : (s.setSrcStream k v).srcStream k = v := mget_mset_self _ _ _ _
theorem State.srcStream_setSrcStream_ne (s : State) {j k : Nat} (v : Option SrcStream) (h : j ≠ k) : (s.setSrcStream k v).srcStream j = s.srcStream j := mget_mset_ne _ _ _ _ h
@[simp] theorem State.dstStream_setDstStream (s : State) (k : Nat) (v : Option FabStream) : (s.setDstStream k v).dstStream k = v := mget_mset_self _ _ _ _
theorem State.dstStream_setDstStream_ne (s : State) {j k : Nat} (v : Option FabStream) (h : j ≠ k) : (s.setDstStream k v).dstStream j = s.dstStream j := mget_mset_ne _ _ _ _ h
@[simp] theorem State.lostItems_setLostItems (s : State) (k : Nat) (v : List (Nat × Nat × Nat)) : (s.setLostItems k v).lostItems k = v := mget_mset_self _ _ _ _
theorem State.lostItems_setLostItems_ne (s : State) {j k : Nat} (v : List (Nat × Nat × Nat)) (h : j ≠ k) : (s.setLostItems k v).lostItems j = s.lostItems j := mget_mset_ne _ _ _ _ h
@[simp] theorem State.deliver_setDeliver (s : State) (k : Nat) (v : List Cell) : (s.setDeliver k v).deliver k = v := mget_mset_self _ _ _ _
theorem State.deliver_setDeliver_ne (s : State) {j k : Nat} (v : List Cell) (h : j ≠ k) : (s.setDeliver k v).deliver j = s.deliver j := mget_mset_ne _ _ _ _ h
@[simp] theorem State.groupTurn_setGroupTurn (s : State) (k : Nat) (v : Nat) : (s.setGroupTurn k v).groupTurn k = v := mget_mset_self _ _ _ _
theorem State.groupTurn_setGroupTurn_ne (s : State) {j k : Nat} (v : Nat) (h : j ≠ k) : (s.setGroupTurn k v).groupTurn j = s.groupTurn j := mget_mset_ne _ _ _ _ h
@[simp] theorem State.tb_setTb (s : State) (k : Nat) (v : TimeBase) : (s.setTb k v).tb k = v := mget_mset_self _ _ _ _
theorem State.tb_setTb_ne (s : State) {j k : Nat} (v : TimeBase) (h : j ≠ k) : (s.setTb k v).tb j = s.tb j := mget_mset_ne _ _ _ _ h
@[simp] theorem State.arrival_setArrival (s : State) (k : Nat) (v : Nat × Nat) : (s.setArrival k v).arrival k = v := mget_mset_self _ _ _ _
theorem State.arrival_setArrival_ne (s : State) {j k : Nat} (v : Nat × Nat) (h : j ≠ k) : (s.setArrival k v).arrival j = s.arrival j := mget_mset_ne _ _ _ _ h
@[simp] theorem State.injQ_setInjQ (s : State) (k : Nat) (v : List InjDesc) : (s.setInjQ k v).injQ k = v := mget_mset_self _ _ _ _
theorem State.injQ_setInjQ_ne (s : State) {j k : Nat} (v : List InjDesc) (h : j ≠ k) : (s.setInjQ k v).injQ j = s.injQ j := mget_mset_ne _ _ _ _ h
@[simp] theorem State.portBucket_setPortBucket (s : State) (k : Nat) (v : Bucket) : (s.setPortBucket k v).portBucket k = v := mget_mset_self _ _ _ _
theorem State.portBucket_setPortBucket_ne (s : State) {j k : Nat} (v : Bucket) (h : j ≠ k) : (s.setPortBucket k v).portBucket j = s.portBucket j := mget_mset_ne _ _ _ _ h
@[simp] theorem State.buf_setBuf (s : State) (k : Nat) (v : Buf) : (s.setBuf k v).buf k = v := mget_mset_self _ _ _ _
theorem State.buf_setBuf_ne (s : State) {j k : Nat} (v : Buf) (h : j ≠ k) : (s.setBuf k v).buf j = s.buf j := mget_mset_ne _ _ _ _ h
@[simp] theorem State.island_setIsland (s : State) (k : Nat) (v : IslandSt) : (s.setIsland k v).island k = v := mget_mset_self _ _ _ _
theorem State.island_setIsland_ne (s : State) {j k : Nat} (v : IslandSt) (h : j ≠ k) : (s.setIsland k v).island j = s.island j := mget_mset_ne _ _ _ _ h
@[simp] theorem State.block_setBlock (s : State) (k : Nat) (v : Block) : (s.setBlock k v).block k = v := mget_mset_self _ _ _ _
theorem State.block_setBlock_ne (s : State) {j k : Nat} (v : Block) (h : j ≠ k) : (s.setBlock k v).block j = s.block j := mget_mset_ne _ _ _ _ h
@[simp] theorem State.loomOf_setLoom (s : State) (k : Nat) (v : Loom) : (s.setLoom k v).loomOf k = v := mget_mset_self _ _ _ _
theorem State.loomOf_setLoom_ne (s : State) {j k : Nat} (v : Loom) (h : j ≠ k) : (s.setLoom k v).loomOf j = s.loomOf j := mget_mset_ne _ _ _ _ h

end Sys2Proof.Machine
end

