-- ==== Sys2Proof/Laws/Reg.lean ====
section
/-! SUPPORT. Registers, fields and counters: what a read gives after a write. -/

namespace Sys2Proof.Machine

/-! ### Words -/

theorem getBits_lt (x : Word) (lo w : Nat) : getBits x lo w < 2 ^ w := Nat.mod_lt _ (Nat.two_pow_pos w)

/-- Bit `i` of a bit field. -/
theorem getBits_testBit (x : Word) (lo w i : Nat) : (getBits x lo w).testBit i = (decide (i < w) && x.toNat.testBit (lo + i)) := by
  simp [getBits, Nat.testBit_mod_two_pow, Nat.testBit_div_two_pow, Nat.add_comm]

/-- Bit `i` of a word with a field replaced. -/
theorem putBits_testBit (x : Word) (lo w v i : Nat) (h : lo + w ≤ 32) :
    (putBits x lo w v).toNat.testBit i =
      if i < lo then x.toNat.testBit i else if i < lo + w then v.testBit (i - lo) else x.toNat.testBit i := by
  have hx : x.toNat < 2 ^ 32 := x.isLt
  have e : x.toNat % 2 ^ lo + v % 2 ^ w * 2 ^ lo + x.toNat / 2 ^ (lo + w) * 2 ^ (lo + w) =
      2 ^ lo * (2 ^ w * (x.toNat / 2 ^ (lo + w)) + v % 2 ^ w) + x.toNat % 2 ^ lo := by
    rw [Nat.mul_add, ← Nat.mul_assoc, ← Nat.pow_add, Nat.mul_comm (2 ^ lo) (v % 2 ^ w), Nat.mul_comm (2 ^ (lo + w))]; omega
  have b : ∀ j, (x.toNat % 2 ^ lo + v % 2 ^ w * 2 ^ lo + x.toNat / 2 ^ (lo + w) * 2 ^ (lo + w)).testBit j =
      if j < lo then x.toNat.testBit j else if j < lo + w then v.testBit (j - lo) else x.toNat.testBit j := by
    intro j
    rw [e, Nat.testBit_two_pow_mul_add _ (Nat.mod_lt _ (Nat.two_pow_pos lo))]
    by_cases h1 : j < lo
    · simp [h1, Nat.testBit_mod_two_pow]
    · rw [if_neg h1, if_neg h1, Nat.testBit_two_pow_mul_add _ (Nat.mod_lt _ (Nat.two_pow_pos w))]
      by_cases h2 : j < lo + w
      · have : j - lo < w := by omega
        simp [h2, this, Nat.testBit_mod_two_pow]
      · have h3 : ¬ (j - lo < w) := by omega
        rw [if_neg h3, if_neg h2, Nat.testBit_div_two_pow]
        congr 1; omega
  have l : x.toNat % 2 ^ lo + v % 2 ^ w * 2 ^ lo + x.toNat / 2 ^ (lo + w) * 2 ^ (lo + w) < 2 ^ 32 := by
    apply Nat.lt_pow_two_of_testBit
    intro j hj
    rw [b, if_neg (by omega), if_neg (by omega)]
    exact Nat.testBit_lt_two_pow (Nat.lt_of_lt_of_le hx (Nat.pow_le_pow_right (by omega) hj))
  simp only [putBits, BitVec.toNat_ofNat]
  rw [Nat.mod_eq_of_lt l, b]

/-- A bit field read after it was written. -/
theorem getBits_putBits_self (x : Word) (lo w v : Nat) (h : lo + w ≤ 32) : getBits (putBits x lo w v) lo w = v % 2 ^ w := by
  apply Nat.eq_of_testBit_eq
  intro i
  rw [getBits_testBit, putBits_testBit _ _ _ _ _ h, Nat.testBit_mod_two_pow]
  by_cases hi : i < w
  · rw [if_neg (by omega), if_pos (by omega)]; simp [hi]
  · simp [hi]

/-- A bit field read after another one of the word was written. -/
theorem getBits_putBits_of_disjoint (x : Word) (lo w lo' w' v : Nat) (h : lo + w ≤ 32) (hd : lo' + w' ≤ lo ∨ lo + w ≤ lo') :
    getBits (putBits x lo w v) lo' w' = getBits x lo' w' := by
  apply Nat.eq_of_testBit_eq
  intro i
  rw [getBits_testBit, getBits_testBit, putBits_testBit _ _ _ _ _ h]
  by_cases hi : i < w'
  · simp only [hi, decide_true, Bool.true_and]
    split
    · rfl
    · rw [if_neg (by omega)]
  · simp [hi]

/-! ### Registers -/

@[simp] theorem State.rd_wr_self (s : State) (a : Nat) (v : Word) : (s.wr a v).rd a = v := mget_mset_self _ _ _ _

theorem State.rd_wr_ne (s : State) {a b : Nat} (v : Word) (h : b ≠ a) : (s.wr a v).rd b = s.rd b := mget_mset_ne _ _ _ _ h

/-- Registers of pages and offsets that differ have different addresses. -/
theorem regA_ne {p q a b : Nat} (ha : a < 4096) (hb : b < 4096) (h : p ≠ q ∨ a ≠ b) : regA p a ≠ regA q b := by
  unfold regA; omega

/-- A field read after it was written. -/
theorem State.fld_setFld_self (s : State) (pg : Nat) (f : Fld) (v : Nat) (h : f.lo + f.w ≤ 32) :
    (s.setFld pg f v).fld pg f = v % 2 ^ f.w := by
  simp only [State.fld, State.setFld, State.rd_wr_self, getBits_putBits_self _ _ _ _ h]

/-- A field read after a field of another register was written. -/
theorem State.fld_setFld_ne (s : State) {p q : Nat} (f g : Fld) (v : Nat) (h : regA q g.off ≠ regA p f.off) :
    (s.setFld p f v).fld q g = s.fld q g := by
  simp only [State.fld, State.setFld, State.rd_wr_ne _ _ h]

/-- A field read after another field of its register was written. -/
theorem State.fld_setFld_other (s : State) (p : Nat) (f g : Fld) (v : Nat) (ho : g.off = f.off) (h : f.lo + f.w ≤ 32)
    (hd : g.lo + g.w ≤ f.lo ∨ f.lo + f.w ≤ g.lo) : (s.setFld p f v).fld p g = s.fld p g := by
  simp only [State.fld, State.setFld, ho, State.rd_wr_self, getBits_putBits_of_disjoint _ _ _ _ _ _ h hd]

/-- A flag read after it was written. -/
theorem State.flag_setFlag_self (s : State) (pg : Nat) (f : Fld) (b : Bool) (h : f.lo + f.w ≤ 32) (hw : f.w = 1) :
    (s.setFlag pg f b).flag pg f = b := by
  simp only [State.flag, State.setFlag, State.fld_setFld_self _ _ _ _ h, hw]
  cases b <;> decide

/-! ### Counters -/

theorem State.ctr_setCtr_self (s : State) (pg off n : Nat) : (s.setCtr pg off n).ctr pg off = n := mget_mset_self _ _ _ _

theorem State.ctr_count_self (s : State) (pg off n : Nat) : (s.count pg off n).ctr pg off = (s.ctr pg off + n) % 2 ^ 64 :=
  mget_mset_self _ _ _ _

theorem State.ctr_count_ne (s : State) {p q a b : Nat} (n : Nat) (h : regA q b ≠ regA p a) :
    (s.count p a n).ctr q b = s.ctr q b := mget_mset_ne _ _ _ _ h

/-! ### What registers and counters do not share -/

theorem State.rd_of_regs (s t : State) (a : Nat) (h : s.regs = t.regs) : s.rd a = t.rd a := by simp only [State.rd, h]
theorem State.fld_of_regs (s t : State) (pg : Nat) (f : Fld) (h : s.regs = t.regs) : s.fld pg f = t.fld pg f := by
  simp only [State.fld, State.rd_of_regs s t _ h]
theorem State.ctr_of_ctrs (s t : State) (pg off : Nat) (h : s.ctrs = t.ctrs) : s.ctr pg off = t.ctr pg off := by
  simp only [State.ctr, h]

/-- A bit of a field after that bit, as the field `g`, was written. -/
theorem State.testBit_setFld (s : State) (pg : Nat) {f g : Fld} (c v : Nat) (ho : g.off = f.off) (hl : g.lo = f.lo + c) (hw : g.w = 1)
    (hc : c < f.w) (h : f.lo + f.w ≤ 32) : ((s.setFld pg g v).fld pg f).testBit c = decide (v % 2 = 1) := by
  obtain ⟨o, l, w⟩ := g; cases ho; cases hl; cases hw
  unfold State.fld State.setFld
  rw [State.rd_wr_self, getBits_testBit, putBits_testBit _ _ _ _ _ (by simp; omega)]
  simp [hc]

/-- Another bit of the field keeps its value. -/
theorem State.testBit_setFld_ne (s : State) (pg : Nat) {f g : Fld} (c d v : Nat) (ho : g.off = f.off) (hl : g.lo = f.lo + c)
    (hw : g.w = 1) (hc : c < f.w) (hd : d ≠ c) (h : f.lo + f.w ≤ 32) :
    ((s.setFld pg g v).fld pg f).testBit d = (s.fld pg f).testBit d := by
  obtain ⟨o, l, w⟩ := g; cases ho; cases hl; cases hw
  unfold State.fld State.setFld
  rw [State.rd_wr_self, getBits_testBit, getBits_testBit, putBits_testBit _ _ _ _ _ (by simp; omega)]
  by_cases hw : d < f.w
  · by_cases hl : d < c
    · rw [if_pos (by simp; omega)]
    · rw [if_neg (by simp; omega), if_neg (by simp; omega)]
  · simp [hw]

/-- A register that a field write does not touch. -/
theorem State.setFld_rd_ne (s : State) (pg : Nat) (f : Fld) (v : Nat) {a : Nat} (h : a ≠ regA pg f.off) :
    (s.setFld pg f v).rd a = s.rd a := by
  unfold State.setFld; exact State.rd_wr_ne _ _ h

theorem State.rd_of_regs_eq {s t : State} (h : t.regs = s.regs) (a : Nat) : t.rd a = s.rd a := by simp only [State.rd, h]

end Sys2Proof.Machine
end

