-- ==== Sys2Proof/Laws/Event.lean ====
section
/-! SUPPORT. What the operations over events, notifications and event counters leave alone: raising an event touches registers,
counters, the host side (notification FIFO, pending messages), what leaves the module, and the journal and the actions due; and what
the end of a command does when no severity action is due. -/

set_option linter.unusedSimpArgs false

namespace Sys2Proof.Machine

@[simp] theorem State.signal_now (s : State) (v : Nat) : (s.signal v).now = s.now := by
  unfold State.signal; split
  · rw [State.emit_now]
  · rw [State.onHost_now]
@[simp] theorem State.signal_free (s : State) (v : Nat) : (s.signal v).free = s.free := by
  unfold State.signal; split
  · rw [State.emit_free]
  · rw [State.onHost_free]
@[simp] theorem State.signal_pending (s : State) (v : Nat) : (s.signal v).pending = s.pending := by
  unfold State.signal; split
  · rw [State.emit_pending]
  · rw [State.onHost_pending]
@[simp] theorem State.signal_regs (s : State) (v : Nat) : (s.signal v).regs = s.regs := by
  unfold State.signal; split
  · rw [State.emit_regs]
  · rw [State.onHost_regs]
@[simp] theorem State.signal_shadow (s : State) (v : Nat) : (s.signal v).shadow = s.shadow := by
  unfold State.signal; split
  · rw [State.emit_shadow]
  · rw [State.onHost_shadow]
@[simp] theorem State.signal_latch (s : State) (v : Nat) : (s.signal v).latch = s.latch := by
  unfold State.signal; split
  · rw [State.emit_latch]
  · rw [State.onHost_latch]
@[simp] theorem State.signal_ctrs (s : State) (v : Nat) : (s.signal v).ctrs = s.ctrs := by
  unfold State.signal; split
  · rw [State.emit_ctrs]
  · rw [State.onHost_ctrs]
@[simp] theorem State.signal_ports (s : State) (v : Nat) : (s.signal v).ports = s.ports := by
  unfold State.signal; split
  · rw [State.emit_ports]
  · rw [State.onHost_ports]
@[simp] theorem State.signal_tables (s : State) (v : Nat) : (s.signal v).tables = s.tables := by
  unfold State.signal; split
  · rw [State.emit_tables]
  · rw [State.onHost_tables]
@[simp] theorem State.signal_sw (s : State) (v : Nat) : (s.signal v).sw = s.sw := by
  unfold State.signal; split
  · rw [State.emit_sw]
  · rw [State.onHost_sw]
@[simp] theorem State.signal_trunk (s : State) (v : Nat) : (s.signal v).trunk = s.trunk := by
  unfold State.signal; split
  · rw [State.emit_trunk]
  · rw [State.onHost_trunk]
@[simp] theorem State.signal_time (s : State) (v : Nat) : (s.signal v).time = s.time := by
  unfold State.signal; split
  · rw [State.emit_time]
  · rw [State.onHost_time]
@[simp] theorem State.signal_loom (s : State) (v : Nat) : (s.signal v).loom = s.loom := by
  unfold State.signal; split
  · rw [State.emit_loom]
  · rw [State.onHost_loom]
@[simp] theorem State.signal_svc (s : State) (v : Nat) : (s.signal v).svc = s.svc := by
  unfold State.signal; split
  · rw [State.emit_svc]
  · rw [State.onHost_svc]
@[simp] theorem State.signal_sys (s : State) (v : Nat) : (s.signal v).sys = s.sys := by
  unfold State.signal; split
  · rw [State.emit_sys]
  · rw [State.onHost_sys]
@[simp] theorem State.syncFifo_now (s : State) (f : Nat) : (s.syncFifo f).now = s.now := by unfold State.syncFifo; rw [State.setFld_now, State.setFld_now]
@[simp] theorem State.syncFifo_free (s : State) (f : Nat) : (s.syncFifo f).free = s.free := by unfold State.syncFifo; rw [State.setFld_free, State.setFld_free]
@[simp] theorem State.syncFifo_pending (s : State) (f : Nat) : (s.syncFifo f).pending = s.pending := by unfold State.syncFifo; rw [State.setFld_pending, State.setFld_pending]
@[simp] theorem State.syncFifo_out (s : State) (f : Nat) : (s.syncFifo f).out = s.out := by unfold State.syncFifo; rw [State.setFld_out, State.setFld_out]
@[simp] theorem State.syncFifo_shadow (s : State) (f : Nat) : (s.syncFifo f).shadow = s.shadow := by unfold State.syncFifo; rw [State.setFld_shadow, State.setFld_shadow]
@[simp] theorem State.syncFifo_latch (s : State) (f : Nat) : (s.syncFifo f).latch = s.latch := by unfold State.syncFifo; rw [State.setFld_latch, State.setFld_latch]
@[simp] theorem State.syncFifo_ctrs (s : State) (f : Nat) : (s.syncFifo f).ctrs = s.ctrs := by unfold State.syncFifo; rw [State.setFld_ctrs, State.setFld_ctrs]
@[simp] theorem State.syncFifo_host (s : State) (f : Nat) : (s.syncFifo f).host = s.host := by unfold State.syncFifo; rw [State.setFld_host, State.setFld_host]
@[simp] theorem State.syncFifo_ports (s : State) (f : Nat) : (s.syncFifo f).ports = s.ports := by unfold State.syncFifo; rw [State.setFld_ports, State.setFld_ports]
@[simp] theorem State.syncFifo_tables (s : State) (f : Nat) : (s.syncFifo f).tables = s.tables := by unfold State.syncFifo; rw [State.setFld_tables, State.setFld_tables]
@[simp] theorem State.syncFifo_sw (s : State) (f : Nat) : (s.syncFifo f).sw = s.sw := by unfold State.syncFifo; rw [State.setFld_sw, State.setFld_sw]
@[simp] theorem State.syncFifo_trunk (s : State) (f : Nat) : (s.syncFifo f).trunk = s.trunk := by unfold State.syncFifo; rw [State.setFld_trunk, State.setFld_trunk]
@[simp] theorem State.syncFifo_time (s : State) (f : Nat) : (s.syncFifo f).time = s.time := by unfold State.syncFifo; rw [State.setFld_time, State.setFld_time]
@[simp] theorem State.syncFifo_loom (s : State) (f : Nat) : (s.syncFifo f).loom = s.loom := by unfold State.syncFifo; rw [State.setFld_loom, State.setFld_loom]
@[simp] theorem State.syncFifo_svc (s : State) (f : Nat) : (s.syncFifo f).svc = s.svc := by unfold State.syncFifo; rw [State.setFld_svc, State.setFld_svc]
@[simp] theorem State.syncFifo_sys (s : State) (f : Nat) : (s.syncFifo f).sys = s.sys := by unfold State.syncFifo; rw [State.setFld_sys, State.setFld_sys]
@[simp] theorem State.fifoPut_now (s : State) (f : Nat) (i : List Byte) : ((s.fifoPut f i).1).now = s.now := by
  unfold State.fifoPut; dsimp only; split
  · rw [State.setFifo_now]
  · dsimp only; rw [State.syncFifo_now, State.setFifo_now]
@[simp] theorem State.fifoPut_free (s : State) (f : Nat) (i : List Byte) : ((s.fifoPut f i).1).free = s.free := by
  unfold State.fifoPut; dsimp only; split
  · rw [State.setFifo_free]
  · dsimp only; rw [State.syncFifo_free, State.setFifo_free]
@[simp] theorem State.fifoPut_pending (s : State) (f : Nat) (i : List Byte) : ((s.fifoPut f i).1).pending = s.pending := by
  unfold State.fifoPut; dsimp only; split
  · rw [State.setFifo_pending]
  · dsimp only; rw [State.syncFifo_pending, State.setFifo_pending]
@[simp] theorem State.fifoPut_out (s : State) (f : Nat) (i : List Byte) : ((s.fifoPut f i).1).out = s.out := by
  unfold State.fifoPut; dsimp only; split
  · rw [State.setFifo_out]
  · dsimp only; rw [State.syncFifo_out, State.setFifo_out]
@[simp] theorem State.fifoPut_shadow (s : State) (f : Nat) (i : List Byte) : ((s.fifoPut f i).1).shadow = s.shadow := by
  unfold State.fifoPut; dsimp only; split
  · rw [State.setFifo_shadow]
  · dsimp only; rw [State.syncFifo_shadow, State.setFifo_shadow]
@[simp] theorem State.fifoPut_latch (s : State) (f : Nat) (i : List Byte) : ((s.fifoPut f i).1).latch = s.latch := by
  unfold State.fifoPut; dsimp only; split
  · rw [State.setFifo_latch]
  · dsimp only; rw [State.syncFifo_latch, State.setFifo_latch]
@[simp] theorem State.fifoPut_ctrs (s : State) (f : Nat) (i : List Byte) : ((s.fifoPut f i).1).ctrs = s.ctrs := by
  unfold State.fifoPut; dsimp only; split
  · rw [State.setFifo_ctrs]
  · dsimp only; rw [State.syncFifo_ctrs, State.setFifo_ctrs]
@[simp] theorem State.fifoPut_ports (s : State) (f : Nat) (i : List Byte) : ((s.fifoPut f i).1).ports = s.ports := by
  unfold State.fifoPut; dsimp only; split
  · rw [State.setFifo_ports]
  · dsimp only; rw [State.syncFifo_ports, State.setFifo_ports]
@[simp] theorem State.fifoPut_tables (s : State) (f : Nat) (i : List Byte) : ((s.fifoPut f i).1).tables = s.tables := by
  unfold State.fifoPut; dsimp only; split
  · rw [State.setFifo_tables]
  · dsimp only; rw [State.syncFifo_tables, State.setFifo_tables]
@[simp] theorem State.fifoPut_sw (s : State) (f : Nat) (i : List Byte) : ((s.fifoPut f i).1).sw = s.sw := by
  unfold State.fifoPut; dsimp only; split
  · rw [State.setFifo_sw]
  · dsimp only; rw [State.syncFifo_sw, State.setFifo_sw]
@[simp] theorem State.fifoPut_trunk (s : State) (f : Nat) (i : List Byte) : ((s.fifoPut f i).1).trunk = s.trunk := by
  unfold State.fifoPut; dsimp only; split
  · rw [State.setFifo_trunk]
  · dsimp only; rw [State.syncFifo_trunk, State.setFifo_trunk]
@[simp] theorem State.fifoPut_time (s : State) (f : Nat) (i : List Byte) : ((s.fifoPut f i).1).time = s.time := by
  unfold State.fifoPut; dsimp only; split
  · rw [State.setFifo_time]
  · dsimp only; rw [State.syncFifo_time, State.setFifo_time]
@[simp] theorem State.fifoPut_loom (s : State) (f : Nat) (i : List Byte) : ((s.fifoPut f i).1).loom = s.loom := by
  unfold State.fifoPut; dsimp only; split
  · rw [State.setFifo_loom]
  · dsimp only; rw [State.syncFifo_loom, State.setFifo_loom]
@[simp] theorem State.fifoPut_svc (s : State) (f : Nat) (i : List Byte) : ((s.fifoPut f i).1).svc = s.svc := by
  unfold State.fifoPut; dsimp only; split
  · rw [State.setFifo_svc]
  · dsimp only; rw [State.syncFifo_svc, State.setFifo_svc]
@[simp] theorem State.fifoPut_sys (s : State) (f : Nat) (i : List Byte) : ((s.fifoPut f i).1).sys = s.sys := by
  unfold State.fifoPut; dsimp only; split
  · rw [State.setFifo_sys]
  · dsimp only; rw [State.syncFifo_sys, State.setFifo_sys]
@[simp] theorem State.assert1_now (s : State) (pg src : Nat) : (s.assert1 pg src).1.now = s.now := by
  unfold State.assert1; dsimp only
  (repeat' split) <;> simp only [apply_ite State.now, ite_self, State.onSys_now, State.signal_now, State.fifoPut_now, State.journal_now,
    State.setEvtBit_now, State.bumpSeq_now, State.count_now]
@[simp] theorem State.raise_now (s : State) (pg src : Nat) : (s.raise pg src).now = s.now := by
  unfold State.raise; dsimp only; split <;> simp only [State.assert1_now]
@[simp] theorem State.raiseLive_now (s : State) (pg src : Nat) : (s.raiseLive pg src).now = s.now := by
  unfold State.raiseLive; (try dsimp only); (repeat' split) <;>
    simp only [State.raise_now, State.noteLevel_now, State.setEvtBit_now, State.fifoPut_now, State.count_now, State.setCtr_now]
@[simp] theorem State.fifoPush_now (s : State) (f : Nat) (i : List Byte) : (s.fifoPush f i).now = s.now := by
  unfold State.fifoPush; (try dsimp only); (repeat' split) <;>
    simp only [State.raise_now, State.noteLevel_now, State.setEvtBit_now, State.fifoPut_now, State.count_now, State.setCtr_now]
@[simp] theorem State.countRaise_now (s : State) (pg off src : Nat) : (s.countRaise pg off src).now = s.now := by
  unfold State.countRaise; (try dsimp only); (repeat' split) <;>
    simp only [State.raise_now, State.noteLevel_now, State.setEvtBit_now, State.fifoPut_now, State.count_now, State.setCtr_now]
@[simp] theorem State.portCtr_now (s : State) (lp i n : Nat) : (s.portCtr lp i n).now = s.now := by
  unfold State.portCtr; (try dsimp only); (repeat' split) <;>
    simp only [State.raise_now, State.noteLevel_now, State.setEvtBit_now, State.fifoPut_now, State.count_now, State.setCtr_now]
@[simp] theorem State.engCtr_now (s : State) (p n c : Nat) : (s.engCtr p n c).now = s.now := by
  unfold State.engCtr; (try dsimp only); (repeat' split) <;>
    simp only [State.raise_now, State.noteLevel_now, State.setEvtBit_now, State.fifoPut_now, State.count_now, State.setCtr_now]

@[simp] theorem State.assert1_free (s : State) (pg src : Nat) : (s.assert1 pg src).1.free = s.free := by
  unfold State.assert1; dsimp only
  (repeat' split) <;> simp only [apply_ite State.free, ite_self, State.onSys_free, State.signal_free, State.fifoPut_free, State.journal_free,
    State.setEvtBit_free, State.bumpSeq_free, State.count_free]
@[simp] theorem State.raise_free (s : State) (pg src : Nat) : (s.raise pg src).free = s.free := by
  unfold State.raise; dsimp only; split <;> simp only [State.assert1_free]
@[simp] theorem State.raiseLive_free (s : State) (pg src : Nat) : (s.raiseLive pg src).free = s.free := by
  unfold State.raiseLive; (try dsimp only); (repeat' split) <;>
    simp only [State.raise_free, State.noteLevel_free, State.setEvtBit_free, State.fifoPut_free, State.count_free, State.setCtr_free]
@[simp] theorem State.fifoPush_free (s : State) (f : Nat) (i : List Byte) : (s.fifoPush f i).free = s.free := by
  unfold State.fifoPush; (try dsimp only); (repeat' split) <;>
    simp only [State.raise_free, State.noteLevel_free, State.setEvtBit_free, State.fifoPut_free, State.count_free, State.setCtr_free]
@[simp] theorem State.countRaise_free (s : State) (pg off src : Nat) : (s.countRaise pg off src).free = s.free := by
  unfold State.countRaise; (try dsimp only); (repeat' split) <;>
    simp only [State.raise_free, State.noteLevel_free, State.setEvtBit_free, State.fifoPut_free, State.count_free, State.setCtr_free]
@[simp] theorem State.portCtr_free (s : State) (lp i n : Nat) : (s.portCtr lp i n).free = s.free := by
  unfold State.portCtr; (try dsimp only); (repeat' split) <;>
    simp only [State.raise_free, State.noteLevel_free, State.setEvtBit_free, State.fifoPut_free, State.count_free, State.setCtr_free]
@[simp] theorem State.engCtr_free (s : State) (p n c : Nat) : (s.engCtr p n c).free = s.free := by
  unfold State.engCtr; (try dsimp only); (repeat' split) <;>
    simp only [State.raise_free, State.noteLevel_free, State.setEvtBit_free, State.fifoPut_free, State.count_free, State.setCtr_free]

@[simp] theorem State.assert1_pending (s : State) (pg src : Nat) : (s.assert1 pg src).1.pending = s.pending := by
  unfold State.assert1; dsimp only
  (repeat' split) <;> simp only [apply_ite State.pending, ite_self, State.onSys_pending, State.signal_pending, State.fifoPut_pending, State.journal_pending,
    State.setEvtBit_pending, State.bumpSeq_pending, State.count_pending]
@[simp] theorem State.raise_pending (s : State) (pg src : Nat) : (s.raise pg src).pending = s.pending := by
  unfold State.raise; dsimp only; split <;> simp only [State.assert1_pending]
@[simp] theorem State.raiseLive_pending (s : State) (pg src : Nat) : (s.raiseLive pg src).pending = s.pending := by
  unfold State.raiseLive; (try dsimp only); (repeat' split) <;>
    simp only [State.raise_pending, State.noteLevel_pending, State.setEvtBit_pending, State.fifoPut_pending, State.count_pending, State.setCtr_pending]
@[simp] theorem State.fifoPush_pending (s : State) (f : Nat) (i : List Byte) : (s.fifoPush f i).pending = s.pending := by
  unfold State.fifoPush; (try dsimp only); (repeat' split) <;>
    simp only [State.raise_pending, State.noteLevel_pending, State.setEvtBit_pending, State.fifoPut_pending, State.count_pending, State.setCtr_pending]
@[simp] theorem State.countRaise_pending (s : State) (pg off src : Nat) : (s.countRaise pg off src).pending = s.pending := by
  unfold State.countRaise; (try dsimp only); (repeat' split) <;>
    simp only [State.raise_pending, State.noteLevel_pending, State.setEvtBit_pending, State.fifoPut_pending, State.count_pending, State.setCtr_pending]
@[simp] theorem State.portCtr_pending (s : State) (lp i n : Nat) : (s.portCtr lp i n).pending = s.pending := by
  unfold State.portCtr; (try dsimp only); (repeat' split) <;>
    simp only [State.raise_pending, State.noteLevel_pending, State.setEvtBit_pending, State.fifoPut_pending, State.count_pending, State.setCtr_pending]
@[simp] theorem State.engCtr_pending (s : State) (p n c : Nat) : (s.engCtr p n c).pending = s.pending := by
  unfold State.engCtr; (try dsimp only); (repeat' split) <;>
    simp only [State.raise_pending, State.noteLevel_pending, State.setEvtBit_pending, State.fifoPut_pending, State.count_pending, State.setCtr_pending]

@[simp] theorem State.assert1_shadow (s : State) (pg src : Nat) : (s.assert1 pg src).1.shadow = s.shadow := by
  unfold State.assert1; dsimp only
  (repeat' split) <;> simp only [apply_ite State.shadow, ite_self, State.onSys_shadow, State.signal_shadow, State.fifoPut_shadow, State.journal_shadow,
    State.setEvtBit_shadow, State.bumpSeq_shadow, State.count_shadow]
@[simp] theorem State.raise_shadow (s : State) (pg src : Nat) : (s.raise pg src).shadow = s.shadow := by
  unfold State.raise; dsimp only; split <;> simp only [State.assert1_shadow]
@[simp] theorem State.raiseLive_shadow (s : State) (pg src : Nat) : (s.raiseLive pg src).shadow = s.shadow := by
  unfold State.raiseLive; (try dsimp only); (repeat' split) <;>
    simp only [State.raise_shadow, State.noteLevel_shadow, State.setEvtBit_shadow, State.fifoPut_shadow, State.count_shadow, State.setCtr_shadow]
@[simp] theorem State.fifoPush_shadow (s : State) (f : Nat) (i : List Byte) : (s.fifoPush f i).shadow = s.shadow := by
  unfold State.fifoPush; (try dsimp only); (repeat' split) <;>
    simp only [State.raise_shadow, State.noteLevel_shadow, State.setEvtBit_shadow, State.fifoPut_shadow, State.count_shadow, State.setCtr_shadow]
@[simp] theorem State.countRaise_shadow (s : State) (pg off src : Nat) : (s.countRaise pg off src).shadow = s.shadow := by
  unfold State.countRaise; (try dsimp only); (repeat' split) <;>
    simp only [State.raise_shadow, State.noteLevel_shadow, State.setEvtBit_shadow, State.fifoPut_shadow, State.count_shadow, State.setCtr_shadow]
@[simp] theorem State.portCtr_shadow (s : State) (lp i n : Nat) : (s.portCtr lp i n).shadow = s.shadow := by
  unfold State.portCtr; (try dsimp only); (repeat' split) <;>
    simp only [State.raise_shadow, State.noteLevel_shadow, State.setEvtBit_shadow, State.fifoPut_shadow, State.count_shadow, State.setCtr_shadow]
@[simp] theorem State.engCtr_shadow (s : State) (p n c : Nat) : (s.engCtr p n c).shadow = s.shadow := by
  unfold State.engCtr; (try dsimp only); (repeat' split) <;>
    simp only [State.raise_shadow, State.noteLevel_shadow, State.setEvtBit_shadow, State.fifoPut_shadow, State.count_shadow, State.setCtr_shadow]

@[simp] theorem State.assert1_latch (s : State) (pg src : Nat) : (s.assert1 pg src).1.latch = s.latch := by
  unfold State.assert1; dsimp only
  (repeat' split) <;> simp only [apply_ite State.latch, ite_self, State.onSys_latch, State.signal_latch, State.fifoPut_latch, State.journal_latch,
    State.setEvtBit_latch, State.bumpSeq_latch, State.count_latch]
@[simp] theorem State.raise_latch (s : State) (pg src : Nat) : (s.raise pg src).latch = s.latch := by
  unfold State.raise; dsimp only; split <;> simp only [State.assert1_latch]
@[simp] theorem State.raiseLive_latch (s : State) (pg src : Nat) : (s.raiseLive pg src).latch = s.latch := by
  unfold State.raiseLive; (try dsimp only); (repeat' split) <;>
    simp only [State.raise_latch, State.noteLevel_latch, State.setEvtBit_latch, State.fifoPut_latch, State.count_latch, State.setCtr_latch]
@[simp] theorem State.fifoPush_latch (s : State) (f : Nat) (i : List Byte) : (s.fifoPush f i).latch = s.latch := by
  unfold State.fifoPush; (try dsimp only); (repeat' split) <;>
    simp only [State.raise_latch, State.noteLevel_latch, State.setEvtBit_latch, State.fifoPut_latch, State.count_latch, State.setCtr_latch]
@[simp] theorem State.countRaise_latch (s : State) (pg off src : Nat) : (s.countRaise pg off src).latch = s.latch := by
  unfold State.countRaise; (try dsimp only); (repeat' split) <;>
    simp only [State.raise_latch, State.noteLevel_latch, State.setEvtBit_latch, State.fifoPut_latch, State.count_latch, State.setCtr_latch]
@[simp] theorem State.portCtr_latch (s : State) (lp i n : Nat) : (s.portCtr lp i n).latch = s.latch := by
  unfold State.portCtr; (try dsimp only); (repeat' split) <;>
    simp only [State.raise_latch, State.noteLevel_latch, State.setEvtBit_latch, State.fifoPut_latch, State.count_latch, State.setCtr_latch]
@[simp] theorem State.engCtr_latch (s : State) (p n c : Nat) : (s.engCtr p n c).latch = s.latch := by
  unfold State.engCtr; (try dsimp only); (repeat' split) <;>
    simp only [State.raise_latch, State.noteLevel_latch, State.setEvtBit_latch, State.fifoPut_latch, State.count_latch, State.setCtr_latch]

@[simp] theorem State.assert1_ports (s : State) (pg src : Nat) : (s.assert1 pg src).1.ports = s.ports := by
  unfold State.assert1; dsimp only
  (repeat' split) <;> simp only [apply_ite State.ports, ite_self, State.onSys_ports, State.signal_ports, State.fifoPut_ports, State.journal_ports,
    State.setEvtBit_ports, State.bumpSeq_ports, State.count_ports]
@[simp] theorem State.raise_ports (s : State) (pg src : Nat) : (s.raise pg src).ports = s.ports := by
  unfold State.raise; dsimp only; split <;> simp only [State.assert1_ports]
@[simp] theorem State.raiseLive_ports (s : State) (pg src : Nat) : (s.raiseLive pg src).ports = s.ports := by
  unfold State.raiseLive; (try dsimp only); (repeat' split) <;>
    simp only [State.raise_ports, State.noteLevel_ports, State.setEvtBit_ports, State.fifoPut_ports, State.count_ports, State.setCtr_ports]
@[simp] theorem State.fifoPush_ports (s : State) (f : Nat) (i : List Byte) : (s.fifoPush f i).ports = s.ports := by
  unfold State.fifoPush; (try dsimp only); (repeat' split) <;>
    simp only [State.raise_ports, State.noteLevel_ports, State.setEvtBit_ports, State.fifoPut_ports, State.count_ports, State.setCtr_ports]
@[simp] theorem State.countRaise_ports (s : State) (pg off src : Nat) : (s.countRaise pg off src).ports = s.ports := by
  unfold State.countRaise; (try dsimp only); (repeat' split) <;>
    simp only [State.raise_ports, State.noteLevel_ports, State.setEvtBit_ports, State.fifoPut_ports, State.count_ports, State.setCtr_ports]
@[simp] theorem State.portCtr_ports (s : State) (lp i n : Nat) : (s.portCtr lp i n).ports = s.ports := by
  unfold State.portCtr; (try dsimp only); (repeat' split) <;>
    simp only [State.raise_ports, State.noteLevel_ports, State.setEvtBit_ports, State.fifoPut_ports, State.count_ports, State.setCtr_ports]
@[simp] theorem State.engCtr_ports (s : State) (p n c : Nat) : (s.engCtr p n c).ports = s.ports := by
  unfold State.engCtr; (try dsimp only); (repeat' split) <;>
    simp only [State.raise_ports, State.noteLevel_ports, State.setEvtBit_ports, State.fifoPut_ports, State.count_ports, State.setCtr_ports]

@[simp] theorem State.assert1_tables (s : State) (pg src : Nat) : (s.assert1 pg src).1.tables = s.tables := by
  unfold State.assert1; dsimp only
  (repeat' split) <;> simp only [apply_ite State.tables, ite_self, State.onSys_tables, State.signal_tables, State.fifoPut_tables, State.journal_tables,
    State.setEvtBit_tables, State.bumpSeq_tables, State.count_tables]
@[simp] theorem State.raise_tables (s : State) (pg src : Nat) : (s.raise pg src).tables = s.tables := by
  unfold State.raise; dsimp only; split <;> simp only [State.assert1_tables]
@[simp] theorem State.raiseLive_tables (s : State) (pg src : Nat) : (s.raiseLive pg src).tables = s.tables := by
  unfold State.raiseLive; (try dsimp only); (repeat' split) <;>
    simp only [State.raise_tables, State.noteLevel_tables, State.setEvtBit_tables, State.fifoPut_tables, State.count_tables, State.setCtr_tables]
@[simp] theorem State.fifoPush_tables (s : State) (f : Nat) (i : List Byte) : (s.fifoPush f i).tables = s.tables := by
  unfold State.fifoPush; (try dsimp only); (repeat' split) <;>
    simp only [State.raise_tables, State.noteLevel_tables, State.setEvtBit_tables, State.fifoPut_tables, State.count_tables, State.setCtr_tables]
@[simp] theorem State.countRaise_tables (s : State) (pg off src : Nat) : (s.countRaise pg off src).tables = s.tables := by
  unfold State.countRaise; (try dsimp only); (repeat' split) <;>
    simp only [State.raise_tables, State.noteLevel_tables, State.setEvtBit_tables, State.fifoPut_tables, State.count_tables, State.setCtr_tables]
@[simp] theorem State.portCtr_tables (s : State) (lp i n : Nat) : (s.portCtr lp i n).tables = s.tables := by
  unfold State.portCtr; (try dsimp only); (repeat' split) <;>
    simp only [State.raise_tables, State.noteLevel_tables, State.setEvtBit_tables, State.fifoPut_tables, State.count_tables, State.setCtr_tables]
@[simp] theorem State.engCtr_tables (s : State) (p n c : Nat) : (s.engCtr p n c).tables = s.tables := by
  unfold State.engCtr; (try dsimp only); (repeat' split) <;>
    simp only [State.raise_tables, State.noteLevel_tables, State.setEvtBit_tables, State.fifoPut_tables, State.count_tables, State.setCtr_tables]

@[simp] theorem State.assert1_sw (s : State) (pg src : Nat) : (s.assert1 pg src).1.sw = s.sw := by
  unfold State.assert1; dsimp only
  (repeat' split) <;> simp only [apply_ite State.sw, ite_self, State.onSys_sw, State.signal_sw, State.fifoPut_sw, State.journal_sw,
    State.setEvtBit_sw, State.bumpSeq_sw, State.count_sw]
@[simp] theorem State.raise_sw (s : State) (pg src : Nat) : (s.raise pg src).sw = s.sw := by
  unfold State.raise; dsimp only; split <;> simp only [State.assert1_sw]
@[simp] theorem State.raiseLive_sw (s : State) (pg src : Nat) : (s.raiseLive pg src).sw = s.sw := by
  unfold State.raiseLive; (try dsimp only); (repeat' split) <;>
    simp only [State.raise_sw, State.noteLevel_sw, State.setEvtBit_sw, State.fifoPut_sw, State.count_sw, State.setCtr_sw]
@[simp] theorem State.fifoPush_sw (s : State) (f : Nat) (i : List Byte) : (s.fifoPush f i).sw = s.sw := by
  unfold State.fifoPush; (try dsimp only); (repeat' split) <;>
    simp only [State.raise_sw, State.noteLevel_sw, State.setEvtBit_sw, State.fifoPut_sw, State.count_sw, State.setCtr_sw]
@[simp] theorem State.countRaise_sw (s : State) (pg off src : Nat) : (s.countRaise pg off src).sw = s.sw := by
  unfold State.countRaise; (try dsimp only); (repeat' split) <;>
    simp only [State.raise_sw, State.noteLevel_sw, State.setEvtBit_sw, State.fifoPut_sw, State.count_sw, State.setCtr_sw]
@[simp] theorem State.portCtr_sw (s : State) (lp i n : Nat) : (s.portCtr lp i n).sw = s.sw := by
  unfold State.portCtr; (try dsimp only); (repeat' split) <;>
    simp only [State.raise_sw, State.noteLevel_sw, State.setEvtBit_sw, State.fifoPut_sw, State.count_sw, State.setCtr_sw]
@[simp] theorem State.engCtr_sw (s : State) (p n c : Nat) : (s.engCtr p n c).sw = s.sw := by
  unfold State.engCtr; (try dsimp only); (repeat' split) <;>
    simp only [State.raise_sw, State.noteLevel_sw, State.setEvtBit_sw, State.fifoPut_sw, State.count_sw, State.setCtr_sw]

@[simp] theorem State.assert1_trunk (s : State) (pg src : Nat) : (s.assert1 pg src).1.trunk = s.trunk := by
  unfold State.assert1; dsimp only
  (repeat' split) <;> simp only [apply_ite State.trunk, ite_self, State.onSys_trunk, State.signal_trunk, State.fifoPut_trunk, State.journal_trunk,
    State.setEvtBit_trunk, State.bumpSeq_trunk, State.count_trunk]
@[simp] theorem State.raise_trunk (s : State) (pg src : Nat) : (s.raise pg src).trunk = s.trunk := by
  unfold State.raise; dsimp only; split <;> simp only [State.assert1_trunk]
@[simp] theorem State.raiseLive_trunk (s : State) (pg src : Nat) : (s.raiseLive pg src).trunk = s.trunk := by
  unfold State.raiseLive; (try dsimp only); (repeat' split) <;>
    simp only [State.raise_trunk, State.noteLevel_trunk, State.setEvtBit_trunk, State.fifoPut_trunk, State.count_trunk, State.setCtr_trunk]
@[simp] theorem State.fifoPush_trunk (s : State) (f : Nat) (i : List Byte) : (s.fifoPush f i).trunk = s.trunk := by
  unfold State.fifoPush; (try dsimp only); (repeat' split) <;>
    simp only [State.raise_trunk, State.noteLevel_trunk, State.setEvtBit_trunk, State.fifoPut_trunk, State.count_trunk, State.setCtr_trunk]
@[simp] theorem State.countRaise_trunk (s : State) (pg off src : Nat) : (s.countRaise pg off src).trunk = s.trunk := by
  unfold State.countRaise; (try dsimp only); (repeat' split) <;>
    simp only [State.raise_trunk, State.noteLevel_trunk, State.setEvtBit_trunk, State.fifoPut_trunk, State.count_trunk, State.setCtr_trunk]
@[simp] theorem State.portCtr_trunk (s : State) (lp i n : Nat) : (s.portCtr lp i n).trunk = s.trunk := by
  unfold State.portCtr; (try dsimp only); (repeat' split) <;>
    simp only [State.raise_trunk, State.noteLevel_trunk, State.setEvtBit_trunk, State.fifoPut_trunk, State.count_trunk, State.setCtr_trunk]
@[simp] theorem State.engCtr_trunk (s : State) (p n c : Nat) : (s.engCtr p n c).trunk = s.trunk := by
  unfold State.engCtr; (try dsimp only); (repeat' split) <;>
    simp only [State.raise_trunk, State.noteLevel_trunk, State.setEvtBit_trunk, State.fifoPut_trunk, State.count_trunk, State.setCtr_trunk]

@[simp] theorem State.assert1_time (s : State) (pg src : Nat) : (s.assert1 pg src).1.time = s.time := by
  unfold State.assert1; dsimp only
  (repeat' split) <;> simp only [apply_ite State.time, ite_self, State.onSys_time, State.signal_time, State.fifoPut_time, State.journal_time,
    State.setEvtBit_time, State.bumpSeq_time, State.count_time]
@[simp] theorem State.raise_time (s : State) (pg src : Nat) : (s.raise pg src).time = s.time := by
  unfold State.raise; dsimp only; split <;> simp only [State.assert1_time]
@[simp] theorem State.raiseLive_time (s : State) (pg src : Nat) : (s.raiseLive pg src).time = s.time := by
  unfold State.raiseLive; (try dsimp only); (repeat' split) <;>
    simp only [State.raise_time, State.noteLevel_time, State.setEvtBit_time, State.fifoPut_time, State.count_time, State.setCtr_time]
@[simp] theorem State.fifoPush_time (s : State) (f : Nat) (i : List Byte) : (s.fifoPush f i).time = s.time := by
  unfold State.fifoPush; (try dsimp only); (repeat' split) <;>
    simp only [State.raise_time, State.noteLevel_time, State.setEvtBit_time, State.fifoPut_time, State.count_time, State.setCtr_time]
@[simp] theorem State.countRaise_time (s : State) (pg off src : Nat) : (s.countRaise pg off src).time = s.time := by
  unfold State.countRaise; (try dsimp only); (repeat' split) <;>
    simp only [State.raise_time, State.noteLevel_time, State.setEvtBit_time, State.fifoPut_time, State.count_time, State.setCtr_time]
@[simp] theorem State.portCtr_time (s : State) (lp i n : Nat) : (s.portCtr lp i n).time = s.time := by
  unfold State.portCtr; (try dsimp only); (repeat' split) <;>
    simp only [State.raise_time, State.noteLevel_time, State.setEvtBit_time, State.fifoPut_time, State.count_time, State.setCtr_time]
@[simp] theorem State.engCtr_time (s : State) (p n c : Nat) : (s.engCtr p n c).time = s.time := by
  unfold State.engCtr; (try dsimp only); (repeat' split) <;>
    simp only [State.raise_time, State.noteLevel_time, State.setEvtBit_time, State.fifoPut_time, State.count_time, State.setCtr_time]

@[simp] theorem State.assert1_loom (s : State) (pg src : Nat) : (s.assert1 pg src).1.loom = s.loom := by
  unfold State.assert1; dsimp only
  (repeat' split) <;> simp only [apply_ite State.loom, ite_self, State.onSys_loom, State.signal_loom, State.fifoPut_loom, State.journal_loom,
    State.setEvtBit_loom, State.bumpSeq_loom, State.count_loom]
@[simp] theorem State.raise_loom (s : State) (pg src : Nat) : (s.raise pg src).loom = s.loom := by
  unfold State.raise; dsimp only; split <;> simp only [State.assert1_loom]
@[simp] theorem State.raiseLive_loom (s : State) (pg src : Nat) : (s.raiseLive pg src).loom = s.loom := by
  unfold State.raiseLive; (try dsimp only); (repeat' split) <;>
    simp only [State.raise_loom, State.noteLevel_loom, State.setEvtBit_loom, State.fifoPut_loom, State.count_loom, State.setCtr_loom]
@[simp] theorem State.fifoPush_loom (s : State) (f : Nat) (i : List Byte) : (s.fifoPush f i).loom = s.loom := by
  unfold State.fifoPush; (try dsimp only); (repeat' split) <;>
    simp only [State.raise_loom, State.noteLevel_loom, State.setEvtBit_loom, State.fifoPut_loom, State.count_loom, State.setCtr_loom]
@[simp] theorem State.countRaise_loom (s : State) (pg off src : Nat) : (s.countRaise pg off src).loom = s.loom := by
  unfold State.countRaise; (try dsimp only); (repeat' split) <;>
    simp only [State.raise_loom, State.noteLevel_loom, State.setEvtBit_loom, State.fifoPut_loom, State.count_loom, State.setCtr_loom]
@[simp] theorem State.portCtr_loom (s : State) (lp i n : Nat) : (s.portCtr lp i n).loom = s.loom := by
  unfold State.portCtr; (try dsimp only); (repeat' split) <;>
    simp only [State.raise_loom, State.noteLevel_loom, State.setEvtBit_loom, State.fifoPut_loom, State.count_loom, State.setCtr_loom]
@[simp] theorem State.engCtr_loom (s : State) (p n c : Nat) : (s.engCtr p n c).loom = s.loom := by
  unfold State.engCtr; (try dsimp only); (repeat' split) <;>
    simp only [State.raise_loom, State.noteLevel_loom, State.setEvtBit_loom, State.fifoPut_loom, State.count_loom, State.setCtr_loom]

@[simp] theorem State.assert1_svc (s : State) (pg src : Nat) : (s.assert1 pg src).1.svc = s.svc := by
  unfold State.assert1; dsimp only
  (repeat' split) <;> simp only [apply_ite State.svc, ite_self, State.onSys_svc, State.signal_svc, State.fifoPut_svc, State.journal_svc,
    State.setEvtBit_svc, State.bumpSeq_svc, State.count_svc]
@[simp] theorem State.raise_svc (s : State) (pg src : Nat) : (s.raise pg src).svc = s.svc := by
  unfold State.raise; dsimp only; split <;> simp only [State.assert1_svc]
@[simp] theorem State.raiseLive_svc (s : State) (pg src : Nat) : (s.raiseLive pg src).svc = s.svc := by
  unfold State.raiseLive; (try dsimp only); (repeat' split) <;>
    simp only [State.raise_svc, State.noteLevel_svc, State.setEvtBit_svc, State.fifoPut_svc, State.count_svc, State.setCtr_svc]
@[simp] theorem State.fifoPush_svc (s : State) (f : Nat) (i : List Byte) : (s.fifoPush f i).svc = s.svc := by
  unfold State.fifoPush; (try dsimp only); (repeat' split) <;>
    simp only [State.raise_svc, State.noteLevel_svc, State.setEvtBit_svc, State.fifoPut_svc, State.count_svc, State.setCtr_svc]
@[simp] theorem State.countRaise_svc (s : State) (pg off src : Nat) : (s.countRaise pg off src).svc = s.svc := by
  unfold State.countRaise; (try dsimp only); (repeat' split) <;>
    simp only [State.raise_svc, State.noteLevel_svc, State.setEvtBit_svc, State.fifoPut_svc, State.count_svc, State.setCtr_svc]
@[simp] theorem State.portCtr_svc (s : State) (lp i n : Nat) : (s.portCtr lp i n).svc = s.svc := by
  unfold State.portCtr; (try dsimp only); (repeat' split) <;>
    simp only [State.raise_svc, State.noteLevel_svc, State.setEvtBit_svc, State.fifoPut_svc, State.count_svc, State.setCtr_svc]
@[simp] theorem State.engCtr_svc (s : State) (p n c : Nat) : (s.engCtr p n c).svc = s.svc := by
  unfold State.engCtr; (try dsimp only); (repeat' split) <;>
    simp only [State.raise_svc, State.noteLevel_svc, State.setEvtBit_svc, State.fifoPut_svc, State.count_svc, State.setCtr_svc]


/-! ### Severity actions due -/

theorem State.settleN_of_quiet : ∀ (n : Nat) (s : State), s.sys.due = [] → State.settleN n s = s
  | 0, _, _ => by unfold State.settleN; rfl
  | n + 1, s, h => by
    unfold State.settleN
    split
    · rfl
    · next heq => rw [h] at heq; cases heq

/-- With no severity action due the end of a command changes nothing. -/
theorem settle_of_quiet {s : State} (h : s.sys.due = []) : settle s = s := State.settleN_of_quiet _ _ h

@[simp] theorem State.journal_due (s : State) (r : List Byte) : (s.journal r).sys.due = s.sys.due := (rfl)

/-- An assertion of severity log or notify makes no action due. -/
theorem State.assert1_due (s : State) (pg src : Nat) (h : s.evtSev pg (src % 32) ≤ 1) :
    (s.assert1 pg src).1.sys.due = s.sys.due := by
  have h2 : ¬ 2 ≤ s.evtSev pg (src % 32) := by omega
  unfold State.assert1; dsimp only
  simp only [h2, if_false]
  (repeat' split) <;> simp only [apply_ite State.sys, apply_ite System.due, ite_self, State.signal_sys, State.fifoPut_sys,
    State.journal_due, State.setEvtBit_sys, State.bumpSeq_sys, State.count_sys]

/-! ### Registers that a raised event leaves alone -/

theorem State.fifoPut_rd (s : State) (i : List Byte) {a : Nat} (h1 : a ≠ regA hostPage HOST_FIFO_CFG_DEPTH.off)
    (h2 : a ≠ regA hostPage HOST_FIFO_POOL_FREE.off) : (s.fifoPut 0 i).1.rd a = s.rd a := by
  unfold State.fifoPut; dsimp only; split
  · exact State.rd_of_regs_eq (State.setFifo_regs _ _ _) a
  · dsimp only; unfold State.syncFifo
    have h3 : a ≠ regA hostPage (HOST_FIFO_CFG_DEPTH.sh (4 * 0)).off := h1
    rw [State.setFld_rd_ne _ _ _ _ h2, State.setFld_rd_ne _ _ _ _ h3]
    exact State.rd_of_regs_eq (State.setFifo_regs _ _ _) a

theorem State.bumpSeq_rd (s : State) (pg src : Nat) {a : Nat} (h : a ≠ regA pg (0x20 + src / 4 * 4)) :
    (s.bumpSeq pg src).rd a = s.rd a := by
  unfold State.bumpSeq; exact State.rd_wr_ne _ _ h

theorem State.setEvtBit_rd (s : State) {a b : Nat} (n : Nat) (v : Bool) (h : b ≠ a) : (s.setEvtBit a n v).rd b = s.rd b := by
  unfold State.setEvtBit; exact State.rd_wr_ne _ _ h

theorem State.journal_rd (s : State) (r : List Byte) (a : Nat) : (s.journal r).rd a = s.rd a :=
  State.rd_of_regs_eq (State.journal_regs _ _) a
theorem State.signal_rd (s : State) (v a : Nat) : (s.signal v).rd a = s.rd a := State.rd_of_regs_eq (State.signal_regs _ _) a
theorem State.count_rd (s : State) (pg off n a : Nat) : (s.count pg off n).rd a = s.rd a := State.rd_of_regs_eq (State.count_regs _ _ _ _) a
theorem State.onSys_rd (s : State) (f : System → System) (a : Nat) : (s.onSys f).rd a = s.rd a := State.rd_of_regs_eq (State.onSys_regs _ _) a

theorem State.assert1_rd (s : State) (pg src : Nat) {a : Nat} (h1 : a ≠ regA pg 0x14) (h2 : a ≠ regA pg (0x20 + src % 32 / 4 * 4))
    (h3 : a ≠ regA hostPage HOST_FIFO_CFG_DEPTH.off) (h4 : a ≠ regA hostPage HOST_FIFO_POOL_FREE.off) :
    (s.assert1 pg src).1.rd a = s.rd a := by
  have h5 : a ≠ evtStickyA pg := h1
  unfold State.assert1; dsimp only
  (repeat' split) <;> simp only [apply_ite (fun t : State => t.rd a), ite_self, State.onSys_rd, State.count_rd, State.signal_rd,
    State.fifoPut_rd _ _ h3 h4, State.journal_rd, State.setEvtBit_rd _ _ _ h5, State.bumpSeq_rd _ _ _ h2]

/-- Raising an event of page `pg` leaves every register outside `raiseRegs pg` as it was. -/
theorem State.raise_rd (s : State) (pg src : Nat) {a : Nat} (h : a ∉ raiseRegs pg) : (s.raise pg src).rd a = s.rd a := by
  have hk : ∀ k < 8, a ≠ regA pg (0x20 + 4 * k) := fun k hk e =>
    h (List.mem_append_right _ (List.mem_map.mpr ⟨k, List.mem_range.mpr hk, e.symm⟩))
  simp only [raiseRegs, List.mem_append, List.mem_cons, not_or] at h
  obtain ⟨⟨h1, h2, h3, h4, h5, -⟩, -⟩ := h
  have e : 0x20 + src % 32 / 4 * 4 = 0x20 + 4 * (src % 32 / 4) := by omega
  have h6 : a ≠ regA pg (0x20 + src % 32 / 4 * 4) := by rw [e]; exact hk _ (by omega)
  unfold State.raise; dsimp only; split
  · rw [State.assert1_rd _ _ _ h2 h3 h4 h5, State.assert1_rd _ _ _ h1 h6 h4 h5]
  · rw [State.assert1_rd _ _ _ h1 h6 h4 h5]

theorem State.raise_due (s : State) (pg src : Nat) (h : s.evtSev pg (src % 32) ≤ 1) (hg : s.evtSev hostPage 3 ≤ 1)
    : (s.raise pg src).sys.due = s.sys.due := by
  have e : (s.assert1 pg src).1.evtSev hostPage (3 % 32) = s.evtSev hostPage 3 := by
    unfold State.evtSev
    by_cases hp : pg = hostPage
    · subst hp
      rw [State.assert1_rd] <;> simp only [regA, hostPage, HOST_FIFO_CFG_DEPTH, HOST_FIFO_POOL_FREE] <;> omega
    · rw [State.assert1_rd] <;> first
        | exact regA_ne (by omega) (by omega) (.inl (fun h => hp h.symm))
        | (simp only [regA, hostPage, HOST_FIFO_CFG_DEPTH, HOST_FIFO_POOL_FREE]; omega)
  unfold State.raise; dsimp only; split
  · rw [State.assert1_due _ _ _ (by rw [e]; exact hg), State.assert1_due _ _ _ h]
  · exact State.assert1_due _ _ _ h

end Sys2Proof.Machine
end

