-- ==== Sys2Proof/Laws/Access.lean ====
section
/-! SUPPORT. Register accesses: what an access that is let in runs, and that noting an access or a refusal moves only counters. -/

namespace Sys2Proof.Machine

@[simp] theorem State.perfHit_now (s : State) (i e n : Nat) (a b c d : Option Nat) : (s.perfHit i e n a b c d).now = s.now := by
  unfold State.perfHit; split
  · rfl
  · exact State.each_keep State.now _ (fun s k => by split <;> simp only [State.count_now]) _ _
@[simp] theorem State.accessHit_now (s : State) (w : Who) (e pg : Nat) : (s.accessHit w e pg).now = s.now := State.perfHit_now _ _ _ _ _ _ _ _
theorem State.noted_now (s : State) (w : Who) (pg off : Nat) (run : State → State) : (s.noted w pg off run).now = (run s).now := by
  unfold State.noted; dsimp only; split
  · exact State.accessHit_now _ _ _ _
  · rfl
@[simp] theorem State.perfHit_free (s : State) (i e n : Nat) (a b c d : Option Nat) : (s.perfHit i e n a b c d).free = s.free := by
  unfold State.perfHit; split
  · rfl
  · exact State.each_keep State.free _ (fun s k => by split <;> simp only [State.count_free]) _ _
@[simp] theorem State.accessHit_free (s : State) (w : Who) (e pg : Nat) : (s.accessHit w e pg).free = s.free := State.perfHit_free _ _ _ _ _ _ _ _
theorem State.noted_free (s : State) (w : Who) (pg off : Nat) (run : State → State) : (s.noted w pg off run).free = (run s).free := by
  unfold State.noted; dsimp only; split
  · exact State.accessHit_free _ _ _ _
  · rfl
@[simp] theorem State.perfHit_pending (s : State) (i e n : Nat) (a b c d : Option Nat) : (s.perfHit i e n a b c d).pending = s.pending := by
  unfold State.perfHit; split
  · rfl
  · exact State.each_keep State.pending _ (fun s k => by split <;> simp only [State.count_pending]) _ _
@[simp] theorem State.accessHit_pending (s : State) (w : Who) (e pg : Nat) : (s.accessHit w e pg).pending = s.pending := State.perfHit_pending _ _ _ _ _ _ _ _
theorem State.noted_pending (s : State) (w : Who) (pg off : Nat) (run : State → State) : (s.noted w pg off run).pending = (run s).pending := by
  unfold State.noted; dsimp only; split
  · exact State.accessHit_pending _ _ _ _
  · rfl
@[simp] theorem State.perfHit_out (s : State) (i e n : Nat) (a b c d : Option Nat) : (s.perfHit i e n a b c d).out = s.out := by
  unfold State.perfHit; split
  · rfl
  · exact State.each_keep State.out _ (fun s k => by split <;> simp only [State.count_out]) _ _
@[simp] theorem State.accessHit_out (s : State) (w : Who) (e pg : Nat) : (s.accessHit w e pg).out = s.out := State.perfHit_out _ _ _ _ _ _ _ _
theorem State.noted_out (s : State) (w : Who) (pg off : Nat) (run : State → State) : (s.noted w pg off run).out = (run s).out := by
  unfold State.noted; dsimp only; split
  · exact State.accessHit_out _ _ _ _
  · rfl
@[simp] theorem State.perfHit_regs (s : State) (i e n : Nat) (a b c d : Option Nat) : (s.perfHit i e n a b c d).regs = s.regs := by
  unfold State.perfHit; split
  · rfl
  · exact State.each_keep State.regs _ (fun s k => by split <;> simp only [State.count_regs]) _ _
@[simp] theorem State.accessHit_regs (s : State) (w : Who) (e pg : Nat) : (s.accessHit w e pg).regs = s.regs := State.perfHit_regs _ _ _ _ _ _ _ _
theorem State.noted_regs (s : State) (w : Who) (pg off : Nat) (run : State → State) : (s.noted w pg off run).regs = (run s).regs := by
  unfold State.noted; dsimp only; split
  · exact State.accessHit_regs _ _ _ _
  · rfl
@[simp] theorem State.perfHit_shadow (s : State) (i e n : Nat) (a b c d : Option Nat) : (s.perfHit i e n a b c d).shadow = s.shadow := by
  unfold State.perfHit; split
  · rfl
  · exact State.each_keep State.shadow _ (fun s k => by split <;> simp only [State.count_shadow]) _ _
@[simp] theorem State.accessHit_shadow (s : State) (w : Who) (e pg : Nat) : (s.accessHit w e pg).shadow = s.shadow := State.perfHit_shadow _ _ _ _ _ _ _ _
theorem State.noted_shadow (s : State) (w : Who) (pg off : Nat) (run : State → State) : (s.noted w pg off run).shadow = (run s).shadow := by
  unfold State.noted; dsimp only; split
  · exact State.accessHit_shadow _ _ _ _
  · rfl
@[simp] theorem State.perfHit_latch (s : State) (i e n : Nat) (a b c d : Option Nat) : (s.perfHit i e n a b c d).latch = s.latch := by
  unfold State.perfHit; split
  · rfl
  · exact State.each_keep State.latch _ (fun s k => by split <;> simp only [State.count_latch]) _ _
@[simp] theorem State.accessHit_latch (s : State) (w : Who) (e pg : Nat) : (s.accessHit w e pg).latch = s.latch := State.perfHit_latch _ _ _ _ _ _ _ _
theorem State.noted_latch (s : State) (w : Who) (pg off : Nat) (run : State → State) : (s.noted w pg off run).latch = (run s).latch := by
  unfold State.noted; dsimp only; split
  · exact State.accessHit_latch _ _ _ _
  · rfl
@[simp] theorem State.perfHit_host (s : State) (i e n : Nat) (a b c d : Option Nat) : (s.perfHit i e n a b c d).host = s.host := by
  unfold State.perfHit; split
  · rfl
  · exact State.each_keep State.host _ (fun s k => by split <;> simp only [State.count_host]) _ _
@[simp] theorem State.accessHit_host (s : State) (w : Who) (e pg : Nat) : (s.accessHit w e pg).host = s.host := State.perfHit_host _ _ _ _ _ _ _ _
theorem State.noted_host (s : State) (w : Who) (pg off : Nat) (run : State → State) : (s.noted w pg off run).host = (run s).host := by
  unfold State.noted; dsimp only; split
  · exact State.accessHit_host _ _ _ _
  · rfl
@[simp] theorem State.perfHit_ports (s : State) (i e n : Nat) (a b c d : Option Nat) : (s.perfHit i e n a b c d).ports = s.ports := by
  unfold State.perfHit; split
  · rfl
  · exact State.each_keep State.ports _ (fun s k => by split <;> simp only [State.count_ports]) _ _
@[simp] theorem State.accessHit_ports (s : State) (w : Who) (e pg : Nat) : (s.accessHit w e pg).ports = s.ports := State.perfHit_ports _ _ _ _ _ _ _ _
theorem State.noted_ports (s : State) (w : Who) (pg off : Nat) (run : State → State) : (s.noted w pg off run).ports = (run s).ports := by
  unfold State.noted; dsimp only; split
  · exact State.accessHit_ports _ _ _ _
  · rfl
@[simp] theorem State.perfHit_tables (s : State) (i e n : Nat) (a b c d : Option Nat) : (s.perfHit i e n a b c d).tables = s.tables := by
  unfold State.perfHit; split
  · rfl
  · exact State.each_keep State.tables _ (fun s k => by split <;> simp only [State.count_tables]) _ _
@[simp] theorem State.accessHit_tables (s : State) (w : Who) (e pg : Nat) : (s.accessHit w e pg).tables = s.tables := State.perfHit_tables _ _ _ _ _ _ _ _
theorem State.noted_tables (s : State) (w : Who) (pg off : Nat) (run : State → State) : (s.noted w pg off run).tables = (run s).tables := by
  unfold State.noted; dsimp only; split
  · exact State.accessHit_tables _ _ _ _
  · rfl
@[simp] theorem State.perfHit_sw (s : State) (i e n : Nat) (a b c d : Option Nat) : (s.perfHit i e n a b c d).sw = s.sw := by
  unfold State.perfHit; split
  · rfl
  · exact State.each_keep State.sw _ (fun s k => by split <;> simp only [State.count_sw]) _ _
@[simp] theorem State.accessHit_sw (s : State) (w : Who) (e pg : Nat) : (s.accessHit w e pg).sw = s.sw := State.perfHit_sw _ _ _ _ _ _ _ _
theorem State.noted_sw (s : State) (w : Who) (pg off : Nat) (run : State → State) : (s.noted w pg off run).sw = (run s).sw := by
  unfold State.noted; dsimp only; split
  · exact State.accessHit_sw _ _ _ _
  · rfl
@[simp] theorem State.perfHit_trunk (s : State) (i e n : Nat) (a b c d : Option Nat) : (s.perfHit i e n a b c d).trunk = s.trunk := by
  unfold State.perfHit; split
  · rfl
  · exact State.each_keep State.trunk _ (fun s k => by split <;> simp only [State.count_trunk]) _ _
@[simp] theorem State.accessHit_trunk (s : State) (w : Who) (e pg : Nat) : (s.accessHit w e pg).trunk = s.trunk := State.perfHit_trunk _ _ _ _ _ _ _ _
theorem State.noted_trunk (s : State) (w : Who) (pg off : Nat) (run : State → State) : (s.noted w pg off run).trunk = (run s).trunk := by
  unfold State.noted; dsimp only; split
  · exact State.accessHit_trunk _ _ _ _
  · rfl
@[simp] theorem State.perfHit_time (s : State) (i e n : Nat) (a b c d : Option Nat) : (s.perfHit i e n a b c d).time = s.time := by
  unfold State.perfHit; split
  · rfl
  · exact State.each_keep State.time _ (fun s k => by split <;> simp only [State.count_time]) _ _
@[simp] theorem State.accessHit_time (s : State) (w : Who) (e pg : Nat) : (s.accessHit w e pg).time = s.time := State.perfHit_time _ _ _ _ _ _ _ _
theorem State.noted_time (s : State) (w : Who) (pg off : Nat) (run : State → State) : (s.noted w pg off run).time = (run s).time := by
  unfold State.noted; dsimp only; split
  · exact State.accessHit_time _ _ _ _
  · rfl
@[simp] theorem State.perfHit_loom (s : State) (i e n : Nat) (a b c d : Option Nat) : (s.perfHit i e n a b c d).loom = s.loom := by
  unfold State.perfHit; split
  · rfl
  · exact State.each_keep State.loom _ (fun s k => by split <;> simp only [State.count_loom]) _ _
@[simp] theorem State.accessHit_loom (s : State) (w : Who) (e pg : Nat) : (s.accessHit w e pg).loom = s.loom := State.perfHit_loom _ _ _ _ _ _ _ _
theorem State.noted_loom (s : State) (w : Who) (pg off : Nat) (run : State → State) : (s.noted w pg off run).loom = (run s).loom := by
  unfold State.noted; dsimp only; split
  · exact State.accessHit_loom _ _ _ _
  · rfl
@[simp] theorem State.perfHit_svc (s : State) (i e n : Nat) (a b c d : Option Nat) : (s.perfHit i e n a b c d).svc = s.svc := by
  unfold State.perfHit; split
  · rfl
  · exact State.each_keep State.svc _ (fun s k => by split <;> simp only [State.count_svc]) _ _
@[simp] theorem State.accessHit_svc (s : State) (w : Who) (e pg : Nat) : (s.accessHit w e pg).svc = s.svc := State.perfHit_svc _ _ _ _ _ _ _ _
theorem State.noted_svc (s : State) (w : Who) (pg off : Nat) (run : State → State) : (s.noted w pg off run).svc = (run s).svc := by
  unfold State.noted; dsimp only; split
  · exact State.accessHit_svc _ _ _ _
  · rfl
@[simp] theorem State.perfHit_sys (s : State) (i e n : Nat) (a b c d : Option Nat) : (s.perfHit i e n a b c d).sys = s.sys := by
  unfold State.perfHit; split
  · rfl
  · exact State.each_keep State.sys _ (fun s k => by split <;> simp only [State.count_sys]) _ _
@[simp] theorem State.accessHit_sys (s : State) (w : Who) (e pg : Nat) : (s.accessHit w e pg).sys = s.sys := State.perfHit_sys _ _ _ _ _ _ _ _
theorem State.noted_sys (s : State) (w : Who) (pg off : Nat) (run : State → State) : (s.noted w pg off run).sys = (run s).sys := by
  unfold State.noted; dsimp only; split
  · exact State.accessHit_sys _ _ _ _
  · rfl

/-- Counting an access leaves it open whether a page is dark. -/
@[simp] theorem State.pageDark_accessHit (s : State) (w : Who) (e pg page : Nat) : (s.accessHit w e pg).pageDark page = s.pageDark page := by
  simp only [State.pageDark, State.islandDark, State.islandOf, State.groupSlice, State.island, State.flag, State.fld, State.rd,
    State.accessHit_regs, State.accessHit_sys]

/-- An access that is let in runs, after it was counted. -/
theorem State.access_of_admits {s : State} {w : Who} {page off : Nat} (h : Admits s w page off) (run : State → State) :
    s.access w page off run = run (s.accessHit w 2 page) := by
  obtain ⟨hd, hf⟩ := h
  cases w with
  | host => simp only [State.access, State.pageDark_accessHit, hd, Bool.false_eq_true, if_false]
  | debug => simp only [State.access, State.pageDark_accessHit, hd, Bool.false_eq_true, if_false]
  | fw c p =>
    obtain ⟨h1, h2, h3⟩ := hf c p rfl
    have h4 : (!(page == svccPage && off == 0x100) && !s.isHolder c) = false := by
      rcases h2 with ⟨h, h'⟩ | h
      · simp [h, h']
      · simp [h]
    simp only [State.access, h1, h4, h3, hd, Bool.not_true, Bool.false_eq_true, if_false, ne_eq, not_true_eq_false]

theorem State.gathers_accessHit (s : State) (w v : Who) (e pg page : Nat) : (s.accessHit v e pg).gathers w page = s.gathers w page := by
  simp only [State.gathers, State.flag, State.fld, State.rd, State.accessHit_regs]

/-- A window command that reaches its window runs. -/
theorem State.cmdRow_of_reaches {s : State} {w : Who} {page off : Nat} (h : Reaches s w page off) (run : State → State) :
    s.cmdRow w page off run = (s.accessHit w 2 page).noted w page off run := by
  unfold State.cmdRow
  rw [State.access_of_admits h.1]
  simp only [State.gathers_accessHit, h.2, Bool.false_eq_true, if_false]

/-- What makes a command wait is not counted. -/
@[simp] theorem State.mustWait_accessHit (s : State) (w : Who) (e pg page : Nat) (t : PageTy) (v : Word) :
    (s.accessHit w e pg).mustWait t page v = s.mustWait t page v := by
  simp only [State.mustWait, State.accessHit_shadow]

/-- A window command that need not wait runs. -/
theorem State.turnRow_of_ready {s : State} {w : Who} {t : PageTy} {page off v : Nat} (h : Reaches s w page off)
    (ht : s.mustWait t page (BitVec.ofNat 32 v) = false) (run : State → State) :
    s.turnRow w t page off v run = (s.accessHit w 2 page).noted w page off run := by
  unfold State.turnRow
  rw [State.cmdRow_of_reaches h]
  unfold State.noted State.inTurn
  simp only [State.mustWait_accessHit, ht, Bool.not_false, if_true]

/-- A window command whose turn it is runs. -/
theorem State.turnRow_of_turn {s : State} {w : Who} {t : PageTy} {page off v : Nat} (h : TakesTurn s w page off) (ht : t ≠ .schd)
    (run : State → State) : s.turnRow w t page off v run = (s.accessHit w 2 page).noted w page off run :=
  State.turnRow_of_ready h.1 (by simp only [State.mustWait, h.2, Bool.false_or, beq_eq_false_iff_ne.mpr ht, Bool.false_and]) run

theorem State.nowRow_of_admits {s : State} {w : Who} {page off : Nat} (h : Admits s w page off) (run : State → State) :
    s.nowRow w page off run = (s.accessHit w 2 page).noted w page off run := by
  unfold State.nowRow
  rw [State.access_of_admits h]

theorem State.guardRow_of_admits {s : State} {w : Who} {page off : Nat} (h : Admits s w page off) (v : Nat) :
    s.guardRow w page off v = (s.accessHit w 2 page).guardPassed w page off (BitVec.ofNat 32 v) := by
  unfold State.guardRow
  rw [State.access_of_admits h]

theorem ctrs_foldl (f : State → Nat → State) (h : ∀ s n, ∃ k, f s n = s.withCtrs k) (l : List Nat) (s : State) :
    ∃ k, l.foldl f s = s.withCtrs k := by
  induction l generalizing s with
  | nil => exact ⟨s.ctrs, rfl⟩
  | cons x l ih =>
    obtain ⟨k, hk⟩ := h s x
    obtain ⟨k2, h2⟩ := ih (f s x)
    exact ⟨k2, by rw [List.foldl, h2, hk]; rfl⟩

/-- Counting events moves only counters. -/
theorem State.perfHit_eq (s : State) (i e n : Nat) (a b c d : Option Nat) : ∃ k, s.perfHit i e n a b c d = s.withCtrs k := by
  unfold State.perfHit; split
  · exact ⟨s.ctrs, rfl⟩
  · refine ctrs_foldl _ (fun s n => ?_) _ _
    split
    · exact ⟨_, rfl⟩
    · exact ⟨s.ctrs, rfl⟩

theorem State.accessHit_eq (s : State) (w : Who) (e pg : Nat) : ∃ k, s.accessHit w e pg = s.withCtrs k := State.perfHit_eq _ _ _ _ _ _ _ _

theorem State.noted_eq (s : State) (w : Who) (pg off : Nat) (run : State → State) : ∃ k, s.noted w pg off run = (run s).withCtrs k := by
  unfold State.noted; dsimp only; split
  · exact State.accessHit_eq _ _ _ _
  · exact ⟨_, rfl⟩

/-- A window command that reaches its window runs, and counters of events move beside it. -/
theorem State.cmdRow_eq {s : State} {w : Who} {page off : Nat} (h : Reaches s w page off) (run : State → State) :
    ∃ j k, s.cmdRow w page off run = (run (s.withCtrs j)).withCtrs k := by
  rw [State.cmdRow_of_reaches h]
  obtain ⟨j, hj⟩ := State.accessHit_eq s w 2 page
  obtain ⟨k, hk⟩ := State.noted_eq (s.withCtrs j) w page off run
  exact ⟨j, k, by rw [hj, hk]⟩

theorem State.turnRow_ready_eq {s : State} {w : Who} {t : PageTy} {page off v : Nat} (h : Reaches s w page off)
    (ht : s.mustWait t page (BitVec.ofNat 32 v) = false) (run : State → State) :
    ∃ j k, s.turnRow w t page off v run = (run (s.withCtrs j)).withCtrs k := by
  rw [State.turnRow_of_ready h ht]
  obtain ⟨j, hj⟩ := State.accessHit_eq s w 2 page
  obtain ⟨k, hk⟩ := State.noted_eq (s.withCtrs j) w page off run
  exact ⟨j, k, by rw [hj, hk]⟩

theorem State.turnRow_eq {s : State} {w : Who} {t : PageTy} {page off v : Nat} (h : TakesTurn s w page off) (ht : t ≠ .schd)
    (run : State → State) : ∃ j k, s.turnRow w t page off v run = (run (s.withCtrs j)).withCtrs k := by
  rw [State.turnRow_of_turn h ht]
  obtain ⟨j, hj⟩ := State.accessHit_eq s w 2 page
  obtain ⟨k, hk⟩ := State.noted_eq (s.withCtrs j) w page off run
  exact ⟨j, k, by rw [hj, hk]⟩

theorem State.nowRow_eq {s : State} {w : Who} {page off : Nat} (h : Admits s w page off) (run : State → State) :
    ∃ j k, s.nowRow w page off run = (run (s.withCtrs j)).withCtrs k := by
  rw [State.nowRow_of_admits h]
  obtain ⟨j, hj⟩ := State.accessHit_eq s w 2 page
  obtain ⟨k, hk⟩ := State.noted_eq (s.withCtrs j) w page off run
  exact ⟨j, k, by rw [hj, hk]⟩

end Sys2Proof.Machine
end

