-- ==== Sys2Proof/Laws/Kept.lean ====
section
/-! SUPPORT. What every operation of the block keeps, said once (`Kept`): the queue of commands and the clock; what has left the module;
the free values read; the fuses (R442); the canonical form of the byte memories; the bound of held writes (R388) and of the
notification pool (R404). Here the relation, its rules for `if`, folds and records, and the operations up to the MAC. The lemma of an
operation `op` is `op_kept`: from `Kept z s` follows `Kept z (op s …)`. -/

namespace Sys2Proof.Machine

set_option linter.all false

/-- What the block's every operation keeps, from `s` to `t`. -/
structure Kept (s t : State) : Prop where
  queue : t.pending = s.pending
  now : t.now = s.now
  out : ∃ l, t.out = l ++ s.out
  free : s.free ≤ t.free
  fuses : s.sys.nv.svnFloor ≤ t.sys.nv.svnFloor ∧ t.sys.nv.rootKeyDigest = s.sys.nv.rootKeyDigest
    ∧ t.sys.nv.debugKeyDigest = s.sys.nv.debugKeyDigest ∧ t.sys.nv.moduleId = s.sys.nv.moduleId
  mem : s.memWf → t.memWf
  holds : (∀ p, (s.held p).length ≤ 256) → ∀ p, (t.held p).length ≤ 256
  pool : s.fifoTotal ≤ 16384 → t.fifoTotal ≤ 16384

/-- What `Kept` looks at, as one record. -/
structure Seen where
  pending : List Instr
  now : Nat
  out : List Out
  free : Nat
  mem : Mem
  held : Map (List RegWrite)
  fifos : Map Fifo
  poolMem : Mem
  floor : Nat
  root : List Byte
  dbg : List Byte
  mid : Nat

/-- The parts of the state that `Kept` looks at. -/
def State.seen (s : State) : Seen :=
  ⟨s.pending, s.now, s.out, s.free, s.host.mem, s.host.held, s.host.fifos, s.svc.poolMem, s.sys.nv.svnFloor, s.sys.nv.rootKeyDigest,
    s.sys.nv.debugKeyDigest, s.sys.nv.moduleId⟩

theorem Kept.rfl' (s : State) : Kept s s :=
  ⟨rfl, rfl, ⟨[], rfl⟩, Nat.le_refl _, ⟨Nat.le_refl _, rfl, rfl, rfl⟩, id, id, id⟩
theorem Kept.trans {a b c : State} (h : Kept a b) (k : Kept b c) : Kept a c := by
  obtain ⟨l, hl⟩ := h.out
  obtain ⟨m, hm⟩ := k.out
  exact ⟨k.queue.trans h.queue, k.now.trans h.now, ⟨m ++ l, by rw [hm, hl, List.append_assoc]⟩, Nat.le_trans h.free k.free,
    ⟨Nat.le_trans h.fuses.1 k.fuses.1, k.fuses.2.1.trans h.fuses.2.1, k.fuses.2.2.1.trans h.fuses.2.2.1, k.fuses.2.2.2.trans h.fuses.2.2.2⟩,
    fun x => k.mem (h.mem x), fun x => k.holds (h.holds x), fun x => k.pool (h.pool x)⟩
theorem kept_same {z s t : State} (h : Kept z s) (e : t.seen = s.seen) : Kept z t := by
  refine h.trans ?_
  simp only [State.seen, Seen.mk.injEq] at e
  obtain ⟨h1, h2, h3, h4, h5, h6, h7, h8, h9, h10, h11, h12⟩ := e
  refine ⟨h1, h2, ⟨[], h3⟩, by omega, ⟨by omega, h10, h11, h12⟩, ?_, ?_, ?_⟩
  · unfold State.memWf; rw [h5, h8]; exact id
  · unfold State.held; rw [h6]; exact id
  · unfold State.fifoTotal State.fifo; rw [h7]; exact id
/-- What holds of the default and of every listed value holds of every value read. -/
theorem mget_all {α : Type} (P : α → Prop) (d : α) (hd : P d) : ∀ (m : Map α), (∀ e ∈ m, P e.2) → ∀ k, P (mget d m k)
  | [], _, _ => hd
  | (i, v) :: r, h, k => by
    unfold mget; split
    · exact h _ (.head _)
    · exact mget_all P d hd r (fun e he => h e (.tail _ he)) k
/-- A reset: what the block holds and gives back to the host's memory stays, held writes and FIFOs end. -/
theorem kept_reset {z s t : State} (h : Kept z s) (h1 : t.pending = s.pending) (h2 : t.now = s.now) (h3 : t.out = s.out)
    (h4 : t.free = s.free) (h5 : t.host.mem = s.host.mem) (h6 : t.host.held = []) (h7 : ∀ e ∈ t.host.fifos, e.2.items = [])
    (h8 : t.svc.poolMem = s.svc.poolMem ∨ t.svc.poolMem = [])
    (h9 : t.sys.nv.svnFloor = s.sys.nv.svnFloor ∧ t.sys.nv.rootKeyDigest = s.sys.nv.rootKeyDigest
      ∧ t.sys.nv.debugKeyDigest = s.sys.nv.debugKeyDigest ∧ t.sys.nv.moduleId = s.sys.nv.moduleId) : Kept z t := by
  refine h.trans ⟨h1, h2, ⟨[], h3⟩, by omega, ⟨by omega, h9.2⟩, ?_, ?_, ?_⟩
  · intro hm
    refine ⟨by rw [h5]; exact hm.1, ?_⟩
    rcases h8 with h8 | h8 <;> rw [h8]
    · exact hm.2
    · rfl
  · intro _ p; unfold State.held; rw [h6]; exact Nat.zero_le _
  · intro _
    have e : ∀ k, (t.fifo k).held = 0 := fun k => by
      unfold State.fifo Fifo.held; rw [mget_all (fun f : Fifo => f.items = []) dfltFifo rfl _ h7 k]; rfl
    unfold State.fifoTotal; simp only [e]; decide
theorem kept_mk {z s : State} {regs shadow latch ctrs host ports tables sw trunk time loom svc sys} (h : Kept z s)
    (eh : host.mem = s.host.mem ∧ host.held = s.host.held ∧ host.fifos = s.host.fifos) (ev : svc.poolMem = s.svc.poolMem)
    (en : sys.nv.svnFloor = s.sys.nv.svnFloor ∧ sys.nv.rootKeyDigest = s.sys.nv.rootKeyDigest
      ∧ sys.nv.debugKeyDigest = s.sys.nv.debugKeyDigest ∧ sys.nv.moduleId = s.sys.nv.moduleId) :
    Kept z { s with regs := regs, shadow := shadow, latch := latch, ctrs := ctrs, host := host, ports := ports, tables := tables, sw := sw
                    trunk := trunk, time := time, loom := loom, svc := svc, sys := sys } :=
  kept_same h (by simp only [State.seen, eh.1, eh.2.1, eh.2.2, ev, en.1, en.2.1, en.2.2.1, en.2.2.2])
theorem kept_of_pair {β : Type} {z a t : State} {b : β} {e : State × β} (q : e = (a, b)) (h1 : Kept z e.1) (h2 : Kept z a → Kept z t) :
    Kept z t := h2 (by rw [q] at h1; exact h1)
theorem kept_of_pair2 {β : Type} {z a t : State} {b : β} {e : β × State} (q : e = (b, a)) (h1 : Kept z e.2) (h2 : Kept z a → Kept z t) :
    Kept z t := h2 (by rw [q] at h1; exact h1)
theorem kept_unshadow {z s : State} {p : Nat × Word → Bool} (h : Kept z s) : Kept z { s with shadow := List.filter p s.shadow } :=
  kept_mk (s := s) h ⟨rfl, rfl, rfl⟩ rfl ⟨rfl, rfl, rfl, rfl⟩
theorem kept_id {z s : State} (h : Kept z s) : Kept z (id s) := h
theorem kept_ite {z a b : State} {c : Prop} [Decidable c] (ha : Kept z a) (hb : Kept z b) : Kept z (if c then a else b) := by
  split <;> assumption
theorem kept_cond {z a b : State} {c : Bool} (ha : Kept z a) (hb : Kept z b) : Kept z (bif c then a else b) := by
  cases c <;> assumption
theorem kept_foldl {α : Type} {z t : State} {f : State → α → State} {l : List α} (ht : Kept z t) (hf : ∀ u x, Kept z u → Kept z (f u x)) :
    Kept z (l.foldl f t) := by
  induction l generalizing t with
  | nil => exact ht
  | cons a l ih => exact ih (hf _ _ ht)
theorem kept_foldl1 {α β : Type} {z : State} {t : State × β} {f : State × β → α → State × β} {l : List α} (ht : Kept z t.1)
    (hf : ∀ u x, Kept z u.1 → Kept z (f u x).1) : Kept z (l.foldl f t).1 := by
  induction l generalizing t with
  | nil => exact ht
  | cons a l ih => exact ih (hf _ _ ht)
theorem State.each_kept {z t : State} {f : State → Nat → State} {l : List Nat} (ht : Kept z t) (hf : ∀ u x, Kept z u → Kept z (f u x)) :
    Kept z (t.each l f) := kept_foldl ht hf
theorem State.onPorts_kept {z s : State} {f} (h : Kept z s) : Kept z (s.onPorts f) := kept_same h rfl
theorem State.onTables_kept {z s : State} {f} (h : Kept z s) : Kept z (s.onTables f) := kept_same h rfl
theorem State.onSw_kept {z s : State} {f} (h : Kept z s) : Kept z (s.onSw f) := kept_same h rfl
theorem State.onTrunk_kept {z s : State} {f} (h : Kept z s) : Kept z (s.onTrunk f) := kept_same h rfl
theorem State.onTime_kept {z s : State} {f} (h : Kept z s) : Kept z (s.onTime f) := kept_same h rfl
theorem State.onBoot_kept {z s : State} {f} (h : Kept z s) : Kept z (s.onBoot f) := kept_same h rfl
theorem State.onPower_kept {z s : State} {f} (h : Kept z s) : Kept z (s.onPower f) := kept_same h rfl
theorem State.onLease_kept {z s : State} {f} (h : Kept z s) : Kept z (s.onLease f) := kept_same h rfl
theorem State.onTwin_kept {z s : State} {f} (h : Kept z s) : Kept z (s.onTwin f) := kept_same h rfl
theorem State.onHost_kept {z s : State} {f : HostSt → HostSt} (h : Kept z s) (e : (f s.host).mem = s.host.mem ∧ (f s.host).held = s.host.held ∧ (f s.host).fifos = s.host.fifos) :
    Kept z (s.onHost f) := kept_same h (by simp only [State.seen, State.onHost, e.1, e.2.1, e.2.2])
theorem State.onSvc_kept {z s : State} {f : Service → Service} (h : Kept z s) (e : (f s.svc).poolMem = s.svc.poolMem) :
    Kept z (s.onSvc f) := kept_same h (by simp only [State.seen, State.onSvc, e])
theorem State.onSvc_kept_write {z s : State} {f : Service → Service} {a : Nat} {b : List Byte} (h : Kept z s)
    (e : (f s.svc).poolMem = s.svc.poolMem.write a b) : Kept z (s.onSvc f) :=
  h.trans ⟨rfl, rfl, ⟨[], rfl⟩, Nat.le_refl _, ⟨Nat.le_refl _, rfl, rfl, rfl⟩, fun hm =>
    ⟨hm.1, by unfold State.onSvc; dsimp only; rw [e]; exact Mem.wf_write _ _ _ hm.2⟩, id, id⟩
theorem State.onHost_kept_write {z s : State} {f : HostSt → HostSt} {a : Nat} {b : List Byte} (h : Kept z s)
    (e : (f s.host).mem = s.host.mem.write a b ∧ (f s.host).held = s.host.held ∧ (f s.host).fifos = s.host.fifos) : Kept z (s.onHost f) :=
  h.trans ⟨rfl, rfl, ⟨[], rfl⟩, Nat.le_refl _, ⟨Nat.le_refl _, rfl, rfl, rfl⟩, fun hm =>
    ⟨by unfold State.onHost; dsimp only; rw [e.1]; exact Mem.wf_write _ _ _ hm.1, hm.2⟩,
    fun hp => by unfold State.onHost State.held; dsimp only; rw [e.2.1]; exact hp,
    fun hp => by unfold State.onHost State.fifoTotal State.fifo; dsimp only; rw [e.2.2]; exact hp⟩
theorem State.onNv_kept {z s : State} {f : Nv → Nv} (h : Kept z s)
    (e : (f s.sys.nv).svnFloor = s.sys.nv.svnFloor ∧ (f s.sys.nv).rootKeyDigest = s.sys.nv.rootKeyDigest
      ∧ (f s.sys.nv).debugKeyDigest = s.sys.nv.debugKeyDigest ∧ (f s.sys.nv).moduleId = s.sys.nv.moduleId) :
    Kept z (s.onNv f) := kept_same h (by simp only [State.seen, State.onNv, State.onSys, e.1, e.2.1, e.2.2.1, e.2.2.2])
theorem State.onSys_kept {z s : State} {f : System → System} (h : Kept z s) (e : (f s.sys).nv = s.sys.nv) :
    Kept z (s.onSys f) := kept_same h (by simp only [State.seen, State.onSys, e])
theorem State.emit_kept {z s : State} {o : Out} (h : Kept z s) : Kept z (s.emit o) :=
  h.trans ⟨rfl, rfl, ⟨[o], rfl⟩, Nat.le_refl _, ⟨Nat.le_refl _, rfl, rfl, rfl⟩, id, id, id⟩
theorem State.fresh_kept {z s : State} (h : Kept z s) : Kept z s.fresh.2 :=
  h.trans ⟨rfl, rfl, ⟨[], rfl⟩, Nat.le_succ _, ⟨Nat.le_refl _, rfl, rfl, rfl⟩, id, id, id⟩
theorem State.freshBytes_kept {z s : State} {n : Nat} (h : Kept z s) : Kept z (s.freshBytes n).2 := by
  induction n generalizing s with
  | zero => exact h
  | succ n ih => unfold State.freshBytes; exact ih (State.fresh_kept h)
theorem State.wr_kept {z s : State} {a v} (h : Kept z s) : Kept z (s.wr a v) := kept_same h rfl
theorem State.setFld_kept {z s : State} {p f v} (h : Kept z s) : Kept z (s.setFld p f v) := kept_same h rfl
theorem State.setFlag_kept {z s : State} {p f v} (h : Kept z s) : Kept z (s.setFlag p f v) := kept_same h rfl
theorem State.setCtr_kept {z s : State} {p f v} (h : Kept z s) : Kept z (s.setCtr p f v) := kept_same h rfl
theorem State.count_kept {z s : State} {p f v} (h : Kept z s) : Kept z (s.count p f v) := kept_same h rfl

theorem State.setHeld_kept {z s : State} {k : Nat} {v : List RegWrite} (h : Kept z s) (hv : v.length ≤ 256) : Kept z (s.setHeld k v) :=
  h.trans ⟨rfl, rfl, ⟨[], rfl⟩, Nat.le_refl _, ⟨Nat.le_refl _, rfl, rfl, rfl⟩, id, fun hp p => by
    unfold State.setHeld State.held; dsimp only; rw [mget_mset]; split
    · exact hv
    · exact hp p, id⟩
theorem State.fifo_setFifo_if (s : State) (j k : Nat) (v : Fifo) : (s.setFifo k v).fifo j = if j = k then v else s.fifo j := by
  unfold State.setFifo State.fifo; dsimp only; rw [mget_mset]
theorem State.fifoTotal_eq (s : State) :
    s.fifoTotal = (s.fifo 0).held + (s.fifo 1).held + (s.fifo 2).held + (s.fifo 3).held + (s.fifo 4).held := by
  have : List.range 5 = [0, 1, 2, 3, 4] := by decide
  unfold State.fifoTotal; rw [this]; simp only [List.foldl]; omega
theorem State.fifoTotal_setFifo (s : State) (k : Nat) (v : Fifo) :
    (s.setFifo k v).fifoTotal + (if k < 5 then (s.fifo k).held else 0) = s.fifoTotal + (if k < 5 then v.held else 0) := by
  simp only [State.fifoTotal_eq, State.fifo_setFifo_if]
  by_cases h : k < 5
  · have : k = 0 ∨ k = 1 ∨ k = 2 ∨ k = 3 ∨ k = 4 := by omega
    obtain rfl | rfl | rfl | rfl | rfl := this <;> simp <;> omega
  · simp only [h, if_false]
    rw [if_neg (by omega), if_neg (by omega), if_neg (by omega), if_neg (by omega), if_neg (by omega)]
theorem fifo_tail_le (x : Bool × List Byte) (r : List (Bool × List Byte)) :
    (r.filter fun i => !i.1).length ≤ ((x :: r).filter fun i => !i.1).length := by
  simp only [List.filter_cons]; split <;> simp
theorem held_tail {f : Fifo} {x : Bool × List Byte} {r : List (Bool × List Byte)} {d g : Nat} (q : f.items = x :: r) :
    ({ items := r, drops := d, firstDrop := g } : Fifo).held ≤ f.held := by
  unfold Fifo.held; rw [q]; exact fifo_tail_le _ _
theorem held_tail2 {f : Fifo} {x y : Bool × List Byte} {r : List (Bool × List Byte)} {d g : Nat} (q : f.items = x :: y :: r) :
    ({ items := r, drops := d, firstDrop := g } : Fifo).held ≤ f.held := by
  unfold Fifo.held; rw [q]; exact Nat.le_trans (fifo_tail_le y r) (fifo_tail_le x (y :: r))
/-- A FIFO that does not grow. -/
theorem State.setFifo_kept {z s : State} {k : Nat} {v : Fifo} (h : Kept z s) (hv : v.held ≤ (s.fifo k).held) : Kept z (s.setFifo k v) :=
  h.trans ⟨rfl, rfl, ⟨[], rfl⟩, Nat.le_refl _, ⟨Nat.le_refl _, rfl, rfl, rfl⟩, id, id, fun hp => by
    have := State.fifoTotal_setFifo s k v
    split at this <;> omega⟩
/-- A FIFO that takes one item while the pool has room. -/
theorem State.setFifo_kept_room {z s : State} {k : Nat} {v : Fifo} (h : Kept z s) (hr : s.fifoTotal < 16384)
    (hv : v.held ≤ (s.fifo k).held + 1) : Kept z (s.setFifo k v) :=
  h.trans ⟨rfl, rfl, ⟨[], rfl⟩, Nat.le_refl _, ⟨Nat.le_refl _, rfl, rfl, rfl⟩, id, id, fun _ => by
    have := State.fifoTotal_setFifo s k v
    split at this <;> omega⟩


/-! ### Machine/Ops.lean -/

theorem State.merge_kept {z : State} (s : State) (a : Nat) (v : Word) (hz : Kept z s) : Kept z (State.merge s a v) := by
  unfold State.merge
  repeat' (first
    | (with_reducible first
      | exact hz | apply State.wr_kept | assumption)
    | extract_lets | dsimp only | dsimp +zetaDelta only)
theorem State.asWritten_kept {z : State} (s : State) (hz : Kept z s) : Kept z (State.asWritten s) := by
  unfold State.asWritten
  repeat' (first
    | (with_reducible first
      | exact hz | apply State.merge_kept | refine kept_foldl ?_ ?_ | refine kept_foldl1 ?_ ?_ | assumption)
    | (intro u x hu) | (intro u hu) | extract_lets | dsimp only | dsimp +zetaDelta only)

/-! ### Machine/Access.lean -/

theorem State.setGuard_kept {z : State} (s : State) (k : Nat) (v : Option Guard) (hz : Kept z s) : Kept z (State.setGuard s k v) :=
    kept_same hz rfl
theorem State.setMsixE_kept {z : State} (s : State) (k : Nat) (v : Msix) (hz : Kept z s) : Kept z (State.setMsixE s k v) := kept_same hz
    rfl
theorem State.setRing_kept {z : State} (s : State) (k : Nat) (v : RingSt) (hz : Kept z s) : Kept z (State.setRing s k v) := kept_same hz
    rfl
theorem State.setPunts_kept {z : State} (s : State) (k : Nat) (v : List Punt) (hz : Kept z s) : Kept z (State.setPunts s k v) :=
    kept_same hz rfl
theorem State.setPairTurn_kept {z : State} (s : State) (k : Nat) (v : Bool) (hz : Kept z s) : Kept z (State.setPairTurn s k v) :=
    kept_same hz rfl
theorem State.setFrozen_kept {z : State} (s : State) (k : Nat) (v : Bool) (hz : Kept z s) : Kept z (State.setFrozen s k v) := kept_same
    hz rfl
theorem State.setMac_kept {z : State} (s : State) (k : Nat) (v : Mac) (hz : Kept z s) : Kept z (State.setMac s k v) := kept_same hz rfl
theorem State.setPitch_kept {z : State} (s : State) (k : Nat) (v : Pitch) (hz : Kept z s) : Kept z (State.setPitch s k v) := kept_same hz
    rfl
theorem State.setLane_kept {z : State} (s : State) (k : Nat) (v : LaneSt) (hz : Kept z s) : Kept z (State.setLane s k v) := kept_same hz
    rfl
theorem State.setWear_kept {z : State} (s : State) (k : Nat) (v : Wear) (hz : Kept z s) : Kept z (State.setWear s k v) := kept_same hz rfl
theorem State.setWearHour_kept {z : State} (s : State) (k : Nat) (v : Nat) (hz : Kept z s) : Kept z (State.setWearHour s k v) :=
    kept_same hz rfl
theorem State.setSpareNoted_kept {z : State} (s : State) (k : Nat) (v : Bool) (hz : Kept z s) : Kept z (State.setSpareNoted s k v) :=
    kept_same hz rfl
theorem State.setSpareUsed_kept {z : State} (s : State) (k : Nat) (v : Nat) (hz : Kept z s) : Kept z (State.setSpareUsed s k v) :=
    kept_same hz rfl
theorem State.setUcState_kept {z : State} (s : State) (k : Nat) (v : Nat) (hz : Kept z s) : Kept z (State.setUcState s k v) := kept_same
    hz rfl
theorem State.setRule_kept {z : State} (s : State) (k : Nat) (v : RuleEntry) (hz : Kept z s) : Kept z (State.setRule s k v) := kept_same
    hz rfl
theorem State.setTemplate_kept {z : State} (s : State) (k : Nat) (v : Template) (hz : Kept z s) : Kept z (State.setTemplate s k v) :=
    kept_same hz rfl
theorem State.setMeter_kept {z : State} (s : State) (k : Nat) (v : Meter) (hz : Kept z s) : Kept z (State.setMeter s k v) := kept_same hz
    rfl
theorem State.setGrpStatic_kept {z : State} (s : State) (k : Nat) (v : Nat) (hz : Kept z s) : Kept z (State.setGrpStatic s k v) :=
    kept_same hz rfl
theorem State.setGrpSnoop_kept {z : State} (s : State) (k : Nat) (v : Nat) (hz : Kept z s) : Kept z (State.setGrpSnoop s k v) :=
    kept_same hz rfl
theorem State.setMember_kept {z : State} (s : State) (k : Nat) (v : Option Nat) (hz : Kept z s) : Kept z (State.setMember s k v) :=
    kept_same hz rfl
theorem State.setMirCount_kept {z : State} (s : State) (k : Nat) (v : Nat) (hz : Kept z s) : Kept z (State.setMirCount s k v) :=
    kept_same hz rfl
theorem State.setBdCnt_kept {z : State} (s : State) (k : Nat) (v : List Nat) (hz : Kept z s) : Kept z (State.setBdCnt s k v) := kept_same
    hz rfl
theorem State.setDynCount_kept {z : State} (s : State) (k : Nat) (v : Nat) (hz : Kept z s) : Kept z (State.setDynCount s k v) :=
    kept_same hz rfl
theorem State.setVoq_kept {z : State} (s : State) (k : Nat) (v : Packer) (hz : Kept z s) : Kept z (State.setVoq s k v) := kept_same hz rfl
theorem State.setTurn_kept {z : State} (s : State) (k : Nat) (v : Nat) (hz : Kept z s) : Kept z (State.setTurn s k v) := kept_same hz rfl
theorem State.setWithheld_kept {z : State} (s : State) (k : Nat) (v : Bool) (hz : Kept z s) : Kept z (State.setWithheld s k v) :=
    kept_same hz rfl
theorem State.setStream_kept {z : State} (s : State) (k : Nat) (v : Stream) (hz : Kept z s) : Kept z (State.setStream s k v) := kept_same
    hz rfl
theorem State.setEf_kept {z : State} (s : State) (k : Nat) (v : Option EFrame) (hz : Kept z s) : Kept z (State.setEf s k v) := kept_same
    hz rfl
theorem State.setCellSet_kept {z : State} (s : State) (k : Nat) (v : Nat × Nat) (hz : Kept z s) : Kept z (State.setCellSet s k v) :=
    kept_same hz rfl
theorem State.setQueue_kept {z : State} (s : State) (k : Nat) (v : Queue) (hz : Kept z s) : Kept z (State.setQueue s k v) := kept_same hz
    rfl
theorem State.setChain_kept {z : State} (s : State) (k : Nat) (v : List Nat) (hz : Kept z s) : Kept z (State.setChain s k v) := kept_same
    hz rfl
theorem State.setInjSide_kept {z : State} (s : State) (k : Nat) (v : List InjMeta) (hz : Kept z s) : Kept z (State.setInjSide s k v) :=
    kept_same hz rfl
theorem State.setVoqUsed_kept {z : State} (s : State) (k : Nat) (v : Nat) (hz : Kept z s) : Kept z (State.setVoqUsed s k v) := kept_same
    hz rfl
theorem State.setHeadroomUsed_kept {z : State} (s : State) (k : Nat) (v : Nat) (hz : Kept z s) : Kept z (State.setHeadroomUsed s k v) :=
    kept_same hz rfl
theorem State.setWstage_kept {z : State} (s : State) (k : Nat) (v : Nat) (hz : Kept z s) : Kept z (State.setWstage s k v) := kept_same hz
    rfl
theorem State.setRstage_kept {z : State} (s : State) (k : Nat) (v : Nat) (hz : Kept z s) : Kept z (State.setRstage s k v) := kept_same hz
    rfl
theorem State.setStackSt_kept {z : State} (s : State) (k : Nat) (v : StackSt) (hz : Kept z s) : Kept z (State.setStackSt s k v) :=
    kept_same hz rfl
theorem State.setPoolFull_kept {z : State} (s : State) (k : Nat) (v : Bool) (hz : Kept z s) : Kept z (State.setPoolFull s k v) :=
    kept_same hz rfl
theorem State.setLfsr_kept {z : State} (s : State) (k : Nat) (v : Nat) (hz : Kept z s) : Kept z (State.setLfsr s k v) := kept_same hz rfl
theorem State.setSchd_kept {z : State} (s : State) (k : Nat) (v : List Word) (hz : Kept z s) : Kept z (State.setSchd s k v) := kept_same
    hz rfl
theorem State.setNode_kept {z : State} (s : State) (k : Nat) (v : Node) (hz : Kept z s) : Kept z (State.setNode s k v) := kept_same hz rfl
theorem State.setPsched_kept {z : State} (s : State) (k : Nat) (v : PortSched) (hz : Kept z s) : Kept z (State.setPsched s k v) :=
    kept_same hz rfl
theorem State.setGate_kept {z : State} (s : State) (k : Nat) (v : Gate) (hz : Kept z s) : Kept z (State.setGate s k v) := kept_same hz rfl
theorem State.setSample_kept {z : State} (s : State) (k : Nat) (v : Sample) (hz : Kept z s) : Kept z (State.setSample s k v) := kept_same
    hz rfl
theorem State.setFlexe_kept {z : State} (s : State) (k : Nat) (v : Flexe) (hz : Kept z s) : Kept z (State.setFlexe s k v) := kept_same hz
    rfl
theorem State.setClient_kept {z : State} (s : State) (k : Nat) (v : Client) (hz : Kept z s) : Kept z (State.setClient s k v) := kept_same
    hz rfl
theorem State.setRx_kept {z : State} (s : State) (lp k : Nat) (r : Option RxFrame) (hz : Kept z s) : Kept z (State.setRx s lp k r) :=
    kept_same hz rfl
theorem State.setPack_kept {z : State} (s : State) (k : Nat) (v : Pack) (hz : Kept z s) : Kept z (State.setPack s k v) := kept_same hz rfl
theorem State.setFold_kept {z : State} (s : State) (k : Nat) (v : Fold) (hz : Kept z s) : Kept z (State.setFold s k v) := kept_same hz rfl
theorem State.setMissCount_kept {z : State} (s : State) (k : Nat) (v : Nat) (hz : Kept z s) : Kept z (State.setMissCount s k v) :=
    kept_same hz rfl
theorem State.setLink_kept {z : State} (s : State) (k : Nat) (v : Link) (hz : Kept z s) : Kept z (State.setLink s k v) := kept_same hz rfl
theorem State.setSrcStream_kept {z : State} (s : State) (k : Nat) (v : Option SrcStream) (hz : Kept z s) : Kept z (State.setSrcStream s k
    v) := kept_same hz rfl
theorem State.setDstStream_kept {z : State} (s : State) (k : Nat) (v : Option FabStream) (hz : Kept z s) : Kept z (State.setDstStream s k
    v) := kept_same hz rfl
theorem State.setLostItems_kept {z : State} (s : State) (k : Nat) (v : List (Nat × Nat × Nat)) (hz : Kept z s) : Kept z
    (State.setLostItems s k v) := kept_same hz rfl
theorem State.setDeliver_kept {z : State} (s : State) (k : Nat) (v : List Cell) (hz : Kept z s) : Kept z (State.setDeliver s k v) :=
    kept_same hz rfl
theorem State.setGroupTurn_kept {z : State} (s : State) (k : Nat) (v : Nat) (hz : Kept z s) : Kept z (State.setGroupTurn s k v) :=
    kept_same hz rfl
theorem State.setTb_kept {z : State} (s : State) (k : Nat) (v : TimeBase) (hz : Kept z s) : Kept z (State.setTb s k v) := kept_same hz rfl
theorem State.setArrival_kept {z : State} (s : State) (k : Nat) (v : Nat × Nat) (hz : Kept z s) : Kept z (State.setArrival s k v) :=
    kept_same hz rfl
theorem State.setInjQ_kept {z : State} (s : State) (k : Nat) (v : List InjDesc) (hz : Kept z s) : Kept z (State.setInjQ s k v) :=
    kept_same hz rfl
theorem State.setPortBucket_kept {z : State} (s : State) (k : Nat) (v : Bucket) (hz : Kept z s) : Kept z (State.setPortBucket s k v) :=
    kept_same hz rfl
theorem State.setBuf_kept {z : State} (s : State) (k : Nat) (v : Buf) (hz : Kept z s) : Kept z (State.setBuf s k v) := kept_same hz rfl
theorem State.setIsland_kept {z : State} (s : State) (k : Nat) (v : IslandSt) (hz : Kept z s) : Kept z (State.setIsland s k v) :=
    kept_same hz rfl
theorem State.setBlock_kept {z : State} (s : State) (k : Nat) (v : Block) (hz : Kept z s) : Kept z (State.setBlock s k v) := kept_same hz
    rfl
theorem State.setLoom_kept {z : State} (s : State) (k : Nat) (v : Loom) (hz : Kept z s) : Kept z (State.setLoom s k v) := kept_same hz rfl

/-! ### Machine/Flags.lean -/

theorem State.signal_kept {z : State} (s : State) (v : Nat) (hz : Kept z s) : Kept z (State.signal s v) := by
  unfold State.signal
  repeat' (first
    | (with_reducible first
      | exact hz | apply State.emit_kept | refine State.onHost_kept ?_ ⟨rfl, rfl, rfl⟩ | apply kept_ite | assumption)
    | (intro u x hu) | (intro u hu) | extract_lets | split | dsimp only | dsimp +zetaDelta only)
theorem State.flushPba_kept {z : State} (s : State) (hz : Kept z s) : Kept z (State.flushPba s) := by
  unfold State.flushPba
  repeat' (first
    | (with_reducible first
      | exact hz | refine State.onHost_kept ?_ ⟨rfl, rfl, rfl⟩ | apply State.emit_kept | apply kept_ite | refine kept_foldl ?_ ?_
      | refine kept_foldl1 ?_ ?_ | assumption)
    | (intro u x hu) | (intro u hu) | extract_lets | split | dsimp only | dsimp +zetaDelta only)
theorem State.syncFifo_kept {z : State} (s : State) (f : Nat) (hz : Kept z s) : Kept z (State.syncFifo s f) := by
  unfold State.syncFifo
  repeat' (first
    | (with_reducible first
      | exact hz | apply State.setFld_kept | assumption)
    | extract_lets | dsimp only | dsimp +zetaDelta only)
theorem State.fifoPut_kept {z : State} (s : State) (f : Nat) (item : List Byte) (hz : Kept z s) : Kept z (State.fifoPut s f item).1 := by
  unfold State.fifoPut; dsimp only
  split
  · exact State.setFifo_kept hz (Nat.le_refl _)
  · next hc =>
    simp only [Bool.or_eq_true, decide_eq_true_eq, not_or, Nat.not_le] at hc
    refine State.syncFifo_kept _ _ (State.setFifo_kept_room hz hc.2 ?_)
    unfold Fifo.held; split <;> simp [List.filter_append]
theorem State.setEvtBit_kept {z : State} (s : State) (a n : Nat) (b : Bool) (hz : Kept z s) : Kept z (State.setEvtBit s a n b) := by
  unfold State.setEvtBit
  repeat' (first
    | (with_reducible first
      | exact hz | apply State.wr_kept | apply kept_ite | assumption)
    | extract_lets | split | dsimp only | dsimp +zetaDelta only)
theorem State.bumpSeq_kept {z : State} (s : State) (pg src : Nat) (hz : Kept z s) : Kept z (State.bumpSeq s pg src) := by
  unfold State.bumpSeq
  repeat' (first
    | (with_reducible first
      | exact hz | apply State.wr_kept | assumption)
    | extract_lets | dsimp only | dsimp +zetaDelta only)
theorem State.journal_kept {z : State} (s : State) (r : List Byte) (hz : Kept z s) : Kept z (State.journal s r) := by
  unfold State.journal
  refine State.onNv_kept hz ?_
  split <;> exact ⟨rfl, rfl, rfl, rfl⟩
theorem State.journalNote_kept {z : State} (s : State) (code : Nat) (hz : Kept z s) : Kept z (State.journalNote s code) := by
  unfold State.journalNote
  repeat' (first
    | (with_reducible first
      | exact hz | apply State.journal_kept | assumption)
    | extract_lets | dsimp only | dsimp +zetaDelta only)
theorem State.assert1_kept {z : State} (s : State) (pg src : Nat) (hz : Kept z s) : Kept z (State.assert1 s pg src).1 := by
  unfold State.assert1
  repeat' (first
    | (with_reducible first
      | exact hz | apply State.bumpSeq_kept | apply State.count_kept | apply State.setEvtBit_kept | apply State.journal_kept
      | apply State.fifoPut_kept | apply State.signal_kept | refine State.onSys_kept ?_ rfl | apply kept_ite | assumption)
    | (intro u x hu) | (intro u hu) | extract_lets | (split <;> (rename_i q; with_reducible refine kept_of_pair q ?_ (fun hu => ?_)))
    | (split <;> (rename_i q; with_reducible refine kept_of_pair2 q ?_ (fun hu => ?_))) | split | dsimp only | dsimp +zetaDelta only)
theorem State.raise_kept {z : State} (s : State) (pg src : Nat) (hz : Kept z s) : Kept z (State.raise s pg src) := by
  unfold State.raise
  repeat' (first
    | (with_reducible first
      | exact hz | apply State.assert1_kept | apply kept_ite | assumption)
    | extract_lets | (split <;> (rename_i q; with_reducible refine kept_of_pair q ?_ (fun hu => ?_)))
    | (split <;> (rename_i q; with_reducible refine kept_of_pair2 q ?_ (fun hu => ?_))) | split | dsimp only | dsimp +zetaDelta only)
theorem State.noteLevel_kept {z : State} (s : State) (pg src : Nat) (b : Bool) (hz : Kept z s) : Kept z (State.noteLevel s pg src b) := by
  unfold State.noteLevel
  repeat' (first
    | (with_reducible first
      | exact hz | refine State.onHost_kept ?_ ⟨rfl, rfl, rfl⟩ | assumption)
    | (intro u x hu) | (intro u hu) | extract_lets | dsimp only | dsimp +zetaDelta only)
theorem State.raiseLive_kept {z : State} (s : State) (pg src : Nat) (hz : Kept z s) : Kept z (State.raiseLive s pg src) := by
  unfold State.raiseLive
  repeat' (first
    | (with_reducible first
      | exact hz | apply State.noteLevel_kept | apply State.setEvtBit_kept | apply State.raise_kept | apply kept_ite | assumption)
    | extract_lets | split | dsimp only | dsimp +zetaDelta only)
theorem State.lower_kept {z : State} (s : State) (pg src : Nat) (hz : Kept z s) : Kept z (State.lower s pg src) := by
  unfold State.lower
  repeat' (first
    | (with_reducible first
      | exact hz | apply State.noteLevel_kept | apply State.setEvtBit_kept | apply kept_ite | assumption)
    | extract_lets | split | dsimp only | dsimp +zetaDelta only)
theorem State.fifoPush_kept {z : State} (s : State) (f : Nat) (item : List Byte) (hz : Kept z s) : Kept z (State.fifoPush s f item) := by
  unfold State.fifoPush
  repeat' (first
    | (with_reducible first
      | exact hz | apply State.fifoPut_kept | apply State.raise_kept | apply kept_ite | assumption)
    | extract_lets | (split <;> (rename_i q; with_reducible refine kept_of_pair q ?_ (fun hu => ?_)))
    | (split <;> (rename_i q; with_reducible refine kept_of_pair2 q ?_ (fun hu => ?_))) | split | dsimp only | dsimp +zetaDelta only)
theorem State.portCtr_kept {z : State} (s : State) (lp i : Nat) (n : Nat) (hz : Kept z s) : Kept z (State.portCtr s lp i n) := by
  unfold State.portCtr
  repeat' (first
    | (with_reducible first
      | exact hz | apply State.setCtr_kept | apply State.setEvtBit_kept | apply State.raise_kept | apply kept_ite | assumption)
    | extract_lets | split | dsimp only | dsimp +zetaDelta only)
theorem State.engCtr_kept {z : State} (s : State) (p n : Nat) (c : Nat) (hz : Kept z s) : Kept z (State.engCtr s p n c) := by
  unfold State.engCtr
  repeat' (first
    | (with_reducible first
      | exact hz | apply State.setCtr_kept | apply State.setEvtBit_kept | apply State.raise_kept | apply kept_ite | assumption)
    | extract_lets | split | dsimp only | dsimp +zetaDelta only)
theorem State.perfHit_kept {z : State} (s : State) (isl ev n : Nat) (priv master cls page : Option Nat) (hz : Kept z s) : Kept z
    (State.perfHit s isl ev n priv master cls page) := by
  unfold State.perfHit
  repeat' (first
    | (with_reducible first
      | exact hz | refine State.each_kept ?_ ?_ | apply State.count_kept | apply kept_ite | assumption)
    | (intro u x hu) | (intro u hu) | extract_lets | split | dsimp only | dsimp +zetaDelta only)
/-! ### Machine/Port.lean -/

theorem State.incFld_kept {z : State} (s : State) (pg : Nat) (f : Fld) (n : Nat) (hz : Kept z s) : Kept z (State.incFld s pg f n) := by
  unfold State.incFld
  repeat' (first
    | (with_reducible first
      | exact hz | apply State.setFld_kept | assumption)
    | extract_lets | dsimp only | dsimp +zetaDelta only)
theorem State.decFld_kept {z : State} (s : State) (pg : Nat) (f : Fld) (n : Nat) (hz : Kept z s) : Kept z (State.decFld s pg f n) := by
  unfold State.decFld
  repeat' (first
    | (with_reducible first
      | exact hz | apply State.setFld_kept | assumption)
    | extract_lets | dsimp only | dsimp +zetaDelta only)
theorem State.setBitOf_kept {z : State} (s : State) (pg : Nat) (f : Fld) (n : Nat) (b : Bool) (hz : Kept z s) : Kept z (State.setBitOf s
    pg f n b) := by
  unfold State.setBitOf
  repeat' (first
    | (with_reducible first
      | exact hz | apply State.setFld_kept | apply kept_ite | assumption)
    | extract_lets | split | dsimp only | dsimp +zetaDelta only)
theorem State.countRaise_kept {z : State} (s : State) (pg off src : Nat) (hz : Kept z s) : Kept z (State.countRaise s pg off src) := by
  unfold State.countRaise
  repeat' (first
    | (with_reducible first
      | exact hz | apply State.count_kept | apply State.raise_kept | assumption)
    | extract_lets | dsimp only | dsimp +zetaDelta only)
theorem State.setPortFld_kept {z : State} (s : State) (p : Nat) (f : Fld) (v : Nat) (hz : Kept z s) : Kept z (State.setPortFld s p f v)
    := by
  unfold State.setPortFld
  repeat' (first
    | (with_reducible first
      | exact hz | apply State.setFld_kept | assumption)
    | extract_lets | dsimp only | dsimp +zetaDelta only)
theorem State.startHold_kept {z : State} (s : State) (lp : Nat) (hz : Kept z s) : Kept z (State.startHold s lp) := by
  unfold State.startHold
  repeat' (first
    | (with_reducible first
      | exact hz | apply State.setPitch_kept | apply kept_ite | assumption)
    | extract_lets | split | dsimp only | dsimp +zetaDelta only)
theorem State.onLane_kept {z : State} (s : State) (e l : Nat) (f : LaneSt → LaneSt) (hz : Kept z s) : Kept z (State.onLane s e l f) := by
  unfold State.onLane
  repeat' (first
    | (with_reducible first
      | exact hz | apply State.setLane_kept | assumption)
    | extract_lets | dsimp only | dsimp +zetaDelta only)
theorem State.takeSpare_kept {z : State} (s : State) (e sp : Nat) (hz : Kept z s) : Kept z (State.takeSpare s e sp) := by
  unfold State.takeSpare
  repeat' (first
    | (with_reducible first
      | exact hz | apply State.setSpareUsed_kept | apply kept_ite | assumption)
    | extract_lets | split | dsimp only | dsimp +zetaDelta only)
theorem State.giveSpare_kept {z : State} (s : State) (e sp : Nat) (hz : Kept z s) : Kept z (State.giveSpare s e sp) := by
  unfold State.giveSpare
  repeat' (first
    | (with_reducible first
      | exact hz | apply State.setSpareUsed_kept | apply kept_ite | assumption)
    | extract_lets | split | dsimp only | dsimp +zetaDelta only)
theorem State.noteSpares_kept {z : State} (s : State) (e l : Nat) (hz : Kept z s) : Kept z (State.noteSpares s e l) := by
  unfold State.noteSpares
  repeat' (first
    | (with_reducible first
      | exact hz | apply State.setSpareNoted_kept | apply State.raise_kept | apply kept_ite | assumption)
    | extract_lets | split | dsimp only | dsimp +zetaDelta only)
theorem State.startSwitch_kept {z : State} (s : State) (e l : Nat) (hz : Kept z s) : Kept z (State.startSwitch s e l).1 := by
  unfold State.startSwitch
  repeat' (first
    | (with_reducible first
      | exact hz | apply State.noteSpares_kept | apply State.onLane_kept | apply State.takeSpare_kept | apply kept_ite | assumption)
    | (intro u x hu) | (intro u hu) | extract_lets | (split <;> (rename_i q; with_reducible refine kept_of_pair q ?_ (fun hu => ?_)))
    | (split <;> (rename_i q; with_reducible refine kept_of_pair2 q ?_ (fun hu => ?_))) | split | dsimp only | dsimp +zetaDelta only)
theorem State.noSpare_kept {z : State} (s : State) (e l : Nat) (hz : Kept z s) : Kept z (State.noSpare s e l) := by
  unfold State.noSpare
  repeat' (first
    | (with_reducible first
      | exact hz | apply State.onLane_kept | apply State.raise_kept | apply kept_ite | assumption)
    | (intro u x hu) | (intro u hu) | extract_lets | split | dsimp only | dsimp +zetaDelta only)
theorem State.deferredSwitch_kept {z : State} (s : State) (e l : Nat) (hz : Kept z s) : Kept z (State.deferredSwitch s e l) := by
  unfold State.deferredSwitch
  repeat' (first
    | (with_reducible first
      | exact hz | apply State.startSwitch_kept | apply State.noSpare_kept | apply kept_ite | assumption)
    | extract_lets | (split <;> (rename_i q; with_reducible refine kept_of_pair q ?_ (fun hu => ?_)))
    | (split <;> (rename_i q; with_reducible refine kept_of_pair2 q ?_ (fun hu => ?_))) | split | dsimp only | dsimp +zetaDelta only)
theorem State.enterPitch_kept {z : State} (s : State) (lp st : Nat) (hz : Kept z s) : Kept z (State.enterPitch s lp st) := by
  unfold State.enterPitch
  repeat' (first
    | (with_reducible first
      | exact hz | apply State.setPitch_kept | apply State.engCtr_kept | refine State.each_kept ?_ ?_ | apply State.deferredSwitch_kept
      | apply kept_ite | assumption)
    | (intro u x hu) | (intro u hu) | extract_lets | split | dsimp only | dsimp +zetaDelta only)
theorem State.unpark_kept {z : State} (s : State) (p : Nat) (hz : Kept z s) : Kept z (State.unpark s p) := by
  unfold State.unpark
  repeat' (first
    | (with_reducible first
      | exact hz | apply State.setPortFld_kept | refine State.each_kept ?_ ?_ | apply State.enterPitch_kept
      | apply State.startHold_kept | apply kept_ite | assumption)
    | (intro u x hu) | (intro u hu) | extract_lets | split | dsimp only | dsimp +zetaDelta only)
theorem State.setMacFld_kept {z : State} (s : State) (lp : Nat) (f : Fld) (v : Nat) (hz : Kept z s) : Kept z (State.setMacFld s lp f v)
    := by
  unfold State.setMacFld
  repeat' (first
    | (with_reducible first
      | exact hz | apply State.setFld_kept | assumption)
    | extract_lets | dsimp only | dsimp +zetaDelta only)
theorem State.setPfcOcc_kept {z : State} (s : State) (lp c v : Nat) (hz : Kept z s) : Kept z (State.setPfcOcc s lp c v) := by
  unfold State.setPfcOcc
  repeat' (first
    | (with_reducible first
      | exact hz | apply State.setFld_kept | assumption)
    | extract_lets | dsimp only | dsimp +zetaDelta only)
theorem State.txCount_kept {z : State} (s : State) (lp : Nat) (bytes : List Byte) (hz : Kept z s) : Kept z (State.txCount s lp bytes) :=
    by
  unfold State.txCount
  repeat' (first
    | (with_reducible first
      | exact hz | apply State.portCtr_kept | apply kept_ite | assumption)
    | extract_lets | (split <;> (rename_i q; with_reducible refine kept_of_pair q ?_ (fun hu => ?_)))
    | (split <;> (rename_i q; with_reducible refine kept_of_pair2 q ?_ (fun hu => ?_))) | split | dsimp only | dsimp +zetaDelta only)
theorem State.keepGap_kept {z : State} (s : State) (lp n : Nat) (hz : Kept z s) : Kept z (State.keepGap s lp n) := by
  unfold State.keepGap
  repeat' (first
    | (with_reducible first
      | exact hz | apply State.setMac_kept | assumption)
    | extract_lets | dsimp only | dsimp +zetaDelta only)
theorem State.sendPause_kept {z : State} (s : State) (lp c quanta : Nat) (hz : Kept z s) : Kept z (State.sendPause s lp c quanta) := by
  unfold State.sendPause
  repeat' (first
    | (with_reducible first
      | exact hz | apply State.setMac_kept | apply kept_ite | assumption)
    | extract_lets | (split <;> (rename_i q; with_reducible refine kept_of_pair q ?_ (fun hu => ?_)))
    | (split <;> (rename_i q; with_reducible refine kept_of_pair2 q ?_ (fun hu => ?_))) | split | dsimp only | dsimp +zetaDelta only)
theorem State.setPausing_kept {z : State} (s : State) (lp c : Nat) (b : Bool) (hz : Kept z s) : Kept z (State.setPausing s lp c b) := by
  unfold State.setPausing
  repeat' (first
    | (with_reducible first
      | exact hz | refine State.each_kept ?_ ?_ | apply State.setMacFld_kept | apply kept_ite | assumption)
    | (intro u x hu) | (intro u hu) | extract_lets | split | dsimp only | dsimp +zetaDelta only)
theorem State.pfcCheckHigh_kept {z : State} (s : State) (lp c : Nat) (hz : Kept z s) : Kept z (State.pfcCheckHigh s lp c) := by
  unfold State.pfcCheckHigh
  repeat' (first
    | (with_reducible first
      | exact hz | apply State.sendPause_kept | apply State.setPausing_kept | apply kept_ite | assumption)
    | extract_lets | (split <;> (rename_i q; with_reducible refine kept_of_pair q ?_ (fun hu => ?_)))
    | (split <;> (rename_i q; with_reducible refine kept_of_pair2 q ?_ (fun hu => ?_))) | split | dsimp only | dsimp +zetaDelta only)
theorem State.pfcCheckLow_kept {z : State} (s : State) (lp c : Nat) (hz : Kept z s) : Kept z (State.pfcCheckLow s lp c) := by
  unfold State.pfcCheckLow
  repeat' (first
    | (with_reducible first
      | exact hz | apply State.sendPause_kept | apply State.setPausing_kept | apply kept_ite | assumption)
    | extract_lets | (split <;> (rename_i q; with_reducible refine kept_of_pair q ?_ (fun hu => ?_)))
    | (split <;> (rename_i q; with_reducible refine kept_of_pair2 q ?_ (fun hu => ?_))) | split | dsimp only | dsimp +zetaDelta only)
theorem State.pfcAdd_kept {z : State} (s : State) (lp c n : Nat) (hz : Kept z s) : Kept z (State.pfcAdd s lp c n) := by
  unfold State.pfcAdd
  repeat' (first
    | (with_reducible first
      | exact hz | apply State.setPfcOcc_kept | apply State.pfcCheckHigh_kept | assumption)
    | extract_lets | dsimp only | dsimp +zetaDelta only)
theorem State.pfcSub_kept {z : State} (s : State) (lp c n : Nat) (hz : Kept z s) : Kept z (State.pfcSub s lp c n) := by
  unfold State.pfcSub
  repeat' (first
    | (with_reducible first
      | exact hz | apply State.setPfcOcc_kept | apply State.pfcCheckLow_kept | assumption)
    | extract_lets | dsimp only | dsimp +zetaDelta only)
theorem State.pfcCheckAll_kept {z : State} (s : State) (lp : Nat) (hz : Kept z s) : Kept z (State.pfcCheckAll s lp) := by
  unfold State.pfcCheckAll
  repeat' (first
    | (with_reducible first
      | exact hz | refine State.each_kept ?_ ?_ | apply State.pfcCheckHigh_kept | assumption)
    | (intro u x hu) | (intro u hu) | extract_lets | dsimp only | dsimp +zetaDelta only)
theorem State.clearPause_kept {z : State} (s : State) (lp : Nat) (hz : Kept z s) : Kept z (State.clearPause s lp) := by
  unfold State.clearPause
  repeat' (first
    | (with_reducible first
      | exact hz | apply State.setMacFld_kept | apply State.setMac_kept | assumption)
    | extract_lets | dsimp only | dsimp +zetaDelta only)

/-! ### Machine/Buffer.lean -/

theorem State.bufRelease_kept {z : State} (s : State) (pool idx : Nat) (hz : Kept z s) : Kept z (State.bufRelease s pool idx) := by
  unfold State.bufRelease
  repeat' (first
    | (with_reducible first
      | exact hz | apply State.setBuf_kept | apply State.incFld_kept | apply State.decFld_kept | assumption | apply kept_id)
    | extract_lets | (split <;> (rename_i q; with_reducible refine kept_of_pair q ?_ (fun hu => ?_)))
    | (split <;> (rename_i q; with_reducible refine kept_of_pair2 q ?_ (fun hu => ?_))) | split | dsimp only | dsimp +zetaDelta only)
theorem State.bufFree_kept {z : State} (s : State) (req h : Nat) (hz : Kept z s) : Kept z (State.bufFree s req h).1 := by
  unfold State.bufFree
  repeat' (first
    | (with_reducible first
      | exact hz | apply State.bufRelease_kept | apply State.count_kept | apply kept_ite | assumption)
    | extract_lets | split | dsimp only | dsimp +zetaDelta only)
theorem State.injDone_kept {z : State} (s : State) (i : Option InjMeta) (hz : Kept z s) : Kept z (State.injDone s i) := by
  unfold State.injDone
  repeat' (first
    | (with_reducible first
      | exact hz | apply State.bufFree_kept | assumption)
    | extract_lets | (split <;> (rename_i q; with_reducible refine kept_of_pair q ?_ (fun hu => ?_)))
    | (split <;> (rename_i q; with_reducible refine kept_of_pair2 q ?_ (fun hu => ?_))) | split | dsimp only | dsimp +zetaDelta only)
theorem State.takeCells_kept {z : State} (s : State) (sl n : Nat) (hz : Kept z s) : Kept z (State.takeCells s sl n) := by
  unfold State.takeCells
  repeat' (first
    | (with_reducible first
      | exact hz | apply State.decFld_kept | apply State.incFld_kept | assumption)
    | extract_lets | dsimp only | dsimp +zetaDelta only)
theorem State.giveCells_kept {z : State} (s : State) (sl n : Nat) (hz : Kept z s) : Kept z (State.giveCells s sl n) := by
  unfold State.giveCells
  repeat' (first
    | (with_reducible first
      | exact hz | apply State.incFld_kept | apply State.decFld_kept | assumption)
    | extract_lets | dsimp only | dsimp +zetaDelta only)
theorem State.takeDesc_kept {z : State} (s : State) (sl : Nat) (hz : Kept z s) : Kept z (State.takeDesc s sl) := by
  unfold State.takeDesc
  repeat' (first
    | (with_reducible first
      | exact hz | apply State.decFld_kept | apply State.incFld_kept | apply State.raise_kept | apply kept_ite | assumption)
    | extract_lets | split | dsimp only | dsimp +zetaDelta only)
theorem State.giveDesc_kept {z : State} (s : State) (sl : Nat) (hz : Kept z s) : Kept z (State.giveDesc s sl) := by
  unfold State.giveDesc
  repeat' (first
    | (with_reducible first
      | exact hz | apply State.incFld_kept | apply State.decFld_kept | assumption)
    | extract_lets | dsimp only | dsimp +zetaDelta only)
theorem State.voqAdmit_kept {z : State} (s : State) (sl : Nat) (acct : Option Nat) (c n : Nat) (hz : Kept z s) : Kept z (State.voqAdmit s
    sl acct c n).1 := by
  unfold State.voqAdmit
  repeat' (first
    | (with_reducible first
      | exact hz | apply State.takeCells_kept | apply State.takeDesc_kept | apply State.setVoqUsed_kept
      | apply State.setHeadroomUsed_kept | apply State.pfcAdd_kept | apply State.countRaise_kept | apply State.portCtr_kept
      | apply State.raise_kept | apply kept_ite | assumption)
    | extract_lets | split | dsimp only | dsimp +zetaDelta only)
theorem State.voqShrink_kept {z : State} (s : State) (sl : Nat) (ch : Charge) (n : Nat) (hz : Kept z s) : Kept z (State.voqShrink s sl ch
    n).1 := by
  unfold State.voqShrink
  repeat' (first
    | (with_reducible first
      | exact hz | apply State.giveCells_kept | apply State.setHeadroomUsed_kept | apply State.setVoqUsed_kept
      | apply State.pfcSub_kept | apply kept_ite | assumption)
    | extract_lets | split | dsimp only | dsimp +zetaDelta only)
theorem State.voqRelease_kept {z : State} (s : State) (sl : Nat) (ch : Charge) (hz : Kept z s) : Kept z (State.voqRelease s sl ch) := by
  unfold State.voqRelease
  repeat' (first
    | (with_reducible first
      | exact hz | apply State.voqShrink_kept | apply State.giveDesc_kept | assumption)
    | extract_lets | dsimp only | dsimp +zetaDelta only)
theorem State.notePool_kept {z : State} (s : State) (sl : Nat) (q : Queue) (n : Nat) (hz : Kept z s) : Kept z (State.notePool s sl q n)
    := by
  unfold State.notePool
  repeat' (first
    | (with_reducible first
      | exact hz | apply State.setPoolFull_kept | apply State.raise_kept | apply kept_ite | assumption)
    | extract_lets | split | dsimp only | dsimp +zetaDelta only)
theorem State.bobFld_kept {z : State} (s : State) (f : Fld) (n : Int) (hz : Kept z s) : Kept z (State.bobFld s f n) := by
  unfold State.bobFld
  repeat' (first
    | (with_reducible first
      | exact hz | apply State.setFld_kept | assumption)
    | extract_lets | dsimp only | dsimp +zetaDelta only)
theorem State.packBytes_kept {z : State} (k : Nat) : ∀ (x0 : Nat) (x1 : Nat) (s : State), Kept z s → Kept z (State.packBytes s k x0 x1)
  | 0, _, s, hz => by unfold State.packBytes; repeat' (first
    | (with_reducible first
      | apply State.packBytes_kept | exact hz | apply State.setQueue_kept | apply State.bobFld_kept | apply kept_ite | assumption)
    | extract_lets | (split <;> (rename_i q; with_reducible refine kept_of_pair q ?_ (fun hu => ?_)))
    | (split <;> (rename_i q; with_reducible refine kept_of_pair2 q ?_ (fun hu => ?_))) | split | dsimp only | dsimp +zetaDelta only)
  | fuel + 1, n, s, hz => by unfold State.packBytes; repeat' (first
    | (with_reducible first
      | apply State.packBytes_kept | exact hz | apply State.setQueue_kept | apply State.bobFld_kept | apply kept_ite | assumption)
    | extract_lets | (split <;> (rename_i q; with_reducible refine kept_of_pair q ?_ (fun hu => ?_)))
    | (split <;> (rename_i q; with_reducible refine kept_of_pair2 q ?_ (fun hu => ?_))) | split | dsimp only | dsimp +zetaDelta only)
theorem State.packDeep_kept {z : State} (k : Nat) : ∀ (x0 : List Nat) (s : State), Kept z s → Kept z (State.packDeep s k x0)
  | [], s, hz => by unfold State.packDeep; repeat' (first
    | (with_reducible first
      | apply State.packDeep_kept | exact hz | apply State.packBytes_kept | apply State.setEf_kept | apply kept_ite | assumption)
    | extract_lets | (split <;> (rename_i q; with_reducible refine kept_of_pair q ?_ (fun hu => ?_)))
    | (split <;> (rename_i q; with_reducible refine kept_of_pair2 q ?_ (fun hu => ?_))) | split | dsimp only | dsimp +zetaDelta only)
  | i :: r, s, hz => by unfold State.packDeep; repeat' (first
    | (with_reducible first
      | apply State.packDeep_kept | exact hz | apply State.packBytes_kept | apply State.setEf_kept | apply kept_ite | assumption)
    | extract_lets | (split <;> (rename_i q; with_reducible refine kept_of_pair q ?_ (fun hu => ?_)))
    | (split <;> (rename_i q; with_reducible refine kept_of_pair2 q ?_ (fun hu => ?_))) | split | dsimp only | dsimp +zetaDelta only)
theorem State.purge_kept {z : State} (s : State) (k : Nat) (hz : Kept z s) : Kept z (State.purge s k) := by
  unfold State.purge
  repeat' (first
    | (with_reducible first
      | exact hz | apply State.setQueue_kept | apply State.bobFld_kept | assumption)
    | (intro u x hu) | (intro u hu) | extract_lets | dsimp only | dsimp +zetaDelta only)
theorem State.mirrorDrops_kept {z : State} (s : State) (l : List Nat) (hz : Kept z s) : Kept z (State.mirrorDrops s l) := by
  unfold State.mirrorDrops
  repeat' (first
    | (with_reducible first
      | exact hz | refine State.each_kept ?_ ?_ | apply State.count_kept | assumption)
    | (intro u x hu) | (intro u hu) | extract_lets | dsimp only | dsimp +zetaDelta only)
theorem State.setJoin_kept {z : State} (s : State) (sl set n : Nat) (f : Frame) (hz : Kept z s) : Kept z (State.setJoin s sl set n f) :=
    by
  unfold State.setJoin
  repeat' (first
    | (with_reducible first
      | exact hz | apply State.setCellSet_kept | apply State.takeCells_kept | apply State.pfcAdd_kept | apply kept_ite | assumption)
    | extract_lets | (split <;> (rename_i q; with_reducible refine kept_of_pair q ?_ (fun hu => ?_)))
    | (split <;> (rename_i q; with_reducible refine kept_of_pair2 q ?_ (fun hu => ?_))) | split | dsimp only | dsimp +zetaDelta only)
theorem State.setLeave_kept {z : State} (s : State) (sl set : Nat) (f : Frame) (hz : Kept z s) : Kept z (State.setLeave s sl set f) := by
  unfold State.setLeave
  repeat' (first
    | (with_reducible first
      | exact hz | apply State.setCellSet_kept | apply State.giveCells_kept | apply State.pfcSub_kept | apply kept_ite | assumption)
    | extract_lets | (split <;> (rename_i q; with_reducible refine kept_of_pair q ?_ (fun hu => ?_)))
    | (split <;> (rename_i q; with_reducible refine kept_of_pair2 q ?_ (fun hu => ?_))) | split | dsimp only | dsimp +zetaDelta only)
theorem State.setShrink_kept {z : State} (s : State) (sl set n : Nat) (f : Frame) (hz : Kept z s) : Kept z (State.setShrink s sl set n f)
    := by
  unfold State.setShrink
  repeat' (first
    | (with_reducible first
      | exact hz | apply State.setCellSet_kept | apply State.giveCells_kept | apply State.pfcSub_kept | apply kept_ite | assumption)
    | extract_lets | (split <;> (rename_i q; with_reducible refine kept_of_pair q ?_ (fun hu => ?_)))
    | (split <;> (rename_i q; with_reducible refine kept_of_pair2 q ?_ (fun hu => ?_))) | split | dsimp only | dsimp +zetaDelta only)
theorem State.unstage_kept {z : State} (s : State) (sl : Nat) (e : EFrame) (hz : Kept z s) : Kept z (State.unstage s sl e) := by
  unfold State.unstage
  repeat' (first
    | (with_reducible first
      | exact hz | apply State.setWstage_kept | apply State.setLeave_kept | apply State.giveDesc_kept | apply kept_ite | assumption)
    | extract_lets | split | dsimp only | dsimp +zetaDelta only)
theorem State.dropDeep_kept {z : State} (s : State) (sl : Nat) (e : EFrame) (hz : Kept z s) : Kept z (State.dropDeep s sl e) := by
  unfold State.dropDeep
  repeat' (first
    | (with_reducible first
      | exact hz | apply State.bobFld_kept | apply State.unstage_kept | assumption)
    | extract_lets | dsimp only | dsimp +zetaDelta only)
theorem State.dropFrame_kept {z : State} (s : State) (i : Nat) (hz : Kept z s) : Kept z (State.dropFrame s i) := by
  unfold State.dropFrame
  repeat' (first
    | (with_reducible first
      | exact hz | apply State.setEf_kept | apply State.setChain_kept | apply State.setQueue_kept | apply State.dropDeep_kept
      | apply State.purge_kept | apply State.setRstage_kept | apply State.setLeave_kept | apply State.giveDesc_kept
      | apply State.decFld_kept | apply State.injDone_kept | apply kept_ite | assumption)
    | extract_lets | (split <;> (rename_i q; with_reducible refine kept_of_pair q ?_ (fun hu => ?_)))
    | (split <;> (rename_i q; with_reducible refine kept_of_pair2 q ?_ (fun hu => ?_))) | split | dsimp only | dsimp +zetaDelta only)
theorem State.discardFrame_kept {z : State} (s : State) (i : Nat) (hz : Kept z s) : Kept z (State.discardFrame s i) := by
  unfold State.discardFrame
  repeat' (first
    | (with_reducible first
      | exact hz | apply State.mirrorDrops_kept | apply State.dropFrame_kept | assumption)
    | (intro u x hu) | (intro u hu) | extract_lets | dsimp only | dsimp +zetaDelta only)
theorem State.landDeep_kept {z : State} (k : Nat) : ∀ (x0 : Nat) (s : State), Kept z s → Kept z (State.landDeep s k x0)
  | 0, s, hz => by unfold State.landDeep; repeat' (first
    | (with_reducible first
      | apply State.landDeep_kept | exact hz | apply State.setQueue_kept | apply State.discardFrame_kept | apply State.bobFld_kept
      | apply State.setRstage_kept | apply State.setJoin_kept | apply State.takeDesc_kept | apply State.setEf_kept | apply kept_ite
      | assumption)
    | (intro u x hu) | (intro u hu) | extract_lets | (split <;> (rename_i q; with_reducible refine kept_of_pair q ?_ (fun hu => ?_)))
    | (split <;> (rename_i q; with_reducible refine kept_of_pair2 q ?_ (fun hu => ?_))) | split | dsimp only | dsimp +zetaDelta only)
  | fuel + 1, s, hz => by unfold State.landDeep; repeat' (first
    | (with_reducible first
      | apply State.landDeep_kept | exact hz | apply State.setQueue_kept | apply State.discardFrame_kept | apply State.bobFld_kept
      | apply State.setRstage_kept | apply State.setJoin_kept | apply State.takeDesc_kept | apply State.setEf_kept | apply kept_ite
      | assumption)
    | (intro u x hu) | (intro u hu) | extract_lets | (split <;> (rename_i q; with_reducible refine kept_of_pair q ?_ (fun hu => ?_)))
    | (split <;> (rename_i q; with_reducible refine kept_of_pair2 q ?_ (fun hu => ?_))) | split | dsimp only | dsimp +zetaDelta only)
theorem State.landAll_kept {z : State} (s : State) (k : Nat) (hz : Kept z s) : Kept z (State.landAll s k) := by
  unfold State.landAll
  repeat' (first
    | (with_reducible first
      | exact hz | apply State.landDeep_kept | assumption)
    | extract_lets | dsimp only | dsimp +zetaDelta only)
theorem State.newFrame_kept {z : State} (s : State) (o : Offer) (q : Nat) (place : Place) (charge part pool set : Nat) (hz : Kept z s) :
    Kept z (State.newFrame s o q place charge part pool set) := by
  unfold State.newFrame
  repeat' (first
    | (with_reducible first
      | exact hz | apply State.onSw_kept | apply State.setEf_kept | assumption)
    | (intro u x hu) | (intro u hu) | extract_lets | dsimp only | dsimp +zetaDelta only)
theorem State.admitOnDie_kept {z : State} (s : State) (o : Offer) (qi : Nat) (hz : Kept z s) : Kept z (State.admitOnDie s o qi).1 := by
  unfold State.admitOnDie
  repeat' (first
    | (with_reducible first
      | exact hz | apply State.newFrame_kept | apply State.setJoin_kept | apply State.takeDesc_kept | apply State.incFld_kept
      | apply State.setQueue_kept | apply State.setChain_kept | apply State.count_kept | apply kept_ite | assumption)
    | extract_lets | split | dsimp only | dsimp +zetaDelta only)
theorem State.admitDeep_kept {z : State} (s : State) (o : Offer) (qi : Nat) (hz : Kept z s) : Kept z (State.admitDeep s o qi).1 := by
  unfold State.admitDeep
  repeat' (first
    | (with_reducible first
      | exact hz | apply State.newFrame_kept | apply State.bobFld_kept | apply State.raise_kept | apply State.setWstage_kept
      | apply State.setJoin_kept | apply State.takeDesc_kept | apply State.setQueue_kept | apply State.packDeep_kept | apply kept_ite
      | assumption)
    | extract_lets | split | dsimp only | dsimp +zetaDelta only)
theorem State.withhold_kept {z : State} (s : State) (lp c : Nat) (b : Bool) (hz : Kept z s) : Kept z (State.withhold s lp c b) := by
  unfold State.withhold
  repeat' (first
    | (with_reducible first
      | exact hz | apply State.setWithheld_kept | assumption)
    | extract_lets | dsimp only | dsimp +zetaDelta only)
theorem State.attempt_kept {z : State} (s : State) (o : Offer) (hz : Kept z s) : Kept z (State.attempt s o) := by
  unfold State.attempt
  repeat' (first
    | (with_reducible first
      | exact hz | apply State.setQueue_kept | apply State.notePool_kept | apply kept_ite | assumption)
    | extract_lets | (split <;> (rename_i q; with_reducible refine kept_of_pair q ?_ (fun hu => ?_)))
    | (split <;> (rename_i q; with_reducible refine kept_of_pair2 q ?_ (fun hu => ?_))) | split | dsimp only | dsimp +zetaDelta only)
theorem State.admission_kept {z : State} (s : State) (o : Offer) (hz : Kept z s) : Kept z (State.admission s o).1 := by
  unfold State.admission
  extract_lets sl qi k gone early s1 q n fits spill waits refuse p wake d s2 s3 guar
  have hg : ∀ u, Kept z u → Kept z (gone u).1 := fun u hu => State.injDone_kept _ _ (State.mirrorDrops_kept _ _ hu)
  clear_value gone
  have h1 : Kept z s1 := State.attempt_kept _ _ hz
  clear_value s1
  have hw : ∀ r : State × Admit, Kept z r.1 → Kept z (wake r).1 := by
    intro r hu
    dsimp only [wake]
    split
    · exact State.unpark_kept _ _ hu
    · exact hu
  clear_value wake
  have hr : ∀ u b, Kept z u → Kept z (refuse u b).1 := fun u b hu => hg _ (State.setQueue_kept _ _ _ hu)
  clear_value refuse
  have hq : Kept z waits.1 := State.withhold_kept _ _ _ _ h1
  clear_value waits
  have h2 : Kept z s2 := kept_ite h1 (State.setQueue_kept _ _ _ h1)
  clear_value s2
  have h3 : Kept z s3 := kept_ite (State.raise_kept _ _ _ (State.count_kept h2)) h2
  clear_value s3
  repeat' (first
    | with_reducible exact hz | with_reducible exact h1 | with_reducible exact h2 | with_reducible exact h3 | with_reducible exact hq
    | with_reducible apply hr | with_reducible apply hw | with_reducible apply hg
    | with_reducible apply State.countRaise_kept | with_reducible apply State.engCtr_kept | with_reducible apply State.setQueue_kept
    | with_reducible apply State.raise_kept | with_reducible apply State.admitDeep_kept | with_reducible apply State.admitOnDie_kept
    | with_reducible apply kept_ite | split)
theorem State.frameEnds_kept {z : State} (s : State) (i : Nat) (bytes : List Byte) (hz : Kept z s) : Kept z (State.frameEnds s i bytes)
    := by
  unfold State.frameEnds
  repeat' (first
    | (with_reducible first
      | exact hz | apply State.setEf_kept | apply State.setQueue_kept | apply State.setWstage_kept | apply State.setShrink_kept
      | apply State.packDeep_kept | apply State.decFld_kept | apply kept_ite | assumption)
    | extract_lets | (split <;> (rename_i q; with_reducible refine kept_of_pair q ?_ (fun hu => ?_)))
    | (split <;> (rename_i q; with_reducible refine kept_of_pair2 q ?_ (fun hu => ?_))) | split | dsimp only | dsimp +zetaDelta only)
theorem State.discardQueued_kept {z : State} (s : State) (lp n : Nat) (hz : Kept z s) : Kept z (State.discardQueued s lp n) := by
  unfold State.discardQueued
  repeat' (first
    | (with_reducible first
      | exact hz | apply State.engCtr_kept | refine State.each_kept ?_ ?_ | apply State.discardFrame_kept | apply State.landAll_kept
      | apply kept_ite | assumption | apply kept_id)
    | (intro u x hu) | (intro u hu) | extract_lets | split | dsimp only | dsimp +zetaDelta only)
theorem State.guarCapture_kept {z : State} (s : State) (sl reason idx : Nat) (excess : Option Nat) (hz : Kept z s) : Kept z
    (State.guarCapture s sl reason idx excess) := by
  unfold State.guarCapture
  repeat' (first
    | (with_reducible first
      | exact hz | apply State.setFld_kept | assumption | apply kept_id)
    | extract_lets | (split <;> (rename_i q; with_reducible refine kept_of_pair q ?_ (fun hu => ?_)))
    | (split <;> (rename_i q; with_reducible refine kept_of_pair2 q ?_ (fun hu => ?_))) | split | dsimp only | dsimp +zetaDelta only)

/-! ### Machine/TableLookup.lean -/

theorem State.setCopy_kept {z : State} (s : State) (sl : Nat) (c : TblCopy) (hz : Kept z s) : Kept z (State.setCopy s sl c) := by
  unfold State.setCopy
  repeat' (first
    | (with_reducible first
      | exact hz | apply State.onTables_kept | assumption)
    | (intro u x hu) | (intro u hu) | extract_lets | dsimp only | dsimp +zetaDelta only)

/-! ### Machine/Punt.lean -/

theorem State.ringDrops_kept {z : State} (s : State) (r : Nat) (n : Nat) (hz : Kept z s) : Kept z (State.ringDrops s r n) := by
  unfold State.ringDrops
  repeat' (first
    | (with_reducible first
      | exact hz | apply State.count_kept | apply kept_ite | assumption)
    | extract_lets | split | dsimp only | dsimp +zetaDelta only)
theorem State.puntPush_kept {z : State} (s : State) (sl r : Nat) (f : Frame) (reason rule : Nat) (hz : Kept z s) : Kept z (State.puntPush
    s sl r f reason rule) := by
  unfold State.puntPush
  repeat' (first
    | (with_reducible first
      | exact hz | apply State.ringDrops_kept | apply State.takeCells_kept | apply State.takeDesc_kept | apply State.incFld_kept
      | apply State.pfcAdd_kept | apply State.setPunts_kept | apply kept_ite | assumption)
    | extract_lets | (split <;> (rename_i q; with_reducible refine kept_of_pair q ?_ (fun hu => ?_)))
    | (split <;> (rename_i q; with_reducible refine kept_of_pair2 q ?_ (fun hu => ?_))) | split | dsimp only | dsimp +zetaDelta only)
theorem State.puntRelease_kept {z : State} (s : State) (sl : Nat) (p : Punt) (hz : Kept z s) : Kept z (State.puntRelease s sl p) := by
  unfold State.puntRelease
  repeat' (first
    | (with_reducible first
      | exact hz | apply State.giveCells_kept | apply State.giveDesc_kept | apply State.decFld_kept | apply State.pfcSub_kept
      | assumption)
    | extract_lets | (split <;> (rename_i q; with_reducible refine kept_of_pair q ?_ (fun hu => ?_)))
    | (split <;> (rename_i q; with_reducible refine kept_of_pair2 q ?_ (fun hu => ?_))) | split | dsimp only | dsimp +zetaDelta only)
theorem State.puntClear_kept {z : State} (s : State) (sl r : Nat) (hz : Kept z s) : Kept z (State.puntClear s sl r) := by
  unfold State.puntClear
  repeat' (first
    | (with_reducible first
      | exact hz | apply State.setPunts_kept | apply State.puntRelease_kept | apply State.ringDrops_kept | refine kept_foldl ?_ ?_
      | refine kept_foldl1 ?_ ?_ | assumption)
    | (intro u x hu) | (intro u hu) | extract_lets | dsimp only | dsimp +zetaDelta only)
theorem State.puntClearRing_kept {z : State} (s : State) (r : Nat) (hz : Kept z s) : Kept z (State.puntClearRing s r) := by
  unfold State.puntClearRing
  repeat' (first
    | (with_reducible first
      | exact hz | refine State.each_kept ?_ ?_ | apply State.puntClear_kept | assumption)
    | (intro u x hu) | (intro u hu) | extract_lets | dsimp only | dsimp +zetaDelta only)
theorem State.setFoldSt_kept {z : State} (s : State) (sl t : Nat) (f : Fld) (v : Nat) (hz : Kept z s) : Kept z (State.setFoldSt s sl t f
    v) := by
  unfold State.setFoldSt
  repeat' (first
    | (with_reducible first
      | exact hz | apply State.setFld_kept | assumption)
    | extract_lets | dsimp only | dsimp +zetaDelta only)
theorem State.drainClient_kept {z : State} (s : State) (n : Nat) (hz : Kept z s) : Kept z (State.drainClient s n) := by
  unfold State.drainClient
  repeat' (first
    | (with_reducible first
      | exact hz | apply State.setClient_kept | apply State.emit_kept | apply kept_ite | assumption)
    | extract_lets | split | dsimp only | dsimp +zetaDelta only)
theorem State.feedClient_kept {z : State} (s : State) (n : Nat) (b : List Byte) (hz : Kept z s) : Kept z (State.feedClient s n b) := by
  unfold State.feedClient
  repeat' (first
    | (with_reducible first
      | exact hz | apply State.drainClient_kept | apply State.setClient_kept | assumption)
    | extract_lets | dsimp only | dsimp +zetaDelta only)
theorem State.packCtr_kept {z : State} (s : State) (lp n : Nat) (hz : Kept z s) : Kept z (State.packCtr s lp n) := by
  unfold State.packCtr
  repeat' (first
    | (with_reducible first
      | exact hz | apply State.setPack_kept | assumption)
    | extract_lets | dsimp only | dsimp +zetaDelta only)
theorem State.setTrainBytes_kept {z : State} (s : State) (lp k n : Nat) (hz : Kept z s) : Kept z (State.setTrainBytes s lp k n) := by
  unfold State.setTrainBytes
  repeat' (first
    | (with_reducible first
      | exact hz | apply State.setPack_kept | assumption)
    | extract_lets | dsimp only | dsimp +zetaDelta only)
theorem State.trainMark_kept {z : State} (s : State) (lp k : Nat) (start : Bool) (hz : Kept z s) : Kept z (State.trainMark s lp k start)
    := by
  unfold State.trainMark
  repeat' (first
    | (with_reducible first
      | exact hz | apply State.emit_kept | apply State.feedClient_kept | apply kept_ite | assumption)
    | extract_lets | split | dsimp only | dsimp +zetaDelta only)
theorem State.endTrain_kept {z : State} (s : State) (lp k : Nat) (hz : Kept z s) : Kept z (State.endTrain s lp k) := by
  unfold State.endTrain
  repeat' (first
    | (with_reducible first
      | exact hz | apply State.setTrainBytes_kept | apply State.trainMark_kept | apply kept_ite | assumption)
    | extract_lets | split | dsimp only | dsimp +zetaDelta only)
theorem State.closeTrain_kept {z : State} (s : State) (lp : Nat) (client : Option Nat) (hz : Kept z s) : Kept z (State.closeTrain s lp
    client) := by
  unfold State.closeTrain
  repeat' (first
    | (with_reducible first
      | exact hz | apply State.endTrain_kept | assumption)
    | extract_lets | dsimp only | dsimp +zetaDelta only)
theorem State.closeTrains_kept {z : State} (s : State) (lp : Nat) (hz : Kept z s) : Kept z (State.closeTrains s lp) := by
  unfold State.closeTrains
  repeat' (first
    | (with_reducible first
      | exact hz | refine State.each_kept ?_ ?_ | apply State.endTrain_kept | assumption)
    | (intro u x hu) | (intro u hu) | extract_lets | dsimp only | dsimp +zetaDelta only)
theorem State.sendUnit_kept {z : State} (s : State) (lp : Nat) (client : Option Nat) (e : EFrame) (frame : List Byte) (hz : Kept z s) :
    Kept z (State.sendUnit s lp client e frame) := by
  unfold State.sendUnit
  repeat' (first
    | (with_reducible first
      | exact hz | apply State.endTrain_kept | apply State.packCtr_kept | apply State.trainMark_kept | apply State.setTrainBytes_kept
      | apply State.setMissCount_kept | apply State.puntPush_kept | apply State.feedClient_kept | apply State.emit_kept
      | apply kept_ite | assumption)
    | extract_lets | (split <;> (rename_i q; with_reducible refine kept_of_pair q ?_ (fun hu => ?_)))
    | (split <;> (rename_i q; with_reducible refine kept_of_pair2 q ?_ (fun hu => ?_))) | split | dsimp only | dsimp +zetaDelta only)
theorem State.clientFrame_kept {z : State} (s : State) (lp : Nat) (cl : Option Nat) (wire : List Byte) (hz : Kept z s) : Kept z
    (State.clientFrame s lp cl wire) := by
  unfold State.clientFrame
  repeat' (first
    | (with_reducible first
      | exact hz | apply State.keepGap_kept | apply State.feedClient_kept | assumption)
    | extract_lets | (split <;> (rename_i q; with_reducible refine kept_of_pair q ?_ (fun hu => ?_)))
    | (split <;> (rename_i q; with_reducible refine kept_of_pair2 q ?_ (fun hu => ?_))) | split | dsimp only | dsimp +zetaDelta only)
theorem State.leaveLine_kept {z : State} (s : State) (lp : Nat) (t : Tx) (e : EFrame) (wire : List Byte) (stomped : Bool) (hz : Kept z s)
    : Kept z (State.leaveLine s lp t e wire stomped) := by
  unfold State.leaveLine
  repeat' (first
    | (with_reducible first
      | exact hz | apply State.keepGap_kept | apply State.emit_kept | apply State.clientFrame_kept | apply kept_ite | assumption)
    | extract_lets | split | dsimp only | dsimp +zetaDelta only)

/-! ### Machine/Xbar.lean -/

theorem State.voqPut_kept {z : State} (s : State) (sl q : Nat) (f : Frame) (sub : Nat) (ct : Bool) (ch : Charge) (hz : Kept z s) : Kept z
    (State.voqPut s sl q f sub ct ch) := by
  unfold State.voqPut
  repeat' (first
    | (with_reducible first
      | exact hz | apply State.setVoq_kept | apply kept_ite | assumption)
    | extract_lets | split | dsimp only | dsimp +zetaDelta only)
theorem State.voqBegin_kept {z : State} (s : State) (sl q : Nat) (f : Frame) (id sub : Nat) (ch : Charge) (hz : Kept z s) : Kept z
    (State.voqBegin s sl q f id sub ch) := by
  unfold State.voqBegin
  repeat' (first
    | (with_reducible first
      | exact hz | apply State.setVoq_kept | apply kept_ite | assumption | apply kept_id)
    | extract_lets | split | dsimp only | dsimp +zetaDelta only)
theorem State.voqMore_kept {z : State} (s : State) (sl q id : Nat) (bytes : List Byte) (hz : Kept z s) : Kept z (State.voqMore s sl q id
    bytes) := by
  unfold State.voqMore
  repeat' (first
    | (with_reducible first
      | exact hz | apply State.setVoq_kept | apply kept_ite | assumption | apply kept_id)
    | extract_lets | split | dsimp only | dsimp +zetaDelta only)
theorem State.voqNext_kept {z : State} (sl q : Nat) : ∀ (x0 : List VoqWait) (s : State), Kept z s → Kept z (State.voqNext s sl q x0)
  | [], s, hz => by unfold State.voqNext; repeat' (first
    | (with_reducible first
      | apply State.voqNext_kept | exact hz | apply State.setVoq_kept | apply State.voqPut_kept | apply State.voqBegin_kept
      | apply kept_ite | assumption | apply kept_id)
    | extract_lets | (split <;> (rename_i q; with_reducible refine kept_of_pair q ?_ (fun hu => ?_)))
    | (split <;> (rename_i q; with_reducible refine kept_of_pair2 q ?_ (fun hu => ?_))) | split | dsimp only | dsimp +zetaDelta only)
  | w :: r, s, hz => by unfold State.voqNext; repeat' (first
    | (with_reducible first
      | apply State.voqNext_kept | exact hz | apply State.setVoq_kept | apply State.voqPut_kept | apply State.voqBegin_kept
      | apply kept_ite | assumption | apply kept_id)
    | extract_lets | (split <;> (rename_i q; with_reducible refine kept_of_pair q ?_ (fun hu => ?_)))
    | (split <;> (rename_i q; with_reducible refine kept_of_pair2 q ?_ (fun hu => ?_))) | split | dsimp only | dsimp +zetaDelta only)
theorem State.voqEnd_kept {z : State} (s : State) (sl q id : Nat) (whole : Frame) (rest : List Byte) (status : Nat) (ch : Charge) (hz :
    Kept z s) : Kept z (State.voqEnd s sl q id whole rest status ch) := by
  unfold State.voqEnd
  repeat' (first
    | (with_reducible first
      | exact hz | apply State.setVoq_kept | apply State.voqRelease_kept | apply State.voqNext_kept | apply kept_ite | assumption
      | apply kept_id)
    | (intro u x hu) | (intro u hu) | extract_lets | (split <;> (rename_i q; with_reducible refine kept_of_pair q ?_ (fun hu => ?_)))
    | (split <;> (rename_i q; with_reducible refine kept_of_pair2 q ?_ (fun hu => ?_))) | split | dsimp only | dsimp +zetaDelta only)
theorem State.ctArrive_kept {z : State} (s : State) (lp k : Nat) (hz : Kept z s) : Kept z (State.ctArrive s lp k) := by
  unfold State.ctArrive
  repeat' (first
    | (with_reducible first
      | exact hz | apply State.voqMore_kept | apply State.setRx_kept | apply kept_ite | assumption)
    | extract_lets | (split <;> (rename_i q; with_reducible refine kept_of_pair q ?_ (fun hu => ?_)))
    | (split <;> (rename_i q; with_reducible refine kept_of_pair2 q ?_ (fun hu => ?_))) | split | dsimp only | dsimp +zetaDelta only)
theorem State.ctArriveAll_kept {z : State} (s : State) (hz : Kept z s) : Kept z (State.ctArriveAll s) := by
  unfold State.ctArriveAll
  repeat' (first
    | (with_reducible first
      | exact hz | apply State.ctArrive_kept | refine kept_foldl ?_ ?_ | refine kept_foldl1 ?_ ?_ | assumption)
    | (intro u x hu) | (intro u hu) | extract_lets | dsimp only | dsimp +zetaDelta only)
theorem State.inputLeave_kept {z : State} (s : State) (c : Cell) (hz : Kept z s) : Kept z (State.inputLeave s c) := by
  unfold State.inputLeave
  repeat' (first
    | (with_reducible first
      | exact hz | apply State.setLink_kept | apply kept_ite | assumption)
    | extract_lets | (split <;> (rename_i q; with_reducible refine kept_of_pair q ?_ (fun hu => ?_)))
    | (split <;> (rename_i q; with_reducible refine kept_of_pair2 q ?_ (fun hu => ?_))) | split | dsimp only | dsimp +zetaDelta only)
theorem State.launchOne_kept {z : State} (s : State) (sl d c plane : Nat) (hz : Kept z s) : Kept z (State.launchOne s sl d c plane) := by
  unfold State.launchOne
  repeat' (first
    | (with_reducible first
      | exact hz | apply State.setVoq_kept | apply State.setTurn_kept | apply State.voqRelease_kept | apply State.inputLeave_kept
      | apply State.count_kept | apply State.perfHit_kept | apply State.onSw_kept | refine kept_foldl ?_ ?_ | refine kept_foldl1 ?_ ?_
      | assumption)
    | (intro u x hu) | (intro u hu) | extract_lets | (split <;> (rename_i q; with_reducible refine kept_of_pair q ?_ (fun hu => ?_)))
    | (split <;> (rename_i q; with_reducible refine kept_of_pair2 q ?_ (fun hu => ?_))) | split | dsimp only | dsimp +zetaDelta only)
theorem State.launchFrom_kept {z : State} (s : State) (sl b : Nat) (m : List Nat) (hz : Kept z s) : Kept z (State.launchFrom s sl b m) :=
    by
  unfold State.launchFrom
  repeat' (first
    | (with_reducible first
      | exact hz | apply State.launchOne_kept | refine kept_foldl ?_ ?_ | refine kept_foldl1 ?_ ?_ | assumption)
    | (intro u x hu) | (intro u hu) | extract_lets | dsimp only | dsimp +zetaDelta only)
theorem State.runRound_kept {z : State} (s : State) (hz : Kept z s) : Kept z (State.runRound s) := by
  unfold State.runRound
  repeat' (first
    | (with_reducible first
      | exact hz | apply State.ctArriveAll_kept | apply State.spray_kept | apply State.onSw_kept | refine State.each_kept ?_ ?_
      | apply State.launchFrom_kept | apply State.count_kept | apply State.countRaise_kept | apply kept_ite | refine kept_foldl ?_ ?_
      | refine kept_foldl1 ?_ ?_ | assumption)
    | (intro u x hu) | (intro u hu) | extract_lets | (split <;> (rename_i q; with_reducible refine kept_of_pair q ?_ (fun hu => ?_)))
    | (split <;> (rename_i q; with_reducible refine kept_of_pair2 q ?_ (fun hu => ?_))) | split | dsimp only | dsimp +zetaDelta only)

/-! ### Machine/Fwd.lean -/

theorem State.setLinkFld_kept {z : State} (s : State) (p : Nat) (f : Fld) (v : Nat) (hz : Kept z s) : Kept z (State.setLinkFld s p f v)
    := by
  unfold State.setLinkFld
  repeat' (first
    | (with_reducible first
      | exact hz | apply State.setFld_kept | assumption)
    | extract_lets | dsimp only | dsimp +zetaDelta only)
theorem State.publishLoads_kept {z : State} (s : State) (hz : Kept z s) : Kept z (State.publishLoads s) := by
  unfold State.publishLoads
  repeat' (first
    | (with_reducible first
      | exact hz | apply State.onTrunk_kept | refine kept_foldl ?_ ?_ | refine kept_foldl1 ?_ ?_ | assumption)
    | (intro u x hu) | (intro u hu) | extract_lets | dsimp only | dsimp +zetaDelta only)
theorem State.fabricVoq_kept {z : State} (s : State) (sl p : Nat) (c : Cell) (hz : Kept z s) : Kept z (State.fabricVoq s sl p c) := by
  unfold State.fabricVoq
  repeat' (first
    | (with_reducible first
      | exact hz | apply State.setVoq_kept | assumption)
    | extract_lets | dsimp only | dsimp +zetaDelta only)
theorem State.cellDrops_kept {z : State} (s : State) (c : Cell) (hz : Kept z s) : Kept z (State.cellDrops s c) := by
  unfold State.cellDrops
  repeat' (first
    | (with_reducible first
      | exact hz | apply State.mirrorDrops_kept | assumption)
    | extract_lets | dsimp only | dsimp +zetaDelta only)
theorem State.spray_kept {z : State} (s : State) (sl g : Nat) (c : Cell) (hz : Kept z s) : Kept z (State.spray s sl g c) := by
  unfold State.spray
  repeat' (first
    | (with_reducible first
      | exact hz | apply State.voqRelease_kept | apply State.inputLeave_kept | apply State.cellDrops_kept | apply State.countRaise_kept
      | apply State.setGroupTurn_kept | apply State.fabricVoq_kept | refine kept_foldl ?_ ?_ | refine kept_foldl1 ?_ ?_ | assumption)
    | (intro u x hu) | (intro u hu) | extract_lets | (split <;> (rename_i q; with_reducible refine kept_of_pair q ?_ (fun hu => ?_)))
    | (split <;> (rename_i q; with_reducible refine kept_of_pair2 q ?_ (fun hu => ?_))) | split | dsimp only | dsimp +zetaDelta only)
theorem State.forwardCell_kept {z : State} (s : State) (sl : Nat) (c : Cell) (hz : Kept z s) : Kept z (State.forwardCell s sl c) := by
  unfold State.forwardCell
  repeat' (first
    | (with_reducible first
      | exact hz | apply State.spray_kept | apply State.fabricVoq_kept | apply State.inputLeave_kept | apply State.cellDrops_kept
      | apply State.count_kept | apply kept_ite | assumption)
    | extract_lets | (split <;> (rename_i q; with_reducible refine kept_of_pair q ?_ (fun hu => ?_)))
    | (split <;> (rename_i q; with_reducible refine kept_of_pair2 q ?_ (fun hu => ?_))) | split | dsimp only | dsimp +zetaDelta only)
theorem State.srcEntry_kept {z : State} (s : State) (sl fdest cls : Nat) (hz : Kept z s) : Kept z (State.srcEntry s sl fdest cls).1 := by
  unfold State.srcEntry
  repeat' (first
    | (with_reducible first
      | exact hz | apply State.setSrcStream_kept | apply State.count_kept | apply State.raise_kept | apply kept_ite | assumption)
    | (intro u x hu) | (intro u hu) | extract_lets | (split <;> (rename_i q; with_reducible refine kept_of_pair q ?_ (fun hu => ?_)))
    | (split <;> (rename_i q; with_reducible refine kept_of_pair2 q ?_ (fun hu => ?_))) | split | dsimp only | dsimp +zetaDelta only)
theorem State.closeFabric_kept {z : State} (sl fdest cls g : Nat) : ∀ (x0 : List Cell) (s : State), Kept z s → Kept z (State.closeFabric
    s sl fdest cls g x0)
  | [], s, hz => by unfold State.closeFabric; repeat' (first
    | (with_reducible first
      | apply State.closeFabric_kept | exact hz | apply State.setSrcStream_kept | apply State.spray_kept | assumption)
    | extract_lets | (split <;> (rename_i q; with_reducible refine kept_of_pair q ?_ (fun hu => ?_)))
    | (split <;> (rename_i q; with_reducible refine kept_of_pair2 q ?_ (fun hu => ?_))) | split | dsimp only | dsimp +zetaDelta only)
  | c :: r, s, hz => by unfold State.closeFabric; repeat' (first
    | (with_reducible first
      | apply State.closeFabric_kept | exact hz | apply State.setSrcStream_kept | apply State.spray_kept | assumption)
    | extract_lets | (split <;> (rename_i q; with_reducible refine kept_of_pair q ?_ (fun hu => ?_)))
    | (split <;> (rename_i q; with_reducible refine kept_of_pair2 q ?_ (fun hu => ?_))) | split | dsimp only | dsimp +zetaDelta only)
theorem State.fabricPut_kept {z : State} (s : State) (sl fdest g : Nat) (f : Frame) (ch : Charge) (hz : Kept z s) : Kept z
    (State.fabricPut s sl fdest g f ch) := by
  unfold State.fabricPut
  repeat' (first
    | (with_reducible first
      | exact hz | apply State.srcEntry_kept | apply State.setSrcStream_kept | apply State.closeFabric_kept
      | apply State.voqRelease_kept | assumption)
    | extract_lets | (split <;> (rename_i q; with_reducible refine kept_of_pair q ?_ (fun hu => ?_)))
    | (split <;> (rename_i q; with_reducible refine kept_of_pair2 q ?_ (fun hu => ?_))) | split | dsimp only | dsimp +zetaDelta only)
theorem State.fabricIdle_kept {z : State} (s : State) (pick : Nat → Bool) (hz : Kept z s) : Kept z (State.fabricIdle s pick) := by
  unfold State.fabricIdle
  repeat' (first
    | (with_reducible first
      | exact hz | refine State.each_kept ?_ ?_ | apply State.setSrcStream_kept | apply State.closeFabric_kept | apply kept_ite
      | assumption)
    | (intro u x hu) | (intro u hu) | extract_lets | (split <;> (rename_i q; with_reducible refine kept_of_pair q ?_ (fun hu => ?_)))
    | (split <;> (rename_i q; with_reducible refine kept_of_pair2 q ?_ (fun hu => ?_))) | split | dsimp only | dsimp +zetaDelta only)
theorem State.routeTo_kept {z : State} (s : State) (sl addr : Nat) (hz : Kept z s) : Kept z (State.routeTo s sl addr).1 := by
  unfold State.routeTo
  repeat' (first
    | (with_reducible first
      | exact hz | apply State.count_kept | apply kept_ite | assumption)
    | extract_lets | (split <;> (rename_i q; with_reducible refine kept_of_pair q ?_ (fun hu => ?_)))
    | (split <;> (rename_i q; with_reducible refine kept_of_pair2 q ?_ (fun hu => ?_))) | split | dsimp only | dsimp +zetaDelta only)
theorem State.pendOne_kept {z : State} (s : State) (sl : Nat) (f : Frame) (n : Nat) (mk : Charge → PendTo) (hz : Kept z s) : Kept z
    (State.pendOne s sl f n mk).1 := by
  unfold State.pendOne
  repeat' (first
    | (with_reducible first
      | exact hz | apply State.voqAdmit_kept | assumption)
    | extract_lets | (split <;> (rename_i q; with_reducible refine kept_of_pair q ?_ (fun hu => ?_)))
    | (split <;> (rename_i q; with_reducible refine kept_of_pair2 q ?_ (fun hu => ?_))) | split | dsimp only | dsimp +zetaDelta only)
theorem State.pendTo_kept {z : State} (s : State) (sl : Nat) (f : Frame) (len : Nat) (d : Dest) (hz : Kept z s) : Kept z (State.pendTo s
    sl f len d).1 := by
  unfold State.pendTo
  repeat' (first
    | (with_reducible first
      | exact hz | apply State.count_kept | apply State.pendOne_kept | apply kept_ite | refine kept_foldl ?_ ?_
      | refine kept_foldl1 ?_ ?_ | assumption)
    | (intro u x hu) | (intro u hu) | extract_lets | (split <;> (rename_i q; with_reducible refine kept_of_pair q ?_ (fun hu => ?_)))
    | (split <;> (rename_i q; with_reducible refine kept_of_pair2 q ?_ (fun hu => ?_))) | split | dsimp only | dsimp +zetaDelta only)
theorem State.enterPend_kept {z : State} (s : State) (sl : Nat) (p : Pend) (bytes : List Byte) (hz : Kept z s) : Kept z (State.enterPend
    s sl p bytes) := by
  unfold State.enterPend
  repeat' (first
    | (with_reducible first
      | exact hz | apply State.voqShrink_kept | apply State.srcEntry_kept | apply State.count_kept | apply State.voqPut_kept
      | apply State.fabricPut_kept | apply State.puntPush_kept | apply kept_ite | assumption)
    | (intro u x hu) | (intro u hu) | extract_lets | (split <;> (rename_i q; with_reducible refine kept_of_pair q ?_ (fun hu => ?_)))
    | (split <;> (rename_i q; with_reducible refine kept_of_pair2 q ?_ (fun hu => ?_))) | split | dsimp only | dsimp +zetaDelta only)
theorem State.dropPend_kept {z : State} (s : State) (sl : Nat) (p : Pend) (hz : Kept z s) : Kept z (State.dropPend s sl p) := by
  unfold State.dropPend
  repeat' (first
    | (with_reducible first
      | exact hz | apply State.voqRelease_kept | assumption)
    | extract_lets | (split <;> (rename_i q; with_reducible refine kept_of_pair q ?_ (fun hu => ?_)))
    | (split <;> (rename_i q; with_reducible refine kept_of_pair2 q ?_ (fun hu => ?_))) | split | dsimp only | dsimp +zetaDelta only)
theorem State.mirrorPend_kept {z : State} (s : State) (sl n : Nat) (f : Frame) (len : Nat) (hz : Kept z s) : Kept z (State.mirrorPend s
    sl n f len).1 := by
  unfold State.mirrorPend
  repeat' (first
    | (with_reducible first
      | exact hz | apply State.setMirCount_kept | apply State.routeTo_kept | apply State.pendTo_kept | apply State.count_kept
      | apply kept_ite | assumption)
    | (intro u x hu) | (intro u hu) | extract_lets | (split <;> (rename_i q; with_reducible refine kept_of_pair q ?_ (fun hu => ?_)))
    | (split <;> (rename_i q; with_reducible refine kept_of_pair2 q ?_ (fun hu => ?_))) | split | dsimp only | dsimp +zetaDelta only)
theorem State.egressMirror_kept {z : State} (s : State) (lp : Nat) (f : Frame) (wire : List Byte) (hz : Kept z s) : Kept z
    (State.egressMirror s lp f wire) := by
  unfold State.egressMirror
  repeat' (first
    | (with_reducible first
      | exact hz | apply State.mirrorPend_kept | apply State.enterPend_kept | apply kept_ite | refine kept_foldl ?_ ?_
      | refine kept_foldl1 ?_ ?_ | assumption)
    | (intro u x hu) | (intro u hu) | extract_lets | (split <;> (rename_i q; with_reducible refine kept_of_pair q ?_ (fun hu => ?_)))
    | (split <;> (rename_i q; with_reducible refine kept_of_pair2 q ?_ (fun hu => ?_))) | split | dsimp only | dsimp +zetaDelta only)

/-! ### Machine/Reseq.lean -/

theorem State.stompTx_kept {z : State} (s : State) (lp : Nat) (hz : Kept z s) : Kept z (State.stompTx s lp) := by
  unfold State.stompTx
  repeat' (first
    | (with_reducible first
      | exact hz | apply State.egressMirror_kept | apply State.setMac_kept | apply State.leaveLine_kept | apply State.emit_kept
      | apply State.portCtr_kept | apply State.dropFrame_kept | apply kept_ite | assumption)
    | extract_lets | (split <;> (rename_i q; with_reducible refine kept_of_pair q ?_ (fun hu => ?_)))
    | (split <;> (rename_i q; with_reducible refine kept_of_pair2 q ?_ (fun hu => ?_))) | split | dsimp only | dsimp +zetaDelta only)
theorem State.breakFrame_kept {z : State} (s : State) (fid : Nat) (underrun : Bool) (hz : Kept z s) : Kept z (State.breakFrame s fid
    underrun) := by
  unfold State.breakFrame
  repeat' (first
    | (with_reducible first
      | exact hz | apply State.countRaise_kept | apply State.stompTx_kept | apply State.setEf_kept | apply State.discardFrame_kept
      | apply State.landAll_kept | apply kept_ite | assumption)
    | extract_lets | (split <;> (rename_i q; with_reducible refine kept_of_pair q ?_ (fun hu => ?_)))
    | (split <;> (rename_i q; with_reducible refine kept_of_pair2 q ?_ (fun hu => ?_))) | split | dsimp only | dsimp +zetaDelta only)
theorem State.takeInj_kept {z : State} (s : State) (lp : Nat) (f : Frame) (hz : Kept z s) : Kept z (State.takeInj s lp f).1 := by
  unfold State.takeInj
  repeat' (first
    | (with_reducible first
      | exact hz | apply State.injDone_kept | apply State.setInjSide_kept | apply kept_ite | refine kept_foldl ?_ ?_
      | refine kept_foldl1 ?_ ?_ | assumption)
    | (intro u x hu) | (intro u hu) | extract_lets | (split <;> (rename_i q; with_reducible refine kept_of_pair q ?_ (fun hu => ?_)))
    | (split <;> (rename_i q; with_reducible refine kept_of_pair2 q ?_ (fun hu => ?_))) | split | dsimp only | dsimp +zetaDelta only)
theorem State.offerTag_kept {z : State} (s : State) (d dest : Nat) (t : Tag) (hz : Kept z s) : Kept z (State.offerTag s d dest t).1 := by
  unfold State.offerTag
  repeat' (first
    | (with_reducible first
      | exact hz | apply State.takeInj_kept | apply State.admission_kept | refine State.each_kept ?_ ?_ | apply State.attempt_kept
      | apply State.withhold_kept | apply kept_ite | refine kept_foldl ?_ ?_ | refine kept_foldl1 ?_ ?_ | assumption)
    | (intro u x hu) | (intro u hu) | extract_lets | (split <;> (rename_i q; with_reducible refine kept_of_pair q ?_ (fun hu => ?_)))
    | (split <;> (rename_i q; with_reducible refine kept_of_pair2 q ?_ (fun hu => ?_))) | split | dsimp only | dsimp +zetaDelta only)
theorem State.ctDecide_kept {z : State} (s : State) (d fid : Nat) (hz : Kept z s) : Kept z (State.ctDecide s d fid) := by
  unfold State.ctDecide
  repeat' (first
    | (with_reducible first
      | exact hz | apply State.setEf_kept | apply State.count_kept | apply kept_ite | assumption)
    | (intro u x hu) | (intro u hu) | extract_lets | (split <;> (rename_i q; with_reducible refine kept_of_pair q ?_ (fun hu => ?_)))
    | (split <;> (rename_i q; with_reducible refine kept_of_pair2 q ?_ (fun hu => ?_))) | split | dsimp only | dsimp +zetaDelta only)
theorem State.setAsm_kept {z : State} (s : State) (k : Nat) (a : Reasm) (hz : Kept z s) : Kept z (State.setAsm s k a) := by
  unfold State.setAsm
  repeat' (first
    | (with_reducible first
      | exact hz | apply State.setStream_kept | assumption)
    | extract_lets | dsimp only | dsimp +zetaDelta only)
theorem State.takeTags_kept {z : State} (d dest cls k : Nat) : ∀ (x0 : Nat) (x1 : List Byte) (s : State), Kept z s → Kept z
    (State.takeTags s d dest cls k x0 x1)
  | 0, _, s, hz => by unfold State.takeTags; repeat' (first
    | (with_reducible first
      | apply State.takeTags_kept | exact hz | apply State.setAsm_kept | apply State.offerTag_kept | apply State.setStream_kept
      | refine State.each_kept ?_ ?_ | apply State.ctDecide_kept | apply kept_ite | assumption)
    | (intro u x hu) | (intro u hu) | extract_lets | (split <;> (rename_i q; with_reducible refine kept_of_pair q ?_ (fun hu => ?_)))
    | (split <;> (rename_i q; with_reducible refine kept_of_pair2 q ?_ (fun hu => ?_))) | split | dsimp only | dsimp +zetaDelta only)
  | fuel + 1, bs, s, hz => by unfold State.takeTags; repeat' (first
    | (with_reducible first
      | apply State.takeTags_kept | exact hz | apply State.setAsm_kept | apply State.offerTag_kept | apply State.setStream_kept
      | refine State.each_kept ?_ ?_ | apply State.ctDecide_kept | apply kept_ite | assumption)
    | (intro u x hu) | (intro u hu) | extract_lets | (split <;> (rename_i q; with_reducible refine kept_of_pair q ?_ (fun hu => ?_)))
    | (split <;> (rename_i q; with_reducible refine kept_of_pair2 q ?_ (fun hu => ?_))) | split | dsimp only | dsimp +zetaDelta only)
theorem State.growFrame_kept {z : State} (s : State) (i : Nat) (bytes : List Byte) (hz : Kept z s) : Kept z (State.growFrame s i bytes)
    := by
  unfold State.growFrame
  repeat' (first
    | (with_reducible first
      | exact hz | apply State.setEf_kept | assumption)
    | extract_lets | (split <;> (rename_i q; with_reducible refine kept_of_pair q ?_ (fun hu => ?_)))
    | (split <;> (rename_i q; with_reducible refine kept_of_pair2 q ?_ (fun hu => ?_))) | split | dsimp only | dsimp +zetaDelta only)
theorem State.toLink_kept {z : State} (s : State) (d : Nat) (c : Cell) (hz : Kept z s) : Kept z (State.toLink s d c) := by
  unfold State.toLink
  repeat' (first
    | (with_reducible first
      | exact hz | apply State.setDeliver_kept | apply State.forwardCell_kept | apply State.setLink_kept | apply State.setWithheld_kept
      | apply kept_ite | assumption)
    | (intro u x hu) | (intro u hu) | extract_lets | split | dsimp only | dsimp +zetaDelta only)
theorem State.releaseCell_kept {z : State} (s : State) (d k : Nat) (c : Cell) (hz : Kept z s) : Kept z (State.releaseCell s d k c) := by
  unfold State.releaseCell
  repeat' (first
    | (with_reducible first
      | exact hz | apply State.setStream_kept | apply State.setFld_kept | apply State.raise_kept | apply State.toLink_kept
      | apply State.takeTags_kept | apply State.setAsm_kept | refine State.each_kept ?_ ?_ | apply State.growFrame_kept
      | apply State.ctDecide_kept | apply State.frameEnds_kept | apply State.breakFrame_kept | apply kept_ite | assumption)
    | (intro u x hu) | (intro u hu) | extract_lets | (split <;> (rename_i q; with_reducible refine kept_of_pair q ?_ (fun hu => ?_)))
    | (split <;> (rename_i q; with_reducible refine kept_of_pair2 q ?_ (fun hu => ?_))) | split | dsimp only | dsimp +zetaDelta only)
theorem State.setHeldCount_kept {z : State} (s : State) (d : Nat) (n : Int) (hz : Kept z s) : Kept z (State.setHeldCount s d n) := by
  unfold State.setHeldCount
  repeat' (first
    | (with_reducible first
      | exact hz | apply State.setFld_kept | apply kept_ite | assumption)
    | extract_lets | split | dsimp only | dsimp +zetaDelta only)
theorem State.runStream_kept {z : State} (d k : Nat) : ∀ (x0 : Nat) (s : State), Kept z s → Kept z (State.runStream s d k x0)
  | 0, s, hz => by unfold State.runStream; repeat' (first
    | (with_reducible first
      | apply State.runStream_kept | exact hz | apply State.setStream_kept | apply State.setHeldCount_kept
      | apply State.releaseCell_kept | apply kept_ite | assumption)
    | extract_lets | (split <;> (rename_i q; with_reducible refine kept_of_pair q ?_ (fun hu => ?_)))
    | (split <;> (rename_i q; with_reducible refine kept_of_pair2 q ?_ (fun hu => ?_))) | split | dsimp only | dsimp +zetaDelta only)
  | fuel + 1, s, hz => by unfold State.runStream; repeat' (first
    | (with_reducible first
      | apply State.runStream_kept | exact hz | apply State.setStream_kept | apply State.setHeldCount_kept
      | apply State.releaseCell_kept | apply kept_ite | assumption)
    | extract_lets | (split <;> (rename_i q; with_reducible refine kept_of_pair q ?_ (fun hu => ?_)))
    | (split <;> (rename_i q; with_reducible refine kept_of_pair2 q ?_ (fun hu => ?_))) | split | dsimp only | dsimp +zetaDelta only)
theorem State.loseOpen_kept {z : State} (s : State) (d k : Nat) (hz : Kept z s) : Kept z (State.loseOpen s d k) := by
  unfold State.loseOpen
  repeat' (first
    | (with_reducible first
      | exact hz | apply State.mirrorDrops_kept | apply State.setStream_kept | apply State.setAsm_kept | apply State.count_kept
      | refine State.each_kept ?_ ?_ | apply State.breakFrame_kept | apply kept_ite | assumption)
    | (intro u x hu) | (intro u hu) | extract_lets | split | dsimp only | dsimp +zetaDelta only)
theorem State.skipGap_kept {z : State} (s : State) (d k : Nat) (hz : Kept z s) : Kept z (State.skipGap s d k) := by
  unfold State.skipGap
  repeat' (first
    | (with_reducible first
      | exact hz | apply State.loseOpen_kept | apply State.setStream_kept | apply State.runStream_kept | apply kept_ite | assumption)
    | extract_lets | (split <;> (rename_i q; with_reducible refine kept_of_pair q ?_ (fun hu => ?_)))
    | (split <;> (rename_i q; with_reducible refine kept_of_pair2 q ?_ (fun hu => ?_))) | split | dsimp only | dsimp +zetaDelta only)
theorem State.resequence_kept {z : State} (s : State) (d : Nat) (c : TimedCell) (hz : Kept z s) : Kept z (State.resequence s d c) := by
  unfold State.resequence
  repeat' (first
    | (with_reducible first
      | exact hz | apply State.count_kept | apply State.setStream_kept | apply State.setHeldCount_kept | apply State.releaseCell_kept
      | apply State.runStream_kept | apply State.raise_kept | apply State.skipGap_kept | apply State.setFld_kept | apply kept_ite
      | assumption)
    | (intro u x hu) | (intro u hu) | extract_lets | (split <;> (rename_i q; with_reducible refine kept_of_pair q ?_ (fun hu => ?_)))
    | (split <;> (rename_i q; with_reducible refine kept_of_pair2 q ?_ (fun hu => ?_))) | split | dsimp only | dsimp +zetaDelta only)
theorem State.gapNotice_kept {z : State} (s : State) (d : Nat) (hz : Kept z s) : Kept z (State.gapNotice s d) := by
  unfold State.gapNotice
  repeat' (first
    | (with_reducible first
      | exact hz | apply State.count_kept | apply State.skipGap_kept | refine kept_foldl ?_ ?_ | refine kept_foldl1 ?_ ?_ | assumption)
    | (intro u x hu) | (intro u hu) | extract_lets | dsimp only | dsimp +zetaDelta only)
theorem State.planeOut_kept {z : State} (s : State) (p : Nat) (hz : Kept z s) : Kept z (State.planeOut s p) := by
  unfold State.planeOut
  repeat' (first
    | (with_reducible first
      | exact hz | refine State.onSys_kept ?_ rfl | apply State.setBitOf_kept | apply State.setFld_kept | apply State.onSw_kept
      | refine State.each_kept ?_ ?_ | apply State.gapNotice_kept | apply State.raise_kept | apply kept_ite | assumption)
    | (intro u x hu) | (intro u hu) | extract_lets | split | dsimp only | dsimp +zetaDelta only)
theorem State.badCell_kept {z : State} (s : State) (d p : Nat) (hz : Kept z s) : Kept z (State.badCell s d p) := by
  unfold State.badCell
  repeat' (first
    | (with_reducible first
      | exact hz | apply State.countRaise_kept | apply State.count_kept | apply State.onSw_kept | apply State.planeOut_kept
      | apply kept_ite | assumption)
    | (intro u x hu) | (intro u hu) | extract_lets | split | dsimp only | dsimp +zetaDelta only)
theorem State.retryStream_kept {z : State} (s : State) (k : Nat) (hz : Kept z s) : Kept z (State.retryStream s k) := by
  unfold State.retryStream
  repeat' (first
    | (with_reducible first
      | exact hz | apply State.takeTags_kept | apply State.runStream_kept | apply kept_ite | assumption)
    | extract_lets | split | dsimp only | dsimp +zetaDelta only)
theorem State.retryAll_kept {z : State} (s : State) (hz : Kept z s) : Kept z (State.retryAll s) := by
  unfold State.retryAll
  repeat' (first
    | (with_reducible first
      | exact hz | refine State.each_kept ?_ ?_ | apply State.retryStream_kept | apply State.setWithheld_kept | apply kept_ite
      | assumption)
    | (intro u x hu) | (intro u hu) | extract_lets | split | dsimp only | dsimp +zetaDelta only)
theorem State.frameGone_kept {z : State} (s : State) (fid : Nat) (hz : Kept z s) : Kept z (State.frameGone s fid) := by
  unfold State.frameGone
  repeat' (first
    | (with_reducible first
      | exact hz | apply State.dropFrame_kept | apply State.landAll_kept | apply State.retryAll_kept | assumption)
    | extract_lets | (split <;> (rename_i q; with_reducible refine kept_of_pair q ?_ (fun hu => ?_)))
    | (split <;> (rename_i q; with_reducible refine kept_of_pair2 q ?_ (fun hu => ?_))) | split | dsimp only | dsimp +zetaDelta only)
theorem State.doMatchingRound_kept {z : State} (s : State) (hz : Kept z s) : Kept z (State.doMatchingRound s) := by
  unfold State.doMatchingRound
  repeat' (first
    | (with_reducible first
      | exact hz | apply State.fabricIdle_kept | apply State.runRound_kept | apply State.publishLoads_kept | apply State.retryAll_kept
      | assumption)
    | (intro u x hu) | (intro u hu) | extract_lets | dsimp only | dsimp +zetaDelta only)
theorem State.doCellIdleClose_kept {z : State} (s : State) (sl q : Nat) (hz : Kept z s) : Kept z (State.doCellIdleClose s sl q) := by
  unfold State.doCellIdleClose
  repeat' (first
    | (with_reducible first
      | exact hz | apply State.ctArriveAll_kept | apply State.fabricIdle_kept | apply State.setVoq_kept | apply kept_ite | assumption)
    | (intro u x hu) | (intro u hu) | extract_lets | split | dsimp only | dsimp +zetaDelta only)
theorem State.doCellArrival_kept {z : State} (s : State) (d : Nat) (good : Bool) (hz : Kept z s) : Kept z (State.doCellArrival s d good)
    := by
  unfold State.doCellArrival
  repeat' (first
    | (with_reducible first
      | exact hz | apply State.onSw_kept | apply State.resequence_kept | apply State.retryAll_kept | apply State.badCell_kept
      | apply kept_ite | assumption)
    | (intro u x hu) | (intro u hu) | extract_lets | (split <;> (rename_i q; with_reducible refine kept_of_pair q ?_ (fun hu => ?_)))
    | (split <;> (rename_i q; with_reducible refine kept_of_pair2 q ?_ (fun hu => ?_))) | split | dsimp only | dsimp +zetaDelta only)
theorem State.doReseqTimeout_kept {z : State} (s : State) (d src dest c : Nat) (hz : Kept z s) : Kept z (State.doReseqTimeout s d src
    dest c) := by
  unfold State.doReseqTimeout
  repeat' (first
    | (with_reducible first
      | exact hz | apply State.countRaise_kept | apply State.skipGap_kept | apply State.retryAll_kept | apply kept_ite | assumption)
    | extract_lets | (split <;> (rename_i q; with_reducible refine kept_of_pair q ?_ (fun hu => ?_)))
    | (split <;> (rename_i q; with_reducible refine kept_of_pair2 q ?_ (fun hu => ?_))) | split | dsimp only | dsimp +zetaDelta only)
theorem State.doVoqStall_kept {z : State} (s : State) (sl q : Nat) (hz : Kept z s) : Kept z (State.doVoqStall s sl q) := by
  unfold State.doVoqStall
  repeat' (first
    | (with_reducible first
      | exact hz | apply State.setFld_kept | apply State.raise_kept | apply kept_ite | assumption)
    | extract_lets | (split <;> (rename_i q; with_reducible refine kept_of_pair q ?_ (fun hu => ?_)))
    | (split <;> (rename_i q; with_reducible refine kept_of_pair2 q ?_ (fun hu => ?_))) | split | dsimp only | dsimp +zetaDelta only)
theorem State.doPlaneRemove_kept {z : State} (s : State) (p : Nat) (hz : Kept z s) : Kept z (State.doPlaneRemove s p) := by
  unfold State.doPlaneRemove
  repeat' (first
    | (with_reducible first
      | exact hz | apply State.setFld_kept | apply State.planeOut_kept | apply kept_ite | assumption)
    | extract_lets | split | dsimp only | dsimp +zetaDelta only)
theorem State.doPlaneReturn_kept {z : State} (s : State) (p : Nat) (hz : Kept z s) : Kept z (State.doPlaneReturn s p) := by
  unfold State.doPlaneReturn
  repeat' (first
    | (with_reducible first
      | exact hz | apply State.onSw_kept | apply kept_ite | assumption)
    | (intro u x hu) | (intro u hu) | extract_lets | split | dsimp only | dsimp +zetaDelta only)
theorem State.doPlaneReturnDone_kept {z : State} (s : State) (p : Nat) (ok : Bool) (hz : Kept z s) : Kept z (State.doPlaneReturnDone s p
    ok) := by
  unfold State.doPlaneReturnDone
  repeat' (first
    | (with_reducible first
      | exact hz | apply State.onSw_kept | apply State.setBitOf_kept | apply State.setFld_kept | apply kept_ite | assumption)
    | (intro u x hu) | (intro u hu) | extract_lets | split | dsimp only | dsimp +zetaDelta only)

/-! ### Machine/Sched.lean -/

theorem State.setGateSt_kept {z : State} (s : State) (p : Nat) (f : Fld) (v : Nat) (hz : Kept z s) : Kept z (State.setGateSt s p f v) :=
    by
  unfold State.setGateSt
  repeat' (first
    | (with_reducible first
      | exact hz | apply State.setFld_kept | assumption)
    | extract_lets | dsimp only | dsimp +zetaDelta only)
theorem State.headGone_kept {z : State} (s : State) (i : Nat) (hz : Kept z s) : Kept z (State.headGone s i) := by
  unfold State.headGone
  repeat' (first
    | (with_reducible first
      | exact hz | apply State.mirrorDrops_kept | apply State.frameGone_kept | assumption)
    | (intro u x hu) | (intro u hu) | extract_lets | dsimp only | dsimp +zetaDelta only)
theorem State.headDiscard_kept {z : State} (s : State) (i : Nat) (hz : Kept z s) (t : State) (ht : State.headDiscard s i = some t) :
    Kept z t := by
  unfold State.headDiscard at ht
  split at ht
  · cases ht
  · dsimp only at ht
    (repeat' split at ht) <;> cases ht <;>
      first
        | exact State.headGone_kept _ _ (State.setQueue_kept _ _ _ hz)
        | exact State.headGone_kept _ _ (State.portCtr_kept _ _ _ _ hz)
        | exact State.headGone_kept _ _ (State.countRaise_kept _ _ _ _ hz)
        | exact State.headGone_kept _ _ (State.count_kept hz)
theorem State.cleanHead_kept {z : State} (lp qi : Nat) : ∀ (n : Nat) (s : State), Kept z s → Kept z (State.cleanHead s lp qi n)
  | 0, s, hz => by unfold State.cleanHead; exact hz
  | n + 1, s, hz => by
    unfold State.cleanHead
    split
    · exact hz
    · split
      · next h => exact State.cleanHead_kept lp qi n _ (State.headDiscard_kept _ _ hz _ h)
      · exact hz
theorem State.cleanHeads_kept {z : State} (s : State) (lp : Nat) (hz : Kept z s) : Kept z (State.cleanHeads s lp) := by
  unfold State.cleanHeads
  repeat' (first
    | (with_reducible first
      | exact hz | refine State.each_kept ?_ ?_ | apply State.landAll_kept | apply State.cleanHead_kept | assumption)
    | (intro u x hu) | (intro u hu) | extract_lets | dsimp only | dsimp +zetaDelta only)
theorem State.chargeNode_kept {z : State} (s : State) (sl t i len : Nat) (hz : Kept z s) : Kept z (State.chargeNode s sl t i len) := by
  unfold State.chargeNode
  repeat' (first
    | (with_reducible first
      | exact hz | apply State.setNode_kept | apply kept_ite | assumption)
    | extract_lets | split | dsimp only | dsimp +zetaDelta only)
theorem State.keepTokens_kept {z : State} (s old : State) (sl t i : Nat) (hz : Kept z s) : Kept z (State.keepTokens s old sl t i) := by
  unfold State.keepTokens
  repeat' (first
    | (with_reducible first
      | exact hz | apply State.setNode_kept | assumption)
    | extract_lets | dsimp only | dsimp +zetaDelta only)
theorem State.ratesChanged_kept {z : State} (s old : State) (sl : Nat) (hz : Kept z s) : Kept z (State.ratesChanged s old sl) := by
  unfold State.ratesChanged
  repeat' (first
    | (with_reducible first
      | exact hz | refine State.each_kept ?_ ?_ | apply State.keepTokens_kept | apply State.raise_kept | apply kept_ite | assumption)
    | (intro u x hu) | (intro u hu) | extract_lets | split | dsimp only | dsimp +zetaDelta only)
theorem State.noteChild_kept {z : State} (s : State) (sl tp ip t i : Nat) (w : NodeView) (hz : Kept z s) : Kept z (State.noteChild s sl
    tp ip t i w) := by
  unfold State.noteChild
  repeat' (first
    | (with_reducible first
      | exact hz | apply State.setNode_kept | apply State.fresh_kept | apply kept_ite | assumption)
    | extract_lets | split | dsimp only | dsimp +zetaDelta only)
theorem State.pickChild_kept {z : State} (s : State) (sl tp ip t : Nat) (kids : List (Nat × NodeView)) (hz : Kept z s) : Kept z
    (State.pickChild s sl tp ip t kids).1 := by
  unfold State.pickChild
  repeat' (first
    | (with_reducible first
      | exact hz | apply State.noteChild_kept | apply State.setNode_kept | apply kept_ite | refine kept_foldl ?_ ?_
      | refine kept_foldl1 ?_ ?_ | assumption)
    | (intro u x hu) | (intro u hu) | extract_lets | (split <;> (rename_i q; with_reducible refine kept_of_pair q ?_ (fun hu => ?_)))
    | (split <;> (rename_i q; with_reducible refine kept_of_pair2 q ?_ (fun hu => ?_))) | split | dsimp only | dsimp +zetaDelta only)
theorem State.treeDecide_kept {z : State} (s : State) (p : Nat) (hz : Kept z s) : Kept z (State.treeDecide s p) := by
  unfold State.treeDecide
  repeat' (first
    | (with_reducible first
      | exact hz | apply State.pickChild_kept | apply State.setPsched_kept | apply kept_ite | assumption)
    | (intro u x hu) | (intro u hu) | extract_lets | (split <;> (rename_i q; with_reducible refine kept_of_pair q ?_ (fun hu => ?_)))
    | (split <;> (rename_i q; with_reducible refine kept_of_pair2 q ?_ (fun hu => ?_))) | split | dsimp only | dsimp +zetaDelta only)
theorem State.doPortTreeDecision_kept {z : State} (s : State) (p : Nat) (hz : Kept z s) : Kept z (State.doPortTreeDecision s p) := by
  unfold State.doPortTreeDecision
  repeat' (first
    | (with_reducible first
      | exact hz | refine State.each_kept ?_ ?_ | apply State.cleanHeads_kept | apply State.treeDecide_kept | assumption)
    | (intro u x hu) | (intro u hu) | extract_lets | dsimp only | dsimp +zetaDelta only)
theorem State.chargePath_kept {z : State} (s : State) (qi bits sl len : Nat) (hz : Kept z s) : Kept z (State.chargePath s qi bits sl len)
    := by
  unfold State.chargePath
  repeat' (first
    | (with_reducible first
      | exact hz | apply State.chargeNode_kept | apply State.setNode_kept | apply kept_ite | assumption)
    | (intro u x hu) | (intro u hu) | extract_lets | split | dsimp only | dsimp +zetaDelta only)

/-! ### Machine/Mac.lean -/

theorem State.syncPreempt_kept {z : State} (s : State) (lp : Nat) (hz : Kept z s) : Kept z (State.syncPreempt s lp) := by
  unfold State.syncPreempt
  repeat' (first
    | (with_reducible first
      | exact hz | apply State.setMacFld_kept | apply kept_ite | assumption)
    | extract_lets | split | dsimp only | dsimp +zetaDelta only)
theorem State.verifyRest_kept {z : State} (s : State) (lp : Nat) (hz : Kept z s) : Kept z (State.verifyRest s lp) := by
  unfold State.verifyRest
  repeat' (first
    | (with_reducible first
      | exact hz | apply State.setMac_kept | apply State.setMacFld_kept | apply State.syncPreempt_kept | apply kept_ite | assumption)
    | extract_lets | split | dsimp only | dsimp +zetaDelta only)
theorem State.verifyStart_kept {z : State} (s : State) (lp : Nat) (hz : Kept z s) : Kept z (State.verifyStart s lp) := by
  unfold State.verifyStart
  repeat' (first
    | (with_reducible first
      | exact hz | apply State.setMac_kept | apply State.setMacFld_kept | apply State.syncPreempt_kept | apply State.emit_kept
      | apply State.verifyRest_kept | apply kept_ite | assumption)
    | extract_lets | split | dsimp only | dsimp +zetaDelta only)
theorem State.doVerifyTimer_kept {z : State} (s : State) (lp : Nat) (hz : Kept z s) : Kept z (State.doVerifyTimer s lp) := by
  unfold State.doVerifyTimer
  repeat' (first
    | (with_reducible first
      | exact hz | apply State.setMac_kept | apply State.setMacFld_kept | apply State.syncPreempt_kept | apply State.raise_kept
      | apply State.emit_kept | apply kept_ite | assumption)
    | extract_lets | (split <;> (rename_i q; with_reducible refine kept_of_pair q ?_ (fun hu => ?_)))
    | (split <;> (rename_i q; with_reducible refine kept_of_pair2 q ?_ (fun hu => ?_))) | split | dsimp only | dsimp +zetaDelta only)
theorem State.doVerifyRespondReceive_kept {z : State} (s : State) (lp : Nat) (hz : Kept z s) : Kept z (State.doVerifyRespondReceive s lp)
    := by
  unfold State.doVerifyRespondReceive
  repeat' (first
    | (with_reducible first
      | exact hz | apply State.setMac_kept | apply State.setMacFld_kept | apply State.syncPreempt_kept | apply kept_ite | assumption)
    | extract_lets | split | dsimp only | dsimp +zetaDelta only)
theorem State.doVerifyReceive_kept {z : State} (s : State) (lp : Nat) (hz : Kept z s) : Kept z (State.doVerifyReceive s lp) := by
  unfold State.doVerifyReceive
  repeat' (first
    | (with_reducible first
      | exact hz | apply State.emit_kept | apply kept_ite | assumption)
    | extract_lets | split | dsimp only | dsimp +zetaDelta only)
theorem State.noteLate_kept {z : State} (s : State) (lp : Nat) (t : Tx) (hz : Kept z s) : Kept z (State.noteLate s lp t) := by
  unfold State.noteLate
  repeat' (first
    | (with_reducible first
      | exact hz | apply State.setMac_kept | apply State.countRaise_kept | apply kept_ite | assumption)
    | extract_lets | (split <;> (rename_i q; with_reducible refine kept_of_pair q ?_ (fun hu => ?_)))
    | (split <;> (rename_i q; with_reducible refine kept_of_pair2 q ?_ (fun hu => ?_))) | split | dsimp only | dsimp +zetaDelta only)
theorem State.preemptTx_kept {z : State} (s : State) (lp : Nat) (hz : Kept z s) : Kept z (State.preemptTx s lp) := by
  unfold State.preemptTx
  repeat' (first
    | (with_reducible first
      | exact hz | apply State.noteLate_kept | apply State.setMac_kept | apply State.portCtr_kept | apply State.emit_kept | assumption)
    | extract_lets | (split <;> (rename_i q; with_reducible refine kept_of_pair q ?_ (fun hu => ?_)))
    | (split <;> (rename_i q; with_reducible refine kept_of_pair2 q ?_ (fun hu => ?_))) | split | dsimp only | dsimp +zetaDelta only)
theorem State.resumeTx_kept {z : State} (s : State) (lp : Nat) (hz : Kept z s) : Kept z (State.resumeTx s lp) := by
  unfold State.resumeTx
  repeat' (first
    | (with_reducible first
      | exact hz | apply State.setMac_kept | apply State.noteLate_kept | assumption)
    | extract_lets | (split <;> (rename_i q; with_reducible refine kept_of_pair q ?_ (fun hu => ?_)))
    | (split <;> (rename_i q; with_reducible refine kept_of_pair2 q ?_ (fun hu => ?_))) | split | dsimp only | dsimp +zetaDelta only)
theorem State.chooseLow_kept {z : State} (s : State) (lp : Nat) (hz : Kept z s) : Kept z (State.chooseLow s lp).1 := by
  unfold State.chooseLow
  repeat' (first
    | (with_reducible first
      | exact hz | apply State.setPsched_kept | apply kept_ite | assumption)
    | (intro u x hu) | (intro u hu) | extract_lets | (split <;> (rename_i q; with_reducible refine kept_of_pair q ?_ (fun hu => ?_)))
    | (split <;> (rename_i q; with_reducible refine kept_of_pair2 q ?_ (fun hu => ?_))) | split | dsimp only | dsimp +zetaDelta only)
theorem State.sendLead_kept {z : State} (s : State) (lp : Nat) (hz : Kept z s) : Kept z (State.sendLead s lp) := by
  unfold State.sendLead
  repeat' (first
    | (with_reducible first
      | exact hz | apply State.emit_kept | assumption)
    | extract_lets | dsimp only | dsimp +zetaDelta only)
theorem State.sendControl_kept {z : State} (s : State) (lp : Nat) (opcode : Nat) (data : List Byte) (hz : Kept z s) : Kept z
    (State.sendControl s lp opcode data) := by
  unfold State.sendControl
  repeat' (first
    | (with_reducible first
      | exact hz | apply State.txCount_kept | apply State.sendLead_kept | apply State.keepGap_kept | apply State.emit_kept
      | apply State.feedClient_kept | apply kept_ite | assumption)
    | extract_lets | (split <;> (rename_i q; with_reducible refine kept_of_pair q ?_ (fun hu => ?_)))
    | (split <;> (rename_i q; with_reducible refine kept_of_pair2 q ?_ (fun hu => ?_))) | split | dsimp only | dsimp +zetaDelta only)
theorem State.sendDue_kept {z : State} (s : State) (lp : Nat) (hz : Kept z s) : Kept z (State.sendDue s lp) := by
  unfold State.sendDue
  repeat' (first
    | (with_reducible first
      | exact hz | apply State.setMac_kept | apply State.sendControl_kept | apply State.portCtr_kept | refine State.each_kept ?_ ?_
      | apply kept_ite | assumption)
    | (intro u x hu) | (intro u hu) | extract_lets | (split <;> (rename_i q; with_reducible refine kept_of_pair q ?_ (fun hu => ?_)))
    | (split <;> (rename_i q; with_reducible refine kept_of_pair2 q ?_ (fun hu => ?_))) | split | dsimp only | dsimp +zetaDelta only)
theorem State.startTx_kept {z : State} (s : State) (lp i : Nat) (hz : Kept z s) : Kept z (State.startTx s lp i) := by
  unfold State.startTx
  repeat' (first
    | (with_reducible first
      | exact hz | apply State.setQueue_kept | apply State.setChain_kept | apply State.chargePath_kept | apply State.setPsched_kept
      | apply State.setEf_kept | apply State.egressMirror_kept | apply State.fifoPush_kept | apply State.setMac_kept
      | apply State.sendUnit_kept | apply State.closeTrain_kept | apply State.sendLead_kept | apply State.clientFrame_kept
      | apply kept_ite | assumption)
    | extract_lets | (split <;> (rename_i q; with_reducible refine kept_of_pair q ?_ (fun hu => ?_)))
    | (split <;> (rename_i q; with_reducible refine kept_of_pair2 q ?_ (fun hu => ?_))) | split | dsimp only | dsimp +zetaDelta only)
theorem State.doTransmitSelect_kept {z : State} (s : State) (lp : Nat) (hz : Kept z s) : Kept z (State.doTransmitSelect s lp) := by
  unfold State.doTransmitSelect
  repeat' (first
    | (with_reducible first
      | exact hz | apply State.cleanHeads_kept | apply State.preemptTx_kept | apply State.startTx_kept | apply State.resumeTx_kept
      | apply State.sendDue_kept | apply State.chooseLow_kept | apply State.closeTrains_kept | apply kept_ite | assumption)
    | extract_lets | (split <;> (rename_i q; with_reducible refine kept_of_pair q ?_ (fun hu => ?_)))
    | (split <;> (rename_i q; with_reducible refine kept_of_pair2 q ?_ (fun hu => ?_))) | split | dsimp only | dsimp +zetaDelta only)
theorem State.doTransmitEnd_kept {z : State} (s : State) (lp : Nat) (hz : Kept z s) : Kept z (State.doTransmitEnd s lp) := by
  unfold State.doTransmitEnd
  repeat' (first
    | (with_reducible first
      | exact hz | apply State.setMac_kept | apply State.noteLate_kept | apply State.stompTx_kept | apply State.landAll_kept
      | apply State.retryAll_kept | apply State.txCount_kept | apply State.portCtr_kept | apply State.emit_kept
      | apply State.leaveLine_kept | apply State.egressMirror_kept | apply State.frameGone_kept | apply kept_ite | assumption)
    | extract_lets | (split <;> (rename_i q; with_reducible refine kept_of_pair q ?_ (fun hu => ?_)))
    | (split <;> (rename_i q; with_reducible refine kept_of_pair2 q ?_ (fun hu => ?_))) | split | dsimp only | dsimp +zetaDelta only)
theorem State.doCtUnderrun_kept {z : State} (s : State) (lp : Nat) (hz : Kept z s) : Kept z (State.doCtUnderrun s lp) := by
  unfold State.doCtUnderrun
  repeat' (first
    | (with_reducible first
      | exact hz | apply State.breakFrame_kept | apply State.landAll_kept | apply State.retryAll_kept | apply kept_ite | assumption)
    | extract_lets | (split <;> (rename_i q; with_reducible refine kept_of_pair q ?_ (fun hu => ?_)))
    | (split <;> (rename_i q; with_reducible refine kept_of_pair2 q ?_ (fun hu => ?_))) | split | dsimp only | dsimp +zetaDelta only)
theorem State.abortTx_kept {z : State} (s : State) (lp : Nat) (hz : Kept z s) : Kept z (State.abortTx s lp) := by
  unfold State.abortTx
  repeat' (first
    | (with_reducible first
      | exact hz | apply State.portCtr_kept | apply State.setMac_kept | refine State.each_kept ?_ ?_ | apply State.engCtr_kept
      | apply State.frameGone_kept | assumption | apply kept_id)
    | (intro u x hu) | (intro u hu) | extract_lets | (split <;> (rename_i q; with_reducible refine kept_of_pair q ?_ (fun hu => ?_)))
    | (split <;> (rename_i q; with_reducible refine kept_of_pair2 q ?_ (fun hu => ?_))) | split | dsimp only | dsimp +zetaDelta only)
theorem State.rxCount_kept {z : State} (s : State) (lp : Nat) (bytes : List Byte) (err : Option Nat) (fragments : Nat) (hz : Kept z s) :
    Kept z (State.rxCount s lp bytes err fragments) := by
  unfold State.rxCount
  repeat' (first
    | (with_reducible first
      | exact hz | apply State.portCtr_kept | apply kept_ite | assumption)
    | extract_lets | (split <;> (rename_i q; with_reducible refine kept_of_pair q ?_ (fun hu => ?_)))
    | (split <;> (rename_i q; with_reducible refine kept_of_pair2 q ?_ (fun hu => ?_))) | split | dsimp only | dsimp +zetaDelta only)
theorem State.setPausedRx_kept {z : State} (s : State) (lp c : Nat) (b : Bool) (hz : Kept z s) : Kept z (State.setPausedRx s lp c b) := by
  unfold State.setPausedRx
  repeat' (first
    | (with_reducible first
      | exact hz | apply State.setMacFld_kept | apply kept_ite | assumption)
    | extract_lets | split | dsimp only | dsimp +zetaDelta only)
theorem State.setStorm_kept {z : State} (s : State) (lp c : Nat) (b : Bool) (hz : Kept z s) : Kept z (State.setStorm s lp c b) := by
  unfold State.setStorm
  repeat' (first
    | (with_reducible first
      | exact hz | apply State.setMacFld_kept | apply kept_ite | assumption)
    | extract_lets | split | dsimp only | dsimp +zetaDelta only)
theorem State.pauseClear_kept {z : State} (s : State) (lp c : Nat) (hz : Kept z s) : Kept z (State.pauseClear s lp c) := by
  unfold State.pauseClear
  repeat' (first
    | (with_reducible first
      | exact hz | apply State.setMac_kept | apply State.setPausedRx_kept | assumption)
    | (intro u x hu) | (intro u hu) | extract_lets | dsimp only | dsimp +zetaDelta only)
theorem State.pauseAct_kept {z : State} (s : State) (lp c quanta : Nat) (hz : Kept z s) : Kept z (State.pauseAct s lp c quanta) := by
  unfold State.pauseAct
  repeat' (first
    | (with_reducible first
      | exact hz | apply State.pauseClear_kept | apply State.setMac_kept | apply State.setPausedRx_kept | apply kept_ite | assumption)
    | extract_lets | (split <;> (rename_i q; with_reducible refine kept_of_pair q ?_ (fun hu => ?_)))
    | (split <;> (rename_i q; with_reducible refine kept_of_pair2 q ?_ (fun hu => ?_))) | split | dsimp only | dsimp +zetaDelta only)
theorem State.controlAct_kept {z : State} (s : State) (lp : Nat) (bytes : List Byte) (hz : Kept z s) : Kept z (State.controlAct s lp
    bytes) := by
  unfold State.controlAct
  repeat' (first
    | (with_reducible first
      | exact hz | apply State.portCtr_kept | refine State.each_kept ?_ ?_ | apply State.pauseAct_kept | apply kept_ite | assumption)
    | (intro u x hu) | (intro u hu) | extract_lets | (split <;> (rename_i q; with_reducible refine kept_of_pair q ?_ (fun hu => ?_)))
    | (split <;> (rename_i q; with_reducible refine kept_of_pair2 q ?_ (fun hu => ?_))) | split | dsimp only | dsimp +zetaDelta only)
theorem State.controlEnd_kept {z : State} (s : State) (lp : Nat) (bytes : List Byte) (e : RxEnd) (hz : Kept z s) : Kept z
    (State.controlEnd s lp bytes e) := by
  unfold State.controlEnd
  repeat' (first
    | (with_reducible first
      | exact hz | apply State.rxCount_kept | apply State.controlAct_kept | apply kept_ite | assumption)
    | extract_lets | split | dsimp only | dsimp +zetaDelta only)
theorem State.doMacControlReceive_kept {z : State} (s : State) (lp : Nat) (bytes : List Byte) (hz : Kept z s) : Kept z
    (State.doMacControlReceive s lp bytes) := by
  unfold State.doMacControlReceive
  repeat' (first
    | (with_reducible first
      | exact hz | apply State.controlEnd_kept | apply kept_ite | assumption)
    | extract_lets | split | dsimp only | dsimp +zetaDelta only)
theorem State.doPauseExpire_kept {z : State} (s : State) (lp c : Nat) (hz : Kept z s) : Kept z (State.doPauseExpire s lp c) := by
  unfold State.doPauseExpire
  repeat' (first
    | (with_reducible first
      | exact hz | apply State.pauseClear_kept | apply kept_ite | assumption)
    | extract_lets | (split <;> (rename_i q; with_reducible refine kept_of_pair q ?_ (fun hu => ?_)))
    | (split <;> (rename_i q; with_reducible refine kept_of_pair2 q ?_ (fun hu => ?_))) | split | dsimp only | dsimp +zetaDelta only)
theorem State.doPfcRefresh_kept {z : State} (s : State) (lp c : Nat) (hz : Kept z s) : Kept z (State.doPfcRefresh s lp c) := by
  unfold State.doPfcRefresh
  repeat' (first
    | (with_reducible first
      | exact hz | apply State.sendPause_kept | apply State.setPausing_kept | apply kept_ite | assumption)
    | extract_lets | (split <;> (rename_i q; with_reducible refine kept_of_pair q ?_ (fun hu => ?_)))
    | (split <;> (rename_i q; with_reducible refine kept_of_pair2 q ?_ (fun hu => ?_))) | split | dsimp only | dsimp +zetaDelta only)
theorem State.doPauseWatchdog_kept {z : State} (s : State) (lp c : Nat) (hz : Kept z s) : Kept z (State.doPauseWatchdog s lp c) := by
  unfold State.doPauseWatchdog
  repeat' (first
    | (with_reducible first
      | exact hz | refine State.each_kept ?_ ?_ | apply State.pauseClear_kept | apply State.setMac_kept | apply State.setStorm_kept
      | apply State.portCtr_kept | apply State.raise_kept | apply kept_ite | assumption)
    | (intro u x hu) | (intro u hu) | extract_lets | split | dsimp only | dsimp +zetaDelta only)
theorem State.doPauseRecoveryEnd_kept {z : State} (s : State) (lp c : Nat) (hz : Kept z s) : Kept z (State.doPauseRecoveryEnd s lp c) :=
    by
  unfold State.doPauseRecoveryEnd
  repeat' (first
    | (with_reducible first
      | exact hz | apply State.setMac_kept | apply State.setStorm_kept | apply kept_ite | assumption)
    | extract_lets | (split <;> (rename_i q; with_reducible refine kept_of_pair q ?_ (fun hu => ?_)))
    | (split <;> (rename_i q; with_reducible refine kept_of_pair2 q ?_ (fun hu => ?_))) | split | dsimp only | dsimp +zetaDelta only)
theorem State.wdFollow_kept {z : State} (s old : State) (lp : Nat) (hz : Kept z s) : Kept z (State.wdFollow s old lp) := by
  unfold State.wdFollow
  repeat' (first
    | (with_reducible first
      | exact hz | refine State.each_kept ?_ ?_ | apply State.setMac_kept | apply kept_ite | assumption)
    | (intro u x hu) | (intro u hu) | extract_lets | (split <;> (rename_i q; with_reducible refine kept_of_pair q ?_ (fun hu => ?_)))
    | (split <;> (rename_i q; with_reducible refine kept_of_pair2 q ?_ (fun hu => ?_))) | split | dsimp only | dsimp +zetaDelta only)

end Sys2Proof.Machine
end

