-- ==== Sys2Proof/Laws/KeptTables.lean ====
section
/-! SUPPORT. `Kept` of the operations over the scheduler window, the tables, the loom, the stacks and the trunks. -/

namespace Sys2Proof.Machine

set_option linter.all false

/-! ### Machine/SchedCmd.lean -/

theorem State.winPut_kept {z : State} (pg off : Nat) : ∀ (x0 : List Word) (s : State), Kept z s → Kept z (State.winPut s pg off x0)
  | [], s, hz => by unfold State.winPut; repeat' (first
    | (with_reducible first
      | apply State.winPut_kept | exact hz | apply State.wr_kept | assumption)
    | extract_lets | dsimp only | dsimp +zetaDelta only)
  | w :: r, s, hz => by unfold State.winPut; repeat' (first
    | (with_reducible first
      | apply State.winPut_kept | exact hz | apply State.wr_kept | assumption)
    | extract_lets | dsimp only | dsimp +zetaDelta only)
theorem State.winDone_kept {z : State} (s : State) (pg : Nat) (res busy : Fld) (r : Nat) (hz : Kept z s) : Kept z (State.winDone s pg res
    busy r) := by
  unfold State.winDone
  repeat' (first
    | (with_reducible first
      | exact hz | apply State.setFld_kept | assumption)
    | extract_lets | dsimp only | dsimp +zetaDelta only)
theorem State.winBusy_kept {z : State} (s : State) (pg : Nat) (busy refused : Fld) (run : State → State) (hz : Kept z s) (hr : ∀ u, Kept
    z u → Kept z (run u)) : Kept z (State.winBusy s pg busy refused run) := by
  unfold State.winBusy
  repeat' (first
    | (with_reducible first
      | exact hz | apply hr | apply State.setFld_kept | apply kept_ite | assumption)
    | extract_lets | split | dsimp only | dsimp +zetaDelta only)
theorem State.writeNode_kept {z : State} (s : State) (sl t i : Nat) (ws : List Word) (hz : Kept z s) : Kept z (State.writeNode s sl t i
    ws).1 := by
  unfold State.writeNode
  repeat' (first
    | (with_reducible first
      | exact hz | apply State.setSchd_kept | apply State.setNode_kept | apply kept_ite | assumption)
    | extract_lets | split | dsimp only | dsimp +zetaDelta only)
theorem State.schedWrite_kept {z : State} (s : State) (sl t i : Nat) (ws : List Word) (hz : Kept z s) : Kept z (State.schedWrite s sl t i
    ws).1 := by
  unfold State.schedWrite
  repeat' (first
    | (with_reducible first
      | exact hz | apply State.setSchd_kept | apply State.writeNode_kept | apply State.setSample_kept | apply kept_ite | assumption)
    | (intro u x hu) | (intro u hu) | extract_lets | (split <;> (rename_i q; with_reducible refine kept_of_pair q ?_ (fun hu => ?_)))
    | (split <;> (rename_i q; with_reducible refine kept_of_pair2 q ?_ (fun hu => ?_))) | split | dsimp only | dsimp +zetaDelta only)
theorem State.schWindow_kept {z : State} (s : State) (sl t i : Nat) (run : State → State) (hz : Kept z s) (hr : ∀ u, Kept z u → Kept z
    (run u)) : Kept z (State.schWindow s sl t i run) := by
  unfold State.schWindow
  repeat' (first
    | (with_reducible first
      | exact hz | apply hr | apply State.winBusy_kept | apply State.setFld_kept | assumption)
    | (intro u x hu) | (intro u hu) | extract_lets | dsimp only | dsimp +zetaDelta only)
theorem State.schDone_kept {z : State} (s : State) (sl r : Nat) (hz : Kept z s) : Kept z (State.schDone s sl r) := by
  unfold State.schDone
  repeat' (first
    | (with_reducible first
      | exact hz | apply State.winDone_kept | assumption)
    | extract_lets | dsimp only | dsimp +zetaDelta only)
theorem State.doSchedWrite_kept {z : State} (s : State) (sl t i : Nat) (hz : Kept z s) : Kept z (State.doSchedWrite s sl t i) := by
  unfold State.doSchedWrite
  repeat' (first
    | (with_reducible first
      | exact hz | apply State.schWindow_kept | apply State.schedWrite_kept | apply State.guarCapture_kept | apply State.schDone_kept
      | apply kept_ite | assumption)
    | (intro u x hu) | (intro u hu) | extract_lets | (split <;> (rename_i q; with_reducible refine kept_of_pair q ?_ (fun hu => ?_)))
    | (split <;> (rename_i q; with_reducible refine kept_of_pair2 q ?_ (fun hu => ?_))) | split | dsimp only | dsimp +zetaDelta only)
theorem State.doSchedRead_kept {z : State} (s : State) (sl t i : Nat) (hz : Kept z s) : Kept z (State.doSchedRead s sl t i) := by
  unfold State.doSchedRead
  repeat' (first
    | (with_reducible first
      | exact hz | apply State.schWindow_kept | apply State.winPut_kept | apply State.schDone_kept | assumption)
    | (intro u x hu) | (intro u hu) | extract_lets | (split <;> (rename_i q; with_reducible refine kept_of_pair q ?_ (fun hu => ?_)))
    | (split <;> (rename_i q; with_reducible refine kept_of_pair2 q ?_ (fun hu => ?_))) | split | dsimp only | dsimp +zetaDelta only)
theorem State.doSampleReadClear_kept {z : State} (s : State) (sl i : Nat) (hz : Kept z s) : Kept z (State.doSampleReadClear s sl i) := by
  unfold State.doSampleReadClear
  repeat' (first
    | (with_reducible first
      | exact hz | apply State.schWindow_kept | apply State.winPut_kept | apply State.setSample_kept | apply State.schDone_kept
      | assumption)
    | (intro u x hu) | (intro u hu) | extract_lets | (split <;> (rename_i q; with_reducible refine kept_of_pair q ?_ (fun hu => ?_)))
    | (split <;> (rename_i q; with_reducible refine kept_of_pair2 q ?_ (fun hu => ?_))) | split | dsimp only | dsimp +zetaDelta only)
theorem State.doGateCommit_kept {z : State} (s : State) (sl k : Nat) (hz : Kept z s) : Kept z (State.doGateCommit s sl k) := by
  unfold State.doGateCommit
  repeat' (first
    | (with_reducible first
      | exact hz | apply State.schWindow_kept | apply State.setGate_kept | apply State.setFld_kept | assumption)
    | (intro u x hu) | (intro u hu) | extract_lets | dsimp only | dsimp +zetaDelta only)
theorem State.doGateCopyDone_kept {z : State} (s : State) (sl k : Nat) (hz : Kept z s) : Kept z (State.doGateCopyDone s sl k) := by
  unfold State.doGateCopyDone
  repeat' (first
    | (with_reducible first
      | exact hz | apply State.setGate_kept | apply State.setGateSt_kept | apply State.schDone_kept | assumption)
    | extract_lets | (split <;> (rename_i q; with_reducible refine kept_of_pair q ?_ (fun hu => ?_)))
    | (split <;> (rename_i q; with_reducible refine kept_of_pair2 q ?_ (fun hu => ?_))) | split | dsimp only | dsimp +zetaDelta only)
theorem State.showGates_kept {z : State} (s : State) (p : Nat) (hz : Kept z s) : Kept z (State.showGates s p) := by
  unfold State.showGates
  repeat' (first
    | (with_reducible first
      | exact hz | apply State.setGateSt_kept | refine State.each_kept ?_ ?_ | apply State.preemptTx_kept | apply kept_ite | assumption)
    | (intro u x hu) | (intro u hu) | extract_lets | split | dsimp only | dsimp +zetaDelta only)
theorem State.gateChange_kept {z : State} (s : State) (p : Nat) (hz : Kept z s) : Kept z (State.gateChange s p) := by
  unfold State.gateChange
  repeat' (first
    | (with_reducible first
      | exact hz | apply State.setGate_kept | apply State.setGateSt_kept | apply State.showGates_kept | apply State.raise_kept
      | apply kept_ite | assumption)
    | extract_lets | (split <;> (rename_i q; with_reducible refine kept_of_pair q ?_ (fun hu => ?_)))
    | (split <;> (rename_i q; with_reducible refine kept_of_pair2 q ?_ (fun hu => ?_))) | split | dsimp only | dsimp +zetaDelta only)
theorem State.doGateListChange_kept {z : State} (s : State) (p : Nat) (hz : Kept z s) : Kept z (State.doGateListChange s p) := by
  unfold State.doGateListChange
  repeat' (first
    | (with_reducible first
      | exact hz | apply State.gateChange_kept | assumption)
    | extract_lets | dsimp only | dsimp +zetaDelta only)
theorem State.doGateEntryAdvance_kept {z : State} (s : State) (p : Nat) (hz : Kept z s) : Kept z (State.doGateEntryAdvance s p) := by
  unfold State.doGateEntryAdvance
  repeat' (first
    | (with_reducible first
      | exact hz | apply State.showGates_kept | apply kept_ite | assumption)
    | extract_lets | split | dsimp only | dsimp +zetaDelta only)
theorem State.gateStep_kept {z : State} (s : State) (n : Nat) (hz : Kept z s) : Kept z (State.gateStep s n) := by
  unfold State.gateStep
  repeat' (first
    | (with_reducible first
      | exact hz | refine State.each_kept ?_ ?_ | apply State.gateChange_kept | apply State.showGates_kept | apply State.raise_kept
      | assumption)
    | (intro u x hu) | (intro u hu) | extract_lets | (split <;> (rename_i q; with_reducible refine kept_of_pair q ?_ (fun hu => ?_)))
    | (split <;> (rename_i q; with_reducible refine kept_of_pair2 q ?_ (fun hu => ?_))) | split | dsimp only | dsimp +zetaDelta only)
theorem State.declareBreach_kept {z : State} (s : State) (p : Nat) (hz : Kept z s) : Kept z (State.declareBreach s p) := by
  unfold State.declareBreach
  repeat' (first
    | (with_reducible first
      | exact hz | apply State.setGateSt_kept | apply State.showGates_kept | apply State.raise_kept | apply kept_ite | assumption)
    | extract_lets | split | dsimp only | dsimp +zetaDelta only)
theorem State.doQueueSample_kept {z : State} (s : State) (sl i : Nat) (hz : Kept z s) : Kept z (State.doQueueSample s sl i) := by
  unfold State.doQueueSample
  repeat' (first
    | (with_reducible first
      | exact hz | apply State.setSample_kept | apply State.fifoPush_kept | apply kept_ite | assumption)
    | extract_lets | (split <;> (rename_i q; with_reducible refine kept_of_pair q ?_ (fun hu => ?_)))
    | (split <;> (rename_i q; with_reducible refine kept_of_pair2 q ?_ (fun hu => ?_))) | split | dsimp only | dsimp +zetaDelta only)

/-! ### Machine/Classify.lean -/

theorem State.meterFrame_kept {z : State} (s : State) (sl i c size stamp : Nat) (hz : Kept z s) : Kept z (State.meterFrame s sl i c size
    stamp).1 := by
  unfold State.meterFrame
  repeat' (first
    | (with_reducible first
      | exact hz | apply State.count_kept | apply State.setMeter_kept | apply kept_ite | assumption)
    | extract_lets | (split <;> (rename_i q; with_reducible refine kept_of_pair q ?_ (fun hu => ?_)))
    | (split <;> (rename_i q; with_reducible refine kept_of_pair2 q ?_ (fun hu => ?_))) | split | dsimp only | dsimp +zetaDelta only)
theorem State.ruleRefuse_kept {z : State} (s : State) (sl : Nat) (w : Who) (b : Bool) (hz : Kept z s) : Kept z (State.ruleRefuse s sl w
    b) := by
  unfold State.ruleRefuse
  repeat' (first
    | (with_reducible first
      | exact hz | apply State.setFld_kept | apply kept_ite | assumption)
    | extract_lets | (split <;> (rename_i q; with_reducible refine kept_of_pair q ?_ (fun hu => ?_)))
    | (split <;> (rename_i q; with_reducible refine kept_of_pair2 q ?_ (fun hu => ?_))) | split | dsimp only | dsimp +zetaDelta only)
theorem State.ruleWindow_kept {z : State} (s : State) (sl : Nat) (w : Who) (i : Nat) (run : State → Nat → State) (hz : Kept z s) (hr : ∀
    u n, Kept z u → Kept z (run u n)) : Kept z (State.ruleWindow s sl w i run) := by
  unfold State.ruleWindow
  repeat' (first
    | (with_reducible first
      | exact hz | apply hr | apply State.ruleRefuse_kept | apply State.setFld_kept | apply kept_ite | assumption)
    | extract_lets | split | dsimp only | dsimp +zetaDelta only)
theorem State.doRuleWrite_kept {z : State} (s : State) (sl : Nat) (w : Who) (i ver : Nat) (hz : Kept z s) : Kept z (State.doRuleWrite s
    sl w i ver) := by
  unfold State.doRuleWrite
  repeat' (first
    | (with_reducible first
      | exact hz | apply State.ruleWindow_kept | apply State.ruleRefuse_kept | apply State.setFld_kept | apply State.setRule_kept
      | apply kept_ite | assumption)
    | (intro u x hu) | (intro u hu) | extract_lets | split | dsimp only | dsimp +zetaDelta only)
theorem State.doRuleRead_kept {z : State} (s : State) (sl : Nat) (w : Who) (i : Nat) (hz : Kept z s) : Kept z (State.doRuleRead s sl w i)
    := by
  unfold State.doRuleRead
  repeat' (first
    | (with_reducible first
      | exact hz | apply State.ruleWindow_kept | apply State.winPut_kept | apply State.setFld_kept | apply kept_ite | assumption)
    | (intro u x hu) | (intro u hu) | extract_lets | split | dsimp only | dsimp +zetaDelta only)
theorem State.doRuleInvalidate_kept {z : State} (s : State) (sl : Nat) (w : Who) (i : Nat) (hz : Kept z s) : Kept z
    (State.doRuleInvalidate s sl w i) := by
  unfold State.doRuleInvalidate
  repeat' (first
    | (with_reducible first
      | exact hz | apply State.ruleWindow_kept | apply State.setRule_kept | assumption)
    | (intro u x hu) | (intro u hu) | extract_lets | dsimp only | dsimp +zetaDelta only)
theorem State.doTemplateWrite_kept {z : State} (s : State) (sl i : Nat) (hz : Kept z s) : Kept z (State.doTemplateWrite s sl i) := by
  unfold State.doTemplateWrite
  repeat' (first
    | (with_reducible first
      | exact hz | apply State.winBusy_kept | apply State.setFld_kept | apply State.setTemplate_kept | apply kept_ite | assumption)
    | (intro u x hu) | (intro u hu) | extract_lets | split | dsimp only | dsimp +zetaDelta only)
theorem State.doTemplateRead_kept {z : State} (s : State) (sl i : Nat) (hz : Kept z s) : Kept z (State.doTemplateRead s sl i) := by
  unfold State.doTemplateRead
  repeat' (first
    | (with_reducible first
      | exact hz | apply State.winBusy_kept | apply State.setFld_kept | apply State.setFlag_kept | apply State.winPut_kept | assumption)
    | (intro u x hu) | (intro u hu) | extract_lets | dsimp only | dsimp +zetaDelta only)
theorem State.doMeterWrite_kept {z : State} (s : State) (sl i : Nat) (hz : Kept z s) : Kept z (State.doMeterWrite s sl i) := by
  unfold State.doMeterWrite
  repeat' (first
    | (with_reducible first
      | exact hz | apply State.winBusy_kept | apply State.setFld_kept | apply State.setMeter_kept | apply kept_ite | assumption)
    | (intro u x hu) | (intro u hu) | extract_lets | split | dsimp only | dsimp +zetaDelta only)
theorem State.doMeterRead_kept {z : State} (s : State) (sl i : Nat) (hz : Kept z s) : Kept z (State.doMeterRead s sl i) := by
  unfold State.doMeterRead
  repeat' (first
    | (with_reducible first
      | exact hz | apply State.winBusy_kept | apply State.setFld_kept | apply State.winPut_kept | refine State.each_kept ?_ ?_
      | apply State.setCtr_kept | assumption)
    | (intro u x hu) | (intro u hu) | extract_lets | dsimp only | dsimp +zetaDelta only)
theorem State.doMeterRefill_kept {z : State} (s : State) (sl i : Nat) (hz : Kept z s) : Kept z (State.doMeterRefill s sl i) := by
  unfold State.doMeterRefill
  repeat' (first
    | (with_reducible first
      | exact hz | apply State.setMeter_kept | apply kept_ite | assumption)
    | extract_lets | split | dsimp only | dsimp +zetaDelta only)

/-! ### Machine/Ingress.lean -/

theorem State.arrivalCheck_kept {z : State} (s : State) (lp c stamp len : Nat) (hz : Kept z s) : Kept z (State.arrivalCheck s lp c stamp
    len) := by
  unfold State.arrivalCheck
  repeat' (first
    | (with_reducible first
      | exact hz | apply State.setArrival_kept | apply State.setGate_kept | apply State.declareBreach_kept | apply kept_ite | assumption)
    | (intro u x hu) | (intro u hu) | extract_lets | (split <;> (rename_i q; with_reducible refine kept_of_pair q ?_ (fun hu => ?_)))
    | (split <;> (rename_i q; with_reducible refine kept_of_pair2 q ?_ (fun hu => ?_))) | split | dsimp only | dsimp +zetaDelta only)
theorem State.classify_kept {z : State} (s : State) (lp : Nat) (b : List Byte) (hz : Kept z s) : Kept z (State.classify s lp b).1 := by
  unfold State.classify
  repeat' (first
    | (with_reducible first
      | exact hz | apply State.count_kept | apply State.setFld_kept | apply State.raise_kept | apply State.setRule_kept
      | apply kept_ite | assumption)
    | (intro u x hu) | (intro u hu) | extract_lets | (split <;> (rename_i q; with_reducible refine kept_of_pair q ?_ (fun hu => ?_)))
    | (split <;> (rename_i q; with_reducible refine kept_of_pair2 q ?_ (fun hu => ?_))) | split | dsimp only | dsimp +zetaDelta only)
theorem State.bdCount_kept {z : State} (s : State) (bd n : Nat) (hz : Kept z s) : Kept z (State.bdCount s bd n) := by
  unfold State.bdCount
  repeat' (first
    | (with_reducible first
      | exact hz | apply State.setBdCnt_kept | assumption)
    | extract_lets | dsimp only | dsimp +zetaDelta only)
theorem State.tblCtr_kept {z : State} (s : State) (n : Nat) (hz : Kept z s) : Kept z (State.tblCtr s n) := by
  unfold State.tblCtr
  repeat' (first
    | (with_reducible first
      | exact hz | apply State.count_kept | assumption)
    | extract_lets | dsimp only | dsimp +zetaDelta only)
theorem State.bdStage_kept {z : State} (s : State) (lp : Nat) (b : List Byte) (hz : Kept z s) : Kept z (State.bdStage s lp b).1 := by
  unfold State.bdStage
  repeat' (first
    | (with_reducible first
      | exact hz | apply State.tblCtr_kept | apply kept_ite | assumption)
    | extract_lets | split | dsimp only | dsimp +zetaDelta only)
theorem State.srcCheck_kept {z : State} (s : State) (lp bd : Nat) (b : List Byte) (may : Bool) (hz : Kept z s) : Kept z (State.srcCheck s
    lp bd b may).1 := by
  unfold State.srcCheck
  repeat' (first
    | (with_reducible first
      | exact hz | apply State.setCopy_kept | apply State.bdCount_kept | apply State.raise_kept | apply kept_ite | assumption)
    | extract_lets | (split <;> (rename_i q; with_reducible refine kept_of_pair q ?_ (fun hu => ?_)))
    | (split <;> (rename_i q; with_reducible refine kept_of_pair2 q ?_ (fun hu => ?_))) | split | dsimp only | dsimp +zetaDelta only)
theorem State.notSelf_kept {z : State} (s : State) (lp bd : Nat) (d : Dest) (hz : Kept z s) : Kept z (State.notSelf s lp bd d).1 := by
  unfold State.notSelf
  repeat' (first
    | (with_reducible first
      | exact hz | apply State.tblCtr_kept | apply kept_ite | assumption)
    | extract_lets | (split <;> (rename_i q; with_reducible refine kept_of_pair q ?_ (fun hu => ?_)))
    | (split <;> (rename_i q; with_reducible refine kept_of_pair2 q ?_ (fun hu => ?_))) | split | dsimp only | dsimp +zetaDelta only)
theorem State.destLookup_kept {z : State} (s : State) (lp bd : Nat) (b : List Byte) (hz : Kept z s) : Kept z (State.destLookup s lp bd
    b).1 := by
  unfold State.destLookup
  repeat' (first
    | (with_reducible first
      | exact hz | apply State.tblCtr_kept | apply State.routeTo_kept | apply State.notSelf_kept | apply State.bdCount_kept
      | apply kept_ite | assumption)
    | extract_lets | (split <;> (rename_i q; with_reducible refine kept_of_pair q ?_ (fun hu => ?_)))
    | (split <;> (rename_i q; with_reducible refine kept_of_pair2 q ?_ (fun hu => ?_))) | split | dsimp only | dsimp +zetaDelta only)
theorem State.placeFrame_kept {z : State} (s : State) (lp k : Nat) (r : RxFrame) (f : Frame) (d : Dest) (hz : Kept z s) : Kept z
    (State.placeFrame s lp k r f d).1 := by
  unfold State.placeFrame
  repeat' (first
    | (with_reducible first
      | exact hz | apply State.voqAdmit_kept | apply State.voqBegin_kept | apply State.pendTo_kept | apply kept_ite | assumption)
    | extract_lets | (split <;> (rename_i q; with_reducible refine kept_of_pair q ?_ (fun hu => ?_)))
    | (split <;> (rename_i q; with_reducible refine kept_of_pair2 q ?_ (fun hu => ?_))) | split | dsimp only | dsimp +zetaDelta only)
theorem State.lookup_kept {z : State} (s : State) (lp k : Nat) (r : RxFrame) (hz : Kept z s) : Kept z (State.lookup s lp k r).1 := by
  unfold State.lookup
  extract_lets sl b
  split
  split
  next q =>
  refine kept_of_pair q (State.classify_kept _ _ _ hz) fun h1 => ?_
  clear q
  extract_lets cls col r1 f cp ses
  clear_value ses
  split
  next q =>
  refine kept_of_pair q ?_ fun h2 => ?_
  · split
    · split
      next q => exact kept_of_pair q (State.mirrorPend_kept _ _ _ _ _ h1) id
    · exact h1
  clear q
  split
  · exact State.count_kept h2
  split
  next q =>
  refine kept_of_pair q ?_ fun h3 => ?_
  · split
    · exact State.meterFrame_kept _ _ _ _ _ _ h2
    · exact h2
  clear q
  (try extract_lets)
  split
  · exact h3
  split
  · exact State.count_kept h3
  split
  · exact State.count_kept h3
  (try extract_lets)
  split
  · next q => exact kept_of_pair q (State.bdStage_kept _ _ _ h3) id
  next q =>
  refine kept_of_pair q (State.bdStage_kept _ _ _ h3) fun h4 => ?_
  clear q
  split
  · exact h4
  split
  · exact State.tblCtr_kept _ _ h4
  extract_lets
  split
  next q =>
  refine kept_of_pair q ?_ fun h5 => ?_
  · split
    · extract_lets
      split
      next q => exact kept_of_pair q (State.srcCheck_kept _ _ _ _ _ h4) id
    · exact h4
  clear q
  split
  · exact h5
  extract_lets
  split
  · exact State.placeFrame_kept _ _ _ _ _ _ h5
  split
  · split
    next q => exact kept_of_pair q (State.routeTo_kept _ _ _ h5) fun h6 => State.placeFrame_kept _ _ _ _ _ _ h6
  · split
    next q => exact kept_of_pair q (State.destLookup_kept _ _ _ _ h5) fun h6 => State.placeFrame_kept _ _ _ _ _ _ h6
theorem State.learnSend_kept {z : State} (s : State) (lp bd addr : Nat) (move : Bool) (hz : Kept z s) : Kept z (State.learnSend s lp bd
    addr move) := by
  unfold State.learnSend
  repeat' (first
    | (with_reducible first
      | exact hz | apply State.onTables_kept | apply kept_ite | assumption)
    | (intro u x hu) | (intro u hu) | extract_lets | split | dsimp only | dsimp +zetaDelta only)
theorem State.doFrameReceiveStart_kept {z : State} (s : State) (lp k : Nat) (bytes : List Byte) (hz : Kept z s) : Kept z
    (State.doFrameReceiveStart s lp k bytes) := by
  unfold State.doFrameReceiveStart
  repeat' (first
    | (with_reducible first
      | exact hz | apply State.setRx_kept | apply kept_ite | assumption)
    | extract_lets | split | dsimp only | dsimp +zetaDelta only)
theorem State.wrAll_kept {z : State} (s : State) (l : Map Word) (hz : Kept z s) : Kept z (State.wrAll s l) := by
  unfold State.wrAll
  repeat' (first
    | (with_reducible first
      | exact hz | apply State.wr_kept | refine kept_foldl ?_ ?_ | refine kept_foldl1 ?_ ?_ | assumption)
    | (intro u x hu) | (intro u hu) | extract_lets | dsimp only | dsimp +zetaDelta only)
theorem State.lookupRx_kept {z : State} (s : State) (lp k : Nat) (r : RxFrame) (hz : Kept z s) : Kept z (State.lookupRx s lp k r).1 := by
  unfold State.lookupRx
  split
  next q => exact kept_of_pair q (State.lookup_kept _ _ _ _ (State.wrAll_kept _ _ hz)) (State.wrAll_kept _ _)
theorem State.doRuleLookup_kept {z : State} (s : State) (lp k : Nat) (hz : Kept z s) : Kept z (State.doRuleLookup s lp k) := by
  unfold State.doRuleLookup
  repeat' (first
    | (with_reducible first
      | exact hz | apply State.lookupRx_kept | apply State.setRx_kept | apply kept_ite | assumption)
    | extract_lets | (split <;> (rename_i q; with_reducible refine kept_of_pair q ?_ (fun hu => ?_)))
    | (split <;> (rename_i q; with_reducible refine kept_of_pair2 q ?_ (fun hu => ?_))) | split | dsimp only | dsimp +zetaDelta only)
theorem State.rxBreak_kept {z : State} (s : State) (lp k status : Nat) (r : RxFrame) (arrived : List Byte) (hz : Kept z s) : Kept z
    (State.rxBreak s lp k status r arrived) := by
  unfold State.rxBreak
  repeat' (first
    | (with_reducible first
      | exact hz | apply State.dropPend_kept | apply State.voqEnd_kept | refine kept_foldl ?_ ?_ | refine kept_foldl1 ?_ ?_ | assumption)
    | (intro u x hu) | (intro u hu) | extract_lets | (split <;> (rename_i q; with_reducible refine kept_of_pair q ?_ (fun hu => ?_)))
    | (split <;> (rename_i q; with_reducible refine kept_of_pair2 q ?_ (fun hu => ?_))) | split | dsimp only | dsimp +zetaDelta only)
theorem State.rxGood_kept {z : State} (s : State) (lp k : Nat) (r : RxFrame) (hz : Kept z s) : Kept z (State.rxGood s lp k r) := by
  unfold State.rxGood
  repeat' (first
    | (with_reducible first
      | exact hz | apply State.enterPend_kept | apply State.voqShrink_kept | apply State.voqEnd_kept | apply State.learnSend_kept
      | apply kept_ite | refine kept_foldl ?_ ?_ | refine kept_foldl1 ?_ ?_ | assumption)
    | (intro u x hu) | (intro u hu) | extract_lets | (split <;> (rename_i q; with_reducible refine kept_of_pair q ?_ (fun hu => ?_)))
    | (split <;> (rename_i q; with_reducible refine kept_of_pair2 q ?_ (fun hu => ?_))) | split | dsimp only | dsimp +zetaDelta only)
theorem State.frameEnd_kept {z : State} (s : State) (lp k : Nat) (r : RxFrame) (e : RxEnd) (hz : Kept z s) : Kept z (State.frameEnd s lp
    k r e) := by
  unfold State.frameEnd
  repeat' (first
    | (with_reducible first
      | exact hz | apply State.rxCount_kept | apply State.rxBreak_kept | apply State.rxGood_kept | apply State.perfHit_kept
      | apply State.arrivalCheck_kept | apply kept_ite | assumption)
    | extract_lets | split | dsimp only | dsimp +zetaDelta only)
theorem State.doFrameReceiveEnd_kept {z : State} (s : State) (lp k : Nat) (e : RxEnd) (hz : Kept z s) : Kept z (State.doFrameReceiveEnd s
    lp k e) := by
  unfold State.doFrameReceiveEnd
  repeat' (first
    | (with_reducible first
      | exact hz | apply State.setRx_kept | apply State.controlEnd_kept | apply State.lookupRx_kept | apply State.frameEnd_kept
      | apply kept_ite | assumption)
    | extract_lets | (split <;> (rename_i q; with_reducible refine kept_of_pair q ?_ (fun hu => ?_)))
    | (split <;> (rename_i q; with_reducible refine kept_of_pair2 q ?_ (fun hu => ?_))) | split | dsimp only | dsimp +zetaDelta only)
theorem State.rxCut_kept {z : State} (s : State) (lp k : Nat) (hz : Kept z s) : Kept z (State.rxCut s lp k) := by
  unfold State.rxCut
  repeat' (first
    | (with_reducible first
      | exact hz | apply State.setRx_kept | apply State.portCtr_kept | apply State.rxBreak_kept | assumption)
    | extract_lets | (split <;> (rename_i q; with_reducible refine kept_of_pair q ?_ (fun hu => ?_)))
    | (split <;> (rename_i q; with_reducible refine kept_of_pair2 q ?_ (fun hu => ?_))) | split | dsimp only | dsimp +zetaDelta only)
theorem State.rxAbort_kept {z : State} (s : State) (lp : Nat) (hz : Kept z s) : Kept z (State.rxAbort s lp) := by
  unfold State.rxAbort
  repeat' (first
    | (with_reducible first
      | exact hz | refine State.each_kept ?_ ?_ | apply State.rxCut_kept | assumption)
    | (intro u x hu) | (intro u hu) | extract_lets | dsimp only | dsimp +zetaDelta only)
theorem State.receiveWhole_kept {z : State} (s : State) (lp k : Nat) (bytes : List Byte) (e : RxEnd) (hz : Kept z s) : Kept z
    (State.receiveWhole s lp k bytes e) := by
  unfold State.receiveWhole
  repeat' (first
    | (with_reducible first
      | exact hz | apply State.setRx_kept | apply State.doRuleLookup_kept | apply State.doFrameReceiveEnd_kept | assumption)
    | extract_lets | dsimp only | dsimp +zetaDelta only)

/-! ### Machine/Tables.lean -/

theorem State.keepGroups_kept {z : State} (s : State) (sl : Nat) (ws : List TblWrite) (hz : Kept z s) : Kept z (State.keepGroups s sl ws)
    := by
  unfold State.keepGroups
  repeat' (first
    | (with_reducible first
      | exact hz | apply State.onTrunk_kept | apply kept_ite | refine kept_foldl ?_ ?_ | refine kept_foldl1 ?_ ?_ | assumption)
    | (intro u x hu) | (intro u hu) | extract_lets | (split <;> (rename_i q; with_reducible refine kept_of_pair q ?_ (fun hu => ?_)))
    | (split <;> (rename_i q; with_reducible refine kept_of_pair2 q ?_ (fun hu => ?_))) | split | dsimp only | dsimp +zetaDelta only)
theorem State.pushUpdate_kept {z : State} (s : State) (u : Update) (hz : Kept z s) : Kept z (State.pushUpdate s u) := by
  unfold State.pushUpdate
  repeat' (first
    | (with_reducible first
      | exact hz | apply State.onTables_kept | refine kept_foldl ?_ ?_ | refine kept_foldl1 ?_ ?_ | assumption)
    | (intro u x hu) | (intro u hu) | extract_lets | dsimp only | dsimp +zetaDelta only)
theorem State.syncSeq_kept {z : State} (s : State) (hz : Kept z s) : Kept z (State.syncSeq s) := by
  unfold State.syncSeq
  repeat' (first
    | (with_reducible first
      | exact hz | apply State.setFld_kept | apply kept_ite | assumption)
    | extract_lets | split | dsimp only | dsimp +zetaDelta only)
theorem State.seqPush_kept {z : State} (s : State) (prio : Nat) (r : SeqReq) (hz : Kept z s) : Kept z (State.seqPush s prio r) := by
  unfold State.seqPush
  repeat' (first
    | (with_reducible first
      | exact hz | apply State.onTables_kept | apply State.syncSeq_kept | apply State.raise_kept | apply kept_ite | assumption)
    | (intro u x hu) | (intro u hu) | extract_lets | split | dsimp only | dsimp +zetaDelta only)
theorem State.sendNote_kept {z : State} (s : State) (body : List Byte) (hz : Kept z s) : Kept z (State.sendNote s body) := by
  unfold State.sendNote
  repeat' (first
    | (with_reducible first
      | exact hz | apply State.fifoPush_kept | assumption)
    | extract_lets | dsimp only | dsimp +zetaDelta only)
theorem State.dynAdd_kept {z : State} (s : State) (bd : Nat) (n : Int) (hz : Kept z s) : Kept z (State.dynAdd s bd n).1 := by
  unfold State.dynAdd
  repeat' (first
    | (with_reducible first
      | exact hz | apply State.setDynCount_kept | assumption)
    | extract_lets | dsimp only | dsimp +zetaDelta only)
theorem State.tblPut_kept {z : State} (s : State) (fw : Bool) (ws : List Word) (hz : Kept z s) : Kept z (State.tblPut s fw ws) := by
  unfold State.tblPut
  repeat' (first
    | (with_reducible first
      | exact hz | apply State.winPut_kept | assumption)
    | (intro u x hu) | (intro u hu) | extract_lets | dsimp only | dsimp +zetaDelta only)
theorem State.tblResult_kept {z : State} (s : State) (fw : Bool) (r : Nat) (hz : Kept z s) : Kept z (State.tblResult s fw r) := by
  unfold State.tblResult
  repeat' (first
    | (with_reducible first
      | exact hz | apply State.setFld_kept | assumption)
    | extract_lets | dsimp only | dsimp +zetaDelta only)
theorem State.tblBusy_kept {z : State} (s : State) (fw b : Bool) (hz : Kept z s) : Kept z (State.tblBusy s fw b) := by
  unfold State.tblBusy
  repeat' (first
    | (with_reducible first
      | exact hz | apply State.setFlag_kept | assumption)
    | extract_lets | dsimp only | dsimp +zetaDelta only)
theorem State.tblDone_kept {z : State} (s : State) (fw : Bool) (r : Nat) (hz : Kept z s) : Kept z (State.tblDone s fw r) := by
  unfold State.tblDone
  repeat' (first
    | (with_reducible first
      | exact hz | apply State.tblResult_kept | apply State.tblBusy_kept | assumption)
    | extract_lets | dsimp only | dsimp +zetaDelta only)
theorem State.insertFail_kept {z : State} (s : State) (bd addr destType dest : Nat) (hz : Kept z s) : Kept z (State.insertFail s bd addr
    destType dest).1 := by
  unfold State.insertFail
  repeat' (first
    | (with_reducible first
      | exact hz | apply State.bdCount_kept | apply State.tblCtr_kept | apply State.raise_kept | assumption)
    | extract_lets | dsimp only | dsimp +zetaDelta only)
theorem State.macCount_kept {z : State} (s : State) (n : Int) (hz : Kept z s) : Kept z (State.macCount s n) := by
  unfold State.macCount
  repeat' (first
    | (with_reducible first
      | exact hz | apply State.setFld_kept | assumption)
    | extract_lets | dsimp only | dsimp +zetaDelta only)
theorem State.acceptLearn_kept {z : State} (s : State) (bd : Nat) (addr : BitVec 48) (lp : Nat) (move : Bool) (hz : Kept z s) : Kept z
    (State.acceptLearn s bd addr lp move).st := by
  unfold State.acceptLearn
  repeat' (first
    | (with_reducible first
      | exact hz | apply State.bdCount_kept | apply State.raise_kept | apply State.insertFail_kept | apply State.dynAdd_kept
      | apply State.macCount_kept | apply kept_ite | assumption)
    | extract_lets | (split <;> (rename_i q; with_reducible refine kept_of_pair q ?_ (fun hu => ?_)))
    | (split <;> (rename_i q; with_reducible refine kept_of_pair2 q ?_ (fun hu => ?_))) | split | dsimp only | dsimp +zetaDelta only)
theorem State.removeMac_kept {z : State} (s : State) (i : Nat) (e : MacEntry) (hz : Kept z s) : Kept z (State.removeMac s i e).1 := by
  unfold State.removeMac
  repeat' (first
    | (with_reducible first
      | exact hz | apply State.dynAdd_kept | apply State.macCount_kept | apply kept_ite | assumption)
    | extract_lets | (split <;> (rename_i q; with_reducible refine kept_of_pair q ?_ (fun hu => ?_)))
    | (split <;> (rename_i q; with_reducible refine kept_of_pair2 q ?_ (fun hu => ?_))) | split | dsimp only | dsimp +zetaDelta only)
theorem State.syncLens_kept {z : State} (s : State) (m : Nat) (hz : Kept z s) : Kept z (State.syncLens s m) := by
  unfold State.syncLens
  repeat' (first
    | (with_reducible first
      | exact hz | apply State.setFld_kept | assumption)
    | extract_lets | dsimp only | dsimp +zetaDelta only)
theorem State.removeRoute_kept {z : State} (s : State) (k len : Nat) (hz : Kept z s) : Kept z (State.removeRoute s k len).1 := by
  unfold State.removeRoute
  repeat' (first
    | (with_reducible first
      | exact hz | apply State.syncLens_kept | apply kept_ite | assumption)
    | (intro u x hu) | (intro u hu) | extract_lets | (split <;> (rename_i q; with_reducible refine kept_of_pair q ?_ (fun hu => ?_)))
    | (split <;> (rename_i q; with_reducible refine kept_of_pair2 q ?_ (fun hu => ?_))) | split | dsimp only | dsimp +zetaDelta only)
theorem State.acceptWindow_kept {z : State} (s : State) (op t i : Nat) (d : List Word) (hz : Kept z s) :
    Kept z (State.acceptWindow s op t i d).st := by
  unfold State.acceptWindow
  extract_lets c w no ok
  have hn : ∀ r, Kept z (no r).st := fun _ => hz
  have ho : ∀ u ws, Kept z u → Kept z (ok u ws).st := fun _ _ hu => hu
  clear_value no ok w
  have hi : ∀ (p : Prop) [Decidable p] (a b : SeqOut), Kept z a.st → Kept z b.st → Kept z (if p then a else b).st :=
    fun p _ a b ha hb => by by_cases h : p <;> simp only [h, if_true, if_false] <;> assumption
  repeat' (first
    | with_reducible exact hz | with_reducible apply hi | with_reducible apply hn | with_reducible apply ho
    | with_reducible apply State.dynAdd_kept
    | with_reducible apply State.macCount_kept | with_reducible apply State.insertFail_kept | with_reducible apply State.removeMac_kept
    | with_reducible apply State.removeRoute_kept
    | with_reducible apply State.setGrpStatic_kept | with_reducible apply State.tblCtr_kept | with_reducible apply State.setMember_kept
    | with_reducible apply State.setGrpSnoop_kept | with_reducible apply State.syncLens_kept | with_reducible apply kept_ite
    | with_reducible assumption | extract_lets | (split <;> (rename_i q; with_reducible refine kept_of_pair q ?_ (fun hu => ?_)))
    | split | dsimp only)
theorem State.acceptRepair_kept {z : State} (s : State) (t : ScrubTable) (i : Nat) (good : Bool) (hz : Kept z s) : Kept z
    (State.acceptRepair s t i good).1 := by
  unfold State.acceptRepair
  repeat' (first
    | (with_reducible first
      | exact hz | apply State.removeMac_kept | apply State.removeRoute_kept | apply kept_ite | assumption)
    | extract_lets | (split <;> (rename_i q; with_reducible refine kept_of_pair q ?_ (fun hu => ?_)))
    | (split <;> (rename_i q; with_reducible refine kept_of_pair2 q ?_ (fun hu => ?_))) | split | dsimp only | dsimp +zetaDelta only)
theorem State.dropFilter_kept {z : State} (s : State) (sl k : Nat) (hz : Kept z s) : Kept z (State.dropFilter s sl k) := by
  unfold State.dropFilter
  repeat' (first
    | (with_reducible first
      | exact hz | apply State.onTables_kept | assumption)
    | (intro u x hu) | (intro u hu) | extract_lets | dsimp only | dsimp +zetaDelta only)
theorem State.doSequencerAccept_kept {z : State} (s : State) (hz : Kept z s) : Kept z (State.doSequencerAccept s) := by
  unfold State.doSequencerAccept
  repeat' (first
    | (with_reducible first
      | exact hz | apply State.onTables_kept | apply State.syncSeq_kept | apply State.pushUpdate_kept | apply State.acceptRepair_kept
      | apply State.acceptLearn_kept | apply State.removeMac_kept | apply State.acceptWindow_kept | apply State.tblResult_kept
      | apply State.tblBusy_kept | apply State.setFld_kept | apply kept_ite | assumption)
    | (intro u x hu) | (intro u hu) | extract_lets | (split <;> (rename_i q; with_reducible refine kept_of_pair q ?_ (fun hu => ?_)))
    | (split <;> (rename_i q; with_reducible refine kept_of_pair2 q ?_ (fun hu => ?_))) | split | dsimp only | dsimp +zetaDelta only)
theorem State.updEnd_kept {z : State} (s : State) (x : UpdEnd) (hz : Kept z s) : Kept z (State.updEnd s x) := by
  unfold State.updEnd
  repeat' (first
    | (with_reducible first
      | exact hz | apply State.bdCount_kept | apply State.tblCtr_kept | apply State.setFlag_kept | apply kept_ite | assumption)
    | (intro u x hu) | (intro u hu) | extract_lets | (split <;> (rename_i q; with_reducible refine kept_of_pair q ?_ (fun hu => ?_)))
    | (split <;> (rename_i q; with_reducible refine kept_of_pair2 q ?_ (fun hu => ?_))) | split | dsimp only | dsimp +zetaDelta only)
theorem State.doCopyApply_kept {z : State} (s : State) (sl : Nat) (hz : Kept z s) : Kept z (State.doCopyApply s sl) := by
  unfold State.doCopyApply
  repeat' (first
    | (with_reducible first
      | exact hz | apply State.onTables_kept | apply State.keepGroups_kept | apply State.setCopy_kept | apply State.dropFilter_kept
      | apply State.sendNote_kept | apply State.updEnd_kept | apply State.tblBusy_kept | apply State.setFld_kept | apply kept_ite
      | refine kept_foldl ?_ ?_ | refine kept_foldl1 ?_ ?_ | assumption)
    | (intro u x hu) | (intro u hu) | extract_lets | (split <;> (rename_i q; with_reducible refine kept_of_pair q ?_ (fun hu => ?_)))
    | (split <;> (rename_i q; with_reducible refine kept_of_pair2 q ?_ (fun hu => ?_))) | split | dsimp only | dsimp +zetaDelta only)
theorem State.doLearnArrive_kept {z : State} (s : State) (sl : Nat) (hz : Kept z s) : Kept z (State.doLearnArrive s sl) := by
  unfold State.doLearnArrive
  repeat' (first
    | (with_reducible first
      | exact hz | apply State.onTables_kept | apply State.tblCtr_kept | apply State.dropFilter_kept | apply State.seqPush_kept
      | apply kept_ite | assumption)
    | (intro u x hu) | (intro u hu) | extract_lets | (split <;> (rename_i q; with_reducible refine kept_of_pair q ?_ (fun hu => ?_)))
    | (split <;> (rename_i q; with_reducible refine kept_of_pair2 q ?_ (fun hu => ?_))) | split | dsimp only | dsimp +zetaDelta only)
theorem State.doFilterExpire_kept {z : State} (s : State) (sl : Nat) (hz : Kept z s) : Kept z (State.doFilterExpire s sl) := by
  unfold State.doFilterExpire
  repeat' (first
    | (with_reducible first
      | exact hz | apply State.onTables_kept | assumption)
    | (intro u x hu) | (intro u hu) | extract_lets | (split <;> (rename_i q; with_reducible refine kept_of_pair q ?_ (fun hu => ?_)))
    | (split <;> (rename_i q; with_reducible refine kept_of_pair2 q ?_ (fun hu => ?_))) | split | dsimp only | dsimp +zetaDelta only)
theorem State.doAgeSweep_kept {z : State} (s : State) (hz : Kept z s) : Kept z (State.doAgeSweep s) := by
  unfold State.doAgeSweep
  repeat' (first
    | (with_reducible first
      | exact hz | apply State.onTables_kept | refine State.each_kept ?_ ?_ | apply State.setCopy_kept | apply State.seqPush_kept
      | apply kept_ite | assumption)
    | (intro u x hu) | (intro u hu) | extract_lets | (split <;> (rename_i q; with_reducible refine kept_of_pair q ?_ (fun hu => ?_)))
    | (split <;> (rename_i q; with_reducible refine kept_of_pair2 q ?_ (fun hu => ?_))) | split | dsimp only | dsimp +zetaDelta only)
theorem State.memberGone_kept {z : State} (s : State) (k prio : Nat) (note : Option (List Byte)) (hz : Kept z s) : Kept z
    (State.memberGone s k prio note) := by
  unfold State.memberGone
  repeat' (first
    | (with_reducible first
      | exact hz | apply State.setMember_kept | apply State.setGrpSnoop_kept | apply State.seqPush_kept | assumption)
    | extract_lets | dsimp only | dsimp +zetaDelta only)
theorem State.doMemberAge_kept {z : State} (s : State) (sl : Nat) (hz : Kept z s) : Kept z (State.doMemberAge s sl) := by
  unfold State.doMemberAge
  repeat' (first
    | (with_reducible first
      | exact hz | apply State.onTables_kept | refine State.each_kept ?_ ?_ | apply State.memberGone_kept | apply kept_ite | assumption)
    | (intro u x hu) | (intro u hu) | extract_lets | (split <;> (rename_i q; with_reducible refine kept_of_pair q ?_ (fun hu => ?_)))
    | (split <;> (rename_i q; with_reducible refine kept_of_pair2 q ?_ (fun hu => ?_))) | split | dsimp only | dsimp +zetaDelta only)
theorem State.tblCommand_kept {z : State} (s : State) (w : Who) (op t i : Nat) (hz : Kept z s) : Kept z (State.tblCommand s w op t i) :=
    by
  unfold State.tblCommand
  repeat' (first
    | (with_reducible first
      | exact hz | apply State.setFld_kept | apply State.tblPut_kept | apply State.tblDone_kept | apply State.tblBusy_kept
      | apply State.onTables_kept | apply State.seqPush_kept | apply kept_ite | refine kept_foldl ?_ ?_ | refine kept_foldl1 ?_ ?_
      | assumption)
    | (intro u x hu) | (intro u hu) | extract_lets | (split <;> (rename_i q; with_reducible refine kept_of_pair q ?_ (fun hu => ?_)))
    | (split <;> (rename_i q; with_reducible refine kept_of_pair2 q ?_ (fun hu => ?_))) | split | dsimp only | dsimp +zetaDelta only)
theorem State.doFlushDone_kept {z : State} (s : State) (hz : Kept z s) : Kept z (State.doFlushDone s) := by
  unfold State.doFlushDone
  repeat' (first
    | (with_reducible first
      | exact hz | apply State.onTables_kept | apply State.tblDone_kept | apply State.sendNote_kept | apply kept_ite | assumption)
    | (intro u x hu) | (intro u hu) | extract_lets | (split <;> (rename_i q; with_reducible refine kept_of_pair q ?_ (fun hu => ?_)))
    | (split <;> (rename_i q; with_reducible refine kept_of_pair2 q ?_ (fun hu => ?_))) | split | dsimp only | dsimp +zetaDelta only)
theorem State.doTableWrite_kept {z : State} (s : State) (w : Who) (t i : Nat) (hz : Kept z s) : Kept z (State.doTableWrite s w t i) := by
  unfold State.doTableWrite
  repeat' (first
    | (with_reducible first
      | exact hz | apply State.tblCommand_kept | assumption)
    | extract_lets | dsimp only | dsimp +zetaDelta only)
theorem State.doTableRead_kept {z : State} (s : State) (w : Who) (t i : Nat) (hz : Kept z s) : Kept z (State.doTableRead s w t i) := by
  unfold State.doTableRead
  repeat' (first
    | (with_reducible first
      | exact hz | apply State.tblCommand_kept | assumption)
    | extract_lets | dsimp only | dsimp +zetaDelta only)
theorem State.doTableDelete_kept {z : State} (s : State) (w : Who) (t i : Nat) (hz : Kept z s) : Kept z (State.doTableDelete s w t i) :=
    by
  unfold State.doTableDelete
  repeat' (first
    | (with_reducible first
      | exact hz | apply State.tblCommand_kept | assumption)
    | extract_lets | dsimp only | dsimp +zetaDelta only)
theorem State.doMacInsert_kept {z : State} (s : State) (w : Who) (hz : Kept z s) : Kept z (State.doMacInsert s w) := by
  unfold State.doMacInsert
  repeat' (first
    | (with_reducible first
      | exact hz | apply State.tblCommand_kept | assumption)
    | extract_lets | dsimp only | dsimp +zetaDelta only)
theorem State.doMacDelete_kept {z : State} (s : State) (w : Who) (hz : Kept z s) : Kept z (State.doMacDelete s w) := by
  unfold State.doMacDelete
  repeat' (first
    | (with_reducible first
      | exact hz | apply State.tblCommand_kept | assumption)
    | extract_lets | dsimp only | dsimp +zetaDelta only)
theorem State.doMacFlush_kept {z : State} (s : State) (w : Who) (hz : Kept z s) : Kept z (State.doMacFlush s w) := by
  unfold State.doMacFlush
  repeat' (first
    | (with_reducible first
      | exact hz | apply State.tblCommand_kept | assumption)
    | extract_lets | dsimp only | dsimp +zetaDelta only)
theorem State.doReadBySlot_kept {z : State} (s : State) (w : Who) (t i : Nat) (hz : Kept z s) : Kept z (State.doReadBySlot s w t i) := by
  unfold State.doReadBySlot
  repeat' (first
    | (with_reducible first
      | exact hz | apply State.tblCommand_kept | assumption)
    | extract_lets | dsimp only | dsimp +zetaDelta only)
theorem State.doMemberJoin_kept {z : State} (s : State) (w : Who) (hz : Kept z s) : Kept z (State.doMemberJoin s w) := by
  unfold State.doMemberJoin
  repeat' (first
    | (with_reducible first
      | exact hz | apply State.tblCommand_kept | assumption)
    | extract_lets | dsimp only | dsimp +zetaDelta only)
theorem State.doMemberLeave_kept {z : State} (s : State) (w : Who) (hz : Kept z s) : Kept z (State.doMemberLeave s w) := by
  unfold State.doMemberLeave
  repeat' (first
    | (with_reducible first
      | exact hz | apply State.tblCommand_kept | assumption)
    | extract_lets | dsimp only | dsimp +zetaDelta only)
theorem State.doRouteInsert_kept {z : State} (s : State) (w : Who) (hz : Kept z s) : Kept z (State.doRouteInsert s w) := by
  unfold State.doRouteInsert
  repeat' (first
    | (with_reducible first
      | exact hz | apply State.tblCommand_kept | assumption)
    | extract_lets | dsimp only | dsimp +zetaDelta only)
theorem State.doRouteDelete_kept {z : State} (s : State) (w : Who) (hz : Kept z s) : Kept z (State.doRouteDelete s w) := by
  unfold State.doRouteDelete
  repeat' (first
    | (with_reducible first
      | exact hz | apply State.tblCommand_kept | assumption)
    | extract_lets | dsimp only | dsimp +zetaDelta only)
theorem State.doRouteMatch_kept {z : State} (s : State) (w : Who) (hz : Kept z s) : Kept z (State.doRouteMatch s w) := by
  unfold State.doRouteMatch
  repeat' (first
    | (with_reducible first
      | exact hz | apply State.tblCommand_kept | assumption)
    | extract_lets | dsimp only | dsimp +zetaDelta only)
theorem State.doHashSeed_kept {z : State} (s : State) (n : Nat) (v : Word) (hz : Kept z s) : Kept z (State.doHashSeed s n v) := by
  unfold State.doHashSeed
  repeat' (first
    | (with_reducible first
      | exact hz | apply State.seqPush_kept | assumption)
    | extract_lets | dsimp only | dsimp +zetaDelta only)
theorem State.eccCapture_kept {z : State} (s : State) (code slot sl : Nat) (hz : Kept z s) : Kept z (State.eccCapture s code slot sl) :=
    by
  unfold State.eccCapture
  repeat' (first
    | (with_reducible first
      | exact hz | apply State.setFld_kept | assumption)
    | extract_lets | dsimp only | dsimp +zetaDelta only)
theorem State.scrubLost_kept {z : State} (s : State) (sl : Nat) (t : ScrubTable) (i : Nat) (bad : BitVec 8) (hz : Kept z s) : Kept z
    (State.scrubLost s sl t i bad) := by
  unfold State.scrubLost
  repeat' (first
    | (with_reducible first
      | exact hz | apply State.tblCtr_kept | apply State.setRule_kept | apply State.setFld_kept | apply State.eccCapture_kept
      | apply State.raise_kept | apply State.setTemplate_kept | apply State.wr_kept | refine State.each_kept ?_ ?_
      | apply State.setMeter_kept | apply State.setGrpStatic_kept | apply State.setGrpSnoop_kept | apply State.seqPush_kept
      | apply State.memberGone_kept | apply State.setCopy_kept | assumption)
    | (intro u x hu) | (intro u hu) | extract_lets | (split <;> (rename_i q; with_reducible refine kept_of_pair q ?_ (fun hu => ?_)))
    | (split <;> (rename_i q; with_reducible refine kept_of_pair2 q ?_ (fun hu => ?_))) | split | dsimp only | dsimp +zetaDelta only)
theorem State.doScrub_kept {z : State} (s : State) (sl : Nat) (t : ScrubTable) (i : Nat) (f : ScrubFind) (hz : Kept z s) : Kept z
    (State.doScrub s sl t i f) := by
  unfold State.doScrub
  repeat' (first
    | (with_reducible first
      | exact hz | apply State.onTables_kept | apply State.scrubLost_kept | apply State.setCopy_kept | apply State.tblCtr_kept
      | apply State.raise_kept | apply kept_ite | assumption)
    | (intro u x hu) | (intro u hu) | extract_lets | (split <;> (rename_i q; with_reducible refine kept_of_pair q ?_ (fun hu => ?_)))
    | (split <;> (rename_i q; with_reducible refine kept_of_pair2 q ?_ (fun hu => ?_))) | split | dsimp only | dsimp +zetaDelta only)

/-! ### Machine/Loom.lean -/

theorem State.loomGrant_kept {z : State} (s : State) (i a : Nat) (hz : Kept z s) : Kept z (State.loomGrant s i a) := by
  unfold State.loomGrant
  repeat' (first
    | (with_reducible first
      | exact hz | apply State.setLoom_kept | apply State.perfHit_kept | apply State.setFld_kept | assumption)
    | extract_lets | dsimp only | dsimp +zetaDelta only)
theorem State.loomSlot_kept {z : State} (s : State) (i : Nat) (requests : BitVec 8) (hz : Kept z s) : Kept z (State.loomSlot s i
    requests) := by
  unfold State.loomSlot
  repeat' (first
    | (with_reducible first
      | exact hz | apply State.setLoom_kept | apply State.loomGrant_kept | apply kept_ite | assumption)
    | (intro u x hu) | (intro u hu) | extract_lets | (split <;> (rename_i q; with_reducible refine kept_of_pair q ?_ (fun hu => ?_)))
    | (split <;> (rename_i q; with_reducible refine kept_of_pair2 q ?_ (fun hu => ?_))) | split | dsimp only | dsimp +zetaDelta only)
theorem State.doEmergencyTake_kept {z : State} (s : State) (i : Nat) (hz : Kept z s) : Kept z (State.doEmergencyTake s i) := by
  unfold State.doEmergencyTake
  repeat' (first
    | (with_reducible first
      | exact hz | apply State.setLoom_kept | apply State.incFld_kept | apply State.raise_kept | apply kept_ite | assumption)
    | (intro u x hu) | (intro u hu) | extract_lets | split | dsimp only | dsimp +zetaDelta only)
theorem State.loomStart_kept {z : State} (s : State) (i : Nat) (reseed : Option Nat) (hz : Kept z s) : Kept z (State.loomStart s i
    reseed) := by
  unfold State.loomStart
  repeat' (first
    | (with_reducible first
      | exact hz | refine State.each_kept ?_ ?_ | apply State.incFld_kept | apply State.setFld_kept | apply State.setLoom_kept
      | apply State.raise_kept | apply kept_ite | assumption)
    | (intro u x hu) | (intro u hu) | extract_lets | split | dsimp only | dsimp +zetaDelta only)
theorem State.setDoubled_kept {z : State} (s : State) (d : Nat) (b : Bool) (hz : Kept z s) : Kept z (State.setDoubled s d b) := by
  unfold State.setDoubled
  repeat' (first
    | (with_reducible first
      | exact hz | apply State.setFlag_kept | refine State.each_kept ?_ ?_ | apply State.setFld_kept | apply State.setLoom_kept
      | apply State.raise_kept | apply kept_ite | assumption)
    | (intro u x hu) | (intro u hu) | extract_lets | split | dsimp only | dsimp +zetaDelta only)

/-! ### Machine/Deep.lean -/

theorem State.rescale_kept {z : State} (s : State) (sl : Nat) (hz : Kept z s) : Kept z (State.rescale s sl) := by
  unfold State.rescale
  repeat' (first
    | (with_reducible first
      | exact hz | apply State.setQueue_kept | apply State.keepTokens_kept | refine State.each_kept ?_ ?_ | apply State.raise_kept
      | apply kept_ite | refine kept_foldl ?_ ?_ | refine kept_foldl1 ?_ ?_ | assumption)
    | (intro u x hu) | (intro u hu) | extract_lets | split | dsimp only | dsimp +zetaDelta only)
theorem State.doQueueConfigWrite_kept {z : State} (s : State) (sl i : Nat) (hz : Kept z s) : Kept z (State.doQueueConfigWrite s sl i) :=
    by
  unfold State.doQueueConfigWrite
  repeat' (first
    | (with_reducible first
      | exact hz | apply State.winBusy_kept | apply State.setFld_kept | apply State.winDone_kept | apply State.guarCapture_kept
      | apply State.setQueue_kept | apply State.asWritten_kept | apply State.setNode_kept | apply State.rescale_kept
      | apply State.retryAll_kept | apply kept_ite | assumption)
    | (intro u x hu) | (intro u hu) | extract_lets | (split <;> (rename_i q; with_reducible refine kept_of_pair q ?_ (fun hu => ?_)))
    | (split <;> (rename_i q; with_reducible refine kept_of_pair2 q ?_ (fun hu => ?_))) | split | dsimp only | dsimp +zetaDelta only)
theorem State.doQueueConfigRead_kept {z : State} (s : State) (sl i : Nat) (hz : Kept z s) : Kept z (State.doQueueConfigRead s sl i) := by
  unfold State.doQueueConfigRead
  repeat' (first
    | (with_reducible first
      | exact hz | apply State.winBusy_kept | apply State.setFld_kept | apply State.guarCapture_kept | apply State.winDone_kept
      | apply State.winPut_kept | apply kept_ite | assumption)
    | (intro u x hu) | (intro u hu) | extract_lets | split | dsimp only | dsimp +zetaDelta only)
theorem State.doBobbinIdleWrite_kept {z : State} (s : State) (sl q : Nat) (hz : Kept z s) : Kept z (State.doBobbinIdleWrite s sl q) := by
  unfold State.doBobbinIdleWrite
  repeat' (first
    | (with_reducible first
      | exact hz | apply State.setQueue_kept | apply State.bobFld_kept | apply kept_ite | assumption)
    | extract_lets | (split <;> (rename_i q; with_reducible refine kept_of_pair q ?_ (fun hu => ?_)))
    | (split <;> (rename_i q; with_reducible refine kept_of_pair2 q ?_ (fun hu => ?_))) | split | dsimp only | dsimp +zetaDelta only)
theorem State.leaveStaging_kept {z : State} (s : State) (k : Nat) (hz : Kept z s) : Kept z (State.leaveStaging s k) := by
  unfold State.leaveStaging
  repeat' (first
    | (with_reducible first
      | exact hz | refine State.each_kept ?_ ?_ | apply State.unstage_kept | apply State.setEf_kept | apply kept_ite | assumption)
    | (intro u x hu) | (intro u hu) | extract_lets | (split <;> (rename_i q; with_reducible refine kept_of_pair q ?_ (fun hu => ?_)))
    | (split <;> (rename_i q; with_reducible refine kept_of_pair2 q ?_ (fun hu => ?_))) | split | dsimp only | dsimp +zetaDelta only)
theorem State.startRead_kept {z : State} (s : State) (sl k : Nat) (hz : Kept z s) : Kept z (State.startRead s sl k) := by
  unfold State.startRead
  repeat' (first
    | (with_reducible first
      | exact hz | apply State.setQueue_kept | apply State.bobFld_kept | apply kept_ite | assumption)
    | extract_lets | (split <;> (rename_i q; with_reducible refine kept_of_pair q ?_ (fun hu => ?_)))
    | (split <;> (rename_i q; with_reducible refine kept_of_pair2 q ?_ (fun hu => ?_))) | split | dsimp only | dsimp +zetaDelta only)
theorem State.doBobbinWriteDone_kept {z : State} (s : State) (sl q : Nat) (hz : Kept z s) : Kept z (State.doBobbinWriteDone s sl q) := by
  unfold State.doBobbinWriteDone
  repeat' (first
    | (with_reducible first
      | exact hz | apply State.perfHit_kept | apply State.setQueue_kept | apply State.bobFld_kept | apply State.leaveStaging_kept
      | apply State.purge_kept | apply State.startRead_kept | apply State.retryAll_kept | assumption)
    | (intro u x hu) | (intro u hu) | extract_lets | (split <;> (rename_i q; with_reducible refine kept_of_pair q ?_ (fun hu => ?_)))
    | (split <;> (rename_i q; with_reducible refine kept_of_pair2 q ?_ (fun hu => ?_))) | split | dsimp only | dsimp +zetaDelta only)
theorem State.doBobbinReadback_kept {z : State} (s : State) (sl q : Nat) (hz : Kept z s) : Kept z (State.doBobbinReadback s sl q) := by
  unfold State.doBobbinReadback
  repeat' (first
    | (with_reducible first
      | exact hz | apply State.startRead_kept | apply State.perfHit_kept | apply State.setQueue_kept | apply State.bobFld_kept
      | apply State.landAll_kept | apply State.retryAll_kept | apply kept_ite | assumption)
    | extract_lets | (split <;> (rename_i q; with_reducible refine kept_of_pair q ?_ (fun hu => ?_)))
    | (split <;> (rename_i q; with_reducible refine kept_of_pair2 q ?_ (fun hu => ?_))) | split | dsimp only | dsimp +zetaDelta only)
theorem State.syncSlots_kept {z : State} (s : State) (hz : Kept z s) : Kept z (State.syncSlots s) := by
  unfold State.syncSlots
  repeat' (first
    | (with_reducible first
      | exact hz | apply State.setFld_kept | apply kept_ite | assumption)
    | (intro u x hu) | (intro u hu) | extract_lets | split | dsimp only | dsimp +zetaDelta only)
theorem State.stackLeave_kept {z : State} (s : State) (d : Nat) (fault : Bool) (hz : Kept z s) : Kept z (State.stackLeave s d fault) := by
  unfold State.stackLeave
  repeat' (first
    | (with_reducible first
      | exact hz | apply State.setStackSt_kept | apply State.onSw_kept | apply State.bobFld_kept | refine State.each_kept ?_ ?_
      | apply State.setEf_kept | apply State.setQueue_kept | apply State.landAll_kept | apply State.syncSlots_kept
      | apply State.raise_kept | apply kept_ite | assumption)
    | (intro u x hu) | (intro u hu) | extract_lets | (split <;> (rename_i q; with_reducible refine kept_of_pair q ?_ (fun hu => ?_)))
    | (split <;> (rename_i q; with_reducible refine kept_of_pair2 q ?_ (fun hu => ?_))) | split | dsimp only | dsimp +zetaDelta only)
theorem State.stackJoin_kept {z : State} (s : State) (d : Nat) (zero : Bool) (hz : Kept z s) : Kept z (State.stackJoin s d zero) := by
  unfold State.stackJoin
  repeat' (first
    | (with_reducible first
      | exact hz | apply State.setStackSt_kept | apply State.onSw_kept | apply State.bobFld_kept | refine State.onSvc_kept ?_ rfl
      | apply State.syncSlots_kept | apply State.retryAll_kept | apply kept_ite | assumption)
    | (intro u x hu) | (intro u hu) | extract_lets | split | dsimp only | dsimp +zetaDelta only)
theorem State.refreshRate_kept {z : State} (s : State) (d : Nat) (b : Bool) (hz : Kept z s) : Kept z (State.refreshRate s d b) := by
  unfold State.refreshRate
  repeat' (first
    | (with_reducible first
      | exact hz | apply State.setStackSt_kept | apply State.onSw_kept | apply State.raise_kept | apply kept_ite | assumption)
    | (intro u x hu) | (intro u hu) | extract_lets | split | dsimp only | dsimp +zetaDelta only)
theorem State.doStackRefreshDouble_kept {z : State} (s : State) (d : Nat) (hz : Kept z s) : Kept z (State.doStackRefreshDouble s d) := by
  unfold State.doStackRefreshDouble
  repeat' (first
    | (with_reducible first
      | exact hz | apply State.refreshRate_kept | assumption)
    | extract_lets | dsimp only | dsimp +zetaDelta only)
theorem State.doStackRefreshNormal_kept {z : State} (s : State) (d : Nat) (hz : Kept z s) : Kept z (State.doStackRefreshNormal s d) := by
  unfold State.doStackRefreshNormal
  repeat' (first
    | (with_reducible first
      | exact hz | apply State.refreshRate_kept | assumption)
    | extract_lets | dsimp only | dsimp +zetaDelta only)
theorem State.doDerateRecompute_kept {z : State} (s : State) (hz : Kept z s) : Kept z (State.doDerateRecompute s) := by
  unfold State.doDerateRecompute
  repeat' (first
    | (with_reducible first
      | exact hz | apply State.setFld_kept | apply State.onSw_kept | refine State.each_kept ?_ ?_ | apply State.setDoubled_kept
      | apply State.raise_kept | apply State.keepTokens_kept | apply State.ratesChanged_kept | apply State.retryAll_kept
      | apply kept_ite | assumption)
    | (intro u x hu) | (intro u hu) | extract_lets | split | dsimp only | dsimp +zetaDelta only)
theorem State.doStackFault_kept {z : State} (s : State) (d : Nat) (hz : Kept z s) : Kept z (State.doStackFault s d) := by
  unfold State.doStackFault
  repeat' (first
    | (with_reducible first
      | exact hz | apply State.stackLeave_kept | assumption)
    | extract_lets | dsimp only | dsimp +zetaDelta only)

/-! ### Machine/Flexe.lean -/

theorem State.lpLeave_kept {z : State} (s : State) (lp : Nat) (hz : Kept z s) : Kept z (State.lpLeave s lp) := by
  unfold State.lpLeave
  repeat' (first
    | (with_reducible first
      | exact hz | apply State.abortTx_kept | apply State.rxAbort_kept | apply State.clearPause_kept | refine State.each_kept ?_ ?_
      | apply State.packCtr_kept | apply State.setPack_kept | apply State.setMac_kept | apply State.syncPreempt_kept
      | apply State.startHold_kept | apply kept_ite | assumption)
    | (intro u x hu) | (intro u hu) | extract_lets | split | dsimp only | dsimp +zetaDelta only)
theorem State.lpArrive_kept {z : State} (s : State) (lp : Nat) (hz : Kept z s) : Kept z (State.lpArrive s lp) := by
  unfold State.lpArrive
  repeat' (first
    | (with_reducible first
      | exact hz | apply State.setPitch_kept | apply State.verifyStart_kept | apply State.pfcCheckAll_kept | apply State.setFoldSt_kept
      | apply State.raise_kept | apply kept_ite | assumption)
    | extract_lets | split | dsimp only | dsimp +zetaDelta only)
theorem State.withUp_kept {z : State} (s : State) (lps : List Nat) (f : State → State) (hz : Kept z s) (hr : ∀ u, Kept z u → Kept z (f
    u)) : Kept z (State.withUp s lps f) := by
  unfold State.withUp
  repeat' (first
    | (with_reducible first
      | exact hz | apply hr | apply State.lpLeave_kept | apply State.lpArrive_kept | apply kept_ite | refine kept_foldl ?_ ?_
      | refine kept_foldl1 ?_ ?_ | assumption)
    | (intro u x hu) | (intro u hu) | extract_lets | split | dsimp only | dsimp +zetaDelta only)
theorem State.syncPhyDown_kept {z : State} (s : State) (g : Nat) (hz : Kept z s) : Kept z (State.syncPhyDown s g) := by
  unfold State.syncPhyDown
  repeat' (first
    | (with_reducible first
      | exact hz | apply State.setFld_kept | apply kept_ite | refine kept_foldl ?_ ?_ | refine kept_foldl1 ?_ ?_ | assumption)
    | (intro u x hu) | (intro u hu) | extract_lets | split | dsimp only | dsimp +zetaDelta only)
theorem State.drainGroup_kept {z : State} (s : State) (g : Nat) (hz : Kept z s) : Kept z (State.drainGroup s g) := by
  unfold State.drainGroup
  repeat' (first
    | (with_reducible first
      | exact hz | refine State.each_kept ?_ ?_ | apply State.drainClient_kept | assumption)
    | (intro u x hu) | (intro u hu) | extract_lets | dsimp only | dsimp +zetaDelta only)
theorem State.setGroup_kept {z : State} (s : State) (g st : Nat) (hz : Kept z s) : Kept z (State.setGroup s g st) := by
  unfold State.setGroup
  repeat' (first
    | (with_reducible first
      | exact hz | apply State.drainGroup_kept | apply State.withUp_kept | apply State.setFld_kept | apply State.setFlexe_kept
      | apply State.lower_kept | apply State.raiseLive_kept | apply kept_ite | assumption)
    | (intro u x hu) | (intro u hu) | extract_lets | split | dsimp only | dsimp +zetaDelta only)
theorem State.groupSync_kept {z : State} (s : State) (g : Nat) (hz : Kept z s) : Kept z (State.groupSync s g) := by
  unfold State.groupSync
  repeat' (first
    | (with_reducible first
      | exact hz | apply State.syncPhyDown_kept | apply State.setGroup_kept | apply kept_ite | assumption)
    | extract_lets | split | dsimp only | dsimp +zetaDelta only)
theorem State.groupsFollow_kept {z : State} (s : State) (p : Nat) (hz : Kept z s) : Kept z (State.groupsFollow s p) := by
  unfold State.groupsFollow
  repeat' (first
    | (with_reducible first
      | exact hz | refine State.each_kept ?_ ?_ | apply State.groupSync_kept | assumption)
    | (intro u x hu) | (intro u hu) | extract_lets | dsimp only | dsimp +zetaDelta only)
theorem State.doFlexeOhLockDone_kept {z : State} (s : State) (g : Nat) (hz : Kept z s) : Kept z (State.doFlexeOhLockDone s g) := by
  unfold State.doFlexeOhLockDone
  repeat' (first
    | (with_reducible first
      | exact hz | apply State.setGroup_kept | apply kept_ite | assumption)
    | extract_lets | split | dsimp only | dsimp +zetaDelta only)
theorem State.doFlexeOhLockTimeout_kept {z : State} (s : State) (g : Nat) (hz : Kept z s) : Kept z (State.doFlexeOhLockTimeout s g) := by
  unfold State.doFlexeOhLockTimeout
  repeat' (first
    | (with_reducible first
      | exact hz | apply State.setGroup_kept | apply kept_ite | assumption)
    | extract_lets | split | dsimp only | dsimp +zetaDelta only)
theorem State.doFlexeMapCheckDone_kept {z : State} (s : State) (g : Nat) (hz : Kept z s) : Kept z (State.doFlexeMapCheckDone s g) := by
  unfold State.doFlexeMapCheckDone
  repeat' (first
    | (with_reducible first
      | exact hz | apply State.setGroup_kept | apply State.raise_kept | apply kept_ite | assumption)
    | extract_lets | split | dsimp only | dsimp +zetaDelta only)
theorem State.doFlexeMapCheckTimeout_kept {z : State} (s : State) (g : Nat) (hz : Kept z s) : Kept z (State.doFlexeMapCheckTimeout s g)
    := by
  unfold State.doFlexeMapCheckTimeout
  repeat' (first
    | (with_reducible first
      | exact hz | apply State.setGroup_kept | apply State.raise_kept | apply kept_ite | assumption)
    | extract_lets | split | dsimp only | dsimp +zetaDelta only)
theorem State.doFlexeDeskewDone_kept {z : State} (s : State) (g skew : Nat) (hz : Kept z s) : Kept z (State.doFlexeDeskewDone s g skew)
    := by
  unfold State.doFlexeDeskewDone
  repeat' (first
    | (with_reducible first
      | exact hz | apply State.setFld_kept | apply State.setGroup_kept | apply State.raise_kept | apply kept_ite | assumption)
    | extract_lets | split | dsimp only | dsimp +zetaDelta only)
theorem State.doFlexeDeskewTimeout_kept {z : State} (s : State) (g : Nat) (hz : Kept z s) : Kept z (State.doFlexeDeskewTimeout s g) := by
  unfold State.doFlexeDeskewTimeout
  repeat' (first
    | (with_reducible first
      | exact hz | apply State.setGroup_kept | apply State.raise_kept | apply kept_ite | assumption)
    | extract_lets | split | dsimp only | dsimp +zetaDelta only)
theorem State.syncRxCal_kept {z : State} (s : State) (g : Nat) (hz : Kept z s) : Kept z (State.syncRxCal s g) := by
  unfold State.syncRxCal
  repeat' (first
    | (with_reducible first
      | exact hz | apply State.setFld_kept | assumption)
    | extract_lets | dsimp only | dsimp +zetaDelta only)
theorem State.cutClient_kept {z : State} (s : State) (n : Nat) (hz : Kept z s) : Kept z (State.cutClient s n) := by
  unfold State.cutClient
  repeat' (first
    | (with_reducible first
      | exact hz | apply State.setClient_kept | apply State.rxCut_kept | assumption)
    | extract_lets | dsimp only | dsimp +zetaDelta only)
theorem State.rxSwitch_kept {z : State} (s : State) (g : Nat) (b : Bool) (hz : Kept z s) : Kept z (State.rxSwitch s g b) := by
  unfold State.rxSwitch
  repeat' (first
    | (with_reducible first
      | exact hz | refine State.each_kept ?_ ?_ | apply State.cutClient_kept | apply State.setRx_kept | apply State.rxBreak_kept
      | apply State.setFlag_kept | apply State.setFlexe_kept | apply State.raise_kept | assumption)
    | (intro u x hu) | (intro u hu) | extract_lets | (split <;> (rename_i q; with_reducible refine kept_of_pair q ?_ (fun hu => ?_)))
    | (split <;> (rename_i q; with_reducible refine kept_of_pair2 q ?_ (fun hu => ?_))) | split | dsimp only | dsimp +zetaDelta only)
theorem State.ohCheck_kept {z : State} (s : State) (g : Nat) (hz : Kept z s) : Kept z (State.ohCheck s g) := by
  unfold State.ohCheck
  repeat' (first
    | (with_reducible first
      | exact hz | apply State.setGroup_kept | apply State.raise_kept | apply kept_ite | assumption)
    | (intro u x hu) | (intro u hu) | extract_lets | split | dsimp only | dsimp +zetaDelta only)
theorem State.doFlexeOhFrameReceive_kept {z : State} (s : State) (g i : Nat) (oh : OhFrame) (hz : Kept z s) : Kept z
    (State.doFlexeOhFrameReceive s g i oh) := by
  unfold State.doFlexeOhFrameReceive
  repeat' (first
    | (with_reducible first
      | exact hz | apply State.ohCheck_kept | apply State.setFlexe_kept | apply State.count_kept | apply State.setFld_kept
      | apply State.rxSwitch_kept | apply State.syncRxCal_kept | apply State.setGroup_kept | apply State.raise_kept | apply kept_ite
      | assumption)
    | extract_lets | split | dsimp only | dsimp +zetaDelta only)
theorem State.calSwitch_kept {z : State} (s : State) (g : Nat) (hz : Kept z s) : Kept z (State.calSwitch s g) := by
  unfold State.calSwitch
  repeat' (first
    | (with_reducible first
      | exact hz | apply State.drainGroup_kept | apply State.setFlag_kept | apply State.setFld_kept | apply State.setFlexe_kept
      | apply State.count_kept | apply State.raise_kept | apply State.ratesChanged_kept | apply State.rescale_kept | assumption)
    | extract_lets | (split <;> (rename_i q; with_reducible refine kept_of_pair q ?_ (fun hu => ?_)))
    | (split <;> (rename_i q; with_reducible refine kept_of_pair2 q ?_ (fun hu => ?_))) | split | dsimp only | dsimp +zetaDelta only)
theorem State.doFlexeOhFrameSend_kept {z : State} (s : State) (g : Nat) (hz : Kept z s) : Kept z (State.doFlexeOhFrameSend s g) := by
  unfold State.doFlexeOhFrameSend
  repeat' (first
    | (with_reducible first
      | exact hz | apply State.groupSync_kept | apply State.ohCheck_kept | apply State.calSwitch_kept | apply State.setFlexe_kept
      | refine State.each_kept ?_ ?_ | apply State.fresh_kept | apply State.emit_kept | apply kept_ite | refine kept_foldl ?_ ?_
      | refine kept_foldl1 ?_ ?_ | assumption | apply kept_id)
    | (intro u x hu) | (intro u hu) | extract_lets | (split <;> (rename_i q; with_reducible refine kept_of_pair q ?_ (fun hu => ?_)))
    | (split <;> (rename_i q; with_reducible refine kept_of_pair2 q ?_ (fun hu => ?_))) | split | dsimp only | dsimp +zetaDelta only)
theorem State.doCalSwitchRequest_kept {z : State} (s : State) (g : Nat) (hz : Kept z s) : Kept z (State.doCalSwitchRequest s g) := by
  unfold State.doCalSwitchRequest
  repeat' (first
    | (with_reducible first
      | exact hz | apply State.setFlag_kept | apply State.setFld_kept | apply State.setFlexe_kept | apply kept_ite | assumption)
    | extract_lets | split | dsimp only | dsimp +zetaDelta only)
theorem State.calDrop_kept {z : State} (s : State) (g : Nat) (hz : Kept z s) : Kept z (State.calDrop s g) := by
  unfold State.calDrop
  repeat' (first
    | (with_reducible first
      | exact hz | apply State.setFld_kept | apply State.setFlexe_kept | assumption)
    | extract_lets | dsimp only | dsimp +zetaDelta only)
theorem State.doCalSwitchAbandon_kept {z : State} (s : State) (g : Nat) (hz : Kept z s) : Kept z (State.doCalSwitchAbandon s g) := by
  unfold State.doCalSwitchAbandon
  repeat' (first
    | (with_reducible first
      | exact hz | apply State.setFlag_kept | apply State.calDrop_kept | assumption)
    | extract_lets | dsimp only | dsimp +zetaDelta only)
theorem State.doCalSwitchTimeout_kept {z : State} (s : State) (g : Nat) (hz : Kept z s) : Kept z (State.doCalSwitchTimeout s g) := by
  unfold State.doCalSwitchTimeout
  repeat' (first
    | (with_reducible first
      | exact hz | apply State.calDrop_kept | apply State.raise_kept | apply kept_ite | assumption)
    | extract_lets | (split <;> (rename_i q; with_reducible refine kept_of_pair q ?_ (fun hu => ?_)))
    | (split <;> (rename_i q; with_reducible refine kept_of_pair2 q ?_ (fun hu => ?_))) | split | dsimp only | dsimp +zetaDelta only)
theorem State.doClientWrite_kept {z : State} (s : State) (fw : Bool) (n : Nat) (hz : Kept z s) : Kept z (State.doClientWrite s fw n) := by
  unfold State.doClientWrite
  repeat' (first
    | (with_reducible first
      | exact hz | apply State.winBusy_kept | apply State.setFld_kept | apply State.winDone_kept | apply State.drainClient_kept
      | apply State.setClient_kept | apply State.syncRxCal_kept | apply State.ratesChanged_kept | apply State.rescale_kept
      | apply kept_ite | assumption)
    | (intro u x hu) | (intro u hu) | extract_lets | split | dsimp only | dsimp +zetaDelta only)
theorem State.doClientRead_kept {z : State} (s : State) (n : Nat) (hz : Kept z s) : Kept z (State.doClientRead s n) := by
  unfold State.doClientRead
  repeat' (first
    | (with_reducible first
      | exact hz | apply State.winBusy_kept | apply State.setFld_kept | apply State.drainClient_kept | apply State.winPut_kept
      | apply State.rxCut_kept | apply State.winDone_kept | apply kept_ite | assumption)
    | (intro u x hu) | (intro u hu) | extract_lets | split | dsimp only | dsimp +zetaDelta only)

/-! ### Machine/PackRx.lean -/

theorem State.resolveFold_kept {z : State} (s : State) (sl t x u : Nat) (hz : Kept z s) : Kept z (State.resolveFold s sl t x u).1 := by
  unfold State.resolveFold
  repeat' (first
    | (with_reducible first
      | exact hz | apply State.setFoldSt_kept | apply State.setFold_kept | apply kept_ite | assumption)
    | extract_lets | (split <;> (rename_i q; with_reducible refine kept_of_pair q ?_ (fun hu => ?_)))
    | (split <;> (rename_i q; with_reducible refine kept_of_pair2 q ?_ (fun hu => ?_))) | split | dsimp only | dsimp +zetaDelta only)
theorem State.setRxTrain_kept {z : State} (s : State) (lp k n : Nat) (hz : Kept z s) : Kept z (State.setRxTrain s lp k n) := by
  unfold State.setRxTrain
  repeat' (first
    | (with_reducible first
      | exact hz | apply State.setPack_kept | assumption)
    | extract_lets | dsimp only | dsimp +zetaDelta only)
theorem State.packHeaderRefuse_kept {z : State} (s : State) (lp k : Nat) (hz : Kept z s) : Kept z (State.packHeaderRefuse s lp k) := by
  unfold State.packHeaderRefuse
  repeat' (first
    | (with_reducible first
      | exact hz | apply State.packCtr_kept | apply State.setRxTrain_kept | apply State.raise_kept | assumption)
    | extract_lets | dsimp only | dsimp +zetaDelta only)
theorem State.packBody_kept {z : State} (s : State) (lp k : Nat) (fold : Bool) (gen : Nat) (body : List Byte) (hz : Kept z s) : Kept z
    (State.packBody s lp k fold gen body) := by
  unfold State.packBody
  repeat' (first
    | (with_reducible first
      | exact hz | apply State.receiveWhole_kept | apply State.packCtr_kept | apply State.raise_kept | apply State.resolveFold_kept
      | apply State.rxCount_kept | apply kept_ite | assumption)
    | extract_lets | (split <;> (rename_i q; with_reducible refine kept_of_pair q ?_ (fun hu => ?_)))
    | (split <;> (rename_i q; with_reducible refine kept_of_pair2 q ?_ (fun hu => ?_))) | split | dsimp only | dsimp +zetaDelta only)
theorem State.packUnitIn_kept {z : State} (s : State) (lp k : Nat) (unit : List Byte) (e : UnitErr) (hz : Kept z s) : Kept z
    (State.packUnitIn s lp k unit e) := by
  unfold State.packUnitIn
  repeat' (first
    | (with_reducible first
      | exact hz | apply State.setRxTrain_kept | apply State.packCtr_kept | apply State.packHeaderRefuse_kept
      | apply State.cutClient_kept | apply State.portCtr_kept | apply State.packBody_kept | apply kept_ite | assumption)
    | (intro u x hu) | (intro u hu) | extract_lets | (split <;> (rename_i q; with_reducible refine kept_of_pair q ?_ (fun hu => ?_)))
    | (split <;> (rename_i q; with_reducible refine kept_of_pair2 q ?_ (fun hu => ?_))) | split | dsimp only | dsimp +zetaDelta only)
theorem State.doPackUnitReceive_kept {z : State} (s : State) (lp k : Nat) (first : Bool) (unit : List Byte) (e : UnitErr) (hz : Kept z s)
    : Kept z (State.doPackUnitReceive s lp k first unit e) := by
  unfold State.doPackUnitReceive
  repeat' (first
    | (with_reducible first
      | exact hz | apply State.setRxTrain_kept | apply State.packCtr_kept | apply State.packUnitIn_kept | apply kept_ite | assumption)
    | extract_lets | split | dsimp only | dsimp +zetaDelta only)
theorem State.foldRefused_kept {z : State} (s : State) (sl : Nat) (b : Bool) (hz : Kept z s) : Kept z (State.foldRefused s sl b) := by
  unfold State.foldRefused
  repeat' (first
    | (with_reducible first
      | exact hz | apply State.setFlag_kept | assumption)
    | extract_lets | dsimp only | dsimp +zetaDelta only)
theorem State.doFoldCommit_kept {z : State} (s : State) (sl t : Nat) (hz : Kept z s) : Kept z (State.doFoldCommit s sl t) := by
  unfold State.doFoldCommit
  repeat' (first
    | (with_reducible first
      | exact hz | apply State.foldRefused_kept | apply State.setFold_kept | apply kept_ite | assumption)
    | extract_lets | split | dsimp only | dsimp +zetaDelta only)
theorem State.doFoldCommitApply_kept {z : State} (s : State) (sl t : Nat) (hz : Kept z s) : Kept z (State.doFoldCommitApply s sl t) := by
  unfold State.doFoldCommitApply
  repeat' (first
    | (with_reducible first
      | exact hz | apply State.setFoldSt_kept | apply State.setFold_kept | apply kept_ite | assumption)
    | extract_lets | split | dsimp only | dsimp +zetaDelta only)
theorem State.doFoldCleaningDone_kept {z : State} (s : State) (sl t : Nat) (hz : Kept z s) : Kept z (State.doFoldCleaningDone s sl t) :=
    by
  unfold State.doFoldCleaningDone
  repeat' (first
    | (with_reducible first
      | exact hz | apply State.setFoldSt_kept | apply State.setFold_kept | apply kept_ite | assumption)
    | (intro u x hu) | (intro u hu) | extract_lets | (split <;> (rename_i q; with_reducible refine kept_of_pair q ?_ (fun hu => ?_)))
    | (split <;> (rename_i q; with_reducible refine kept_of_pair2 q ?_ (fun hu => ?_))) | split | dsimp only | dsimp +zetaDelta only)
theorem State.doFoldDiscardPending_kept {z : State} (s : State) (sl t : Nat) (hz : Kept z s) : Kept z (State.doFoldDiscardPending s sl t)
    := by
  unfold State.doFoldDiscardPending
  repeat' (first
    | (with_reducible first
      | exact hz | apply State.foldRefused_kept | apply State.setFold_kept | apply kept_ite | assumption)
    | (intro u x hu) | (intro u hu) | extract_lets | split | dsimp only | dsimp +zetaDelta only)
theorem State.doFoldArm_kept {z : State} (s : State) (sl t : Nat) (hz : Kept z s) : Kept z (State.doFoldArm s sl t) := by
  unfold State.doFoldArm
  repeat' (first
    | (with_reducible first
      | exact hz | apply State.foldRefused_kept | apply State.setFoldSt_kept | apply kept_ite | assumption)
    | extract_lets | split | dsimp only | dsimp +zetaDelta only)
theorem State.doFoldDisarm_kept {z : State} (s : State) (sl t : Nat) (hz : Kept z s) : Kept z (State.doFoldDisarm s sl t) := by
  unfold State.doFoldDisarm
  repeat' (first
    | (with_reducible first
      | exact hz | apply State.foldRefused_kept | apply State.setFoldSt_kept | apply State.setFold_kept | assumption)
    | extract_lets | dsimp only | dsimp +zetaDelta only)
theorem State.doFoldPromotionDone_kept {z : State} (s : State) (sl t : Nat) (hz : Kept z s) : Kept z (State.doFoldPromotionDone s sl t)
    := by
  unfold State.doFoldPromotionDone
  repeat' (first
    | (with_reducible first
      | exact hz | apply State.setFoldSt_kept | apply State.setFold_kept | assumption)
    | (intro u x hu) | (intro u hu) | extract_lets | (split <;> (rename_i q; with_reducible refine kept_of_pair q ?_ (fun hu => ?_)))
    | (split <;> (rename_i q; with_reducible refine kept_of_pair2 q ?_ (fun hu => ?_))) | split | dsimp only | dsimp +zetaDelta only)
theorem State.doFoldResume_kept {z : State} (s : State) (sl t : Nat) (hz : Kept z s) : Kept z (State.doFoldResume s sl t) := by
  unfold State.doFoldResume
  repeat' (first
    | (with_reducible first
      | exact hz | apply State.foldRefused_kept | apply State.setFoldSt_kept | assumption)
    | extract_lets | dsimp only | dsimp +zetaDelta only)
theorem State.doFoldRestart_kept {z : State} (s : State) (sl t gen : Nat) (hz : Kept z s) : Kept z (State.doFoldRestart s sl t gen) := by
  unfold State.doFoldRestart
  repeat' (first
    | (with_reducible first
      | exact hz | apply State.foldRefused_kept | apply State.setFoldSt_kept | apply State.setFold_kept | assumption)
    | extract_lets | dsimp only | dsimp +zetaDelta only)
theorem State.doFoldRestartDone_kept {z : State} (s : State) (sl t : Nat) (hz : Kept z s) : Kept z (State.doFoldRestartDone s sl t) := by
  unfold State.doFoldRestartDone
  repeat' (first
    | (with_reducible first
      | exact hz | apply State.setFoldSt_kept | apply State.setFold_kept | apply kept_ite | assumption)
    | extract_lets | split | dsimp only | dsimp +zetaDelta only)
theorem State.foldCmd_kept {z : State} (s : State) (fw write : Bool) (sl t tag dir : Nat) (run : State → State × Nat) (hz : Kept z s) (hr
    : ∀ u, Kept z u → Kept z (run u).1) : Kept z (State.foldCmd s fw write sl t tag dir run) := by
  unfold State.foldCmd
  repeat' (first
    | (with_reducible first
      | exact hz | apply hr | apply State.winBusy_kept | apply State.setFld_kept | apply State.winDone_kept | apply kept_ite | assumption)
    | (intro u x hu) | (intro u hu) | extract_lets | (split <;> (rename_i q; with_reducible refine kept_of_pair q ?_ (fun hu => ?_)))
    | (split <;> (rename_i q; with_reducible refine kept_of_pair2 q ?_ (fun hu => ?_))) | split | dsimp only | dsimp +zetaDelta only)
theorem State.doFoldEntryWrite_kept {z : State} (s : State) (fw : Bool) (sl t : Nat) (tx : Bool) (tag : Nat) (hz : Kept z s) : Kept z
    (State.doFoldEntryWrite s fw sl t tx tag) := by
  unfold State.doFoldEntryWrite
  repeat' (first
    | (with_reducible first
      | exact hz | apply State.foldCmd_kept | apply State.raise_kept | apply State.setFold_kept | apply kept_ite | assumption)
    | (intro u x hu) | (intro u hu) | extract_lets | (split <;> (rename_i q; with_reducible refine kept_of_pair q ?_ (fun hu => ?_)))
    | (split <;> (rename_i q; with_reducible refine kept_of_pair2 q ?_ (fun hu => ?_))) | split | dsimp only | dsimp +zetaDelta only)
theorem State.foldShow_kept {z : State} (s : State) (fw : Bool) (sl : Nat) (bytes : List Byte) (gen : Nat) (valid : Bool) (st : Nat)
    (next : Bool) (hz : Kept z s) : Kept z (State.foldShow s fw sl bytes gen valid st next) := by
  unfold State.foldShow
  repeat' (first
    | (with_reducible first
      | exact hz | apply State.winPut_kept | apply kept_ite | assumption)
    | (intro u x hu) | (intro u hu) | extract_lets | split | dsimp only | dsimp +zetaDelta only)
theorem State.doFoldEntryRead_kept {z : State} (s : State) (fw : Bool) (sl t : Nat) (tx : Bool) (tag : Nat) (hz : Kept z s) : Kept z
    (State.doFoldEntryRead s fw sl t tx tag) := by
  unfold State.doFoldEntryRead
  repeat' (first
    | (with_reducible first
      | exact hz | apply State.foldCmd_kept | apply State.foldShow_kept | apply kept_ite | assumption)
    | (intro u x hu) | (intro u hu) | extract_lets | (split <;> (rename_i q; with_reducible refine kept_of_pair q ?_ (fun hu => ?_)))
    | (split <;> (rename_i q; with_reducible refine kept_of_pair2 q ?_ (fun hu => ?_))) | split | dsimp only | dsimp +zetaDelta only)
theorem State.doFoldEntryRemove_kept {z : State} (s : State) (fw : Bool) (sl t : Nat) (tx : Bool) (tag : Nat) (hz : Kept z s) : Kept z
    (State.doFoldEntryRemove s fw sl t tx tag) := by
  unfold State.doFoldEntryRemove
  repeat' (first
    | (with_reducible first
      | exact hz | apply State.foldCmd_kept | apply State.setFold_kept | apply kept_ite | assumption)
    | (intro u x hu) | (intro u hu) | extract_lets | (split <;> (rename_i q; with_reducible refine kept_of_pair q ?_ (fun hu => ?_)))
    | (split <;> (rename_i q; with_reducible refine kept_of_pair2 q ?_ (fun hu => ?_))) | split | dsimp only | dsimp +zetaDelta only)
theorem State.doPackCntSel_kept {z : State} (s : State) (sl q : Nat) (hz : Kept z s) : Kept z (State.doPackCntSel s sl q) := by
  unfold State.doPackCntSel
  repeat' (first
    | (with_reducible first
      | exact hz | apply State.foldRefused_kept | apply State.setFld_kept | refine State.each_kept ?_ ?_ | apply State.setCtr_kept
      | assumption)
    | (intro u x hu) | (intro u hu) | extract_lets | dsimp only | dsimp +zetaDelta only)

end Sys2Proof.Machine
end

