-- ==== Sys2Proof/Laws/KeptSystem.lean ====
section
/-! SUPPORT. `Kept` of the operations over the fabric, the optics, time, the service clusters, the host interface, resets, storage and power. -/

namespace Sys2Proof.Machine

set_option linter.all false

/-! ### Machine/Fabric.lean -/

theorem State.linkCtr_kept {z : State} (s : State) (p n : Nat) (hz : Kept z s) : Kept z (State.linkCtr s p n) := by
  unfold State.linkCtr
  repeat' (first
    | (with_reducible first
      | exact hz | apply State.setLink_kept | assumption)
    | extract_lets | dsimp only | dsimp +zetaDelta only)
theorem State.syncFill_kept {z : State} (s : State) (p : Nat) (hz : Kept z s) : Kept z (State.syncFill s p) := by
  unfold State.syncFill
  repeat' (first
    | (with_reducible first
      | exact hz | apply State.setLinkFld_kept | assumption)
    | extract_lets | dsimp only | dsimp +zetaDelta only)
theorem State.linkRaise_kept {z : State} (s : State) (p src : Nat) (hz : Kept z s) : Kept z (State.linkRaise s p src) := by
  unfold State.linkRaise
  repeat' (first
    | (with_reducible first
      | exact hz | apply State.raise_kept | assumption)
    | extract_lets | dsimp only | dsimp +zetaDelta only)
theorem State.syncEff_kept {z : State} (s : State) (hz : Kept z s) : Kept z (State.syncEff s) := by
  unfold State.syncEff
  repeat' (first
    | (with_reducible first
      | exact hz | apply State.setFld_kept | assumption)
    | extract_lets | dsimp only | dsimp +zetaDelta only)
theorem State.syncPath_kept {z : State} (s : State) (hz : Kept z s) : Kept z (State.syncPath s) := by
  unfold State.syncPath
  repeat' (first
    | (with_reducible first
      | exact hz | apply State.setFld_kept | apply State.syncEff_kept | assumption)
    | extract_lets | dsimp only | dsimp +zetaDelta only)
theorem State.hearPath_kept {z : State} (s : State) (n : Nat) (hz : Kept z s) : Kept z (State.hearPath s n) := by
  unfold State.hearPath
  repeat' (first
    | (with_reducible first
      | exact hz | apply State.setFld_kept | apply State.syncEff_kept | apply State.raise_kept | apply kept_ite | assumption)
    | extract_lets | split | dsimp only | dsimp +zetaDelta only)
theorem State.doPathMaxReset_kept {z : State} (s : State) (hz : Kept z s) : Kept z (State.doPathMaxReset s) := by
  unfold State.doPathMaxReset
  repeat' (first
    | (with_reducible first
      | exact hz | apply State.setFld_kept | apply State.syncEff_kept | assumption)
    | extract_lets | dsimp only | dsimp +zetaDelta only)
theorem State.noticesFor_kept {z : State} (sl fdest : Nat) : ∀ (x0 : Nat) (x1 : List Cell) (s : State), Kept z s → Kept z
    (State.noticesFor s sl fdest x0 x1)
  | 0, _, s, hz => by unfold State.noticesFor; repeat' (first
    | (with_reducible first
      | apply State.noticesFor_kept | exact hz | apply State.count_kept | apply State.forwardCell_kept | apply kept_ite | assumption)
    | extract_lets | split | dsimp only | dsimp +zetaDelta only)
  | fuel + 1, cs, s, hz => by unfold State.noticesFor; repeat' (first
    | (with_reducible first
      | apply State.noticesFor_kept | exact hz | apply State.count_kept | apply State.forwardCell_kept | apply kept_ite | assumption)
    | extract_lets | split | dsimp only | dsimp +zetaDelta only)
theorem State.linkOut_kept {z : State} (s : State) (p st : Nat) (fails : Bool) (hz : Kept z s) : Kept z (State.linkOut s p st fails) := by
  unfold State.linkOut
  repeat' (first
    | (with_reducible first
      | exact hz | apply State.setLinkFld_kept | apply State.setLink_kept | apply State.syncFill_kept | refine State.each_kept ?_ ?_
      | apply State.setWithheld_kept | apply State.forwardCell_kept | apply State.noticesFor_kept | apply State.linkCtr_kept
      | apply State.linkRaise_kept | apply kept_ite | refine kept_foldl ?_ ?_ | refine kept_foldl1 ?_ ?_ | assumption)
    | (intro u x hu) | (intro u hu) | extract_lets | split | dsimp only | dsimp +zetaDelta only)
theorem State.linkFail_kept {z : State} (s : State) (p : Nat) (hz : Kept z s) : Kept z (State.linkFail s p) := by
  unfold State.linkFail
  repeat' (first
    | (with_reducible first
      | exact hz | apply State.linkOut_kept | apply kept_ite | assumption)
    | extract_lets | split | dsimp only | dsimp +zetaDelta only)
theorem State.evalReject_kept {z : State} (s : State) (p : Nat) (hz : Kept z s) : Kept z (State.evalReject s p) := by
  unfold State.evalReject
  repeat' (first
    | (with_reducible first
      | exact hz | apply State.setLinkFld_kept | apply State.linkRaise_kept | apply State.linkFail_kept | apply kept_ite | assumption)
    | extract_lets | split | dsimp only | dsimp +zetaDelta only)
theorem State.enterActive_kept {z : State} (s : State) (p : Nat) (n : Neighbor) (hz : Kept z s) : Kept z (State.enterActive s p n) := by
  unfold State.enterActive
  repeat' (first
    | (with_reducible first
      | exact hz | apply State.setLink_kept | apply State.setLinkFld_kept | apply State.syncFill_kept | apply State.linkRaise_kept
      | apply State.raise_kept | apply kept_ite | assumption)
    | (intro u x hu) | (intro u hu) | extract_lets | (split <;> (rename_i q; with_reducible refine kept_of_pair q ?_ (fun hu => ?_)))
    | (split <;> (rename_i q; with_reducible refine kept_of_pair2 q ?_ (fun hu => ?_))) | split | dsimp only | dsimp +zetaDelta only)
theorem State.linkCheck_kept {z : State} (s : State) (p : Nat) (hz : Kept z s) : Kept z (State.linkCheck s p) := by
  unfold State.linkCheck
  repeat' (first
    | (with_reducible first
      | exact hz | apply State.evalReject_kept | apply State.enterActive_kept | apply kept_ite | assumption)
    | extract_lets | (split <;> (rename_i q; with_reducible refine kept_of_pair q ?_ (fun hu => ?_)))
    | (split <;> (rename_i q; with_reducible refine kept_of_pair2 q ?_ (fun hu => ?_))) | split | dsimp only | dsimp +zetaDelta only)
theorem State.linkFollow_kept {z : State} (s : State) (p : Nat) (hz : Kept z s) : Kept z (State.linkFollow s p) := by
  unfold State.linkFollow
  repeat' (first
    | (with_reducible first
      | exact hz | apply State.linkOut_kept | apply State.linkFail_kept | apply State.setLinkFld_kept | apply State.setLink_kept
      | apply State.linkCheck_kept | apply kept_ite | assumption)
    | extract_lets | split | dsimp only | dsimp +zetaDelta only)
theorem State.helloStep_kept {z : State} (s : State) (p : Nat) (n : Neighbor) (names : Bool) (hz : Kept z s) : Kept z (State.helloStep s
    p n names) := by
  unfold State.helloStep
  repeat' (first
    | (with_reducible first
      | exact hz | apply State.setLinkFld_kept | apply State.linkCheck_kept | apply kept_ite | assumption)
    | extract_lets | split | dsimp only | dsimp +zetaDelta only)
theorem State.neighborMeasure_kept {z : State} (s : State) (p t1 hold t3 : Nat) (hz : Kept z s) : Kept z (State.neighborMeasure s p t1
    hold t3) := by
  unfold State.neighborMeasure
  repeat' (first
    | (with_reducible first
      | exact hz | apply State.onTime_kept | apply kept_ite | assumption)
    | (intro u x hu) | (intro u hu) | extract_lets | split | dsimp only | dsimp +zetaDelta only)
theorem State.doHelloReceive_kept {z : State} (s : State) (p : Nat) (b : List Byte) (hz : Kept z s) : Kept z (State.doHelloReceive s p b)
    := by
  unfold State.doHelloReceive
  repeat' (first
    | (with_reducible first
      | exact hz | apply State.linkCtr_kept | apply State.setLinkFld_kept | apply State.neighborMeasure_kept | apply State.setLink_kept
      | apply State.helloStep_kept | apply State.hearPath_kept | apply kept_ite | assumption)
    | extract_lets | split | dsimp only | dsimp +zetaDelta only)
theorem State.doHelloSend_kept {z : State} (s : State) (p : Nat) (hz : Kept z s) : Kept z (State.doHelloSend s p) := by
  unfold State.doHelloSend
  repeat' (first
    | (with_reducible first
      | exact hz | apply State.setLink_kept | apply kept_ite | assumption)
    | extract_lets | split | dsimp only | dsimp +zetaDelta only)
theorem State.doHelloDeadInterval_kept {z : State} (s : State) (p : Nat) (hz : Kept z s) : Kept z (State.doHelloDeadInterval s p) := by
  unfold State.doHelloDeadInterval
  repeat' (first
    | (with_reducible first
      | exact hz | apply State.linkFail_kept | apply State.setLinkFld_kept | apply State.setLink_kept | apply kept_ite | assumption)
    | extract_lets | (split <;> (rename_i q; with_reducible refine kept_of_pair q ?_ (fun hu => ?_)))
    | (split <;> (rename_i q; with_reducible refine kept_of_pair2 q ?_ (fun hu => ?_))) | split | dsimp only | dsimp +zetaDelta only)
theorem State.doHolddownExpire_kept {z : State} (s : State) (p : Nat) (hz : Kept z s) : Kept z (State.doHolddownExpire s p) := by
  unfold State.doHolddownExpire
  repeat' (first
    | (with_reducible first
      | exact hz | apply State.setLinkFld_kept | apply State.linkFollow_kept | apply kept_ite | assumption)
    | extract_lets | split | dsimp only | dsimp +zetaDelta only)
theorem State.prefixTaken_kept {z : State} (s : State) (p : Nat) (first : Bool) (b : List Byte) (hz : Kept z s) : Kept z
    (State.prefixTaken s p first b).1 := by
  unfold State.prefixTaken
  repeat' (first
    | (with_reducible first
      | exact hz | apply State.setLink_kept | apply State.linkCtr_kept | apply kept_ite | assumption)
    | extract_lets | split | dsimp only | dsimp +zetaDelta only)
theorem State.latchApply_kept {z : State} (s : State) (p : Nat) (b : List Byte) (hz : Kept z s) : Kept z (State.latchApply s p b) := by
  unfold State.latchApply
  repeat' (first
    | (with_reducible first
      | exact hz | apply State.setLink_kept | assumption)
    | (intro u x hu) | (intro u hu) | extract_lets | dsimp only | dsimp +zetaDelta only)
theorem State.prefixApply_kept {z : State} (s : State) (p : Nat) (b : List Byte) (hz : Kept z s) : Kept z (State.prefixApply s p b) := by
  unfold State.prefixApply
  repeat' (first
    | (with_reducible first
      | exact hz | apply State.setLink_kept | apply State.syncFill_kept | apply State.linkCtr_kept | apply kept_ite | assumption)
    | extract_lets | split | dsimp only | dsimp +zetaDelta only)
theorem State.doLinkPrefixReceive_kept {z : State} (s : State) (p : Nat) (first : Bool) (b : List Byte) (hz : Kept z s) : Kept z
    (State.doLinkPrefixReceive s p first b) := by
  unfold State.doLinkPrefixReceive
  repeat' (first
    | (with_reducible first
      | exact hz | apply State.prefixTaken_kept | apply State.latchApply_kept | apply State.prefixApply_kept | apply kept_ite
      | assumption)
    | extract_lets | (split <;> (rename_i q; with_reducible refine kept_of_pair q ?_ (fun hu => ?_)))
    | (split <;> (rename_i q; with_reducible refine kept_of_pair2 q ?_ (fun hu => ?_))) | split | dsimp only | dsimp +zetaDelta only)
theorem State.doLatchPrefixReceive_kept {z : State} (s : State) (p : Nat) (first : Bool) (b : List Byte) (hz : Kept z s) : Kept z
    (State.doLatchPrefixReceive s p first b) := by
  unfold State.doLatchPrefixReceive
  repeat' (first
    | (with_reducible first
      | exact hz | apply State.prefixTaken_kept | apply State.latchApply_kept | apply kept_ite | assumption)
    | extract_lets | (split <;> (rename_i q; with_reducible refine kept_of_pair q ?_ (fun hu => ?_)))
    | (split <;> (rename_i q; with_reducible refine kept_of_pair2 q ?_ (fun hu => ?_))) | split | dsimp only | dsimp +zetaDelta only)
theorem State.doLinkCellReceive_kept {z : State} (s : State) (p lseq : Nat) (cell : List Byte) (fecBad : Bool) (hz : Kept z s) : Kept z
    (State.doLinkCellReceive s p lseq cell fecBad) := by
  unfold State.doLinkCellReceive
  repeat' (first
    | (with_reducible first
      | exact hz | apply State.setLink_kept | apply State.linkCtr_kept | apply State.forwardCell_kept | apply kept_ite | assumption)
    | extract_lets | split | dsimp only | dsimp +zetaDelta only)
theorem State.makePrefix_kept {z : State} (s : State) (p kind lseq : Nat) (hz : Kept z s) : Kept z (State.makePrefix s p kind lseq).1 :=
    by
  unfold State.makePrefix
  repeat' (first
    | (with_reducible first
      | exact hz | apply State.setLink_kept | apply State.linkCtr_kept | apply kept_ite | assumption)
    | extract_lets | split | dsimp only | dsimp +zetaDelta only)
theorem State.sendHello_kept {z : State} (s : State) (p : Nat) (hz : Kept z s) : Kept z (State.sendHello s p) := by
  unfold State.sendHello
  repeat' (first
    | (with_reducible first
      | exact hz | apply State.makePrefix_kept | apply State.emit_kept | apply State.setLink_kept | apply State.linkCtr_kept | assumption)
    | extract_lets | (split <;> (rename_i q; with_reducible refine kept_of_pair q ?_ (fun hu => ?_)))
    | (split <;> (rename_i q; with_reducible refine kept_of_pair2 q ?_ (fun hu => ?_))) | split | dsimp only | dsimp +zetaDelta only)
theorem State.sendIdle_kept {z : State} (s : State) (p : Nat) (hz : Kept z s) : Kept z (State.sendIdle s p) := by
  unfold State.sendIdle
  repeat' (first
    | (with_reducible first
      | exact hz | apply State.setLink_kept | apply State.emit_kept | apply State.makePrefix_kept | assumption)
    | extract_lets | (split <;> (rename_i q; with_reducible refine kept_of_pair q ?_ (fun hu => ?_)))
    | (split <;> (rename_i q; with_reducible refine kept_of_pair2 q ?_ (fun hu => ?_))) | split | dsimp only | dsimp +zetaDelta only)
theorem State.doLinkUnitSlot_kept {z : State} (s : State) (p : Nat) (hz : Kept z s) : Kept z (State.doLinkUnitSlot s p) := by
  unfold State.doLinkUnitSlot
  repeat' (first
    | (with_reducible first
      | exact hz | apply State.sendHello_kept | apply State.sendIdle_kept | apply State.setLink_kept | apply State.linkFail_kept
      | apply State.linkCtr_kept | apply State.makePrefix_kept | apply State.emit_kept | apply State.syncFill_kept
      | apply State.setWithheld_kept | apply kept_ite | assumption)
    | (intro u x hu) | (intro u hu) | extract_lets | (split <;> (rename_i q; with_reducible refine kept_of_pair q ?_ (fun hu => ?_)))
    | (split <;> (rename_i q; with_reducible refine kept_of_pair2 q ?_ (fun hu => ?_))) | split | dsimp only | dsimp +zetaDelta only)
theorem State.doRetryTimerExpire_kept {z : State} (s : State) (p : Nat) (hz : Kept z s) : Kept z (State.doRetryTimerExpire s p) := by
  unfold State.doRetryTimerExpire
  repeat' (first
    | (with_reducible first
      | exact hz | apply State.linkFail_kept | apply State.setLink_kept | apply kept_ite | assumption)
    | extract_lets | (split <;> (rename_i q; with_reducible refine kept_of_pair q ?_ (fun hu => ?_)))
    | (split <;> (rename_i q; with_reducible refine kept_of_pair2 q ?_ (fun hu => ?_))) | split | dsimp only | dsimp +zetaDelta only)
theorem State.fabCtr_kept {z : State} (s : State) (d n : Nat) (hz : Kept z s) : Kept z (State.fabCtr s d n) := by
  unfold State.fabCtr
  repeat' (first
    | (with_reducible first
      | exact hz | apply State.count_kept | assumption)
    | extract_lets | dsimp only | dsimp +zetaDelta only)
theorem State.syncFab_kept {z : State} (s : State) (d : Nat) (hz : Kept z s) : Kept z (State.syncFab s d) := by
  unfold State.syncFab
  repeat' (first
    | (with_reducible first
      | exact hz | apply State.setFld_kept | apply kept_ite | refine kept_foldl ?_ ?_ | refine kept_foldl1 ?_ ?_ | assumption)
    | (intro u x hu) | (intro u hu) | extract_lets | split | dsimp only | dsimp +zetaDelta only)
theorem State.fabFrame_kept {z : State} (s : State) (d cls fdest : Nat) (tag frame : List Byte) (hz : Kept z s) : Kept z (State.fabFrame
    s d cls fdest tag frame).1 := by
  unfold State.fabFrame
  repeat' (first
    | (with_reducible first
      | exact hz | apply State.admission_kept | apply State.count_kept | apply kept_ite | assumption)
    | extract_lets | (split <;> (rename_i q; with_reducible refine kept_of_pair q ?_ (fun hu => ?_)))
    | (split <;> (rename_i q; with_reducible refine kept_of_pair2 q ?_ (fun hu => ?_))) | split | dsimp only | dsimp +zetaDelta only)
theorem State.fabTake_kept {z : State} (d k fdest : Nat) : ∀ (x0 : Nat) (s : State), Kept z s → Kept z (State.fabTake s d k fdest x0)
  | 0, s, hz => by unfold State.fabTake; repeat' (first
    | (with_reducible first
      | apply State.fabTake_kept | exact hz | apply State.fabFrame_kept | apply State.setDstStream_kept | apply kept_ite | assumption)
    | extract_lets | (split <;> (rename_i q; with_reducible refine kept_of_pair q ?_ (fun hu => ?_)))
    | (split <;> (rename_i q; with_reducible refine kept_of_pair2 q ?_ (fun hu => ?_))) | split | dsimp only | dsimp +zetaDelta only)
  | fuel + 1, s, hz => by unfold State.fabTake; repeat' (first
    | (with_reducible first
      | apply State.fabTake_kept | exact hz | apply State.fabFrame_kept | apply State.setDstStream_kept | apply kept_ite | assumption)
    | extract_lets | (split <;> (rename_i q; with_reducible refine kept_of_pair q ?_ (fun hu => ?_)))
    | (split <;> (rename_i q; with_reducible refine kept_of_pair2 q ?_ (fun hu => ?_))) | split | dsimp only | dsimp +zetaDelta only)
theorem State.fabRelease_kept {z : State} (s : State) (d k : Nat) (c : Cell) (hz : Kept z s) : Kept z (State.fabRelease s d k c) := by
  unfold State.fabRelease
  repeat' (first
    | (with_reducible first
      | exact hz | apply State.fabCtr_kept | apply State.setDstStream_kept | apply State.fabTake_kept | apply kept_ite | assumption)
    | extract_lets | (split <;> (rename_i q; with_reducible refine kept_of_pair q ?_ (fun hu => ?_)))
    | (split <;> (rename_i q; with_reducible refine kept_of_pair2 q ?_ (fun hu => ?_))) | split | dsimp only | dsimp +zetaDelta only)
theorem State.fabLose_kept {z : State} (s : State) (d k : Nat) (hz : Kept z s) : Kept z (State.fabLose s d k) := by
  unfold State.fabLose
  repeat' (first
    | (with_reducible first
      | exact hz | apply State.setDstStream_kept | apply State.fabCtr_kept | apply kept_ite | assumption)
    | extract_lets | (split <;> (rename_i q; with_reducible refine kept_of_pair q ?_ (fun hu => ?_)))
    | (split <;> (rename_i q; with_reducible refine kept_of_pair2 q ?_ (fun hu => ?_))) | split | dsimp only | dsimp +zetaDelta only)
theorem State.takeLost_kept {z : State} (s : State) (d k e : Nat) (hz : Kept z s) : Kept z (State.takeLost s d k e).1 := by
  unfold State.takeLost
  repeat' (first
    | (with_reducible first
      | exact hz | apply State.setLostItems_kept | apply kept_ite | assumption)
    | (intro u x hu) | (intro u hu) | extract_lets | split | dsimp only | dsimp +zetaDelta only)
theorem State.fabRun_kept {z : State} (d k : Nat) : ∀ (x0 : Nat) (s : State), Kept z s → Kept z (State.fabRun s d k x0)
  | 0, s, hz => by unfold State.fabRun; repeat' (first
    | (with_reducible first
      | apply State.fabRun_kept | exact hz | apply State.setDstStream_kept | apply State.fabRelease_kept | apply State.takeLost_kept
      | apply State.fabLose_kept | apply State.fabCtr_kept | apply kept_ite | assumption)
    | (intro u x hu) | (intro u hu) | extract_lets | (split <;> (rename_i q; with_reducible refine kept_of_pair q ?_ (fun hu => ?_)))
    | (split <;> (rename_i q; with_reducible refine kept_of_pair2 q ?_ (fun hu => ?_))) | split | dsimp only | dsimp +zetaDelta only)
  | fuel + 1, s, hz => by unfold State.fabRun; repeat' (first
    | (with_reducible first
      | apply State.fabRun_kept | exact hz | apply State.setDstStream_kept | apply State.fabRelease_kept | apply State.takeLost_kept
      | apply State.fabLose_kept | apply State.fabCtr_kept | apply kept_ite | assumption)
    | (intro u x hu) | (intro u hu) | extract_lets | (split <;> (rename_i q; with_reducible refine kept_of_pair q ?_ (fun hu => ?_)))
    | (split <;> (rename_i q; with_reducible refine kept_of_pair2 q ?_ (fun hu => ?_))) | split | dsimp only | dsimp +zetaDelta only)
theorem State.fabAdvance_kept {z : State} (s : State) (d k : Nat) (hz : Kept z s) : Kept z (State.fabAdvance s d k) := by
  unfold State.fabAdvance
  repeat' (first
    | (with_reducible first
      | exact hz | apply State.fabRun_kept | assumption)
    | extract_lets | dsimp only | dsimp +zetaDelta only)
theorem State.fabSkip_kept {z : State} (s : State) (d k : Nat) (hz : Kept z s) : Kept z (State.fabSkip s d k) := by
  unfold State.fabSkip
  repeat' (first
    | (with_reducible first
      | exact hz | apply State.fabLose_kept | apply State.setDstStream_kept | apply State.fabAdvance_kept | apply kept_ite | assumption)
    | extract_lets | (split <;> (rename_i q; with_reducible refine kept_of_pair q ?_ (fun hu => ?_)))
    | (split <;> (rename_i q; with_reducible refine kept_of_pair2 q ?_ (fun hu => ?_))) | split | dsimp only | dsimp +zetaDelta only)
theorem State.fabEntry_kept {z : State} (s : State) (d k : Nat) (hz : Kept z s) : Kept z (State.fabEntry s d k).1 := by
  unfold State.fabEntry
  repeat' (first
    | (with_reducible first
      | exact hz | apply State.setDstStream_kept | apply State.fabCtr_kept | apply State.raise_kept | apply kept_ite
      | refine kept_foldl ?_ ?_ | refine kept_foldl1 ?_ ?_ | assumption)
    | (intro u x hu) | (intro u hu) | extract_lets | (split <;> (rename_i q; with_reducible refine kept_of_pair q ?_ (fun hu => ?_)))
    | (split <;> (rename_i q; with_reducible refine kept_of_pair2 q ?_ (fun hu => ?_))) | split | dsimp only | dsimp +zetaDelta only)
theorem State.fabHold_kept {z : State} (s : State) (d k : Nat) (c : Cell) (hz : Kept z s) : Kept z (State.fabHold s d k c) := by
  unfold State.fabHold
  repeat' (first
    | (with_reducible first
      | exact hz | apply State.fabCtr_kept | apply State.raise_kept | apply State.fabSkip_kept | apply State.setDstStream_kept
      | apply kept_ite | assumption)
    | extract_lets | (split <;> (rename_i q; with_reducible refine kept_of_pair q ?_ (fun hu => ?_)))
    | (split <;> (rename_i q; with_reducible refine kept_of_pair2 q ?_ (fun hu => ?_))) | split | dsimp only | dsimp +zetaDelta only)
theorem State.fabFirst_kept {z : State} (s : State) (d k fseq : Nat) (hz : Kept z s) : Kept z (State.fabFirst s d k fseq) := by
  unfold State.fabFirst
  repeat' (first
    | (with_reducible first
      | exact hz | apply State.setDstStream_kept | apply State.fabLose_kept | apply State.fabCtr_kept | apply kept_ite | assumption)
    | (intro u x hu) | (intro u hu) | extract_lets | (split <;> (rename_i q; with_reducible refine kept_of_pair q ?_ (fun hu => ?_)))
    | (split <;> (rename_i q; with_reducible refine kept_of_pair2 q ?_ (fun hu => ?_))) | split | dsimp only | dsimp +zetaDelta only)
theorem State.fabCell_kept {z : State} (s : State) (d : Nat) (c : Cell) (hz : Kept z s) : Kept z (State.fabCell s d c) := by
  unfold State.fabCell
  repeat' (first
    | (with_reducible first
      | exact hz | apply State.fabEntry_kept | apply State.setDstStream_kept | apply State.fabFirst_kept | apply State.fabHold_kept
      | apply State.fabRelease_kept | apply State.fabAdvance_kept | apply State.fabCtr_kept | apply State.setFld_kept | apply kept_ite
      | assumption)
    | extract_lets | (split <;> (rename_i q; with_reducible refine kept_of_pair q ?_ (fun hu => ?_)))
    | (split <;> (rename_i q; with_reducible refine kept_of_pair2 q ?_ (fun hu => ?_))) | split | dsimp only | dsimp +zetaDelta only)
theorem State.fabRetry_kept {z : State} (s : State) (d : Nat) (hz : Kept z s) : Kept z (State.fabRetry s d) := by
  unfold State.fabRetry
  repeat' (first
    | (with_reducible first
      | exact hz | refine State.each_kept ?_ ?_ | apply State.setDstStream_kept | apply State.fabTake_kept
      | apply State.fabAdvance_kept | apply kept_ite | assumption)
    | (intro u x hu) | (intro u hu) | extract_lets | (split <;> (rename_i q; with_reducible refine kept_of_pair q ?_ (fun hu => ?_)))
    | (split <;> (rename_i q; with_reducible refine kept_of_pair2 q ?_ (fun hu => ?_))) | split | dsimp only | dsimp +zetaDelta only)
theorem State.doFabricCellDeliver_kept {z : State} (s : State) (d : Nat) (hz : Kept z s) : Kept z (State.doFabricCellDeliver s d) := by
  unfold State.doFabricCellDeliver
  repeat' (first
    | (with_reducible first
      | exact hz | apply State.fabRetry_kept | apply State.retryAll_kept | apply State.setDeliver_kept | apply State.fabCell_kept
      | apply State.syncFab_kept | assumption)
    | (intro u x hu) | (intro u hu) | extract_lets | (split <;> (rename_i q; with_reducible refine kept_of_pair q ?_ (fun hu => ?_)))
    | (split <;> (rename_i q; with_reducible refine kept_of_pair2 q ?_ (fun hu => ?_))) | split | dsimp only | dsimp +zetaDelta only)
theorem State.doFabReseqTimeout_kept {z : State} (s : State) (d dev ss port c : Nat) (hz : Kept z s) : Kept z (State.doFabReseqTimeout s
    d dev ss port c) := by
  unfold State.doFabReseqTimeout
  repeat' (first
    | (with_reducible first
      | exact hz | apply State.fabCtr_kept | apply State.raise_kept | apply State.fabSkip_kept | apply State.syncFab_kept
      | apply kept_ite | assumption)
    | extract_lets | (split <;> (rename_i q; with_reducible refine kept_of_pair q ?_ (fun hu => ?_)))
    | (split <;> (rename_i q; with_reducible refine kept_of_pair2 q ?_ (fun hu => ?_))) | split | dsimp only | dsimp +zetaDelta only)
theorem State.putLost_kept {z : State} (s : State) (d k fseq : Nat) (hz : Kept z s) : Kept z (State.putLost s d k fseq) := by
  unfold State.putLost
  repeat' (first
    | (with_reducible first
      | exact hz | apply State.count_kept | apply State.setLostItems_kept | apply kept_ite | assumption)
    | extract_lets | split | dsimp only | dsimp +zetaDelta only)
theorem State.noticeOne_kept {z : State} (s : State) (d : Nat) (x : Nat) (hz : Kept z s) : Kept z (State.noticeOne s d x) := by
  unfold State.noticeOne
  repeat' (first
    | (with_reducible first
      | exact hz | apply State.putLost_kept | apply State.fabLose_kept | apply State.fabCtr_kept | apply State.setDstStream_kept
      | apply State.fabAdvance_kept | apply State.count_kept | apply kept_ite | assumption)
    | (intro u x hu) | (intro u hu) | extract_lets | (split <;> (rename_i q; with_reducible refine kept_of_pair q ?_ (fun hu => ?_)))
    | (split <;> (rename_i q; with_reducible refine kept_of_pair2 q ?_ (fun hu => ?_))) | split | dsimp only | dsimp +zetaDelta only)
theorem State.doGapNoticeReceive_kept {z : State} (s : State) (d : Nat) (hz : Kept z s) : Kept z (State.doGapNoticeReceive s d) := by
  unfold State.doGapNoticeReceive
  repeat' (first
    | (with_reducible first
      | exact hz | apply State.setDeliver_kept | apply State.count_kept | refine State.each_kept ?_ ?_ | apply State.noticeOne_kept
      | apply State.syncFab_kept | assumption)
    | (intro u x hu) | (intro u hu) | extract_lets | (split <;> (rename_i q; with_reducible refine kept_of_pair q ?_ (fun hu => ?_)))
    | (split <;> (rename_i q; with_reducible refine kept_of_pair2 q ?_ (fun hu => ?_))) | split | dsimp only | dsimp +zetaDelta only)
theorem State.doLostItemExpire_kept {z : State} (s : State) (d : Nat) (hz : Kept z s) : Kept z (State.doLostItemExpire s d) := by
  unfold State.doLostItemExpire
  repeat' (first
    | (with_reducible first
      | exact hz | apply State.setLostItems_kept | assumption)
    | (intro u x hu) | (intro u hu) | extract_lets | dsimp only | dsimp +zetaDelta only)
theorem State.doStreamEntryIdle_kept {z : State} (s : State) (d dev ss port c : Nat) (hz : Kept z s) : Kept z (State.doStreamEntryIdle s
    d dev ss port c) := by
  unfold State.doStreamEntryIdle
  repeat' (first
    | (with_reducible first
      | exact hz | apply State.setDstStream_kept | apply State.syncFab_kept | apply kept_ite | assumption)
    | extract_lets | (split <;> (rename_i q; with_reducible refine kept_of_pair q ?_ (fun hu => ?_)))
    | (split <;> (rename_i q; with_reducible refine kept_of_pair2 q ?_ (fun hu => ?_))) | split | dsimp only | dsimp +zetaDelta only)
theorem State.doLinkCntSel_kept {z : State} (s : State) (sl k : Nat) (hz : Kept z s) : Kept z (State.doLinkCntSel s sl k) := by
  unfold State.doLinkCntSel
  repeat' (first
    | (with_reducible first
      | exact hz | apply State.setFlag_kept | apply State.setFld_kept | refine State.each_kept ?_ ?_ | apply State.setCtr_kept
      | assumption)
    | (intro u x hu) | (intro u hu) | extract_lets | dsimp only | dsimp +zetaDelta only)
theorem State.grpCmd_kept {z : State} (s : State) (fw : Bool) (i : Nat) (run : State → State) (hz : Kept z s) (hr : ∀ u, Kept z u → Kept
    z (run u)) : Kept z (State.grpCmd s fw i run) := by
  unfold State.grpCmd
  repeat' (first
    | (with_reducible first
      | exact hz | apply hr | apply State.winBusy_kept | apply State.setFld_kept | apply State.winDone_kept | apply kept_ite | assumption)
    | (intro u x hu) | (intro u hu) | extract_lets | split | dsimp only | dsimp +zetaDelta only)
theorem State.doLinkGroupWrite_kept {z : State} (s : State) (fw : Bool) (i : Nat) (hz : Kept z s) : Kept z (State.doLinkGroupWrite s fw
    i) := by
  unfold State.doLinkGroupWrite
  repeat' (first
    | (with_reducible first
      | exact hz | apply State.grpCmd_kept | apply State.winDone_kept | apply State.setFld_kept | apply State.seqPush_kept
      | apply kept_ite | refine kept_foldl ?_ ?_ | refine kept_foldl1 ?_ ?_ | assumption)
    | (intro u x hu) | (intro u hu) | extract_lets | split | dsimp only | dsimp +zetaDelta only)
theorem State.doLinkGroupRead_kept {z : State} (s : State) (fw : Bool) (i : Nat) (hz : Kept z s) : Kept z (State.doLinkGroupRead s fw i)
    := by
  unfold State.doLinkGroupRead
  repeat' (first
    | (with_reducible first
      | exact hz | apply State.grpCmd_kept | apply State.winPut_kept | apply State.winDone_kept | assumption)
    | (intro u x hu) | (intro u hu) | extract_lets | dsimp only | dsimp +zetaDelta only)
theorem State.doNeighborRead_kept {z : State} (s : State) (p : Nat) (hz : Kept z s) : Kept z (State.doNeighborRead s p) := by
  unfold State.doNeighborRead
  repeat' (first
    | (with_reducible first
      | exact hz | apply State.winBusy_kept | apply State.setFld_kept | apply State.winPut_kept | assumption)
    | (intro u x hu) | (intro u hu) | extract_lets | (split <;> (rename_i q; with_reducible refine kept_of_pair q ?_ (fun hu => ?_)))
    | (split <;> (rename_i q; with_reducible refine kept_of_pair2 q ?_ (fun hu => ?_))) | split | dsimp only | dsimp +zetaDelta only)

/-! ### Machine/Audit.lean -/

theorem State.tokenStart_kept {z : State} (s : State) (hz : Kept z s) : Kept z (State.tokenStart s) := by
  unfold State.tokenStart
  repeat' (first
    | (with_reducible first
      | exact hz | refine State.each_kept ?_ ?_ | apply State.setNode_kept | apply State.setMeter_kept | assumption)
    | (intro u x hu) | (intro u hu) | extract_lets | dsimp only | dsimp +zetaDelta only)
theorem State.doAuditLatch_kept {z : State} (s : State) (hz : Kept z s) : Kept z (State.doAuditLatch s) := by
  unfold State.doAuditLatch
  repeat' (first
    | (with_reducible first
      | exact hz | apply State.tokenStart_kept | apply State.onSw_kept | refine State.each_kept ?_ ?_ | apply State.setLink_kept
      | apply kept_ite | assumption)
    | (intro u x hu) | (intro u hu) | extract_lets | split | dsimp only | dsimp +zetaDelta only)
theorem State.doAuditCheck_kept {z : State} (s : State) (hz : Kept z s) : Kept z (State.doAuditCheck s) := by
  unfold State.doAuditCheck
  repeat' (first
    | (with_reducible first
      | exact hz | apply State.onSw_kept | apply State.incFld_kept | apply State.setFld_kept | apply State.raise_kept | assumption)
    | (intro u x hu) | (intro u hu) | extract_lets | (split <;> (rename_i q; with_reducible refine kept_of_pair q ?_ (fun hu => ?_)))
    | (split <;> (rename_i q; with_reducible refine kept_of_pair2 q ?_ (fun hu => ?_))) | split | dsimp only | dsimp +zetaDelta only)

/-! ### Machine/Optics.lean -/

theorem State.syncRclk_kept {z : State} (s : State) (hz : Kept z s) : Kept z (State.syncRclk s) := by
  unfold State.syncRclk
  repeat' (first
    | (with_reducible first
      | exact hz | apply State.setFlag_kept | assumption)
    | extract_lets | dsimp only | dsimp +zetaDelta only)
theorem State.portMove_kept {z : State} (s : State) (p : Nat) (f : State → State) (hz : Kept z s) (hr : ∀ u, Kept z u → Kept z (f u)) :
    Kept z (State.portMove s p f) := by
  unfold State.portMove
  repeat' (first
    | (with_reducible first
      | exact hz | apply hr | apply State.withUp_kept | apply State.groupsFollow_kept | apply State.linkFollow_kept
      | apply State.syncRclk_kept | assumption)
    | (intro u x hu) | (intro u hu) | extract_lets | dsimp only | dsimp +zetaDelta only)
theorem State.pitchTo_kept {z : State} (s : State) (lp st : Nat) (hz : Kept z s) : Kept z (State.pitchTo s lp st) := by
  unfold State.pitchTo
  repeat' (first
    | (with_reducible first
      | exact hz | apply State.portMove_kept | apply State.enterPitch_kept | assumption)
    | (intro u x hu) | (intro u hu) | extract_lets | dsimp only | dsimp +zetaDelta only)
theorem State.onPitch_kept {z : State} (s : State) (lp : Nat) (f : Pitch → Pitch) (hz : Kept z s) : Kept z (State.onPitch s lp f) := by
  unfold State.onPitch
  repeat' (first
    | (with_reducible first
      | exact hz | apply State.setPitch_kept | assumption)
    | extract_lets | dsimp only | dsimp +zetaDelta only)
theorem State.backoff_kept {z : State} (s : State) (lp : Nat) (hz : Kept z s) : Kept z (State.backoff s lp) := by
  unfold State.backoff
  repeat' (first
    | (with_reducible first
      | exact hz | apply State.pitchTo_kept | apply State.engCtr_kept | apply State.onPitch_kept | apply State.raise_kept
      | apply kept_ite | assumption)
    | (intro u x hu) | (intro u hu) | extract_lets | split | dsimp only | dsimp +zetaDelta only)
theorem State.doPitchBiasDone_kept {z : State} (s : State) (lp : Nat) (hz : Kept z s) : Kept z (State.doPitchBiasDone s lp) := by
  unfold State.doPitchBiasDone
  repeat' (first
    | (with_reducible first
      | exact hz | apply State.pitchTo_kept | apply State.onPitch_kept | apply kept_ite | assumption)
    | (intro u x hu) | (intro u hu) | extract_lets | split | dsimp only | dsimp +zetaDelta only)
theorem State.doPitchBiasTimeout_kept {z : State} (s : State) (lp : Nat) (hz : Kept z s) : Kept z (State.doPitchBiasTimeout s lp) := by
  unfold State.doPitchBiasTimeout
  repeat' (first
    | (with_reducible first
      | exact hz | apply State.backoff_kept | apply kept_ite | assumption)
    | extract_lets | split | dsimp only | dsimp +zetaDelta only)
theorem State.doPitchEqualiseDone_kept {z : State} (s : State) (lp : Nat) (hz : Kept z s) : Kept z (State.doPitchEqualiseDone s lp) := by
  unfold State.doPitchEqualiseDone
  repeat' (first
    | (with_reducible first
      | exact hz | apply State.onPitch_kept | apply State.pitchTo_kept | apply kept_ite | assumption)
    | (intro u x hu) | (intro u hu) | extract_lets | split | dsimp only | dsimp +zetaDelta only)
theorem State.doPitchEqualiseTimeout_kept {z : State} (s : State) (lp : Nat) (hz : Kept z s) : Kept z (State.doPitchEqualiseTimeout s lp)
    := by
  unfold State.doPitchEqualiseTimeout
  repeat' (first
    | (with_reducible first
      | exact hz | apply State.backoff_kept | apply kept_ite | assumption)
    | extract_lets | split | dsimp only | dsimp +zetaDelta only)
theorem State.doPitchFecLockDone_kept {z : State} (s : State) (lp : Nat) (hz : Kept z s) : Kept z (State.doPitchFecLockDone s lp) := by
  unfold State.doPitchFecLockDone
  repeat' (first
    | (with_reducible first
      | exact hz | apply State.pitchTo_kept | apply kept_ite | assumption)
    | extract_lets | split | dsimp only | dsimp +zetaDelta only)
theorem State.doPitchFecLockTimeout_kept {z : State} (s : State) (lp : Nat) (hz : Kept z s) : Kept z (State.doPitchFecLockTimeout s lp)
    := by
  unfold State.doPitchFecLockTimeout
  repeat' (first
    | (with_reducible first
      | exact hz | apply State.backoff_kept | apply kept_ite | assumption)
    | extract_lets | split | dsimp only | dsimp +zetaDelta only)
theorem State.doPitchAmLockDone_kept {z : State} (s : State) (lp : Nat) (hz : Kept z s) : Kept z (State.doPitchAmLockDone s lp) := by
  unfold State.doPitchAmLockDone
  repeat' (first
    | (with_reducible first
      | exact hz | apply State.onPitch_kept | apply State.pitchTo_kept | apply State.setGate_kept | apply kept_ite | assumption)
    | (intro u x hu) | (intro u hu) | extract_lets | split | dsimp only | dsimp +zetaDelta only)
theorem State.doPitchAmLockTimeout_kept {z : State} (s : State) (lp : Nat) (hz : Kept z s) : Kept z (State.doPitchAmLockTimeout s lp) :=
    by
  unfold State.doPitchAmLockTimeout
  repeat' (first
    | (with_reducible first
      | exact hz | apply State.backoff_kept | apply kept_ite | assumption)
    | extract_lets | split | dsimp only | dsimp +zetaDelta only)
theorem State.strikeWarm_kept {z : State} (s : State) (lp : Nat) (hz : Kept z s) : Kept z (State.strikeWarm s lp) := by
  unfold State.strikeWarm
  repeat' (first
    | (with_reducible first
      | exact hz | apply State.pitchTo_kept | apply kept_ite | assumption)
    | extract_lets | split | dsimp only | dsimp +zetaDelta only)
theorem State.doLossOfLight_kept {z : State} (s : State) (lp : Nat) (hz : Kept z s) : Kept z (State.doLossOfLight s lp) := by
  unfold State.doLossOfLight
  repeat' (first
    | (with_reducible first
      | exact hz | apply State.onPitch_kept | apply State.strikeWarm_kept | apply State.backoff_kept | apply kept_ite | assumption)
    | (intro u x hu) | (intro u hu) | extract_lets | (split <;> (rename_i q; with_reducible refine kept_of_pair q ?_ (fun hu => ?_)))
    | (split <;> (rename_i q; with_reducible refine kept_of_pair2 q ?_ (fun hu => ?_))) | split | dsimp only | dsimp +zetaDelta only)
theorem State.doAlignmentLockLoss_kept {z : State} (s : State) (lp : Nat) (hz : Kept z s) : Kept z (State.doAlignmentLockLoss s lp) := by
  unfold State.doAlignmentLockLoss
  repeat' (first
    | (with_reducible first
      | exact hz | apply State.strikeWarm_kept | apply kept_ite | assumption)
    | extract_lets | split | dsimp only | dsimp +zetaDelta only)
theorem State.doBackoffEnd_kept {z : State} (s : State) (lp : Nat) (hz : Kept z s) : Kept z (State.doBackoffEnd s lp) := by
  unfold State.doBackoffEnd
  repeat' (first
    | (with_reducible first
      | exact hz | apply State.pitchTo_kept | apply kept_ite | assumption)
    | extract_lets | split | dsimp only | dsimp +zetaDelta only)
theorem State.doUncorrectableCodeword_kept {z : State} (s : State) (lp : Nat) (hz : Kept z s) : Kept z (State.doUncorrectableCodeword s
    lp) := by
  unfold State.doUncorrectableCodeword
  repeat' (first
    | (with_reducible first
      | exact hz | apply State.portCtr_kept | apply State.onPitch_kept | apply State.strikeWarm_kept | apply kept_ite | assumption)
    | (intro u x hu) | (intro u hu) | extract_lets | split | dsimp only | dsimp +zetaDelta only)
theorem State.doSerWindowRestart_kept {z : State} (s : State) (lp codewords symbols : Nat) (hz : Kept z s) : Kept z
    (State.doSerWindowRestart s lp codewords symbols) := by
  unfold State.doSerWindowRestart
  repeat' (first
    | (with_reducible first
      | exact hz | apply State.portCtr_kept | apply State.onPitch_kept | apply kept_ite | assumption)
    | (intro u x hu) | (intro u hu) | extract_lets | split | dsimp only | dsimp +zetaDelta only)
theorem State.doHoldTimerExpire_kept {z : State} (s : State) (lp : Nat) (hz : Kept z s) : Kept z (State.doHoldTimerExpire s lp) := by
  unfold State.doHoldTimerExpire
  repeat' (first
    | (with_reducible first
      | exact hz | apply State.onPitch_kept | apply State.discardQueued_kept | apply State.retryAll_kept | apply kept_ite | assumption)
    | (intro u x hu) | (intro u hu) | extract_lets | (split <;> (rename_i q; with_reducible refine kept_of_pair q ?_ (fun hu => ?_)))
    | (split <;> (rename_i q; with_reducible refine kept_of_pair2 q ?_ (fun hu => ?_))) | split | dsimp only | dsimp +zetaDelta only)
theorem State.darkDiscard_kept {z : State} (s : State) (p : Nat) (hz : Kept z s) : Kept z (State.darkDiscard s p) := by
  unfold State.darkDiscard
  repeat' (first
    | (with_reducible first
      | exact hz | refine State.each_kept ?_ ?_ | apply State.onPitch_kept | apply State.discardQueued_kept | apply State.retryAll_kept
      | apply kept_ite | assumption)
    | (intro u x hu) | (intro u hu) | extract_lets | split | dsimp only | dsimp +zetaDelta only)
theorem State.parkSubs_kept {z : State} (s : State) (p : Nat) (lps : List Nat) (hz : Kept z s) : Kept z (State.parkSubs s p lps) := by
  unfold State.parkSubs
  repeat' (first
    | (with_reducible first
      | exact hz | apply State.portMove_kept | refine State.each_kept ?_ ?_ | apply State.enterPitch_kept | apply State.onPitch_kept
      | apply State.darkDiscard_kept | assumption)
    | (intro u x hu) | (intro u hu) | extract_lets | dsimp only | dsimp +zetaDelta only)
theorem State.doParkApply_kept {z : State} (s : State) (p : Nat) (hz : Kept z s) : Kept z (State.doParkApply s p) := by
  unfold State.doParkApply
  repeat' (first
    | (with_reducible first
      | exact hz | apply State.parkSubs_kept | apply kept_ite | assumption)
    | (intro u x hu) | (intro u hu) | extract_lets | split | dsimp only | dsimp +zetaDelta only)
theorem State.kick_kept {z : State} (s : State) (lp : Nat) (hz : Kept z s) : Kept z (State.kick s lp) := by
  unfold State.kick
  repeat' (first
    | (with_reducible first
      | exact hz | apply State.enterPitch_kept | apply State.startHold_kept | apply kept_ite | assumption)
    | extract_lets | split | dsimp only | dsimp +zetaDelta only)
theorem State.portSettle_kept {z : State} (s : State) (p oldMode : Nat) (hz : Kept z s) : Kept z (State.portSettle s p oldMode) := by
  unfold State.portSettle
  repeat' (first
    | (with_reducible first
      | exact hz | refine State.each_kept ?_ ?_ | apply State.enterPitch_kept | apply State.onPitch_kept | apply State.kick_kept
      | apply kept_ite | assumption)
    | (intro u x hu) | (intro u hu) | extract_lets | split | dsimp only | dsimp +zetaDelta only)
theorem State.engineApply_kept {z : State} (s : State) (e : Nat) (merge : State → State) (hz : Kept z s) (hr : ∀ u, Kept z u → Kept z
    (merge u)) : Kept z (State.engineApply s e merge) := by
  unfold State.engineApply
  repeat' (first
    | (with_reducible first
      | exact hz | apply hr | apply State.withUp_kept | refine State.each_kept ?_ ?_ | apply State.portSettle_kept
      | apply State.unpark_kept | apply State.groupsFollow_kept | apply State.linkFollow_kept | apply State.darkDiscard_kept
      | apply State.syncRclk_kept | apply kept_ite | assumption)
    | (intro u x hu) | (intro u hu) | extract_lets | split | dsimp only | dsimp +zetaDelta only)
theorem State.engineDown_kept {z : State} (s : State) (e : Nat) (hz : Kept z s) : Kept z (State.engineDown s e) := by
  unfold State.engineDown
  repeat' (first
    | (with_reducible first
      | exact hz | apply State.withUp_kept | refine State.each_kept ?_ ?_ | apply State.enterPitch_kept | apply State.onPitch_kept
      | apply State.startHold_kept | apply State.groupsFollow_kept | apply State.linkFollow_kept | apply State.syncRclk_kept
      | apply kept_ite | assumption)
    | (intro u x hu) | (intro u hu) | extract_lets | split | dsimp only | dsimp +zetaDelta only)
theorem State.engineUp_kept {z : State} (s : State) (e : Nat) (hz : Kept z s) : Kept z (State.engineUp s e) := by
  unfold State.engineUp
  repeat' (first
    | (with_reducible first
      | exact hz | refine State.each_kept ?_ ?_ | apply State.kick_kept | assumption)
    | (intro u x hu) | (intro u hu) | extract_lets | dsimp only | dsimp +zetaDelta only)
theorem State.wake_kept {z : State} (s : State) (p : Nat) (hz : Kept z s) : Kept z (State.wake s p) := by
  unfold State.wake
  repeat' (first
    | (with_reducible first
      | exact hz | apply State.raise_kept | apply State.unpark_kept | apply kept_ite | assumption)
    | extract_lets | split | dsimp only | dsimp +zetaDelta only)
theorem State.doParkedFrameReceive_kept {z : State} (s : State) (lp : Nat) (bytes : List Byte) (hz : Kept z s) : Kept z
    (State.doParkedFrameReceive s lp bytes) := by
  unfold State.doParkedFrameReceive
  repeat' (first
    | (with_reducible first
      | exact hz | apply State.onPitch_kept | apply State.engCtr_kept | apply State.wake_kept | apply kept_ite | assumption)
    | (intro u x hu) | (intro u hu) | extract_lets | split | dsimp only | dsimp +zetaDelta only)
theorem State.doLightAppear_kept {z : State} (s : State) (lp : Nat) (hz : Kept z s) : Kept z (State.doLightAppear s lp) := by
  unfold State.doLightAppear
  repeat' (first
    | (with_reducible first
      | exact hz | apply State.onPitch_kept | apply State.wake_kept | apply kept_ite | assumption)
    | (intro u x hu) | (intro u hu) | extract_lets | split | dsimp only | dsimp +zetaDelta only)
theorem State.onWear_kept {z : State} (s : State) (e src : Nat) (f : Wear → Wear) (hz : Kept z s) : Kept z (State.onWear s e src f) := by
  unfold State.onWear
  repeat' (first
    | (with_reducible first
      | exact hz | apply State.setWear_kept | assumption)
    | extract_lets | dsimp only | dsimp +zetaDelta only)
theorem State.laneDarkens_kept {z : State} (s : State) (e l : Nat) (hz : Kept z s) : Kept z (State.laneDarkens s e l) := by
  unfold State.laneDarkens
  repeat' (first
    | (with_reducible first
      | exact hz | apply State.onPitch_kept | apply State.pitchTo_kept | apply kept_ite | assumption)
    | (intro u x hu) | (intro u hu) | extract_lets | (split <;> (rename_i q; with_reducible refine kept_of_pair q ?_ (fun hu => ?_)))
    | (split <;> (rename_i q; with_reducible refine kept_of_pair2 q ?_ (fun hu => ?_))) | split | dsimp only | dsimp +zetaDelta only)
theorem State.switchLane_kept {z : State} (s : State) (e l : Nat) (hz : Kept z s) : Kept z (State.switchLane s e l) := by
  unfold State.switchLane
  repeat' (first
    | (with_reducible first
      | exact hz | apply State.startSwitch_kept | apply State.noSpare_kept | apply State.laneDarkens_kept
      | refine State.each_kept ?_ ?_ | apply State.giveSpare_kept | apply State.onLane_kept | apply kept_ite | assumption)
    | (intro u x hu) | (intro u hu) | extract_lets | (split <;> (rename_i q; with_reducible refine kept_of_pair q ?_ (fun hu => ?_)))
    | (split <;> (rename_i q; with_reducible refine kept_of_pair2 q ?_ (fun hu => ?_))) | split | dsimp only | dsimp +zetaDelta only)
theorem State.doLaserSample_kept {z : State} (s : State) (e l : Nat) (bias bol txPwr rxPwr : Nat) (reaches : Bool) (hz : Kept z s) : Kept
    z (State.doLaserSample s e l bias bol txPwr rxPwr reaches) := by
  unfold State.doLaserSample
  repeat' (first
    | (with_reducible first
      | exact hz | apply State.onLane_kept | apply State.onWear_kept | apply State.switchLane_kept | apply State.raise_kept
      | apply kept_ite | assumption)
    | (intro u x hu) | (intro u hu) | extract_lets | split | dsimp only | dsimp +zetaDelta only)
theorem State.doSparePowerReady_kept {z : State} (s : State) (e l : Nat) (hz : Kept z s) : Kept z (State.doSparePowerReady s e l) := by
  unfold State.doSparePowerReady
  repeat' (first
    | (with_reducible first
      | exact hz | apply State.onLane_kept | apply kept_ite | assumption)
    | (intro u x hu) | (intro u hu) | extract_lets | split | dsimp only | dsimp +zetaDelta only)
theorem State.doSpareSwitchComplete_kept {z : State} (s : State) (e l : Nat) (hz : Kept z s) : Kept z (State.doSpareSwitchComplete s e l)
    := by
  unfold State.doSpareSwitchComplete
  repeat' (first
    | (with_reducible first
      | exact hz | apply State.onWear_kept | apply State.onLane_kept | apply State.raise_kept | apply kept_ite | assumption)
    | (intro u x hu) | (intro u hu) | extract_lets | (split <;> (rename_i q; with_reducible refine kept_of_pair q ?_ (fun hu => ?_)))
    | (split <;> (rename_i q; with_reducible refine kept_of_pair2 q ?_ (fun hu => ?_))) | split | dsimp only | dsimp +zetaDelta only)
theorem State.doWearRecordWrite_kept {z : State} (s : State) (e : Nat) (hz : Kept z s) : Kept z (State.doWearRecordWrite s e) := by
  unfold State.doWearRecordWrite
  repeat' (first
    | (with_reducible first
      | exact hz | apply State.setWearHour_kept | refine State.each_kept ?_ ?_ | apply State.onWear_kept
      | refine State.onNv_kept ?_ ⟨rfl, rfl, rfl, rfl⟩ | apply kept_ite | assumption)
    | (intro u x hu) | (intro u hu) | extract_lets | (split <;> (rename_i q; with_reducible refine kept_of_pair q ?_ (fun hu => ?_)))
    | (split <;> (rename_i q; with_reducible refine kept_of_pair2 q ?_ (fun hu => ?_))) | split | dsimp only | dsimp +zetaDelta only)
theorem State.doEyeLimitTrip_kept {z : State} (s : State) (e l : Nat) (hz : Kept z s) : Kept z (State.doEyeLimitTrip s e l) := by
  unfold State.doEyeLimitTrip
  repeat' (first
    | (with_reducible first
      | exact hz | apply State.onWear_kept | apply State.onLane_kept | apply State.raise_kept | apply State.laneDarkens_kept
      | apply kept_ite | assumption)
    | (intro u x hu) | (intro u hu) | extract_lets | split | dsimp only | dsimp +zetaDelta only)
theorem State.doLaneClearTrip_kept {z : State} (s : State) (e l : Nat) (hz : Kept z s) : Kept z (State.doLaneClearTrip s e l) := by
  unfold State.doLaneClearTrip
  repeat' (first
    | (with_reducible first
      | exact hz | apply State.onLane_kept | apply kept_ite | assumption)
    | (intro u x hu) | (intro u hu) | extract_lets | split | dsimp only | dsimp +zetaDelta only)
theorem State.doLaneApproveSwitch_kept {z : State} (s : State) (e l : Nat) (hz : Kept z s) : Kept z (State.doLaneApproveSwitch s e l) :=
    by
  unfold State.doLaneApproveSwitch
  repeat' (first
    | (with_reducible first
      | exact hz | apply State.startSwitch_kept | apply kept_ite | assumption)
    | extract_lets | split | dsimp only | dsimp +zetaDelta only)
theorem State.doLaneSwitchNow_kept {z : State} (s : State) (e l : Nat) (hz : Kept z s) : Kept z (State.doLaneSwitchNow s e l) := by
  unfold State.doLaneSwitchNow
  repeat' (first
    | (with_reducible first
      | exact hz | apply State.startSwitch_kept | apply kept_ite | assumption)
    | extract_lets | split | dsimp only | dsimp +zetaDelta only)
theorem State.doCalInterpolate_kept {z : State} (s : State) (e temp : Nat) (hz : Kept z s) : Kept z (State.doCalInterpolate s e temp) :=
    by
  unfold State.doCalInterpolate
  repeat' (first
    | (with_reducible first
      | exact hz | refine State.each_kept ?_ ?_ | apply State.onLane_kept | apply kept_ite | assumption)
    | (intro u x hu) | (intro u hu) | extract_lets | split | dsimp only | dsimp +zetaDelta only)

/-! ### Machine/TimeUnit.lean -/

theorem State.onTb_kept {z : State} (s : State) (n : Nat) (f : TimeBase → TimeBase) (hz : Kept z s) : Kept z (State.onTb s n f) := by
  unfold State.onTb
  repeat' (first
    | (with_reducible first
      | exact hz | apply State.setTb_kept | assumption)
    | extract_lets | dsimp only | dsimp +zetaDelta only)
theorem State.timeRefused_kept {z : State} (s : State) (b : Bool) (hz : Kept z s) : Kept z (State.timeRefused s b) := by
  unfold State.timeRefused
  repeat' (first
    | (with_reducible first
      | exact hz | apply State.setFlag_kept | assumption)
    | extract_lets | dsimp only | dsimp +zetaDelta only)
theorem State.advance_kept {z : State} (s : State) (d : Int) (hz : Kept z s) : Kept z (State.advance s d) := by
  unfold State.advance
  repeat' (first
    | (with_reducible first
      | exact hz | apply State.onTime_kept | refine State.each_kept ?_ ?_ | apply State.onTb_kept | apply kept_ite | assumption)
    | (intro u x hu) | (intro u hu) | extract_lets | (split <;> (rename_i q; with_reducible refine kept_of_pair q ?_ (fun hu => ?_)))
    | (split <;> (rename_i q; with_reducible refine kept_of_pair2 q ?_ (fun hu => ?_))) | split | dsimp only | dsimp +zetaDelta only)
/-- A nanosecond of the reference oscillator: time moves on by one, and everything else is kept. -/
theorem State.tick_kept (s : State) : Kept { s with now := s.now + 1 } s.tick := by
  unfold State.tick
  extract_lets u
  have hz : Kept { s with now := s.now + 1 } u := Kept.rfl' _
  clear_value u
  split
  · exact State.onTime_kept hz
  · split
    exact State.advance_kept _ _ (State.onTime_kept hz)
theorem State.doDtSourceLost_kept {z : State} (s : State) (hz : Kept z s) : Kept z (State.doDtSourceLost s) := by
  unfold State.doDtSourceLost
  repeat' (first
    | (with_reducible first
      | exact hz | apply State.setFlag_kept | apply State.raiseLive_kept | apply kept_ite | assumption)
    | extract_lets | split | dsimp only | dsimp +zetaDelta only)
theorem State.doDtSourceReturn_kept {z : State} (s : State) (hz : Kept z s) : Kept z (State.doDtSourceReturn s) := by
  unfold State.doDtSourceReturn
  repeat' (first
    | (with_reducible first
      | exact hz | apply State.setFlag_kept | apply State.lower_kept | apply kept_ite | assumption)
    | extract_lets | split | dsimp only | dsimp +zetaDelta only)
theorem State.islandCapture_kept {z : State} (s : State) (i cause : Nat) (hz : Kept z s) : Kept z (State.islandCapture s i cause) := by
  unfold State.islandCapture
  repeat' (first
    | (with_reducible first
      | exact hz | apply State.setFld_kept | apply State.setFlag_kept | assumption)
    | extract_lets | dsimp only | dsimp +zetaDelta only)
theorem State.doDtTrim_kept {z : State} (s : State) (i skew freq : Nat) (hz : Kept z s) : Kept z (State.doDtTrim s i skew freq) := by
  unfold State.doDtTrim
  repeat' (first
    | (with_reducible first
      | exact hz | apply State.setFld_kept | apply State.setIsland_kept | apply State.islandCapture_kept | apply State.raise_kept
      | apply kept_ite | assumption)
    | extract_lets | split | dsimp only | dsimp +zetaDelta only)
theorem State.doClkUnlock_kept {z : State} (s : State) (i : Nat) (hz : Kept z s) : Kept z (State.doClkUnlock s i) := by
  unfold State.doClkUnlock
  repeat' (first
    | (with_reducible first
      | exact hz | apply State.setIsland_kept | apply State.islandCapture_kept | apply State.raise_kept | apply kept_ite | assumption)
    | extract_lets | split | dsimp only | dsimp +zetaDelta only)
theorem State.ppsBack_kept {z : State} (s : State) (back : Bool) (hz : Kept z s) : Kept z (State.ppsBack s back) := by
  unfold State.ppsBack
  repeat' (first
    | (with_reducible first
      | exact hz | apply State.onTime_kept | apply kept_ite | assumption)
    | (intro u x hu) | (intro u hu) | extract_lets | split | dsimp only | dsimp +zetaDelta only)
theorem State.doDtSet_kept {z : State} (s : State) (hz : Kept z s) : Kept z (State.doDtSet s) := by
  unfold State.doDtSet
  repeat' (first
    | (with_reducible first
      | exact hz | apply State.timeRefused_kept | apply State.ppsBack_kept | apply State.onTime_kept | refine State.each_kept ?_ ?_
      | apply State.onTb_kept | apply State.gateStep_kept | apply kept_ite | assumption)
    | (intro u x hu) | (intro u hu) | extract_lets | split | dsimp only | dsimp +zetaDelta only)
theorem State.latchTime_kept {z : State} (s : State) (lo hi ns fr : Fld) (t : Nat) (hz : Kept z s) : Kept z (State.latchTime s lo hi ns
    fr t) := by
  unfold State.latchTime
  repeat' (first
    | (with_reducible first
      | exact hz | apply State.setFld_kept | assumption)
    | extract_lets | dsimp only | dsimp +zetaDelta only)
theorem State.doDtLatchRead_kept {z : State} (s : State) (hz : Kept z s) : Kept z (State.doDtLatchRead s) := by
  unfold State.doDtLatchRead
  repeat' (first
    | (with_reducible first
      | exact hz | apply State.latchTime_kept | assumption)
    | extract_lets | dsimp only | dsimp +zetaDelta only)
theorem State.doTbLatchRead_kept {z : State} (s : State) (n : Nat) (hz : Kept z s) : Kept z (State.doTbLatchRead s n) := by
  unfold State.doTbLatchRead
  repeat' (first
    | (with_reducible first
      | exact hz | apply State.latchTime_kept | apply State.setFld_kept | assumption)
    | extract_lets | dsimp only | dsimp +zetaDelta only)
theorem State.setTbFreq_kept {z : State} (s : State) (n : Nat) (f : Int) (hz : Kept z s) : Kept z (State.setTbFreq s n f) := by
  unfold State.setTbFreq
  repeat' (first
    | (with_reducible first
      | exact hz | apply State.setFld_kept | assumption)
    | extract_lets | dsimp only | dsimp +zetaDelta only)
theorem State.setTbState_kept {z : State} (s : State) (n st : Nat) (hz : Kept z s) : Kept z (State.setTbState s n st) := by
  unfold State.setTbState
  repeat' (first
    | (with_reducible first
      | exact hz | apply State.setFld_kept | apply State.raise_kept | apply kept_ite | assumption)
    | extract_lets | split | dsimp only | dsimp +zetaDelta only)
theorem State.setChOk_kept {z : State} (s : State) (n ch : Nat) (b : Bool) (hz : Kept z s) : Kept z (State.setChOk s n ch b) := by
  unfold State.setChOk
  repeat' (first
    | (with_reducible first
      | exact hz | apply State.setFlag_kept | apply kept_ite | assumption)
    | extract_lets | split | dsimp only | dsimp +zetaDelta only)
theorem State.stepTb_kept {z : State} (s : State) (n : Nat) (amt : Int) (hz : Kept z s) : Kept z (State.stepTb s n amt) := by
  unfold State.stepTb
  repeat' (first
    | (with_reducible first
      | exact hz | apply State.ppsBack_kept | apply State.onTb_kept | apply State.setFld_kept | apply State.raise_kept
      | apply State.gateStep_kept | assumption)
    | (intro u x hu) | (intro u hu) | extract_lets | dsimp only | dsimp +zetaDelta only)
theorem State.switchTb_kept {z : State} (s : State) (n : Nat) (hz : Kept z s) : Kept z (State.switchTb s n) := by
  unfold State.switchTb
  repeat' (first
    | (with_reducible first
      | exact hz | apply State.onTb_kept | apply State.setFld_kept | apply State.raise_kept | assumption)
    | (intro u x hu) | (intro u hu) | extract_lets | dsimp only | dsimp +zetaDelta only)
theorem State.enterHoldover_kept {z : State} (s : State) (n : Nat) (hz : Kept z s) : Kept z (State.enterHoldover s n) := by
  unfold State.enterHoldover
  repeat' (first
    | (with_reducible first
      | exact hz | apply State.setTbFreq_kept | apply State.setTbState_kept | assumption)
    | extract_lets | dsimp only | dsimp +zetaDelta only)
theorem State.servoState_kept {z : State} (s : State) (n : Nat) (m : Int) (hz : Kept z s) : Kept z (State.servoState s n m) := by
  unfold State.servoState
  repeat' (first
    | (with_reducible first
      | exact hz | apply State.onTb_kept | apply State.setTbState_kept | apply kept_ite | assumption)
    | (intro u x hu) | (intro u hu) | extract_lets | (split <;> (rename_i q; with_reducible refine kept_of_pair q ?_ (fun hu => ?_)))
    | (split <;> (rename_i q; with_reducible refine kept_of_pair2 q ?_ (fun hu => ?_))) | split | dsimp only | dsimp +zetaDelta only)
theorem State.servo_kept {z : State} (s : State) (n : Nat) (o : Int) (hz : Kept z s) : Kept z (State.servo s n o).1 := by
  unfold State.servo
  repeat' (first
    | (with_reducible first
      | exact hz | apply State.onTb_kept | apply State.stepTb_kept | apply State.setTbFreq_kept | apply State.servoState_kept
      | apply State.setFlag_kept | apply kept_ite | assumption)
    | (intro u x hu) | (intro u hu) | extract_lets | split | dsimp only | dsimp +zetaDelta only)
theorem State.trackRate_kept {z : State} (s : State) (n ch : Nat) (o : Int) (hz : Kept z s) : Kept z (State.trackRate s n ch o) := by
  unfold State.trackRate
  repeat' (first
    | (with_reducible first
      | exact hz | apply State.onTb_kept | apply kept_ite | assumption)
    | (intro u x hu) | (intro u hu) | extract_lets | (split <;> (rename_i q; with_reducible refine kept_of_pair q ?_ (fun hu => ?_)))
    | (split <;> (rename_i q; with_reducible refine kept_of_pair2 q ?_ (fun hu => ?_))) | split | dsimp only | dsimp +zetaDelta only)
theorem State.doTbOffset_kept {z : State} (s : State) (n ch : Nat) (o : Int) (hz : Kept z s) : Kept z (State.doTbOffset s n ch o) := by
  unfold State.doTbOffset
  repeat' (first
    | (with_reducible first
      | exact hz | apply State.setFld_kept | apply State.setChOk_kept | apply State.onTb_kept | apply State.servo_kept
      | apply State.trackRate_kept | apply kept_ite | assumption)
    | (intro u x hu) | (intro u hu) | extract_lets | (split <;> (rename_i q; with_reducible refine kept_of_pair q ?_ (fun hu => ?_)))
    | (split <;> (rename_i q; with_reducible refine kept_of_pair2 q ?_ (fun hu => ?_))) | split | dsimp only | dsimp +zetaDelta only)
theorem State.doTbOffsetWrite_kept {z : State} (s : State) (n ch : Nat) (o : Word) (hz : Kept z s) : Kept z (State.doTbOffsetWrite s n ch
    o) := by
  unfold State.doTbOffsetWrite
  repeat' (first
    | (with_reducible first
      | exact hz | apply State.timeRefused_kept | apply State.doTbOffset_kept | assumption)
    | extract_lets | dsimp only | dsimp +zetaDelta only)
theorem State.doTbStep_kept {z : State} (s : State) (n : Nat) (hz : Kept z s) : Kept z (State.doTbStep s n) := by
  unfold State.doTbStep
  repeat' (first
    | (with_reducible first
      | exact hz | apply State.timeRefused_kept | apply State.stepTb_kept | apply kept_ite | assumption)
    | extract_lets | split | dsimp only | dsimp +zetaDelta only)
theorem State.doTbSwitchChannel_kept {z : State} (s : State) (n : Nat) (hz : Kept z s) : Kept z (State.doTbSwitchChannel s n) := by
  unfold State.doTbSwitchChannel
  repeat' (first
    | (with_reducible first
      | exact hz | apply State.timeRefused_kept | apply State.switchTb_kept | apply State.setTbFreq_kept | apply kept_ite | assumption)
    | extract_lets | split | dsimp only | dsimp +zetaDelta only)
theorem State.doTbHoldover_kept {z : State} (s : State) (n : Nat) (hz : Kept z s) : Kept z (State.doTbHoldover s n) := by
  unfold State.doTbHoldover
  repeat' (first
    | (with_reducible first
      | exact hz | apply State.timeRefused_kept | apply State.enterHoldover_kept | apply kept_ite | assumption)
    | extract_lets | split | dsimp only | dsimp +zetaDelta only)
theorem State.doTbResetServo_kept {z : State} (s : State) (n : Nat) (hz : Kept z s) : Kept z (State.doTbResetServo s n) := by
  unfold State.doTbResetServo
  repeat' (first
    | (with_reducible first
      | exact hz | apply State.timeRefused_kept | apply State.onTb_kept | apply State.setTbState_kept | apply kept_ite | assumption)
    | (intro u x hu) | (intro u hu) | extract_lets | split | dsimp only | dsimp +zetaDelta only)
theorem State.doTbChannelTimeout_kept {z : State} (s : State) (n ch : Nat) (hz : Kept z s) : Kept z (State.doTbChannelTimeout s n ch) :=
    by
  unfold State.doTbChannelTimeout
  repeat' (first
    | (with_reducible first
      | exact hz | apply State.setChOk_kept | apply State.switchTb_kept | apply State.enterHoldover_kept | apply kept_ite | assumption)
    | extract_lets | (split <;> (rename_i q; with_reducible refine kept_of_pair q ?_ (fun hu => ?_)))
    | (split <;> (rename_i q; with_reducible refine kept_of_pair2 q ?_ (fun hu => ?_))) | split | dsimp only | dsimp +zetaDelta only)
theorem State.timeSettle_kept {z : State} (s : State) (hz : Kept z s) : Kept z (State.timeSettle s) := by
  unfold State.timeSettle
  repeat' (first
    | (with_reducible first
      | exact hz | refine State.each_kept ?_ ?_ | apply State.setTb_kept | apply State.setTbFreq_kept | apply State.setTbState_kept
      | apply State.setChOk_kept | apply State.setFld_kept | apply State.setFlag_kept | apply State.onTime_kept | apply State.emit_kept
      | apply State.lower_kept | apply State.syncRclk_kept | apply kept_ite | assumption)
    | (intro u x hu) | (intro u hu) | extract_lets | split | dsimp only | dsimp +zetaDelta only)
theorem State.doPpsOutEdge_kept {z : State} (s : State) (hz : Kept z s) : Kept z (State.doPpsOutEdge s) := by
  unfold State.doPpsOutEdge
  repeat' (first
    | (with_reducible first
      | exact hz | apply State.onTime_kept | apply State.emit_kept | apply kept_ite | assumption)
    | (intro u x hu) | (intro u hu) | extract_lets | split | dsimp only | dsimp +zetaDelta only)
theorem State.doPpsOutPulseEnd_kept {z : State} (s : State) (hz : Kept z s) : Kept z (State.doPpsOutPulseEnd s) := by
  unfold State.doPpsOutPulseEnd
  repeat' (first
    | (with_reducible first
      | exact hz | apply State.onTime_kept | apply State.emit_kept | apply kept_ite | assumption)
    | (intro u x hu) | (intro u hu) | extract_lets | split | dsimp only | dsimp +zetaDelta only)
theorem State.doPpsInEdge_kept {z : State} (s : State) (hz : Kept z s) : Kept z (State.doPpsInEdge s) := by
  unfold State.doPpsInEdge
  repeat' (first
    | (with_reducible first
      | exact hz | apply State.onTime_kept | apply State.lower_kept | apply State.fifoPush_kept | apply State.doTbOffset_kept
      | apply kept_ite | assumption)
    | (intro u x hu) | (intro u hu) | extract_lets | split | dsimp only | dsimp +zetaDelta only)
theorem State.doPpsInTimeout_kept {z : State} (s : State) (hz : Kept z s) : Kept z (State.doPpsInTimeout s) := by
  unfold State.doPpsInTimeout
  repeat' (first
    | (with_reducible first
      | exact hz | apply State.raiseLive_kept | apply kept_ite | assumption)
    | extract_lets | (split <;> (rename_i q; with_reducible refine kept_of_pair q ?_ (fun hu => ?_)))
    | (split <;> (rename_i q; with_reducible refine kept_of_pair2 q ?_ (fun hu => ?_))) | split | dsimp only | dsimp +zetaDelta only)
theorem State.doFrefAbsent_kept {z : State} (s : State) (hz : Kept z s) : Kept z (State.doFrefAbsent s) := by
  unfold State.doFrefAbsent
  repeat' (first
    | (with_reducible first
      | exact hz | apply State.setFlag_kept | apply State.raiseLive_kept | apply kept_ite | assumption)
    | extract_lets | split | dsimp only | dsimp +zetaDelta only)
theorem State.doFrefPresent_kept {z : State} (s : State) (hz : Kept z s) : Kept z (State.doFrefPresent s) := by
  unfold State.doFrefPresent
  repeat' (first
    | (with_reducible first
      | exact hz | apply State.setFlag_kept | apply State.lower_kept | apply kept_ite | assumption)
    | extract_lets | split | dsimp only | dsimp +zetaDelta only)
theorem State.doTodTxWrite_kept {z : State} (s : State) (b : Byte) (hz : Kept z s) : Kept z (State.doTodTxWrite s b) := by
  unfold State.doTodTxWrite
  repeat' (first
    | (with_reducible first
      | exact hz | apply State.timeRefused_kept | apply State.onTime_kept | apply kept_ite | assumption)
    | (intro u x hu) | (intro u hu) | extract_lets | split | dsimp only | dsimp +zetaDelta only)
theorem State.doTodTxSend_kept {z : State} (s : State) (hz : Kept z s) : Kept z (State.doTodTxSend s) := by
  unfold State.doTodTxSend
  repeat' (first
    | (with_reducible first
      | exact hz | apply State.emit_kept | apply State.onTime_kept | apply kept_ite | refine kept_foldl ?_ ?_
      | refine kept_foldl1 ?_ ?_ | assumption)
    | (intro u x hu) | (intro u hu) | extract_lets | (split <;> (rename_i q; with_reducible refine kept_of_pair q ?_ (fun hu => ?_)))
    | (split <;> (rename_i q; with_reducible refine kept_of_pair2 q ?_ (fun hu => ?_))) | split | dsimp only | dsimp +zetaDelta only)
theorem State.doTodRxByte_kept {z : State} (s : State) (b : Byte) (hz : Kept z s) : Kept z (State.doTodRxByte s b) := by
  unfold State.doTodRxByte
  repeat' (first
    | (with_reducible first
      | exact hz | apply State.onTime_kept | apply State.raise_kept | apply kept_ite | assumption)
    | (intro u x hu) | (intro u hu) | extract_lets | split | dsimp only | dsimp +zetaDelta only)
theorem State.doTodRxRead_kept {z : State} (s : State) (hz : Kept z s) : Kept z (State.doTodRxRead s) := by
  unfold State.doTodRxRead
  repeat' (first
    | (with_reducible first
      | exact hz | apply State.onTime_kept | apply State.setFld_kept | apply State.setFlag_kept | assumption)
    | (intro u x hu) | (intro u hu) | extract_lets | (split <;> (rename_i q; with_reducible refine kept_of_pair q ?_ (fun hu => ?_)))
    | (split <;> (rename_i q; with_reducible refine kept_of_pair2 q ?_ (fun hu => ?_))) | split | dsimp only | dsimp +zetaDelta only)
theorem State.doArrSel_kept {z : State} (s : State) (p : Nat) (hz : Kept z s) : Kept z (State.doArrSel s p) := by
  unfold State.doArrSel
  repeat' (first
    | (with_reducible first
      | exact hz | apply State.timeRefused_kept | apply State.setFld_kept | apply State.setCtr_kept | assumption)
    | extract_lets | (split <;> (rename_i q; with_reducible refine kept_of_pair q ?_ (fun hu => ?_)))
    | (split <;> (rename_i q; with_reducible refine kept_of_pair2 q ?_ (fun hu => ?_))) | split | dsimp only | dsimp +zetaDelta only)
theorem State.doArrivalWakeWindowClose_kept {z : State} (s : State) (p : Nat) (hz : Kept z s) : Kept z (State.doArrivalWakeWindowClose s
    p) := by
  unfold State.doArrivalWakeWindowClose
  repeat' (first
    | (with_reducible first
      | exact hz | apply State.setGate_kept | apply kept_ite | assumption)
    | extract_lets | (split <;> (rename_i q; with_reducible refine kept_of_pair q ?_ (fun hu => ?_)))
    | (split <;> (rename_i q; with_reducible refine kept_of_pair2 q ?_ (fun hu => ?_))) | split | dsimp only | dsimp +zetaDelta only)

/-! ### Machine/Cluster.lean -/

theorem State.onCluster_kept {z : State} (s : State) (c : Nat) (f : ClusterSt → ClusterSt) (hz : Kept z s) : Kept z (State.onCluster s c
    f) := by
  unfold State.onCluster
  repeat' (first
    | (with_reducible first
      | exact hz | refine State.onSvc_kept ?_ rfl | assumption)
    | (intro u x hu) | (intro u hu) | extract_lets | dsimp only | dsimp +zetaDelta only)
theorem State.setRole_kept {z : State} (s : State) (c r : Nat) (hz : Kept z s) : Kept z (State.setRole s c r) := by
  unfold State.setRole
  repeat' (first
    | (with_reducible first
      | exact hz | apply State.setFld_kept | assumption)
    | extract_lets | dsimp only | dsimp +zetaDelta only)
theorem State.setCause_kept {z : State} (s : State) (c r : Nat) (hz : Kept z s) : Kept z (State.setCause s c r) := by
  unfold State.setCause
  repeat' (first
    | (with_reducible first
      | exact hz | apply State.setFld_kept | assumption)
    | extract_lets | dsimp only | dsimp +zetaDelta only)
theorem State.setClWord_kept {z : State} (s : State) (c pair off : Nat) (v : Word) (hz : Kept z s) : Kept z (State.setClWord s c pair off
    v) := by
  unfold State.setClWord
  repeat' (first
    | (with_reducible first
      | exact hz | apply State.onCluster_kept | assumption)
    | (intro u x hu) | (intro u hu) | extract_lets | dsimp only | dsimp +zetaDelta only)
theorem State.denyCapture_kept {z : State} (s : State) (page off cause : Nat) (hz : Kept z s) : Kept z (State.denyCapture s page off
    cause) := by
  unfold State.denyCapture
  repeat' (first
    | (with_reducible first
      | exact hz | apply State.setFld_kept | apply State.setFlag_kept | assumption)
    | extract_lets | dsimp only | dsimp +zetaDelta only)
theorem State.fwDenied_kept {z : State} (s : State) (c page off cause code : Nat) (hz : Kept z s) : Kept z (State.fwDenied s c page off
    cause code) := by
  unfold State.fwDenied
  repeat' (first
    | (with_reducible first
      | exact hz | apply State.count_kept | apply State.denyCapture_kept | apply State.raise_kept | apply State.emit_kept | assumption)
    | extract_lets | dsimp only | dsimp +zetaDelta only)
theorem State.fwGated_kept {z : State} (s : State) (c page off : Nat) (hz : Kept z s) : Kept z (State.fwGated s c page off) := by
  unfold State.fwGated
  repeat' (first
    | (with_reducible first
      | exact hz | apply State.count_kept | apply State.denyCapture_kept | apply State.emit_kept | assumption)
    | extract_lets | dsimp only | dsimp +zetaDelta only)
theorem State.clusterOut_kept {z : State} (s : State) (c page off : Nat) (run : State → State) (hz : Kept z s) (hr : ∀ u, Kept z u → Kept
    z (run u)) : Kept z (State.clusterOut s c page off run) := by
  unfold State.clusterOut
  repeat' (first
    | (with_reducible first
      | exact hz | apply hr | apply State.fwGated_kept | apply kept_ite | assumption)
    | extract_lets | split | dsimp only | dsimp +zetaDelta only)
theorem State.doFirmwareHostPageRead_kept {z : State} (s : State) (c page off : Nat) (hz : Kept z s) : Kept z
    (State.doFirmwareHostPageRead s c page off) := by
  unfold State.doFirmwareHostPageRead
  repeat' (first
    | (with_reducible first
      | exact hz | apply State.fwDenied_kept | apply kept_ite | assumption)
    | extract_lets | (split <;> (rename_i q; with_reducible refine kept_of_pair q ?_ (fun hu => ?_)))
    | (split <;> (rename_i q; with_reducible refine kept_of_pair2 q ?_ (fun hu => ?_))) | split | dsimp only | dsimp +zetaDelta only)
theorem State.applyLeaseCfg_kept {z : State} (s : State) (hz : Kept z s) : Kept z (State.applyLeaseCfg s) := by
  unfold State.applyLeaseCfg
  extract_lets a
  split
  · next e _ => exact kept_ite hz (kept_same (State.wr_kept (a := a) (v := e.2) hz) rfl)
  · exact hz
theorem State.poolReclaim_kept {z : State} (s : State) (hz : Kept z s) : Kept z (State.poolReclaim s) := by
  unfold State.poolReclaim
  repeat' (first
    | (with_reducible first
      | exact hz | refine State.each_kept ?_ ?_ | apply State.bufRelease_kept | apply State.count_kept | refine State.onSvc_kept ?_ rfl
      | assumption)
    | (intro u x hu) | (intro u hu) | extract_lets | (split <;> (rename_i q; with_reducible refine kept_of_pair q ?_ (fun hu => ?_)))
    | (split <;> (rename_i q; with_reducible refine kept_of_pair2 q ?_ (fun hu => ?_))) | split | dsimp only | dsimp +zetaDelta only)
theorem State.nvCkptCopyStart_kept {z : State} (s : State) (k : Ckpt) (hz : Kept z s) : Kept z (State.nvCkptCopyStart s k) := by
  unfold State.nvCkptCopyStart
  repeat' (first
    | (with_reducible first
      | exact hz | refine State.onNv_kept ?_ ⟨rfl, rfl, rfl, rfl⟩ | apply kept_ite | assumption)
    | (intro u x hu) | (intro u hu) | extract_lets | split | dsimp only | dsimp +zetaDelta only)
theorem State.stallsEnd_kept {z : State} (s : State) (c : Nat) (hz : Kept z s) : Kept z (State.stallsEnd s c) := by
  unfold State.stallsEnd
  repeat' (first
    | (with_reducible first
      | exact hz | refine State.onSvc_kept ?_ rfl | apply State.setClWord_kept | apply State.emit_kept | refine State.each_kept ?_ ?_
      | apply State.fwGated_kept | apply kept_ite | refine kept_foldl ?_ ?_ | refine kept_foldl1 ?_ ?_ | assumption)
    | (intro u x hu) | (intro u hu) | extract_lets | split | dsimp only | dsimp +zetaDelta only)
theorem State.leaseEnd_kept {z : State} (s : State) (at_ : Nat) (from_ : Nat) (hz : Kept z s) : Kept z (State.leaseEnd s at_ from_) := by
  unfold State.leaseEnd
  repeat' (first
    | (with_reducible first
      | exact hz | refine State.each_kept ?_ ?_ | apply State.setInjQ_kept | apply State.setClWord_kept | apply State.count_kept
      | apply State.stallsEnd_kept | apply State.onLease_kept | refine State.onSvc_kept ?_ rfl | apply State.setFlag_kept
      | apply State.poolReclaim_kept | apply State.raise_kept | apply State.journalNote_kept | apply State.applyLeaseCfg_kept
      | apply kept_ite | assumption)
    | (intro u x hu) | (intro u hu) | extract_lets | (split <;> (rename_i q; with_reducible refine kept_of_pair q ?_ (fun hu => ?_)))
    | (split <;> (rename_i q; with_reducible refine kept_of_pair2 q ?_ (fun hu => ?_))) | split | dsimp only | dsimp +zetaDelta only)
theorem State.leaseRevoke_kept {z : State} (s : State) (cause : Nat) (hz : Kept z s) : Kept z (State.leaseRevoke s cause) := by
  unfold State.leaseRevoke
  repeat' (first
    | (with_reducible first
      | exact hz | apply State.leaseEnd_kept | refine State.onSvc_kept ?_ rfl | apply State.setRole_kept | apply State.setCause_kept
      | apply kept_ite | assumption)
    | (intro u x hu) | (intro u hu) | extract_lets | (split <;> (rename_i q; with_reducible refine kept_of_pair q ?_ (fun hu => ?_)))
    | (split <;> (rename_i q; with_reducible refine kept_of_pair2 q ?_ (fun hu => ?_))) | split | dsimp only | dsimp +zetaDelta only)
theorem State.leaseResult_kept {z : State} (s : State) (c : Nat) (ok : Bool) (hz : Kept z s) : Kept z (State.leaseResult s c ok) := by
  unfold State.leaseResult
  repeat' (first
    | (with_reducible first
      | exact hz | apply State.setClWord_kept | apply kept_ite | assumption)
    | extract_lets | split | dsimp only | dsimp +zetaDelta only)
theorem State.leaseOp_kept {z : State} (s : State) (c : Nat) (ok : Bool) (run : State → State) (hz : Kept z s) (hr : ∀ u, Kept z u → Kept
    z (run u)) : Kept z (State.leaseOp s c ok run) := by
  unfold State.leaseOp
  repeat' (first
    | (with_reducible first
      | exact hz | apply hr | apply State.leaseResult_kept | apply State.applyLeaseCfg_kept | apply kept_ite | assumption)
    | extract_lets | split | dsimp only | dsimp +zetaDelta only)
theorem State.doLeaseRenew_kept {z : State} (s : State) (c epoch : Nat) (hz : Kept z s) : Kept z (State.doLeaseRenew s c epoch) := by
  unfold State.doLeaseRenew
  repeat' (first
    | (with_reducible first
      | exact hz | apply State.applyLeaseCfg_kept | apply State.leaseOp_kept | apply State.onLease_kept | assumption)
    | (intro u x hu) | (intro u hu) | extract_lets | dsimp only | dsimp +zetaDelta only)
theorem State.restoreStart_kept {z : State} (s : State) (hz : Kept z s) : Kept z (State.restoreStart s) := by
  unfold State.restoreStart
  repeat' (first
    | (with_reducible first
      | exact hz | refine State.onSvc_kept ?_ rfl | apply State.setFlag_kept | apply State.raise_kept | assumption)
    | (intro u x hu) | (intro u hu) | extract_lets | (split <;> (rename_i q; with_reducible refine kept_of_pair q ?_ (fun hu => ?_)))
    | (split <;> (rename_i q; with_reducible refine kept_of_pair2 q ?_ (fun hu => ?_))) | split | dsimp only | dsimp +zetaDelta only)
theorem State.doLeaseClaim_kept {z : State} (s : State) (c : Nat) (hz : Kept z s) : Kept z (State.doLeaseClaim s c) := by
  unfold State.doLeaseClaim
  repeat' (first
    | (with_reducible first
      | exact hz | apply State.leaseOp_kept | apply State.setRole_kept | apply State.onCluster_kept | apply State.onLease_kept
      | apply State.applyLeaseCfg_kept | apply State.setCause_kept | apply State.count_kept | refine State.onSvc_kept ?_ rfl
      | apply State.raise_kept | apply State.journalNote_kept | apply State.restoreStart_kept | apply kept_ite | assumption)
    | (intro u x hu) | (intro u hu) | extract_lets | (split <;> (rename_i q; with_reducible refine kept_of_pair q ?_ (fun hu => ?_)))
    | (split <;> (rename_i q; with_reducible refine kept_of_pair2 q ?_ (fun hu => ?_))) | split | dsimp only | dsimp +zetaDelta only)
theorem State.doLeaseRelease_kept {z : State} (s : State) (c epoch : Nat) (hz : Kept z s) : Kept z (State.doLeaseRelease s c epoch) := by
  unfold State.doLeaseRelease
  repeat' (first
    | (with_reducible first
      | exact hz | apply State.leaseOp_kept | apply State.leaseEnd_kept | apply State.setRole_kept | apply State.onCluster_kept
      | apply State.nvCkptCopyStart_kept | assumption)
    | (intro u x hu) | (intro u hu) | extract_lets | (split <;> (rename_i q; with_reducible refine kept_of_pair q ?_ (fun hu => ?_)))
    | (split <;> (rename_i q; with_reducible refine kept_of_pair2 q ?_ (fun hu => ?_))) | split | dsimp only | dsimp +zetaDelta only)
theorem State.doLeaseReady_kept {z : State} (s : State) (c epoch : Nat) (hz : Kept z s) : Kept z (State.doLeaseReady s c epoch) := by
  unfold State.doLeaseReady
  repeat' (first
    | (with_reducible first
      | exact hz | apply State.leaseOp_kept | apply State.setRole_kept | apply State.setFld_kept | apply kept_ite | assumption)
    | (intro u x hu) | (intro u hu) | extract_lets | split | dsimp only | dsimp +zetaDelta only)
theorem State.doLeaseExpire_kept {z : State} (s : State) (hz : Kept z s) : Kept z (State.doLeaseExpire s) := by
  unfold State.doLeaseExpire
  repeat' (first
    | (with_reducible first
      | exact hz | apply State.leaseEnd_kept | refine State.onSvc_kept ?_ rfl | apply State.setRole_kept | apply State.setCause_kept
      | apply kept_ite | assumption)
    | (intro u x hu) | (intro u hu) | extract_lets | (split <;> (rename_i q; with_reducible refine kept_of_pair q ?_ (fun hu => ?_)))
    | (split <;> (rename_i q; with_reducible refine kept_of_pair2 q ?_ (fun hu => ?_))) | split | dsimp only | dsimp +zetaDelta only)
theorem State.doLeaseGuardEnd_kept {z : State} (s : State) (hz : Kept z s) : Kept z (State.doLeaseGuardEnd s) := by
  unfold State.doLeaseGuardEnd
  repeat' (first
    | (with_reducible first
      | exact hz | apply State.onLease_kept | refine State.each_kept ?_ ?_ | apply State.onCluster_kept | apply kept_ite | assumption)
    | (intro u x hu) | (intro u hu) | extract_lets | (split <;> (rename_i q; with_reducible refine kept_of_pair q ?_ (fun hu => ?_)))
    | (split <;> (rename_i q; with_reducible refine kept_of_pair2 q ?_ (fun hu => ?_))) | split | dsimp only | dsimp +zetaDelta only)
theorem State.doLeaseRevoke_kept {z : State} (s : State) (hz : Kept z s) : Kept z (State.doLeaseRevoke s) := by
  unfold State.doLeaseRevoke
  repeat' (first
    | (with_reducible first
      | exact hz | apply State.leaseRevoke_kept | apply State.setFlag_kept | assumption)
    | extract_lets | dsimp only | dsimp +zetaDelta only)
theorem State.doLeaseSetNext_kept {z : State} (s : State) (n : Nat) (hz : Kept z s) : Kept z (State.doLeaseSetNext s n) := by
  unfold State.doLeaseSetNext
  repeat' (first
    | (with_reducible first
      | exact hz | apply State.setFlag_kept | apply State.onLease_kept | apply kept_ite | assumption)
    | (intro u x hu) | (intro u hu) | extract_lets | split | dsimp only | dsimp +zetaDelta only)
theorem State.setNvSlot_kept {z : State} (s : State) (k : Nat) (x : NvSlot) (hz : Kept z s) : Kept z (State.setNvSlot s k x) := by
  unfold State.setNvSlot
  repeat' (first
    | (with_reducible first
      | exact hz | refine State.onNv_kept ?_ ⟨rfl, rfl, rfl, rfl⟩ | apply State.setFld_kept | assumption)
    | (intro u x hu) | (intro u hu) | extract_lets | dsimp only | dsimp +zetaDelta only)
theorem State.setSlotState_kept {z : State} (s : State) (k st : Nat) (hz : Kept z s) : Kept z (State.setSlotState s k st) := by
  unfold State.setSlotState
  repeat' (first
    | (with_reducible first
      | exact hz | apply State.setNvSlot_kept | apply State.journalNote_kept | assumption)
    | extract_lets | dsimp only | dsimp +zetaDelta only)
theorem State.trialFail_kept {z : State} (s : State) (hz : Kept z s) : Kept z (State.trialFail s) := by
  unfold State.trialFail
  repeat' (first
    | (with_reducible first
      | exact hz | apply State.onBoot_kept | apply State.setSlotState_kept | apply State.raise_kept | assumption)
    | (intro u x hu) | (intro u hu) | extract_lets | (split <;> (rename_i q; with_reducible refine kept_of_pair q ?_ (fun hu => ?_)))
    | (split <;> (rename_i q; with_reducible refine kept_of_pair2 q ?_ (fun hu => ?_))) | split | dsimp only | dsimp +zetaDelta only)
theorem State.clusterFault_kept {z : State} (s : State) (c cause src : Nat) (hz : Kept z s) : Kept z (State.clusterFault s c cause src)
    := by
  unfold State.clusterFault
  repeat' (first
    | (with_reducible first
      | exact hz | apply State.onCluster_kept | apply State.leaseRevoke_kept | apply State.setRole_kept | apply State.setCause_kept
      | apply State.raise_kept | apply State.trialFail_kept | apply kept_ite | assumption)
    | (intro u x hu) | (intro u hu) | extract_lets | split | dsimp only | dsimp +zetaDelta only)
theorem State.doLockstepMismatch_kept {z : State} (s : State) (c pair : Nat) (hz : Kept z s) : Kept z (State.doLockstepMismatch s c pair)
    := by
  unfold State.doLockstepMismatch
  repeat' (first
    | (with_reducible first
      | exact hz | apply State.setFld_kept | apply State.clusterFault_kept | apply kept_ite | assumption)
    | extract_lets | split | dsimp only | dsimp +zetaDelta only)
theorem State.doSramEccError_kept {z : State} (s : State) (c : Nat) (uncorrectable : Bool) (hz : Kept z s) : Kept z (State.doSramEccError
    s c uncorrectable) := by
  unfold State.doSramEccError
  repeat' (first
    | (with_reducible first
      | exact hz | apply State.clusterFault_kept | apply State.setFld_kept | apply State.raise_kept | apply kept_ite | assumption)
    | extract_lets | split | dsimp only | dsimp +zetaDelta only)
theorem State.standbyReady_kept {z : State} (s : State) (c : Nat) (hz : Kept z s) : Kept z (State.standbyReady s c) := by
  unfold State.standbyReady
  repeat' (first
    | (with_reducible first
      | exact hz | apply State.setRole_kept | apply State.setCause_kept | apply State.onCluster_kept | refine State.onSvc_kept ?_ rfl
      | apply kept_ite | assumption)
    | (intro u x hu) | (intro u hu) | extract_lets | split | dsimp only | dsimp +zetaDelta only)
theorem State.doClusterSelftestDone_kept {z : State} (s : State) (c : Nat) (ok : Bool) (hz : Kept z s) : Kept z
    (State.doClusterSelftestDone s c ok) := by
  unfold State.doClusterSelftestDone
  repeat' (first
    | (with_reducible first
      | exact hz | apply State.setRole_kept | apply State.setCause_kept | apply State.raise_kept | apply kept_ite | assumption)
    | extract_lets | split | dsimp only | dsimp +zetaDelta only)
theorem State.doClusterLoadDone_kept {z : State} (s : State) (c : Nat) (ok : Bool) (hz : Kept z s) : Kept z (State.doClusterLoadDone s c
    ok) := by
  unfold State.doClusterLoadDone
  repeat' (first
    | (with_reducible first
      | exact hz | apply State.standbyReady_kept | apply State.setRole_kept | apply State.setCause_kept | apply State.raise_kept
      | apply kept_ite | assumption)
    | extract_lets | split | dsimp only | dsimp +zetaDelta only)
theorem refusedSvcc_kept {z : State} (s : State) (b : Bool) (hz : Kept z s) : Kept z (refusedSvcc s b) := by
  unfold refusedSvcc
  repeat' (first
    | (with_reducible first
      | exact hz | apply State.setFlag_kept | assumption)
    | extract_lets | dsimp only | dsimp +zetaDelta only)
theorem State.doCkptCmd_kept {z : State} (s : State) (c : Nat) (hz : Kept z s) : Kept z (State.doCkptCmd s c) := by
  unfold State.doCkptCmd
  repeat' (first
    | (with_reducible first
      | exact hz | apply State.clusterOut_kept | apply State.emit_kept | refine State.onSvc_kept ?_ rfl | apply State.onCluster_kept
      | apply State.setFlag_kept | apply kept_ite | assumption)
    | (intro u x hu) | (intro u hu) | extract_lets | split | dsimp only | dsimp +zetaDelta only)
theorem State.doCkptMark_kept {z : State} (s : State) (c page : Nat) (set : Bool) (hz : Kept z s) : Kept z (State.doCkptMark s c page
    set) := by
  unfold State.doCkptMark
  repeat' (first
    | (with_reducible first
      | exact hz | apply State.clusterOut_kept | apply State.onCluster_kept | apply refusedSvcc_kept | apply kept_ite | assumption)
    | (intro u x hu) | (intro u hu) | extract_lets | split | dsimp only | dsimp +zetaDelta only)
theorem State.doCkptCommit_kept {z : State} (s : State) (hz : Kept z s) : Kept z (State.doCkptCommit s) := by
  unfold State.doCkptCommit
  repeat' (first
    | (with_reducible first
      | exact hz | refine State.onSvc_kept ?_ rfl | apply State.setFld_kept | apply State.setFlag_kept
      | apply State.nvCkptCopyStart_kept | apply kept_ite | assumption)
    | (intro u x hu) | (intro u hu) | extract_lets | (split <;> (rename_i q; with_reducible refine kept_of_pair q ?_ (fun hu => ?_)))
    | (split <;> (rename_i q; with_reducible refine kept_of_pair2 q ?_ (fun hu => ?_))) | split | dsimp only | dsimp +zetaDelta only)
theorem State.doCkptStale_kept {z : State} (s : State) (hz : Kept z s) : Kept z (State.doCkptStale s) := by
  unfold State.doCkptStale
  repeat' (first
    | (with_reducible first
      | exact hz | apply State.raise_kept | apply kept_ite | assumption)
    | extract_lets | split | dsimp only | dsimp +zetaDelta only)
theorem State.doCheckpointRestoreDone_kept {z : State} (s : State) (hz : Kept z s) : Kept z (State.doCheckpointRestoreDone s) := by
  unfold State.doCheckpointRestoreDone
  repeat' (first
    | (with_reducible first
      | exact hz | refine State.onSvc_kept ?_ rfl | apply State.setFlag_kept | apply State.onCluster_kept | apply kept_ite
      | refine kept_foldl ?_ ?_ | refine kept_foldl1 ?_ ?_ | assumption)
    | (intro u x hu) | (intro u hu) | extract_lets | (split <;> (rename_i q; with_reducible refine kept_of_pair q ?_ (fun hu => ?_)))
    | (split <;> (rename_i q; with_reducible refine kept_of_pair2 q ?_ (fun hu => ?_))) | split | dsimp only | dsimp +zetaDelta only)
theorem State.doClusterWindowAccess_kept {z : State} (s : State) (c addr : Nat) (st : Option Byte) (hz : Kept z s) : Kept z
    (State.doClusterWindowAccess s c addr st) := by
  unfold State.doClusterWindowAccess
  repeat' (first
    | (with_reducible first
      | exact hz | apply State.fresh_kept | apply State.fwDenied_kept | apply State.count_kept | apply State.emit_kept
      | apply State.raise_kept | apply State.perfHit_kept | apply State.onCluster_kept | apply kept_ite | assumption)
    | (intro u x hu) | (intro u hu) | extract_lets | (split <;> (rename_i q; with_reducible refine kept_of_pair q ?_ (fun hu => ?_)))
    | (split <;> (rename_i q; with_reducible refine kept_of_pair2 q ?_ (fun hu => ?_))) | split | dsimp only | dsimp +zetaDelta only)
theorem State.doSwapDue_kept {z : State} (s : State) (hz : Kept z s) : Kept z (State.doSwapDue s) := by
  unfold State.doSwapDue
  repeat' (first
    | (with_reducible first
      | exact hz | refine State.onSvc_kept ?_ rfl | apply State.raise_kept | apply kept_ite | assumption)
    | (intro u x hu) | (intro u hu) | extract_lets | (split <;> (rename_i q; with_reducible refine kept_of_pair q ?_ (fun hu => ?_)))
    | (split <;> (rename_i q; with_reducible refine kept_of_pair2 q ?_ (fun hu => ?_))) | split | dsimp only | dsimp +zetaDelta only)
theorem State.doSwapWindowExpire_kept {z : State} (s : State) (hz : Kept z s) : Kept z (State.doSwapWindowExpire s) := by
  unfold State.doSwapWindowExpire
  repeat' (first
    | (with_reducible first
      | exact hz | apply State.leaseRevoke_kept | apply State.setRole_kept | apply State.setCause_kept | apply State.raise_kept
      | apply State.count_kept | apply kept_ite | assumption)
    | extract_lets | (split <;> (rename_i q; with_reducible refine kept_of_pair q ?_ (fun hu => ?_)))
    | (split <;> (rename_i q; with_reducible refine kept_of_pair2 q ?_ (fun hu => ?_))) | split | dsimp only | dsimp +zetaDelta only)

/-! ### Machine/Twin.lean -/

theorem State.parkNow_kept {z : State} (s : State) (p : Nat) (hz : Kept z s) : Kept z (State.parkNow s p) := by
  unfold State.parkNow
  repeat' (first
    | (with_reducible first
      | exact hz | apply State.parkSubs_kept | apply State.darkDiscard_kept | apply kept_ite | assumption)
    | (intro u x hu) | (intro u hu) | extract_lets | split | dsimp only | dsimp +zetaDelta only)
theorem State.unparkShared_kept {z : State} (s : State) (p : Nat) (hz : Kept z s) : Kept z (State.unparkShared s p) := by
  unfold State.unparkShared
  repeat' (first
    | (with_reducible first
      | exact hz | apply State.unpark_kept | refine State.each_kept ?_ ?_ | apply State.kick_kept | apply kept_ite | assumption)
    | (intro u x hu) | (intro u hu) | extract_lets | split | dsimp only | dsimp +zetaDelta only)
theorem State.setHoldOut_kept {z : State} (s : State) (b : Bool) (hz : Kept z s) : Kept z (State.setHoldOut s b) := by
  unfold State.setHoldOut
  repeat' (first
    | (with_reducible first
      | exact hz | apply State.onTwin_kept | apply State.emit_kept | apply kept_ite | assumption)
    | (intro u x hu) | (intro u hu) | extract_lets | split | dsimp only | dsimp +zetaDelta only)
theorem State.setTwinRole_kept {z : State} (s : State) (r : Nat) (hz : Kept z s) : Kept z (State.setTwinRole s r) := by
  unfold State.setTwinRole
  repeat' (first
    | (with_reducible first
      | exact hz | apply State.onTwin_kept | refine State.each_kept ?_ ?_ | apply State.parkNow_kept | apply State.unparkShared_kept
      | apply State.count_kept | apply State.raise_kept | apply kept_ite | assumption)
    | (intro u x hu) | (intro u hu) | extract_lets | split | dsimp only | dsimp +zetaDelta only)
theorem State.twinListen_kept {z : State} (s : State) (hz : Kept z s) : Kept z (State.twinListen s) := by
  unfold State.twinListen
  repeat' (first
    | (with_reducible first
      | exact hz | apply State.setTwinRole_kept | apply State.onTwin_kept | assumption)
    | (intro u x hu) | (intro u hu) | extract_lets | dsimp only | dsimp +zetaDelta only)
theorem State.twinActive_kept {z : State} (s : State) (hz : Kept z s) : Kept z (State.twinActive s) := by
  unfold State.twinActive
  repeat' (first
    | (with_reducible first
      | exact hz | apply State.setTwinRole_kept | apply State.onTwin_kept | assumption)
    | (intro u x hu) | (intro u hu) | extract_lets | dsimp only | dsimp +zetaDelta only)
theorem State.twinGiveUp_kept {z : State} (s : State) (next : Nat) (hz : Kept z s) : Kept z (State.twinGiveUp s next) := by
  unfold State.twinGiveUp
  repeat' (first
    | (with_reducible first
      | exact hz | apply State.twinListen_kept | apply State.setTwinRole_kept | apply State.onTwin_kept | apply kept_ite | assumption)
    | (intro u x hu) | (intro u hu) | extract_lets | split | dsimp only | dsimp +zetaDelta only)
theorem State.twinStop_kept {z : State} (s : State) (hz : Kept z s) : Kept z (State.twinStop s) := by
  unfold State.twinStop
  repeat' (first
    | (with_reducible first
      | exact hz | apply State.setTwinRole_kept | apply State.setHoldOut_kept | apply State.onTwin_kept | apply kept_ite | assumption)
    | (intro u x hu) | (intro u hu) | extract_lets | split | dsimp only | dsimp +zetaDelta only)
theorem State.twinSettle_kept {z : State} (s : State) (hz : Kept z s) : Kept z (State.twinSettle s) := by
  unfold State.twinSettle
  repeat' (first
    | (with_reducible first
      | exact hz | apply State.setHoldOut_kept | apply State.onTwin_kept | apply State.setTwinRole_kept | apply State.twinListen_kept
      | refine State.each_kept ?_ ?_ | apply State.parkNow_kept | apply State.unparkShared_kept | apply kept_ite | assumption)
    | (intro u x hu) | (intro u hu) | extract_lets | split | dsimp only | dsimp +zetaDelta only)
theorem State.twinRenewed_kept {z : State} (s : State) (peerId peerPrio : Nat) (hz : Kept z s) : Kept z (State.twinRenewed s peerId
    peerPrio) := by
  unfold State.twinRenewed
  repeat' (first
    | (with_reducible first
      | exact hz | apply State.onTwin_kept | apply State.emit_kept | apply State.count_kept | apply State.raise_kept
      | apply State.setTwinRole_kept | apply kept_ite | assumption)
    | (intro u x hu) | (intro u hu) | extract_lets | (split <;> (rename_i q; with_reducible refine kept_of_pair q ?_ (fun hu => ?_)))
    | (split <;> (rename_i q; with_reducible refine kept_of_pair2 q ?_ (fun hu => ?_))) | split | dsimp only | dsimp +zetaDelta only)
theorem State.doTwinFrameReceive_kept {z : State} (s : State) (b : List Byte) (hz : Kept z s) : Kept z (State.doTwinFrameReceive s b) :=
    by
  unfold State.doTwinFrameReceive
  repeat' (first
    | (with_reducible first
      | exact hz | apply State.count_kept | apply State.onTwin_kept | apply State.setFld_kept | apply State.lower_kept
      | apply State.raise_kept | apply State.twinRenewed_kept | apply kept_ite | assumption | apply kept_id)
    | (intro u x hu) | (intro u hu) | extract_lets | (split <;> (rename_i q; with_reducible refine kept_of_pair q ?_ (fun hu => ?_)))
    | (split <;> (rename_i q; with_reducible refine kept_of_pair2 q ?_ (fun hu => ?_))) | split | dsimp only | dsimp +zetaDelta only)
theorem State.doTwinStatusSend_kept {z : State} (s : State) (hz : Kept z s) : Kept z (State.doTwinStatusSend s) := by
  unfold State.doTwinStatusSend
  repeat' (first
    | (with_reducible first
      | exact hz | apply State.onTwin_kept | apply State.emit_kept | apply kept_ite | assumption)
    | (intro u x hu) | (intro u hu) | extract_lets | split | dsimp only | dsimp +zetaDelta only)
theorem State.doTwinRenewSend_kept {z : State} (s : State) (hz : Kept z s) : Kept z (State.doTwinRenewSend s) := by
  unfold State.doTwinRenewSend
  repeat' (first
    | (with_reducible first
      | exact hz | apply State.onTwin_kept | apply State.emit_kept | apply kept_ite | assumption)
    | (intro u x hu) | (intro u hu) | extract_lets | split | dsimp only | dsimp +zetaDelta only)
theorem State.doTwinExpiry_kept {z : State} (s : State) (hz : Kept z s) : Kept z (State.doTwinExpiry s) := by
  unfold State.doTwinExpiry
  repeat' (first
    | (with_reducible first
      | exact hz | apply State.twinGiveUp_kept | apply kept_ite | assumption)
    | extract_lets | split | dsimp only | dsimp +zetaDelta only)
theorem State.doTwinStandbyTakeover_kept {z : State} (s : State) (hz : Kept z s) : Kept z (State.doTwinStandbyTakeover s) := by
  unfold State.doTwinStandbyTakeover
  repeat' (first
    | (with_reducible first
      | exact hz | apply State.twinActive_kept | apply kept_ite | assumption)
    | extract_lets | split | dsimp only | dsimp +zetaDelta only)
theorem State.doTwinLinkLost_kept {z : State} (s : State) (hz : Kept z s) : Kept z (State.doTwinLinkLost s) := by
  unfold State.doTwinLinkLost
  repeat' (first
    | (with_reducible first
      | exact hz | apply State.onTwin_kept | apply State.raiseLive_kept | apply kept_ite | assumption)
    | (intro u x hu) | (intro u hu) | extract_lets | split | dsimp only | dsimp +zetaDelta only)
theorem State.doTwinListenEnd_kept {z : State} (s : State) (hz : Kept z s) : Kept z (State.doTwinListenEnd s) := by
  unfold State.doTwinListenEnd
  repeat' (first
    | (with_reducible first
      | exact hz | apply State.onTwin_kept | apply State.twinActive_kept | apply State.setHoldOut_kept | apply kept_ite | assumption)
    | (intro u x hu) | (intro u hu) | extract_lets | split | dsimp only | dsimp +zetaDelta only)
theorem State.doTwinHandOver_kept {z : State} (s : State) (hz : Kept z s) : Kept z (State.doTwinHandOver s) := by
  unfold State.doTwinHandOver
  repeat' (first
    | (with_reducible first
      | exact hz | apply State.twinGiveUp_kept | apply State.onTwin_kept | apply State.emit_kept | apply kept_ite | assumption)
    | (intro u x hu) | (intro u hu) | extract_lets | split | dsimp only | dsimp +zetaDelta only)
theorem State.doTwinReleaseGuardEnd_kept {z : State} (s : State) (hz : Kept z s) : Kept z (State.doTwinReleaseGuardEnd s) := by
  unfold State.doTwinReleaseGuardEnd
  repeat' (first
    | (with_reducible first
      | exact hz | apply State.twinActive_kept | apply kept_ite | assumption)
    | extract_lets | (split <;> (rename_i q; with_reducible refine kept_of_pair q ?_ (fun hu => ?_)))
    | (split <;> (rename_i q; with_reducible refine kept_of_pair2 q ?_ (fun hu => ?_))) | split | dsimp only | dsimp +zetaDelta only)
theorem State.doTwinHoldInChange_kept {z : State} (s : State) (level : Bool) (hz : Kept z s) : Kept z (State.doTwinHoldInChange s level)
    := by
  unfold State.doTwinHoldInChange
  repeat' (first
    | (with_reducible first
      | exact hz | apply State.onTwin_kept | apply State.twinActive_kept | apply kept_ite | assumption)
    | (intro u x hu) | (intro u hu) | extract_lets | split | dsimp only | dsimp +zetaDelta only)
theorem State.doTwinHoldSample_kept {z : State} (s : State) (hz : Kept z s) : Kept z (State.doTwinHoldSample s) := by
  unfold State.doTwinHoldSample
  repeat' (first
    | (with_reducible first
      | exact hz | apply State.onTwin_kept | apply State.twinActive_kept | apply State.setHoldOut_kept | apply State.twinListen_kept
      | apply kept_ite | assumption)
    | (intro u x hu) | (intro u hu) | extract_lets | (split <;> (rename_i q; with_reducible refine kept_of_pair q ?_ (fun hu => ?_)))
    | (split <;> (rename_i q; with_reducible refine kept_of_pair2 q ?_ (fun hu => ?_))) | split | dsimp only | dsimp +zetaDelta only)
theorem State.doTwinHoldRelease_kept {z : State} (s : State) (hz : Kept z s) : Kept z (State.doTwinHoldRelease s) := by
  unfold State.doTwinHoldRelease
  repeat' (first
    | (with_reducible first
      | exact hz | apply State.setHoldOut_kept | apply State.onTwin_kept | apply kept_ite | assumption)
    | (intro u x hu) | (intro u hu) | extract_lets | (split <;> (rename_i q; with_reducible refine kept_of_pair q ?_ (fun hu => ?_)))
    | (split <;> (rename_i q; with_reducible refine kept_of_pair2 q ?_ (fun hu => ?_))) | split | dsimp only | dsimp +zetaDelta only)

/-! ### Machine/Inject.lean -/

theorem State.poolAlloc_kept {z : State} (s : State) (r size : Nat) (hz : Kept z s) : Kept z (State.poolAlloc s r size).1 := by
  unfold State.poolAlloc
  repeat' (first
    | (with_reducible first
      | exact hz | apply State.count_kept | apply State.setBuf_kept | apply State.decFld_kept | apply State.incFld_kept
      | apply kept_ite | assumption)
    | extract_lets | split | dsimp only | dsimp +zetaDelta only)
theorem State.pmAnswer_kept {z : State} (s : State) (fw : Option (Nat × Nat)) (req size res h : Nat) (hz : Kept z s) : Kept z
    (State.pmAnswer s fw req size res h) := by
  unfold State.pmAnswer
  repeat' (first
    | (with_reducible first
      | exact hz | apply State.setClWord_kept | apply State.wr_kept | apply State.setFlag_kept | assumption)
    | extract_lets | (split <;> (rename_i q; with_reducible refine kept_of_pair q ?_ (fun hu => ?_)))
    | (split <;> (rename_i q; with_reducible refine kept_of_pair2 q ?_ (fun hu => ?_))) | split | dsimp only | dsimp +zetaDelta only)
theorem State.pmCommand_kept {z : State} (s : State) (fw : Option (Nat × Nat)) (req : Nat) (run : State → Nat → State) (hz : Kept z s)
    (hr : ∀ u n, Kept z u → Kept z (run u n)) : Kept z (State.pmCommand s fw req run) := by
  unfold State.pmCommand
  repeat' (first
    | (with_reducible first
      | exact hz | apply hr | apply State.clusterOut_kept | apply State.setFlag_kept | apply kept_ite | assumption)
    | (intro u x hu) | (intro u hu) | extract_lets | (split <;> (rename_i q; with_reducible refine kept_of_pair q ?_ (fun hu => ?_)))
    | (split <;> (rename_i q; with_reducible refine kept_of_pair2 q ?_ (fun hu => ?_))) | split | dsimp only | dsimp +zetaDelta only)
theorem State.doPmAllocate_kept {z : State} (s : State) (fw : Option (Nat × Nat)) (req size : Nat) (hz : Kept z s) : Kept z
    (State.doPmAllocate s fw req size) := by
  unfold State.doPmAllocate
  repeat' (first
    | (with_reducible first
      | exact hz | apply State.pmCommand_kept | apply State.poolAlloc_kept | apply State.pmAnswer_kept | assumption)
    | (intro u x hu) | (intro u hu) | extract_lets | (split <;> (rename_i q; with_reducible refine kept_of_pair q ?_ (fun hu => ?_)))
    | (split <;> (rename_i q; with_reducible refine kept_of_pair2 q ?_ (fun hu => ?_))) | split | dsimp only | dsimp +zetaDelta only)
theorem State.doPmFree_kept {z : State} (s : State) (fw : Option (Nat × Nat)) (req h : Nat) (hz : Kept z s) : Kept z (State.doPmFree s fw
    req h) := by
  unfold State.doPmFree
  repeat' (first
    | (with_reducible first
      | exact hz | apply State.pmCommand_kept | apply State.bufFree_kept | apply State.pmAnswer_kept | apply kept_ite | assumption)
    | (intro u x hu) | (intro u hu) | extract_lets | (split <;> (rename_i q; with_reducible refine kept_of_pair q ?_ (fun hu => ?_)))
    | (split <;> (rename_i q; with_reducible refine kept_of_pair2 q ?_ (fun hu => ?_))) | split | dsimp only | dsimp +zetaDelta only)
theorem State.syncDepth_kept {z : State} (s : State) (c p : Nat) (hz : Kept z s) : Kept z (State.syncDepth s c p) := by
  unfold State.syncDepth
  repeat' (first
    | (with_reducible first
      | exact hz | apply State.setClWord_kept | assumption)
    | extract_lets | dsimp only | dsimp +zetaDelta only)
theorem State.doInjectPost_kept {z : State} (s : State) (c p : Nat) (w3 : Word) (hz : Kept z s) : Kept z (State.doInjectPost s c p w3) :=
    by
  unfold State.doInjectPost
  repeat' (first
    | (with_reducible first
      | exact hz | apply State.clusterOut_kept | apply State.setClWord_kept | apply State.count_kept | apply State.emit_kept
      | refine State.onSvc_kept ?_ rfl | apply State.setInjQ_kept | apply State.syncDepth_kept | apply kept_ite | assumption)
    | (intro u x hu) | (intro u hu) | extract_lets | split | dsimp only | dsimp +zetaDelta only)
theorem State.injAwait_kept {z : State} (s : State) (m : InjMeta) (l : List Pend) (hz : Kept z s) : Kept z (State.injAwait s m l) := by
  unfold State.injAwait
  repeat' (first
    | (with_reducible first
      | exact hz | apply State.setInjSide_kept | apply State.injDone_kept | apply kept_ite | assumption)
    | extract_lets | (split <;> (rename_i q; with_reducible refine kept_of_pair q ?_ (fun hu => ?_)))
    | (split <;> (rename_i q; with_reducible refine kept_of_pair2 q ?_ (fun hu => ?_))) | split | dsimp only | dsimp +zetaDelta only)
theorem State.injectFrame_kept {z : State} (s : State) (d : InjDesc) (body : List Byte) (hz : Kept z s) : Kept z (State.injectFrame s d
    body) := by
  unfold State.injectFrame
  repeat' (first
    | (with_reducible first
      | exact hz | apply State.pendTo_kept | apply State.enterPend_kept | apply State.injAwait_kept | apply State.lookup_kept
      | apply State.rxGood_kept | apply kept_ite | refine kept_foldl ?_ ?_ | refine kept_foldl1 ?_ ?_ | assumption)
    | (intro u x hu) | (intro u hu) | extract_lets | (split <;> (rename_i q; with_reducible refine kept_of_pair q ?_ (fun hu => ?_)))
    | (split <;> (rename_i q; with_reducible refine kept_of_pair2 q ?_ (fun hu => ?_))) | split | dsimp only | dsimp +zetaDelta only)
theorem State.injResume_kept {z : State} (s : State) (c p : Nat) (hz : Kept z s) : Kept z (State.injResume s c p) := by
  unfold State.injResume
  repeat' (first
    | (with_reducible first
      | exact hz | refine State.onSvc_kept ?_ rfl | apply State.setInjQ_kept | apply State.syncDepth_kept | assumption)
    | (intro u x hu) | (intro u hu) | extract_lets | (split <;> (rename_i q; with_reducible refine kept_of_pair q ?_ (fun hu => ?_)))
    | (split <;> (rename_i q; with_reducible refine kept_of_pair2 q ?_ (fun hu => ?_))) | split | dsimp only | dsimp +zetaDelta only)
theorem State.doInjectSend_kept {z : State} (s : State) (p : Nat) (hz : Kept z s) : Kept z (State.doInjectSend s p) := by
  unfold State.doInjectSend
  repeat' (first
    | (with_reducible first
      | exact hz | apply State.setPortBucket_kept | refine State.onSvc_kept ?_ rfl | apply State.setInjQ_kept
      | apply State.syncDepth_kept | apply State.injResume_kept | apply State.injectFrame_kept | apply State.count_kept
      | apply State.raise_kept | apply kept_ite | assumption)
    | (intro u x hu) | (intro u hu) | extract_lets | (split <;> (rename_i q; with_reducible refine kept_of_pair q ?_ (fun hu => ?_)))
    | (split <;> (rename_i q; with_reducible refine kept_of_pair2 q ?_ (fun hu => ?_))) | split | dsimp only | dsimp +zetaDelta only)
theorem State.doLaserReq_kept {z : State} (s : State) (c e l ceil : Nat) (all : Bool) (hz : Kept z s) : Kept z (State.doLaserReq s c e l
    ceil all) := by
  unfold State.doLaserReq
  repeat' (first
    | (with_reducible first
      | exact hz | apply State.clusterOut_kept | refine State.each_kept ?_ ?_ | apply State.onLane_kept | apply kept_ite | assumption)
    | (intro u x hu) | (intro u hu) | extract_lets | split | dsimp only | dsimp +zetaDelta only)
theorem State.doPuntToCluster_kept {z : State} (s : State) (sl : Nat) (hz : Kept z s) : Kept z (State.doPuntToCluster s sl) := by
  unfold State.doPuntToCluster
  repeat' (first
    | (with_reducible first
      | exact hz | apply State.setPunts_kept | apply State.puntRelease_kept | apply State.retryAll_kept | apply State.count_kept
      | apply State.raise_kept | apply State.poolAlloc_kept | refine State.onSvc_kept ?_ rfl | apply kept_ite | assumption)
    | refine State.onSvc_kept_write ?_ rfl | (intro u x hu) | (intro u hu) | extract_lets
    | (split <;> (rename_i q; with_reducible refine kept_of_pair q ?_ (fun hu => ?_)))
    | (split <;> (rename_i q; with_reducible refine kept_of_pair2 q ?_ (fun hu => ?_))) | split | dsimp only | dsimp +zetaDelta only)
theorem State.mbTake_kept {z : State} (s : State) (c p h : Nat) (hz : Kept z s) : Kept z (State.mbTake s c p h) := by
  unfold State.mbTake
  repeat' (first
    | (with_reducible first
      | exact hz | apply State.setClWord_kept | apply State.emit_kept | assumption)
    | extract_lets | dsimp only | dsimp +zetaDelta only)
theorem State.doMbToFwPost_kept {z : State} (s : State) (h : Nat) (hz : Kept z s) : Kept z (State.doMbToFwPost s h) := by
  unfold State.doMbToFwPost
  repeat' (first
    | (with_reducible first
      | exact hz | refine State.onSvc_kept ?_ rfl | apply State.mbTake_kept | apply refusedSvcc_kept | apply kept_ite | assumption)
    | (intro u x hu) | (intro u hu) | extract_lets | (split <;> (rename_i q; with_reducible refine kept_of_pair q ?_ (fun hu => ?_)))
    | (split <;> (rename_i q; with_reducible refine kept_of_pair2 q ?_ (fun hu => ?_))) | split | dsimp only | dsimp +zetaDelta only)
theorem State.doMbToFwRead_kept {z : State} (s : State) (c p : Nat) (hz : Kept z s) : Kept z (State.doMbToFwRead s c p) := by
  unfold State.doMbToFwRead
  repeat' (first
    | (with_reducible first
      | exact hz | refine State.onSvc_kept ?_ rfl | apply State.mbTake_kept | apply State.emit_kept | apply kept_ite | assumption)
    | (intro u x hu) | (intro u hu) | extract_lets | (split <;> (rename_i q; with_reducible refine kept_of_pair q ?_ (fun hu => ?_)))
    | (split <;> (rename_i q; with_reducible refine kept_of_pair2 q ?_ (fun hu => ?_))) | split | dsimp only | dsimp +zetaDelta only)
theorem State.doMbToHostPost_kept {z : State} (s : State) (c h : Nat) (hz : Kept z s) : Kept z (State.doMbToHostPost s c h) := by
  unfold State.doMbToHostPost
  repeat' (first
    | (with_reducible first
      | exact hz | apply State.clusterOut_kept | apply State.bufRelease_kept | refine State.onSvc_kept ?_ rfl | apply kept_ite
      | assumption)
    | (intro u x hu) | (intro u hu) | extract_lets | split | dsimp only | dsimp +zetaDelta only)
theorem State.doMbToHostRead_kept {z : State} (s : State) (hz : Kept z s) : Kept z (State.doMbToHostRead s) := by
  unfold State.doMbToHostRead
  repeat' (first
    | (with_reducible first
      | exact hz | refine State.onSvc_kept ?_ rfl | apply State.emit_kept | apply kept_ite | assumption)
    | (intro u x hu) | (intro u hu) | extract_lets | (split <;> (rename_i q; with_reducible refine kept_of_pair q ?_ (fun hu => ?_)))
    | (split <;> (rename_i q; with_reducible refine kept_of_pair2 q ?_ (fun hu => ?_))) | split | dsimp only | dsimp +zetaDelta only)

/-! ### Machine/Rings.lean -/

theorem State.wrNow_kept {z : State} (s : State) (a : Nat) (v : Word) (hz : Kept z s) : Kept z (State.wrNow s a v) :=
  kept_same (State.wr_kept (a := a) (v := v) hz) rfl
theorem State.setRingFld_kept {z : State} (s : State) (r : Nat) (f : Fld) (v : Nat) (hz : Kept z s) : Kept z (State.setRingFld s r f v)
    := by
  unfold State.setRingFld
  repeat' (first
    | (with_reducible first
      | exact hz | apply State.setFld_kept | assumption)
    | extract_lets | dsimp only | dsimp +zetaDelta only)
theorem State.dmaWrite_kept {z : State} (s : State) (a : Nat) (b : List Byte) (hz : Kept z s) : Kept z (State.dmaWrite s a b) := by
  unfold State.dmaWrite
  repeat' (first
    | (with_reducible first
      | exact hz | refine State.onHost_kept ?_ ⟨rfl, rfl, rfl⟩ | assumption)
    | refine State.onHost_kept_write ?_ ⟨rfl, rfl, rfl⟩ | (intro u x hu) | (intro u hu) | extract_lets | dsimp only
    | dsimp +zetaDelta only)
theorem State.ringSignal_kept {z : State} (s : State) (r : Nat) (hz : Kept z s) : Kept z (State.ringSignal s r) := by
  unfold State.ringSignal
  repeat' (first
    | (with_reducible first
      | exact hz | apply State.setRing_kept | apply State.signal_kept | assumption)
    | extract_lets | dsimp only | dsimp +zetaDelta only)
theorem State.ringAdvance_kept {z : State} (s : State) (r n : Nat) (pad : Bool) (hz : Kept z s) : Kept z (State.ringAdvance s r n pad) :=
    by
  unfold State.ringAdvance
  repeat' (first
    | (with_reducible first
      | exact hz | apply State.setRingFld_kept | apply State.dmaWrite_kept | apply State.setRing_kept | apply State.ringSignal_kept
      | apply kept_ite | assumption)
    | extract_lets | split | dsimp only | dsimp +zetaDelta only)
theorem State.doRingEnable_kept {z : State} (s : State) (r : Nat) (hz : Kept z s) : Kept z (State.doRingEnable s r) := by
  unfold State.doRingEnable
  repeat' (first
    | (with_reducible first
      | exact hz | apply State.wrNow_kept | apply State.setRingFld_kept | apply State.setRing_kept | apply kept_ite | assumption)
    | extract_lets | split | dsimp only | dsimp +zetaDelta only)
theorem State.doRingDisable_kept {z : State} (s : State) (r : Nat) (hz : Kept z s) : Kept z (State.doRingDisable s r) := by
  unfold State.doRingDisable
  repeat' (first
    | (with_reducible first
      | exact hz | apply State.wrNow_kept | apply State.setRingFld_kept | apply State.puntClearRing_kept | apply kept_ite | assumption)
    | extract_lets | split | dsimp only | dsimp +zetaDelta only)
theorem State.pairSlot_kept {z : State} (s : State) (hz : Kept z s) : Kept z (State.pairSlot s) := by
  unfold State.pairSlot
  repeat' (first
    | (with_reducible first
      | exact hz | refine State.onHost_kept ?_ ⟨rfl, rfl, rfl⟩ | apply kept_ite | assumption)
    | (intro u x hu) | (intro u hu) | extract_lets | (split <;> (rename_i q; with_reducible refine kept_of_pair q ?_ (fun hu => ?_)))
    | (split <;> (rename_i q; with_reducible refine kept_of_pair2 q ?_ (fun hu => ?_))) | split | dsimp only | dsimp +zetaDelta only)
theorem State.doLoomSlotAward_kept {z : State} (s : State) (i : Nat) (requests : BitVec 8) (hz : Kept z s) : Kept z
    (State.doLoomSlotAward s i requests) := by
  unfold State.doLoomSlotAward
  repeat' (first
    | (with_reducible first
      | exact hz | apply State.loomSlot_kept | apply State.pairSlot_kept | apply kept_ite | assumption)
    | extract_lets | split | dsimp only | dsimp +zetaDelta only)
theorem State.doInjectRingFetch_kept {z : State} (s : State) (r : Nat) (desc frame : List Byte) (hz : Kept z s) : Kept z
    (State.doInjectRingFetch s r desc frame) := by
  unfold State.doInjectRingFetch
  repeat' (first
    | (with_reducible first
      | exact hz | apply State.setPairTurn_kept | apply State.ringDrops_kept | apply State.injectFrame_kept | apply State.dmaWrite_kept
      | apply State.ringAdvance_kept | apply kept_ite | assumption)
    | extract_lets | split | dsimp only | dsimp +zetaDelta only)
theorem State.doPuntRingDeliver_kept {z : State} (s : State) (r : Nat) (desc : List Byte) (hz : Kept z s) : Kept z
    (State.doPuntRingDeliver s r desc) := by
  unfold State.doPuntRingDeliver
  repeat' (first
    | (with_reducible first
      | exact hz | apply State.setPairTurn_kept | apply State.setPunts_kept | apply State.puntRelease_kept | apply State.retryAll_kept
      | apply State.dmaWrite_kept | apply State.ringAdvance_kept | apply kept_ite | assumption)
    | (intro u x hu) | (intro u hu) | extract_lets | (split <;> (rename_i q; with_reducible refine kept_of_pair q ?_ (fun hu => ?_)))
    | (split <;> (rename_i q; with_reducible refine kept_of_pair2 q ?_ (fun hu => ?_))) | split | dsimp only | dsimp +zetaDelta only)
theorem State.doDmaReadError_kept {z : State} (s : State) (r : Nat) (hz : Kept z s) : Kept z (State.doDmaReadError s r) := by
  unfold State.doDmaReadError
  repeat' (first
    | (with_reducible first
      | exact hz | apply State.setRingFld_kept | apply State.raise_kept | apply kept_ite | assumption)
    | extract_lets | split | dsimp only | dsimp +zetaDelta only)
theorem State.ringPut_kept {z : State} (s : State) (r typ : Nat) (body : List Byte) (hz : Kept z s) : Kept z (State.ringPut s r typ body)
    := by
  unfold State.ringPut
  repeat' (first
    | (with_reducible first
      | exact hz | apply State.dmaWrite_kept | apply State.setRing_kept | apply State.ringAdvance_kept | assumption)
    | extract_lets | dsimp only | dsimp +zetaDelta only)
theorem State.ringEntryPut_kept {z : State} (s : State) (r typ : Nat) (body : List Byte) (hz : Kept z s) : Kept z (State.ringEntryPut s r
    typ body) := by
  unfold State.ringEntryPut
  repeat' (first
    | (with_reducible first
      | exact hz | apply State.ringPut_kept | apply kept_ite | assumption)
    | extract_lets | split | dsimp only | dsimp +zetaDelta only)
theorem State.ringGapPut_kept {z : State} (s : State) (r : Nat) (hz : Kept z s) : Kept z (State.ringGapPut s r) := by
  unfold State.ringGapPut
  repeat' (first
    | (with_reducible first
      | exact hz | apply State.setRing_kept | apply State.ringEntryPut_kept | apply State.ringDrops_kept | assumption)
    | extract_lets | (split <;> (rename_i q; with_reducible refine kept_of_pair q ?_ (fun hu => ?_)))
    | (split <;> (rename_i q; with_reducible refine kept_of_pair2 q ?_ (fun hu => ?_))) | split | dsimp only | dsimp +zetaDelta only)
theorem State.doRingRecordWrite_kept {z : State} (s : State) (r : Nat) (hz : Kept z s) : Kept z (State.doRingRecordWrite s r) := by
  unfold State.doRingRecordWrite
  repeat' (first
    | (with_reducible first
      | exact hz | apply State.setFifo_kept | apply State.syncFifo_kept | apply State.ringGapPut_kept | apply State.ringEntryPut_kept
      | apply State.ringDrops_kept | apply kept_ite | assumption)
    | exact held_tail (by assumption) | exact held_tail2 (by assumption) | extract_lets
    | (split <;> (rename_i q; with_reducible refine kept_of_pair q ?_ (fun hu => ?_)))
    | (split <;> (rename_i q; with_reducible refine kept_of_pair2 q ?_ (fun hu => ?_))) | split | dsimp only | dsimp +zetaDelta only)
theorem State.doRingCoalTimer_kept {z : State} (s : State) (r : Nat) (hz : Kept z s) : Kept z (State.doRingCoalTimer s r) := by
  unfold State.doRingCoalTimer
  repeat' (first
    | (with_reducible first
      | exact hz | apply State.ringSignal_kept | apply kept_ite | assumption)
    | extract_lets | (split <;> (rename_i q; with_reducible refine kept_of_pair q ?_ (fun hu => ?_)))
    | (split <;> (rename_i q; with_reducible refine kept_of_pair2 q ?_ (fun hu => ?_))) | split | dsimp only | dsimp +zetaDelta only)
theorem State.doNotifyFifoEnqueue_kept {z : State} (s : State) (f : Nat) (item : List Byte) (hz : Kept z s) : Kept z
    (State.doNotifyFifoEnqueue s f item) := by
  unfold State.doNotifyFifoEnqueue
  repeat' (first
    | (with_reducible first
      | exact hz | apply State.fifoPush_kept | assumption)
    | extract_lets | dsimp only | dsimp +zetaDelta only)
theorem State.harvestClear_kept {z : State} (s : State) (p : Nat) (hz : Kept z s) : Kept z (State.harvestClear s p) := by
  unfold State.harvestClear
  repeat' (first
    | (with_reducible first
      | exact hz | refine State.each_kept ?_ ?_ | apply State.wr_kept | apply State.setEvtBit_kept | assumption)
    | (intro u x hu) | (intro u hu) | extract_lets | dsimp only | dsimp +zetaDelta only)
theorem State.doCounterHarvest_kept {z : State} (s : State) (p : Nat) (hz : Kept z s) : Kept z (State.doCounterHarvest s p) := by
  unfold State.doCounterHarvest
  repeat' (first
    | (with_reducible first
      | exact hz | refine State.onHost_kept ?_ ⟨rfl, rfl, rfl⟩ | apply State.ringGapPut_kept | apply State.ringEntryPut_kept
      | apply State.harvestClear_kept | apply State.setRing_kept | apply State.raise_kept | apply kept_ite | assumption)
    | (intro u x hu) | (intro u hu) | extract_lets | (split <;> (rename_i q; with_reducible refine kept_of_pair q ?_ (fun hu => ?_)))
    | (split <;> (rename_i q; with_reducible refine kept_of_pair2 q ?_ (fun hu => ?_))) | split | dsimp only | dsimp +zetaDelta only)
theorem State.winAnswer_kept {z : State} (s : State) (st : Nat) (b : List Byte) (hz : Kept z s) : Kept z (State.winAnswer s st b) := by
  unfold State.winAnswer
  repeat' (first
    | (with_reducible first
      | exact hz | apply State.setFld_kept | refine State.each_kept ?_ ?_ | apply State.wr_kept
      | refine State.onHost_kept ?_ ⟨rfl, rfl, rfl⟩ | apply State.emit_kept | assumption)
    | (intro u x hu) | (intro u hu) | extract_lets | dsimp only | dsimp +zetaDelta only)
theorem State.winPop_kept {z : State} (s : State) (hz : Kept z s) (t : State) (ht : State.winPop s = some t) : Kept z t := by
  unfold State.winPop at ht
  split at ht
  · next h =>
    cases ht
    refine State.winAnswer_kept _ _ _ (State.syncFifo_kept _ _ (State.setFifo_kept hz ?_))
    unfold Fifo.held; rw [h]; exact fifo_tail_le _ _
  · cases ht
theorem State.winClosed_kept {z : State} (s : State) (hz : Kept z s) : Kept z (State.winClosed s) := by
  unfold State.winClosed
  repeat' (first
    | (with_reducible first
      | exact hz | apply State.setFld_kept | refine State.onHost_kept ?_ ⟨rfl, rfl, rfl⟩ | apply State.emit_kept | assumption)
    | (intro u x hu) | (intro u hu) | extract_lets | dsimp only | dsimp +zetaDelta only)
theorem State.doEvtWinRead_kept {z : State} (s : State) (hz : Kept z s) : Kept z (State.doEvtWinRead s) := by
  unfold State.doEvtWinRead
  repeat' (first
    | (with_reducible first
      | exact hz | apply State.winClosed_kept | refine State.onHost_kept ?_ ⟨rfl, rfl, rfl⟩ | apply kept_ite | assumption)
    | exact State.winPop_kept _ hz _ (by assumption) | (intro u x hu) | (intro u hu) | extract_lets
    | (split <;> (rename_i q; with_reducible refine kept_of_pair q ?_ (fun hu => ?_)))
    | (split <;> (rename_i q; with_reducible refine kept_of_pair2 q ?_ (fun hu => ?_))) | split | dsimp only | dsimp +zetaDelta only)
theorem State.doEvtWinReadReturn_kept {z : State} (s : State) (hz : Kept z s) : Kept z (State.doEvtWinReadReturn s) := by
  unfold State.doEvtWinReadReturn
  repeat' (first
    | (with_reducible first
      | exact hz | apply State.winClosed_kept | apply State.winAnswer_kept | apply State.count_kept | apply kept_ite | assumption)
    | exact State.winPop_kept _ hz _ (by assumption) | extract_lets
    | (split <;> (rename_i q; with_reducible refine kept_of_pair q ?_ (fun hu => ?_)))
    | (split <;> (rename_i q; with_reducible refine kept_of_pair2 q ?_ (fun hu => ?_))) | split | dsimp only | dsimp +zetaDelta only)
theorem State.setPerfBase_kept {z : State} (s : State) (i n : Nat) (hz : Kept z s) : Kept z (State.setPerfBase s i n) := by
  unfold State.setPerfBase
  repeat' (first
    | (with_reducible first
      | exact hz | refine State.onHost_kept ?_ ⟨rfl, rfl, rfl⟩ | assumption)
    | (intro u x hu) | (intro u hu) | extract_lets | dsimp only | dsimp +zetaDelta only)
theorem State.perfAccept_kept {z : State} (s : State) (i : Nat) (hz : Kept z s) : Kept z (State.perfAccept s i) := by
  unfold State.perfAccept
  repeat' (first
    | (with_reducible first
      | exact hz | apply State.setFlag_kept | assumption)
    | extract_lets | dsimp only | dsimp +zetaDelta only)
theorem State.doPerfFreeze_kept {z : State} (s : State) (i : Nat) (hz : Kept z s) : Kept z (State.doPerfFreeze s i) := by
  unfold State.doPerfFreeze
  repeat' (first
    | (with_reducible first
      | exact hz | apply State.perfAccept_kept | apply State.setCtr_kept | apply State.setFrozen_kept | apply State.setFlag_kept
      | apply kept_ite | assumption)
    | extract_lets | split | dsimp only | dsimp +zetaDelta only)
theorem State.doPerfRelease_kept {z : State} (s : State) (i : Nat) (hz : Kept z s) : Kept z (State.doPerfRelease s i) := by
  unfold State.doPerfRelease
  repeat' (first
    | (with_reducible first
      | exact hz | apply State.perfAccept_kept | apply State.setPerfBase_kept | apply State.setFrozen_kept | apply State.setFlag_kept
      | apply kept_ite | assumption)
    | extract_lets | split | dsimp only | dsimp +zetaDelta only)
theorem State.doPerfZero_kept {z : State} (s : State) (i : Nat) (hz : Kept z s) : Kept z (State.doPerfZero s i) := by
  unfold State.doPerfZero
  repeat' (first
    | (with_reducible first
      | exact hz | apply State.perfAccept_kept | apply State.setPerfBase_kept | apply State.setCtr_kept | refine State.each_kept ?_ ?_
      | assumption)
    | (intro u x hu) | (intro u hu) | extract_lets | dsimp only | dsimp +zetaDelta only)
theorem State.doPerfDump_kept {z : State} (s : State) (i : Nat) (hz : Kept z s) : Kept z (State.doPerfDump s i) := by
  unfold State.doPerfDump
  repeat' (first
    | (with_reducible first
      | exact hz | refine State.onHost_kept ?_ ⟨rfl, rfl, rfl⟩ | apply State.fifoPush_kept | apply kept_ite | assumption)
    | (intro u x hu) | (intro u hu) | extract_lets | split | dsimp only | dsimp +zetaDelta only)

/-! ### Machine/HostIf.lean -/

theorem State.accessHit_kept {z : State} (s : State) (w : Who) (ev page : Nat) (hz : Kept z s) : Kept z (State.accessHit s w ev page) :=
    by
  unfold State.accessHit
  repeat' (first
    | (with_reducible first
      | exact hz | apply State.perfHit_kept | assumption)
    | extract_lets | dsimp only | dsimp +zetaDelta only)
theorem State.busError_kept {z : State} (s : State) (page off cause : Nat) (write : Bool) (hz : Kept z s) : Kept z (State.busError s page
    off cause write) := by
  unfold State.busError
  repeat' (first
    | (with_reducible first
      | exact hz | apply State.setFld_kept | apply State.setFlag_kept | apply State.count_kept | apply State.raise_kept
      | apply State.emit_kept | apply kept_ite | assumption)
    | extract_lets | split | dsimp only | dsimp +zetaDelta only)
theorem State.doBusErrorAccess_kept {z : State} (s : State) (page off : Nat) (bar2 badSize : Bool) (a : Access) (hz : Kept z s) : Kept z
    (State.doBusErrorAccess s page off bar2 badSize a) := by
  unfold State.doBusErrorAccess
  repeat' (first
    | (with_reducible first
      | exact hz | apply State.busError_kept | apply kept_ite | assumption)
    | extract_lets | split | dsimp only | dsimp +zetaDelta only)
theorem State.readHalf_kept {z : State} (s : State) (page off : Nat) (hz : Kept z s) : Kept z (State.readHalf s page off) := by
  unfold State.readHalf
  repeat' (first
    | (with_reducible first
      | exact hz | apply State.setEvtBit_kept | assumption)
    | extract_lets | (split <;> (rename_i q; with_reducible refine kept_of_pair q ?_ (fun hu => ?_)))
    | (split <;> (rename_i q; with_reducible refine kept_of_pair2 q ?_ (fun hu => ?_))) | split | dsimp only | dsimp +zetaDelta only)
theorem State.latchCtr_kept {z : State} (s : State) (page off : Nat) (hz : Kept z s) : Kept z (State.latchCtr s page off) := by
  unfold State.latchCtr
  exact State.readHalf_kept _ _ _ (kept_same hz rfl)
theorem State.restartPeak_kept {z : State} (s : State) (page off : Nat) (hz : Kept z s) : Kept z (State.restartPeak s page off) := by
  unfold State.restartPeak
  repeat' (first
    | (with_reducible first
      | exact hz | apply State.setFld_kept | apply kept_ite | assumption)
    | extract_lets | (split <;> (rename_i q; with_reducible refine kept_of_pair q ?_ (fun hu => ?_)))
    | (split <;> (rename_i q; with_reducible refine kept_of_pair2 q ?_ (fun hu => ?_))) | split | dsimp only | dsimp +zetaDelta only)
theorem State.readEffect_kept {z : State} (s : State) (page off : Nat) (hz : Kept z s) : Kept z (State.readEffect s page off) := by
  unfold State.readEffect
  repeat' (first
    | (with_reducible first
      | exact hz | apply State.latchCtr_kept | apply State.restartPeak_kept | apply State.doDtLatchRead_kept
      | apply State.doTbLatchRead_kept | apply State.doTodRxRead_kept | apply kept_ite | assumption)
    | extract_lets | (split <;> (rename_i q; with_reducible refine kept_of_pair q ?_ (fun hu => ?_)))
    | (split <;> (rename_i q; with_reducible refine kept_of_pair2 q ?_ (fun hu => ?_))) | split | dsimp only | dsimp +zetaDelta only)
theorem State.readWith_kept {z : State} (s : State) (page off : Nat) (hz : Kept z s) : Kept z (State.readWith s page off).1 := by
  unfold State.readWith
  repeat' (first
    | (with_reducible first
      | exact hz | apply State.readEffect_kept | apply kept_ite | assumption)
    | extract_lets | split | dsimp only | dsimp +zetaDelta only)
theorem State.darkRead_kept {z : State} (s : State) (page off : Nat) (hz : Kept z s) : Kept z (State.darkRead s page off) := by
  unfold State.darkRead
  repeat' (first
    | (with_reducible first
      | exact hz | apply State.emit_kept | apply State.count_kept | apply kept_ite | assumption)
    | extract_lets | split | dsimp only | dsimp +zetaDelta only)
theorem State.hostRead_kept {z : State} (s : State) (w : Who) (page off : Nat) (hz : Kept z s) : Kept z (State.hostRead s w page off) :=
    by
  unfold State.hostRead
  repeat' (first
    | (with_reducible first
      | exact hz | apply State.accessHit_kept | apply State.readWith_kept | apply State.emit_kept | assumption)
    | extract_lets | (split <;> (rename_i q; with_reducible refine kept_of_pair q ?_ (fun hu => ?_)))
    | (split <;> (rename_i q; with_reducible refine kept_of_pair2 q ?_ (fun hu => ?_))) | split | dsimp only | dsimp +zetaDelta only)
theorem State.anyRead_kept {z : State} (s : State) (w : Who) (page off : Nat) (hz : Kept z s) : Kept z (State.anyRead s w page off) := by
  unfold State.anyRead
  repeat' (first
    | (with_reducible first
      | exact hz | apply State.busError_kept | apply State.accessHit_kept | apply State.darkRead_kept | apply State.doEvtWinRead_kept
      | apply State.doMbToHostRead_kept | apply State.hostRead_kept | apply kept_ite | assumption)
    | extract_lets | split | dsimp only | dsimp +zetaDelta only)
theorem State.doCounterLowRead_kept {z : State} (s : State) (page off : Nat) (hz : Kept z s) : Kept z (State.doCounterLowRead s page off)
    := by
  unfold State.doCounterLowRead
  repeat' (first
    | (with_reducible first
      | exact hz | apply State.anyRead_kept | apply kept_ite | assumption)
    | extract_lets | split | dsimp only | dsimp +zetaDelta only)
theorem State.doPeakFieldRead_kept {z : State} (s : State) (page off : Nat) (hz : Kept z s) : Kept z (State.doPeakFieldRead s page off)
    := by
  unfold State.doPeakFieldRead
  repeat' (first
    | (with_reducible first
      | exact hz | apply State.anyRead_kept | assumption)
    | extract_lets | dsimp only | dsimp +zetaDelta only)
theorem State.doEvtClear_kept {z : State} (s : State) (page src seq : Nat) (hz : Kept z s) : Kept z (State.doEvtClear s page src seq) :=
    by
  unfold State.doEvtClear
  repeat' (first
    | (with_reducible first
      | exact hz | apply State.setEvtBit_kept | apply State.setFlag_kept | apply kept_ite | assumption)
    | extract_lets | (split <;> (rename_i q; with_reducible refine kept_of_pair q ?_ (fun hu => ?_)))
    | (split <;> (rename_i q; with_reducible refine kept_of_pair2 q ?_ (fun hu => ?_))) | split | dsimp only | dsimp +zetaDelta only)
theorem State.hdrWrite_kept {z : State} (s : State) (page off : Nat) (v : Word) (hz : Kept z s) : Kept z (State.hdrWrite s page off v) :=
    by
  unfold State.hdrWrite
  repeat' (first
    | (with_reducible first
      | exact hz | apply State.doEvtClear_kept | apply State.wr_kept | apply State.setFlag_kept | apply kept_ite | assumption)
    | extract_lets | (split <;> (rename_i q; with_reducible refine kept_of_pair q ?_ (fun hu => ?_)))
    | (split <;> (rename_i q; with_reducible refine kept_of_pair2 q ?_ (fun hu => ?_))) | split | dsimp only | dsimp +zetaDelta only)
theorem State.countReserved_kept {z : State} (s : State) (page off : Nat) (v : Word) (hz : Kept z s) : Kept z (State.countReserved s page
    off v) := by
  unfold State.countReserved
  repeat' (first
    | (with_reducible first
      | exact hz | apply State.count_kept | apply kept_ite | assumption)
    | extract_lets | (split <;> (rename_i q; with_reducible refine kept_of_pair q ?_ (fun hu => ?_)))
    | (split <;> (rename_i q; with_reducible refine kept_of_pair2 q ?_ (fun hu => ?_))) | split | dsimp only | dsimp +zetaDelta only)
theorem State.doDarkPageAccess_kept {z : State} (s : State) (page off : Nat) (a : Access) (hz : Kept z s) : Kept z
    (State.doDarkPageAccess s page off a) := by
  unfold State.doDarkPageAccess
  repeat' (first
    | (with_reducible first
      | exact hz | apply State.busError_kept | apply State.accessHit_kept | apply State.darkRead_kept | apply State.countReserved_kept
      | apply State.hdrWrite_kept | apply State.count_kept | apply kept_ite | assumption)
    | extract_lets | (split <;> (rename_i q; with_reducible refine kept_of_pair q ?_ (fun hu => ?_)))
    | (split <;> (rename_i q; with_reducible refine kept_of_pair2 q ?_ (fun hu => ?_))) | split | dsimp only | dsimp +zetaDelta only)
theorem State.doBar2Write_kept {z : State} (s : State) (a : Nat) (b : List Byte) (hz : Kept z s) : Kept z (State.doBar2Write s a b) := by
  unfold State.doBar2Write
  repeat' (first
    | (with_reducible first
      | exact hz | apply State.perfHit_kept | refine State.onSvc_kept ?_ rfl | apply State.busError_kept | assumption)
    | refine State.onSvc_kept_write ?_ rfl | (intro u x hu) | (intro u hu) | extract_lets
    | (split <;> (rename_i q; with_reducible refine kept_of_pair q ?_ (fun hu => ?_)))
    | (split <;> (rename_i q; with_reducible refine kept_of_pair2 q ?_ (fun hu => ?_))) | split | dsimp only | dsimp +zetaDelta only)
theorem State.debugClose_kept {z : State} (s : State) (hz : Kept z s) : Kept z (State.debugClose s) := by
  unfold State.debugClose
  repeat' (first
    | (with_reducible first
      | exact hz | refine State.onHost_kept ?_ ⟨rfl, rfl, rfl⟩ | apply State.setFlag_kept | apply State.lower_kept | assumption)
    | (intro u x hu) | (intro u hu) | extract_lets | dsimp only | dsimp +zetaDelta only)
theorem State.doDbgChallenge_kept {z : State} (s : State) (hz : Kept z s) : Kept z (State.doDbgChallenge s) := by
  unfold State.doDbgChallenge
  repeat' (first
    | (with_reducible first
      | exact hz | apply State.freshBytes_kept | refine State.onHost_kept ?_ ⟨rfl, rfl, rfl⟩ | apply State.emit_kept | apply kept_ite
      | assumption)
    | (intro u x hu) | (intro u hu) | extract_lets | (split <;> (rename_i q; with_reducible refine kept_of_pair q ?_ (fun hu => ?_)))
    | (split <;> (rename_i q; with_reducible refine kept_of_pair2 q ?_ (fun hu => ?_))) | split | dsimp only | dsimp +zetaDelta only)
theorem State.doDbgResponse_kept {z : State} (s : State) (rights : Nat) (key sig : List Byte) (hz : Kept z s) : Kept z
    (State.doDbgResponse s rights key sig) := by
  unfold State.doDbgResponse
  repeat' (first
    | (with_reducible first
      | exact hz | refine State.onHost_kept ?_ ⟨rfl, rfl, rfl⟩ | apply State.setFlag_kept | apply State.count_kept
      | apply State.raiseLive_kept | apply kept_ite | assumption)
    | (intro u x hu) | (intro u hu) | extract_lets | (split <;> (rename_i q; with_reducible refine kept_of_pair q ?_ (fun hu => ?_)))
    | (split <;> (rename_i q; with_reducible refine kept_of_pair2 q ?_ (fun hu => ?_))) | split | dsimp only | dsimp +zetaDelta only)
theorem State.doDbgClose_kept {z : State} (s : State) (hz : Kept z s) : Kept z (State.doDbgClose s) := by
  unfold State.doDbgClose
  repeat' (first
    | (with_reducible first
      | exact hz | apply State.debugClose_kept | apply kept_ite | assumption)
    | extract_lets | split | dsimp only | dsimp +zetaDelta only)
theorem State.doDebugIdleTimeout_kept {z : State} (s : State) (hz : Kept z s) : Kept z (State.doDebugIdleTimeout s) := by
  unfold State.doDebugIdleTimeout
  repeat' (first
    | (with_reducible first
      | exact hz | apply State.debugClose_kept | apply kept_ite | assumption)
    | extract_lets | split | dsimp only | dsimp +zetaDelta only)
theorem State.doDebugLockoutEnd_kept {z : State} (s : State) (hz : Kept z s) : Kept z (State.doDebugLockoutEnd s) := by
  unfold State.doDebugLockoutEnd
  repeat' (first
    | (with_reducible first
      | exact hz | refine State.onHost_kept ?_ ⟨rfl, rfl, rfl⟩ | apply kept_ite | assumption)
    | (intro u x hu) | (intro u hu) | extract_lets | (split <;> (rename_i q; with_reducible refine kept_of_pair q ?_ (fun hu => ?_)))
    | (split <;> (rename_i q; with_reducible refine kept_of_pair2 q ?_ (fun hu => ?_))) | split | dsimp only | dsimp +zetaDelta only)
theorem State.doDebugAllowWrite_kept {z : State} (s : State) (v : Word) (hz : Kept z s) : Kept z (State.doDebugAllowWrite s v) := by
  unfold State.doDebugAllowWrite
  repeat' (first
    | (with_reducible first
      | exact hz | apply State.wrNow_kept | apply State.doDbgClose_kept | apply kept_ite | assumption)
    | extract_lets | split | dsimp only | dsimp +zetaDelta only)
theorem State.doTapReset_kept {z : State} (s : State) (hz : Kept z s) : Kept z (State.doTapReset s) := by
  unfold State.doTapReset
  repeat' (first
    | (with_reducible first
      | exact hz | apply State.doDbgClose_kept | refine State.onHost_kept ?_ ⟨rfl, rfl, rfl⟩ | assumption)
    | (intro u x hu) | (intro u hu) | extract_lets | dsimp only | dsimp +zetaDelta only)
theorem State.doBoundaryScan_kept {z : State} (s : State) (i : TapInstr) (cells : List Bool) (hz : Kept z s) : Kept z
    (State.doBoundaryScan s i cells) := by
  unfold State.doBoundaryScan
  repeat' (first
    | (with_reducible first
      | exact hz | refine State.onHost_kept ?_ ⟨rfl, rfl, rfl⟩ | apply State.emit_kept | apply kept_ite | assumption)
    | (intro u x hu) | (intro u hu) | extract_lets | (split <;> (rename_i q; with_reducible refine kept_of_pair q ?_ (fun hu => ?_)))
    | (split <;> (rename_i q; with_reducible refine kept_of_pair2 q ?_ (fun hu => ?_))) | split | dsimp only | dsimp +zetaDelta only)
theorem State.hostReset_kept {z : State} (s : State) (keep : Nat → Bool) (hz : Kept z s) : Kept z (State.hostReset s keep) := by
  unfold State.hostReset
  extract_lets s1 s2 s3 s4 s5 s6
  have h1 : Kept z s1 := State.each_kept hz fun u r hu => kept_ite (State.puntClearRing_kept _ _ hu) hu
  have h2 : Kept z s2 := State.debugClose_kept _ h1
  have h3 : Kept z s3 := kept_same h2 rfl
  have h4 : Kept z s4 := State.setFlag_kept (State.setFld_kept (State.setFlag_kept h3))
  have h5 : Kept z s5 := State.setGuard_kept _ _ _ (State.setHeld_kept h4 (by decide))
  have h6 : Kept z s6 := State.onHost_kept h5 ⟨rfl, rfl, rfl⟩
  exact State.each_kept h6 fun u f hu => State.syncFifo_kept _ _ hu
theorem State.doPcieReset_kept {z : State} (s : State) (k : PcieResetKind) (hz : Kept z s) : Kept z (State.doPcieReset s k) := by
  unfold State.doPcieReset
  repeat' (first
    | (with_reducible first
      | exact hz | apply State.hostReset_kept | refine State.onHost_kept ?_ ⟨rfl, rfl, rfl⟩ | assumption)
    | (intro u x hu) | (intro u hu) | extract_lets | (split <;> (rename_i q; with_reducible refine kept_of_pair q ?_ (fun hu => ?_)))
    | (split <;> (rename_i q; with_reducible refine kept_of_pair2 q ?_ (fun hu => ?_))) | split | dsimp only | dsimp +zetaDelta only)
theorem State.doPerstNRelease_kept {z : State} (s : State) (hz : Kept z s) : Kept z (State.doPerstNRelease s) := by
  unfold State.doPerstNRelease
  repeat' (first
    | (with_reducible first
      | exact hz | refine State.onHost_kept ?_ ⟨rfl, rfl, rfl⟩ | assumption)
    | (intro u x hu) | (intro u hu) | extract_lets | dsimp only | dsimp +zetaDelta only)
theorem State.doPcieLinkUp_kept {z : State} (s : State) (width speed : Nat) (hz : Kept z s) : Kept z (State.doPcieLinkUp s width speed)
    := by
  unfold State.doPcieLinkUp
  repeat' (first
    | (with_reducible first
      | exact hz | refine State.onHost_kept ?_ ⟨rfl, rfl, rfl⟩ | apply State.setFld_kept | apply State.flushPba_kept | apply kept_ite
      | assumption)
    | (intro u x hu) | (intro u hu) | extract_lets | split | dsimp only | dsimp +zetaDelta only)
theorem State.doBusMasterEnable_kept {z : State} (s : State) (hz : Kept z s) : Kept z (State.doBusMasterEnable s) := by
  unfold State.doBusMasterEnable
  repeat' (first
    | (with_reducible first
      | exact hz | refine State.onHost_kept ?_ ⟨rfl, rfl, rfl⟩ | apply State.setFlag_kept | apply State.flushPba_kept | apply kept_ite
      | assumption)
    | (intro u x hu) | (intro u hu) | extract_lets | split | dsimp only | dsimp +zetaDelta only)
theorem State.doMsixEnableSet_kept {z : State} (s : State) (hz : Kept z s) : Kept z (State.doMsixEnableSet s) := by
  unfold State.doMsixEnableSet
  repeat' (first
    | (with_reducible first
      | exact hz | refine State.onHost_kept ?_ ⟨rfl, rfl, rfl⟩ | apply State.flushPba_kept | apply kept_ite | assumption)
    | (intro u x hu) | (intro u hu) | extract_lets | split | dsimp only | dsimp +zetaDelta only)
theorem State.doMsixVectorUnmask_kept {z : State} (s : State) (v : Nat) (hz : Kept z s) : Kept z (State.doMsixVectorUnmask s v) := by
  unfold State.doMsixVectorUnmask
  repeat' (first
    | (with_reducible first
      | exact hz | apply State.setMsixE_kept | apply State.flushPba_kept | assumption)
    | extract_lets | dsimp only | dsimp +zetaDelta only)
theorem State.msixWrite_kept {z : State} (s : State) (off : Nat) (v : Word) (hz : Kept z s) : Kept z (State.msixWrite s off v) := by
  unfold State.msixWrite
  repeat' (first
    | (with_reducible first
      | exact hz | apply State.setMsixE_kept | apply State.flushPba_kept | assumption)
    | extract_lets | (split <;> (rename_i q; with_reducible refine kept_of_pair q ?_ (fun hu => ?_)))
    | (split <;> (rename_i q; with_reducible refine kept_of_pair2 q ?_ (fun hu => ?_))) | split | dsimp only | dsimp +zetaDelta only)

/-! ### Machine/Fault.lean -/

theorem State.alertSet_kept {z : State} (s : State) (b : Nat) (hz : Kept z s) : Kept z (State.alertSet s b) := by
  unfold State.alertSet
  repeat' (first
    | (with_reducible first
      | exact hz | apply State.onPower_kept | apply State.emit_kept | apply kept_ite | assumption)
    | (intro u x hu) | (intro u hu) | extract_lets | split | dsimp only | dsimp +zetaDelta only)
theorem State.lightsOut_kept {z : State} (s : State) (hz : Kept z s) : Kept z (State.lightsOut s) := by
  unfold State.lightsOut
  repeat' (first
    | (with_reducible first
      | exact hz | apply State.withUp_kept | refine State.each_kept ?_ ?_ | apply State.enterPitch_kept | apply State.onPitch_kept
      | apply State.groupsFollow_kept | apply State.linkFollow_kept | apply State.syncRclk_kept | assumption)
    | (intro u x hu) | (intro u hu) | extract_lets | dsimp only | dsimp +zetaDelta only)
theorem State.pinsLow_kept {z : State} (s : State) (hz : Kept z s) : Kept z (State.pinsLow s) := by
  unfold State.pinsLow
  repeat' (first
    | (with_reducible first
      | exact hz | apply State.onTime_kept | apply State.emit_kept | assumption)
    | (intro u x hu) | (intro u hu) | extract_lets | dsimp only | dsimp +zetaDelta only)
theorem State.fatalEnter_kept {z : State} (s : State) (pg src : Nat) (hz : Kept z s) : Kept z (State.fatalEnter s pg src) := by
  unfold State.fatalEnter
  repeat' (first
    | (with_reducible first
      | exact hz | apply State.count_kept | apply State.setFlag_kept | apply State.setFld_kept | apply State.lightsOut_kept
      | apply State.leaseRevoke_kept | apply State.twinStop_kept | apply State.pinsLow_kept | apply State.alertSet_kept
      | apply State.journal_kept | apply kept_ite | assumption)
    | extract_lets | split | dsimp only | dsimp +zetaDelta only)
theorem State.onBlock_kept {z : State} (s : State) (t : Nat) (f : Block → Block) (hz : Kept z s) : Kept z (State.onBlock s t f) := by
  unfold State.onBlock
  repeat' (first
    | (with_reducible first
      | exact hz | apply State.setBlock_kept | assumption)
    | extract_lets | dsimp only | dsimp +zetaDelta only)
theorem State.onIsland_kept {z : State} (s : State) (i : Nat) (f : IslandSt → IslandSt) (hz : Kept z s) : Kept z (State.onIsland s i f)
    := by
  unfold State.onIsland
  repeat' (first
    | (with_reducible first
      | exact hz | apply State.setIsland_kept | assumption)
    | extract_lets | dsimp only | dsimp +zetaDelta only)
theorem State.setRst_kept {z : State} (s : State) (i r : Nat) (hz : Kept z s) : Kept z (State.setRst s i r) := by
  unfold State.setRst
  repeat' (first
    | (with_reducible first
      | exact hz | apply State.onIsland_kept | assumption)
    | (intro u x hu) | (intro u hu) | extract_lets | dsimp only | dsimp +zetaDelta only)
theorem State.blockState_kept {z : State} (s : State) (t st : Nat) (hz : Kept z s) : Kept z (State.blockState s t st) := by
  unfold State.blockState
  repeat' (first
    | (with_reducible first
      | exact hz | apply State.setFld_kept | assumption)
    | extract_lets | dsimp only | dsimp +zetaDelta only)
theorem State.syncGuy_kept {z : State} (s : State) (t : Nat) (hz : Kept z s) : Kept z (State.syncGuy s t) := by
  unfold State.syncGuy
  repeat' (first
    | (with_reducible first
      | exact hz | apply State.setFlag_kept | assumption)
    | extract_lets | dsimp only | dsimp +zetaDelta only)
theorem State.syncContains_kept {z : State} (s : State) (t : Nat) (hz : Kept z s) : Kept z (State.syncContains s t) := by
  unfold State.syncContains
  repeat' (first
    | (with_reducible first
      | exact hz | apply State.setFld_kept | assumption)
    | extract_lets | dsimp only | dsimp +zetaDelta only)
theorem State.fltcRefused_kept {z : State} (s : State) (b : Bool) (hz : Kept z s) : Kept z (State.fltcRefused s b) := by
  unfold State.fltcRefused
  repeat' (first
    | (with_reducible first
      | exact hz | apply State.setFlag_kept | assumption)
    | extract_lets | dsimp only | dsimp +zetaDelta only)
theorem State.slicePorts_kept {z : State} (s : State) (sl : Nat) (hz : Kept z s) : Kept z (State.slicePorts s sl) := by
  unfold State.slicePorts
  repeat' (first
    | (with_reducible first
      | exact hz | apply State.withUp_kept | refine State.each_kept ?_ ?_ | apply State.enterPitch_kept | apply State.onPitch_kept
      | apply State.groupsFollow_kept | apply State.linkFollow_kept | apply State.syncRclk_kept | apply State.setGroup_kept
      | apply State.rxAbort_kept | apply State.clearPause_kept | apply State.setMac_kept | apply State.setMacFld_kept | apply kept_ite
      | assumption)
    | (intro u x hu) | (intro u hu) | extract_lets | split | dsimp only | dsimp +zetaDelta only)
theorem State.sliceFrames_kept {z : State} (s : State) (sl : Nat) (hz : Kept z s) : Kept z (State.sliceFrames s sl) := by
  unfold State.sliceFrames
  repeat' (first
    | (with_reducible first
      | exact hz | refine State.each_kept ?_ ?_ | apply State.discardFrame_kept | apply State.voqRelease_kept
      | apply State.mirrorDrops_kept | apply State.onSw_kept | apply State.injDone_kept | apply State.puntClear_kept
      | refine kept_foldl ?_ ?_ | refine kept_foldl1 ?_ ?_ | assumption)
    | (intro u x hu) | (intro u hu) | extract_lets | (split <;> (rename_i q; with_reducible refine kept_of_pair q ?_ (fun hu => ?_)))
    | (split <;> (rename_i q; with_reducible refine kept_of_pair2 q ?_ (fun hu => ?_))) | split | dsimp only | dsimp +zetaDelta only)
theorem State.flightDrop_kept {z : State} (s : State) (gone : TimedCell → Bool) (hz : Kept z s) : Kept z (State.flightDrop s gone) := by
  unfold State.flightDrop
  repeat' (first
    | (with_reducible first
      | exact hz | apply State.onSw_kept | apply State.cellDrops_kept | apply State.count_kept | refine kept_foldl ?_ ?_
      | refine kept_foldl1 ?_ ?_ | assumption)
    | (intro u x hu) | (intro u hu) | extract_lets | dsimp only | dsimp +zetaDelta only)
theorem State.sliceStreams_kept {z : State} (s : State) (sl : Nat) (hz : Kept z s) : Kept z (State.sliceStreams s sl) := by
  unfold State.sliceStreams
  repeat' (first
    | (with_reducible first
      | exact hz | refine State.each_kept ?_ ?_ | apply State.loseOpen_kept | apply State.setStream_kept
      | apply State.setHeldCount_kept | apply State.onSw_kept | apply kept_ite | assumption)
    | (intro u x hu) | (intro u hu) | extract_lets | split | dsimp only | dsimp +zetaDelta only)
theorem State.sliceRest_kept {z : State} (s : State) (sl : Nat) (hz : Kept z s) : Kept z (State.sliceRest s sl) := by
  unfold State.sliceRest
  repeat' (first
    | (with_reducible first
      | exact hz | apply State.onTrunk_kept | apply State.syncFab_kept | refine State.each_kept ?_ ?_ | apply State.setNode_kept
      | apply State.onSw_kept | apply State.setMeter_kept | apply State.setClient_kept | apply State.setLfsr_kept
      | apply State.onTables_kept | apply State.setFlag_kept | assumption)
    | (intro u x hu) | (intro u hu) | extract_lets | dsimp only | dsimp +zetaDelta only)
theorem State.sliceClear_kept {z : State} (s : State) (sl : Nat) (hz : Kept z s) : Kept z (State.sliceClear s sl) := by
  unfold State.sliceClear
  repeat' (first
    | (with_reducible first
      | exact hz | apply State.slicePorts_kept | apply State.flightDrop_kept | apply State.sliceFrames_kept
      | apply State.sliceStreams_kept | apply State.sliceRest_kept | assumption)
    | (intro u x hu) | (intro u hu) | extract_lets | dsimp only | dsimp +zetaDelta only)
theorem State.xbClear_kept {z : State} (s : State) (hz : Kept z s) : Kept z (State.xbClear s) := by
  unfold State.xbClear
  repeat' (first
    | (with_reducible first
      | exact hz | apply State.flightDrop_kept | apply State.onSw_kept | assumption)
    | (intro u x hu) | (intro u hu) | extract_lets | dsimp only | dsimp +zetaDelta only)
theorem State.tuClear_kept {z : State} (s : State) (hz : Kept z s) : Kept z (State.tuClear s) := by
  unfold State.tuClear
  repeat' (first
    | (with_reducible first
      | exact hz | apply State.onTime_kept | refine State.each_kept ?_ ?_ | apply State.onTb_kept | apply State.setTbFreq_kept
      | apply State.setChOk_kept | apply State.setFld_kept | apply State.setTbState_kept | apply State.onIsland_kept
      | apply State.islandCapture_kept | apply State.raise_kept | apply kept_ite | assumption)
    | (intro u x hu) | (intro u hu) | extract_lets | split | dsimp only | dsimp +zetaDelta only)
theorem State.clusterClear_kept {z : State} (s : State) (c : Nat) (hz : Kept z s) : Kept z (State.clusterClear s c) := by
  unfold State.clusterClear
  repeat' (first
    | (with_reducible first
      | exact hz | apply State.onCluster_kept | refine State.each_kept ?_ ?_ | apply State.setInjQ_kept | assumption)
    | (intro u x hu) | (intro u hu) | extract_lets | dsimp only | dsimp +zetaDelta only)
theorem State.blockClear_kept {z : State} (s : State) (t : Nat) (hz : Kept z s) : Kept z (State.blockClear s t) := by
  unfold State.blockClear
  repeat' (first
    | (with_reducible first
      | exact hz | apply State.sliceClear_kept | apply State.xbClear_kept | apply State.stackLeave_kept | apply State.engineDown_kept
      | apply State.setUcState_kept | apply State.tuClear_kept | apply State.clusterClear_kept | apply kept_ite | assumption)
    | extract_lets | split | dsimp only | dsimp +zetaDelta only)
theorem State.blockStart_kept {z : State} (s : State) (t : Nat) (byHost : Bool) (cause : Option (Nat × Nat)) (hz : Kept z s) : Kept z
    (State.blockStart s t byHost cause) := by
  unfold State.blockStart
  repeat' (first
    | (with_reducible first
      | exact hz | apply State.onSw_kept | apply State.onBlock_kept | apply State.blockState_kept | apply State.syncGuy_kept
      | apply State.setRst_kept | apply State.blockClear_kept | apply State.setFlag_kept | apply State.setFld_kept | apply kept_ite
      | assumption)
    | (intro u x hu) | (intro u hu) | extract_lets | split | dsimp only | dsimp +zetaDelta only)
theorem State.isolate_kept {z : State} (s : State) (t : Nat) (cause : Option (Nat × Nat)) (hz : Kept z s) : Kept z (State.isolate s t
    cause) := by
  unfold State.isolate
  repeat' (first
    | (with_reducible first
      | exact hz | apply State.onBlock_kept | apply State.leaseRevoke_kept | apply State.setRole_kept | apply State.blockState_kept
      | apply State.syncGuy_kept | apply State.setRst_kept | apply State.blockClear_kept | apply State.raise_kept | apply kept_ite
      | assumption)
    | (intro u x hu) | (intro u hu) | extract_lets | split | dsimp only | dsimp +zetaDelta only)
theorem State.containAct_kept {z : State} (s : State) (pg src : Nat) (hz : Kept z s) : Kept z (State.containAct s pg src) := by
  unfold State.containAct
  repeat' (first
    | (with_reducible first
      | exact hz | apply State.count_kept | apply State.isolate_kept | apply State.fatalEnter_kept | apply State.onBlock_kept
      | apply State.syncContains_kept | apply State.blockStart_kept | apply kept_ite | assumption)
    | (intro u x hu) | (intro u hu) | extract_lets | (split <;> (rename_i q; with_reducible refine kept_of_pair q ?_ (fun hu => ?_)))
    | (split <;> (rename_i q; with_reducible refine kept_of_pair2 q ?_ (fun hu => ?_))) | split | dsimp only | dsimp +zetaDelta only)
theorem State.settleN_kept {z : State} : ∀ (n : Nat) (s : State), Kept z s → Kept z (State.settleN n s)
  | 0, s, hz => by unfold State.settleN; exact hz
  | n + 1, s, hz => by
    unfold State.settleN
    split
    · exact hz
    · exact State.settleN_kept n _ (kept_ite (State.fatalEnter_kept _ _ _ (State.onSys_kept hz rfl))
        (State.containAct_kept _ _ _ (State.onSys_kept hz rfl)))
theorem settle_kept {z : State} (s : State) (hz : Kept z s) : Kept z (settle s) := State.settleN_kept _ _ hz
theorem State.blockDone_kept {z : State} (s : State) (t : Nat) (hz : Kept z s) : Kept z (State.blockDone s t) := by
  unfold State.blockDone
  repeat' (first
    | (with_reducible first
      | exact hz | apply State.onBlock_kept | apply State.setRst_kept | apply State.onIsland_kept | apply State.blockState_kept
      | apply State.count_kept | apply State.raise_kept | assumption)
    | (intro u x hu) | (intro u hu) | extract_lets | dsimp only | dsimp +zetaDelta only)
theorem State.engineBoot_kept {z : State} (s : State) (e : Nat) (hz : Kept z s) : Kept z (State.engineBoot s e) := by
  unfold State.engineBoot
  repeat' (first
    | (with_reducible first
      | exact hz | apply State.setUcState_kept | apply State.raise_kept | apply kept_ite | assumption)
    | extract_lets | split | dsimp only | dsimp +zetaDelta only)
theorem State.doBlockResetReady_kept {z : State} (s : State) (t : Nat) (hz : Kept z s) : Kept z (State.doBlockResetReady s t) := by
  unfold State.doBlockResetReady
  repeat' (first
    | (with_reducible first
      | exact hz | apply State.blockDone_kept | apply State.setFlag_kept | apply State.raise_kept | refine State.each_kept ?_ ?_
      | apply State.kick_kept | apply State.engineBoot_kept | apply State.engineUp_kept | apply State.setUcState_kept
      | apply State.onBoot_kept | apply State.onTime_kept | apply State.setRole_kept | apply kept_ite | assumption)
    | (intro u x hu) | (intro u hu) | extract_lets | split | dsimp only | dsimp +zetaDelta only)
theorem State.doSliceReloadDone_kept {z : State} (s : State) (sl : Nat) (hz : Kept z s) : Kept z (State.doSliceReloadDone s sl) := by
  unfold State.doSliceReloadDone
  repeat' (first
    | (with_reducible first
      | exact hz | apply State.onBlock_kept | apply State.onTables_kept | apply State.setFlag_kept | apply State.setFld_kept | assumption)
    | (intro u x hu) | (intro u hu) | extract_lets | (split <;> (rename_i q; with_reducible refine kept_of_pair q ?_ (fun hu => ?_)))
    | (split <;> (rename_i q; with_reducible refine kept_of_pair2 q ?_ (fun hu => ?_))) | split | dsimp only | dsimp +zetaDelta only)
theorem State.reassert_kept {z : State} (old s : State) (hz : Kept z s) : Kept z (State.reassert old s) :=
  State.each_kept hz fun _ _ hu => State.each_kept hu fun _ _ hv => kept_ite (State.raise_kept _ _ _ hv) hv
theorem State.doGuyWindowEnd_kept {z : State} (s : State) (t : Nat) (hz : Kept z s) : Kept z (State.doGuyWindowEnd s t) := by
  unfold State.doGuyWindowEnd
  repeat' (first
    | (with_reducible first
      | exact hz | apply State.onBlock_kept | apply State.syncGuy_kept | apply State.reassert_kept | apply kept_ite | assumption)
    | (intro u x hu) | (intro u hu) | extract_lets | (split <;> (rename_i q; with_reducible refine kept_of_pair q ?_ (fun hu => ?_)))
    | (split <;> (rename_i q; with_reducible refine kept_of_pair2 q ?_ (fun hu => ?_))) | split | dsimp only | dsimp +zetaDelta only)
theorem State.doStackRemove_kept {z : State} (s : State) (d : Nat) (hz : Kept z s) : Kept z (State.doStackRemove s d) := by
  unfold State.doStackRemove
  repeat' (first
    | (with_reducible first
      | exact hz | apply State.onBlock_kept | apply State.syncGuy_kept | apply State.stackLeave_kept | apply kept_ite | assumption)
    | (intro u x hu) | (intro u hu) | extract_lets | split | dsimp only | dsimp +zetaDelta only)
theorem State.doStackReturn_kept {z : State} (s : State) (d : Nat) (hz : Kept z s) : Kept z (State.doStackReturn s d) := by
  unfold State.doStackReturn
  repeat' (first
    | (with_reducible first
      | exact hz | apply State.blockStart_kept | apply kept_ite | assumption)
    | extract_lets | split | dsimp only | dsimp +zetaDelta only)
theorem State.doStackSelftestDone_kept {z : State} (s : State) (d : Nat) (ok : Bool) (hz : Kept z s) : Kept z (State.doStackSelftestDone
    s d ok) := by
  unfold State.doStackSelftestDone
  repeat' (first
    | (with_reducible first
      | exact hz | apply State.onSw_kept | apply State.blockDone_kept | apply State.stackJoin_kept | apply State.setStackSt_kept
      | apply kept_ite | assumption)
    | (intro u x hu) | (intro u hu) | extract_lets | split | dsimp only | dsimp +zetaDelta only)
theorem State.doRailBreak_kept {z : State} (s : State) (pg src : Nat) (hz : Kept z s) : Kept z (State.doRailBreak s pg src) := by
  unfold State.doRailBreak
  split
  · exact hz
  extract_lets s1 s2 fatal cut s3 s4
  have h2 : Kept z s2 := State.setFlag_kept (State.setFlag_kept (State.setFld_kept (State.setFld_kept hz)))
  clear_value s2 fatal
  have hc : ∀ u, Kept z u → Kept z (cut u) := fun u hu => State.onHost_kept hu ⟨rfl, rfl, rfl⟩
  clear_value cut
  have h3 : Kept z s3 := State.raiseLive_kept _ _ _ (State.count_kept (kept_ite h2 (hc _ h2)))
  clear_value s3
  have h4 : Kept z s4 := State.raise_kept _ _ _ h3
  clear_value s4
  have e : ∀ (y : System) (d : List (Nat × Nat × Nat)), ({ y with due := d } : System).nv = y.nv := fun _ _ => rfl
  exact kept_ite hz (kept_ite (hc _ (State.onSys_kept h4 (e _ _))) h3)
theorem State.doRailRestore_kept {z : State} (s : State) (hz : Kept z s) : Kept z (State.doRailRestore s) := by
  unfold State.doRailRestore
  repeat' (first
    | (with_reducible first
      | exact hz | refine State.onHost_kept ?_ ⟨rfl, rfl, rfl⟩ | apply State.setFlag_kept | apply State.raiseLive_kept
      | apply State.lower_kept | apply kept_ite | refine kept_foldl ?_ ?_ | refine kept_foldl1 ?_ ?_ | assumption)
    | (intro u x hu) | (intro u hu) | extract_lets | split | dsimp only | dsimp +zetaDelta only)
theorem State.tempHigh_kept {z : State} (s : State) (e temp : Nat) (hz : Kept z s) : Kept z (State.tempHigh s e temp) := by
  unfold State.tempHigh
  repeat' (first
    | (with_reducible first
      | exact hz | apply State.raiseLive_kept | apply State.lower_kept | apply kept_ite | assumption)
    | extract_lets | split | dsimp only | dsimp +zetaDelta only)
theorem State.doThermCross_kept {z : State} (s : State) (i temp : Nat) (hz : Kept z s) : Kept z (State.doThermCross s i temp) := by
  unfold State.doThermCross
  repeat' (first
    | (with_reducible first
      | exact hz | apply State.onIsland_kept | apply State.tempHigh_kept | apply State.raiseLive_kept | apply State.alertSet_kept
      | refine State.onSys_kept ?_ rfl | apply State.emit_kept | apply State.lower_kept | apply kept_ite | assumption)
    | (intro u x hu) | (intro u hu) | extract_lets | split | dsimp only | dsimp +zetaDelta only)

/-! ### Machine/Boot.lean -/

theorem State.showNv_kept {z : State} (s : State) (hz : Kept z s) : Kept z (State.showNv s) := by
  unfold State.showNv
  repeat' (first
    | (with_reducible first
      | exact hz | refine State.each_kept ?_ ?_ | apply State.setNvSlot_kept | apply State.setFld_kept | assumption)
    | (intro u x hu) | (intro u hu) | extract_lets | dsimp only | dsimp +zetaDelta only)
theorem State.nvErase_kept {z : State} (s : State) (hz : Kept z s) : Kept z (State.nvErase s) := by
  unfold State.nvErase
  repeat' (first
    | (with_reducible first
      | exact hz | apply State.fresh_kept | refine State.onNv_kept ?_ ⟨rfl, rfl, rfl, rfl⟩ | assumption)
    | (intro u x hu) | (intro u hu) | extract_lets | (split <;> (rename_i q; with_reducible refine kept_of_pair q ?_ (fun hu => ?_)))
    | (split <;> (rename_i q; with_reducible refine kept_of_pair2 q ?_ (fun hu => ?_))) | split | dsimp only | dsimp +zetaDelta only)
theorem State.wipe_kept {z : State} (s : State) (hz : Kept z s) : Kept z (State.wipe s) := by
  unfold State.wipe
  extract_lets s0 next a1 dark a2 nv t a3 twin a4 a5 a6 a7 a8 s1 s2
  have h0 : Kept z s0 := State.twinStop_kept _ hz
  have h1 : Kept z s1 := kept_reset h0 rfl rfl rfl rfl rfl rfl (fun _ he => nomatch he) (.inr rfl) ⟨rfl, rfl, rfl, rfl⟩
  clear_value s1
  have h2 : Kept z s2 := State.each_kept h1 fun u e hu => by
    split
    · exact State.each_kept hu fun v i hv => State.setWear_kept _ _ _ hv
    · exact hu
  exact State.showNv_kept _ (State.each_kept h2 fun u sl hu => State.setLfsr_kept _ _ _ hu)
theorem State.railsOff_kept {z : State} (s : State) (hz : Kept z s) : Kept z (State.railsOff s) := by
  unfold State.railsOff
  repeat' (first
    | (with_reducible first
      | exact hz | apply State.onPower_kept | apply State.emit_kept | apply State.alertSet_kept | apply kept_ite | assumption)
    | (intro u x hu) | (intro u hu) | extract_lets | split | dsimp only | dsimp +zetaDelta only)
theorem State.resetRecord_kept {z : State} (s : State) (scope cause : Nat) (hz : Kept z s) : Kept z (State.resetRecord s scope cause) :=
    by
  unfold State.resetRecord
  repeat' (first
    | (with_reducible first
      | exact hz | apply State.setFld_kept | apply State.setFlag_kept | apply State.onPower_kept | apply State.journalNote_kept
      | assumption)
    | (intro u x hu) | (intro u hu) | extract_lets | dsimp only | dsimp +zetaDelta only)
theorem State.coldReset_kept {z : State} (s : State) (cause : Nat) (hz : Kept z s) : Kept z (State.coldReset s cause) := by
  unfold State.coldReset
  repeat' (first
    | (with_reducible first
      | exact hz | apply State.wipe_kept | apply State.railsOff_kept | apply State.resetRecord_kept | apply State.onBoot_kept
      | refine State.onSys_kept ?_ rfl | apply State.emit_kept | apply kept_ite | assumption)
    | (intro u x hu) | (intro u hu) | extract_lets | split | dsimp only | dsimp +zetaDelta only)
theorem State.warmPorts_kept {z : State} (s : State) (cold : Bool) (hz : Kept z s) : Kept z (State.warmPorts s cold) := by
  unfold State.warmPorts
  repeat' (first
    | (with_reducible first
      | exact hz | refine State.each_kept ?_ ?_ | apply State.setPitch_kept | assumption)
    | (intro u x hu) | (intro u hu) | extract_lets | dsimp only | dsimp +zetaDelta only)
theorem State.warmReset_kept {z : State} (s : State) (cause : Nat) (hz : Kept z s) : Kept z (State.warmReset s cause) := by
  unfold State.warmReset
  extract_lets fatal s0 next a1 h v a2 a3 a9 svc ck kept freed s1 a4 a5 a6 a7 s2 s3 s4 s5 s6 s7
  have h0 : Kept z s0 := State.each_kept (State.flightDrop_kept _ _ (State.leaseRevoke_kept _ _ hz)) fun u i hu =>
    kept_ite (State.doPerfRelease_kept _ _ hu) hu
  clear_value s0 fatal
  have h1 : Kept z s1 := State.warmPorts_kept _ _ h0
  have k1 : ∀ (u : State) (b : Bool), (u.warmPorts b).host = u.host := fun u b => by
    unfold State.warmPorts; dsimp only; refine State.each_keep State.host _ (fun _ _ => ?_) _ _; rfl
  have k6 : ∀ (u : State) (b : Bool), (u.warmPorts b).svc = u.svc := fun u b => by
    unfold State.warmPorts; dsimp only; refine State.each_keep State.svc _ (fun _ _ => ?_) _ _; rfl
  have k2 : h.mem = s0.host.mem := (rfl)
  have k3 : svc.poolMem = s0.svc.poolMem := (rfl)
  have k4 : h.held = [] := (rfl)
  have k5 : h.fifos = s0.lostNotes := (rfl)
  have k7 : ∀ e ∈ h.fifos, e.2.items = [] := by
    rw [k5]; unfold State.lostNotes
    intro e he
    obtain ⟨x, -, rfl⟩ := List.mem_map.mp (List.mem_filter.mp he).1
    rfl
  have h2 : Kept z s2 := kept_reset (s := s1) (t := s2) h1 (rfl) (rfl) (rfl) (rfl) (k2.trans (congrArg HostSt.mem (k1 s0 fatal)).symm) k4
      k7
    (.inl (k3.trans (congrArg Service.poolMem (k6 s0 fatal)).symm)) ⟨rfl, rfl, rfl, rfl⟩
  clear_value s2
  have h3 : Kept z s3 := kept_foldl h2 fun u x hu => State.setFld_kept hu
  clear_value s3
  have h4 : Kept z s4 := State.each_kept h3 fun u t hu => State.syncGuy_kept _ _ (State.blockState_kept _ _ _ hu)
  clear_value s4
  have h5 : Kept z s5 := State.each_kept h4 fun u i hu => State.setRst_kept _ _ _ hu
  clear_value s5
  have h6 : Kept z s6 := State.each_kept h5 fun u sl hu => State.setLfsr_kept _ _ _ hu
  clear_value s6
  have h7 : Kept z s7 := State.showNv_kept _ (State.resetRecord_kept _ _ _ (State.lower_kept _ _ _ h6))
  exact kept_ite (State.raise_kept _ _ _ h7) h7
theorem State.doStandbyPowerUp_kept {z : State} (s : State) (hz : Kept z s) : Kept z (State.doStandbyPowerUp s) := by
  unfold State.doStandbyPowerUp
  extract_lets s1 a1 s2 s3 a2 s4
  have h1 : Kept z s1 := State.wipe_kept _ hz
  clear_value s1
  have h2 : Kept z s2 := kept_mk (s := s1) h1 ⟨rfl, rfl, rfl⟩ rfl ⟨rfl, rfl, rfl, rfl⟩
  clear_value s2
  have h3 : Kept z s3 := State.onIsland_kept _ _ _ h2
  clear_value s3
  have e : ∀ (y : System) (b : Bool) (n : Nv) (p : Power), ({ y with tripPersist := b, nv := n, power := p } : System).nv = n :=
    fun _ _ _ _ => rfl
  have h4 : Kept z s4 := kept_same h3 (by simp only [State.seen, s4, State.onSys, e])
  exact kept_ite hz (State.showNv_kept _ h4)
theorem State.objectLost_kept {z : State} (s : State) (id : Nat) (hz : Kept z s) : Kept z (State.objectLost s id) := by
  unfold State.objectLost
  repeat' (first
    | (with_reducible first
      | exact hz | apply State.countRaise_kept | refine State.onNv_kept ?_ ⟨rfl, rfl, rfl, rfl⟩ | apply State.journal_kept | assumption
      | apply kept_id)
    | (intro u x hu) | (intro u hu) | extract_lets | dsimp only | dsimp +zetaDelta only)
theorem State.doNvMountDone_kept {z : State} (s : State) (lost : List Nat) (hz : Kept z s) : Kept z (State.doNvMountDone s lost) := by
  unfold State.doNvMountDone
  repeat' (first
    | (with_reducible first
      | exact hz | refine State.onNv_kept ?_ ⟨rfl, rfl, rfl, rfl⟩ | refine State.each_kept ?_ ?_ | apply State.setNvSlot_kept
      | apply State.objectLost_kept | apply State.showNv_kept | apply kept_ite | assumption)
    | (intro u x hu) | (intro u hu) | extract_lets | split | dsimp only | dsimp +zetaDelta only)
theorem State.powerUp_kept {z : State} (s : State) (hz : Kept z s) : Kept z (State.powerUp s) := by
  unfold State.powerUp
  repeat' (first
    | (with_reducible first
      | exact hz | apply State.onPower_kept | apply State.coldReset_kept | refine State.each_kept ?_ ?_ | apply State.setWearHour_kept
      | assumption)
    | (intro u x hu) | (intro u hu) | extract_lets | dsimp only | dsimp +zetaDelta only)
theorem State.doMainPowerUp_kept {z : State} (s : State) (hz : Kept z s) : Kept z (State.doMainPowerUp s) := by
  unfold State.doMainPowerUp
  repeat' (first
    | (with_reducible first
      | exact hz | apply State.powerUp_kept | apply kept_ite | assumption)
    | extract_lets | split | dsimp only | dsimp +zetaDelta only)
theorem State.doRailsInRegulation_kept {z : State} (s : State) (hz : Kept z s) : Kept z (State.doRailsInRegulation s) := by
  unfold State.doRailsInRegulation
  repeat' (first
    | (with_reducible first
      | exact hz | apply State.onPower_kept | apply State.emit_kept | apply State.alertSet_kept | refine State.each_kept ?_ ?_
      | apply State.onIsland_kept | apply kept_ite | assumption)
    | (intro u x hu) | (intro u hu) | extract_lets | split | dsimp only | dsimp +zetaDelta only)
theorem State.doIslandsClocked_kept {z : State} (s : State) (hz : Kept z s) : Kept z (State.doIslandsClocked s) := by
  unfold State.doIslandsClocked
  repeat' (first
    | (with_reducible first
      | exact hz | refine State.each_kept ?_ ?_ | apply State.onIsland_kept | apply State.setRst_kept | apply State.onTime_kept
      | apply State.raiseLive_kept | apply kept_ite | assumption)
    | (intro u x hu) | (intro u hu) | extract_lets | split | dsimp only | dsimp +zetaDelta only)
theorem State.chooseIn_kept {z : State} (st : Nat) : ∀ (x0 : List Nat) (s : State), Kept z s → Kept z (State.chooseIn s st x0).1
  | [], s, hz => by unfold State.chooseIn; repeat' (first
    | (with_reducible first
      | apply State.chooseIn_kept | exact hz | apply State.setSlotState_kept | apply State.raise_kept | apply kept_ite | assumption)
    | extract_lets | split | dsimp only | dsimp +zetaDelta only)
  | k :: r, s, hz => by unfold State.chooseIn; repeat' (first
    | (with_reducible first
      | apply State.chooseIn_kept | exact hz | apply State.setSlotState_kept | apply State.raise_kept | apply kept_ite | assumption)
    | extract_lets | split | dsimp only | dsimp +zetaDelta only)
theorem State.chooseSlot_kept {z : State} (s : State) (hz : Kept z s) : Kept z (State.chooseSlot s).1 := by
  unfold State.chooseSlot
  repeat' (first
    | (with_reducible first
      | exact hz | apply State.chooseIn_kept | assumption)
    | extract_lets | (split <;> (rename_i q; with_reducible refine kept_of_pair q ?_ (fun hu => ?_)))
    | (split <;> (rename_i q; with_reducible refine kept_of_pair2 q ?_ (fun hu => ?_))) | split | dsimp only | dsimp +zetaDelta only)
theorem State.bivouacEnter_kept {z : State} (s : State) (cause : Nat) (hz : Kept z s) : Kept z (State.bivouacEnter s cause) := by
  unfold State.bivouacEnter
  repeat' (first
    | (with_reducible first
      | exact hz | apply State.onBoot_kept | apply State.twinStop_kept | refine State.each_kept ?_ ?_ | apply State.engineDown_kept
      | apply State.setUcState_kept | apply State.setRst_kept | apply State.raiseLive_kept | apply State.journalNote_kept | assumption)
    | (intro u x hu) | (intro u hu) | extract_lets | dsimp only | dsimp +zetaDelta only)
theorem State.coresReady_kept {z : State} (s : State) (hz : Kept z s) : Kept z (State.coresReady s) := by
  unfold State.coresReady
  repeat' (first
    | (with_reducible first
      | exact hz | refine State.each_kept ?_ ?_ | apply State.setRst_kept | apply State.setFlag_kept | apply State.kick_kept
      | apply kept_ite | assumption)
    | (intro u x hu) | (intro u hu) | extract_lets | split | dsimp only | dsimp +zetaDelta only)
theorem State.doBootVerifyDone_kept {z : State} (s : State) (hz : Kept z s) : Kept z (State.doBootVerifyDone s) := by
  unfold State.doBootVerifyDone
  repeat' (first
    | (with_reducible first
      | exact hz | apply State.setRst_kept | apply State.onBoot_kept | apply State.bivouacEnter_kept | apply State.chooseSlot_kept
      | apply State.journalNote_kept | apply State.lower_kept | apply State.coresReady_kept | apply kept_ite | assumption)
    | (intro u x hu) | (intro u hu) | extract_lets | (split <;> (rename_i q; with_reducible refine kept_of_pair q ?_ (fun hu => ?_)))
    | (split <;> (rename_i q; with_reducible refine kept_of_pair2 q ?_ (fun hu => ?_))) | split | dsimp only | dsimp +zetaDelta only)
theorem State.doMicrocodeLoaded_kept {z : State} (s : State) (hz : Kept z s) : Kept z (State.doMicrocodeLoaded s) := by
  unfold State.doMicrocodeLoaded
  repeat' (first
    | (with_reducible first
      | exact hz | apply State.onBoot_kept | refine State.each_kept ?_ ?_ | apply State.setRst_kept | apply State.engineBoot_kept
      | apply kept_ite | assumption)
    | (intro u x hu) | (intro u hu) | extract_lets | split | dsimp only | dsimp +zetaDelta only)
theorem State.doIslandsSelftestDone_kept {z : State} (s : State) (hz : Kept z s) : Kept z (State.doIslandsSelftestDone s) := by
  unfold State.doIslandsSelftestDone
  extract_lets s1 k s2
  have h1 : Kept z s1 := State.coresReady_kept _ (State.onBoot_kept hz)
  clear_value k s1
  have e : ∀ (v : Service) (x : List Ckpt), ({ v with slots := x } : Service).poolMem = v.poolMem := fun _ _ => rfl
  have h2 : Kept z s2 := State.onSvc_kept h1 (e _ _)
  exact kept_ite hz (kept_ite (State.setFld_kept (State.setFld_kept (State.setFlag_kept h2))) h1)
theorem State.doMaelwickLoaded_kept {z : State} (s : State) (hz : Kept z s) : Kept z (State.doMaelwickLoaded s) := by
  unfold State.doMaelwickLoaded
  repeat' (first
    | (with_reducible first
      | exact hz | refine State.each_kept ?_ ?_ | apply State.setRst_kept | apply State.standbyReady_kept
      | apply State.doLeaseGuardEnd_kept | apply State.doLeaseClaim_kept | apply State.onCluster_kept | apply State.count_kept
      | apply State.onBoot_kept | apply kept_ite | assumption)
    | (intro u x hu) | (intro u hu) | extract_lets | (split <;> (rename_i q; with_reducible refine kept_of_pair q ?_ (fun hu => ?_)))
    | (split <;> (rename_i q; with_reducible refine kept_of_pair2 q ?_ (fun hu => ?_))) | split | dsimp only | dsimp +zetaDelta only)
theorem State.doTrialTimeout_kept {z : State} (s : State) (hz : Kept z s) : Kept z (State.doTrialTimeout s) := by
  unfold State.doTrialTimeout
  repeat' (first
    | (with_reducible first
      | exact hz | apply State.trialFail_kept | apply kept_ite | assumption)
    | extract_lets | (split <;> (rename_i q; with_reducible refine kept_of_pair q ?_ (fun hu => ?_)))
    | (split <;> (rename_i q; with_reducible refine kept_of_pair2 q ?_ (fun hu => ?_))) | split | dsimp only | dsimp +zetaDelta only)
theorem State.nvRefused_kept {z : State} (s : State) (b : Bool) (hz : Kept z s) : Kept z (State.nvRefused s b) := by
  unfold State.nvRefused
  repeat' (first
    | (with_reducible first
      | exact hz | apply State.setFlag_kept | assumption)
    | extract_lets | dsimp only | dsimp +zetaDelta only)
theorem State.nvRefuse_kept {z : State} (s : State) (obj : Bool) (hz : Kept z s) : Kept z (State.nvRefuse s obj) := by
  unfold State.nvRefuse
  repeat' (first
    | (with_reducible first
      | exact hz | apply State.setFld_kept | apply State.nvRefused_kept | assumption)
    | extract_lets | dsimp only | dsimp +zetaDelta only)
theorem State.nvStart_kept {z : State} (s : State) (bad : Bool) (c : NvCmd) (hz : Kept z s) : Kept z (State.nvStart s bad c) := by
  unfold State.nvStart
  repeat' (first
    | (with_reducible first
      | exact hz | apply State.nvRefused_kept | apply State.nvRefuse_kept | refine State.onNv_kept ?_ ⟨rfl, rfl, rfl, rfl⟩
      | apply State.setFld_kept | apply kept_ite | assumption)
    | (intro u x hu) | (intro u hu) | extract_lets | split | dsimp only | dsimp +zetaDelta only)
theorem State.nvDone_kept {z : State} (s : State) (obj : Bool) (r : Nat) (hz : Kept z s) : Kept z (State.nvDone s obj r) := by
  unfold State.nvDone
  repeat' (first
    | (with_reducible first
      | exact hz | refine State.onNv_kept ?_ ⟨rfl, rfl, rfl, rfl⟩ | apply State.setFld_kept | assumption)
    | (intro u x hu) | (intro u hu) | extract_lets | dsimp only | dsimp +zetaDelta only)
theorem State.doUpdateBegin_kept {z : State} (s : State) (k : Nat) (hz : Kept z s) : Kept z (State.doUpdateBegin s k) := by
  unfold State.doUpdateBegin
  repeat' (first
    | (with_reducible first
      | exact hz | apply State.nvStart_kept | assumption)
    | extract_lets | dsimp only | dsimp +zetaDelta only)
theorem State.doUpdateWrite_kept {z : State} (s : State) (k i : Nat) (hz : Kept z s) : Kept z (State.doUpdateWrite s k i) := by
  unfold State.doUpdateWrite
  repeat' (first
    | (with_reducible first
      | exact hz | apply State.nvStart_kept | assumption)
    | (intro u x hu) | (intro u hu) | extract_lets | dsimp only | dsimp +zetaDelta only)
theorem State.doUpdateFinish_kept {z : State} (s : State) (k : Nat) (hz : Kept z s) : Kept z (State.doUpdateFinish s k) := by
  unfold State.doUpdateFinish
  repeat' (first
    | (with_reducible first
      | exact hz | apply State.nvStart_kept | assumption)
    | extract_lets | dsimp only | dsimp +zetaDelta only)
theorem State.doUpdateAbandon_kept {z : State} (s : State) (k : Nat) (hz : Kept z s) : Kept z (State.doUpdateAbandon s k) := by
  unfold State.doUpdateAbandon
  repeat' (first
    | (with_reducible first
      | exact hz | apply State.nvStart_kept | assumption)
    | extract_lets | dsimp only | dsimp +zetaDelta only)
theorem State.doUpdateConfirm_kept {z : State} (s : State) (hz : Kept z s) : Kept z (State.doUpdateConfirm s) := by
  unfold State.doUpdateConfirm
  repeat' (first
    | (with_reducible first
      | exact hz | apply State.nvStart_kept | assumption)
    | extract_lets | (split <;> (rename_i q; with_reducible refine kept_of_pair q ?_ (fun hu => ?_)))
    | (split <;> (rename_i q; with_reducible refine kept_of_pair2 q ?_ (fun hu => ?_))) | split | dsimp only | dsimp +zetaDelta only)
theorem State.doUpdateSelect_kept {z : State} (s : State) (k : Nat) (hz : Kept z s) : Kept z (State.doUpdateSelect s k) := by
  unfold State.doUpdateSelect
  repeat' (first
    | (with_reducible first
      | exact hz | apply State.nvStart_kept | assumption)
    | extract_lets | dsimp only | dsimp +zetaDelta only)
theorem State.doObjectWrite_kept {z : State} (s : State) (hz : Kept z s) : Kept z (State.doObjectWrite s) := by
  unfold State.doObjectWrite
  repeat' (first
    | (with_reducible first
      | exact hz | apply State.nvStart_kept | assumption)
    | extract_lets | dsimp only | dsimp +zetaDelta only)
theorem State.doObjectRead_kept {z : State} (s : State) (hz : Kept z s) : Kept z (State.doObjectRead s) := by
  unfold State.doObjectRead
  repeat' (first
    | (with_reducible first
      | exact hz | apply State.nvStart_kept | assumption | apply kept_id)
    | extract_lets | dsimp only | dsimp +zetaDelta only)
theorem State.doObjectDelete_kept {z : State} (s : State) (hz : Kept z s) : Kept z (State.doObjectDelete s) := by
  unfold State.doObjectDelete
  repeat' (first
    | (with_reducible first
      | exact hz | apply State.nvStart_kept | assumption)
    | extract_lets | dsimp only | dsimp +zetaDelta only)
theorem State.objAnswer_kept {z : State} (s : State) (h : Nat) (b : List Byte) (hz : Kept z s) : Kept z (State.objAnswer s h b) := by
  unfold State.objAnswer
  repeat' (first
    | (with_reducible first
      | exact hz | apply State.nvRefuse_kept | apply State.nvDone_kept | refine State.onSvc_kept ?_ rfl | apply State.setFld_kept
      | apply kept_ite | assumption)
    | refine State.onSvc_kept_write ?_ rfl | (intro u x hu) | (intro u hu) | extract_lets | split | dsimp only | dsimp +zetaDelta only)
theorem State.objCommit_kept {z : State} (s : State) (id : Nat) (body : List Byte) (deleted : Bool) (hz : Kept z s) : Kept z
    (State.objCommit s id body deleted) := by
  unfold State.objCommit
  repeat' (first
    | (with_reducible first
      | exact hz | apply State.nvErase_kept | refine State.onNv_kept ?_ ⟨rfl, rfl, rfl, rfl⟩ | assumption | apply kept_id)
    | (intro u x hu) | (intro u hu) | extract_lets | (split <;> (rename_i q; with_reducible refine kept_of_pair q ?_ (fun hu => ?_)))
    | (split <;> (rename_i q; with_reducible refine kept_of_pair2 q ?_ (fun hu => ?_))) | split | dsimp only | dsimp +zetaDelta only)
theorem State.objectDone_kept {z : State} (s : State) (c : NvCmd) (hz : Kept z s) : Kept z (State.objectDone s c) := by
  unfold State.objectDone
  repeat' (first
    | (with_reducible first
      | exact hz | apply State.nvDone_kept | apply State.objCommit_kept | apply State.objAnswer_kept | apply kept_ite | assumption)
    | extract_lets | (split <;> (rename_i q; with_reducible refine kept_of_pair q ?_ (fun hu => ?_)))
    | (split <;> (rename_i q; with_reducible refine kept_of_pair2 q ?_ (fun hu => ?_))) | split | dsimp only | dsimp +zetaDelta only)
theorem State.finishDone_kept {z : State} (s : State) (k : Nat) (hz : Kept z s) : Kept z (State.finishDone s k) := by
  unfold State.finishDone
  repeat' (first
    | (with_reducible first
      | exact hz | apply State.fresh_kept | apply State.setNvSlot_kept | apply State.setSlotState_kept | apply State.nvDone_kept
      | apply State.journalNote_kept | apply kept_ite | assumption | apply kept_id)
    | extract_lets | (split <;> (rename_i q; with_reducible refine kept_of_pair q ?_ (fun hu => ?_)))
    | (split <;> (rename_i q; with_reducible refine kept_of_pair2 q ?_ (fun hu => ?_))) | split | dsimp only | dsimp +zetaDelta only)
theorem State.updateDone_kept {z : State} (s : State) (c : NvCmd) (hz : Kept z s) : Kept z (State.updateDone s c) := by
  unfold State.updateDone
  repeat' (first
    | (with_reducible first
      | exact hz | apply State.nvErase_kept | apply State.setNvSlot_kept | apply State.journalNote_kept | apply State.nvDone_kept
      | apply State.finishDone_kept | refine State.each_kept ?_ ?_ | apply State.setSlotState_kept | apply State.onBoot_kept
      | apply kept_ite | assumption)
    | (intro u x hu) | (intro u hu) | extract_lets | (split <;> (rename_i q; with_reducible refine kept_of_pair q ?_ (fun hu => ?_)))
    | (split <;> (rename_i q; with_reducible refine kept_of_pair2 q ?_ (fun hu => ?_))) | split | dsimp only | dsimp +zetaDelta only)
theorem State.verifyFailed_kept {z : State} (s : State) (c : NvCmd) (hz : Kept z s) : Kept z (State.verifyFailed s c) := by
  unfold State.verifyFailed
  repeat' (first
    | (with_reducible first
      | exact hz | apply State.nvErase_kept | apply State.nvDone_kept | apply State.setNvSlot_kept | apply State.journalNote_kept
      | apply kept_ite | assumption)
    | extract_lets | split | dsimp only | dsimp +zetaDelta only)
theorem State.doNvCommandDone_kept {z : State} (s : State) (verified : Bool) (hz : Kept z s) : Kept z (State.doNvCommandDone s verified)
    := by
  unfold State.doNvCommandDone
  repeat' (first
    | (with_reducible first
      | exact hz | apply State.verifyFailed_kept | apply State.objectDone_kept | apply State.updateDone_kept | apply State.showNv_kept
      | apply kept_ite | assumption)
    | extract_lets | (split <;> (rename_i q; with_reducible refine kept_of_pair q ?_ (fun hu => ?_)))
    | (split <;> (rename_i q; with_reducible refine kept_of_pair2 q ?_ (fun hu => ?_))) | split | dsimp only | dsimp +zetaDelta only)
theorem State.doDiagRun_kept {z : State} (s : State) (i : Nat) (hz : Kept z s) : Kept z (State.doDiagRun s i) := by
  unfold State.doDiagRun
  repeat' (first
    | (with_reducible first
      | exact hz | apply State.nvRefused_kept | apply State.onBoot_kept | apply State.setRst_kept | apply State.setFld_kept
      | apply kept_ite | assumption)
    | (intro u x hu) | (intro u hu) | extract_lets | split | dsimp only | dsimp +zetaDelta only)
theorem State.doDiagDone_kept {z : State} (s : State) (ok : Bool) (hz : Kept z s) : Kept z (State.doDiagDone s ok) := by
  unfold State.doDiagDone
  repeat' (first
    | (with_reducible first
      | exact hz | apply State.onBoot_kept | apply State.setRst_kept | apply State.setFld_kept | apply kept_ite | assumption)
    | (intro u x hu) | (intro u hu) | extract_lets | (split <;> (rename_i q; with_reducible refine kept_of_pair q ?_ (fun hu => ?_)))
    | (split <;> (rename_i q; with_reducible refine kept_of_pair2 q ?_ (fun hu => ?_))) | split | dsimp only | dsimp +zetaDelta only)
theorem State.doSvnRaise_kept {z : State} (s : State) (floor : Nat) (hz : Kept z s) : Kept z (State.doSvnRaise s floor) := by
  unfold State.doSvnRaise
  extract_lets ok
  split
  · next h =>
    simp only [ok, Bool.and_eq_true, decide_eq_true_eq] at h
    exact State.nvRefused_kept _ _ (State.setFld_kept (hz.trans
      ⟨rfl, rfl, ⟨[], rfl⟩, Nat.le_refl _, ⟨by have := h.1; unfold State.onNv State.onSys; dsimp only; omega, rfl, rfl, rfl⟩, id, id,
          id⟩))
  · exact State.nvRefused_kept _ _ hz
theorem State.doNvCkptCopyDone_kept {z : State} (s : State) (hz : Kept z s) : Kept z (State.doNvCkptCopyDone s) := by
  unfold State.doNvCkptCopyDone
  repeat' (first
    | (with_reducible first
      | exact hz | apply State.nvErase_kept | refine State.onNv_kept ?_ ⟨rfl, rfl, rfl, rfl⟩ | apply State.countRaise_kept | assumption)
    | (intro u x hu) | (intro u hu) | extract_lets | (split <;> (rename_i q; with_reducible refine kept_of_pair q ?_ (fun hu => ?_)))
    | (split <;> (rename_i q; with_reducible refine kept_of_pair2 q ?_ (fun hu => ?_))) | split | dsimp only | dsimp +zetaDelta only)
theorem State.programJournal_kept {z : State} (s : State) (hz : Kept z s) : Kept z (State.programJournal s) := by
  unfold State.programJournal
  repeat' (first
    | (with_reducible first
      | exact hz | refine State.onNv_kept ?_ ⟨rfl, rfl, rfl, rfl⟩ | apply State.journal_kept | apply State.nvErase_kept
      | apply State.raise_kept | apply kept_ite | assumption)
    | (intro u x hu) | (intro u hu) | extract_lets | split | dsimp only | dsimp +zetaDelta only)
theorem State.doJournalPageProgram_kept {z : State} (s : State) (hz : Kept z s) : Kept z (State.doJournalPageProgram s) := by
  unfold State.doJournalPageProgram
  repeat' (first
    | (with_reducible first
      | exact hz | apply State.programJournal_kept | apply kept_ite | assumption)
    | extract_lets | split | dsimp only | dsimp +zetaDelta only)
theorem State.doNvRefreshScan_kept {z : State} (s : State) (corrected : Nat) (old retired : Bool) (hz : Kept z s) : Kept z
    (State.doNvRefreshScan s corrected old retired) := by
  unfold State.doNvRefreshScan
  repeat' (first
    | (with_reducible first
      | exact hz | apply State.nvErase_kept | apply State.countRaise_kept | refine State.onNv_kept ?_ ⟨rfl, rfl, rfl, rfl⟩
      | apply State.raise_kept | apply State.showNv_kept | apply kept_ite | assumption)
    | (intro u x hu) | (intro u hu) | extract_lets | split | dsimp only | dsimp +zetaDelta only)

/-! ### Machine/Power.lean -/

theorem State.guardedRun_kept {z : State} (s : State) (w : Who) (page off : Nat) (run : State → State) (hz : Kept z s) (hr : ∀ u, Kept z
    u → Kept z (run u)) : Kept z (State.guardedRun s w page off run) := by
  unfold State.guardedRun
  repeat' (first
    | (with_reducible first
      | exact hz | apply hr | apply State.fwDenied_kept | apply State.count_kept | apply kept_ite | assumption)
    | extract_lets | (split <;> (rename_i q; with_reducible refine kept_of_pair q ?_ (fun hu => ?_)))
    | (split <;> (rename_i q; with_reducible refine kept_of_pair2 q ?_ (fun hu => ?_))) | split | dsimp only | dsimp +zetaDelta only)
theorem State.doColdResetCmd_kept {z : State} (s : State) (w : Who) (hz : Kept z s) : Kept z (State.doColdResetCmd s w) := by
  unfold State.doColdResetCmd
  repeat' (first
    | (with_reducible first
      | exact hz | apply State.guardedRun_kept | apply State.coldReset_kept | assumption)
    | (intro u x hu) | (intro u hu) | extract_lets | dsimp only | dsimp +zetaDelta only)
theorem State.doWarmResetCmd_kept {z : State} (s : State) (w : Who) (hz : Kept z s) : Kept z (State.doWarmResetCmd s w) := by
  unfold State.doWarmResetCmd
  repeat' (first
    | (with_reducible first
      | exact hz | apply State.guardedRun_kept | apply State.fltcRefused_kept | apply State.warmReset_kept | apply kept_ite | assumption)
    | (intro u x hu) | (intro u hu) | extract_lets | split | dsimp only | dsimp +zetaDelta only)
theorem State.clusterReset_kept {z : State} (s : State) (c : Nat) (hz : Kept z s) : Kept z (State.clusterReset s c) := by
  unfold State.clusterReset
  repeat' (first
    | (with_reducible first
      | exact hz | apply State.leaseRevoke_kept | apply State.trialFail_kept | apply State.blockStart_kept | apply State.setRole_kept
      | apply State.setCause_kept | apply kept_ite | assumption)
    | extract_lets | split | dsimp only | dsimp +zetaDelta only)
theorem State.releaseTarget_kept {z : State} (s : State) (t : Nat) (hz : Kept z s) : Kept z (State.releaseTarget s t) := by
  unfold State.releaseTarget
  repeat' (first
    | (with_reducible first
      | exact hz | apply State.onBlock_kept | apply State.syncContains_kept | apply State.clusterReset_kept
      | apply State.blockStart_kept | apply kept_ite | assumption)
    | (intro u x hu) | (intro u hu) | extract_lets | split | dsimp only | dsimp +zetaDelta only)
theorem State.doBlockResetCmd_kept {z : State} (s : State) (w : Who) (t : Nat) (hz : Kept z s) : Kept z (State.doBlockResetCmd s w t) :=
    by
  unfold State.doBlockResetCmd
  repeat' (first
    | (with_reducible first
      | exact hz | apply State.guardedRun_kept | apply State.fltcRefused_kept | apply State.blockStart_kept | apply kept_ite | assumption)
    | (intro u x hu) | (intro u hu) | extract_lets | split | dsimp only | dsimp +zetaDelta only)
theorem State.doClusterResetCmd_kept {z : State} (s : State) (w : Who) (t : Nat) (hz : Kept z s) : Kept z (State.doClusterResetCmd s w t)
    := by
  unfold State.doClusterResetCmd
  repeat' (first
    | (with_reducible first
      | exact hz | apply State.guardedRun_kept | apply State.fltcRefused_kept | apply State.releaseTarget_kept
      | apply State.clusterReset_kept | apply kept_ite | assumption)
    | (intro u x hu) | (intro u hu) | extract_lets | split | dsimp only | dsimp +zetaDelta only)
theorem State.doReleaseIsolated_kept {z : State} (s : State) (w : Who) (t : Nat) (hz : Kept z s) : Kept z (State.doReleaseIsolated s w t)
    := by
  unfold State.doReleaseIsolated
  repeat' (first
    | (with_reducible first
      | exact hz | apply State.guardedRun_kept | apply State.fltcRefused_kept | apply State.releaseTarget_kept | apply kept_ite
      | assumption)
    | (intro u x hu) | (intro u hu) | extract_lets | split | dsimp only | dsimp +zetaDelta only)
theorem State.doRecordClrFatal_kept {z : State} (s : State) (hz : Kept z s) : Kept z (State.doRecordClrFatal s) := by
  unfold State.doRecordClrFatal
  repeat' (first
    | (with_reducible first
      | exact hz | apply State.fltcRefused_kept | refine State.each_kept ?_ ?_ | apply State.wr_kept | apply kept_ite | assumption)
    | (intro u x hu) | (intro u hu) | extract_lets | split | dsimp only | dsimp +zetaDelta only)
theorem State.doRecordClrLast_kept {z : State} (s : State) (hz : Kept z s) : Kept z (State.doRecordClrLast s) := by
  unfold State.doRecordClrLast
  repeat' (first
    | (with_reducible first
      | exact hz | apply State.wr_kept | apply State.fltcRefused_kept | assumption)
    | extract_lets | dsimp only | dsimp +zetaDelta only)
theorem State.doResetNAssert_kept {z : State} (s : State) (ns : Nat) (hz : Kept z s) : Kept z (State.doResetNAssert s ns) := by
  unfold State.doResetNAssert
  repeat' (first
    | (with_reducible first
      | exact hz | apply State.fresh_kept | apply State.coldReset_kept | apply State.onPower_kept | apply State.onBoot_kept
      | apply kept_ite | assumption)
    | (intro u x hu) | (intro u hu) | extract_lets | (split <;> (rename_i q; with_reducible refine kept_of_pair q ?_ (fun hu => ?_)))
    | (split <;> (rename_i q; with_reducible refine kept_of_pair2 q ?_ (fun hu => ?_))) | split | dsimp only | dsimp +zetaDelta only)
theorem State.doResetNRelease_kept {z : State} (s : State) (hz : Kept z s) : Kept z (State.doResetNRelease s) := by
  unfold State.doResetNRelease
  repeat' (first
    | (with_reducible first
      | exact hz | apply State.onPower_kept | apply State.onBoot_kept | apply kept_ite | assumption)
    | (intro u x hu) | (intro u hu) | extract_lets | split | dsimp only | dsimp +zetaDelta only)
theorem State.nvPowerFail_kept {z : State} (s : State) (hz : Kept z s) : Kept z (State.nvPowerFail s) := by
  unfold State.nvPowerFail
  repeat' (first
    | (with_reducible first
      | exact hz | apply State.nvDone_kept | apply State.programJournal_kept | refine State.onNv_kept ?_ ⟨rfl, rfl, rfl, rfl⟩
      | apply kept_ite | refine kept_foldl ?_ ?_ | refine kept_foldl1 ?_ ?_ | assumption)
    | (intro u x hu) | (intro u hu) | extract_lets | split | dsimp only | dsimp +zetaDelta only)
theorem State.doPowerFailInput_kept {z : State} (s : State) (c : PowerFailCause) (hz : Kept z s) : Kept z (State.doPowerFailInput s c) :=
    by
  unfold State.doPowerFailInput
  repeat' (first
    | (with_reducible first
      | exact hz | apply State.raiseLive_kept | apply State.nvPowerFail_kept | apply State.onPower_kept | apply settle_kept
      | apply kept_ite | assumption)
    | (intro u x hu) | (intro u hu) | extract_lets | (split <;> (rename_i q; with_reducible refine kept_of_pair q ?_ (fun hu => ?_)))
    | (split <;> (rename_i q; with_reducible refine kept_of_pair2 q ?_ (fun hu => ?_))) | split | dsimp only | dsimp +zetaDelta only)
theorem State.doVin12Low_kept {z : State} (s : State) (hz : Kept z s) : Kept z (State.doVin12Low s) := by
  unfold State.doVin12Low
  repeat' (first
    | (with_reducible first
      | exact hz | apply State.railsOff_kept | apply State.onPower_kept | apply State.wipe_kept
      | refine State.onNv_kept ?_ ⟨rfl, rfl, rfl, rfl⟩ | apply kept_ite | assumption)
    | (intro u x hu) | (intro u hu) | extract_lets | split | dsimp only | dsimp +zetaDelta only)
theorem State.doVin12Off_kept {z : State} (s : State) (hz : Kept z s) : Kept z (State.doVin12Off s) := by
  unfold State.doVin12Off
  repeat' (first
    | (with_reducible first
      | exact hz | apply State.onPower_kept | apply State.onBoot_kept | apply kept_ite | assumption)
    | (intro u x hu) | (intro u hu) | extract_lets | split | dsimp only | dsimp +zetaDelta only)
theorem State.doVin12Return_kept {z : State} (s : State) (hz : Kept z s) : Kept z (State.doVin12Return s) := by
  unfold State.doVin12Return
  repeat' (first
    | (with_reducible first
      | exact hz | apply State.onPower_kept | apply State.onBoot_kept | apply kept_ite | assumption)
    | (intro u x hu) | (intro u hu) | extract_lets | split | dsimp only | dsimp +zetaDelta only)
theorem State.bmcAnswer_kept {z : State} (s : State) (b : List Byte) (hz : Kept z s) : Kept z (State.bmcAnswer s b) := by
  unfold State.bmcAnswer
  repeat' (first
    | (with_reducible first
      | exact hz | apply State.emit_kept | apply kept_ite | assumption)
    | extract_lets | split | dsimp only | dsimp +zetaDelta only)
theorem State.doBmcReadIdentity_kept {z : State} (s : State) (hz : Kept z s) : Kept z (State.doBmcReadIdentity s) := by
  unfold State.doBmcReadIdentity
  repeat' (first
    | (with_reducible first
      | exact hz | apply State.bmcAnswer_kept | assumption)
    | extract_lets | dsimp only | dsimp +zetaDelta only)
theorem State.doBmcReadDevInfo_kept {z : State} (s : State) (hz : Kept z s) : Kept z (State.doBmcReadDevInfo s) := by
  unfold State.doBmcReadDevInfo
  repeat' (first
    | (with_reducible first
      | exact hz | apply State.bmcAnswer_kept | assumption)
    | extract_lets | dsimp only | dsimp +zetaDelta only)
theorem State.doBmcReadStatus_kept {z : State} (s : State) (hz : Kept z s) : Kept z (State.doBmcReadStatus s) := by
  unfold State.doBmcReadStatus
  repeat' (first
    | (with_reducible first
      | exact hz | apply State.bmcAnswer_kept | apply kept_ite | assumption)
    | (intro u x hu) | (intro u hu) | extract_lets | split | dsimp only | dsimp +zetaDelta only)
theorem State.doBmcReadTemp_kept {z : State} (s : State) (hz : Kept z s) : Kept z (State.doBmcReadTemp s) := by
  unfold State.doBmcReadTemp
  repeat' (first
    | (with_reducible first
      | exact hz | apply State.bmcAnswer_kept | assumption)
    | extract_lets | dsimp only | dsimp +zetaDelta only)
theorem State.doBmcReadVin12_kept {z : State} (s : State) (hz : Kept z s) : Kept z (State.doBmcReadVin12 s) := by
  unfold State.doBmcReadVin12
  repeat' (first
    | (with_reducible first
      | exact hz | apply State.bmcAnswer_kept | assumption)
    | extract_lets | dsimp only | dsimp +zetaDelta only)
theorem State.doBmcReadVin12Current_kept {z : State} (s : State) (hz : Kept z s) : Kept z (State.doBmcReadVin12Current s) := by
  unfold State.doBmcReadVin12Current
  repeat' (first
    | (with_reducible first
      | exact hz | apply State.bmcAnswer_kept | assumption)
    | extract_lets | dsimp only | dsimp +zetaDelta only)
theorem State.doBmcReadVsb33_kept {z : State} (s : State) (hz : Kept z s) : Kept z (State.doBmcReadVsb33 s) := by
  unfold State.doBmcReadVsb33
  repeat' (first
    | (with_reducible first
      | exact hz | apply State.bmcAnswer_kept | assumption)
    | extract_lets | dsimp only | dsimp +zetaDelta only)
theorem State.doBmcReadPower_kept {z : State} (s : State) (hz : Kept z s) : Kept z (State.doBmcReadPower s) := by
  unfold State.doBmcReadPower
  repeat' (first
    | (with_reducible first
      | exact hz | apply State.bmcAnswer_kept | assumption)
    | extract_lets | dsimp only | dsimp +zetaDelta only)
theorem State.doBmcReadFatal_kept {z : State} (s : State) (hz : Kept z s) : Kept z (State.doBmcReadFatal s) := by
  unfold State.doBmcReadFatal
  repeat' (first
    | (with_reducible first
      | exact hz | apply State.bmcAnswer_kept | assumption)
    | (intro u x hu) | (intro u hu) | extract_lets | dsimp only | dsimp +zetaDelta only)
theorem State.doBmcReadLastReset_kept {z : State} (s : State) (hz : Kept z s) : Kept z (State.doBmcReadLastReset s) := by
  unfold State.doBmcReadLastReset
  repeat' (first
    | (with_reducible first
      | exact hz | apply State.bmcAnswer_kept | assumption)
    | extract_lets | dsimp only | dsimp +zetaDelta only)
theorem State.doBmcReadAlertStatus_kept {z : State} (s : State) (hz : Kept z s) : Kept z (State.doBmcReadAlertStatus s) := by
  unfold State.doBmcReadAlertStatus
  repeat' (first
    | (with_reducible first
      | exact hz | apply State.bmcAnswer_kept | assumption)
    | extract_lets | dsimp only | dsimp +zetaDelta only)
theorem State.bmcWrite_kept {z : State} (s : State) (ok : Bool) (run : State → State) (hz : Kept z s) (hr : ∀ u, Kept z u → Kept z (run
    u)) : Kept z (State.bmcWrite s ok run) := by
  unfold State.bmcWrite
  repeat' (first
    | (with_reducible first
      | exact hz | apply hr | apply State.emit_kept | apply kept_ite | assumption)
    | extract_lets | split | dsimp only | dsimp +zetaDelta only)
theorem State.doBmcClearAlert_kept {z : State} (s : State) (v : Byte) (pec : Bool) (hz : Kept z s) : Kept z (State.doBmcClearAlert s v
    pec) := by
  unfold State.doBmcClearAlert
  repeat' (first
    | (with_reducible first
      | exact hz | apply State.bmcWrite_kept | apply State.onPower_kept | apply State.emit_kept | apply kept_ite | assumption)
    | (intro u x hu) | (intro u hu) | extract_lets | split | dsimp only | dsimp +zetaDelta only)
theorem State.doBmcColdReset_kept {z : State} (s : State) (v : Byte) (pec : Bool) (hz : Kept z s) : Kept z (State.doBmcColdReset s v pec)
    := by
  unfold State.doBmcColdReset
  repeat' (first
    | (with_reducible first
      | exact hz | apply State.bmcWrite_kept | apply State.coldReset_kept | assumption)
    | (intro u x hu) | (intro u hu) | extract_lets | dsimp only | dsimp +zetaDelta only)
theorem State.doSmbAlertResponse_kept {z : State} (s : State) (hz : Kept z s) : Kept z (State.doSmbAlertResponse s) := by
  unfold State.doSmbAlertResponse
  repeat' (first
    | (with_reducible first
      | exact hz | apply State.emit_kept | apply kept_ite | assumption)
    | extract_lets | split | dsimp only | dsimp +zetaDelta only)
theorem State.doBmcReadingRefresh_kept {z : State} (s : State) (temp island vin cur vsb pow : Nat) (hz : Kept z s) : Kept z
    (State.doBmcReadingRefresh s temp island vin cur vsb pow) := by
  unfold State.doBmcReadingRefresh
  repeat' (first
    | (with_reducible first
      | exact hz | apply State.onPower_kept | apply kept_ite | assumption)
    | (intro u x hu) | (intro u hu) | extract_lets | (split <;> (rename_i q; with_reducible refine kept_of_pair q ?_ (fun hu => ?_)))
    | (split <;> (rename_i q; with_reducible refine kept_of_pair2 q ?_ (fun hu => ?_))) | split | dsimp only | dsimp +zetaDelta only)
theorem State.copyEngine_kept {z : State} (s : State) (e : Nat) (hz : Kept z s) : Kept z (State.copyEngine s e) := by
  unfold State.copyEngine
  repeat' (first
    | (with_reducible first
      | exact hz | apply State.setFld_kept | refine State.each_kept ?_ ?_ | apply State.setFlag_kept | assumption)
    | (intro u x hu) | (intro u hu) | extract_lets | dsimp only | dsimp +zetaDelta only)
theorem State.copyIsland_kept {z : State} (s : State) (i : Nat) (hz : Kept z s) : Kept z (State.copyIsland s i) := by
  unfold State.copyIsland
  repeat' (first
    | (with_reducible first
      | exact hz | apply State.setFld_kept | apply State.setFlag_kept | assumption)
    | (intro u x hu) | (intro u hu) | extract_lets | dsimp only | dsimp +zetaDelta only)
theorem State.copyStack_kept {z : State} (s : State) (d : Nat) (hz : Kept z s) : Kept z (State.copyStack s d) := by
  unfold State.copyStack
  repeat' (first
    | (with_reducible first
      | exact hz | apply State.setFlag_kept | apply State.setFld_kept | assumption)
    | (intro u x hu) | (intro u hu) | extract_lets | dsimp only | dsimp +zetaDelta only)
theorem State.copyService_kept {z : State} (s : State) (hz : Kept z s) : Kept z (State.copyService s) := by
  unfold State.copyService
  repeat' (first
    | (with_reducible first
      | exact hz | apply State.setFld_kept | apply State.setFlag_kept | apply kept_ite | assumption)
    | extract_lets | (split <;> (rename_i q; with_reducible refine kept_of_pair q ?_ (fun hu => ?_)))
    | (split <;> (rename_i q; with_reducible refine kept_of_pair2 q ?_ (fun hu => ?_))) | split | dsimp only | dsimp +zetaDelta only)
theorem State.copyBoot_kept {z : State} (s : State) (hz : Kept z s) : Kept z (State.copyBoot s) := by
  unfold State.copyBoot
  repeat' (first
    | (with_reducible first
      | exact hz | apply State.setFld_kept | apply State.showNv_kept | assumption)
    | extract_lets | dsimp only | dsimp +zetaDelta only)
theorem State.doSlowCopyRefresh_kept {z : State} (s : State) (hz : Kept z s) : Kept z (State.doSlowCopyRefresh s) := by
  unfold State.doSlowCopyRefresh
  repeat' (first
    | (with_reducible first
      | exact hz | refine State.onSys_kept ?_ rfl | refine State.each_kept ?_ ?_ | apply State.copyIsland_kept
      | apply State.syncContains_kept | apply State.copyEngine_kept | apply State.copyStack_kept | apply State.setFld_kept
      | apply State.copyService_kept | apply State.copyBoot_kept | apply kept_ite | assumption)
    | (intro u x hu) | (intro u hu) | extract_lets | (split <;> (rename_i q; with_reducible refine kept_of_pair q ?_ (fun hu => ?_)))
    | (split <;> (rename_i q; with_reducible refine kept_of_pair2 q ?_ (fun hu => ?_))) | split | dsimp only | dsimp +zetaDelta only)

/-! ### Machine/Refuse.lean -/

theorem State.markRefused_kept {z : State} (s : State) (page off : Nat) (b : Bool) (hz : Kept z s) : Kept z (State.markRefused s page off
    b) := by
  unfold State.markRefused
  repeat' (first
    | (with_reducible first
      | exact hz | apply State.setFlag_kept | assumption)
    | extract_lets | (split <;> (rename_i q; with_reducible refine kept_of_pair q ?_ (fun hu => ?_)))
    | (split <;> (rename_i q; with_reducible refine kept_of_pair2 q ?_ (fun hu => ?_))) | split | dsimp only | dsimp +zetaDelta only)
theorem State.writeRefused_kept {z : State} (s : State) (w : Who) (page off : Nat) (b n : State) (hz : Kept z s) : Kept z
    (State.writeRefused s w page off b n) := by
  unfold State.writeRefused
  repeat' (first
    | (with_reducible first
      | exact hz | apply State.markRefused_kept | apply State.accessHit_kept | apply State.guarCapture_kept | apply kept_ite | assumption)
    | extract_lets | (split <;> (rename_i q; with_reducible refine kept_of_pair q ?_ (fun hu => ?_)))
    | (split <;> (rename_i q; with_reducible refine kept_of_pair2 q ?_ (fun hu => ?_))) | split | dsimp only | dsimp +zetaDelta only)

/-! ### Machine/HostReg.lean -/

theorem State.shadowPut_kept {z : State} (s : State) (a : Nat) (v : Word) (hz : Kept z s) : Kept z (State.shadowPut s a v) :=
  kept_mk (s := s) hz ⟨rfl, rfl, rfl⟩ rfl ⟨rfl, rfl, rfl, rfl⟩
theorem State.applyWrites_kept {z : State} (s : State) (page : Nat) (es : Map Word) (hz : Kept z s) :
    Kept z (State.applyWrites s page es) := by
  unfold State.applyWrites
  extract_lets s1 s2
  have h1 : Kept z s1 := kept_mk (s := s) hz ⟨rfl, rfl, rfl⟩ rfl ⟨rfl, rfl, rfl, rfl⟩
  clear_value s1
  exact State.setFld_kept (kept_foldl h1 fun u e hu => State.merge_kept _ _ _ hu)
theorem State.pauseLetGo_kept {z : State} (s new : State) (lp : Nat) (hz : Kept z s) : Kept z (State.pauseLetGo s new lp) := by
  unfold State.pauseLetGo
  repeat' (first
    | (with_reducible first
      | exact hz | refine State.each_kept ?_ ?_ | apply State.sendPause_kept | apply State.setPausing_kept | apply State.sendDue_kept
      | apply kept_ite | assumption)
    | (intro u x hu) | (intro u hu) | extract_lets | split | dsimp only | dsimp +zetaDelta only)
theorem State.preemptFollow_kept {z : State} (s old : State) (lp : Nat) (hz : Kept z s) : Kept z (State.preemptFollow s old lp) := by
  unfold State.preemptFollow
  repeat' (first
    | (with_reducible first
      | exact hz | apply State.verifyStart_kept | apply State.verifyRest_kept | apply State.syncPreempt_kept | apply kept_ite
      | assumption)
    | extract_lets | split | dsimp only | dsimp +zetaDelta only)
theorem State.applyPort_kept {z : State} (s : State) (page p : Nat) (es : Map Word) (hz : Kept z s) : Kept z (State.applyPort s page p
    es) := by
  unfold State.applyPort
  repeat' (first
    | (with_reducible first
      | exact hz | apply State.applyWrites_kept | refine State.each_kept ?_ ?_ | apply State.pauseLetGo_kept
      | apply State.preemptFollow_kept | apply State.wdFollow_kept | apply State.pfcCheckLow_kept | apply State.pfcCheckHigh_kept
      | assumption)
    | (intro u x hu) | (intro u hu) | extract_lets | dsimp only | dsimp +zetaDelta only)
theorem State.ratesFollow_kept {z : State} (s old : State) (sl : Nat) (hz : Kept z s) : Kept z (State.ratesFollow s old sl) := by
  unfold State.ratesFollow
  repeat' (first
    | (with_reducible first
      | exact hz | apply State.rescale_kept | apply State.ratesChanged_kept | assumption)
    | extract_lets | dsimp only | dsimp +zetaDelta only)
theorem State.applyOeng_kept {z : State} (s : State) (page e : Nat) (es : Map Word) (hz : Kept z s) : Kept z (State.applyOeng s page e
    es) := by
  unfold State.applyOeng
  repeat' (first
    | (with_reducible first
      | exact hz | apply State.engineApply_kept | apply State.applyWrites_kept | apply State.ratesFollow_kept | assumption)
    | (intro u x hu) | (intro u hu) | extract_lets | dsimp only | dsimp +zetaDelta only)
theorem State.applyFlexe_kept {z : State} (s : State) (page g : Nat) (es : Map Word) (hz : Kept z s) : Kept z (State.applyFlexe s page g
    es) := by
  unfold State.applyFlexe
  repeat' (first
    | (with_reducible first
      | exact hz | apply State.drainGroup_kept | apply State.applyWrites_kept | apply State.withUp_kept | apply State.groupSync_kept
      | apply State.syncRxCal_kept | refine State.each_kept ?_ ?_ | apply State.ratesFollow_kept | assumption)
    | (intro u x hu) | (intro u hu) | extract_lets | dsimp only | dsimp +zetaDelta only)
theorem State.applyHost_kept {z : State} (s : State) (page : Nat) (es : Map Word) (hz : Kept z s) : Kept z (State.applyHost s page es) :=
    by
  unfold State.applyHost
  repeat' (first
    | (with_reducible first
      | exact hz | apply State.applyWrites_kept | refine State.each_kept ?_ ?_ | apply State.setFlag_kept
      | apply State.doRingEnable_kept | apply State.doRingDisable_kept | apply kept_ite | assumption)
    | (intro u x hu) | (intro u hu) | extract_lets | split | dsimp only | dsimp +zetaDelta only)
theorem State.keepParse_kept {z : State} (s : State) (sl : Nat) (es : Map Word) (hz : Kept z s) : Kept z (State.keepParse s sl es) := by
  unfold State.keepParse
  repeat' (first
    | (with_reducible first
      | exact hz | refine State.each_kept ?_ ?_ | apply State.setRx_kept | apply kept_ite | assumption)
    | (intro u x hu) | (intro u hu) | extract_lets | (split <;> (rename_i q; with_reducible refine kept_of_pair q ?_ (fun hu => ?_)))
    | (split <;> (rename_i q; with_reducible refine kept_of_pair2 q ?_ (fun hu => ?_))) | split | dsimp only | dsimp +zetaDelta only)
theorem State.selectorsFollow_kept {z : State} (s : State) (t : PageTy) (i page : Nat) (es : Map Word) (hz : Kept z s) : Kept z
    (State.selectorsFollow s t i page es) := by
  unfold State.selectorsFollow
  repeat' (first
    | (with_reducible first
      | exact hz | apply State.doArrSel_kept | apply State.doLinkCntSel_kept | apply State.doPackCntSel_kept | assumption)
    | (intro u x hu) | (intro u hu) | extract_lets | (split <;> (rename_i q; with_reducible refine kept_of_pair q ?_ (fun hu => ?_)))
    | (split <;> (rename_i q; with_reducible refine kept_of_pair2 q ?_ (fun hu => ?_))) | split | dsimp only | dsimp +zetaDelta only)
theorem State.applyPage_kept {z : State} (s : State) (page : Nat) (es : Map Word) (hz : Kept z s) : Kept z (State.applyPage s page es) :=
    by
  unfold State.applyPage
  repeat' (first
    | (with_reducible first
      | exact hz | apply State.applyWrites_kept | apply State.applyPort_kept | apply State.applyOeng_kept | apply State.applyFlexe_kept
      | apply State.applyHost_kept | refine State.each_kept ?_ ?_ | apply State.linkFollow_kept | apply State.verifyStart_kept
      | apply State.syncPath_kept | apply State.selectorsFollow_kept | apply State.keepParse_kept | apply State.syncEff_kept
      | apply State.linkCheck_kept | apply State.timeSettle_kept | apply State.twinSettle_kept | apply State.reassert_kept
      | apply State.syncContains_kept | apply State.syncGuy_kept | apply State.setLoom_kept | apply State.doHashSeed_kept
      | refine kept_foldl ?_ ?_ | refine kept_foldl1 ?_ ?_ | assumption | apply kept_unshadow)
    | (intro u x hu) | (intro u hu) | extract_lets | (split <;> (rename_i q; with_reducible refine kept_of_pair q ?_ (fun hu => ?_)))
    | (split <;> (rename_i q; with_reducible refine kept_of_pair2 q ?_ (fun hu => ?_))) | split | dsimp only | dsimp +zetaDelta only)
theorem State.refuseNow_kept {z : State} (s : State) (w : Who) (page off : Nat) (hz : Kept z s) : Kept z (State.refuseNow s w page off)
    := by
  unfold State.refuseNow
  repeat' (first
    | (with_reducible first
      | exact hz | apply State.markRefused_kept | apply State.accessHit_kept | assumption)
    | extract_lets | dsimp only | dsimp +zetaDelta only)
theorem State.noted_kept {z : State} (s : State) (w : Who) (page off : Nat) (run : State → State) (hz : Kept z s) (hr : ∀ u, Kept z u →
    Kept z (run u)) : Kept z (State.noted s w page off run) := by
  unfold State.noted
  repeat' (first
    | (with_reducible first
      | exact hz | apply hr | apply State.accessHit_kept | apply kept_ite | assumption)
    | extract_lets | split | dsimp only | dsimp +zetaDelta only)
theorem State.schCommand_kept {z : State} (s : State) (sl op t i : Nat) (hz : Kept z s) : Kept z (State.schCommand s sl op t i) := by
  unfold State.schCommand
  repeat' (first
    | (with_reducible first
      | exact hz | apply State.doSchedWrite_kept | apply State.rescale_kept | apply State.doSchedRead_kept
      | apply State.doGateCommit_kept | apply State.doSampleReadClear_kept | apply State.schWindow_kept | apply State.schDone_kept
      | apply kept_ite | assumption)
    | (intro u x hu) | (intro u hu) | extract_lets | (split <;> (rename_i q; with_reducible refine kept_of_pair q ?_ (fun hu => ?_)))
    | (split <;> (rename_i q; with_reducible refine kept_of_pair2 q ?_ (fun hu => ?_))) | split | dsimp only | dsimp +zetaDelta only)
theorem State.updCommand_kept {z : State} (s : State) (op k i : Nat) (hz : Kept z s) : Kept z (State.updCommand s op k i) := by
  unfold State.updCommand
  repeat' (first
    | (with_reducible first
      | exact hz | apply State.doUpdateBegin_kept | apply State.doUpdateWrite_kept | apply State.doUpdateFinish_kept
      | apply State.doUpdateAbandon_kept | apply State.doUpdateConfirm_kept | apply State.doUpdateSelect_kept | assumption)
    | extract_lets | (split <;> (rename_i q; with_reducible refine kept_of_pair q ?_ (fun hu => ?_)))
    | (split <;> (rename_i q; with_reducible refine kept_of_pair2 q ?_ (fun hu => ?_))) | split | dsimp only | dsimp +zetaDelta only)
theorem State.windowRun_kept {z : State} (s : State) (w : Who) (t : PageTy) (i off : Nat) (v : Word) (hz : Kept z s) : Kept z
    (State.windowRun s w t i off v) := by
  unfold State.windowRun
  repeat' (first
    | (with_reducible first
      | exact hz | apply State.updCommand_kept | apply State.doObjectWrite_kept | apply State.doObjectRead_kept
      | apply State.doObjectDelete_kept | apply State.tblCommand_kept | apply State.doPmAllocate_kept | apply State.doPmFree_kept
      | apply State.doFoldEntryWrite_kept | apply State.doFoldEntryRead_kept | apply State.doFoldEntryRemove_kept
      | apply State.doLinkGroupWrite_kept | apply State.doLinkGroupRead_kept | apply State.doNeighborRead_kept
      | apply State.doClientWrite_kept | apply State.doClientRead_kept | apply State.doTemplateWrite_kept
      | apply State.doTemplateRead_kept | apply State.doRuleWrite_kept | apply State.doRuleRead_kept
      | apply State.doRuleInvalidate_kept | apply State.doMeterWrite_kept | apply State.doMeterRead_kept | apply State.schCommand_kept
      | apply State.doQueueConfigWrite_kept | apply State.doQueueConfigRead_kept | apply kept_ite | assumption)
    | extract_lets | (split <;> (rename_i q; with_reducible refine kept_of_pair q ?_ (fun hu => ?_)))
    | (split <;> (rename_i q; with_reducible refine kept_of_pair2 q ?_ (fun hu => ?_))) | split | dsimp only | dsimp +zetaDelta only)
theorem State.inTurn_kept {z : State} (s : State) (w : Who) (t : PageTy) (page off : Nat) (v : Word) (run : State → State) (hz : Kept z
    s) (hr : ∀ u, Kept z u → Kept z (run u)) : Kept z (State.inTurn s w t page off v run) := by
  unfold State.inTurn
  repeat' (first
    | (with_reducible first
      | exact hz | apply hr | apply State.refuseNow_kept | apply State.setFlag_kept | refine State.onHost_kept ?_ ⟨rfl, rfl, rfl⟩
      | apply kept_ite | assumption)
    | (intro u x hu) | (intro u hu) | extract_lets | split | dsimp only | dsimp +zetaDelta only)
theorem State.runWaits_kept {z : State} (s : State) (page : Nat) (hz : Kept z s) : Kept z (State.runWaits s page) := by
  unfold State.runWaits
  repeat' (first
    | (with_reducible first
      | exact hz | refine State.onHost_kept ?_ ⟨rfl, rfl, rfl⟩ | apply State.setFlag_kept | apply State.noted_kept
      | apply State.windowRun_kept | apply kept_ite | refine kept_foldl ?_ ?_ | refine kept_foldl1 ?_ ?_ | assumption)
    | (intro u x hu) | (intro u hu) | extract_lets | (split <;> (rename_i q; with_reducible refine kept_of_pair q ?_ (fun hu => ?_)))
    | (split <;> (rename_i q; with_reducible refine kept_of_pair2 q ?_ (fun hu => ?_))) | split | dsimp only | dsimp +zetaDelta only)
theorem State.doPageApply_kept {z : State} (s : State) (page : Nat) (hz : Kept z s) : Kept z (State.doPageApply s page) := by
  unfold State.doPageApply
  repeat' (first
    | (with_reducible first
      | exact hz | apply State.applyPage_kept | apply State.retryAll_kept | apply State.runWaits_kept | apply kept_ite | assumption
      | apply kept_unshadow)
    | (intro u x hu) | (intro u hu) | extract_lets | split | dsimp only | dsimp +zetaDelta only)
theorem State.doLoomPeriodStart_kept {z : State} (s : State) (i : Nat) (hz : Kept z s) : Kept z (State.doLoomPeriodStart s i) := by
  unfold State.doLoomPeriodStart
  repeat' (first
    | (with_reducible first
      | exact hz | refine State.each_kept ?_ ?_ | apply State.doPageApply_kept | apply State.loomStart_kept | apply kept_ite | assumption)
    | (intro u x hu) | (intro u hu) | extract_lets | split | dsimp only | dsimp +zetaDelta only)
theorem State.doPageHoldSet_kept {z : State} (s : State) (page : Nat) (hz : Kept z s) : Kept z (State.doPageHoldSet s page) := by
  unfold State.doPageHoldSet
  repeat' (first
    | (with_reducible first
      | exact hz | apply State.setFlag_kept | assumption)
    | extract_lets | (split <;> (rename_i q; with_reducible refine kept_of_pair q ?_ (fun hu => ?_)))
    | (split <;> (rename_i q; with_reducible refine kept_of_pair2 q ?_ (fun hu => ?_))) | split | dsimp only | dsimp +zetaDelta only)
theorem State.holdEnd_kept {z : State} (s : State) (page : Nat) (hz : Kept z s) : Kept z (State.holdEnd s page) :=
  State.setFlag_kept (State.setFlag_kept (State.setFld_kept (State.setHeld_kept hz (by decide))))
theorem State.doPageHoldRelease_kept {z : State} (s : State) (page : Nat) (hz : Kept z s) : Kept z (State.doPageHoldRelease s page) := by
  unfold State.doPageHoldRelease
  repeat' (first
    | (with_reducible first
      | exact hz | apply State.shadowPut_kept | apply State.holdEnd_kept | refine kept_foldl ?_ ?_ | refine kept_foldl1 ?_ ?_
      | assumption)
    | (intro u x hu) | (intro u hu) | extract_lets | (split <;> (rename_i q; with_reducible refine kept_of_pair q ?_ (fun hu => ?_)))
    | (split <;> (rename_i q; with_reducible refine kept_of_pair2 q ?_ (fun hu => ?_))) | split | dsimp only | dsimp +zetaDelta only)
theorem State.doPageHoldDiscard_kept {z : State} (s : State) (page : Nat) (hz : Kept z s) : Kept z (State.doPageHoldDiscard s page) := by
  unfold State.doPageHoldDiscard
  repeat' (first
    | (with_reducible first
      | exact hz | apply State.holdEnd_kept | assumption)
    | extract_lets | (split <;> (rename_i q; with_reducible refine kept_of_pair q ?_ (fun hu => ?_)))
    | (split <;> (rename_i q; with_reducible refine kept_of_pair2 q ?_ (fun hu => ?_))) | split | dsimp only | dsimp +zetaDelta only)
theorem State.holdWrite_kept {z : State} (s : State) (page : Nat) (v : Word) (hz : Kept z s) : Kept z (State.holdWrite s page v) := by
  unfold State.holdWrite
  repeat' (first
    | (with_reducible first
      | exact hz | apply State.doPageHoldDiscard_kept | apply State.doPageHoldSet_kept | apply State.doPageHoldRelease_kept
      | apply kept_ite | assumption)
    | extract_lets | split | dsimp only | dsimp +zetaDelta only)
theorem State.cfgWrite_kept {z : State} (s : State) (w : Who) (page off : Nat) (v : Word) (hz : Kept z s) :
    Kept z (State.cfgWrite s w page off v) := by
  unfold State.cfgWrite
  extract_lets a l
  refine kept_ite hz ?_
  split
  · exact State.writeRefused_kept _ _ _ _ _ _ hz
  · refine kept_ite (State.markRefused_kept _ _ _ _ (State.shadowPut_kept _ _ _ hz)) ?_
    split
    · exact State.accessHit_kept _ _ _ _ (State.setFlag_kept (State.markRefused_kept _ _ _ _ hz))
    · next hl =>
      refine State.markRefused_kept _ _ _ _ (State.setFld_kept (State.setHeld_kept hz ?_))
      simp only [l, List.length_append, List.length_cons, List.length_nil]; omega
theorem State.guardFailed_kept {z : State} (s : State) (page off cause : Nat) (hz : Kept z s) : Kept z (State.guardFailed s page off
    cause) := by
  unfold State.guardFailed
  repeat' (first
    | (with_reducible first
      | exact hz | apply State.count_kept | apply State.setFld_kept | apply State.setFlag_kept | apply State.raise_kept | assumption)
    | extract_lets | dsimp only | dsimp +zetaDelta only)
theorem State.guardExpire_kept {z : State} (s : State) (page t : Nat) (hz : Kept z s) : Kept z (State.guardExpire s page t) := by
  unfold State.guardExpire
  repeat' (first
    | (with_reducible first
      | exact hz | apply State.setGuard_kept | apply State.guardFailed_kept | apply kept_ite | assumption)
    | extract_lets | (split <;> (rename_i q; with_reducible refine kept_of_pair q ?_ (fun hu => ?_)))
    | (split <;> (rename_i q; with_reducible refine kept_of_pair2 q ?_ (fun hu => ?_))) | split | dsimp only | dsimp +zetaDelta only)
theorem State.doGuardLapse_kept {z : State} (s : State) (page : Nat) (hz : Kept z s) : Kept z (State.doGuardLapse s page) := by
  unfold State.doGuardLapse
  repeat' (first
    | (with_reducible first
      | exact hz | apply State.guardExpire_kept | assumption)
    | extract_lets | dsimp only | dsimp +zetaDelta only)
theorem State.guardValue_kept {z : State} (s : State) (page off : Nat) (v : Word) (hz : Kept z s) : Kept z (State.guardValue s page off
    v) := by
  unfold State.guardValue
  repeat' (first
    | (with_reducible first
      | exact hz | apply State.guardExpire_kept | apply State.setGuard_kept | apply State.guardFailed_kept | assumption)
    | extract_lets | (split <;> (rename_i q; with_reducible refine kept_of_pair q ?_ (fun hu => ?_)))
    | (split <;> (rename_i q; with_reducible refine kept_of_pair2 q ?_ (fun hu => ?_))) | split | dsimp only | dsimp +zetaDelta only)
theorem State.acted_kept {z : State} (s : State) (w : Who) (page off : Nat) (v : Word) (run : State → State) (hz : Kept z s) (hr : ∀ u,
    Kept z u → Kept z (run u)) : Kept z (State.acted s w page off v run) := by
  unfold State.acted
  repeat' (first
    | (with_reducible first
      | exact hz | apply hr | apply State.markRefused_kept | apply State.wrNow_kept | apply State.accessHit_kept | apply kept_ite
      | assumption)
    | extract_lets | split | dsimp only | dsimp +zetaDelta only)
theorem State.resetCtl_kept {z : State} (s : State) (w : Who) (v : Word) (hz : Kept z s) : Kept z (State.resetCtl s w v) := by
  unfold State.resetCtl
  repeat' (first
    | (with_reducible first
      | exact hz | apply State.doColdResetCmd_kept | apply State.doWarmResetCmd_kept | apply State.doBlockResetCmd_kept
      | apply State.doClusterResetCmd_kept | apply State.doReleaseIsolated_kept | assumption)
    | extract_lets | (split <;> (rename_i q; with_reducible refine kept_of_pair q ?_ (fun hu => ?_)))
    | (split <;> (rename_i q; with_reducible refine kept_of_pair2 q ?_ (fun hu => ?_))) | split | dsimp only | dsimp +zetaDelta only)
theorem State.recordClr_kept {z : State} (s : State) (v : Word) (hz : Kept z s) : Kept z (State.recordClr s v) := by
  unfold State.recordClr
  repeat' (first
    | (with_reducible first
      | exact hz | apply State.doRecordClrFatal_kept | apply State.doRecordClrLast_kept | apply kept_ite | assumption)
    | extract_lets | split | dsimp only | dsimp +zetaDelta only)
theorem State.laneAction_kept {z : State} (s : State) (e : Nat) (v : Word) (hz : Kept z s) : Kept z (State.laneAction s e v) := by
  unfold State.laneAction
  repeat' (first
    | (with_reducible first
      | exact hz | apply State.doLaneClearTrip_kept | apply State.doLaneApproveSwitch_kept | apply State.doLaneSwitchNow_kept
      | assumption)
    | extract_lets | (split <;> (rename_i q; with_reducible refine kept_of_pair q ?_ (fun hu => ?_)))
    | (split <;> (rename_i q; with_reducible refine kept_of_pair2 q ?_ (fun hu => ?_))) | split | dsimp only | dsimp +zetaDelta only)
theorem State.guardPassed_kept {z : State} (s : State) (w : Who) (page off : Nat) (v : Word) (hz : Kept z s) : Kept z (State.guardPassed
    s w page off v) := by
  unfold State.guardPassed
  repeat' (first
    | (with_reducible first
      | exact hz | apply State.writeRefused_kept | apply State.shadowPut_kept | apply State.markRefused_kept | apply State.acted_kept
      | apply State.doDebugAllowWrite_kept | apply State.resetCtl_kept | apply State.recordClr_kept | apply State.doSvnRaise_kept
      | apply State.doDtSet_kept | apply State.doLeaseRevoke_kept | apply State.doLeaseSetNext_kept | apply State.doTwinHandOver_kept
      | apply State.doPlaneRemove_kept | apply State.doPlaneReturn_kept | apply State.doStackRemove_kept
      | apply State.doStackReturn_kept | apply State.laneAction_kept | apply State.doPathMaxReset_kept | apply refusedSvcc_kept
      | apply kept_ite | assumption | apply kept_id)
    | (intro u x hu) | (intro u hu) | extract_lets | (split <;> (rename_i q; with_reducible refine kept_of_pair q ?_ (fun hu => ?_)))
    | (split <;> (rename_i q; with_reducible refine kept_of_pair2 q ?_ (fun hu => ?_))) | split | dsimp only | dsimp +zetaDelta only)
theorem State.guardComplement_kept {z : State} (s : State) (w : Who) (page off : Nat) (v : Word) (hz : Kept z s) : Kept z
    (State.guardComplement s w page off v) := by
  unfold State.guardComplement
  repeat' (first
    | (with_reducible first
      | exact hz | apply State.guardExpire_kept | apply State.guardFailed_kept | apply State.setGuard_kept
      | apply State.guardPassed_kept | apply kept_ite | assumption)
    | extract_lets | (split <;> (rename_i q; with_reducible refine kept_of_pair q ?_ (fun hu => ?_)))
    | (split <;> (rename_i q; with_reducible refine kept_of_pair2 q ?_ (fun hu => ?_))) | split | dsimp only | dsimp +zetaDelta only)
theorem State.writeRuns_kept {z : State} (s : State) (w : Who) (page off : Nat) (run : State → State) (hz : Kept z s) (hr : ∀ u, Kept z u
    → Kept z (run u)) : Kept z (State.writeRuns s w page off run) := by
  unfold State.writeRuns
  repeat' (first
    | (with_reducible first
      | exact hz | apply hr | apply State.markRefused_kept | apply State.noted_kept | assumption)
    | extract_lets | dsimp only | dsimp +zetaDelta only)
theorem State.winWrite_kept {z : State} (s : State) (w : Who) (page off opMask : Nat) (busy : Fld) (v : Word) (run : State → State) (hz :
    Kept z s) (hr : ∀ u, Kept z u → Kept z (run u)) : Kept z (State.winWrite s w page off opMask busy v run) := by
  unfold State.winWrite
  repeat' (first
    | (with_reducible first
      | exact hz | apply hr | apply State.refuseNow_kept | apply State.wrNow_kept | apply State.writeRuns_kept
      | apply State.markRefused_kept | apply kept_ite | assumption)
    | extract_lets | split | dsimp only | dsimp +zetaDelta only)
theorem State.dataWrite_kept {z : State} (s : State) (page off : Nat) (v : Word) (hz : Kept z s) : Kept z (State.dataWrite s page off v)
    := by
  unfold State.dataWrite
  repeat' (first
    | (with_reducible first
      | exact hz | apply State.wrNow_kept | apply State.markRefused_kept | assumption)
    | extract_lets | dsimp only | dsimp +zetaDelta only)
theorem State.foldCtl_kept {z : State} (s : State) (sl t cmd gen : Nat) (hz : Kept z s) : Kept z (State.foldCtl s sl t cmd gen) := by
  unfold State.foldCtl
  repeat' (first
    | (with_reducible first
      | exact hz | apply State.doFoldCommit_kept | apply State.doFoldArm_kept | apply State.doFoldDisarm_kept
      | apply State.doFoldResume_kept | apply State.doFoldRestart_kept | apply State.doFoldDiscardPending_kept | assumption)
    | extract_lets | (split <;> (rename_i q; with_reducible refine kept_of_pair q ?_ (fun hu => ?_)))
    | (split <;> (rename_i q; with_reducible refine kept_of_pair2 q ?_ (fun hu => ?_))) | split | dsimp only | dsimp +zetaDelta only)
theorem State.tbCommand_kept {z : State} (s : State) (n cmd : Nat) (hz : Kept z s) : Kept z (State.tbCommand s n cmd) := by
  unfold State.tbCommand
  repeat' (first
    | (with_reducible first
      | exact hz | apply State.doTbStep_kept | apply State.doTbSwitchChannel_kept | apply State.doTbHoldover_kept
      | apply State.doTbResetServo_kept | assumption)
    | extract_lets | (split <;> (rename_i q; with_reducible refine kept_of_pair q ?_ (fun hu => ?_)))
    | (split <;> (rename_i q; with_reducible refine kept_of_pair2 q ?_ (fun hu => ?_))) | split | dsimp only | dsimp +zetaDelta only)
theorem State.nowWrite_kept {z : State} (s : State) (w : Who) (t : PageTy) (i page off : Nat) (v : Word) (hz : Kept z s) : Kept z
    (State.nowWrite s w t i page off v) := by
  unfold State.nowWrite
  repeat' (first
    | (with_reducible first
      | exact hz | apply State.winWrite_kept | apply State.inTurn_kept | apply State.windowRun_kept | apply State.writeRuns_kept
      | apply State.doDiagRun_kept | apply State.doTodTxWrite_kept | apply State.doTbOffsetWrite_kept | apply State.tbCommand_kept
      | apply State.dataWrite_kept | apply State.doMbToFwPost_kept | apply State.refuseNow_kept | apply State.foldCtl_kept
      | apply State.doCalSwitchRequest_kept | apply State.doCalSwitchAbandon_kept | apply State.doPerfFreeze_kept
      | apply State.doPerfRelease_kept | apply State.doPerfZero_kept | apply kept_ite | assumption)
    | (intro u x hu) | (intro u hu) | extract_lets | (split <;> (rename_i q; with_reducible refine kept_of_pair q ?_ (fun hu => ?_)))
    | (split <;> (rename_i q; with_reducible refine kept_of_pair2 q ?_ (fun hu => ?_))) | split | dsimp only | dsimp +zetaDelta only)
theorem State.fwSvcc_kept {z : State} (s : State) (c p off : Nat) (v : Word) (hz : Kept z s) : Kept z (State.fwSvcc s c p off v) := by
  unfold State.fwSvcc
  repeat' (first
    | (with_reducible first
      | exact hz | apply State.doLeaseRenew_kept | apply State.doLeaseClaim_kept | apply State.doLeaseRelease_kept
      | apply State.doLeaseReady_kept | apply State.doCkptCmd_kept | apply State.doCkptMark_kept | apply State.doLaserReq_kept
      | apply State.doMbToHostPost_kept | apply State.doInjectPost_kept | apply State.setClWord_kept | apply kept_ite | assumption)
    | extract_lets | (split <;> (rename_i q; with_reducible refine kept_of_pair q ?_ (fun hu => ?_)))
    | (split <;> (rename_i q; with_reducible refine kept_of_pair2 q ?_ (fun hu => ?_))) | split | dsimp only | dsimp +zetaDelta only)
theorem State.fwPool_kept {z : State} (s : State) (c p off : Nat) (v : Word) (hz : Kept z s) : Kept z (State.fwPool s c p off v) := by
  unfold State.fwPool
  repeat' (first
    | (with_reducible first
      | exact hz | apply State.setClWord_kept | apply State.doPmAllocate_kept | apply State.doPmFree_kept | apply kept_ite | assumption)
    | extract_lets | (split <;> (rename_i q; with_reducible refine kept_of_pair q ?_ (fun hu => ?_)))
    | (split <;> (rename_i q; with_reducible refine kept_of_pair2 q ?_ (fun hu => ?_))) | split | dsimp only | dsimp +zetaDelta only)
theorem State.access_kept {z : State} (s : State) (w : Who) (page off : Nat) (run : State → State) (hz : Kept z s) (hr : ∀ u, Kept z u →
    Kept z (run u)) : Kept z (State.access s w page off run) := by
  unfold State.access
  repeat' (first
    | (with_reducible first
      | exact hz | apply hr | apply State.fwGated_kept | apply State.fwDenied_kept | apply State.accessHit_kept
      | apply State.count_kept | apply kept_ite | assumption)
    | extract_lets | (split <;> (rename_i q; with_reducible refine kept_of_pair q ?_ (fun hu => ?_)))
    | (split <;> (rename_i q; with_reducible refine kept_of_pair2 q ?_ (fun hu => ?_))) | split | dsimp only | dsimp +zetaDelta only)
theorem State.regWrite_kept {z : State} (s : State) (w : Who) (page off : Nat) (v : Word) (hz : Kept z s) : Kept z (State.regWrite s w
    page off v) := by
  unfold State.regWrite
  repeat' (first
    | (with_reducible first
      | exact hz | apply State.holdWrite_kept | apply State.hdrWrite_kept | apply State.guardComplement_kept
      | apply State.guardValue_kept | apply State.cfgWrite_kept | apply State.nowWrite_kept | apply kept_ite | assumption)
    | extract_lets | (split <;> (rename_i q; with_reducible refine kept_of_pair q ?_ (fun hu => ?_)))
    | (split <;> (rename_i q; with_reducible refine kept_of_pair2 q ?_ (fun hu => ?_))) | split | dsimp only | dsimp +zetaDelta only)
theorem State.doRegisterWrite_kept {z : State} (s : State) (w : Who) (page off : Nat) (v : Word) (hz : Kept z s) : Kept z
    (State.doRegisterWrite s w page off v) := by
  unfold State.doRegisterWrite
  repeat' (first
    | (with_reducible first
      | exact hz | apply State.fwDenied_kept | apply State.access_kept | apply State.countReserved_kept | apply State.fwSvcc_kept
      | apply State.fwPool_kept | apply State.regWrite_kept | apply State.busError_kept | apply State.accessHit_kept
      | apply State.hdrWrite_kept | apply State.msixWrite_kept | apply kept_ite | assumption)
    | (intro u x hu) | (intro u hu) | extract_lets | (split <;> (rename_i q; with_reducible refine kept_of_pair q ?_ (fun hu => ?_)))
    | (split <;> (rename_i q; with_reducible refine kept_of_pair2 q ?_ (fun hu => ?_))) | split | dsimp only | dsimp +zetaDelta only)
theorem State.doGuardValueWrite_kept {z : State} (s : State) (w : Who) (page off : Nat) (v : Word) (hz : Kept z s) : Kept z
    (State.doGuardValueWrite s w page off v) := by
  unfold State.doGuardValueWrite
  repeat' (first
    | (with_reducible first
      | exact hz | apply State.doRegisterWrite_kept | apply kept_ite | assumption)
    | extract_lets | split | dsimp only | dsimp +zetaDelta only)
theorem State.doGuardComplementWrite_kept {z : State} (s : State) (w : Who) (page off : Nat) (v : Word) (hz : Kept z s) : Kept z
    (State.doGuardComplementWrite s w page off v) := by
  unfold State.doGuardComplementWrite
  repeat' (first
    | (with_reducible first
      | exact hz | apply State.doRegisterWrite_kept | apply kept_ite | assumption)
    | extract_lets | split | dsimp only | dsimp +zetaDelta only)
theorem State.cmdRow_kept {z : State} (s : State) (w : Who) (page off : Nat) (run : State → State) (hz : Kept z s) (hr : ∀ u, Kept z u →
    Kept z (run u)) : Kept z (State.cmdRow s w page off run) := by
  unfold State.cmdRow
  repeat' (first
    | (with_reducible first
      | exact hz | apply hr | apply State.access_kept | apply State.refuseNow_kept | apply State.noted_kept | apply kept_ite | assumption)
    | (intro u x hu) | (intro u hu) | extract_lets | split | dsimp only | dsimp +zetaDelta only)
theorem State.turnRow_kept {z : State} (s : State) (w : Who) (t : PageTy) (page off v : Nat) (run : State → State) (hz : Kept z s) (hr :
    ∀ u, Kept z u → Kept z (run u)) : Kept z (State.turnRow s w t page off v run) := by
  unfold State.turnRow
  repeat' (first
    | (with_reducible first
      | exact hz | apply hr | apply State.cmdRow_kept | apply State.inTurn_kept | assumption)
    | (intro u x hu) | (intro u hu) | extract_lets | dsimp only | dsimp +zetaDelta only)
theorem State.nowRow_kept {z : State} (s : State) (w : Who) (page off : Nat) (run : State → State) (hz : Kept z s) (hr : ∀ u, Kept z u →
    Kept z (run u)) : Kept z (State.nowRow s w page off run) := by
  unfold State.nowRow
  repeat' (first
    | (with_reducible first
      | exact hz | apply hr | apply State.access_kept | apply State.noted_kept | assumption)
    | (intro u x hu) | (intro u hu) | extract_lets | dsimp only | dsimp +zetaDelta only)
theorem State.guardRow_kept {z : State} (s : State) (w : Who) (page off v : Nat) (hz : Kept z s) : Kept z (State.guardRow s w page off v)
    := by
  unfold State.guardRow
  repeat' (first
    | (with_reducible first
      | exact hz | apply State.access_kept | apply State.guardPassed_kept | assumption)
    | (intro u x hu) | (intro u hu) | extract_lets | dsimp only | dsimp +zetaDelta only)
theorem State.doEvtClearBy_kept {z : State} (s : State) (w : Who) (page src seq : Nat) (hz : Kept z s) : Kept z (State.doEvtClearBy s w
    page src seq) := by
  unfold State.doEvtClearBy
  repeat' (first
    | (with_reducible first
      | exact hz | apply State.access_kept | apply State.doEvtClear_kept | apply State.busError_kept | apply State.accessHit_kept
      | apply kept_ite | assumption)
    | (intro u x hu) | (intro u hu) | extract_lets | (split <;> (rename_i q; with_reducible refine kept_of_pair q ?_ (fun hu => ?_)))
    | (split <;> (rename_i q; with_reducible refine kept_of_pair2 q ?_ (fun hu => ?_))) | split | dsimp only | dsimp +zetaDelta only)
theorem State.bufError_kept {z : State} (s : State) (sl src cell frame : Nat) (hz : Kept z s) : Kept z (State.bufError s sl src cell
    frame) := by
  unfold State.bufError
  repeat' (first
    | (with_reducible first
      | exact hz | apply State.count_kept | apply State.setFld_kept | apply State.setFlag_kept | apply State.breakFrame_kept
      | apply kept_ite | assumption)
    | extract_lets | (split <;> (rename_i q; with_reducible refine kept_of_pair q ?_ (fun hu => ?_)))
    | (split <;> (rename_i q; with_reducible refine kept_of_pair2 q ?_ (fun hu => ?_))) | split | dsimp only | dsimp +zetaDelta only)
theorem State.doEventAssert_kept {z : State} (s : State) (page src cell frame : Nat) (hz : Kept z s) : Kept z (State.doEventAssert s page
    src cell frame) := by
  unfold State.doEventAssert
  repeat' (first
    | (with_reducible first
      | exact hz | apply State.bufError_kept | apply State.raise_kept | apply State.setUcState_kept | apply kept_ite | assumption)
    | extract_lets | (split <;> (rename_i q; with_reducible refine kept_of_pair q ?_ (fun hu => ?_)))
    | (split <;> (rename_i q; with_reducible refine kept_of_pair2 q ?_ (fun hu => ?_))) | split | dsimp only | dsimp +zetaDelta only)
theorem State.doDbgAccess_kept {z : State} (s : State) (page off : Nat) (a : Access) (hz : Kept z s) :
    Kept z (State.doDbgAccess s page off a) := by
  unfold State.doDbgAccess
  extract_lets s1 t n
  have h1 : Kept z s1 := State.onHost_kept hz ⟨rfl, rfl, rfl⟩
  clear_value s1
  refine kept_ite hz (kept_ite (State.debugClose_kept _ hz) ?_)
  split
  · exact kept_ite (State.doRegisterWrite_kept _ _ _ _ _ h1) h1
  · refine kept_ite h1 (h1.trans ?_)
    have h2 : Kept s1 t := State.anyRead_kept _ _ _ _ (Kept.rfl' s1)
    obtain ⟨l, hl⟩ := h2.out
    have hn : n = l.length := by simp only [n, hl, List.length_append]; omega
    clear_value t
    refine ⟨h2.queue, h2.now, ⟨l.map toTap, ?_⟩, h2.free, h2.fuses, h2.mem, h2.holds, h2.pool⟩
    dsimp only
    rw [hn, hl, List.take_left, List.drop_left]

/-! ### Machine/CmdService.lean -/

theorem State.pmAllocateBy_kept {z : State} (s : State) (w : Who) (req size : Nat) (hz : Kept z s) : Kept z (State.pmAllocateBy s w req
    size) := by
  unfold State.pmAllocateBy
  repeat' (first
    | (with_reducible first
      | exact hz | apply State.access_kept | apply State.doPmAllocate_kept | apply State.turnRow_kept | assumption)
    | (intro u x hu) | (intro u hu) | extract_lets | (split <;> (rename_i q; with_reducible refine kept_of_pair q ?_ (fun hu => ?_)))
    | (split <;> (rename_i q; with_reducible refine kept_of_pair2 q ?_ (fun hu => ?_))) | split | dsimp only | dsimp +zetaDelta only)
theorem State.pmFreeBy_kept {z : State} (s : State) (w : Who) (req handle : Nat) (hz : Kept z s) : Kept z (State.pmFreeBy s w req handle)
    := by
  unfold State.pmFreeBy
  repeat' (first
    | (with_reducible first
      | exact hz | apply State.access_kept | apply State.doPmFree_kept | apply State.cmdRow_kept | assumption)
    | (intro u x hu) | (intro u hu) | extract_lets | (split <;> (rename_i q; with_reducible refine kept_of_pair q ?_ (fun hu => ?_)))
    | (split <;> (rename_i q; with_reducible refine kept_of_pair2 q ?_ (fun hu => ?_))) | split | dsimp only | dsimp +zetaDelta only)

/-! ### Machine/CmdTime.lean -/

theorem State.readBy_kept {z : State} (s : State) (w : Who) (page off : Nat) (hz : Kept z s) : Kept z (State.readBy s w page off) := by
  unfold State.readBy
  repeat' (first
    | (with_reducible first
      | exact hz | apply State.count_kept | apply State.emit_kept | apply State.accessHit_kept | apply State.readWith_kept
      | apply State.anyRead_kept | apply kept_ite | assumption)
    | extract_lets | (split <;> (rename_i q; with_reducible refine kept_of_pair q ?_ (fun hu => ?_)))
    | (split <;> (rename_i q; with_reducible refine kept_of_pair2 q ?_ (fun hu => ?_))) | split | dsimp only | dsimp +zetaDelta only)

end Sys2Proof.Machine
end

