-- ==== Sys2Proof/Laws/KeptExec.lean ====
section
/-! SUPPORT. `Kept` of the meaning of every command: what it answers keeps what `Kept` names. -/

namespace Sys2Proof.Machine

set_option linter.all false

theorem execCounterLowRead_kept (page : Fin 16384) (off : Fin 4096) (s : State) (u : State) (h : execCounterLowRead page off s = .next u)
    : Kept s u := by
  cases h; exact settle_kept _ (by apply State.doCounterLowRead_kept; exact Kept.rfl' s)
theorem execBusErrorAccess_kept (page : Fin 16384) (off : Fin 4096) (bar2 : Bool) (badSize : Bool) (a : Access) (s : State) (u : State)
    (h : execBusErrorAccess page off bar2 badSize a s = .next u) : Kept s u := by
  cases h; exact settle_kept _ (by apply State.doBusErrorAccess_kept; exact Kept.rfl' s)
theorem execDarkPageAccess_kept (page : Fin 16384) (off : Fin 4096) (a : Access) (s : State) (u : State) (h : execDarkPageAccess page off
    a s = .next u) : Kept s u := by
  cases h; exact settle_kept _ (by apply State.doDarkPageAccess_kept; exact Kept.rfl' s)
theorem execBar2Write_kept (addr : Fin 67108864) (bytes : List Byte) (s : State) (u : State) (h : execBar2Write addr bytes s = .next u) :
    Kept s u := by
  cases h; exact settle_kept _ (by apply State.doBar2Write_kept; exact Kept.rfl' s)
theorem execPcieReset_kept (k : PcieResetKind) (s : State) (u : State) (h : execPcieReset k s = .next u) : Kept s u := by
  cases h; exact settle_kept _ (by apply State.doPcieReset_kept; exact Kept.rfl' s)
theorem execPcieLinkUp_kept (width : Fin 16) (speed : Fin 8) (s : State) (u : State) (h : execPcieLinkUp width speed s = .next u) : Kept
    s u := by
  cases h; exact settle_kept _ (by apply State.doPcieLinkUp_kept; exact Kept.rfl' s)
theorem execBusMasterEnable_kept (s : State) (u : State) (h : execBusMasterEnable s = .next u) : Kept s u := by
  cases h; exact settle_kept _ (by apply State.doBusMasterEnable_kept; exact Kept.rfl' s)
theorem execMsixVectorUnmask_kept (v : Fin 256) (s : State) (u : State) (h : execMsixVectorUnmask v s = .next u) : Kept s u := by
  cases h; exact settle_kept _ (by apply State.doMsixVectorUnmask_kept; exact Kept.rfl' s)
theorem execRegisterWrite_kept (w : Who) (page : Fin 16384) (off : Fin 4096) (v : Word) (s : State) (u : State) (h : execRegisterWrite w
    page off v s = .next u) : Kept s u := by
  cases h; exact settle_kept _ (by apply State.doRegisterWrite_kept; exact Kept.rfl' s)
theorem execPageApply_kept (page : Fin 16384) (s : State) (u : State) (h : execPageApply page s = .next u) : Kept s u := by
  cases h; exact settle_kept _ (by apply State.doPageApply_kept; exact Kept.rfl' s)
theorem execPageHoldSet_kept (page : Fin 16384) (s : State) (u : State) (h : execPageHoldSet page s = .next u) : Kept s u := by
  cases h; exact settle_kept _ (by apply State.doRegisterWrite_kept; exact Kept.rfl' s)
theorem execPageHoldRelease_kept (page : Fin 16384) (s : State) (u : State) (h : execPageHoldRelease page s = .next u) : Kept s u := by
  cases h; exact settle_kept _ (by apply State.doRegisterWrite_kept; exact Kept.rfl' s)
theorem execPageHoldDiscard_kept (page : Fin 16384) (s : State) (u : State) (h : execPageHoldDiscard page s = .next u) : Kept s u := by
  cases h; exact settle_kept _ (by apply State.doRegisterWrite_kept; exact Kept.rfl' s)
theorem execGuardValueWrite_kept (w : Who) (page : Fin 16384) (off : Fin 4096) (v : Word) (s : State) (u : State) (h :
    execGuardValueWrite w page off v s = .next u) : Kept s u := by
  cases h; exact settle_kept _ (by apply State.doGuardValueWrite_kept; exact Kept.rfl' s)
theorem execGuardComplementWrite_kept (w : Who) (page : Fin 16384) (off : Fin 4096) (v : Word) (s : State) (u : State) (h :
    execGuardComplementWrite w page off v s = .next u) : Kept s u := by
  cases h; exact settle_kept _ (by apply State.doGuardComplementWrite_kept; exact Kept.rfl' s)
theorem execGuardLapse_kept (page : Fin 16384) (s : State) (u : State) (h : execGuardLapse page s = .next u) : Kept s u := by
  cases h; exact settle_kept _ (by apply State.doGuardLapse_kept; exact Kept.rfl' s)
theorem execEventAssert_kept (page : Fin 16384) (src : Fin 32) (cell : Fin 262144) (frame : Nat) (s : State) (u : State)
    (h : execEventAssert page src s cell frame = .next u) : Kept s u := by
  cases h; exact settle_kept _ (by apply State.doEventAssert_kept; exact Kept.rfl' s)
theorem execEvtClear_kept (w : Who) (page : Fin 16384) (src : Fin 32) (seq : Byte) (s : State) (u : State) (h : execEvtClear w page src
    seq s = .next u) : Kept s u := by
  cases h; exact settle_kept _ (by apply State.doEvtClearBy_kept; exact Kept.rfl' s)
theorem execRingEnable_kept (r : Ring) (s : State) (u : State) (h : execRingEnable r s = .next u) : Kept s u := by
  cases h; exact settle_kept _ (by apply State.doRingEnable_kept; exact Kept.rfl' s)
theorem execRingDisable_kept (r : Ring) (s : State) (u : State) (h : execRingDisable r s = .next u) : Kept s u := by
  cases h; exact settle_kept _ (by apply State.doRingDisable_kept; exact Kept.rfl' s)
theorem execHostIdxWrite_kept (r : Ring) (v : Word) (s : State) (u : State) (h : execHostIdxWrite r v s = .next u) : Kept s u := by
  unfold execHostIdxWrite at h
  injection h with h; subst h
  refine settle_kept _ ?_
  repeat' (first
    | (with_reducible first
      | exact Kept.rfl' _ | apply State.doRegisterWrite_kept | apply settle_kept)
    | (intro u hu) | (intro u x hu) | with_reducible assumption | split | dsimp only)
theorem execInjectRingFetch_kept (r : Fin 16) (desc : List Byte) (frame : List Byte) (s : State) (u : State) (h : execInjectRingFetch r
    desc frame s = .next u) : Kept s u := by
  cases h; exact settle_kept _ (by apply State.doInjectRingFetch_kept; exact Kept.rfl' s)
theorem execPuntRingDeliver_kept (r : Fin 16) (desc : List Byte) (s : State) (u : State) (h : execPuntRingDeliver r desc s = .next u) :
    Kept s u := by
  cases h; exact settle_kept _ (by apply State.doPuntRingDeliver_kept; exact Kept.rfl' s)
theorem execDmaReadError_kept (r : Ring) (s : State) (u : State) (h : execDmaReadError r s = .next u) : Kept s u := by
  cases h; exact settle_kept _ (by apply State.doDmaReadError_kept; exact Kept.rfl' s)
theorem execRingRecordWrite_kept (r : Ring) (s : State) (u : State) (h : execRingRecordWrite r s = .next u) : Kept s u := by
  cases h; exact settle_kept _ (by apply State.doRingRecordWrite_kept; exact Kept.rfl' s)
theorem execRingCoalTimer_kept (r : Ring) (s : State) (u : State) (h : execRingCoalTimer r s = .next u) : Kept s u := by
  cases h; exact settle_kept _ (by apply State.doRingCoalTimer_kept; exact Kept.rfl' s)
theorem execNotifyFifoEnqueue_kept (f : Fin 5) (item : List Byte) (s : State) (u : State) (h : execNotifyFifoEnqueue f item s = .next u)
    : Kept s u := by
  cases h; exact settle_kept _ (by apply State.doNotifyFifoEnqueue_kept; exact Kept.rfl' s)
theorem execEvtWinRead_kept (s : State) (u : State) (h : execEvtWinRead s = .next u) : Kept s u := by
  cases h; exact settle_kept _ (by apply State.anyRead_kept; exact Kept.rfl' s)
theorem execEvtWinReadReturn_kept (s : State) (u : State) (h : execEvtWinReadReturn s = .next u) : Kept s u := by
  cases h; exact settle_kept _ (by apply State.doEvtWinReadReturn_kept; exact Kept.rfl' s)
theorem execPerfFreeze_kept (i : Island) (s : State) (u : State) (h : execPerfFreeze i s = .next u) : Kept s u := by
  unfold execPerfFreeze at h
  injection h with h; subst h
  refine settle_kept _ ?_
  repeat' (first
    | (with_reducible first
      | exact Kept.rfl' _ | apply State.nowRow_kept | apply State.doPerfFreeze_kept | apply settle_kept)
    | (intro u hu) | (intro u x hu) | with_reducible assumption | split | dsimp only)
theorem execPerfRelease_kept (i : Island) (s : State) (u : State) (h : execPerfRelease i s = .next u) : Kept s u := by
  unfold execPerfRelease at h
  injection h with h; subst h
  refine settle_kept _ ?_
  repeat' (first
    | (with_reducible first
      | exact Kept.rfl' _ | apply State.nowRow_kept | apply State.doPerfRelease_kept | apply settle_kept)
    | (intro u hu) | (intro u x hu) | with_reducible assumption | split | dsimp only)
theorem execPerfZero_kept (i : Island) (s : State) (u : State) (h : execPerfZero i s = .next u) : Kept s u := by
  unfold execPerfZero at h
  injection h with h; subst h
  refine settle_kept _ ?_
  repeat' (first
    | (with_reducible first
      | exact Kept.rfl' _ | apply State.nowRow_kept | apply State.doPerfZero_kept | apply settle_kept)
    | (intro u hu) | (intro u x hu) | with_reducible assumption | split | dsimp only)
theorem execPerfDump_kept (i : Island) (s : State) (u : State) (h : execPerfDump i s = .next u) : Kept s u := by
  cases h; exact settle_kept _ (by apply State.doPerfDump_kept; exact Kept.rfl' s)
theorem execDbgChallenge_kept (s : State) (u : State) (h : execDbgChallenge s = .next u) : Kept s u := by
  cases h; exact settle_kept _ (by apply State.doDbgChallenge_kept; exact Kept.rfl' s)
theorem execDbgResponse_kept (rights : BitVec 3) (key : List Byte) (sig : List Byte) (s : State) (u : State) (h : execDbgResponse rights
    key sig s = .next u) : Kept s u := by
  cases h; exact settle_kept _ (by apply State.doDbgResponse_kept; exact Kept.rfl' s)
theorem execDbgAccess_kept (page : Fin 16384) (off : Fin 4096) (a : Access) (s : State) (u : State) (h : execDbgAccess page off a s =
    .next u) : Kept s u := by
  cases h; exact settle_kept _ (by apply State.doDbgAccess_kept; exact Kept.rfl' s)
theorem execDbgClose_kept (s : State) (u : State) (h : execDbgClose s = .next u) : Kept s u := by
  cases h; exact settle_kept _ (by apply State.doDbgClose_kept; exact Kept.rfl' s)
theorem execDebugIdleTimeout_kept (s : State) (u : State) (h : execDebugIdleTimeout s = .next u) : Kept s u := by
  cases h; exact settle_kept _ (by apply State.doDebugIdleTimeout_kept; exact Kept.rfl' s)
theorem execDebugLockoutEnd_kept (s : State) (u : State) (h : execDebugLockoutEnd s = .next u) : Kept s u := by
  cases h; exact settle_kept _ (by apply State.doDebugLockoutEnd_kept; exact Kept.rfl' s)
theorem execDebugAllowWrite_kept (v : Word) (s : State) (u : State) (h : execDebugAllowWrite v s = .next u) : Kept s u := by
  unfold execDebugAllowWrite at h
  injection h with h; subst h
  refine settle_kept _ ?_
  repeat' (first
    | (with_reducible first
      | exact Kept.rfl' _ | apply State.guardRow_kept | apply settle_kept)
    | (intro u hu) | (intro u x hu) | with_reducible assumption | split | dsimp only)
theorem execTapReset_kept (s : State) (u : State) (h : execTapReset s = .next u) : Kept s u := by
  cases h; exact settle_kept _ (by apply State.doTapReset_kept; exact Kept.rfl' s)
theorem execPeakFieldRead_kept (page : Fin 16384) (off : Fin 4096) (s : State) (u : State) (h : execPeakFieldRead page off s = .next u) :
    Kept s u := by
  cases h; exact settle_kept _ (by apply State.doPeakFieldRead_kept; exact Kept.rfl' s)
theorem execPerstNRelease_kept (s : State) (u : State) (h : execPerstNRelease s = .next u) : Kept s u := by
  cases h; exact settle_kept _ (by apply State.doPerstNRelease_kept; exact Kept.rfl' s)
theorem execMsixEnableSet_kept (s : State) (u : State) (h : execMsixEnableSet s = .next u) : Kept s u := by
  cases h; exact settle_kept _ (by apply State.doMsixEnableSet_kept; exact Kept.rfl' s)
theorem execBoundaryScanInstruction_kept (i : TapInstr) (cells : List Bool) (s : State) (u : State) (h : execBoundaryScanInstruction i
    cells s = .next u) : Kept s u := by
  cases h; exact settle_kept _ (by apply State.doBoundaryScan_kept; exact Kept.rfl' s)
theorem execFrameReceiveStart_kept (lp : LPort) (bytes : List Byte) (src : RxSrc) (s : State) (u : State)
    (h : execFrameReceiveStart lp bytes s src = .next u) : Kept s u := by
  cases h; exact settle_kept _ (by apply State.doFrameReceiveStart_kept; exact Kept.rfl' s)
theorem execRuleLookup_kept (lp : LPort) (src : RxSrc) (s : State) (u : State)
    (h : execRuleLookup lp s src = .next u) : Kept s u := by
  cases h; exact settle_kept _ (by apply State.doRuleLookup_kept; exact Kept.rfl' s)
theorem execFrameReceiveEnd_kept (lp : LPort) (e : RxEnd) (src : RxSrc) (s : State) (u : State)
    (h : execFrameReceiveEnd lp e s src = .next u) : Kept s u := by
  cases h; exact settle_kept _ (by apply State.doFrameReceiveEnd_kept; exact Kept.rfl' s)
theorem execMacControlReceive_kept (lp : LPort) (bytes : List Byte) (s : State) (u : State) (h : execMacControlReceive lp bytes s = .next
    u) : Kept s u := by
  cases h; exact settle_kept _ (by apply State.doMacControlReceive_kept; exact Kept.rfl' s)
theorem execPauseExpire_kept (lp : LPort) (c : Cls) (s : State) (u : State) (h : execPauseExpire lp c s = .next u) : Kept s u := by
  cases h; exact settle_kept _ (by apply State.doPauseExpire_kept; exact Kept.rfl' s)
theorem execPfcRefresh_kept (lp : LPort) (c : Cls) (s : State) (u : State) (h : execPfcRefresh lp c s = .next u) : Kept s u := by
  cases h; exact settle_kept _ (by apply State.doPfcRefresh_kept; exact Kept.rfl' s)
theorem execPauseWatchdogExpire_kept (lp : LPort) (c : Cls) (s : State) (u : State) (h : execPauseWatchdogExpire lp c s = .next u) : Kept
    s u := by
  cases h; exact settle_kept _ (by apply State.doPauseWatchdog_kept; exact Kept.rfl' s)
theorem execPauseRecoveryEnd_kept (lp : LPort) (c : Cls) (s : State) (u : State) (h : execPauseRecoveryEnd lp c s = .next u) : Kept s u
    := by
  cases h; exact settle_kept _ (by apply State.doPauseRecoveryEnd_kept; exact Kept.rfl' s)
theorem execVerifyTimer_kept (lp : LPort) (s : State) (u : State) (h : execVerifyTimer lp s = .next u) : Kept s u := by
  cases h; exact settle_kept _ (by apply State.doVerifyTimer_kept; exact Kept.rfl' s)
theorem execVerifyRespondReceive_kept (lp : LPort) (s : State) (u : State) (h : execVerifyRespondReceive lp s = .next u) : Kept s u := by
  cases h; exact settle_kept _ (by apply State.doVerifyRespondReceive_kept; exact Kept.rfl' s)
theorem execVerifyReceive_kept (lp : LPort) (s : State) (u : State) (h : execVerifyReceive lp s = .next u) : Kept s u := by
  cases h; exact settle_kept _ (by apply State.doVerifyReceive_kept; exact Kept.rfl' s)
theorem execParkedFrameReceive_kept (lp : LPort) (bytes : List Byte) (s : State) (u : State) (h : execParkedFrameReceive lp bytes s =
    .next u) : Kept s u := by
  cases h; exact settle_kept _ (by apply State.doParkedFrameReceive_kept; exact Kept.rfl' s)
theorem execLightAppear_kept (lp : LPort) (s : State) (u : State) (h : execLightAppear lp s = .next u) : Kept s u := by
  cases h; exact settle_kept _ (by apply State.doLightAppear_kept; exact Kept.rfl' s)
theorem execUncorrectableCodeword_kept (lp : LPort) (s : State) (u : State) (h : execUncorrectableCodeword lp s = .next u) : Kept s u :=
    by
  cases h; exact settle_kept _ (by apply State.doUncorrectableCodeword_kept; exact Kept.rfl' s)
theorem execSerWindowRestart_kept (lp : LPort) (codewords symbols : Nat) (s : State) (u : State)
    (h : execSerWindowRestart lp s codewords symbols = .next u) : Kept s u := by
  cases h; exact settle_kept _ (by apply State.doSerWindowRestart_kept; exact Kept.rfl' s)
theorem execPitchBiasDone_kept (lp : LPort) (s : State) (u : State) (h : execPitchBiasDone lp s = .next u) : Kept s u := by
  cases h; exact settle_kept _ (by apply State.doPitchBiasDone_kept; exact Kept.rfl' s)
theorem execPitchBiasTimeout_kept (lp : LPort) (s : State) (u : State) (h : execPitchBiasTimeout lp s = .next u) : Kept s u := by
  cases h; exact settle_kept _ (by apply State.doPitchBiasTimeout_kept; exact Kept.rfl' s)
theorem execPitchEqualiseDone_kept (lp : LPort) (s : State) (u : State) (h : execPitchEqualiseDone lp s = .next u) : Kept s u := by
  cases h; exact settle_kept _ (by apply State.doPitchEqualiseDone_kept; exact Kept.rfl' s)
theorem execPitchEqualiseTimeout_kept (lp : LPort) (s : State) (u : State) (h : execPitchEqualiseTimeout lp s = .next u) : Kept s u := by
  cases h; exact settle_kept _ (by apply State.doPitchEqualiseTimeout_kept; exact Kept.rfl' s)
theorem execLossOfLight_kept (lp : LPort) (s : State) (u : State) (h : execLossOfLight lp s = .next u) : Kept s u := by
  cases h; exact settle_kept _ (by apply State.doLossOfLight_kept; exact Kept.rfl' s)
theorem execPitchFecLockDone_kept (lp : LPort) (s : State) (u : State) (h : execPitchFecLockDone lp s = .next u) : Kept s u := by
  cases h; exact settle_kept _ (by apply State.doPitchFecLockDone_kept; exact Kept.rfl' s)
theorem execPitchFecLockTimeout_kept (lp : LPort) (s : State) (u : State) (h : execPitchFecLockTimeout lp s = .next u) : Kept s u := by
  cases h; exact settle_kept _ (by apply State.doPitchFecLockTimeout_kept; exact Kept.rfl' s)
theorem execPitchAmLockDone_kept (lp : LPort) (s : State) (u : State) (h : execPitchAmLockDone lp s = .next u) : Kept s u := by
  cases h; exact settle_kept _ (by apply State.doPitchAmLockDone_kept; exact Kept.rfl' s)
theorem execPitchAmLockTimeout_kept (lp : LPort) (s : State) (u : State) (h : execPitchAmLockTimeout lp s = .next u) : Kept s u := by
  cases h; exact settle_kept _ (by apply State.doPitchAmLockTimeout_kept; exact Kept.rfl' s)
theorem execAlignmentLockLoss_kept (lp : LPort) (s : State) (u : State) (h : execAlignmentLockLoss lp s = .next u) : Kept s u := by
  cases h; exact settle_kept _ (by apply State.doAlignmentLockLoss_kept; exact Kept.rfl' s)
theorem execBackoffEnd_kept (lp : LPort) (s : State) (u : State) (h : execBackoffEnd lp s = .next u) : Kept s u := by
  cases h; exact settle_kept _ (by apply State.doBackoffEnd_kept; exact Kept.rfl' s)
theorem execHoldTimerExpire_kept (lp : LPort) (s : State) (u : State) (h : execHoldTimerExpire lp s = .next u) : Kept s u := by
  cases h; exact settle_kept _ (by apply State.doHoldTimerExpire_kept; exact Kept.rfl' s)
theorem execParkApply_kept (p : Port) (s : State) (u : State) (h : execParkApply p s = .next u) : Kept s u := by
  cases h; exact settle_kept _ (by apply State.doParkApply_kept; exact Kept.rfl' s)
theorem execLaserSample_kept (e : Engine) (l : Lane) (x : LaserSample) (s : State) (u : State) (h : execLaserSample e l x s = .next u) :
    Kept s u := by
  cases h; exact settle_kept _ (by apply State.doLaserSample_kept; exact Kept.rfl' s)
theorem execSparePowerReady_kept (e : Engine) (l : Lane) (s : State) (u : State) (h : execSparePowerReady e l s = .next u) : Kept s u :=
    by
  cases h; exact settle_kept _ (by apply State.doSparePowerReady_kept; exact Kept.rfl' s)
theorem execSpareSwitchComplete_kept (e : Engine) (l : Lane) (s : State) (u : State) (h : execSpareSwitchComplete e l s = .next u) : Kept
    s u := by
  cases h; exact settle_kept _ (by apply State.doSpareSwitchComplete_kept; exact Kept.rfl' s)
theorem execWearRecordWrite_kept (e : Engine) (s : State) (u : State) (h : execWearRecordWrite e s = .next u) : Kept s u := by
  cases h; exact settle_kept _ (by apply State.doWearRecordWrite_kept; exact Kept.rfl' s)
theorem execEyeLimitTrip_kept (e : Engine) (l : Lane) (s : State) (u : State) (h : execEyeLimitTrip e l s = .next u) : Kept s u := by
  cases h; exact settle_kept _ (by apply State.doEyeLimitTrip_kept; exact Kept.rfl' s)
theorem execLaneClearTrip_kept (e : Engine) (l : Lane) (s : State) (u : State) (h : execLaneClearTrip e l s = .next u) : Kept s u := by
  unfold execLaneClearTrip at h
  injection h with h; subst h
  refine settle_kept _ ?_
  repeat' (first
    | (with_reducible first
      | exact Kept.rfl' _ | apply State.guardRow_kept | apply settle_kept)
    | (intro u hu) | (intro u x hu) | with_reducible assumption | split | dsimp only)
theorem execLaneApproveSwitch_kept (e : Engine) (l : Lane) (s : State) (u : State) (h : execLaneApproveSwitch e l s = .next u) : Kept s u
    := by
  unfold execLaneApproveSwitch at h
  injection h with h; subst h
  refine settle_kept _ ?_
  repeat' (first
    | (with_reducible first
      | exact Kept.rfl' _ | apply State.guardRow_kept | apply settle_kept)
    | (intro u hu) | (intro u x hu) | with_reducible assumption | split | dsimp only)
theorem execLaneSwitchNow_kept (e : Engine) (l : Lane) (s : State) (u : State) (h : execLaneSwitchNow e l s = .next u) : Kept s u := by
  unfold execLaneSwitchNow at h
  injection h with h; subst h
  refine settle_kept _ ?_
  repeat' (first
    | (with_reducible first
      | exact Kept.rfl' _ | apply State.guardRow_kept | apply settle_kept)
    | (intro u hu) | (intro u x hu) | with_reducible assumption | split | dsimp only)
theorem execCalInterpolate_kept (e : Engine) (temp : BitVec 8) (s : State) (u : State) (h : execCalInterpolate e temp s = .next u) : Kept
    s u := by
  cases h; exact settle_kept _ (by apply State.doCalInterpolate_kept; exact Kept.rfl' s)
theorem execCounterHarvest_kept (p : Port) (s : State) (u : State) (h : execCounterHarvest p s = .next u) : Kept s u := by
  cases h; exact settle_kept _ (by apply State.doCounterHarvest_kept; exact Kept.rfl' s)
theorem execLockstepMismatch_kept (c : Cluster) (pair : Pair) (s : State) (u : State) (h : execLockstepMismatch c pair s = .next u) :
    Kept s u := by
  cases h; exact settle_kept _ (by apply State.doLockstepMismatch_kept; exact Kept.rfl' s)
theorem execSramEccError_kept (c : Cluster) (uncorrectable : Bool) (s : State) (u : State) (h : execSramEccError c uncorrectable s =
    .next u) : Kept s u := by
  cases h; exact settle_kept _ (by apply State.doSramEccError_kept; exact Kept.rfl' s)
theorem execClusterSelftestDone_kept (c : Cluster) (ok : Bool) (s : State) (u : State) (h : execClusterSelftestDone c ok s = .next u) :
    Kept s u := by
  cases h; exact settle_kept _ (by apply State.doClusterSelftestDone_kept; exact Kept.rfl' s)
theorem execClusterLoadDone_kept (c : Cluster) (ok : Bool) (s : State) (u : State) (h : execClusterLoadDone c ok s = .next u) : Kept s u
    := by
  cases h; exact settle_kept _ (by apply State.doClusterLoadDone_kept; exact Kept.rfl' s)
theorem execLeaseRenew_kept (c : Cluster) (epoch : BitVec 16) (s : State) (u : State) (h : execLeaseRenew c epoch s = .next u) : Kept s u
    := by
  cases h; exact settle_kept _ (by apply State.doLeaseRenew_kept; exact Kept.rfl' s)
theorem execLeaseClaim_kept (c : Cluster) (s : State) (u : State) (h : execLeaseClaim c s = .next u) : Kept s u := by
  cases h; exact settle_kept _ (by apply State.doLeaseClaim_kept; exact Kept.rfl' s)
theorem execLeaseRelease_kept (c : Cluster) (epoch : BitVec 16) (s : State) (u : State) (h : execLeaseRelease c epoch s = .next u) : Kept
    s u := by
  cases h; exact settle_kept _ (by apply State.doLeaseRelease_kept; exact Kept.rfl' s)
theorem execLeaseReady_kept (c : Cluster) (epoch : BitVec 16) (s : State) (u : State) (h : execLeaseReady c epoch s = .next u) : Kept s u
    := by
  cases h; exact settle_kept _ (by apply State.doLeaseReady_kept; exact Kept.rfl' s)
theorem execLeaseExpire_kept (s : State) (u : State) (h : execLeaseExpire s = .next u) : Kept s u := by
  cases h; exact settle_kept _ (by apply State.doLeaseExpire_kept; exact Kept.rfl' s)
theorem execLeaseGuardEnd_kept (s : State) (u : State) (h : execLeaseGuardEnd s = .next u) : Kept s u := by
  cases h; exact settle_kept _ (by apply State.doLeaseGuardEnd_kept; exact Kept.rfl' s)
theorem execLeaseRevoke_kept (s : State) (u : State) (h : execLeaseRevoke s = .next u) : Kept s u := by
  unfold execLeaseRevoke at h
  injection h with h; subst h
  refine settle_kept _ ?_
  repeat' (first
    | (with_reducible first
      | exact Kept.rfl' _ | apply State.guardRow_kept | apply settle_kept)
    | (intro u hu) | (intro u x hu) | with_reducible assumption | split | dsimp only)
theorem execLeaseSetNext_kept (next : Fin 4) (s : State) (u : State) (h : execLeaseSetNext next s = .next u) : Kept s u := by
  unfold execLeaseSetNext at h
  injection h with h; subst h
  refine settle_kept _ ?_
  repeat' (first
    | (with_reducible first
      | exact Kept.rfl' _ | apply State.guardRow_kept | apply settle_kept)
    | (intro u hu) | (intro u x hu) | with_reducible assumption | split | dsimp only)
theorem execCkptCmd_kept (c : Cluster) (s : State) (u : State) (h : execCkptCmd c s = .next u) : Kept s u := by
  cases h; exact settle_kept _ (by apply State.doCkptCmd_kept; exact Kept.rfl' s)
theorem execCkptMark_kept (c : Cluster) (page : BitVec 18) (set : Bool) (s : State) (u : State) (h : execCkptMark c page set s = .next u)
    : Kept s u := by
  cases h; exact settle_kept _ (by apply State.doCkptMark_kept; exact Kept.rfl' s)
theorem execCkptCommit_kept (s : State) (u : State) (h : execCkptCommit s = .next u) : Kept s u := by
  cases h; exact settle_kept _ (by apply State.doCkptCommit_kept; exact Kept.rfl' s)
theorem execCkptStale_kept (s : State) (u : State) (h : execCkptStale s = .next u) : Kept s u := by
  cases h; exact settle_kept _ (by apply State.doCkptStale_kept; exact Kept.rfl' s)
theorem execCheckpointRestoreDone_kept (s : State) (u : State) (h : execCheckpointRestoreDone s = .next u) : Kept s u := by
  cases h; exact settle_kept _ (by apply State.doCheckpointRestoreDone_kept; exact Kept.rfl' s)
theorem execSwapDue_kept (s : State) (u : State) (h : execSwapDue s = .next u) : Kept s u := by
  cases h; exact settle_kept _ (by apply State.doSwapDue_kept; exact Kept.rfl' s)
theorem execSwapWindowExpire_kept (s : State) (u : State) (h : execSwapWindowExpire s = .next u) : Kept s u := by
  cases h; exact settle_kept _ (by apply State.doSwapWindowExpire_kept; exact Kept.rfl' s)
theorem execTwinFrameReceive_kept (bytes : List Byte) (s : State) (u : State) (h : execTwinFrameReceive bytes s = .next u) : Kept s u :=
    by
  cases h; exact settle_kept _ (by apply State.doTwinFrameReceive_kept; exact Kept.rfl' s)
theorem execTwinStatusSend_kept (s : State) (u : State) (h : execTwinStatusSend s = .next u) : Kept s u := by
  cases h; exact settle_kept _ (by apply State.doTwinStatusSend_kept; exact Kept.rfl' s)
theorem execTwinRenewSend_kept (s : State) (u : State) (h : execTwinRenewSend s = .next u) : Kept s u := by
  cases h; exact settle_kept _ (by apply State.doTwinRenewSend_kept; exact Kept.rfl' s)
theorem execTwinExpiry_kept (s : State) (u : State) (h : execTwinExpiry s = .next u) : Kept s u := by
  cases h; exact settle_kept _ (by apply State.doTwinExpiry_kept; exact Kept.rfl' s)
theorem execTwinStandbyTakeover_kept (s : State) (u : State) (h : execTwinStandbyTakeover s = .next u) : Kept s u := by
  cases h; exact settle_kept _ (by apply State.doTwinStandbyTakeover_kept; exact Kept.rfl' s)
theorem execTwinLinkLost_kept (s : State) (u : State) (h : execTwinLinkLost s = .next u) : Kept s u := by
  cases h; exact settle_kept _ (by apply State.doTwinLinkLost_kept; exact Kept.rfl' s)
theorem execTwinListenEnd_kept (s : State) (u : State) (h : execTwinListenEnd s = .next u) : Kept s u := by
  cases h; exact settle_kept _ (by apply State.doTwinListenEnd_kept; exact Kept.rfl' s)
theorem execTwinHandOver_kept (s : State) (u : State) (h : execTwinHandOver s = .next u) : Kept s u := by
  unfold execTwinHandOver at h
  injection h with h; subst h
  refine settle_kept _ ?_
  repeat' (first
    | (with_reducible first
      | exact Kept.rfl' _ | apply State.guardRow_kept | apply settle_kept)
    | (intro u hu) | (intro u x hu) | with_reducible assumption | split | dsimp only)
theorem execTwinReleaseGuardEnd_kept (s : State) (u : State) (h : execTwinReleaseGuardEnd s = .next u) : Kept s u := by
  cases h; exact settle_kept _ (by apply State.doTwinReleaseGuardEnd_kept; exact Kept.rfl' s)
theorem execTwinHoldInChange_kept (level : Bool) (s : State) (u : State) (h : execTwinHoldInChange level s = .next u) : Kept s u := by
  cases h; exact settle_kept _ (by apply State.doTwinHoldInChange_kept; exact Kept.rfl' s)
theorem execTwinHoldSample_kept (s : State) (u : State) (h : execTwinHoldSample s = .next u) : Kept s u := by
  cases h; exact settle_kept _ (by apply State.doTwinHoldSample_kept; exact Kept.rfl' s)
theorem execTwinHoldRelease_kept (s : State) (u : State) (h : execTwinHoldRelease s = .next u) : Kept s u := by
  cases h; exact settle_kept _ (by apply State.doTwinHoldRelease_kept; exact Kept.rfl' s)
theorem execInjectPost_kept (c : Cluster) (pair : Pair) (w3 : Word) (s : State) (u : State) (h : execInjectPost c pair w3 s = .next u) :
    Kept s u := by
  cases h; exact settle_kept _ (by apply State.doInjectPost_kept; exact Kept.rfl' s)
theorem execInjectSend_kept (pair : Pair) (s : State) (u : State) (h : execInjectSend pair s = .next u) : Kept s u := by
  cases h; exact settle_kept _ (by apply State.doInjectSend_kept; exact Kept.rfl' s)
theorem execLaserReq_kept (c : Cluster) (e : Engine) (l : Lane) (ceil : BitVec 12) (all : Bool) (s : State) (u : State) (h : execLaserReq
    c e l ceil all s = .next u) : Kept s u := by
  cases h; exact settle_kept _ (by apply State.doLaserReq_kept; exact Kept.rfl' s)
theorem execPmAllocate_kept (w : Who) (req : Fin 16) (size : BitVec 14) (s : State) (u : State) (h : execPmAllocate w req size s = .next
    u) : Kept s u := by
  cases h; exact settle_kept _ (by apply State.pmAllocateBy_kept; exact Kept.rfl' s)
theorem execPmFree_kept (w : Who) (req : Fin 16) (handle : Word) (s : State) (u : State) (h : execPmFree w req handle s = .next u) : Kept
    s u := by
  cases h; exact settle_kept _ (by apply State.pmFreeBy_kept; exact Kept.rfl' s)
theorem execPuntToCluster_kept (sl : Slice) (s : State) (u : State) (h : execPuntToCluster sl s = .next u) : Kept s u := by
  cases h; exact settle_kept _ (by apply State.doPuntToCluster_kept; exact Kept.rfl' s)
theorem execMbToFwPost_kept (handle : Word) (s : State) (u : State) (h : execMbToFwPost handle s = .next u) : Kept s u := by
  unfold execMbToFwPost at h
  injection h with h; subst h
  refine settle_kept _ ?_
  repeat' (first
    | (with_reducible first
      | exact Kept.rfl' _ | apply State.nowRow_kept | apply State.doMbToFwPost_kept | apply settle_kept)
    | (intro u hu) | (intro u x hu) | with_reducible assumption | split | dsimp only)
theorem execMbToFwRead_kept (c : Cluster) (pair : Pair) (s : State) (u : State) (h : execMbToFwRead c pair s = .next u) : Kept s u := by
  cases h; exact settle_kept _ (by apply State.doMbToFwRead_kept; exact Kept.rfl' s)
theorem execMbToHostPost_kept (c : Cluster) (handle : Word) (s : State) (u : State) (h : execMbToHostPost c handle s = .next u) : Kept s
    u := by
  cases h; exact settle_kept _ (by apply State.doMbToHostPost_kept; exact Kept.rfl' s)
theorem execMbToHostRead_kept (s : State) (u : State) (h : execMbToHostRead s = .next u) : Kept s u := by
  cases h; exact settle_kept _ (by apply State.anyRead_kept; exact Kept.rfl' s)
theorem execClusterWindowAccess_kept (c : Cluster) (addr : BitVec 36) (st : Option Byte) (s : State) (u : State) (h :
    execClusterWindowAccess c addr st s = .next u) : Kept s u := by
  cases h; exact settle_kept _ (by apply State.doClusterWindowAccess_kept; exact Kept.rfl' s)
theorem execFirmwareHostPageRead_kept (c : Cluster) (page : Fin 16384) (off : Fin 4096) (s : State) (u : State) (h :
    execFirmwareHostPageRead c page off s = .next u) : Kept s u := by
  cases h; exact settle_kept _ (by apply State.doFirmwareHostPageRead_kept; exact Kept.rfl' s)
theorem execCellIdleClose_kept (sl : Slice) (q : Fin 2112) (s : State) (u : State) (h : execCellIdleClose sl q s = .next u) : Kept s u :=
    by
  cases h; exact settle_kept _ (by apply State.doCellIdleClose_kept; exact Kept.rfl' s)
theorem execMatchingRound_kept (s : State) (u : State) (h : execMatchingRound s = .next u) : Kept s u := by
  unfold execMatchingRound at h
  injection h with h; subst h
  refine settle_kept _ ?_
  repeat' (first
    | (with_reducible first
      | exact Kept.rfl' _ | apply State.doMatchingRound_kept | apply settle_kept)
    | (intro u hu) | (intro u x hu) | with_reducible assumption | split | dsimp only)
theorem execCellArrival_kept (d : Slice) (crcGood : Bool) (s : State) (u : State) (h : execCellArrival d crcGood s = .next u) : Kept s u
    := by
  cases h; exact settle_kept _ (by apply State.doCellArrival_kept; exact Kept.rfl' s)
theorem execReseqTimeout_kept (d : Slice) (src : Slice) (dest : Fin 264) (c : Cls) (s : State) (u : State) (h : execReseqTimeout d src
    dest c s = .next u) : Kept s u := by
  cases h; exact settle_kept _ (by apply State.doReseqTimeout_kept; exact Kept.rfl' s)
theorem execVoqStall_kept (sl : Slice) (q : Fin 2112) (s : State) (u : State) (h : execVoqStall sl q s = .next u) : Kept s u := by
  cases h; exact settle_kept _ (by apply State.doVoqStall_kept; exact Kept.rfl' s)
theorem execPlaneTrainingLoss_kept (p : Plane) (s : State) (u : State) (h : execPlaneTrainingLoss p s = .next u) : Kept s u := by
  cases h; exact settle_kept _ (by apply State.planeOut_kept; exact Kept.rfl' s)
theorem execPlaneRemove_kept (p : Plane) (s : State) (u : State) (h : execPlaneRemove p s = .next u) : Kept s u := by
  unfold execPlaneRemove at h
  injection h with h; subst h
  refine settle_kept _ ?_
  repeat' (first
    | (with_reducible first
      | exact Kept.rfl' _ | apply State.guardRow_kept | apply settle_kept)
    | (intro u hu) | (intro u x hu) | with_reducible assumption | split | dsimp only)
theorem execPlaneReturn_kept (p : Plane) (s : State) (u : State) (h : execPlaneReturn p s = .next u) : Kept s u := by
  unfold execPlaneReturn at h
  injection h with h; subst h
  refine settle_kept _ ?_
  repeat' (first
    | (with_reducible first
      | exact Kept.rfl' _ | apply State.guardRow_kept | apply settle_kept)
    | (intro u hu) | (intro u x hu) | with_reducible assumption | split | dsimp only)
theorem execPlaneReturnDone_kept (p : Plane) (ok : Bool) (s : State) (u : State) (h : execPlaneReturnDone p ok s = .next u) : Kept s u :=
    by
  cases h; exact settle_kept _ (by apply State.doPlaneReturnDone_kept; exact Kept.rfl' s)
theorem execPortTreeDecision_kept (p : Port) (s : State) (u : State) (h : execPortTreeDecision p s = .next u) : Kept s u := by
  cases h; exact settle_kept _ (by apply State.doPortTreeDecision_kept; exact Kept.rfl' s)
theorem execTransmitSelect_kept (lp : LPort) (s : State) (u : State) (h : execTransmitSelect lp s = .next u) : Kept s u := by
  cases h; exact settle_kept _ (by apply State.doTransmitSelect_kept; exact Kept.rfl' s)
theorem execTransmitEnd_kept (lp : LPort) (s : State) (u : State) (h : execTransmitEnd lp s = .next u) : Kept s u := by
  cases h; exact settle_kept _ (by apply State.doTransmitEnd_kept; exact Kept.rfl' s)
theorem execCtUnderrun_kept (lp : LPort) (s : State) (u : State) (h : execCtUnderrun lp s = .next u) : Kept s u := by
  cases h; exact settle_kept _ (by apply State.doCtUnderrun_kept; exact Kept.rfl' s)
theorem execBobbinIdleWrite_kept (sl : Slice) (q : Fin 16384) (s : State) (u : State) (h : execBobbinIdleWrite sl q s = .next u) : Kept s
    u := by
  cases h; exact settle_kept _ (by apply State.doBobbinIdleWrite_kept; exact Kept.rfl' s)
theorem execBobbinReadback_kept (sl : Slice) (q : Fin 16384) (s : State) (u : State) (h : execBobbinReadback sl q s = .next u) : Kept s u
    := by
  cases h; exact settle_kept _ (by apply State.doBobbinReadback_kept; exact Kept.rfl' s)
theorem execQueueConfigWrite_kept (sl : Slice) (idx : Fin 32768) (s : State) (u : State) (h : execQueueConfigWrite sl idx s = .next u) :
    Kept s u := by
  unfold execQueueConfigWrite at h
  injection h with h; subst h
  refine settle_kept _ ?_
  repeat' (first
    | (with_reducible first
      | exact Kept.rfl' _ | apply State.turnRow_kept | apply State.doQueueConfigWrite_kept | apply settle_kept)
    | (intro u hu) | (intro u x hu) | with_reducible assumption | split | dsimp only)
theorem execQueueConfigRead_kept (sl : Slice) (idx : Fin 32768) (s : State) (u : State) (h : execQueueConfigRead sl idx s = .next u) :
    Kept s u := by
  unfold execQueueConfigRead at h
  injection h with h; subst h
  refine settle_kept _ ?_
  repeat' (first
    | (with_reducible first
      | exact Kept.rfl' _ | apply State.turnRow_kept | apply State.doQueueConfigRead_kept | apply settle_kept)
    | (intro u hu) | (intro u x hu) | with_reducible assumption | split | dsimp only)
theorem execStackRefreshDouble_kept (d : Stack) (s : State) (u : State) (h : execStackRefreshDouble d s = .next u) : Kept s u := by
  cases h; exact settle_kept _ (by apply State.doStackRefreshDouble_kept; exact Kept.rfl' s)
theorem execStackRefreshNormal_kept (d : Stack) (s : State) (u : State) (h : execStackRefreshNormal d s = .next u) : Kept s u := by
  cases h; exact settle_kept _ (by apply State.doStackRefreshNormal_kept; exact Kept.rfl' s)
theorem execDerateRecompute_kept (s : State) (u : State) (h : execDerateRecompute s = .next u) : Kept s u := by
  cases h; exact settle_kept _ (by apply State.doDerateRecompute_kept; exact Kept.rfl' s)
theorem execStackFault_kept (d : Stack) (s : State) (u : State) (h : execStackFault d s = .next u) : Kept s u := by
  cases h; exact settle_kept _ (by apply State.doStackFault_kept; exact Kept.rfl' s)
theorem execStackRemove_kept (d : Stack) (s : State) (u : State) (h : execStackRemove d s = .next u) : Kept s u := by
  unfold execStackRemove at h
  injection h with h; subst h
  refine settle_kept _ ?_
  repeat' (first
    | (with_reducible first
      | exact Kept.rfl' _ | apply State.guardRow_kept | apply settle_kept)
    | (intro u hu) | (intro u x hu) | with_reducible assumption | split | dsimp only)
theorem execStackReturn_kept (d : Stack) (s : State) (u : State) (h : execStackReturn d s = .next u) : Kept s u := by
  unfold execStackReturn at h
  injection h with h; subst h
  refine settle_kept _ ?_
  repeat' (first
    | (with_reducible first
      | exact Kept.rfl' _ | apply State.guardRow_kept | apply settle_kept)
    | (intro u hu) | (intro u x hu) | with_reducible assumption | split | dsimp only)
theorem execStackSelftestDone_kept (d : Stack) (ok : Bool) (s : State) (u : State) (h : execStackSelftestDone d ok s = .next u) : Kept s
    u := by
  cases h; exact settle_kept _ (by apply State.doStackSelftestDone_kept; exact Kept.rfl' s)
theorem execAuditLatch_kept (s : State) (u : State) (h : execAuditLatch s = .next u) : Kept s u := by
  cases h; exact settle_kept _ (by apply State.doAuditLatch_kept; exact Kept.rfl' s)
theorem execAuditCheck_kept (s : State) (u : State) (h : execAuditCheck s = .next u) : Kept s u := by
  cases h; exact settle_kept _ (by apply State.doAuditCheck_kept; exact Kept.rfl' s)
theorem execSchedEntryWrite_kept (sl : Slice) (table : Fin 16) (idx : Fin 32768) (s : State) (u : State) (h : execSchedEntryWrite sl
    table idx s = .next u) : Kept s u := by
  unfold execSchedEntryWrite at h
  injection h with h; subst h
  refine settle_kept _ ?_
  repeat' (first
    | (with_reducible first
      | exact Kept.rfl' _ | apply State.turnRow_kept | apply State.schCommand_kept | apply settle_kept)
    | (intro u hu) | (intro u x hu) | with_reducible assumption | split | dsimp only)
theorem execSchedEntryRead_kept (sl : Slice) (table : Fin 16) (idx : Fin 32768) (s : State) (u : State) (h : execSchedEntryRead sl table
    idx s = .next u) : Kept s u := by
  unfold execSchedEntryRead at h
  injection h with h; subst h
  refine settle_kept _ ?_
  repeat' (first
    | (with_reducible first
      | exact Kept.rfl' _ | apply State.turnRow_kept | apply State.doSchedRead_kept | apply settle_kept)
    | (intro u hu) | (intro u x hu) | with_reducible assumption | split | dsimp only)
theorem execGateCommit_kept (sl : Slice) (k : Fin 32) (s : State) (u : State) (h : execGateCommit sl k s = .next u) : Kept s u := by
  unfold execGateCommit at h
  injection h with h; subst h
  refine settle_kept _ ?_
  repeat' (first
    | (with_reducible first
      | exact Kept.rfl' _ | apply State.turnRow_kept | apply State.doGateCommit_kept | apply settle_kept)
    | (intro u hu) | (intro u x hu) | with_reducible assumption | split | dsimp only)
theorem execGateCommitCopyDone_kept (sl : Slice) (k : Fin 32) (s : State) (u : State) (h : execGateCommitCopyDone sl k s = .next u) :
    Kept s u := by
  cases h; exact settle_kept _ (by apply State.doGateCopyDone_kept; exact Kept.rfl' s)
theorem execGateListChange_kept (p : Port) (s : State) (u : State) (h : execGateListChange p s = .next u) : Kept s u := by
  cases h; exact settle_kept _ (by apply State.doGateListChange_kept; exact Kept.rfl' s)
theorem execGateEntryAdvance_kept (p : Port) (s : State) (u : State) (h : execGateEntryAdvance p s = .next u) : Kept s u := by
  cases h; exact settle_kept _ (by apply State.doGateEntryAdvance_kept; exact Kept.rfl' s)
theorem execSampleReadClear_kept (sl : Slice) (idx : Fin 32768) (s : State) (u : State) (h : execSampleReadClear sl idx s = .next u) :
    Kept s u := by
  unfold execSampleReadClear at h
  injection h with h; subst h
  refine settle_kept _ ?_
  repeat' (first
    | (with_reducible first
      | exact Kept.rfl' _ | apply State.turnRow_kept | apply State.doSampleReadClear_kept | apply settle_kept)
    | (intro u hu) | (intro u x hu) | with_reducible assumption | split | dsimp only)
theorem execQueueSample_kept (sl : Slice) (idx : Fin 17408) (s : State) (u : State) (h : execQueueSample sl idx s = .next u) : Kept s u
    := by
  cases h; exact settle_kept _ (by apply State.doQueueSample_kept; exact Kept.rfl' s)
theorem execBobbinWriteDone_kept (sl : Slice) (q : Fin 16384) (s : State) (u : State) (h : execBobbinWriteDone sl q s = .next u) : Kept s
    u := by
  cases h; exact settle_kept _ (by apply State.doBobbinWriteDone_kept; exact Kept.rfl' s)
theorem execRailBreak_kept (page : Fin 16384) (src : Fin 32) (s : State) (u : State) (h : execRailBreak page src s = .next u) : Kept s u
    := by
  cases h; exact settle_kept _ (by apply State.doRailBreak_kept; exact Kept.rfl' s)
theorem execRailRestore_kept (s : State) (u : State) (h : execRailRestore s = .next u) : Kept s u := by
  cases h; exact settle_kept _ (by apply State.doRailRestore_kept; exact Kept.rfl' s)
theorem execThermThresholdCross_kept (i : Island) (temp : BitVec 8) (s : State) (u : State) (h : execThermThresholdCross i temp s = .next
    u) : Kept s u := by
  cases h; exact settle_kept _ (by apply State.doThermCross_kept; exact Kept.rfl' s)
theorem execColdResetCmd_kept (w : Who) (s : State) (u : State) (h : execColdResetCmd w s = .next u) : Kept s u := by
  unfold execColdResetCmd at h
  injection h with h; subst h
  refine settle_kept _ ?_
  repeat' (first
    | (with_reducible first
      | exact Kept.rfl' _ | apply State.guardRow_kept | apply settle_kept)
    | (intro u hu) | (intro u x hu) | with_reducible assumption | split | dsimp only)
theorem execWarmResetCmd_kept (w : Who) (s : State) (u : State) (h : execWarmResetCmd w s = .next u) : Kept s u := by
  unfold execWarmResetCmd at h
  injection h with h; subst h
  refine settle_kept _ ?_
  repeat' (first
    | (with_reducible first
      | exact Kept.rfl' _ | apply State.guardRow_kept | apply settle_kept)
    | (intro u hu) | (intro u x hu) | with_reducible assumption | split | dsimp only)
theorem execBlockResetCmd_kept (w : Who) (target : Fin 64) (s : State) (u : State) (h : execBlockResetCmd w target s = .next u) : Kept s
    u := by
  unfold execBlockResetCmd at h
  injection h with h; subst h
  refine settle_kept _ ?_
  repeat' (first
    | (with_reducible first
      | exact Kept.rfl' _ | apply State.guardRow_kept | apply settle_kept)
    | (intro u hu) | (intro u x hu) | with_reducible assumption | split | dsimp only)
theorem execClusterResetCmd_kept (w : Who) (target : Fin 64) (s : State) (u : State) (h : execClusterResetCmd w target s = .next u) :
    Kept s u := by
  unfold execClusterResetCmd at h
  injection h with h; subst h
  refine settle_kept _ ?_
  repeat' (first
    | (with_reducible first
      | exact Kept.rfl' _ | apply State.guardRow_kept | apply settle_kept)
    | (intro u hu) | (intro u x hu) | with_reducible assumption | split | dsimp only)
theorem execReleaseIsolated_kept (w : Who) (target : Fin 64) (s : State) (u : State) (h : execReleaseIsolated w target s = .next u) :
    Kept s u := by
  unfold execReleaseIsolated at h
  injection h with h; subst h
  refine settle_kept _ ?_
  repeat' (first
    | (with_reducible first
      | exact Kept.rfl' _ | apply State.guardRow_kept | apply settle_kept)
    | (intro u hu) | (intro u x hu) | with_reducible assumption | split | dsimp only)
theorem execBlockResetReady_kept (i : Island) (s : State) (u : State) (h : execBlockResetReady i s = .next u) : Kept s u := by
  cases h; exact settle_kept _ (by apply State.doBlockResetReady_kept; exact Kept.rfl' s)
theorem execSliceReloadDone_kept (sl : Slice) (s : State) (u : State) (h : execSliceReloadDone sl s = .next u) : Kept s u := by
  cases h; exact settle_kept _ (by apply State.doSliceReloadDone_kept; exact Kept.rfl' s)
theorem execGuyWindowEnd_kept (i : Island) (s : State) (u : State) (h : execGuyWindowEnd i s = .next u) : Kept s u := by
  cases h; exact settle_kept _ (by apply State.doGuyWindowEnd_kept; exact Kept.rfl' s)
theorem execRecordClrFatal_kept (s : State) (u : State) (h : execRecordClrFatal s = .next u) : Kept s u := by
  unfold execRecordClrFatal at h
  injection h with h; subst h
  refine settle_kept _ ?_
  repeat' (first
    | (with_reducible first
      | exact Kept.rfl' _ | apply State.guardRow_kept | apply settle_kept)
    | (intro u hu) | (intro u x hu) | with_reducible assumption | split | dsimp only)
theorem execRecordClrLast_kept (s : State) (u : State) (h : execRecordClrLast s = .next u) : Kept s u := by
  unfold execRecordClrLast at h
  injection h with h; subst h
  refine settle_kept _ ?_
  repeat' (first
    | (with_reducible first
      | exact Kept.rfl' _ | apply State.guardRow_kept | apply settle_kept)
    | (intro u hu) | (intro u x hu) | with_reducible assumption | split | dsimp only)
theorem execSlowCopyRefresh_kept (s : State) (u : State) (h : execSlowCopyRefresh s = .next u) : Kept s u := by
  cases h; exact settle_kept _ (by apply State.doSlowCopyRefresh_kept; exact Kept.rfl' s)
theorem execStandbyPowerUp_kept (s : State) (u : State) (h : execStandbyPowerUp s = .next u) : Kept s u := by
  cases h; exact settle_kept _ (by apply State.doStandbyPowerUp_kept; exact Kept.rfl' s)
theorem execNvMountDone_kept (lost : List (BitVec 32)) (s : State) (u : State) (h : execNvMountDone lost s = .next u) : Kept s u := by
  unfold execNvMountDone at h
  injection h with h; subst h
  refine settle_kept _ ?_
  repeat' (first
    | (with_reducible first
      | exact Kept.rfl' _ | apply State.doNvMountDone_kept | apply settle_kept)
    | (intro u hu) | (intro u x hu) | with_reducible assumption | split | dsimp only)
theorem execMainPowerUp_kept (s : State) (u : State) (h : execMainPowerUp s = .next u) : Kept s u := by
  cases h; exact settle_kept _ (by apply State.doMainPowerUp_kept; exact Kept.rfl' s)
theorem execRailsInRegulation_kept (s : State) (u : State) (h : execRailsInRegulation s = .next u) : Kept s u := by
  cases h; exact settle_kept _ (by apply State.doRailsInRegulation_kept; exact Kept.rfl' s)
theorem execIslandsClocked_kept (s : State) (u : State) (h : execIslandsClocked s = .next u) : Kept s u := by
  cases h; exact settle_kept _ (by apply State.doIslandsClocked_kept; exact Kept.rfl' s)
theorem execBootVerifyDone_kept (s : State) (u : State) (h : execBootVerifyDone s = .next u) : Kept s u := by
  cases h; exact settle_kept _ (by apply State.doBootVerifyDone_kept; exact Kept.rfl' s)
theorem execMicrocodeLoaded_kept (s : State) (u : State) (h : execMicrocodeLoaded s = .next u) : Kept s u := by
  cases h; exact settle_kept _ (by apply State.doMicrocodeLoaded_kept; exact Kept.rfl' s)
theorem execIslandsSelftestDone_kept (s : State) (u : State) (h : execIslandsSelftestDone s = .next u) : Kept s u := by
  cases h; exact settle_kept _ (by apply State.doIslandsSelftestDone_kept; exact Kept.rfl' s)
theorem execMaelwickLoaded_kept (s : State) (u : State) (h : execMaelwickLoaded s = .next u) : Kept s u := by
  cases h; exact settle_kept _ (by apply State.doMaelwickLoaded_kept; exact Kept.rfl' s)
theorem execTrialTimeout_kept (s : State) (u : State) (h : execTrialTimeout s = .next u) : Kept s u := by
  cases h; exact settle_kept _ (by apply State.doTrialTimeout_kept; exact Kept.rfl' s)
theorem execUpdateBegin_kept (slot : Fin 2) (s : State) (u : State) (h : execUpdateBegin slot s = .next u) : Kept s u := by
  unfold execUpdateBegin at h
  injection h with h; subst h
  refine settle_kept _ ?_
  repeat' (first
    | (with_reducible first
      | exact Kept.rfl' _ | apply State.turnRow_kept | apply State.doUpdateBegin_kept | apply settle_kept)
    | (intro u hu) | (intro u x hu) | with_reducible assumption | split | dsimp only)
theorem execUpdateWrite_kept (slot : Fin 2) (idx : BitVec 16) (s : State) (u : State) (h : execUpdateWrite slot idx s = .next u) : Kept s
    u := by
  unfold execUpdateWrite at h
  injection h with h; subst h
  refine settle_kept _ ?_
  repeat' (first
    | (with_reducible first
      | exact Kept.rfl' _ | apply State.turnRow_kept | apply State.doUpdateWrite_kept | apply settle_kept)
    | (intro u hu) | (intro u x hu) | with_reducible assumption | split | dsimp only)
theorem execUpdateFinish_kept (slot : Fin 2) (s : State) (u : State) (h : execUpdateFinish slot s = .next u) : Kept s u := by
  unfold execUpdateFinish at h
  injection h with h; subst h
  refine settle_kept _ ?_
  repeat' (first
    | (with_reducible first
      | exact Kept.rfl' _ | apply State.turnRow_kept | apply State.doUpdateFinish_kept | apply settle_kept)
    | (intro u hu) | (intro u x hu) | with_reducible assumption | split | dsimp only)
theorem execUpdateAbandon_kept (slot : Fin 2) (s : State) (u : State) (h : execUpdateAbandon slot s = .next u) : Kept s u := by
  unfold execUpdateAbandon at h
  injection h with h; subst h
  refine settle_kept _ ?_
  repeat' (first
    | (with_reducible first
      | exact Kept.rfl' _ | apply State.turnRow_kept | apply State.doUpdateAbandon_kept | apply settle_kept)
    | (intro u hu) | (intro u x hu) | with_reducible assumption | split | dsimp only)
theorem execUpdateConfirm_kept (s : State) (u : State) (h : execUpdateConfirm s = .next u) : Kept s u := by
  unfold execUpdateConfirm at h
  injection h with h; subst h
  refine settle_kept _ ?_
  repeat' (first
    | (with_reducible first
      | exact Kept.rfl' _ | apply State.turnRow_kept | apply State.doUpdateConfirm_kept | apply settle_kept)
    | (intro u hu) | (intro u x hu) | with_reducible assumption | split | dsimp only)
theorem execUpdateSelect_kept (slot : Fin 2) (s : State) (u : State) (h : execUpdateSelect slot s = .next u) : Kept s u := by
  unfold execUpdateSelect at h
  injection h with h; subst h
  refine settle_kept _ ?_
  repeat' (first
    | (with_reducible first
      | exact Kept.rfl' _ | apply State.turnRow_kept | apply State.doUpdateSelect_kept | apply settle_kept)
    | (intro u hu) | (intro u x hu) | with_reducible assumption | split | dsimp only)
theorem execObjectWrite_kept (s : State) (u : State) (h : execObjectWrite s = .next u) : Kept s u := by
  unfold execObjectWrite at h
  injection h with h; subst h
  refine settle_kept _ ?_
  repeat' (first
    | (with_reducible first
      | exact Kept.rfl' _ | apply State.turnRow_kept | apply State.doObjectWrite_kept | apply settle_kept)
    | (intro u hu) | (intro u x hu) | with_reducible assumption | split | dsimp only)
theorem execObjectRead_kept (s : State) (u : State) (h : execObjectRead s = .next u) : Kept s u := by
  unfold execObjectRead at h
  injection h with h; subst h
  refine settle_kept _ ?_
  repeat' (first
    | (with_reducible first
      | exact Kept.rfl' _ | apply State.turnRow_kept | apply State.doObjectRead_kept | apply settle_kept)
    | (intro u hu) | (intro u x hu) | with_reducible assumption | split | dsimp only)
theorem execObjectDelete_kept (s : State) (u : State) (h : execObjectDelete s = .next u) : Kept s u := by
  unfold execObjectDelete at h
  injection h with h; subst h
  refine settle_kept _ ?_
  repeat' (first
    | (with_reducible first
      | exact Kept.rfl' _ | apply State.turnRow_kept | apply State.doObjectDelete_kept | apply settle_kept)
    | (intro u hu) | (intro u x hu) | with_reducible assumption | split | dsimp only)
theorem execDiagRun_kept (i : Fin 64) (s : State) (u : State) (h : execDiagRun i s = .next u) : Kept s u := by
  unfold execDiagRun at h
  injection h with h; subst h
  refine settle_kept _ ?_
  repeat' (first
    | (with_reducible first
      | exact Kept.rfl' _ | apply State.nowRow_kept | apply State.doDiagRun_kept | apply settle_kept)
    | (intro u hu) | (intro u x hu) | with_reducible assumption | split | dsimp only)
theorem execDiagDone_kept (ok : Bool) (s : State) (u : State) (h : execDiagDone ok s = .next u) : Kept s u := by
  cases h; exact settle_kept _ (by apply State.doDiagDone_kept; exact Kept.rfl' s)
theorem execSvnRaise_kept (floor : BitVec 16) (s : State) (u : State) (h : execSvnRaise floor s = .next u) : Kept s u := by
  unfold execSvnRaise at h
  injection h with h; subst h
  refine settle_kept _ ?_
  repeat' (first
    | (with_reducible first
      | exact Kept.rfl' _ | apply State.guardRow_kept | apply settle_kept)
    | (intro u hu) | (intro u x hu) | with_reducible assumption | split | dsimp only)
theorem execNvCkptCopyDone_kept (s : State) (u : State) (h : execNvCkptCopyDone s = .next u) : Kept s u := by
  cases h; exact settle_kept _ (by apply State.doNvCkptCopyDone_kept; exact Kept.rfl' s)
theorem execJournalPageProgram_kept (s : State) (u : State) (h : execJournalPageProgram s = .next u) : Kept s u := by
  cases h; exact settle_kept _ (by apply State.doJournalPageProgram_kept; exact Kept.rfl' s)
theorem execNvRefreshScan_kept (_page : BitVec 20) (corrected : Nat) (old : Bool) (retired : Bool) (s : State) (u : State) (h :
    execNvRefreshScan _page corrected old retired s = .next u) : Kept s u := by
  cases h; exact settle_kept _ (by apply State.doNvRefreshScan_kept; exact Kept.rfl' s)
theorem execResetNAssert_kept (lowNs : Nat) (s : State) (u : State) (h : execResetNAssert lowNs s = .next u) : Kept s u := by
  cases h; exact settle_kept _ (by apply State.doResetNAssert_kept; exact Kept.rfl' s)
theorem execResetNRelease_kept (s : State) (u : State) (h : execResetNRelease s = .next u) : Kept s u := by
  cases h; exact settle_kept _ (by apply State.doResetNRelease_kept; exact Kept.rfl' s)
theorem execPowerFailInput_kept (c : PowerFailCause) (s : State) (u : State) (h : execPowerFailInput c s = .next u) : Kept s u := by
  cases h; exact settle_kept _ (by apply State.doPowerFailInput_kept; exact Kept.rfl' s)
theorem execVin12Low_kept (s : State) (u : State) (h : execVin12Low s = .next u) : Kept s u := by
  cases h; exact settle_kept _ (by apply State.doVin12Low_kept; exact Kept.rfl' s)
theorem execVin12Off_kept (s : State) (u : State) (h : execVin12Off s = .next u) : Kept s u := by
  cases h; exact settle_kept _ (by apply State.doVin12Off_kept; exact Kept.rfl' s)
theorem execVin12Return_kept (s : State) (u : State) (h : execVin12Return s = .next u) : Kept s u := by
  cases h; exact settle_kept _ (by apply State.doVin12Return_kept; exact Kept.rfl' s)
theorem execBmcReadIdentity_kept (s : State) (u : State) (h : execBmcReadIdentity s = .next u) : Kept s u := by
  cases h; exact settle_kept _ (by apply State.doBmcReadIdentity_kept; exact Kept.rfl' s)
theorem execBmcReadDevInfo_kept (s : State) (u : State) (h : execBmcReadDevInfo s = .next u) : Kept s u := by
  cases h; exact settle_kept _ (by apply State.doBmcReadDevInfo_kept; exact Kept.rfl' s)
theorem execBmcReadStatus_kept (s : State) (u : State) (h : execBmcReadStatus s = .next u) : Kept s u := by
  cases h; exact settle_kept _ (by apply State.doBmcReadStatus_kept; exact Kept.rfl' s)
theorem execBmcReadTemp_kept (s : State) (u : State) (h : execBmcReadTemp s = .next u) : Kept s u := by
  cases h; exact settle_kept _ (by apply State.doBmcReadTemp_kept; exact Kept.rfl' s)
theorem execBmcReadVin12_kept (s : State) (u : State) (h : execBmcReadVin12 s = .next u) : Kept s u := by
  cases h; exact settle_kept _ (by apply State.doBmcReadVin12_kept; exact Kept.rfl' s)
theorem execBmcReadVin12Current_kept (s : State) (u : State) (h : execBmcReadVin12Current s = .next u) : Kept s u := by
  cases h; exact settle_kept _ (by apply State.doBmcReadVin12Current_kept; exact Kept.rfl' s)
theorem execBmcReadVsb33_kept (s : State) (u : State) (h : execBmcReadVsb33 s = .next u) : Kept s u := by
  cases h; exact settle_kept _ (by apply State.doBmcReadVsb33_kept; exact Kept.rfl' s)
theorem execBmcReadPower_kept (s : State) (u : State) (h : execBmcReadPower s = .next u) : Kept s u := by
  cases h; exact settle_kept _ (by apply State.doBmcReadPower_kept; exact Kept.rfl' s)
theorem execBmcReadFatal_kept (s : State) (u : State) (h : execBmcReadFatal s = .next u) : Kept s u := by
  cases h; exact settle_kept _ (by apply State.doBmcReadFatal_kept; exact Kept.rfl' s)
theorem execBmcReadLastReset_kept (s : State) (u : State) (h : execBmcReadLastReset s = .next u) : Kept s u := by
  cases h; exact settle_kept _ (by apply State.doBmcReadLastReset_kept; exact Kept.rfl' s)
theorem execBmcReadAlertStatus_kept (s : State) (u : State) (h : execBmcReadAlertStatus s = .next u) : Kept s u := by
  cases h; exact settle_kept _ (by apply State.doBmcReadAlertStatus_kept; exact Kept.rfl' s)
theorem execBmcClearAlertStatus_kept (v : Byte) (pecGood : Bool) (s : State) (u : State) (h : execBmcClearAlertStatus v pecGood s = .next
    u) : Kept s u := by
  cases h; exact settle_kept _ (by apply State.doBmcClearAlert_kept; exact Kept.rfl' s)
theorem execBmcColdReset_kept (v : Byte) (pecGood : Bool) (s : State) (u : State) (h : execBmcColdReset v pecGood s = .next u) : Kept s u
    := by
  cases h; exact settle_kept _ (by apply State.doBmcColdReset_kept; exact Kept.rfl' s)
theorem execSmbAlertResponse_kept (s : State) (u : State) (h : execSmbAlertResponse s = .next u) : Kept s u := by
  cases h; exact settle_kept _ (by apply State.doSmbAlertResponse_kept; exact Kept.rfl' s)
theorem execBmcReadingRefresh_kept (temp : Byte) (island : Island) (vin12mV vin12dA vsb33mV powerW : BitVec 16) (s : State) (u : State)
    (h : execBmcReadingRefresh temp island vin12mV vin12dA vsb33mV powerW s = .next u) : Kept s u := by
  cases h; exact settle_kept _ (by apply State.doBmcReadingRefresh_kept; exact Kept.rfl' s)
theorem execNvCommandDone_kept (verified : Bool) (s : State) (u : State)
    (h : execNvCommandDone s verified = .next u) : Kept s u := by
  cases h; exact settle_kept _ (by apply State.doNvCommandDone_kept; exact Kept.rfl' s)
theorem execRuleWrite_kept (sl : Slice) (w : Who) (idx : Fin 16384) (ver : Fin 4) (s : State) (u : State) (h : execRuleWrite sl w idx ver
    s = .next u) : Kept s u := by
  unfold execRuleWrite at h
  injection h with h; subst h
  refine settle_kept _ ?_
  repeat' (first
    | (with_reducible first
      | exact Kept.rfl' _ | apply State.turnRow_kept | apply State.doRuleWrite_kept | apply settle_kept)
    | (intro u hu) | (intro u x hu) | with_reducible assumption | split | dsimp only)
theorem execRuleRead_kept (sl : Slice) (w : Who) (idx : Fin 16384) (s : State) (u : State) (h : execRuleRead sl w idx s = .next u) : Kept
    s u := by
  unfold execRuleRead at h
  injection h with h; subst h
  refine settle_kept _ ?_
  repeat' (first
    | (with_reducible first
      | exact Kept.rfl' _ | apply State.turnRow_kept | apply State.doRuleRead_kept | apply settle_kept)
    | (intro u hu) | (intro u x hu) | with_reducible assumption | split | dsimp only)
theorem execRuleInvalidate_kept (sl : Slice) (w : Who) (idx : Fin 16384) (s : State) (u : State) (h : execRuleInvalidate sl w idx s =
    .next u) : Kept s u := by
  unfold execRuleInvalidate at h
  injection h with h; subst h
  refine settle_kept _ ?_
  repeat' (first
    | (with_reducible first
      | exact Kept.rfl' _ | apply State.turnRow_kept | apply State.doRuleInvalidate_kept | apply settle_kept)
    | (intro u hu) | (intro u x hu) | with_reducible assumption | split | dsimp only)
theorem execTemplateWrite_kept (sl : Slice) (idx : Fin 64) (s : State) (u : State) (h : execTemplateWrite sl idx s = .next u) : Kept s u
    := by
  unfold execTemplateWrite at h
  injection h with h; subst h
  refine settle_kept _ ?_
  repeat' (first
    | (with_reducible first
      | exact Kept.rfl' _ | apply State.turnRow_kept | apply State.doTemplateWrite_kept | apply settle_kept)
    | (intro u hu) | (intro u x hu) | with_reducible assumption | split | dsimp only)
theorem execTemplateRead_kept (sl : Slice) (idx : Fin 64) (s : State) (u : State) (h : execTemplateRead sl idx s = .next u) : Kept s u :=
    by
  unfold execTemplateRead at h
  injection h with h; subst h
  refine settle_kept _ ?_
  repeat' (first
    | (with_reducible first
      | exact Kept.rfl' _ | apply State.turnRow_kept | apply State.doTemplateRead_kept | apply settle_kept)
    | (intro u hu) | (intro u x hu) | with_reducible assumption | split | dsimp only)
theorem execMeterWrite_kept (sl : Slice) (idx : Fin 32768) (s : State) (u : State) (h : execMeterWrite sl idx s = .next u) : Kept s u :=
    by
  unfold execMeterWrite at h
  injection h with h; subst h
  refine settle_kept _ ?_
  repeat' (first
    | (with_reducible first
      | exact Kept.rfl' _ | apply State.turnRow_kept | apply State.doMeterWrite_kept | apply settle_kept)
    | (intro u hu) | (intro u x hu) | with_reducible assumption | split | dsimp only)
theorem execMeterRead_kept (sl : Slice) (idx : Fin 32768) (s : State) (u : State) (h : execMeterRead sl idx s = .next u) : Kept s u := by
  unfold execMeterRead at h
  injection h with h; subst h
  refine settle_kept _ ?_
  repeat' (first
    | (with_reducible first
      | exact Kept.rfl' _ | apply State.turnRow_kept | apply State.doMeterRead_kept | apply settle_kept)
    | (intro u hu) | (intro u x hu) | with_reducible assumption | split | dsimp only)
theorem execMeterRefill_kept (sl : Slice) (idx : Fin 32768) (s : State) (u : State) (h : execMeterRefill sl idx s = .next u) : Kept s u
    := by
  cases h; exact settle_kept _ (by apply State.doMeterRefill_kept; exact Kept.rfl' s)
theorem execScrubStep_kept (sl : Slice) (t : ScrubTable) (idx : Fin 1048576) (f : ScrubFind) (s : State) (u : State) (h : execScrubStep
    sl t idx f s = .next u) : Kept s u := by
  cases h; exact settle_kept _ (by apply State.doScrub_kept; exact Kept.rfl' s)
theorem execLearnRequestArrive_kept (sl : Slice) (s : State) (u : State) (h : execLearnRequestArrive sl s = .next u) : Kept s u := by
  cases h; exact settle_kept _ (by apply State.doLearnArrive_kept; exact Kept.rfl' s)
theorem execSequencerAccept_kept (s : State) (u : State) (h : execSequencerAccept s = .next u) : Kept s u := by
  cases h; exact settle_kept _ (by apply State.doSequencerAccept_kept; exact Kept.rfl' s)
theorem execCopyApply_kept (sl : Slice) (s : State) (u : State) (h : execCopyApply sl s = .next u) : Kept s u := by
  cases h; exact settle_kept _ (by apply State.doCopyApply_kept; exact Kept.rfl' s)
theorem execPendingFilterExpire_kept (sl : Slice) (s : State) (u : State) (h : execPendingFilterExpire sl s = .next u) : Kept s u := by
  cases h; exact settle_kept _ (by apply State.doFilterExpire_kept; exact Kept.rfl' s)
theorem execAgeSweepSlot_kept (s : State) (u : State) (h : execAgeSweepSlot s = .next u) : Kept s u := by
  cases h; exact settle_kept _ (by apply State.doAgeSweep_kept; exact Kept.rfl' s)
theorem execMemberAgeSweep_kept (sl : Slice) (s : State) (u : State) (h : execMemberAgeSweep sl s = .next u) : Kept s u := by
  cases h; exact settle_kept _ (by apply State.doMemberAge_kept; exact Kept.rfl' s)
theorem execTableEntryWrite_kept (w : Who) (table : Fin 16) (idx : Fin 1048576) (s : State) (u : State) (h : execTableEntryWrite w table
    idx s = .next u) : Kept s u := by
  unfold execTableEntryWrite at h
  injection h with h; subst h
  refine settle_kept _ ?_
  repeat' (first
    | (with_reducible first
      | exact Kept.rfl' _ | apply State.turnRow_kept | apply State.doTableWrite_kept | apply settle_kept)
    | (intro u hu) | (intro u x hu) | with_reducible assumption | split | dsimp only)
theorem execTableEntryRead_kept (w : Who) (table : Fin 16) (idx : Fin 1048576) (s : State) (u : State) (h : execTableEntryRead w table
    idx s = .next u) : Kept s u := by
  unfold execTableEntryRead at h
  injection h with h; subst h
  refine settle_kept _ ?_
  repeat' (first
    | (with_reducible first
      | exact Kept.rfl' _ | apply State.turnRow_kept | apply State.doTableRead_kept | apply settle_kept)
    | (intro u hu) | (intro u x hu) | with_reducible assumption | split | dsimp only)
theorem execTableEntryDelete_kept (w : Who) (table : Fin 16) (idx : Fin 1048576) (s : State) (u : State) (h : execTableEntryDelete w
    table idx s = .next u) : Kept s u := by
  unfold execTableEntryDelete at h
  injection h with h; subst h
  refine settle_kept _ ?_
  repeat' (first
    | (with_reducible first
      | exact Kept.rfl' _ | apply State.turnRow_kept | apply State.doTableDelete_kept | apply settle_kept)
    | (intro u hu) | (intro u x hu) | with_reducible assumption | split | dsimp only)
theorem execMacInsert_kept (w : Who) (s : State) (u : State) (h : execMacInsert w s = .next u) : Kept s u := by
  unfold execMacInsert at h
  injection h with h; subst h
  refine settle_kept _ ?_
  repeat' (first
    | (with_reducible first
      | exact Kept.rfl' _ | apply State.turnRow_kept | apply State.doMacInsert_kept | apply settle_kept)
    | (intro u hu) | (intro u x hu) | with_reducible assumption | split | dsimp only)
theorem execMacDelete_kept (w : Who) (s : State) (u : State) (h : execMacDelete w s = .next u) : Kept s u := by
  unfold execMacDelete at h
  injection h with h; subst h
  refine settle_kept _ ?_
  repeat' (first
    | (with_reducible first
      | exact Kept.rfl' _ | apply State.turnRow_kept | apply State.doMacDelete_kept | apply settle_kept)
    | (intro u hu) | (intro u x hu) | with_reducible assumption | split | dsimp only)
theorem execMacFlush_kept (w : Who) (s : State) (u : State) (h : execMacFlush w s = .next u) : Kept s u := by
  unfold execMacFlush at h
  injection h with h; subst h
  refine settle_kept _ ?_
  repeat' (first
    | (with_reducible first
      | exact Kept.rfl' _ | apply State.turnRow_kept | apply State.doMacFlush_kept | apply settle_kept)
    | (intro u hu) | (intro u x hu) | with_reducible assumption | split | dsimp only)
theorem execMacFlushDone_kept (s : State) (u : State) (h : execMacFlushDone s = .next u) : Kept s u := by
  cases h; exact settle_kept _ (by apply State.doFlushDone_kept; exact Kept.rfl' s)
theorem execReadBySlot_kept (w : Who) (table : Fin 16) (idx : Fin 1048576) (s : State) (u : State) (h : execReadBySlot w table idx s =
    .next u) : Kept s u := by
  unfold execReadBySlot at h
  injection h with h; subst h
  refine settle_kept _ ?_
  repeat' (first
    | (with_reducible first
      | exact Kept.rfl' _ | apply State.turnRow_kept | apply State.doReadBySlot_kept | apply settle_kept)
    | (intro u hu) | (intro u x hu) | with_reducible assumption | split | dsimp only)
theorem execMemberJoin_kept (w : Who) (s : State) (u : State) (h : execMemberJoin w s = .next u) : Kept s u := by
  unfold execMemberJoin at h
  injection h with h; subst h
  refine settle_kept _ ?_
  repeat' (first
    | (with_reducible first
      | exact Kept.rfl' _ | apply State.turnRow_kept | apply State.doMemberJoin_kept | apply settle_kept)
    | (intro u hu) | (intro u x hu) | with_reducible assumption | split | dsimp only)
theorem execMemberLeave_kept (w : Who) (s : State) (u : State) (h : execMemberLeave w s = .next u) : Kept s u := by
  unfold execMemberLeave at h
  injection h with h; subst h
  refine settle_kept _ ?_
  repeat' (first
    | (with_reducible first
      | exact Kept.rfl' _ | apply State.turnRow_kept | apply State.doMemberLeave_kept | apply settle_kept)
    | (intro u hu) | (intro u x hu) | with_reducible assumption | split | dsimp only)
theorem execRouteInsert_kept (w : Who) (s : State) (u : State) (h : execRouteInsert w s = .next u) : Kept s u := by
  unfold execRouteInsert at h
  injection h with h; subst h
  refine settle_kept _ ?_
  repeat' (first
    | (with_reducible first
      | exact Kept.rfl' _ | apply State.turnRow_kept | apply State.doRouteInsert_kept | apply settle_kept)
    | (intro u hu) | (intro u x hu) | with_reducible assumption | split | dsimp only)
theorem execRouteDelete_kept (w : Who) (s : State) (u : State) (h : execRouteDelete w s = .next u) : Kept s u := by
  unfold execRouteDelete at h
  injection h with h; subst h
  refine settle_kept _ ?_
  repeat' (first
    | (with_reducible first
      | exact Kept.rfl' _ | apply State.turnRow_kept | apply State.doRouteDelete_kept | apply settle_kept)
    | (intro u hu) | (intro u x hu) | with_reducible assumption | split | dsimp only)
theorem execRouteLongestMatch_kept (w : Who) (s : State) (u : State) (h : execRouteLongestMatch w s = .next u) : Kept s u := by
  unfold execRouteLongestMatch at h
  injection h with h; subst h
  refine settle_kept _ ?_
  repeat' (first
    | (with_reducible first
      | exact Kept.rfl' _ | apply State.turnRow_kept | apply State.doRouteMatch_kept | apply settle_kept)
    | (intro u hu) | (intro u x hu) | with_reducible assumption | split | dsimp only)
theorem execHashSeedWrite_kept (n : Fin 2) (v : Word) (s : State) (u : State) (h : execHashSeedWrite n v s = .next u) : Kept s u := by
  cases h; exact settle_kept _ (by apply State.doHashSeed_kept; exact Kept.rfl' s)
theorem execDtTrim_kept (i : Island) (skew : BitVec 8) (freq : BitVec 24) (s : State) (u : State) (h : execDtTrim i skew freq s = .next
    u) : Kept s u := by
  cases h; exact settle_kept _ (by apply State.doDtTrim_kept; exact Kept.rfl' s)
theorem execClkUnlock_kept (i : Island) (s : State) (u : State) (h : execClkUnlock i s = .next u) : Kept s u := by
  cases h; exact settle_kept _ (by apply State.doClkUnlock_kept; exact Kept.rfl' s)
theorem execDtSourceLost_kept (s : State) (u : State) (h : execDtSourceLost s = .next u) : Kept s u := by
  cases h; exact settle_kept _ (by apply State.doDtSourceLost_kept; exact Kept.rfl' s)
theorem execDtSourceReturn_kept (s : State) (u : State) (h : execDtSourceReturn s = .next u) : Kept s u := by
  cases h; exact settle_kept _ (by apply State.doDtSourceReturn_kept; exact Kept.rfl' s)
theorem execDtSet_kept (s : State) (u : State) (h : execDtSet s = .next u) : Kept s u := by
  unfold execDtSet at h
  injection h with h; subst h
  refine settle_kept _ ?_
  repeat' (first
    | (with_reducible first
      | exact Kept.rfl' _ | apply State.guardRow_kept | apply settle_kept)
    | (intro u hu) | (intro u x hu) | with_reducible assumption | split | dsimp only)
theorem execDtLatchRead_kept (s : State) (u : State) (h : execDtLatchRead s = .next u) : Kept s u := by
  cases h; exact settle_kept _ (by apply State.anyRead_kept; exact Kept.rfl' s)
theorem execTbLatchRead_kept (n : TB) (s : State) (u : State) (h : execTbLatchRead n s = .next u) : Kept s u := by
  unfold execTbLatchRead at h
  injection h with h; subst h
  refine settle_kept _ ?_
  repeat' (first
    | (with_reducible first
      | exact Kept.rfl' _ | apply State.anyRead_kept | apply settle_kept)
    | (intro u hu) | (intro u x hu) | with_reducible assumption | split | dsimp only)
theorem execTbOffsetWrite_kept (w : Who) (n : TB) (ch : Fin 2) (o : Word) (s : State) (u : State) (h : execTbOffsetWrite w n ch o s =
    .next u) : Kept s u := by
  unfold execTbOffsetWrite at h
  injection h with h; subst h
  refine settle_kept _ ?_
  repeat' (first
    | (with_reducible first
      | exact Kept.rfl' _ | apply State.nowRow_kept | apply State.doTbOffsetWrite_kept | apply settle_kept)
    | (intro u hu) | (intro u x hu) | with_reducible assumption | split | dsimp only)
theorem execTbStep_kept (w : Who) (n : TB) (s : State) (u : State) (h : execTbStep w n s = .next u) : Kept s u := by
  unfold execTbStep at h
  injection h with h; subst h
  refine settle_kept _ ?_
  repeat' (first
    | (with_reducible first
      | exact Kept.rfl' _ | apply State.nowRow_kept | apply State.doTbStep_kept | apply settle_kept)
    | (intro u hu) | (intro u x hu) | with_reducible assumption | split | dsimp only)
theorem execTbSwitchChannel_kept (w : Who) (n : TB) (s : State) (u : State) (h : execTbSwitchChannel w n s = .next u) : Kept s u := by
  unfold execTbSwitchChannel at h
  injection h with h; subst h
  refine settle_kept _ ?_
  repeat' (first
    | (with_reducible first
      | exact Kept.rfl' _ | apply State.nowRow_kept | apply State.doTbSwitchChannel_kept | apply settle_kept)
    | (intro u hu) | (intro u x hu) | with_reducible assumption | split | dsimp only)
theorem execTbHoldover_kept (w : Who) (n : TB) (s : State) (u : State) (h : execTbHoldover w n s = .next u) : Kept s u := by
  unfold execTbHoldover at h
  injection h with h; subst h
  refine settle_kept _ ?_
  repeat' (first
    | (with_reducible first
      | exact Kept.rfl' _ | apply State.nowRow_kept | apply State.doTbHoldover_kept | apply settle_kept)
    | (intro u hu) | (intro u x hu) | with_reducible assumption | split | dsimp only)
theorem execTbResetServo_kept (w : Who) (n : TB) (s : State) (u : State) (h : execTbResetServo w n s = .next u) : Kept s u := by
  unfold execTbResetServo at h
  injection h with h; subst h
  refine settle_kept _ ?_
  repeat' (first
    | (with_reducible first
      | exact Kept.rfl' _ | apply State.nowRow_kept | apply State.doTbResetServo_kept | apply settle_kept)
    | (intro u hu) | (intro u x hu) | with_reducible assumption | split | dsimp only)
theorem execTbChannelTimeout_kept (n : TB) (ch : Fin 2) (s : State) (u : State) (h : execTbChannelTimeout n ch s = .next u) : Kept s u :=
    by
  cases h; exact settle_kept _ (by apply State.doTbChannelTimeout_kept; exact Kept.rfl' s)
theorem execPpsOutEdge_kept (s : State) (u : State) (h : execPpsOutEdge s = .next u) : Kept s u := by
  cases h; exact settle_kept _ (by apply State.doPpsOutEdge_kept; exact Kept.rfl' s)
theorem execPpsOutPulseEnd_kept (s : State) (u : State) (h : execPpsOutPulseEnd s = .next u) : Kept s u := by
  cases h; exact settle_kept _ (by apply State.doPpsOutPulseEnd_kept; exact Kept.rfl' s)
theorem execPpsInEdge_kept (s : State) (u : State) (h : execPpsInEdge s = .next u) : Kept s u := by
  cases h; exact settle_kept _ (by apply State.doPpsInEdge_kept; exact Kept.rfl' s)
theorem execPpsInTimeout_kept (s : State) (u : State) (h : execPpsInTimeout s = .next u) : Kept s u := by
  cases h; exact settle_kept _ (by apply State.doPpsInTimeout_kept; exact Kept.rfl' s)
theorem execFrefAbsent_kept (s : State) (u : State) (h : execFrefAbsent s = .next u) : Kept s u := by
  cases h; exact settle_kept _ (by apply State.doFrefAbsent_kept; exact Kept.rfl' s)
theorem execFrefPresent_kept (s : State) (u : State) (h : execFrefPresent s = .next u) : Kept s u := by
  cases h; exact settle_kept _ (by apply State.doFrefPresent_kept; exact Kept.rfl' s)
theorem execTodTxWrite_kept (w : Who) (b : Byte) (s : State) (u : State) (h : execTodTxWrite w b s = .next u) : Kept s u := by
  unfold execTodTxWrite at h
  injection h with h; subst h
  refine settle_kept _ ?_
  repeat' (first
    | (with_reducible first
      | exact Kept.rfl' _ | apply State.nowRow_kept | apply State.doTodTxWrite_kept | apply settle_kept)
    | (intro u hu) | (intro u x hu) | with_reducible assumption | split | dsimp only)
theorem execTodTxSend_kept (s : State) (u : State) (h : execTodTxSend s = .next u) : Kept s u := by
  cases h; exact settle_kept _ (by apply State.doTodTxSend_kept; exact Kept.rfl' s)
theorem execTodRxByte_kept (b : Byte) (s : State) (u : State) (h : execTodRxByte b s = .next u) : Kept s u := by
  cases h; exact settle_kept _ (by apply State.doTodRxByte_kept; exact Kept.rfl' s)
theorem execTodRxRead_kept (w : Who) (s : State) (u : State) (h : execTodRxRead w s = .next u) : Kept s u := by
  cases h; exact settle_kept _ (by apply State.readBy_kept; exact Kept.rfl' s)
theorem execArrSel_kept (p : Port) (s : State) (u : State) (h : execArrSel p s = .next u) : Kept s u := by
  unfold execArrSel at h
  injection h with h; subst h
  refine settle_kept _ ?_
  repeat' (first
    | (with_reducible first
      | exact Kept.rfl' _ | apply State.nowRow_kept | apply State.doArrSel_kept | apply settle_kept)
    | (intro u hu) | (intro u x hu) | with_reducible assumption | split | dsimp only)
theorem execArrivalWakeWindowClose_kept (p : Port) (s : State) (u : State) (h : execArrivalWakeWindowClose p s = .next u) : Kept s u := by
  cases h; exact settle_kept _ (by apply State.doArrivalWakeWindowClose_kept; exact Kept.rfl' s)
theorem execLoomPeriodStart_kept (i : Fin 19) (s : State) (u : State) (h : execLoomPeriodStart i s = .next u) : Kept s u := by
  cases h; exact settle_kept _ (by apply State.doLoomPeriodStart_kept; exact Kept.rfl' s)
theorem execLoomSlotAward_kept (i : Fin 19) (requests : BitVec 8) (s : State) (u : State) (h : execLoomSlotAward i requests s = .next u)
    : Kept s u := by
  cases h; exact settle_kept _ (by apply State.doLoomSlotAward_kept; exact Kept.rfl' s)
theorem execEmergencyTake_kept (i : Fin 19) (s : State) (u : State) (h : execEmergencyTake i s = .next u) : Kept s u := by
  cases h; exact settle_kept _ (by apply State.doEmergencyTake_kept; exact Kept.rfl' s)
theorem execFlexeOhFrameReceive_kept (g : Group) (i : Fin 8) (oh : OhFrame) (s : State) (u : State) (h : execFlexeOhFrameReceive g i oh s
    = .next u) : Kept s u := by
  cases h; exact settle_kept _ (by apply State.doFlexeOhFrameReceive_kept; exact Kept.rfl' s)
theorem execFlexeOhFrameSend_kept (g : Group) (s : State) (u : State) (h : execFlexeOhFrameSend g s = .next u) : Kept s u := by
  cases h; exact settle_kept _ (by apply State.doFlexeOhFrameSend_kept; exact Kept.rfl' s)
theorem execFlexeOhLockDone_kept (g : Group) (s : State) (u : State) (h : execFlexeOhLockDone g s = .next u) : Kept s u := by
  cases h; exact settle_kept _ (by apply State.doFlexeOhLockDone_kept; exact Kept.rfl' s)
theorem execFlexeOhLockTimeout_kept (g : Group) (s : State) (u : State) (h : execFlexeOhLockTimeout g s = .next u) : Kept s u := by
  cases h; exact settle_kept _ (by apply State.doFlexeOhLockTimeout_kept; exact Kept.rfl' s)
theorem execFlexeMapCheckDone_kept (g : Group) (s : State) (u : State) (h : execFlexeMapCheckDone g s = .next u) : Kept s u := by
  cases h; exact settle_kept _ (by apply State.doFlexeMapCheckDone_kept; exact Kept.rfl' s)
theorem execFlexeMapCheckTimeout_kept (g : Group) (s : State) (u : State) (h : execFlexeMapCheckTimeout g s = .next u) : Kept s u := by
  cases h; exact settle_kept _ (by apply State.doFlexeMapCheckTimeout_kept; exact Kept.rfl' s)
theorem execFlexeDeskewDone_kept (g : Group) (skewNs : BitVec 14) (s : State) (u : State) (h : execFlexeDeskewDone g skewNs s = .next u)
    : Kept s u := by
  cases h; exact settle_kept _ (by apply State.doFlexeDeskewDone_kept; exact Kept.rfl' s)
theorem execFlexeDeskewTimeout_kept (g : Group) (s : State) (u : State) (h : execFlexeDeskewTimeout g s = .next u) : Kept s u := by
  cases h; exact settle_kept _ (by apply State.doFlexeDeskewTimeout_kept; exact Kept.rfl' s)
theorem execCalSwitchRequest_kept (g : Group) (w : Who) (s : State) (u : State) (h : execCalSwitchRequest g w s = .next u) : Kept s u :=
    by
  unfold execCalSwitchRequest at h
  injection h with h; subst h
  refine settle_kept _ ?_
  repeat' (first
    | (with_reducible first
      | exact Kept.rfl' _ | apply State.nowRow_kept | apply State.doCalSwitchRequest_kept | apply settle_kept)
    | (intro u hu) | (intro u x hu) | with_reducible assumption | split | dsimp only)
theorem execCalSwitchAbandon_kept (g : Group) (w : Who) (s : State) (u : State) (h : execCalSwitchAbandon g w s = .next u) : Kept s u :=
    by
  unfold execCalSwitchAbandon at h
  injection h with h; subst h
  refine settle_kept _ ?_
  repeat' (first
    | (with_reducible first
      | exact Kept.rfl' _ | apply State.nowRow_kept | apply State.doCalSwitchAbandon_kept | apply settle_kept)
    | (intro u hu) | (intro u x hu) | with_reducible assumption | split | dsimp only)
theorem execCalSwitchTimeout_kept (g : Group) (s : State) (u : State) (h : execCalSwitchTimeout g s = .next u) : Kept s u := by
  cases h; exact settle_kept _ (by apply State.doCalSwitchTimeout_kept; exact Kept.rfl' s)
theorem execClientWrite_kept (w : Who) (n : Fin 4096) (s : State) (u : State) (h : execClientWrite w n s = .next u) : Kept s u := by
  unfold execClientWrite at h
  injection h with h; subst h
  refine settle_kept _ ?_
  repeat' (first
    | (with_reducible first
      | exact Kept.rfl' _ | apply State.turnRow_kept | apply State.doClientWrite_kept | apply settle_kept)
    | (intro u hu) | (intro u x hu) | with_reducible assumption | split | dsimp only)
theorem execClientRead_kept (w : Who) (n : Fin 4096) (s : State) (u : State) (h : execClientRead w n s = .next u) : Kept s u := by
  unfold execClientRead at h
  injection h with h; subst h
  refine settle_kept _ ?_
  repeat' (first
    | (with_reducible first
      | exact Kept.rfl' _ | apply State.turnRow_kept | apply State.doClientRead_kept | apply settle_kept)
    | (intro u hu) | (intro u x hu) | with_reducible assumption | split | dsimp only)
theorem execPackUnitReceive_kept (lp : LPort) (first : Bool) (unit : List Byte) (e : UnitErr) (src : RxSrc) (s : State) (u : State)
    (h : execPackUnitReceive lp first unit e s src = .next u) : Kept s u := by
  cases h; exact settle_kept _ (by apply State.doPackUnitReceive_kept; exact Kept.rfl' s)
theorem execFoldCommit_kept (w : Who) (sl : Slice) (t : Fin 4) (s : State) (u : State) (h : execFoldCommit w sl t s = .next u) : Kept s u
    := by
  unfold execFoldCommit at h
  injection h with h; subst h
  refine settle_kept _ ?_
  repeat' (first
    | (with_reducible first
      | exact Kept.rfl' _ | apply State.nowRow_kept | apply State.doFoldCommit_kept | apply settle_kept)
    | (intro u hu) | (intro u x hu) | with_reducible assumption | split | dsimp only)
theorem execFoldCommitApply_kept (sl : Slice) (t : Fin 4) (s : State) (u : State) (h : execFoldCommitApply sl t s = .next u) : Kept s u
    := by
  cases h; exact settle_kept _ (by apply State.doFoldCommitApply_kept; exact Kept.rfl' s)
theorem execFoldCleaningDone_kept (sl : Slice) (t : Fin 4) (s : State) (u : State) (h : execFoldCleaningDone sl t s = .next u) : Kept s u
    := by
  cases h; exact settle_kept _ (by apply State.doFoldCleaningDone_kept; exact Kept.rfl' s)
theorem execFoldDiscardPending_kept (w : Who) (sl : Slice) (t : Fin 4) (s : State) (u : State) (h : execFoldDiscardPending w sl t s =
    .next u) : Kept s u := by
  unfold execFoldDiscardPending at h
  injection h with h; subst h
  refine settle_kept _ ?_
  repeat' (first
    | (with_reducible first
      | exact Kept.rfl' _ | apply State.nowRow_kept | apply State.doFoldDiscardPending_kept | apply settle_kept)
    | (intro u hu) | (intro u x hu) | with_reducible assumption | split | dsimp only)
theorem execFoldArm_kept (w : Who) (sl : Slice) (t : Fin 4) (s : State) (u : State) (h : execFoldArm w sl t s = .next u) : Kept s u := by
  unfold execFoldArm at h
  injection h with h; subst h
  refine settle_kept _ ?_
  repeat' (first
    | (with_reducible first
      | exact Kept.rfl' _ | apply State.nowRow_kept | apply State.doFoldArm_kept | apply settle_kept)
    | (intro u hu) | (intro u x hu) | with_reducible assumption | split | dsimp only)
theorem execFoldDisarm_kept (w : Who) (sl : Slice) (t : Fin 4) (s : State) (u : State) (h : execFoldDisarm w sl t s = .next u) : Kept s u
    := by
  unfold execFoldDisarm at h
  injection h with h; subst h
  refine settle_kept _ ?_
  repeat' (first
    | (with_reducible first
      | exact Kept.rfl' _ | apply State.nowRow_kept | apply State.doFoldDisarm_kept | apply settle_kept)
    | (intro u hu) | (intro u x hu) | with_reducible assumption | split | dsimp only)
theorem execFoldPromotionDone_kept (sl : Slice) (t : Fin 4) (s : State) (u : State) (h : execFoldPromotionDone sl t s = .next u) : Kept s
    u := by
  cases h; exact settle_kept _ (by apply State.doFoldPromotionDone_kept; exact Kept.rfl' s)
theorem execFoldResume_kept (w : Who) (sl : Slice) (t : Fin 4) (s : State) (u : State) (h : execFoldResume w sl t s = .next u) : Kept s u
    := by
  unfold execFoldResume at h
  injection h with h; subst h
  refine settle_kept _ ?_
  repeat' (first
    | (with_reducible first
      | exact Kept.rfl' _ | apply State.nowRow_kept | apply State.doFoldResume_kept | apply settle_kept)
    | (intro u hu) | (intro u x hu) | with_reducible assumption | split | dsimp only)
theorem execFoldRestart_kept (w : Who) (sl : Slice) (t : Fin 4) (gen : Byte) (s : State) (u : State) (h : execFoldRestart w sl t gen s =
    .next u) : Kept s u := by
  unfold execFoldRestart at h
  injection h with h; subst h
  refine settle_kept _ ?_
  repeat' (first
    | (with_reducible first
      | exact Kept.rfl' _ | apply State.nowRow_kept | apply State.doFoldRestart_kept | apply settle_kept)
    | (intro u hu) | (intro u x hu) | with_reducible assumption | split | dsimp only)
theorem execFoldRestartDone_kept (sl : Slice) (t : Fin 4) (s : State) (u : State) (h : execFoldRestartDone sl t s = .next u) : Kept s u
    := by
  cases h; exact settle_kept _ (by apply State.doFoldRestartDone_kept; exact Kept.rfl' s)
theorem execFoldEntryWrite_kept (w : Who) (sl : Slice) (t : Fin 4) (tx : Bool) (tag : BitVec 16) (s : State) (u : State) (h :
    execFoldEntryWrite w sl t tx tag s = .next u) : Kept s u := by
  unfold execFoldEntryWrite at h
  injection h with h; subst h
  refine settle_kept _ ?_
  repeat' (first
    | (with_reducible first
      | exact Kept.rfl' _ | apply State.turnRow_kept | apply State.doFoldEntryWrite_kept | apply settle_kept)
    | (intro u hu) | (intro u x hu) | with_reducible assumption | split | dsimp only)
theorem execFoldEntryRead_kept (w : Who) (sl : Slice) (t : Fin 4) (tx : Bool) (tag : BitVec 16) (s : State) (u : State) (h :
    execFoldEntryRead w sl t tx tag s = .next u) : Kept s u := by
  unfold execFoldEntryRead at h
  injection h with h; subst h
  refine settle_kept _ ?_
  repeat' (first
    | (with_reducible first
      | exact Kept.rfl' _ | apply State.turnRow_kept | apply State.doFoldEntryRead_kept | apply settle_kept)
    | (intro u hu) | (intro u x hu) | with_reducible assumption | split | dsimp only)
theorem execFoldEntryRemove_kept (w : Who) (sl : Slice) (t : Fin 4) (tx : Bool) (tag : BitVec 16) (s : State) (u : State) (h :
    execFoldEntryRemove w sl t tx tag s = .next u) : Kept s u := by
  unfold execFoldEntryRemove at h
  injection h with h; subst h
  refine settle_kept _ ?_
  repeat' (first
    | (with_reducible first
      | exact Kept.rfl' _ | apply State.turnRow_kept | apply State.doFoldEntryRemove_kept | apply settle_kept)
    | (intro u hu) | (intro u x hu) | with_reducible assumption | split | dsimp only)
theorem execPackCntSel_kept (sl : Slice) (q : Fin 128) (s : State) (u : State) (h : execPackCntSel sl q s = .next u) : Kept s u := by
  unfold execPackCntSel at h
  injection h with h; subst h
  refine settle_kept _ ?_
  repeat' (first
    | (with_reducible first
      | exact Kept.rfl' _ | apply State.nowRow_kept | apply State.doPackCntSel_kept | apply settle_kept)
    | (intro u hu) | (intro u x hu) | with_reducible assumption | split | dsimp only)
theorem execLinkPrefixReceive_kept (p : Port) (pfx : List Byte) (first : Bool) (s : State) (u : State)
    (h : execLinkPrefixReceive p pfx s first = .next u) : Kept s u := by
  cases h; exact settle_kept _ (by apply State.doLinkPrefixReceive_kept; exact Kept.rfl' s)
theorem execLinkCellReceive_kept (p : Port) (lseq : BitVec 12) (cell : List Byte) (fecBad : Bool) (s : State) (u : State) (h :
    execLinkCellReceive p lseq cell fecBad s = .next u) : Kept s u := by
  cases h; exact settle_kept _ (by apply State.doLinkCellReceive_kept; exact Kept.rfl' s)
theorem execHelloReceive_kept (p : Port) (bytes : List Byte) (s : State) (u : State) (h : execHelloReceive p bytes s = .next u) : Kept s
    u := by
  cases h; exact settle_kept _ (by apply State.doHelloReceive_kept; exact Kept.rfl' s)
theorem execLatchPrefixReceive_kept (p : Port) (pfx : List Byte) (first : Bool) (s : State) (u : State)
    (h : execLatchPrefixReceive p pfx s first = .next u) : Kept s u := by
  cases h; exact settle_kept _ (by apply State.doLatchPrefixReceive_kept; exact Kept.rfl' s)
theorem execLinkUnitSlot_kept (p : Port) (s : State) (u : State) (h : execLinkUnitSlot p s = .next u) : Kept s u := by
  cases h; exact settle_kept _ (by apply State.doLinkUnitSlot_kept; exact Kept.rfl' s)
theorem execHelloSend_kept (p : Port) (s : State) (u : State) (h : execHelloSend p s = .next u) : Kept s u := by
  cases h; exact settle_kept _ (by apply State.doHelloSend_kept; exact Kept.rfl' s)
theorem execHelloDeadInterval_kept (p : Port) (s : State) (u : State) (h : execHelloDeadInterval p s = .next u) : Kept s u := by
  cases h; exact settle_kept _ (by apply State.doHelloDeadInterval_kept; exact Kept.rfl' s)
theorem execRetryTimerExpire_kept (p : Port) (s : State) (u : State) (h : execRetryTimerExpire p s = .next u) : Kept s u := by
  cases h; exact settle_kept _ (by apply State.doRetryTimerExpire_kept; exact Kept.rfl' s)
theorem execHolddownExpire_kept (p : Port) (s : State) (u : State) (h : execHolddownExpire p s = .next u) : Kept s u := by
  cases h; exact settle_kept _ (by apply State.doHolddownExpire_kept; exact Kept.rfl' s)
theorem execFabricCellDeliver_kept (sl : Slice) (s : State) (u : State) (h : execFabricCellDeliver sl s = .next u) : Kept s u := by
  cases h; exact settle_kept _ (by apply State.doFabricCellDeliver_kept; exact Kept.rfl' s)
theorem execFabReseqTimeout_kept (sl : Slice) (srcDev : BitVec 12) (srcSlice : Slice) (port : BitVec 8) (c : Cls) (s : State) (u : State)
    (h : execFabReseqTimeout sl srcDev srcSlice port c s = .next u) : Kept s u := by
  cases h; exact settle_kept _ (by apply State.doFabReseqTimeout_kept; exact Kept.rfl' s)
theorem execGapNoticeReceive_kept (sl : Slice) (s : State) (u : State) (h : execGapNoticeReceive sl s = .next u) : Kept s u := by
  cases h; exact settle_kept _ (by apply State.doGapNoticeReceive_kept; exact Kept.rfl' s)
theorem execLostItemExpire_kept (sl : Slice) (s : State) (u : State) (h : execLostItemExpire sl s = .next u) : Kept s u := by
  cases h; exact settle_kept _ (by apply State.doLostItemExpire_kept; exact Kept.rfl' s)
theorem execStreamEntryIdle_kept (sl : Slice) (srcDev : BitVec 12) (srcSlice : Slice) (port : BitVec 8) (c : Cls) (s : State) (u : State)
    (h : execStreamEntryIdle sl srcDev srcSlice port c s = .next u) : Kept s u := by
  cases h; exact settle_kept _ (by apply State.doStreamEntryIdle_kept; exact Kept.rfl' s)
theorem execLinkCntSel_kept (sl : Slice) (k : Fin 32) (s : State) (u : State) (h : execLinkCntSel sl k s = .next u) : Kept s u := by
  unfold execLinkCntSel at h
  injection h with h; subst h
  refine settle_kept _ ?_
  repeat' (first
    | (with_reducible first
      | exact Kept.rfl' _ | apply State.nowRow_kept | apply State.doLinkCntSel_kept | apply settle_kept)
    | (intro u hu) | (intro u x hu) | with_reducible assumption | split | dsimp only)
theorem execLinkGroupWrite_kept (w : Who) (idx : Fin 4096) (s : State) (u : State) (h : execLinkGroupWrite w idx s = .next u) : Kept s u
    := by
  unfold execLinkGroupWrite at h
  injection h with h; subst h
  refine settle_kept _ ?_
  repeat' (first
    | (with_reducible first
      | exact Kept.rfl' _ | apply State.turnRow_kept | apply State.doLinkGroupWrite_kept | apply settle_kept)
    | (intro u hu) | (intro u x hu) | with_reducible assumption | split | dsimp only)
theorem execLinkGroupRead_kept (w : Who) (idx : Fin 4096) (s : State) (u : State) (h : execLinkGroupRead w idx s = .next u) : Kept s u :=
    by
  unfold execLinkGroupRead at h
  injection h with h; subst h
  refine settle_kept _ ?_
  repeat' (first
    | (with_reducible first
      | exact Kept.rfl' _ | apply State.turnRow_kept | apply State.doLinkGroupRead_kept | apply settle_kept)
    | (intro u hu) | (intro u x hu) | with_reducible assumption | split | dsimp only)
theorem execNeighborRead_kept (p : Port) (s : State) (u : State) (h : execNeighborRead p s = .next u) : Kept s u := by
  unfold execNeighborRead at h
  injection h with h; subst h
  refine settle_kept _ ?_
  repeat' (first
    | (with_reducible first
      | exact Kept.rfl' _ | apply State.turnRow_kept | apply State.doNeighborRead_kept | apply settle_kept)
    | (intro u hu) | (intro u x hu) | with_reducible assumption | split | dsimp only)
theorem execPathMaxReset_kept (s : State) (u : State) (h : execPathMaxReset s = .next u) : Kept s u := by
  unfold execPathMaxReset at h
  injection h with h; subst h
  refine settle_kept _ ?_
  repeat' (first
    | (with_reducible first
      | exact Kept.rfl' _ | apply State.guardRow_kept | apply settle_kept)
    | (intro u hu) | (intro u x hu) | with_reducible assumption | split | dsimp only)
end Sys2Proof.Machine
end

