-- ==== Sys2Proof/Laws/Sticky.lean ====
section
/-! SUPPORT. Event registers bit by bit: what setting one bit, counting one assertion, and an assertion do to EVT_STICKY and EVT_SEQ
(R390 to R392). -/

namespace Sys2Proof.Machine

/-- A bit of an event register after one of its bits was written. -/
theorem State.evtBit_setEvtBit (s : State) (a : Nat) {n m : Nat} (b : Bool) (hn : n < 32) :
    (s.setEvtBit a n b).evtBit a m = if m = n then b else s.evtBit a m := by
  unfold State.evtBit State.setEvtBit
  rw [State.rd_wr_self]
  simp only [BitVec.getLsbD]
  rw [putBits_testBit _ _ _ _ _ (by omega)]
  by_cases h : m = n
  · subst h; rw [if_neg (by omega), if_pos (by omega), if_pos rfl]; cases b <;> simp
  · rw [if_neg h]
    by_cases h1 : m < n
    · rw [if_pos h1]
    · rw [if_neg h1, if_neg (by omega)]

theorem State.evtBit_of_rd {s t : State} {a : Nat} (h : t.rd a = s.rd a) (n : Nat) : t.evtBit a n = s.evtBit a n := by
  unfold State.evtBit; rw [h]

/-- EVT_SEQ of a source after one assertion of it, and of another source of its page. -/
theorem State.evtSeq_bumpSeq (s : State) (pg : Nat) {src : Nat} : (s.bumpSeq pg src).evtSeq pg src = (s.evtSeq pg src + 1) % 256 := by
  unfold State.evtSeq State.bumpSeq; dsimp only
  rw [State.rd_wr_self, getBits_putBits_self _ _ _ _ (by omega)]; rfl

theorem State.evtSeq_of_rd {s t : State} {pg src : Nat} (h : t.rd (regA pg (0x20 + src / 4 * 4)) = s.rd (regA pg (0x20 + src / 4 * 4))) :
    t.evtSeq pg src = s.evtSeq pg src := by
  unfold State.evtSeq; rw [h]

theorem sticky_ne_seq (p q src : Nat) (h : src < 32) : evtStickyA p ≠ regA q (0x20 + src / 4 * 4) := by
  unfold evtStickyA
  by_cases e : p = q
  · exact regA_ne (by omega) (by omega) (.inr (by omega))
  · exact regA_ne (by omega) (by omega) (.inl e)

theorem sticky_ne_high (p q : Nat) {o : Nat} (h : o < 4096) (hn : o ≠ 0x14) : evtStickyA p ≠ regA q o := by
  unfold evtStickyA
  by_cases e : p = q
  · exact regA_ne (by omega) h (.inr fun e => hn e.symm)
  · exact regA_ne (by omega) h (.inl e)

theorem State.sticky_bumpSeq (s : State) (pg src q n : Nat) (h : src < 32) : (s.bumpSeq pg src).sticky q n = s.sticky q n := by
  unfold State.sticky; exact State.evtBit_of_rd (State.bumpSeq_rd _ _ _ (sticky_ne_seq _ _ _ h)) _

theorem State.sticky_fifoPut (s : State) (i : List Byte) (q n : Nat) : (s.fifoPut 0 i).1.sticky q n = s.sticky q n := by
  unfold State.sticky
  exact State.evtBit_of_rd (State.fifoPut_rd _ _ (sticky_ne_high _ _ (by decide) (by decide)) (sticky_ne_high _ _ (by decide) (by decide))) _

/-- Setting a source's sticky bit clears no sticky bit. -/
theorem State.sticky_set_mono (s : State) (pg : Nat) {src q n : Nat} (h : src < 32) (hs : s.sticky q n = true) :
    (s.setEvtBit (evtStickyA pg) src true).sticky q n = true := by
  unfold State.sticky at *
  by_cases e : q = pg
  · subst e; rw [State.evtBit_setEvtBit _ _ _ h]; split
    · rfl
    · exact hs
  · rw [State.evtBit_of_rd (State.setEvtBit_rd _ _ _ (by unfold evtStickyA; exact regA_ne (by omega) (by omega) (.inl e)))]; exact hs

/-- An assertion clears no sticky bit. -/
theorem State.assert1_sticky_mono (s : State) (pg src : Nat) {q n : Nat} (hs : s.sticky q n = true) :
    (s.assert1 pg src).1.sticky q n = true := by
  have h : src % 32 < 32 := Nat.mod_lt _ (by decide)
  have hb : (s.bumpSeq pg (src % 32)).sticky q n = true := by rw [State.sticky_bumpSeq _ _ _ _ _ h]; exact hs
  have c : ∀ (t : State) (p o k : Nat), (t.count p o k).sticky q n = t.sticky q n := fun t p o k => State.evtBit_of_rd (State.count_rd _ _ _ _ _) _
  have d : ∀ (t : State) (f : System → System), (t.onSys f).sticky q n = t.sticky q n := fun t f => State.evtBit_of_rd (State.onSys_rd _ _ _) _
  have g : ∀ (t : State) v, (t.signal v).sticky q n = t.sticky q n := fun t v => State.evtBit_of_rd (State.signal_rd _ _ _) _
  have j : ∀ (t : State) r, (t.journal r).sticky q n = t.sticky q n := fun t r => State.evtBit_of_rd (State.journal_rd _ _ _) _
  have m := State.sticky_set_mono (s.bumpSeq pg (src % 32)) pg h hb
  unfold State.assert1; dsimp only
  (repeat' split) <;> simp only [c, d, g, j, State.sticky_fifoPut, m, hb, hs]

/-- Raising an event clears no sticky bit. -/
theorem State.raise_sticky_mono (s : State) (pg src : Nat) {q n : Nat} (hs : s.sticky q n = true) : (s.raise pg src).sticky q n = true := by
  unfold State.raise; dsimp only; split
  · exact State.assert1_sticky_mono _ _ _ (State.assert1_sticky_mono _ _ _ hs)
  · exact State.assert1_sticky_mono _ _ _ hs

/-! ### The sequence number -/

theorem State.evtSeq_fifoPut (s : State) (i : List Byte) {pg src : Nat} (h : src < 32) : (s.fifoPut 0 i).1.evtSeq pg src = s.evtSeq pg src := by
  have e : ∀ o, 0x80 ≤ o → o < 4096 → regA pg (0x20 + src / 4 * 4) ≠ regA hostPage o := fun o h1 h2 => by
    by_cases hp : pg = hostPage
    · exact regA_ne (by omega) h2 (.inr (by omega))
    · exact regA_ne (by omega) h2 (.inl hp)
  exact State.evtSeq_of_rd (State.fifoPut_rd _ _ (e _ (by decide) (by decide)) (e _ (by decide) (by decide)))

theorem State.evtSeq_setSticky (s : State) (p n : Nat) (b : Bool) {pg src : Nat} (h : src < 32) :
    (s.setEvtBit (evtStickyA p) n b).evtSeq pg src = s.evtSeq pg src :=
  State.evtSeq_of_rd (State.setEvtBit_rd _ _ _ (sticky_ne_seq _ _ _ h).symm)

/-- An assertion that is not held back adds 1 to the source's EVT_SEQ, whatever else it does. -/
theorem State.assert1_seq (s : State) (pg : Nat) {src : Nat} (h : src < 32)
    (hh : (s.srcHeld pg || (s.host.broken.contains (pg, src))) = false) :
    (s.assert1 pg src).1.evtSeq pg src = (s.evtSeq pg src + 1) % 256 := by
  have e : src % 32 = src := Nat.mod_eq_of_lt h
  have c : ∀ (t : State) (p o k : Nat), (t.count p o k).evtSeq pg src = t.evtSeq pg src := fun t p o k => State.evtSeq_of_rd (State.count_rd _ _ _ _ _)
  have d : ∀ (t : State) (f : System → System), (t.onSys f).evtSeq pg src = t.evtSeq pg src := fun t f => State.evtSeq_of_rd (State.onSys_rd _ _ _)
  have g : ∀ (t : State) v, (t.signal v).evtSeq pg src = t.evtSeq pg src := fun t v => State.evtSeq_of_rd (State.signal_rd _ _ _)
  have j : ∀ (t : State) r, (t.journal r).evtSeq pg src = t.evtSeq pg src := fun t r => State.evtSeq_of_rd (State.journal_rd _ _ _)
  unfold State.assert1; dsimp only
  simp only [e, hh]
  (repeat' split) <;> simp only [c, d, g, j, State.evtSeq_fifoPut _ _ h,
    State.evtSeq_setSticky _ _ _ _ h, State.evtSeq_bumpSeq]
  all_goals (rename_i h0; cases h0)

theorem State.evtSeq_bumpSeq_or (s : State) (q pg : Nat) {n src : Nat} (hn : n < 32) (hs : src < 32) :
    (s.bumpSeq q n).evtSeq pg src = s.evtSeq pg src ∨ (s.bumpSeq q n).evtSeq pg src = (s.evtSeq pg src + 1) % 256 := by
  by_cases e : regA pg (0x20 + src / 4 * 4) = regA q (0x20 + n / 4 * 4)
  · have hp : pg = q ∧ n / 4 = src / 4 := by simp only [regA] at e; omega
    obtain ⟨rfl, hd⟩ := hp
    by_cases hm : n % 4 = src % 4
    · have : n = src := by omega
      subst this; exact .inr (State.evtSeq_bumpSeq _ _)
    · left
      unfold State.evtSeq State.bumpSeq; dsimp only
      rw [hd, State.rd_wr_self, getBits_putBits_of_disjoint _ _ _ _ _ _ (by omega) (by omega)]
  · exact .inl (State.evtSeq_of_rd (State.bumpSeq_rd _ _ _ e))

/-- An assertion of any source leaves EVT_SEQ of a source or adds 1 to it. -/
theorem State.assert1_seq_or (s : State) (q n pg : Nat) {src : Nat} (h : src < 32) :
    (s.assert1 q n).1.evtSeq pg src = s.evtSeq pg src ∨ (s.assert1 q n).1.evtSeq pg src = (s.evtSeq pg src + 1) % 256 := by
  have hn : n % 32 < 32 := Nat.mod_lt _ (by decide)
  have c : ∀ (t : State) (p o k : Nat), (t.count p o k).evtSeq pg src = t.evtSeq pg src := fun t p o k => State.evtSeq_of_rd (State.count_rd _ _ _ _ _)
  have d : ∀ (t : State) (f : System → System), (t.onSys f).evtSeq pg src = t.evtSeq pg src := fun t f => State.evtSeq_of_rd (State.onSys_rd _ _ _)
  have g : ∀ (t : State) v, (t.signal v).evtSeq pg src = t.evtSeq pg src := fun t v => State.evtSeq_of_rd (State.signal_rd _ _ _)
  have j : ∀ (t : State) r, (t.journal r).evtSeq pg src = t.evtSeq pg src := fun t r => State.evtSeq_of_rd (State.journal_rd _ _ _)
  have m := State.evtSeq_bumpSeq_or s q pg hn h
  unfold State.assert1; dsimp only
  (repeat' split) <;> simp only [c, d, g, j, State.evtSeq_fifoPut _ _ h, State.evtSeq_setSticky _ _ _ _ h, m, true_or]

/-- Raising an event that is not held back changes its EVT_SEQ. -/
theorem State.raise_seq_ne (s : State) (pg : Nat) {src : Nat} (h : src < 32)
    (hh : (s.srcHeld pg || (s.host.broken.contains (pg, src))) = false) :
    (s.raise pg src).evtSeq pg src ≠ s.evtSeq pg src := by
  have a := State.assert1_seq s pg h hh
  have lt : s.evtSeq pg src < 256 := getBits_lt _ _ 8
  unfold State.raise; dsimp only; split
  · rcases State.assert1_seq_or (s.assert1 pg src).1 hostPage 3 pg h with e | e <;> rw [e, a] <;> omega
  · rw [a]; omega

/-! ### Guy lines, enables and severities during an assertion -/

theorem hdr_ne_high (p q : Nat) {a o : Nat} (ha : a < 0x80) (h1 : 0x80 ≤ o) (h2 : o < 4096) : regA q o ≠ regA p a := by
  by_cases e : q = p
  · exact regA_ne h2 (by omega) (.inr (by omega))
  · exact regA_ne h2 (by omega) (.inl e)

theorem State.fld_of_high {s t : State} (h : ∀ q o, 0x80 ≤ o → o < 4096 → t.rd (regA q o) = s.rd (regA q o)) (q : Nat) (f : Fld)
    (h1 : 0x80 ≤ f.off) (h2 : f.off < 4096) : t.fld q f = s.fld q f := by unfold State.fld; rw [h q _ h1 h2]
theorem State.flag_of_high {s t : State} (h : ∀ q o, 0x80 ≤ o → o < 4096 → t.rd (regA q o) = s.rd (regA q o)) (q : Nat) (f : Fld)
    (h1 : 0x80 ≤ f.off) (h2 : f.off < 4096) : t.flag q f = s.flag q f := by unfold State.flag; rw [State.fld_of_high h q f h1 h2]

theorem State.member_of_high {s t : State} (h : ∀ q o, 0x80 ≤ o → o < 4096 → t.rd (regA q o) = s.rd (regA q o)) (q : Nat) {j : Nat} (hj : j < 8) :
    t.flag q (FLXE_MEMBER_EN.sh (4 * j)) = s.flag q (FLXE_MEMBER_EN.sh (4 * j)) ∧
      t.fld q (FLXE_MEMBER_PORT.sh (4 * j)) = s.fld q (FLXE_MEMBER_PORT.sh (4 * j)) :=
  ⟨State.flag_of_high h q _ (by show 0x80 ≤ 0xA0 + 4 * j; omega) (by show 0xA0 + 4 * j < 4096; omega),
   State.fld_of_high h q _ (by show 0x80 ≤ 0xA0 + 4 * j; omega) (by show 0xA0 + 4 * j < 4096; omega)⟩

theorem State.groupSlice_of_high {s t : State} (h : ∀ q o, 0x80 ≤ o → o < 4096 → t.rd (regA q o) = s.rd (regA q o)) (g : Nat) :
    t.groupSlice g = s.groupSlice g := by
  unfold State.groupSlice
  have e : List.range 8 = [0, 1, 2, 3, 4, 5, 6, 7] := by decide
  have m := fun j (hj : j < 8) => (State.member_of_high h (flxePage g) hj)
  rw [e]; simp only [List.find?, (m 0 (by decide)).1, (m 1 (by decide)).1, (m 2 (by decide)).1, (m 3 (by decide)).1,
    (m 4 (by decide)).1, (m 5 (by decide)).1, (m 6 (by decide)).1, (m 7 (by decide)).1]
  (repeat' split) <;> simp only [Option.map, (m 0 (by decide)).2, (m 1 (by decide)).2, (m 2 (by decide)).2, (m 3 (by decide)).2,
    (m 4 (by decide)).2, (m 5 (by decide)).2, (m 6 (by decide)).2, (m 7 (by decide)).2]

/-- Which sources a guy line masks depends on registers from offset 0x80 on only. -/
theorem State.guyLine_of_high {s t : State} (h : ∀ q o, 0x80 ≤ o → o < 4096 → t.rd (regA q o) = s.rd (regA q o)) (i : Nat) (b : Bool) (pg src k : Nat) :
    t.guyLine i b pg src k = s.guyLine i b pg src k := by
  have e : List.range 8 = [0, 1, 2, 3, 4, 5, 6, 7] := by decide
  have m := fun q j (hj : j < 8) => (State.member_of_high h q hj)
  have m1 := fun q => And.intro (m q 0 (by decide)) (And.intro (m q 1 (by decide)) (And.intro (m q 2 (by decide)) (m q 3 (by decide))))
  have m2 := fun q => And.intro (m q 4 (by decide)) (And.intro (m q 5 (by decide)) (And.intro (m q 6 (by decide)) (m q 7 (by decide))))
  unfold State.guyLine
  simp only [State.groupSlice_of_high h, e, List.any_cons, List.any_nil, fun q => (m1 q).1.1, fun q => (m1 q).1.2, fun q => (m1 q).2.1.1,
    fun q => (m1 q).2.1.2, fun q => (m1 q).2.2.1.1, fun q => (m1 q).2.2.1.2, fun q => (m1 q).2.2.2.1, fun q => (m1 q).2.2.2.2,
    fun q => (m2 q).1.1, fun q => (m2 q).1.2, fun q => (m2 q).2.1.1,
    fun q => (m2 q).2.1.2, fun q => (m2 q).2.2.1.1, fun q => (m2 q).2.2.1.2, fun q => (m2 q).2.2.2.1, fun q => (m2 q).2.2.2.2]

theorem State.guyMasked_of_high {s t : State} (h : ∀ q o, 0x80 ≤ o → o < 4096 → t.rd (regA q o) = s.rd (regA q o)) (hs : t.sys = s.sys)
    (hn : t.now = s.now) (pg src k : Nat) : t.guyMasked pg src k = s.guyMasked pg src k := by
  unfold State.guyMasked
  simp only [State.flag_of_high h fltcPage FLTC_GUY_CFG_GUY_EN (by decide) (by decide), State.guyLine_of_high h, hs, hn]

theorem State.bumpSeq_high (s : State) (pg : Nat) {src : Nat} (hs : src < 32) (q o : Nat) (h1 : 0x80 ≤ o) (h2 : o < 4096) :
    (s.bumpSeq pg src).rd (regA q o) = s.rd (regA q o) := State.bumpSeq_rd _ _ _ (hdr_ne_high _ _ (by omega) h1 h2)

theorem State.guyMasked_bumpSeq (s : State) (pg : Nat) {src : Nat} (hs : src < 32) (q n k : Nat) :
    (s.bumpSeq pg src).guyMasked q n k = s.guyMasked q n k :=
  State.guyMasked_of_high (fun _ _ => State.bumpSeq_high s pg hs _ _) (by unfold State.bumpSeq; exact State.wr_sys _ _ _)
    (by unfold State.bumpSeq; exact State.wr_now _ _ _) _ _ _

theorem hdr_ne (p q : Nat) {a b : Nat} (ha : a < 4096) (hb : b < 4096) (h : a ≠ b) : regA p a ≠ regA q b := by
  by_cases e : p = q
  · exact regA_ne ha hb (.inr h)
  · exact regA_ne ha hb (.inl e)

theorem State.evtEnabled_bumpSet (s : State) (pg : Nat) {src : Nat} (hs : src < 32) (b : Bool) :
    ((s.bumpSeq pg src).setEvtBit (evtStickyA pg) src b).evtEnabled pg src = s.evtEnabled pg src := by
  unfold State.evtEnabled State.evtBit
  rw [State.setEvtBit_rd _ _ _ (by unfold evtStickyA; exact hdr_ne _ _ (by decide) (by decide) (by decide)),
    State.bumpSeq_rd _ _ _ (hdr_ne _ _ (by omega) (by omega) (by omega))]

/-- What an assertion does that its severity governs beside EVT_ENABLE: the action becomes due. -/
def State.dueFor (s : State) (pg src sev : Nat) : State :=
  if 2 ≤ sev then s.onSys fun y => { y with due := y.due ++ [(pg, src, sev)] } else s

/-- An assertion of a masked source moves EVT_SEQ and GUY_MASKED only. -/
theorem State.assert1_masked (s : State) (pg : Nat) {src : Nat} (h : src < 32)
    (hh : (s.srcHeld pg || (s.host.broken.contains (pg, src))) = false) (hm : s.guyMasked pg src 0 = true) :
    s.assert1 pg src = ((s.bumpSeq pg src).count fltcPage 0xB8, false) := by
  have e : src % 32 = src := Nat.mod_eq_of_lt h
  have k : src / 32 = 0 := by omega
  unfold State.assert1; dsimp only
  simp only [e, k, hh, State.guyMasked_bumpSeq _ _ h, hm, if_true]
  rw [if_neg (by simp)]

/-- An assertion of a source with EVT_ENABLE 0 moves EVT_SEQ and sets STICKY; its severity action is due; nothing else. -/
theorem State.assert1_off (s : State) (pg : Nat) {src : Nat} (h : src < 32)
    (hh : (s.srcHeld pg || (s.host.broken.contains (pg, src))) = false) (hm : s.guyMasked pg src 0 = false)
    (he : s.evtEnabled pg src = false) : s.assert1 pg src =
      ((if s.sticky pg src then s.bumpSeq pg src else (s.bumpSeq pg src).setEvtBit (evtStickyA pg) src true).dueFor pg src (s.evtSev pg src), false) := by
  have e : src % 32 = src := Nat.mod_eq_of_lt h
  have k : src / 32 = 0 := by omega
  unfold State.assert1 State.dueFor; dsimp only
  simp only [e, k, hh, State.guyMasked_bumpSeq _ _ h, hm, State.sticky_bumpSeq _ _ _ _ _ h, State.evtEnabled_bumpSet _ _ h, he]
  cases s.sticky pg src <;> simp only [Bool.not_true, Bool.not_false, if_true, Bool.false_eq_true, if_false] <;> split <;> rfl

/-- An assertion that is neither held back nor masked makes its severity action due, whatever STICKY holds (R418, R419). -/
theorem State.assert1_due_eq (s : State) (pg : Nat) {src : Nat} (h : src < 32)
    (hh : (s.srcHeld pg || (s.host.broken.contains (pg, src))) = false) (hm : s.guyMasked pg src 0 = false) :
    (s.assert1 pg src).1.sys.due = s.sys.due ++ if 2 ≤ s.evtSev pg src then [(pg, src, s.evtSev pg src)] else [] := by
  have e : src % 32 = src := Nat.mod_eq_of_lt h
  have k : src / 32 = 0 := by omega
  unfold State.assert1; dsimp only
  simp only [e, k, hh, State.guyMasked_bumpSeq _ _ h, hm]
  by_cases h2 : 2 ≤ s.evtSev pg src <;> simp only [h2, if_true, if_false, List.append_nil] <;>
    (repeat' split) <;> simp_all only [State.onSys_sys, State.signal_sys, State.fifoPut_sys, State.journal_due,
      State.setEvtBit_sys, State.bumpSeq_sys, Bool.false_eq_true]

/-- The end of a command at which one action is due: it is taken, then what it causes. -/
theorem settle_of_one {s : State} {pg src sev : Nat} (h : s.sys.due = [(pg, src, sev)]) :
    settle s = State.settleN 256 (if sev = 3 then (s.onSys fun y => { y with due := [] }).fatalEnter pg src
      else (s.onSys fun y => { y with due := [] }).containAct pg src) := by
  unfold settle; rw [h]
  show State.settleN (256 + 1) s = _
  rw [State.settleN]; split
  · next heq => rw [h] at heq; cases heq
  · next heq => rw [h] at heq; cases heq; rfl

/-- Severities, which no assertion changes. -/
theorem State.assert1_sev (s : State) (pg src q n : Nat) (h : n < 32) : (s.assert1 pg src).1.evtSev q n = s.evtSev q n := by
  have hs : src % 32 < 32 := Nat.mod_lt _ (by decide)
  unfold State.evtSev
  rw [State.assert1_rd _ _ _ (hdr_ne _ _ (by omega) (by decide) (by omega)) (hdr_ne _ _ (by omega) (by omega) (by omega))
    (hdr_ne _ _ (by omega) (by decide) (by simp only [HOST_FIFO_CFG_DEPTH]; omega))
    (hdr_ne _ _ (by omega) (by decide) (by simp only [HOST_FIFO_POOL_FREE]; omega))]

/-- Raising a source that is neither held back nor masked, where FIFO_GAP has no action: its own action becomes due. -/
theorem State.raise_due_eq (s : State) (pg : Nat) {src : Nat} (h : src < 32)
    (hh : (s.srcHeld pg || (s.host.broken.contains (pg, src))) = false) (hm : s.guyMasked pg src 0 = false)
    (hg : s.evtSev hostPage 3 ≤ 1) :
    (s.raise pg src).sys.due = s.sys.due ++ if 2 ≤ s.evtSev pg src then [(pg, src, s.evtSev pg src)] else [] := by
  unfold State.raise; dsimp only; split
  · rw [State.assert1_due _ _ _ (by rw [State.assert1_sev _ _ _ _ _ (by decide)]; exact hg), State.assert1_due_eq _ _ h hh hm]
  · exact State.assert1_due_eq _ _ h hh hm

/-- Raising a masked source. -/
theorem State.raise_masked (s : State) (pg : Nat) {src : Nat} (h : src < 32)
    (hh : (s.srcHeld pg || (s.host.broken.contains (pg, src))) = false) (hm : s.guyMasked pg src 0 = true) :
    s.raise pg src = (s.bumpSeq pg src).count fltcPage 0xB8 := by
  unfold State.raise; rw [State.assert1_masked _ _ h hh hm]; rfl

/-- Raising a source with EVT_ENABLE 0. -/
theorem State.raise_off (s : State) (pg : Nat) {src : Nat} (h : src < 32)
    (hh : (s.srcHeld pg || (s.host.broken.contains (pg, src))) = false) (hm : s.guyMasked pg src 0 = false)
    (he : s.evtEnabled pg src = false) : s.raise pg src =
      (if s.sticky pg src then s.bumpSeq pg src else (s.bumpSeq pg src).setEvtBit (evtStickyA pg) src true).dueFor pg src (s.evtSev pg src) := by
  unfold State.raise; rw [State.assert1_off _ _ h hh hm he]; rfl

end Sys2Proof.Machine
end

