-- ==== Sys2Proof/WellFormed.lean ====
section
/-! DEFINITION. Well-formed commands: what the operands of a command must satisfy beyond their types, where the spec fixes the shape of
what arrives. A command that is not well formed still has its meaning; these checks say which ones the surroundings can send. -/

namespace Sys2Proof

/-- A link prefix has 8 bytes (R270). -/
def prefixLen : Nat := 8
/-- A cell or a hello has 288 bytes (R270). -/
def unitLen : Nat := 288

/-- The operands of a command have the shapes that the spec gives them. -/
def Instr.wf (i : Instr) : Bool :=
  match i with
  | .frameReceiveStart _ b _ => !b.isEmpty
  | .macControlReceive _ b => !b.isEmpty
  | .parkedFrameReceive _ b => !b.isEmpty
  | .frameReceiveEnd _ e _ => 1 ≤ e.fragments
  | .packUnitReceive _ _ u _ _ => !u.isEmpty
  | .linkPrefixReceive _ b _ => b.length == prefixLen
  | .latchPrefixReceive _ b _ => b.length == prefixLen && (b.headD 0).getLsbD 3
  | .linkCellReceive _ _ b _ => b.length == unitLen
  | .serWindowRestart _ c n => c ≤ n && n ≤ 15 * c
  | .helloReceive _ b => b.length == unitLen
  | .flexeOhFrameReceive _ _ oh => oh.phyMap.all (· < 256)
  | .twinFrameReceive b => !b.isEmpty
  | .bar2Write _ b => 1 ≤ b.length && b.length ≤ 512
  | .pcieLinkUp w v => (w == 1 || w == 2 || w == 4 || w == 8) && 1 ≤ v.val && v.val ≤ 5
  | .guardValueWrite _ _ off _ => 0xE00 ≤ off.val && off.val < 0xF00
  | .guardComplementWrite _ _ off _ => 0xF00 ≤ off.val
  | .injectRingFetch _ d f => d.length == 32 && !f.isEmpty
  | .puntRingDeliver _ d => d.length == 32
  | .notifyFifoEnqueue _ x => 1 ≤ x.length && x.length ≤ 128
  | .dbgResponse _ _ sig => sig.length == 96
  | .nvMountDone l => decide l.Nodup
  | _ => true

end Sys2Proof
end

