-- ==== Sys2Proof/Tests/Slice0.lean ====
section
/-! SUPPORT. The model's own tests: ill-formed commands that the checks refuse, single commands on small states, and a state that meets
the premises of each clause of each statement. -/

--BODY--
open Sys2Proof Sys2Proof.Machine

namespace Sys2Proof.Tests

set_option Elab.async false

/-- Reset, with physical port `p` in mode 1 and its first sub-port in pitching state `st`. -/
def portAt (p st : Nat) : State :=
  (State.reset.setPortFld p OENG_PORT_MODE_MODE 1).setPitch (4 * p) { dfltPitch with state := st, light := true }

/-- Every island runs: no page is dark. -/
def running : State := (List.range 54).foldl (fun s i => s.setIsland i { dfltIsland i with power := 2, rst := 0 }) State.reset
theorem admits_host (page off : Nat) (h : running.pageDark page = false) : Admits running .host page off := ⟨h, fun _ _ e => by cases e⟩
theorem reaches_host (page off : Nat) (h : running.pageDark page = false) (g : running.gathers .host page = false) :
    Reaches running .host page off := ⟨admits_host page off h, g⟩
theorem takes_host (page off : Nat) (h : running.pageDark page = false) (g : running.gathers .host page = false)
    (k : (running.shadow.any fun e => e.1 / 4096 == page) = false) : TakesTurn running .host page off := ⟨reaches_host page off h g, k⟩
/-- Cluster 1 holds the lease and drives. -/
def holding : State := (running.setRole 1 4).onLease fun l => { l with holder := some 1 }
theorem admits_fw (p : Pair) (page off : Nat) (h : holding.pageDark page = false) (hf : holding.fwCause page off = 0) :
    Admits holding (.fw 1 p) page off :=
  ⟨h, fun c q e => by cases e; exact ⟨by decide +kernel, .inr (by decide +kernel), hf⟩⟩

/-! ### WellFormed: an ill-formed command for each check -/

theorem test_wf_frame_start : Instr.wf (.frameReceiveStart 0 [] .mac) = false ∧ Instr.wf (.frameReceiveStart 0 [1] .mac) = true := by decide +kernel
theorem test_wf_mac_control : Instr.wf (.macControlReceive 0 []) = false := by decide +kernel
theorem test_wf_parked_frame : Instr.wf (.parkedFrameReceive 0 []) = false := by decide +kernel
theorem test_wf_twin_frame : Instr.wf (.twinFrameReceive []) = false := by decide +kernel
theorem test_wf_fragments : Instr.wf (.frameReceiveEnd 0 ⟨false, false, false, false, 0⟩ .mac) = false
    ∧ Instr.wf (.frameReceiveEnd 0 ⟨false, false, false, false, 1⟩ .mac) = true := by decide +kernel
theorem test_wf_pack_unit : Instr.wf (.packUnitReceive 0 true [] .none .mac) = false := by decide +kernel
theorem test_wf_link_prefix : Instr.wf (.linkPrefixReceive 0 (List.replicate 7 0) true) = false
    ∧ Instr.wf (.linkPrefixReceive 0 (List.replicate 8 0) true) = true := by decide +kernel
theorem test_wf_latch_prefix : Instr.wf (.latchPrefixReceive 0 (List.replicate 8 0) true) = false
    ∧ Instr.wf (.latchPrefixReceive 0 (8 :: List.replicate 6 0) true) = false ∧ Instr.wf (.latchPrefixReceive 0 (8 :: List.replicate 7 0) true) = true := by decide +kernel
theorem test_wf_link_cell : Instr.wf (.linkCellReceive 0 0 (List.replicate 287 0) false) = false := by decide +kernel
theorem test_wf_ser_window : Instr.wf (.serWindowRestart 0 1 16) = false ∧ Instr.wf (.serWindowRestart 0 2 1) = false
    ∧ Instr.wf (.serWindowRestart 0 2 30) = true := by decide +kernel
theorem test_wf_hello : Instr.wf (.helloReceive 0 (List.replicate 289 0)) = false := by decide +kernel
theorem test_wf_phy_map (oh : OhFrame) : Instr.wf (.flexeOhFrameReceive 0 0 { oh with phyMap := [256] }) = false
    ∧ Instr.wf (.flexeOhFrameReceive 0 0 { oh with phyMap := [255] }) = true := ⟨rfl, rfl⟩
theorem test_wf_bar2 : Instr.wf (.bar2Write 0 []) = false ∧ Instr.wf (.bar2Write 0 (List.replicate 513 0)) = false := by decide +kernel
theorem test_wf_link_up : Instr.wf (.pcieLinkUp 3 1) = false ∧ Instr.wf (.pcieLinkUp 8 0) = false ∧ Instr.wf (.pcieLinkUp 8 6) = false
    ∧ Instr.wf (.pcieLinkUp 8 5) = true := by decide +kernel
theorem test_wf_guard_value : Instr.wf (.guardValueWrite .host 1 0xDFC 0) = false ∧ Instr.wf (.guardValueWrite .host 1 0xF00 0) = false
    ∧ Instr.wf (.guardValueWrite .host 1 0xE00 0) = true := by decide +kernel
theorem test_wf_guard_complement : Instr.wf (.guardComplementWrite .host 1 0xEFC 0) = false := by decide +kernel
theorem test_wf_inject : Instr.wf (.injectRingFetch 0 (List.replicate 31 0) [1]) = false ∧ Instr.wf (.injectRingFetch 0 (List.replicate 32 0) []) = false := by decide +kernel
theorem test_wf_punt : Instr.wf (.puntRingDeliver 0 (List.replicate 33 0)) = false := by decide +kernel
theorem test_wf_notify : Instr.wf (.notifyFifoEnqueue 0 []) = false ∧ Instr.wf (.notifyFifoEnqueue 0 (List.replicate 129 0)) = false := by decide +kernel
theorem test_wf_dbg : Instr.wf (.dbgResponse 0 [] (List.replicate 95 0)) = false := by decide +kernel
theorem test_wf_mount : Instr.wf (.nvMountDone [7, 7]) = false ∧ Instr.wf (.nvMountDone [7, 8]) = true := by decide +kernel

/-! ### Numbers and single commands, from the spec's examples and tables -/

/-- 00: logical port 310 is sub-port 2 of P77 in S2 (77 × 4 + 2). -/
theorem test_port_numbers : physOf 310 = 77 ∧ subOf 310 = 2 ∧ sliceOf 310 = 2 := by decide
/-- R384: the page directory. -/
theorem test_page_directory : pageOf 1 = some (.host, 0) ∧ pageOf 2 = some (.fltc, 0) ∧ pageOf 0x2C8 = some (.port, 200) ∧ pageOf 0x300 = none := by decide
/-- R409: IDCODE of the module. -/
theorem test_idcode : (match exec (.boundaryScanInstruction .idcode []) (State.reset.onPower fun p => { p with vsb := true }) with
    | .next t => t.out | _ => []) = [.tap [0x41, 0x8E, 0x04, 0x22]] := by decide +kernel
/-- R416: 105 °C raises THERM_WARN, 104 °C does not. -/
theorem test_therm_warn : (match exec (.thermThresholdCross 3 105) running with | .next t => t.live fltcPage 3 | _ => false) = true
    ∧ (match exec (.thermThresholdCross 3 104) running with | .next t => t.live fltcPage 3 | _ => true) = false := by decide +kernel
/-- R391: a clear with another number leaves the sticky bit. -/
theorem test_clear : (match exec (.evtClear .host 1 2 1) (running.raise hostPage 2) with | .next t => t.sticky hostPage 2 | _ => true) = false
    ∧ (match exec (.evtClear .host 1 2 0) (running.raise hostPage 2) with | .next t => t.sticky hostPage 2 | _ => false) = true := by decide +kernel
/-- R382: a dark page reads 0, and the read is counted. -/
theorem test_dark : (match exec (.darkPageAccess 5 0x80 .read) State.reset with
    | .next t => (t.out, t.ctr hostPage 0xC0) | _ => ([], 0)) = ([.completion 0], 1) := by decide +kernel

/-- Paused and stormed in class 7 of the last logical port, and paused still in class 6; PFC with the watchdog on. -/
def pauseSt : State :=
  let o := (List.replicate 8 none).set 7 (some 5)
  let s := State.reset.setMac 1023
    { dfltMac with pauseEnd := o.set 6 (some 1000000000001), stormSince := o, pauseSent := o, pausedSince := o.set 6 (some 5) }
  let s := ((s.setMacFld 1023 PORT_MAC_CFG_PAUSE_MODE 1).setMacFld 1023 PORT_PAUSE_WD_WD_EN 1).setMacFld 1023 PORT_PFC_CFG_PFC_RX_EN 255
  let s := (s.onTime fun t => { t with dt := 1000000000000 * 2 ^ 32 }).setMacFld 1023 PORT_MM_STATUS_PAUSED_RX 128
  { (s.setMacFld 1023 PORT_MM_STATUS_PAUSING_TX 255).setPfcOcc 1023 7 100000 with now := 1000000000000 }
theorem witness_PauseCommandsComplete :
    (Quiet pauseSt ∧ (pauseSt.mac 1023).pauseEnd.getD 7 none = some 5 ∧ 5 ≤ pauseSt.now ∧ pauseSt.pausedRx 1023 7 = true)
    ∧ ((pauseSt.mac 1023).stormSince.getD 7 none = some 5 ∧ pauseSt.pfcRxEn 1023 7 = true
      ∧ 5 + pauseSt.macFld 1023 PORT_PAUSE_WD_RECOVERY * 1000 ≤ pauseSt.dtUs)
    ∧ (pauseSt.pauseMode 1023 ≠ 2 ∧ pauseSt.pausing 1023 7 = true ∧ (pauseSt.mac 1023).pauseSent.getD 7 none = some 5
      ∧ pauseSt.xoffLow 1023 7 < pauseSt.pfcOcc 1023 7
      ∧ 5 + pauseSt.quantaNs 1023 (pauseSt.macFld 1023 PORT_PAUSE_TIME_REFRESH) ≤ pauseSt.now)
    ∧ (pauseSt.pauseMode 1023 ≠ 2 ∧ pauseSt.macFld 1023 PORT_PAUSE_WD_WD_EN = 1 ∧ pauseSt.pfcRxEn 1023 6 = true ∧ pauseSt.storm 1023 6 = false
      ∧ (pauseSt.mac 1023).pausedSince.getD 6 none = some 5 ∧ (pauseSt.mac 1023).pauseEnd.getD 6 none = some 1000000000001
      ∧ pauseSt.usEdge < 1000000000001 ∧ 0 < pauseSt.dtUs - 5
      ∧ pauseSt.macFld 1023 PORT_PAUSE_WD_WD_TIME * 1000 ≤ pauseSt.dtUs - 5) := by decide +kernel

/-- Logical port 1,020 UP in mode 1 with preemption and verification on, one attempt `left`, the next due at instant 5. -/
def verifySt (left : Nat) : State :=
  let s := (portAt 255 5).setMac 1020 { dfltMac with verifyNext := some 5, verifyLeft := left }
  let s := (s.setMacFld 1020 PORT_MAC_CFG_PREEMPT_EN 1).setMacFld 1020 PORT_MAC_CFG_VERIFY_EN 1
  { s.setMacFld 1020 PORT_MM_STATUS_VERIFY_STATUS 2 with now := 5 }
theorem witness_VerificationCompletes :
    (Quiet (verifySt 0) ∧ (verifySt 0).isUp 1020 = true ∧ (verifySt 0).mmOn 1020 = true
      ∧ (verifySt 0).macFld 1020 PORT_MM_STATUS_VERIFY_STATUS = 2)
    ∧ (Quiet (verifySt 1) ∧ ((verifySt 1).mac 1020).verifyNext = some 5 ∧ 5 ≤ (verifySt 1).now
      ∧ (verifySt 1).macFld 1020 PORT_MM_STATUS_VERIFY_STATUS = 2 ∧ ((verifySt 1).mac 1020).verifyLeft ≠ 0)
    ∧ (((verifySt 0).mac 1020).verifyNext = some 5 ∧ 5 ≤ (verifySt 0).now ∧ ((verifySt 0).mac 1020).verifyLeft = 0) := by decide

/-- A reception of `bytes` that nothing has looked up, or that was looked up. -/
def rxOf (bytes : List Byte) (looked : Bool) : RxFrame :=
  { (portAt 255 5).rxNew 1020 bytes with looked := looked, wantsLearn := false }
def rxSt (looked : Bool) : State := (portAt 255 5).setRx 1020 0 (some (rxOf (finishFrame []) looked))
/-- A MAC control frame with opcode `o`. -/
def control (o : Nat) : List Byte := finishFrame (zeros 12 ++ beBytes 2 0x8808 ++ beBytes 2 o)
def goodEnd : RxEnd := { fec := false, code := false, reasm := false, smd := false, fragments := 1 }
/-- Parked, with a wake pattern that any frame matches and WAKE_ON_LIGHT set. -/
def parkedSt : State :=
  let s := (portAt 255 6).setPortFld 255 OENG_PORT_MODE_WAKE_ON_LIGHT 1
  let s := (s.setFld (oengPage 31) (OENG_WAKE_CHECK_CHECK.sh 0x7E0) 0xFFFF).setFlag (oengPage 31) (OENG_WAKE_CHECK_EN.sh 0x7E0) true
  s.onPitch 1020 fun t => { t with light := false }
theorem witness_ReceptionCompletes :
    (Quiet (portAt 255 5) ∧ (portAt 255 5).rxOpen 1020 0 = true ∧ (portAt 255 5).rxOf 1020 0 = none ∧ (portAt 255 5).rxOpen 1020 2 = false)
    ∧ ((rxSt false).rxOf 1020 0 = some (rxOf (finishFrame []) false) ∧ etypeAt (finishFrame []) 12 ≠ 0x8808)
    ∧ (Quiet (rxSt true) ∧ (rxSt true).rxOf 1020 0 = some (rxOf (finishFrame []) true)
      ∧ ((rxSt true).setRx 1020 0 none).rxError 1020 (finishFrame []) { goodEnd with fec := true } = some 33
      ∧ ((rxSt true).setRx 1020 0 none).rxError 1020 (finishFrame []) goodEnd = none)
    ∧ (etypeAt (control 2) 12 = 0x8808 ∧ beAt (control 2) 14 2 ≠ 0x0001 ∧ beAt (control 2) 14 2 ≠ 0x0101
      ∧ (portAt 255 5).isUp 1020 = true ∧ (portAt 255 5).cellOn (physOf 1020) = false
      ∧ (portAt 255 5).rxError 1020 (control 2) cleanEnd = none ∧ (portAt 255 5).rxError 1020 (0 :: control 2) cleanEnd = some 27)
    ∧ ((portAt 255 5).setRx 1020 0 (some (rxOf (control 2) false))).rxOf 1020 0 = some (rxOf (control 2) false) := by decide +kernel
theorem witness_link_pause :
    (etypeAt (control 0x101) 12 = 0x8808 ∧ beAt (control 0x101) 14 2 = 0x0101 ∧ (portAt 255 5).rxError 1020 (control 0x101) cleanEnd = none)
    ∧ (let s := (portAt 255 5).setMacFld 1020 PORT_MAC_CFG_PAUSE_MODE 2
     let u := (s.rxCount 1020 (control 1) none 1).portCtr 1020 7
     s.isUp 1020 = true ∧ etypeAt (control 1) 12 = 0x8808 ∧ beAt (control 1) 14 2 = 0x0001 ∧ s.rxError 1020 (control 1) goodEnd = none
      ∧ u.pauseMode 1020 = 2 ∧ u.storm 1020 0 = false)
    ∧ (parkedSt.inUse 1020 = true ∧ (parkedSt.pitch 1020).state = 6 ∧ fcsGood (finishFrame []) = true
      ∧ ((List.range 8).any fun j => wakeMatch (finishFrame []) (parkedSt.wakePattern (physOf 1020) j)) = true
      ∧ (parkedSt.pitch 1020).light = false ∧ parkedSt.portFld (physOf 1020) OENG_PORT_MODE_WAKE_ON_LIGHT = 1) := by decide +kernel

/-- The sub-port with the engine and its slice running. -/
def litAt (st : Nat) : State :=
  let s := portAt 255 st
  ((s.setUcState 31 0).setIsland 48 { dfltIsland 48 with power := 2, rst := 0 }).setIsland 7 { dfltIsland 7 with power := 2, rst := 0 }
theorem witness_PitchingMoves :
    (((litAt 1).pitch 1020).state = 1 ∧ (litAt 1).biasBlocked 1020 = false)
    ∧ ((litAt 2).pitch 1020).state = 2 ∧ ((litAt 3).pitch 1020).state = 3
    ∧ (((litAt 4).pitch 1020).state = 4 ∧ (litAt 4).lanesDark 1020 = false ∧ ((litAt 4).pitch 1020).fromParked = false)
    ∧ ((litAt 1).pitch 1020).entered + 300000 ≤ ({ litAt 1 with now := 300000 } : State).now
    ∧ ((litAt 2).pitch 1020).entered + (if (litAt 2).eqWarm 1020 then 500000 else 20000000) ≤ ({ litAt 2 with now := 20000000 } : State).now
    ∧ ((litAt 3).pitch 1020).entered + 100000 ≤ ({ litAt 3 with now := 100000 } : State).now
    ∧ ((litAt 4).pitch 1020).entered + 900000 ≤ ({ litAt 4 with now := 900000 } : State).now
    ∧ (((litAt 5).pitch 1020).state = 5 ∧ (litAt 5).keepsUp 1020 = false ∧ ((litAt 5).pitch 1020).light = true)
    ∧ (((litAt 7).pitch 1020).state = 7 ∧ ((litAt 7).pitch 1020).backoffEnd ≤ (litAt 7).now) := by decide +kernel

theorem witness_OpticsCommandsComplete :
    (let s := litAt 5
     let u := (s.portCtr 1020 71).onPitch 1020 fun t => { t with serCount := if t.serWin = s.dtNs / 1000000 then t.serCount + 1 else 1, serWin := s.dtNs / 1000000 }
     (s.pitch 1020).state = 5 ∧ (u.portFld (physOf 1020) OENG_PORT_SER_SER_STRIKE = 0
      ∨ (u.pitch 1020).serCount < u.portFld (physOf 1020) OENG_PORT_SER_SER_STRIKE))
    ∧ (let s := { (litAt 1).onPitch 1020 fun t => { t with holdStart := some 0 } with now := 1000000000000 }
     (s.pitch 1020).holdStart = some 0 ∧ s.isUp 1020 = false ∧ 0 + 1000 * s.portFld (physOf 1020) OENG_PORT_HOLD_HOLD_TIMEOUT ≤ s.now ∧ s.slowEdge = true)
    ∧ (let s := (litAt 5).setPortFld 255 OENG_PORT_MODE_PARK 1
     s.parkWanted 255 = true ∧ s.engineRuns 31 = true)
    ∧ (Quiet (litAt 5) ∧ ((litAt 5).lane (laneKey 31 31)).lstate < 3 ∧ ((litAt 5).lane (laneKey 31 31)).deferred = false ∧ 10 * 12 < 13 * 10)
    ∧ (let s := (litAt 5).setLane (laneKey 31 31) { dfltLane with switching := some 3, switchReady := true }
     (s.lane (laneKey 31 31)).switching = some 3 ∧ (s.lane (laneKey 31 31)).switchReady = true ∧ Quiet s)
    ∧ (let s := (litAt 5).onNv fun n => { n with mounted := true, calGood := false }
     Quiet s ∧ s.sys.nv.powerFail = false ∧ s.sys.nv.mounted = true ∧ s.sys.nv.calGood = false ∧ s.engineRuns 31 = true)
    ∧ (Quiet (litAt 5) ∧ (litAt 5).engineRuns 31 = true ∧ (litAt 5).sys.nv.calGood = true ∧ (litAt 5).sys.nv.engineCalGood.getD 31 false = true)
    ∧ (((litAt 5).lane (laneKey 31 31)).latched = false ∧ ((litAt 5).lane (laneKey 31 31)).lstate ≠ 5) := by
  decide +kernel

/-- A cell for destination `d` at sequence `n`, launched at instant 0. -/
def cellTo (d n : Nat) : TimedCell :=
  { cell := { fabric := false, cls := 7, srcSlice := 7, dest := d, seq := n, stamp := 0, grantWait := 0, validLen := 0, firstTag := 511
              endOff := 511, endStatus := 0, fdest := 0, fseq := 0, srcDev := 0, fSrcSlice := 0, first := false, payload := [], releases := [], mirrors := [], input := none }
    atNs := 0, plane := 3 }
theorem witness_CrossbarCommandsComplete :
    (let s := { State.reset.setVoq (voqKey 7 2111) { dfltPacker with buf := [0] } with now := 5 }
     let u := s.ctArriveAll.fabricIdle fun k => k / 2 ^ 32 == 7 * 8 + 2111 % 8
     (u.voq (voqKey 7 2111)).buf ≠ [] ∧ (u.voq (voqKey 7 2111)).lastAt + 5 ≤ u.now)
    ∧ (let s := State.reset.onSw fun w => { w with flight := [cellTo 255 0] }
     (s.sw.flight.find? fun c => destSlice c.cell.dest == 7) = some (cellTo 255 0))
    ∧ (let s := { State.reset.setStream (streamKey 7 7 255 7) { dfltStream with held := [cellTo 255 5] } with now := 1000000 }
     (s.stream (streamKey 7 7 255 7)).lowest = some (cellTo 255 5) ∧ (cellTo 255 5).cell.seq ≠ (s.stream (streamKey 7 7 255 7)).e
      ∧ (cellTo 255 5).atNs + s.fld (xbarPage 7) XBAR_RESEQ_CFG_TIMEOUT ≤ s.now)
    ∧ (let s := { State.reset.setVoq (voqKey 7 2111) { dfltPacker with reqSince := some 0 } with now := 100000 }
     (s.voq (voqKey 7 2111)).reqSince = some 0 ∧ 0 + 100000 ≤ s.now
      ∧ s.voqHeld 2111 = false)
    ∧ State.reset.planesUp.contains 3 = true
    ∧ (let s := State.reset.onSw fun w => { w with returning := [false, false, false, true] }
     Quiet s ∧ s.sw.returning.getD 3 false = true) := by decide +kernel
theorem witness_plane_admitted : Admits running .host (xbarPage 8) 0xE00 := admits_host _ _ (by decide +kernel)

/-- A frame that logical port 1,020 sends, whole or not. -/
def efOf (complete : Bool) : EFrame :=
  { f := { bytes := [], stamp := 0, inLport := 0, cls := 7, colour := 0, sid := 0, vid := 0, tags := 0, mcast := false, group := 0
           mirrorCopy := false, session := none, injected := false, uncal := false, unlocked := false }
    lport := 1020, q := 7, place := .sending, complete := complete, sized := false, bad := false, ct := false, maxLen := 0, cellsSeen := 1, charge := 1
    pool := 0, poolPart := 0, cellSet := 0, deepLo := 0, deepHi := 0, lost := false, inj := none, admitted := 0 }
def txOf : Tx := { fid := 7, start := 0, bytes := [], preemptable := false, fragments := 0, sent := 0, late := false }
def sendSt (complete : Bool) : State := ((portAt 255 5).setMac 1020 { dfltMac with tx := some txOf }).setEf 7 (some (efOf complete))
/-- The last deep queue of slice 7 with one bobbin in phase `ph`. -/
def bobSt (ph : Nat) : State :=
  { State.reset.setQueue (queueKey 7 17407) { dfltQueue 17407 with bobbins := [{ stack := 7, lo := 0, hi := 1, phase := ph }] } with now := 1000 }
/-- A whole class 7 frame at the head of its queue. -/
def readySt : State :=
  let s := (portAt 255 5).setEf 7 (some { efOf true with place := .list })
  (s.setQueue (queueKey 7 (8 * qOf 1020 + 7)) { dfltQueue 1023 with frames := [7], occ := 1 }).setChain 255 [7]
theorem witness_TransmissionCompletes :
    ((State.reset.each (State.reset.lportsOf 255) fun s lp => s.cleanHeads lp) = State.reset)
    ∧ (((sendSt true).mac 1020).tx = some txOf ∧ (sendSt true).ef 7 = some (efOf true) ∧ (efOf true).bad = false)
    ∧ (((sendSt false).mac 1020).tx = some txOf ∧ (sendSt false).ef 7 = some (efOf false) ∧ (efOf false).complete = false)
    ∧ (Quiet (bobSt 0) ∧ ((bobSt 0).queue (queueKey 7 (1024 + 16383))).bobbins.getLast? = some { stack := 7, lo := 0, hi := 1, phase := 0 }
      ∧ ((bobSt 0).queue (queueKey 7 (1024 + 16383))).deepAt + 1000 ≤ (bobSt 0).now)
    ∧ ((bobSt 1).queue (queueKey 7 (1024 + 16383))).bobbins.find? (fun b => b.phase = 1) = some { stack := 7, lo := 0, hi := 1, phase := 1 }
    ∧ (((bobSt 2).startRead 7 (queueKey 7 (1024 + 16383))).queue (queueKey 7 (1024 + 16383))).bobbins
      = { stack := 7, lo := 0, hi := 1, phase := 3 } :: [] := by decide +kernel
theorem witness_select : readySt.isUp 1020 = true ∧ readySt.cellOn (physOf 1020) = false
    ∧ ((readySt.cleanHeads 1020).mac 1020).tx = none ∧ (readySt.cleanHeads 1020).classReady 1020 7 = some 7 := by decide +kernel
/-- Nothing ready on logical port 1,020: idle, held by its gates, with a frame preempted, or with a pause due. -/
def idleSt (m : Mac) (hold : Nat) : State :=
  ((((portAt 255 5).setMac 1020 m).setMacFld 1020 PORT_MAC_CFG_PREEMPT_EN 1).setMacFld 1020 PORT_MAC_CFG_VERIFY_EN 0).setGateSt 255
    SCHD_GATE_STATUS_HOLD hold
theorem witness_select_idle :
    (∀ s ∈ [idleSt dfltMac 0, idleSt { dfltMac with preempted := some txOf } 0, idleSt { dfltMac with linkDue := some 5 } 0,
        idleSt { dfltMac with linkDue := some 5 } 1],
      s.isUp 1020 = true ∧ s.cellOn (physOf 1020) = false ∧ ((s.cleanHeads 1020).mac 1020).tx = none ∧ (s.cleanHeads 1020).classReady 1020 7 = none)
    ∧ ((idleSt { dfltMac with linkDue := some 5 } 1).cleanHeads 1020).heldMac 1020 = true
    ∧ ((idleSt { dfltMac with linkDue := some 5 } 0).cleanHeads 1020).pauseDue 1020 = true
    ∧ ((idleSt dfltMac 0).cleanHeads 1020).heldMac 1020 = false ∧ ((idleSt dfltMac 0).cleanHeads 1020).pauseDue 1020 = false := by decide +kernel
theorem witness_select_busy :
    (let s := sendSt true
     ((s.cleanHeads 1020).mac 1020).tx = some txOf ∧ (s.cleanHeads 1020).classReady 1020 7 = none)
    ∧ (let s := readySt.setMac 1020 { dfltMac with tx := some txOf }
     ((s.cleanHeads 1020).mac 1020).tx = some txOf ∧ (s.cleanHeads 1020).classReady 1020 7 = some 7)
    ∧ (let s := (sendSt true).setEf 7 (some { efOf true with bad := true })
     (s.mac 1020).tx = some txOf ∧ s.ef 7 = some { efOf true with bad := true })
    ∧ Quiet (sendSt false) ∧ Quiet (sendSt true) ∧ (State.reset.mac 1020).tx = none := by decide +kernel
theorem witness_no_excess :
    (let s := (State.reset.setSchd (schdKey 7 2 31) [0, 0x4000, 1, 0x4000, 0, 0, 0, 0]).setNode (schdKey 7 2 31) { dfltNode with maxTok := -1 }
     let u := s.each (s.lportsOf 255) fun s lp => s.cleanHeads lp
     (u.nodeNow (255 / 32) 2 (255 % 32)).maxTok < 0) := by decide +kernel

theorem witness_StacksAuditCountersComplete :
    (State.reset.stackDouble 7 = false ∧ State.reset.stackIn 7 = true ∧ Quiet State.reset
      ∧ (State.reset.setStackSt 7 { State.reset.stackSt 7 with doubled := true }).stackDouble 7 = true)
    ∧ (State.reset.onSw fun w => { w with derateDue := true }).sw.derateDue = true
    ∧ (let s := State.reset.setBlock 16 { dfltBlock with resetting := true }
     (s.block (9 + 7)).resetting = true ∧ s.fatal = false)
    ∧ ((State.reset.setFlag (deepPage 8) DEEPT_AUDIT_CFG_AUDIT_EN true).flag (deepPage 8) DEEPT_AUDIT_CFG_AUDIT_EN = true
      ∧ State.reset.dtSub < 1000 ∧ State.reset.sw.auditSec ≠ some State.reset.dtSec)
    ∧ (let s := State.reset.onSw fun w => { w with audit := some [] }
     let u := (s.onSw fun w => { w with audit := none }).incFld (deepPage 8) DEEPT_AUDIT_COUNT_COUNT 1
     s.sw.audit = some [] ∧ [] ++ u.creditFaults = [])
    ∧ (let s := State.reset.onSw fun w => { w with audit := some [(1, 7, 5)] }
     let u := (s.onSw fun w => { w with audit := none }).incFld (deepPage 8) DEEPT_AUDIT_COUNT_COUNT 1
     s.sw.audit = some [(1, 7, 5)] ∧ [(1, 7, 5)] ++ u.creditFaults = (1, 7, 5) :: [])
    ∧ (isCtr (portPage 255) 0x200 = true ∧ accessError (portPage 255) 0x200 = 0 ∧ running.pageDark (portPage 255) = false)
    ∧ (isCtr tblsPage 0x98 = false ∧ accessError tblsPage 0x98 = 0 ∧ running.pageDark tblsPage = false)
    ∧ (let s := State.reset.setLane (laneKey 31 31) { dfltLane with latched := true, lstate := 4, pending := true }
     (s.lane (laneKey 31 31)).latched = true ∧ (s.lane (laneKey 31 31)).lstate = 4 ∧ (s.lane (laneKey 31 31)).pending = true)
    ∧ ((State.reset.lane (laneKey 31 31)).lstate ≠ 5 ∧ (State.reset.lane (laneKey 31 31)).switching = none ∧ (State.reset.lane (laneKey 31 31)).deferred = false)
    ∧ (State.reset.stackIn 7 = true ∧ (State.reset.block (9 + 7)).resetting = false ∧ (State.reset.block (9 + 7)).isolated = false
      ∧ (State.reset.setStackSt 7 { State.reset.stackSt 7 with out := true }).stackIn 7 = false) := by decide +kernel
/-- Ring 33 runs and has room for a record. -/
def harvestSt : State :=
  let s := State.reset.setFlag hostPage HOST_HARVEST_CFG_EN true
  let s := ((s.setRingFld 33 HOST_RING_CFG_EN 1).setRingFld 33 HOST_RING_CFG_RUNNING 1).setRingFld 33 HOST_RING_CFG_LOG2 4
  s.onHost fun h => { h with linkUp := true, busMaster := true }
theorem witness_harvest :
    (let u := harvestSt.onHost fun h => { h with harvestAt := mset none h.harvestAt 255 (some harvestSt.now) }
     harvestSt.flag hostPage HOST_HARVEST_CFG_EN = true ∧ harvestSt.ringRuns 33 = true
      ∧ onceIn (1000000 * harvestSt.fld hostPage HOST_HARVEST_CFG_PERIOD) (mget none harvestSt.host.harvestAt 255) harvestSt.now = true
      ∧ u.ringFits 33 ((u.ringGap 33 ++ [u.harvestBody 255]).map entryLen) = true)
    ∧ (let s := harvestSt.onHost fun h => { h with busMaster := false }
     s.ringRuns 33 = true ∧ s.ringFits 33 ((s.ringGap 33 ++ [s.harvestBody 255]).map entryLen) = false ∧ (s.ring 33).gap = none)
    ∧ (let s := (harvestSt.onHost fun h => { h with busMaster := false }).setRing 33 { harvestSt.ring 33 with gap := some (1, 0) }
     s.ringFits 33 ((s.ringGap 33 ++ [s.harvestBody 255]).map entryLen) = false ∧ (s.ring 33).gap = some (1, 0)) := by decide +kernel

/-- A gate list that changes at `ct`. -/
def gateSt : State :=
  State.reset.setGate 255 { dfltGate with copying := some (dfltGate.oper, 0), pending := some (dfltGate.oper, 0), oper := { dfltGate.oper with en := true } }
theorem witness_SchedulerCommandsComplete :
    (TakesTurn running .host (schdPage 7) 0x100 ∧ TakesTurn running .host (deepPage 7) 0x100)
    ∧ (Quiet running ∧ running.flag (schdPage 7) SCHD_SCH_CMD_BUSY = false ∧ running.flag (deepPage 7) DEEP_Q_CMD_BUSY = false)
    ∧ (let u := fun t i => ((running.setFld (schdPage 7) SCHD_SCHD_CFG_REFUSED 0).setFld (schdPage 7) SCHD_SCH_CMD_INDEX i).setFld (schdPage 7) SCHD_SCH_CMD_TABLE t
     ((u 7 8191).schedRead 7 7 8191).isSome = true ∧ (u 15 32767).schedRead 7 15 32767 = none ∧ ((u 9 17407).schedRead 7 9 17407).isSome = true)
    ∧ (Quiet gateSt ∧ (gateSt.gate (32 * 7 + 31)).copying = some (dfltGate.oper, 0))
    ∧ ((gateSt.gate 255).pending = some (dfltGate.oper, 0) ∧ 0 ≤ gateSt.nsIn dfltGate.oper.tb)
    ∧ (gateSt.gate 255).oper.en = true
    ∧ (Quiet State.reset ∧ State.reset.flag (schdPage 7) SCHD_SAMPLE_CFG_WATCH_EN = false) :=
  ⟨⟨⟨reaches_host _ _ (by decide +kernel) (by decide +kernel), by decide +kernel⟩, reaches_host _ _ (by decide +kernel) (by decide +kernel), by decide +kernel⟩, by decide +kernel⟩
theorem witness_sched_node :
    (let u := ((running.setFld (schdPage 7) SCHD_SCHD_CFG_REFUSED 0).setFld (schdPage 7) SCHD_SCH_CMD_INDEX 16383).setFld (schdPage 7) SCHD_SCH_CMD_TABLE 5
     guarFail (guarPorts u (u.schedWrite 7 5 16383 (u.winGet (schdPage 7) 0x104 8)).1 ((List.range 128).map fun q => 128 * 7 + q)) = none) := by
  decide +kernel
theorem witness_gate_entry : getBits (([0, 10] : List Word).getD 0 0) 8 2 ≠ 3 ∧ 10 ≤ getBits (([0, 10] : List Word).getD 1 0) 0 30
    ∧ getBits (([0, 10] : List Word).getD 1 0) 0 30 ≤ 1000000000 := by decide
theorem witness_queue_write :
    (let u := (running.setFld (deepPage 7) DEEP_ADM_CFG_REFUSED 0).setFld (deepPage 7) DEEP_Q_CMD_INDEX 17407
     let q := u.windowQueue 7 (u.queue (queueKey 7 17407))
     queueFieldBad 17407 q = false ∧ guarFail (guarRows u.asWritten (u.setQueue (queueKey 7 17407) q).asWritten 7 ++ guarPorts u (u.setQueue (queueKey 7 17407) q) (u.queueLport 7 17407).toList) = none
      ∧ u.minRateRefused (u.setQueue (queueKey 7 17407) q) 7 (17407 - 1024) = false
      ∧ q.guarRate = (u.queue (queueKey 7 17407)).guarRate) := by decide +kernel

theorem witness_ClassifierCommandsComplete :
    (TakesTurn running .host (clsfPage 7) 0x180 ∧ TakesTurn running .host (clsfPage 7) 0x100 ∧ TakesTurn running .host (metrPage 7) 0x100)
    ∧ running.scrubDue (scrubKey 7 .meter 5) = true
    ∧ (Quiet running ∧ running.flag (clsfPage 7) (CLSF_RULE_CMD_BUSY.sh 0) = false ∧ running.ruleOpen 7 .host 16383 = true
      ∧ running.flag (clsfPage 7) CLSF_TMPL_CMD_BUSY = false ∧ running.flag (metrPage 7) METR_MTR_CMD_BUSY = false)
    ∧ (let u := (running.ruleRefuse 7 .host false).setFld (clsfPage 7) (CLSF_RULE_CMD_INDEX.sh 0) 16383
     actionRefused (u.winGet (clsfPage 7) 0x204 4) = false ∧ (2 : Fin 4) ≠ 3)
    ∧ (let u := (running.setFld (clsfPage 7) CLSF_CLSF_CFG_REFUSED 0).setFld (clsfPage 7) CLSF_TMPL_CMD_INDEX 63
     templateRefused ((u.winGet (clsfPage 7) 0x108 16).map fun w => wMask w 0x3FFFF) = false)
    ∧ (let u := (running.setFld (metrPage 7) METR_METR_CFG_REFUSED 0).setFld (metrPage 7) METR_MTR_CMD_INDEX 32767
     u.fld (metrPage 7) METR_MTR_CIR_RATE = 0 ∧ u.fld (metrPage 7) METR_MTR_EIR_RATE = 0)
    ∧ ((State.reset.setMeter (meterKey 7 32767) { dfltMeter with mode := 0x200 }).meter (meterKey 7 32767)).en = true :=
  ⟨⟨takes_host _ _ (by decide +kernel) (by decide +kernel) (by decide +kernel), takes_host _ _ (by decide +kernel) (by decide +kernel) (by decide +kernel),
    takes_host _ _ (by decide +kernel) (by decide +kernel) (by decide +kernel)⟩, by decide +kernel⟩

/-- As `holding`, with firmware let write no table, and with table 3 opened to it. -/
theorem witness_TableWindowCommandsComplete :
    (TakesTurn running .host tblsPage 0x400 ∧ Quiet running ∧ running.flag tblsPage (TBLS_TBL_CMD_BUSY.sh (tblWin false)) = false
      ∧ running.tables.waiting.length ≠ 3071)
    ∧ (TakesTurn holding (.fw 1 3) tblsPage 0x480 ∧ Quiet holding ∧ holding.flag tblsPage (TBLS_TBL_CMD_BUSY.sh (tblWin true)) = false
      ∧ holding.bitOf tblsPage TBLS_FW_TABLE_EN_WRITE_EN 15 = false) :=
  ⟨⟨takes_host _ _ (by decide +kernel) (by decide +kernel) (by decide +kernel), by decide +kernel⟩,
   ⟨⟨⟨admits_fw 3 _ _ (by decide +kernel) (by decide +kernel), by decide +kernel⟩, by decide +kernel⟩, by decide +kernel⟩⟩
theorem witness_table_reads :
    ((running.tblAt .host 0 1023).tblRead 2 0 1023 ((running.tblAt .host 0 1023).tblData false)).2.isSome = true
    ∧ (running.tblAt .host 15 0).tblRead 2 15 0 ((running.tblAt .host 15 0).tblData false) = (3, none)
    ∧ (running.tblAt .host 3 524287).tblRead 5 3 524287 ((running.tblAt .host 3 524287).tblData false) = (0, some [])
    ∧ (running.tblAt .host 6 0).tblRead 4 6 0 ((running.tblAt .host 6 0).tblData false) = (1, none) := by decide +kernel
/-- One route of length 0: every address matches it. -/
theorem witness_route_match :
    (let s := running.onTables fun t => { t with master := { t.master with lenFilter := 1, route := [((running.routeBuckets 0 0).1 * 4, some { prefix_ := 0, len := 0, nextType := 0, next := 5 })] } }
     ((s.tblAt .host 6 0).tblRead 4 6 0 ((s.tblAt .host 6 0).tblData false)).2.isSome = true) := by decide +kernel

/-- Reset, with these requests waiting at the sequencer. -/
def waitingSt (r : SeqReq) : State := State.reset.onTables fun t => { t with waiting := [(0, 0, r)] }
/-- What is left of it once that request is taken. -/
def takenSt (r : SeqReq) : State := ((waitingSt r).onTables fun t => { t with waiting := t.waiting.erase (0, 0, r) }).syncSeq
/-- Copy 7 has an update that every other copy has not applied yet, or that it is the last to apply. -/
def copySt (last : Bool) (u : Update) : State :=
  State.reset.onTables fun t => { t with copyQueue := (List.replicate 8 (if last then [] else [u])).set 7 [u] }
def noUpdate : Update := { writes := [], note := none, window := none, filter := none }
def someMac : MacEntry := { addr := 5, bd := 16383, dest := 0, destType := 0, static := false, stale := false }
theorem witness_TableSequencerComplete :
    (let s := State.reset.onTables fun t => { t with requests := (List.replicate 8 []).set 7 [.seed 0 0] }
     s.tables.requests.getD 7 [] = .seed 0 0 :: [] ∧ s.tables.waiting.length < 4096)
    ∧ (let s := State.reset.onTables fun t => { t with
         requests := (List.replicate 8 []).set 7 [.learn 7 16383 5 1023 true], waiting := List.replicate 4096 (0, 0, .seed 0 0) }
     Quiet s ∧ s.tables.requests.getD 7 [] = .learn 7 16383 5 1023 true :: [] ∧ 4096 ≤ s.tables.waiting.length)
    ∧ (∀ r ∈ [SeqReq.window true 1 0 1023 [], .window false 1 0 1024 [], .learn 7 16383 5 1023 false, .mask 65535 7 none, .seed 1 0, .linkGroup 4095 []],
      (waitingSt r).reloading = false ∧ nextReq (waitingSt r).tables.waiting = some (0, 0, r))
    ∧ ((takenSt (.window true 1 0 1023 [])).acceptWindow 1 0 1023 []).writes ≠ []
    ∧ (((takenSt (.window false 1 0 1024 [])).acceptWindow 1 0 1024 []).writes = []
      ∧ ((takenSt (.window false 1 0 1024 [])).acceptWindow 1 0 1024 []).note = none)
    ∧ ((takenSt (.learn 7 16383 5 1023 false)).acceptLearn 16383 5 1023 false).fail = false
    ∧ (let u := (takenSt (.learn 7 16383 5 1023 false)).onTables fun t => { t with master := { t.master with mac := (List.range 4).map (fun i => (((takenSt (.learn 7 16383 5 1023 false)).macBuckets 16383 5).1 * 4 + i, some { addr := 6, bd := 0, dest := 0, destType := 0, static := true, stale := false })) ++ (List.range 4).map fun i => (((takenSt (.learn 7 16383 5 1023 false)).macBuckets 16383 5).2 * 4 + i, some { addr := 6, bd := 0, dest := 0, destType := 0, static := true, stale := false }) } }
      (u.acceptLearn 16383 5 1023 false).fail = true)
    ∧ ((takenSt (.seed 1 0)).fld tblsPage TBLS_MAC_COUNT_ENTRIES = 0 ∧ (takenSt (.seed 1 0)).tables.master.route = [])
    ∧ (let s := (waitingSt (.seed 1 0)).macCount 1
       let u := (s.onTables fun t => { t with waiting := t.waiting.erase (0, 0, .seed 1 0) }).syncSeq
       nextReq s.tables.waiting = some (0, 0, .seed 1 0) ∧ u.fld tblsPage TBLS_MAC_COUNT_ENTRIES ≠ 0) := by decide +kernel
theorem witness_copies :
    ((copySt false noUpdate).reloading = false ∧ (copySt false noUpdate).tables.copyQueue.getD 7 [] = noUpdate :: [] ∧ noUpdate.filter = none
      ∧ 0 ∈ List.range 8 ∧ (0 : Nat) ≠ 7 ∧ 0 + 1 ≤ ((copySt false noUpdate).tables.copyQueue.getD 0 []).length)
    ∧ (∀ u ∈ [{ noUpdate with note := some [] }, { noUpdate with window := some 0 }, { noUpdate with window := some 1 }],
      (copySt true u).reloading = false ∧ (copySt true u).tables.copyQueue.getD 7 [] = u :: [] ∧ u.filter = none
        ∧ ∀ k ∈ List.range 8, k = 7 ∨ ((copySt true u).tables.copyQueue.getD k []).length < 0 + 1)
    ∧ (let s := (State.reset.setFld tblsPage TBLS_AGE_CFG_AGE_PERIOD 5).onTables fun t => { t with
         sweep := 524287, master := { t.master with mac := [(524287, some someMac)], bd := [(16383, [4, 0, 0])] } }
     s.fld tblsPage TBLS_AGE_CFG_AGE_PERIOD ≠ 0 ∧ s.tables.master.macAt s.tables.sweep = some someMac ∧ someMac.static = false
      ∧ s.tables.master.bdF someMac.bd 0 2 1 ≠ 0
      ∧ onceIn (s.fld tblsPage TBLS_AGE_CFG_AGE_PERIOD * nsPerSec) (s.tables.sweptAt.map (· * 524288)) (s.now * 524288) = true)
    ∧ (let s := (State.reset.setFld tblsPage TBLS_MEMBER_CFG_MEMBER_TIMEOUT 0).onTables fun t => { t with members := [(7 * (65536 * 128) + 127, some 0)] }
     s.tables.members = [(7 * (65536 * 128) + 127, some 0)] ∧ (7 * (65536 * 128) + 127) / (65536 * 128) = 7 ∧ mget none s.tables.memberSec 7 ≠ some s.dtSec
      ∧ mget none (s.onTables fun t => { t with memberSec := mset none t.memberSec 7 (some s.dtSec) }).tables.memberSec 7 = some s.dtSec
      ∧ s.fld tblsPage TBLS_MEMBER_CFG_MEMBER_TIMEOUT ≤ (s.dtSec % 65536 + 65536 - 0) % 65536)
    ∧ (let f : Flush := { fw := true, oneBd := true, bd := 16383, oneDest := false, dest := 0, destType := 0, removed := 1 }
       let s := State.reset.onTables fun t => { t with flushes := [f] }
     s.tables.flushes = f :: [] ∧ s.flushOver f = true) := by decide +kernel

/-- Group 31 in state `st`, one member (port 255, mode 4) with its lanes UP or not. -/
def groupSt (st : Nat) : State :=
  let s := State.reset.setFld (flxePage 31) FLXE_GRP_STATUS_STATE st
  let s := (s.setFld (flxePage 31) FLXE_GRP_CFG_EN 1).setFld (flxePage 31) (FLXE_MEMBER_EN.sh 0) 1
  { s with now := 100000000 }
/-- An overhead frame with a good or a bad CRC. -/
def ohOf (good : Bool) : OhFrame :=
  { crcGood := good, groupNum := 0, phyMap := [], phyNum := 0, cr := true, ca := false, calInUse := false, rpf := false, lastOfMultiframe := false
    entries := [], smc := none }
theorem witness_FlexeCommandsComplete :
    (∀ st ∈ [2, 3, 4], (groupSt st).groupState 31 = st ∧ ((groupSt st).flexe 31).entered + 8000000 ≤ (groupSt st).now)
    ∧ (let s := (State.reset.setFld (flxePage 31) FLXE_GRP_STATUS_STATE 2)
     s.groupState 31 = 2 ∧ s.membersUp 31 = true)
    ∧ (let s := (State.reset.setFld (flxePage 31) FLXE_GRP_STATUS_STATE 3)
     s.groupState 31 = 3 ∧ s.mapGood 31 = true ∧ s.membersUp 31 = true)
    ∧ (let s := ((groupSt 3).setFld (flxePage 31) FLXE_GRP_CFG_GROUP_NUM 5)
     s.groupState 31 = 3 ∧ s.mapGood 31 = false)
    ∧ (let s := (State.reset.setFld (flxePage 31) FLXE_GRP_STATUS_STATE 4)
     s.groupState 31 = 4 ∧ (s.setFld (flxePage 31) FLXE_SKEW_SKEW_NS 10000).membersUp 31 = true)
    ∧ ((groupSt 2).flag (flxePage 31) FLXE_GRP_CFG_EN = true ∧ (groupSt 2).flag (flxePage 31) (FLXE_MEMBER_EN.sh (4 * 0)) = true
      ∧ 2 ≤ (groupSt 2).groupState 31 ∧ 0 < ((groupSt 2).flexe 31).bad.length ∧ 0 < ((groupSt 2).flexe 31).lastOh.length ∧ (ohOf false).crcGood = false ∧ (ohOf true).crcGood = true
      ∧ (ohOf true).rpf = false ∧ (groupSt 2).flag (flxePage 31) FLXE_GRP_STATUS_CAL_RX = (ohOf true).calInUse)
    ∧ (running.pageDark (flxePage 31) = false ∧ Quiet running
      ∧ (running.setFlag (flxePage 31) FLXE_GRP_CFG_REFUSED false).flag (flxePage 31) FLXE_GRP_STATUS_SWITCH_PEND = false)
    ∧ (let s := State.reset.setFlexe 31 { dfltFlexe with switchDeadline := some 0 }
     (s.flexe 31).switchDeadline = some 0 ∧ 0 ≤ s.now ∧ (s.flexe 31).caSeen = false)
    ∧ (running.pageDark (flxePage 32) = false ∧ running.gathers .host (flxePage 32) = false
      ∧ (running.shadow.any fun e => e.1 / 4096 == flxePage 32) = false
      ∧ running.flag (flxePage 32) FLXEC_CL_CMD_BUSY = false) := by decide +kernel
/-- Group 31 with port 255 (its lanes UP in mode 4) as its one member. -/
def memberSt : State :=
  let s := (groupSt 5).setPortFld 255 OENG_PORT_MODE_MODE 4
  let s := (s.setFld (flxePage 31) (FLXE_MEMBER_PORT.sh 0) 255).setFld (flxePage 31) FLXE_GRP_CFG_PHY_TYPE 2
  s.setPitch 1020 { dfltPitch with state := 5, light := true }
theorem witness_oh_send :
    (let u := (memberSt.groupSync 31).ohCheck 31
     u.flag (flxePage 31) FLXE_GRP_CFG_EN = true ∧ (u.membersOn 31).filter (u.memberLocked 31) = [0]
      ∧ u.flag (flxePage 31) FLXE_GRP_STATUS_SWITCH_PEND = false ∧ u.flag (flxePage 31) FLXE_GRP_CFG_SMC_EN = false) := by decide +kernel
theorem witness_client_write :
    (let pg := flxePage 32
     let s := ((memberSt.setFld pg FLXEC_CL_DATA0_GROUP 31).setFld pg FLXEC_CL_DATA0_LPORT 1020).setFld pg FLXEC_CL_DATA0_WIRE_ID 1
     let s := s.setFld pg FLXEC_CL_DATA0_VALID 1
     let u := (s.setFld pg FLXEC_CL_CFG_REFUSED 0).setFld pg FLXEC_CL_CMD_INDEX 4095
     u.flag pg FLXEC_CL_DATA0_VALID = true ∧ u.clientBad 4095 (u.fld pg FLXEC_CL_DATA0_GROUP) (u.fld pg FLXEC_CL_DATA0_LPORT)
       (u.fld pg FLXEC_CL_DATA0_WIRE_ID) true = false) := by decide +kernel

/-- Logical port 1,020 UP in pack mode. -/
def packSt : State :=
  let s := (portAt 255 5).setFld (packPage 7) (PACK_LPORT_PACK_PACK_EN.sh (4 * qOf 1020)) 1
  s
/-- The header of an unfolded unit of 64 bytes. -/
def unitHead : List Byte := [0x80, 64, 0, crc8 [0x80, 64, 0]]
theorem witness_PackAndFoldCommandsComplete :
    (packSt.packOn 1020 = true ∧ packSt.rxOpen 1020 RxSrc.mac.code = true ∧ packSt.rxOf 1020 RxSrc.mac.code = none)
    ∧ (let s := memberSt.setFld (packPage 7) (PACK_LPORT_PACK_PACK_EN.sh (4 * qOf 1020)) 1
     let s := s.setClient 4095 { dfltClient with valid := true, lport := 1020, group := 31 }
     s.packOn 1020 = true ∧ s.rxOpen 1020 (RxSrc.client 4095).code = true ∧ s.rxOf 1020 (RxSrc.client 4095).code = none)
    ∧ (let unit := unitHead ++ List.replicate 64 0
     let len := byteAt (unit.take 4) 0 % 64 * 256 + byteAt (unit.take 4) 1
     4 ≤ (unit.take 4).length ∧ crc8 ((unit.take 4).take 3) = BitVec.ofNat 8 (byteAt (unit.take 4) 3) ∧ (byteAt (unit.take 4) 0).testBit 7 = true
      ∧ (byteAt (unit.take 4) 0).testBit 6 = false ∧ 64 ≤ len ∧ len ≤ 12288 ∧ len ≤ (unit.drop 4).length)
    ∧ (running.pageDark (packPage 7) = false ∧ running.gathers .host (packPage 7) = false
      ∧ (running.shadow.any fun e => e.1 / 4096 == packPage 7) = false ∧ Quiet running
      ∧ running.foldSt 7 3 PACK_FOLD_STATE_CLEANING ≠ 1 ∧ running.foldSt 7 3 PACK_FOLD_STATE_PROMOTING ≠ 1
      ∧ running.flag (packPage 7) (foldWin false PACK_FOLD_CMD_BUSY) = false)
    ∧ (let s := State.reset.setFold (foldKey 7 3) { dfltFold with commitDue := true, cleaning := some 5, promoting := some 5, restarting := true }
     Quiet s ∧ (s.fold (foldKey 7 3)).commitDue = true ∧ (s.fold (foldKey 7 3)).cleaning = some 5 ∧ (s.fold (foldKey 7 3)).promoting = some 5
      ∧ (s.fold (foldKey 7 3)).restarting = true) := by decide +kernel
/-- The fold window of slice 7 for table 3 and tag 65,535, loaded with a key of 12 bytes at generation `g`; one pending entry in the table. -/
def foldWinSt (tx : Bool) (g : Nat) : State :=
  let pg := packPage 7
  let s := (running.setFld pg PACK_FOLD_DATA6_LEN 12).setFld pg PACK_FOLD_DATA6_GEN g
  let s := s.setFold (foldKey 7 3) { dfltFold with tx := [{ key := List.replicate 12 1, tag := 65535, state := 1, gen := 1 }] }
  (((s.setFld pg PACK_PACK_CFG_REFUSED 0).setFld pg (foldWin false PACK_FOLD_CMD_INDEX) 65535).setFld pg
      (foldWin false PACK_FOLD_CMD_TABLE) 3).setFld pg (foldWin false PACK_FOLD_CMD_DIR) (if tx then 1 else 0)
theorem witness_fold_window :
    ((((foldWinSt true 1).fold (foldKey 7 3)).tx.find? fun e => e.tag == 65535).isSome = true
      ∧ (((foldWinSt true 1).fold (foldKey 7 3)).tx.find? fun e => e.tag == 65534) = none)
    ∧ (let u := foldWinSt true 1
     let w := u.foldWindow false 7
     12 ≤ w.2.1 ∧ w.2.1 ≤ 22 ∧ w.2.2.1 = (u.foldSt 7 3 PACK_FOLD_STATE_TX_ACTIVE + 1) % 256
      ∧ ((u.fold (foldKey 7 3)).tx.any fun e => e.key == w.1 && e.usable w.2.2.1) = false ∧ (u.fold (foldKey 7 3)).tx.length < foldTxSize)
    ∧ (let u := foldWinSt false 1
     let w := u.foldWindow false 7
     u.foldSt 7 3 PACK_FOLD_STATE_PROMOTING ≠ 1 ∧ w.2.2.1 = (u.foldSt 7 3 PACK_FOLD_STATE_RX_ACTIVE + 1) % 256)
    ∧ (let u := (foldWinSt true 1).setFold (foldKey 7 3) { dfltFold with tx := [{ key := List.replicate 12 0, tag := 65535, state := 1, gen := 1 }] }
     ((u.fold (foldKey 7 3)).tx.find? fun e => e.key == (u.foldWindow false 7).1 && e.state != 2)
      = some { key := List.replicate 12 0, tag := 65535, state := 1, gen := 1 }) := by decide +kernel

/-- The link of physical port 255 in state `st`. -/
def linkAt (st : Nat) (l : Link) : State := (State.reset.setLinkFld 255 FABR_LINK_STATE_STATE st).setLink 255 l
/-- A prefix with kind byte `k`, all else 0. -/
def pfxOf (k : Byte) : List Byte := [k, 0, 0, 0, 0, 0, 0, crc8 [k, 0, 0, 0, 0, 0, 0]]
/-- A fabric cell of class `k`. -/
def fabCellOf (k tag : Nat) : Cell := { (cellTo 0 0).cell with fabric := true, cls := k, firstTag := tag }
theorem leAt_mid (x y : List Byte) (n v : Nat) (h : x.length = n) (hv : v < 2 ^ 32) : leAt (x ++ (leBytes 4 v ++ y)) n 4 = v := by
  subst h; simp [leAt, slice, leBytes, leNat]; omega
theorem hello_bytes (x : List Byte) (h : x.length = 284) : ∃ b : List Byte, b.length = 288 ∧ leAt b 284 4 = (crc32c (b.take 284)).toNat := by
  refine ⟨x ++ (leBytes 4 (crc32c x).toNat ++ []), by simp [leBytes, h], ?_⟩
  rw [leAt_mid _ _ _ _ h (BitVec.isLt _), List.take_append_of_le_length (by omega), List.take_of_length_le (by omega)]
theorem cell_bytes (x y : List Byte) (h : x.length = 28) (k : y.length = 256) : ∃ b : List Byte, cellGood b = true := by
  refine ⟨x ++ (leBytes 4 (crc32c (x ++ y)).toNat ++ y), ?_⟩
  have e : (x ++ (leBytes 4 (crc32c (x ++ y)).toNat ++ y)).drop 32 = y := by
    rw [← List.append_assoc, List.drop_append_of_le_length (by simp [leBytes, h]), List.drop_of_length_le (by simp [leBytes, h]), List.nil_append]
  unfold cellGood
  rw [leAt_mid _ _ _ _ h (BitVec.isLt _), e, List.take_append_of_le_length (by omega), List.take_of_length_le (by omega)]
  simp [leBytes, h, k]
theorem witness_hello_bytes : ∃ b : List Byte, b.length = 288 ∧ leAt b 284 4 = (crc32c (b.take 284)).toNat := hello_bytes (List.replicate 284 0) List.length_replicate
theorem witness_cell_bytes : ∃ b : List Byte, cellGood b = true := cell_bytes (List.replicate 28 0) (List.replicate 256 0) List.length_replicate List.length_replicate
theorem witness_FabricCommandsComplete :
    ((linkAt 3 dfltLink).linkState 255 = 3 ∧ ((linkAt 3 dfltLink).link 255).hunt < 3 ∧ prefixGood [] = false ∧ prefixGood (pfxOf 0) = true ∧ (byteAt (pfxOf 0) 0).testBit 3 = false
      ∧ (byteAt (pfxOf 0) 0).testBit 2 = false ∧ Quiet (linkAt 3 dfltLink) ∧ prefixGood (pfxOf 8) = true ∧ (byteAt (pfxOf 8) 0).testBit 3 = true
      ∧ (byteAt (pfxOf 4) 0).testBit 2 = true ∧ dfltLink.lastNak ≠ some (leAt (pfxOf 4) 3 2 % 4096))
    ∧ (cellGood [] = false ∧ (0 : BitVec 12).toNat = dfltLink.expect ∧ ((linkAt 3 { dfltLink with due := some 0 }).link 255).due = some (0 : BitVec 12).toNat
      ∧ ((linkAt 3 dfltLink).link 255).due ≠ some (0 : BitVec 12).toNat)
    ∧ (let s := linkAt 3 { dfltLink with txq := [fabCellOf 7 511], credits := List.replicate 8 1 }
     let l := s.link 255
     l.latchDue = [] ∧ l.resend = [] ∧ l.helloDue = false ∧ l.retry.length < 2048 ∧ l.nextCell = some (fabCellOf 7 511))
    ∧ (1 ≤ (linkAt 1 dfltLink).linkState 255 ∧ (linkAt 1 dfltLink).linkState 255 ≤ 3 ∧ 1 ≤ (linkAt 4 dfltLink).linkState 255)
    ∧ (let s := { linkAt 3 { dfltLink with lastHello := some 0 } with now := 10 ^ 15 }
     Quiet s ∧ s.linkState 255 = 3 ∧ (s.link 255).helloAt + s.intervalUs * 1000 ≤ s.now ∧ (s.link 255).lastHello = some 0 ∧ 0 + s.deadNs ≤ s.now)
    ∧ (let s := { linkAt 2 { dfltLink with lastHello := some 0 } with now := 10 ^ 15 }
     Quiet s ∧ s.linkState 255 = 2 ∧ (s.link 255).lastHello = some 0 ∧ 0 + s.deadNs ≤ s.now)
    ∧ (∀ n < 2, let x : Retry := { lseq := 0, cell := fabCellOf 7 511, attempts := 3 + n, sentAt := 0 }
     let s := { linkAt 3 { dfltLink with retry := [x] } with now := 10 ^ 15 }
     s.linkState 255 = 3 ∧ (s.link 255).retry = x :: [] ∧ x.sentAt + s.linkFld 255 FABR_LINK_RETRY_RETRY_TIMER ≤ s.now
      ∧ (s.link 255).resend.contains x.lseq = false ∧ Quiet s ∧ (n = 1 → 4 ≤ x.attempts) ∧ (n = 0 → x.attempts < 4))
    ∧ (let s := linkAt 4 dfltLink
     s.linkState 255 = 4 ∧ (s.link 255).holddownEnd ≤ s.now) := by decide +kernel
theorem witness_fabric_streams :
    (let u := ((State.reset.setDeliver 7 [fabCellOf 7 511]).fabRetry 7).retryAll
     ((u.deliver 7).find? fun c => c.firstTag != noticeTag) = some (fabCellOf 7 511))
    ∧ ((((State.reset.setDeliver 7 [fabCellOf 7 0x1FE]).deliver 7).find? fun c => c.firstTag == noticeTag) = some (fabCellOf 7 0x1FE))
    ∧ (let h : TimedCell := { cell := fabCellOf 7 511, atNs := 0, plane := 0 }
     let st := { dfltFabStream with held := [h] }
     let s := { State.reset.setDstStream (fabKey 7 4095 7 255 7) (some st) with now := 10 ^ 15 }
     s.dstStream (fabKey 7 4095 7 255 7) = some st ∧ st.lowest = some h ∧ st.asm.decided = false ∧ st.e ≠ some h.cell.fseq
      ∧ h.atNs + s.fld (fabrPage 8) FABRM_RESEQ_EFF_EFF_TIMEOUT * 1000 ≤ s.now
      ∧ dfltFabStream.held = [] ∧ dfltFabStream.lastArrival + s.streamIdleNs ≤ s.now) := by decide +kernel
/-- Firmware may write groups. -/
def grpOpen : State := holding.setFld (fabrPage 8) FABRM_FW_FAB_EN_GROUP_WR 1
theorem witness_fabric_windows :
    (running.pageDark (fabrPage 7) = false ∧ Quiet running ∧ running.pageDark (fabrPage 8) = false ∧ running.gathers .host (fabrPage 8) = false
      ∧ (running.shadow.any fun e => e.1 / 4096 == fabrPage 8) = false
      ∧ running.flag (fabrPage 8) FABRM_GRP_CMD_BUSY = false ∧ running.flag (fabrPage 8) FABRM_NBR_CMD_BUSY = false)
    ∧ (let u := (running.setFld (fabrPage 8) FABRM_FD_CFG_REFUSED 0).setFld (fabrPage 8) FABRM_GRP_CMD_INDEX 4095
     (u.winGet (fabrPage 8) 0x104 8).foldl (fun n w => n + ones w) 0 ≤ 64 ∧ running.tables.waiting.length ≠ 3071)
    ∧ (let n : Neighbor := readHello []
     ((running.setLink 255 { dfltLink with nbr := some n }).link 255).nbr = some n)
    ∧ (grpOpen.pageDark (fabrPage 8) = false ∧ grpOpen.fwCause (fabrPage 8) 0x100 = 0 ∧ grpOpen.drives 1 = true ∧ grpOpen.isHolder 1 = true
      ∧ grpOpen.gathers (.fw 1 0) (fabrPage 8) = false ∧ grpOpen.flag (fabrPage 8) FABRM_FW_FAB_EN_GROUP_WR = true) := by decide +kernel

theorem witness_guard_admitted : Admits running .host (oengPage 63) 0xE00 ∧ Admits running .host (xbarPage 8) 0xE00 ∧ Admits running .host (deepPage 8) 0xE00
    ∧ Admits running .host (fabrPage 8) 0xE04 ∧ Admits running .host timePage 0xE00 ∧ Admits running .host svccPage 0xE00
    ∧ Admits running .host twinPage 0xE00 ∧ Admits running .host hostPage 0xE00 ∧ Admits running .host fltcPage 0xE00
    ∧ Admits running .debug fltcPage 0xE00 ∧ Admits running .host fltcPage 0xE04 ∧ Admits running .host nvstPage 0xE00 := by
  have h : ∀ page off, running.pageDark page = false → Admits running .host page off := fun p o e => admits_host p o e
  exact ⟨h _ _ (by decide +kernel), h _ _ (by decide +kernel), h _ _ (by decide +kernel), h _ _ (by decide +kernel), h _ _ (by decide +kernel),
    h _ _ (by decide +kernel), h _ _ (by decide +kernel), h _ _ (by decide +kernel), h _ _ (by decide +kernel),
    ⟨by decide +kernel, fun _ _ e => by cases e⟩, h _ _ (by decide +kernel), h _ _ (by decide +kernel)⟩
/-- `running` with lane 19 of engine 63 as given. -/
def laneSt (f : LaneSt → LaneSt) : State := running.onLane 63 19 f
theorem witness_guard_lanes :
    (let x := (laneSt fun y => { y with lstate := 4, latched := true }).letIn .host (oengPage 63) 0xE00 (19 + 0x20)
     (x.lane (laneKey 63 19)).lstate = 4 ∧ (x.lane (laneKey 63 19)).latched = true)
    ∧ (let x := (laneSt fun y => { y with pending := true }).letIn .host (oengPage 63) 0xE00 (19 + 0x40)
     (x.lane (laneKey 63 19)).pending = true)
    ∧ (let x := running.letIn .host (oengPage 63) 0xE00 (19 + 0x60)
     (x.lane (laneKey 63 19)).lstate ≠ 5 ∧ (x.lane (laneKey 63 19)).switching = none ∧ (x.lane (laneKey 63 19)).deferred = false) := by decide +kernel
theorem witness_guard_planes :
    ((running.letIn .host (xbarPage 8) 0xE00 (3 + 4)).planesUp ≠ [3])
    ∧ (((running.setBitOf (xbarPage 8) XBARM_XM_STATUS_PLANE_UP 3 false).letIn .host (xbarPage 8) 0xE00 (3 + 8)).planesUp.contains 3 = false)
    ∧ (let x := running.letIn .host (deepPage 8) 0xE00 (7 + 8)
     x.stackIn 7 = true ∧ (x.block (9 + 7)).resetting = false)
    ∧ (let x := (running.setStackSt 7 { dfltStack with out := true }).letIn .host (deepPage 8) 0xE00 (7 + 16)
     x.stackIn 7 = false ∧ (x.block (9 + 7)).resetting = false ∧ (x.block (9 + 7)).isolated = false) := by decide +kernel
theorem witness_guard_time_lease :
    (let x := running.letIn .host timePage 0xE00 1
     (x.ports.pitch.any fun e => e.2.state == 5) = false ∧ (x.trunk.links.any fun e => x.linkState e.1 == 3) = false)
    ∧ (let x := (running.onTwin fun t => { t with role := 1 }).letIn .host twinPage 0xE00 1
     x.svc.twin.role = 1 ∧ x.twinMode ≠ 2)
    ∧ (let x := ((running.onTwin fun t => { t with role := 1 }).setFld twinPage TWIN_TWIN_CFG_MODE 2).letIn .host twinPage 0xE00 1
     x.svc.twin.role = 1 ∧ x.twinMode = 2) := by decide +kernel
theorem witness_guard_resets :
    ((running.letIn .host fltcPage 0xE00 2).fatal = false ∧ (running.letIn .host fltcPage 0xE04 1).fatal = false)
    ∧ (let x := running.letIn .host fltcPage 0xE00 (3 + 8 * 51)
     (51 : Nat) ≤ 51 ∧ (51 : Fin 64) ≠ 49 ∧ (51 : Fin 64) ≠ 50 ∧ (x.block 51).resetting = false ∧ (x.block 51).isolated = false ∧ x.islandRuns 51 = true)
    ∧ (let x := running.letIn .host fltcPage 0xE00 (4 + 8 * 49)
     (x.block 49).resetting = false ∧ (x.block 49).isolated = false ∧ x.islandRuns 49 = true)
    ∧ (let x := (running.onBlock 50 fun b => { b with isolated := true }).letIn .debug fltcPage 0xE00 (5 + 8 * 50)
     (x.block 50).isolated = true)
    ∧ (let s := (running.onBoot fun b => { b with phase := 2, slot := 0 }).onNv fun v => { v with
       svnFloor := 0, slots := [{ NvSlot.empty with svn := 65535 }, NvSlot.empty] }
     let x := s.letIn .host nvstPage 0xE00 (65535#16).toNat
     x.sys.nv.svnFloor < (65535#16).toNat ∧ x.runningSlot = some 0 ∧ (65535#16).toNat ≤ (x.nvSlot 0).svn) := by decide +kernel

theorem witness_TimeBaseCommandsComplete :
    (Quiet running ∧ (0 : Island) ≠ 53 ∧ (0 : Island) ≠ 51 ∧ running.islandRuns 0 = true ∧ running.islandRuns 51 = true
      ∧ -32 ≤ signed 8 (32#8).toNat ∧ signed 8 (32#8).toNat ≤ 32 ∧ ¬(-32 ≤ signed 8 (33#8).toNat ∧ signed 8 (33#8).toNat ≤ 32)
      ∧ (running.setIsland 0 { running.island 0 with dtLock := true }).islandRuns 0 = true
      ∧ ((running.setIsland 0 { running.island 0 with dtLock := true }).island 0).dtLock = true
      ∧ ((running.setIsland 0 { running.island 0 with clkLock := true }).island 0).clkLock = true)
    ∧ (let s := ((State.reset.setFld timePage TIME_DT_CFG_SRC 3).setFlag timePage TIME_DT_STATUS_SRC_OK true).onTime fun t => { t with standby := false }
     Quiet s ∧ 2 ≤ s.fld timePage TIME_DT_CFG_SRC ∧ s.flag timePage TIME_DT_STATUS_SRC_OK = true ∧ s.time.standby = false ∧ s.dtSourceOk = false)
    ∧ (let s := (State.reset.setFld timePage TIME_DT_CFG_SRC 0).setFlag timePage TIME_DT_STATUS_SRC_OK false
     s.dtSourceOk = true ∧ s.flag timePage TIME_DT_STATUS_SRC_OK = false)
    ∧ (running.pageDark timePage = false) := by decide +kernel
/-- Time base 3 in state `st`, channel 0 active. -/
def tbSt (st : Nat) (b : TimeBase) : State := (running.setFld timePage (tbF 3 TIME_TB_STATUS_STATE) st).setTb 3 b
theorem witness_time_bases :
    (let u := (tbSt 2 { dfltTimeBase with lastStep := some 0 }).timeRefused false
     u.tbState 3 ≠ 0 ∧ (u.tb 3).lastStep = some 0 ∧ u.time.dt < 0 + 2000000 * 65536)
    ∧ (let u := (tbSt 2 dfltTimeBase).timeRefused false
     u.tbState 3 ≠ 0 ∧ (u.tb 3).lastStep = none ∧ u.activeCh 3 = 0 ∧ (u.servo 3 5).2 = false ∧ u.tbSwitching 3 = false)
    ∧ (let u := (((tbSt 2 dfltTimeBase).setFld timePage (tbF 3 TIME_TB_CFG_STEP_EN) 1).setFld timePage (tbF 3 TIME_TB_STEP_TH_STEP_TH) 0).timeRefused false
     u.activeCh 3 = 0 ∧ (u.servo 3 5).2 = true)
    ∧ (((tbSt 2 dfltTimeBase).setChOk 3 1 true).chOk 3 (1 - (tbSt 2 dfltTimeBase).activeCh 3) = true)
    ∧ (let s := { ((tbSt 2 { dfltTimeBase with lastAt := [some 0, some 0] }).setChOk 3 0 true).setFlag timePage (tbF 3 TIME_TB_CFG_AUTO_SW) false with time := { State.reset.time with
        dt := 10 ^ 20, tbs := [(3, { dfltTimeBase with lastAt := [some 0, some 0] })] } }
     let u := s.setChOk 3 0 false
     s.chOk 3 0 = true ∧ (s.tb 3).lastAt.getD 0 none = some 0
      ∧ 0 + s.fld timePage (tbF 3 TIME_TB_TIMEOUT_OFS_TIMEOUT) * 1000000 * 65536 ≤ s.time.dt
      ∧ 0 = u.activeCh 3 ∧ u.flag timePage (tbF 3 TIME_TB_CFG_AUTO_SW) = false ∧ u.tbState 3 = 2
      ∧ (1 : Nat) ≠ (s.setChOk 3 1 false).activeCh 3 ∧ (s.setChOk 3 1 true).chOk 3 1 = true)
    ∧ (let s := ((tbSt 2 dfltTimeBase).setChOk 3 1 true).setFlag timePage (tbF 3 TIME_TB_CFG_AUTO_SW) true
     let u := s.setChOk 3 0 false
     u.flag timePage (tbF 3 TIME_TB_CFG_AUTO_SW) = true ∧ u.chOk 3 (1 - 0) = true) := by decide +kernel

/-- `running` with the time pins' part as given. -/
def pinSt (f : TimeSt → TimeSt) : State := (running.onTime f).onPower fun p => { p with rails := true }
theorem witness_TimePinsAndLoomComplete :
    (let s := (pinSt id).setFlag timePage TIME_PPS_OUT_CFG_EN true
     Quiet s ∧ s.fatal = false ∧ s.flag timePage TIME_PPS_OUT_CFG_EN = true
      ∧ (s.flag timePage TIME_PPS_OUT_CFG_SQUELCH && s.noLock (s.fld timePage TIME_PPS_OUT_CFG_SRC)) = false ∧ s.ppsNs % nsPerSec < 2
      ∧ s.time.ppsLast ≠ some (s.ppsNs / nsPerSec))
    ∧ (let s := pinSt fun t => { t with ppsLevel := true }
     Quiet s ∧ s.time.ppsLevel = true ∧ s.time.ppsEnd ≤ s.now)
    ∧ (let s := (pinSt id).setFlag timePage TIME_PPS_IN_CFG_EN true
     let t := ((s.ptpNow : Int) - signed 32 (s.fld timePage TIME_PPS_IN_ADJ_ADJ) * 65536).toNat
     let u := (s.onTime fun x => { x with ppsInAt := some s.now }).lower timePage 14
     s.timeInDead = false ∧ s.flag timePage TIME_PPS_IN_CFG_EN = true
      ∧ (u.fifoPush 2 (u.stampRecord 0 1 (s.fld timePage TIME_PPS_IN_CFG_IN_TB) t false 0)).flag timePage TIME_PPS_IN_CFG_FEED_EN = false)
    ∧ (let s := ((pinSt id).setFlag timePage TIME_PPS_IN_CFG_EN true).setFlag timePage TIME_PPS_IN_CFG_FEED_EN true
     let t := ((s.ptpNow : Int) - signed 32 (s.fld timePage TIME_PPS_IN_ADJ_ADJ) * 65536).toNat
     let u := (s.onTime fun x => { x with ppsInAt := some s.now }).lower timePage 14
     (u.fifoPush 2 (u.stampRecord 0 1 (s.fld timePage TIME_PPS_IN_CFG_IN_TB) t false 0)).flag timePage TIME_PPS_IN_CFG_FEED_EN = true)
    ∧ (let s := { (pinSt fun t => { t with ppsInAt := some 0 }).setFlag timePage TIME_PPS_IN_CFG_EN true with now := 1100000000 }
     s.time.ppsInAt = some 0 ∧ s.flag timePage TIME_PPS_IN_CFG_EN = true ∧ 0 + 1100000000 ≤ s.now) := by decide +kernel
theorem witness_time_of_day :
    (running.pageDark timePage = false ∧ Quiet running ∧ running.time.todTx.length < 256)
    ∧ (let s := ((pinSt fun t => { t with todTx := [65], todDue := some 0 }).setFlag timePage TIME_TOD_CFG_EN true).setFlag timePage TIME_TOD_CFG_TX_SYNC false
     s.fatal = false ∧ s.flag timePage TIME_TOD_CFG_EN = true ∧ s.time.todTx ≠ [] ∧ s.flag timePage TIME_TOD_CFG_TX_SYNC = false
      ∧ s.time.todDue = some 0 ∧ 0 ≤ s.now)
    ∧ (let s := (pinSt id).setFlag timePage TIME_TOD_CFG_EN true
     Quiet s ∧ s.timeInDead = false ∧ s.flag timePage TIME_TOD_CFG_EN = true ∧ s.time.todRx.length < 256)
    ∧ (let s := (pinSt fun t => { t with todRx := List.replicate 256 0 }).setFlag timePage TIME_TOD_CFG_EN true
     s.timeInDead = false ∧ 256 ≤ s.time.todRx.length)
    ∧ (let s := holding.onTime fun t => { t with todRx := [65, 66] }
     Quiet s ∧ s.pageDark timePage = false ∧ s.time.todRx = 65 :: [66] ∧ s.drives 1 = true)
    ∧ (let s := State.reset.setGate 255 { dfltGate with wakeUntil := some (0, 1) }
     Quiet s ∧ (s.gate 255).wakeUntil = some (0, 1) ∧ 0 ≤ s.dtNs) := by decide +kernel
theorem witness_loom_period :
    (let y := State.reset.each [loomPage 18] fun s page => s.doPageApply page
     let l := y.loomOf 18
     ((List.range 8).filter fun a => loomKindOf 18 a == 1 && (l.waits.getD a none).isSome && y.loomSlots 18 a ≤ l.used.getD a 0) = []) := by decide +kernel
theorem witness_loom_slots :
    (let l := { dfltLoom 0 with layout := [1024] }
     let s := State.reset.setLoom 0 l
     s.loomOf 0 = l ∧ l.pos < 1024 ∧ l.holder l.pos = some 0
      ∧ ((fun a => (255#8).getLsbD a && decide (loomKindOf 0 a < 2) && !s.loomIdle 0) 0) = true)
    ∧ (let l := { dfltLoom 0 with layout := [] }
     let req := fun a => (255#8).getLsbD a && decide (loomKindOf 0 a < 2)
     let u := State.reset.setLoom 0 { l with pos := l.pos + 1, lfsr := lfsr32 l.lfsr, waits := waitOn l.waits req }
     State.reset.loomIdle 0 = false ∧ l.holder l.pos = none ∧ (u.lottery 0 l req).isSome = true
      ∧ u.lottery 0 l (fun a => (0#8).getLsbD a && decide (loomKindOf 0 a < 2)) = none)
    ∧ (let s := State.reset.setLoom 18 { dfltLoom 18 with layout := [0, 1024] }
     (s.loomOf 18).pos < 1024 ∧ (s.loomOf 18).used.getD 1 0 < ((s.loomSlot 18 255).loomOf 18).used.getD 1 0)
    ∧ (let s := running.onHost fun h => { h with debugOpen := true, rights := 4 }
     (s.loomOf 0).pos < 1024 ∧ s.host.debugOpen = true ∧ s.host.rights.testBit 2 = true ∧ (s.loomOf 0).emergUsed < s.loomSlots 0 7) := by decide +kernel

/-- Cluster 1 in role `r`, the lease as given. -/
def roleSt (r : Nat) (f : Lease → Lease) : State := (running.setRole 1 r).onLease f
theorem witness_ClusterFaultsAndLeaseComplete :
    (holding.drives 1 = true ∧ holding.role 1 ≠ 0 ∧ holding.role 1 ≠ 6 ∧ Quiet running ∧ (roleSt 1 id).role 1 = 1 ∧ (roleSt 2 id).role 1 = 2)
    ∧ (let y := (roleSt 4 fun l => { l with holder := some 1, epoch := 65535, expiry := 1 }).applyLeaseCfg
     y.drives 1 = true ∧ y.epochOk 1 (65535#16).toNat = true ∧ y.now < y.svc.lease.expiry ∧ y.role 1 = 4)
    ∧ (let s := { roleSt 3 fun l => { l with lastEnd := some 0, guardOpen := false } with now := 10 ^ 15 }
     s.drives 1 = true ∧ s.role 1 = 3 ∧ s.svc.lease.next = 0 ∧ s.fatal = false ∧ s.sys.boot.bivouac = false ∧ s.svc.lease.holder = none
      ∧ s.svc.lease.lastEnd = some 0 ∧ 0 + s.guardNs ≤ s.now ∧ s.svc.lease.guardOpen = false)
    ∧ (let s := roleSt 4 fun l => { l with holder := some 1, epoch := 65535 }
     let u := ((s.leaseEnd s.now s.now).setRole 1 3).onCluster 1 (fun x => { x with clockGated := true })
     s.epochOk 1 (65535#16).toNat = true ∧ s.drives 1 = true ∧ u.bestSlot = none)
    ∧ (let s := (roleSt 4 fun l => { l with holder := some 1, epoch := 65535 }).onSvc fun v => { v with
       slots := [{ Ckpt.empty with committed := true }, Ckpt.empty] }
     let u := ((s.leaseEnd s.now s.now).setRole 1 3).onCluster 1 (fun x => { x with clockGated := true })
     u.bestSlot = some 0)
    ∧ (let s := roleSt 4 fun l => { l with holder := some 1, epoch := 65535, lastEnd := some 0 }
     (s.setRole 1 5).svc.lease.lastEnd ≠ none ∧ ((roleSt 4 id).setRole 1 5).svc.lease.lastEnd = none)
    ∧ (let s := { roleSt 5 fun l => { l with holder := some 1, expiry := 5 } with now := 5 }
     s.svc.lease.holder = some 1 ∧ s.svc.lease.expiry ≤ s.now) := by decide +kernel
theorem witness_swaps :
    (let s := { (holding.onSvc fun v => { v with swapFrom := some 0 }).setFld svccPage SVCC_SWAP_CFG_PERIOD_H 1 with now := 10 ^ 15 }
     Quiet s ∧ s.svc.lease.holder = some 1 ∧ s.svc.swapFrom = some 0 ∧ s.fld svccPage SVCC_SWAP_CFG_PERIOD_H ≠ 0
      ∧ 0 + s.fld svccPage SVCC_SWAP_CFG_PERIOD_H * hourNs ≤ s.now ∧ s.svc.swapDueAt = none ∧ s.role (1 - 1) ≠ 3 ∧ (s.setRole 0 3).role (1 - 1) = 3)
    ∧ (let s := { holding.onSvc fun v => { v with swapDueAt := some 0 } with now := 10 ^ 16 }
     s.svc.swapDueAt = some 0 ∧ 0 + 60 * nsPerSec * s.fld svccPage SVCC_SWAP_CFG_WINDOW_MIN ≤ s.now)
    ∧ (pageOf hostPage = some (.host, 0) ∧ pageOf (loomPage 18) = some (.loom, 18)) := by decide +kernel

/-- `holding` with no slot lost. -/
def ckSt : State := (holding.setFld svccPage SVCC_CKPT_STATUS_SLOT_LOST 0).setFld svccPage SVCC_CKPT_STATUS_BUSY 0
theorem witness_CheckpointsComplete :
    (Quiet ckSt ∧ ckSt.drives 1 = true ∧ ckSt.isHolder 1 = true ∧ ckSt.fld svccPage SVCC_CKPT_STATUS_SLOT_LOST = 0
      ∧ ckSt.flag svccPage SVCC_CKPT_STATUS_BUSY = false ∧ (196607#18).toNat < 196608 ∧ (ckSt.cluster 1).marks.length < 57344)
    ∧ (let s := ckSt.onSvc fun v => { v with ckptBusy := some (1, Ckpt.empty) }
     let u := (((((s.onSvc fun v => { v with slots := v.slots.set 1 Ckpt.empty, ckptBusy := none, lastCommit := s.now }).setFld svccPage SVCC_CKPT_STATUS_SEQ Ckpt.empty.seq).setFld svccPage SVCC_CKPT_STATUS_SLOT 1).setFlag svccPage SVCC_CKPT_STATUS_VALID true).setFlag svccPage SVCC_CKPT_STATUS_BUSY false)
     s.svc.ckptBusy = some (1, Ckpt.empty) ∧ u.now < u.sys.nv.lastCkptCopy + 60 * nsPerSec * u.fld nvstPage NVST_NV_CFG_NV_CKPT_MIN
      ∧ ({ u with now := 10 ^ 16 } : State).sys.nv.lastCkptCopy + 60 * nsPerSec * ({ u with now := 10 ^ 16 } : State).fld nvstPage NVST_NV_CFG_NV_CKPT_MIN
        ≤ ({ u with now := 10 ^ 16 } : State).now)
    ∧ (let s := { ckSt with now := 10 ^ 16 }
     s.svc.lastCommit + 2000000 * s.fld svccPage SVCC_CKPT_CFG_PERIOD_MS ≤ s.now)
    ∧ (let s := ckSt.onSvc fun v => { v with restore := some 1 }
     s.svc.restore = some 1 ∧ s.svc.lease.holder = some 1)
    ∧ (let s := (ckSt.onSvc fun v => { v with ckptBusy := some (1, Ckpt.empty) }).onCluster 1 fun x => { x with marks := [196607] }
     let u := s.perfHit (clusterIsland 1) 0x05 1 (some 1) none none (some ((0x2FFFFFFF#36).toNat / 4096))
     (0x2FFFFFFF#36).toNat < 0x30000000 ∧ s.stackIn ((0x2FFFFFFF#36).toNat / 4096 % 8) = true ∧ u.svc.ckptBusy ≠ none
      ∧ (s.cluster 1).marks.contains ((0x2FFFFFFF#36).toNat / 4096) = true ∧ (s.cluster 1).touched.contains ((0x2FFFFFFF#36).toNat / 4096) = false
      ∧ (ckSt.perfHit (clusterIsland 1) 0x05 1 (some 1) none none (some ((0x2FFFFFFF#36).toNat / 4096))).svc.ckptBusy = none) := by decide +kernel

/-- Twin mode `m`, supplied, the twin's part as given. -/
def twinSt (m : Nat) (f : Twin → Twin) : State :=
  ((holding.setFld twinPage TWIN_TWIN_CFG_MODE m).onTwin f).onPower fun p => { p with vsb := true, vin := true, rails := true }
/-- A twin frame of type `n`. -/
def twinBytes (n : Byte) : List Byte :=
  let b := zeros 8 ++ [n] ++ zeros 19
  b ++ leBytes 4 (crc32c b).toNat
theorem witness_twin_frames :
    ((twinSt 1 id).twinMode = 1 ∧ twinGood [0] = false ∧ (∀ n ∈ ([0, 1, 2, 3] : List Byte), twinGood (twinBytes n) = true ∧ byteAt (twinBytes n) 8 = n.toNat))
    ∧ ((twinSt 1 id).twinQuiet = false ∧ (twinSt 1 fun t => { t with role := 1 }).svc.twin.role = 1 ∧ (twinSt 1 fun t => { t with role := 2 }).svc.twin.role ≠ 1) := by
  decide +kernel
theorem witness_TwinCommandsComplete :
    (let s := twinSt 1 fun t => { t with role := 1 }
     Quiet s ∧ s.fatal = false ∧ s.sys.power.vsb = true ∧ s.sys.power.rails = true ∧ s.sys.boot.bivouac = false ∧ s.twinMode = 1
      ∧ s.svc.twin.role = 1 ∧ s.leaseHeld = true ∧ s.twinQuiet = false
      ∧ onceIn 1000000 s.svc.twin.statusAt s.now = true ∧ onceIn (1000000 * s.fld twinPage TWIN_TWIN_TIMING_RENEW_MS) s.svc.twin.renewAt s.now = true ∧ s.twinMode ≠ 2 ∧ s.svc.twin.expiry ≤ s.now)
    ∧ (let s := (twinSt 2 fun t => { t with role := 1 }).onLease fun l => { l with holder := none }
     s.svc.twin.role = 1 ∧ s.twinMode = 2 ∧ s.leaseRecent = false)
    ∧ (let s := { twinSt 1 fun t => { t with role := 2, linkUp := true } with now := 10 ^ 12 }
     s.twinMode = 1 ∧ s.svc.twin.role = 2 ∧ s.svc.twin.record + s.twinGuardNs ≤ s.now ∧ s.leaseHeld = true ∧ s.twinQuiet = false
      ∧ s.svc.twin.linkUp = true ∧ s.svc.twin.lastFrame + 3000000 ≤ s.now)
    ∧ (let s := (twinSt 1 fun t => { t with role := 3, listenEnd := 0 }).setFld twinPage TWIN_TWIN_CFG_PRIO 0
     Quiet s ∧ s.svc.twin.role = 3 ∧ s.svc.twin.listenEnd ≤ s.now ∧ s.svc.twin.holdOut = false ∧ s.twinQuiet = false ∧ s.twinMode = 1
      ∧ s.twinPrio = 0 ∧ s.svc.twin.listens = 0)
    ∧ (let s := { twinSt 2 fun t => { t with role := 3, listenEnd := 0, listens := 1, holdIn := false, holdLowSince := some 0 } with now := 10 ^ 12 }
     s.svc.twin.role = 3 ∧ s.svc.twin.listenEnd ≤ s.now ∧ s.twinMode = 2 ∧ s.svc.twin.listens ≠ 0 ∧ s.holdMay = true)
    ∧ ((twinSt 1 fun t => { t with releaseEnd := some 0 }).svc.twin.releaseEnd = some 0)
    ∧ (let s := twinSt 2 fun t => { t with role := 3, holdIn := true, holdOut := true, holdSampleAt := none, holdReleaseAt := none }
     let u := s.onTwin fun t => { t with holdIn := false, holdLowSince := if false then none else some s.now }
     s.svc.twin.holdIn ≠ false ∧ u.twinMode = 2 ∧ s.svc.twin.holdOut = true ∧ s.svc.twin.role = 3 ∧ s.svc.twin.holdSampleAt = none
      ∧ s.svc.twin.holdReleaseAt = none ∧ (s.onTwin fun t => { t with holdIn := false }).svc.twin.holdIn ≠ true)
    ∧ (let s := (twinSt 2 fun t => { t with holdSampleAt := some 0, holdReleaseAt := some 0, holdIn := true }).setFld twinPage TWIN_TWIN_CFG_PRIO 0
     let u := s.onTwin fun t => { t with holdSampleAt := none }
     s.svc.twin.holdSampleAt = some 0 ∧ u.svc.twin.holdIn = true ∧ u.twinPrio = 0 ∧ s.svc.twin.holdReleaseAt = some 0 ∧ 0 ≤ s.now
      ∧ (u.onTwin fun t => { t with holdIn := false }).svc.twin.holdIn = false) := by decide +kernel

/-- A descriptor of core pair 3: the buffer of handle 0x0100_0000, all 256 bytes of it, to logical port 1023, class 7. -/
def injW : Word := 0
def injSt : State := (((holding.setBuf (bufKey 0 0) { holder := some 3, gen := 1, transit := false }).setClWord 1 3 0x120 0x01000000).setClWord 1 3
  0x124 0x1FFF0100).setClWord 1 3 0x128 0
theorem witness_ServiceCommandsComplete :
    (let u := injSt.setClWord 1 3 0x12C injW
     let d := readInj 3 (u.injBytes 1 3 injW)
     injSt.drives 1 = true ∧ injSt.isHolder 1 = true ∧ d.mode < 2 ∧ d.colour ≠ 3 ∧ u.holds 3 d.handle = true ∧ d.size = poolSize (hPool d.handle)
      ∧ d.lport = 1023 ∧ d.cls = 7
      ∧ u.fld svccPage SVCC_INJ_LIMIT_PORT_RATE ≠ 0 ∧ (u.injQ (4 * 1 + 3)).length < 64 ∧ 64 ≤ ((u.setInjQ 7 (List.replicate 64 d)).injQ (4 * 1 + 3)).length
      ∧ u.holds 2 d.handle = false)
    ∧ (let d := readInj 3 ((injSt.setClWord 1 3 0x12C injW).injBytes 1 3 injW)
     let s := { holding.setInjQ 7 [d] with now := 10 ^ 9 }
     let b := (s.portBucket (physOf d.lport)).credit s.now (s.fld svccPage SVCC_INJ_LIMIT_PORT_RATE) 65536
     let c := s.svc.devBucket.credit s.now (s.fld svccPage SVCC_INJ_LIMIT_DEV_RATE) 262144
     let z := s.onSvc fun v => { v with devBucket := { tok := -5000000000, res := 0, last := s.now } }
     s.svc.lease.holder = some 1 ∧ s.injQ (4 * 1 + 3) = d :: [] ∧ 0 < b.tok ∧ 0 < c.tok
      ∧ (z.svc.devBucket.credit z.now (z.fld svccPage SVCC_INJ_LIMIT_DEV_RATE) 262144).tok ≤ 0 ∧ d.throttled = false)
    ∧ ((running.sys.due = [] ∧ 1 ≤ (12288#14).toNat ∧ (12288#14).toNat ≤ 12288 ∧ poolFor 12288 = 3 ∧ running.lowestFree 3 < poolCount 3)
      ∧ running.fld poolPage (POOL_QUOTA_HELD.sh (quotaF 15 3)) < (running.setFld poolPage (POOL_QUOTA_QUOTA.sh (quotaF 15 3)) 1).fld poolPage
        (POOL_QUOTA_QUOTA.sh (quotaF 15 3))
      ∧ holding.fld poolPage (POOL_QUOTA_HELD.sh (quotaF 3 0)) < holding.fld poolPage (POOL_QUOTA_QUOTA.sh (quotaF 3 0)))
    ∧ ((injSt.buf (bufKey (hPool 0x01000000) (hIdx 0x01000000))).holder = some 3 ∧ (injSt.buf (bufKey (hPool 0x01000000) (hIdx 0x01000000))).gen = hGen 0x01000000
      ∧ 0x01000000 / 2 ^ 17 % 128 = 0) := by decide +kernel
theorem witness_pool_access : TakesTurn running .host poolPage 0x100 ∧ Admits holding (.fw 1 3) poolPage 0x180 :=
  ⟨takes_host _ _ (by decide +kernel) (by decide +kernel) (by decide +kernel), admits_fw _ _ _ (by decide +kernel) (by decide +kernel)⟩
/-- A punted frame of 64 bytes waits for ring 15, which is routed to the lease holder. -/
def puntOf : Punt := Punt.mk 15 (Frame.mk (List.replicate 64 0) 0 0 0 0 0 0 0 false 0 false none false false false) 0 0
def puntSt : State := (holding.setBitOf svccPage SVCC_PUNT_ROUTE_TO_CLUSTER 15 true).setPunts (puntKey 7 15) [puntOf]
theorem witness_punts_and_messages :
    (let u := ((puntSt.setPunts (puntKey 7 15) []).puntRelease 7 puntOf).retryAll
     ((List.range 16).find? fun r => puntSt.puntRouted r && !(puntSt.punts (puntKey 7 r)).isEmpty) = some 15 ∧ puntSt.punts (puntKey 7 15) = [puntOf]
      ∧ u.leaseHeld = true ∧ u.svc.puntQ.length < 1024 ∧ (u.poolAlloc 4 puntOf.f.bytes.length).2 = (0, mkHandle 0 0 1)
      ∧ (u.onLease fun l => { l with holder := none }).leaseHeld = false)
    ∧ (Quiet holding ∧ holding.drives 1 = true ∧ holding.isHolder 1 = true ∧ holding.svc.toFw.length < 256 ∧ holding.svc.fwReaders = [] ∧ running.svc.fwReaders = [] ∧ running.svc.toFw.length < 256
      ∧ (holding.onSvc fun v => { v with fwReaders := [(1, 3)] }).svc.fwReaders = (1, 3) :: [] ∧ holding.svc.toHost.length < 256 ∧ holding.svc.toFw = []
      ∧ (holding.onSvc fun v => { v with toFw := [5] }).svc.toFw = 5 :: [] ∧ holding.pageDark svccPage = false ∧ holding.svc.toHostGap = false
      ∧ (holding.onSvc fun v => { v with toHostGap := true }).svc.toHostGap = true ∧ (holding.onSvc fun v => { v with toHost := [5] }).svc.toHost = 5 :: []
      ∧ holding.svc.toHost = []) := by decide +kernel
theorem witness_message_access : Admits running .host svccPage 0x110 := admits_host _ _ (by decide +kernel)

theorem witness_RegisterWritesComplete :
    (let x := running.taken .host hostPage 0x80 0x40
     pageOf hostPage = some (.host, 0) ∧ accessError hostPage 0x80 = 0 ∧ (rowOf .host 0x80).map (·.kind) = some .cfg ∧ wmOf (regA hostPage 0x80) ≠ 0
      ∧ (x.checkWrite (regA hostPage 0x80) 0x40).isNone = true ∧ x.gathers .host hostPage = false
      ∧ ((running.taken .host fltcPage 0x80 0).checkWrite (regA fltcPage 0x80) 0).isSome = true)
    ∧ (let x := (running.setFlag hostPage HDR_HOLD true).taken .host hostPage 0x80 0x40
     (x.checkWrite (regA hostPage 0x80) 0x40).isNone = true ∧ x.gathers .host hostPage = true ∧ (x.held hostPage).length < 256
      ∧ 256 ≤ ((x.setHeld hostPage (List.replicate 256 ⟨0, 0⟩)).held hostPage).length)
    ∧ ((accessError tblsPage 0x400 = 0 ∧ (rowOf .tbls 0x400).map (·.kind) = some .now ∧ accessError hostPage 0x44 = 0)
      ∧ (accessError fltcPage 0xE00 = 0 ∧ (rowOf .fltc 0xE00).map (·.kind) = some .wg ∧ running.guardOf fltcPage = none ∧ accessError fltcPage 0xF00 = 0
      ∧ (running.setGuard fltcPage (some ⟨0xE00, 1, 64⟩)).guardOf fltcPage = some ⟨0xE00, 1, 64⟩ ∧ running.now ≤ 64
      ∧ (0xFFFFFFFE : Word) = ~~~ (1 : Word)))
    ∧ (pageOf tblsPage = some (.tbls, 0) ∧ accessError tblsPage 8 = 0 ∧ running.pageDark tblsPage = false
      ∧ (({ running with shadow := [(regA tblsPage 0x98, 5)] } : State).shadow.filter fun e => decide (e.1 / 4096 = tblsPage) && running.applyReady e.1).isEmpty = false
      ∧ (running.shadow.filter fun e => decide (e.1 / 4096 = tblsPage) && running.applyReady e.1).isEmpty = true)
    ∧ (let s := holding.setFlag timePage TIME_FW_TIME_EN_TS_WR true
     let u := mergeWord (fwMask timePage 0x400) ((s.accessHit (.fw 1 3) 2 timePage).rdShadow (regA timePage 0x400)) 0xFFFFFF
     (pageOf timePage).map (·.1) = some .time ∧ timePage ≠ svccPage ∧ timePage ≠ poolPage ∧ accessError timePage 0x400 = 0
      ∧ (rowOf .time 0x400).map (·.kind) = some .cfg ∧ wmOf (regA timePage 0x400) ≠ 0 ∧ s.drives 1 = true ∧ s.isHolder 1 = true ∧ s.fwCause timePage 0x400 = 0
      ∧ s.pageDark timePage = false ∧ ((s.taken (.fw 1 3) timePage 0x400 0xFFFFFF).checkWrite (regA timePage 0x400) u).isNone = true) := by decide +kernel
theorem witness_register_access : Admits running .host hostPage 0x80 ∧ Admits running .host fltcPage 0xE00 ∧ Admits running .host fltcPage 0xF00
    ∧ Admits running .host tblsPage 0x400 ∧ Admits running .host hostPage 0x44 ∧ Admits running .host 9 0x10 :=
  ⟨admits_host _ _ (by decide +kernel), admits_host _ _ (by decide +kernel), admits_host _ _ (by decide +kernel), admits_host _ _ (by decide +kernel),
    admits_host _ _ (by decide +kernel), admits_host _ _ (by decide +kernel)⟩

theorem witness_EventAndErrorCommandsComplete :
    (pageOf (slcePage 7) = some (.slce, 7) ∧ PageTy.slce.sources.testBit 0 = true ∧ PageTy.slce.sources.testBit 1 = true ∧ running.srcHeld (slcePage 7) = false
      ∧ (running.ef 5).isNone = true ∧ (((running.setEf 5 (some (efOf true))).ef 5).map fun e => sliceOf e.lport) = some 7
      ∧ pageOf (oengPage 31) = some (.oeng, 31) ∧ PageTy.oeng.sources.testBit 22 = true ∧ (running.setUcState 31 0).ucState 31 = 0)
    ∧ (pageOf hostPage = some (.host, 0) ∧ PageTy.host.sources.testBit 3 = true ∧ accessError hostPage 0x40 = 0
      ∧ (running.accessHit .host 2 hostPage).evtSeq hostPage 3 = (0#8).toNat ∧ (running.accessHit .host 2 hostPage).evtSeq hostPage 3 ≠ (255#8).toNat
      ∧ holding.drives 1 = true ∧ holding.isHolder 1 = true ∧ accessError 0x3FFF 0 ≠ 0)
    ∧ (accessError tblsPage 0x10 = 0 ∧ State.reset.pageDark tblsPage = true ∧ hdrHeld 0x10 = true ∧ hdrHeld 0x4F = true ∧ hdrHeld 0x80 = false
      ∧ accessError tblsPage 0x80 = 0)
    ∧ (accessError hostPage 0xA0 = 0 ∧ running.pageDark hostPage = false ∧ isCtr hostPage 0xA0 = true ∧ isCtr tblsPage 0x98 = false ∧ accessError tblsPage 0x98 = 0
      ∧ running.pageDark tblsPage = false)
    ∧ (bar2Pool 0 512 = some 0 ∧ bar2Pool 67108863 1 = none) := by decide +kernel

/-- The link is up with bus master and MSI-X; ring `r` runs with `n` entries posted. -/
def linkSt (r n : Nat) : State :=
  (((running.onHost fun h => { h with linkUp := true, busMaster := true, msixEnable := true }).setRingFld r HOST_RING_CFG_EN 1).setRingFld r
    HOST_RING_CFG_RUNNING 1).setRingFld r HOST_HOST_IDX_INDEX n
/-- An inject descriptor of a frame of 64 bytes to logical port 1023; the same with COLOUR 3. -/
def ringDesc (colour : Byte) : List Byte := List.replicate 8 0 ++ [64, 0, 0xFF, 3, 0, 0, colour] ++ List.replicate 17 0
def ringPunt : Punt := Punt.mk 15 (Frame.mk (List.replicate 64 0) 0 0 0 0 0 0 0 false 0 false none false false false) 0 0
theorem witness_LinkAndRingCommandsComplete :
    ((running.onHost fun h => { h with perstLow := false }).host.perstLow = false ∧ (running.onHost fun h => { h with perstLow := false }).islandDark 52 = false ∧ (8 : Fin 16) = 8 ∧ 1 ≤ (5 : Fin 8).val ∧ (5 : Fin 8).val ≤ 5
      ∧ (linkSt 0 0).host.linkUp = true)
    ∧ (running.ringEn 36 = false ∧ (linkSt 15 0).ringEn 15 = true ∧ (linkSt 16 0).ringEn 16 = true)
    ∧ (let x := running.taken .host hostPage 0xB0C 0xFFFFFFFF
     x.gathers .host hostPage = false
      ∧ x.asWritten.hostIdxOk 36 ((x.asWritten.merge (regA hostPage 0xB0C) 0xFFFFFFFF).rd (regA hostPage 0xB0C)).toNat = true)
    ∧ (let x := (linkSt 0 0).taken .host hostPage 0x20C 0xFFFF
     x.gathers .host hostPage = false
      ∧ x.asWritten.hostIdxOk 0 ((x.asWritten.merge (regA hostPage 0x20C) 0xFFFF).rd (regA hostPage 0x20C)).toNat = false)
    ∧ (let s := linkSt 31 1
     let d := hostInj (ringDesc 0)
     s.pairGo 15 true = true ∧ d.mode < 2 ∧ d.colour ≠ 3 ∧ d.inj.free = none ∧ s.fld svccPage SVCC_INJ_LIMIT_PORT_RATE ≠ 0 ∧ d.lport = 1023 ∧ d.size = 64
      ∧ (hostInj (ringDesc 12)).colour = 3)
    ∧ (let s := (linkSt 15 1).setPunts (puntKey 7 15) [ringPunt]
     s.pairGo 15 false = true ∧ ((List.range 8).find? fun sl => !(s.punts (puntKey sl 15)).isEmpty) = some 7 ∧ s.punts (puntKey 7 15) = [ringPunt]
      ∧ leAt (List.replicate 8 0 ++ [0x00, 0x30]) 8 2 % 2 ^ 14 = 12288 ∧ leAt (List.replicate 10 0) 8 2 % 2 ^ 14 < 64)
    ∧ ((linkSt 31 0).ringRuns 31 = true)
    ∧ (let s := (linkSt 36 0).setFifo 4 { dfltFifo with items := [(false, [1])] }
     let t := (linkSt 36 0).setFifo 4 { dfltFifo with items := [(true, gapBody 0 1), (false, [1])] }
     ringFifo 36 = some (4, 6) ∧ (s.fifo 4).items = (false, [1]) :: [] ∧ s.ringFits 36 ((s.ringGap 36 ++ [[1]]).map entryLen) = true
      ∧ (t.fifo 4).items = (true, gapBody 0 1) :: (false, [1]) :: [] ∧ t.ringFits 36 ((t.ringGap 36 ++ [gapBody 0 1, [1]]).map entryLen) = true)
    ∧ (let s := { running.setRing 36 { dfltRing with firstAt := some 0, unsignalled := 1 } with now := 10 ^ 9 }
     (s.ring 36).firstAt = some 0 ∧ 0 + 1000 * s.ringFld 36 HOST_COAL_TIME ≤ s.now) := by decide +kernel
theorem witness_index_access : Admits running .host hostPage 0xB0C := admits_host _ _ (by decide +kernel)

/-- Debug sessions are allowed. -/
def dbgSt : State := running.setFlag hostPage HOST_DEBUG_CTL_DEBUG_ALLOW true
theorem witness_WindowPerformanceAndDebugComplete :
    (let x := fun (s : State) => s.accessHit .host 1 hostPage
     running.pageDark hostPage = false ∧ (x (running.setRingFld 32 HOST_RING_CFG_EN 1)).ringEn 32 = true ∧ (x running).ringEn 32 = false
      ∧ ((x running).fifo 0).items = [] ∧ ((x (running.setFifo 0 { dfltFifo with items := [(true, [1])] })).fifo 0).items = (true, [1]) :: [])
    ∧ (let s := { running.onHost fun h => { h with winWait := some 0 } with now := 2000 }
     s.host.winWait = some 0 ∧ 0 + 2000 ≤ s.now ∧ s.ringEn 32 = false ∧ (s.fifo 0).items = [])
    ∧ (running.frozen 53 = false ∧ (running.setFrozen 53 true).frozen 53 = true
      ∧ (running.setFlag (perfPage 53) PERF_PERF_CFG_DUMP_EN true).flag (perfPage 53) PERF_PERF_CFG_DUMP_EN = true ∧ running.islandDark 53 = false
      ∧ mget none running.host.dumpAt 53 = none)
    ∧ (let s := dbgSt.onHost fun h => { h with nonce := some [1] }
     s.host.nonce = some [1] ∧ s.debugAllowed = true ∧ s.host.lockout = none ∧ s.host.debugOpen = false)
    ∧ (let s := { dbgSt.onHost fun h => { h with debugOpen := true, rights := 3, lockout := some 5 } with now := 10 ^ 12 }
     s.host.debugOpen = true ∧ s.host.rights.testBit 1 = true ∧ s.host.rights.testBit 0 = true ∧ s.host.debugLast + 600 * nsPerSec ≤ s.now
      ∧ s.host.lockout = some 5 ∧ 5 ≤ s.now ∧ (dbgSt.onHost fun h => { h with debugOpen := true, rights := 3 }).host.debugLast = 0 ∧ dbgSt.now < 0 + 600 * nsPerSec)
    ∧ ((running.onPower fun p => { p with vsb := true, vin := true }).sys.power.vsb = true
      ∧ (running.onPower fun p => { p with vsb := true, vin := true }).sys.power.vin = true) := by decide +kernel
theorem witness_perf_access : Admits running .host (perfPage 53) 0x84 := admits_host _ _ (by decide +kernel)
theorem witness_challenge : ∃ n u, dbgSt.debugAllowed = true ∧ dbgSt.freshBytes 32 = (n, u) := ⟨_, _, by decide +kernel, rfl⟩

/-- Island 7's sensor reads `n`. -/
def hotSt (n : Nat) : State := running.onIsland 7 fun y => { y with temp := n }
/-- Island `t` resets; slot 0 holds a matrix with the one entry of stepping 0xC0 and versions 0. -/
def resettingSt (t : Nat) : State :=
  ((running.onBlock t fun b => { b with resetting := true, reload := none }).setNvSlot 0
    { NvSlot.empty with pages := [(1, [1, 0, 0, 0, 0xC0, 0, 255, 0, 0, 0, 0, 0, 0, 0, 0, 0])] })
theorem witness_FaultCommandsComplete :
    (let u := (((running.setFld fltcPage FLTC_RAIL_CAPTURE_PAGE fltcPage).setFld fltcPage FLTC_RAIL_CAPTURE_SOURCE 5).setFlag fltcPage
      FLTC_RAIL_CAPTURE_BROKEN true).setFlag fltcPage FLTC_RAIL_CAPTURE_VALID true
     (pageOf fltcPage).map (·.1) = some .fltc ∧ running.host.broken.contains (fltcPage, 5) = false ∧ u.evtSev fltcPage 5 = 3 ∧ u.evtSev fltcPage 0 ≠ 3 ∧ Quiet running)
    ∧ ((99#8).toNat < 105 ∧ (hotSt 99).allCool = true ∧ (100#8).toNat < 105 ∧ (hotSt 100).allCool = false
      ∧ 105 ≤ (105#8).toNat ∧ (114#8).toNat < 115 ∧ (hotSt 114).live fltcPage 3 = false ∧ (((hotSt 114).raiseLive fltcPage 3).alertSet 0).allCool = false)
    ∧ (let u := (hotSt 115).setEvtBit (evtLiveA fltcPage) 3 true
     let x := (((u.onSys fun y => { y with tripPersist := true, power := { y.power with thermTripLow := true } }).emit (.pin "THERM_TRIP_N" false)).alertSet
        1).raiseLive fltcPage 4
     115 ≤ (115#8).toNat ∧ u.live fltcPage 3 = true ∧ u.live fltcPage 4 = false ∧ x.allCool = false)
    ∧ (let a := ((hotSt 115).raiseLive fltcPage 3).alertSet 0
     let x := (((a.onSys fun y => { y with tripPersist := true, power := { y.power with thermTripLow := true } }).emit (.pin "THERM_TRIP_N" false)).alertSet
        1).raiseLive fltcPage 4
     (hotSt 115).live fltcPage 3 = false ∧ a.live fltcPage 4 = false ∧ x.allCool = false)
    ∧ (let s := resettingSt 48
     (s.block 48).resetting = true ∧ s.fatal = false ∧ (s.block 48).reload = none
      ∧ s.tested s.sys.boot.slot s.sys.boot.mwVersion (s.nvSlot s.sys.boot.slot).uc = true
      ∧ running.tested running.sys.boot.slot running.sys.boot.mwVersion (running.nvSlot running.sys.boot.slot).uc = false
      ∧ ((resettingSt 7).block 7).resetting = true ∧ ((resettingSt 8).block 8).resetting = true ∧ ((resettingSt 51).block 51).resetting = true
      ∧ ((resettingSt 50).block 50).resetting = true)
    ∧ (let s := running.onBlock 7 fun b => { b with reload := some 5, guyEnd := some 0 }
     (s.block 7).reload = some 5 ∧ s.reloadFrom 7 = some 0 ∧ (s.block 7).guyEnd = some 0 ∧ 0 ≤ s.now)
    ∧ ({ running.onPower fun p => { p with vsb := true } with now := 1000 }).sys.power.vsb = true
    ∧ ({ running with now := 1000 } : State).slowEdge = true := by decide +kernel

/-- A module at phase `n` of its start, with its supplies as given. -/
def bootSt (n : Nat) (vsb vin rails : Bool) : State :=
  (running.onPower fun p => { p with vsb := vsb, vin := vin, rails := rails, below6 := true, resetNLow := false }).onBoot fun b => { b with phase := n }
theorem witness_PowerUpCommandsComplete :
    ((bootSt 0 false false false).sys.power.vsb = false ∧ (bootSt 0 true false false).sys.power.vsb = true
      ∧ ((bootSt 0 true false false).onNv fun n => { n with mounted := false }).sys.nv.mounted = false)
    ∧ (let s := (bootSt 0 true false false).onNv fun n => { n with mounted := true }
     s.sys.power.vsb = true ∧ s.sys.power.vin = false ∧ s.sys.power.below6 = true ∧ s.sys.power.resetNLow = false ∧ s.sys.nv.mounted = true)
    ∧ (let s := bootSt 1 true true false
     s.sys.power.vin = true ∧ s.sys.power.rails = false ∧ s.sys.power.resetNLow = false ∧ s.sys.boot.phase = 1)
    ∧ (let s := (bootSt 1 true true true).setRst 52 1
     s.sys.power.rails = true ∧ s.sys.boot.phase = 1 ∧ (s.island 52).rst ≠ 0 ∧ s.sys.boot.warm = false ∧ s.sys.tripPersist = false
      ∧ (s.onSys fun y => { y with tripPersist := true }).sys.tripPersist = true)
    ∧ (let s := bootSt 1 true true true
     s.sys.power.rails = true ∧ s.sys.boot.phase = 1 ∧ s.fatal = false ∧ (s.island 52).rst = 0 ∧ s.sys.boot.bivNext = false
      ∧ (s.onBoot fun b => { b with bivNext := true }).sys.boot.bivNext = true ∧ s.sys.nv.calGood = true
      ∧ (s.onNv fun n => { n with calGood := false }).sys.nv.calGood = false ∧ s.chooseSlot.2 = none)
    ∧ (let s := bootSt 3 true true true
     let u := (s.each [0, 1] fun s c => if (s.block (clusterIsland c)).isolated then s else (s.setRst (clusterIsland c) 0).standbyReady c).doLeaseGuardEnd.doLeaseClaim 0
     s.sys.boot.phase = 3 ∧ s.fatal = false ∧ u.objectList = ([], 0) ∧ u.svc.lease.holder = some 0)
    ∧ (let s := { (bootSt 4 true true true).onBoot fun b => { b with trialEnd := some 5 } with now := 5 }
     s.sys.boot.trialEnd = some 5 ∧ 5 ≤ s.now) := by decide +kernel
/-- Ports that no mode uses do not start: the end of `coresReady` leaves a running module as it is. -/
def coresOut (s : State) : State :=
  (s.each (List.range 17) fun s i => if (s.block i).isolated then s else s.setRst i 0).each (List.range 8)
    fun s sl => if (s.block sl).isolated then s else s.setFlag (slcePage sl) SLCE_SLCE_STATUS_READY true
theorem each_same (f : State → Nat → State) (s : State) (l : List Nat) (h : ∀ n ∈ l, f s n = s) : s.each l f = s := by
  induction l with
  | nil => rfl
  | cons a l ih =>
    unfold State.each at ih ⊢
    rw [List.foldl, h a (by simp)]
    exact ih (fun n hn => h n (by simp [hn]))
theorem cores_of (s : State) (h : ∀ c : Fin 8, ∀ i : Fin 128, (coresOut s).inUse (128 * c + i) = false) : s.coresReady = coresOut s := by
  refine each_same _ _ _ (fun n hn => ?_)
  have hl : n < 1024 := List.mem_range.mp hn
  have := h ⟨n / 128, by omega⟩ ⟨n % 128, by omega⟩
  have e : 128 * (n / 128) + n % 128 = n := by omega
  dsimp only at this
  rw [e] at this
  show State.kick (coresOut s) n = coresOut s
  unfold State.kick; rw [this]; rfl
/-- The module after its microcode was loaded, without an NV checkpoint and with one of the running Maelwick. -/
def bootReadySt (c : Bool) : State :=
  ((bootSt 2 true true true).onNv fun n => { n with ckpt := [{ Ckpt.empty with committed := c }, Ckpt.empty] }).onBoot fun b => { b with phase := 3 }
theorem witness_selftest :
    ((bootSt 2 true true true).sys.boot.phase = 2 ∧ ((bootSt 2 true true true).island 17).rst = 0 ∧ (((bootSt 2 true true true).setRst 17 1).island 17).rst ≠ 0)
    ∧ (bootReadySt false).coresReady.nvBest.committed = false
    ∧ (bootReadySt true).coresReady.nvBest.committed = true ∧ (bootReadySt true).coresReady.nvBest.mwVersion = (bootReadySt true).coresReady.sys.boot.mwVersion := by
  rw [cores_of (bootReadySt false) (by decide +kernel), cores_of (bootReadySt true) (by decide +kernel)]
  decide +kernel

/-- The store is mounted, no window command runs; slot 1 is in state `st`. -/
def nvSt (st : Nat) : State :=
  (running.onNv fun n => { n with mounted := true, powerFail := false, cmds := [] }).setNvSlot 1 { NvSlot.empty with state := st }
/-- Host requester 5 holds a buffer of pool 3, and the two handle registers name it. -/
def bufSt (s : State) : State :=
  (((s.setBuf (bufKey 3 0) { holder := some 5, gen := 1, transit := false }).setFld nvstPage NVST_UPD_HANDLE_HANDLE 0x01000003).setFld nvstPage
    NVST_OBJ_HANDLE_HANDLE 0x01000003).setFld nvstPage NVST_OBJ_LEN_LENGTH 12288
theorem witness_store_windows :
    (let s := bufSt (nvSt 1)
     Quiet s ∧ (s.sys.nv.cmds.any fun d => d.obj == false) = false ∧ (s.sys.nv.cmds.any fun d => d.obj == true) = false ∧ s.sys.nv.powerFail = false ∧ s.sys.nv.mounted = true ∧ s.flag nvstPage NVST_UPD_CMD_BUSY = false
      ∧ s.runningSlot ≠ some 1 ∧ s.trialOpen = false ∧ (s.nvSlot 1).state = 1 ∧ (0xFFFF : BitVec 16) ≠ 0
      ∧ ((s.nvSlot 1).pages.any fun e => e.1 == (0xFFFF : BitVec 16).toNat) = false ∧ s.hostBuf (s.fld nvstPage NVST_UPD_HANDLE_HANDLE) = true
      ∧ 2 ≤ hPool (s.fld nvstPage NVST_UPD_HANDLE_HANDLE) ∧ s.pageDark nvstPage = false ∧ s.gathers .host nvstPage = false
      ∧ (s.shadow.any fun e => e.1 / 4096 == nvstPage) = false)
    ∧ (let s := (nvSt 2).onBoot fun b => { b with phase := 4, slot := 1 }
     s.runningSlot = some 1 ∧ (s.nvSlot 1).state = 2 ∧ ((nvSt 4).nvSlot 1).state = 4)
    ∧ (let s := (bufSt (nvSt 0)).setFld nvstPage NVST_OBJ_ID_ID 0xFFFFFFFD
     idGood s.objId = true ∧ s.hostBuf s.objHandle = true ∧ s.fld nvstPage NVST_OBJ_LEN_LENGTH ≤ poolSize (hPool s.objHandle)
      ∧ s.flag nvstPage NVST_OBJ_CMD_BUSY = false ∧ (s.setFld nvstPage NVST_OBJ_ID_ID 0xFFFFFFFE).objId = 0xFFFFFFFE) := by decide +kernel
theorem witness_store_access (w : State) (h : w.pageDark nvstPage = false) (g : w.gathers .host nvstPage = false)
    (k : (w.shadow.any fun e => e.1 / 4096 == nvstPage) = false) : TakesTurn w .host nvstPage 0x100 ∧ TakesTurn w .host nvstPage 0x110 :=
  ⟨⟨⟨⟨h, fun _ _ e => by cases e⟩, g⟩, k⟩, ⟨⟨⟨h, fun _ _ e => by cases e⟩, g⟩, k⟩⟩
theorem witness_StoreCommandsComplete :
    (let s := (nvSt 1).onNv fun n => { n with cmds := [updCmd 6 1 0 []], objs := [(7, some { seq := 0, body := [1], deleted := false })], journal := [[]] }
     s.sys.nv.cmds = updCmd 6 1 0 [] :: [] ∧ (updCmd 6 1 0 []).obj = false ∧ (objCmd 1 7 0 0 []).obj = true ∧ 1024 ≤ s.sys.nv.spare
      ∧ (s.onNv fun n => { n with spare := 1023 }).sys.nv.spare < 1024 ∧ (mget none s.sys.nv.objs 7).isSome = true ∧ mget none s.sys.nv.objs 8 = none
      ∧ (s.journalPage 0).isSome = true)
    ∧ (let s := running.onBoot fun b => { b with bivouac := true, diag := none }
     s.sys.boot.bivouac = true ∧ (50 : Fin 64).val ≤ 50 ∧ s.sys.boot.diag = none ∧ (s.onBoot fun b => { b with diag := some 50 }).sys.boot.diag = some 50
      ∧ Quiet s ∧ s.pageDark nvstPage = false)
    ∧ (running.onNv fun n => { n with ckptCopy := some (0, Ckpt.empty) }).sys.nv.ckptCopy = some (0, Ckpt.empty)
    ∧ (let s := (nvSt 0).onNv fun n => { n with openPage := [[1]] }
     s.sys.nv.openPage ≠ [] ∧ ({ s with now := 10 ^ 12 } : State).sys.nv.openAt + nsPerSec ≤ ({ s with now := 10 ^ 12 } : State).now
      ∧ s.sys.nv.journal.length < 65536
      ∧ 126 ≤ (s.onNv fun n => { n with openPage := List.replicate 126 [1] }).sys.nv.openPage.length)
    ∧ (((nvSt 0).onNv fun n => { n with spare := 1024 }).onNv fun x => { x with spare := 1023 }).sys.nv.spare < 1024 := by decide +kernel
theorem witness_journal_full : 65536 ≤ ((nvSt 0).onNv fun n => { n with journal := List.replicate 65536 [] }).sys.nv.journal.length := by
  show 65536 ≤ (List.replicate 65536 ([] : List (List Byte))).length
  exact Nat.le_of_eq List.length_replicate.symm

/-- Supplies as given; ALERT_STATUS holds bits 7 and 0. -/
def supplySt (vsb vin : Bool) : State :=
  running.onPower fun p => { p with vsb := vsb, vin := vin, rails := vin, below6 := false, resetNLow := false, alert := 0x81 }
theorem witness_SupplyAndBoardCommandsComplete :
    (let s := supplySt true true
     Quiet s ∧ s.sys.power.vsb = true ∧ s.sys.power.resetNLow = false ∧ s.sys.power.rails = true ∧ s.sys.power.vin = true ∧ onceIn 1000000 s.sys.power.readAt s.now = true ∧ s.sys.power.alert ≠ 0
      ∧ (BitVec.ofNat 8 s.sys.power.alert &&& ~~~ (0x80 : Byte)).toNat ≠ 0 ∧ (BitVec.ofNat 8 s.sys.power.alert &&& ~~~ (0xFF : Byte)).toNat = 0
      ∧ (s.onPower fun p => { p with resetNLow := true }).sys.power.resetNLow = true ∧ (0xC1 : Byte) ≠ 0xC0)
    ∧ (let s := supplySt true false
     s.sys.power.vin = false ∧ s.sys.power.below6 = false ∧ Quiet s ∧ s.sys.power.vsb = true ∧ onceIn 1000000 s.sys.power.readAt s.now = true) := by decide +kernel

theorem witness_step : ∃ (c : Instr) (r : List Instr), ({ State.reset with pending := [.dbgClose, .tapReset] } : State).pending = c :: r :=
  ⟨_, _, rfl⟩

theorem witness_idle : State.reset.pending = [] ∧ State.reset.time.standby = true := by decide

theorem witness_queue : ∃ t, step { State.reset with pending := [.tapReset, .dbgClose] } = .next t ∧ t.pending = [.dbgClose] :=
  ⟨_, rfl, rfl⟩

theorem witness_memform : State.reset.memWf ∧ ∃ t, step State.reset = .next t := ⟨⟨rfl, rfl⟩, _, rfl⟩

theorem witness_holds : (∀ p, (State.reset.held p).length ≤ 256) ∧ ∃ t, step State.reset = .next t := ⟨fun _ => Nat.zero_le _, _, rfl⟩

theorem witness_pool : State.reset.fifoTotal ≤ 16384 ∧ ∃ t, step State.reset = .next t := ⟨by decide, _, rfl⟩

theorem witness_fuses : ∃ t, run 1 { State.reset with pending := [.dbgClose] } = some t := ⟨_, rfl⟩

theorem witness_grow : (∃ t, run 1 { State.reset with pending := [.dbgClose] } = some t)
    ∧ (∃ t, step State.reset = .next t) ∧ (∃ t, step { State.reset with pending := [.dbgClose] } = .next t) :=
  ⟨⟨_, rfl⟩, ⟨_, rfl⟩, _, rfl⟩

theorem witness_ClearNeedsThePresentNumber :
    (pageOf hostPage = some (.host, 0) ∧ accessError hostPage 0x40 = 0 ∧ Quiet running
      ∧ running.evtSeq hostPage 3 = (0#8).toNat ∧ running.evtSeq hostPage 3 ≠ (255#8).toNat)
    ∧ (running.srcHeld hostPage = false ∧ running.host.broken.contains (hostPage, 3) = false ∧ Quiet (running.raise hostPage 3)
      ∧ (0#8).toNat = running.evtSeq hostPage 3 ∧ (running.raise hostPage 3).sticky hostPage 3 = true)
    ∧ (running.raiseLive hostPage 4).live hostPage 4 = true ∧ Calm [(svccPage, 12)] running ∧ Calm [(svccPage, 12)] holding
      ∧ holding.drives 1 = true ∧ holding.isHolder 1 = true := by decide +kernel

/-- HOST source 3 disabled, or with severity 2 or 3, or both. -/
def evtAt (en sev : Nat) : State :=
  (running.wr (regA hostPage 0x44) (BitVec.ofNat 32 en)).wr (regA hostPage 0x48) (putBits (running.rd (regA hostPage 0x48)) 4 2 sev)
theorem witness_DisabledEventLeavesNoRecord : pageOf hostPage = some (.host, 0) ∧ PageTy.host.sources.testBit 2 = true
    ∧ (∀ v : Fin 4, Quiet (evtAt 0 v) ∧ (evtAt 0 v).srcHeld hostPage = false ∧ (evtAt 0 v).host.broken.contains (hostPage, 2) = false
      ∧ (evtAt 0 v).guyMasked hostPage 2 0 = false ∧ (evtAt 0 v).evtEnabled hostPage 2 = false ∧ (evtAt 0 v).evtSev hostPage 2 = v.val) := by
  decide +kernel

/-- The same with HOST source 2 already asserted, and a fatal state. -/
def fatalNow : State := (evtAt 0xFFFFFFFF 3).setFlag fltcPage FLTC_FATAL_STATE_FATAL true
/-- Slice 0 is in its guy window: XBAR source 5 of slice 1 is masked. -/
def guyNow : State := running.setBlock 0 { dfltBlock with guy := true }
theorem witness_ContainEveryFatalFirst :
    (pageOf hostPage = some (.host, 0) ∧ PageTy.host.sources.testBit 2 = true)
    ∧ (∀ v : Fin 4, 2 ≤ v.val → Quiet (evtAt 0xFFFFFFFF v) ∧ (evtAt 0xFFFFFFFF v).srcHeld hostPage = false
      ∧ (evtAt 0xFFFFFFFF v).host.broken.contains (hostPage, 2) = false ∧ (evtAt 0xFFFFFFFF v).evtSev hostPage 3 ≤ 1
      ∧ (evtAt 0xFFFFFFFF v).guyMasked hostPage 2 0 = false ∧ (evtAt 0xFFFFFFFF v).evtSev hostPage 2 = v.val
      ∧ (evtAt 0xFFFFFFFF v).sticky hostPage 2 = false ∧ (evtAt 0xFFFFFFFF v).fatal = false)
    ∧ (((evtAt 0xFFFFFFFF 2).setEvtBit (evtStickyA hostPage) 2 true).sticky hostPage 2 = true ∧ fatalNow.fatal = true
      ∧ fatalNow.evtSev hostPage 2 = 3)
    ∧ (pageOf (xbarPage 1) = some (.xbarS, 1) ∧ PageTy.xbarS.sources.testBit 5 = true ∧ guyNow.guyMasked (xbarPage 1) 5 0 = true ∧ Quiet guyNow
      ∧ guyNow.srcHeld (xbarPage 1) = false) := by
  decide +kernel

/-- SVCC source 2 with severity 2 and without EVT_ENABLE; its target, SCA, in block state `b`. -/
def svccEvt (b : Block) : State :=
  ((running.wr (regA svccPage 0x44) 0).wr (regA svccPage 0x48) (putBits (running.rd (regA svccPage 0x48)) 4 2 2)).setBlock 49 b
theorem witness_severity_writes :
    (∃ r, rowOf .host 0x48 = some r ∧ pageOf hostPage = some (.host, 0) ∧ accessError hostPage 0x48 = 0 ∧ Quiet running
      ∧ PageTy.host.sources.testBit (0 + 2) = true ∧ hasTarget hostPage (0 + 2) = false
      ∧ getBits ((0x20 : Word) &&& BitVec.ofNat 32 r.wm) (2 * 2) 2 = 2 ∧ (∀ n : Fin 16, getBits ((0 : Word) &&& BitVec.ofNat 32 r.wm) (2 * n.val) 2 ≠ 2))
    ∧ (∃ r, rowOf .fltc 0x48 = some r ∧ pageOf fltcPage = some (.fltc, 0) ∧ accessError fltcPage 0x48 = 0 ∧ PageTy.fltc.sources.testBit (0 + 5) = true
      ∧ getBits ((0 : Word) &&& BitVec.ofNat 32 r.wm) (2 * 5) 2 ≠ 3 ∧ getBits ((0xF00 : Word) &&& BitVec.ofNat 32 r.wm) (2 * 4) 2 = 3
      ∧ getBits ((0xF00 : Word) &&& BitVec.ofNat 32 r.wm) (2 * 5) 2 = 3)
    ∧ (∃ r, rowOf .port 0x4C = some r ∧ accessError (portPage 255) 0x4C = 0 ∧ pageOf (portPage 255) = some (.port, 255)) := by
  refine ⟨⟨_, rfl, ?_⟩, ⟨_, rfl, ?_⟩, ⟨_, rfl, ?_⟩⟩ <;> decide +kernel
theorem witness_SeverityWriteRefused :
    (Quiet (evtAt 0xFFFFFFFF 2) ∧ (evtAt 0xFFFFFFFF 2).evtSev hostPage 2 = 2
      ∧ ((evtAt 0xFFFFFFFF 2).raise hostPage 2).containTarget hostPage 2 = none)
    ∧ (pageOf svccPage = some (.svcc, 0) ∧ PageTy.svcc.sources.testBit 2 = true)
    ∧ (∀ b : Fin 2, let s := svccEvt { dfltBlock with isolated := b.val == 0, resetting := b.val == 1 }
      Quiet s ∧ s.srcHeld svccPage = false ∧ s.host.broken.contains (svccPage, 2) = false ∧ s.guyMasked svccPage 2 0 = false
        ∧ s.evtSev hostPage 3 ≤ 1 ∧ s.evtSev svccPage 2 = 2 ∧ (s.raise svccPage 2).containTarget svccPage 2 = some 49
        ∧ (((s.raise svccPage 2).block 49).resetting = true ∨ ((s.raise svccPage 2).block 49).isolated = true)) := by decide +kernel

theorem witness_CounterHighWordLatched :
    portPage 255 < 16384 ∧ 0x200 + 0x280 * 3 + 8 * 79 + 4 < 4096 ∧ Quiet running ∧ running.pageDark (portPage 255) = false ∧ running.pageDark (portPage 0) = false
    ∧ running.ctr (portPage 255) (0x200 + 0x280 * 3 + 8 * 79) < 2 ^ 48 := by decide +kernel

/-- Cluster 0 drives without the lease. -/
def standing : State := holding.setRole 0 4
theorem witness_FirmwareWithoutRightWritesNothing :
    (standing.drives 0 = true ∧ standing.isHolder 0 = false ∧ Quiet standing ∧ accessError tblsPage 0x80 = 0 ∧ accessError svccPage 0x104 = 0)
    ∧ (holding.drives 1 = true ∧ holding.isHolder 1 = true ∧ Calm [(svccPage, 12)] holding ∧ holding.fwCause tblsPage 0x80 ≠ 0 ∧ accessError hostPage 0xE00 = 0
      ∧ holding.fwCause hostPage 0xE00 = 2) := by decide +kernel

theorem witness_EveryPortCommandCompletes : Admits running .host (oengPage (0 : Engine)) 0xE00 := admits_host _ _ (by decide +kernel)

theorem witness_EveryTableCommandCompletes :
    TakesTurn running .host (clsfPage (0 : Slice)) (if whoFw Who.host then 0x280 else 0x180)
    ∧ TakesTurn running .host (clsfPage (0 : Slice)) 0x100
    ∧ TakesTurn running .host (metrPage (0 : Slice)) 0x100
    ∧ TakesTurn running .host tblsPage (if whoFw Who.host then 0x480 else 0x400) :=
  ⟨takes_host _ _ (by decide +kernel) (by decide +kernel) (by decide +kernel), takes_host _ _ (by decide +kernel) (by decide +kernel) (by decide +kernel), takes_host _ _ (by decide +kernel) (by decide +kernel) (by decide +kernel), takes_host _ _ (by decide +kernel) (by decide +kernel) (by decide +kernel)⟩

theorem witness_EverySwitchCommandCompletes :
    Admits running .host (xbarPage 8) 0xE00
    ∧ Admits running .host (deepPage 8) 0xE00
    ∧ TakesTurn running .host (deepPage (0 : Slice)) 0x100
    ∧ (Reaches running .host (schdPage (0 : Slice)) 0x100 ∧ running.mustWait .schd (schdPage (0 : Slice)) (BitVec.ofNat 32 ((0 : Fin 32768) + 0x8000 * (0 : Fin 16) + 0x80000)) = false)
    ∧ (Reaches running .host (schdPage (0 : Slice)) 0x100 ∧ running.mustWait .schd (schdPage (0 : Slice)) (BitVec.ofNat 32 ((0 : Fin 32768) + 0x8000 * (0 : Fin 16) + 0x100000)) = false)
    ∧ (Reaches running .host (schdPage (0 : Slice)) 0x100 ∧ running.mustWait .schd (schdPage (0 : Slice)) (BitVec.ofNat 32 ((0 : Fin 32) + 0x1B0000)) = false)
    ∧ (Reaches running .host (schdPage (0 : Slice)) 0x100 ∧ running.mustWait .schd (schdPage (0 : Slice)) (BitVec.ofNat 32 ((0 : Fin 32768) + 0x1C8000)) = false) :=
  ⟨admits_host _ _ (by decide +kernel), admits_host _ _ (by decide +kernel), takes_host _ _ (by decide +kernel) (by decide +kernel) (by decide +kernel), ⟨reaches_host _ _ (by decide +kernel) (by decide +kernel), by decide +kernel⟩, ⟨reaches_host _ _ (by decide +kernel) (by decide +kernel), by decide +kernel⟩, ⟨reaches_host _ _ (by decide +kernel) (by decide +kernel), by decide +kernel⟩, ⟨reaches_host _ _ (by decide +kernel) (by decide +kernel), by decide +kernel⟩⟩

theorem witness_EveryTrunkCommandCompletes :
    Admits running .host (fabrPage 8) 0xE04
    ∧ Admits running .host (flxePage (0 : Group)) 0x88
    ∧ Admits running .host (packPage (0 : Slice)) (0x304 + 16 * (0 : Fin 4).val)
    ∧ Admits running .host (packPage (0 : Slice)) 0x500
    ∧ Admits running .host (fabrPage (0 : Slice)) 0x84
    ∧ TakesTurn running .host (flxePage 32) 0x100
    ∧ TakesTurn running .host (packPage (0 : Slice)) (if whoFw Who.host then 0x480 else 0x400)
    ∧ TakesTurn running .host (fabrPage 8) 0x100
    ∧ TakesTurn running .host (fabrPage 8) 0x140 :=
  ⟨admits_host _ _ (by decide +kernel), admits_host _ _ (by decide +kernel), admits_host _ _ (by decide +kernel), admits_host _ _ (by decide +kernel), admits_host _ _ (by decide +kernel), takes_host _ _ (by decide +kernel) (by decide +kernel) (by decide +kernel), takes_host _ _ (by decide +kernel) (by decide +kernel) (by decide +kernel), takes_host _ _ (by decide +kernel) (by decide +kernel) (by decide +kernel), takes_host _ _ (by decide +kernel) (by decide +kernel) (by decide +kernel)⟩

theorem witness_EveryTimeCommandCompletes :
    Admits running .host timePage 0xE00
    ∧ Admits running .host timePage (0x230 + 0x80 * (0 : TB).val + 4 * (0 : Fin 2).val)
    ∧ Admits running .host timePage (0x240 + 0x80 * (0 : TB).val)
    ∧ Admits running .host timePage 0x114
    ∧ Admits running .host timePage 0xC00 :=
  ⟨admits_host _ _ (by decide +kernel), admits_host _ _ (by decide +kernel), admits_host _ _ (by decide +kernel), admits_host _ _ (by decide +kernel), admits_host _ _ (by decide +kernel)⟩

theorem witness_EveryServiceCommandCompletes :
    Admits running .host svccPage 0xE00
    ∧ Admits running .host twinPage 0xE00
    ∧ Admits running .host svccPage 0x110 :=
  ⟨admits_host _ _ (by decide +kernel), admits_host _ _ (by decide +kernel), admits_host _ _ (by decide +kernel)⟩

theorem witness_EveryHostCommandCompletes :
    Admits running .host hostPage 0xE00
    ∧ Admits running .host (perfPage (0 : Island)) 0x84 :=
  ⟨admits_host _ _ (by decide +kernel), admits_host _ _ (by decide +kernel)⟩

theorem witness_EverySystemCommandCompletes :
    Admits running .host fltcPage 0xE00
    ∧ Admits running .host fltcPage 0xE04
    ∧ Admits running .host nvstPage 0xE00
    ∧ Admits running .host nvstPage 0x130
    ∧ TakesTurn running .host nvstPage 0x100
    ∧ TakesTurn running .host nvstPage 0x110 :=
  ⟨admits_host _ _ (by decide +kernel), admits_host _ _ (by decide +kernel), admits_host _ _ (by decide +kernel), admits_host _ _ (by decide +kernel), takes_host _ _ (by decide +kernel) (by decide +kernel) (by decide +kernel), takes_host _ _ (by decide +kernel) (by decide +kernel) (by decide +kernel)⟩

end Sys2Proof.Tests
end

/-! SUPPORT. A register write, whoever makes it: from the command to the one branch of `State.regWrite` that takes it, and what each
branch does (R364, R387 to R389). -/

namespace Sys2Proof.Machine

/-! ### The commands over their operations -/

theorem exec_registerWrite (w : Who) (page : Fin 16384) (off : Fin 4096) (v : Word) (s : State) :
    exec (.registerWrite w page off v) s = .next (settle (s.doRegisterWrite w page off v)) := by rfl

theorem exec_guardValueWrite (w : Who) (page : Fin 16384) {off : Fin 4096} (v : Word) (s : State)
    (hlo : 0xE00 ≤ off.val) (hhi : off.val < 0xF00) :
    exec (.guardValueWrite w page off v) s = .next (settle (s.doRegisterWrite w page off v)) := by
  change Host.Outcome.next (settle (s.doGuardValueWrite w page off v)) = _
  simp [State.doGuardValueWrite, hlo, hhi]

theorem exec_guardComplementWrite (w : Who) (page : Fin 16384) {off : Fin 4096} (v : Word) (s : State) (hlo : 0xF00 ≤ off.val) :
    exec (.guardComplementWrite w page off v) s = .next (settle (s.doRegisterWrite w page off v)) := by
  change Host.Outcome.next (settle (s.doGuardComplementWrite w page off v)) = _
  simp [State.doGuardComplementWrite, hlo]

theorem exec_pageApply (page : Fin 16384) (s : State) :
    exec (.pageApply page) s = .next (settle (s.doPageApply page)) := by rfl

theorem exec_pageHoldSet (page : Fin 16384) (s : State) :
    exec (.pageHoldSet page) s = .next (settle (s.doRegisterWrite .host page 8 1)) := by rfl

theorem exec_pageHoldRelease (page : Fin 16384) (s : State) :
    exec (.pageHoldRelease page) s = .next (settle (s.doRegisterWrite .host page 8 0)) := by rfl

theorem exec_pageHoldDiscard (page : Fin 16384) (s : State) :
    exec (.pageHoldDiscard page) s = .next (settle (s.doRegisterWrite .host page 8 0x800)) := by rfl

theorem exec_guardLapse (page : Fin 16384) (s : State) :
    exec (.guardLapse page) s = .next (settle (s.doGuardLapse page)) := by rfl

/-! ### What counting leaves alone -/

/-- Reserved bits move a counter only. -/
theorem State.countReserved_eq (s : State) (page off : Nat) (v : Word) : ∃ k, s.countReserved page off v = s.withCtrs k := by
  unfold State.countReserved
  split
  · split
    · split
      · exact ⟨_, rfl⟩
      · exact ⟨s.ctrs, rfl⟩
    · exact ⟨s.ctrs, rfl⟩
  · exact ⟨s.ctrs, rfl⟩

@[simp] theorem State.rdShadow_countReserved (s : State) (page off : Nat) (v : Word) (a : Nat) :
    (s.countReserved page off v).rdShadow a = s.rdShadow a := by
  obtain ⟨k, hk⟩ := s.countReserved_eq page off v
  rw [hk]
  rfl

/-! ### The write reaches its register -/

/-- A write by host or debug port that is let in reaches its register, after it was counted. -/
theorem State.doRegisterWrite_of_admits {s : State} {w : Who} {page off : Nat} {t : PageTy} {i : Nat} (hw : w = .host ∨ w = .debug)
    (ha : Admits s w page off) (hp : pageOf page = some (t, i)) (ht : t ≠ .msixTable) (hb : t ≠ .msixPba)
    (he : accessError page off = 0) (v : Word) :
    s.doRegisterWrite w page off v = (s.taken w page off v).regWrite w page off v := by
  rcases hw with rfl | rfl
  all_goals
    simp only [State.doRegisterWrite, he, ha.1, State.access_of_admits ha, ne_eq, not_true_eq_false, Bool.false_and,
      Bool.false_eq_true, if_false, hp]
    split
    · next htable => exact absurd (congrArg Prod.fst (Option.some.inj htable)) ht
    · next hpba => exact absurd (congrArg Prod.fst (Option.some.inj hpba)) hb
    · rfl

/-- A write by firmware that is let in reaches its register with the bits that firmware may change, after it was counted. -/
theorem State.doRegisterWrite_fw {s : State} {c : Cluster} {p : Pair} {page off : Nat} (ha : Admits s (.fw c p) page off)
    (hsvcc : page ≠ svccPage) (hpool : page ≠ poolPage) (he : accessError page off = 0) (v : Word) :
    s.doRegisterWrite (.fw c p) page off v = (s.taken (.fw c p) page off v).regWrite (.fw c p) page off
      (mergeWord (fwMask page off) ((s.accessHit (.fw c p) 2 page).rdShadow (regA page off)) v) := by
  simp [State.doRegisterWrite, he, State.access_of_admits ha, hsvcc, hpool, State.taken]

/-- A host write of an aligned word of the MSI-X table, which is page 9, changes the table. -/
theorem State.doRegisterWrite_msixTable {s : State} {off : Nat} (ha : Admits s .host 9 off) (hoff : off % 4 = 0) (v : Word) :
    s.doRegisterWrite .host 9 off v = (s.accessHit .host 2 9).msixWrite off v := by
  have hp : pageOf 9 = some (.msixTable, 0) := by rfl
  have he : accessError 9 off = 0 := by simp [accessError, hp, hoff]
  simp [State.doRegisterWrite, he, ha.1, State.access_of_admits ha, hp]

/-- Firmware is let in below the guarded registers only. -/
theorem Admits.off_lt {s : State} {c : Cluster} {p : Pair} {page off : Nat} (ha : Admits s (.fw c p) page off) : off < 0xE00 := by
  obtain ⟨-, -, hcause⟩ := ha.2 c p rfl
  refine Nat.lt_of_not_le fun hoff => ?_
  simp only [State.fwCause, hoff, if_true] at hcause
  exact absurd hcause (by decide)

/-! ### Which branch takes the write -/

section
variable {s : State} {w : Who} {page off : Nat} {v : Word} {t : PageTy} {i : Nat} (hp : pageOf page = some (t, i))
include hp

theorem State.regWrite_hold : s.regWrite w page 8 v = s.holdWrite page v := by
  simp [State.regWrite, hp]

theorem State.regWrite_hdr (hoff : off < 0x80) (h8 : off ≠ 8) : s.regWrite w page off v = s.hdrWrite page off v := by
  simp [State.regWrite, hp, hoff, h8]

theorem State.regWrite_complement (hoff : 0xF00 ≤ off) :
    s.regWrite w page off v = s.guardComplement w page (off - 0x100) v := by
  have h8 : off ≠ 8 := by omega
  have hhdr : ¬ off < 0x80 := by omega
  simp [State.regWrite, hp, h8, hhdr, hoff]

/-- Between the header and the complements, a register takes a write as its kind says. -/
theorem State.regWrite_row {r : RegRow} (hr : rowOf t off = some r) (hlo : 0x80 ≤ off) (hhi : off < 0xF00) :
    (r.kind = .cfg → s.regWrite w page off v = s.cfgWrite w page off v)
      ∧ (r.kind = .now → s.regWrite w page off v = s.nowWrite w t i page off v)
      ∧ (r.kind = .wg → s.regWrite w page off v = s.guardValue page off v) := by
  have h8 : off ≠ 8 := by omega
  have hhdr : ¬ off < 0x80 := by omega
  have hcompl : ¬ 0xF00 ≤ off := by omega
  refine ⟨fun hk => ?cfg, fun hk => ?now, fun hk => ?wg⟩
  all_goals simp only [State.regWrite, hp, h8, hhdr, hcompl, if_false, hr, hk]

end

/-! ### What each branch does -/

section
variable {s : State} {w : Who} {page off : Nat} {v : Word}

theorem State.cfgWrite_shadow (hwm : wmOf (regA page off) ≠ 0) (hc : s.checkWrite (regA page off) v = none)
    (hg : s.gathers w page = false) :
    s.cfgWrite w page off v = (s.shadowPut (regA page off) v).markRefused page off false := by
  simp [State.cfgWrite, hwm, hc, hg]

theorem State.cfgWrite_held (hwm : wmOf (regA page off) ≠ 0) (hc : s.checkWrite (regA page off) v = none)
    (hg : s.gathers w page = true) (hroom : (s.held page).length < 256) :
    s.cfgWrite w page off v = ((s.setHeld page (s.held page ++ [⟨regA page off, v⟩])).setFld page HDR_HELD
      ((s.held page).length + 1)).markRefused page off false := by
  simp [State.cfgWrite, hwm, hc, hg, Nat.not_le.mpr hroom]

theorem State.cfgWrite_overflow (hwm : wmOf (regA page off) ≠ 0) (hc : s.checkWrite (regA page off) v = none)
    (hg : s.gathers w page = true) (hfull : 256 ≤ (s.held page).length) :
    s.cfgWrite w page off v = ((s.markRefused page off true).setFlag page HDR_OVERFLOW true).accessHit w 3 page := by
  simp [State.cfgWrite, hwm, hc, hg, hfull]

theorem State.cfgWrite_refused {b n : State} (hwm : wmOf (regA page off) ≠ 0) (hc : s.checkWrite (regA page off) v = some (b, n)) :
    s.cfgWrite w page off v = s.writeRefused w page off b n := by
  simp [State.cfgWrite, hwm, hc]

/-- A value with time left does not lapse. -/
theorem State.guardExpire_of_lt {g : Guard} {n : Nat} (hg : s.guardOf page = some g) (hn : n < g.deadline) :
    s.guardExpire page n = s := by
  simp [State.guardExpire, hg, Nat.not_le.mpr hn]

/-- A value whose time is over lapses. -/
theorem State.guardExpire_of_le {g : Guard} {n : Nat} (hg : s.guardOf page = some g) (hn : g.deadline ≤ n) :
    s.guardExpire page n = (s.setGuard page none).guardFailed page g.off 1 := by
  simp [State.guardExpire, hg, hn]

theorem State.guardValue_of_none (hg : s.guardOf page = none) :
    s.guardValue page off v = s.setGuard page (some { off := off, v := v, deadline := s.now + 64 }) := by
  simp [State.guardValue, State.guardExpire, hg]

theorem State.guardValue_of_pending {g : Guard} (hg : s.guardOf page = some g) (hnow : s.now < g.deadline) :
    s.guardValue page off v = (s.setGuard page none).guardFailed page g.off 4 := by
  simp only [State.guardValue, State.guardExpire_of_lt hg hnow, hg]

/-- The deadline itself is still in time for a complement (log 94), which passes the guard or fails it with cause 2 (R389). -/
theorem State.guardComplement_of_pending {g : Guard} (hg : s.guardOf page = some g) (hnow : s.now ≤ g.deadline)
    (hpos : 0 < g.deadline) :
    s.guardComplement w page g.off v =
      if v = ~~~ g.v then (s.setGuard page none).guardPassed w page g.off g.v else (s.setGuard page none).guardFailed page g.off 2 := by
  have hlive : s.now - 1 < g.deadline := by omega
  simp only [State.guardComplement, State.guardExpire_of_lt hg hlive, hg, ne_eq, not_true_eq_false, if_false]

end

/-! ### The answer of a write by host or debug port that is let in -/

section
variable {w : Who} {page : Fin 16384} {off : Fin 4096} {v : Word} {s : State} {t : PageTy} {i : Nat} {r : RegRow}
  (hw : w = .host ∨ w = .debug) (ha : Admits s w page off) (hp : pageOf page = some (t, i)) (ht : t ≠ .msixTable) (hb : t ≠ .msixPba)
  (he : accessError page off = 0)
include hw ha hp ht hb he

theorem exec_registerWrite_cfg (hr : rowOf t off = some r) (hk : r.kind = .cfg) (hlo : 0x80 ≤ off.val) (hhi : off.val < 0xF00) :
    exec (.registerWrite w page off v) s = .next (settle ((s.taken w page off v).cfgWrite w page off v)) := by
  rw [exec_registerWrite, State.doRegisterWrite_of_admits hw ha hp ht hb he, (State.regWrite_row hp hr hlo hhi).1 hk]

theorem exec_registerWrite_now (hr : rowOf t off = some r) (hk : r.kind = .now) (hlo : 0x80 ≤ off.val) (hhi : off.val < 0xF00) :
    exec (.registerWrite w page off v) s = .next (settle ((s.taken w page off v).nowWrite w t i page off v)) := by
  rw [exec_registerWrite, State.doRegisterWrite_of_admits hw ha hp ht hb he, (State.regWrite_row hp hr hlo hhi).2.1 hk]

theorem exec_registerWrite_hdr (hlt : off.val < 0x80) (h8 : off ≠ 8) :
    exec (.registerWrite w page off v) s = .next (settle ((s.taken w page off v).hdrWrite page off v)) := by
  rw [exec_registerWrite, State.doRegisterWrite_of_admits hw ha hp ht hb he,
    State.regWrite_hdr hp hlt fun h => h8 (Fin.ext h)]

theorem exec_guardValueWrite_wg (hr : rowOf t off = some r) (hk : r.kind = .wg) (hlo : 0xE00 ≤ off.val) (hhi : off.val < 0xF00) :
    exec (.guardValueWrite w page off v) s = .next (settle ((s.taken w page off v).guardValue page off v)) := by
  rw [exec_guardValueWrite w page v s hlo hhi, State.doRegisterWrite_of_admits hw ha hp ht hb he,
    (State.regWrite_row hp hr (by omega) hhi).2.2 hk]

theorem exec_guardComplementWrite_complement (hlo : 0xF00 ≤ off.val) :
    exec (.guardComplementWrite w page off v) s =
      .next (settle ((s.taken w page off v).guardComplement w page (off - 0x100) v)) := by
  rw [exec_guardComplementWrite w page v s hlo, State.doRegisterWrite_of_admits hw ha hp ht hb he, State.regWrite_complement hp hlo]

end

/-- PAGE_HOLD's register is in the header of every page, so a write of it by the host reaches `State.holdWrite`. -/
theorem State.doRegisterWrite_hold {s : State} {page : Nat} {t : PageTy} {i : Nat} (hd : s.pageDark page = false)
    (hp : pageOf page = some (t, i)) (ht : t ≠ .msixTable) (hb : t ≠ .msixPba) (he : accessError page 8 = 0) (v : Word) :
    s.doRegisterWrite .host page 8 v = (s.taken .host page 8 v).holdWrite page v := by
  have ha : Admits s .host page 8 := ⟨hd, by intro c p h; cases h⟩
  rw [State.doRegisterWrite_of_admits (.inl rfl) ha hp ht hb he, State.regWrite_hold hp]

/-- Settles O23: each command is taken to the one branch of `State.regWrite` that its register and its writer select, and the branch's
own lemma gives the answer. That a complement passes exactly 64 ns after its value is a corner of the guard (log 94); that window
commands run after the apply is log 112. -/
theorem registerWritesComplete : Obligations.RegisterWritesComplete := by
  unfold Obligations.RegisterWritesComplete
  refine ⟨?host, ?firmware, ?msixTable, ?apply, ?hold, ?lapse⟩
  case host =>
    rintro w page off v s x t i a r hw ha hp ht hb he rfl hr rfl
    refine ⟨fun hk hlo hhi hwm => ⟨fun hc => ⟨fun hg => ?shadow, fun hg hroom => ?held, fun hg hfull => ?overflow⟩,
        fun b n hc => ?refused⟩,
      fun hk hlo hhi => exec_registerWrite_now hw ha hp ht hb he hr hk hlo hhi,
      fun hlt h8 => exec_registerWrite_hdr hw ha hp ht hb he hlt h8,
      fun hk hlo hhi => ⟨fun hg => ?value, fun g hg hnow => ?second⟩,
      fun hlo g hg hnow hpos hgo => ⟨fun hv => ?passed, fun hv => ?failed⟩⟩
    case shadow => rw [exec_registerWrite_cfg hw ha hp ht hb he hr hk hlo hhi, State.cfgWrite_shadow hwm hc hg]
    case held => rw [exec_registerWrite_cfg hw ha hp ht hb he hr hk hlo hhi, State.cfgWrite_held hwm hc hg hroom]
    case overflow => rw [exec_registerWrite_cfg hw ha hp ht hb he hr hk hlo hhi, State.cfgWrite_overflow hwm hc hg hfull]
    case refused => rw [exec_registerWrite_cfg hw ha hp ht hb he hr hk hlo hhi, State.cfgWrite_refused hwm hc]
    case value => rw [exec_guardValueWrite_wg hw ha hp ht hb he hr hk hlo hhi, State.guardValue_of_none hg]
    case second => rw [exec_guardValueWrite_wg hw ha hp ht hb he hr hk hlo hhi, State.guardValue_of_pending hg hnow]
    case passed =>
      rw [exec_guardComplementWrite_complement hw ha hp ht hb he hlo, ← hgo, State.guardComplement_of_pending hg hnow hpos, if_pos hv]
    case failed =>
      rw [exec_guardComplementWrite_complement hw ha hp ht hb he hlo, ← hgo, State.guardComplement_of_pending hg hnow hpos, if_neg hv]
  case firmware =>
    rintro c p page off v u s x t i a r ha hp hsvcc hpool he rfl hr hk hlo - hwm rfl rfl hc
    have hhi : off.val < 0xF00 := Nat.lt_trans ha.off_lt (by decide)
    have hg : (s.taken (.fw c p) page off v).gathers (.fw c p) page = false := by simp [State.gathers, whoFw]
    rw [exec_registerWrite, State.doRegisterWrite_fw ha hsvcc hpool he, (State.regWrite_row hp hr hlo hhi).1 hk,
      State.cfgWrite_shadow hwm hc hg]
  case msixTable =>
    intro off v s ha hoff
    exact congrArg (fun t => Host.Outcome.next (settle t)) (State.doRegisterWrite_msixTable ha hoff v)
  case apply =>
    rintro page s es hd rfl
    refine ⟨fun hes => ?_, fun hes => ?_⟩
    all_goals rw [exec_pageApply]; simp [State.doPageApply, hd, hes]
  case hold =>
    intro page s x t i hd hp ht hb he
    refine ⟨?set, ?release, ?discard⟩
    case set =>
      rintro rfl
      rw [exec_pageHoldSet, State.doRegisterWrite_hold hd hp ht hb he]
      simp [State.holdWrite, State.doPageHoldSet, hp]
    case release =>
      rintro rfl
      rw [exec_pageHoldRelease, State.doRegisterWrite_hold hd hp ht hb he]
      simp [State.holdWrite, State.doPageHoldRelease, hp]
    case discard =>
      rintro rfl
      rw [exec_pageHoldDiscard, State.doRegisterWrite_hold hd hp ht hb he]
      simp [State.holdWrite, State.doPageHoldDiscard, hp]
  case lapse =>
    intro page s g hg hdue
    rw [exec_guardLapse, State.doGuardLapse, State.guardExpire_of_le hg hdue]

end Sys2Proof.Machine

/-! SUPPORT. A received frame through its commands: what each operation on a reception does where it acts, and that it leaves the
state alone elsewhere (R41 to R43, R63, R67, R68, R81, R97, R220). -/

namespace Sys2Proof.Machine

/-! ### The commands over their operations -/

theorem exec_frameReceiveStart (lp : LPort) (b : List Byte) (src : RxSrc) (s : State) :
    exec (.frameReceiveStart lp b src) s = .next (settle (s.doFrameReceiveStart lp src.code b)) := by rfl

theorem exec_ruleLookup (lp : LPort) (src : RxSrc) (s : State) :
    exec (.ruleLookup lp src) s = .next (settle (s.doRuleLookup lp src.code)) := by rfl

theorem exec_frameReceiveEnd (lp : LPort) (e : RxEnd) (src : RxSrc) (s : State) :
    exec (.frameReceiveEnd lp e src) s = .next (settle (s.doFrameReceiveEnd lp src.code e)) := by rfl

theorem exec_macControlReceive (lp : LPort) (b : List Byte) (s : State) :
    exec (.macControlReceive lp b) s = .next (settle (s.doMacControlReceive lp b)) := by rfl

theorem exec_parkedFrameReceive (lp : LPort) (b : List Byte) (s : State) :
    exec (.parkedFrameReceive lp b) s = .next (settle (s.doParkedFrameReceive lp b)) := by rfl

theorem exec_lightAppear (lp : LPort) (s : State) : exec (.lightAppear lp) s = .next (settle (s.doLightAppear lp)) := by rfl

/-! ### The reception of a source -/

@[simp] theorem State.rxOf_setRx (s : State) (lp k : Nat) (r : Option RxFrame) : (s.setRx lp k r).rxOf lp k = r := by
  simp [State.rxOf, State.setRx]

theorem State.mac_setRx_ne (s : State) {j lp : Nat} (k : Nat) (r : Option RxFrame) (h : j ≠ lp) :
    (s.setRx lp k r).mac j = s.mac j :=
  s.mac_setMac_ne _ h

/-- A reception is a matter of its port only. -/
theorem State.sameBut_setRx (s : State) (lp k : Nat) (r : Option RxFrame) : SameBut [.ports] s (s.setRx lp k r) := by
  simp [SameBut]

/-! ### Where a frame begins -/

theorem State.doFrameReceiveStart_of_idle {s : State} {lp k : Nat} (b : List Byte) (hopen : s.rxOpen lp k = true)
    (hidle : s.rxOf lp k = none) : s.doFrameReceiveStart lp k b = s.setRx lp k (some (s.rxNew lp b)) := by
  simp [State.doFrameReceiveStart, hopen, hidle]

theorem State.doFrameReceiveStart_of_closed {s : State} {lp k : Nat} (b : List Byte)
    (h : s.rxOpen lp k = false ∨ s.rxOf lp k ≠ none) : s.doFrameReceiveStart lp k b = s := by
  rcases h with hclosed | hbusy
  · simp [State.doFrameReceiveStart, hclosed]
  · simp [State.doFrameReceiveStart, Option.isSome_iff_ne_none.mpr hbusy]

/-! ### Where a frame is looked up -/

theorem State.doRuleLookup_of_fresh {s : State} {lp k : Nat} {r : RxFrame} (hr : s.rxOf lp k = some r) (hnew : r.looked = false)
    (hdata : etypeAt r.bytes 12 ≠ 0x8808) :
    s.doRuleLookup lp k = (s.lookupRx lp k r).1.setRx lp k (some (s.lookupRx lp k r).2) := by
  simp [State.doRuleLookup, hr, hnew, hdata]

/-- No reception, a frame looked up already and a MAC control frame leave nothing to look up. -/
theorem State.doRuleLookup_of_done {s : State} {lp k : Nat}
    (h : ∀ r, s.rxOf lp k = some r → r.looked = true ∨ etypeAt r.bytes 12 = 0x8808) : s.doRuleLookup lp k = s := by
  unfold State.doRuleLookup
  split
  · rfl
  · next r hr => simp [h r hr]

/-! ### Where a MAC control frame ends -/

section
variable {s : State} {lp : Nat} {b : List Byte} {e : RxEnd}

theorem State.controlEnd_of_error {c : Nat} (h : s.rxError lp b e = some c) :
    s.controlEnd lp b e = s.rxCount lp b (some c) e.fragments := by
  simp [State.controlEnd, h]

theorem State.controlEnd_of_good (h : s.rxError lp b e = none) :
    s.controlEnd lp b e = (s.rxCount lp b none e.fragments).controlAct lp b := by
  simp [State.controlEnd, h]

theorem State.controlAct_link (h : beAt b 14 2 = 0x0001) :
    s.controlAct lp b = if (s.portCtr lp 7).pauseMode lp = 2 ∧ (s.portCtr lp 7).storm lp 0 = false then
      (s.portCtr lp 7).each (List.range 8) fun s c => s.pauseAct lp c (beAt b 16 2) else s.portCtr lp 7 := by
  simp [State.controlAct, h]

theorem State.controlAct_pfc (h : beAt b 14 2 = 0x0101) :
    s.controlAct lp b = s.each ((List.range 8).filter fun c => (beAt b 16 2).testBit c) fun s c =>
      if (s.portCtr lp (8 + c)).pauseMode lp = 1 ∧ (s.portCtr lp (8 + c)).pfcRxEn lp c = true ∧ (s.portCtr lp (8 + c)).storm lp c = false
      then (s.portCtr lp (8 + c)).pauseAct lp c (beAt b (18 + 2 * c) 2) else s.portCtr lp (8 + c) := by
  simp [State.controlAct, h, and_assoc]

theorem State.controlAct_unknown (hlink : beAt b 14 2 ≠ 0x0001) (hpfc : beAt b 14 2 ≠ 0x0101) :
    s.controlAct lp b = s.portCtr lp 16 := by
  unfold State.controlAct
  split
  · next h => exact absurd h hlink
  · next h => exact absurd h hpfc
  · rfl

theorem State.doMacControlReceive_of_up (hup : s.isUp lp = true) (hcell : s.cellOn (physOf lp) = false)
    (hcontrol : etypeAt b 12 = 0x8808) : s.doMacControlReceive lp b = s.controlEnd lp b cleanEnd := by
  simp [State.doMacControlReceive, hup, hcell, hcontrol]

theorem State.doMacControlReceive_of_ignored
    (h : s.isUp lp = false ∨ s.cellOn (physOf lp) = true ∨ etypeAt b 12 ≠ 0x8808) : s.doMacControlReceive lp b = s := by
  rcases h with hdown | hcell | hdata
  · simp [State.doMacControlReceive, hdown]
  · simp [State.doMacControlReceive, hcell]
  · simp [State.doMacControlReceive, hdata]

end

/-! ### Where any frame ends -/

section
variable {s : State} {lp k : Nat} {r : RxFrame} {e : RxEnd}

theorem State.doFrameReceiveEnd_of_idle (h : s.rxOf lp k = none) : s.doFrameReceiveEnd lp k e = s := by
  simp [State.doFrameReceiveEnd, h]

theorem State.doFrameReceiveEnd_of_control (hr : s.rxOf lp k = some r) (hcontrol : etypeAt r.bytes 12 = 0x8808) :
    s.doFrameReceiveEnd lp k e = (s.setRx lp k none).controlEnd lp r.bytes e := by
  simp [State.doFrameReceiveEnd, hr, hcontrol]

/-- The frame ends on the state and with the result of its lookup, now or earlier. -/
theorem State.doFrameReceiveEnd_of_data {u : State} {q : RxFrame} (hr : s.rxOf lp k = some r) (hdata : etypeAt r.bytes 12 ≠ 0x8808)
    (hq : (u, q) = if r.looked then (s, r) else s.lookupRx lp k r) :
    s.doFrameReceiveEnd lp k e = (u.setRx lp k none).frameEnd lp k q e := by
  simp only [State.doFrameReceiveEnd, hr, hdata, if_false, ← hq]

theorem State.frameEnd_of_error {c : Nat} (h : s.rxError lp r.bytes e = some c) :
    s.frameEnd lp k r e = (s.rxCount lp r.bytes (some c) e.fragments).rxBreak lp k 1 r
      ((s.rxCount lp r.bytes (some c) e.fragments).stored lp r.bytes) := by
  simp [State.frameEnd, h]

/-- The events 0x08 and 0x09 are counted at the reception of a good frame (log 91). -/
theorem State.frameEnd_of_good {w : State} (h : s.rxError lp r.bytes e = none)
    (hw : w = (((s.rxCount lp r.bytes none e.fragments).rxGood lp k r).perfHit (sliceOf lp) 0x08 1 none none (some r.cls)
      none).perfHit (sliceOf lp) 0x09 (ceilDiv r.bytes.length 64) none none (some r.cls) none) :
    s.frameEnd lp k r e = if r.passed then w.arrivalCheck lp r.cls r.stamp r.bytes.length else w := by
  simp [State.frameEnd, h, hw]

end

/-! ### Frames and light on a parked sub-port -/

/-- Wake patterns are registers, not the pitching machine's. -/
@[simp] theorem State.wakePattern_onPitch (s : State) (lp : Nat) (f : Pitch → Pitch) (p j : Nat) :
    (s.onPitch lp f).wakePattern p j = s.wakePattern p j := by rfl

@[simp] theorem State.inUse_onPitch (s : State) (lp : Nat) (f : Pitch → Pitch) (j : Nat) :
    (s.onPitch lp f).inUse j = s.inUse j := by rfl

@[simp] theorem State.portFld_onPitch (s : State) (lp : Nat) (f : Pitch → Pitch) (p : Nat) (g : Fld) :
    (s.onPitch lp f).portFld p g = s.portFld p g := by rfl

@[simp] theorem State.pitch_onPitch (s : State) (lp : Nat) (f : Pitch → Pitch) : (s.onPitch lp f).pitch lp = f (s.pitch lp) :=
  s.pitch_setPitch _ _

section
variable {s : State} {lp : Nat} (huse : s.inUse lp = true) (hparked : (s.pitch lp).state = 6)
include huse hparked

/-- A good frame that matches a pattern counts and wakes; the receiver of the parked sub-port has lock with it (log 21). -/
theorem State.doParkedFrameReceive_of_match {b : List Byte} (hgood : fcsGood b = true)
    (hmatch : ((List.range 8).any fun j => wakeMatch b (s.wakePattern (physOf lp) j)) = true) :
    s.doParkedFrameReceive lp b =
      ((s.onPitch lp fun t => { t with light := true, rxLocked := true }).engCtr (physOf lp) 3).wake (physOf lp) := by
  simp [State.doParkedFrameReceive, huse, hparked, hgood, hmatch]

theorem State.doLightAppear_of_parked (hdark : (s.pitch lp).light = false)
    (hwake : s.portFld (physOf lp) OENG_PORT_MODE_WAKE_ON_LIGHT = 1) :
    s.doLightAppear lp = (s.onPitch lp fun t => { t with light := true }).wake (physOf lp) := by
  simp [State.doLightAppear, huse, hparked, hdark, hwake]

end

/-- Settles O3: each command is its operation, and the operation's lemma for the case at hand gives the answer. The receiver's lock on
a parked sub-port is a reading of chapter 02 (log 21), and the events counted at the end of a good frame are log 91. -/
theorem receptionCompletes : Obligations.ReceptionCompletes := by
  unfold Obligations.ReceptionCompletes
  refine ⟨?start, ?lookup, ?finish, ?control, ?parked, ?light⟩
  case start =>
    intro lp src b s hquiet
    refine ⟨fun hopen hidle => ?opens, fun h => ?ignored⟩
    case opens =>
      rw [exec_frameReceiveStart, State.doFrameReceiveStart_of_idle b hopen hidle,
        settle_of_quiet (s := s.setRx _ _ _) hquiet]
      exact ⟨_, s.rxNew lp b, rfl, s.rxOf_setRx _ _ _, rfl, rfl, rfl, rfl, fun k hk => s.mac_setRx_ne _ _ hk, s.sameBut_setRx _ _ _⟩
    case ignored => rw [exec_frameReceiveStart, State.doFrameReceiveStart_of_closed b h, settle_of_quiet hquiet]
  case lookup =>
    intro lp src s
    refine ⟨fun r hr hnew hdata => ?fresh, fun hquiet h => ?done⟩
    case fresh => rw [exec_ruleLookup, State.doRuleLookup_of_fresh hr hnew hdata]
    case done => rw [exec_ruleLookup, State.doRuleLookup_of_done h, settle_of_quiet hquiet]
  case finish =>
    intro lp src e s
    refine ⟨fun hquiet hidle => ?idle, fun r hr => ⟨fun hcontrol => ?controlFrame, fun hdata u q hq =>
      ⟨fun c herr => ?error, fun hgood => ?good⟩⟩⟩
    case idle => rw [exec_frameReceiveEnd, State.doFrameReceiveEnd_of_idle hidle, settle_of_quiet hquiet]
    case controlFrame => rw [exec_frameReceiveEnd, State.doFrameReceiveEnd_of_control hr hcontrol]
    case error => rw [exec_frameReceiveEnd, State.doFrameReceiveEnd_of_data hr hdata hq, State.frameEnd_of_error herr]
    case good => rw [exec_frameReceiveEnd, State.doFrameReceiveEnd_of_data hr hdata hq, State.frameEnd_of_good hgood rfl]
  case control =>
    intro lp b s
    refine ⟨fun hup hcell hcontrol => ⟨fun c herr => ?error, fun hgood u hu =>
        ⟨fun hlink hpfc => ?unknown, fun hlink => ?link, fun hpfc => ?pfc⟩⟩,
      fun hquiet h => ?ignored⟩
    case ignored => rw [exec_macControlReceive, State.doMacControlReceive_of_ignored h, settle_of_quiet hquiet]
    all_goals rw [exec_macControlReceive, State.doMacControlReceive_of_up hup hcell hcontrol]
    case error => rw [State.controlEnd_of_error herr]; rfl
    all_goals rw [State.controlEnd_of_good hgood, show s.rxCount lp b none cleanEnd.fragments = u from hu.symm]
    case unknown => rw [State.controlAct_unknown hlink hpfc]
    case link => rw [State.controlAct_link hlink]
    case pfc => rw [State.controlAct_pfc hpfc]
  case parked =>
    intro lp b s huse hparked hgood hmatch
    rw [exec_parkedFrameReceive, State.doParkedFrameReceive_of_match huse hparked hgood hmatch]
  case light =>
    intro lp s hdark huse hparked hwake
    rw [exec_lightAppear, State.doLightAppear_of_parked huse hparked hdark hwake]

end Sys2Proof.Machine

/-! SUPPORT. The pitching machine: where each of its commands acts, and what it does there (R32 to R34, R40, R55, R60). -/

namespace Sys2Proof.Machine

section
variable {s : State} {lp : Nat}

/-! ### A step is done -/

theorem State.doPitchBiasDone_of_bias {u : State} (hbias : (s.pitch lp).state = 1) (hfree : s.biasBlocked lp = false)
    (hu : u = (s.pitchTo lp 2).onPitch lp fun t => { t with lit := true }) :
    s.doPitchBiasDone lp =
      if (u.pitch lp).fromParked && (u.pitch lp).rxLocked && (u.pitch lp).light then (u.pitchTo lp 3).pitchTo lp 4 else u := by
  simp [State.doPitchBiasDone, hbias, hfree, hu]

theorem State.doPitchEqualiseDone_of_equalise (hequalise : (s.pitch lp).state = 2) :
    s.doPitchEqualiseDone lp = (s.onPitch lp fun t => { t with warm := true, light := true }).pitchTo lp 3 := by
  simp [State.doPitchEqualiseDone, hequalise]

theorem State.doPitchFecLockDone_of_fecLock (hfec : (s.pitch lp).state = 3) : s.doPitchFecLockDone lp = s.pitchTo lp 4 := by
  simp [State.doPitchFecLockDone, hfec]

/-- A sub-port that was not parked opens no wake window. -/
theorem State.doPitchAmLockDone_of_amLock (ham : (s.pitch lp).state = 4) (hlit : s.lanesDark lp = false)
    (hfresh : (s.pitch lp).fromParked = false) :
    s.doPitchAmLockDone lp = (s.onPitch lp fun t => { t with fails := 0, serCount := 0 }).pitchTo lp 5 := by
  simp [State.doPitchAmLockDone, ham, hlit, hfresh]

/-! ### A state has lasted its limit -/

theorem State.pitchOver_of_le {st ns : Nat} (hst : (s.pitch lp).state = st) (hover : (s.pitch lp).entered + ns ≤ s.now) :
    s.pitchOver lp st ns = true := by
  simp [State.pitchOver, hst, hover]

theorem State.doPitchBiasTimeout_of_over (h : s.pitchOver lp 1 300000 = true) : s.doPitchBiasTimeout lp = s.backoff lp := if_pos h

theorem State.doPitchEqualiseTimeout_of_over (h : s.pitchOver lp 2 (if s.eqWarm lp then 500000 else 20000000) = true) :
    s.doPitchEqualiseTimeout lp = s.backoff lp := if_pos h

theorem State.doPitchFecLockTimeout_of_over (h : s.pitchOver lp 3 100000 = true) : s.doPitchFecLockTimeout lp = s.backoff lp := if_pos h

theorem State.doPitchAmLockTimeout_of_over (h : s.pitchOver lp 4 900000 = true) : s.doPitchAmLockTimeout lp = s.backoff lp := if_pos h

/-! ### Light or lock is lost, and a backoff is over -/

/-- The loss itself moves no state and sets no WAKE_ON_LIGHT, so that an UP sub-port is still UP when it leaves. -/
theorem State.doLossOfLight_of_up (hup : (s.pitch lp).state = 5) (hkeep : s.keepsUp lp = false) :
    s.doLossOfLight lp = (s.onPitch lp fun t => { t with light := false, rxLocked := false }).pitchTo lp 2 := by
  have hkeep' : ∀ f, (s.onPitch lp f).keepsUp lp = false := fun f => by rw [State.keepsUp, State.portFld_onPitch]; exact hkeep
  simp [State.doLossOfLight, State.strikeWarm, hup, hkeep']

theorem State.doLossOfLight_of_equalise (hequalise : (s.pitch lp).state = 2) :
    s.doLossOfLight lp = (s.onPitch lp fun t => { t with light := false, rxLocked := false }).backoff lp := by
  simp [State.doLossOfLight, hequalise]

theorem State.doAlignmentLockLoss_of_lit (hup : (s.pitch lp).state = 5) (hlight : (s.pitch lp).light = true) :
    s.doAlignmentLockLoss lp = s.pitchTo lp 2 := by
  simp [State.doAlignmentLockLoss, State.strikeWarm, hup, hlight]

theorem State.doBackoffEnd_of_over (hbackoff : (s.pitch lp).state = 7) (hover : (s.pitch lp).backoffEnd ≤ s.now) :
    s.doBackoffEnd lp = s.pitchTo lp (if (s.pitch lp).lit then 2 else 1) := by
  simp [State.doBackoffEnd, hbackoff, Nat.not_lt.mpr hover]

end

/-! ### The commands over their operations -/

theorem exec_pitchBiasDone (lp : LPort) (s : State) : exec (.pitchBiasDone lp) s = .next (settle (s.doPitchBiasDone lp)) := by rfl
theorem exec_pitchEqualiseDone (lp : LPort) (s : State) :
    exec (.pitchEqualiseDone lp) s = .next (settle (s.doPitchEqualiseDone lp)) := by rfl
theorem exec_pitchFecLockDone (lp : LPort) (s : State) : exec (.pitchFecLockDone lp) s = .next (settle (s.doPitchFecLockDone lp)) := by rfl
theorem exec_pitchAmLockDone (lp : LPort) (s : State) : exec (.pitchAmLockDone lp) s = .next (settle (s.doPitchAmLockDone lp)) := by rfl
theorem exec_pitchBiasTimeout (lp : LPort) (s : State) :
    exec (.pitchBiasTimeout lp) s = .next (settle (s.doPitchBiasTimeout lp)) := by rfl
theorem exec_pitchEqualiseTimeout (lp : LPort) (s : State) :
    exec (.pitchEqualiseTimeout lp) s = .next (settle (s.doPitchEqualiseTimeout lp)) := by rfl
theorem exec_pitchFecLockTimeout (lp : LPort) (s : State) :
    exec (.pitchFecLockTimeout lp) s = .next (settle (s.doPitchFecLockTimeout lp)) := by rfl
theorem exec_pitchAmLockTimeout (lp : LPort) (s : State) :
    exec (.pitchAmLockTimeout lp) s = .next (settle (s.doPitchAmLockTimeout lp)) := by rfl
theorem exec_lossOfLight (lp : LPort) (s : State) : exec (.lossOfLight lp) s = .next (settle (s.doLossOfLight lp)) := by rfl
theorem exec_alignmentLockLoss (lp : LPort) (s : State) :
    exec (.alignmentLockLoss lp) s = .next (settle (s.doAlignmentLockLoss lp)) := by rfl
theorem exec_backoffEnd (lp : LPort) (s : State) : exec (.backoffEnd lp) s = .next (settle (s.doBackoffEnd lp)) := by rfl

/-- Settles O4: each command is its operation, and the operation acts in the one state of the pitching machine that its premise names. -/
theorem pitchingMoves : Obligations.PitchingMoves := by
  unfold Obligations.PitchingMoves
  refine ⟨?biasDone, ?equaliseDone, ?fecLockDone, ?amLockDone, ?biasTimeout, ?equaliseTimeout, ?fecLockTimeout, ?amLockTimeout,
    ?darkUp, ?darkEqualise, ?lockLost, ?backoffOver⟩
  case biasDone =>
    intro lp s u hst hfree hu
    rw [exec_pitchBiasDone, State.doPitchBiasDone_of_bias hst hfree hu]
  case equaliseDone =>
    intro lp s hst
    rw [exec_pitchEqualiseDone, State.doPitchEqualiseDone_of_equalise hst]
  case fecLockDone =>
    intro lp s hst
    rw [exec_pitchFecLockDone, State.doPitchFecLockDone_of_fecLock hst]
  case amLockDone =>
    intro lp s hst hlit hfresh
    rw [exec_pitchAmLockDone, State.doPitchAmLockDone_of_amLock hst hlit hfresh]
  case biasTimeout =>
    intro lp s hst hover
    rw [exec_pitchBiasTimeout, State.doPitchBiasTimeout_of_over (State.pitchOver_of_le hst hover)]
  case equaliseTimeout =>
    intro lp s hst hover
    rw [exec_pitchEqualiseTimeout, State.doPitchEqualiseTimeout_of_over (State.pitchOver_of_le hst hover)]
  case fecLockTimeout =>
    intro lp s hst hover
    rw [exec_pitchFecLockTimeout, State.doPitchFecLockTimeout_of_over (State.pitchOver_of_le hst hover)]
  case amLockTimeout =>
    intro lp s hst hover
    rw [exec_pitchAmLockTimeout, State.doPitchAmLockTimeout_of_over (State.pitchOver_of_le hst hover)]
  case darkUp =>
    intro lp s hst hkeep
    rw [exec_lossOfLight, State.doLossOfLight_of_up hst hkeep]
  case darkEqualise =>
    intro lp s hst
    rw [exec_lossOfLight, State.doLossOfLight_of_equalise hst]
  case lockLost =>
    intro lp s hst hlight
    rw [exec_alignmentLockLoss, State.doAlignmentLockLoss_of_lit hst hlight]
  case backoffOver =>
    intro lp s hst hover
    rw [exec_backoffEnd, State.doBackoffEnd_of_over hst hover]

end Sys2Proof.Machine

/-! SUPPORT. The state at reset: a register that nothing has written reads its reset value, and an island that nothing has powered
answers only where standby power feeds it (R32, R143, R386, R404, R454). -/

namespace Sys2Proof.Machine

/-! ### Registers at reset -/

/-- The reset word of a register, by the layout and number of its page. -/
theorem resetAt_regA {pg off i : Nat} {t : PageTy} (hp : pageOf pg = some (t, i)) (hoff : off < 4096) :
    resetAt (regA pg off) = BitVec.ofNat 32 (resetWord t i off) := by
  have hpage : regA pg off / 4096 = pg := by unfold regA; omega
  have hmod : regA pg off % 4096 = off := by unfold regA; omega
  simp only [resetAt, hpage, hmod, hp]

theorem State.fld_reset {pg i : Nat} {t : PageTy} (hp : pageOf pg = some (t, i)) (f : Fld) (hoff : f.off < 4096) :
    State.reset.fld pg f = getBits (BitVec.ofNat 32 (resetWord t i f.off)) f.lo f.w := by
  change getBits (resetAt (regA pg f.off)) f.lo f.w = _
  rw [resetAt_regA hp hoff]

theorem pageOf_portPage : ∀ p : Fin 256, pageOf (portPage p) = some (.port, p.val) := by decide +kernel

/-- MAC_CFG of each of the four sub-ports, on whatever port: MAX_FRAME 12,288, flow control off and VERIFY_EN set (R65, R77). -/
theorem resetWord_macCfg (p : Nat) {k : Nat} (hk : k < 4) : resetWord .port p (0x80 + 0x40 * k) = 0x23000 := by
  match k, hk with
  | 0, _ | 1, _ | 2, _ | 3, _ => rfl

theorem State.macFld_reset (lp : LPort) {f : Fld} (hf : f.off = 0x80) :
    State.reset.macFld lp f = getBits 0x23000 f.lo f.w := by
  have hsub : subOf lp < 4 := Nat.mod_lt _ (by decide)
  have hphys : physOf lp < 256 := by unfold physOf; omega
  have hoff : (f.sh (0x40 * subOf lp)).off = 0x80 + 0x40 * subOf lp := by simp [Fld.sh, hf]
  rw [State.macFld, State.fld_reset (pageOf_portPage ⟨_, hphys⟩) _ (by omega), hoff, resetWord_macCfg _ hsub]
  rfl

theorem State.maxFrame_reset (lp : LPort) : State.reset.maxFrame lp = 12288 := State.macFld_reset lp (by rfl)

theorem State.pauseMode_reset (lp : LPort) : State.reset.pauseMode lp = 0 := State.macFld_reset lp (by rfl)

/-- The default quotas of the five notification FIFOs (R404). -/
theorem State.fifoQuota_reset (f : Fin 5) :
    State.reset.fld hostPage (HOST_FIFO_CFG_QUOTA.sh (4 * f)) = [4096, 8192, 2048, 1024, 1024].getD f 0 := by
  match f with
  | 0 | 1 | 2 | 3 | 4 => rfl

/-! ### Islands at reset -/

/-- Standby power feeds the groundsheet island, and no other (R15, R454). -/
theorem State.islandDark_reset (i : Nat) : State.reset.islandDark i = decide (i ≠ 53) := by
  change (i != 53 && ((dfltIsland i).power != 2 || (dfltIsland i).rst == 1 || (dfltIsland i).rst == 3)) = _
  by_cases h : i = 53 <;> simp [dfltIsland, h]

/-- Settles O40: what the state at reset lists nothing for reads its default, and registers and islands have lemmas of their own. -/
theorem resetState : Obligations.ResetState := by
  unfold Obligations.ResetState
  refine ⟨rfl, rfl, rfl, ?counters, ?ports, ?tables, ?crossbar, ?looms, ?fifos, ?held, rfl, ?islands⟩
  case counters => exact fun _ _ => rfl
  case ports => exact fun lp => ⟨rfl, rfl, rfl, State.maxFrame_reset lp, State.pauseMode_reset lp⟩
  case tables => exact fun _ => ⟨rfl, rfl, rfl⟩
  case crossbar => exact fun _ => ⟨rfl, rfl, rfl⟩
  case looms => exact fun _ => rfl
  case fifos => exact fun f => ⟨rfl, State.fifoQuota_reset f⟩
  case held => exact fun _ => ⟨rfl, rfl⟩
  case islands =>
    intro i
    rw [State.islandDark_reset]
    exact decide_eq_decide.mpr (not_congr (Fin.ext_iff (b := (53 : Island))).symm)

end Sys2Proof.Machine

/-! SUPPORT. Guarded commands: from the command to the action of its register behind the guard, and what the action does where it acts
(R46, R52, R218, R294, R305, R352, R361, R389, R410, R421, R427, R437). -/

namespace Sys2Proof.Machine

/-! ### Operands in the word of a command -/

/-- Two fields side by side from bit 0 on: the lower one has `i` bits and holds `a`, the upper one has `w` bits and holds `b`. -/
theorem getBits_pair {n a b i w : Nat} (hn : n = a + 2 ^ i * b) (ha : a < 2 ^ i) (hb : b < 2 ^ w) (h32 : i + w ≤ 32) :
    getBits (BitVec.ofNat 32 n) 0 i = a ∧ getBits (BitVec.ofNat 32 n) i w = b := by
  have hlt : n < 2 ^ 32 :=
    calc n < 2 ^ i * (b + 1) := by rw [hn, Nat.mul_succ]; omega
      _ ≤ 2 ^ i * 2 ^ w := Nat.mul_le_mul_left _ hb
      _ = 2 ^ (i + w) := (Nat.pow_add ..).symm
      _ ≤ 2 ^ 32 := Nat.pow_le_pow_right (by decide) h32
  simp only [getBits, BitVec.toNat_ofNat, Nat.mod_eq_of_lt hlt]
  subst hn
  constructor
  · simp [Nat.mod_eq_of_lt ha]
  · rw [Nat.add_mul_div_left _ _ (Nat.two_pow_pos i), Nat.div_eq_of_lt ha, Nat.zero_add, Nat.mod_eq_of_lt hb]

/-! ### A guarded write that is let in acts -/

theorem pageOf_oengPage : ∀ e : Engine, pageOf (oengPage e) = some (.oeng, e.val) := by decide

/-- Where a register acts with `run` behind its guard, the command leaves what came of `run` on the state let in (R389). -/
theorem State.guardRow_acts {s : State} {w : Who} {page off v : Nat} {run : State → State} (ha : Admits s w page off)
    (hact : ∀ x : State, x.guardPassed w page off (BitVec.ofNat 32 v) = x.acted w page off (BitVec.ofNat 32 v) run) :
    s.guardRow w page off v = s.letOut (run (s.letIn w page off v)) w page off := by
  rw [State.guardRow_of_admits ha, hact]
  rfl

section
variable (x : State) (w : Who) (v : Word)

theorem State.guardPassed_oeng (e : Engine) (off : Nat) :
    x.guardPassed w (oengPage e) off v = x.acted w (oengPage e) off v fun s => s.laneAction e v := by
  simp only [State.guardPassed, pageOf_oengPage]

theorem State.guardPassed_xbarM (off : Nat) :
    x.guardPassed w (xbarPage 8) off v = x.acted w (xbarPage 8) off v fun s =>
      match getBits v 2 2 with | 1 => s.doPlaneRemove (getBits v 0 2) | 2 => s.doPlaneReturn (getBits v 0 2) | _ => s := by rfl

theorem State.guardPassed_deepT (off : Nat) :
    x.guardPassed w (deepPage 8) off v = x.acted w (deepPage 8) off v fun s =>
      match getBits v 3 2 with | 1 => s.doStackRemove (getBits v 0 3) | 2 => s.doStackReturn (getBits v 0 3) | _ => s := by rfl

theorem State.guardPassed_pathMaxReset :
    x.guardPassed w (fabrPage 8) 0xE04 v = x.acted w (fabrPage 8) 0xE04 v fun s =>
      if v.getLsbD 0 then s.doPathMaxReset else s := by rfl

theorem State.guardPassed_dtSet :
    x.guardPassed w timePage 0xE00 v = x.acted w timePage 0xE00 v fun s => if v.getLsbD 0 then s.doDtSet else s := by rfl

theorem State.guardPassed_leaseCtl :
    x.guardPassed w svccPage 0xE00 v = x.acted w svccPage 0xE00 v fun s =>
      if getBits v 2 2 = 3 then refusedSvcc s true
      else match getBits v 0 2 with | 1 => s.doLeaseRevoke | 2 => s.doLeaseSetNext (getBits v 2 2) | _ => s := by rfl

theorem State.guardPassed_twin (off : Nat) :
    x.guardPassed w twinPage off v = x.acted w twinPage off v fun s => if getBits v 0 2 = 1 then s.doTwinHandOver else s := by rfl

theorem State.guardPassed_host (off : Nat) :
    x.guardPassed w hostPage off v = x.acted w hostPage off v fun s => s.doDebugAllowWrite v := by rfl

theorem State.guardPassed_resetCtl :
    x.guardPassed w fltcPage 0xE00 v = x.acted w fltcPage 0xE00 v fun s => s.resetCtl w v := by rfl

theorem State.guardPassed_recordClr :
    x.guardPassed w fltcPage 0xE04 v = x.acted w fltcPage 0xE04 v fun s => s.recordClr v := by rfl

theorem State.guardPassed_nvst (off : Nat) :
    x.guardPassed w nvstPage off v = x.acted w nvstPage off v fun s => s.doSvnRaise (getBits v 0 16) := by rfl

end

/-! ### Lanes, planes and stacks -/

section
variable {x : State} {e l : Nat}

theorem State.laneAction_clearTrip (x : State) (e : Nat) (l : Lane) :
    x.laneAction e (BitVec.ofNat 32 (l + 0x20)) = x.doLaneClearTrip e l := by
  obtain ⟨hl, hop⟩ := getBits_pair (n := l + 0x20) (b := 1) (i := 5) (w := 3) rfl l.isLt (by decide) (by decide)
  simp only [State.laneAction, hl, hop]

theorem State.laneAction_approveSwitch (x : State) (e : Nat) (l : Lane) :
    x.laneAction e (BitVec.ofNat 32 (l + 0x40)) = x.doLaneApproveSwitch e l := by
  obtain ⟨hl, hop⟩ := getBits_pair (n := l + 0x40) (b := 2) (i := 5) (w := 3) rfl l.isLt (by decide) (by decide)
  simp only [State.laneAction, hl, hop]

theorem State.laneAction_switchNow (x : State) (e : Nat) (l : Lane) :
    x.laneAction e (BitVec.ofNat 32 (l + 0x60)) = x.doLaneSwitchNow e l := by
  obtain ⟨hl, hop⟩ := getBits_pair (n := l + 0x60) (b := 3) (i := 5) (w := 3) rfl l.isLt (by decide) (by decide)
  simp only [State.laneAction, hl, hop]

/-- A tripped lane that no eye locks is lit again. -/
theorem State.doLaneClearTrip_of_tripped (htrip : (x.lane (laneKey e l)).lstate = 4) (hlatch : (x.lane (laneKey e l)).latched = true) :
    x.doLaneClearTrip e l = x.onLane e l fun y => { y with latched := false, lstate := 1 } := by
  simp [State.doLaneClearTrip, State.onLane, htrip, hlatch]

theorem State.doLaneApproveSwitch_of_pending (hpend : (x.lane (laneKey e l)).pending = true) :
    x.doLaneApproveSwitch e l = (x.startSwitch e l).1 := if_pos hpend

theorem State.doLaneSwitchNow_of_free (hlock : (x.lane (laneKey e l)).lstate ≠ 5) (hidle : (x.lane (laneKey e l)).switching = none)
    (hdefer : (x.lane (laneKey e l)).deferred = false) : x.doLaneSwitchNow e l = (x.startSwitch e l).1 := by
  simp [State.doLaneSwitchNow, hlock, hidle, hdefer]

end

section
variable {x : State} {p d : Nat}

theorem State.doPlaneRemove_of_others (h : x.planesUp ≠ [p]) : x.doPlaneRemove p = x.planeOut p := if_neg h

theorem State.doPlaneReturn_of_out (h : x.planesUp.contains p = false) :
    x.doPlaneReturn p = x.onSw fun w => { w with returning := w.returning.set p true } := by
  simp only [State.doPlaneReturn, h, Bool.false_eq_true, if_false]

theorem State.doStackRemove_of_in (hin : x.stackIn d = true) (hidle : (x.block (9 + d)).resetting = false) :
    x.doStackRemove d = ((x.onBlock (9 + d) fun b => { b with
      guy := true, guyEnd := none, byHost := true, cause := none }).syncGuy (9 + d)).stackLeave d false := by
  simp [State.doStackRemove, hin, hidle]

theorem State.doStackReturn_of_out (hout : x.stackIn d = false) (hidle : (x.block (9 + d)).resetting = false)
    (hfree : (x.block (9 + d)).isolated = false) : x.doStackReturn d = x.blockStart (9 + d) true none := by
  simp [State.doStackReturn, hout, hidle, hfree]

end

section
variable {s : State}

theorem exec_laneClearTrip {e : Engine} {l : Lane} (ha : Admits s .host (oengPage e) 0xE00) :
    exec (.laneClearTrip e l) s = .next (settle (s.letOut ((s.letIn .host (oengPage e) 0xE00 (l + 0x20)).doLaneClearTrip e l)
      .host (oengPage e) 0xE00)) := by
  change Host.Outcome.next (settle (s.guardRow .host (oengPage e) 0xE00 (l + 0x20))) = _
  rw [State.guardRow_acts ha fun x => x.guardPassed_oeng _ _ e _, State.laneAction_clearTrip]

theorem exec_laneApproveSwitch {e : Engine} {l : Lane} (ha : Admits s .host (oengPage e) 0xE00) :
    exec (.laneApproveSwitch e l) s = .next (settle (s.letOut ((s.letIn .host (oengPage e) 0xE00 (l + 0x40)).doLaneApproveSwitch e l)
      .host (oengPage e) 0xE00)) := by
  change Host.Outcome.next (settle (s.guardRow .host (oengPage e) 0xE00 (l + 0x40))) = _
  rw [State.guardRow_acts ha fun x => x.guardPassed_oeng _ _ e _, State.laneAction_approveSwitch]

theorem exec_laneSwitchNow {e : Engine} {l : Lane} (ha : Admits s .host (oengPage e) 0xE00) :
    exec (.laneSwitchNow e l) s = .next (settle (s.letOut ((s.letIn .host (oengPage e) 0xE00 (l + 0x60)).doLaneSwitchNow e l)
      .host (oengPage e) 0xE00)) := by
  change Host.Outcome.next (settle (s.guardRow .host (oengPage e) 0xE00 (l + 0x60))) = _
  rw [State.guardRow_acts ha fun x => x.guardPassed_oeng _ _ e _, State.laneAction_switchNow]

theorem exec_planeRemove {p : Plane} (ha : Admits s .host (xbarPage 8) 0xE00) :
    exec (.planeRemove p) s = .next (settle (s.letOut ((s.letIn .host (xbarPage 8) 0xE00 (p + 4)).doPlaneRemove p)
      .host (xbarPage 8) 0xE00)) := by
  obtain ⟨hp, hop⟩ := getBits_pair (n := p + 4) (b := 1) (i := 2) (w := 2) rfl p.isLt (by decide) (by decide)
  change Host.Outcome.next (settle (s.guardRow .host (xbarPage 8) 0xE00 (p + 4))) = _
  rw [State.guardRow_acts ha fun x => x.guardPassed_xbarM _ _ _]
  simp only [hp, hop]

theorem exec_planeReturn {p : Plane} (ha : Admits s .host (xbarPage 8) 0xE00) :
    exec (.planeReturn p) s = .next (settle (s.letOut ((s.letIn .host (xbarPage 8) 0xE00 (p + 8)).doPlaneReturn p)
      .host (xbarPage 8) 0xE00)) := by
  obtain ⟨hp, hop⟩ := getBits_pair (n := p + 8) (b := 2) (i := 2) (w := 2) rfl p.isLt (by decide) (by decide)
  change Host.Outcome.next (settle (s.guardRow .host (xbarPage 8) 0xE00 (p + 8))) = _
  rw [State.guardRow_acts ha fun x => x.guardPassed_xbarM _ _ _]
  simp only [hp, hop]

theorem exec_stackRemove {d : Stack} (ha : Admits s .host (deepPage 8) 0xE00) :
    exec (.stackRemove d) s = .next (settle (s.letOut ((s.letIn .host (deepPage 8) 0xE00 (d + 8)).doStackRemove d)
      .host (deepPage 8) 0xE00)) := by
  obtain ⟨hd, hop⟩ := getBits_pair (n := d + 8) (b := 1) (i := 3) (w := 2) rfl d.isLt (by decide) (by decide)
  change Host.Outcome.next (settle (s.guardRow .host (deepPage 8) 0xE00 (d + 8))) = _
  rw [State.guardRow_acts ha fun x => x.guardPassed_deepT _ _ _]
  simp only [hd, hop]

theorem exec_stackReturn {d : Stack} (ha : Admits s .host (deepPage 8) 0xE00) :
    exec (.stackReturn d) s = .next (settle (s.letOut ((s.letIn .host (deepPage 8) 0xE00 (d + 16)).doStackReturn d)
      .host (deepPage 8) 0xE00)) := by
  obtain ⟨hd, hop⟩ := getBits_pair (n := d + 16) (b := 2) (i := 3) (w := 2) rfl d.isLt (by decide) (by decide)
  change Host.Outcome.next (settle (s.guardRow .host (deepPage 8) 0xE00 (d + 16))) = _
  rw [State.guardRow_acts ha fun x => x.guardPassed_deepT _ _ _]
  simp only [hd, hop]

end

/-! ### Paths, device time, the lease, the twin and debug sessions -/

section
variable {x : State}

/-- DT moves, and with it every enabled time base and the gate lists on DT; the return of the PPS output is its own (R305, log 80). -/
theorem State.doDtSet_of_down {t : Nat} {d : Int} {mv : Nat → Nat} (hports : (x.ports.pitch.any fun e => e.2.state == 5) = false)
    (hlinks : (x.trunk.links.any fun e => x.linkState e.1 == 3) = false)
    (ht : t = ((x.fld timePage TIME_DT_SET_SEC_LO_SEC + 2 ^ 32 * x.fld timePage TIME_DT_SET_SEC_HI_SEC) * nsPerSec
      + x.fld timePage TIME_DT_SET_NS_NS) * 65536)
    (hd : d = (t : Int) - x.time.dt) (hmv : mv = fun (n : Nat) => ((n : Int) + d).toNat) :
    x.doDtSet = ((((x.timeRefused false).ppsBack (decide (d < 0))).onTime fun y => { y with dt := t }).each (List.range 4) fun s n =>
      if s.tbEn n then s.onTb n fun b => { b with
        t := b.t + d, lastStep := b.lastStep.map mv, lastAt := b.lastAt.map (·.map mv)
        prevOfs := b.prevOfs.map (·.map fun p => (p.1, mv p.2)) }
      else s).gateStep 4 := by
  subst ht hd hmv
  simp only [State.doDtSet, hports, hlinks, Bool.or_self, Bool.false_eq_true, if_false]

theorem State.doLeaseSetNext_of_ne {n : Nat} (h : n ≠ 3) :
    x.doLeaseSetNext n = (x.onLease fun l => { l with next := n }).setFlag svccPage SVCC_SVCC_CFG_REFUSED false := if_neg h

theorem State.doTwinHandOver_of_holdPins (hactive : x.svc.twin.role = 1) (hmode : x.twinMode = 2) :
    x.doTwinHandOver = x.twinGiveUp 3 := by
  simp [State.doTwinHandOver, hactive, hmode]

theorem State.doTwinHandOver_of_link {y : State} (hactive : x.svc.twin.role = 1) (hmode : x.twinMode ≠ 2)
    (hy : y = (x.twinGiveUp 2).onTwin fun t => { t with record := x.now + x.twinLeaseNs }) :
    x.doTwinHandOver = y.emit (.twin (y.twinFrame 3)) := by
  simp [State.doTwinHandOver, hactive, hmode, hy]

theorem State.doDebugAllowWrite_of_allow {v : Word} (h : v.getLsbD 0 = true) :
    x.doDebugAllowWrite v = x.wrNow (regA hostPage 0xE00) (v &&& 1) := if_pos h

theorem State.doDebugAllowWrite_of_forbid {v : Word} (h : v.getLsbD 0 = false) :
    x.doDebugAllowWrite v = (x.wrNow (regA hostPage 0xE00) (v &&& 1)).doDbgClose := by
  simp only [State.doDebugAllowWrite, h, Bool.false_eq_true, if_false]

/-- Floors above the present one, and no higher than the running slot's version, are taken (R460). -/
theorem State.doSvnRaise_of_higher {n k : Nat} (hfloor : x.sys.nv.svnFloor < n) (hslot : x.runningSlot = some k)
    (hsvn : n ≤ (x.nvSlot k).svn) : x.doSvnRaise n =
      ((x.onNv fun v => { v with svnFloor := n }).setFld nvstPage NVST_SVN_STATUS_SVN_FLOOR n).nvRefused false := by
  simp [State.doSvnRaise, hfloor, hslot, hsvn]

end

section
variable {s : State}

theorem exec_pathMaxReset (ha : Admits s .host (fabrPage 8) 0xE04) :
    exec .pathMaxReset s = .next (settle (s.letOut (s.letIn .host (fabrPage 8) 0xE04 1).doPathMaxReset .host (fabrPage 8) 0xE04)) := by
  change Host.Outcome.next (settle (s.guardRow .host (fabrPage 8) 0xE04 1)) = _
  rw [State.guardRow_acts ha fun x => x.guardPassed_pathMaxReset _ _]
  rfl

theorem exec_dtSet (ha : Admits s .host timePage 0xE00) :
    exec .dtSet s = .next (settle (s.letOut (s.letIn .host timePage 0xE00 1).doDtSet .host timePage 0xE00)) := by
  change Host.Outcome.next (settle (s.guardRow .host timePage 0xE00 1)) = _
  rw [State.guardRow_acts ha fun x => x.guardPassed_dtSet _ _]
  rfl

theorem exec_leaseRevoke (ha : Admits s .host svccPage 0xE00) :
    exec .leaseRevoke s = .next (settle (s.letOut (s.letIn .host svccPage 0xE00 1).doLeaseRevoke .host svccPage 0xE00)) := by
  change Host.Outcome.next (settle (s.guardRow .host svccPage 0xE00 1)) = _
  rw [State.guardRow_acts ha fun x => x.guardPassed_leaseCtl _ _]
  rfl

theorem exec_leaseSetNext {n : Fin 4} (ha : Admits s .host svccPage 0xE00) (hn : n ≠ 3) :
    exec (.leaseSetNext n) s =
      .next (settle (s.letOut ((s.letIn .host svccPage 0xE00 (2 + 4 * n)).doLeaseSetNext n) .host svccPage 0xE00)) := by
  obtain ⟨hop, hnext⟩ := getBits_pair (n := 2 + 4 * n) (a := 2) (i := 2) (w := 2) rfl (by decide) n.isLt (by decide)
  have hn' : n.val ≠ 3 := fun h => hn (Fin.ext h)
  change Host.Outcome.next (settle (s.guardRow .host svccPage 0xE00 (2 + 4 * n))) = _
  rw [State.guardRow_acts ha fun x => x.guardPassed_leaseCtl _ _]
  simp only [hop, hnext, hn', if_false]

theorem exec_twinHandOver (ha : Admits s .host twinPage 0xE00) :
    exec .twinHandOver s = .next (settle (s.letOut (s.letIn .host twinPage 0xE00 1).doTwinHandOver .host twinPage 0xE00)) := by
  change Host.Outcome.next (settle (s.guardRow .host twinPage 0xE00 1)) = _
  rw [State.guardRow_acts ha fun x => x.guardPassed_twin _ _ _]
  rfl

theorem exec_debugAllowWrite {v : Word} (ha : Admits s .host hostPage 0xE00) :
    exec (.debugAllowWrite v) s =
      .next (settle (s.letOut ((s.letIn .host hostPage 0xE00 v.toNat).doDebugAllowWrite v) .host hostPage 0xE00)) := by
  change Host.Outcome.next (settle (s.guardRow .host hostPage 0xE00 v.toNat)) = _
  rw [State.guardRow_acts ha fun x => x.guardPassed_host _ _ _, BitVec.ofNat_toNat, BitVec.setWidth_eq]

theorem exec_svnRaise {n : BitVec 16} (ha : Admits s .host nvstPage 0xE00) :
    exec (.svnRaise n) s =
      .next (settle (s.letOut ((s.letIn .host nvstPage 0xE00 n.toNat).doSvnRaise n.toNat) .host nvstPage 0xE00)) := by
  obtain ⟨hn, -⟩ := getBits_pair (n := n.toNat) (a := n.toNat) (b := 0) (i := 16) (w := 1) rfl n.isLt (by decide) (by decide)
  change Host.Outcome.next (settle (s.guardRow .host nvstPage 0xE00 n.toNat)) = _
  rw [State.guardRow_acts ha fun x => x.guardPassed_nvst _ _ _, hn]

end

/-! ### Reset commands and reset records -/

@[simp] theorem State.markRefused_sys (s : State) (page off : Nat) (b : Bool) : (s.markRefused page off b).sys = s.sys := by
  unfold State.markRefused
  split
  · split
    · exact State.setFlag_sys _ _ _ _
    · rfl
  · rfl

@[simp] theorem State.letIn_sys (s : State) (w : Who) (page off v : Nat) : (s.letIn w page off v).sys = s.sys := by
  simp [State.letIn]

/-- FLTC lies in island 52 whatever the registers hold, so that a write let in leaves it as dark as it was. -/
@[simp] theorem State.pageDark_letIn_fltc (s : State) (w : Who) (off v : Nat) :
    (s.letIn w fltcPage off v).pageDark fltcPage = s.pageDark fltcPage := by
  change (s.letIn w fltcPage off v).islandDark 52 = s.islandDark 52
  simp only [State.islandDark, State.island, State.letIn_sys]

/-- The host and the debug port run a guarded register of a page that is not dark. -/
theorem State.guardedRun_of_lit {x : State} {w : Who} {page off : Nat} (hw : w = .host ∨ w = .debug) (hd : x.pageDark page = false)
    (run : State → State) : x.guardedRun w page off run = run x := by
  rcases hw with rfl | rfl <;> simp only [State.guardedRun, hd, Bool.false_eq_true, if_false]

section
variable {x : State} {w : Who} {t : Nat} (hw : w = .host ∨ w = .debug) (hd : x.pageDark fltcPage = false)
include hw hd

theorem State.doColdResetCmd_of_lit : x.doColdResetCmd w = x.coldReset (resetCause w) := State.guardedRun_of_lit hw hd _

theorem State.doWarmResetCmd_of_allowed (h : x.fatal = false ∨ x.sys.power.vinReturned = false) :
    x.doWarmResetCmd w = (x.fltcRefused false).warmReset (resetCause w) := by
  have hgo : (x.fatal && x.sys.power.vinReturned) = false := by rcases h with h | h <;> simp [h]
  rw [State.doWarmResetCmd, State.guardedRun_of_lit hw hd]
  simp only [hgo, Bool.false_eq_true, if_false]

theorem State.doBlockResetCmd_of_ready (hlast : t ≤ 51) (h49 : t ≠ 49) (h50 : t ≠ 50) (hidle : (x.block t).resetting = false)
    (hfree : (x.block t).isolated = false) (hruns : x.islandRuns t = true) :
    x.doBlockResetCmd w t = (x.fltcRefused false).blockStart t true none := by
  rw [State.doBlockResetCmd, State.guardedRun_of_lit hw hd]
  simp [Nat.not_lt.mpr hlast, h49, h50, hidle, hfree, hruns]

theorem State.doClusterResetCmd_of_ready (ht : t = 49 ∨ t = 50) (hidle : (x.block t).resetting = false)
    (hfree : (x.block t).isolated = false) (hruns : x.islandRuns t = true) :
    x.doClusterResetCmd w t = (x.fltcRefused false).clusterReset (t - 49) := by
  have hcluster : ¬(t ≠ 49 ∧ t ≠ 50) := by omega
  rw [State.doClusterResetCmd, State.guardedRun_of_lit hw hd]
  simp [-not_and, hcluster, hidle, hfree, hruns]

theorem State.doReleaseIsolated_of_isolated (hlast : t ≤ 51) (hisolated : (x.block t).isolated = true) :
    x.doReleaseIsolated w t = (x.fltcRefused false).releaseTarget t := by
  rw [State.doReleaseIsolated, State.guardedRun_of_lit hw hd]
  simp [Nat.not_lt.mpr hlast, hisolated]

end

theorem State.doRecordClrFatal_of_sound {x : State} (h : x.fatal = false) :
    x.doRecordClrFatal = (x.each [0x88, 0x8C, 0x90] fun s o => s.wr (regA fltcPage o) 0).fltcRefused false := by
  simp only [State.doRecordClrFatal, h, Bool.false_eq_true, if_false]

section
variable {s : State} {w : Who}

/-- RESET_CTL behind its guard (R427). -/
theorem State.guardRow_resetCtl (ha : Admits s w fltcPage 0xE00) (v : Nat) :
    s.guardRow w fltcPage 0xE00 v = s.letOut ((s.letIn w fltcPage 0xE00 v).resetCtl w (BitVec.ofNat 32 v)) w fltcPage 0xE00 :=
  State.guardRow_acts ha fun x => x.guardPassed_resetCtl _ _

/-- RESET_CTL takes its scope from bits 0 to 2 and its target from bits 3 to 8. -/
theorem resetCtl_operands {k : Nat} (hk : k < 8) (t : Fin 64) :
    getBits (BitVec.ofNat 32 (k + 8 * t)) 0 3 = k ∧ getBits (BitVec.ofNat 32 (k + 8 * t)) 3 6 = t :=
  getBits_pair rfl hk t.isLt (by decide)

theorem exec_coldResetCmd (ha : Admits s w fltcPage 0xE00) :
    exec (.coldResetCmd w) s = .next (settle (s.letOut ((s.letIn w fltcPage 0xE00 1).doColdResetCmd w) w fltcPage 0xE00)) := by
  change Host.Outcome.next (settle (s.guardRow w fltcPage 0xE00 1)) = _
  rw [State.guardRow_resetCtl ha]
  rfl

theorem exec_warmResetCmd (ha : Admits s w fltcPage 0xE00) :
    exec (.warmResetCmd w) s = .next (settle (s.letOut ((s.letIn w fltcPage 0xE00 2).doWarmResetCmd w) w fltcPage 0xE00)) := by
  change Host.Outcome.next (settle (s.guardRow w fltcPage 0xE00 2)) = _
  rw [State.guardRow_resetCtl ha]
  rfl

theorem exec_blockResetCmd {t : Fin 64} (ha : Admits s w fltcPage 0xE00) :
    exec (.blockResetCmd w t) s =
      .next (settle (s.letOut ((s.letIn w fltcPage 0xE00 (3 + 8 * t)).doBlockResetCmd w t) w fltcPage 0xE00)) := by
  obtain ⟨hop, ht⟩ := resetCtl_operands (k := 3) (by decide) t
  change Host.Outcome.next (settle (s.guardRow w fltcPage 0xE00 (3 + 8 * t))) = _
  rw [State.guardRow_resetCtl ha]
  simp only [State.resetCtl, hop, ht]

theorem exec_clusterResetCmd {t : Fin 64} (ha : Admits s w fltcPage 0xE00) :
    exec (.clusterResetCmd w t) s =
      .next (settle (s.letOut ((s.letIn w fltcPage 0xE00 (4 + 8 * t)).doClusterResetCmd w t) w fltcPage 0xE00)) := by
  obtain ⟨hop, ht⟩ := resetCtl_operands (k := 4) (by decide) t
  change Host.Outcome.next (settle (s.guardRow w fltcPage 0xE00 (4 + 8 * t))) = _
  rw [State.guardRow_resetCtl ha]
  simp only [State.resetCtl, hop, ht]

theorem exec_releaseIsolated {t : Fin 64} (ha : Admits s w fltcPage 0xE00) :
    exec (.releaseIsolated w t) s =
      .next (settle (s.letOut ((s.letIn w fltcPage 0xE00 (5 + 8 * t)).doReleaseIsolated w t) w fltcPage 0xE00)) := by
  obtain ⟨hop, ht⟩ := resetCtl_operands (k := 5) (by decide) t
  change Host.Outcome.next (settle (s.guardRow w fltcPage 0xE00 (5 + 8 * t))) = _
  rw [State.guardRow_resetCtl ha]
  simp only [State.resetCtl, hop, ht]

theorem exec_recordClrFatal (ha : Admits s .host fltcPage 0xE04) :
    exec .recordClrFatal s =
      .next (settle (s.letOut (s.letIn .host fltcPage 0xE04 1).doRecordClrFatal .host fltcPage 0xE04)) := by
  change Host.Outcome.next (settle (s.guardRow .host fltcPage 0xE04 1)) = _
  rw [State.guardRow_acts ha fun x => x.guardPassed_recordClr _ _]
  rfl

theorem exec_recordClrLast (ha : Admits s .host fltcPage 0xE04) :
    exec .recordClrLast s =
      .next (settle (s.letOut (s.letIn .host fltcPage 0xE04 2).doRecordClrLast .host fltcPage 0xE04)) := by
  change Host.Outcome.next (settle (s.guardRow .host fltcPage 0xE04 2)) = _
  rw [State.guardRow_acts ha fun x => x.guardPassed_recordClr _ _]
  rfl

end

/-- Settles O16: each command is the action of its register on the state let in, and the action's lemma gives what it does there. That a
DT_SET steps only gate lists on DT and returns the PPS output is log 80, and that NEXT and REVOKE clear REFUSED is log 81. -/
theorem guardedCommandsComplete : Obligations.GuardedCommandsComplete := by
  unfold Obligations.GuardedCommandsComplete
  refine ⟨?lanes, ?planes, ?memory, ?path, ?time, ?lease, ?twin, ?debug, ?resets, ?records, ?floor⟩
  case lanes =>
    rintro e l s x _ _ ha rfl rfl
    refine ⟨?clear, ?approve, ?now⟩
    case clear =>
      rintro rfl htrip hlatch
      rw [exec_laneClearTrip ha, State.doLaneClearTrip_of_tripped htrip hlatch]
    case approve =>
      rintro rfl hpend
      rw [exec_laneApproveSwitch ha, State.doLaneApproveSwitch_of_pending hpend]
    case now =>
      rintro rfl hlock hidle hdefer
      rw [exec_laneSwitchNow ha, State.doLaneSwitchNow_of_free hlock hidle hdefer]
  case planes =>
    rintro p s x _ ha rfl
    refine ⟨?remove, ?back⟩
    case remove =>
      rintro rfl hothers
      rw [exec_planeRemove ha, State.doPlaneRemove_of_others hothers]
    case back =>
      rintro rfl hout
      rw [exec_planeReturn ha, State.doPlaneReturn_of_out hout]
  case memory =>
    rintro d s x _ ha rfl
    refine ⟨?remove, ?back⟩
    case remove =>
      rintro rfl hin hidle
      rw [exec_stackRemove ha, State.doStackRemove_of_in hin hidle]
    case back =>
      rintro rfl hout hidle hfree
      rw [exec_stackReturn ha, State.doStackReturn_of_out hout hidle hfree]
  case path =>
    rintro s x ha rfl
    rw [exec_pathMaxReset ha]
    rfl
  case time =>
    rintro s x t d mv ha rfl hports hlinks ht hd hmv
    rw [exec_dtSet ha, State.doDtSet_of_down hports hlinks ht hd hmv]
  case lease =>
    intro s x ha
    refine ⟨?revoke, ?next⟩
    case revoke =>
      rintro rfl
      rw [exec_leaseRevoke ha, State.doLeaseRevoke]
    case next =>
      rintro n rfl hn
      rw [exec_leaseSetNext ha hn, State.doLeaseSetNext_of_ne fun h => hn (Fin.ext h)]
  case twin =>
    rintro s x ha rfl hactive
    refine ⟨fun hmode => ?pins, fun y hmode hy => ?link⟩
    case pins => rw [exec_twinHandOver ha, State.doTwinHandOver_of_holdPins hactive hmode]
    case link => rw [exec_twinHandOver ha, State.doTwinHandOver_of_link hactive hmode hy]
  case debug =>
    rintro v s x ha rfl
    refine ⟨fun hallow => ?allow, fun hforbid => ?forbid⟩
    case allow => rw [exec_debugAllowWrite ha, State.doDebugAllowWrite_of_allow hallow]
    case forbid => rw [exec_debugAllowWrite ha, State.doDebugAllowWrite_of_forbid hforbid]
  case resets =>
    intro w s x hw ha
    have hlit : ∀ v, (s.letIn w fltcPage 0xE00 v).pageDark fltcPage = false := fun v => (s.pageDark_letIn_fltc w _ v).trans ha.1
    refine ⟨?cold, ?warm, ?block, ?cluster, ?release⟩
    case cold =>
      rintro rfl
      rw [exec_coldResetCmd ha, State.doColdResetCmd_of_lit hw (hlit _)]
    case warm =>
      rintro rfl hallowed
      rw [exec_warmResetCmd ha, State.doWarmResetCmd_of_allowed hw (hlit _) hallowed]
    case block =>
      rintro t rfl hlast h49 h50 hidle hfree hruns
      rw [exec_blockResetCmd ha, State.doBlockResetCmd_of_ready hw (hlit _) hlast (fun h => h49 (Fin.ext h)) (fun h => h50 (Fin.ext h))
        hidle hfree hruns]
    case cluster =>
      rintro t rfl ht hidle hfree hruns
      rw [exec_clusterResetCmd ha,
        State.doClusterResetCmd_of_ready hw (hlit _) (ht.imp (congrArg Fin.val) (congrArg Fin.val)) hidle hfree hruns]
    case release =>
      rintro t rfl hlast hisolated
      rw [exec_releaseIsolated ha, State.doReleaseIsolated_of_isolated hw (hlit _) hlast hisolated]
  case records =>
    intro s x ha
    refine ⟨?fatal, ?last⟩
    case fatal =>
      rintro rfl hsound
      rw [exec_recordClrFatal ha, State.doRecordClrFatal_of_sound hsound]
    case last =>
      rintro rfl
      rw [exec_recordClrLast ha, State.doRecordClrLast]
  case floor =>
    rintro n s x k ha rfl hfloor hslot hsvn
    rw [exec_svnRaise ha, State.doSvnRaise_of_higher hfloor hslot hsvn]

end Sys2Proof.Machine

/-! SUPPORT. Optics beside the pitching machine: codewords, hold timers, parking, laser samples, sparing, wear records, eye trips and
calibration, each where it acts (R35, R36, R39, R45 to R53, R55, R56). -/

namespace Sys2Proof.Machine

/-! ### Lanes and wear records -/

@[simp] theorem State.lane_onLane (s : State) (e l : Nat) (f : LaneSt → LaneSt) :
    (s.onLane e l f).lane (laneKey e l) = f (s.lane (laneKey e l)) := s.lane_setLane _ _

@[simp] theorem State.wear_onWear (s : State) (e src : Nat) (f : Wear → Wear) :
    (s.onWear e src f).wear (e * 64 + src) = f (s.wear (e * 64 + src)) := s.wear_setWear _ _

@[simp] theorem State.wear_onLane (s : State) (e l : Nat) (f : LaneSt → LaneSt) (k : Nat) : (s.onLane e l f).wear k = s.wear k := by rfl

@[simp] theorem State.lane_onWear (s : State) (e src : Nat) (f : Wear → Wear) (k : Nat) : (s.onWear e src f).lane k = s.lane k := by rfl

/-- A change of a lane that keeps its source keeps the wear record it counts in. -/
theorem State.srcOf_onLane (s : State) (e l : Nat) {f : LaneSt → LaneSt} (h : (f (s.lane (laneKey e l))).src = (s.lane (laneKey e l)).src) :
    (s.onLane e l f).srcOf e l = s.srcOf e l := by
  simp only [State.srcOf, State.lane_onLane, h]

theorem State.onWear_eq_ports (s : State) (e src : Nat) (f : Wear → Wear) : ∃ p, s.onWear e src f = { s with ports := p } := ⟨_, rfl⟩

/-- Where every turn changes the ports only, the loop does. -/
theorem State.each_eq_ports {f : State → Nat → State} (h : ∀ s n, ∃ p, f s n = { s with ports := p }) (l : List Nat) (s : State) :
    ∃ p, s.each l f = { s with ports := p } := by
  induction l generalizing s with
  | nil => exact ⟨s.ports, rfl⟩
  | cons n l ih =>
    obtain ⟨p, hp⟩ := h s n
    obtain ⟨q, hq⟩ := ih (f s n)
    exact ⟨q, by rw [State.each, List.foldl, ← State.each, hq, hp]⟩

theorem sameBut_ports (s : State) (p : Ports) : SameBut [.ports] s { s with ports := p } := by simp [SameBut]

/-! ### Codewords -/

section
variable {s : State} {lp : Nat}

/-- Below SER_STRIKE a codeword only counts, in the window that the whole millisecond of DT names (R56). -/
theorem State.doUncorrectableCodeword_of_below {u : State} (hup : (s.pitch lp).state = 5)
    (hu : u = (s.portCtr lp 71).onPitch lp fun t => { t with
      serCount := if t.serWin = s.dtNs / 1000000 then t.serCount + 1 else 1, serWin := s.dtNs / 1000000 })
    (hbelow : u.portFld (physOf lp) OENG_PORT_SER_SER_STRIKE = 0 ∨ (u.pitch lp).serCount < u.portFld (physOf lp) OENG_PORT_SER_SER_STRIKE) :
    s.doUncorrectableCodeword lp = u := by
  have hstrike : ¬(u.portFld (physOf lp) OENG_PORT_SER_SER_STRIKE ≠ 0 ∧
      u.portFld (physOf lp) OENG_PORT_SER_SER_STRIKE ≤ (u.pitch lp).serCount) := by omega
  have hcase : s.doUncorrectableCodeword lp =
      if (u.portFld (physOf lp) OENG_PORT_SER_SER_STRIKE ≠ 0 && u.portFld (physOf lp) OENG_PORT_SER_SER_STRIKE ≤ (u.pitch lp).serCount) = true
      then (u.onPitch lp fun t => { t with serCount := 0 }).strikeWarm lp else u := by
    subst hu
    exact if_neg (Decidable.not_not.mpr hup)
  rw [hcase, if_neg (by simpa using hstrike)]

theorem State.pitch_portCtr (s : State) (lp i n k : Nat) : (s.portCtr lp i n).pitch k = s.pitch k := by
  simp only [State.pitch, State.portCtr_ports]

theorem State.pitch_doSerWindowRestart (s : State) (lp cw sym : Nat) :
    (s.doSerWindowRestart lp cw sym).pitch lp = (if (s.pitch lp).serWin = s.dtNs / 1000000 then s.pitch lp
      else { s.pitch lp with serCount := 0, serWin := s.dtNs / 1000000 }) := by
  simp only [State.doSerWindowRestart, State.pitch_onPitch, State.pitch_portCtr]

/-- Beside the two counters a window's end changes the sub-port's machine only. -/
theorem State.doSerWindowRestart_eq (s : State) (lp cw sym : Nat) :
    s.doSerWindowRestart lp cw sym =
      ((s.portCtr lp 69 cw).portCtr lp 70 sym).setPitch lp ((s.doSerWindowRestart lp cw sym).pitch lp) := by
  simp only [State.doSerWindowRestart, State.pitch_onPitch]
  rfl

/-! ### Hold timers and parking -/

theorem State.doHoldTimerExpire_of_over {u : Nat} (hstart : (s.pitch lp).holdStart = some u) (hdown : s.isUp lp = false)
    (hover : u + 1000 * s.portFld (physOf lp) OENG_PORT_HOLD_HOLD_TIMEOUT ≤ s.now) (hedge : s.slowEdge = true) :
    s.doHoldTimerExpire lp = ((s.onPitch lp fun t => { t with holdStart := none, holdExpired := true }).discardQueued lp 0).retryAll := by
  simp [State.doHoldTimerExpire, hstart, hdown, hedge, Nat.not_lt.mpr hover]

theorem State.doParkApply_of_wanted {p : Nat} (hwant : s.parkWanted p = true) (hruns : s.engineRuns (p / 8) = true) :
    s.doParkApply p = s.parkSubs p ((s.lportsOf p).filter fun lp =>
      (s.pitch lp).state != 6 && (s.mac lp).tx.isNone && (s.mac lp).preempted.isNone) := by
  simp [State.doParkApply, hwant, hruns]

end

/-! ### Sources and spares -/

section
variable {s : State} {e l : Nat}

/-- The telemetry of a laser sample: bias and powers of the lane, and the bias of its source (R45, R50). -/
def State.laserRead (s : State) (e l bias txPwr rxPwr : Nat) : State :=
  (s.onLane e l fun x => { x with bias := bias, txPwr := txPwr, rxPwr := rxPwr }).onWear e (s.srcOf e l) fun w => { w with bias := bias }

/-- A healthy source reaches its power with less than 1.3 times its bias at the beginning of life (R45). -/
theorem State.doLaserSample_of_healthy {bias bol txPwr rxPwr : Nat} (hruns : s.engineRuns e = true)
    (hstate : (s.lane (laneKey e l)).lstate < 3) (hdefer : (s.lane (laneKey e l)).deferred = false) (hbias : 10 * bias < 13 * bol) :
    s.doLaserSample e l bias bol txPwr rxPwr true = (s.laserRead e l bias txPwr rxPwr).onLane e l fun x => { x with lstate := 1 } := by
  have hfailed : ¬16 * bol ≤ 10 * bias := by omega
  have hsrc : (s.onLane e l fun x => { x with bias := bias, txPwr := txPwr, rxPwr := rxPwr }).srcOf e l = s.srcOf e l :=
    s.srcOf_onLane e l rfl
  simp [State.doLaserSample, State.laserRead, hsrc, hruns, Nat.not_le.mpr hstate, hdefer, hfailed, Nat.not_le.mpr hbias]

theorem State.doSparePowerReady_of_switching (h : (s.lane (laneKey e l)).switching.isSome = true) :
    s.doSparePowerReady e l = s.onLane e l fun x => { x with switchReady := true } := if_pos h

/-- The lane moves to spare `sp`: one switch more for the source it leaves, and a latched limiter keeps it tripped (R48, R52; log 21). -/
def State.switchDone (s : State) (e l sp : Nat) : State :=
  (s.onWear e (s.srcOf e l) fun w => { w with switches := w.switches + 1 }).onLane e l fun x => { x with
    src := sp + 1, lstate := if x.latched then 4 else 1, switching := none, switchReady := false, pending := false, failed := false }

theorem State.doSpareSwitchComplete_of_ready {sp : Nat} (hsw : (s.lane (laneKey e l)).switching = some sp)
    (hready : (s.lane (laneKey e l)).switchReady = true) :
    s.doSpareSwitchComplete e l = (s.switchDone e l sp).raise (oengPage e) 17 := by
  simp only [State.doSpareSwitchComplete, hsw, hready, State.switchDone, Bool.not_true, Bool.false_eq_true, if_false]

/-- The limiter latches the lane and ends what a switch under way or a wait for one had in hand (log 21); the third trip within 3,600 s
of device time locks it (R51). -/
def State.limiterLatched (s : State) (e l : Nat) : State :=
  let trips := s.dtNs :: (s.lane (laneKey e l)).trips.filter fun t => s.dtNs < t + 3600 * nsPerSec
  (s.onWear e (s.srcOf e l) fun w => { w with trips := w.trips + 1 }).onLane e l fun x => { x with
    lstate := if 3 ≤ trips.length then 5 else 4, latched := true, trips := trips, switching := none, switchReady := false
    deferred := false, pending := false }

theorem State.doEyeLimitTrip_of_lit (hlatch : (s.lane (laneKey e l)).latched = false) (hlock : (s.lane (laneKey e l)).lstate ≠ 5) :
    s.doEyeLimitTrip e l = ((s.limiterLatched e l).raise (oengPage e) 20).laneDarkens e l := by
  simp [State.doEyeLimitTrip, State.limiterLatched, hlatch, hlock]

theorem State.lstate_limiterLatched (s : State) (e l : Nat) :
    ((s.limiterLatched e l).lane (laneKey e l)).lstate =
      if 3 ≤ (s.dtNs :: (s.lane (laneKey e l)).trips.filter fun t => s.dtNs < t + 3600 * nsPerSec).length then 5 else 4 := by
  simp [State.limiterLatched]

/-- With at most one trip before it, a trip does not lock the lane. -/
theorem State.lstate_limiterLatched_of_few (h : (s.lane (laneKey e l)).trips.length < 2) :
    ((s.limiterLatched e l).lane (laneKey e l)).lstate = 4 := by
  have hrecent := (s.lane (laneKey e l)).trips.length_filter_le fun t => decide (s.dtNs < t + 3600 * nsPerSec)
  rw [State.lstate_limiterLatched, if_neg]
  simp only [List.length_cons]
  omega

end

/-! ### What lanes and wear records leave alone -/

section
variable (s : State) (e l : Nat)

theorem State.laserRead_sameBut (bias txPwr rxPwr : Nat) (f : LaneSt → LaneSt) :
    SameBut [.ports] s ((s.laserRead e l bias txPwr rxPwr).onLane e l f) := sameBut_ports s _

theorem State.switchDone_sameBut (sp : Nat) : SameBut [.ports] s (s.switchDone e l sp) := sameBut_ports s _

theorem State.limiterLatched_sameBut : SameBut [.ports] s (s.limiterLatched e l) := sameBut_ports s _

end

/-! ### Wear records -/

section
variable {s : State} {e : Nat}

/-- Hours are added to the 36 wear records of engine `e`. -/
def State.addHours (s : State) (e h : Nat) : State :=
  s.each (List.range 36) fun s i => s.onWear e i fun w => { w with hours := w.hours + h }

theorem State.addHours_eq_ports (s : State) (e h : Nat) : ∃ p, s.addHours e h = { s with ports := p } :=
  State.each_eq_ports (fun s i => s.onWear_eq_ports e i _) _ s

/-- The powered hours of engine `e` since the last credit go to its records (R50). -/
def State.hoursCredited (s : State) (e : Nat) : State :=
  (s.setWearHour e (s.wearHour e + (s.now - s.wearHour e) / hourNs * hourNs)).addHours e ((s.now - s.wearHour e) / hourNs)

theorem State.setWearHour_ports (s : State) (k v : Nat) (p : Ports) : { s.setWearHour k v with ports := p } = { s with ports := p } := by rfl

theorem State.hoursCredited_eq_ports (s : State) (e : Nat) : ∃ p, s.hoursCredited e = { s with ports := p } := by
  obtain ⟨p, hp⟩ := (s.setWearHour e (s.wearHour e + (s.now - s.wearHour e) / hourNs * hourNs)).addHours_eq_ports e
    ((s.now - s.wearHour e) / hourNs)
  exact ⟨p, hp.trans (State.setWearHour_ports ..)⟩

/-- The 36 records as one object of the non-volatile store, one sequence number up (R50, R456). -/
def State.wearStored (s : State) (e : Nat) : State :=
  s.onNv fun n => { n with
    wear := mset none n.wear e (some ((match mget none n.wear e with | some x => x.1 + 1 | none => 0),
      (List.range 36).map fun i => s.wear (e * 64 + i))) }

theorem State.doWearRecordWrite_of_mounted (hpower : s.sys.nv.powerFail = false) (hmount : s.sys.nv.mounted = true) :
    s.doWearRecordWrite e = (s.hoursCredited e).wearStored e := by
  obtain ⟨p, hp⟩ := s.hoursCredited_eq_ports e
  have hopen : ¬((s.hoursCredited e).sys.nv.powerFail || !(s.hoursCredited e).sys.nv.mounted) = true := by
    rw [hp]; simp [hpower, hmount]
  exact if_neg hopen

/-- The store holds the records that the state shows. -/
theorem State.wear_wearStored (s : State) (e : Nat) :
    (mget none (s.wearStored e).sys.nv.wear e).map (·.2) = some ((List.range 36).map fun i => (s.wearStored e).wear (e * 64 + i)) := by
  change (mget none (mset none s.sys.nv.wear e (some _)) e).map (·.2) = _
  rw [mget_mset_self]
  rfl

theorem State.sameBut_hoursCredited_wearStored (s : State) (e : Nat) : SameBut [.ports, .sys] s ((s.hoursCredited e).wearStored e) := by
  obtain ⟨p, hp⟩ := s.hoursCredited_eq_ports e
  rw [hp]
  simp [SameBut, State.wearStored]

end

/-! ### Calibration -/

section
variable {s : State} {e temp : Nat}

/-- Without a good record the values in use are 0 (R53). -/
theorem State.doCalInterpolate_of_bad (hruns : s.engineRuns e = true)
    (hbad : s.sys.nv.calGood = false ∨ s.sys.nv.engineCalGood.getD e false = false) :
    s.doCalInterpolate e temp =
      s.each (List.range 32) fun s l => s.onLane e l fun x => { x with txDelay := 0, rxDelay := 0, asym := 0 } := by
  have hok : (s.sys.nv.calGood && s.sys.nv.engineCalGood.getD e false) = false := by
    rcases hbad with h | h <;> simp only [h, Bool.false_and, Bool.and_false]
  simp only [State.doCalInterpolate, hruns, hok, Bool.not_true, Bool.false_eq_true, if_false]

theorem State.doCalInterpolate_of_good (hruns : s.engineRuns e = true) (hgood : s.sys.nv.calGood = true)
    (hengine : s.sys.nv.engineCalGood.getD e false = true) :
    s.doCalInterpolate e temp = s.each (List.range 32) fun s l => s.onLane e l fun x => { x with
      txDelay := s.calValue e l 0 temp % 2 ^ 14, rxDelay := s.calValue e l 1 temp % 2 ^ 14, asym := s.calValue e l 2 temp % 2 ^ 16 } := by
  simp only [State.doCalInterpolate, hruns, hgood, hengine, Bool.and_self, Bool.not_true, Bool.false_eq_true, if_false, if_true]

/-- Severity actions are no part of the ports, so a command that loops over lanes ends at once where none waits. -/
theorem settle_each_onLane (hquiet : Quiet s) (ls : List Nat) (f : State → Nat → LaneSt → LaneSt) :
    settle (s.each ls fun s l => s.onLane e l (f s l)) = s.each ls fun s l => s.onLane e l (f s l) :=
  settle_of_quiet ((State.each_keep (fun s => s.sys.due) (fun s l => s.onLane e l (f s l)) (fun _ _ => rfl) ls s).trans hquiet)

end

/-- Nor does one change of a lane. -/
theorem settle_onLane {s : State} (hquiet : Quiet s) (e l : Nat) (f : LaneSt → LaneSt) : settle (s.onLane e l f) = s.onLane e l f :=
  settle_of_quiet hquiet

/-! ### The commands over their operations -/

theorem exec_uncorrectableCodeword (lp : LPort) (s : State) :
    exec (.uncorrectableCodeword lp) s = .next (settle (s.doUncorrectableCodeword lp)) := by rfl
theorem exec_serWindowRestart (lp : LPort) (cw sym : Nat) (s : State) :
    exec (.serWindowRestart lp cw sym) s = .next (settle (s.doSerWindowRestart lp cw sym)) := by rfl
theorem exec_holdTimerExpire (lp : LPort) (s : State) : exec (.holdTimerExpire lp) s = .next (settle (s.doHoldTimerExpire lp)) := by rfl
theorem exec_parkApply (p : Port) (s : State) : exec (.parkApply p) s = .next (settle (s.doParkApply p)) := by rfl
theorem exec_laserSample (e : Engine) (l : Lane) (x : LaserSample) (s : State) : exec (.laserSample e l x) s =
    .next (settle (s.doLaserSample e l x.bias.toNat x.bol.toNat x.txPwr.toNat x.rxPwr.toNat x.reaches)) := by rfl
theorem exec_sparePowerReady (e : Engine) (l : Lane) (s : State) :
    exec (.sparePowerReady e l) s = .next (settle (s.doSparePowerReady e l)) := by rfl
theorem exec_spareSwitchComplete (e : Engine) (l : Lane) (s : State) :
    exec (.spareSwitchComplete e l) s = .next (settle (s.doSpareSwitchComplete e l)) := by rfl
theorem exec_wearRecordWrite (e : Engine) (s : State) : exec (.wearRecordWrite e) s = .next (settle (s.doWearRecordWrite e)) := by rfl
theorem exec_eyeLimitTrip (e : Engine) (l : Lane) (s : State) :
    exec (.eyeLimitTrip e l) s = .next (settle (s.doEyeLimitTrip e l)) := by rfl
theorem exec_calInterpolate (e : Engine) (temp : BitVec 8) (s : State) :
    exec (.calInterpolate e temp) s = .next (settle (s.doCalInterpolate e temp.toNat)) := by rfl

/-- Settles O5: each command is its operation, and the operation's lemma for the case at hand gives the answer. What the FEC corrected
is told by operands (log 109); a trip that ends a switch under way, and a latched lane that is tripped still after its switch, are
readings of chapter 02 (log 21). -/
theorem opticsCommandsComplete : Obligations.OpticsCommandsComplete := by
  unfold Obligations.OpticsCommandsComplete
  refine ⟨?codeword, ?window, ?hold, ?park, ?sample, ?ready, ?complete, ?record, ?trip, ?calibration⟩
  case codeword =>
    intro lp s u hup hu hbelow
    rw [exec_uncorrectableCodeword, State.doUncorrectableCodeword_of_below hup hu hbelow]
  case window =>
    intro lp cw sym s
    exact ⟨_, exec_serWindowRestart lp cw sym s, s.pitch_doSerWindowRestart lp cw sym, s.doSerWindowRestart_eq lp cw sym⟩
  case hold =>
    intro lp s u hstart hdown hover hedge
    rw [exec_holdTimerExpire, State.doHoldTimerExpire_of_over hstart hdown hover hedge]
  case park =>
    intro p s hwant hruns
    rw [exec_parkApply, State.doParkApply_of_wanted hwant hruns]
  case sample =>
    intro e l x s hquiet hruns hstate hdefer hreach hbias
    rw [exec_laserSample, hreach, State.doLaserSample_of_healthy hruns hstate hdefer hbias,
      settle_onLane (s := s.laserRead _ _ _ _ _) hquiet]
    exact ⟨_, rfl, by simp [State.laserRead], by simp [State.laserRead], s.laserRead_sameBut e l _ _ _ _⟩
  case ready =>
    intro e l s hquiet hsw
    rw [exec_sparePowerReady, State.doSparePowerReady_of_switching hsw, settle_onLane hquiet]
  case complete =>
    intro e l s sp hsw hready
    rw [exec_spareSwitchComplete, State.doSpareSwitchComplete_of_ready hsw hready]
    refine ⟨_, rfl, ?_, ?_, ?_, ?_, s.switchDone_sameBut e l sp⟩
    all_goals simp [State.switchDone]
  case record =>
    intro e s hquiet hpower hmount
    obtain ⟨p, hp⟩ := s.hoursCredited_eq_ports e
    have hquiet' : Quiet ((s.hoursCredited e).wearStored e) := by rw [hp]; exact hquiet
    rw [exec_wearRecordWrite, State.doWearRecordWrite_of_mounted hpower hmount, settle_of_quiet hquiet']
    exact ⟨_, rfl, State.wear_wearStored _ e, s.sameBut_hoursCredited_wearStored e⟩
  case trip =>
    intro e l s hlatch hlock
    rw [exec_eyeLimitTrip, State.doEyeLimitTrip_of_lit hlatch hlock]
    refine ⟨_, rfl, by simp [State.limiterLatched], by simp [State.limiterLatched], ?_, State.lstate_limiterLatched_of_few,
      s.limiterLatched_sameBut e l⟩
    rw [State.lstate_limiterLatched]
    split
    · exact .inr rfl
    · exact .inl rfl
  case calibration =>
    intro e temp s hquiet hruns
    refine ⟨fun hbad => ?bad, fun hgood hengine => ?good⟩
    case bad =>
      rw [exec_calInterpolate, State.doCalInterpolate_of_bad hruns hbad, settle_each_onLane hquiet]
    case good =>
      rw [exec_calInterpolate, State.doCalInterpolate_of_good hruns hgood hengine, settle_each_onLane hquiet]

end Sys2Proof.Machine

/-! SUPPORT. Memory stacks, the audit, the harvest and reads that act: each command where it acts (R87, R89, R164, R167, R169, R170,
R173, R333, R340). -/

namespace Sys2Proof.Machine

/-! ### Frames of commands in several moves -/

section
variable {l : List Part} {s t u : State}

theorem SameBut.refl (l : List Part) (s : State) : SameBut l s s := by simp [SameBut]

/-- One part of the state over two moves: named by the list, or unchanged by both. -/
theorem or_eq_trans {P : Prop} {γ : Type} {a b c : γ} (hab : P ∨ b = a) (hbc : P ∨ c = b) : P ∨ c = a := by
  rcases hab with hp | rfl
  · exact .inl hp
  · exact hbc

theorem SameBut.trans (h : SameBut l s t) (k : SameBut l t u) : SameBut l s u := by
  obtain ⟨h0, h1, h2, h3, h4, h5, h6, h7, h8, h9, h10, h11, h12, h13, h14, h15, h16⟩ := h
  obtain ⟨k0, k1, k2, k3, k4, k5, k6, k7, k8, k9, k10, k11, k12, k13, k14, k15, k16⟩ := k
  exact ⟨k0.trans h0, or_eq_trans h1 k1, or_eq_trans h2 k2, or_eq_trans h3 k3, or_eq_trans h4 k4, or_eq_trans h5 k5,
    or_eq_trans h6 k6, or_eq_trans h7 k7, or_eq_trans h8 k8, or_eq_trans h9 k9, or_eq_trans h10 k10, or_eq_trans h11 k11,
    or_eq_trans h12 k12, or_eq_trans h13 k13, or_eq_trans h14 k14, or_eq_trans h15 k15, or_eq_trans h16 k16⟩

/-- What every turn leaves alone, the loop does. -/
theorem SameBut.each {f : State → Nat → State} (h : ∀ s n, SameBut l s (f s n)) (ns : List Nat) (s : State) :
    SameBut l s (s.each ns f) := by
  induction ns generalizing s with
  | nil => exact SameBut.refl l s
  | cons n ns ih => exact (h s n).trans (ih (f s n))

theorem SameBut.sys_eq (h : SameBut l s t) (hl : Part.sys ∉ l) : t.sys = s.sys := by
  obtain ⟨-, -, -, -, -, -, -, -, -, -, -, -, -, -, -, -, hsys⟩ := h
  exact hsys.resolve_left hl

end

/-! ### Memory stacks -/

section
variable {s : State} {d : Nat}

/-- A stack whose rate of refresh changes owes a recomputation of the derating (R167). -/
def State.refreshSet (s : State) (d : Nat) (b : Bool) : State :=
  (s.setStackSt d { s.stackSt d with doubled := b }).onSw fun w => { w with derateDue := true }

theorem State.doStackRefreshDouble_of_normal (h : s.stackDouble d = false) :
    s.doStackRefreshDouble d = (s.refreshSet d true).raise (deepPage 8) 12 := by
  simp only [State.doStackRefreshDouble, State.refreshRate, State.refreshSet, h, Bool.false_eq_true, if_false, if_true]

theorem State.doStackRefreshNormal_of_double (h : s.stackDouble d = true) : s.doStackRefreshNormal d = s.refreshSet d false := by
  simp only [State.doStackRefreshNormal, State.refreshRate, State.refreshSet, h, Bool.true_eq_false, Bool.false_eq_true, if_false]

/-- The self-test's end clears its mark and ends the reset of the controller (R170). -/
def State.selftestOver (s : State) (d : Nat) : State :=
  (s.onSw fun w => { w with stackTest := w.stackTest.set d false }).blockDone (9 + d)

theorem State.doStackSelftestDone_of_resetting (hreset : (s.block (9 + d)).resetting = true) (hsound : s.fatal = false) (ok : Bool) :
    s.doStackSelftestDone d ok =
      if ok then (s.selftestOver d).stackJoin d (s.sw.stackTest.getD d false)
      else (s.selftestOver d).setStackSt d { (s.selftestOver d).stackSt d with fault := true } := by
  simp only [State.doStackSelftestDone, State.selftestOver, hreset, hsound, Bool.not_true, Bool.or_self, Bool.false_eq_true, if_false]

end

/-- A derating that is due takes both factors from the stacks in service, and the deep tier's bandwidths and the state of refresh with
them; it is told where a factor changed (R167, R168, R333; log 42). -/
theorem State.doDerateRecompute_of_due {s u v w : State} (hdue : s.sw.derateDue = true)
    (hw : w = ((s.setFld (deepPage 8) DEEPT_RATE_FACTOR_FACTOR (s.deepGbps * 65536 / 40000)).setFld (deepPage 8)
      DEEPT_SPACE_FACTOR_FACTOR (s.stacksIn * 65536 / 8)).onSw (fun x => { x with derateDue := false }))
    (hu : u = ((w.setFld (deepPage 8) DEEPT_DEEP_RATE_WRITE_GBPS w.deepGbps).setFld (deepPage 8) DEEPT_DEEP_RATE_READ_GBPS
      w.deepGbps).each (List.range 8) (fun v d => v.setDoubled d (v.stackIn d && v.stackDouble d)))
    (hv : v = (if s.fld (deepPage 8) DEEPT_RATE_FACTOR_FACTOR = s.deepGbps * 65536 / 40000
      ∧ s.fld (deepPage 8) DEEPT_SPACE_FACTOR_FACTOR = s.stacksIn * 65536 / 8 then u else u.raise (deepPage 8) 0)) :
    s.doDerateRecompute = v.each (List.range 8) fun v sl =>
      ((v.each ((v.queuesOf sl).map (·.1)) fun v i => if 1024 ≤ i then v.keepTokens s sl 5 (i - 1024) else v).ratesChanged s sl).retryAll := by
  have hchanged : v = if (s.fld (deepPage 8) DEEPT_RATE_FACTOR_FACTOR ≠ s.deepGbps * 65536 / 40000
      || s.fld (deepPage 8) DEEPT_SPACE_FACTOR_FACTOR ≠ s.stacksIn * 65536 / 8) = true then u.raise (deepPage 8) 0 else u := by
    rw [hv, ← ite_not]
    congr 1
    simp only [Bool.or_eq_true, decide_eq_true_eq, Decidable.not_and_iff_not_or_not, ne_eq]
  subst hw hu
  simp only [State.doDerateRecompute, hdue, Bool.not_true, Bool.false_eq_true, if_false, hchanged]

/-! ### The conservation audit -/

section
variable {s : State}

theorem State.tokenStart_sameBut (s : State) : SameBut [.sw, .tables, .trunk] s s.tokenStart :=
  (SameBut.each (fun u k => by simp [SameBut]) _ s).trans (SameBut.each (fun u k => by simp [SameBut]) _ _)

/-- The islands' accounts and the islands left out are latched for the check (R173). -/
def State.auditLatched (s : State) : State :=
  s.tokenStart.onSw fun w => { w with
    audit := some (s.accounts (s.darkIslands ++ s.sw.auditDark)), auditDark := s.darkIslands, auditSec := some s.dtSec }

/-- The receiving end of an ACTIVE link latches its counts (R297). -/
def State.linkLatched (s : State) (p : Nat) : State :=
  s.setLink p { s.link p with
    latchDue := (List.range 8).map fun c => (c, (s.link p).inBuf.getD c 0, (s.link p).returns.getD c 0)
    returns := List.replicate 8 0, audited := [] }

/-- The ports whose fabric link is ACTIVE. -/
def State.activeLinks (s : State) : List Nat := (List.range 256).filter fun p => s.linkState p == 3

theorem State.doAuditLatch_of_due (hen : s.flag (deepPage 8) DEEPT_AUDIT_CFG_AUDIT_EN = true) (hstart : s.dtSub < 1000)
    (hsec : s.sw.auditSec ≠ some s.dtSec) :
    s.doAuditLatch = s.auditLatched.each s.auditLatched.activeLinks State.linkLatched := by
  have hgo : ¬(!s.flag (deepPage 8) DEEPT_AUDIT_CFG_AUDIT_EN || 1000 ≤ s.dtSub || s.sw.auditSec = some s.dtSec) = true := by
    simp [hen, hstart, hsec]
  exact if_neg hgo

theorem State.sw_each_linkLatched (s : State) (l : List Nat) : (s.each l State.linkLatched).sw = s.sw :=
  State.each_keep (·.sw) State.linkLatched (fun _ _ => rfl) l s

theorem State.auditLatched_links_sameBut (s : State) (l : List Nat) :
    SameBut [.sw, .tables, .trunk] s (s.auditLatched.each l State.linkLatched) :=
  (s.tokenStart_sameBut.trans (by simp [SameBut, State.auditLatched])).trans
    (SameBut.each (fun u p => by simp [SameBut, State.linkLatched]) l _)

/-- One check more, and what was latched is used up. -/
def State.auditCounted (s : State) : State :=
  (s.onSw fun w => { w with audit := none }).incFld (deepPage 8) DEEPT_AUDIT_COUNT_COUNT 1

theorem State.doAuditCheck_of_balanced {l : List (Nat × Nat × Int)} (hl : s.sw.audit = some l)
    (hnone : l ++ s.auditCounted.creditFaults = []) : s.doAuditCheck = s.auditCounted := by
  simp only [State.auditCounted] at hnone
  simp only [State.doAuditCheck, State.auditCounted, hl, hnone]

/-- The first account out of balance is captured and raised (R173). -/
theorem State.doAuditCheck_of_mismatch {l r : List (Nat × Nat × Int)} {c i : Nat} {d : Int} (hl : s.sw.audit = some l)
    (hfirst : l ++ s.auditCounted.creditFaults = (c, i, d) :: r) :
    s.doAuditCheck = (((((s.auditCounted.setFld (deepPage 8) DEEPT_AUDIT_CAPTURE_ACCOUNT c).setFld (deepPage 8)
      DEEPT_AUDIT_CAPTURE_INSTANCE i).setFld (deepPage 8) DEEPT_AUDIT_CAPTURE_VALID 1).setFld (deepPage 8) DEEPT_AUDIT_DIFF_DIFF
      (unsigned 32 d)).raise (deepPage 8) 9) := by
  simp only [State.auditCounted] at hfirst
  simp only [State.doAuditCheck, State.auditCounted, hl, hfirst]

end

/-! ### The harvest -/

section
variable {s u : State} {p : Nat}

/-- A harvest that is due writes its record where it fits, and else is dropped whole: it starts a gap or lengthens the one that stands
(R89, R404). -/
theorem State.doCounterHarvest_of_due (hen : s.flag hostPage HOST_HARVEST_CFG_EN = true) (hring : s.ringRuns 33 = true)
    (hdue : onceIn (1000000 * s.fld hostPage HOST_HARVEST_CFG_PERIOD) (mget none s.host.harvestAt p) s.now = true)
    (hu : u = s.onHost fun h => { h with harvestAt := mset none h.harvestAt p (some s.now) }) :
    s.doCounterHarvest p =
      if u.ringFits 33 ((u.ringGap 33 ++ [u.harvestBody p]).map entryLen) then
        ((u.ringGapPut 33).ringEntryPut 33 2 (u.harvestBody p)).harvestClear p
      else match (u.ring 33).gap with
        | some (n, t) => u.setRing 33 { u.ring 33 with gap := some (n + 1, t) }
        | none => (u.setRing 33 { u.ring 33 with gap := some (1, u.time.dt) }).raise hostPage 3 := by
  have hgo : ¬(!(s.flag hostPage HOST_HARVEST_CFG_EN && s.ringRuns 33)
      || !onceIn (1000000 * s.fld hostPage HOST_HARVEST_CFG_PERIOD) (mget none s.host.harvestAt p) s.now) = true := by
    simp [hen, hring, hdue]
  subst hu
  exact if_neg hgo

end

/-! ### Reads that act -/

/-- The registers whose value the read itself makes, beside the event window and the mailbox: the latched times of TIME. -/
def timeMade (page off : Nat) : Prop :=
  page = timePage ∧ (off = 0x90 ∨ off = 0x118 ∨ 0x214 ≤ off ∧ off < 0x400 ∧ (off - 0x214) % 0x80 = 0)

/-- One row of the page map whose pages are not of the type sought. -/
theorem ite_page_eq_some {p : Prop} [Decidable p] {t y : PageTy} {j i : Nat} {o : Option (PageTy × Nat)} (ht : t ≠ y) :
    (if p then some (t, j) else o) = some (y, i) ↔ ¬p ∧ o = some (y, i) := by
  split <;> simp [*]

theorem eq_timePage_of_pageOf {page i : Nat} (h : pageOf page = some (.time, i)) : page = timePage := by
  refine Decidable.byContradiction fun hne => ?_
  have h4 : ¬page = 4 := hne
  simp only [pageOf, h4, if_false, ite_page_eq_some, Option.ite_none_left_eq_some, ne_eq, reduceCtorEq, not_false_eq_true,
    and_false] at h

/-! No counter lies where a read makes its own value. -/

theorem isCtr_evtWin : isCtr hostPage 0x100 = false := by decide

theorem isCtr_mailbox : isCtr svccPage 0x114 = false := by decide

theorem isCtr_of_timeMade {page off : Nat} (h : timeMade page off) : isCtr page off = false := by
  obtain ⟨rfl, hoff⟩ := h
  have hcases : off = 0x90 ∨ off = 0x118 ∨ off = 0x214 ∨ off = 0x294 ∨ off = 0x314 ∨ off = 0x394 := by omega
  rcases hcases with rfl | rfl | rfl | rfl | rfl | rfl <;> decide

section
variable {s : State} {page off : Nat}

theorem State.readEffect_of_not_timeMade (h : ¬timeMade page off) :
    s.readEffect page off = if isCtr page off then s.latchCtr page off else s.restartPeak page off := by
  rw [State.readEffect]
  generalize (if isCtr page off then s.latchCtr page off else s.restartPeak page off) = t
  split
  next i hpage =>
    have hoff : ¬(off = 0x90 ∨ off = 0x118 ∨ 0x214 ≤ off ∧ off < 0x400 ∧ (off - 0x214) % 0x80 = 0) :=
      fun ho => h ⟨eq_timePage_of_pageOf hpage, ho⟩
    simp only [not_or] at hoff
    obtain ⟨hdt, htod, htb⟩ := hoff
    rw [if_neg hdt, if_neg (by simpa [and_assoc, -not_and] using htb), if_neg htod]
  next => rfl

theorem State.readWith_of_not_timeMade (h : ¬timeMade page off) :
    s.readWith page off = (if isCtr page off then s.latchCtr page off else s.restartPeak page off, s.readReg page off) := by
  have hmade : (page == timePage && (off == 0x90 || off == 0x118 || (0x214 ≤ off && off < 0x400 && (off - 0x214) % 0x80 == 0))) = false := by
    simpa [timeMade, and_assoc, or_assoc] using h
  simp only [State.readWith, State.readEffect_of_not_timeMade h, hmade, Bool.false_eq_true, if_false]

/-- A host read of a register that its own read does not make answers what the register held, and the read's effect follows. -/
theorem State.anyRead_of_plain (w : Who) (herr : accessError page off = 0) (hlit : s.pageDark page = false)
    (hevt : ¬(page = hostPage ∧ off = 0x100)) (hmb : ¬(page = svccPage ∧ off = 0x114)) (htime : ¬timeMade page off) :
    s.anyRead w page off =
      (if isCtr page off then (s.accessHit w 1 page).latchCtr page off else (s.accessHit w 1 page).restartPeak page off).emit
        (.completion ((s.accessHit w 1 page).readReg page off)) := by
  simp only [State.anyRead, State.hostRead, herr, hlit, State.readWith_of_not_timeMade htime, ne_eq, not_true, if_false,
    Bool.false_eq_true, Bool.and_eq_true, decide_eq_true_eq, hevt, hmb]

/-- A read of a counter's low word latches its high word (R87). -/
theorem State.doCounterLowRead_of_ctr (hctr : isCtr page off = true) (herr : accessError page off = 0) (hlit : s.pageDark page = false) :
    s.doCounterLowRead page off = ((s.accessHit .host 1 page).latchCtr page off).emit
      (.completion ((s.accessHit .host 1 page).readReg page off)) := by
  have hplain : ∀ {P : Prop}, (P → isCtr page off = false) → ¬P := fun hP hp => by simp [hP hp] at hctr
  rw [State.doCounterLowRead, if_pos hctr, State.anyRead_of_plain .host herr hlit (hplain fun ⟨hp, ho⟩ => hp ▸ ho ▸ isCtr_evtWin)
    (hplain fun ⟨hp, ho⟩ => hp ▸ ho ▸ isCtr_mailbox) (hplain isCtr_of_timeMade), if_pos hctr]

end

/-! ### The commands over their operations -/

theorem exec_stackRefreshDouble (d : Stack) (s : State) :
    exec (.stackRefreshDouble d) s = .next (settle (s.doStackRefreshDouble d)) := by rfl
theorem exec_stackRefreshNormal (d : Stack) (s : State) :
    exec (.stackRefreshNormal d) s = .next (settle (s.doStackRefreshNormal d)) := by rfl
theorem exec_derateRecompute (s : State) : exec .derateRecompute s = .next (settle s.doDerateRecompute) := by rfl
theorem exec_stackFault (d : Stack) (s : State) : exec (.stackFault d) s = .next (settle (s.stackLeave d true)) := by rfl
theorem exec_stackSelftestDone (d : Stack) (ok : Bool) (s : State) :
    exec (.stackSelftestDone d ok) s = .next (settle (s.doStackSelftestDone d ok)) := by rfl
theorem exec_auditLatch (s : State) : exec .auditLatch s = .next (settle s.doAuditLatch) := by rfl
theorem exec_auditCheck (s : State) : exec .auditCheck s = .next (settle s.doAuditCheck) := by rfl
theorem exec_counterHarvest (p : Port) (s : State) : exec (.counterHarvest p) s = .next (settle (s.doCounterHarvest p)) := by rfl
theorem exec_counterLowRead (page : Fin 16384) (off : Fin 4096) (s : State) :
    exec (.counterLowRead page off) s = .next (settle (s.doCounterLowRead page off)) := by rfl
theorem exec_peakFieldRead (page : Fin 16384) (off : Fin 4096) (s : State) :
    exec (.peakFieldRead page off) s = .next (settle (s.anyRead .host page off)) := by rfl

/-- Settles O8: each command is its operation, and the operation's lemma for the case at hand gives the answer. That a derating raises
once where either factor changes is log 42's reading; that an audit and a harvest act once in each period is log 111's. -/
theorem stacksAuditCountersComplete : Obligations.StacksAuditCountersComplete := by
  unfold Obligations.StacksAuditCountersComplete
  refine ⟨?double, ?normal, ?derate, fun d s _ => exec_stackFault d s, ?selftest, ?latch, ?check, ?harvest, ?low, ?peak, ?clear,
    ?switch, ?service⟩
  case double =>
    intro d s h
    rw [exec_stackRefreshDouble, State.doStackRefreshDouble_of_normal h, State.refreshSet]
  case normal =>
    intro d s hquiet h
    have hquiet' : Quiet (s.refreshSet d false) := hquiet
    rw [exec_stackRefreshNormal, State.doStackRefreshNormal_of_double h, settle_of_quiet hquiet', State.refreshSet]
  case derate =>
    intro s u v w hdue hw hu hv
    rw [exec_derateRecompute, State.doDerateRecompute_of_due hdue hw hu hv]
  case selftest =>
    rintro d s _ hreset hsound rfl
    simp only [exec_stackSelftestDone, State.doStackSelftestDone_of_resetting hreset hsound, State.selftestOver, if_true,
      Bool.false_eq_true, if_false, and_self]
  case latch =>
    intro s hquiet hen hstart hsec
    have hframe := s.auditLatched_links_sameBut s.auditLatched.activeLinks
    have hquiet' : Quiet (s.auditLatched.each s.auditLatched.activeLinks State.linkLatched) := by
      rw [Quiet, hframe.sys_eq (by decide)]
      exact hquiet
    rw [exec_auditLatch, State.doAuditLatch_of_due hen hstart hsec, settle_of_quiet hquiet']
    refine ⟨_, rfl, ?_, ?_, ?_, hframe⟩
    all_goals rw [State.sw_each_linkLatched]; rfl
  case check =>
    rintro s _ l hl rfl
    refine ⟨fun hquiet hnone => ?balanced, fun c i d r hfirst => ?mismatch⟩
    case balanced =>
      have hquiet' : Quiet s.auditCounted := by simpa [Quiet, State.auditCounted] using hquiet
      rw [exec_auditCheck, State.doAuditCheck_of_balanced hl hnone, settle_of_quiet hquiet', State.auditCounted]
    case mismatch => rw [exec_auditCheck, State.doAuditCheck_of_mismatch hl hfirst, State.auditCounted]
  case harvest =>
    intro p s u hen hring hdue hu
    rw [exec_counterHarvest, State.doCounterHarvest_of_due hen hring hdue hu]
    have htime : u.time = s.time := by rw [hu]; rfl
    refine ⟨fun hfits => ?_, fun hfits n t hgap => ?_, fun hfits hgap => ?_⟩
    · rw [if_pos hfits]
    · simp only [hfits, hgap, Bool.false_eq_true, if_false]
    · simp only [hfits, hgap, htime, Bool.false_eq_true, if_false]
  case low =>
    rintro page off s _ hctr herr hlit rfl
    rw [exec_counterLowRead, State.doCounterLowRead_of_ctr hctr herr hlit]
  case peak =>
    rintro page off s _ hctr herr hlit hevt hmb htime rfl
    have hmade : ¬timeMade page off := by
      rintro ⟨hp, h90 | h118 | ⟨hfrom, -, hmod⟩⟩
      · exact htime ⟨hp, .inl h90⟩
      · exact htime ⟨hp, .inr (.inl h118)⟩
      · exact htime ⟨hp, .inr (.inr ⟨hfrom, hmod⟩)⟩
    rw [exec_peakFieldRead, State.anyRead_of_plain .host herr hlit hevt hmb hmade, if_neg (by simp [hctr])]
  case clear =>
    intro e l s hlatch htrip
    rw [State.doLaneClearTrip_of_tripped htrip hlatch, State.lane_onLane]
    exact ⟨rfl, rfl⟩
  case switch =>
    exact fun e l s => ⟨State.doLaneApproveSwitch_of_pending, State.doLaneSwitchNow_of_free⟩
  case service =>
    exact fun d s => ⟨State.doStackRemove_of_in, State.doStackReturn_of_out⟩

end Sys2Proof.Machine

/-! SUPPORT. The counters of a PORT page: a read of a low word latches the high word, and a read of the high word answers the latch
(R87). -/

namespace Sys2Proof.Machine

/-! ### The rows of a PORT page's counters -/

section
variable (m : Fin 4) (i : Fin 80)

theorem rowOf_port_ctr : rowOf .port (0x200 + 0x280 * m.val + 8 * i.val) = some ⟨0x200, [(0x280, 4), (0x8, 80)], .ctr, 0x0, 0xFFFFFFFF, 0x0⟩ := by
  decide +kernel +revert

theorem rowOf_port_ctrHi :
    rowOf .port (0x200 + 0x280 * m.val + 8 * i.val + 4) = some ⟨0x204, [(0x280, 4), (0x8, 80)], .ctrHi, 0x0, 0xFFFFFFFF, 0x0⟩ := by
  decide +kernel +revert

end

/-! ### What a read of a counter changes -/

section
variable {s : State} {page off : Nat}

/-- The events of R407 count in the PERF pages, which lie below the PORT pages. -/
theorem State.ctr_accessHit_of_port (w : Who) (e pg : Nat) (hpage : 0x200 ≤ page) : (s.accessHit w e pg).ctr page off = s.ctr page off := by
  unfold State.accessHit State.perfHit
  split
  · rfl
  · refine List.foldlRecOn (motive := fun t : State => t.ctr page off = s.ctr page off) _ _ rfl fun t ih k hk => ?_
    have hk : k < 8 := List.mem_range.mp hk
    have hne : regA page off ≠ regA (perfPage 52) (0x110 + 0x20 * k) := by unfold regA perfPage; omega
    split
    · rw [State.ctr_count_ne t 1 hne, ih]
    · exact ih

/-- Beside the latched high word a counter's read changes the registers of the half-range bits at most (R87, R88). -/
theorem State.latchCtr_eq (s : State) (page off : Nat) : ∃ r, s.latchCtr page off =
    { s with regs := r, latch := mset 0 s.latch (regA page (off + 4)) (BitVec.ofNat 32 (s.ctrValue page off / 2 ^ 32)) } := by
  rw [State.latchCtr, State.readHalf]
  split
  · exact ⟨_, rfl⟩
  · exact ⟨_, rfl⟩
  · exact ⟨_, rfl⟩

variable {i : Nat} {r : RegRow} (hp : pageOf page = some (.port, i))
include hp

theorem State.ctrValue_of_port : s.ctrValue page off = s.ctr page off := by rw [State.ctrValue, hp]

theorem State.restartPeak_of_port : s.restartPeak page off = s := by rw [State.restartPeak, hp]

theorem accessError_of_port (hr : rowOf .port off = some r) (hoff : off % 4 = 0) : accessError page off = 0 := by
  simp [accessError, hp, hr, hoff]

theorem isCtr_of_port (hr : rowOf .port off = some r) : isCtr page off = (r.kind == .ctr) := by
  simp only [isCtr, hp, hr]

/-- A counter's low word reads its value, its high word what was latched (R87). -/
theorem State.readReg_of_port (hr : rowOf .port off = some r) (hoff : off ≠ 0xC) :
    (r.kind = .ctr → s.readReg page off = BitVec.ofNat 32 (s.ctr page off))
      ∧ (r.kind = .ctrHi → s.readReg page off = mget 0 s.latch (regA page off)) := by
  refine ⟨fun hk => ?_, fun hk => ?_⟩
  all_goals simp [State.readReg, hp, hr, hoff, ageAt, hk, State.ctrValue_of_port hp]

end

/-! ### The two reads -/

/-- A PORT page is none of the pages whose reads make their own values. -/
theorem ne_of_pageOf_port {page i : Nat} (hp : pageOf page = some (.port, i)) : page ≠ hostPage ∧ page ≠ svccPage ∧ page ≠ timePage := by
  refine ⟨?_, ?_, ?_⟩
  all_goals rintro rfl; cases hp

/-- The low word answers the counter's low 32 bits, and the bits from 32 on stand latched (R87). -/
theorem exec_counterLowRead_of_port {page : Fin 16384} {off : Fin 4096} {s : State} {i : Nat} {r : RegRow}
    (hp : pageOf page = some (.port, i)) (hr : rowOf .port off = some r) (hk : r.kind = .ctr) (hoff : off.val % 4 = 0)
    (hC : off.val ≠ 0xC) (hquiet : Quiet s) (hlit : s.pageDark page = false) (hpage : 0x200 ≤ page.val) :
    ∃ g, exec (.counterLowRead page off) s = .next { s.accessHit .host 1 page with
      regs := g, latch := mset 0 s.latch (regA page (off + 4)) (BitVec.ofNat 32 (s.ctr page off / 2 ^ 32))
      out := .completion (BitVec.ofNat 32 (s.ctr page off)) :: s.out } := by
  have hctr : isCtr page off = true := by rw [isCtr_of_port hp hr, hk]; rfl
  obtain ⟨g, hg⟩ := (s.accessHit .host 1 page).latchCtr_eq page off
  have hquiet' : Quiet ((s.accessHit .host 1 page).latchCtr page off) := by
    rw [hg]; simpa [Quiet] using hquiet
  rw [exec_counterLowRead, State.doCounterLowRead_of_ctr hctr (accessError_of_port hp hr hoff) hlit,
    settle_of_quiet (s := State.emit _ _) hquiet', (State.readReg_of_port hp hr hC).1 hk, hg, State.ctrValue_of_port hp,
    State.ctr_accessHit_of_port _ _ _ hpage, State.accessHit_latch]
  exact ⟨g, by simp [State.emit]⟩

/-- The high word answers what stands latched (R87). -/
theorem exec_peakFieldRead_of_port {page : Fin 16384} {off : Fin 4096} {s : State} {i : Nat} {r : RegRow}
    (hp : pageOf page = some (.port, i)) (hr : rowOf .port off = some r) (hk : r.kind = .ctrHi) (hoff : off.val % 4 = 0)
    (hC : off.val ≠ 0xC) (hquiet : Quiet s) (hlit : s.pageDark page = false) :
    exec (.peakFieldRead page off) s = .next ((s.accessHit .host 1 page).emit (.completion (mget 0 s.latch (regA page off)))) := by
  obtain ⟨hhost, hsvcc, htime⟩ := ne_of_pageOf_port hp
  have hctr : ¬isCtr page off = true := by rw [isCtr_of_port hp hr, hk]; decide
  have hquiet' : Quiet (s.accessHit .host 1 page) := by simpa [Quiet] using hquiet
  rw [exec_peakFieldRead, State.anyRead_of_plain .host (accessError_of_port hp hr hoff) hlit (fun h => hhost h.1) (fun h => hsvcc h.1)
    (fun h => htime h.1), if_neg hctr, State.restartPeak_of_port hp, settle_of_quiet (s := State.emit _ _) hquiet',
    (State.readReg_of_port hp hr hC).2 hk, State.accessHit_latch]

/-- Settles O46: the first read leaves the counter's bits from 32 on in the latch, and the second read answers the latch. -/
theorem counterHighWordLatched : Obligations.CounterHighWordLatched := by
  unfold Obligations.CounterHighWordLatched
  intro p m i page lo hi s hpage hlo hhi hquiet hlit
  have hp : pageOf page = some (.port, p.val) := hpage ▸ pageOf_portPage p
  have hfrom : 0x200 ≤ page.val := by rw [hpage, portPage]; omega
  have hrlo := hlo ▸ rowOf_port_ctr m i
  have hrhi := (hhi.trans (congrArg (· + 4) hlo)) ▸ rowOf_port_ctrHi m i
  obtain ⟨g, hread⟩ := exec_counterLowRead_of_port hp hrlo rfl (by omega) (by omega) hquiet hlit hfrom
  refine ⟨_, hread, rfl, State.ctr_accessHit_of_port _ _ _ hfrom, fun x hquietx hlitx hlatch => ?_⟩
  rw [hhi, mget_mset_self, ← hhi] at hlatch
  refine ⟨_, _, exec_peakFieldRead_of_port hp hrhi rfl (by omega) (by omega) hquietx hlitx, ?_, hlatch, fun hlt => ?_⟩
  · simp
  · rw [hlatch, BitVec.toNat_ofNat]
    omega
end Sys2Proof.Machine

/-! SUPPORT. One MAC at a time: received and sent pauses with their watchdog (R77, R80, R81, R84, R85), and verification of frame
preemption (R73, R75, R90). -/

namespace Sys2Proof.Machine

/-! ### A move of one MAC -/

section
variable {s t u : State} {lp : Nat}

/-- Beside the MAC of `lp` and its MM_STATUS register the two states agree. -/
def MacMoved (lp : Nat) (s t : State) : Prop :=
  (∀ k, k ≠ lp → t.mac k = s.mac k) ∧ SameBut [.regs, .ports] s t
    ∧ RegsBut [regA (portPage (physOf lp)) (PORT_MM_STATUS_VERIFY_STATUS.off + 0x40 * subOf lp)] s t

theorem MacMoved.trans (h : MacMoved lp s t) (k : MacMoved lp t u) : MacMoved lp s u := by
  obtain ⟨hmac, hsame, hregs⟩ := h
  obtain ⟨kmac, ksame, kregs⟩ := k
  exact ⟨fun j hj => (kmac j hj).trans (hmac j hj), hsame.trans ksame, fun a ha => (kregs a ha).trans (hregs a ha)⟩

theorem MacMoved.setMac (s : State) (lp : Nat) (m : Mac) : MacMoved lp s (s.setMac lp m) :=
  ⟨fun _ hk => s.mac_setMac_ne m hk, by simp [SameBut], fun _ _ => rfl⟩

theorem MacMoved.setMacFld (s : State) (lp : Nat) {f : Fld} (v : Nat) (hf : f.off = PORT_MM_STATUS_VERIFY_STATUS.off) :
    MacMoved lp s (s.setMacFld lp f v) := by
  refine ⟨fun _ _ => rfl, by simp [SameBut], fun a ha => ?_⟩
  rw [← hf] at ha
  exact s.setFld_rd_ne _ _ v (by simpa [Fld.sh] using ha)

theorem MacMoved.quiet (h : MacMoved lp s t) (hquiet : Quiet s) : Quiet t := by
  obtain ⟨-, hsame, -⟩ := h
  rw [Quiet, hsame.sys_eq (by decide)]
  exact hquiet

@[simp] theorem State.mac_setMacFld (s : State) (lp k : Nat) (f : Fld) (v : Nat) : (s.setMacFld lp f v).mac k = s.mac k := by rfl

theorem State.macFld_setMacFld_self (s : State) (lp : Nat) {f : Fld} (v : Nat) (hf : f.lo + f.w ≤ 32) :
    (s.setMacFld lp f v).macFld lp f = v % 2 ^ f.w := s.fld_setFld_self _ (f.sh _) v hf

theorem State.macFld_setMacFld_other (s : State) (lp : Nat) {f g : Fld} (v : Nat) (ho : g.off = f.off) (hf : f.lo + f.w ≤ 32)
    (hd : g.lo + g.w ≤ f.lo ∨ f.lo + f.w ≤ g.lo) : (s.setMacFld lp f v).macFld lp g = s.macFld lp g :=
  s.fld_setFld_other _ (f.sh _) (g.sh _) v (congrArg (· + _) ho) hf hd

/-- One bit of a field of the MAC's registers, read after it was written. -/
theorem State.testBit_setMacFld (s : State) (lp : Nat) {f : Fld} {c : Nat} (b : Bool) (hc : c < f.w) (hf : f.lo + f.w ≤ 32) :
    ((s.setMacFld lp { f with lo := f.lo + c, w := 1 } (if b then 1 else 0)).macFld lp f).testBit c = b := by
  have hbit := s.testBit_setFld (portPage (physOf lp)) (f := f.sh (0x40 * subOf lp))
    (g := Fld.sh { f with lo := f.lo + c, w := 1 } (0x40 * subOf lp)) c (if b then 1 else 0) rfl rfl rfl hc hf
  exact hbit.trans (by cases b <;> rfl)

end

/-! ### Pauses -/

section
variable {s : State} {lp c u : Nat}

theorem State.pausedRx_setPausedRx (s : State) (lp : Nat) (hc : c < 8) (b : Bool) : (s.setPausedRx lp c b).pausedRx lp c = b :=
  s.testBit_setMacFld lp b hc (by decide)

theorem State.storm_setStorm (s : State) (lp : Nat) (hc : c < 8) (b : Bool) : (s.setStorm lp c b).storm lp c = b :=
  s.testBit_setMacFld lp b hc (by decide)

theorem MacMoved.setPausedRx (s : State) (lp c : Nat) (b : Bool) : MacMoved lp s (s.setPausedRx lp c b) := MacMoved.setMacFld s lp _ rfl

theorem MacMoved.setStorm (s : State) (lp c : Nat) (b : Bool) : MacMoved lp s (s.setStorm lp c b) := MacMoved.setMacFld s lp _ rfl

theorem MacMoved.pauseClear (s : State) (lp c : Nat) : MacMoved lp s (s.pauseClear lp c) :=
  (MacMoved.setMac s lp _).trans (MacMoved.setPausedRx _ lp c false)

theorem State.mac_pauseClear (s : State) (lp c : Nat) : (s.pauseClear lp c).mac lp = { s.mac lp with
    pauseEnd := (s.mac lp).pauseEnd.set c (((s.mac lp).pauseEnd.getD c none).map fun t => min t s.now) } := by
  rw [State.pauseClear, State.setPausedRx, State.mac_setMacFld, State.mac_setMac]

/-- A place of a list that holds something is within the list, so that what is written there is read there. -/
theorem getD_set_of_getD_eq_some {α : Type} {l : List (Option α)} {c : Nat} {u : α} (h : l.getD c none = some u) (x : Option α) :
    (l.set c x).getD c none = x := by
  have hc : c < l.length := by
    refine Nat.lt_of_not_le fun hle => ?_
    rw [List.getD_eq_getElem?_getD, List.getElem?_eq_none hle] at h
    cases h
  rw [List.getD_eq_getElem?_getD, List.getElem?_set_self hc, Option.getD_some]

theorem State.pauseEnd_pauseClear (hend : (s.mac lp).pauseEnd.getD c none = some u) :
    ((s.pauseClear lp c).mac lp).pauseEnd.getD c none = some (min u s.now) := by
  rw [State.mac_pauseClear, hend]
  exact getD_set_of_getD_eq_some hend _

theorem State.doPauseExpire_of_over (hend : (s.mac lp).pauseEnd.getD c none = some u) (hover : u ≤ s.now) (hpaused : s.pausedRx lp c = true) :
    s.doPauseExpire lp c = s.pauseClear lp c := by
  simp only [State.doPauseExpire, hend, hover, hpaused, decide_true, Bool.and_self, if_true]

theorem State.doPfcRefresh_of_due (hmode : s.pauseMode lp ≠ 2) (hpausing : s.pausing lp c = true)
    (hsent : (s.mac lp).pauseSent.getD c none = some u) (habove : s.xoffLow lp c < s.pfcOcc lp c)
    (hdue : u + s.quantaNs lp (s.macFld lp PORT_PAUSE_TIME_REFRESH) ≤ s.now) :
    s.doPfcRefresh lp c = (s.sendPause lp c (s.macFld lp PORT_PAUSE_TIME_QUANTA)).setPausing lp c true := by
  simp only [State.doPfcRefresh, State.pfcMeasure, hmode, hpausing, hsent, habove, hdue, decide_true, Bool.and_self, if_true, if_false]

/-- The storm of a class is over, and the measurement of its pause begins anew (R84). -/
def State.stormOver (s : State) (lp c : Nat) : State :=
  (s.setMac lp { s.mac lp with
    stormSince := (s.mac lp).stormSince.set c none, pausedSince := (s.mac lp).pausedSince.set c none }).setStorm lp c false

theorem MacMoved.stormOver (s : State) (lp c : Nat) : MacMoved lp s (s.stormOver lp c) :=
  (MacMoved.setMac s lp _).trans (MacMoved.setStorm _ lp c false)

theorem State.stormSince_stormOver (hstorm : (s.mac lp).stormSince.getD c none = some u) :
    ((s.stormOver lp c).mac lp).stormSince.getD c none = none := by
  rw [State.stormOver, State.setStorm, State.mac_setMacFld, State.mac_setMac]
  exact getD_set_of_getD_eq_some hstorm _

theorem State.doPauseRecoveryEnd_of_over (hstorm : (s.mac lp).stormSince.getD c none = some u) (hen : s.pfcRxEn lp c = true)
    (hover : u + s.macFld lp PORT_PAUSE_WD_RECOVERY * 1000 ≤ s.dtUs) : s.doPauseRecoveryEnd lp c = s.stormOver lp c := by
  simp only [State.doPauseRecoveryEnd, State.stormOver, hstorm, hen, hover, decide_true, Bool.and_self, if_true]

/-- The pause of a class ends and its storm begins (R84, R85). -/
def State.stormBegun (s : State) (lp c : Nat) : State :=
  let t := s.pauseClear lp c
  (t.setMac lp { t.mac lp with
    pausedSince := (t.mac lp).pausedSince.set c none, stormSince := (t.mac lp).stormSince.set c (some t.dtUs) }).setStorm lp c true

theorem MacMoved.stormBegun (s : State) (lp c : Nat) : MacMoved lp s (s.stormBegun lp c) :=
  ((MacMoved.pauseClear s lp c).trans (MacMoved.setMac _ lp _)).trans (MacMoved.setStorm _ lp c true)

theorem State.pauseEnd_stormBegun (hend : (s.mac lp).pauseEnd.getD c none = some u) :
    ((s.stormBegun lp c).mac lp).pauseEnd.getD c none = some (min u s.now) := by
  rw [State.stormBegun, State.setStorm, State.mac_setMacFld, State.mac_setMac]
  exact State.pauseEnd_pauseClear hend

/-- Outside PAUSE_MODE 2 a class stands for itself (R77). -/
theorem State.doPauseWatchdog_of_over {v : Nat} (hmode : s.pauseMode lp ≠ 2) (hwd : s.macFld lp PORT_PAUSE_WD_WD_EN = 1)
    (hen : s.pfcRxEn lp c = true) (hcalm : s.storm lp c = false) (hsince : (s.mac lp).pausedSince.getD c none = some u)
    (hend : (s.mac lp).pauseEnd.getD c none = some v) (hruns : s.usEdge < v) (hpos : 0 < s.dtUs - u)
    (hover : s.macFld lp PORT_PAUSE_WD_WD_TIME * 1000 ≤ s.dtUs - u) :
    s.doPauseWatchdog lp c = ((s.stormBegun lp c).portCtr lp (72 + c)).raise (portPage (physOf lp)) (subOf lp) := by
  have hus : s.pausedUs lp c = s.dtUs - u := by simp only [State.pausedUs, hsince, hend, hruns, if_true]
  simp [State.doPauseWatchdog, State.stormClasses, State.stormBegun, State.each, hmode, hwd, hen, hcalm, hus, hpos, hover]

end

/-! ### The commands over their operations -/

theorem exec_pauseExpire (lp : LPort) (c : Cls) (s : State) : exec (.pauseExpire lp c) s = .next (settle (s.doPauseExpire lp c)) := by rfl
theorem exec_pfcRefresh (lp : LPort) (c : Cls) (s : State) : exec (.pfcRefresh lp c) s = .next (settle (s.doPfcRefresh lp c)) := by rfl
theorem exec_pauseWatchdogExpire (lp : LPort) (c : Cls) (s : State) :
    exec (.pauseWatchdogExpire lp c) s = .next (settle (s.doPauseWatchdog lp c)) := by rfl
theorem exec_pauseRecoveryEnd (lp : LPort) (c : Cls) (s : State) :
    exec (.pauseRecoveryEnd lp c) s = .next (settle (s.doPauseRecoveryEnd lp c)) := by rfl

/-- Settles O1: each command is its operation, and the operation's lemma for the case at hand gives the answer, which moves one MAC. -/
theorem pauseCommandsComplete : Obligations.PauseCommandsComplete := by
  unfold Obligations.PauseCommandsComplete
  refine ⟨?expire, ?recovery, ?refresh, ?watchdog⟩
  case expire =>
    intro lp c s u hquiet hend hover hpaused
    have hmoved := MacMoved.pauseClear s lp c
    rw [exec_pauseExpire, State.doPauseExpire_of_over hend hover hpaused, settle_of_quiet (hmoved.quiet hquiet)]
    refine ⟨_, rfl, ?_, State.pausedRx_setPausedRx _ lp c.isLt false, hmoved⟩
    rw [State.pauseEnd_pauseClear hend, Nat.min_eq_left hover]
  case recovery =>
    intro lp c s u hquiet hstorm hen hover
    have hmoved := MacMoved.stormOver s lp c
    rw [exec_pauseRecoveryEnd, State.doPauseRecoveryEnd_of_over hstorm hen hover, settle_of_quiet (hmoved.quiet hquiet)]
    exact ⟨_, rfl, State.stormSince_stormOver hstorm, State.storm_setStorm _ lp c.isLt false, hmoved⟩
  case refresh =>
    intro lp c s u hmode hpausing hsent habove hdue
    rw [exec_pfcRefresh, State.doPfcRefresh_of_due hmode hpausing hsent habove hdue]
  case watchdog =>
    intro lp c s u v hmode hwd hen hcalm hsince hend hruns hpos hover
    obtain ⟨hmac, hsame, -⟩ := MacMoved.stormBegun s lp c
    rw [exec_pauseWatchdogExpire, State.doPauseWatchdog_of_over hmode hwd hen hcalm hsince hend hruns hpos hover]
    exact ⟨_, rfl, State.storm_setStorm _ lp c.isLt true, State.pauseEnd_stormBegun hend, hmac, hsame⟩

/-! ### Verification -/

section
variable {s : State} {lp u : Nat}

/-- VERIFY_STATUS takes value `n`, no verify mPacket is due any more, and PREEMPT_ACTIVE follows (R75, R91). -/
def State.verifyEnded (s : State) (lp : Nat) (m : Mac) (n : Nat) : State :=
  ((s.setMac lp { m with verifyNext := none }).setMacFld lp PORT_MM_STATUS_VERIFY_STATUS n).syncPreempt lp

theorem MacMoved.verifyEnded (s : State) (lp : Nat) (m : Mac) (n : Nat) : MacMoved lp s (s.verifyEnded lp m n) :=
  ((MacMoved.setMac s lp _).trans (MacMoved.setMacFld _ lp n rfl)).trans (MacMoved.setMacFld _ lp _ rfl)

theorem State.verifyNext_verifyEnded (s : State) (lp : Nat) (m : Mac) (n : Nat) : ((s.verifyEnded lp m n).mac lp).verifyNext = none := by
  rw [State.verifyEnded, State.syncPreempt, State.mac_setMacFld, State.mac_setMacFld, State.mac_setMac]

/-- PREEMPT_ACTIVE is another field of MM_STATUS. -/
theorem State.verifyStatus_syncPreempt (s : State) (lp : Nat) :
    (s.syncPreempt lp).macFld lp PORT_MM_STATUS_VERIFY_STATUS = s.macFld lp PORT_MM_STATUS_VERIFY_STATUS :=
  s.macFld_setMacFld_other lp _ rfl (by decide) (by decide)

theorem State.verifyStatus_verifyEnded (s : State) (lp : Nat) (m : Mac) {n : Nat} (hn : n < 8) :
    (s.verifyEnded lp m n).macFld lp PORT_MM_STATUS_VERIFY_STATUS = n := by
  rw [State.verifyEnded, State.verifyStatus_syncPreempt, State.macFld_setMacFld_self _ lp n (by decide)]
  exact Nat.mod_eq_of_lt hn

theorem State.doVerifyReceive_of_on (hup : s.isUp lp = true) (hon : s.mmOn lp = true) :
    s.doVerifyReceive lp = s.emit (.verify lp (s.srcAddr lp) true) := by
  simp only [State.doVerifyReceive, hup, hon, Bool.and_self, if_true]

theorem State.doVerifyRespondReceive_of_running (hup : s.isUp lp = true) (hruns : s.macFld lp PORT_MM_STATUS_VERIFY_STATUS = 2) :
    s.doVerifyRespondReceive lp = s.verifyEnded lp { s.mac lp with verifyLeft := 0 } 3 := by
  simp only [State.doVerifyRespondReceive, State.verifyEnded, hup, hruns, decide_true, Bool.and_self, if_true]

/-- VERIFY_TIME has passed: the next attempt, or failure after the last (R75). -/
theorem State.doVerifyTimer_of_over (hnext : (s.mac lp).verifyNext = some u) (hover : u ≤ s.now)
    (hruns : s.macFld lp PORT_MM_STATUS_VERIFY_STATUS = 2) :
    s.doVerifyTimer lp =
      if (s.mac lp).verifyLeft = 0 then (s.verifyEnded lp (s.mac lp) 4).raise (portPage (physOf lp)) (4 + subOf lp)
      else (s.setMac lp { s.mac lp with
        verifyLeft := (s.mac lp).verifyLeft - 1, verifyNext := some (s.now + s.verifyNs lp) }).emit (.verify lp (s.srcAddr lp) false) := by
  simp only [State.doVerifyTimer, State.verifyEnded, hnext, hruns, Nat.not_lt.mpr hover, decide_false, ne_eq, not_true_eq_false,
    Bool.or_self, Bool.false_eq_true, if_false]

end

/-! ### The commands over their operations -/

theorem exec_verifyReceive (lp : LPort) (s : State) : exec (.verifyReceive lp) s = .next (settle (s.doVerifyReceive lp)) := by rfl
theorem exec_verifyRespondReceive (lp : LPort) (s : State) :
    exec (.verifyRespondReceive lp) s = .next (settle (s.doVerifyRespondReceive lp)) := by rfl
theorem exec_verifyTimer (lp : LPort) (s : State) : exec (.verifyTimer lp) s = .next (settle (s.doVerifyTimer lp)) := by rfl

/-- Settles O2: each command is its operation, and the operation's lemma for the case at hand gives the answer; an exchange that ends
moves one MAC and its MM_STATUS. -/
theorem verificationCompletes : Obligations.VerificationCompletes := by
  unfold Obligations.VerificationCompletes
  refine ⟨?receive, ?respond, ?retry, ?fail⟩
  case receive =>
    intro lp s hquiet hup hon
    rw [exec_verifyReceive, State.doVerifyReceive_of_on hup hon, settle_of_quiet (s := s.emit _) hquiet]
  case respond =>
    intro lp s hquiet hup hruns
    have hmoved := MacMoved.verifyEnded s lp { s.mac lp with verifyLeft := 0 } 3
    rw [exec_verifyRespondReceive, State.doVerifyRespondReceive_of_running hup hruns, settle_of_quiet (hmoved.quiet hquiet)]
    exact ⟨_, rfl, State.verifyStatus_verifyEnded s lp _ (by decide), State.verifyNext_verifyEnded s lp _ 3, hmoved⟩
  case retry =>
    intro lp s u hquiet hnext hover hruns hleft
    rw [exec_verifyTimer, State.doVerifyTimer_of_over hnext hover hruns, if_neg hleft,
      settle_of_quiet (s := (s.setMac _ _).emit _) hquiet]
  case fail =>
    intro lp s u hnext hover hruns hleft
    rw [exec_verifyTimer, State.doVerifyTimer_of_over hnext hover hruns, if_pos hleft]
    exact ⟨_, rfl, State.verifyStatus_verifyEnded s lp _ (by decide), State.verifyNext_verifyEnded s lp _ 4,
      MacMoved.verifyEnded s lp _ 4⟩

end Sys2Proof.Machine

/-! SUPPORT. Transmission and bobbins: what each command does where it acts (R69, R86, R146, R151, R153, R172, R181, R185, R187, R196,
R222). -/

namespace Sys2Proof.Machine

/-! ### Tree decisions -/

theorem State.treeDecide_of_empty {s : State} {p : Nat} (h : (s.nodeNow (p / 32) 2 (p % 32)).maxTok < 0) : s.treeDecide p = s := if_pos h

/-! ### Selection -/

section
variable {s u w : State} {lp i : Nat} {t : Tx} (hup : s.isUp lp = true) (hcell : s.cellOn (physOf lp) = false) (hu : u = s.cleanHeads lp)
include hup hcell hu

/-- A ready class 7 frame starts on a free MAC. -/
theorem State.doTransmitSelect_first (htx : (u.mac lp).tx = none) (hready : u.classReady lp 7 = some i) :
    s.doTransmitSelect lp = u.startTx lp i := by
  subst hu
  simp only [State.doTransmitSelect, hup, hcell, htx, hready, Bool.not_true, Bool.or_self, Bool.false_eq_true, if_false]

/-- A ready class 7 frame preempts what is in transmission where a fragment may end. -/
theorem State.doTransmitSelect_preempt (htx : (u.mac lp).tx = some t) (hready : u.classReady lp 7 = some i) :
    s.doTransmitSelect lp = if u.preemptPoint lp then (u.preemptTx lp).startTx lp i else u := by
  subst hu
  simp only [State.doTransmitSelect, hup, hcell, htx, hready, Bool.not_true, Bool.or_self, Bool.false_eq_true, if_false]

/-- Without a ready class 7 frame, a hold of the gates alone ends a fragment (R196). -/
theorem State.doTransmitSelect_busy (htx : (u.mac lp).tx = some t) (hready : u.classReady lp 7 = none) :
    s.doTransmitSelect lp = if u.heldMac lp && u.preemptPoint lp then u.preemptTx lp else u := by
  subst hu
  simp only [State.doTransmitSelect, hup, hcell, htx, hready, Bool.not_true, Bool.or_self, Bool.false_eq_true, if_false]

variable (htx : (u.mac lp).tx = none) (hready : u.classReady lp 7 = none)
include htx hready

/-- A hold keeps back a preempted frame and a due pause (R196). -/
theorem State.doTransmitSelect_held (hheld : u.heldMac lp = true) (hwait : ((u.mac lp).preempted.isSome || u.pauseDue lp) = true) :
    s.doTransmitSelect lp = u := by
  subst hu
  simp only [State.doTransmitSelect, hup, hcell, htx, hready, hheld, hwait, Bool.not_true, Bool.or_self, Bool.and_self,
    Bool.false_eq_true, if_false, if_true]

theorem State.doTransmitSelect_resume (hheld : u.heldMac lp = false) (hpre : (u.mac lp).preempted.isSome = true) :
    s.doTransmitSelect lp = u.resumeTx lp := by
  subst hu
  simp only [State.doTransmitSelect, hup, hcell, htx, hready, hheld, hpre, Bool.not_true, Bool.or_self, Bool.false_and,
    Bool.false_eq_true, if_false, if_true]

theorem State.doTransmitSelect_pause (hheld : u.heldMac lp = false) (hpre : (u.mac lp).preempted.isSome = false)
    (hdue : u.pauseDue lp = true) : s.doTransmitSelect lp = u.sendDue lp := by
  subst hu
  simp only [State.doTransmitSelect, hup, hcell, htx, hready, hheld, hpre, hdue, Bool.not_true, Bool.or_self, Bool.false_and,
    Bool.false_eq_true, if_false, if_true]

variable (hpre : (u.mac lp).preempted.isSome = false) (hdue : u.pauseDue lp = false)
include hpre hdue

theorem State.doTransmitSelect_low (hlow : u.chooseLow lp = (w, some i)) : s.doTransmitSelect lp = w.startTx lp i := by
  subst hu
  simp only [State.doTransmitSelect, hup, hcell, htx, hready, hpre, hdue, hlow, Bool.not_true, Bool.or_self, Bool.and_false,
    Bool.false_eq_true, if_false]

theorem State.doTransmitSelect_nothing (hlow : u.chooseLow lp = (w, none)) : s.doTransmitSelect lp = w.closeTrains lp := by
  subst hu
  simp only [State.doTransmitSelect, hup, hcell, htx, hready, hpre, hdue, hlow, Bool.not_true, Bool.or_self, Bool.and_false,
    Bool.false_eq_true, if_false]

end

/-! ### The end of a frame, and its underrun -/

section
variable {s u : State} {lp : Nat}

theorem State.doTransmitEnd_of_idle (htx : (s.mac lp).tx = none) : s.doTransmitEnd lp = s := by simp only [State.doTransmitEnd, htx]

theorem State.doCtUnderrun_of_idle (htx : (s.mac lp).tx = none) : s.doCtUnderrun lp = s := by simp only [State.doCtUnderrun, htx]

variable {t : Tx} {e : EFrame} (htx : (s.mac lp).tx = some t) (hframe : s.ef t.fid = some e)
include htx hframe

/-- A whole good frame leaves the MAC free and is counted, leaves the line, is mirrored where it began late, and is gone (R86, R146). -/
theorem State.doTransmitEnd_of_good (hwhole : e.complete = true) (hgood : e.bad = false) (hcopy : e.f.mirrorCopy = false)
    (hu : u = ((s.noteLate lp t).setMac lp { (s.noteLate lp t).mac lp with tx := none, gateLate := false }).txCount lp (s.txWire t e)) :
    s.doTransmitEnd lp =
      (if t.late then
        ((if 0 < t.fragments then (u.portCtr lp 67).emit (.fragment lp ((s.txWire t e).length - t.sent) true) else u).leaveLine lp t e
          (s.txWire t e) false).egressMirror lp e.f (s.txWire t e)
       else (if 0 < t.fragments then (u.portCtr lp 67).emit (.fragment lp ((s.txWire t e).length - t.sent) true) else u).leaveLine lp t e
          (s.txWire t e) false).frameGone t.fid := by
  subst hu
  simp only [State.doTransmitEnd, htx, hframe, hwhole, hgood, hcopy, Bool.not_true, Bool.false_and, Bool.or_self, Bool.false_eq_true,
    if_false]

/-- A bad frame ends with its check inverted, and what can land does (R69). -/
theorem State.doTransmitEnd_of_bad (hbad : e.bad = true) (hu : u = (s.noteLate lp t).stompTx lp) :
    s.doTransmitEnd lp =
      ((u.setMac lp { u.mac lp with gateLate := false }).landAll (queueKey (sliceOf lp) e.q)).retryAll := by
  subst hu
  simp only [State.doTransmitEnd, htx, hframe, hbad, Bool.not_true, Bool.and_false, Bool.true_or, Bool.false_eq_true, if_false, if_true]

theorem State.doTransmitEnd_of_arriving (hwhole : e.complete = false) (hgood : e.bad = false) : s.doTransmitEnd lp = s := by
  simp only [State.doTransmitEnd, htx, hframe, hwhole, hgood, Bool.not_false, Bool.and_self, if_true]

/-- A cut-through frame whose bytes are not all there breaks off (R222). -/
theorem State.doCtUnderrun_of_arriving (hwhole : e.complete = false) :
    s.doCtUnderrun lp = ((s.breakFrame t.fid true).landAll (queueKey (sliceOf lp) e.q)).retryAll := by
  simp only [State.doCtUnderrun, htx, hframe, hwhole, Bool.false_eq_true, if_false]

theorem State.doCtUnderrun_of_complete (hwhole : e.complete = true) : s.doCtUnderrun lp = s := by
  simp only [State.doCtUnderrun, htx, hframe, hwhole, if_true]

end

/-! ### Bobbins -/

section
variable {s u v : State} {sl q : Nat} {b : Bobbin}

/-- The open bobbin `b` of queue `k` begins its write, and passes from use to transit (R151). -/
def State.bobbinWriteBegun (s : State) (k : Nat) (b : Bobbin) : State :=
  ((s.setQueue k { s.queue k with bobbins := (s.queue k).bobbins.dropLast ++ [{ b with phase := 1 }] }).bobFld
    DEEPT_BOB_USED_COUNT (-1)).bobFld DEEPT_BOB_TRANSIT_COUNT 1

theorem State.doBobbinIdleWrite_of_waited (hlast : (s.queue (queueKey sl (1024 + q))).bobbins.getLast? = some b) (hopen : b.phase = 0)
    (hwait : (s.queue (queueKey sl (1024 + q))).deepAt + 1000 ≤ s.now) :
    s.doBobbinIdleWrite sl q = s.bobbinWriteBegun (queueKey sl (1024 + q)) b := by
  simp only [State.doBobbinIdleWrite, State.bobbinWriteBegun, Bobbin.startWrite, hlast, hopen, hwait, decide_true, Bool.and_self, if_true]

/-- A count of bobbins is no part of a queue. -/
theorem State.queue_bobFld (s : State) (f : Fld) (n : Int) (k : Nat) : (s.bobFld f n).queue k = s.queue k := by rfl

theorem State.queue_bobbinWriteBegun (s : State) (k : Nat) (b : Bobbin) : (s.bobbinWriteBegun k b).queue k =
    { s.queue k with bobbins := (s.queue k).bobbins.dropLast ++ [{ b with phase := 1 }] } := by
  rw [State.bobbinWriteBegun, State.queue_bobFld, State.queue_bobFld, State.queue_setQueue]

theorem State.queue_bobbinWriteBegun_ne (s : State) {j k : Nat} (b : Bobbin) (h : j ≠ k) :
    (s.bobbinWriteBegun k b).queue j = s.queue j := by
  rw [State.bobbinWriteBegun, State.queue_bobFld, State.queue_bobFld, State.queue_setQueue_ne _ _ h]

theorem State.bobbinWriteBegun_sameBut (s : State) (k : Nat) (b : Bobbin) : SameBut [.regs, .sw] s (s.bobbinWriteBegun k b) := by
  simp [SameBut, State.bobbinWriteBegun, State.bobFld]

theorem State.bobbinWriteBegun_regsBut (s : State) (k : Nat) (b : Bobbin) :
    RegsBut [regA (deepPage 8) DEEPT_BOB_USED_COUNT.off, regA (deepPage 8) DEEPT_BOB_TRANSIT_COUNT.off] s (s.bobbinWriteBegun k b) := by
  intro a ha
  obtain ⟨hused, htransit⟩ : a ≠ regA (deepPage 8) DEEPT_BOB_USED_COUNT.off ∧ a ≠ regA (deepPage 8) DEEPT_BOB_TRANSIT_COUNT.off := by
    simpa using ha
  rw [State.bobbinWriteBegun, State.bobFld, State.setFld_rd_ne _ _ _ _ htransit, State.bobFld, State.setFld_rd_ne _ _ _ _ hused]
  rfl

/-- The oldest write of a queue is done: its bobbin passes from transit to use (R151, R172). -/
theorem State.doBobbinWriteDone_of_writing
    (hfirst : ((s.queue (queueKey sl (1024 + q))).bobbins.find? fun b => b.phase = 1) = some b)
    (hu : u = s.perfHit (9 + b.stack) 0x05 (ceilDiv (b.hi - b.lo) 32) none (some 11) none none) :
    s.doBobbinWriteDone sl q =
      ((((((u.setQueue (queueKey sl (1024 + q)) { s.queue (queueKey sl (1024 + q)) with
          bobbins := storeFirst (s.queue (queueKey sl (1024 + q))).bobbins }).bobFld DEEPT_BOB_TRANSIT_COUNT (-1)).bobFld
          DEEPT_BOB_USED_COUNT 1).leaveStaging (queueKey sl (1024 + q))).purge (queueKey sl (1024 + q))).startRead sl
          (queueKey sl (1024 + q))).retryAll := by
  subst hu
  simp only [State.doBobbinWriteDone, hfirst]

/-- The bobbin under read lands and is freed (R153). -/
theorem State.doBobbinReadback_of_reading {r : List Bobbin} (hv : v = s.startRead sl (queueKey sl (1024 + q)))
    (hhead : (v.queue (queueKey sl (1024 + q))).bobbins = b :: r) (hreads : b.phase = 3)
    (hu : u = v.perfHit (9 + b.stack) 0x04 (ceilDiv (b.hi - b.lo) 32) none (some 11) none none) :
    s.doBobbinReadback sl q =
      (((((u.setQueue (queueKey sl (1024 + q)) { v.queue (queueKey sl (1024 + q)) with bobbins := r }).bobFld
          DEEPT_BOB_TRANSIT_COUNT (-1)).bobFld DEEPT_BOB_FREE_COUNT 1).landAll (queueKey sl (1024 + q))).startRead sl
          (queueKey sl (1024 + q))).retryAll := by
  subst hu hv
  simp only [State.doBobbinReadback, hhead, hreads, if_true]

end

/-! ### The commands over their operations -/

theorem exec_portTreeDecision (p : Port) (s : State) :
    exec (.portTreeDecision p) s = .next (settle (s.doPortTreeDecision p)) := by rfl
theorem exec_transmitSelect (lp : LPort) (s : State) : exec (.transmitSelect lp) s = .next (settle (s.doTransmitSelect lp)) := by rfl
theorem exec_transmitEnd (lp : LPort) (s : State) : exec (.transmitEnd lp) s = .next (settle (s.doTransmitEnd lp)) := by rfl
theorem exec_ctUnderrun (lp : LPort) (s : State) : exec (.ctUnderrun lp) s = .next (settle (s.doCtUnderrun lp)) := by rfl
theorem exec_bobbinIdleWrite (sl : Slice) (q : Fin 16384) (s : State) :
    exec (.bobbinIdleWrite sl q) s = .next (settle (s.doBobbinIdleWrite sl q)) := by rfl
theorem exec_bobbinWriteDone (sl : Slice) (q : Fin 16384) (s : State) :
    exec (.bobbinWriteDone sl q) s = .next (settle (s.doBobbinWriteDone sl q)) := by rfl
theorem exec_bobbinReadback (sl : Slice) (q : Fin 16384) (s : State) :
    exec (.bobbinReadback sl q) s = .next (settle (s.doBobbinReadback sl q)) := by rfl

/-- Settles O7: each command is its operation, and the operation's lemma for the case at hand gives the answer. -/
theorem transmissionCompletes : Obligations.TransmissionCompletes := by
  unfold Obligations.TransmissionCompletes
  refine ⟨?tree, ?select, ?frame, ?idle, ?idleWrite, ?writeDone, ?readback⟩
  case tree =>
    rintro p s _ rfl
    refine ⟨by rw [exec_portTreeDecision, State.doPortTreeDecision], fun hempty => ?_⟩
    rw [exec_portTreeDecision, State.doPortTreeDecision, State.treeDecide_of_empty hempty]
  case select =>
    intro lp s u hup hcell hu
    refine ⟨fun i htx hready => ?first, fun t i htx hready => ?preempt, fun t htx hready => ?busy, fun htx hready =>
      ⟨fun hheld hwait => ?held, fun hheld hpre => ?resume, fun hheld hpre hdue => ?pause, fun hpre hdue v hlow => ?low⟩⟩
    all_goals rw [exec_transmitSelect]
    case first => rw [State.doTransmitSelect_first hup hcell hu htx hready]
    case preempt => rw [State.doTransmitSelect_preempt hup hcell hu htx hready]
    case busy => rw [State.doTransmitSelect_busy hup hcell hu htx hready]
    case held => rw [State.doTransmitSelect_held hup hcell hu htx hready hheld hwait]
    case resume => rw [State.doTransmitSelect_resume hup hcell hu htx hready hheld hpre]
    case pause => rw [State.doTransmitSelect_pause hup hcell hu htx hready hheld hpre hdue]
    case low =>
      obtain ⟨w, _ | i⟩ := v
      · rw [State.doTransmitSelect_nothing hup hcell hu htx hready hpre hdue hlow]
      · rw [State.doTransmitSelect_low hup hcell hu htx hready hpre hdue hlow]
  case frame =>
    intro lp s t e htx hframe
    refine ⟨fun hwhole hgood hcopy u hu => ?good, fun hbad u hu => ?bad, fun hwhole => ?breaks, fun hquiet hwhole hgood => ?arriving,
      fun hquiet hwhole => ?complete⟩
    case good => rw [exec_transmitEnd, State.doTransmitEnd_of_good htx hframe hwhole hgood hcopy hu]
    case bad => rw [exec_transmitEnd, State.doTransmitEnd_of_bad htx hframe hbad hu]
    case breaks => rw [exec_ctUnderrun, State.doCtUnderrun_of_arriving htx hframe hwhole]
    case arriving => rw [exec_transmitEnd, State.doTransmitEnd_of_arriving htx hframe hwhole hgood, settle_of_quiet hquiet]
    case complete => rw [exec_ctUnderrun, State.doCtUnderrun_of_complete htx hframe hwhole, settle_of_quiet hquiet]
  case idle =>
    intro lp s hquiet htx
    rw [exec_transmitEnd, exec_ctUnderrun, State.doTransmitEnd_of_idle htx, State.doCtUnderrun_of_idle htx, settle_of_quiet hquiet]
    exact ⟨rfl, rfl⟩
  case idleWrite =>
    intro sl q s b hquiet hlast hopen hwait
    have hframe := s.bobbinWriteBegun_sameBut (queueKey sl (1024 + q)) b
    have hquiet' : Quiet (s.bobbinWriteBegun (queueKey sl (1024 + q)) b) := by
      rw [Quiet, hframe.sys_eq (by decide)]
      exact hquiet
    rw [exec_bobbinIdleWrite, State.doBobbinIdleWrite_of_waited hlast hopen hwait, settle_of_quiet hquiet']
    exact ⟨_, rfl, s.queue_bobbinWriteBegun _ b, fun k hk => s.queue_bobbinWriteBegun_ne b hk, hframe, s.bobbinWriteBegun_regsBut _ b⟩
  case writeDone =>
    intro sl q s u b hfirst hu
    rw [exec_bobbinWriteDone, State.doBobbinWriteDone_of_writing hfirst hu]
  case readback =>
    intro sl q s v u b r hv hhead hreads hu
    rw [exec_bobbinReadback, State.doBobbinReadback_of_reading hv hhead hreads hu]

end Sys2Proof.Machine

/-! SUPPORT. Events that occur or are cleared, wrong accesses, dark pages, and writes of pool buffers: what each command does where it
acts (R340, R364, R379 to R382, R390, R391, R435). -/

namespace Sys2Proof.Machine

/-! ### Occurrences -/

section
variable {s u : State} {page src cell frame i : Nat} {t : PageTy} (hp : pageOf page = some (t, i)) (hsrc : t.sources.testBit src = true)

theorem State.bufError_corrected (s : State) (sl cell frame : Nat) : s.bufError sl 0 cell frame = s.count (slcePage sl) 0x90 := if_pos rfl

/-- An uncorrectable cell is captured; the frame of this slice that holds it is discarded and counted (R435, R438). -/
theorem State.bufError_uncorrected {sl : Nat}
    (hu : u = (s.setFld (slcePage sl) SLCE_BUF_CAPTURE_CELL cell).setFlag (slcePage sl) SLCE_BUF_CAPTURE_VALID true) :
    (u.ef frame = none → s.bufError sl 1 cell frame = u)
      ∧ (∀ e, u.ef frame = some e → sliceOf e.lport = sl →
        s.bufError sl 1 cell frame = (u.breakFrame frame false).count (slcePage sl) 0x98) := by
  subst hu
  refine ⟨fun hnone => ?_, fun e hsome hslice => ?_⟩
  · simp only [State.bufError, hnone, Nat.one_ne_zero, if_false, if_true]
  · simp only [State.bufError, hsome, hslice, Nat.one_ne_zero, if_false, if_true]

include hp hsrc

/-- A source that acts on no block of its own is raised. -/
theorem State.doEventAssert_of_plain (hslce : t ≠ .slce ∨ s.srcHeld page = true) (huc : t ≠ .oeng ∨ src ≠ 22 ∨ s.ucState i ≠ 0) :
    s.doEventAssert page src cell frame = s.raise page src := by
  have hbuf : (t = .slce && !s.srcHeld page) = false := by rcases hslce with h | h <;> simp [h]
  have hucode : (t = .oeng && src = 22 && s.ucState i = 0) = false := by rcases huc with h | h | h <;> simp [h]
  simp only [State.doEventAssert, hp, hsrc, hbuf, hucode, Bool.not_true, Bool.false_eq_true, if_false]

theorem State.doEventAssert_of_slice (ht : t = .slce) (hfree : s.srcHeld page = false) :
    s.doEventAssert page src cell frame = (s.bufError i src cell frame).raise page src := by
  subst ht
  simp only [State.doEventAssert, hp, hsrc, hfree, Bool.not_true, Bool.not_false, decide_true, Bool.and_self, Bool.false_eq_true,
    if_false, if_true]

/-- MICROCODE_FAULT stops the engine's microcode (R58, R60). -/
theorem State.doEventAssert_of_microcode (ht : t = .oeng) (h22 : src = 22) (hruns : s.ucState i = 0) :
    s.doEventAssert page src cell frame = (s.setUcState i 2).raise page src := by
  subst ht h22
  simp [State.doEventAssert, hp, hsrc, hruns]

end

/-! ### Clears -/

section
variable {s : State} {w : Who} {page src seq : Nat}

/-- A clear with the source's present number clears its sticky bit; LAST_OK tells which it was (R391). -/
theorem State.doEvtClear_of_page {i : Nat} {t : PageTy} (hp : pageOf page = some (t, i)) (s : State) (src seq : Nat) :
    s.doEvtClear page src seq =
      if s.evtSeq page src = seq then (s.setEvtBit (evtStickyA page) src false).setFlag page HDR_LAST_OK true
      else s.setFlag page HDR_LAST_OK false := by
  simp only [State.doEvtClear, hp]

theorem State.doEvtClearBy_of_host (hw : w = .host ∨ w = .debug) (herr : accessError page 0x40 = 0) :
    s.doEvtClearBy w page src seq = (s.accessHit w 2 page).doEvtClear page src seq := by
  rcases hw with rfl | rfl
  all_goals simp only [State.doEvtClearBy, herr, ne_eq, not_true_eq_false, if_false]

/-- No page's header is firmware's to write (R364). -/
theorem State.fwCause_hdr (s : State) (page : Nat) {off : Nat} (hoff : off < 0x80) : s.fwCause page off = 1 := by
  have hbelow : ¬0xE00 ≤ off := by omega
  simp only [State.fwCause, hbelow, hoff, if_false, if_true]

theorem State.doEvtClearBy_of_fw {c : Cluster} {p : Pair} (hdrives : s.drives c = true) (hholds : s.isHolder c = true) :
    s.doEvtClearBy (.fw c p) page src seq = (s.fwDenied c page 0x40 1 7).accessHit (.fw c p) 3 page := by
  simp [State.doEvtClearBy, State.access, hdrives, hholds, State.fwCause_hdr]

end

/-! ### Wrong accesses and dark pages -/

section
variable {s : State} {page off : Nat} {a : Access}

theorem State.doBusErrorAccess_of_bar2 (s : State) (page off : Nat) (bad : Bool) (a : Access) :
    s.doBusErrorAccess page off true bad a = s.busError 0x3FFF off 4 (isWrite a) := if_pos rfl

theorem State.doBusErrorAccess_of_size (s : State) (page off : Nat) (a : Access) :
    s.doBusErrorAccess page off false true a = s.busError page off 3 (isWrite a) := by
  simp [State.doBusErrorAccess]

theorem State.doBusErrorAccess_of_reserved (herr : accessError page off ≠ 0) :
    s.doBusErrorAccess page off false false a = s.busError page off (accessError page off) (isWrite a) := by
  simp [State.doBusErrorAccess, herr]

/-- The header that the fault collector holds, PAGE_ID and PAGE_ISLAND read their values on a dark page (R382). -/
theorem State.darkRead_of_shown (h : hdrHeld off = true ∨ off = 0 ∨ off = 4) :
    s.darkRead page off = s.emit (.completion (s.readReg page off)) := by
  have hshown : (hdrHeld off || off = 0 || off = 4) = true := by simpa [or_assoc] using h
  rw [State.darkRead, if_pos hshown]

theorem State.darkRead_of_hidden (hhdr : hdrHeld off = false) (h0 : off ≠ 0) (h4 : off ≠ 4) :
    s.darkRead page off = (s.count hostPage 0xC0).emit (.completion 0) := by
  simp [State.darkRead, hhdr, h0, h4]

theorem State.doDarkPageAccess_read (herr : accessError page off = 0) (hdark : s.pageDark page = true) :
    s.doDarkPageAccess page off .read = (s.accessHit .host 1 page).darkRead page off := by
  simp only [State.doDarkPageAccess, herr, hdark, ne_eq, not_true_eq_false, Bool.not_true, Bool.false_eq_true, if_false]

/-- A write of the header that the fault collector holds takes effect, and any other is counted (R382). -/
theorem State.doDarkPageAccess_write (herr : accessError page off = 0) (hdark : s.pageDark page = true) (v : Word) :
    s.doDarkPageAccess page off (.write v) =
      if hdrHeld off then ((s.accessHit .host 2 page).countReserved page off v).hdrWrite page off v
      else (s.accessHit .host 2 page).count hostPage 0xC0 := by
  simp only [State.doDarkPageAccess, herr, hdark, ne_eq, not_true_eq_false, Bool.not_true, Bool.false_eq_true, if_false]

end

/-! ### Pool buffers -/

section
variable {s : State} {a : Nat} {b : List Byte}

/-- A range that lies whole in one pool is written (R380). -/
theorem State.doBar2Write_of_pool {p : Nat} (h : bar2Pool a b.length = some p) :
    s.doBar2Write a b = (s.perfHit 52 0x05 (ceilDiv b.length 32) (some 0) (some 1) none none).onSvc fun v =>
      { v with poolMem := v.poolMem.write a b } := by
  simp only [State.doBar2Write, h]

theorem State.doBar2Write_of_none (h : bar2Pool a b.length = none) : s.doBar2Write a b = s.busError 0x3FFF (a % 4096) 4 true := by
  simp only [State.doBar2Write, h]

end

/-! ### The commands over their operations -/

theorem exec_eventAssert (page : Fin 16384) (src : Fin 32) (cell : Fin 262144) (frame : Nat) (s : State) :
    exec (.eventAssert page src cell frame) s = .next (settle (s.doEventAssert page src cell frame)) := by rfl
theorem exec_evtClear (w : Who) (page : Fin 16384) (src : Fin 32) (seq : Byte) (s : State) :
    exec (.evtClear w page src seq) s = .next (settle (s.doEvtClearBy w page src seq.toNat)) := by rfl
theorem exec_busErrorAccess (page : Fin 16384) (off : Fin 4096) (bar2 bad : Bool) (a : Access) (s : State) :
    exec (.busErrorAccess page off bar2 bad a) s = .next (settle (s.doBusErrorAccess page off bar2 bad a)) := by rfl
theorem exec_darkPageAccess (page : Fin 16384) (off : Fin 4096) (a : Access) (s : State) :
    exec (.darkPageAccess page off a) s = .next (settle (s.doDarkPageAccess page off a)) := by rfl
theorem exec_bar2Write (a : Fin 67108864) (b : List Byte) (s : State) :
    exec (.bar2Write a b) s = .next (settle (s.doBar2Write a b)) := by rfl

/-- Settles O24: each command is its operation, and the operation's lemma for the case at hand gives the answer. The cell and
the frame of a BUF error are operands (R435; log 17). -/
theorem eventAndErrorCommandsComplete : Obligations.EventAndErrorCommandsComplete := by
  unfold Obligations.EventAndErrorCommandsComplete
  refine ⟨?occurs, ?clear, ?firmware, ?access, ?pool⟩
  case occurs =>
    intro page src cell frame s t i hp hsrc
    refine ⟨fun hslce huc => ?plain, fun ht hfree => ⟨fun h0 => ?corrected, fun u hu h1 => ⟨fun hnone => ?empty, fun e hsome hslice =>
      ?discards⟩⟩, fun ht h22 hruns => ?microcode⟩
    all_goals rw [exec_eventAssert]
    case plain => rw [State.doEventAssert_of_plain hp hsrc hslce huc]
    case corrected => rw [State.doEventAssert_of_slice hp hsrc ht hfree, h0, State.bufError_corrected]
    case empty => rw [State.doEventAssert_of_slice hp hsrc ht hfree, h1, (State.bufError_uncorrected hu).1 hnone]
    case discards => rw [State.doEventAssert_of_slice hp hsrc ht hfree, h1, (State.bufError_uncorrected hu).2 e hsome hslice]
    case microcode => rw [State.doEventAssert_of_microcode hp hsrc ht h22 hruns]
  case clear =>
    intro w page src seq s x t i hw hp herr hx
    refine ⟨fun hseq => ?_, fun hseq => ?_⟩
    · rw [exec_evtClear, State.doEvtClearBy_of_host hw herr, ← hx, State.doEvtClear_of_page hp, if_pos hseq]
    · rw [exec_evtClear, State.doEvtClearBy_of_host hw herr, ← hx, State.doEvtClear_of_page hp, if_neg hseq]
  case firmware =>
    intro c p page src seq s hdrives hholds
    rw [exec_evtClear, State.doEvtClearBy_of_fw hdrives hholds]
  case access =>
    intro page off a s
    refine ⟨fun bad => ?bar2, ?size, fun herr => ?reserved, ?dark, ?lit⟩
    case bar2 => rw [exec_busErrorAccess, State.doBusErrorAccess_of_bar2]
    case size => rw [exec_busErrorAccess, State.doBusErrorAccess_of_size]
    case reserved => rw [exec_busErrorAccess, State.doBusErrorAccess_of_reserved herr]
    case dark =>
      rintro herr hdark _ _ rfl rfl
      refine ⟨fun hshown => ?shown, fun hhdr h0 h4 => ?hidden, fun v => ⟨fun hhdr => ?taken, fun hhdr => ?counted⟩⟩
      all_goals rw [exec_darkPageAccess]
      case shown => rw [State.doDarkPageAccess_read herr hdark, State.darkRead_of_shown hshown]
      case hidden => rw [State.doDarkPageAccess_read herr hdark, State.darkRead_of_hidden hhdr h0 h4]
      case taken => rw [State.doDarkPageAccess_write herr hdark, if_pos hhdr]
      case counted => rw [State.doDarkPageAccess_write herr hdark, if_neg (by simp [hhdr])]
    case lit =>
      rintro herr hlit htime hsvcc hevt _ rfl
      refine ⟨fun hctr => ?low, fun hctr => ?peak⟩
      case low => rw [exec_counterLowRead, State.doCounterLowRead_of_ctr hctr herr hlit]
      case peak =>
        rw [exec_peakFieldRead, State.anyRead_of_plain .host herr hlit (fun h => hevt.elim (· h.1) (· h.2)) (fun h => hsvcc h.1)
          (fun h => htime h.1), if_neg (by simp [hctr])]
  case pool =>
    intro a b s
    refine ⟨fun p hpool => ?_, fun hnone => ?_⟩
    · rw [exec_bar2Write, State.doBar2Write_of_pool hpool]
    · rw [exec_bar2Write, State.doBar2Write_of_none hnone]

end Sys2Proof.Machine

/-! SUPPORT. Rules, templates, meters and scrubbing: each command where it acts (R95, R99, R101, R105 to R109, R139, R140). -/

namespace Sys2Proof.Machine

/-! ### Operations beside the counters of events -/

section
variable (s : State) (c : Map Nat)

@[simp] theorem State.setFld_withCtrs (pg : Nat) (f : Fld) (v : Nat) :
    (s.withCtrs c).setFld pg f v = (s.setFld pg f v).withCtrs c := (rfl)
@[simp] theorem State.setFlag_withCtrs (pg : Nat) (f : Fld) (b : Bool) :
    (s.withCtrs c).setFlag pg f b = (s.setFlag pg f b).withCtrs c := (rfl)
@[simp] theorem State.setRule_withCtrs (k : Nat) (v : RuleEntry) :
    (s.withCtrs c).setRule k v = (s.setRule k v).withCtrs c := (rfl)
@[simp] theorem State.setTemplate_withCtrs (k : Nat) (v : Template) :
    (s.withCtrs c).setTemplate k v = (s.setTemplate k v).withCtrs c := (rfl)
@[simp] theorem State.setMeter_withCtrs (k : Nat) (v : Meter) :
    (s.withCtrs c).setMeter k v = (s.setMeter k v).withCtrs c := (rfl)

@[simp] theorem State.withCtrs_withCtrs (d : Map Nat) : (s.withCtrs c).withCtrs d = s.withCtrs d := (rfl)
@[simp] theorem State.withCtrs_regs : (s.withCtrs c).regs = s.regs := (rfl)
@[simp] theorem State.rule_withCtrs (k : Nat) : (s.withCtrs c).rule k = s.rule k := (rfl)
@[simp] theorem State.template_withCtrs (k : Nat) : (s.withCtrs c).template k = s.template k := (rfl)
@[simp] theorem State.meter_withCtrs (k : Nat) : (s.withCtrs c).meter k = s.meter k := (rfl)
@[simp] theorem State.fld_withCtrs (pg : Nat) (f : Fld) : (s.withCtrs c).fld pg f = s.fld pg f := (rfl)
@[simp] theorem State.flag_withCtrs (pg : Nat) (f : Fld) : (s.withCtrs c).flag pg f = s.flag pg f := (rfl)
@[simp] theorem State.winGet_withCtrs (pg off n : Nat) : (s.withCtrs c).winGet pg off n = s.winGet pg off n := (rfl)

@[simp] theorem State.winPut_withCtrs (pg off : Nat) (ws : List Word) :
    (s.withCtrs c).winPut pg off ws = (s.winPut pg off ws).withCtrs c := by
  induction ws generalizing s off with
  | nil => rfl
  | cons w ws ih => exact ih (s.wr (regA pg off) w) (off + 4)

@[simp] theorem State.ruleRefuse_withCtrs (sl : Nat) (w : Who) (b : Bool) :
    (s.withCtrs c).ruleRefuse sl w b = (s.ruleRefuse sl w b).withCtrs c := by cases w <;> rfl

@[simp] theorem State.ruleOpen_withCtrs (sl : Nat) (w : Who) (i : Nat) :
    (s.withCtrs c).ruleOpen sl w i = s.ruleOpen sl w i := by cases w <;> rfl

@[simp] theorem State.winPut_sys (pg off : Nat) (ws : List Word) : (s.winPut pg off ws).sys = s.sys := by
  induction ws generalizing s off with
  | nil => rfl
  | cons w ws ih => exact (ih _ _).trans (s.wr_sys _ _)

@[simp] theorem State.ruleRefuse_sys (sl : Nat) (w : Who) (b : Bool) : (s.ruleRefuse sl w b).sys = s.sys := by
  cases w <;> exact s.setFld_sys _ _ _

/-- Loading a window changes registers only. -/
theorem State.winPut_sameBut (pg off : Nat) (ws : List Word) : SameBut [.regs] s (s.winPut pg off ws) := by
  induction ws generalizing s off with
  | nil => exact SameBut.refl _ s
  | cons w ws ih =>
    have hword : SameBut [.regs] s (s.wr (regA pg off) w) := by simp [SameBut]
    exact hword.trans (ih _ _)

end

/-! ### Frames -/

/-- A part that two states agree on or the list names, under a list that names more. -/
theorem SameBut.mono {l m : List Part} {s t : State} (h : SameBut l s t) (hlm : ∀ p, p ∈ l → p ∈ m) : SameBut m s t := by
  obtain ⟨h0, h1, h2, h3, h4, h5, h6, h7, h8, h9, h10, h11, h12, h13, h14, h15, h16⟩ := h
  exact ⟨h0, h1.imp_left (hlm _), h2.imp_left (hlm _), h3.imp_left (hlm _), h4.imp_left (hlm _), h5.imp_left (hlm _),
    h6.imp_left (hlm _), h7.imp_left (hlm _), h8.imp_left (hlm _), h9.imp_left (hlm _), h10.imp_left (hlm _), h11.imp_left (hlm _),
    h12.imp_left (hlm _), h13.imp_left (hlm _), h14.imp_left (hlm _), h15.imp_left (hlm _), h16.imp_left (hlm _)⟩

theorem State.withCtrs_sameBut (s : State) (c : Map Nat) : SameBut [.ctrs] s (s.withCtrs c) := by simp [SameBut, State.withCtrs]

theorem State.setMeter_sameBut (s : State) (k : Nat) (m : Meter) : SameBut [.tables] s (s.setMeter k m) := by simp [SameBut]

/-! ### Tables and stamps: what a table holds is read from the tables alone, and a stamp from device time -/

section
variable {s t : State}

theorem State.rule_of_tables (h : t.tables = s.tables) (k : Nat) : t.rule k = s.rule k := by rw [State.rule, h, State.rule]
theorem State.template_of_tables (h : t.tables = s.tables) (k : Nat) : t.template k = s.template k := by
  rw [State.template, h, State.template]
theorem State.meter_of_tables (h : t.tables = s.tables) (k : Nat) : t.meter k = s.meter k := by rw [State.meter, h, State.meter]
theorem State.stamp_of_time (h : t.time = s.time) : t.stamp = s.stamp := by
  rw [State.stamp, State.dtNs, h, State.stamp, State.dtNs]

end

/-! ### A window command acts -/

/-- A window command whose turn it is answers what its operation makes of the state, counters of events aside, where the operation
makes no severity action due. -/
theorem State.turnRow_answers {s u : State} {w : Who} {t : PageTy} {page off v : Nat} {run : State → State}
    (hturn : TakesTurn s w page off) (ht : t ≠ .schd) (hquiet : Quiet u) (hrun : ∀ j, ∃ k, run (s.withCtrs j) = u.withCtrs k) :
    ∃ c, (Host.Outcome.next (settle (s.turnRow w t page off v run)) : Res) = .next (u.withCtrs c) := by
  obtain ⟨j, k, hrow⟩ := State.turnRow_eq (v := v) hturn ht run
  obtain ⟨c, hc⟩ := hrun j
  have hrow' : s.turnRow w t page off v run = u.withCtrs k := by rw [hrow, hc]; rfl
  have hquiet' : Quiet (u.withCtrs k) := hquiet
  exact ⟨k, by rw [hrow', settle_of_quiet hquiet']⟩

/-- A window that is not busy runs its command, with REFUSED clear (R487). -/
theorem State.winBusy_of_free {s : State} {pg : Nat} {busy refused : Fld} (hfree : s.flag pg busy = false) (run : State → State) :
    s.winBusy pg busy refused run = run (s.setFld pg refused 0) := by
  simp only [State.winBusy, hfree, Bool.false_eq_true, if_false]

/-! ### Rules -/

section
variable {s : State} {sl i ver : Nat} {w : Who}

/-- The state in which a command of the rule window acts: REFUSED is clear and INDEX names the entry. -/
def State.ruleTaken (s : State) (sl : Nat) (w : Who) (i : Nat) : State :=
  (s.ruleRefuse sl w false).setFld (clsfPage sl) (CLSF_RULE_CMD_INDEX.sh (ruleWin w - 0x180)) i

@[simp] theorem State.ruleTaken_withCtrs (s : State) (c : Map Nat) (sl : Nat) (w : Who) (i : Nat) :
    (s.withCtrs c).ruleTaken sl w i = (s.ruleTaken sl w i).withCtrs c := by simp [State.ruleTaken]

@[simp] theorem State.ruleTaken_sys (s : State) (sl : Nat) (w : Who) (i : Nat) : (s.ruleTaken sl w i).sys = s.sys := by
  simp [State.ruleTaken]

/-- The entry that a rule window holds (R99). -/
def State.windowRule (s : State) (sl o ver : Nat) : RuleEntry :=
  { value := BitVec.ofNat 512 (natOf (s.winGet (clsfPage sl) (0x184 + o) 16))
    mask := BitVec.ofNat 512 (natOf (s.winGet (clsfPage sl) (0x1C4 + o) 16))
    action := BitVec.ofNat 128 (natOf [(s.winGet (clsfPage sl) (0x204 + o) 4).getD 0 0, (s.winGet (clsfPage sl) (0x204 + o) 4).getD 1 0,
      wMask ((s.winGet (clsfPage sl) (0x204 + o) 4).getD 2 0) 0xF, 0])
    ver := ver, valid := true, hits := 0 }

@[simp] theorem State.windowRule_withCtrs (s : State) (c : Map Nat) (sl o ver : Nat) :
    (s.withCtrs c).windowRule sl o ver = s.windowRule sl o ver := (rfl)

/-- An entry loaded into a rule window (R99). -/
def State.ruleShown (s : State) (sl o : Nat) (r : RuleEntry) : State :=
  (((((s.winPut (clsfPage sl) (0x184 + o) (wordsOf 16 r.value.toNat)).winPut (clsfPage sl) (0x1C4 + o) (wordsOf 16 r.mask.toNat)).winPut
    (clsfPage sl) (0x204 + o) (wordsOf 4 r.action.toNat)).winPut (clsfPage sl) (0x214 + o) (wordsOf 2 r.hits)).setFld (clsfPage sl)
    (CLSF_RULE_CMD_VER.sh o) r.ver).setFld (clsfPage sl) (CLSF_RULE_CMD_VALID.sh o) (if r.valid then 1 else 0)

@[simp] theorem State.ruleShown_withCtrs (s : State) (c : Map Nat) (sl o : Nat) (r : RuleEntry) :
    (s.withCtrs c).ruleShown sl o r = (s.ruleShown sl o r).withCtrs c := by simp [State.ruleShown]

@[simp] theorem State.ruleShown_sys (s : State) (sl o : Nat) (r : RuleEntry) : (s.ruleShown sl o r).sys = s.sys := by
  simp [State.ruleShown]

section
variable (hfree : s.flag (clsfPage sl) (CLSF_RULE_CMD_BUSY.sh (ruleWin w - 0x180)) = false) (hopen : s.ruleOpen sl w i = true)
include hfree hopen

/-- A rule window that is not busy runs a command on an entry of the requester's range (R101). -/
theorem State.ruleWindow_of_open (run : State → Nat → State) :
    s.ruleWindow sl w i run = run (s.ruleTaken sl w i) (ruleWin w - 0x180) := by
  simp only [State.ruleWindow, State.ruleTaken, hfree, hopen, Bool.not_true, Bool.or_self, Bool.false_eq_true, if_false]

theorem State.doRuleWrite_of_open (hver : ver ≠ 3)
    (hact : actionRefused ((s.ruleTaken sl w i).winGet (clsfPage sl) (0x204 + (ruleWin w - 0x180)) 4) = false) :
    s.doRuleWrite sl w i ver =
      ((s.ruleTaken sl w i).setFld (clsfPage sl) (CLSF_RULE_CMD_VER.sh (ruleWin w - 0x180)) ver).setRule (ruleKey sl i)
        ((s.ruleTaken sl w i).windowRule sl (ruleWin w - 0x180) ver) := by
  simp only [State.doRuleWrite, State.ruleWindow_of_open hfree hopen, hver, hact, decide_false, Bool.or_self, Bool.false_eq_true,
    if_false, State.windowRule]

theorem State.doRuleRead_of_open : s.doRuleRead sl w i =
    (s.ruleTaken sl w i).ruleShown sl (ruleWin w - 0x180) ((s.ruleTaken sl w i).rule (ruleKey sl i)) := by
  rw [State.doRuleRead, State.ruleWindow_of_open hfree hopen, State.ruleShown]

theorem State.doRuleInvalidate_of_open : s.doRuleInvalidate sl w i =
    (s.ruleTaken sl w i).setRule (ruleKey sl i) { (s.ruleTaken sl w i).rule (ruleKey sl i) with valid := false, hits := 0 } := by
  rw [State.doRuleInvalidate, State.ruleWindow_of_open hfree hopen]

end
end

/-! ### Templates -/

section
variable {s : State} {sl i : Nat}

/-- The state in which a command of the template window acts. -/
def State.tmplTaken (s : State) (sl i : Nat) : State :=
  (s.setFld (clsfPage sl) CLSF_CLSF_CFG_REFUSED 0).setFld (clsfPage sl) CLSF_TMPL_CMD_INDEX i

@[simp] theorem State.tmplTaken_withCtrs (s : State) (c : Map Nat) (sl i : Nat) :
    (s.withCtrs c).tmplTaken sl i = (s.tmplTaken sl i).withCtrs c := by simp [State.tmplTaken]
@[simp] theorem State.tmplTaken_sys (s : State) (sl i : Nat) : (s.tmplTaken sl i).sys = s.sys := by simp [State.tmplTaken]

/-- The unit words that the template window holds (R95). -/
def State.windowUnits (s : State) (sl : Nat) : List Word := (s.winGet (clsfPage sl) 0x108 16).map fun w => wMask w 0x3FFFF

@[simp] theorem State.windowUnits_withCtrs (s : State) (c : Map Nat) (sl : Nat) : (s.withCtrs c).windowUnits sl = s.windowUnits sl := (rfl)

section
variable (hfree : s.flag (clsfPage sl) CLSF_TMPL_CMD_BUSY = false)
include hfree

theorem State.doTemplateWrite_of_free (hcheck : templateRefused ((s.tmplTaken sl i).windowUnits sl) = false) :
    s.doTemplateWrite sl i = (s.tmplTaken sl i).setTemplate (tmplKey sl i)
      { base := (s.tmplTaken sl i).flag (clsfPage sl) CLSF_TMPL_CFG_BASE, units := (s.tmplTaken sl i).windowUnits sl } := by
  simp only [State.windowUnits, State.tmplTaken] at hcheck ⊢
  simp only [State.doTemplateWrite, State.winBusy_of_free hfree, hcheck, Bool.false_eq_true, if_false]

theorem State.doTemplateRead_of_free : s.doTemplateRead sl i =
    ((s.tmplTaken sl i).setFlag (clsfPage sl) CLSF_TMPL_CFG_BASE (s.template (tmplKey sl i)).base).winPut (clsfPage sl) 0x108
      (s.template (tmplKey sl i)).units := by
  have hkept : (s.setFld (clsfPage sl) CLSF_CLSF_CFG_REFUSED 0).template (tmplKey sl i) = s.template (tmplKey sl i) :=
    State.template_of_tables (s.setFld_tables _ _ _) _
  simp only [State.doTemplateRead, State.winBusy_of_free hfree, hkept, State.tmplTaken]

end
end

/-! ### Meters -/

section
variable {s : State} {sl i : Nat}

/-- The state in which a command of the meter window acts. -/
def State.metrTaken (s : State) (sl i : Nat) : State :=
  (s.setFld (metrPage sl) METR_METR_CFG_REFUSED 0).setFld (metrPage sl) METR_MTR_CMD_INDEX i

@[simp] theorem State.metrTaken_withCtrs (s : State) (c : Map Nat) (sl i : Nat) :
    (s.withCtrs c).metrTaken sl i = (s.metrTaken sl i).withCtrs c := by simp [State.metrTaken]
@[simp] theorem State.metrTaken_sys (s : State) (sl i : Nat) : (s.metrTaken sl i).sys = s.sys := by simp [State.metrTaken]
@[simp] theorem State.metrTaken_tables (s : State) (sl i : Nat) : (s.metrTaken sl i).tables = s.tables := by simp [State.metrTaken]
@[simp] theorem State.metrTaken_time (s : State) (sl i : Nat) : (s.metrTaken sl i).time = s.time := by simp [State.metrTaken]

/-- Taking a command changes registers only. -/
theorem State.metrTaken_sameBut (s : State) (sl i : Nat) : SameBut [.regs] s (s.metrTaken sl i) := by simp [SameBut, State.metrTaken]

/-- A meter with the window's configuration, brought to now: its buckets are full once `Meter.fill` is taken (R107, log 114). -/
def State.windowMeter (s : State) (sl : Nat) (m : Meter) : Meter :=
  { m with
    cir := s.fld (metrPage sl) METR_MTR_CIR_RATE, cbs := s.fld (metrPage sl) METR_MTR_CBS_BURST
    eir := s.fld (metrPage sl) METR_MTR_EIR_RATE, ebs := s.fld (metrPage sl) METR_MTR_EBS_BURST
    mode := wMask (s.rd (regA (metrPage sl) 0x114)) 0x3FF, resC := 0, resE := 0, last := s.stamp }

@[simp] theorem State.windowMeter_withCtrs (s : State) (c : Map Nat) (sl : Nat) (m : Meter) :
    (s.withCtrs c).windowMeter sl m = s.windowMeter sl m := (rfl)

/-- A meter's configuration as the window shows it. -/
def Meter.configWords (m : Meter) : List Word :=
  [BitVec.ofNat 32 m.cir, BitVec.ofNat 32 m.cbs, BitVec.ofNat 32 m.eir, BitVec.ofNat 32 m.ebs, m.mode]

/-- A meter's six counters moved into the page's (R108). -/
def State.meterCounted (s : State) (sl : Nat) (m : Meter) : State :=
  s.each (List.range 3) fun s k =>
    (s.setCtr (metrPage sl) (0x120 + 0x10 * k) (m.frames.getD k 0)).setCtr (metrPage sl) (0x128 + 0x10 * k) (m.bytes.getD k 0)

theorem State.meterCounted_eq (s : State) (sl : Nat) (m : Meter) : ∃ k, s.meterCounted sl m = s.withCtrs k :=
  ctrs_foldl _ (fun _ _ => ⟨_, rfl⟩) _ s

/-- A meter's configuration and buckets loaded into the window (R108). -/
def State.meterShown (s : State) (sl : Nat) (m : Meter) : State :=
  (s.winPut (metrPage sl) 0x104 m.configWords).winPut (metrPage sl) 0x150 [BitVec.ofNat 32 (m.tc / 4096), BitVec.ofNat 32 (m.te / 4096)]

@[simp] theorem State.meterShown_withCtrs (s : State) (c : Map Nat) (sl : Nat) (m : Meter) :
    (s.withCtrs c).meterShown sl m = (s.meterShown sl m).withCtrs c := by simp [State.meterShown]
@[simp] theorem State.meterShown_sys (s : State) (sl : Nat) (m : Meter) : (s.meterShown sl m).sys = s.sys := by simp [State.meterShown]

theorem State.meterShown_sameBut (s : State) (sl : Nat) (m : Meter) : SameBut [.regs] s (s.meterShown sl m) :=
  (s.winPut_sameBut _ _ _).trans (State.winPut_sameBut _ _ _ _)

/-- A fill brings both buckets to their bursts (R107). -/
@[simp] theorem Meter.tc_fill (m : Meter) : m.fill.tc = m.cbs * 4096 := (rfl)
@[simp] theorem Meter.te_fill (m : Meter) : m.fill.te = m.ebs * 4096 := (rfl)

theorem State.doMeterRefill_of_enabled (hen : (s.meter (meterKey sl i)).en = true) :
    s.doMeterRefill sl i = s.setMeter (meterKey sl i) ((s.meter (meterKey sl i)).refill s.stamp) := if_pos hen

section
variable (hfree : s.flag (metrPage sl) METR_MTR_CMD_BUSY = false)
include hfree

/-- A rate of 0 needs no burst; any other needs 12,288 bytes (R105). -/
theorem State.doMeterWrite_of_bursts
    (hc : (s.metrTaken sl i).fld (metrPage sl) METR_MTR_CIR_RATE = 0 ∨ 12288 ≤ (s.metrTaken sl i).fld (metrPage sl) METR_MTR_CBS_BURST)
    (he : (s.metrTaken sl i).fld (metrPage sl) METR_MTR_EIR_RATE = 0 ∨ 12288 ≤ (s.metrTaken sl i).fld (metrPage sl) METR_MTR_EBS_BURST) :
    s.doMeterWrite sl i = (s.metrTaken sl i).setMeter (meterKey sl i)
      ((s.metrTaken sl i).windowMeter sl (s.meter (meterKey sl i))).fill := by
  have hkept : (s.metrTaken sl i).meter (meterKey sl i) = s.meter (meterKey sl i) := State.meter_of_tables (s.metrTaken_tables sl i) _
  have htaken : s.metrTaken sl i = (s.setFld (metrPage sl) METR_METR_CFG_REFUSED 0).setFld (metrPage sl) METR_MTR_CMD_INDEX i := rfl
  have hgo : ¬(0 < (s.metrTaken sl i).fld (metrPage sl) METR_MTR_CIR_RATE && (s.metrTaken sl i).fld (metrPage sl) METR_MTR_CBS_BURST < 12288
      || 0 < (s.metrTaken sl i).fld (metrPage sl) METR_MTR_EIR_RATE && (s.metrTaken sl i).fld (metrPage sl) METR_MTR_EBS_BURST < 12288)
      = true := by
    simp only [Bool.or_eq_true, Bool.and_eq_true, decide_eq_true_eq]
    omega
  simp only [State.doMeterWrite, State.winBusy_of_free hfree, ← htaken, if_neg hgo, hkept, State.windowMeter]

/-- The window shows the meter; its six counters move into the page's. -/
theorem State.doMeterRead_of_free : ∃ k, s.doMeterRead sl i =
    ((s.metrTaken sl i).meterShown sl (s.meter (meterKey sl i))).withCtrs k := by
  have hkept : (s.setFld (metrPage sl) METR_METR_CFG_REFUSED 0).meter (meterKey sl i) = s.meter (meterKey sl i) :=
    State.meter_of_tables (s.setFld_tables _ _ _) _
  obtain ⟨k, hcounted⟩ := ((s.metrTaken sl i).winPut (metrPage sl) 0x104 (s.meter (meterKey sl i)).configWords).meterCounted_eq sl
    (s.meter (meterKey sl i))
  refine ⟨k, ?_⟩
  simp only [State.meterCounted, State.metrTaken, Meter.configWords] at hcounted
  simp only [State.doMeterRead, State.winBusy_of_free hfree, hkept, hcounted, State.winPut_withCtrs, State.meterShown, State.metrTaken,
    Meter.configWords]

end
end

/-! ### Scrubbing -/

section
variable {s : State} {sl i : Nat} {t : ScrubTable}

/-- A step that is due is noted as this period's (R139; log 111). -/
def State.scrubNoted (s : State) (k : Nat) : State :=
  if s.scrubDue k then s.onTables fun x => { x with scrubbed := mset none x.scrubbed k (some s.now) } else s

@[simp] theorem State.scrubNoted_sys (s : State) (k : Nat) : (s.scrubNoted k).sys = s.sys := by
  unfold State.scrubNoted; split <;> rfl
@[simp] theorem State.scrubNoted_rule (s : State) (k j : Nat) : (s.scrubNoted k).rule j = s.rule j := by
  unfold State.scrubNoted; split <;> rfl
@[simp] theorem State.scrubNoted_meter (s : State) (k j : Nat) : (s.scrubNoted k).meter j = s.meter j := by
  unfold State.scrubNoted; split <;> rfl

theorem State.doScrub_clean (s : State) (sl : Nat) (t : ScrubTable) (i : Nat) :
    s.doScrub sl t i .clean = s.scrubNoted (scrubKey sl t i) := by rfl

theorem State.doScrub_uncorrectable (s : State) (sl : Nat) (t : ScrubTable) (i : Nat) (b : BitVec 8) :
    s.doScrub sl t i (.uncorrectable b) = (s.scrubNoted (scrubKey sl t i)).scrubLost sl t i b := by rfl

theorem State.doScrub_corrected_of_not_due (h : s.scrubDue (scrubKey sl t i) = false) : s.doScrub sl t i .corrected = s := by
  simp only [State.doScrub, h, Bool.not_false, Bool.false_eq_true, if_false, if_true]

/-- A corrected entry is counted and raised, by a meter's and a classifier table's own page as well (R109, R139). -/
theorem State.doScrub_corrected_of_due {u : State} (h : s.scrubDue (scrubKey sl t i) = true)
    (hu : u = ((s.scrubNoted (scrubKey sl t i)).tblCtr 10).raise tblsPage 2) :
    s.doScrub sl t i .corrected =
      if t = .meter then u.raise (metrPage sl) 0
      else if t = .rule ∨ t = .template ∨ t = .selector ∨ t = .defAct then u.raise (clsfPage sl) 1 else u := by
  simp only [State.doScrub, State.scrubNoted, h, Bool.not_true, Bool.false_eq_true, if_false, if_true] at hu ⊢
  subst hu
  cases t <;> rfl

/-- The state in which an uncorrectable rule is raised: it is invalid, counted and captured (R109). -/
def State.ruleLost (s : State) (sl i : Nat) : State :=
  ((((s.tblCtr 11).setRule (ruleKey sl i) { s.rule (ruleKey sl i) with valid := false }).setFld (clsfPage sl) CLSF_ECC_CAPTURE_INDEX
    i).setFld (clsfPage sl) CLSF_ECC_CAPTURE_VALID 1).eccCapture 9 i sl

/-- The state in which an uncorrectable meter is raised: it is full, counted and captured (R109). -/
def State.meterLost (s : State) (sl i : Nat) : State :=
  ((((s.tblCtr 11).setMeter (meterKey sl i) (s.meter (meterKey sl i)).fill).setFld (metrPage sl) METR_ECC_CAPTURE_INDEX
    i).setFld (metrPage sl) METR_ECC_CAPTURE_VALID 1).eccCapture 9 i sl

theorem State.scrubLost_rule (s : State) (sl i : Nat) (b : BitVec 8) :
    s.scrubLost sl .rule i b = (s.ruleLost sl (i % 16384)).raise (clsfPage sl) 2 := by rfl

theorem State.scrubLost_meter (s : State) (sl i : Nat) (b : BitVec 8) :
    s.scrubLost sl .meter i b = (s.meterLost sl (i % 32768)).raise (metrPage sl) 1 := by rfl

@[simp] theorem State.tblCtr_tables (s : State) (n : Nat) : (s.tblCtr n).tables = s.tables := s.count_tables _ _ _
@[simp] theorem State.eccCapture_tables (s : State) (code slot sl : Nat) : (s.eccCapture code slot sl).tables = s.tables := by
  simp [State.eccCapture]

theorem State.ruleLost_rule (s : State) (sl i k : Nat) : (s.ruleLost sl i).rule k =
    ((s.tblCtr 11).setRule (ruleKey sl i) { s.rule (ruleKey sl i) with valid := false }).rule k :=
  State.rule_of_tables (by simp [State.ruleLost]) k

theorem State.meterLost_meter (s : State) (sl i k : Nat) : (s.meterLost sl i).meter k =
    ((s.tblCtr 11).setMeter (meterKey sl i) (s.meter (meterKey sl i)).fill).meter k :=
  State.meter_of_tables (by simp [State.meterLost]) k

end

/-! ### The commands over their operations -/

theorem exec_ruleWrite (sl : Slice) (w : Who) (i : Fin 16384) (ver : Fin 4) (s : State) : exec (.ruleWrite sl w i ver) s =
    .next (settle (s.turnRow w .clsf (clsfPage sl) (if whoFw w then 0x280 else 0x180) (i + 16384 + 65536 * ver)
      fun s => s.doRuleWrite sl w i ver)) := by rfl
theorem exec_ruleRead (sl : Slice) (w : Who) (i : Fin 16384) (s : State) : exec (.ruleRead sl w i) s =
    .next (settle (s.turnRow w .clsf (clsfPage sl) (if whoFw w then 0x280 else 0x180) (i + 32768) fun s => s.doRuleRead sl w i)) := by rfl
theorem exec_ruleInvalidate (sl : Slice) (w : Who) (i : Fin 16384) (s : State) : exec (.ruleInvalidate sl w i) s =
    .next (settle (s.turnRow w .clsf (clsfPage sl) (if whoFw w then 0x280 else 0x180) (i + 49152)
      fun s => s.doRuleInvalidate sl w i)) := by rfl
theorem exec_templateWrite (sl : Slice) (i : Fin 64) (s : State) : exec (.templateWrite sl i) s =
    .next (settle (s.turnRow .host .clsf (clsfPage sl) 0x100 (i + 0x40) fun s => s.doTemplateWrite sl i)) := by rfl
theorem exec_templateRead (sl : Slice) (i : Fin 64) (s : State) : exec (.templateRead sl i) s =
    .next (settle (s.turnRow .host .clsf (clsfPage sl) 0x100 (i + 0x80) fun s => s.doTemplateRead sl i)) := by rfl
theorem exec_meterWrite (sl : Slice) (i : Fin 32768) (s : State) : exec (.meterWrite sl i) s =
    .next (settle (s.turnRow .host .metr (metrPage sl) 0x100 (i + 0x8000) fun s => s.doMeterWrite sl i)) := by rfl
theorem exec_meterRead (sl : Slice) (i : Fin 32768) (s : State) : exec (.meterRead sl i) s =
    .next (settle (s.turnRow .host .metr (metrPage sl) 0x100 (i + 0x10000) fun s => s.doMeterRead sl i)) := by rfl
theorem exec_meterRefill (sl : Slice) (i : Fin 32768) (s : State) :
    exec (.meterRefill sl i) s = .next (settle (s.doMeterRefill sl i)) := by rfl
theorem exec_scrubStep (sl : Slice) (t : ScrubTable) (i : Fin 1048576) (f : ScrubFind) (s : State) :
    exec (.scrubStep sl t i f) s = .next (settle (s.doScrub sl t i f)) := by rfl

/-! ### Where the commands act -/

section
variable {s : State} {sl : Slice} {w : Who} {i : Fin 16384}
  (hturn : TakesTurn s w (clsfPage sl) (if whoFw w then 0x280 else 0x180)) (hquiet : Quiet s)
  (hfree : s.flag (clsfPage sl) (CLSF_RULE_CMD_BUSY.sh (ruleWin w - 0x180)) = false) (hopen : s.ruleOpen sl w i = true)
include hturn hquiet hfree hopen

theorem exec_ruleWrite_of_open {ver : Fin 4} (hver : ver ≠ 3)
    (hact : actionRefused ((s.ruleTaken sl w i).winGet (clsfPage sl) (0x204 + (ruleWin w - 0x180)) 4) = false) :
    ∃ c, exec (.ruleWrite sl w i ver) s =
      .next ((((s.ruleTaken sl w i).setFld (clsfPage sl) (CLSF_RULE_CMD_VER.sh (ruleWin w - 0x180)) ver).setRule (ruleKey sl i)
        ((s.ruleTaken sl w i).windowRule sl (ruleWin w - 0x180) ver)).withCtrs c) := by
  have hver' : ver.val ≠ 3 := fun h => hver (Fin.ext h)
  rw [exec_ruleWrite]
  refine State.turnRow_answers hturn (by decide) (by simpa [Quiet] using hquiet) fun j => ⟨j, ?_⟩
  rw [State.doRuleWrite_of_open (s := s.withCtrs j) hfree (by simpa using hopen) hver' (by simpa using hact)]
  simp

theorem exec_ruleRead_of_open : ∃ c, exec (.ruleRead sl w i) s = .next (((s.ruleTaken sl w i).ruleShown sl (ruleWin w - 0x180)
    ((s.ruleTaken sl w i).rule (ruleKey sl i))).withCtrs c) := by
  rw [exec_ruleRead]
  refine State.turnRow_answers hturn (by decide) (by simpa [Quiet] using hquiet) fun j => ⟨j, ?_⟩
  rw [State.doRuleRead_of_open (s := s.withCtrs j) hfree (by simpa using hopen)]
  simp

theorem exec_ruleInvalidate_of_open : ∃ c, exec (.ruleInvalidate sl w i) s = .next (((s.ruleTaken sl w i).setRule (ruleKey sl i)
    { (s.ruleTaken sl w i).rule (ruleKey sl i) with valid := false, hits := 0 }).withCtrs c) := by
  rw [exec_ruleInvalidate]
  refine State.turnRow_answers hturn (by decide) (by simpa [Quiet] using hquiet) fun j => ⟨j, ?_⟩
  rw [State.doRuleInvalidate_of_open (s := s.withCtrs j) hfree (by simpa using hopen)]
  simp

end

section
variable {s : State} {sl : Slice} {i : Fin 64} (hturn : TakesTurn s .host (clsfPage sl) 0x100) (hquiet : Quiet s)
  (hfree : s.flag (clsfPage sl) CLSF_TMPL_CMD_BUSY = false)
include hturn hquiet hfree

theorem exec_templateWrite_of_free (hcheck : templateRefused ((s.tmplTaken sl i).windowUnits sl) = false) :
    ∃ c, exec (.templateWrite sl i) s = .next (((s.tmplTaken sl i).setTemplate (tmplKey sl i)
      { base := (s.tmplTaken sl i).flag (clsfPage sl) CLSF_TMPL_CFG_BASE, units := (s.tmplTaken sl i).windowUnits sl }).withCtrs c) := by
  rw [exec_templateWrite]
  refine State.turnRow_answers hturn (by decide) (by simpa [Quiet] using hquiet) fun j => ⟨j, ?_⟩
  rw [State.doTemplateWrite_of_free (s := s.withCtrs j) hfree (by simpa using hcheck)]
  simp

theorem exec_templateRead_of_free : ∃ c, exec (.templateRead sl i) s =
    .next ((((s.tmplTaken sl i).setFlag (clsfPage sl) CLSF_TMPL_CFG_BASE (s.template (tmplKey sl i)).base).winPut (clsfPage sl) 0x108
      (s.template (tmplKey sl i)).units).withCtrs c) := by
  rw [exec_templateRead]
  refine State.turnRow_answers hturn (by decide) (by simpa [Quiet] using hquiet) fun j => ⟨j, ?_⟩
  rw [State.doTemplateRead_of_free (s := s.withCtrs j) hfree]
  simp

end

section
variable {s : State} {sl : Slice} {i : Fin 32768} (hturn : TakesTurn s .host (metrPage sl) 0x100) (hquiet : Quiet s)
  (hfree : s.flag (metrPage sl) METR_MTR_CMD_BUSY = false)
include hturn hquiet hfree

theorem exec_meterWrite_of_bursts
    (hc : (s.metrTaken sl i).fld (metrPage sl) METR_MTR_CIR_RATE = 0 ∨ 12288 ≤ (s.metrTaken sl i).fld (metrPage sl) METR_MTR_CBS_BURST)
    (he : (s.metrTaken sl i).fld (metrPage sl) METR_MTR_EIR_RATE = 0 ∨ 12288 ≤ (s.metrTaken sl i).fld (metrPage sl) METR_MTR_EBS_BURST) :
    ∃ c, exec (.meterWrite sl i) s = .next (((s.metrTaken sl i).setMeter (meterKey sl i)
      ((s.metrTaken sl i).windowMeter sl (s.meter (meterKey sl i))).fill).withCtrs c) := by
  rw [exec_meterWrite]
  refine State.turnRow_answers hturn (by decide) (by simpa [Quiet] using hquiet) fun j => ⟨j, ?_⟩
  rw [State.doMeterWrite_of_bursts (s := s.withCtrs j) hfree (by simpa using hc) (by simpa using he)]
  simp

theorem exec_meterRead_of_free : ∃ c, exec (.meterRead sl i) s =
    .next (((s.metrTaken sl i).meterShown sl (s.meter (meterKey sl i))).withCtrs c) := by
  rw [exec_meterRead]
  refine State.turnRow_answers hturn (by decide) (by simpa [Quiet] using hquiet) fun j => ?_
  obtain ⟨k, hread⟩ := State.doMeterRead_of_free (s := s.withCtrs j) (i := i) hfree
  exact ⟨k, by rw [hread, State.metrTaken_withCtrs, State.meterShown_withCtrs, State.meter_withCtrs,
    State.withCtrs_withCtrs]⟩

end

/-- Settles O10: each window command is its operation on the state let in, whose lemma for the case at hand gives the answer; a scrub
step is the operation of what was found. That a meter write sets the last update to the instant of the write is log 114's reading; that
an entry is scrubbed once in a period is log 111's; that a window command waits for earlier writes to its page is log 112. -/
theorem classifierCommandsComplete : Obligations.ClassifierCommandsComplete := by
  unfold Obligations.ClassifierCommandsComplete
  refine ⟨?rule, ?template, ?meter, ?refill, ?scrub, ?lostRule, ?lostMeter⟩
  case rule =>
    intro sl w i s u pg o hturn hquiet hpg ho hfree hopen hu
    subst pg o
    obtain rfl : u = s.ruleTaken sl w i := hu
    exact ⟨fun ver hver hact => exec_ruleWrite_of_open hturn hquiet hfree hopen hver hact,
      exec_ruleRead_of_open hturn hquiet hfree hopen, exec_ruleInvalidate_of_open hturn hquiet hfree hopen⟩
  case template =>
    rintro sl i s u pg hturn hquiet rfl hfree hu
    obtain rfl : u = s.tmplTaken sl i := hu
    exact ⟨fun hcheck => exec_templateWrite_of_free hturn hquiet hfree hcheck, exec_templateRead_of_free hturn hquiet hfree⟩
  case meter =>
    rintro sl i s u pg hturn hquiet rfl hfree hu
    obtain rfl : u = s.metrTaken sl i := hu
    have hstamp : (s.metrTaken sl i).stamp = s.stamp := State.stamp_of_time (s.metrTaken_time sl i)
    refine ⟨fun hc he => ?write, ?read⟩
    case write =>
      obtain ⟨c, hexec⟩ := exec_meterWrite_of_bursts hturn hquiet hfree hc he
      refine ⟨_, hexec, ?frame, ?regs, ?stored, ?bucketC, ?bucketE, fun k hk => ?others⟩
      case frame =>
        exact ((s.metrTaken_sameBut sl i).mono (by decide)).trans
          (((State.setMeter_sameBut _ _ _).mono (by decide)).trans ((State.withCtrs_sameBut _ c).mono (by decide)))
      case regs => rw [State.withCtrs_regs, State.setMeter_regs]
      case stored => rw [State.meter_withCtrs, State.meter_setMeter, State.windowMeter, hstamp]
      case bucketC => rw [State.meter_withCtrs, State.meter_setMeter, Meter.tc_fill, State.windowMeter]
      case bucketE => rw [State.meter_withCtrs, State.meter_setMeter, Meter.te_fill, State.windowMeter]
      case others =>
        rw [State.meter_withCtrs, State.meter_setMeter_ne _ _ hk, State.meter_of_tables (s.metrTaken_tables sl i)]
    case read =>
      obtain ⟨c, hexec⟩ := exec_meterRead_of_free hturn hquiet hfree
      refine ⟨_, hexec, ?frame, by rw [State.withCtrs_regs, State.meterShown, Meter.configWords]⟩
      exact ((s.metrTaken_sameBut sl i).mono (by decide)).trans
        (((State.meterShown_sameBut _ sl _).mono (by decide)).trans ((State.withCtrs_sameBut _ c).mono (by decide)))
  case refill =>
    intro sl i s hquiet hen
    rw [exec_meterRefill, State.doMeterRefill_of_enabled hen, settle_of_quiet (by simpa using hquiet)]
  case scrub =>
    intro sl t i s u hquiet hu
    have hnoted : u = s.scrubNoted (scrubKey sl t i) := hu
    refine ⟨?clean, fun hdue => ?early, fun hdue => ?due⟩
    case clean => rw [exec_scrubStep, State.doScrub_clean, settle_of_quiet (by simpa using hquiet), hnoted]
    case early => rw [exec_scrubStep, State.doScrub_corrected_of_not_due hdue, settle_of_quiet hquiet]
    case due => rw [exec_scrubStep, State.doScrub_corrected_of_due hdue rfl, hnoted]
  case lostRule =>
    rintro sl i s k b rfl
    refine ⟨(s.scrubNoted (scrubKey sl .rule i)).ruleLost sl (i % 16384), ?_, ?_, fun j hj => ?_⟩
    · rw [exec_scrubStep, State.doScrub_uncorrectable, State.scrubLost_rule]
    · simp [State.ruleLost_rule]
    · rw [State.ruleLost_rule, State.rule_setRule_ne _ _ hj, State.rule_of_tables (State.tblCtr_tables _ _), State.scrubNoted_rule]
  case lostMeter =>
    rintro sl i s k b rfl
    have hfull : ((s.scrubNoted (scrubKey sl .meter i)).meterLost sl (i % 32768)).meter (meterKey sl (i % 32768)) =
        (s.meter (meterKey sl (i % 32768))).fill := by simp [State.meterLost_meter]
    refine ⟨_, ?_, hfull, by rw [hfull, Meter.tc_fill], by rw [hfull, Meter.te_fill], fun j hj => ?_⟩
    · rw [exec_scrubStep, State.doScrub_uncorrectable, State.scrubLost_meter]
    · rw [State.meterLost_meter, State.meter_setMeter_ne _ _ hj, State.meter_of_tables (State.tblCtr_tables _ _), State.scrubNoted_meter]

end Sys2Proof.Machine

/-! SUPPORT. The scheduler's and the queues' windows, gate lists and samples: each command where it acts (R164, R166, R176, R189, R193,
R196 to R198, R200, R201, R203, R204, R487). -/

namespace Sys2Proof.Machine

/-! ### A window command runs or waits -/

/-- A window command that need not wait answers what its operation makes of the state, counters of events aside, where the operation
makes no severity action due. -/
theorem State.turnRow_ready_answers {s u : State} {w : Who} {t : PageTy} {page off v : Nat} {run : State → State}
    (hreach : Reaches s w page off) (hready : s.mustWait t page (BitVec.ofNat 32 v) = false) (hquiet : Quiet u)
    (hrun : ∀ j, run (s.withCtrs j) = u.withCtrs j) :
    ∃ c, (Host.Outcome.next (settle (s.turnRow w t page off v run)) : Res) = .next (u.withCtrs c) := by
  obtain ⟨j, k, hrow⟩ := State.turnRow_ready_eq (v := v) hreach hready run
  have hrow' : s.turnRow w t page off v run = u.withCtrs k := by rw [hrow, hrun]; rfl
  exact ⟨k, by rw [hrow', settle_of_quiet (s := u.withCtrs k) hquiet]⟩

/-- The command waits with BUSY at 1, behind those that wait already (R203; log 112). -/
def State.waiting (s : State) (w : Who) (t : PageTy) (page off : Nat) (v : Word) : State :=
  (s.setFlag page (waitBusy t off) true).onHost fun h => { h with waits := h.waits ++ [⟨w, page, off, v⟩] }

/-- A window command that must wait leaves its operation for the page's boundary. -/
theorem State.turnRow_waits {s : State} {w : Who} {t : PageTy} {page off v : Nat} (hreach : Reaches s w page off)
    (hwait : s.mustWait t page (BitVec.ofNat 32 v) = true) (hfree : s.flag page (waitBusy t off) = false) (run : State → State) :
    ∃ c, s.turnRow w t page off v run = (s.waiting w t page off (BitVec.ofNat 32 v)).withCtrs c := by
  obtain ⟨j, k, hrow⟩ := State.cmdRow_eq hreach fun s => s.inTurn w t page off (BitVec.ofNat 32 v) run
  have hwait' : (s.withCtrs j).mustWait t page (BitVec.ofNat 32 v) = true := hwait
  refine ⟨k, ?_⟩
  rw [State.turnRow, hrow, State.inTurn]
  simp only [hwait', State.flag_withCtrs, hfree, Bool.not_true, Bool.false_eq_true, if_false]
  rfl

/-! ### The word of SCH_CMD -/

/-- The word that SCH_CMD takes: INDEX, TABLE and OP (R203). -/
def schWord (op t i : Nat) : Nat := i + 0x8000 * t + 0x80000 * op

section
variable {s : State} {page n op t i : Nat} (hn : n = schWord op t i) (hi : i < 32768) (ht : t < 16) (hop : op < 4)
include hn hi ht hop

theorem getBits_schWord : getBits (BitVec.ofNat 32 n) 0 15 = i ∧ getBits (BitVec.ofNat 32 n) 15 4 = t
    ∧ getBits (BitVec.ofNat 32 n) 19 2 = op := by
  simp only [schWord] at hn
  simp only [getBits, BitVec.toNat_ofNat]
  omega

/-- Where no earlier write to the page waits, only a write of a queue-map or node entry does (R203; log 112). -/
theorem State.mustWait_schd_of_other (hclear : (s.shadow.any fun e => e.1 / 4096 == page) = false)
    (hother : ¬(op = 1 ∧ 1 ≤ t ∧ t ≤ 5)) : s.mustWait .schd page (BitVec.ofNat 32 n) = false := by
  obtain ⟨-, htable, hword⟩ := getBits_schWord hn hi ht hop
  rw [State.mustWait, hclear, htable, hword]
  simpa [and_assoc] using hother

theorem State.mustWait_schd_node (h1 : op = 1) (hlo : 1 ≤ t) (hhi : t ≤ 5) :
    s.mustWait .schd page (BitVec.ofNat 32 n) = true := by
  obtain ⟨-, htable, hword⟩ := getBits_schWord hn hi ht hop
  simp [State.mustWait, htable, hword, h1, hlo, hhi]

end

/-! ### Operations beside the counters of events -/

section
variable (s : State) (c : Map Nat)

@[simp] theorem State.setGate_withCtrs (k : Nat) (g : Gate) : (s.withCtrs c).setGate k g = (s.setGate k g).withCtrs c := (rfl)
@[simp] theorem State.setSample_withCtrs (k : Nat) (m : Sample) : (s.withCtrs c).setSample k m = (s.setSample k m).withCtrs c := (rfl)
@[simp] theorem State.winDone_withCtrs (pg : Nat) (res busy : Fld) (r : Nat) :
    (s.withCtrs c).winDone pg res busy r = (s.winDone pg res busy r).withCtrs c := by simp only [State.winDone, State.setFld_withCtrs]
@[simp] theorem State.schDone_withCtrs (sl r : Nat) : (s.withCtrs c).schDone sl r = (s.schDone sl r).withCtrs c :=
  s.winDone_withCtrs c _ _ _ r
@[simp] theorem State.setQueue_withCtrs (k : Nat) (q : Queue) : (s.withCtrs c).setQueue k q = (s.setQueue k q).withCtrs c := (rfl)

@[simp] theorem State.now_withCtrs : (s.withCtrs c).now = s.now := (rfl)
@[simp] theorem State.gate_withCtrs (k : Nat) : (s.withCtrs c).gate k = s.gate k := (rfl)
@[simp] theorem State.sample_withCtrs (k : Nat) : (s.withCtrs c).sample k = s.sample k := (rfl)
@[simp] theorem State.queue_withCtrs (k : Nat) : (s.withCtrs c).queue k = s.queue k := (rfl)
@[simp] theorem State.adminList_withCtrs (p : Nat) : (s.withCtrs c).adminList p = s.adminList p := (rfl)
@[simp] theorem State.schedRead_withCtrs (sl t i : Nat) : (s.withCtrs c).schedRead sl t i = s.schedRead sl t i := (rfl)
@[simp] theorem State.windowQueue_withCtrs (sl : Nat) (q : Queue) : (s.withCtrs c).windowQueue sl q = s.windowQueue sl q := (rfl)
@[simp] theorem State.queueLport_withCtrs (sl i : Nat) : (s.withCtrs c).queueLport sl i = s.queueLport sl i := (rfl)

theorem State.foldl_merge_withCtrs {α : Type} (addr : α → Nat) (val : α → Word) (l : List α) :
    l.foldl (fun s e => s.merge (addr e) (val e)) (s.withCtrs c) = (l.foldl (fun s e => s.merge (addr e) (val e)) s).withCtrs c := by
  induction l generalizing s with
  | nil => rfl
  | cons e l ih => exact ih (s.merge (addr e) (val e))

@[simp] theorem State.asWritten_withCtrs : (s.withCtrs c).asWritten = s.asWritten.withCtrs c := by
  rw [State.asWritten, State.foldl_merge_withCtrs s c Prod.fst Prod.snd]
  exact State.foldl_merge_withCtrs _ c RegWrite.addr RegWrite.v _

@[simp] theorem guarRows_withCtrs (u : State) (sl : Nat) : guarRows (s.withCtrs c) (u.withCtrs c) sl = guarRows s u sl := (rfl)
@[simp] theorem guarPorts_withCtrs (u : State) (lps : List Nat) : guarPorts (s.withCtrs c) (u.withCtrs c) lps = guarPorts s u lps := (rfl)
@[simp] theorem State.minRateRefused_withCtrs (u : State) (sl i : Nat) :
    (s.withCtrs c).minRateRefused (u.withCtrs c) sl i = s.minRateRefused u sl i := (rfl)

@[simp] theorem State.winDone_sys (pg : Nat) (res busy : Fld) (r : Nat) : (s.winDone pg res busy r).sys = s.sys := by
  simp only [State.winDone, State.setFld_sys]
@[simp] theorem State.schDone_sys (sl r : Nat) : (s.schDone sl r).sys = s.sys := s.winDone_sys _ _ _ r

end

/-! ### The scheduler's window -/

/-- The state in which a command of the scheduler's window acts: REFUSED is clear, and INDEX and TABLE name the entry. -/
def State.schTaken (s : State) (sl t i : Nat) : State :=
  ((s.setFld (schdPage sl) SCHD_SCHD_CFG_REFUSED 0).setFld (schdPage sl) SCHD_SCH_CMD_INDEX i).setFld (schdPage sl) SCHD_SCH_CMD_TABLE t

/-- An entry written from the window, with what its checks answer shown, and the slice's ports scaled anew (R171, R203). -/
def State.schWritten (s : State) (sl t i : Nat) : State :=
  ((s.schedWrite sl t i (s.winGet (schdPage sl) 0x104 8)).1.schDone sl (s.schedWrite sl t i (s.winGet (schdPage sl) 0x104 8)).2).rescale
    sl

section
variable (s : State) (c : Map Nat) (sl t i : Nat)

@[simp] theorem State.schTaken_withCtrs : (s.withCtrs c).schTaken sl t i = (s.schTaken sl t i).withCtrs c := by simp [State.schTaken]
@[simp] theorem State.schTaken_sys : (s.schTaken sl t i).sys = s.sys := by simp [State.schTaken]

end

section
variable {s : State} {sl t i : Nat} (hfree : s.flag (schdPage sl) SCHD_SCH_CMD_BUSY = false)
include hfree

theorem State.schWindow_of_free (run : State → State) : s.schWindow sl t i run = run (s.schTaken sl t i) := by
  rw [State.schWindow, State.winBusy_of_free hfree, State.schTaken]

theorem State.doSchedRead_of_some {ws : List Word} (hread : (s.schTaken sl t i).schedRead sl t i = some ws) :
    s.doSchedRead sl t i = ((s.schTaken sl t i).winPut (schdPage sl) 0x104 ws).schDone sl 0 := by
  simp only [State.doSchedRead, State.schWindow_of_free hfree, hread]

theorem State.doSchedRead_of_none (hread : (s.schTaken sl t i).schedRead sl t i = none) :
    s.doSchedRead sl t i = (s.schTaken sl t i).schDone sl 3 := by
  simp only [State.doSchedRead, State.schWindow_of_free hfree, hread]

/-- A write is done where the rates of the deep queues' ports still cover their guarantees; other tables move no deep queue (R165). -/
theorem State.schCommand_write_of_covered (hcover : 3 ≤ t → t ≤ 5 → guarFail (guarPorts (s.schTaken sl t i)
      ((s.schTaken sl t i).schedWrite sl t i ((s.schTaken sl t i).winGet (schdPage sl) 0x104 8)).1
      ((List.range 128).map fun q => 128 * sl + q)) = none) :
    s.schCommand sl 1 t i = (s.schTaken sl t i).schWritten sl t i := by
  simp only [State.schCommand, State.doSchedWrite, State.schWindow_of_free hfree, State.schWritten]
  by_cases hdeep : 3 ≤ t ∧ t ≤ 5
  · simp only [hcover hdeep.1 hdeep.2, ite_self]
  · rw [if_neg (by simp only [Bool.and_eq_true, decide_eq_true_eq]; omega)]

theorem State.doGateCommit_of_free : s.doGateCommit sl i = (((s.schTaken sl 6 i).setGate (32 * sl + i)
    { (s.schTaken sl 6 i).gate (32 * sl + i) with
      copying := some ((s.schTaken sl 6 i).adminList (32 * sl + i), (s.schTaken sl 6 i).now) }).setFld (schdPage sl) SCHD_SCH_CMD_BUSY 1) := by
  rw [State.doGateCommit, State.schWindow_of_free hfree]

theorem State.doSampleReadClear_of_some {ws : List Word} (hread : (s.schTaken sl 9 i).schedRead sl 9 i = some ws) :
    s.doSampleReadClear sl i = (((s.schTaken sl 9 i).winPut (schdPage sl) 0x104 ws).setSample (queueKey sl i)
      { (s.schTaken sl 9 i).sample (queueKey sl i) with maxDepth := 0, maxDelay := 0 }).schDone sl 0 := by
  simp only [State.doSampleReadClear, State.schWindow_of_free hfree, hread]

end

/-- The three fields that a gate entry refuses are its index, its operation and its interval (R193, R204). -/
theorem State.schedWrite_gate_of_checked {s : State} {sl i : Nat} {ws : List Word} (hi : i ≤ 8191) (hop : wBits (ws.getD 0 0) 8 2 ≠ 3)
    (hlo : 10 ≤ wBits (ws.getD 1 0) 0 30) (hhi : wBits (ws.getD 1 0) 0 30 ≤ 1000000000) :
    s.schedWrite sl 7 i ws = (s.setSchd (schdKey sl 7 i) (maskWords [0x3FF, 0x3FFFFFFF] ws), 0) := by
  simp only [State.schedWrite]
  refine if_neg ?_
  simp only [Bool.or_eq_true, decide_eq_true_eq]
  omega

/-! ### Gate lists -/

section
variable {s : State} {l : GateList}

theorem State.doGateCopyDone_of_copying {sl k n ct : Nat} (hcopy : (s.gate (32 * sl + k)).copying = some (l, n))
    (hct : ct = l.changeTime (s.nsIn l.tb)) : s.doGateCopyDone sl k =
      ((((s.setGate (32 * sl + k) { s.gate (32 * sl + k) with
        copying := none, pending := some (l, ct), pendAt := s.gateNow (32 * sl + k) }).setGateSt (32 * sl + k) SCHD_GATE_STATUS_PENDING
        1).setGateSt (32 * sl + k) SCHD_GATE_CHANGE_SEC_SEC (ct / nsPerSec)).setGateSt (32 * sl + k) SCHD_GATE_CHANGE_NS_NS
        (ct % nsPerSec)).schDone sl 0 := by
  subst hct
  simp only [State.doGateCopyDone, hcopy]

/-- The gate whose pending list becomes operative at its change time (R197). -/
def State.gateChanged (s : State) (p : Nat) (l : GateList) (ct : Nat) : Gate :=
  { s.gate p with
    oper := l, operBase := ct, pending := none, fails := [], prev := some ((s.gate p).oper, (s.gate p).operBase)
    pendAt := ((((s.gate p).pendAt : Int) - s.nsIn (s.gate p).oper.tb) + s.nsIn l.tb).toNat }

theorem State.doGateListChange_of_due {p ct : Nat} (hpend : (s.gate p).pending = some (l, ct)) (hdue : ct ≤ s.nsIn l.tb) :
    s.doGateListChange p = ((((s.setGate p (s.gateChanged p l ct)).setGateSt p SCHD_GATE_STATUS_PENDING 0).setGateSt p
      SCHD_GATE_STATUS_BREACH 0).showGates p).raise (schdPage (p / 32)) 4 := by
  simp only [State.doGateListChange, State.gateChange, hpend, Nat.not_lt.mpr hdue, if_false, State.gateChanged]

theorem State.doGateEntryAdvance_of_enabled {p : Nat} (hen : (s.gate p).oper.en = true) : s.doGateEntryAdvance p = s.showGates p :=
  if_pos hen

end

/-! ### Samples -/

/-- How long the oldest frame of a queue has waited, within 32 bits; 0 where the queue is empty (R200). -/
def State.oldestDelay (s : State) (sl i : Nat) : Nat :=
  match s.oldestOf sl i with
  | some e => min 0xFFFFFFFF (stampAge s.stamp e.f.stamp)
  | none => 0

/-- A queue's sample with its depth and delay taken now (R200). -/
def State.sampled (s : State) (sl i : Nat) : Sample :=
  { s.sample (queueKey sl i) with
    takenAt := some s.now, lastDepth := (s.queue (queueKey sl i)).occAll
    maxDepth := max (s.sample (queueKey sl i)).maxDepth (s.queue (queueKey sl i)).occAll
    lastDelay := s.oldestDelay sl i, maxDelay := max (s.sample (queueKey sl i)).maxDelay (s.oldestDelay sl i) }

/-- A sample is taken once in a period (log 111); with WATCH_EN at 0 no note of it goes out (R201). -/
theorem State.doQueueSample_of_unwatched {s : State} {sl i : Nat} (hwatch : s.flag (schdPage sl) SCHD_SAMPLE_CFG_WATCH_EN = false)
    (hdue : onceIn (1000 * s.fld (schdPage sl) SCHD_SAMPLE_CFG_PERIOD) (s.sample (queueKey sl i)).takenAt s.now = true) :
    s.doQueueSample sl i = s.setSample (queueKey sl i) (s.sampled sl i) := by
  have hkept (m : Sample) : (s.setSample (queueKey sl i) m).flag (schdPage sl) SCHD_SAMPLE_CFG_WATCH_EN = false := hwatch
  simp only [State.doQueueSample, hdue, hkept, Bool.not_true, Bool.false_and, Bool.false_eq_true, if_false]
  rfl

/-! ### The queue window -/

section
variable {s : State} {sl i : Nat}

/-- The state in which a command of the queue window acts. -/
def State.queueTaken (s : State) (sl i : Nat) : State :=
  (s.setFld (deepPage sl) DEEP_ADM_CFG_REFUSED 0).setFld (deepPage sl) DEEP_Q_CMD_INDEX i

@[simp] theorem State.queueTaken_withCtrs (s : State) (c : Map Nat) (sl i : Nat) :
    (s.withCtrs c).queueTaken sl i = (s.queueTaken sl i).withCtrs c := by simp [State.queueTaken]
@[simp] theorem State.queueTaken_sys (s : State) (sl i : Nat) : (s.queueTaken sl i).sys = s.sys := by simp [State.queueTaken]

/-- A command of the queue window completes with RESULT `r` (R164). -/
def State.queueDone (s : State) (sl r : Nat) : State := s.winDone (deepPage sl) DEEP_Q_CMD_RESULT DEEP_Q_CMD_BUSY r

@[simp] theorem State.queueDone_withCtrs (s : State) (c : Map Nat) (sl r : Nat) :
    (s.withCtrs c).queueDone sl r = (s.queueDone sl r).withCtrs c := s.winDone_withCtrs c _ _ _ r
@[simp] theorem State.queueDone_sys (s : State) (sl r : Nat) : (s.queueDone sl r).sys = s.sys := s.winDone_sys _ _ _ r

/-- A queue's counters as the window shows them (R176). -/
def Queue.counterWords (q : Queue) : List Word :=
  [q.admitFrames, q.admitBytes, q.spilled, q.dropWred, q.dropSpace, q.dropDesc, q.ageDiscard, q.deepLost].flatMap
    fun c => [BitVec.ofNat 32 c, BitVec.ofNat 32 (c / 2 ^ 32)]

/-- A queue's configuration, state and counters as the window shows them (R164, R176). -/
def State.queueWords (s : State) (q : Queue) : List Word :=
  [BitVec.ofNat 32 (q.minCells + 2 ^ 19 * q.pool + 2 ^ 21 * q.profile + (if q.lossless then 2 ^ 26 else 0) +
      (if q.spillEn then 2 ^ 27 else 0)),
    BitVec.ofNat 32 q.maxCells, BitVec.ofNat 32 q.spillTh, BitVec.ofNat 32 q.minBobbins, BitVec.ofNat 32 q.maxBobbins,
    BitVec.ofNat 32 q.guarRate, BitVec.ofNat 32 (q.occ + (if q.spilling then 2 ^ 19 else 0)), BitVec.ofNat 32 q.bobbins.length,
    BitVec.ofNat 32 q.deep.length, BitVec.ofNat 32 (q.avg / 65536), BitVec.ofNat 32 (s.effRate q), 0, 0, 0, 0, 0] ++ q.counterWords

@[simp] theorem State.queueWords_withCtrs (s : State) (c : Map Nat) (q : Queue) : (s.withCtrs c).queueWords q = s.queueWords q := (rfl)
@[simp] theorem State.queueWords_length (s : State) (q : Queue) : (s.queueWords q).length = 32 := (rfl)

/-- A configuration that the window may write for a queue: its fields are in range, the sums of R165 stay covered, and a deep queue's
MIN_RATE fits its shaper and its parent's (R165, R176, R184). -/
def State.QueueWritable (s : State) (sl i : Nat) (q : Queue) : Prop :=
  queueFieldBad i q = false ∧
    guarFail (guarRows s.asWritten (s.setQueue (queueKey sl i) q).asWritten sl ++
      guarPorts s (s.setQueue (queueKey sl i) q) (if i < 1024 then [] else (s.queueLport sl i).toList)) = none ∧
    (1024 ≤ i → s.minRateRefused (s.setQueue (queueKey sl i) q) sl (i - 1024) = false)

theorem State.QueueWritable.withCtrs {q : Queue} (h : s.QueueWritable sl i q) (c : Map Nat) : (s.withCtrs c).QueueWritable sl i q := by
  obtain ⟨hfields, hcover, hmin⟩ := h
  exact ⟨hfields, by simpa using hcover, fun hi => by simpa using hmin hi⟩

section
variable (hfree : s.flag (deepPage sl) DEEP_Q_CMD_BUSY = false)
include hfree

theorem State.doQueueConfigRead_of_free (hi : i < 17408) : s.doQueueConfigRead sl i =
    ((s.queueTaken sl i).winPut (deepPage sl) 0x104
      ((s.queueTaken sl i).queueWords ((s.queueTaken sl i).queue (queueKey sl i)))).queueDone sl 0 := by
  rw [State.doQueueConfigRead, State.winBusy_of_free hfree, if_neg (Nat.not_le.mpr hi)]
  rfl

/-- A write that keeps GUAR_RATE leaves the node's buckets as they are (R189). -/
theorem State.doQueueConfigWrite_of_writable {q : Queue}
    (hq : q = (s.queueTaken sl i).windowQueue sl ((s.queueTaken sl i).queue (queueKey sl i)))
    (hok : (s.queueTaken sl i).QueueWritable sl i q) (hrate : q.guarRate = ((s.queueTaken sl i).queue (queueKey sl i)).guarRate) :
    s.doQueueConfigWrite sl i = ((((s.queueTaken sl i).setQueue (queueKey sl i) q).rescale sl).retryAll).queueDone sl 0 := by
  obtain ⟨hfields, hcover, hmin⟩ := hok
  have hmin' : (decide (1024 ≤ i) && (s.queueTaken sl i).minRateRefused ((s.queueTaken sl i).setQueue (queueKey sl i) q) sl (i - 1024))
      = false := by
    by_cases hi : 1024 ≤ i
    · simp [hmin hi]
    · simp [hi]
  simp only [State.queueTaken] at *
  simp only [State.doQueueConfigWrite, State.winBusy_of_free hfree, ← hq, hfields, hcover, hmin', hrate, ne_eq, not_true_eq_false,
    decide_false, Bool.and_false, Bool.false_eq_true, if_false, State.queueDone]

end
end

/-! ### The commands over their operations -/

theorem exec_schedEntryRead (sl : Slice) (t : Fin 16) (i : Fin 32768) (s : State) : exec (.schedEntryRead sl t i) s =
    .next (settle (s.turnRow .host .schd (schdPage sl) 0x100 (i + 0x8000 * t + 0x100000) fun s => s.doSchedRead sl t i)) := by rfl
theorem exec_schedEntryWrite (sl : Slice) (t : Fin 16) (i : Fin 32768) (s : State) : exec (.schedEntryWrite sl t i) s =
    .next (settle (s.turnRow .host .schd (schdPage sl) 0x100 (i + 0x8000 * t + 0x80000) fun s => s.schCommand sl 1 t i)) := by rfl
theorem exec_gateCommit (sl : Slice) (k : Fin 32) (s : State) : exec (.gateCommit sl k) s =
    .next (settle (s.turnRow .host .schd (schdPage sl) 0x100 (k + 0x1B0000) fun s => s.doGateCommit sl k)) := by rfl
theorem exec_sampleReadClear (sl : Slice) (i : Fin 32768) (s : State) : exec (.sampleReadClear sl i) s =
    .next (settle (s.turnRow .host .schd (schdPage sl) 0x100 (i + 0x1C8000) fun s => s.doSampleReadClear sl i)) := by rfl
theorem exec_gateCommitCopyDone (sl : Slice) (k : Fin 32) (s : State) :
    exec (.gateCommitCopyDone sl k) s = .next (settle (s.doGateCopyDone sl k)) := by rfl
theorem exec_gateListChange (p : Port) (s : State) : exec (.gateListChange p) s = .next (settle (s.doGateListChange p)) := by rfl
theorem exec_gateEntryAdvance (p : Port) (s : State) : exec (.gateEntryAdvance p) s = .next (settle (s.doGateEntryAdvance p)) := by rfl
theorem exec_queueSample (sl : Slice) (i : Fin 17408) (s : State) : exec (.queueSample sl i) s = .next (settle (s.doQueueSample sl i)) := by
  rfl
theorem exec_queueConfigRead (sl : Slice) (i : Fin 32768) (s : State) : exec (.queueConfigRead sl i) s =
    .next (settle (s.turnRow .host .deepS (deepPage sl) 0x100 (i + 0x10000) fun s => s.doQueueConfigRead sl i)) := by rfl
theorem exec_queueConfigWrite (sl : Slice) (i : Fin 32768) (s : State) : exec (.queueConfigWrite sl i) s =
    .next (settle (s.turnRow .host .deepS (deepPage sl) 0x100 (i + 0x8000) fun s => s.doQueueConfigWrite sl i)) := by rfl

/-! ### Where the commands act -/

section
variable {s : State} {sl : Slice} {i : Fin 32768} (hfree : s.flag (schdPage sl) SCHD_SCH_CMD_BUSY = false)
include hfree

/-- A write of a queue-map or node entry waits for the next loom period (R203; log 112). -/
theorem exec_schedEntryWrite_of_node {t : Fin 16} (hreach : Reaches s .host (schdPage sl) 0x100) (hlo : 1 ≤ t.val) (hhi : t.val ≤ 5) :
    ∃ c, exec (.schedEntryWrite sl t i) s = .next (settle ((s.waiting .host .schd (schdPage sl) 0x100
      (BitVec.ofNat 32 (i + 0x8000 * t + 0x80000))).withCtrs c)) := by
  have hwait : s.mustWait .schd (schdPage sl) (BitVec.ofNat 32 (i + 0x8000 * t + 0x80000)) = true :=
    State.mustWait_schd_node (op := 1) (by simp [schWord]) i.isLt t.isLt (by decide) rfl hlo hhi
  obtain ⟨c, hrow⟩ := State.turnRow_waits hreach hwait hfree fun s => s.schCommand sl 1 t i
  exact ⟨c, by rw [exec_schedEntryWrite, hrow]⟩

/-- A command in the word of SCH_CMD that writes an entry does so (R203). -/
theorem State.windowRun_schedWrite {t : Fin 16} (hcover : 3 ≤ t.val → t.val ≤ 5 → guarFail (guarPorts (s.schTaken sl t i)
      ((s.schTaken sl t i).schedWrite sl t i ((s.schTaken sl t i).winGet (schdPage sl) 0x104 8)).1
      ((List.range 128).map fun q => 128 * sl + q)) = none) :
    s.windowRun .host .schd sl 0x100 (BitVec.ofNat 32 (i + 0x8000 * t + 0x80000)) = (s.schTaken sl t i).schWritten sl t i := by
  obtain ⟨hindex, htable, hop⟩ := getBits_schWord (n := i + 0x8000 * t + 0x80000) (op := 1) (by simp [schWord]) i.isLt t.isLt (by decide)
  simp only [State.windowRun, hindex, htable, hop]
  exact State.schCommand_write_of_covered hfree hcover

section
variable (hturn : TakesTurn s .host (schdPage sl) 0x100)
include hturn

theorem exec_schedEntryWrite_of_turn {t : Fin 16} (hnode : ¬(1 ≤ t.val ∧ t.val ≤ 5)) :
    ∃ c d, exec (.schedEntryWrite sl t i) s = .next (settle ((((s.schTaken sl t i).withCtrs c).schWritten sl t i).withCtrs d)) := by
  have hready : s.mustWait .schd (schdPage sl) (BitVec.ofNat 32 (i + 0x8000 * t + 0x80000)) = false :=
    State.mustWait_schd_of_other (op := 1) (by simp [schWord]) i.isLt t.isLt (by decide) hturn.2 fun h => hnode h.2
  obtain ⟨c, d, hrow⟩ := State.turnRow_ready_eq hturn.1 hready fun s => s.schCommand sl 1 t i
  refine ⟨c, d, ?_⟩
  rw [exec_schedEntryWrite, hrow, State.schCommand_write_of_covered (s := s.withCtrs c) hfree fun hlo hhi => absurd ⟨by omega, hhi⟩ hnode,
    State.schTaken_withCtrs]

variable (hquiet : Quiet s)
include hquiet

theorem exec_schedEntryRead_of_some {t : Fin 16} {ws : List Word} (hread : (s.schTaken sl t i).schedRead sl t i = some ws) :
    ∃ c, exec (.schedEntryRead sl t i) s =
      .next ((((s.schTaken sl t i).winPut (schdPage sl) 0x104 ws).schDone sl 0).withCtrs c) := by
  rw [exec_schedEntryRead]
  refine State.turnRow_ready_answers hturn.1 (State.mustWait_schd_of_other (op := 2) (by simp [schWord]) i.isLt t.isLt
    (by decide) hturn.2 (by simp)) (by simpa [Quiet] using hquiet) fun j => ?_
  rw [State.doSchedRead_of_some (s := s.withCtrs j) hfree (ws := ws) (by simpa using hread)]
  simp

theorem exec_schedEntryRead_of_none {t : Fin 16} (hread : (s.schTaken sl t i).schedRead sl t i = none) :
    ∃ c, exec (.schedEntryRead sl t i) s = .next (((s.schTaken sl t i).schDone sl 3).withCtrs c) := by
  rw [exec_schedEntryRead]
  refine State.turnRow_ready_answers hturn.1 (State.mustWait_schd_of_other (op := 2) (by simp [schWord]) i.isLt t.isLt
    (by decide) hturn.2 (by simp)) (by simpa [Quiet] using hquiet) fun j => ?_
  rw [State.doSchedRead_of_none (s := s.withCtrs j) hfree (by simpa using hread)]
  simp

theorem exec_sampleReadClear_of_some {ws : List Word} (hread : (s.schTaken sl 9 i).schedRead sl 9 i = some ws) :
    ∃ c, exec (.sampleReadClear sl i) s = .next (((((s.schTaken sl 9 i).winPut (schdPage sl) 0x104 ws).setSample (queueKey sl i)
      { (s.schTaken sl 9 i).sample (queueKey sl i) with maxDepth := 0, maxDelay := 0 }).schDone sl 0).withCtrs c) := by
  rw [exec_sampleReadClear]
  refine State.turnRow_ready_answers hturn.1 (State.mustWait_schd_of_other (op := 3) (t := 9) (by unfold schWord; omega) i.isLt (by decide)
    (by decide) hturn.2 (by decide)) (by simpa [Quiet] using hquiet) fun j => ?_
  rw [State.doSampleReadClear_of_some (s := s.withCtrs j) hfree (ws := ws) (by simpa using hread)]
  simp

end
end

theorem exec_gateCommit_of_free {s : State} {sl : Slice} {k : Fin 32} (hturn : TakesTurn s .host (schdPage sl) 0x100) (hquiet : Quiet s)
    (hfree : s.flag (schdPage sl) SCHD_SCH_CMD_BUSY = false) :
    ∃ c, exec (.gateCommit sl k) s = .next ((((s.schTaken sl 6 k).setGate (32 * sl + k) { (s.schTaken sl 6 k).gate (32 * sl + k) with
      copying := some ((s.schTaken sl 6 k).adminList (32 * sl + k), (s.schTaken sl 6 k).now) }).setFld (schdPage sl) SCHD_SCH_CMD_BUSY
      1).withCtrs c) := by
  rw [exec_gateCommit]
  refine State.turnRow_ready_answers hturn.1 (State.mustWait_schd_of_other (op := 3) (t := 6) (i := k) (by unfold schWord; omega)
    (by omega) (by decide) (by decide) hturn.2 (by decide)) (by simpa [Quiet] using hquiet) fun j => ?_
  rw [State.doGateCommit_of_free (s := s.withCtrs j) hfree]
  simp

section
variable {s : State} {sl : Slice} {i : Fin 32768} (hturn : TakesTurn s .host (deepPage sl) 0x100)
  (hfree : s.flag (deepPage sl) DEEP_Q_CMD_BUSY = false)
include hturn hfree

theorem exec_queueConfigRead_of_free (hquiet : Quiet s) (hi : i.val < 17408) :
    ∃ c, exec (.queueConfigRead sl i) s = .next ((((s.queueTaken sl i).winPut (deepPage sl) 0x104
      ((s.queueTaken sl i).queueWords ((s.queueTaken sl i).queue (queueKey sl i)))).queueDone sl 0).withCtrs c) := by
  rw [exec_queueConfigRead]
  refine State.turnRow_answers hturn (by decide) (by simpa [Quiet] using hquiet) fun j => ⟨j, ?_⟩
  rw [State.doQueueConfigRead_of_free (s := s.withCtrs j) hfree hi]
  simp

theorem exec_queueConfigWrite_of_writable {q : Queue}
    (hq : q = (s.queueTaken sl i).windowQueue sl ((s.queueTaken sl i).queue (queueKey sl i)))
    (hok : (s.queueTaken sl i).QueueWritable sl i q) (hrate : q.guarRate = ((s.queueTaken sl i).queue (queueKey sl i)).guarRate) :
    ∃ c d, exec (.queueConfigWrite sl i) s = .next (settle
      (((((((s.queueTaken sl i).withCtrs c).setQueue (queueKey sl i) q).rescale sl).retryAll).queueDone sl 0).withCtrs d)) := by
  obtain ⟨c, d, hrow⟩ := State.turnRow_eq (t := .deepS) (v := i + 0x8000) hturn (by decide) fun s => s.doQueueConfigWrite sl i
  refine ⟨c, d, ?_⟩
  rw [exec_queueConfigWrite, hrow, State.doQueueConfigWrite_of_writable (s := s.withCtrs c) (q := q) hfree (by simpa using hq)
    (by simpa using hok.withCtrs c) (by simpa using hrate), State.queueTaken_withCtrs]

end

/-- Settles O9: each window command is its operation on the state let in, whose lemma for the case at hand gives the answer; a gate or
sample command is its operation. That a write of tables 1 to 5 waits with BUSY at 1, and any window command for earlier writes to its
page, is log 112's reading; that a queue is sampled once in a period is log 111's. -/
theorem schedulerCommandsComplete : Obligations.SchedulerCommandsComplete := by
  unfold Obligations.SchedulerCommandsComplete
  refine ⟨?read, ?waits, ?write, ?runs, ?entry, ?commit, ?clear, ?copied, ?change, ?advance, ?sample, ?queueRead, ?queueWrite⟩
  case read =>
    intro sl t i s u hturn hquiet hfree hu
    obtain rfl : u = s.schTaken sl t i := hu
    exact ⟨fun ws hread => exec_schedEntryRead_of_some hfree hturn hquiet hread, exec_schedEntryRead_of_none hfree hturn hquiet⟩
  case waits =>
    intro sl t i s hreach hfree hlo hhi
    exact exec_schedEntryWrite_of_node hfree hreach hlo hhi
  case write =>
    intro sl t i s u hturn hnode hfree hu
    obtain rfl : u = s.schTaken sl t i := hu
    obtain ⟨c, d, hexec⟩ := exec_schedEntryWrite_of_turn (i := i) hfree hturn hnode
    exact ⟨c, d, by rw [hexec, State.schWritten, State.winGet_withCtrs]⟩
  case runs =>
    intro sl t i s u hfree hu hcover
    obtain rfl : u = s.schTaken sl t i := hu
    exact State.windowRun_schedWrite hfree hcover
  case entry =>
    intro sl i s ws hi hop hlo hhi
    exact State.schedWrite_gate_of_checked hi hop hlo hhi
  case commit =>
    intro sl k s u hturn hquiet hfree hu
    obtain rfl : u = s.schTaken sl 6 k := hu
    exact exec_gateCommit_of_free hturn hquiet hfree
  case clear =>
    intro sl i s u ws hturn hquiet hfree hu hread
    obtain rfl : u = s.schTaken sl 9 i := hu
    exact exec_sampleReadClear_of_some hfree hturn hquiet hread
  case copied =>
    intro sl k s l n ct hquiet hcopy hct
    rw [exec_gateCommitCopyDone, State.doGateCopyDone_of_copying hcopy hct, settle_of_quiet (by simpa using hquiet)]
  case change =>
    intro p s l ct hpend hdue
    rw [exec_gateListChange, State.doGateListChange_of_due hpend hdue, State.gateChanged]
  case advance =>
    intro p s hen
    rw [exec_gateEntryAdvance, State.doGateEntryAdvance_of_enabled hen]
  case sample =>
    intro sl i s d hquiet hwatch hdue hd
    obtain rfl : d = s.oldestDelay sl i := hd
    rw [exec_queueSample, State.doQueueSample_of_unwatched hwatch hdue, settle_of_quiet (by simpa using hquiet), State.sampled]
  case queueRead =>
    intro sl i s u hturn hquiet hfree hi hu
    obtain rfl : u = s.queueTaken sl i := hu
    obtain ⟨c, hexec⟩ := exec_queueConfigRead_of_free hturn hfree hquiet hi
    exact ⟨c, _, hexec, State.queueWords_length _ _, rfl, rfl, rfl, rfl⟩
  case queueWrite =>
    intro sl i s u q hturn hfree hu hq hfields hcover hmin hrate
    obtain rfl : u = s.queueTaken sl i := hu
    exact exec_queueConfigWrite_of_writable hturn hfree hq ⟨hfields, hcover, hmin⟩ hrate

end Sys2Proof.Machine

/-! SUPPORT. FlexE groups, overhead frames, calendar switches and the client window: where each command acts, and what it does there
(R233, R236 to R238, R242, R243, R245, R246, R263, R487). -/

namespace Sys2Proof.Machine

/-! ### States of a group (R236) -/

section
variable {s : State} {g : Nat}

theorem State.groupTimedOut_of_le {st ns : Nat} (hst : s.groupState g = st) (hover : (s.flexe g).entered + ns ≤ s.now) :
    s.groupTimedOut g st ns = true := by
  simp [State.groupTimedOut, hst, hover]

theorem State.doFlexeOhLockDone_of_up (hlock : s.groupState g = 2) (hup : s.membersUp g = true) :
    s.doFlexeOhLockDone g = s.setGroup g 3 := by
  simp [State.doFlexeOhLockDone, hlock, hup]

theorem State.doFlexeOhLockTimeout_of_over (h : s.groupTimedOut g 2 8000000 = true) :
    s.doFlexeOhLockTimeout g = s.setGroup g 1 := if_pos h

theorem State.doFlexeMapCheckDone_of_good (hcheck : s.groupState g = 3) (hgood : s.mapGood g = true) (hup : s.membersUp g = true) :
    s.doFlexeMapCheckDone g = s.setGroup g 4 := by
  simp [State.doFlexeMapCheckDone, hcheck, hgood, hup]

theorem State.doFlexeMapCheckDone_of_bad (hcheck : s.groupState g = 3) (hbad : s.mapGood g = false) :
    s.doFlexeMapCheckDone g = (s.setGroup g 1).raise (flxePage g) 4 := by
  simp [State.doFlexeMapCheckDone, hcheck, hbad]

theorem State.doFlexeMapCheckTimeout_of_over (h : s.groupTimedOut g 3 3400000 = true) :
    s.doFlexeMapCheckTimeout g = (s.setGroup g 1).raise (flxePage g) 4 := if_pos h

theorem State.doFlexeDeskewTimeout_of_over (h : s.groupTimedOut g 4 1000000 = true) :
    s.doFlexeDeskewTimeout g = (s.setGroup g 1).raise (flxePage g) 5 := if_pos h

section
variable {skew : Nat} (hdeskew : s.groupState g = 4)
include hdeskew

theorem State.doFlexeDeskewDone_of_small (hsmall : skew ≤ 10000)
    (hup : (s.setFld (flxePage g) FLXE_SKEW_SKEW_NS skew).membersUp g = true) :
    s.doFlexeDeskewDone g skew = (s.setFld (flxePage g) FLXE_SKEW_SKEW_NS skew).setGroup g 5 := by
  simp [State.doFlexeDeskewDone, hdeskew, hsmall, hup]

theorem State.doFlexeDeskewDone_of_large (hlarge : 10000 < skew) : s.doFlexeDeskewDone g skew =
    ((s.setFld (flxePage g) FLXE_SKEW_SKEW_NS skew).setGroup g 1).raise (flxePage g) 5 := by
  simp [State.doFlexeDeskewDone, hdeskew, Nat.not_le.mpr hlarge]

end

/-! ### Overhead frames received (R233, R236, R243, R246) -/

/-- A bad overhead frame of member `i` in the group's state: one more in a row, and the multiframe being received is lost. -/
def Flexe.takeBad (x : Flexe) (i now : Nat) : Flexe :=
  { x with bad := x.bad.set i (x.bad.getD i 0 + 1), lastOh := x.lastOh.set i now, mf := x.mf.set i none }

/-- The state with what a good overhead frame of member `i` brought, and the member's RPF as received. -/
def State.ohTaken (s : State) (g i : Nat) (oh : OhFrame) : State :=
  (s.setFlexe g ((s.flexe g).take i oh (s.flag (flxePage g) FLXE_GRP_STATUS_SWITCH_PEND) (s.flag (flxePage g) FLXE_GRP_CFG_SMC_EN)
    s.now)).setFld (flxePage g) { FLXE_GRP_STATUS_RPF_MAP with lo := FLXE_GRP_STATUS_RPF_MAP.lo + i, w := 1 } (if oh.rpf then 1 else 0)

section
variable {i : Nat} {oh : OhFrame} (hen : s.flag (flxePage g) FLXE_GRP_CFG_EN = true)
  (hmember : s.flag (flxePage g) (FLXE_MEMBER_EN.sh (4 * i)) = true) (hst : 2 ≤ s.groupState g)
include hen hmember hst

theorem State.doFlexeOhFrameReceive_of_bad (hbad : oh.crcGood = false) : s.doFlexeOhFrameReceive g i oh =
    (((s.ohCheck g).setFlexe g (((s.ohCheck g).flexe g).takeBad i (s.ohCheck g).now)).count (flxePage g) 0xD0).ohCheck g := by
  simp [State.doFlexeOhFrameReceive, hen, hmember, Nat.not_lt.mpr hst, hbad, Flexe.takeBad]

/-- A good frame with RPF = 0 leaves an UP group UP; the calendar in use switches where the frame names the other one. -/
theorem State.doFlexeOhFrameReceive_of_good (hgood : oh.crcGood = true) (hrpf : oh.rpf = false) : s.doFlexeOhFrameReceive g i oh =
    (if ((s.ohCheck g).ohTaken g i oh).flag (flxePage g) FLXE_GRP_STATUS_CAL_RX = oh.calInUse then (s.ohCheck g).ohTaken g i oh
      else ((s.ohCheck g).ohTaken g i oh).rxSwitch g oh.calInUse).syncRxCal g := by
  simp [State.doFlexeOhFrameReceive, hen, hmember, Nat.not_lt.mpr hst, hgood, hrpf, State.ohTaken]

end

/-- Member `i` counts no frame as bad once it brought a good one, and its last frame came at `now`. -/
theorem Flexe.take_member {x : Flexe} {i : Nat} (hbad : i < x.bad.length) (hlast : i < x.lastOh.length) (oh : OhFrame) (p e : Bool)
    (now : Nat) : (x.take i oh p e now).bad.getD i 0 = 0 ∧ (x.take i oh p e now).lastOh.getD i 0 = now := by
  simp [Flexe.take, hbad, hlast]

/-! ### Overhead frames sent (R237, R242, R243) -/

/-- Where a loop's steps agree on the states that it comes through, so does the loop. -/
theorem State.each_congr {P : State → Prop} {f f' : State → Nat → State} (hf : ∀ t i, P t → f t i = f' t i)
    (hkeep : ∀ t i, P t → P (f' t i)) (l : List Nat) {s : State} (hs : P s) : s.each l f = s.each l f' := by
  induction l generalizing s with
  | nil => rfl
  | cons i l ih =>
    calc s.each (i :: l) f = (f' s i).each l f := by rw [State.each, List.foldl_cons, hf s i hs, State.each]
      _ = s.each (i :: l) f' := ih (hkeep s i hs)

/-- What the section management channel of the next overhead frame carries, a free value with SMC_EN = 1, and the state after it (R233). -/
def State.smcNext (s : State) (g : Nat) : Option (BitVec 64) × State :=
  if s.flag (flxePage g) FLXE_GRP_CFG_SMC_EN then (some s.fresh.1, s.fresh.2) else (none, s)

/-- The overhead frame of member `i` goes out. -/
def State.ohEmit (g : Nat) (s : State) (i : Nat) : State :=
  (s.smcNext g).2.emit (.flexeOh g i ((s.smcNext g).2.ohSent g i (s.smcNext g).1))

theorem State.ohEmit_of_idle {s : State} {g : Nat} (hsmc : s.flag (flxePage g) FLXE_GRP_CFG_SMC_EN = false) (i : Nat) :
    s.ohEmit g i = s.emit (.flexeOh g i (s.ohSent g i none)) := by
  have hnext : s.smcNext g = (none, s) := if_neg (by simp [hsmc])
  rw [State.ohEmit, hnext]

/-- With the section management channel idle, every member's frame is that of the boundary's state: what leaves the module moves none
of it. -/
theorem State.each_ohEmit_of_idle {v : State} (hsmc : v.flag (flxePage g) FLXE_GRP_CFG_SMC_EN = false) (l : List Nat) :
    v.each l (State.ohEmit g) = v.each l fun t i => t.emit (.flexeOh g i (v.ohSent g i none)) := by
  refine State.each_congr (P := fun t => ∃ o, t = { v with out := o }) ?sent ?kept l ⟨v.out, rfl⟩
  case sent =>
    rintro _ i ⟨o, rfl⟩
    exact State.ohEmit_of_idle (s := { v with out := o }) hsmc i
  case kept =>
    rintro _ i ⟨o, rfl⟩
    exact ⟨_, rfl⟩

/-- The first frame of a multiframe fixes the codes of the calendar not in use that the multiframe announces. -/
def State.multiframeBegun (s : State) (g : Nat) : State :=
  if (s.flexe g).frame = 0 then s.setFlexe g { s.flexe g with
    shown := (s.groupEntries g).foldl
      (fun m e => mset (α := BitVec 16) 0 m e (s.txCode g (!s.flag (flxePage g) FLXE_GRP_STATUS_CAL_TX) e)) [] }
  else s

@[simp] theorem State.multiframeBegun_regs (s : State) (g : Nat) : (s.multiframeBegun g).regs = s.regs := by
  unfold State.multiframeBegun; split <;> rfl

/-- The frames of a boundary: one on each member whose lanes are UP. -/
def State.ohFramesSent (s : State) (g : Nat) : State :=
  s.each ((s.membersOn g).filter (s.memberLocked g)) fun t i => t.emit (.flexeOh g i (s.ohSent g i none))

/-- The frames of a boundary go out on the members whose lanes are UP, and the multiframe counts one more. -/
def State.ohBoundary (s : State) (g : Nat) : State :=
  let t := (s.multiframeBegun g).each (((s.multiframeBegun g).membersOn g).filter ((s.multiframeBegun g).memberLocked g)) (State.ohEmit g)
  t.setFlexe g { t.flexe g with frame := ((s.flexe g).frame + 1) % 32 }

theorem State.doFlexeOhFrameSend_eq (s : State) (g : Nat) : s.doFlexeOhFrameSend g =
    let u := (s.groupSync g).ohCheck g
    if !u.flag (flxePage g) FLXE_GRP_CFG_EN then u
    else (if u.flag (flxePage g) FLXE_GRP_STATUS_SWITCH_PEND && (u.flexe g).caSeen then u.calSwitch g else u).ohBoundary g := by
  rfl

theorem State.doFlexeOhFrameSend_of_idle {u : State} (hu : u = (s.groupSync g).ohCheck g)
    (hen : u.flag (flxePage g) FLXE_GRP_CFG_EN = true) (hpend : u.flag (flxePage g) FLXE_GRP_STATUS_SWITCH_PEND = false)
    (hsmc : u.flag (flxePage g) FLXE_GRP_CFG_SMC_EN = false) :
    s.doFlexeOhFrameSend g = ((u.multiframeBegun g).ohFramesSent g).setFlexe g
      { ((u.multiframeBegun g).ohFramesSent g).flexe g with frame := ((u.flexe g).frame + 1) % 32 } := by
  have hsmc' : (u.multiframeBegun g).flag (flxePage g) FLXE_GRP_CFG_SMC_EN = false := by
    simpa only [State.flag, State.fld, State.rd, State.multiframeBegun_regs] using hsmc
  simp only [State.doFlexeOhFrameSend_eq, ← hu, hen, hpend, Bool.not_true, Bool.false_and, Bool.false_eq_true, if_false,
    State.ohBoundary, State.each_ohEmit_of_idle hsmc', State.ohFramesSent]

/-! ### Calendar switches (R243) -/

/-- A switch is asked for: pending until its deadline, with no CA seen. -/
def State.switchAsked (s : State) (g : Nat) : State :=
  (s.setFld (flxePage g) FLXE_GRP_STATUS_SWITCH_PEND 1).setFlexe g { s.flexe g with
    caSeen := false, switchDeadline := some (s.now + s.fld (flxePage g) FLXE_CA_TIMEOUT_TIMEOUT * 1000000) }

@[simp] theorem State.switchAsked_withCtrs (s : State) (c : Map Nat) (g : Nat) :
    (s.withCtrs c).switchAsked g = (s.switchAsked g).withCtrs c := (rfl)
@[simp] theorem State.switchAsked_sys (s : State) (g : Nat) : (s.switchAsked g).sys = s.sys := (rfl)
@[simp] theorem State.calDrop_withCtrs (s : State) (c : Map Nat) (g : Nat) :
    (s.withCtrs c).calDrop g = (s.calDrop g).withCtrs c := (rfl)
@[simp] theorem State.calDrop_sys (s : State) (g : Nat) : (s.calDrop g).sys = s.sys := (rfl)

theorem State.doCalSwitchRequest_of_none {u : State} (hu : u = s.setFlag (flxePage g) FLXE_GRP_CFG_REFUSED false)
    (hnone : u.flag (flxePage g) FLXE_GRP_STATUS_SWITCH_PEND = false) : s.doCalSwitchRequest g = u.switchAsked g := by
  simp only [State.doCalSwitchRequest, ← hu, hnone, Bool.false_eq_true, if_false, State.switchAsked]

theorem State.doCalSwitchTimeout_of_over {n : Nat} (hdeadline : (s.flexe g).switchDeadline = some n) (hover : n ≤ s.now)
    (hca : (s.flexe g).caSeen = false) : s.doCalSwitchTimeout g = (s.calDrop g).raise (flxePage g) 2 := by
  simp [State.doCalSwitchTimeout, hdeadline, hover, hca]

/-- A write that acts at once and is let in answers what its operation makes of the state, counters of events aside, where the
operation makes no severity action due. -/
theorem State.nowRow_answers {s u : State} {w : Who} {page off : Nat} {run : State → State} (hadmits : Admits s w page off)
    (hquiet : Quiet u) (hrun : ∀ j, run (s.withCtrs j) = u.withCtrs j) :
    ∃ c, (Host.Outcome.next (settle (s.nowRow w page off run)) : Res) = .next (u.withCtrs c) := by
  obtain ⟨j, k, hrow⟩ := State.nowRow_eq hadmits run
  have hrow' : s.nowRow w page off run = u.withCtrs k := by rw [hrow, hrun]; rfl
  exact ⟨k, by rw [hrow', settle_of_quiet (s := u.withCtrs k) hquiet]⟩

/-! ### The client window (R238, R245, R263) -/

/-- The state in which a command of the client window acts: REFUSED is clear and INDEX names the client. -/
def State.clientTaken (s : State) (n : Nat) : State :=
  (s.setFld (flxePage 32) FLXEC_CL_CFG_REFUSED 0).setFld (flxePage 32) FLXEC_CL_CMD_INDEX n

@[simp] theorem State.clientTaken_withCtrs (s : State) (c : Map Nat) (n : Nat) :
    (s.withCtrs c).clientTaken n = (s.clientTaken n).withCtrs c := by simp [State.clientTaken]

/-- A command of the client window completes with RESULT `r`. -/
def State.clientDone (s : State) (r : Nat) : State := s.winDone (flxePage 32) FLXEC_CL_CMD_RESULT FLXEC_CL_CMD_BUSY r

/-- The first words of a client as the window shows them: its configuration, its slots, and the bytes in its FIFO. -/
def State.clientWords (s : State) (n : Nat) : List Word :=
  [BitVec.ofNat 32 ((s.client n).group + 32 * (s.client n).lport + (if (s.client n).valid then 32768 else 0) + 65536 * (s.client n).wireId),
    BitVec.ofNat 32 (s.clientSlots n +
      1024 * s.rxSlotsIn (s.client n).group n (s.flag (flxePage (s.client n).group) FLXE_GRP_STATUS_CAL_RX)),
    BitVec.ofNat 32 (s.client n).fifo.length]

/-- A client's counters as the window shows them. -/
def Client.counterWords (c : Client) : List Word :=
  [BitVec.ofNat 32 c.fifoDiscard, BitVec.ofNat 32 (c.fifoDiscard / 2 ^ 32), BitVec.ofNat 32 c.rxCut, BitVec.ofNat 32 (c.rxCut / 2 ^ 32)]

/-- Client `n`, drained, becomes a valid client of group `g` (R238, R245): the calendars shown and the rates of its logical port's
slice follow. -/
def State.clientSet (s : State) (n g lp wire : Nat) : State :=
  ((((s.setClient n { s.client n with group := g, lport := lp, valid := true, wireId := wire, drained := s.now * 1000 }).syncRxCal
    (s.client n).group).syncRxCal g).ratesChanged s (sliceOf lp)).rescale (sliceOf lp)

section
variable {n : Nat} (hfree : s.flag (flxePage 32) FLXEC_CL_CMD_BUSY = false)
include hfree

theorem State.doClientRead_of_free : s.doClientRead n =
    ((((s.clientTaken n).drainClient n).winPut (flxePage 32) 0x104 (((s.clientTaken n).drainClient n).clientWords n)).winPut
      (flxePage 32) 0x114 (((s.clientTaken n).drainClient n).client n).counterWords).clientDone 0 := by
  rw [State.doClientRead, State.winBusy_of_free hfree]
  rfl

/-- Firmware writes a client that is not valid, in a group open to it. -/
theorem State.doClientWrite_of_good {fw : Bool} {u : State} {lp wire : Nat} (hu : u = s.clientTaken n)
    (hg : g = u.fld (flxePage 32) FLXEC_CL_DATA0_GROUP) (hlp : lp = u.fld (flxePage 32) FLXEC_CL_DATA0_LPORT)
    (hwire : wire = u.fld (flxePage 32) FLXEC_CL_DATA0_WIRE_ID) (hvalid : u.flag (flxePage 32) FLXEC_CL_DATA0_VALID = true)
    (hgood : u.clientBad n g lp wire true = false) (hopen : fw = true → u.fwGroup g = true ∧ (s.client n).valid = false) :
    s.doClientWrite fw n = ((u.drainClient n).clientSet n g lp wire).clientDone 0 := by
  have hgate : (fw && !(u.fwGroup g && (!(u.client n).valid || u.fwGroup (u.client n).group))) = false := by
    have hkept : u.client n = s.client n := by
      simp only [hu, State.clientTaken, State.client, State.setFld_trunk]
    cases fw with
    | false => rfl
    | true => simp [hopen rfl, hkept]
  rw [State.clientTaken] at hu
  simp only [State.doClientWrite, State.winBusy_of_free hfree, ← hu, ← hg, ← hlp, ← hwire, hvalid, hgood, hgate, Bool.or_false,
    Bool.false_eq_true, if_false, if_true, State.clientSet, State.clientDone]

end

end
/-! ### The commands over their operations -/

theorem exec_flexeOhFrameReceive (g : Group) (i : Fin 8) (oh : OhFrame) (s : State) :
    exec (.flexeOhFrameReceive g i oh) s = .next (settle (s.doFlexeOhFrameReceive g i oh)) := by rfl
theorem exec_flexeOhFrameSend (g : Group) (s : State) : exec (.flexeOhFrameSend g) s = .next (settle (s.doFlexeOhFrameSend g)) := by rfl
theorem exec_flexeOhLockDone (g : Group) (s : State) : exec (.flexeOhLockDone g) s = .next (settle (s.doFlexeOhLockDone g)) := by rfl
theorem exec_flexeOhLockTimeout (g : Group) (s : State) :
    exec (.flexeOhLockTimeout g) s = .next (settle (s.doFlexeOhLockTimeout g)) := by rfl
theorem exec_flexeMapCheckDone (g : Group) (s : State) :
    exec (.flexeMapCheckDone g) s = .next (settle (s.doFlexeMapCheckDone g)) := by rfl
theorem exec_flexeMapCheckTimeout (g : Group) (s : State) :
    exec (.flexeMapCheckTimeout g) s = .next (settle (s.doFlexeMapCheckTimeout g)) := by rfl
theorem exec_flexeDeskewDone (g : Group) (d : BitVec 14) (s : State) :
    exec (.flexeDeskewDone g d) s = .next (settle (s.doFlexeDeskewDone g d.toNat)) := by rfl
theorem exec_flexeDeskewTimeout (g : Group) (s : State) :
    exec (.flexeDeskewTimeout g) s = .next (settle (s.doFlexeDeskewTimeout g)) := by rfl
theorem exec_calSwitchRequest (g : Group) (w : Who) (s : State) : exec (.calSwitchRequest g w) s =
    .next (settle (s.nowRow w (flxePage g) 0x88 fun s => s.doCalSwitchRequest g)) := by rfl
theorem exec_calSwitchAbandon (g : Group) (w : Who) (s : State) : exec (.calSwitchAbandon g w) s =
    .next (settle (s.nowRow w (flxePage g) 0x88 fun s => s.doCalSwitchAbandon g)) := by rfl
theorem exec_calSwitchTimeout (g : Group) (s : State) : exec (.calSwitchTimeout g) s = .next (settle (s.doCalSwitchTimeout g)) := by rfl
theorem exec_clientWrite (w : Who) (n : Fin 4096) (s : State) : exec (.clientWrite w n) s =
    .next (settle (s.turnRow w .flxeC (flxePage 32) 0x100 (n + 0x1000) fun s => s.doClientWrite (whoFw w) n)) := by rfl
theorem exec_clientRead (w : Who) (n : Fin 4096) (s : State) : exec (.clientRead w n) s =
    .next (settle (s.turnRow w .flxeC (flxePage 32) 0x100 (n + 0x2000) fun s => s.doClientRead n)) := by rfl

/-! ### Where the register commands act -/

section
variable {s : State} {g : Group} {w : Who} (hadmits : Admits s w (flxePage g) 0x88) (hquiet : Quiet s)
include hadmits hquiet

theorem exec_calSwitchRequest_of_none {u : State} (hu : u = s.setFlag (flxePage g) FLXE_GRP_CFG_REFUSED false)
    (hnone : u.flag (flxePage g) FLXE_GRP_STATUS_SWITCH_PEND = false) :
    ∃ c, exec (.calSwitchRequest g w) s = .next ((u.switchAsked g).withCtrs c) := by
  rw [exec_calSwitchRequest]
  refine State.nowRow_answers hadmits (by simpa [Quiet, hu] using hquiet) fun j => ?_
  rw [State.doCalSwitchRequest_of_none (s := s.withCtrs j) (u := u.withCtrs j) (by simp [hu]) (by simpa using hnone),
    State.switchAsked_withCtrs]

theorem exec_calSwitchAbandon_of_admits :
    ∃ c, exec (.calSwitchAbandon g w) s = .next (((s.setFlag (flxePage g) FLXE_GRP_CFG_REFUSED false).calDrop g).withCtrs c) := by
  rw [exec_calSwitchAbandon]
  refine State.nowRow_answers hadmits (by simpa [Quiet] using hquiet) fun j => ?_
  rw [State.doCalSwitchAbandon, State.setFlag_withCtrs, State.calDrop_withCtrs]

end

section
variable {s : State} {w : Who} {n : Fin 4096} (hturn : TakesTurn s w (flxePage 32) 0x100)
  (hfree : s.flag (flxePage 32) FLXEC_CL_CMD_BUSY = false)
include hturn hfree

theorem exec_clientRead_of_free : ∃ c d, exec (.clientRead w n) s = .next (settle
    (((((((s.clientTaken n).withCtrs c).drainClient n).winPut (flxePage 32) 0x104
      ((((s.clientTaken n).withCtrs c).drainClient n).clientWords n)).winPut (flxePage 32) 0x114
      ((((s.clientTaken n).withCtrs c).drainClient n).client n).counterWords).clientDone 0).withCtrs d)) := by
  obtain ⟨c, d, hrow⟩ := State.turnRow_eq (t := .flxeC) (v := n + 0x2000) hturn (by decide) fun s => s.doClientRead n
  refine ⟨c, d, ?_⟩
  rw [exec_clientRead, hrow, State.doClientRead_of_free (s := s.withCtrs c) hfree, State.clientTaken_withCtrs]

theorem exec_clientWrite_of_good {g lp wire : Nat} {u : State} (hu : u = s.clientTaken n)
    (hg : g = u.fld (flxePage 32) FLXEC_CL_DATA0_GROUP) (hlp : lp = u.fld (flxePage 32) FLXEC_CL_DATA0_LPORT)
    (hwire : wire = u.fld (flxePage 32) FLXEC_CL_DATA0_WIRE_ID) (hvalid : u.flag (flxePage 32) FLXEC_CL_DATA0_VALID = true)
    (hgood : u.clientBad n g lp wire true = false) (hopen : whoFw w = true → u.fwGroup g = true ∧ (s.client n).valid = false) :
    ∃ c d, exec (.clientWrite w n) s =
      .next (settle (((((u.withCtrs c).drainClient n).clientSet n g lp wire).clientDone 0).withCtrs d)) := by
  obtain ⟨c, d, hrow⟩ := State.turnRow_eq (t := .flxeC) (v := n + 0x1000) hturn (by decide) fun s => s.doClientWrite (whoFw w) n
  refine ⟨c, d, ?_⟩
  rw [exec_clientWrite, hrow, State.doClientWrite_of_good (s := s.withCtrs c) (u := u.withCtrs c) hfree (by simp [hu]) hg hlp hwire
    hvalid hgood hopen]

end

/-- Settles O13: each command is its operation, and the operation's lemma for the case at hand gives the answer; a command of a register
or of the client window acts on the state let in. -/
theorem flexeCommandsComplete : Obligations.FlexeCommandsComplete := by
  unfold Obligations.FlexeCommandsComplete
  refine ⟨?states, ?deskew, ?received, ?taken, ?sent, ?carried, ?register, ?late, ?window⟩
  case states =>
    intro g s
    refine ⟨fun hst hup => ?lockDone, fun hst hover => ?lockLate, fun hst hgood hup => ?mapGood, fun hst hbad => ?mapBad,
      fun hst hover => ?mapLate, fun hst hover => ?deskewLate⟩
    case lockDone => rw [exec_flexeOhLockDone, State.doFlexeOhLockDone_of_up hst hup]
    case lockLate =>
      rw [exec_flexeOhLockTimeout, State.doFlexeOhLockTimeout_of_over (State.groupTimedOut_of_le hst hover)]
    case mapGood => rw [exec_flexeMapCheckDone, State.doFlexeMapCheckDone_of_good hst hgood hup]
    case mapBad => rw [exec_flexeMapCheckDone, State.doFlexeMapCheckDone_of_bad hst hbad]
    case mapLate =>
      rw [exec_flexeMapCheckTimeout, State.doFlexeMapCheckTimeout_of_over (State.groupTimedOut_of_le hst hover)]
    case deskewLate =>
      rw [exec_flexeDeskewTimeout, State.doFlexeDeskewTimeout_of_over (State.groupTimedOut_of_le hst hover)]
  case deskew =>
    rintro g d s u hst rfl
    refine ⟨fun hsmall hup => ?small, fun hlarge => ?large⟩
    case small => rw [exec_flexeDeskewDone, State.doFlexeDeskewDone_of_small hst hsmall hup]
    case large => rw [exec_flexeDeskewDone, State.doFlexeDeskewDone_of_large hst hlarge]
  case received =>
    rintro g i oh s u v hen hmember hst rfl
    refine ⟨fun hbad => ?bad, fun hgood hrpf hv => ?good⟩
    case bad => rw [exec_flexeOhFrameReceive, State.doFlexeOhFrameReceive_of_bad hen hmember hst hbad, Flexe.takeBad]
    case good =>
      obtain rfl : v = (s.ohCheck g).ohTaken g i oh := by rw [hv, State.ohTaken, hrpf]; rfl
      rw [exec_flexeOhFrameReceive, State.doFlexeOhFrameReceive_of_good hen hmember hst hgood hrpf]
      exact ⟨fun hsame => by rw [if_pos hsame], fun hother => by rw [if_neg hother]⟩
  case taken =>
    intro x i oh p e now hbad hlast
    obtain ⟨hcount, hinstant⟩ := Flexe.take_member hbad hlast oh p e now
    exact ⟨hcount, hinstant, rfl, rfl, rfl, rfl⟩
  case sent =>
    intro g s u v hu hen hpend hsmc hv
    obtain rfl : v = u.multiframeBegun g := hv
    exact ⟨_, rfl, by rw [exec_flexeOhFrameSend, State.doFlexeOhFrameSend_of_idle hu hen hpend hsmc, State.ohFramesSent]⟩
  case carried =>
    intro g i s
    exact ⟨rfl, rfl, rfl, rfl, rfl⟩
  case register =>
    intro g w s u hadmits hquiet hu
    refine ⟨fun hnone => ?request, ?abandon⟩
    case request =>
      have hflexe : u.flexe g = s.flexe g := by rw [hu, State.flexe, State.setFlag_trunk, State.flexe]
      have hnow : u.now = s.now := by rw [hu, State.setFlag_now]
      obtain ⟨c, hexec⟩ := exec_calSwitchRequest_of_none hadmits hquiet hu hnone
      exact ⟨c, by rw [hexec, State.switchAsked, hflexe, hnow]⟩
    case abandon => exact hu ▸ exec_calSwitchAbandon_of_admits hadmits hquiet
  case late =>
    intro g s n hdeadline hover hca
    rw [exec_calSwitchTimeout, State.doCalSwitchTimeout_of_over hdeadline hover hca]
  case window =>
    rintro w n s u pg hturn rfl hfree hu
    refine ⟨fun g lp wire hg hlp hwire hvalid hgood hopen => ?write, ?read⟩
    case write => exact exec_clientWrite_of_good hturn hfree hu hg hlp hwire hvalid hgood hopen
    case read =>
      obtain rfl : u = s.clientTaken n := hu
      obtain ⟨c, d, hexec⟩ := exec_clientRead_of_free (n := n) hturn hfree
      exact ⟨c, d, _, _, hexec, rfl, rfl, rfl⟩

end Sys2Proof.Machine

/-! SUPPORT. One step and a run of steps: what each starts from, what every command keeps, and the passing of one nanosecond (R302, R303,
R306, R404). -/

namespace Sys2Proof.Machine

/-! ### One nanosecond passes (log 1) -/

/-- The time bases move with DT, and nothing else does. -/
theorem State.advance_sameBut (s : State) (d : Int) : SameBut [.time] s (s.advance d) := by
  have htb : ∀ (u : State) (n : Nat) (f : TimeBase → TimeBase), SameBut [.time] u (u.onTb n f) := fun u n f => by
    simp [SameBut, State.onTb]
  have hdt : SameBut [.time] s (s.onTime fun t => { t with dt := ((t.dt : Int) + d).toNat }) := by simp [SameBut]
  refine hdt.trans (SameBut.each (fun u n => ?_) _ _)
  split
  · exact htb u n _
  · exact SameBut.refl _ u

theorem State.tick_now (s : State) : s.tick.now = s.now + 1 := s.tick_kept.now

/-- On standby power DT is the one part of the time unit that moves (R303). -/
theorem State.tick_of_standby {s : State} (h : s.time.standby = true) :
    s.tick = { s with now := s.now + 1, time := { s.time with dt := s.time.dt + 65536 } } := by
  simp [State.tick, State.onTime, h]

theorem State.tick_sameBut (s : State) : SameBut [.now, .time] s s.tick := by
  have hclock : SameBut [.now, .time] s { s with now := s.now + 1 } := by simp [SameBut]
  refine hclock.trans ?_
  unfold State.tick
  dsimp only
  split
  · simp [SameBut]
  · exact SameBut.trans (by simp [SameBut]) ((State.advance_sameBut _ _).mono (by decide))

/-! ### One step -/

theorem step_nil {s : State} (h : s.pending = []) : step s = .next s.tick := by simp [step, h]

theorem step_cons {s : State} {c : Instr} {r : List Instr} (h : s.pending = c :: r) : step s = exec c { s with pending := r } := by
  simp [step, h]

/-- Settles O32: with no command waiting a step is `State.tick`, which the model takes for the passing of a nanosecond (log 1). -/
theorem idleStepIsOneTick : Obligations.IdleStepIsOneTick := by
  unfold Obligations.IdleStepIsOneTick
  intro s hidle
  exact ⟨s.tick, step_nil hidle, s.tick_now, s.tick_sameBut, State.tick_of_standby⟩

/-- Every command keeps what every operation keeps: one arm for each arm of `exec`. -/
theorem exec_kept (c : Instr) {s t : State} (h : exec c s = .next t) : Kept s t :=
  match c, h with
  | .frameReceiveStart .., h => execFrameReceiveStart_kept (h := h)
  | .ruleLookup .., h => execRuleLookup_kept (h := h)
  | .frameReceiveEnd .., h => execFrameReceiveEnd_kept (h := h)
  | .macControlReceive .., h => execMacControlReceive_kept (h := h)
  | .pauseExpire .., h => execPauseExpire_kept (h := h)
  | .pfcRefresh .., h => execPfcRefresh_kept (h := h)
  | .pauseWatchdogExpire .., h => execPauseWatchdogExpire_kept (h := h)
  | .pauseRecoveryEnd .., h => execPauseRecoveryEnd_kept (h := h)
  | .verifyTimer .., h => execVerifyTimer_kept (h := h)
  | .verifyRespondReceive .., h => execVerifyRespondReceive_kept (h := h)
  | .verifyReceive .., h => execVerifyReceive_kept (h := h)
  | .parkedFrameReceive .., h => execParkedFrameReceive_kept (h := h)
  | .lightAppear .., h => execLightAppear_kept (h := h)
  | .cellIdleClose .., h => execCellIdleClose_kept (h := h)
  | .matchingRound .., h => execMatchingRound_kept (h := h)
  | .cellArrival .., h => execCellArrival_kept (h := h)
  | .reseqTimeout .., h => execReseqTimeout_kept (h := h)
  | .voqStall .., h => execVoqStall_kept (h := h)
  | .planeTrainingLoss .., h => execPlaneTrainingLoss_kept (h := h)
  | .planeRemove .., h => execPlaneRemove_kept (h := h)
  | .planeReturn .., h => execPlaneReturn_kept (h := h)
  | .planeReturnDone .., h => execPlaneReturnDone_kept (h := h)
  | .portTreeDecision .., h => execPortTreeDecision_kept (h := h)
  | .transmitSelect .., h => execTransmitSelect_kept (h := h)
  | .transmitEnd .., h => execTransmitEnd_kept (h := h)
  | .ctUnderrun .., h => execCtUnderrun_kept (h := h)
  | .bobbinIdleWrite .., h => execBobbinIdleWrite_kept (h := h)
  | .bobbinReadback .., h => execBobbinReadback_kept (h := h)
  | .uncorrectableCodeword .., h => execUncorrectableCodeword_kept (h := h)
  | .serWindowRestart .., h => execSerWindowRestart_kept (h := h)
  | .pitchBiasDone .., h => execPitchBiasDone_kept (h := h)
  | .pitchBiasTimeout .., h => execPitchBiasTimeout_kept (h := h)
  | .pitchEqualiseDone .., h => execPitchEqualiseDone_kept (h := h)
  | .pitchEqualiseTimeout .., h => execPitchEqualiseTimeout_kept (h := h)
  | .lossOfLight .., h => execLossOfLight_kept (h := h)
  | .pitchFecLockDone .., h => execPitchFecLockDone_kept (h := h)
  | .pitchFecLockTimeout .., h => execPitchFecLockTimeout_kept (h := h)
  | .pitchAmLockDone .., h => execPitchAmLockDone_kept (h := h)
  | .pitchAmLockTimeout .., h => execPitchAmLockTimeout_kept (h := h)
  | .alignmentLockLoss .., h => execAlignmentLockLoss_kept (h := h)
  | .backoffEnd .., h => execBackoffEnd_kept (h := h)
  | .holdTimerExpire .., h => execHoldTimerExpire_kept (h := h)
  | .parkApply .., h => execParkApply_kept (h := h)
  | .laserSample .., h => execLaserSample_kept (h := h)
  | .sparePowerReady .., h => execSparePowerReady_kept (h := h)
  | .spareSwitchComplete .., h => execSpareSwitchComplete_kept (h := h)
  | .wearRecordWrite .., h => execWearRecordWrite_kept (h := h)
  | .eyeLimitTrip .., h => execEyeLimitTrip_kept (h := h)
  | .laneClearTrip .., h => execLaneClearTrip_kept (h := h)
  | .laneApproveSwitch .., h => execLaneApproveSwitch_kept (h := h)
  | .laneSwitchNow .., h => execLaneSwitchNow_kept (h := h)
  | .calInterpolate .., h => execCalInterpolate_kept (h := h)
  | .counterHarvest .., h => execCounterHarvest_kept (h := h)
  | .counterLowRead .., h => execCounterLowRead_kept (h := h)
  | .ruleWrite .., h => execRuleWrite_kept (h := h)
  | .ruleRead .., h => execRuleRead_kept (h := h)
  | .ruleInvalidate .., h => execRuleInvalidate_kept (h := h)
  | .templateWrite .., h => execTemplateWrite_kept (h := h)
  | .templateRead .., h => execTemplateRead_kept (h := h)
  | .meterWrite .., h => execMeterWrite_kept (h := h)
  | .meterRead .., h => execMeterRead_kept (h := h)
  | .meterRefill .., h => execMeterRefill_kept (h := h)
  | .scrubStep .., h => execScrubStep_kept (h := h)
  | .learnRequestArrive .., h => execLearnRequestArrive_kept (h := h)
  | .sequencerAccept .., h => execSequencerAccept_kept (h := h)
  | .copyApply .., h => execCopyApply_kept (h := h)
  | .pendingFilterExpire .., h => execPendingFilterExpire_kept (h := h)
  | .ageSweepSlot .., h => execAgeSweepSlot_kept (h := h)
  | .memberAgeSweep .., h => execMemberAgeSweep_kept (h := h)
  | .tableEntryWrite .., h => execTableEntryWrite_kept (h := h)
  | .tableEntryRead .., h => execTableEntryRead_kept (h := h)
  | .tableEntryDelete .., h => execTableEntryDelete_kept (h := h)
  | .macInsert .., h => execMacInsert_kept (h := h)
  | .macDelete .., h => execMacDelete_kept (h := h)
  | .macFlush .., h => execMacFlush_kept (h := h)
  | .macFlushDone .., h => execMacFlushDone_kept (h := h)
  | .readBySlot .., h => execReadBySlot_kept (h := h)
  | .memberJoin .., h => execMemberJoin_kept (h := h)
  | .memberLeave .., h => execMemberLeave_kept (h := h)
  | .routeInsert .., h => execRouteInsert_kept (h := h)
  | .routeDelete .., h => execRouteDelete_kept (h := h)
  | .routeLongestMatch .., h => execRouteLongestMatch_kept (h := h)
  | .hashSeedWrite .., h => execHashSeedWrite_kept (h := h)
  | .queueConfigWrite .., h => execQueueConfigWrite_kept (h := h)
  | .queueConfigRead .., h => execQueueConfigRead_kept (h := h)
  | .stackRefreshDouble .., h => execStackRefreshDouble_kept (h := h)
  | .stackRefreshNormal .., h => execStackRefreshNormal_kept (h := h)
  | .derateRecompute .., h => execDerateRecompute_kept (h := h)
  | .stackFault .., h => execStackFault_kept (h := h)
  | .stackRemove .., h => execStackRemove_kept (h := h)
  | .stackReturn .., h => execStackReturn_kept (h := h)
  | .stackSelftestDone .., h => execStackSelftestDone_kept (h := h)
  | .auditLatch .., h => execAuditLatch_kept (h := h)
  | .auditCheck .., h => execAuditCheck_kept (h := h)
  | .schedEntryWrite .., h => execSchedEntryWrite_kept (h := h)
  | .schedEntryRead .., h => execSchedEntryRead_kept (h := h)
  | .gateCommit .., h => execGateCommit_kept (h := h)
  | .gateCommitCopyDone .., h => execGateCommitCopyDone_kept (h := h)
  | .gateListChange .., h => execGateListChange_kept (h := h)
  | .gateEntryAdvance .., h => execGateEntryAdvance_kept (h := h)
  | .sampleReadClear .., h => execSampleReadClear_kept (h := h)
  | .queueSample .., h => execQueueSample_kept (h := h)
  | .flexeOhFrameReceive .., h => execFlexeOhFrameReceive_kept (h := h)
  | .flexeOhFrameSend .., h => execFlexeOhFrameSend_kept (h := h)
  | .flexeOhLockDone .., h => execFlexeOhLockDone_kept (h := h)
  | .flexeOhLockTimeout .., h => execFlexeOhLockTimeout_kept (h := h)
  | .flexeMapCheckDone .., h => execFlexeMapCheckDone_kept (h := h)
  | .flexeMapCheckTimeout .., h => execFlexeMapCheckTimeout_kept (h := h)
  | .flexeDeskewDone .., h => execFlexeDeskewDone_kept (h := h)
  | .flexeDeskewTimeout .., h => execFlexeDeskewTimeout_kept (h := h)
  | .calSwitchRequest .., h => execCalSwitchRequest_kept (h := h)
  | .calSwitchAbandon .., h => execCalSwitchAbandon_kept (h := h)
  | .calSwitchTimeout .., h => execCalSwitchTimeout_kept (h := h)
  | .clientWrite .., h => execClientWrite_kept (h := h)
  | .clientRead .., h => execClientRead_kept (h := h)
  | .packUnitReceive .., h => execPackUnitReceive_kept (h := h)
  | .foldCommit .., h => execFoldCommit_kept (h := h)
  | .foldCommitApply .., h => execFoldCommitApply_kept (h := h)
  | .foldCleaningDone .., h => execFoldCleaningDone_kept (h := h)
  | .foldDiscardPending .., h => execFoldDiscardPending_kept (h := h)
  | .foldArm .., h => execFoldArm_kept (h := h)
  | .foldDisarm .., h => execFoldDisarm_kept (h := h)
  | .foldPromotionDone .., h => execFoldPromotionDone_kept (h := h)
  | .foldResume .., h => execFoldResume_kept (h := h)
  | .foldRestart .., h => execFoldRestart_kept (h := h)
  | .foldRestartDone .., h => execFoldRestartDone_kept (h := h)
  | .foldEntryWrite .., h => execFoldEntryWrite_kept (h := h)
  | .foldEntryRead .., h => execFoldEntryRead_kept (h := h)
  | .foldEntryRemove .., h => execFoldEntryRemove_kept (h := h)
  | .packCntSel .., h => execPackCntSel_kept (h := h)
  | .linkPrefixReceive .., h => execLinkPrefixReceive_kept (h := h)
  | .linkCellReceive .., h => execLinkCellReceive_kept (h := h)
  | .helloReceive .., h => execHelloReceive_kept (h := h)
  | .latchPrefixReceive .., h => execLatchPrefixReceive_kept (h := h)
  | .linkUnitSlot .., h => execLinkUnitSlot_kept (h := h)
  | .helloSend .., h => execHelloSend_kept (h := h)
  | .helloDeadInterval .., h => execHelloDeadInterval_kept (h := h)
  | .retryTimerExpire .., h => execRetryTimerExpire_kept (h := h)
  | .holddownExpire .., h => execHolddownExpire_kept (h := h)
  | .fabricCellDeliver .., h => execFabricCellDeliver_kept (h := h)
  | .fabReseqTimeout .., h => execFabReseqTimeout_kept (h := h)
  | .gapNoticeReceive .., h => execGapNoticeReceive_kept (h := h)
  | .lostItemExpire .., h => execLostItemExpire_kept (h := h)
  | .streamEntryIdle .., h => execStreamEntryIdle_kept (h := h)
  | .linkCntSel .., h => execLinkCntSel_kept (h := h)
  | .linkGroupWrite .., h => execLinkGroupWrite_kept (h := h)
  | .linkGroupRead .., h => execLinkGroupRead_kept (h := h)
  | .neighborRead .., h => execNeighborRead_kept (h := h)
  | .pathMaxReset .., h => execPathMaxReset_kept (h := h)
  | .dtTrim .., h => execDtTrim_kept (h := h)
  | .clkUnlock .., h => execClkUnlock_kept (h := h)
  | .dtSourceLost .., h => execDtSourceLost_kept (h := h)
  | .dtSourceReturn .., h => execDtSourceReturn_kept (h := h)
  | .dtSet .., h => execDtSet_kept (h := h)
  | .dtLatchRead .., h => execDtLatchRead_kept (h := h)
  | .tbLatchRead .., h => execTbLatchRead_kept (h := h)
  | .tbOffsetWrite .., h => execTbOffsetWrite_kept (h := h)
  | .tbStep .., h => execTbStep_kept (h := h)
  | .tbSwitchChannel .., h => execTbSwitchChannel_kept (h := h)
  | .tbHoldover .., h => execTbHoldover_kept (h := h)
  | .tbResetServo .., h => execTbResetServo_kept (h := h)
  | .tbChannelTimeout .., h => execTbChannelTimeout_kept (h := h)
  | .ppsOutEdge .., h => execPpsOutEdge_kept (h := h)
  | .ppsOutPulseEnd .., h => execPpsOutPulseEnd_kept (h := h)
  | .ppsInEdge .., h => execPpsInEdge_kept (h := h)
  | .ppsInTimeout .., h => execPpsInTimeout_kept (h := h)
  | .frefAbsent .., h => execFrefAbsent_kept (h := h)
  | .frefPresent .., h => execFrefPresent_kept (h := h)
  | .todTxWrite .., h => execTodTxWrite_kept (h := h)
  | .todTxSend .., h => execTodTxSend_kept (h := h)
  | .todRxByte .., h => execTodRxByte_kept (h := h)
  | .todRxRead .., h => execTodRxRead_kept (h := h)
  | .arrSel .., h => execArrSel_kept (h := h)
  | .arrivalWakeWindowClose .., h => execArrivalWakeWindowClose_kept (h := h)
  | .loomPeriodStart .., h => execLoomPeriodStart_kept (h := h)
  | .loomSlotAward .., h => execLoomSlotAward_kept (h := h)
  | .emergencyTake .., h => execEmergencyTake_kept (h := h)
  | .lockstepMismatch .., h => execLockstepMismatch_kept (h := h)
  | .sramEccError .., h => execSramEccError_kept (h := h)
  | .clusterSelftestDone .., h => execClusterSelftestDone_kept (h := h)
  | .clusterLoadDone .., h => execClusterLoadDone_kept (h := h)
  | .leaseRenew .., h => execLeaseRenew_kept (h := h)
  | .leaseClaim .., h => execLeaseClaim_kept (h := h)
  | .leaseRelease .., h => execLeaseRelease_kept (h := h)
  | .leaseReady .., h => execLeaseReady_kept (h := h)
  | .leaseExpire .., h => execLeaseExpire_kept (h := h)
  | .leaseGuardEnd .., h => execLeaseGuardEnd_kept (h := h)
  | .leaseRevoke .., h => execLeaseRevoke_kept (h := h)
  | .leaseSetNext .., h => execLeaseSetNext_kept (h := h)
  | .ckptCmd .., h => execCkptCmd_kept (h := h)
  | .ckptMark .., h => execCkptMark_kept (h := h)
  | .ckptCommit .., h => execCkptCommit_kept (h := h)
  | .ckptStale .., h => execCkptStale_kept (h := h)
  | .checkpointRestoreDone .., h => execCheckpointRestoreDone_kept (h := h)
  | .swapDue .., h => execSwapDue_kept (h := h)
  | .swapWindowExpire .., h => execSwapWindowExpire_kept (h := h)
  | .twinFrameReceive .., h => execTwinFrameReceive_kept (h := h)
  | .twinStatusSend .., h => execTwinStatusSend_kept (h := h)
  | .twinRenewSend .., h => execTwinRenewSend_kept (h := h)
  | .twinExpiry .., h => execTwinExpiry_kept (h := h)
  | .twinStandbyTakeover .., h => execTwinStandbyTakeover_kept (h := h)
  | .twinLinkLost .., h => execTwinLinkLost_kept (h := h)
  | .twinListenEnd .., h => execTwinListenEnd_kept (h := h)
  | .twinHandOver .., h => execTwinHandOver_kept (h := h)
  | .twinReleaseGuardEnd .., h => execTwinReleaseGuardEnd_kept (h := h)
  | .twinHoldInChange .., h => execTwinHoldInChange_kept (h := h)
  | .twinHoldSample .., h => execTwinHoldSample_kept (h := h)
  | .twinHoldRelease .., h => execTwinHoldRelease_kept (h := h)
  | .injectPost .., h => execInjectPost_kept (h := h)
  | .injectSend .., h => execInjectSend_kept (h := h)
  | .laserReq .., h => execLaserReq_kept (h := h)
  | .pmAllocate .., h => execPmAllocate_kept (h := h)
  | .pmFree .., h => execPmFree_kept (h := h)
  | .puntToCluster .., h => execPuntToCluster_kept (h := h)
  | .mbToFwPost .., h => execMbToFwPost_kept (h := h)
  | .mbToFwRead .., h => execMbToFwRead_kept (h := h)
  | .mbToHostPost .., h => execMbToHostPost_kept (h := h)
  | .mbToHostRead .., h => execMbToHostRead_kept (h := h)
  | .busErrorAccess .., h => execBusErrorAccess_kept (h := h)
  | .darkPageAccess .., h => execDarkPageAccess_kept (h := h)
  | .bar2Write .., h => execBar2Write_kept (h := h)
  | .pcieReset .., h => execPcieReset_kept (h := h)
  | .pcieLinkUp .., h => execPcieLinkUp_kept (h := h)
  | .busMasterEnable .., h => execBusMasterEnable_kept (h := h)
  | .msixVectorUnmask .., h => execMsixVectorUnmask_kept (h := h)
  | .registerWrite .., h => execRegisterWrite_kept (h := h)
  | .pageApply .., h => execPageApply_kept (h := h)
  | .pageHoldSet .., h => execPageHoldSet_kept (h := h)
  | .pageHoldRelease .., h => execPageHoldRelease_kept (h := h)
  | .pageHoldDiscard .., h => execPageHoldDiscard_kept (h := h)
  | .guardValueWrite .., h => execGuardValueWrite_kept (h := h)
  | .guardComplementWrite .., h => execGuardComplementWrite_kept (h := h)
  | .guardLapse .., h => execGuardLapse_kept (h := h)
  | .eventAssert .., h => execEventAssert_kept (h := h)
  | .evtClear .., h => execEvtClear_kept (h := h)
  | .ringEnable .., h => execRingEnable_kept (h := h)
  | .ringDisable .., h => execRingDisable_kept (h := h)
  | .hostIdxWrite .., h => execHostIdxWrite_kept (h := h)
  | .injectRingFetch .., h => execInjectRingFetch_kept (h := h)
  | .puntRingDeliver .., h => execPuntRingDeliver_kept (h := h)
  | .dmaReadError .., h => execDmaReadError_kept (h := h)
  | .ringRecordWrite .., h => execRingRecordWrite_kept (h := h)
  | .ringCoalTimer .., h => execRingCoalTimer_kept (h := h)
  | .notifyFifoEnqueue .., h => execNotifyFifoEnqueue_kept (h := h)
  | .evtWinRead .., h => execEvtWinRead_kept (h := h)
  | .evtWinReadReturn .., h => execEvtWinReadReturn_kept (h := h)
  | .perfFreeze .., h => execPerfFreeze_kept (h := h)
  | .perfRelease .., h => execPerfRelease_kept (h := h)
  | .perfZero .., h => execPerfZero_kept (h := h)
  | .perfDump .., h => execPerfDump_kept (h := h)
  | .dbgChallenge .., h => execDbgChallenge_kept (h := h)
  | .dbgResponse .., h => execDbgResponse_kept (h := h)
  | .dbgAccess .., h => execDbgAccess_kept (h := h)
  | .dbgClose .., h => execDbgClose_kept (h := h)
  | .debugIdleTimeout .., h => execDebugIdleTimeout_kept (h := h)
  | .debugLockoutEnd .., h => execDebugLockoutEnd_kept (h := h)
  | .debugAllowWrite .., h => execDebugAllowWrite_kept (h := h)
  | .tapReset .., h => execTapReset_kept (h := h)
  | .railBreak .., h => execRailBreak_kept (h := h)
  | .railRestore .., h => execRailRestore_kept (h := h)
  | .thermThresholdCross .., h => execThermThresholdCross_kept (h := h)
  | .coldResetCmd .., h => execColdResetCmd_kept (h := h)
  | .warmResetCmd .., h => execWarmResetCmd_kept (h := h)
  | .blockResetCmd .., h => execBlockResetCmd_kept (h := h)
  | .clusterResetCmd .., h => execClusterResetCmd_kept (h := h)
  | .releaseIsolated .., h => execReleaseIsolated_kept (h := h)
  | .blockResetReady .., h => execBlockResetReady_kept (h := h)
  | .sliceReloadDone .., h => execSliceReloadDone_kept (h := h)
  | .guyWindowEnd .., h => execGuyWindowEnd_kept (h := h)
  | .recordClrFatal .., h => execRecordClrFatal_kept (h := h)
  | .recordClrLast .., h => execRecordClrLast_kept (h := h)
  | .slowCopyRefresh .., h => execSlowCopyRefresh_kept (h := h)
  | .standbyPowerUp .., h => execStandbyPowerUp_kept (h := h)
  | .nvMountDone .., h => execNvMountDone_kept (h := h)
  | .mainPowerUp .., h => execMainPowerUp_kept (h := h)
  | .railsInRegulation .., h => execRailsInRegulation_kept (h := h)
  | .islandsClocked .., h => execIslandsClocked_kept (h := h)
  | .bootVerifyDone .., h => execBootVerifyDone_kept (h := h)
  | .microcodeLoaded .., h => execMicrocodeLoaded_kept (h := h)
  | .islandsSelftestDone .., h => execIslandsSelftestDone_kept (h := h)
  | .maelwickLoaded .., h => execMaelwickLoaded_kept (h := h)
  | .trialTimeout .., h => execTrialTimeout_kept (h := h)
  | .updateBegin .., h => execUpdateBegin_kept (h := h)
  | .updateWrite .., h => execUpdateWrite_kept (h := h)
  | .updateFinish .., h => execUpdateFinish_kept (h := h)
  | .updateAbandon .., h => execUpdateAbandon_kept (h := h)
  | .updateConfirm .., h => execUpdateConfirm_kept (h := h)
  | .updateSelect .., h => execUpdateSelect_kept (h := h)
  | .objectWrite .., h => execObjectWrite_kept (h := h)
  | .objectRead .., h => execObjectRead_kept (h := h)
  | .objectDelete .., h => execObjectDelete_kept (h := h)
  | .diagRun .., h => execDiagRun_kept (h := h)
  | .diagDone .., h => execDiagDone_kept (h := h)
  | .svnRaise .., h => execSvnRaise_kept (h := h)
  | .nvCkptCopyDone .., h => execNvCkptCopyDone_kept (h := h)
  | .journalPageProgram .., h => execJournalPageProgram_kept (h := h)
  | .nvRefreshScan page .., h => execNvRefreshScan_kept (_page := page) (h := h)
  | .resetNAssert .., h => execResetNAssert_kept (h := h)
  | .resetNRelease .., h => execResetNRelease_kept (h := h)
  | .powerFailInput .., h => execPowerFailInput_kept (h := h)
  | .vin12Low .., h => execVin12Low_kept (h := h)
  | .vin12Off .., h => execVin12Off_kept (h := h)
  | .vin12Return .., h => execVin12Return_kept (h := h)
  | .bmcReadIdentity .., h => execBmcReadIdentity_kept (h := h)
  | .bmcReadDevInfo .., h => execBmcReadDevInfo_kept (h := h)
  | .bmcReadStatus .., h => execBmcReadStatus_kept (h := h)
  | .bmcReadTemp .., h => execBmcReadTemp_kept (h := h)
  | .bmcReadVin12 .., h => execBmcReadVin12_kept (h := h)
  | .bmcReadVin12Current .., h => execBmcReadVin12Current_kept (h := h)
  | .bmcReadVsb33 .., h => execBmcReadVsb33_kept (h := h)
  | .bmcReadPower .., h => execBmcReadPower_kept (h := h)
  | .bmcReadFatal .., h => execBmcReadFatal_kept (h := h)
  | .bmcReadLastReset .., h => execBmcReadLastReset_kept (h := h)
  | .bmcReadAlertStatus .., h => execBmcReadAlertStatus_kept (h := h)
  | .bmcClearAlertStatus .., h => execBmcClearAlertStatus_kept (h := h)
  | .bmcColdReset .., h => execBmcColdReset_kept (h := h)
  | .smbAlertResponse .., h => execSmbAlertResponse_kept (h := h)
  | .bmcReadingRefresh .., h => execBmcReadingRefresh_kept (h := h)
  | .clusterWindowAccess .., h => execClusterWindowAccess_kept (h := h)
  | .firmwareHostPageRead .., h => execFirmwareHostPageRead_kept (h := h)
  | .peakFieldRead .., h => execPeakFieldRead_kept (h := h)
  | .perstNRelease .., h => execPerstNRelease_kept (h := h)
  | .msixEnableSet .., h => execMsixEnableSet_kept (h := h)
  | .boundaryScanInstruction .., h => execBoundaryScanInstruction_kept (h := h)
  | .nvCommandDone .., h => execNvCommandDone_kept (h := h)
  | .bobbinWriteDone .., h => execBobbinWriteDone_kept (h := h)

/-- The state on which a step acts: the front command is taken off the queue, or, with none waiting, the clock has moved on. -/
def State.stepFrom (s : State) : State := { s with pending := s.pending.tail, now := if s.pending = [] then s.now + 1 else s.now }

theorem step_kept {s t : State} (h : step s = .next t) : Kept s.stepFrom t := by
  cases hp : s.pending with
  | nil =>
    rw [step_nil hp] at h
    cases h
    have hfrom : s.stepFrom = { s with now := s.now + 1 } := by simp [State.stepFrom, hp]
    exact hfrom ▸ s.tick_kept
  | cons c r =>
    rw [step_cons hp] at h
    have hfrom : s.stepFrom = { s with pending := r } := by simp [State.stepFrom, hp]
    exact hfrom ▸ exec_kept c h

/-! ### A run of steps -/

theorem run_succ {n : Nat} {s t : State} : run (n + 1) s = some t ↔ ∃ u, step s = .next u ∧ run n u = some t := by
  rw [run]
  cases step s <;> simp

/-- A reflexive and transitive relation that holds over every step holds over every run. -/
theorem run_induction {R : State → State → Prop} (hrefl : ∀ s, R s s) (htrans : ∀ s t u, R s t → R t u → R s u)
    (hstep : ∀ s t, step s = .next t → R s t) {n : Nat} {s t : State} (h : run n s = some t) : R s t := by
  induction n generalizing s with
  | zero => exact Option.some.inj h ▸ hrefl s
  | succ n ih =>
    obtain ⟨u, hu, ht⟩ := run_succ.mp h
    exact htrans s u t (hstep s u hu) (ih ht)

/-- What only grows while the block runs: what has left it, its clock, and the counter behind the free values. -/
structure Grows (s t : State) : Prop where
  out : ∃ l, t.out = l ++ s.out
  now : s.now ≤ t.now
  free : s.free ≤ t.free

theorem Grows.refl (s : State) : Grows s s := ⟨⟨[], rfl⟩, Nat.le_refl _, Nat.le_refl _⟩

theorem Grows.trans {s t u : State} (h : Grows s t) (k : Grows t u) : Grows s u := by
  obtain ⟨⟨l, hl⟩, hnow, hfree⟩ := h
  obtain ⟨⟨m, hm⟩, know, kfree⟩ := k
  exact ⟨⟨m ++ l, by rw [hm, hl, List.append_assoc]⟩, Nat.le_trans hnow know, Nat.le_trans hfree kfree⟩

theorem step_now {s t : State} (h : step s = .next t) : t.now = if s.pending = [] then s.now + 1 else s.now := (step_kept h).now

theorem step_grows {s t : State} (h : step s = .next t) : Grows s t where
  out := (step_kept h).out
  now := by rw [step_now h]; split <;> omega
  free := (step_kept h).free

/-- Settles O39: each of the three only grows over a step, and so over a run. That what left is kept whole is log 4, and that the clock
moves on idle steps alone is logs 1 and 2. -/
theorem outputsAndClockOnlyGrow : Obligations.OutputsAndClockOnlyGrow := by
  unfold Obligations.OutputsAndClockOnlyGrow
  refine ⟨fun n s t h => ?_, fun s t h => step_now h⟩
  obtain ⟨hout, hnow, hfree⟩ := run_induction (R := Grows) Grows.refl (fun _ _ _ => Grows.trans) (fun _ _ => step_grows) h
  exact ⟨hout, hnow, hfree⟩

end Sys2Proof.Machine

/-! SUPPORT. Device time and the time bases: where each of their commands acts, and what it does there (R302, R303, R306 to R310, R322,
R435). -/

namespace Sys2Proof.Machine

/-! ### Reads that make their own value -/

theorem pageOf_timePage : pageOf timePage = some (.time, 0) := by rfl

section
variable {off : Nat}

/-- The six registers of TIME whose read makes its value. -/
theorem timeMade_iff {page : Nat} : timeMade page off ↔ page = timePage ∧ off ∈ [0x90, 0x118, 0x214, 0x294, 0x314, 0x394] := by
  have h : (off = 0x90 ∨ off = 0x118 ∨ 0x214 ≤ off ∧ off < 0x400 ∧ (off - 0x214) % 0x80 = 0) ↔
      off ∈ [0x90, 0x118, 0x214, 0x294, 0x314, 0x394] := by simp only [List.mem_cons, List.not_mem_nil, or_false]; omega
  rw [timeMade, h]

theorem accessError_of_timeMade (hoff : off ∈ [0x90, 0x118, 0x214, 0x294, 0x314, 0x394]) : accessError timePage off = 0 := by
  revert off; decide

/-- None of them is a count that a read starts anew. -/
theorem State.restartPeak_of_timeMade (s : State) (h : timeMade timePage off) : s.restartPeak timePage off = s := by
  have hoff : ¬(0x20C ≤ off ∧ off < 0x400 ∧ (off - 0x20C) % 0x80 = 0) := by
    obtain ⟨-, hmade⟩ := h
    omega
  simp only [State.restartPeak, pageOf_timePage]
  rw [if_neg (by simpa [and_assoc, -not_and] using hoff)]

theorem State.readReg_of_timeMade (s : State) (h : timeMade timePage off) : s.readReg timePage off = s.rd (regA timePage off) := by
  obtain ⟨-, h⟩ := timeMade_iff.mp h
  simp only [List.mem_cons, List.not_mem_nil, or_false] at h
  rcases h with rfl | rfl | rfl | rfl | rfl | rfl <;> rfl

end

theorem timeMade_dt : timeMade timePage 0x90 := timeMade_iff.mpr (by decide)
theorem timeMade_tod : timeMade timePage 0x118 := timeMade_iff.mpr (by decide)
theorem timeMade_tb : ∀ n : TB, timeMade timePage (0x214 + 0x80 * n) := by
  simp only [timeMade_iff]
  decide

/-! The three kinds of reads that make their value (R306, R318, R322), each its operation. -/

/-- They latch no counter and restart no peak before they act. -/
theorem State.readLatch_of_timeMade (s : State) {off : Nat} (h : timeMade timePage off) :
    (if isCtr timePage off then s.latchCtr timePage off else s.restartPeak timePage off) = s := by
  rw [if_neg (by simp [isCtr_of_timeMade h]), s.restartPeak_of_timeMade h]

theorem State.readEffect_dt (s : State) : s.readEffect timePage 0x90 = s.doDtLatchRead := by
  simp only [State.readEffect, s.readLatch_of_timeMade timeMade_dt, pageOf_timePage, if_true]

theorem State.readEffect_tod (s : State) : s.readEffect timePage 0x118 = s.doTodRxRead := by
  simp only [State.readEffect, s.readLatch_of_timeMade timeMade_tod, pageOf_timePage]
  simp

theorem State.readEffect_tb (s : State) (n : TB) : s.readEffect timePage (0x214 + 0x80 * n) = s.doTbLatchRead n := by
  have hhi : 0x214 + 0x80 * n.val < 0x400 := by omega
  have hdt : ¬(0x214 + 0x80 * n.val = 0x90) := by omega
  have hindex : 0x214 + 0x80 * n.val - 0x214 = 0x80 * n.val := by omega
  simp only [State.readEffect, s.readLatch_of_timeMade (timeMade_tb n), pageOf_timePage, hdt, hindex]
  simp [hhi]

section
variable {s u : State} {off : Nat} (htime : timeMade timePage off)
  (heff : ∀ c, (s.withCtrs c).readEffect timePage off = u.withCtrs c)
include htime heff

/-- A read that makes its own value returns what the register holds after it, and counters of events move beside it. -/
theorem State.readWith_of_timeMade (w : Who) :
    ∃ c, (s.accessHit w 1 timePage).readWith timePage off = (u.withCtrs c, u.rd (regA timePage off)) := by
  obtain ⟨c, hc⟩ := State.accessHit_eq s w 1 timePage
  refine ⟨c, ?_⟩
  have hmade : (timePage == timePage && (off == 0x90 || off == 0x118 ||
      (0x214 ≤ off && off < 0x400 && (off - 0x214) % 0x80 == 0))) = true := by
    simpa [timeMade, and_assoc, or_assoc] using htime
  simp only [State.readWith, hc, heff, hmade, if_true, State.readReg_of_timeMade _ htime]
  rfl

theorem State.anyRead_of_timeMade (w : Who) (hlit : s.pageDark timePage = false) :
    ∃ c, s.anyRead w timePage off = (u.emit (.completion (u.rd (regA timePage off)))).withCtrs c := by
  obtain ⟨c, hc⟩ := State.readWith_of_timeMade htime heff w
  have herr : accessError timePage off = 0 := accessError_of_timeMade (timeMade_iff.mp htime).2
  refine ⟨c, ?_⟩
  simp only [State.anyRead, State.hostRead, herr, hlit, hc]
  rfl

end

/-! ### The commands over their operations -/

theorem exec_dtTrim (i : Island) (k : BitVec 8) (f : BitVec 24) (s : State) :
    exec (.dtTrim i k f) s = .next (settle (s.doDtTrim i k.toNat f.toNat)) := by rfl
theorem exec_clkUnlock (i : Island) (s : State) : exec (.clkUnlock i) s = .next (settle (s.doClkUnlock i)) := by rfl
theorem exec_dtSourceLost (s : State) : exec .dtSourceLost s = .next (settle s.doDtSourceLost) := by rfl
theorem exec_dtSourceReturn (s : State) : exec .dtSourceReturn s = .next (settle s.doDtSourceReturn) := by rfl
theorem exec_dtLatchRead (s : State) : exec .dtLatchRead s = .next (settle (s.anyRead .host timePage 0x90)) := by rfl
theorem exec_tbLatchRead (n : TB) (s : State) :
    exec (.tbLatchRead n) s = .next (settle (s.anyRead .host timePage (0x214 + 0x80 * n))) := by rfl
theorem exec_tbOffsetWrite (w : Who) (n : TB) (ch : Fin 2) (o : Word) (s : State) :
    exec (.tbOffsetWrite w n ch o) s =
      .next (settle (s.nowRow w timePage (0x230 + 0x80 * n + 4 * ch) fun s => s.doTbOffsetWrite n ch o)) := by rfl
theorem exec_tbStep (w : Who) (n : TB) (s : State) :
    exec (.tbStep w n) s = .next (settle (s.nowRow w timePage (0x240 + 0x80 * n) fun s => s.doTbStep n)) := by rfl
theorem exec_tbSwitchChannel (w : Who) (n : TB) (s : State) :
    exec (.tbSwitchChannel w n) s = .next (settle (s.nowRow w timePage (0x240 + 0x80 * n) fun s => s.doTbSwitchChannel n)) := by rfl
theorem exec_tbHoldover (w : Who) (n : TB) (s : State) :
    exec (.tbHoldover w n) s = .next (settle (s.nowRow w timePage (0x240 + 0x80 * n) fun s => s.doTbHoldover n)) := by rfl
theorem exec_tbResetServo (w : Who) (n : TB) (s : State) :
    exec (.tbResetServo w n) s = .next (settle (s.nowRow w timePage (0x240 + 0x80 * n) fun s => s.doTbResetServo n)) := by rfl
theorem exec_tbChannelTimeout (n : TB) (ch : Fin 2) (s : State) :
    exec (.tbChannelTimeout n ch) s = .next (settle (s.doTbChannelTimeout n ch)) := by rfl

/-! ### Device time -/

section
variable {s : State}

/-- An island's measured skew sets its lock, and an unlocked one runs on from it (log 102); a lock that is lost is captured and raised. -/
theorem State.doDtTrim_of_island {i k : Nat} {m : Int} {x : IslandSt} (f : Nat) (hm : m = signed 8 k)
    (hx : x = { s.island i with
      skew := unsigned 8 (sat (-127) 127 m), dtLock := decide (-32 ≤ m ∧ m ≤ 32)
      free := if -32 ≤ m ∧ m ≤ 32 then none else some (((s.time.dt : Int) + m * 1024).toNat, s.now) })
    (h53 : i ≠ 53) (h51 : i ≠ 51) (hruns : s.islandRuns i = true) (htu : s.islandRuns 51 = true) :
    s.doDtTrim i k f =
      if (s.island i).dtLock && !x.dtLock then ((s.setIsland i x).islandCapture i 0).raise devcPage 0 else s.setIsland i x := by
  subst hm hx
  simp only [State.doDtTrim, h53, h51, decide_false, Bool.false_and, Bool.false_eq_true, if_false, hruns, htu, Bool.not_true, Bool.or_self,
    decide_eq_true_eq]

/-- The steering at the TU gives DT_FREQ while its source is present (R303). -/
theorem State.doDtTrim_of_tu (k f : Nat) (hsrc : 2 ≤ s.fld timePage TIME_DT_CFG_SRC) (hok : s.flag timePage TIME_DT_STATUS_SRC_OK = true)
    (hmain : s.time.standby = false) :
    s.doDtTrim 51 k f = s.setFld timePage TIME_DT_STATUS_FREQ (unsigned 24 (sat (-160000) 160000 (signed 24 f))) := by
  simp [State.doDtTrim, hsrc, hok, hmain]

theorem State.doClkUnlock_of_locked {i : Nat} (h : (s.island i).clkLock = true) :
    s.doClkUnlock i = ((s.setIsland i { s.island i with clkLock := false }).islandCapture i 1).raise devcPage 1 := by
  simp [State.doClkUnlock, h]

theorem State.doDtSourceLost_of_present (hlost : s.dtSourceOk = false) (hok : s.flag timePage TIME_DT_STATUS_SRC_OK = true) :
    s.doDtSourceLost = (s.setFlag timePage TIME_DT_STATUS_SRC_OK false).raiseLive timePage 12 := by
  simp [State.doDtSourceLost, hlost, hok]

theorem State.doDtSourceReturn_of_lost (hback : s.dtSourceOk = true) (hok : s.flag timePage TIME_DT_STATUS_SRC_OK = false) :
    s.doDtSourceReturn = (s.setFlag timePage TIME_DT_STATUS_SRC_OK true).lower timePage 12 := by
  simp [State.doDtSourceReturn, hback, hok]

@[simp] theorem State.latchTime_sys (lo hi ns fr : Fld) (t : Nat) : (s.latchTime lo hi ns fr t).sys = s.sys := by simp [State.latchTime]

end

/-! ### The time bases -/

section
variable {s : State} {n : Nat}

/-- An offset soon after a step is counted and discarded (R308). -/
theorem State.doTbOffset_of_late {t : Nat} (ch : Nat) (o : Int) (hst : s.tbState n ≠ 0) (hlast : (s.tb n).lastStep = some t)
    (hlate : s.time.dt < t + 2000000 * 65536) :
    s.doTbOffset n ch o = s.setFld timePage (tbF n TIME_TB_STATUS_DISCARDED)
      (if s.fld timePage (tbF n TIME_TB_STATUS_DISCARDED) < 255 then s.fld timePage (tbF n TIME_TB_STATUS_DISCARDED) + 1 else 255) := by
  simp [State.doTbOffset, hst, hlast, hlate]

/-- Another offset makes its channel OK; it steers the servo or tracks the rate of its grandmaster, and it is kept as the channel's last
unless the servo stepped (R307). -/
theorem State.doTbOffset_of_due {y : State} {ch : Nat} {o : Int} (hst : s.tbState n ≠ 0)
    (hdue : ∀ t, (s.tb n).lastStep = some t → t + 2000000 * 65536 ≤ s.time.dt)
    (hy : y = (s.setChOk n ch true).onTb n fun b => { b with lastAt := b.lastAt.set ch (some s.time.dt) }) :
    (ch = y.activeCh n → (y.servo n o).2 = true → s.doTbOffset n ch o = (y.servo n o).1)
      ∧ (ch = y.activeCh n → (y.servo n o).2 = false → s.doTbOffset n ch o =
        (y.servo n o).1.onTb n fun b => { b with prevOfs := b.prevOfs.set ch (some (o, (y.servo n o).1.time.dt)) })
      ∧ (ch ≠ y.activeCh n → s.doTbOffset n ch o =
        (y.trackRate n ch o).onTb n fun b => { b with prevOfs := b.prevOfs.set ch (some (o, (y.trackRate n ch o).time.dt)) }) := by
  have hrun : s.doTbOffset n ch o =
      let r := if ch = y.activeCh n then y.servo n o else (y.trackRate n ch o, false)
      if r.2 then r.1 else r.1.onTb n fun b => { b with prevOfs := b.prevOfs.set ch (some (o, r.1.time.dt)) } := by
    cases hlast : (s.tb n).lastStep with
    | none => simp only [State.doTbOffset, hlast, hst, if_false, Bool.false_eq_true, ← hy]
    | some t =>
      simp only [State.doTbOffset, hlast, hst, if_false, decide_eq_false (Nat.not_lt.mpr (hdue t hlast)), Bool.false_eq_true, ← hy]
  refine ⟨fun hact hstep => ?steered, fun hact hstep => ?kept, fun hact => ?tracked⟩
  case steered => simp only [hrun, if_pos hact, hstep, if_true]
  case kept => simp only [hrun, if_pos hact, hstep, Bool.false_eq_true, if_false]
  case tracked => simp only [hrun, if_neg hact, Bool.false_eq_true, if_false]

/-- A time base that is enabled and not switching steps by the amount written (R308). -/
theorem State.doTbStep_of_free (hst : s.tbState n ≠ 0) (hfree : s.tbSwitching n = false) :
    s.doTbStep n = (s.stepTb n
      (signed 64 (s.fld timePage (tbF n TIME_TB_STEP_LO_STEP) + 2 ^ 32 * s.fld timePage (tbF n TIME_TB_STEP_HI_STEP)) * 65536)).timeRefused
        false := by
  simp [State.doTbStep, hst, hfree]

theorem State.doTbSwitchChannel_of_ok (hst : s.tbState n ≠ 0) (hok : s.chOk n (1 - s.activeCh n) = true) :
    s.doTbSwitchChannel n =
      let y := (s.switchTb n).timeRefused false
      if y.tbState n = 4 then y.setTbFreq n (y.tb n).i else y := by
  simp [State.doTbSwitchChannel, hst, hok]

theorem State.doTbHoldover_of_enabled (hst : s.tbState n ≠ 0) :
    s.doTbHoldover n = ((s.setTbFreq n (s.tb n).i).setTbState n 4).timeRefused false := if_neg hst

theorem State.doTbResetServo_of_enabled (hst : s.tbState n ≠ 0) :
    s.doTbResetServo n = ((s.onTb n fun b => { b with i := 0, good := 0 }).setTbState n 2).timeRefused false := if_neg hst

/-- A channel silent for OFS_TIMEOUT stops being OK (R309, R310). -/
theorem State.doTbChannelTimeout_of_silent {u : State} {ch t : Nat} (hok : s.chOk n ch = true)
    (hlast : (s.tb n).lastAt.getD ch none = some t)
    (hpast : t + s.fld timePage (tbF n TIME_TB_TIMEOUT_OFS_TIMEOUT) * 1000000 * 65536 ≤ s.time.dt) (hu : u = s.setChOk n ch false) :
    s.doTbChannelTimeout n ch =
      if ch ≠ u.activeCh n then u
      else if u.flag timePage (tbF n TIME_TB_CFG_AUTO_SW) && u.chOk n (1 - ch) then u.switchTb n
      else if u.tbState n = 2 ∨ u.tbState n = 3 then u.enterHoldover n else u := by
  subst hu
  simp only [State.doTbChannelTimeout, hok, hlast, hpast, decide_true, Bool.not_true, Bool.or_self, Bool.false_eq_true, if_false,
    Bool.or_eq_true, decide_eq_true_eq]

end

/-! ### Operations beside the counters of events -/

section
variable (s : State) (c : Map Nat)

@[simp] theorem State.time_withCtrs : (s.withCtrs c).time = s.time := (rfl)
@[simp] theorem State.tb_withCtrs (n : Nat) : (s.withCtrs c).tb n = s.tb n := (rfl)
@[simp] theorem State.tbState_withCtrs (n : Nat) : (s.withCtrs c).tbState n = s.tbState n := s.fld_withCtrs c _ _
@[simp] theorem State.tbAt_withCtrs (n : Nat) (t : Time) : (s.withCtrs c).tbAt n t = s.tbAt n t := (rfl)
@[simp] theorem State.timeRefused_withCtrs (b : Bool) : (s.withCtrs c).timeRefused b = (s.timeRefused b).withCtrs c :=
  s.setFlag_withCtrs c _ _ _
@[simp] theorem State.latchTime_withCtrs (lo hi ns fr : Fld) (t : Nat) :
    (s.withCtrs c).latchTime lo hi ns fr t = (s.latchTime lo hi ns fr t).withCtrs c := by simp [State.latchTime]
@[simp] theorem State.doDtLatchRead_withCtrs : (s.withCtrs c).doDtLatchRead = s.doDtLatchRead.withCtrs c := by simp [State.doDtLatchRead]
@[simp] theorem State.dtSec_withCtrs : (s.withCtrs c).dtSec = s.dtSec := (rfl)
@[simp] theorem State.dtSub_withCtrs : (s.withCtrs c).dtSub = s.dtSub := (rfl)
@[simp] theorem State.doTbLatchRead_withCtrs (n : Nat) : (s.withCtrs c).doTbLatchRead n = (s.doTbLatchRead n).withCtrs c := by
  simp [State.doTbLatchRead]

end

@[simp] theorem State.chOk_withCtrs (s : State) (c : Map Nat) (n ch : Nat) : (s.withCtrs c).chOk n ch = s.chOk n ch :=
  s.flag_withCtrs c _ _
@[simp] theorem State.activeCh_withCtrs (s : State) (c : Map Nat) (n : Nat) : (s.withCtrs c).activeCh n = s.activeCh n :=
  s.fld_withCtrs c _ _
@[simp] theorem State.tbSwitching_withCtrs (s : State) (c : Map Nat) (n : Nat) : (s.withCtrs c).tbSwitching n = s.tbSwitching n :=
  s.flag_withCtrs c _ _

/-! ### What the commands answer -/

section
variable {s u : State}

theorem exec_dtLatchRead_of_lit (hquiet : Quiet s) (hlit : s.pageDark timePage = false)
    (hu : u = s.latchTime TIME_DT_SEC_LO_SEC TIME_DT_SEC_HI_SEC TIME_DT_NS_NS TIME_DT_FRAC_FRAC s.time.dt) :
    ∃ c, exec .dtLatchRead s = .next ((u.emit (.completion (u.rd (regA timePage 0x90)))).withCtrs c) := by
  have heff : ∀ c, (s.withCtrs c).readEffect timePage 0x90 = u.withCtrs c := fun c => by
    rw [State.readEffect_dt, State.doDtLatchRead_withCtrs, State.doDtLatchRead, hu]
  have hquiet' : Quiet u := by simpa [Quiet, hu] using hquiet
  obtain ⟨c, hread⟩ := State.anyRead_of_timeMade timeMade_dt heff .host hlit
  exact ⟨c, by rw [exec_dtLatchRead, hread, settle_of_quiet (s := (u.emit _).withCtrs c) hquiet']⟩

theorem exec_tbLatchRead_of_lit {n : TB} {v : State} (hquiet : Quiet s) (hlit : s.pageDark timePage = false)
    (hu : u = s.latchTime (tbF n TIME_TB_SEC_LO_SEC) (tbF n TIME_TB_SEC_HI_SEC) (tbF n TIME_TB_NS_NS) (tbF n TIME_TB_FRAC_FRAC)
      (s.tbAt n s.time.dt).toNat)
    (hv : v = (u.setFld timePage (tbF n TIME_TB_SNAP_DT_SEC_SEC) s.dtSec).setFld timePage (tbF n TIME_TB_SNAP_DT_NS_NS) s.dtSub) :
    ∃ c, exec (.tbLatchRead n) s = .next ((v.emit (.completion (v.rd (regA timePage (0x214 + 0x80 * n))))).withCtrs c) := by
  have hdt : u.dtNs = s.dtNs := by simp [hu, State.latchTime, State.dtNs]
  have heff : ∀ c, (s.withCtrs c).readEffect timePage (0x214 + 0x80 * n) = v.withCtrs c := fun c => by
    rw [State.readEffect_tb, State.doTbLatchRead_withCtrs, State.doTbLatchRead, ← hu, State.dtSec, State.dtSub, hdt, hv]
    rfl
  have hquiet' : Quiet v := by simpa [Quiet, hu, hv] using hquiet
  obtain ⟨c, hread⟩ := State.anyRead_of_timeMade (timeMade_tb n) heff .host hlit
  exact ⟨c, by rw [exec_tbLatchRead, hread, settle_of_quiet (s := (v.emit _).withCtrs c) hquiet']⟩

end

section
variable {s u : State} {w : Who} {n : TB} {ch : Fin 2} {o : Word}

/-- An offset meets the state in which REFUSED is clear (R323). -/
theorem State.doTbOffsetWrite_withCtrs (hu : u = s.timeRefused false) (j : Map Nat) :
    (s.withCtrs j).doTbOffsetWrite n ch o = (u.withCtrs j).doTbOffset n ch (signed 32 o.toNat) := by
  rw [State.doTbOffsetWrite, State.timeRefused_withCtrs, hu]

variable (hadmits : Admits s w timePage (0x230 + 0x80 * n + 4 * ch)) (hu : u = s.timeRefused false) (hst : u.tbState n ≠ 0)
include hadmits hu hst

theorem exec_tbOffsetWrite_of_late {t : Nat} (hquiet : Quiet s) (hlast : (u.tb n).lastStep = some t)
    (hlate : u.time.dt < t + 2000000 * 65536) :
    ∃ c, exec (.tbOffsetWrite w n ch o) s = .next ((u.setFld timePage (tbF n TIME_TB_STATUS_DISCARDED)
      (if u.fld timePage (tbF n TIME_TB_STATUS_DISCARDED) < 255 then u.fld timePage (tbF n TIME_TB_STATUS_DISCARDED) + 1 else 255)).withCtrs
        c) := by
  rw [exec_tbOffsetWrite]
  refine State.nowRow_answers hadmits (by simpa [Quiet, hu, State.timeRefused] using hquiet) fun j => ?_
  rw [State.doTbOffsetWrite_withCtrs hu, State.doTbOffset_of_late (s := u.withCtrs j) _ _ (by simpa using hst)
    (by simpa using hlast) (by simpa using hlate), State.setFld_withCtrs, State.fld_withCtrs]

theorem exec_tbOffsetWrite_of_due (hdue : ∀ t, (u.tb n).lastStep = some t → t + 2000000 * 65536 ≤ u.time.dt) :
    ∃ c e, ∀ x y, x = signed 32 o.toNat →
      y = ((u.withCtrs c).setChOk n ch true).onTb n (fun b => { b with lastAt := b.lastAt.set ch (some u.time.dt) }) →
        (ch.val = y.activeCh n → (y.servo n x).2 = true → exec (.tbOffsetWrite w n ch o) s = .next (settle ((y.servo n x).1.withCtrs e)))
        ∧ (ch.val = y.activeCh n → (y.servo n x).2 = false → exec (.tbOffsetWrite w n ch o) s = .next (settle
          (((y.servo n x).1.onTb n fun b => { b with prevOfs := b.prevOfs.set ch (some (x, (y.servo n x).1.time.dt)) }).withCtrs e)))
        ∧ (ch.val ≠ y.activeCh n → exec (.tbOffsetWrite w n ch o) s = .next (settle
          (((y.trackRate n ch x).onTb n fun b => { b with prevOfs := b.prevOfs.set ch (some (x, (y.trackRate n ch x).time.dt)) }).withCtrs
            e))) := by
  obtain ⟨c, e, hrow⟩ := State.nowRow_eq hadmits fun s => s.doTbOffsetWrite n ch o
  refine ⟨c, e, fun x y hx hy => ?_⟩
  obtain ⟨hsteered, hkept, htracked⟩ := State.doTbOffset_of_due (s := u.withCtrs c) (o := x) (by simpa using hst) (by simpa using hdue) hy
  rw [exec_tbOffsetWrite, hrow, State.doTbOffsetWrite_withCtrs hu, ← hx]
  refine ⟨fun hact hstep => ?_, fun hact hstep => ?_, fun hact => ?_⟩
  · rw [hsteered hact hstep]
  · rw [hkept hact hstep]
  · rw [htracked hact]

end

section
variable {s : State} {w : Who} {n : TB} (hadmits : Admits s w timePage (0x240 + 0x80 * n)) (hst : s.tbState n ≠ 0)
include hadmits hst

theorem exec_tbStep_of_free (hfree : s.tbSwitching n = false) :
    ∃ c d, exec (.tbStep w n) s = .next (settle ((((s.withCtrs c).stepTb n
      (signed 64 (s.fld timePage (tbF n TIME_TB_STEP_LO_STEP) + 2 ^ 32 * s.fld timePage (tbF n TIME_TB_STEP_HI_STEP)) * 65536)).timeRefused
        false).withCtrs d)) := by
  obtain ⟨c, d, hrow⟩ := State.nowRow_eq hadmits fun s => s.doTbStep n
  refine ⟨c, d, ?_⟩
  rw [exec_tbStep, hrow, State.doTbStep_of_free (by simpa using hst) (by simpa using hfree), State.fld_withCtrs, State.fld_withCtrs]

theorem exec_tbSwitchChannel_of_ok (hok : s.chOk n (1 - s.activeCh n) = true) :
    ∃ c d, ∀ y, y = ((s.withCtrs c).switchTb n).timeRefused false →
      exec (.tbSwitchChannel w n) s = .next (settle ((if y.tbState n = 4 then y.setTbFreq n (y.tb n).i else y).withCtrs d)) := by
  obtain ⟨c, d, hrow⟩ := State.nowRow_eq hadmits fun s => s.doTbSwitchChannel n
  refine ⟨c, d, fun y hy => ?_⟩
  rw [exec_tbSwitchChannel, hrow, State.doTbSwitchChannel_of_ok (by simpa using hst) (by simpa using hok), hy]

theorem exec_tbHoldover_of_enabled :
    ∃ c d, exec (.tbHoldover w n) s = .next (settle
      (((((s.withCtrs c).setTbFreq n (s.tb n).i).setTbState n 4).timeRefused false).withCtrs d)) := by
  obtain ⟨c, d, hrow⟩ := State.nowRow_eq hadmits fun s => s.doTbHoldover n
  exact ⟨c, d, by rw [exec_tbHoldover, hrow, State.doTbHoldover_of_enabled (by simpa using hst), State.tb_withCtrs]⟩

theorem exec_tbResetServo_of_enabled :
    ∃ c d, exec (.tbResetServo w n) s = .next (settle
      (((((s.withCtrs c).onTb n fun b => { b with i := 0, good := 0 }).setTbState n 2).timeRefused false).withCtrs d)) := by
  obtain ⟨c, d, hrow⟩ := State.nowRow_eq hadmits fun s => s.doTbResetServo n
  exact ⟨c, d, by rw [exec_tbResetServo, hrow, State.doTbResetServo_of_enabled (by simpa using hst)]⟩

end

/-- Settles O17: each command is its operation on the state let in, and the operation's lemma for the case at hand gives the answer. That
an unlocked island's counter runs on from the skew last measured is log 102, and the corners of the servo are log 80. -/
theorem timeBaseCommandsComplete : Obligations.TimeBaseCommandsComplete := by
  unfold Obligations.TimeBaseCommandsComplete
  refine ⟨?trim, ?steering, ?clkUnlock, ?source, fun s u => exec_dtLatchRead_of_lit, fun n s u v => exec_tbLatchRead_of_lit, ?offset,
    ?baseCommands, ?timeout⟩
  case trim =>
    intro i k f s m x hquiet hm hx h53 h51 hruns htu
    have hisland : ∀ j : Island, i ≠ j → i.val ≠ j.val := fun j h he => h (Fin.ext he)
    have hquiet' : Quiet (s.setIsland i x) := by simpa [Quiet, State.setIsland] using hquiet
    rw [exec_dtTrim, State.doDtTrim_of_island f.toNat hm hx (hisland 53 h53) (hisland 51 h51) hruns htu]
    refine ⟨fun h => ?_, fun hlock hout => ?_⟩
    · have hkeeps : ((s.island i).dtLock && !x.dtLock) = false := by
        rcases h with h | h
        · simp [h]
        · simp [hx, h]
      rw [hkeeps, if_neg Bool.false_ne_true, settle_of_quiet hquiet']
    · have hlost : ((s.island i).dtLock && !x.dtLock) = true := by simp [hlock, hx, hout]
      rw [hlost, if_pos rfl]
  case steering =>
    intro k f s hquiet hsrc hok hmain
    have htu : s.doDtTrim (51 : Island) k.toNat f.toNat =
        s.setFld timePage TIME_DT_STATUS_FREQ (unsigned 24 (sat (-160000) 160000 (signed 24 f.toNat))) :=
      State.doDtTrim_of_tu _ _ hsrc hok hmain
    rw [exec_dtTrim, htu, settle_of_quiet (by simpa using hquiet)]
  case clkUnlock =>
    intro i s hlocked
    rw [exec_clkUnlock, State.doClkUnlock_of_locked hlocked]
  case source =>
    refine fun s => ⟨fun hlost hok => ?_, fun hback hok => ?_⟩
    · rw [exec_dtSourceLost, State.doDtSourceLost_of_present hlost hok]
    · rw [exec_dtSourceReturn, State.doDtSourceReturn_of_lost hback hok]
  case offset =>
    rintro w n ch o s u x d hadmits hu hx hst rfl
    refine ⟨fun t hquiet hlast hlate => exec_tbOffsetWrite_of_late hadmits hu hst hquiet hlast hlate, fun hdue => ?_⟩
    obtain ⟨c, e, h⟩ := exec_tbOffsetWrite_of_due hadmits hu hst hdue
    exact ⟨c, e, fun y => h x y hx⟩
  case baseCommands =>
    exact fun w n s hadmits hst => ⟨exec_tbStep_of_free hadmits hst, exec_tbSwitchChannel_of_ok hadmits hst,
      exec_tbHoldover_of_enabled hadmits hst, exec_tbResetServo_of_enabled hadmits hst⟩
  case timeout =>
    intro n ch s u t hok hlast hpast hu
    rw [exec_tbChannelTimeout, State.doTbChannelTimeout_of_silent hok hlast hpast hu]
    refine ⟨fun hact => ?other, fun hact hauto hother => ?switch, fun hact hauto hst => ?holdover⟩
    case other => rw [if_pos hact]
    case switch => rw [if_neg fun hne => hne hact, if_pos (by simp [hauto, hother])]
    case holdover => rw [if_neg fun hne => hne hact, if_neg (by simp [hauto]), if_pos hst, State.enterHoldover]

end Sys2Proof.Machine

/-! SUPPORT. Time pins, time of day, arrival checks and the loom's slots: where each command acts, and what it does there (R316 to R318,
R320, R323, R326 to R328, R330 to R332, R340, R399). -/

namespace Sys2Proof.Machine

/-! ### The commands over their operations -/

theorem exec_ppsOutEdge (s : State) : exec .ppsOutEdge s = .next (settle s.doPpsOutEdge) := by rfl
theorem exec_ppsOutPulseEnd (s : State) : exec .ppsOutPulseEnd s = .next (settle s.doPpsOutPulseEnd) := by rfl
theorem exec_ppsInEdge (s : State) : exec .ppsInEdge s = .next (settle s.doPpsInEdge) := by rfl
theorem exec_ppsInTimeout (s : State) : exec .ppsInTimeout s = .next (settle s.doPpsInTimeout) := by rfl
theorem exec_frefAbsent (s : State) : exec .frefAbsent s = .next (settle s.doFrefAbsent) := by rfl
theorem exec_frefPresent (s : State) : exec .frefPresent s = .next (settle s.doFrefPresent) := by rfl
theorem exec_todTxWrite (w : Who) (b : Byte) (s : State) :
    exec (.todTxWrite w b) s = .next (settle (s.nowRow w timePage 0x114 fun s => s.doTodTxWrite b)) := by rfl
theorem exec_todTxSend (s : State) : exec .todTxSend s = .next (settle s.doTodTxSend) := by rfl
theorem exec_todRxByte (b : Byte) (s : State) : exec (.todRxByte b) s = .next (settle (s.doTodRxByte b)) := by rfl
theorem exec_todRxRead (w : Who) (s : State) : exec (.todRxRead w) s = .next (settle (s.readBy w timePage 0x118)) := by rfl
theorem exec_arrSel (p : Port) (s : State) :
    exec (.arrSel p) s = .next (settle (s.nowRow .host timePage 0xC00 fun s => s.doArrSel p)) := by rfl
theorem exec_arrivalWakeWindowClose (p : Port) (s : State) :
    exec (.arrivalWakeWindowClose p) s = .next (settle (s.doArrivalWakeWindowClose p)) := by rfl
theorem exec_loomPeriodStart (i : Fin 19) (s : State) : exec (.loomPeriodStart i) s = .next (settle (s.doLoomPeriodStart i)) := by rfl
theorem exec_loomSlotAward (i : Fin 19) (rq : BitVec 8) (s : State) :
    exec (.loomSlotAward i rq) s = .next (settle (s.doLoomSlotAward i rq)) := by rfl
theorem exec_emergencyTake (i : Fin 19) (s : State) : exec (.emergencyTake i) s = .next (settle (s.doEmergencyTake i)) := by rfl

/-! ### The pins (R316 to R318) -/

section
variable {s : State}

/-- Within 2 ns of a whole second that has had no edge yet (log 80), the output rises, unless it is squelched or the module fatal. -/
theorem State.doPpsOutEdge_of_second (hsound : s.fatal = false) (hen : s.flag timePage TIME_PPS_OUT_CFG_EN = true)
    (hlock : (s.flag timePage TIME_PPS_OUT_CFG_SQUELCH && s.noLock (s.fld timePage TIME_PPS_OUT_CFG_SRC)) = false)
    (hsec : s.ppsNs % nsPerSec < 2) (hnew : s.time.ppsLast ≠ some (s.ppsNs / nsPerSec)) :
    s.doPpsOutEdge = (s.onTime fun t => { t with
      ppsLevel := true, ppsEnd := s.now + 1000 * s.fld timePage TIME_PPS_OUT_CFG_WIDTH, ppsLast := some (s.ppsNs / nsPerSec)
      todDue := if s.flag timePage TIME_TOD_CFG_TX_SYNC && !s.time.todTx.isEmpty
        then some (s.now + 1000 * s.fld timePage TIME_TOD_CFG_TX_DELAY) else s.time.todDue }).emit (.pin "TIME_PPS_OUT" true) := by
  have hgo : (s.fatal || !s.flag timePage TIME_PPS_OUT_CFG_EN
      || (s.flag timePage TIME_PPS_OUT_CFG_SQUELCH && s.noLock (s.fld timePage TIME_PPS_OUT_CFG_SRC))
      || decide (2 ≤ s.ppsNs % nsPerSec) || s.time.ppsLast == some (s.ppsNs / nsPerSec)) = false := by
    rw [hsound, hen, hlock, decide_eq_false (by omega), beq_false_of_ne hnew]
    rfl
  rw [State.doPpsOutEdge, hgo]
  rfl

theorem State.doPpsOutPulseEnd_of_over (hhigh : s.time.ppsLevel = true) (hover : s.time.ppsEnd ≤ s.now) :
    s.doPpsOutPulseEnd = (s.onTime fun t => { t with ppsLevel := false }).emit (.pin "TIME_PPS_OUT" false) := by
  simp [State.doPpsOutPulseEnd, hhigh, Nat.not_lt.mpr hover]

/-- An edge of the input enters the report ring, and feeds its time base where FEED_EN is set. -/
theorem State.doPpsInEdge_of_enabled {u v : State} {n t : Nat} (hlive : s.timeInDead = false)
    (hen : s.flag timePage TIME_PPS_IN_CFG_EN = true) (hn : n = s.fld timePage TIME_PPS_IN_CFG_IN_TB)
    (ht : t = ((s.ptpNow : Int) - signed 32 (s.fld timePage TIME_PPS_IN_ADJ_ADJ) * 65536).toNat)
    (hu : u = (s.onTime fun x => { x with ppsInAt := some s.now }).lower timePage 14)
    (hv : v = u.fifoPush 2 (u.stampRecord 0 1 n t false 0)) :
    s.doPpsInEdge =
      if v.flag timePage TIME_PPS_IN_CFG_FEED_EN then
        v.doTbOffset n (v.fld timePage TIME_PPS_IN_CFG_CH)
          (((v.timeIn n t + nsPerSec * 65536 / 2) % (nsPerSec * 65536) - nsPerSec * 65536 / 2) / 4096)
      else v := by
  have hgo : (s.timeInDead || !s.flag timePage TIME_PPS_IN_CFG_EN) = false := by simp [hlive, hen]
  rw [State.doPpsInEdge, hgo, if_neg Bool.false_ne_true, ← hn, ← ht, ← hu]
  dsimp only
  rw [← hv]

theorem State.doPpsInTimeout_of_over {t : Nat} (hlast : s.time.ppsInAt = some t) (hen : s.flag timePage TIME_PPS_IN_CFG_EN = true)
    (hover : t + 1100000000 ≤ s.now) : s.doPpsInTimeout = s.raiseLive timePage 14 := by
  simp [State.doPpsInTimeout, hlast, hen, hover]

theorem State.doFrefAbsent_of_live (hlive : s.timeInDead = false) :
    s.doFrefAbsent =
      ((s.setFlag timePage TIME_FREF_STATUS_IN_PRESENT false).setFlag timePage TIME_FREF_STATUS_IN_LOCKED false).raiseLive timePage 13 := by
  simp [State.doFrefAbsent, hlive]

theorem State.doFrefPresent_of_live (hlive : s.timeInDead = false) :
    s.doFrefPresent = ((s.setFlag timePage TIME_FREF_STATUS_IN_PRESENT true).setFlag timePage TIME_FREF_STATUS_IN_LOCKED
      (s.fld timePage TIME_DT_CFG_SRC == 1)).lower timePage 13 := by
  simp [State.doFrefPresent, hlive]

end

/-! ### Time of day (R318) -/

section
variable {s : State} {b : Byte}

theorem State.doTodTxWrite_of_room (hroom : s.time.todTx.length < 256) :
    s.doTodTxWrite b = (s.onTime fun t => { t with todTx := t.todTx ++ [b] }).timeRefused false := by
  simp [State.doTodTxWrite, Nat.not_le.mpr hroom]

/-- The bytes written leave together: at once, or when TX_DELAY after a pulse is over. -/
theorem State.doTodTxSend_of_due (hsound : s.fatal = false) (hen : s.flag timePage TIME_TOD_CFG_EN = true) (hsome : s.time.todTx ≠ [])
    (hdue : s.flag timePage TIME_TOD_CFG_TX_SYNC = false ∨ ∃ t, s.time.todDue = some t ∧ t ≤ s.now) :
    s.doTodTxSend = s.time.todTx.foldl (fun s b => s.emit (.uart b)) (s.onTime fun t => { t with todTx := [], todDue := none }) := by
  have hempty : s.time.todTx.isEmpty = false := by simpa using hsome
  rcases hdue with hsync | ⟨t, ht, hle⟩
  · simp [State.doTodTxSend, hsound, hen, hempty, hsync]
  · simp [State.doTodTxSend, hsound, hen, hempty, ht, hle]

section
variable (hlive : s.timeInDead = false) (hen : s.flag timePage TIME_TOD_CFG_EN = true)
include hlive hen

theorem State.doTodRxByte_of_room (hroom : s.time.todRx.length < 256) :
    s.doTodRxByte b = s.onTime fun t => { t with todRx := t.todRx ++ [b] } := by
  simp [State.doTodRxByte, hlive, hen, Nat.not_le.mpr hroom]

theorem State.doTodRxByte_of_full (hfull : 256 ≤ s.time.todRx.length) :
    s.doTodRxByte b = (s.onTime fun t => { t with todLost := true }).raise timePage 15 := by
  simp [State.doTodRxByte, hlive, hen, hfull]

end

theorem State.doTodRxRead_of_cons {r : List Byte} (hrx : s.time.todRx = b :: r) :
    s.doTodRxRead = (((s.onTime fun t => { t with todRx := r, todLost := false }).setFld timePage TIME_TOD_RX_DATA b.toNat).setFlag timePage
      TIME_TOD_RX_EMPTY false).setFlag timePage TIME_TOD_RX_GAP s.time.todLost := by
  simp [State.doTodRxRead, hrx]

end

/-! ### Arrival checks (R320, R323) -/

theorem State.doArrivalWakeWindowClose_of_over {s : State} {p d k : Nat} (hopen : (s.gate p).wakeUntil = some (d, k))
    (hover : d ≤ s.dtNs ∨ k = 0) : s.doArrivalWakeWindowClose p = s.setGate p { s.gate p with wakeUntil := none } := by
  simp [State.doArrivalWakeWindowClose, hopen, hover]

/-! ### The loom (R327, R328, R330 to R332) -/

section
variable {s u : State} {i : Nat} {l : Loom}

/-- A period starts where no activity that still requests has spent its budget: nothing is raised. -/
theorem State.loomStart_of_unspent (reseed : Option Nat) (hl : l = s.loomOf i)
    (hspent : ((List.range 8).filter fun a => loomKindOf i a == 1 && (l.waits.getD a none).isSome && s.loomSlots i a ≤ l.used.getD a 0) = [])
    (hu : u = s.each (List.range 8) fun s a => s.setFld (loomPage i) (actF a LOOM_ACT_STAT_USED) (l.used.getD a 0)) :
    s.loomStart i reseed = u.setLoom i { l with
      pos := 0, used := List.replicate 8 0, emergUsed := 0, layout := u.loomLayout i, lfsr := reseed.getD l.lfsr } := by
  subst hl hu
  rw [State.loomStart, hspent]
  rfl

section
variable {rq : BitVec 8} {req : Nat → Bool} (hl : l = s.loomOf i) (hpos : l.pos < 1024)
  (hreq : req = fun a => rq.getLsbD a && loomKindOf i a < 2 && !s.loomIdle i)
  (hu : u = s.setLoom i { l with pos := l.pos + 1, lfsr := lfsr32 l.lfsr, waits := waitOn l.waits req })
include hl hpos hreq hu

/-- The activity that holds the slot takes it where it requests. -/
theorem State.loomSlot_of_holder {a : Nat} (hholder : l.holder l.pos = some a) (ha : a < 8) (hasks : req a = true) :
    s.loomSlot i rq = u.loomGrant i a := by
  subst hl
  rw [State.loomSlot, if_neg (by omega), ← hreq]
  dsimp only
  rw [← hu]
  simp only [hholder, if_neg (Nat.not_le.mpr ha), hasks, if_true]

/-- A slot that no holder takes goes to the winner of the lottery. -/
theorem State.loomSlot_of_winner {b : Nat} (hfree : ∀ a, l.holder l.pos = some a → a < 8 ∧ req a = false)
    (hwins : u.lottery i l req = some b) : s.loomSlot i rq = u.loomGrant i b := by
  subst hl
  rw [State.loomSlot, if_neg (by omega), ← hreq]
  dsimp only
  rw [← hu]
  cases hholder : (s.loomOf i).holder (s.loomOf i).pos with
  | none => simp only [hwins]
  | some a =>
    obtain ⟨ha, hasks⟩ := hfree a hholder
    simp only [if_neg (Nat.not_le.mpr ha), hasks, Bool.false_eq_true, if_false, hwins]

/-- A slot of thermal rest, or one that nobody takes, passes. -/
theorem State.loomSlot_of_nobody (hheld : ∀ a, l.holder l.pos = some a → a < 8 → req a = false ∧ u.lottery i l req = none)
    (hweft : l.holder l.pos = none → u.lottery i l req = none) : s.loomSlot i rq = u := by
  subst hl
  rw [State.loomSlot, if_neg (by omega), ← hreq]
  dsimp only
  rw [← hu]
  cases hholder : (s.loomOf i).holder (s.loomOf i).pos with
  | none => simp only [hweft hholder]
  | some a =>
    rcases Nat.lt_or_ge a 8 with ha | ha
    · obtain ⟨hasks, hnone⟩ := hheld a hholder ha
      simp only [if_neg (Nat.not_le.mpr ha), hasks, Bool.false_eq_true, if_false, hnone]
    · simp only [if_pos ha]

end

/-- A slot that the rings win on the host's bus goes on to one ring pair (R399). -/
theorem State.doLoomSlotAward_of_slot {t : State} {rq : BitVec 8} (hslot : s.loomSlot i rq = t) :
    (i = 18 → (s.loomOf 18).used.getD 1 0 < (t.loomOf 18).used.getD 1 0 → s.doLoomSlotAward i rq = t.pairSlot)
      ∧ (i ≠ 18 ∨ (t.loomOf 18).used.getD 1 0 ≤ (s.loomOf 18).used.getD 1 0 → s.doLoomSlotAward i rq = t) := by
  refine ⟨fun hi hwon => ?_, fun h => ?_⟩
  · simp only [State.doLoomSlotAward, hslot]
    rw [if_pos (by simpa [hi] using hwon)]
  · have hlost : ¬(i = 18 ∧ (s.loomOf 18).used.getD 1 0 < (t.loomOf 18).used.getD 1 0) := by omega
    simp only [State.doLoomSlotAward, hslot]
    rw [if_neg (by simpa [-not_and] using hlost)]

/-- The next slot is taken, counted and raised (R332). -/
theorem State.doEmergencyTake_of_allowed (hl : l = s.loomOf i) (hpos : l.pos < 1024) (hi : i < 16)
    (hright : i < 8 → s.host.debugOpen = true ∧ s.host.rights.testBit 2 = true ∧ l.emergUsed < s.loomSlots i 7) :
    s.doEmergencyTake i = ((s.setLoom i { l with
      pos := l.pos + 1, lfsr := lfsr32 l.lfsr, emergUsed := l.emergUsed + 1
      used := if i < 8 then l.used.set 7 (l.used.getD 7 0 + 1) else l.used
      waits := l.waits.map fun w => w.map (· + 1) }).incFld (loomPage i) LOOM_EMERG_CNT_COUNT 1).raise (loomPage i) 1 := by
  subst hl
  have hmay : (if i < 8 then s.host.debugOpen && s.host.rights.testBit 2 && decide ((s.loomOf i).emergUsed < s.loomSlots i 7)
      else decide (i < 16)) = true := by
    split
    · next h8 =>
      obtain ⟨hopen, htable, hleft⟩ := hright h8
      simp [hopen, htable, hleft]
    · simpa using hi
  rw [State.doEmergencyTake]
  simp only [hmay, Nat.not_le.mpr hpos, decide_false, Bool.not_true, Bool.or_self, Bool.false_eq_true, if_false]

end

/-! ### What the commands answer -/

section
variable {s u : State} {b : Byte}

theorem exec_todTxWrite_of_room {w : Who} (hadmits : Admits s w timePage 0x114) (hquiet : Quiet s) (hroom : s.time.todTx.length < 256) :
    ∃ c, exec (.todTxWrite w b) s =
      .next (((s.onTime fun t => { t with todTx := t.todTx ++ [b] }).timeRefused false).withCtrs c) := by
  rw [exec_todTxWrite]
  refine State.nowRow_answers hadmits (by simpa [Quiet, State.timeRefused] using hquiet) fun j => ?_
  rw [State.doTodTxWrite_of_room (by simpa using hroom), ← State.timeRefused_withCtrs]
  rfl

theorem State.readBy_host (s : State) (page off : Nat) : s.readBy .host page off = s.anyRead .host page off := by rfl

/-- The oldest byte leaves the FIFO and stands in TOD_RX with the marks of R318, for whoever reads it. -/
theorem exec_todRxRead_of_cons {r : List Byte} (hquiet : Quiet s) (hlit : s.pageDark timePage = false) (hrx : s.time.todRx = b :: r)
    (hu : u = ((((s.onTime fun t => { t with todRx := r, todLost := false }).setFld timePage TIME_TOD_RX_DATA b.toNat).setFlag timePage
      TIME_TOD_RX_EMPTY false).setFlag timePage TIME_TOD_RX_GAP s.time.todLost)) :
    (∃ c, exec (.todRxRead .host) s = .next ((u.emit (.completion (u.rd (regA timePage 0x118)))).withCtrs c))
      ∧ ∀ (k : Cluster) (p : Pair), s.drives k = true →
        ∃ c, exec (.todRxRead (.fw k p)) s = .next ((u.emit (.coreRead k (u.rd (regA timePage 0x118)).toNat)).withCtrs c) := by
  have heff : ∀ c, (s.withCtrs c).readEffect timePage 0x118 = u.withCtrs c := fun c => by
    rw [State.readEffect_tod, State.doTodRxRead_of_cons (by simpa using hrx), hu, ← State.setFlag_withCtrs,
      ← State.setFlag_withCtrs, ← State.setFld_withCtrs]
    rfl
  have hquiet' : Quiet u := by simpa [Quiet, hu] using hquiet
  refine ⟨?host, fun k p hdrives => ?firmware⟩
  case host =>
    obtain ⟨c, hread⟩ := State.anyRead_of_timeMade timeMade_tod heff .host hlit
    exact ⟨c, by rw [exec_todRxRead, State.readBy_host, hread, settle_of_quiet (s := (u.emit _).withCtrs c) hquiet']⟩
  case firmware =>
    obtain ⟨c, hread⟩ := State.readWith_of_timeMade timeMade_tod heff (.fw k p)
    refine ⟨c, ?_⟩
    have hby : s.readBy (.fw k p) timePage 0x118 = (u.emit (.coreRead k (u.rd (regA timePage 0x118)).toNat)).withCtrs c := by
      simp only [State.readBy, hdrives, hlit, hread]
      rfl
    rw [exec_todRxRead, hby, settle_of_quiet (s := (u.emit _).withCtrs c) hquiet']

theorem State.setCtr_eq_withCtrs (s : State) (pg off n : Nat) : s.setCtr pg off n = s.withCtrs (mset 0 s.ctrs (regA pg off) n) := by rfl

theorem State.doArrSel_eq (s : State) (p : Nat) :
    s.doArrSel p = (((s.timeRefused false).setFld timePage TIME_ARR_SEL_PORT p).setCtr timePage 0xC08 (s.arrival p).1).setCtr timePage 0xC10
      (s.arrival p).2 := by rfl

theorem exec_arrSel_of_admits {p : Port} (hquiet : Quiet s) (hadmits : Admits s .host timePage 0xC00) :
    ∃ c, exec (.arrSel p) s = .next (((((s.timeRefused false).setFld timePage TIME_ARR_SEL_PORT p).setCtr timePage 0xC08
      (s.arrival p).1).setCtr timePage 0xC10 (s.arrival p).2).withCtrs c) := by
  obtain ⟨j, c, hrow⟩ := State.nowRow_eq hadmits fun s => s.doArrSel p
  have hquiet' : Quiet (((s.timeRefused false).setFld timePage TIME_ARR_SEL_PORT p).withCtrs c) := by
    simpa [Quiet, State.timeRefused, State.withCtrs] using hquiet
  refine ⟨c, ?_⟩
  rw [exec_arrSel, hrow]
  simp only [State.doArrSel_eq, State.setCtr_eq_withCtrs, State.timeRefused_withCtrs, State.setFld_withCtrs, State.withCtrs_withCtrs]
  rw [settle_of_quiet hquiet']

end

/-- Settles O18: each command is its operation, and the operation's lemma for the case at hand gives the answer. That the output's edge
falls within 2 ns of the whole second is the model's choice (log 80). -/
theorem timePinsAndLoomComplete : Obligations.TimePinsAndLoomComplete := by
  unfold Obligations.TimePinsAndLoomComplete
  refine ⟨?outEdge, ?outEnd, ?inEdge, ?inTimeout, ?reference, fun w b s => exec_todTxWrite_of_room, ?todSend, ?todByte,
    fun s u b r => exec_todRxRead_of_cons, fun p s => exec_arrSel_of_admits, ?wakeClose, ?period, ?award, ?emergency⟩
  case outEdge =>
    rintro s src k hquiet rfl rfl hsound hen hlock hsec hnew
    rw [exec_ppsOutEdge, State.doPpsOutEdge_of_second hsound hen hlock hsec hnew, settle_of_quiet (s := (s.onTime _).emit _) hquiet]
  case outEnd =>
    intro s hquiet hhigh hover
    rw [exec_ppsOutPulseEnd, State.doPpsOutPulseEnd_of_over hhigh hover, settle_of_quiet (s := (s.onTime _).emit _) hquiet]
  case inEdge =>
    intro s u v n t o hlive hen hn ht hu hv
    rw [exec_ppsInEdge, State.doPpsInEdge_of_enabled hlive hen hn ht hu hv]
    refine ⟨fun hfeed => ?_, fun hfeed ho => ?_⟩
    · rw [hfeed, if_neg Bool.false_ne_true]
    · rw [hfeed, if_pos rfl, ho]
  case inTimeout =>
    intro s t hlast hen hover
    rw [exec_ppsInTimeout, State.doPpsInTimeout_of_over hlast hen hover]
  case reference =>
    intro s hlive
    rw [exec_frefAbsent, exec_frefPresent, State.doFrefAbsent_of_live hlive, State.doFrefPresent_of_live hlive]
    exact ⟨rfl, rfl⟩
  case todSend =>
    intro s hsound hen hsome hdue
    rw [exec_todTxSend, State.doTodTxSend_of_due hsound hen hsome hdue]
  case todByte =>
    intro b s hlive hen
    rw [exec_todRxByte]
    refine ⟨fun hquiet hroom => ?_, fun hfull => ?_⟩
    · rw [State.doTodRxByte_of_room hlive hen hroom, settle_of_quiet (s := s.onTime _) hquiet]
    · rw [State.doTodRxByte_of_full hlive hen hfull]
  case wakeClose =>
    intro p s d k hquiet hopen hover
    rw [exec_arrivalWakeWindowClose, State.doArrivalWakeWindowClose_of_over hopen hover, settle_of_quiet (s := s.setGate _ _) hquiet]
  case period =>
    intro i s y u l hy hl hspent hu
    rw [exec_loomPeriodStart, State.doLoomPeriodStart]
    rw [← hy, State.loomStart_of_unspent none hl hspent hu]
    rfl
  case award =>
    intro i rq s u t l req hl hpos hreq hu haward
    have hslot : s.loomSlot i rq = t := by
      rcases haward with ⟨a, hholder, ha, hasks, rfl⟩ | ⟨hfree, b, hwins, rfl⟩ | ⟨hheld, hweft, rfl⟩
      · exact State.loomSlot_of_holder hl hpos hreq hu hholder ha hasks
      · exact State.loomSlot_of_winner hl hpos hreq hu hfree hwins
      · exact State.loomSlot_of_nobody hl hpos hreq hu hheld hweft
    obtain ⟨hpair, hplain⟩ := State.doLoomSlotAward_of_slot hslot
    rw [exec_loomSlotAward]
    exact ⟨fun hi hwon => by rw [hpair hi hwon], fun h => by rw [hplain h]⟩
  case emergency =>
    intro i s l hl hpos hi hright
    rw [exec_emergencyTake, State.doEmergencyTake_of_allowed hl hpos hi hright]

end Sys2Proof.Machine

/-! SUPPORT. The steps of power-up, verification, bivouac mode and the trial: where each acts, and what it does there (R302, R421, R426,
R444, R445, R447 to R449, R453 to R455, R466). -/

namespace Sys2Proof.Machine

/-! ### The commands over their operations -/

theorem exec_standbyPowerUp (s : State) : exec .standbyPowerUp s = .next (settle s.doStandbyPowerUp) := by rfl
theorem exec_nvMountDone (lost : List (BitVec 32)) (s : State) :
    exec (.nvMountDone lost) s = .next (settle (s.doNvMountDone (lost.map fun x => x.toNat))) := by rfl
theorem exec_mainPowerUp (s : State) : exec .mainPowerUp s = .next (settle s.doMainPowerUp) := by rfl
theorem exec_railsInRegulation (s : State) : exec .railsInRegulation s = .next (settle s.doRailsInRegulation) := by rfl
theorem exec_islandsClocked (s : State) : exec .islandsClocked s = .next (settle s.doIslandsClocked) := by rfl
theorem exec_bootVerifyDone (s : State) : exec .bootVerifyDone s = .next (settle s.doBootVerifyDone) := by rfl
theorem exec_microcodeLoaded (s : State) : exec .microcodeLoaded s = .next (settle s.doMicrocodeLoaded) := by rfl
theorem exec_islandsSelftestDone (s : State) : exec .islandsSelftestDone s = .next (settle s.doIslandsSelftestDone) := by rfl
theorem exec_maelwickLoaded (s : State) : exec .maelwickLoaded s = .next (settle s.doMaelwickLoaded) := by rfl
theorem exec_trialTimeout (s : State) : exec .trialTimeout s = .next (settle s.doTrialTimeout) := by rfl

/-! ### Power comes (R453, R454, R466) -/

section
variable {s u : State}

/-- Standby power: the groundsheet island starts afresh, DT at 0 (log 6). -/
theorem State.doStandbyPowerUp_of_off {v : State} (hoff : s.sys.power.vsb = false) (hu : u = s.wipe)
    (hv : v = { u with regs := u.regs.filter fun e => !coldKept e.1, ctrs := [], time := { u.time with dt := 0, standby := true } }) :
    s.doStandbyPowerUp = ((v.onIsland 53 fun x => { x with clkLock := true }).onSys fun y => { y with
      tripPersist := false, nv := { y.nv with mounted := false, openPage := [], openAt := v.now }
      power := { System.reset.power with vsb := true, vin := y.power.vin, below6 := y.power.below6, resetNLow := y.power.resetNLow } }).showNv := by
  rw [State.doStandbyPowerUp, hoff, if_neg Bool.false_ne_true, ← hu]
  dsimp only
  rw [← hv]
  rfl

theorem State.doNvMountDone_of_unmounted (lost : List Nat) (hvsb : s.sys.power.vsb = true) (hfresh : s.sys.nv.mounted = false)
    (hu : u = (s.onNv fun n => { n with mounted := true }).each [0, 1]
      (fun s k => if (s.nvSlot k).state = 1 then s.setNvSlot k NvSlot.empty else s)) :
    s.doNvMountDone lost = (u.each (lost.filter fun i => (mget none u.sys.nv.objs i).isSome) fun s i => s.objectLost i).showNv := by
  have hgo : (!s.sys.power.vsb || s.sys.nv.mounted) = false := by simp [hvsb, hfresh]
  rw [State.doNvMountDone, hgo, if_neg Bool.false_ne_true]
  dsimp only
  rw [← hu]

theorem State.doMainPowerUp_of_ready (hvsb : s.sys.power.vsb = true) (hvin : s.sys.power.vin = false) (hbelow : s.sys.power.below6 = true)
    (hreset : s.sys.power.resetNLow = false) (hmount : s.sys.nv.mounted = true) : s.doMainPowerUp = s.powerUp := by
  simp [State.doMainPowerUp, hvsb, hvin, hbelow, hreset, hmount]

theorem State.doRailsInRegulation_of_ramping (hvin : s.sys.power.vin = true) (hrails : s.sys.power.rails = false)
    (hreset : s.sys.power.resetNLow = false) (hphase : s.sys.boot.phase = 1) :
    s.doRailsInRegulation = (((s.onPower fun p => { p with rails := true }).emit (.pin "PWR_GOOD" true)).alertSet 3).each (List.range 53)
      fun s i => s.onIsland i fun x => { x with power := 2 } := by
  simp [State.doRailsInRegulation, hvin, hrails, hreset, hphase]

/-- The clocks lock and DT goes on; a THERM_TRIP that persists asserts again (R426). -/
theorem State.doIslandsClocked_of_dark (hrails : s.sys.power.rails = true) (hphase : s.sys.boot.phase = 1) (hdark : (s.island 52).rst ≠ 0)
    (hcold : s.sys.boot.warm = false)
    (hu : u = (((((s.each (List.range 53) fun s i => s.onIsland i fun x => { x with clkLock := true }).setRst 51 0).setRst 52 0).onIsland 51
      fun x => { x with dtLock := true }).onTime fun t => { t with standby := false })) :
    s.doIslandsClocked = if u.sys.tripPersist then (u.raiseLive fltcPage 3).raiseLive fltcPage 4 else u := by
  have hgo : (!s.sys.power.rails || decide (s.sys.boot.phase ≠ 1) || decide ((s.island 52).rst = 0) || s.sys.boot.warm) = false := by
    simp [hrails, hphase, hdark, hcold]
  rw [State.doIslandsClocked, hgo, if_neg Bool.false_ne_true]
  dsimp only
  rw [← hu]

end

/-! ### Verification (R444 to R449): each reason for bivouac mode in its turn (log 83) -/

section
variable {s u : State} (hrails : s.sys.power.rails = true) (hphase : s.sys.boot.phase = 1) (hsound : s.fatal = false)
  (hready : s.sys.boot.warm = true ∨ (s.island 52).rst = 0) (hu : u = (s.setRst 52 0).onBoot fun b => { b with bivNext := false })
include hrails hphase hsound hready

/-- Nothing holds the verification back. -/
theorem State.bootVerify_due :
    (!s.sys.power.rails || decide (s.sys.boot.phase ≠ 1) || s.fatal || (!s.sys.boot.warm && decide ((s.island 52).rst ≠ 0))) = false := by
  rcases hready with hready | hready <;> simp [hrails, hphase, hsound, hready]

include hu

theorem State.doBootVerifyDone_of_asked (hnext : s.sys.boot.bivNext = true) : s.doBootVerifyDone = u.bivouacEnter 3 := by
  rw [State.doBootVerifyDone]
  dsimp only
  rw [State.bootVerify_due hrails hphase hsound hready, if_neg Bool.false_ne_true, ← hu, hnext, if_pos rfl]

theorem State.doBootVerifyDone_of_badCal (hnext : s.sys.boot.bivNext = false) (hcal : u.sys.nv.calGood = false) :
    s.doBootVerifyDone = u.bivouacEnter 4 := by
  rw [State.doBootVerifyDone]
  dsimp only
  rw [State.bootVerify_due hrails hphase hsound hready, if_neg Bool.false_ne_true, ← hu, hnext, if_neg Bool.false_ne_true, hcal,
    Bool.not_false, if_pos rfl]

theorem State.doBootVerifyDone_of_noSlot {t : State} (hnext : s.sys.boot.bivNext = false) (hcal : u.sys.nv.calGood = true)
    (hnone : u.chooseSlot = (t, none)) : s.doBootVerifyDone = (t.journalNote 2).bivouacEnter 1 := by
  rw [State.doBootVerifyDone]
  dsimp only
  rw [State.bootVerify_due hrails hphase hsound hready, if_neg Bool.false_ne_true, ← hu, hnext, if_neg Bool.false_ne_true, hcal,
    Bool.not_true, if_neg Bool.false_ne_true, hnone]

theorem State.doBootVerifyDone_of_slot {t v : State} {k : Nat} (hnext : s.sys.boot.bivNext = false) (hcal : u.sys.nv.calGood = true)
    (hsome : u.chooseSlot = (t, some k)) (hv : v = (t.onBoot fun b => { b with slot := k }).journalNote 2) :
    s.doBootVerifyDone =
      if !v.tested k (t.nvSlot k).mw (if s.sys.boot.warm then s.sys.boot.ucVersion else (t.nvSlot k).uc) then v.bivouacEnter 2
      else if s.sys.boot.warm then ((v.onBoot fun b => { b with
          phase := if b.warm then 3 else 2, cause := 0, bivouac := false, mwVersion := (t.nvSlot k).mw }).lower nvstPage 3).coresReady
        else (v.onBoot fun b => { b with
          phase := if b.warm then 3 else 2, cause := 0, bivouac := false, mwVersion := (t.nvSlot k).mw }).lower nvstPage 3 := by
  rw [State.doBootVerifyDone]
  dsimp only
  rw [State.bootVerify_due hrails hphase hsound hready, if_neg Bool.false_ne_true, ← hu, hnext, if_neg Bool.false_ne_true, hcal,
    Bool.not_true, if_neg Bool.false_ne_true, hsome, hv]

end

/-! ### Microcode, self-tests, Maelwick and the trial (R448, R454, R455) -/

section
variable {s u : State}

theorem State.doMicrocodeLoaded_of_held (hphase : s.sys.boot.phase = 2) (hheld : (s.island 17).rst ≠ 0) :
    s.doMicrocodeLoaded = (s.onBoot fun b => { b with ucVersion := (s.nvSlot b.slot).uc }).each (List.range 32) fun s e =>
      (s.setRst (17 + e) 0).engineBoot e := by
  simp [State.doMicrocodeLoaded, hphase, hheld]

/-- The NV checkpoint enters slot A where the Maelwick that was chosen wrote it. -/
theorem State.doIslandsSelftestDone_of_running {k : Ckpt} (hphase : s.sys.boot.phase = 2) (hruns : (s.island 17).rst = 0)
    (hu : u = (s.onBoot fun b => { b with phase := 3 }).coresReady) (hk : k = u.nvBest) :
    s.doIslandsSelftestDone =
      if k.committed && k.mwVersion == u.sys.boot.mwVersion then
        (((u.onSvc fun v => { v with slots := v.slots.set 0 k }).setFlag svccPage SVCC_CKPT_STATUS_VALID true).setFld svccPage
          SVCC_CKPT_STATUS_SLOT 0).setFld svccPage SVCC_CKPT_STATUS_SEQ k.seq
      else u := by
  have hgo : (decide (s.sys.boot.phase ≠ 2) || decide ((s.island 17).rst ≠ 0)) = false := by simp [hphase, hruns]
  rw [State.doIslandsSelftestDone, hgo, if_neg Bool.false_ne_true, ← hu]
  dsimp only
  rw [← hk]

/-- The holder's window gets the objects, and those that do not fit are counted. -/
theorem State.doMaelwickLoaded_of_due {v : State} {b : List Byte} {n c : Nat} (hphase : s.sys.boot.phase = 3) (hsound : s.fatal = false)
    (hu : u = (s.each [0, 1] fun s c => if (s.block (clusterIsland c)).isolated then s else
      (s.setRst (clusterIsland c) 0).standbyReady c).doLeaseGuardEnd.doLeaseClaim 0)
    (hlist : u.objectList = (b, n)) (hholder : u.svc.lease.holder = some c)
    (hv : v = (if n = 0 then (u.onCluster c fun x => { x with window := x.window.write 0x2F000000 (b ++ zeros 8) })
      else (u.onCluster c fun x => { x with window := x.window.write 0x2F000000 (b ++ zeros 8) }).count nvstPage 0xD0 n)) :
    s.doMaelwickLoaded = v.onBoot fun b => { b with
      phase := 4, warm := false
      trialEnd := if (v.nvSlot v.sys.boot.slot).state = 2 then some (v.now + nsPerSec * v.fld nvstPage NVST_BOOT_STATUS_TRIAL_S) else none } := by
  have hgo : (decide (s.sys.boot.phase ≠ 3) || s.fatal) = false := by simp [hphase, hsound]
  rw [State.doMaelwickLoaded, hgo, if_neg Bool.false_ne_true]
  dsimp only
  rw [← hu, hlist]
  dsimp only
  rw [hholder]
  dsimp only
  rw [← hv]

theorem State.doTrialTimeout_of_over {t : Nat} (htrial : s.sys.boot.trialEnd = some t) (hover : t ≤ s.now) :
    s.doTrialTimeout = ((s.onBoot fun b => { b with trialEnd := none }).setSlotState s.sys.boot.slot 5).raise nvstPage 4 := by
  simp [State.doTrialTimeout, State.trialFail, htrial, hover]

end

/-- Settles O28: each command is its operation, and the operation's lemma for the case at hand gives the answer. That DT starts at 0 is
log 6, and the order of the reasons for bivouac mode is log 83. -/
theorem powerUpCommandsComplete : Obligations.PowerUpCommandsComplete := by
  unfold Obligations.PowerUpCommandsComplete
  refine ⟨?standby, ?mount, ?main, ?rails, ?clocked, ?verify, ?load, ?maelwick, ?trial⟩
  case standby =>
    intro s u v hoff hu hv
    rw [exec_standbyPowerUp, State.doStandbyPowerUp_of_off hoff hu hv]
  case mount =>
    intro lost s u hvsb hfresh hu
    rw [exec_nvMountDone, State.doNvMountDone_of_unmounted _ hvsb hfresh hu]
  case main =>
    intro s hvsb hvin hbelow hreset hmount
    rw [exec_mainPowerUp, State.doMainPowerUp_of_ready hvsb hvin hbelow hreset hmount]
  case rails =>
    intro s hvin hrails hreset hphase
    rw [exec_railsInRegulation, State.doRailsInRegulation_of_ramping hvin hrails hreset hphase]
  case clocked =>
    intro s u hrails hphase hdark hcold hu
    rw [exec_islandsClocked, State.doIslandsClocked_of_dark hrails hphase hdark hcold hu]
    exact ⟨fun htrip => by rw [htrip, if_neg Bool.false_ne_true], fun htrip => by rw [htrip, if_pos rfl]⟩
  case verify =>
    intro s u hrails hphase hsound hready hu
    rw [exec_bootVerifyDone]
    refine ⟨fun hnext => ?asked, fun hnext hcal => ?badCal, fun hnext hcal => ?chosen⟩
    case asked => rw [State.doBootVerifyDone_of_asked hrails hphase hsound hready hu hnext]
    case badCal => rw [State.doBootVerifyDone_of_badCal hrails hphase hsound hready hu hnext hcal]
    case chosen =>
      rcases hchoice : u.chooseSlot with ⟨t, _ | k⟩
      · rw [State.doBootVerifyDone_of_noSlot hrails hphase hsound hready hu hnext hcal hchoice]
      · rw [State.doBootVerifyDone_of_slot hrails hphase hsound hready hu hnext hcal hchoice rfl]
  case load =>
    intro s hphase
    refine ⟨fun hheld => ?_, fun u k hruns hu hk => ?_⟩
    · rw [exec_microcodeLoaded, State.doMicrocodeLoaded_of_held hphase hheld]
    · rw [exec_islandsSelftestDone, State.doIslandsSelftestDone_of_running hphase hruns hu hk]
      refine ⟨fun hcommitted hsame => ?_, fun hother => ?_⟩
      · rw [if_pos (by simp [hcommitted, hsame])]
      · have hskip : (k.committed && k.mwVersion == u.sys.boot.mwVersion) = false := by
          rcases hother with hfree | hother
          · rw [hfree, Bool.false_and]
          · rw [beq_false_of_ne hother, Bool.and_false]
        rw [hskip, if_neg Bool.false_ne_true]
  case maelwick =>
    intro s u v b n c hphase hsound hu hlist hholder hv
    rw [exec_maelwickLoaded, State.doMaelwickLoaded_of_due hphase hsound hu hlist hholder hv]
  case trial =>
    intro s t htrial hover
    rw [exec_trialTimeout, State.doTrialTimeout_of_over htrial hover]

end Sys2Proof.Machine

/-! SUPPORT. The byte memories along a step: every command keeps their canonical form (R376, R380, R396, R404). -/

namespace Sys2Proof.Machine

/-- Taking the front command off the queue, or moving the clock on, leaves the byte memories alone. -/
theorem State.memWf_stepFrom (s : State) : s.stepFrom.memWf ↔ s.memWf := Iff.rfl

/-- Settles O35: what every command keeps holds of a step, whose start has the memories of the state. That the form is rising addresses
and no byte at its default is the model's choice (log 9). -/
theorem stepKeepsMemoryForm : Obligations.StepKeepsMemoryForm := by
  unfold Obligations.StepKeepsMemoryForm
  intro s t hform hstep
  exact (step_kept hstep).mem (s.memWf_stepFrom.mpr hform)

end Sys2Proof.Machine

/-! SUPPORT. Service clusters and the lease: where each of their commands acts, and what it does there (R343 to R345, R348 to R351, R355
to R357, R364, R455). -/

namespace Sys2Proof.Machine

/-! ### The commands over their operations -/

theorem exec_lockstepMismatch (c : Cluster) (p : Pair) (s : State) :
    exec (.lockstepMismatch c p) s = .next (settle (s.doLockstepMismatch c p)) := by rfl
theorem exec_sramEccError (c : Cluster) (b : Bool) (s : State) :
    exec (.sramEccError c b) s = .next (settle (s.doSramEccError c b)) := by rfl
theorem exec_clusterSelftestDone (c : Cluster) (ok : Bool) (s : State) :
    exec (.clusterSelftestDone c ok) s = .next (settle (s.doClusterSelftestDone c ok)) := by rfl
theorem exec_clusterLoadDone (c : Cluster) (ok : Bool) (s : State) :
    exec (.clusterLoadDone c ok) s = .next (settle (s.doClusterLoadDone c ok)) := by rfl
theorem exec_leaseRenew (c : Cluster) (ep : BitVec 16) (s : State) :
    exec (.leaseRenew c ep) s = .next (settle (s.doLeaseRenew c ep.toNat)) := by rfl
theorem exec_leaseClaim (c : Cluster) (s : State) : exec (.leaseClaim c) s = .next (settle (s.doLeaseClaim c)) := by rfl
theorem exec_leaseRelease (c : Cluster) (ep : BitVec 16) (s : State) :
    exec (.leaseRelease c ep) s = .next (settle (s.doLeaseRelease c ep.toNat)) := by rfl
theorem exec_leaseReady (c : Cluster) (ep : BitVec 16) (s : State) :
    exec (.leaseReady c ep) s = .next (settle (s.doLeaseReady c ep.toNat)) := by rfl
theorem exec_leaseExpire (s : State) : exec .leaseExpire s = .next (settle s.doLeaseExpire) := by rfl
theorem exec_leaseGuardEnd (s : State) : exec .leaseGuardEnd s = .next (settle s.doLeaseGuardEnd) := by rfl
theorem exec_swapDue (s : State) : exec .swapDue s = .next (settle s.doSwapDue) := by rfl
theorem exec_swapWindowExpire (s : State) : exec .swapWindowExpire s = .next (settle s.doSwapWindowExpire) := by rfl
theorem exec_firmwareHostPageRead (c : Cluster) (page : Fin 16384) (off : Fin 4096) (s : State) :
    exec (.firmwareHostPageRead c page off) s = .next (settle (s.doFirmwareHostPageRead c page off)) := by rfl

/-! ### Faults and starts of a cluster (R343 to R345) -/

section
variable {s : State} {c : Nat}

theorem State.doLockstepMismatch_of_drives (hdrives : s.drives c = true) (p : Nat) :
    s.doLockstepMismatch c p = (s.setFld svccPage (clF c SVCC_CLUSTER_STATE_PAIR) p).clusterFault c 1 (2 + c) := by
  rw [State.doLockstepMismatch, hdrives, Bool.not_true, if_neg Bool.false_ne_true]

section
variable (hstarted : s.role c ≠ 0) (hsound : s.role c ≠ 6)
include hstarted hsound

theorem State.doSramEccError_uncorrectable : s.doSramEccError c true = s.clusterFault c 2 (4 + c) := by
  simp [State.doSramEccError, hstarted, hsound]

/-- A corrected error is counted up to 65,535 and raised. -/
theorem State.doSramEccError_corrected {n : Nat} (hn : n = s.fld svccPage (clF c SVCC_CLUSTER_STATE_SRAM_CORR)) :
    s.doSramEccError c false =
      (s.setFld svccPage (clF c SVCC_CLUSTER_STATE_SRAM_CORR) (if n < 65535 then n + 1 else n)).raise svccPage 6 := by
  simp [State.doSramEccError, hstarted, hsound, hn]

end

theorem State.doClusterSelftestDone_of_testing (htesting : s.role c = 1) (ok : Bool) :
    s.doClusterSelftestDone c ok = if ok then s.setRole c 2 else ((s.setRole c 6).setCause c 4).raise svccPage 7 :=
  if_neg (not_not_intro htesting)

theorem State.doClusterLoadDone_of_loading (hloading : s.role c = 2) (ok : Bool) :
    s.doClusterLoadDone c ok = if ok then s.standbyReady c else ((s.setRole c 6).setCause c 5).raise svccPage 7 :=
  if_neg (not_not_intro hloading)

end

/-! ### The lease (R348 to R351, R355, R356) -/

section
variable {s u : State} {c : Nat}

/-- An operation that the arbiter grants runs, and its result is given (R348). -/
theorem State.leaseOp_of_granted (hdrives : s.drives c = true) (run : State → State) :
    s.leaseOp c true run = ((run s).leaseResult c true).applyLeaseCfg := by
  rw [State.leaseOp, hdrives, Bool.not_true, if_neg Bool.false_ne_true, if_pos rfl]

/-- A renewal before expiry with the right epoch (R349, R350). -/
theorem State.doLeaseRenew_of_held {y : State} {ep : Nat} (hy : y = s.applyLeaseCfg) (hdrives : y.drives c = true)
    (hepoch : y.epochOk c ep = true) (hbefore : y.now < y.svc.lease.expiry) :
    s.doLeaseRenew c ep =
      ((y.onLease fun l => { l with expiry := y.now + y.leaseNs, renewed := y.now }).leaseResult c true).applyLeaseCfg := by
  rw [State.doLeaseRenew, ← hy, hepoch, decide_eq_true hbefore, Bool.and_self, State.leaseOp_of_granted hdrives]

theorem State.claimBeats_of_free (hfree : s.svc.lease.holder = none) (c : Nat) : s.claimBeats c = false := by
  simp only [State.claimBeats, hfree]

section
variable (hpast : ∀ t, s.svc.lease.lastEnd = some t → t + s.guardNs ≤ s.now)
include hpast

/-- A ready cluster takes the free lease with the next epoch and starts its restore (R349, R350, R355). -/
theorem State.doLeaseClaim_of_free {y v : State} {l : Lease} (hl : l = s.svc.lease) (hdrives : s.drives c = true) (hready : s.role c = 3)
    (hnext : l.next = 0 ∨ l.next = c + 1) (hsound : s.fatal = false) (hboot : s.sys.boot.bivouac = false) (hfree : l.holder = none)
    (hy : y = s.applyLeaseCfg)
    (hu : u = ((((y.onLease fun l => { l with
      holder := some c, epoch := (l.epoch + 1) % 65536, expiry := y.now + y.leaseNs, since := y.now, renewed := y.now }).setRole c 4).setCause
      c 0).count svccPage 0xD8))
    (hv : v = if u.svc.swapDueAt.isSome && l.lastHolder != some c then u.count svccPage 0xE0 else u) :
    s.doLeaseClaim c = ((((((v.onSvc fun x => { x with
      swapDueAt := none, swapFrom := some v.now }).raise svccPage 0).raise svccPage 1).journalNote 3).restoreStart).leaseResult c
        true).applyLeaseCfg := by
  subst hl hv
  have hmay : ((decide (s.svc.lease.next = 0) || decide (s.svc.lease.next = c + 1)) && decide (s.role c = 3) && !s.fatal
      && !s.sys.boot.bivouac) = true := by simp [hnext, hready, hsound, hboot]
  rw [State.doLeaseClaim, hmay, State.claimBeats_of_free hfree, hfree]
  cases hlast : s.svc.lease.lastEnd with
  | none =>
    simp only [Bool.and_false, Bool.false_eq_true, if_false, Option.isNone_none, Bool.and_self, State.leaseOp_of_granted hdrives, ← hy, ← hu]
  | some t =>
    simp only [Bool.and_false, Bool.false_eq_true, if_false, Option.isNone_none, Bool.and_self, decide_eq_true (hpast t hlast),
      State.leaseOp_of_granted hdrives, ← hy, ← hu]

/-- With the lease free and the guard past, the clock of each waiting standby is ungated (R349). -/
theorem State.doLeaseGuardEnd_of_past (hfree : s.svc.lease.holder = none) (hclosed : s.svc.lease.guardOpen = false) :
    s.doLeaseGuardEnd = (s.onLease fun l => { l with guardOpen := true }).each [0, 1] fun s c =>
      if s.role c = 3 then s.onCluster c fun x => { x with clockGated := false } else s := by
  rw [State.doLeaseGuardEnd, hfree, hclosed]
  cases hlast : s.svc.lease.lastEnd with
  | none => rfl
  | some t => simp [hpast t hlast]

end

section
variable {ep : Nat} (hdrives : s.drives c = true) (hepoch : s.epochOk c ep = true)
include hdrives hepoch

/-- A release ends the lease; its holder waits as a standby with its clock gated (log 81), and the last checkpoint is copied (R349,
R455). -/
theorem State.doLeaseRelease_of_held (hu : u = ((s.leaseEnd s.now s.now).setRole c 3).onCluster c (fun x => { x with clockGated := true })) :
    (∀ i, u.bestSlot = some i →
      s.doLeaseRelease c ep = ((u.nvCkptCopyStart (u.svc.slots.getD i Ckpt.empty)).leaseResult c true).applyLeaseCfg)
      ∧ (u.bestSlot = none → s.doLeaseRelease c ep = (u.leaseResult c true).applyLeaseCfg) := by
  rw [State.doLeaseRelease, hepoch, State.leaseOp_of_granted hdrives]
  dsimp only
  rw [← hu]
  refine ⟨fun i hbest => ?_, fun hnone => ?_⟩
  · rw [hbest]
  · rw [hnone]

/-- Readiness makes the holder active, and fixes the takeover time where a lease has ended before (R349, R356). -/
theorem State.doLeaseReady_of_starting (hstarting : s.role c = 4) (hu : u = s.setRole c 5) :
    s.doLeaseReady c ep = ((if u.svc.lease.lastEnd.isNone then u
      else u.setFld svccPage SVCC_TAKEOVER_MS_MS (min 65535 ((u.now - u.svc.lease.takeoverFrom) / 1000000))).leaseResult c
        true).applyLeaseCfg := by
  rw [State.doLeaseReady, hepoch, State.leaseOp_of_granted hdrives, if_neg (not_not_intro hstarting)]
  dsimp only
  rw [← hu]

end

/-- The lease ends at its expiry, and its holder has lost it: ROLE 6 and CAUSE 3 (R349, R350; log 81). -/
theorem State.doLeaseExpire_of_over (hholder : s.svc.lease.holder = some c) (hover : s.svc.lease.expiry ≤ s.now) :
    s.doLeaseExpire =
      (((s.leaseEnd s.svc.lease.expiry s.svc.lease.renewed).onSvc fun v => { v with swapDueAt := none }).setRole c 6).setCause c 3 := by
  simp only [State.doLeaseExpire, hholder, if_neg (Nat.not_lt.mpr hover)]

/-! ### Swaps (R357) -/

/-- A swap falls due once the holder has held the lease for PERIOD_H; a standby that is not ready defers it. -/
theorem State.doSwapDue_of_over {t : Nat} (hholder : s.svc.lease.holder = some c) (hfrom : s.svc.swapFrom = some t)
    (hperiod : s.fld svccPage SVCC_SWAP_CFG_PERIOD_H ≠ 0) (hover : t + s.fld svccPage SVCC_SWAP_CFG_PERIOD_H * hourNs ≤ s.now)
    (hnew : s.svc.swapDueAt = none) :
    s.doSwapDue =
      if s.role (1 - c) ≠ 3 then s.onSvc fun v => { v with swapFrom := none }
      else (s.onSvc fun v => { v with swapDueAt := some s.now }).raise svccPage 10 := by
  simp only [State.doSwapDue, hholder, hfrom, hnew, hperiod, decide_false, decide_eq_false (Nat.not_lt.mpr hover), Option.isSome_none,
    Bool.or_self, Bool.false_eq_true, if_false]

theorem State.doSwapWindowExpire_of_over {t : Nat} (hholder : s.svc.lease.holder = some c) (hdue : s.svc.swapDueAt = some t)
    (hover : t + 60 * nsPerSec * s.fld svccPage SVCC_SWAP_CFG_WINDOW_MIN ≤ s.now) :
    s.doSwapWindowExpire = ((((s.leaseRevoke 3).setRole c 1).setCause c 0).raise svccPage 11).count svccPage 0xE0 := by
  simp only [State.doSwapWindowExpire, hholder, hdue, if_neg (Nat.not_lt.mpr hover)]

/-! ### Firmware containment (R364) -/

/-- HOST and LOOM are host-only for reads too. -/
theorem State.doFirmwareHostPageRead_of_hostOnly {page off i : Nat} (hdrives : s.drives c = true)
    (hpage : pageOf page = some (.host, i) ∨ pageOf page = some (.loom, i)) : s.doFirmwareHostPageRead c page off = s.fwDenied c page off 6 5 := by
  rcases hpage with hpage | hpage
  all_goals simp only [State.doFirmwareHostPageRead, hdrives, hpage, Bool.and_self, if_true]

end

/-- Settles O19: each command is its operation, and the operation's lemma for the case at hand gives the answer. The ROLE and CAUSE after
an expiry, and ROLE 3 with the clock gated after a release, are log 81. -/
theorem clusterFaultsAndLeaseComplete : Obligations.ClusterFaultsAndLeaseComplete := by
  unfold Obligations.ClusterFaultsAndLeaseComplete
  refine ⟨?lockstep, ?ecc, ?starts, ?renew, ?claim, ?holder, ?expire, ?guard, ?swaps, ?hostPage⟩
  case lockstep =>
    intro c p s hdrives
    rw [exec_lockstepMismatch, State.doLockstepMismatch_of_drives hdrives]
  case ecc =>
    intro c s n hstarted hsound
    refine ⟨?_, fun hn => ?_⟩
    · rw [exec_sramEccError, State.doSramEccError_uncorrectable hstarted hsound]
    · rw [exec_sramEccError, State.doSramEccError_corrected hstarted hsound hn]
  case starts =>
    refine fun c s => ⟨fun htesting => ⟨fun hquiet => ?_, ?_⟩, fun hloading => ⟨?_, ?_⟩⟩
    · rw [exec_clusterSelftestDone, State.doClusterSelftestDone_of_testing htesting, if_pos rfl,
        settle_of_quiet (s := s.setRole c 2) hquiet]
    · rw [exec_clusterSelftestDone, State.doClusterSelftestDone_of_testing htesting, if_neg Bool.false_ne_true]
    · rw [exec_clusterLoadDone, State.doClusterLoadDone_of_loading hloading, if_pos rfl]
    · rw [exec_clusterLoadDone, State.doClusterLoadDone_of_loading hloading, if_neg Bool.false_ne_true]
  case renew =>
    intro c ep s y hy hdrives hepoch hbefore
    rw [exec_leaseRenew, State.doLeaseRenew_of_held hy hdrives hepoch hbefore]
  case claim =>
    rintro c s y u v l rfl hdrives hready hnext hsound hboot hfree hpast hy hu hv
    rw [exec_leaseClaim, State.doLeaseClaim_of_free hpast rfl hdrives hready hnext hsound hboot hfree hy hu hv]
  case holder =>
    intro c ep s u hdrives hepoch
    refine ⟨fun hu => ?release, fun hstarting hu => ?ready⟩
    case release =>
      obtain ⟨hcopy, hnone⟩ := State.doLeaseRelease_of_held hdrives hepoch hu
      rw [exec_leaseRelease]
      exact ⟨fun i hbest => by rw [hcopy i hbest], fun hbest => by rw [hnone hbest]⟩
    case ready =>
      rw [exec_leaseReady, State.doLeaseReady_of_starting hdrives hepoch hstarting hu]
      refine ⟨fun hfirst => ?_, fun hlast => ?_⟩
      · rw [hfirst, Option.isNone_none, if_pos rfl]
      · rw [if_neg (by simpa using hlast)]
  case expire =>
    intro s c hholder hover
    rw [exec_leaseExpire, State.doLeaseExpire_of_over hholder hover]
  case guard =>
    intro s hfree hclosed hpast
    rw [exec_leaseGuardEnd, State.doLeaseGuardEnd_of_past hpast hfree hclosed]
  case swaps =>
    refine fun s c t hholder => ⟨fun hfrom hperiod hover hnew => ?due, fun hdue hover => ?windowEnd⟩
    case due =>
      rw [exec_swapDue, State.doSwapDue_of_over hholder hfrom hperiod hover hnew]
      refine ⟨fun hquiet hbusy => ?_, fun hready => ?_⟩
      · rw [if_pos hbusy, settle_of_quiet (s := s.onSvc _) hquiet]
      · rw [if_neg (not_not_intro hready)]
    case windowEnd => rw [exec_swapWindowExpire, State.doSwapWindowExpire_of_over hholder hdue hover]
  case hostPage =>
    intro c page off s i hdrives hpage
    rw [exec_firmwareHostPageRead, State.doFirmwareHostPageRead_of_hostOnly hdrives hpage, State.fwDenied]

end Sys2Proof.Machine

/-! SUPPORT. Twin mode: where each of its commands acts, and what it does there (R358 to R362, R470, R474). -/

namespace Sys2Proof.Machine

/-! ### The commands over their operations -/

theorem exec_twinFrameReceive (b : List Byte) (s : State) :
    exec (.twinFrameReceive b) s = .next (settle (s.doTwinFrameReceive b)) := by rfl
theorem exec_twinStatusSend (s : State) : exec .twinStatusSend s = .next (settle s.doTwinStatusSend) := by rfl
theorem exec_twinRenewSend (s : State) : exec .twinRenewSend s = .next (settle s.doTwinRenewSend) := by rfl
theorem exec_twinExpiry (s : State) : exec .twinExpiry s = .next (settle s.doTwinExpiry) := by rfl
theorem exec_twinStandbyTakeover (s : State) : exec .twinStandbyTakeover s = .next (settle s.doTwinStandbyTakeover) := by rfl
theorem exec_twinLinkLost (s : State) : exec .twinLinkLost s = .next (settle s.doTwinLinkLost) := by rfl
theorem exec_twinListenEnd (s : State) : exec .twinListenEnd s = .next (settle s.doTwinListenEnd) := by rfl
theorem exec_twinReleaseGuardEnd (s : State) : exec .twinReleaseGuardEnd s = .next (settle s.doTwinReleaseGuardEnd) := by rfl
theorem exec_twinHoldInChange (b : Bool) (s : State) :
    exec (.twinHoldInChange b) s = .next (settle (s.doTwinHoldInChange b)) := by rfl
theorem exec_twinHoldSample (s : State) : exec .twinHoldSample s = .next (settle s.doTwinHoldSample) := by rfl
theorem exec_twinHoldRelease (s : State) : exec .twinHoldRelease s = .next (settle s.doTwinHoldRelease) := by rfl

/-! ### Frames of the peer (R359, R360), their fields at the places of log 71 -/

section
variable {s u v : State} {b : List Byte} (hmode : s.twinMode = 1)
include hmode

theorem State.doTwinFrameReceive_of_bad (hbad : twinGood b = false) : s.doTwinFrameReceive b = s.count twinPage 0xA8 := by
  rw [State.doTwinFrameReceive, if_neg (not_not_intro hmode), hbad, Bool.not_false, if_pos rfl]

section
variable (hgood : twinGood b = true)
  (hu : u = (((((s.count twinPage 0xA0).onTwin fun t => { t with
    linkUp := true, lastFrame := s.now, peerRole := byteAt b 9, peerId := leAt b 0 8 }).setFld twinPage TWIN_PEER_ID_LO_ID
      (leAt b 0 8)).setFld twinPage TWIN_PEER_ID_HI_ID (leAt b 0 8 / 2 ^ 32)).lower twinPage 1))
  (hv : v = if leAt b 16 4 ≠ u.sharedCrc then u.raise twinPage 3 else u)
include hgood hu hv

theorem State.doTwinFrameReceive_status (htype : byteAt b 8 = 0) : s.doTwinFrameReceive b = v := by
  subst hu hv
  rw [State.doTwinFrameReceive, if_neg (not_not_intro hmode), hgood, htype]
  rfl

/-- A renew is heeded unless the module is held down (R362). -/
theorem State.doTwinFrameReceive_renew (htype : byteAt b 8 = 1) :
    s.doTwinFrameReceive b = if v.twinQuiet then v else v.twinRenewed (leAt b 0 8) (byteAt b 10) := by
  subst hu hv
  rw [State.doTwinFrameReceive, if_neg (not_not_intro hmode), hgood, htype]
  rfl

/-- A grant moves the expiry of the active role: LEASE_MS from the renew it answers. -/
theorem State.doTwinFrameReceive_grant (htype : byteAt b 8 = 2) :
    s.doTwinFrameReceive b =
      if v.svc.twin.role = 1 then v.onTwin fun t => { t with expiry := t.renewSentAt + v.twinLeaseNs } else v := by
  subst hu hv
  rw [State.doTwinFrameReceive, if_neg (not_not_intro hmode), hgood, htype]
  rfl

theorem State.doTwinFrameReceive_release (htype : byteAt b 8 = 3) :
    s.doTwinFrameReceive b =
      if v.svc.twin.role = 1 then v else v.onTwin fun t => { t with releaseEnd := some (v.now + v.twinGuardNs) } := by
  subst hu hv
  rw [State.doTwinFrameReceive, if_neg (not_not_intro hmode), hgood, htype]
  rfl

end

/-! ### Frames of the module -/

theorem State.doTwinStatusSend_of_due (hsound : s.fatal = false) (hvsb : s.sys.power.vsb = true) (hrails : s.sys.power.rails = true)
    (hboot : s.sys.boot.bivouac = false) (hdue : onceIn 1000000 s.svc.twin.statusAt s.now = true) :
    s.doTwinStatusSend = (s.onTwin fun t => { t with statusAt := some s.now }).emit (.twin (s.twinFrame 0)) := by
  simp [State.doTwinStatusSend, hsound, hvsb, hrails, hboot, hmode, hdue]

theorem State.doTwinRenewSend_of_due (hactive : s.svc.twin.role = 1) (hheld : s.leaseHeld = true) (hfree : s.twinQuiet = false)
    (hdue : onceIn (1000000 * s.fld twinPage TWIN_TWIN_TIMING_RENEW_MS) s.svc.twin.renewAt s.now = true) :
    s.doTwinRenewSend = (s.onTwin fun t => { t with renewSentAt := s.now, renewAt := some s.now }).emit (.twin (s.twinFrame 1)) := by
  simp [State.doTwinRenewSend, hmode, hactive, hheld, hfree, hdue]

/-! ### Expiry, takeover and the link (R359, R361) -/

theorem State.doTwinStandbyTakeover_of_past (hstandby : s.svc.twin.role = 2) (hpast : s.svc.twin.record + s.twinGuardNs ≤ s.now)
    (hheld : s.leaseHeld = true) (hfree : s.twinQuiet = false) : s.doTwinStandbyTakeover = s.twinActive := by
  simp [State.doTwinStandbyTakeover, hmode, hstandby, hpast, hheld, hfree]

theorem State.doTwinLinkLost_of_silent (hup : s.svc.twin.linkUp = true) (hsilent : s.svc.twin.lastFrame + 3000000 ≤ s.now) :
    s.doTwinLinkLost = (s.onTwin fun t => { t with linkUp := false }).raiseLive twinPage 1 := by
  simp [State.doTwinLinkLost, hmode, hup, hsilent]

end

section
variable {s u : State}

section
variable (hactive : s.svc.twin.role = 1)
include hactive

/-- In forerunner mode the role goes with the own cluster's lease. -/
theorem State.doTwinExpiry_of_leaseGone (hmode : s.twinMode = 2) (hgone : s.leaseRecent = false) : s.doTwinExpiry = s.twinGiveUp 3 := by
  simp [State.doTwinExpiry, hactive, hmode, hgone]

theorem State.doTwinExpiry_of_expired (hmode : s.twinMode ≠ 2) (hover : s.svc.twin.expiry ≤ s.now) :
    s.doTwinExpiry = s.twinGiveUp 3 := by
  simp [State.doTwinExpiry, hactive, hmode, Nat.not_lt.mpr hover]

end

/-! ### Listening and the release guard (R360) -/

section
variable (hlistens : s.svc.twin.role = 3) (hover : s.svc.twin.listenEnd ≤ s.now) (hlow : s.svc.twin.holdOut = false)
  (hfree : s.twinQuiet = false)
include hlistens hover hlow hfree

/-- With PRIO 0 the module listens a second time. -/
theorem State.doTwinListenEnd_first (hmode : s.twinMode ≠ 0) (hprio : s.twinPrio = 0) (hfirst : s.svc.twin.listens = 0) :
    s.doTwinListenEnd = s.onTwin fun t => { t with listens := 1, listenEnd := s.now + s.twinLeaseNs + s.twinGuardNs } := by
  simp [State.doTwinListenEnd, hlistens, Nat.not_lt.mpr hover, hlow, hfree, hmode, hprio, hfirst]

section
variable (hlast : s.twinPrio ≠ 0 ∨ s.svc.twin.listens ≠ 0)
include hlast

/-- Nothing holds the end of the last listening back. -/
theorem State.doTwinListenEnd_last (hmode : s.twinMode ≠ 0) :
    s.doTwinListenEnd =
      if s.twinMode = 1 then s.twinActive
      else if s.holdMay then (s.setHoldOut true).onTwin fun t => { t with holdSampleAt := some (s.now + 1000000), holdReleaseAt := none }
      else s := by
  have hagain : ¬(s.twinPrio = 0 ∧ s.svc.twin.listens = 0) := fun ⟨hprio, hfirst⟩ => hlast.elim (· hprio) (· hfirst)
  simp [State.doTwinListenEnd, hlistens, Nat.not_lt.mpr hover, hlow, hfree, hmode, hagain]

theorem State.doTwinListenEnd_native (hmode : s.twinMode = 1) : s.doTwinListenEnd = s.twinActive := by
  rw [State.doTwinListenEnd_last hlistens hover hlow hfree hlast (by simp [hmode]), if_pos hmode]

/-- In forerunner mode the module raises TWIN_HOLD_OUT, and samples the other module's pin a millisecond later (R361). -/
theorem State.doTwinListenEnd_forerunner (hmode : s.twinMode = 2) (hmay : s.holdMay = true) :
    s.doTwinListenEnd =
      (s.setHoldOut true).onTwin fun t => { t with holdSampleAt := some (s.now + 1000000), holdReleaseAt := none } := by
  rw [State.doTwinListenEnd_last hlistens hover hlow hfree hlast (by simp [hmode]), if_neg (by simp [hmode]), if_pos hmay]

end
end

theorem State.doTwinReleaseGuardEnd_of_over {t : Nat} (hend : s.svc.twin.releaseEnd = some t) (hover : t ≤ s.now)
    (hfree : s.twinQuiet = false) : s.doTwinReleaseGuardEnd = s.twinActive := by
  simp [State.doTwinReleaseGuardEnd, hend, Nat.not_lt.mpr hover, hfree]

/-! ### The hold pins (R361, R474) -/

/-- The pin's level is noted; a module that keeps its own pin high and waits takes the role when the other's falls. -/
theorem State.doTwinHoldInChange_of_new {b : Bool} (hnew : s.svc.twin.holdIn ≠ b)
    (hu : u = s.onTwin (fun t => { t with holdIn := b, holdLowSince := if b then none else some s.now })) :
    (u.twinMode ≠ 2 ∨ b = true → s.doTwinHoldInChange b = u)
      ∧ (u.twinMode = 2 → b = false → s.svc.twin.holdOut = true → s.svc.twin.role = 3 → s.svc.twin.holdSampleAt = none →
        s.svc.twin.holdReleaseAt = none → s.doTwinHoldInChange b = u.twinActive) := by
  rw [State.doTwinHoldInChange, if_neg hnew]
  dsimp only
  rw [← hu]
  refine ⟨fun hother => ?_, fun hmode hlow hout hrole hsample hrelease => ?_⟩
  · rcases hother with hmode | hhigh
    · simp [hmode]
    · simp [hhigh]
  · simp [hmode, hlow, hout, hrole, hsample, hrelease]

section
variable {t : Nat} (hdue : s.svc.twin.holdSampleAt = some t) (hpast : t ≤ s.now)
  (hu : u = s.onTwin (fun t => { t with holdSampleAt := none }))
include hdue hpast hu

theorem State.doTwinHoldSample_low (hlow : u.svc.twin.holdIn = false) : s.doTwinHoldSample = u.twinActive := by
  rw [State.doTwinHoldSample, hdue]
  simp only [if_neg (Nat.not_lt.mpr hpast), ← hu, hlow, Bool.not_false, if_true]

/-- Both pins high: the module with PRIO 0 gives way and listens afresh (log 81). -/
theorem State.doTwinHoldSample_yields (hhigh : u.svc.twin.holdIn = true) (hprio : u.twinPrio = 0) :
    s.doTwinHoldSample = (u.setHoldOut false).twinListen := by
  rw [State.doTwinHoldSample, hdue]
  simp only [if_neg (Nat.not_lt.mpr hpast), ← hu, hhigh, hprio, Bool.not_true, Bool.false_eq_true, if_false, if_true]

end

theorem State.doTwinHoldRelease_of_due {t : Nat} (hdue : s.svc.twin.holdReleaseAt = some t) (hpast : t ≤ s.now) :
    s.doTwinHoldRelease = (s.setHoldOut false).onTwin fun t => { t with holdReleaseAt := none } := by
  simp [State.doTwinHoldRelease, hdue, Nat.not_lt.mpr hpast]

end

/-- Settles O21: each command is its operation, and the operation's lemma for the case at hand gives the answer. The places of a frame's
fields are log 71's choice, and that a role given up listens afresh is log 81. -/
theorem twinCommandsComplete : Obligations.TwinCommandsComplete := by
  unfold Obligations.TwinCommandsComplete
  refine ⟨?bad, ?good, ?sent, ?roles, ?listen, ?guard, ?holdIn, ?sample, ?release⟩
  case bad =>
    intro b s hmode hbad
    rw [exec_twinFrameReceive, State.doTwinFrameReceive_of_bad hmode hbad]
  case good =>
    intro b s u v hmode hgood hu hv
    rw [exec_twinFrameReceive]
    refine ⟨fun htype => ?status, fun htype hfree => ?renew, fun htype hactive => ?grant, fun htype hpassive => ?free⟩
    case status => rw [State.doTwinFrameReceive_status hmode hgood hu hv htype]
    case renew => rw [State.doTwinFrameReceive_renew hmode hgood hu hv htype, hfree, if_neg Bool.false_ne_true]
    case grant => rw [State.doTwinFrameReceive_grant hmode hgood hu hv htype, if_pos hactive]
    case free => rw [State.doTwinFrameReceive_release hmode hgood hu hv htype, if_neg hpassive]
  case sent =>
    refine fun s hquiet hsound => ⟨fun hvsb hrails hboot hmode hdue => ?status, fun hmode hactive hheld hfree hdue => ?renew⟩
    case status =>
      rw [exec_twinStatusSend, State.doTwinStatusSend_of_due hmode hsound hvsb hrails hboot hdue,
        settle_of_quiet (s := (s.onTwin _).emit _) hquiet]
    case renew =>
      rw [exec_twinRenewSend, State.doTwinRenewSend_of_due hmode hactive hheld hfree hdue,
        settle_of_quiet (s := (s.onTwin _).emit _) hquiet]
  case roles =>
    refine fun s => ⟨fun hactive hmode hgone => ?leaseGone, fun hactive hmode hover => ?expired,
      fun hmode hstandby hpast hheld hfree => ?takeover, fun hmode hup hsilent => ?lost⟩
    case leaseGone => rw [exec_twinExpiry, State.doTwinExpiry_of_leaseGone hactive hmode hgone]
    case expired => rw [exec_twinExpiry, State.doTwinExpiry_of_expired hactive hmode hover]
    case takeover =>
      rw [exec_twinStandbyTakeover, State.doTwinStandbyTakeover_of_past hmode hstandby hpast hheld hfree, State.twinActive]
    case lost => rw [exec_twinLinkLost, State.doTwinLinkLost_of_silent hmode hup hsilent]
  case listen =>
    intro s hlistens hover hlow hfree
    rw [exec_twinListenEnd]
    refine ⟨fun hquiet hmode hprio hfirst => ?again, fun hmode hlast => ?native, fun hmode hlast hmay => ?forerunner⟩
    case again =>
      rw [State.doTwinListenEnd_first hlistens hover hlow hfree hmode hprio hfirst, settle_of_quiet (s := s.onTwin _) hquiet]
    case native => rw [State.doTwinListenEnd_native hlistens hover hlow hfree hlast hmode]
    case forerunner => rw [State.doTwinListenEnd_forerunner hlistens hover hlow hfree hlast hmode hmay]
  case guard =>
    intro s t hend hover hfree
    rw [exec_twinReleaseGuardEnd, State.doTwinReleaseGuardEnd_of_over hend hover hfree]
  case holdIn =>
    intro s u b hnew hu
    obtain ⟨hnoted, htaken⟩ := State.doTwinHoldInChange_of_new hnew hu
    rw [exec_twinHoldInChange]
    exact ⟨fun hother => by rw [hnoted hother],
      fun hmode hlow hout hrole hsample hrelease => by rw [htaken hmode hlow hout hrole hsample hrelease]⟩
  case sample =>
    intro s u t hdue hpast hu
    rw [exec_twinHoldSample]
    refine ⟨fun hlow => ?_, fun hhigh hprio => ?_⟩
    · rw [State.doTwinHoldSample_low hdue hpast hu hlow]
    · rw [State.doTwinHoldSample_yields hdue hpast hu hhigh hprio]
  case release =>
    intro s t hdue hpast
    rw [exec_twinHoldRelease, State.doTwinHoldRelease_of_due hdue hpast]

end Sys2Proof.Machine

/-! SUPPORT. RESET_N, the supplies and board management: where each command acts, and what it does there (R452, R466, R467, R470, R471,
R476, R477). -/

namespace Sys2Proof.Machine

/-! ### The commands over their operations -/

theorem exec_resetNAssert (ns : Nat) (s : State) : exec (.resetNAssert ns) s = .next (settle (s.doResetNAssert ns)) := by rfl
theorem exec_resetNRelease (s : State) : exec .resetNRelease s = .next (settle s.doResetNRelease) := by rfl
theorem exec_powerFailInput (c : PowerFailCause) (s : State) :
    exec (.powerFailInput c) s = .next (settle (s.doPowerFailInput c)) := by rfl
theorem exec_vin12Low (s : State) : exec .vin12Low s = .next (settle s.doVin12Low) := by rfl
theorem exec_vin12Off (s : State) : exec .vin12Off s = .next (settle s.doVin12Off) := by rfl
theorem exec_vin12Return (s : State) : exec .vin12Return s = .next (settle s.doVin12Return) := by rfl
theorem exec_bmcReadingRefresh (temp : Byte) (i : Island) (vin cur vsb pow : BitVec 16) (s : State) :
    exec (.bmcReadingRefresh temp i vin cur vsb pow) s =
      .next (settle (s.doBmcReadingRefresh temp.toNat i vin.toNat cur.toNat vsb.toNat pow.toNat)) := by rfl
theorem exec_bmcReadIdentity (s : State) : exec .bmcReadIdentity s = .next (settle s.doBmcReadIdentity) := by rfl
theorem exec_bmcReadDevInfo (s : State) : exec .bmcReadDevInfo s = .next (settle s.doBmcReadDevInfo) := by rfl
theorem exec_bmcReadStatus (s : State) : exec .bmcReadStatus s = .next (settle s.doBmcReadStatus) := by rfl
theorem exec_bmcReadTemp (s : State) : exec .bmcReadTemp s = .next (settle s.doBmcReadTemp) := by rfl
theorem exec_bmcReadVin12 (s : State) : exec .bmcReadVin12 s = .next (settle s.doBmcReadVin12) := by rfl
theorem exec_bmcReadVin12Current (s : State) : exec .bmcReadVin12Current s = .next (settle s.doBmcReadVin12Current) := by rfl
theorem exec_bmcReadVsb33 (s : State) : exec .bmcReadVsb33 s = .next (settle s.doBmcReadVsb33) := by rfl
theorem exec_bmcReadPower (s : State) : exec .bmcReadPower s = .next (settle s.doBmcReadPower) := by rfl
theorem exec_bmcReadFatal (s : State) : exec .bmcReadFatal s = .next (settle s.doBmcReadFatal) := by rfl
theorem exec_bmcReadLastReset (s : State) : exec .bmcReadLastReset s = .next (settle s.doBmcReadLastReset) := by rfl
theorem exec_bmcReadAlertStatus (s : State) : exec .bmcReadAlertStatus s = .next (settle s.doBmcReadAlertStatus) := by rfl
theorem exec_smbAlertResponse (s : State) : exec .smbAlertResponse s = .next (settle s.doSmbAlertResponse) := by rfl
theorem exec_bmcClearAlertStatus (v : Byte) (pec : Bool) (s : State) :
    exec (.bmcClearAlertStatus v pec) s = .next (settle (s.doBmcClearAlert v pec)) := by rfl
theorem exec_bmcColdReset (v : Byte) (pec : Bool) (s : State) :
    exec (.bmcColdReset v pec) s = .next (settle (s.doBmcColdReset v pec)) := by rfl

/-! ### RESET_N (R471) -/

section
variable {s : State} {ns : Nat}

theorem State.doResetNAssert_short (hshort : ns < 1000) : s.doResetNAssert ns = s := by
  simp [State.doResetNAssert, hshort]

section
variable (hvsb : s.sys.power.vsb = true) (hhigh : s.sys.power.resetNLow = false)
include hvsb hhigh

theorem State.doResetNAssert_long (hlong : 10000 ≤ ns) :
    s.doResetNAssert ns = ((s.coldReset 2).onPower fun p => { p with resetNLow := true }).onBoot fun b => { b with phase := 0 } := by
  have hact : ¬ns < 1000 := by omega
  have hsure : ¬ns < 10000 := by omega
  simp [State.doResetNAssert, hvsb, hhigh, hact, hsure]

/-- Between 1 us and 10 us a free value decides (log 3). -/
theorem State.doResetNAssert_between {u : State} (hlow : 1000 ≤ ns) (hopen : ns < 10000) (hu : u = { s with free := s.free + 1 }) :
    s.doResetNAssert ns =
      if (Config.freeValue s.free).getLsbD 0 then
        ((u.coldReset 2).onPower fun p => { p with resetNLow := true }).onBoot fun b => { b with phase := 0 }
      else u := by
  subst hu
  have hact : ¬ns < 1000 := by omega
  simp only [State.doResetNAssert, hvsb, hhigh, hact, hopen, State.fresh, decide_false, Bool.not_true, Bool.or_self, Bool.false_eq_true,
    if_false, if_true]

end

theorem State.doResetNRelease_of_low (hlow : s.sys.power.resetNLow = true) :
    s.doResetNRelease = (s.onPower fun p => { p with resetNLow := false }).onBoot fun b => { b with
      phase := if s.sys.power.vin then 1 else b.phase } := by
  rw [State.doResetNRelease, hlow, Bool.not_true, if_neg Bool.false_ne_true]

/-! ### The supplies (R452, R466, R467, R470) -/

/-- The pin is heeded while the regulators are on. -/
theorem State.doPowerFailInput_pin (hrails : s.sys.power.rails = true) :
    s.doPowerFailInput .pin = (settle (s.raiseLive fltcPage 5)).nvPowerFail := by
  simp only [State.doPowerFailInput, hrails, Bool.not_true, Bool.false_eq_true, if_false]

theorem State.doPowerFailInput_vin12 (hvin : s.sys.power.vin = false) (habove : s.sys.power.below6 = false) :
    s.doPowerFailInput .vin12 = (settle (s.raiseLive fltcPage 5)).nvPowerFail := by
  simp only [State.doPowerFailInput, hvin, habove, Bool.not_true, Bool.not_false, Bool.and_self, Bool.false_eq_true, if_false]

theorem State.doPowerFailInput_vsb33 (hvsb : s.sys.power.vsb = true) :
    s.doPowerFailInput .vsb33 = (settle (s.raiseLive fltcPage 5)).nvPowerFail.onPower fun p => { p with vsb := false } := by
  simp only [State.doPowerFailInput, hvsb, Bool.not_true, Bool.false_eq_true, if_false]

/-- Below 10.8 V the regulators turn off and the islands lose their state (log 52); the flash stays protected. -/
theorem State.doVin12Low_of_on (hvin : s.sys.power.vin = true) :
    s.doVin12Low = ((s.railsOff.onPower fun p => { p with vin := false, below6 := false }).wipe).onNv fun n => { n with
      powerFail := s.sys.nv.powerFail } := by
  rw [State.doVin12Low, hvin, Bool.not_true, if_neg Bool.false_ne_true]

theorem State.doVin12Off_of_low (hvin : s.sys.power.vin = false) :
    s.doVin12Off = (s.onPower fun p => { p with below6 := true }).onBoot fun b => { b with phase := 0 } := by
  rw [State.doVin12Off, hvin, if_neg Bool.false_ne_true]

theorem State.doVin12Return_of_low (hvsb : s.sys.power.vsb = true) (hvin : s.sys.power.vin = false) (habove : s.sys.power.below6 = false) :
    s.doVin12Return = (s.onPower fun p => { p with vin := true, vinReturned := s.fatal }).onBoot fun b => { b with
      phase := if s.sys.power.resetNLow then 0 else 1 } := by
  simp only [State.doVin12Return, hvsb, hvin, habove, Bool.not_true, Bool.or_self, Bool.false_eq_true, if_false]

/-! ### Readings of the board (R476) -/

/-- An update of the supplies is what it makes of their present state. -/
theorem State.onPower_congr {f g : Power → Power} (h : f s.sys.power = g s.sys.power) : s.onPower f = s.onPower g := by
  simp only [State.onPower, State.onSys, h]

section
variable {temp island vin cur vsb pow : Nat}

/-- While VIN12 is off no reading of another island than the groundsheet's comes. -/
theorem State.doBmcReadingRefresh_of_other (hvin : s.sys.power.vin = false) (hother : island ≠ 53) :
    s.doBmcReadingRefresh temp island vin cur vsb pow = s := by
  simp [State.doBmcReadingRefresh, hvin, hother]

variable (hvsb : s.sys.power.vsb = true) (hdue : onceIn 1000000 s.sys.power.readAt s.now = true)
include hvsb hdue

theorem State.doBmcReadingRefresh_of_on (hvin : s.sys.power.vin = true) :
    s.doBmcReadingRefresh temp island vin cur vsb pow = s.onPower fun p => { p with
      readAt := some s.now, temp := s.fld fltcPage FLTC_TEMP_MAX_TEMP, tempIsland := s.fld fltcPage FLTC_TEMP_MAX_ISLAND, vin12mV := vin
      vin12dA := cur, vsb33mV := vsb, powerW := pow } := by
  simp only [State.doBmcReadingRefresh, hvsb, hdue, hvin, Bool.not_true, Bool.false_and, Bool.or_self, Bool.false_eq_true, if_false, if_true]
  exact State.onPower_congr (by simp only [hvin, if_true])

/-- Without VIN12 the groundsheet island reads its own sensor, and current and power read 0. -/
theorem State.doBmcReadingRefresh_of_standby (hvin : s.sys.power.vin = false) (hown : island = 53) :
    s.doBmcReadingRefresh temp island vin cur vsb pow = s.onPower fun p => { p with
      readAt := some s.now, temp := temp, tempIsland := 53, vin12mV := vin, vin12dA := 0, vsb33mV := vsb, powerW := 0 } := by
  simp only [State.doBmcReadingRefresh, hvsb, hdue, hvin, hown, bne_self_eq_false, Bool.not_true, Bool.and_false, Bool.or_self,
    Bool.false_eq_true, if_false]
  exact State.onPower_congr (by simp only [hvin, Bool.false_eq_true, if_false])

end

/-! ### The SMBus target (R477) -/

section
variable (hvsb : s.sys.power.vsb = true)
include hvsb

theorem State.bmcAnswer_of_standby (b : List Byte) : s.bmcAnswer b = s.emit (.bmc b) := if_pos hvsb

/-- An answer of the target makes no severity action due. -/
theorem settle_bmcAnswer (hquiet : Quiet s) (b : List Byte) : settle (s.bmcAnswer b) = s.emit (.bmc b) := by
  rw [State.bmcAnswer_of_standby hvsb, settle_of_quiet (s := s.emit _) hquiet]

theorem State.bmcWrite_of_standby (ok : Bool) (run : State → State) : s.bmcWrite ok run = if ok then run s else s.emit .nack := by
  rw [State.bmcWrite, hvsb, Bool.not_true, if_neg Bool.false_ne_true]

theorem State.doSmbAlertResponse_of_alert (halert : s.sys.power.alert ≠ 0) : s.doSmbAlertResponse = s.emit (.smbAlert 0x4C) := by
  simp [State.doSmbAlertResponse, hvsb, halert]

/-- SMB_ALERT_N rises where the last of the alert bits clears. -/
theorem State.doBmcClearAlert_good {v : Byte} {a : Nat} (ha : a = (BitVec.ofNat 8 s.sys.power.alert &&& ~~~ v).toNat) :
    s.doBmcClearAlert v true =
      if s.sys.power.alert ≠ 0 ∧ a = 0 then (s.onPower fun p => { p with alert := a }).emit (.pin "SMB_ALERT_N" true)
      else s.onPower fun p => { p with alert := a } := by
  simp only [State.doBmcClearAlert, State.bmcWrite_of_standby hvsb, ← ha, if_true, Bool.and_eq_true, decide_eq_true_eq]

theorem State.doBmcClearAlert_bad (v : Byte) : s.doBmcClearAlert v false = s.emit .nack := by
  rw [State.doBmcClearAlert, State.bmcWrite_of_standby hvsb, if_neg Bool.false_ne_true]

/-- A cold reset needs a good PEC and the value 0xC1. -/
theorem State.doBmcColdReset_of_standby (v : Byte) (pec : Bool) :
    s.doBmcColdReset v pec = if pec = true ∧ v = 0xC1 then s.coldReset 5 else s.emit .nack := by
  simp only [State.doBmcColdReset, State.bmcWrite_of_standby hvsb, Bool.and_eq_true, beq_iff_eq]

end
end

/-- Settles O30: each command is its operation, and the operation's lemma for the case at hand gives the answer. The free outcome between
1 us and 10 us is log 3, the islands' loss of state and POWER_FAIL as an event are log 52, one reading a millisecond is log 111, and that
POWER_FAIL acts once is log 128. -/
theorem supplyAndBoardCommandsComplete : Obligations.SupplyAndBoardCommandsComplete := by
  unfold Obligations.SupplyAndBoardCommandsComplete
  refine ⟨?assert, ?release, ?supplies, ?readings, ?reads, ?writes⟩
  case assert =>
    intro ns s hvsb hhigh
    rw [exec_resetNAssert]
    refine ⟨fun hshort => ?_, fun hlong => ?_, fun u hlow hopen hu => ?_⟩
    · rw [State.doResetNAssert_short hshort]
    · rw [State.doResetNAssert_long hvsb hhigh hlong]
    · rw [State.doResetNAssert_between hvsb hhigh hlow hopen hu]
  case release =>
    intro s hlow
    rw [exec_resetNRelease, State.doResetNRelease_of_low hlow]
  case supplies =>
    refine fun s => ⟨fun hrails => ?pin, fun hvin habove => ?vin12, fun hvsb => ?vsb33, fun hvin => ?low, fun hquiet hvin => ?off,
      fun hquiet hvsb hvin habove => ?returns⟩
    case pin => rw [exec_powerFailInput, State.doPowerFailInput_pin hrails]
    case vin12 => rw [exec_powerFailInput, State.doPowerFailInput_vin12 hvin habove]
    case vsb33 => rw [exec_powerFailInput, State.doPowerFailInput_vsb33 hvsb]
    case low => rw [exec_vin12Low, State.doVin12Low_of_on hvin]
    case off => rw [exec_vin12Off, State.doVin12Off_of_low hvin, settle_of_quiet (s := (s.onPower _).onBoot _) hquiet]
    case returns =>
      rw [exec_vin12Return, State.doVin12Return_of_low hvsb hvin habove, settle_of_quiet (s := (s.onPower _).onBoot _) hquiet]
  case readings =>
    intro temp i vin cur vsb pow s hquiet hvsb hdue
    rw [exec_bmcReadingRefresh]
    refine ⟨fun hvin => ?_, fun hvin hown => ?_, fun hvin hother => ?_⟩
    · rw [State.doBmcReadingRefresh_of_on hvsb hdue hvin, settle_of_quiet (s := s.onPower _) hquiet]
    · rw [State.doBmcReadingRefresh_of_standby hvsb hdue hvin (congrArg Fin.val hown), settle_of_quiet (s := s.onPower _) hquiet]
    · rw [State.doBmcReadingRefresh_of_other hvin fun h => hother (Fin.ext h), settle_of_quiet hquiet]
  case reads =>
    rintro s p say hquiet hvsb rfl rfl
    have hanswer := settle_bmcAnswer hvsb hquiet
    refine ⟨?identity, ?devInfo, ?status, ?temperature, ?vin12, ?current, ?vsb33, ?power, ?fatal, ?lastReset, ?alert, fun halert => ?response⟩
    case identity => rw [exec_bmcReadIdentity, State.doBmcReadIdentity, hanswer]
    case devInfo => rw [exec_bmcReadDevInfo, State.doBmcReadDevInfo, hanswer]
    case status => rw [exec_bmcReadStatus, State.doBmcReadStatus, hanswer]
    case temperature => rw [exec_bmcReadTemp, State.doBmcReadTemp, hanswer]
    case vin12 => rw [exec_bmcReadVin12, State.doBmcReadVin12, hanswer]
    case current => rw [exec_bmcReadVin12Current, State.doBmcReadVin12Current, hanswer]
    case vsb33 => rw [exec_bmcReadVsb33, State.doBmcReadVsb33, hanswer]
    case power => rw [exec_bmcReadPower, State.doBmcReadPower, hanswer]
    case fatal => rw [exec_bmcReadFatal, State.doBmcReadFatal, hanswer]
    case lastReset => rw [exec_bmcReadLastReset, State.doBmcReadLastReset, hanswer]
    case alert => rw [exec_bmcReadAlertStatus, State.doBmcReadAlertStatus, hanswer]
    case response =>
      rw [exec_smbAlertResponse, State.doSmbAlertResponse_of_alert hvsb halert, settle_of_quiet (s := s.emit _) hquiet]
  case writes =>
    intro v s a hquiet hvsb ha
    rw [exec_bmcClearAlertStatus, exec_bmcClearAlertStatus, exec_bmcColdReset, exec_bmcColdReset]
    have hnack : settle (s.emit .nack) = s.emit .nack := settle_of_quiet (s := s.emit _) hquiet
    refine ⟨fun hleft => ?left, fun hclear hwas => ?clear, ?clearBad, fun hv => ?reset, fun hv => ?resetOther, ?resetBad⟩
    case left =>
      rw [State.doBmcClearAlert_good hvsb ha, if_neg fun h => hleft h.2, settle_of_quiet (s := s.onPower _) hquiet]
    case clear =>
      rw [State.doBmcClearAlert_good hvsb ha, if_pos ⟨hwas, hclear⟩, settle_of_quiet (s := (s.onPower _).emit _) hquiet]
    case clearBad => rw [State.doBmcClearAlert_bad hvsb, hnack]
    case reset => rw [State.doBmcColdReset_of_standby hvsb, if_pos ⟨rfl, hv⟩]
    case resetOther => rw [State.doBmcColdReset_of_standby hvsb, if_neg fun h => hv h.2, hnack]
    case resetBad => rw [State.doBmcColdReset_of_standby hvsb, if_neg fun h => Bool.false_ne_true h.1, hnack]

end Sys2Proof.Machine

/-! SUPPORT. Injection, laser ceilings, the pool manager, punts to the cluster and the message FIFOs: where each command acts, and what it
does there (R351, R365 to R371, R376, R405). -/

namespace Sys2Proof.Machine

/-! ### The commands over their operations -/

theorem exec_injectPost (c : Cluster) (p : Pair) (w3 : Word) (s : State) :
    exec (.injectPost c p w3) s = .next (settle (s.doInjectPost c p w3)) := by rfl
theorem exec_injectSend (p : Pair) (s : State) : exec (.injectSend p) s = .next (settle (s.doInjectSend p)) := by rfl
theorem exec_laserReq (c : Cluster) (e : Engine) (l : Lane) (ceil : BitVec 12) (all : Bool) (s : State) :
    exec (.laserReq c e l ceil all) s = .next (settle (s.doLaserReq c e l ceil.toNat all)) := by rfl
theorem exec_pmAllocate_host (req : Fin 16) (size : BitVec 14) (s : State) :
    exec (.pmAllocate .host req size) s = .next (settle (s.turnRow .host .pool poolPage 0x100 (1 + 4 * req + 64 * size.toNat)
      fun s => s.doPmAllocate none req size.toNat)) := by rfl
theorem exec_pmAllocate_fw (k : Cluster) (q : Pair) (req : Fin 16) (size : BitVec 14) (s : State) :
    exec (.pmAllocate (.fw k q) req size) s = .next (settle (s.access (.fw k q) poolPage 0x180
      fun s => s.doPmAllocate (some (k.val, q.val)) req size.toNat)) := by rfl
theorem exec_pmFree_host (req : Fin 16) (h : Word) (s : State) :
    exec (.pmFree .host req h) s = .next (settle (s.cmdRow .host poolPage 0x100 fun s => s.doPmFree none req h.toNat)) := by rfl
theorem exec_pmFree_fw (k : Cluster) (q : Pair) (req : Fin 16) (h : Word) (s : State) :
    exec (.pmFree (.fw k q) req h) s = .next (settle (s.access (.fw k q) poolPage 0x180
      fun s => s.doPmFree (some (k.val, q.val)) req h.toNat)) := by rfl
theorem exec_puntToCluster (sl : Slice) (s : State) : exec (.puntToCluster sl) s = .next (settle (s.doPuntToCluster sl)) := by rfl
theorem exec_mbToFwPost (h : Word) (s : State) :
    exec (.mbToFwPost h) s = .next (settle (s.nowRow .host svccPage 0x110 fun s => s.doMbToFwPost h.toNat)) := by rfl
theorem exec_mbToFwRead (c : Cluster) (p : Pair) (s : State) :
    exec (.mbToFwRead c p) s = .next (settle (s.doMbToFwRead c p)) := by rfl
theorem exec_mbToHostPost (c : Cluster) (h : Word) (s : State) :
    exec (.mbToHostPost c h) s = .next (settle (s.doMbToHostPost c h.toNat)) := by rfl
theorem exec_mbToHostRead (s : State) : exec .mbToHostRead s = .next (settle (s.anyRead .host svccPage 0x114)) := by rfl

/-! ### Operations beside the counters of events -/

section
variable (s : State) (c : Map Nat)

@[simp] theorem State.buf_withCtrs (k : Nat) : (s.withCtrs c).buf k = s.buf k := (rfl)
@[simp] theorem State.setBuf_withCtrs (k : Nat) (b : Buf) : (s.withCtrs c).setBuf k b = (s.setBuf k b).withCtrs c := (rfl)
@[simp] theorem State.incFld_withCtrs (pg : Nat) (f : Fld) (n : Nat) :
    (s.withCtrs c).incFld pg f n = (s.incFld pg f n).withCtrs c := (rfl)
@[simp] theorem State.decFld_withCtrs (pg : Nat) (f : Fld) (n : Nat) :
    (s.withCtrs c).decFld pg f n = (s.decFld pg f n).withCtrs c := (rfl)

@[simp] theorem State.onSvc_withCtrs (f : Service → Service) : (s.withCtrs c).onSvc f = (s.onSvc f).withCtrs c := (rfl)
@[simp] theorem State.emit_withCtrs (o : Out) : (s.withCtrs c).emit o = (s.emit o).withCtrs c := (rfl)
@[simp] theorem State.svc_withCtrs : (s.withCtrs c).svc = s.svc := (rfl)
@[simp] theorem State.wr_withCtrs (a : Nat) (v : Word) : (s.withCtrs c).wr a v = (s.wr a v).withCtrs c := (rfl)
@[simp] theorem State.setClWord_withCtrs (k pair off : Nat) (v : Word) :
    (s.withCtrs c).setClWord k pair off v = (s.setClWord k pair off v).withCtrs c := (rfl)
@[simp] theorem State.setClWord_sys (k pair off : Nat) (v : Word) : (s.setClWord k pair off v).sys = s.sys := (rfl)

@[simp] theorem State.pmAnswer_withCtrs (fw : Option (Nat × Nat)) (req size res h : Nat) :
    (s.withCtrs c).pmAnswer fw req size res h = (s.pmAnswer fw req size res h).withCtrs c := by
  cases fw with
  | none => simp only [State.pmAnswer, State.wr_withCtrs, State.setFlag_withCtrs]
  | some k => simp only [State.pmAnswer, State.setClWord_withCtrs]

@[simp] theorem State.pmAnswer_sys (fw : Option (Nat × Nat)) (req size res h : Nat) : (s.pmAnswer fw req size res h).sys = s.sys := by
  cases fw with
  | none => simp only [State.pmAnswer, State.wr_sys, State.setFlag_sys]
  | some k => simp only [State.pmAnswer, State.setClWord_sys]

@[simp] theorem State.bufRelease_withCtrs (pool idx : Nat) :
    (s.withCtrs c).bufRelease pool idx = (s.bufRelease pool idx).withCtrs c := by
  cases hholder : (s.buf (bufKey pool idx)).holder with
  | none => simp only [State.bufRelease, State.buf_withCtrs, hholder]
  | some r => simp only [State.bufRelease, State.buf_withCtrs, hholder, State.setBuf_withCtrs, State.incFld_withCtrs, State.decFld_withCtrs]

@[simp] theorem State.bufRelease_sys (pool idx : Nat) : (s.bufRelease pool idx).sys = s.sys := by
  cases hholder : (s.buf (bufKey pool idx)).holder with
  | none => simp only [State.bufRelease, hholder]
  | some r => simp only [State.bufRelease, hholder, State.decFld_sys, State.incFld_sys, State.setBuf_sys]

end

section
variable {s u : State} {w : Who} {page off : Nat} {run : State → State} (hquiet : Quiet u)
  (hrun : ∀ j, run (s.withCtrs j) = u.withCtrs j)
include hquiet hrun

/-- An access that is let in answers what it runs makes of the state, counters of events aside, where no severity action becomes due. -/
theorem State.access_answers (hadmits : Admits s w page off) :
    ∃ c, (Host.Outcome.next (settle (s.access w page off run)) : Res) = .next (u.withCtrs c) := by
  obtain ⟨j, hj⟩ := State.accessHit_eq s w 2 page
  exact ⟨j, by rw [State.access_of_admits hadmits, hj, hrun, settle_of_quiet (s := u.withCtrs j) hquiet]⟩

/-- So does a window command that reaches its window. -/
theorem State.cmdRow_answers (hreaches : Reaches s w page off) :
    ∃ c, (Host.Outcome.next (settle (s.cmdRow w page off run)) : Res) = .next (u.withCtrs c) := by
  obtain ⟨j, k, hrow⟩ := State.cmdRow_eq hreaches run
  have hrow' : s.cmdRow w page off run = u.withCtrs k := by rw [hrow, hrun, State.withCtrs_withCtrs]
  exact ⟨k, by rw [hrow', settle_of_quiet (s := u.withCtrs k) hquiet]⟩

end

/-! ### Outputs under the lease (R351) -/

section
variable {s u : State} {c : Nat}

section
variable (hdrives : s.drives c = true) (hholds : s.isHolder c = true)
include hdrives hholds

theorem State.clusterOut_of_holder (page off : Nat) (run : State → State) : s.clusterOut c page off run = run s := by
  rw [State.clusterOut, hdrives, hholds, Bool.not_true, if_neg Bool.false_ne_true, if_neg Bool.false_ne_true]

/-! ### Injection (R365) -/

section
variable {p : Nat} {w3 : Word} {d : InjDesc} (hu : u = s.setClWord c p 0x12C w3) (hd : d = readInj p (u.injBytes c p w3))
include hu hd

/-- A descriptor whose buffer the pair does not hold is counted and faults. -/
theorem State.doInjectPost_of_unheld (hunheld : u.holds p d.handle = false) :
    s.doInjectPost c p w3 = (u.count svccPage 0xC8).emit (.coreFault c 7) := by
  rw [State.doInjectPost, State.clusterOut_of_holder hdrives hholds]
  simp only [← hu, ← hd, hunheld, Bool.not_false, Bool.or_true, Bool.true_or, if_true]

/-- A good descriptor is queued, or a full queue holds it and stalls the core (log 85). -/
theorem State.doInjectPost_of_good (hmode : d.mode < 2) (hcolour : d.colour ≠ 3) (hheld : u.holds p d.handle = true)
    (hsize : d.size ≤ poolSize (hPool d.handle)) (hrate : u.fld svccPage SVCC_INJ_LIMIT_PORT_RATE ≠ 0) :
    s.doInjectPost c p w3 =
      if 64 ≤ (u.injQ (4 * c + p)).length then
        (u.onSvc fun v => { v with injStalled := mset none v.injStalled (4 * c + p) (some d) }).emit (.stall c 0)
      else (u.setInjQ (4 * c + p) (u.injQ (4 * c + p) ++ [d])).syncDepth c p := by
  rw [State.doInjectPost, State.clusterOut_of_holder hdrives hholds]
  simp only [← hu, ← hd, hheld, hcolour, hrate, decide_eq_false (Nat.not_le.mpr hmode), decide_eq_false (Nat.not_lt.mpr hsize), decide_false,
    Bool.not_true, Bool.or_self, Bool.false_eq_true, if_false]

end

/-- LASER_REQ sets the ceiling of one lane, or of every lane of the engine (R366). -/
theorem State.doLaserReq_of_holder (e l ceil : Nat) (all : Bool) :
    s.doLaserReq c e l ceil all = s.each (if all then List.range 32 else [l]) fun s l => s.onLane e l fun x => { x with fwCeil := some ceil } :=
  State.clusterOut_of_holder hdrives hholds _ _ _

theorem State.doMbToHostPost_of_room {h : Nat} (hroom : s.svc.toHost.length < 256) :
    s.doMbToHostPost c h = s.onSvc fun v => { v with toHost := v.toHost ++ [h] } := by
  rw [State.doMbToHostPost, State.clusterOut_of_holder hdrives hholds, if_neg (Nat.not_le.mpr hroom)]

end

section
variable {p : Nat} {d : InjDesc} {rest : List InjDesc} {pb db : Bucket} (hholder : s.svc.lease.holder = some c)
  (hqueue : s.injQ (4 * c + p) = d :: rest)
  (hpb : pb = (s.portBucket (physOf d.lport)).credit s.now (s.fld svccPage SVCC_INJ_LIMIT_PORT_RATE) 65536)
  (hdb : db = s.svc.devBucket.credit s.now (s.fld svccPage SVCC_INJ_LIMIT_DEV_RATE) 262144)
include hholder hqueue hpb hdb

/-- The head of a pair's queue leaves once both buckets are positive; both are charged. -/
theorem State.doInjectSend_of_tokens (hport : 0 < pb.tok) (hdev : 0 < db.tok)
    (hu : u = (s.setPortBucket (physOf d.lport) (pb.charge (d.size + 20))).onSvc (fun v => { v with devBucket := db.charge (d.size + 20) })) :
    s.doInjectSend p = (((u.setInjQ (4 * c + p) rest).syncDepth c p).injResume c p).injectFrame d
      (Mem.read u.svc.poolMem (handleAt d.handle) (d.size - 4)) := by
  simp only [State.doInjectSend, hholder, hqueue, ← hpb, ← hdb, hport, hdev, decide_true, Bool.and_self, if_true, ← hu]

/-- A frame that first waits for a bucket is counted and raised once. -/
theorem State.doInjectSend_of_throttled (hwait : pb.tok ≤ 0 ∨ db.tok ≤ 0) (hfirst : d.throttled = false)
    (hu : u = (s.setPortBucket (physOf d.lport) pb).onSvc (fun v => { v with devBucket := db })) :
    s.doInjectSend p =
      ((u.setInjQ (4 * c + p) ({ d with throttled := true } :: rest)).count svccPage 0xC0).raise svccPage 13 := by
  have hempty : (decide (0 < pb.tok) && decide (0 < db.tok)) = false := by
    rcases hwait with h | h <;> simp [Int.not_lt.mpr h]
  simp only [State.doInjectSend, hholder, hqueue, ← hpb, ← hdb, hempty, hfirst, Bool.false_eq_true, if_false, ← hu]

end

/-! ### The pool manager (R367 to R369, R376) -/

section
variable {r size p i g : Nat}

/-- An allocation takes the lowest free buffer of the smallest pool that holds `size` bytes, within the requester's quota (R367). -/
theorem State.poolAlloc_of_room (hlow : 1 ≤ size) (hhigh : size ≤ 12288) (hp : p = poolFor size) (hi : i = s.lowestFree p)
    (hroom : i < poolCount p) (hg : g = ((s.buf (bufKey p i)).gen + 1) % 256)
    (hquota : s.fld poolPage (POOL_QUOTA_HELD.sh (quotaF r p)) < s.fld poolPage (POOL_QUOTA_QUOTA.sh (quotaF r p)))
    (hu : u = ((s.setBuf (bufKey p i) { holder := some r, gen := g, transit := false }).decFld poolPage
      (POOL_POOL_STATE_FREE.sh (4 * p)) 1).incFld poolPage (POOL_QUOTA_HELD.sh (quotaF r p)) 1) :
    s.poolAlloc r size = (u, 0, mkHandle p i g) := by
  have hsize : (decide (size = 0) || decide (12288 < size)) = false := by simp; omega
  rw [State.poolAlloc, hsize, if_neg Bool.false_ne_true]
  dsimp only
  rw [← hp, ← hi, if_neg (Nat.not_le.mpr hroom), if_neg (Nat.not_le.mpr hquota), ← hg, ← hu]

/-- A free by the holder with the right generation (R368). -/
theorem State.bufFree_of_holder {h : Nat} (hholder : (s.buf (bufKey (hPool h) (hIdx h))).holder = some r)
    (hgen : (s.buf (bufKey (hPool h) (hIdx h))).gen = hGen h) (hclear : h / 2 ^ 17 % 128 = 0) :
    s.bufFree r h = (s.bufRelease (hPool h) (hIdx h), true) := by
  simp only [State.bufFree, hholder, hgen, hclear, decide_true, Bool.and_self, if_true]

/-- A requester that may use the pool manager: the host as one of 5 to 15, a core pair of the lease holder as itself. -/
def State.poolUser (s : State) (fw : Option (Nat × Nat)) (req r : Nat) : Prop :=
  match fw with
  | none => 5 ≤ req ∧ r = req
  | some (c, p) => s.drives c = true ∧ s.isHolder c = true ∧ r = p

theorem State.pmCommand_of_user {fw : Option (Nat × Nat)} {req : Nat} (huser : s.poolUser fw req r) (run : State → Nat → State) :
    s.pmCommand fw req run = run s r := by
  match fw, huser with
  | none, ⟨hreq, hr⟩ => rw [State.pmCommand, if_neg (Nat.not_lt.mpr hreq), hr]
  | some (c, p), ⟨hdrives, hholds, hr⟩ => rw [State.pmCommand, State.clusterOut_of_holder hdrives hholds, hr]

section
variable {fw : Option (Nat × Nat)} {req : Nat} (huser : s.poolUser fw req r)
include huser

/-- An allocation beside the counters of events. -/
theorem State.doPmAllocate_of_room (hlow : 1 ≤ size) (hhigh : size ≤ 12288) (hp : p = poolFor size) (hi : i = s.lowestFree p)
    (hroom : i < poolCount p) (hg : g = ((s.buf (bufKey p i)).gen + 1) % 256)
    (hquota : s.fld poolPage (POOL_QUOTA_HELD.sh (quotaF r p)) < s.fld poolPage (POOL_QUOTA_QUOTA.sh (quotaF r p)))
    (hu : u = ((s.setBuf (bufKey p i) { holder := some r, gen := g, transit := false }).decFld poolPage
      (POOL_POOL_STATE_FREE.sh (4 * p)) 1).incFld poolPage (POOL_QUOTA_HELD.sh (quotaF r p)) 1) (j : Map Nat) :
    (s.withCtrs j).doPmAllocate fw req size = (u.pmAnswer fw r size 0 (mkHandle p i g)).withCtrs j := by
  have huser' : (s.withCtrs j).poolUser fw req r := huser
  have halloc : (s.withCtrs j).poolAlloc r size = (u.withCtrs j, 0, mkHandle p i g) :=
    State.poolAlloc_of_room hlow hhigh hp hi hroom hg hquota (by simp [hu])
  rw [State.doPmAllocate, State.pmCommand_of_user huser', halloc]
  exact State.pmAnswer_withCtrs u j fw r size 0 _

theorem State.doPmFree_of_holder {h : Nat} (hholder : (s.buf (bufKey (hPool h) (hIdx h))).holder = some r)
    (hgen : (s.buf (bufKey (hPool h) (hIdx h))).gen = hGen h) (hclear : h / 2 ^ 17 % 128 = 0) (hu : u = s.bufRelease (hPool h) (hIdx h))
    (j : Map Nat) : (s.withCtrs j).doPmFree fw req h = (u.pmAnswer fw r 0 0 h).withCtrs j := by
  have huser' : (s.withCtrs j).poolUser fw req r := huser
  have hfree : (s.withCtrs j).bufFree r h = (u.withCtrs j, true) := by
    rw [State.bufFree_of_holder (s := s.withCtrs j) hholder hgen hclear, State.bufRelease_withCtrs, hu]
  rw [State.doPmFree, State.pmCommand_of_user huser', hfree]
  exact State.pmAnswer_withCtrs u j fw r 0 0 h

end
end

/-! ### Punts to the cluster (R370) -/

section
variable {sl r : Nat} {p : Punt} {rest : List Punt}
  (hring : ((List.range 16).find? fun r => s.puntRouted r && !(s.punts (puntKey sl r)).isEmpty) = some r)
  (hwaits : s.punts (puntKey sl r) = p :: rest) (hu : u = ((s.setPunts (puntKey sl r) rest).puntRelease sl p).retryAll)
include hring hwaits hu

theorem State.doPuntToCluster_of_room {v : State} {h : Nat} (hheld : u.leaseHeld = true) (hroom : u.svc.puntQ.length < 1024)
    (halloc : u.poolAlloc 4 p.f.bytes.length = (v, 0, h)) :
    s.doPuntToCluster sl =
      v.onSvc fun x => { x with poolMem := x.poolMem.write (handleAt h) p.f.bytes, puntQ := x.puntQ ++ [h] } := by
  simp only [State.doPuntToCluster, hring, hwaits, ← hu, hheld, halloc, decide_eq_false (Nat.not_le.mpr hroom), Bool.not_true, Bool.or_self,
    Bool.false_eq_true, if_false, ne_eq, not_true_eq_false]

theorem State.doPuntToCluster_of_free (hfree : u.leaseHeld = false) :
    s.doPuntToCluster sl = (u.count svccPage 0xD0).raise svccPage 14 := by
  simp only [State.doPuntToCluster, hring, hwaits, ← hu, hfree, Bool.not_false, Bool.true_or, if_true]

end

/-! ### Messages (R371, R405) -/

theorem State.doMbToFwPost_of_room (hnone : s.svc.fwReaders = []) (hroom : s.svc.toFw.length < 256) (h : Nat) :
    s.doMbToFwPost h = (s.onSvc fun v => { v with toFw := v.toFw ++ [h] }).setFlag svccPage SVCC_SVCC_CFG_REFUSED false := by
  simp only [State.doMbToFwPost, hnone, if_neg (Nat.not_le.mpr hroom), refusedSvcc]

/-- A handle ends the oldest stalled read. -/
theorem State.doMbToFwPost_of_reader {k q : Nat} {l : List (Nat × Nat)} (hreader : s.svc.fwReaders = (k, q) :: l) (h : Nat) :
    s.doMbToFwPost h = (((s.onSvc fun v => { v with fwReaders := l }).setFlag svccPage SVCC_SVCC_CFG_REFUSED false).setClWord k q 0x110
      (BitVec.ofNat 32 h)).emit (.coreRead k h) := by
  simp only [State.doMbToFwPost, hreader, refusedSvcc, State.mbTake]

section
variable {p : Nat} (hdrives : s.drives c = true)
include hdrives

theorem State.doMbToFwRead_of_cons {x : Nat} {l : List Nat} (hfifo : s.svc.toFw = x :: l) :
    s.doMbToFwRead c p =
      ((s.onSvc fun v => { v with toFw := l }).setClWord c p 0x110 (BitVec.ofNat 32 x)).emit (.coreRead c x) := by
  simp only [State.doMbToFwRead, hdrives, hfifo, Bool.not_true, Bool.false_eq_true, if_false, State.mbTake]

/-- A read of an empty FIFO stalls the core of the lease holder. -/
theorem State.doMbToFwRead_of_empty (hfifo : s.svc.toFw = []) (hholds : s.isHolder c = true)
    (hnew : s.svc.fwReaders.contains (c, p) = false) :
    s.doMbToFwRead c p = (s.onSvc fun v => { v with fwReaders := v.fwReaders ++ [(c, p)] }).emit (.stall c 0) := by
  have hlist : (if s.svc.fwReaders.contains (c, p) then s.svc.fwReaders else s.svc.fwReaders ++ [(c, p)])
      = s.svc.fwReaders ++ [(c, p)] := by rw [hnew, if_neg Bool.false_ne_true]
  simp only [State.doMbToFwRead, hdrives, hfifo, hholds, Bool.not_true, Bool.false_eq_true, if_false, if_true, State.onSvc, hlist]

end

/-- A read of MB_TO_HOST takes a message (log 92). -/
theorem State.anyRead_mailbox (w : Who) (hlit : s.pageDark svccPage = false) :
    s.anyRead w svccPage 0x114 = (s.accessHit w 1 svccPage).doMbToHostRead := by
  have herr : accessError svccPage 0x114 = 0 := by decide
  have hevt : ¬svccPage = hostPage := by decide
  simp [State.anyRead, herr, hlit, hevt]

/-- What a read of MB_TO_HOST answers, by what waits in the FIFO, whatever the counters. -/
theorem State.doMbToHostRead_cases (s : State) :
    (s.svc.toHostGap = true → ∀ j, (s.withCtrs j).doMbToHostRead =
        ((s.onSvc fun v => { v with toHostGap := false }).emit (.completion 0xFFFFFFFE)).withCtrs j)
      ∧ (∀ h l, s.svc.toHostGap = false → s.svc.toHost = h :: l → ∀ j, (s.withCtrs j).doMbToHostRead =
        ((s.onSvc fun v => { v with toHost := l }).emit (.completion (BitVec.ofNat 32 h))).withCtrs j)
      ∧ (s.svc.toHostGap = false → s.svc.toHost = [] → ∀ j, (s.withCtrs j).doMbToHostRead =
        (s.emit (.completion 0xFFFFFFFF)).withCtrs j) := by
  refine ⟨fun hgap j => ?_, fun h l hgap hfifo j => ?_, fun hgap hfifo j => ?_⟩
  all_goals simp only [State.doMbToHostRead, State.svc_withCtrs, State.onSvc_withCtrs, State.emit_withCtrs]
  · rw [if_pos hgap]
  · rw [hgap, if_neg Bool.false_ne_true, hfifo]
  · rw [hgap, if_neg Bool.false_ne_true, hfifo]

theorem exec_mbToHostRead_of_lit (hquiet : Quiet u) (hlit : s.pageDark svccPage = false)
    (hread : ∀ j, (s.withCtrs j).doMbToHostRead = u.withCtrs j) : ∃ c, exec .mbToHostRead s = .next (u.withCtrs c) := by
  obtain ⟨j, hj⟩ := State.accessHit_eq s .host 1 svccPage
  exact ⟨j, by rw [exec_mbToHostRead, State.anyRead_mailbox .host hlit, hj, hread, settle_of_quiet (s := u.withCtrs j) hquiet]⟩

end

/-- Settles O22: each command is its operation on the state let in, and the operation's lemma for the case at hand gives the answer. That
a post to a full queue stalls the core and is held is log 85, and that a host read of MB_TO_HOST takes a message is log 92. Each bucket
is charged with the frame's size and 20 bytes of overhead (R365). -/
theorem serviceCommandsComplete : Obligations.ServiceCommandsComplete := by
  unfold Obligations.ServiceCommandsComplete
  refine ⟨?post, ?send, ?laser, ?pool, ?punt, ?toFw, ?firmware, ?toHost⟩
  case post =>
    intro c p w3 s u d hdrives hholds hu hd
    rw [exec_injectPost]
    refine ⟨fun hmode hcolour hheld hsize hrate => ?good, fun hunheld => ?unheld⟩
    case good =>
      rw [State.doInjectPost_of_good hdrives hholds hu hd hmode hcolour hheld hsize hrate]
      exact ⟨fun hroom => by rw [if_neg (Nat.not_le.mpr hroom)], fun hfull => by rw [if_pos hfull]⟩
    case unheld => rw [State.doInjectPost_of_unheld hdrives hholds hu hd hunheld]
  case send =>
    intro p s u c d rest pb db hholder hqueue hpb hdb
    rw [exec_injectSend]
    refine ⟨fun hport hdev hu => ?_, fun hwait hfirst hu => ?_⟩
    · rw [State.doInjectSend_of_tokens hholder hqueue hpb hdb hport hdev hu]
    · rw [State.doInjectSend_of_throttled hholder hqueue hpb hdb hwait hfirst hu]
  case laser =>
    intro c e l ceil all s hdrives hholds
    rw [exec_laserReq, State.doLaserReq_of_holder hdrives hholds]
  case pool =>
    intro req size h s u p i g hquiet hreq
    refine ⟨fun hlow hhigh hp hi hroom hg r hquota hu => ?allocate, fun r hholder hgen hclear hu => ?free⟩
    case allocate =>
      have hquiet' : ∀ fw a b, Quiet (u.pmAnswer fw r a 0 b) := fun fw a b => by simpa [Quiet, hu] using hquiet
      refine ⟨fun hr hturn => ?host, fun k q hr hadmits hdrives hholds => ?fw⟩
      case host =>
        have huser : s.poolUser none req r := ⟨hreq, hr⟩
        rw [exec_pmAllocate_host]
        exact State.turnRow_answers hturn (by decide) (hquiet' ..) fun j =>
          ⟨j, State.doPmAllocate_of_room huser hlow hhigh hp hi hroom hg hquota hu j⟩
      case fw =>
        have huser : s.poolUser (some (k.val, q.val)) req r := ⟨hdrives, hholds, hr⟩
        rw [exec_pmAllocate_fw]
        exact State.access_answers (hquiet' ..) (State.doPmAllocate_of_room huser hlow hhigh hp hi hroom hg hquota hu) hadmits
    case free =>
      have hquiet' : ∀ fw b, Quiet (u.pmAnswer fw r 0 0 b) := fun fw b => by simpa [Quiet, hu] using hquiet
      refine ⟨fun hr hreaches => ?host, fun k q hr hadmits hdrives hholds => ?fw⟩
      case host =>
        have huser : s.poolUser none req r := ⟨hreq, hr⟩
        rw [exec_pmFree_host]
        exact State.cmdRow_answers (hquiet' ..) (State.doPmFree_of_holder huser hholder hgen hclear hu) hreaches
      case fw =>
        have huser : s.poolUser (some (k.val, q.val)) req r := ⟨hdrives, hholds, hr⟩
        rw [exec_pmFree_fw]
        exact State.access_answers (hquiet' ..) (State.doPmFree_of_holder huser hholder hgen hclear hu) hadmits
  case punt =>
    intro sl s u v r h p rest hring hwaits hu
    rw [exec_puntToCluster]
    refine ⟨fun hheld hroom halloc => ?_, fun hfree => ?_⟩
    · rw [State.doPuntToCluster_of_room hring hwaits hu hheld hroom halloc]
    · rw [State.doPuntToCluster_of_free hring hwaits hu hfree]
  case toFw =>
    intro h s hadmits hquiet
    rw [exec_mbToFwPost]
    refine ⟨fun hnone hroom => ?_, fun k q l hreader => ?_⟩
    · refine State.nowRow_answers hadmits (by simpa [Quiet] using hquiet) fun j => ?_
      rw [State.doMbToFwPost_of_room (by simpa using hnone) (by simpa using hroom), State.onSvc_withCtrs, State.setFlag_withCtrs]
    · refine State.nowRow_answers hadmits (by simpa [Quiet] using hquiet) fun j => ?_
      rw [State.doMbToFwPost_of_reader (s := s.withCtrs j) (by simpa using hreader), State.onSvc_withCtrs, State.setFlag_withCtrs,
        State.setClWord_withCtrs, State.emit_withCtrs]
  case firmware =>
    intro c p h s hquiet hdrives
    rw [exec_mbToFwRead, exec_mbToHostPost]
    refine ⟨fun x l hfifo => ?read, fun hfifo hholds hnew => ?stalls, fun hholds hroom => ?post⟩
    case read => rw [State.doMbToFwRead_of_cons hdrives hfifo, settle_of_quiet (by simpa [Quiet] using hquiet)]
    case stalls => rw [State.doMbToFwRead_of_empty hdrives hfifo hholds hnew, settle_of_quiet (by simpa [Quiet] using hquiet)]
    case post => rw [State.doMbToHostPost_of_room hdrives hholds hroom, settle_of_quiet (by simpa [Quiet] using hquiet)]
  case toHost =>
    intro s hquiet hlit
    refine ⟨fun hgap => ?_, fun h l hgap hfifo => ?_, fun hgap hfifo => ?_⟩
    · obtain ⟨hread, -, -⟩ := State.doMbToHostRead_cases s
      exact exec_mbToHostRead_of_lit (by simpa [Quiet] using hquiet) hlit (hread hgap)
    · obtain ⟨-, hread, -⟩ := State.doMbToHostRead_cases s
      exact exec_mbToHostRead_of_lit (by simpa [Quiet] using hquiet) hlit (hread h l hgap hfifo)
    · obtain ⟨-, -, hread⟩ := State.doMbToHostRead_cases s
      exact exec_mbToHostRead_of_lit (by simpa [Quiet] using hquiet) hlit (hread hgap hfifo)

end Sys2Proof.Machine

/-! SUPPORT. Held writes, the notification pool, and the fuses with the identity along a step and a run (R388, R389, R404, R410, R441,
R442, R460). -/

namespace Sys2Proof.Machine

/-- What a run of any length keeps of the non-volatile store: the fused root key digest (R442), the security-version floor from below
(R460), and the module identity and the debug key digest of the signed calibration area (R441, R410). -/
structure Anchored (s t : State) : Prop where
  root : t.sys.nv.rootKeyDigest = s.sys.nv.rootKeyDigest
  floor : s.sys.nv.svnFloor ≤ t.sys.nv.svnFloor
  ident : t.sys.nv.moduleId = s.sys.nv.moduleId
  debugKey : t.sys.nv.debugKeyDigest = s.sys.nv.debugKeyDigest

theorem Anchored.refl (s : State) : Anchored s s := ⟨rfl, Nat.le_refl _, rfl, rfl⟩

theorem Anchored.trans {s t u : State} (h : Anchored s t) (k : Anchored t u) : Anchored s u :=
  ⟨k.root.trans h.root, Nat.le_trans h.floor k.floor, k.ident.trans h.ident, k.debugKey.trans h.debugKey⟩

theorem step_anchored {s t : State} (h : step s = .next t) : Anchored s t := by
  obtain ⟨hfloor, hroot, hdebug, hident⟩ := (step_kept h).fuses
  exact ⟨hroot, hfloor, hident, hdebug⟩

/-- Settles O38: no step moves the digests or the identity, or lowers the floor, and so no run does. That SVN_FLOOR is only ever raised is
R460's condition of SVN_RAISE, and that nothing writes the signed calibration area is R441. -/
theorem fusesAndIdentityHold : Obligations.FusesAndIdentityHold := by
  unfold Obligations.FusesAndIdentityHold
  intro n s t hrun
  obtain ⟨hroot, hfloor, hident, hdebug⟩ :=
    run_induction (R := Anchored) Anchored.refl (fun _ _ _ => Anchored.trans) (fun _ _ => step_anchored) hrun
  exact ⟨hroot, hfloor, hident, hdebug⟩

/-- Taking the front command off the queue, or moving the clock on, leaves every page's held writes alone. -/
theorem State.held_stepFrom (s : State) (p : Nat) : s.stepFrom.held p = s.held p := rfl

/-- Taking the front command off the queue, or moving the clock on, leaves the notification FIFOs alone. -/
theorem State.fifoTotal_stepFrom (s : State) : s.stepFrom.fifoTotal = s.fifoTotal := rfl

/-- Settles O36: every command keeps each page's bound of 256 held writes, and a step begins a command with the writes of its state. -/
theorem stepKeepsHoldBuffers : Obligations.StepKeepsHoldBuffers := by
  unfold Obligations.StepKeepsHoldBuffers
  intro s t hbound hstep
  exact (step_kept hstep).holds fun p => by rw [State.held_stepFrom]; exact hbound p

/-- Settles O37: every command keeps the pool's bound of 16,384 items, and a step begins a command with the FIFOs of its state. -/
theorem stepKeepsNotificationPool : Obligations.StepKeepsNotificationPool := by
  unfold Obligations.StepKeepsNotificationPool
  intro s t hbound hstep
  exact (step_kept hstep).pool (by rw [State.fifoTotal_stepFrom]; exact hbound)

/-- Settles O41: the memories at reset list no byte, no page holds a write, and each FIFO is empty. -/
theorem invariantsHoldAtReset : Obligations.InvariantsHoldAtReset := by
  unfold Obligations.InvariantsHoldAtReset
  have hheld : ∀ p, State.reset.held p = [] := fun _ => rfl
  have hfifo : ∀ f, (State.reset.fifo f).held = 0 := fun _ => rfl
  refine ⟨reset_mems_wf, fun p => ?_, ?_⟩
  · simp [hheld p]
  · simp [State.fifoTotal_eq, hfifo]

end Sys2Proof.Machine

/-! SUPPORT. The PCI Express link, MSI-X and the DMA rings: where each of their commands acts, and what it does there (R383, R394, R396
to R402, R404, R405, R472). -/

namespace Sys2Proof.Machine

/-! ### The commands over their operations -/

theorem exec_pcieReset (k : PcieResetKind) (s : State) : exec (.pcieReset k) s = .next (settle (s.doPcieReset k)) := by rfl
theorem exec_perstNRelease (s : State) : exec .perstNRelease s = .next (settle s.doPerstNRelease) := by rfl
theorem exec_pcieLinkUp (width : Fin 16) (speed : Fin 8) (s : State) :
    exec (.pcieLinkUp width speed) s = .next (settle (s.doPcieLinkUp width speed)) := by rfl
theorem exec_busMasterEnable (s : State) : exec .busMasterEnable s = .next (settle s.doBusMasterEnable) := by rfl
theorem exec_msixEnableSet (s : State) : exec .msixEnableSet s = .next (settle s.doMsixEnableSet) := by rfl
theorem exec_msixVectorUnmask (v : Fin 256) (s : State) :
    exec (.msixVectorUnmask v) s = .next (settle (s.doMsixVectorUnmask v)) := by rfl
theorem exec_ringEnable (r : Ring) (s : State) : exec (.ringEnable r) s = .next (settle (s.doRingEnable r)) := by rfl
theorem exec_ringDisable (r : Ring) (s : State) : exec (.ringDisable r) s = .next (settle (s.doRingDisable r)) := by rfl
theorem exec_hostIdxWrite (r : Ring) (v : Word) (s : State) :
    exec (.hostIdxWrite r v) s = .next (settle (s.doRegisterWrite .host hostPage (0x20C + 0x40 * r) v)) := by rfl
theorem exec_injectRingFetch (r : Fin 16) (desc frame : List Byte) (s : State) :
    exec (.injectRingFetch r desc frame) s = .next (settle (s.doInjectRingFetch r desc frame)) := by rfl
theorem exec_puntRingDeliver (r : Fin 16) (desc : List Byte) (s : State) :
    exec (.puntRingDeliver r desc) s = .next (settle (s.doPuntRingDeliver r desc)) := by rfl
theorem exec_dmaReadError (r : Ring) (s : State) : exec (.dmaReadError r) s = .next (settle (s.doDmaReadError r)) := by rfl
theorem exec_ringRecordWrite (r : Ring) (s : State) : exec (.ringRecordWrite r) s = .next (settle (s.doRingRecordWrite r)) := by rfl
theorem exec_ringCoalTimer (r : Ring) (s : State) : exec (.ringCoalTimer r) s = .next (settle (s.doRingCoalTimer r)) := by rfl

/-! ### The link and its messages (R383, R394, R472) -/

section
variable {s : State}

theorem State.doPcieReset_of_ne {k : PcieResetKind} (h : k ≠ .perstN) (s : State) : s.doPcieReset k = s.hostReset hostKept := by
  cases k with
  | perstN => exact absurd rfl h
  | _ => rfl

/-- A width the link may have and a speed it may have, with the lane out of reset and the HI island running. -/
theorem State.doPcieLinkUp_of_ready {width speed : Nat} (hperst : s.host.perstLow = false) (hisland : s.islandDark 52 = false)
    (hwidth : width = 1 ∨ width = 2 ∨ width = 4 ∨ width = 8) (hlo : 1 ≤ speed) (hhi : speed ≤ 5) :
    s.doPcieLinkUp width speed = (((s.onHost fun h => { h with linkUp := true }).setFld hostPage HOST_HOST_STATUS_WIDTH width).setFld
      hostPage HOST_HOST_STATUS_SPEED speed).flushPba := by
  have hspeed : speed ≠ 0 ∧ ¬5 < speed := by omega
  have hlanes : (width = 1 || width = 2 || width = 4 || width = 8) = true := by simpa [or_assoc] using hwidth
  simp only [State.doPcieLinkUp, hperst, hisland, hlanes, hspeed.1, hspeed.2, Bool.not_true, decide_false, Bool.or_self,
    Bool.false_eq_true, if_false]

theorem State.doBusMasterEnable_of_up (hup : s.host.linkUp = true) :
    s.doBusMasterEnable =
      ((s.onHost fun h => { h with busMaster := true }).setFlag hostPage HOST_HOST_STATUS_BUS_MASTER true).flushPba := by
  simp [State.doBusMasterEnable, hup]

theorem State.doMsixEnableSet_of_up (hup : s.host.linkUp = true) :
    s.doMsixEnableSet = (s.onHost fun h => { h with msixEnable := true }).flushPba := by
  simp [State.doMsixEnableSet, hup]

end

/-! ### Rings begin, stop and take the host's index (R396) -/

section
variable {s u : State} {r a : Nat} (ha : a = regA hostPage (0x208 + 0x40 * r))
include ha

/-- A ring that is enabled starts empty: the device's index is the host's. -/
theorem State.doRingEnable_of_off (hoff : s.ringEn r = false) (hu : u = s.wrNow a (putBits (s.rdShadow a) 0 1 1)) :
    s.doRingEnable r = (((u.setRingFld r HOST_RING_CFG_RUNNING 1).setRingFld r HOST_RING_CFG_DMA_ERR 0).setRingFld r
      HOST_DEV_IDX_INDEX (u.hostIdx r)).setRing r dfltRing := by
  subst ha hu
  simp only [State.doRingEnable, hoff, Bool.false_eq_true, if_false]

/-- A ring that is disabled stops; a punt ring discards what waits for it. -/
theorem State.doRingDisable_of_on (hon : s.ringEn r = true)
    (hu : u = (s.wrNow a (putBits (s.rdShadow a) 0 1 0)).setRingFld r HOST_RING_CFG_RUNNING 0) :
    s.doRingDisable r = if r < 16 then u.puntClearRing r else u := by
  subst ha hu
  simp only [State.doRingDisable, hon, Bool.not_true, Bool.false_eq_true, if_false]

end

/-- HOST_IDX of each of the 37 rings is a shadowed register of the HOST page. -/
theorem hostIdx_row : ∀ r : Ring, accessError hostPage (0x20C + 0x40 * r) = 0 ∧ wmOf (regA hostPage (0x20C + 0x40 * r)) ≠ 0
    ∧ (rowOf .host (0x20C + 0x40 * r)).map RegRow.kind = some .cfg := by decide +kernel

/-- The one check of a HOST_IDX write: the index keeps the ring's entries within its size. -/
theorem hostBad_hostIdx (b n : State) {r : Nat} (hr : r < 37) :
    hostBad b n (0x20C + 0x40 * r) = !b.hostIdxOk r (n.rd (regA hostPage (0x20C + 0x40 * r))).toNat := by
  have hring : (0x20C + 0x40 * r - 0x200) / 0x40 = r := by omega
  have hrow : 0x20C + 0x40 * r - 0x40 * r = 0x20C := by omega
  have hne : 0x20C + 0x40 * r ≠ 0x90 := by omega
  have hlo : 0x200 ≤ 0x20C + 0x40 * r := by omega
  have hhi : 0x20C + 0x40 * r < 0xB40 := by omega
  simp only [hostBad, hring, hrow, hne, hlo, hhi, if_false, decide_true, Bool.and_self, if_true]

theorem State.checkWrite_hostIdx (x : State) (v : Word) {r a : Nat} (hr : r < 37) (ha : a = regA hostPage (0x20C + 0x40 * r)) :
    x.checkWrite a v =
      if x.asWritten.hostIdxOk r ((x.asWritten.merge a v).rd a).toNat then none else some (x.asWritten, x.asWritten.merge a v) := by
  have hpage : a / 4096 = hostPage := by subst ha; unfold regA; omega
  have hoff : a % 4096 = 0x20C + 0x40 * r := by subst ha; unfold regA hostPage; omega
  have hp : pageOf hostPage = some (.host, 0) := by rfl
  have hbad : ∀ b n, writeBad b n .host 0 (a % 4096) = !b.hostIdxOk r (n.rd a).toNat := fun b n => by
    rw [hoff, ha]; exact hostBad_hostIdx b n hr
  simp only [State.checkWrite, hpage, hp, hbad]
  cases x.asWritten.hostIdxOk r ((x.asWritten.merge a v).rd a).toNat <;> simp

/-- A HOST_IDX write that is let in is a write of a shadowed register. -/
theorem State.doRegisterWrite_hostIdx {s : State} (r : Ring) (v : Word) (ha : Admits s .host hostPage (0x20C + 0x40 * r)) :
    s.doRegisterWrite .host hostPage (0x20C + 0x40 * r) v =
      (s.taken .host hostPage (0x20C + 0x40 * r) v).cfgWrite .host hostPage (0x20C + 0x40 * r) v := by
  have hp : pageOf hostPage = some (.host, 0) := by rfl
  obtain ⟨herr, -, hkind⟩ := hostIdx_row r
  obtain ⟨row, hrow, hcfg⟩ := Option.map_eq_some_iff.mp hkind
  rw [State.doRegisterWrite_of_admits (.inl rfl) ha hp (by decide) (by decide) herr,
    (State.regWrite_row hp hrow (by omega) (by omega)).1 hcfg]

/-! ### Descriptor rings (R397 to R399, R402) -/

section
variable {s : State} {r : Nat}

/-- An inject descriptor that can be sent enters its frame and is completed with STATUS 1. -/
theorem State.doInjectRingFetch_of_good {desc : List Byte} {d : InjDesc} (hgo : s.pairGo r true = true) (hd : d = hostInj desc)
    (hmode : d.mode < 2) (hcolour : d.colour ≠ 3) (hfree : d.inj.free = none) (hrate : s.fld svccPage SVCC_INJ_LIMIT_PORT_RATE ≠ 0)
    (frame : List Byte) :
    s.doInjectRingFetch r desc frame = (((s.setPairTurn r false).injectFrame d
      ((frame ++ zeros (d.size - 4 - frame.length)).take (d.size - 4))).dmaWrite (s.descAt (16 + r) + 15) [1]).ringAdvance
      (16 + r) 1 false := by
  subst hd
  have hbad : (2 ≤ (hostInj desc).mode || (hostInj desc).colour == 3 || (hostInj desc).inj.free.isSome
      || s.fld svccPage SVCC_INJ_LIMIT_PORT_RATE == 0) = false := by simp [hmode, hcolour, hfree, hrate]
  simp only [State.doInjectRingFetch, hgo, hbad, Bool.not_true, Bool.false_eq_true, if_false]

/-- Any other inject descriptor is skipped with STATUS 2 and counted. -/
theorem State.doInjectRingFetch_of_bad {desc : List Byte} {d : InjDesc} (hgo : s.pairGo r true = true) (hd : d = hostInj desc)
    (h : 2 ≤ d.mode ∨ d.colour = 3 ∨ d.inj.free ≠ none ∨ s.fld svccPage SVCC_INJ_LIMIT_PORT_RATE = 0) (frame : List Byte) :
    s.doInjectRingFetch r desc frame = (((s.setPairTurn r false).ringDrops (16 + r)).dmaWrite
      (s.descAt (16 + r) + 15) [2]).ringAdvance (16 + r) 1 false := by
  subst hd
  have hbad : (2 ≤ (hostInj desc).mode || (hostInj desc).colour == 3 || (hostInj desc).inj.free.isSome
      || s.fld svccPage SVCC_INJ_LIMIT_PORT_RATE == 0) = true := by
    simpa [or_assoc, Option.isSome_iff_ne_none] using h
  simp only [State.doInjectRingFetch, hgo, hbad, Bool.not_true, Bool.false_eq_true, if_false, if_true]

section
variable {desc : List Byte} {u : State} {sl n : Nat} {p : Punt} {rest : List Punt} (hgo : s.pairGo r false = true)
  (hslice : ((List.range 8).find? fun sl => !(s.punts (puntKey sl r)).isEmpty) = some sl) (hwaits : s.punts (puntKey sl r) = p :: rest)
  (hu : u = (((s.setPairTurn r true).setPunts (puntKey sl r) rest).puntRelease sl p).retryAll) (hn : n = leAt desc 8 2 % 2 ^ 14)
include hgo hslice hwaits hu hn

/-- The frame goes into a buffer of a length that a buffer may have, cut where the buffer is shorter. -/
theorem State.doPuntRingDeliver_of_fits (hlo : 64 ≤ n) (hhi : n ≤ 12288) :
    s.doPuntRingDeliver r desc = ((u.dmaWrite (leAt desc 0 8) (p.f.bytes.take (min p.f.bytes.length n))).dmaWrite (s.descAt r + 10)
      (s.puntDesc p (min p.f.bytes.length n) (decide (n < p.f.bytes.length)) false)).ringAdvance r 1 false := by
  subst hu hn
  have hlen : (decide (leAt desc 8 2 % 2 ^ 14 < 64) || decide (12288 < leAt desc 8 2 % 2 ^ 14)) = false := by
    rw [Bool.or_eq_false_iff, decide_eq_false_iff_not, decide_eq_false_iff_not]
    exact ⟨Nat.not_lt.mpr hlo, Nat.not_lt.mpr hhi⟩
  simp only [State.doPuntRingDeliver, hgo, hslice, hwaits, hlen, Bool.not_true, Bool.not_false, Bool.true_and, Bool.false_eq_true, if_false]

/-- A BUF_LEN out of range consumes the frame with the descriptor marked refused (log 90). -/
theorem State.doPuntRingDeliver_of_refused (h : n < 64 ∨ 12288 < n) :
    s.doPuntRingDeliver r desc = ((u.dmaWrite (leAt desc 0 8) []).dmaWrite (s.descAt r + 10) (s.puntDesc p 0 false true)).ringAdvance
      r 1 false := by
  subst hu hn
  have hlen : (decide (leAt desc 8 2 % 2 ^ 14 < 64) || decide (12288 < leAt desc 8 2 % 2 ^ 14)) = true := by simpa using h
  simp only [State.doPuntRingDeliver, hgo, hslice, hwaits, hlen, Bool.not_true, Bool.false_and, Bool.false_eq_true, if_false, if_true,
    List.take_zero]

end

theorem State.doDmaReadError_of_runs (hr : r < 32) (hruns : s.ringRuns r = true) :
    s.doDmaReadError r = ((s.setRingFld r HOST_RING_CFG_DMA_ERR 1).setRingFld r HOST_RING_CFG_RUNNING 0).raise hostPage 2 := by
  simp [State.doDmaReadError, hr, hruns]

/-! ### Record rings (R400, R401, R404) -/

section
variable {f typ : Nat} {u : State} {b : List Byte} {rest : List (Bool × List Byte)} (hfifo : ringFifo r = some (f, typ))
  (hu : u = ((s.setFifo f { s.fifo f with items := rest }).syncFifo f).ringGapPut r)
include hfifo hu

theorem State.doRingRecordWrite_of_item (hitems : (s.fifo f).items = (false, b) :: rest)
    (hfits : s.ringFits r ((s.ringGap r ++ [b]).map entryLen) = true) : s.doRingRecordWrite r = u.ringEntryPut r typ b := by
  subst hu
  simp only [State.doRingRecordWrite, hfifo, hitems, hfits, if_true, Bool.false_eq_true, if_false]

/-- A gap marker goes ahead of the item behind it, and its count to the ring's DROPS. -/
theorem State.doRingRecordWrite_of_gap {g : List Byte} (hitems : (s.fifo f).items = (true, g) :: (false, b) :: rest)
    (hfits : s.ringFits r ((s.ringGap r ++ [g, b]).map entryLen) = true) :
    s.doRingRecordWrite r = ((u.ringEntryPut r 0xFF g).ringDrops r (leAt g 12 4)).ringEntryPut r typ b := by
  subst hu
  simp only [State.doRingRecordWrite, hfifo, hitems, hfits, if_true, Bool.false_eq_true, if_false]

end

theorem State.doRingCoalTimer_of_due {t : Nat} (hfirst : (s.ring r).firstAt = some t)
    (hdue : t + 1000 * s.ringFld r HOST_COAL_TIME ≤ s.now) : s.doRingCoalTimer r = s.ringSignal r := by
  simp only [State.doRingCoalTimer, hfirst, hdue, if_true]

end

/-- Settles O25: each command is its operation, and the operation's lemma for the case at hand gives the answer. That the lowest slice
goes first and that a BUF_LEN out of range consumes its frame without DROPS are log 90. -/
theorem linkAndRingCommandsComplete : Obligations.LinkAndRingCommandsComplete := by
  unfold Obligations.LinkAndRingCommandsComplete
  refine ⟨?reset, ?linkUp, ?enables, ?unmask, ?ringStartStop, ?hostIndex, ?inject, ?punt, ?readError, ?record, ?coalesce⟩
  case reset =>
    intro k s
    refine ⟨fun hk => ?_, fun hk => ?_, exec_perstNRelease s⟩
    · rw [exec_pcieReset, State.doPcieReset_of_ne hk]
    · rw [hk, exec_pcieReset]; rfl
  case linkUp =>
    intro width speed s hperst hisland hwidth hlo hhi
    have hlanes : width.val = 1 ∨ width.val = 2 ∨ width.val = 4 ∨ width.val = 8 := by
      rcases hwidth with rfl | rfl | rfl | rfl <;> decide
    rw [exec_pcieLinkUp, State.doPcieLinkUp_of_ready hperst hisland hlanes hlo hhi]
  case enables =>
    intro s hup
    refine ⟨?_, ?_⟩
    · rw [exec_busMasterEnable, State.doBusMasterEnable_of_up hup]
    · rw [exec_msixEnableSet, State.doMsixEnableSet_of_up hup]
  case unmask => exact fun v s => exec_msixVectorUnmask v s
  case ringStartStop =>
    intro r s a ha
    refine ⟨fun u hoff hu => ?_, fun u hon hu => ⟨fun hpunt => ?_, fun hother => ?_⟩⟩
    · rw [exec_ringEnable, State.doRingEnable_of_off ha hoff hu]
    · rw [exec_ringDisable, State.doRingDisable_of_on ha hon hu, if_pos hpunt]
    · rw [exec_ringDisable, State.doRingDisable_of_on ha hon hu, if_neg (Nat.not_lt.mpr hother)]
  case hostIndex =>
    intro r v s x a hadmits ha hx hgathers
    have hwm : wmOf (regA hostPage (0x20C + 0x40 * r)) ≠ 0 := (hostIdx_row r).2.1
    have hcheck := x.checkWrite_hostIdx v r.isLt ha
    rw [exec_hostIdxWrite, State.doRegisterWrite_hostIdx r v hadmits, ← hx]
    subst ha
    refine ⟨fun hok => ?_, fun hbad => ?_⟩
    · rw [State.cfgWrite_shadow hwm (by rw [hcheck, if_pos hok]) hgathers]
    · rw [State.cfgWrite_refused hwm (by rw [hcheck, if_neg (by simp [hbad])])]
  case inject =>
    intro r desc frame s d hgo hd
    refine ⟨fun hmode hcolour hfree hrate => ?_, fun hbad => ?_⟩
    · rw [exec_injectRingFetch, State.doInjectRingFetch_of_good hgo hd hmode hcolour hfree hrate]
    · rw [exec_injectRingFetch, State.doInjectRingFetch_of_bad hgo hd hbad]
  case punt =>
    intro r desc s u sl n p rest hgo hslice hwaits hu hn
    refine ⟨fun hlo hhi => ?_, fun hbad => ?_⟩
    · rw [exec_puntRingDeliver, State.doPuntRingDeliver_of_fits hgo hslice hwaits hu hn hlo hhi]
    · rw [exec_puntRingDeliver, State.doPuntRingDeliver_of_refused hgo hslice hwaits hu hn hbad]
  case readError =>
    intro r s hr hruns
    rw [exec_dmaReadError, State.doDmaReadError_of_runs hr hruns]
  case record =>
    intro r s u v f typ b g rest hfifo hu
    refine ⟨fun hitems hfits => ?_, fun hitems hfits hv => ?_⟩
    · rw [exec_ringRecordWrite, State.doRingRecordWrite_of_item hfifo hu hitems hfits]
    · rw [exec_ringRecordWrite, State.doRingRecordWrite_of_gap hfifo hu hitems hfits, hv]
  case coalesce =>
    intro r s t hfirst hdue
    rw [exec_ringCoalTimer, State.doRingCoalTimer_of_due hfirst hdue]

end Sys2Proof.Machine

/-! SUPPORT. The event window, the notification FIFOs, the performance counters, and the test and debug port: where each command acts,
and what it does there (R404 to R406, R408 to R410). -/

namespace Sys2Proof.Machine

/-! ### The commands over their operations -/

theorem exec_notifyFifoEnqueue (f : Fin 5) (item : List Byte) (s : State) :
    exec (.notifyFifoEnqueue f item) s = .next (settle (s.fifoPush f item)) := by rfl
theorem exec_evtWinRead (s : State) : exec .evtWinRead s = .next (settle (s.anyRead .host hostPage 0x100)) := by rfl
theorem exec_evtWinReadReturn (s : State) : exec .evtWinReadReturn s = .next (settle s.doEvtWinReadReturn) := by rfl
theorem exec_perfFreeze (i : Island) (s : State) :
    exec (.perfFreeze i) s = .next (settle (s.nowRow .host (perfPage i) 0x84 fun s => s.doPerfFreeze i)) := by rfl
theorem exec_perfRelease (i : Island) (s : State) :
    exec (.perfRelease i) s = .next (settle (s.nowRow .host (perfPage i) 0x84 fun s => s.doPerfRelease i)) := by rfl
theorem exec_perfZero (i : Island) (s : State) :
    exec (.perfZero i) s = .next (settle (s.nowRow .host (perfPage i) 0x84 fun s => s.doPerfZero i)) := by rfl
theorem exec_perfDump (i : Island) (s : State) : exec (.perfDump i) s = .next (settle (s.doPerfDump i)) := by rfl
theorem exec_dbgChallenge (s : State) : exec .dbgChallenge s = .next (settle s.doDbgChallenge) := by rfl
theorem exec_dbgResponse (rights : BitVec 3) (key sig : List Byte) (s : State) :
    exec (.dbgResponse rights key sig) s = .next (settle (s.doDbgResponse rights.toNat key sig)) := by rfl
theorem exec_dbgAccess (page : Fin 16384) (off : Fin 4096) (a : Access) (s : State) :
    exec (.dbgAccess page off a) s = .next (settle (s.doDbgAccess page off a)) := by rfl
theorem exec_dbgClose (s : State) : exec .dbgClose s = .next (settle s.doDbgClose) := by rfl
theorem exec_tapReset (s : State) : exec .tapReset s = .next (settle s.doTapReset) := by rfl
theorem exec_debugIdleTimeout (s : State) : exec .debugIdleTimeout s = .next (settle s.doDebugIdleTimeout) := by rfl
theorem exec_debugLockoutEnd (s : State) : exec .debugLockoutEnd s = .next (settle s.doDebugLockoutEnd) := by rfl
theorem exec_boundaryScanInstruction (i : TapInstr) (cells : List Bool) (s : State) :
    exec (.boundaryScanInstruction i cells) s = .next (settle (s.doBoundaryScan i cells)) := by rfl

/-! ### The event window (R405) -/

section
variable {s : State}

theorem State.winPop_of_cons {m : Bool} {b : List Byte} {rest : List (Bool × List Byte)} (h : (s.fifo 0).items = (m, b) :: rest) :
    s.winPop = some (((s.setFifo 0 { s.fifo 0 with items := rest }).syncFifo 0).winAnswer (if m then 3 else 1) b) := by
  simp only [State.winPop, h]

theorem State.winPop_of_nil (h : (s.fifo 0).items = []) : s.winPop = none := by simp only [State.winPop, h]

theorem State.doEvtWinRead_of_ring (h : s.ringEn 32 = true) : s.doEvtWinRead = s.winClosed := by simp [State.doEvtWinRead, h]

theorem State.doEvtWinRead_of_item {u : State} (hring : s.ringEn 32 = false) (hpop : s.winPop = some u) : s.doEvtWinRead = u := by
  simp only [State.doEvtWinRead, hring, hpop, Bool.false_eq_true, if_false]

/-- With no item in FIFO 0 the read waits. -/
theorem State.doEvtWinRead_of_empty (hring : s.ringEn 32 = false) (hpop : s.winPop = none) :
    s.doEvtWinRead = s.onHost fun h => { h with winWait := some s.now } := by
  simp only [State.doEvtWinRead, hring, hpop, Bool.false_eq_true, if_false]

section
variable {t : Nat} (hwait : s.host.winWait = some t)
include hwait

theorem State.doEvtWinReadReturn_of_ring (hring : s.ringEn 32 = true) : s.doEvtWinReadReturn = s.winClosed := by
  simp only [State.doEvtWinReadReturn, hwait, hring, if_true]

theorem State.doEvtWinReadReturn_of_item {u : State} (hring : s.ringEn 32 = false) (hpop : s.winPop = some u) :
    s.doEvtWinReadReturn = u := by
  simp only [State.doEvtWinReadReturn, hwait, hring, hpop, Bool.false_eq_true, if_false]

/-- A read that has waited 2 us answers EMPTY and is counted. -/
theorem State.doEvtWinReadReturn_of_late (hring : s.ringEn 32 = false) (hpop : s.winPop = none) (hlate : t + 2000 ≤ s.now) :
    s.doEvtWinReadReturn = (s.winAnswer 4 []).count hostPage 0xC8 := by
  simp only [State.doEvtWinReadReturn, hwait, hring, hpop, hlate, Bool.false_eq_true, if_false, if_true]

end

/-- A read of the window by host or debug port, counted like every access. -/
theorem State.anyRead_evtWin (w : Who) (hlit : s.pageDark hostPage = false) :
    s.anyRead w hostPage 0x100 = (s.accessHit w 1 hostPage).doEvtWinRead := by
  have herr : accessError hostPage 0x100 = 0 := by rfl
  simp [State.anyRead, herr, hlit]

end

/-! ### The commands of PERF_CTL (R406) -/

section
variable {s u x : State} {i : Island}

theorem pageOf_perfPage : ∀ i : Island, pageOf (perfPage i) = some (.perf, i.val) := by decide +kernel

theorem State.flag_of_regs_eq {s t : State} (h : t.regs = s.regs) (pg : Nat) (f : Fld) : t.flag pg f = s.flag pg f := by
  simp only [State.flag, State.fld_of_regs t s pg f h]

/-- A command that leaves REFUSED clear counts no refusal. -/
theorem State.nowRow_perf {run : State → State} (hadmits : Admits s .host (perfPage i) 0x84) (hx : x = s.accessHit .host 2 (perfPage i))
    (hclear : (run x).flag (perfPage i) PERF_PERF_CFG_REFUSED = false) : s.nowRow .host (perfPage i) 0x84 run = run x := by
  have hrefused : (run x).isRefused (perfPage i) 0x84 = false := by
    simp only [State.isRefused, pageOf_perfPage, refusedAt]; exact hclear
  rw [State.nowRow_of_admits hadmits, ← hx, State.noted]
  simp only [hrefused, Bool.false_eq_true, if_false]

/-- A command that is accepted clears REFUSED. -/
theorem State.refused_perfAccept (s : State) (i : Nat) : (s.perfAccept i).flag (perfPage i) PERF_PERF_CFG_REFUSED = false :=
  State.flag_setFlag_self _ _ _ _ (by decide) rfl

theorem State.refused_setFrozenFlag (s : State) (i : Nat) (b : Bool) :
    (s.setFlag (perfPage i) PERF_PERF_STATUS_FROZEN b).flag (perfPage i) PERF_PERF_CFG_REFUSED =
      s.flag (perfPage i) PERF_PERF_CFG_REFUSED := by
  simp only [State.flag, State.setFlag,
    State.fld_setFld_ne s PERF_PERF_STATUS_FROZEN PERF_PERF_CFG_REFUSED _ (regA_ne (by decide) (by decide) (.inr (by decide)))]

@[simp] theorem State.frozen_perfAccept (s : State) (i j : Nat) : (s.perfAccept i).frozen j = s.frozen j := by
  simp only [State.frozen, State.perfAccept, State.setFlag_host]

section
variable (hu : u = s.perfAccept i)
include hu

theorem State.doPerfFreeze_of_running (hruns : s.frozen i = false) :
    s.doPerfFreeze i =
      ((u.setCtr (perfPage i) 0x90 (u.cycleCtr i)).setFrozen i true).setFlag (perfPage i) PERF_PERF_STATUS_FROZEN true := by
  subst hu
  simp only [State.doPerfFreeze, State.frozen_perfAccept, hruns, Bool.false_eq_true, if_false]

theorem State.doPerfRelease_of_frozen (hfrozen : s.frozen i = true) :
    s.doPerfRelease i = ((u.setPerfBase i (u.islandCycles i + 2 ^ 64 - u.ctr (perfPage i) 0x90)).setFrozen i false).setFlag (perfPage i)
      PERF_PERF_STATUS_FROZEN false := by
  subst hu
  simp only [State.doPerfRelease, State.frozen_perfAccept, hfrozen, Bool.not_true, Bool.false_eq_true, if_false]

end

theorem State.refused_doPerfFreeze (hruns : s.frozen i = false) : (s.doPerfFreeze i).flag (perfPage i) PERF_PERF_CFG_REFUSED = false := by
  rw [State.doPerfFreeze_of_running rfl hruns, State.refused_setFrozenFlag, State.flag_of_regs_eq (s := s.perfAccept i) (by simp)]
  exact s.refused_perfAccept i

theorem State.refused_doPerfRelease (hfrozen : s.frozen i = true) :
    (s.doPerfRelease i).flag (perfPage i) PERF_PERF_CFG_REFUSED = false := by
  rw [State.doPerfRelease_of_frozen rfl hfrozen, State.refused_setFrozenFlag, State.flag_of_regs_eq (s := s.perfAccept i) (by simp)]
  exact s.refused_perfAccept i

/-- Zeroing moves counters and the cycle count's base. -/
theorem State.doPerfZero_regs (s : State) (i : Nat) : (s.doPerfZero i).regs = (s.perfAccept i).regs := by
  have hctrs := State.each_keep State.regs (fun s k => s.setCtr (perfPage i) (0x110 + 0x20 * k) 0) (fun _ _ => State.setCtr_regs _ _ _ _)
  simp only [State.doPerfZero, hctrs, State.setCtr_regs, State.setPerfBase_regs]

theorem State.refused_doPerfZero (s : State) (i : Island) : (s.doPerfZero i).flag (perfPage i) PERF_PERF_CFG_REFUSED = false := by
  rw [State.flag_of_regs_eq (s.doPerfZero_regs i)]
  exact s.refused_perfAccept i

section
variable (hadmits : Admits s .host (perfPage i) 0x84) (hx : x = s.accessHit .host 2 (perfPage i))
include hadmits hx

theorem exec_perfFreeze_of_running (hruns : x.frozen i = false) : exec (.perfFreeze i) s = .next (settle (x.doPerfFreeze i)) := by
  rw [exec_perfFreeze, State.nowRow_perf (run := fun s => s.doPerfFreeze i) hadmits hx (State.refused_doPerfFreeze hruns)]

theorem exec_perfRelease_of_frozen (hfrozen : x.frozen i = true) : exec (.perfRelease i) s = .next (settle (x.doPerfRelease i)) := by
  rw [exec_perfRelease, State.nowRow_perf (run := fun s => s.doPerfRelease i) hadmits hx (State.refused_doPerfRelease hfrozen)]

theorem exec_perfZero_of_admits : exec (.perfZero i) s = .next (settle (x.doPerfZero i)) := by
  rw [exec_perfZero, State.nowRow_perf (run := fun s => s.doPerfZero i) hadmits hx (State.refused_doPerfZero x i)]

end

end

/-! ### Dumps of the performance counters (R408) -/

/-- The first dump of a period of DT is an item of FIFO 4. -/
theorem State.doPerfDump_of_due {x s : State} {i : Nat} {k : Nat × Nat}
    (hk : k = (x.dtSec, x.dtSub / (1000 * x.fld (perfPage i) PERF_PERF_CFG_PERIOD)))
    (hen : x.flag (perfPage i) PERF_PERF_CFG_DUMP_EN = true) (hlit : x.islandDark i = false) (hnew : mget none x.host.dumpAt i ≠ some k)
    (hs : s = x.onHost fun h => { h with dumpAt := mset none h.dumpAt i (some k) }) :
    x.doPerfDump i = s.fifoPush 4 (timeBytes s.time.dt ++ leBytes 1 i ++
      leBytes 1 ((if (s.island i).dtLock then 0 else 1) + (if s.frozen i then 2 else 0)) ++ leBytes 8 (s.cycleCtr i) ++
      (List.range 8).flatMap fun k => leBytes 8 (s.ctr (perfPage i) (0x110 + 0x20 * k))) := by
  subst hk hs
  have hnew' := beq_eq_false_iff_ne.mpr hnew
  simp only [State.doPerfDump, hen, hlit, hnew', Bool.not_true, Bool.or_self, Bool.false_eq_true, if_false]

/-! ### The debug port (R410) -/

section
variable {s : State}

theorem State.doDbgChallenge_of_allowed {u : State} {n : List Byte} (hallow : s.debugAllowed = true) (hfresh : s.freshBytes 32 = (n, u)) :
    s.doDbgChallenge = (u.onHost fun h => { h with nonce := some n }).emit (.tap (n ++ u.identity)) := by
  simp only [State.doDbgChallenge, hallow, hfresh, Bool.not_true, Bool.false_eq_true, if_false]

/-- A response to the nonce that stands opens a session when it verifies, and otherwise locks the port out. -/
theorem State.doDbgResponse_of_open {rights : Nat} {key sig n : List Byte} {ok : Bool} (hnonce : s.host.nonce = some n)
    (hallow : s.debugAllowed = true) (hlock : s.host.lockout = none) (hclosed : s.host.debugOpen = false)
    (hok : ok = (s.sys.nv.calGood && (Config.sha384 key == s.sys.nv.debugKeyDigest)
      && Config.ecdsaVerify key (n ++ s.identity ++ leBytes 1 rights) sig)) :
    s.doDbgResponse rights key sig = if ok then (((s.onHost fun h => { h with
        nonce := none, debugOpen := true, rights := rights, debugLast := s.now }).setFlag hostPage HOST_HOST_STATUS_DEBUG_OPEN true).count
        hostPage 0xD8).raiseLive hostPage 4
      else (s.onHost fun h => { h with nonce := none, lockout := some (s.now + nsPerSec) }).count hostPage 0xD0 := by
  subst hok
  simp only [State.doDbgResponse, hnonce, hallow, hlock, hclosed, Bool.not_true, Bool.or_self, Bool.false_eq_true, if_false]

section
variable {u : State} {page off : Nat} (hopen : s.host.debugOpen = true) (hfresh : s.now < s.host.debugLast + 600 * nsPerSec)
  (hu : u = s.onHost fun h => { h with debugLast := s.now })
include hopen hfresh hu

theorem State.doDbgAccess_write (hright : s.host.rights.testBit 1 = true) (v : Word) :
    s.doDbgAccess page off (.write v) = u.doRegisterWrite .debug page off v := by
  have hright' : (s.onHost fun h => { h with debugLast := s.now }).host.rights.testBit 1 = true := hright
  subst hu
  simp only [State.doDbgAccess, State.debugIdle, hopen, Nat.not_le.mpr hfresh, hright', decide_false, Bool.and_false, Bool.not_true,
    Bool.false_eq_true, if_false, if_true]

theorem State.doDbgAccess_read {t : State} (hright : s.host.rights.testBit 0 = true) (ht : t = u.anyRead .debug page off) :
    s.doDbgAccess page off .read =
      { t with out := (t.out.take (t.out.length - u.out.length)).map toTap ++ t.out.drop (t.out.length - u.out.length) } := by
  have hright' : (s.onHost fun h => { h with debugLast := s.now }).host.rights.testBit 0 = true := hright
  subst ht hu
  simp only [State.doDbgAccess, State.debugIdle, hopen, Nat.not_le.mpr hfresh, hright', decide_false, Bool.and_false, Bool.not_true,
    Bool.false_eq_true, if_false]

end

theorem State.doDbgClose_of_open (h : s.host.debugOpen = true) : s.doDbgClose = s.debugClose := by simp [State.doDbgClose, h]
theorem State.doDbgClose_of_closed (h : s.host.debugOpen = false) : s.doDbgClose = s := by simp [State.doDbgClose, h]

theorem State.doDebugIdleTimeout_of_idle (hopen : s.host.debugOpen = true) (hidle : s.host.debugLast + 600 * nsPerSec ≤ s.now) :
    s.doDebugIdleTimeout = s.debugClose := by
  simp [State.doDebugIdleTimeout, State.debugIdle, hopen, hidle]

theorem State.doDebugLockoutEnd_of_over {t : Nat} (hlock : s.host.lockout = some t) (hover : t ≤ s.now) :
    s.doDebugLockoutEnd = s.onHost fun h => { h with lockout := none } := by
  simp only [State.doDebugLockoutEnd, hlock, hover, if_true]

/-! ### The controller of the test port (R409) -/

/-- SAMPLE, PRELOAD and EXTEST load the boundary-scan cells. -/
def tapLoads : TapInstr → Bool
  | .sample | .preload | .extest => true
  | _ => false

/-- With the supplies that the instruction needs, it takes effect; IDCODE shifts out the code of the device. -/
theorem State.doBoundaryScan_of_powered {u : State} {i : TapInstr} {cells : List Bool} (hvsb : s.sys.power.vsb = true)
    (hvin : i = .extest → s.sys.power.vin = true)
    (hu : u = s.onHost fun h => { h with tap := i, cells := if tapLoads i then cells else h.cells }) :
    s.doBoundaryScan i cells = if i = .idcode then u.emit (.tap (leBytes 4 0x22048E41)) else u := by
  have hpower : (!s.sys.power.vsb || (i == .extest && !s.sys.power.vin)) = false := by
    cases i with
    | extest => simp [hvsb, hvin rfl]
    | _ => simp [hvsb]
  rw [State.doBoundaryScan, hpower, hu]
  cases i <;> rfl

end

/-- Settles O26: each command is its operation, and the operation's lemma for the case at hand gives the answer. That a response consumes
the nonce, needs a good calibration area and states the identity in 8 bytes is log 96, and that a period gives one dump is log 111. -/
theorem windowPerformanceAndDebugComplete : Obligations.WindowPerformanceAndDebugComplete := by
  unfold Obligations.WindowPerformanceAndDebugComplete
  refine ⟨?enqueue, ?window, ?perf, ?dump, ?challenge, ?response, ?access, ?close, ?scan⟩
  case enqueue => exact fun f item s => exec_notifyFifoEnqueue f item s
  case window =>
    intro s
    refine ⟨fun hlit x hx => ?read, fun t hwait => ?late⟩
    case read =>
      rw [exec_evtWinRead, State.anyRead_evtWin .host hlit, ← hx]
      refine ⟨fun hring => ?_, fun hring m b rest hitems => ?_, fun hring hitems => ?_⟩
      · rw [State.doEvtWinRead_of_ring hring]
      · rw [State.doEvtWinRead_of_item hring (State.winPop_of_cons hitems)]
      · rw [State.doEvtWinRead_of_empty hring (State.winPop_of_nil hitems)]
    case late =>
      rw [exec_evtWinReadReturn]
      refine ⟨fun hring => ?_, fun hring m b rest hitems => ?_, fun hring hitems hlate => ?_⟩
      · rw [State.doEvtWinReadReturn_of_ring hwait hring]
      · rw [State.doEvtWinReadReturn_of_item hwait hring (State.winPop_of_cons hitems)]
      · rw [State.doEvtWinReadReturn_of_late hwait hring (State.winPop_of_nil hitems) hlate]
  case perf =>
    intro i s u pg hpg hadmits hu
    subst hpg
    obtain ⟨x, hx⟩ : ∃ x, x = s.accessHit .host 2 (perfPage i) := ⟨_, rfl⟩
    rw [← hx] at hu
    have hfrozen : x.frozen i = s.frozen i := by simp only [hx, State.frozen, State.accessHit_host]
    refine ⟨fun hruns => ?_, fun hstands => ?_, ?_⟩
    · have hruns' := hfrozen.trans hruns
      rw [exec_perfFreeze_of_running hadmits hx hruns', State.doPerfFreeze_of_running hu hruns']
    · have hstands' := hfrozen.trans hstands
      rw [exec_perfRelease_of_frozen hadmits hx hstands', State.doPerfRelease_of_frozen hu hstands']
    · rw [exec_perfZero_of_admits hadmits hx, State.doPerfZero, State.perfAccept, ← hu]
  case dump =>
    intro i x s k hk hen hlit hnew hs
    rw [exec_perfDump, State.doPerfDump_of_due hk hen hlit hnew hs]
  case challenge =>
    intro s u n hallow hfresh
    rw [exec_dbgChallenge, State.doDbgChallenge_of_allowed hallow hfresh]
  case response =>
    intro rights key sig n s ok hnonce hallow hlock hclosed hok
    rw [exec_dbgResponse, State.doDbgResponse_of_open hnonce hallow hlock hclosed hok]
  case access =>
    intro page off s u hopen hfresh hu
    refine ⟨fun v hright => ?_, fun t hright ht => ?_⟩
    · rw [exec_dbgAccess, State.doDbgAccess_write hopen hfresh hu hright]
    · rw [exec_dbgAccess, State.doDbgAccess_read hopen hfresh hu hright ht]
  case close =>
    intro s
    refine ⟨fun hopen => ⟨?_, ?_, fun hidle => ?_⟩, fun hclosed => ?_, fun t hlock hover => ?_⟩
    · rw [exec_dbgClose, State.doDbgClose_of_open hopen]
    · rw [exec_tapReset, State.doTapReset, State.doDbgClose_of_open hopen]
    · rw [exec_debugIdleTimeout, State.doDebugIdleTimeout_of_idle hopen hidle]
    · rw [exec_tapReset, State.doTapReset, State.doDbgClose_of_closed hclosed]
    · rw [exec_debugLockoutEnd, State.doDebugLockoutEnd_of_over hlock hover]
  case scan =>
    intro i cells s u hvsb hvin hu
    have hloads : u = s.onHost fun h => { h with tap := i, cells := if tapLoads i then cells else h.cells } := by
      rw [hu]; cases i <;> rfl
    rw [exec_boundaryScanInstruction, State.doBoundaryScan_of_powered hvsb hvin hloads]
    refine ⟨fun hother => ?_, fun hid => ?_⟩
    · rw [if_neg hother]
    · rw [if_pos hid]

end Sys2Proof.Machine

/-! SUPPORT. Broken rails, temperatures, the ends of block resets, reloads and guy windows, and the slow copies: where each command acts,
and what it does there (R393, R415, R416, R421, R424, R426, R428, R429, R431, R445, R473). -/

namespace Sys2Proof.Machine

/-! ### The commands over their operations -/

theorem exec_railBreak (page : Fin 16384) (src : Fin 32) (s : State) :
    exec (.railBreak page src) s = .next (settle (s.doRailBreak page src)) := by rfl
theorem exec_railRestore (s : State) : exec .railRestore s = .next (settle s.doRailRestore) := by rfl
theorem exec_thermThresholdCross (i : Island) (temp : BitVec 8) (s : State) :
    exec (.thermThresholdCross i temp) s = .next (settle (s.doThermCross i temp.toNat)) := by rfl
theorem exec_blockResetReady (t : Island) (s : State) : exec (.blockResetReady t) s = .next (settle (s.doBlockResetReady t)) := by rfl
theorem exec_sliceReloadDone (sl : Slice) (s : State) :
    exec (.sliceReloadDone sl) s = .next (settle (s.doSliceReloadDone sl)) := by rfl
theorem exec_guyWindowEnd (t : Island) (s : State) : exec (.guyWindowEnd t) s = .next (settle (s.doGuyWindowEnd t)) := by rfl
theorem exec_slowCopyRefresh (s : State) : exec .slowCopyRefresh s = .next (settle s.doSlowCopyRefresh) := by rfl

/-! ### Broken rail pairs (R415, R416) -/

section
variable {s u : State} {page src i : Nat} {t : PageTy} (hp : pageOf page = some (t, i))
  (hwhole : s.host.broken.contains (page, src) = false)
  (hu : u = (((s.setFld fltcPage FLTC_RAIL_CAPTURE_PAGE page).setFld fltcPage FLTC_RAIL_CAPTURE_SOURCE src).setFlag fltcPage
    FLTC_RAIL_CAPTURE_BROKEN true).setFlag fltcPage FLTC_RAIL_CAPTURE_VALID true)
include hp hwhole hu

/-- The source's pair stands apart before RAIL_BREAK is raised. -/
theorem State.doRailBreak_of_mild (hsev : u.evtSev page src ≠ 3) :
    s.doRailBreak page src =
      ((u.onHost fun h => { h with broken := h.broken ++ [(page, src)] }).count fltcPage 0xB0).raiseLive fltcPage 0 := by
  subst hu
  simp only [State.doRailBreak, hp, hwhole, beq_eq_false_iff_ne.mpr hsev, Bool.false_eq_true, if_false]

/-- A source of severity 3 is taken to assert, and its fatal record names page 0x3FFF (R437), before its pair stands apart. -/
theorem State.doRailBreak_of_fatal {v : State} (hsev : u.evtSev page src = 3)
    (hv : v = ((u.count fltcPage 0xB0).raiseLive fltcPage 0).raise page src) :
    s.doRailBreak page src = (v.onSys fun y => { y with
      due := y.due.map fun x => if x = (page, src, 3) then (0x3FFF, src, 3) else x }).onHost fun h => { h with
      broken := h.broken ++ [(page, src)] } := by
  subst hu hv
  simp only [State.doRailBreak, hp, hwhole, beq_iff_eq.mpr hsev, Bool.false_eq_true, if_false, if_true]

end

/-! ### Temperatures (R62, R424, R426, R473) -/

/-- A sensor's reading is stored, and an engine's moves its TEMP_HIGH (R62). -/
def State.sensed (s : State) (i temp : Nat) : State :=
  let w := s.onIsland i fun x => { x with temp := temp }
  if 17 ≤ i && i < 49 then w.tempHigh (i - 17) temp else w

/-- From 105 C THERM_WARN and its alert rise, unless THERM_WARN is live already (R426). -/
def State.thermWarned (s : State) (temp : Nat) : State :=
  if 105 ≤ temp then (if s.live fltcPage 3 then s else (s.raiseLive fltcPage 3).alertSet 0) else s

/-- From 115 C THERM_TRIP, its pin and its alert rise, unless THERM_TRIP is live already (R424, R473). -/
def State.thermTripped (s : State) (temp : Nat) : State :=
  if 115 ≤ temp && !s.live fltcPage 4 then
    (((s.onSys fun y => { y with tripPersist := true, power := { y.power with thermTripLow := true } }).emit
      (.pin "THERM_TRIP_N" false)).alertSet 1).raiseLive fltcPage 4
  else s

/-- Both fall once every junction lies below 100 C (R426). -/
def State.thermCooled (s : State) : State :=
  if s.allCool then ((s.lower fltcPage 3).lower fltcPage 4).onSys fun y => { y with tripPersist := false } else s

section
variable {s : State} {temp : Nat}

theorem State.doThermCross_eq (s : State) (i temp : Nat) :
    s.doThermCross i temp = (((s.sensed i temp).thermWarned temp).thermTripped temp).thermCooled := rfl

theorem State.sensed_eq {w u : State} {i : Nat} (hw : w = s.onIsland i fun y => { y with temp := temp })
    (hu : u = if 17 ≤ i ∧ i < 49 then w.tempHigh (i - 17) temp else w) : s.sensed i temp = u := by
  simp only [State.sensed, hu, hw, Bool.and_eq_true, decide_eq_true_eq]

theorem State.thermWarned_of_low (h : temp < 105) (s : State) : s.thermWarned temp = s := if_neg (Nat.not_le.mpr h)

theorem State.thermWarned_of_live (hlive : s.live fltcPage 3 = true) : s.thermWarned temp = s := by
  simp only [State.thermWarned, hlive, if_true, ite_self]

theorem State.thermWarned_of_high (h : 105 ≤ temp) (hquiet : s.live fltcPage 3 = false) :
    s.thermWarned temp = (s.raiseLive fltcPage 3).alertSet 0 := by
  simp only [State.thermWarned, h, hquiet, Bool.false_eq_true, if_false, if_true]

theorem State.thermTripped_of_low (h : temp < 115) (s : State) : s.thermTripped temp = s := by
  simp [State.thermTripped, Nat.not_le.mpr h]

theorem State.thermTripped_of_high (h : 115 ≤ temp) (hquiet : s.live fltcPage 4 = false) :
    s.thermTripped temp = (((s.onSys fun y => { y with tripPersist := true, power := { y.power with thermTripLow := true } }).emit
      (.pin "THERM_TRIP_N" false)).alertSet 1).raiseLive fltcPage 4 := by
  simp only [State.thermTripped, h, hquiet, decide_true, Bool.not_false, Bool.and_self, if_true]

theorem State.thermCooled_of_warm (h : s.allCool = false) : s.thermCooled = s := if_neg (by simp [h])

theorem State.thermCooled_of_cool (h : s.allCool = true) :
    s.thermCooled = ((s.lower fltcPage 3).lower fltcPage 4).onSys fun y => { y with tripPersist := false } := if_pos h

end

/-! ### The ends of block resets (R429, R445) -/

section
variable {s u : State} {t e : Nat} (hreset : (s.block t).resetting = true) (hsound : s.fatal = false) (hloaded : (s.block t).reload = none)
include hreset hsound hloaded

theorem State.doBlockResetReady_of_slice (ht : t < 8)
    (hu : u = ((s.blockDone t).setFlag (slcePage t) SLCE_SLCE_STATUS_READY true).raise (slcePage t) 4) :
    s.doBlockResetReady t = u.each ((List.range 128).map fun i => 128 * t + i) fun s lp => s.kick lp := by
  have hstack : ¬9 ≤ t := by omega
  subst hu
  simp [State.doBlockResetReady, hreset, hsound, hloaded, ht, hstack]

theorem State.doBlockResetReady_of_crossbar (ht : t = 8) : s.doBlockResetReady t = s.blockDone t := by
  subst ht
  simp [State.doBlockResetReady, hreset, hsound, hloaded]

section
variable (hlo : 17 ≤ t) (hhi : t < 49) (he : e = t - 17)
include hlo hhi he

theorem State.doBlockResetReady_of_engine :
    s.doBlockResetReady t =
      if s.tested s.sys.boot.slot s.sys.boot.mwVersion (s.nvSlot s.sys.boot.slot).uc then ((s.blockDone t).engineBoot e).engineUp e
      else ((s.setUcState e 3).onBoot fun b => { b with cause := 2 }).raise nvstPage 3 := by
  have hslice : ¬t < 8 := by omega
  have hcrossbar : t ≠ 8 := by omega
  have hstack : ¬t < 17 := by omega
  subst he
  simp [State.doBlockResetReady, hreset, hsound, hloaded, hslice, hcrossbar, hstack, hhi]

end

theorem State.doBlockResetReady_of_time (ht : t = 51) :
    s.doBlockResetReady t = (s.onTime fun x => { x with standby := false }).blockDone t := by
  subst ht
  simp [State.doBlockResetReady, hreset, hsound, hloaded]

theorem State.doBlockResetReady_of_cluster (ht : t = 49 ∨ t = 50) : s.doBlockResetReady t = (s.blockDone t).setRole (t - 49) 1 := by
  rcases ht with rfl | rfl <;> simp [State.doBlockResetReady, hreset, hsound, hloaded]

end

/-! ### Reloads, guy windows and slow copies (R393, R428, R431) -/

section
variable {s u : State}

/-- The copy of the source is taken, with the updates that the source had still to apply. -/
theorem State.doSliceReloadDone_of_source {sl n k : Nat} (hreloads : (s.block sl).reload = some n) (hsource : s.reloadFrom sl = some k)
    (hu : u = (s.onBlock sl fun b => { b with reload := none }).onTables fun t => { t with
      copies := t.copies.set sl (t.copies.getD k TblCopy.empty), copyQueue := t.copyQueue.set sl (t.copyQueue.getD k []) }) :
    s.doSliceReloadDone sl =
      (u.setFlag (slcePage sl) SLCE_SLCE_STATUS_RELOADING false).setFld (slcePage sl) SLCE_SLCE_STATUS_RELOAD_LEFT 0 := by
  subst hu
  simp only [State.doSliceReloadDone, hreloads, hsource]

/-- A block's own state is no severity action. -/
theorem State.onBlock_due (s : State) (t : Nat) (f : Block → Block) : (s.onBlock t f).sys.due = s.sys.due := by
  simp [State.onBlock, State.setBlock]

theorem State.doGuyWindowEnd_of_over {t a : Nat} (hend : (s.block t).guyEnd = some a) (hover : a ≤ s.now) :
    s.doGuyWindowEnd t =
      s.reassert ((s.onBlock t fun b => { b with guy := false, guyEnd := none, byHost := false, cause := none }).syncGuy t) := by
  simp only [State.doGuyWindowEnd, hend, Nat.not_lt.mpr hover, if_false]

theorem State.doSlowCopyRefresh_of_edge (hvsb : s.sys.power.vsb = true) (hedge : s.slowEdge = true)
    (hu : u = ((((s.onSys fun y => { y with slowAt := s.now }).each (List.range 54) fun s i => (s.copyIsland i).syncContains i).each
      (List.range 32) fun s e => s.copyEngine e)).each (List.range 8) fun s d => s.copyStack d) :
    s.doSlowCopyRefresh = ((u.setFld fltcPage FLTC_TEMP_MAX_TEMP u.hottest.1).setFld fltcPage
      FLTC_TEMP_MAX_ISLAND u.hottest.2).copyService.copyBoot := by
  subst hu
  simp only [State.doSlowCopyRefresh, hvsb, hedge, Bool.not_true, Bool.or_self, Bool.false_eq_true, if_false]

end

/-- Settles O27: each command is its operation, and the operation's lemma for the case at hand gives the answer. That an engine with an
untested combination sets the boot cause to 2 is log 51. -/
theorem faultCommandsComplete : Obligations.FaultCommandsComplete := by
  unfold Obligations.FaultCommandsComplete
  refine ⟨?railBreak, ?railRestore, ?therm, ?ready, ?reload, ?guyEnd, ?slowCopy⟩
  case railBreak =>
    intro page src s u v t i hp hwhole hu
    refine ⟨fun hsev => ?_, fun hsev hv => ?_⟩
    · rw [exec_railBreak, State.doRailBreak_of_mild hp hwhole hu hsev]
    · rw [exec_railBreak, State.doRailBreak_of_fatal hp hwhole hu hsev hv]
  case railRestore =>
    intro s u hu
    rw [exec_railRestore, State.doRailRestore, ← hu]
  case therm =>
    intro i temp s w u x hw hu
    rw [exec_thermThresholdCross, State.doThermCross_eq, State.sensed_eq hw hu]
    refine ⟨fun hlow => ⟨fun hwarm => ?_, fun hcool => ?_⟩, fun hlo hhi hquiet hx hwarm => ?_, fun hhi hwarned hquiet hx hwarm => ?_,
      fun a hhi hquiet ha hquiet' hx hwarm => ?_⟩
    · rw [State.thermWarned_of_low hlow, State.thermTripped_of_low (by omega), State.thermCooled_of_warm hwarm]
    · rw [State.thermWarned_of_low hlow, State.thermTripped_of_low (by omega), State.thermCooled_of_cool hcool]
    · rw [State.thermWarned_of_high hlo hquiet, State.thermTripped_of_low hhi, ← hx, State.thermCooled_of_warm hwarm]
    · rw [State.thermWarned_of_live hwarned, State.thermTripped_of_high hhi hquiet, ← hx, State.thermCooled_of_warm hwarm]
    · rw [State.thermWarned_of_high (by omega) hquiet, ← ha, State.thermTripped_of_high hhi hquiet', ← hx,
        State.thermCooled_of_warm hwarm]
  case ready =>
    intro t s u e hreset hsound hloaded
    rw [exec_blockResetReady]
    refine ⟨fun ht hu => ?_, fun ht => ?_, fun hlo hhi he => ⟨fun htested => ?_, fun huntested => ?_⟩, fun ht => ?_, fun ht => ?_⟩
    · rw [State.doBlockResetReady_of_slice hreset hsound hloaded ht hu]
    · rw [State.doBlockResetReady_of_crossbar hreset hsound hloaded (congrArg Fin.val ht)]
    · rw [State.doBlockResetReady_of_engine hreset hsound hloaded hlo hhi he, if_pos htested]
    · rw [State.doBlockResetReady_of_engine hreset hsound hloaded hlo hhi he, if_neg (by simp [huntested])]
    · rw [State.doBlockResetReady_of_time hreset hsound hloaded (congrArg Fin.val ht)]
    · rw [State.doBlockResetReady_of_cluster hreset hsound hloaded (ht.imp (congrArg Fin.val) (congrArg Fin.val))]
  case reload =>
    intro sl s u n k hquiet hreloads hsource hu
    have hstays : u.sys.due = [] := by rw [hu, State.onTables_sys, State.onBlock_due]; exact hquiet
    rw [exec_sliceReloadDone, State.doSliceReloadDone_of_source hreloads hsource hu, settle_of_quiet (by simpa using hstays)]
  case guyEnd =>
    intro t s a hend hover
    rw [exec_guyWindowEnd, State.doGuyWindowEnd_of_over hend hover]
  case slowCopy =>
    intro s u hvsb hedge hu
    rw [exec_slowCopyRefresh, State.doSlowCopyRefresh_of_edge hvsb hedge hu]

end Sys2Proof.Machine

/-! SUPPORT. Clears of sticky bits, and occurrences of a source whose EVT_ENABLE is 0: what each changes, and what it leaves alone (R364,
R390 to R392, R418). -/

namespace Sys2Proof.Machine

/-! ### A register that neither EVT_STICKY nor a written field shares -/

theorem State.sticky_of_rd {s t : State} {pg : Nat} (h : t.rd (regA pg 0x14) = s.rd (regA pg 0x14)) (n : Nat) :
    t.sticky pg n = s.sticky pg n := State.evtBit_of_rd h n

theorem State.live_of_rd {s t : State} {pg : Nat} (h : t.rd (regA pg 0x10) = s.rd (regA pg 0x10)) (n : Nat) :
    t.live pg n = s.live pg n := State.evtBit_of_rd h n

theorem State.setFlag_rd_ne (s : State) (pg : Nat) (f : Fld) (b : Bool) {a : Nat} (h : a ≠ regA pg f.off) :
    (s.setFlag pg f b).rd a = s.rd a := s.setFld_rd_ne pg f _ h

/-! ### A clear (R391) -/

section
variable {x : State} {page src seq i : Nat} {t : PageTy} (hp : pageOf page = some (t, i))
include hp

/-- A clear moves EVT_STICKY and EVT_CLEAR of its page, and nothing else. -/
theorem State.doEvtClear_sameBut (x : State) (src seq : Nat) : SameBut [.regs] x (x.doEvtClear page src seq) := by
  rw [State.doEvtClear_of_page hp]
  split <;> simp [SameBut]

theorem State.doEvtClear_rd {a : Nat} (hsticky : a ≠ regA page 0x14) (hok : a ≠ regA page 0x40) :
    (x.doEvtClear page src seq).rd a = x.rd a := by
  rw [State.doEvtClear_of_page hp]
  split
  · rw [State.setFlag_rd_ne _ _ HDR_LAST_OK _ hok, State.setEvtBit_rd (a := evtStickyA page) _ _ _ hsticky]
  · rw [State.setFlag_rd_ne _ _ HDR_LAST_OK _ hok]

/-- LAST_OK tells whether the number was the present one. -/
theorem State.doEvtClear_lastOk : (x.doEvtClear page src seq).flag page HDR_LAST_OK = decide (x.evtSeq page src = seq) := by
  rw [State.doEvtClear_of_page hp]
  split
  · next h => rw [State.flag_setFlag_self _ _ HDR_LAST_OK _ (by decide) rfl, decide_eq_true h]
  · next h => rw [State.flag_setFlag_self _ _ HDR_LAST_OK _ (by decide) rfl, decide_eq_false h]

theorem State.doEvtClear_sticky_of_present (h : x.evtSeq page src = seq) (hsrc : src < 32) (n : Nat) :
    (x.doEvtClear page src seq).sticky page n = if n = src then false else x.sticky page n := by
  have hother : regA page 0x14 ≠ regA page HDR_LAST_OK.off := regA_ne (by decide) (by decide) (.inr (by decide))
  rw [State.doEvtClear_of_page hp, if_pos h, State.sticky_of_rd (State.setFlag_rd_ne _ _ HDR_LAST_OK _ hother)]
  exact State.evtBit_setEvtBit x _ false hsrc

theorem State.doEvtClear_sticky_of_stale (h : x.evtSeq page src ≠ seq) :
    (x.doEvtClear page src seq).rd (regA page 0x14) = x.rd (regA page 0x14) := by
  have hother : regA page 0x14 ≠ regA page HDR_LAST_OK.off := regA_ne (by decide) (by decide) (.inr (by decide))
  rw [State.doEvtClear_of_page hp, if_neg h, State.setFlag_rd_ne _ _ HDR_LAST_OK _ hother]

end

/-! ### The access of the write is counted (R406) -/

theorem State.accessHit_rd (s : State) (w : Who) (e pg a : Nat) : (s.accessHit w e pg).rd a = s.rd a :=
  State.rd_of_regs_eq (State.accessHit_regs _ _ _ _) a

theorem State.accessHit_sameBut (s : State) (w : Who) (e pg : Nat) : SameBut [.ctrs] s (s.accessHit w e pg) := by
  obtain ⟨k, hk⟩ := State.accessHit_eq s w e pg
  exact hk ▸ s.withCtrs_sameBut k

theorem State.raiseLive_of_live {s : State} {page src : Nat} (hwhole : s.host.broken.contains (page, src) = false)
    (hlive : s.live page src = true) : s.raiseLive page src = s := by
  simp only [State.raiseLive, hwhole, hlive, Bool.false_eq_true, if_false, if_true]

/-! ### Firmware's clear (R351, R364) -/

section
variable {s : State}

/-- The capture of a denied access moves DENY_CAPTURE of the SVCC page alone. -/
theorem State.denyCapture_rd (s : State) (page off cause : Nat) {a : Nat} (h : a ≠ regA svccPage SVCC_DENY_CAPTURE_PAGE.off) :
    (s.denyCapture page off cause).rd a = s.rd a := by
  rw [State.denyCapture, State.setFlag_rd_ne _ _ SVCC_DENY_CAPTURE_VALID _ h, State.setFld_rd_ne _ _ SVCC_DENY_CAPTURE_CAUSE _ h,
    State.setFld_rd_ne _ _ SVCC_DENY_CAPTURE_OFFSET _ h, State.setFld_rd_ne _ _ SVCC_DENY_CAPTURE_PAGE _ h]

theorem State.denyCapture_sys (s : State) (page off cause : Nat) : (s.denyCapture page off cause).sys = s.sys := by
  simp [State.denyCapture]

theorem State.fwGated_due (s : State) (c page off : Nat) : (s.fwGated c page off).sys.due = s.sys.due := by
  simp [State.fwGated, State.denyCapture_sys]

theorem State.fwGated_sticky (s : State) (c page off q n : Nat) : (s.fwGated c page off).sticky q n = s.sticky q n := by
  refine State.sticky_of_rd ?_ n
  rw [State.fwGated, State.rd_of_regs_eq (State.emit_regs _ _),
    State.denyCapture_rd _ _ _ _ (hdr_ne _ _ (by decide) (by decide) (by decide)), State.count_rd]

/-- A severity is not in the registers that the capture of a denied access moves. -/
theorem State.evtSev_denied (s : State) (page off cause q : Nat) {n : Nat} (hn : n < 32) :
    ((s.count svccPage 0xB8).denyCapture page off cause).evtSev q n = s.evtSev q n := by
  simp only [State.evtSev]
  rw [State.denyCapture_rd _ _ _ _ (hdr_ne _ _ (by omega) (by decide) (by simp only [SVCC_DENY_CAPTURE_PAGE]; omega)), State.count_rd]

/-- With severities of log or notify a denied access makes no action due. -/
theorem State.fwDenied_due (hcalm : Calm [(svccPage, 12)] s) (c page off cause code : Nat) :
    (s.fwDenied c page off cause code).sys.due = [] := by
  obtain ⟨hquiet, hgap, hsev⟩ := hcalm
  have hdeny : s.evtSev svccPage 12 ≤ 1 := hsev (svccPage, 12) (List.mem_singleton_self _)
  rw [State.fwDenied, State.emit_sys, State.raise_due _ _ _ (by rw [State.evtSev_denied _ _ _ _ _ (by decide)]; exact hdeny)
    (by rw [State.evtSev_denied _ _ _ _ _ (by decide)]; exact hgap), State.denyCapture_sys, State.count_sys]
  exact hquiet

theorem State.fwDenied_sticky_mono {q n : Nat} (hs : s.sticky q n = true) (c page off cause code : Nat) :
    (s.fwDenied c page off cause code).sticky q n = true := by
  have hcapture : ((s.count svccPage 0xB8).denyCapture page off cause).sticky q n = true := by
    rw [State.sticky_of_rd (State.denyCapture_rd _ _ _ _ (hdr_ne _ _ (by decide) (by decide) (by decide))),
      State.sticky_of_rd (State.count_rd _ _ _ _ _), hs]
  rw [State.fwDenied, State.sticky_of_rd (State.rd_of_regs_eq (State.emit_regs _ _) _)]
  exact State.raise_sticky_mono _ _ _ hcapture

/-- Firmware's clear does nothing, is gated or is denied, whatever state its cluster is in. -/
theorem State.doEvtClearBy_fw_cases (s : State) (c : Cluster) (p : Pair) (page src seq : Nat) :
    s.doEvtClearBy (.fw c p) page src seq = s ∨ s.doEvtClearBy (.fw c p) page src seq = s.fwGated c page 0x40
      ∨ s.doEvtClearBy (.fw c p) page src seq = (s.fwDenied c page 0x40 1 7).accessHit (.fw c p) 3 page := by
  cases hdrives : s.drives c with
  | false => exact .inl (by simp [State.doEvtClearBy, State.access, hdrives])
  | true =>
    cases hholds : s.isHolder c with
    | false => exact .inr (.inl (by simp [State.doEvtClearBy, State.access, hdrives, hholds]))
    | true => exact .inr (.inr (State.doEvtClearBy_of_fw hdrives hholds))

end

/-- Settles O42: the write's access moves counters only, and the clear moves EVT_STICKY and LAST_OK only; a later assertion moved EVT_SEQ,
so that the number read before it is stale. Firmware's clear is gated or denied, which raises at most a sticky bit. -/
theorem clearNeedsThePresentNumber : Obligations.ClearNeedsThePresentNumber := by
  unfold Obligations.ClearNeedsThePresentNumber
  refine ⟨?host, ?firmware⟩
  case host =>
    intro w page src seq s t i hw hp herr hquiet
    obtain ⟨x, hx⟩ : ∃ x, x = s.accessHit w 2 page := ⟨_, rfl⟩
    have hrd : ∀ a, x.rd a = s.rd a := fun a => by rw [hx, State.accessHit_rd]
    have hseq : x.evtSeq page src = s.evtSeq page src := State.evtSeq_of_rd (hrd _)
    have hsame : SameBut [.regs, .ctrs] s (x.doEvtClear page src seq.toNat) := by
      have haccess : SameBut [.regs, .ctrs] s x := hx ▸ (s.accessHit_sameBut w 2 page).mono (by decide)
      exact haccess.trans ((State.doEvtClear_sameBut hp x src seq.toNat).mono (by decide))
    have hlive : (x.doEvtClear page src seq.toNat).live page src = s.live page src := by
      have hne : ∀ o, o < 4096 → o ≠ 0x10 → regA page 0x10 ≠ regA page o := fun o ho hn => regA_ne (by decide) ho (.inr hn.symm)
      exact (State.live_of_rd (State.doEvtClear_rd hp (hne _ (by decide) (by decide)) (hne _ (by decide) (by decide))) _).trans
        (State.live_of_rd (hrd _) _)
    have hstale : s.evtSeq page src ≠ seq.toNat →
        (x.doEvtClear page src seq.toNat).rd (regA page 0x14) = s.rd (regA page 0x14) := fun h => by
      rw [State.doEvtClear_sticky_of_stale hp (by rw [hseq]; exact h), hrd]
    refine ⟨x.doEvtClear page src seq.toNat, ?answer, hsame, ?regs, fun h => ⟨?cleared, fun n _ hn => ?others, ?ok⟩,
      fun h => ⟨hstale h, ?notOk⟩, fun r hr hfree hwhole hold => ?later, hlive, fun hl hwhole => ?again⟩
    case answer =>
      rw [exec_evtClear, State.doEvtClearBy_of_host hw herr, ← hx, settle_of_quiet (by rw [hsame.sys_eq (by decide)]; exact hquiet)]
    case regs =>
      intro a ha
      simp only [List.mem_cons, List.not_mem_nil, or_false, not_or] at ha
      rw [State.doEvtClear_rd hp ha.1 ha.2, hrd]
    case cleared => rw [State.doEvtClear_sticky_of_present hp (hseq.trans h) src.isLt, if_pos rfl]
    case others => rw [State.doEvtClear_sticky_of_present hp (hseq.trans h) src.isLt, if_neg hn, State.sticky_of_rd (hrd _)]
    case ok => rw [State.doEvtClear_lastOk hp, decide_eq_true (hseq.trans h)]
    case notOk => rw [State.doEvtClear_lastOk hp, decide_eq_false (by rw [hseq]; exact h)]
    case later =>
      have hmoved := r.raise_seq_ne page src.isLt (by rw [hfree, hwhole]; rfl)
      rw [← hr, ← hold] at hmoved
      exact State.sticky_of_rd (hstale hmoved) _
    case again =>
      obtain ⟨-, -, -, -, -, -, -, -, hhost, -⟩ := hsame
      have hhost' := hhost.resolve_left (by decide)
      exact State.raiseLive_of_live (by rw [hhost']; exact hwhole) (hlive.trans hl)
  case firmware =>
    intro c p page src seq s hcalm
    rw [exec_evtClear]
    rcases s.doEvtClearBy_fw_cases c p page src seq.toNat with h | h | h <;> rw [h]
    · exact ⟨s, by rw [settle_of_quiet hcalm.1], fun q n _ hs => hs⟩
    · refine ⟨_, by rw [settle_of_quiet (by rw [State.fwGated_due]; exact hcalm.1)], fun q n _ hs => ?_⟩
      rw [State.fwGated_sticky]; exact hs
    · refine ⟨_, by rw [settle_of_quiet (by rw [State.accessHit_sys]; exact State.fwDenied_due hcalm _ _ _ _ _)], fun q n _ hs => ?_⟩
      rw [State.sticky_of_rd (State.accessHit_rd _ _ _ _ _)]
      exact State.fwDenied_sticky_mono hs _ _ _ _ _

/-! ### An occurrence with EVT_ENABLE 0 (R390, R392) -/

/-- EVT_SEQ moves by 1, and STICKY to 1. -/
def State.noticed (s : State) (pg src : Nat) : State :=
  if s.sticky pg src then s.bumpSeq pg src else (s.bumpSeq pg src).setEvtBit (evtStickyA pg) src true

section
variable {s : State} {pg src : Nat}

theorem State.noticed_sameBut (s : State) (pg src : Nat) : SameBut [.regs] s (s.noticed pg src) := by
  unfold State.noticed
  split <;> simp [SameBut]

theorem State.noticed_rd {a : Nat} (hsticky : a ≠ regA pg 0x14) (hseq : a ≠ regA pg (0x20 + src / 4 * 4)) :
    (s.noticed pg src).rd a = s.rd a := by
  unfold State.noticed
  split
  · rw [State.bumpSeq_rd _ _ _ hseq]
  · rw [State.setEvtBit_rd (a := evtStickyA pg) _ _ _ hsticky, State.bumpSeq_rd _ _ _ hseq]

theorem State.noticed_sticky (hsrc : src < 32) (n : Nat) : (s.noticed pg src).sticky pg n = if n = src then true else s.sticky pg n := by
  unfold State.noticed
  split
  · next h =>
    rw [State.sticky_bumpSeq _ _ _ _ _ hsrc]
    split
    · next hn => rw [hn, h]
    · rfl
  · have hset := State.evtBit_setEvtBit (s.bumpSeq pg src) (evtStickyA pg) (m := n) true hsrc
    have hbump : (s.bumpSeq pg src).evtBit (evtStickyA pg) n = s.sticky pg n := State.sticky_bumpSeq s pg src pg n hsrc
    rw [State.sticky, hset, hbump]

theorem State.noticed_evtSeq (hsrc : src < 32) : (s.noticed pg src).evtSeq pg src = (s.evtSeq pg src + 1) % 256 := by
  unfold State.noticed
  split
  · exact State.evtSeq_bumpSeq _ _
  · rw [State.evtSeq_setSticky _ _ _ _ hsrc, State.evtSeq_bumpSeq]

theorem State.dueFor_sameBut (s : State) (pg src sev : Nat) : SameBut [.sys] s (s.dueFor pg src sev) := by
  unfold State.dueFor
  split <;> simp [SameBut]

theorem State.dueFor_rd (s : State) (pg src sev a : Nat) : (s.dueFor pg src sev).rd a = s.rd a := by
  unfold State.dueFor
  split
  · exact State.onSys_rd _ _ _
  · rfl

theorem State.dueFor_sys (s : State) (pg src sev : Nat) :
    (s.dueFor pg src sev).sys = { s.sys with due := s.sys.due ++ if 2 ≤ sev then [(pg, src, sev)] else [] } := by
  unfold State.dueFor
  split <;> simp

end

/-- An occurrence is raised on the state that BUF errors and MICROCODE_FAULT leave of their own block. -/
theorem State.doEventAssert_eq_raise {r s : State} {page src cell frame i : Nat} {t : PageTy} (hp : pageOf page = some (t, i))
    (hsrc : t.sources.testBit src = true) (hplain : t ≠ .slce → t ≠ .oeng ∨ src ≠ 22 ∨ r.ucState i ≠ 0 → s = r)
    (hslce : t = .slce → s = if r.srcHeld page then r else r.bufError i src cell frame)
    (hucode : t = .oeng → src = 22 → r.ucState i = 0 → s = r.setUcState i 2) :
    r.doEventAssert page src cell frame = s.raise page src := by
  by_cases ht : t = .slce
  · have hoeng : t ≠ .oeng := by rw [ht]; decide
    cases hheld : r.srcHeld page with
    | true => rw [State.doEventAssert_of_plain hp hsrc (.inr hheld) (.inl hoeng), hslce ht, if_pos hheld]
    | false => rw [State.doEventAssert_of_slice hp hsrc ht hheld, hslce ht, if_neg (by simp [hheld])]
  · by_cases huc : t ≠ .oeng ∨ src ≠ 22 ∨ r.ucState i ≠ 0
    · rw [State.doEventAssert_of_plain hp hsrc (.inl ht) huc, hplain ht huc]
    · simp only [ne_eq, not_or, Decidable.not_not] at huc
      obtain ⟨hoeng, h22, hruns⟩ := huc
      rw [State.doEventAssert_of_microcode hp hsrc hoeng h22 hruns, hucode hoeng h22 hruns]

/-- Settles O43: the occurrence is noticed and its severity action is due; the end of the command takes that action and no other. -/
theorem disabledEventLeavesNoRecord : Obligations.DisabledEventLeavesNoRecord := by
  unfold Obligations.DisabledEventLeavesNoRecord
  intro page src cell frame r s t i hp hsrc hplain hslce hucode hquiet hfree hwhole hmask hoff
  have hnone : s.sys.due = [] := hquiet
  obtain ⟨u, hu⟩ : ∃ u, u = (s.noticed page src).dueFor page src (s.evtSev page src) := ⟨_, rfl⟩
  have hraise : s.raise page src = u := by
    rw [State.raise_off s page src.isLt (by rw [hfree, hwhole]; rfl) hmask hoff, hu, State.noticed]
  have hrd : ∀ a, u.rd a = (s.noticed page src).rd a := fun a => by rw [hu, State.dueFor_rd]
  have hsys : u.sys = { s.sys with due := if 2 ≤ s.evtSev page src then [(page.val, src.val, s.evtSev page src)] else [] } := by
    rw [hu, State.dueFor_sys, (State.noticed_sameBut s page src).sys_eq (by decide), hnone, List.nil_append]
  have hdue : 2 ≤ s.evtSev page src → u.sys.due = [(page.val, src.val, s.evtSev page src)] := fun h => by rw [hsys]; exact if_pos h
  refine ⟨u, ?answer, ?same, ?others, ?regs, ?sticky, ?seq, fun n _ hn => ?otherSticky, fun h => ?mild, fun h => ?contain,
    fun h => ?fatal⟩
  case answer => rw [exec_eventAssert, State.doEventAssert_eq_raise hp hsrc hplain hslce hucode, hraise]
  case same =>
    exact hu ▸ ((State.noticed_sameBut s page src).mono (by decide)).trans ((State.dueFor_sameBut _ _ _ _).mono (by decide))
  case others => rw [hsys, ← hnone]
  case regs =>
    intro a ha
    simp only [List.mem_cons, List.not_mem_nil, or_false, not_or] at ha
    rw [hrd, State.noticed_rd ha.1 ha.2]
  case sticky => rw [State.sticky_of_rd (hrd _), State.noticed_sticky src.isLt, if_pos rfl]
  case seq => rw [State.evtSeq_of_rd (hrd _), State.noticed_evtSeq src.isLt]
  case otherSticky => rw [State.sticky_of_rd (hrd _), State.noticed_sticky src.isLt, if_neg hn]
  case mild => exact settle_of_quiet (by rw [hsys]; exact if_neg (by omega))
  case contain => rw [settle_of_one (hdue (by omega)), if_neg (by omega)]
  case fatal => rw [settle_of_one (hdue (by omega)), if_pos h]

end Sys2Proof.Machine

/-! SUPPORT. Writes of the severity words on a lit or a dark page, and contain actions whose target takes no reset (R382, R386, R418 to
R423). -/

namespace Sys2Proof.Machine

/-! ### Which severity words are taken (R420) -/

/-- R420 lets source `src` of page `pg` have the severity `sev`. -/
def sevAllowed (pg src sev : Nat) : Prop :=
  (sev ≠ 2 ∨ hasTarget pg src = true) ∧ (pg = fltcPage → src = 4 ∨ src = 5 → sev = 3)

theorem not_sevAllowed {pg src sev : Nat}
    (h : (sev = 2 ∧ hasTarget pg src = false) ∨ (pg = fltcPage ∧ (src = 4 ∨ src = 5) ∧ sev ≠ 3)) : ¬sevAllowed pg src sev := by
  rintro ⟨htarget, hfixed⟩
  rcases h with ⟨h2, hnone⟩ | ⟨hfltc, hsrc, h3⟩
  · rcases htarget with h | h
    · exact h h2
    · exact absurd (hnone.symm.trans h) Bool.false_ne_true
  · exact h3 (hfixed hfltc hsrc)

/-- EVT_SEVERITY has two words: at 0x48 for sources 0 to 15, at 0x4C for sources 16 to 31. -/
theorem sevWordOk_iff {page off lo i : Nat} {t : PageTy} (hp : pageOf page = some (t, i))
    (hword : (off = 0x48 ∧ lo = 0) ∨ (off = 0x4C ∧ lo = 16)) (v : Word) :
    sevWordOk page off v = true
      ↔ ∀ n < 16, t.sources.testBit (lo + n) = true → sevAllowed page (lo + n) (getBits v (2 * n) 2) := by
  have hlo : (if off = 0x48 then 0 else 16) = lo := by rcases hword with ⟨rfl, rfl⟩ | ⟨rfl, rfl⟩ <;> rfl
  simp only [sevWordOk, hp, hlo, List.all_eq_true, List.mem_range]
  refine forall₂_congr fun n _ => ?_
  cases t.sources.testBit (lo + n) <;> simp [sevAllowed, imp_iff_not_or, or_assoc]

/-! ### The write of a severity word (R382, R386) -/

section
variable {s : State} {page off i : Nat} {t : PageTy} {r : RegRow} (hoff : off = 0x48 ∨ off = 0x4C) (hp : pageOf page = some (t, i))
include hoff hp

/-- The fault collector holds the severities, so that the host's write takes effect on a dark page as on a lit one (R382). -/
theorem State.doRegisterWrite_severity (he : accessError page off = 0) (ht : t ≠ .msixTable) (hb : t ≠ .msixPba) (v : Word) :
    s.doRegisterWrite .host page off v = (s.taken .host page off v).hdrWrite page off v := by
  cases hdark : s.pageDark page with
  | true =>
    have hheld : hdrHeld off = true := by rcases hoff with rfl | rfl <;> decide
    simp only [State.doRegisterWrite, he, hdark, hheld, ne_eq, not_true_eq_false, Bool.and_self, if_false, if_true, State.taken]
  | false =>
    have hadmits : Admits s .host page off := ⟨hdark, by intro c p h; cases h⟩
    rw [State.doRegisterWrite_of_admits (.inl rfl) hadmits hp ht hb he, State.regWrite_hdr hp (by omega) (by omega)]

theorem State.hdrWrite_severity (hr : rowOf t off = some r) (v : Word) :
    s.hdrWrite page off v =
      if sevWordOk page off (v &&& BitVec.ofNat 32 r.wm) then
        (s.wr (regA page off) (v &&& BitVec.ofNat 32 r.wm)).setFlag fltcPage FLTC_FLTC_CFG_SEV_REFUSED false
      else s.setFlag fltcPage FLTC_FLTC_CFG_SEV_REFUSED true := by
  rcases hoff with rfl | rfl <;> simp [State.hdrWrite, hp, hr]

end

theorem State.taken_sameBut (s : State) (w : Who) (page off : Nat) (v : Word) : SameBut [.ctrs] s (s.taken w page off v) := by
  obtain ⟨k, hk⟩ := (s.accessHit w 2 page).countReserved_eq page off v
  have hcount : SameBut [.ctrs] (s.accessHit w 2 page) (s.taken w page off v) := by
    rw [State.taken, hk]
    exact State.withCtrs_sameBut _ k
  exact (s.accessHit_sameBut w 2 page).trans hcount

theorem State.taken_rd (s : State) (w : Who) (page off : Nat) (v : Word) (a : Nat) : (s.taken w page off v).rd a = s.rd a := by
  obtain ⟨-, -, -, -, hregs, -⟩ := s.taken_sameBut w page off v
  exact State.rd_of_regs_eq (hregs.resolve_left (by decide)) a

/-- A page whose registers have rows is not one of the MSI-X pages. -/
theorem rowOf_ne_msix {t : PageTy} {off : Nat} {r : RegRow} (hr : rowOf t off = some r) : t ≠ .msixTable ∧ t ≠ .msixPba := by
  refine ⟨?_, ?_⟩ <;> rintro rfl <;> cases hr

/-! ### Contain actions without a reset (R421, R423) -/

section
variable {s : State} {pg src : Nat}

theorem State.containAct_of_none (h : s.containTarget pg src = none) : s.containAct pg src = s.count fltcPage 0xA8 := by
  simp only [State.containAct, h]

theorem State.containAct_of_merged {k : Nat} (h : s.containTarget pg src = some k)
    (hk : (s.block k).resetting = true ∨ (s.block k).isolated = true ∨ s.islandRuns k = false) :
    s.containAct pg src = s.count fltcPage 0xA8 := by
  have hmerged : ((s.block k).resetting || (s.block k).isolated || !s.islandRuns k) = true := by
    simpa [or_assoc] using hk
  simp only [State.containAct, h, hmerged, if_true]

end

/-- A raised source of severity contain, alone in what is due, has its contain action taken at the end of the command (R418, R419). -/
theorem settle_raise_contain {s u : State} {page src : Nat} (hsrc : src < 32) (hquiet : Quiet s) (hfree : s.srcHeld page = false)
    (hwhole : s.host.broken.contains (page, src) = false) (hmask : s.guyMasked page src 0 = false) (hgap : s.evtSev hostPage 3 ≤ 1)
    (hsev : s.evtSev page src = 2) (hu : u = (s.raise page src).onSys fun y => { y with due := [] }) :
    settle (s.raise page src) = State.settleN 256 (u.containAct page src) := by
  have hnone : s.sys.due = [] := hquiet
  have hdue : (s.raise page src).sys.due = [(page, src, 2)] := by
    rw [State.raise_due_eq s page hsrc (by rw [hfree, hwhole]; rfl) hmask hgap, hnone, hsev]; rfl
  rw [settle_of_one hdue, if_neg (by decide), ← hu]

/-- Settles O45: the write reaches `State.hdrWrite` from a lit page as from a dark one, which takes the word where every source of the
page may have its code; and the one action due counts in CONTAIN_MERGED, after which none is due. -/
theorem severityWriteRefused : Obligations.SeverityWriteRefused := by
  unfold Obligations.SeverityWriteRefused
  refine ⟨?write, ?contain⟩
  case write =>
    intro page off v s t i lo r hquiet hword hp hr he
    have hoff : off.val = 0x48 ∨ off.val = 0x4C := hword.imp And.left And.left
    obtain ⟨htable, hpba⟩ := rowOf_ne_msix hr
    obtain ⟨x, hx⟩ : ∃ x, x = s.taken .host page off v := ⟨_, rfl⟩
    have hrd : ∀ a, x.rd a = s.rd a := fun a => by rw [hx, State.taken_rd]
    have hdue : x.sys.due = [] := by rw [hx, (s.taken_sameBut .host page off v).sys_eq (by decide)]; exact hquiet
    have hcfg : regA page off ≠ regA fltcPage FLTC_FLTC_CFG_SEV_REFUSED.off :=
      hdr_ne _ _ off.isLt (by decide) (by rcases hoff with h | h <;> rw [h] <;> decide)
    have hanswer : exec (.registerWrite .host page off v) s = .next (x.hdrWrite page off v) := by
      have hstill : (x.hdrWrite page off v).sys.due = [] := by
        rw [State.hdrWrite_severity hoff hp hr]
        split <;> simp [hdue]
      rw [exec_registerWrite, State.doRegisterWrite_severity hoff hp he htable hpba, ← hx, settle_of_quiet hstill]
    refine ⟨_, hanswer, fun ⟨n, hn, hsrc, hbad⟩ => ?refused, fun hgood => ?taken⟩
    case refused =>
      have hno : ¬sevWordOk page off (v &&& BitVec.ofNat 32 r.wm) = true :=
        fun h => not_sevAllowed hbad ((sevWordOk_iff hp hword _).mp h n hn hsrc)
      rw [State.hdrWrite_severity hoff hp hr, if_neg hno]
      refine ⟨fun a ha => ?_, State.flag_setFlag_self _ _ _ _ (by decide) rfl⟩
      rw [State.setFlag_rd_ne _ _ FLTC_FLTC_CFG_SEV_REFUSED _ (by simpa using ha), hrd]
    case taken =>
      rw [State.hdrWrite_severity hoff hp hr, if_pos ((sevWordOk_iff hp hword _).mpr hgood)]
      refine ⟨?_, State.flag_setFlag_self _ _ _ _ (by decide) rfl, fun a ha => ?_⟩
      · rw [State.setFlag_rd_ne _ _ FLTC_FLTC_CFG_SEV_REFUSED _ hcfg, State.rd_wr_self]
      · simp only [List.mem_cons, List.not_mem_nil, or_false, not_or] at ha
        rw [State.setFlag_rd_ne _ _ FLTC_FLTC_CFG_SEV_REFUSED _ ha.2, State.rd_wr_ne _ _ ha.1, hrd]
  case contain =>
    intro page src cell frame r s u t i hp hsrc hplain hslce hucode hquiet hfree hwhole hmask hgap hsev hu
    have hdone : (u.count fltcPage 0xA8).sys.due = [] := by rw [State.count_sys, hu]; rfl
    have hmerged : u.containAct page src = u.count fltcPage 0xA8 →
        exec (.eventAssert page src cell frame) r = .next (u.count fltcPage 0xA8) := fun h => by
      rw [exec_eventAssert, State.doEventAssert_eq_raise hp hsrc hplain hslce hucode,
        settle_raise_contain src.isLt hquiet hfree hwhole hmask hgap hsev hu, h, State.settleN_of_quiet _ _ hdone]
    exact ⟨fun hnone => hmerged (State.containAct_of_none hnone), fun k hk hstop => hmerged (State.containAct_of_merged hk hstop)⟩

end Sys2Proof.Machine

/-! SUPPORT. One step and every run: a step runs the front command on the queue's rest, always answers, and leaves the queue's rest. -/

namespace Sys2Proof.Machine

/-- Every arm of `exec` is a meaning that answers a next state: none stops the block. A command whose condition fails answers too, with
the state it found (log 17). -/
theorem exec_answers (c : Instr) (s : State) : ∃ t, exec c s = .next t := by
  cases c <;> exact ⟨_, rfl⟩

theorem step_answers (s : State) : ∃ t, step s = .next t := by
  cases hp : s.pending with
  | nil => exact ⟨s.tick, step_nil hp⟩
  | cons c r =>
    rw [step_cons hp]
    exact exec_answers c _

/-- Settles O31: `step` takes the command that stands in front. -/
theorem stepRunsFrontCommand : Obligations.StepRunsFrontCommand := by
  unfold Obligations.StepRunsFrontCommand
  intro c r s hp
  exact step_cons hp

/-- Settles O33, by induction on the length of the run: each step answers, whatever its state. That a command whose condition fails
answers the state it found, and does not stop, is log 17. -/
theorem everyStepAnswers : Obligations.EveryStepAnswers := by
  unfold Obligations.EveryStepAnswers
  intro s n
  induction n generalizing s with
  | zero => rfl
  | succ n ih =>
    obtain ⟨t, ht⟩ := step_answers s
    have hrun : run (n + 1) s = run n t := by rw [run, ht]
    rw [hrun]
    exact ih t

/-- Settles O34: a command keeps the queue of the state it acts on (`Kept.queue`), which is the rest behind it. -/
theorem stepKeepsQueueOrder : Obligations.StepKeepsQueueOrder := by
  unfold Obligations.StepKeepsQueueOrder
  intro s t hstep
  have hrest : s.stepFrom.pending = s.pending.tail := rfl
  rw [(step_kept hstep).queue, hrest]

end Sys2Proof.Machine

/-! SUPPORT. The non-volatile store: the update and object windows, diagnostics, checkpoint copies, the journal and the refresh scan, each
where it acts and what it does there (R448, R450, R451, R455 to R460, R487). -/

namespace Sys2Proof.Machine

/-! ### The commands over their operations -/

theorem exec_updateBegin (k : Fin 2) (s : State) : exec (.updateBegin k) s =
    .next (settle (s.turnRow .host .nvst nvstPage 0x100 (1 + 8 * k) fun s => s.doUpdateBegin k)) := by rfl
theorem exec_updateWrite (k : Fin 2) (i : BitVec 16) (s : State) : exec (.updateWrite k i) s =
    .next (settle (s.turnRow .host .nvst nvstPage 0x100 (2 + 8 * k + 16 * i.toNat) fun s => s.doUpdateWrite k i.toNat)) := by rfl
theorem exec_updateFinish (k : Fin 2) (s : State) : exec (.updateFinish k) s =
    .next (settle (s.turnRow .host .nvst nvstPage 0x100 (3 + 8 * k) fun s => s.doUpdateFinish k)) := by rfl
theorem exec_updateAbandon (k : Fin 2) (s : State) : exec (.updateAbandon k) s =
    .next (settle (s.turnRow .host .nvst nvstPage 0x100 (4 + 8 * k) fun s => s.doUpdateAbandon k)) := by rfl
theorem exec_updateConfirm (s : State) : exec .updateConfirm s =
    .next (settle (s.turnRow .host .nvst nvstPage 0x100 5 fun s => s.doUpdateConfirm)) := by rfl
theorem exec_updateSelect (k : Fin 2) (s : State) : exec (.updateSelect k) s =
    .next (settle (s.turnRow .host .nvst nvstPage 0x100 (6 + 8 * k) fun s => s.doUpdateSelect k)) := by rfl
theorem exec_objectWrite (s : State) : exec .objectWrite s =
    .next (settle (s.turnRow .host .nvst nvstPage 0x110 1 fun s => s.doObjectWrite)) := by rfl
theorem exec_objectRead (s : State) : exec .objectRead s =
    .next (settle (s.turnRow .host .nvst nvstPage 0x110 2 fun s => s.doObjectRead)) := by rfl
theorem exec_objectDelete (s : State) : exec .objectDelete s =
    .next (settle (s.turnRow .host .nvst nvstPage 0x110 3 fun s => s.doObjectDelete)) := by rfl
theorem exec_nvCommandDone (v : Bool) (s : State) : exec (.nvCommandDone v) s = .next (settle (s.doNvCommandDone v)) := by rfl
theorem exec_diagRun (i : Fin 64) (s : State) : exec (.diagRun i) s =
    .next (settle (s.nowRow .host nvstPage 0x130 fun s => s.doDiagRun i)) := by rfl
theorem exec_diagDone (ok : Bool) (s : State) : exec (.diagDone ok) s = .next (settle (s.doDiagDone ok)) := by rfl
theorem exec_nvCkptCopyDone (s : State) : exec .nvCkptCopyDone s = .next (settle s.doNvCkptCopyDone) := by rfl
theorem exec_journalPageProgram (s : State) : exec .journalPageProgram s = .next (settle s.doJournalPageProgram) := by rfl
theorem exec_nvRefreshScan (page : BitVec 20) (n : Nat) (old retired : Bool) (s : State) :
    exec (.nvRefreshScan page n old retired) s = .next (settle (s.doNvRefreshScan n old retired)) := by rfl

/-! ### A window command starts (R458 to R460, R487) -/

/-- A window command is under way: BUSY is 1 and REFUSED 0 (R460). -/
def State.nvStarted (s : State) (c : NvCmd) : State :=
  ((s.onNv fun n => { n with cmds := n.cmds ++ [c] }).setFld nvstPage (nvBusyF c.obj) 1).nvRefused false

section
variable (s : State) (j : Map Nat)

@[simp] theorem State.onNv_withCtrs (f : Nv → Nv) : (s.withCtrs j).onNv f = (s.onNv f).withCtrs j := (rfl)
@[simp] theorem State.onBoot_withCtrs (f : Boot → Boot) : (s.withCtrs j).onBoot f = (s.onBoot f).withCtrs j := (rfl)
@[simp] theorem State.setRst_withCtrs (i r : Nat) : (s.withCtrs j).setRst i r = (s.setRst i r).withCtrs j := (rfl)
@[simp] theorem State.nvRefused_withCtrs (b : Bool) : (s.withCtrs j).nvRefused b = (s.nvRefused b).withCtrs j :=
  s.setFlag_withCtrs j _ _ b
@[simp] theorem State.nvRefused_sys (b : Bool) : (s.nvRefused b).sys = s.sys := s.setFlag_sys _ _ b
@[simp] theorem State.nvStarted_withCtrs (c : NvCmd) : (s.withCtrs j).nvStarted c = (s.nvStarted c).withCtrs j := by
  simp only [State.nvStarted, State.onNv_withCtrs, State.setFld_withCtrs, State.nvRefused_withCtrs]
@[simp] theorem State.nvStarted_due (c : NvCmd) : (s.nvStarted c).sys.due = s.sys.due := by
  rw [State.nvStarted, State.nvRefused_sys, State.setFld_sys]
  rfl

end

/-- The window `obj` takes a command: none of its own is under way, and the store is mounted and not protected (R452, R487). The other
window does not matter (log 128). -/
structure State.NvIdle (s : State) (obj : Bool) : Prop where
  free : s.flag nvstPage (nvBusyF obj) = false
  none : (s.sys.nv.cmds.any fun d => d.obj == obj) = false
  power : s.sys.nv.powerFail = false
  mounted : s.sys.nv.mounted = true

section
variable {s : State} {c : NvCmd}

theorem State.nvStart_of_idle (hidle : s.NvIdle c.obj) : s.nvStart false c = s.nvStarted c := by
  obtain ⟨hfree, hnone, hpower, hmounted⟩ := hidle
  simp [State.nvStart, State.nvStarted, hfree, hnone, hpower, hmounted]

/-- A window command whose own condition holds starts, counters of events aside. -/
theorem State.nvCommand_answers {off v : Nat} {run : State → State} (hturn : TakesTurn s .host nvstPage off) (hquiet : Quiet s)
    (hidle : s.NvIdle c.obj) (hrun : ∀ j, run (s.withCtrs j) = (s.withCtrs j).nvStart false c) :
    ∃ k, (Host.Outcome.next (settle (s.turnRow .host .nvst nvstPage off v run)) : Res) = .next ((s.nvStarted c).withCtrs k) := by
  have hquiet' : Quiet (s.nvStarted c) := (s.nvStarted_due c).trans hquiet
  refine State.turnRow_answers hturn (by decide) hquiet' fun j => ⟨j, ?_⟩
  have hidle' : (s.withCtrs j).NvIdle c.obj := ⟨hidle.free, hidle.none, hidle.power, hidle.mounted⟩
  rw [hrun, State.nvStart_of_idle hidle', State.nvStarted_withCtrs]

end

/-! ### Each command's own condition (R458, R459) -/

section
variable {s : State} {k : Nat}

theorem State.doUpdateBegin_of_spare (hrun : s.runningSlot ≠ some k) (htrial : s.trialOpen = false) :
    s.doUpdateBegin k = s.nvStart false (updCmd 1 k 0 []) := by
  rw [State.doUpdateBegin, beq_false_of_ne hrun, htrial, Bool.false_or]

/-- A page's place is free, and a host requester holds a buffer of 4 KB or more. -/
theorem State.doUpdateWrite_of_receiving {i h : Nat} (hh : h = s.fld nvstPage NVST_UPD_HANDLE_HANDLE) (hstate : (s.nvSlot k).state = 1)
    (hi : i ≠ 0) (hnew : ((s.nvSlot k).pages.any fun e => e.1 == i) = false) (hbuf : s.hostBuf h = true) (hpool : 2 ≤ hPool h) :
    s.doUpdateWrite k i = s.nvStart false (updCmd 2 k i (s.svc.poolMem.read (handleAt h) 4096)) := by
  have hgood : ((s.nvSlot k).state != 1 || i == 0 || ((s.nvSlot k).pages.any fun e => e.1 == i) || !s.hostBuf h ||
      decide (hPool h < 2)) = false := by
    simp [hnew, hbuf, hstate, hi, Nat.not_lt.mpr hpool]
  rw [State.doUpdateWrite, ← hh, hgood]

theorem State.doUpdateFinish_of_receiving (hstate : (s.nvSlot k).state = 1) :
    s.doUpdateFinish k = s.nvStart false (updCmd 3 k 0 []) := by
  rw [State.doUpdateFinish, hstate, bne_self_eq_false]

theorem State.doUpdateAbandon_of_receiving (hstate : (s.nvSlot k).state = 1) :
    s.doUpdateAbandon k = s.nvStart false (updCmd 4 k 0 []) := by
  rw [State.doUpdateAbandon, hstate, bne_self_eq_false]

theorem State.doUpdateConfirm_of_trial (hrun : s.runningSlot = some k) (hstate : (s.nvSlot k).state = 2) :
    s.doUpdateConfirm = s.nvStart false (updCmd 5 s.sys.boot.slot 0 []) := by
  simp only [State.doUpdateConfirm, hrun, hstate, bne_self_eq_false]

theorem State.doUpdateSelect_of_previous (hstate : (s.nvSlot k).state = 4) :
    s.doUpdateSelect k = s.nvStart false (updCmd 6 k 0 []) := by
  rw [State.doUpdateSelect, hstate, bne_self_eq_false]

theorem State.doObjectWrite_of_held {h n : Nat} (hh : h = s.objHandle) (hn : n = s.fld nvstPage NVST_OBJ_LEN_LENGTH)
    (hid : idGood s.objId = true) (hbuf : s.hostBuf h = true) (hsize : n ≤ poolSize (hPool h)) :
    s.doObjectWrite = s.nvStart false (objCmd 1 s.objId 0 h (s.svc.poolMem.read (handleAt h) n)) := by
  have hgood : (!idGood s.objId || !s.hostBuf h || decide (poolSize (hPool h) < n)) = false := by simp [hid, hbuf, hsize]
  rw [State.doObjectWrite, ← hh, ← hn, hgood]

/-- An object, or with ID 0xFFFF_FFFE a page of the journal (R456). -/
theorem State.doObjectRead_of_held {h : Nat} (hh : h = s.objHandle) (hid : idGood s.objId = true ∨ s.objId = 0xFFFFFFFE)
    (hbuf : s.hostBuf h = true) :
    s.doObjectRead = s.nvStart false (objCmd 2 s.objId (s.fld nvstPage NVST_OBJ_INDEX_INDEX) h []) := by
  have hgood : (!(idGood s.objId || s.objId == 0xFFFFFFFE) || !s.hostBuf h) = false := by
    rcases hid with hid | hid <;> simp [hid, hbuf]
  rw [State.doObjectRead, ← hh, hgood]

theorem State.doObjectDelete_of_good (hid : idGood s.objId = true) : s.doObjectDelete = s.nvStart false (objCmd 3 s.objId 0 0 []) := by
  rw [State.doObjectDelete, hid, Bool.not_true]

end

/-! ### The oldest window command is done (R451, R458, R459) -/

section
variable {s : State} {c : NvCmd} {rest : List NvCmd} {v : Bool} (hcmds : s.sys.nv.cmds = c :: rest)
include hcmds

/-- Of the update window FINISH alone asks that what it wrote reads back right. -/
theorem State.doNvCommandDone_update (hobj : c.obj = false) (hread : c.op ≠ 3 ∨ v = true) :
    s.doNvCommandDone v = (s.updateDone c).showNv := by
  have hpass : (c.op == 3 && !v) = false := by rcases hread with h | h <;> simp [h]
  simp [State.doNvCommandDone, hcmds, hobj, hpass]

/-- Of the object window all but a read ask it. -/
theorem State.doNvCommandDone_object (hobj : c.obj = true) (hread : c.op = 2 ∨ v = true) :
    s.doNvCommandDone v = (s.objectDone c).showNv := by
  have hpass : (c.op != 2 && !v) = false := by rcases hread with h | h <;> simp [h]
  simp [State.doNvCommandDone, hcmds, hobj, hpass]

/-- A new copy that does not read back right. -/
theorem State.doNvCommandDone_unverified (hasks : if c.obj then c.op ≠ 2 else c.op = 3) :
    s.doNvCommandDone false = (s.verifyFailed c).showNv := by
  have hchecks : (if c.obj then c.op != 2 else c.op == 3) = true := by
    split_ifs at hasks ⊢ with hobj
    · exact bne_iff_ne.mpr hasks
    · exact beq_iff_eq.mpr hasks
  simp [State.doNvCommandDone, hcmds, hchecks]

end

section
variable {s : State} {c : NvCmd}

/-- What each command of the update window does, by its number (R458). -/
theorem State.updateDone_cases (s : State) (c : NvCmd) :
    (c.op = 1 → s.updateDone c = ((s.nvErase.setNvSlot c.slot { NvSlot.empty with state := 1 }).journalNote 4).nvDone false 0)
    ∧ (c.op = 2 → s.updateDone c =
      (s.setNvSlot c.slot { s.nvSlot c.slot with pages := mset [] (s.nvSlot c.slot).pages c.idx c.data }).nvDone false 0)
    ∧ (c.op = 3 → s.updateDone c = s.finishDone c.slot)
    ∧ (c.op = 4 → s.updateDone c = ((s.setNvSlot c.slot NvSlot.empty).journalNote 4).nvDone false 0)
    ∧ (c.op = 5 → s.updateDone c =
      (((s.each [0, 1] fun s j => if j ≠ c.slot && (s.nvSlot j).state = 3 then s.setSlotState j 4 else s).onBoot fun b => { b with
        trialEnd := none }).setSlotState c.slot 3).nvDone false 0)
    ∧ (c.op = 6 → s.updateDone c = (s.setSlotState c.slot 2).nvDone false 0) := by
  refine ⟨fun h => ?_, fun h => ?_, fun h => ?_, fun h => ?_, fun h => ?_, fun h => ?_⟩ <;> simp only [State.updateDone, h]

theorem State.verifyFailed_update (hobj : c.obj = false) :
    s.verifyFailed c = ((s.setNvSlot c.slot NvSlot.empty).journalNote 4).nvDone false 4 := by
  rw [State.verifyFailed, hobj, if_neg Bool.false_ne_true]

theorem State.verifyFailed_object (hobj : c.obj = true) : s.verifyFailed c = s.nvErase.nvDone true 4 := by
  rw [State.verifyFailed, hobj, if_pos rfl]

/-! What each command of the object window does (R459): RESULT 2 is too few spare blocks, RESULT 1 an object that is absent. -/

theorem State.objectDone_write (hop : c.op = 1) :
    s.objectDone c = if s.sys.nv.spare < 1024 then s.nvDone true 2 else (s.objCommit c.id c.data false).nvDone true 0 := by
  simp only [State.objectDone, hop]

theorem State.objectDone_read {o : Obj} (hop : c.op = 2) (hid : c.id ≠ 0xFFFFFFFE) (hobj : mget none s.sys.nv.objs c.id = some o)
    (hthere : o.deleted = false) : s.objectDone c = s.objAnswer c.slot o.body := by
  simp only [State.objectDone, hop, hobj, if_neg hid, hthere, Bool.false_eq_true, if_false]

theorem State.objectDone_read_journal {b : List Byte} (hop : c.op = 2) (hid : c.id = 0xFFFFFFFE) (hpage : s.journalPage c.idx = some b) :
    s.objectDone c = s.objAnswer c.slot b := by
  simp only [State.objectDone, hop, if_pos hid, hpage]

theorem State.objectDone_read_absent (hop : c.op = 2) (hid : c.id ≠ 0xFFFFFFFE) (habsent : mget none s.sys.nv.objs c.id = none) :
    s.objectDone c = s.nvDone true 1 := by
  simp only [State.objectDone, hop, if_neg hid, habsent]

theorem State.objectDone_delete {o : Obj} (hop : c.op = 3) (hobj : mget none s.sys.nv.objs c.id = some o) (hthere : o.deleted = false)
    (hspare : 1024 ≤ s.sys.nv.spare) : s.objectDone c = (s.objCommit c.id [] true).nvDone true 0 := by
  simp only [State.objectDone, hop, hobj, hthere, Bool.false_eq_true, if_false, if_neg (Nat.not_lt.mpr hspare)]

theorem State.objectDone_delete_absent (hop : c.op = 3) (habsent : mget none s.sys.nv.objs c.id = none) :
    s.objectDone c = s.nvDone true 1 := by
  simp only [State.objectDone, hop, habsent]

end

/-! ### Diagnostics (R450) -/

section
variable {s : State} {i : Nat}

theorem State.doDiagRun_of_bivouac (hbivouac : s.sys.boot.bivouac = true) (hi : i ≤ 50) (hnone : s.sys.boot.diag = none) :
    s.doDiagRun i = ((((s.onBoot fun b => { b with diag := some i }).setRst i 0).nvRefused false).setFld nvstPage
      NVST_DIAG_STATUS_RESULT 1).setFld nvstPage NVST_DIAG_STATUS_ISLAND i := by
  simp [State.doDiagRun, hbivouac, hi, hnone]

theorem State.doDiagDone_of_running (ok : Bool) (hdiag : s.sys.boot.diag = some i) :
    s.doDiagDone ok = ((s.onBoot fun b => { b with diag := none }).setRst i 1).setFld nvstPage NVST_DIAG_STATUS_RESULT
      (if ok then 2 else 3) := by
  simp only [State.doDiagDone, hdiag]

/-! ### Checkpoint copies, the journal and the refresh scan (R455 to R457) -/

theorem State.doNvCkptCopyDone_of_copying {k : Ckpt} (hcopy : s.sys.nv.ckptCopy = some (i, k)) :
    s.doNvCkptCopyDone = (s.nvErase.onNv fun n => { n with ckpt := n.ckpt.set i k, ckptCopy := none }).countRaise nvstPage 0xD8 6 := by
  simp only [State.doNvCkptCopyDone, hcopy]

/-- The journal holds 65,536 pages; past them its oldest block of 64 is erased. -/
theorem State.doJournalPageProgram_of_due {u : State} (hpower : s.sys.nv.powerFail = false) (hmounted : s.sys.nv.mounted = true)
    (hopen : s.sys.nv.openPage ≠ []) (hdue : 126 ≤ s.sys.nv.openPage.length ∨ s.sys.nv.openAt + nsPerSec ≤ s.now)
    (hu : u = s.onNv fun n => { n with
      journal := n.openPage.take 126 :: n.journal, openPage := n.openPage.drop 126, openAt := s.now, journalSeq := n.journalSeq + 1 }) :
    s.doJournalPageProgram = if 65536 ≤ s.sys.nv.journal.length then
      ((u.onNv fun n => { n with journal := n.journal.take (n.journal.length - 64) }).nvErase).raise nvstPage 7 else u := by
  have hgo : (s.sys.nv.powerFail || !s.sys.nv.mounted || s.sys.nv.openPage.isEmpty ||
      (decide (s.sys.nv.openPage.length < 126) && decide (s.now < s.sys.nv.openAt + nsPerSec))) = false := by
    have hempty : s.sys.nv.openPage.isEmpty = false := by simp [hopen]
    rcases hdue with h | h <;> simp [hpower, hmounted, hempty, Nat.not_lt.mpr h]
  rw [State.doJournalPageProgram, hgo, if_neg Bool.false_ne_true, State.programJournal]
  rw [← hu]
  simp only [Nat.lt_add_one_iff]

/-- `u`: what the scan does for the page; a retired block is one spare block less. -/
theorem State.doNvRefreshScan_of_mounted {u : State} (n : Nat) (old retired : Bool) (hpower : s.sys.nv.powerFail = false)
    (hmounted : s.sys.nv.mounted = true)
    (hu : u = if 40 < n then s.nvErase.countRaise nvstPage 0xC0 0 else if old then s.nvErase else s) :
    s.doNvRefreshScan n old retired = (if retired then
      (if (u.onNv fun x => { x with spare := u.sys.nv.spare - 1 }).sys.nv.spare < 1024
        then (u.onNv fun x => { x with spare := u.sys.nv.spare - 1 }).raise nvstPage 2
        else u.onNv fun x => { x with spare := u.sys.nv.spare - 1 }) else u).showNv := by
  have hgo : (s.sys.nv.powerFail || !s.sys.nv.mounted) = false := by simp [hpower, hmounted]
  rw [State.doNvRefreshScan, hgo, if_neg Bool.false_ne_true]
  dsimp only
  rw [← hu]

end

/-- Settles O29: a window command is its operation on the state let in, whose own condition leaves `State.nvStart` to start it; every
other command is its operation, and the operation's lemma for the case at hand gives the answer. That the two windows run side by side and
that what was written reads back right is an operand is log 128; how high an erase count rises is log 82, and the values of a slot header
are log 84. -/
theorem storeCommandsComplete : Obligations.StoreCommandsComplete := by
  unfold Obligations.StoreCommandsComplete
  refine ⟨?update, ?object, ?done, ?diagRun, ?diagDone, ?copy, ?journal, ?refresh⟩
  case update =>
    intro k i s go hturn hquiet hnone hpower hmounted hfree hgo
    have hgo : ∀ c, c.obj = false → go c = s.nvStarted c := fun c hc => by
      simp only [hgo, State.nvStarted, hc, nvBusyF, Bool.false_eq_true, if_false]
    have hidle : s.NvIdle false := ⟨hfree, hnone, hpower, hmounted⟩
    refine ⟨fun hrun htrial => ?begin, fun h hh hstate hi hnew hbuf hpool => ?write, fun hstate => ⟨?finish, ?abandon⟩,
      fun j hrun hstate => ?confirm, fun hstate => ?select⟩
    case begin =>
      rw [exec_updateBegin, hgo _ rfl]
      exact State.nvCommand_answers hturn hquiet hidle fun _ => State.doUpdateBegin_of_spare hrun htrial
    case write =>
      rw [exec_updateWrite, hgo _ rfl]
      have hi' : i.toNat ≠ 0 := fun h0 => hi (BitVec.eq_of_toNat_eq h0)
      exact State.nvCommand_answers hturn hquiet hidle fun _ => State.doUpdateWrite_of_receiving hh hstate hi' hnew hbuf hpool
    case finish =>
      rw [exec_updateFinish, hgo _ rfl]
      exact State.nvCommand_answers hturn hquiet hidle fun _ => State.doUpdateFinish_of_receiving hstate
    case abandon =>
      rw [exec_updateAbandon, hgo _ rfl]
      exact State.nvCommand_answers hturn hquiet hidle fun _ => State.doUpdateAbandon_of_receiving hstate
    case confirm =>
      rw [exec_updateConfirm, hgo _ rfl]
      exact State.nvCommand_answers hturn hquiet hidle fun _ => State.doUpdateConfirm_of_trial hrun hstate
    case select =>
      rw [exec_updateSelect, hgo _ rfl]
      exact State.nvCommand_answers hturn hquiet hidle fun _ => State.doUpdateSelect_of_previous hstate
  case object =>
    intro s go h n hturn hquiet hnone hpower hmounted hfree hgo hh hn
    have hgo : ∀ c, c.obj = true → go c = s.nvStarted c := fun c hc => by
      simp only [hgo, State.nvStarted, hc, nvBusyF, if_true]
    have hidle : s.NvIdle true := ⟨hfree, hnone, hpower, hmounted⟩
    refine ⟨fun hid hbuf hsize => ?write, fun hid hbuf => ?read, fun hid => ?delete⟩
    case write =>
      rw [exec_objectWrite, hgo _ rfl]
      exact State.nvCommand_answers hturn hquiet hidle fun _ => State.doObjectWrite_of_held hh hn hid hbuf hsize
    case read =>
      rw [exec_objectRead, hgo _ rfl]
      exact State.nvCommand_answers hturn hquiet hidle fun _ => State.doObjectRead_of_held hh hid hbuf
    case delete =>
      rw [exec_objectDelete, hgo _ rfl]
      exact State.nvCommand_answers hturn hquiet hidle fun _ => State.doObjectDelete_of_good hid
  case done =>
    intro s v c rest hcmds
    rw [exec_nvCommandDone]
    refine ⟨fun hobj => ?update, fun hobj => ?object, fun hobj hop hv => ?unverifiedImage, fun hobj hop hv => ?unverifiedObject⟩
    case update =>
      obtain ⟨hbegin, hwrite, hfinish, habandon, hconfirm, hselect⟩ := State.updateDone_cases s c
      have hdone : c.op ≠ 3 ∨ v = true → s.doNvCommandDone v = (s.updateDone c).showNv := State.doNvCommandDone_update hcmds hobj
      refine ⟨fun hop => ?_, fun hop => ?_, fun hop hv => ?_, fun hop => ?_, fun hop => ?_, fun hop => ?_⟩
      · rw [hdone (.inl (by omega)), hbegin hop]
      · rw [hdone (.inl (by omega)), hwrite hop]
      · rw [hdone (.inr hv), hfinish hop]
      · rw [hdone (.inl (by omega)), habandon hop]
      · rw [hdone (.inl (by omega)), hconfirm hop]
      · rw [hdone (.inl (by omega)), hselect hop]
    case object =>
      have hdone : c.op = 2 ∨ v = true → s.doNvCommandDone v = (s.objectDone c).showNv := State.doNvCommandDone_object hcmds hobj
      refine ⟨fun hop hv hfew => ?_, fun hop hv hspare => ?_, fun o hop hid hobject hthere => ?_, fun b hop hid hpage => ?_,
        fun hop hid habsent => ?_, fun o hop hv hobject hthere hspare => ?_, fun hop hv habsent => ?_⟩
      · rw [hdone (.inr hv), State.objectDone_write hop, if_pos hfew]
      · rw [hdone (.inr hv), State.objectDone_write hop, if_neg (Nat.not_lt.mpr hspare)]
      · rw [hdone (.inl hop), State.objectDone_read hop hid hobject hthere]
      · rw [hdone (.inl hop), State.objectDone_read_journal hop hid hpage]
      · rw [hdone (.inl hop), State.objectDone_read_absent hop hid habsent]
      · rw [hdone (.inr hv), State.objectDone_delete hop hobject hthere hspare]
      · rw [hdone (.inr hv), State.objectDone_delete_absent hop habsent]
    case unverifiedImage =>
      rw [hv, State.doNvCommandDone_unverified hcmds (by simpa [hobj] using hop), State.verifyFailed_update hobj]
    case unverifiedObject =>
      rw [hv, State.doNvCommandDone_unverified hcmds (by simpa [hobj] using hop), State.verifyFailed_object hobj]
  case diagRun =>
    intro i s hadmits hquiet hbivouac hi hnone
    rw [exec_diagRun]
    refine State.nowRow_answers hadmits (by simp only [Quiet, State.setFld_sys, State.nvRefused_sys]; exact hquiet) fun j => ?_
    rw [State.doDiagRun_of_bivouac (s := s.withCtrs j) hbivouac hi hnone]
    simp only [State.onBoot_withCtrs, State.setRst_withCtrs, State.nvRefused_withCtrs, State.setFld_withCtrs]
  case diagDone =>
    intro ok s i hquiet hdiag
    rw [exec_diagDone, State.doDiagDone_of_running ok hdiag, settle_of_quiet (by rw [State.setFld_sys]; exact hquiet)]
  case copy =>
    intro s i k hcopy
    rw [exec_nvCkptCopyDone, State.doNvCkptCopyDone_of_copying hcopy]
  case journal =>
    intro s u hpower hmounted hopen hdue hu
    rw [exec_journalPageProgram, State.doJournalPageProgram_of_due hpower hmounted hopen hdue hu]
    exact ⟨fun hroom => by rw [if_neg (Nat.not_le.mpr hroom)], fun hfull => by rw [if_pos hfull]⟩
  case refresh =>
    intro page n old s u hpower hmounted hu
    have hscan := fun retired => State.doNvRefreshScan_of_mounted n old retired hpower hmounted hu
    refine ⟨?kept, fun v hv => ⟨fun hfew => ?few, fun hspare => ?spare⟩⟩
    case kept => rw [exec_nvRefreshScan, hscan, if_neg Bool.false_ne_true]
    case few => rw [exec_nvRefreshScan, hscan, ← hv, if_pos rfl, if_pos hfew]
    case spare => rw [exec_nvRefreshScan, hscan, ← hv, if_pos rfl, if_neg (Nat.not_lt.mpr hspare)]

end Sys2Proof.Machine
